-- ==== Sys2Proof/Word.lean ====
section
/-!
DEFINITION. The word types of the HG1024: a byte and a 32-bit register word (R2, R4).
-/
namespace Sys2Proof

/-- One byte of a descriptor, a cell, a record or host memory. -/
abbrev Byte := BitVec 8

/-- One 32-bit register word as software reads and writes it (R4, R325). -/
abbrev Word := BitVec 32

end Sys2Proof
end

