-- ==== Sys2Proof/Syntax.lean ====
section
/-!
DEFINITION. The commands of the block: one constructor per row of the manual's table of operations and events, with what
each carries. A host command carries the ring it was fetched from and its TAG; an event carries what the outside world
shows the device at that moment (a measured value, a received frame, a pin).
-/
namespace Sys2Proof

/-- A host command's own header: the command ring and TAG (R331), whether host memory answers its reads and writes
without error or poison (R339 ADDRESS_ERROR), and whether its completion entry can be written (R349). -/
structure Cmd where
  ring : Nat
  tag : Nat
  hostOk : Bool := true
  cplOk : Bool := true
deriving DecidableEq, Repr

/-- A commit message (R94). -/
structure CommitMsg where
  kind : Nat := 0
  late : Bool := false
  dev : Nat := 0
  page : Nat := 0
  actFi : Nat := 0
  dom : Nat := 0
  rate : Nat := 0
  phase : Nat := 0
  stamp : Nat := 0
  flow : Nat := 0
deriving DecidableEq, Repr

/-- A pair message (R355). -/
structure PairMsg where
  kind : Nat := 0
  state : Nat := 0
  home : Bool := false
  diverged : Bool := false
  ready : Bool := false
  fenced : Bool := false
  path : Nat := 0
  gen : Nat := 0
  seq : Nat := 0
  ackSeq : Nat := 0
  jseq : Nat := 0
  stamp : Nat := 0
  fi : Nat := 0
  domain : Nat := 0
deriving DecidableEq, Repr

/-- An image as the ROM reads it from a flash slot or from host memory (R422): its bytes from offset 0, of which those past the
end read erased; whether SIG and COSIG verify under the keys of its KEYS block (R423); and the offset at which reading failed,
if it did. -/
structure SlotImage where
  bytes : List Byte := []
  sigOk : Bool := false
  cosigOk : Bool := false
  readErr : Option Nat := none
deriving DecidableEq, Repr

/-- A HELLO (R126). -/
structure Hello where
  dev : Nat := 0
  link : Nat := 0
  role : Nat := 0
  quiet : Bool := false
  uid : Nat := 0
deriving DecidableEq, Repr

/-- A TIME cell as received (R128): its cycle number, the neighbour's stamp of the last TIME cell it received, the
neighbour's mode and hop count, and this device's own stamp of the cell's arrival. -/
structure TimeMsg where
  cycle : Nat := 0
  stamp : Nat := 0
  mode : Nat := 0
  hops : Nat := 15
  arrived : Nat := 0
deriving DecidableEq, Repr

/-- A LINK_NOTICE (R125). -/
structure Notice where
  dev : Nat := 0
  link : Nat := 0
  st : Nat := 0
  peer : Nat := 0x3FF
  peerLink : Nat := 0xFF
  role : Nat := 0
  boot : Nat := 0
  nseq : Nat := 0
  uid : Nat := 0
deriving DecidableEq, Repr

/-- A ROUTE_CHECK or ROUTE_RESULT (R142). -/
structure RouteMsg where
  feeder : Nat := 0
  dest : Nat := 0
  hop : Nat := 0
  essence : Nat := 0
  format : Nat := 0
  colour : Nat := 0
  rate : Nat := 0
  domain : Nat := 0
  n : Nat := 0
  phase : Nat := 0
  posCrc : Nat := 0
  b : Nat := 0
  srcTerm : Nat := 0
  terms : List Nat := []
deriving DecidableEq, Repr

/-- What a read of stored essence meets on its way to a platform, classroom or port (R81, R389, R392, R111): an
uncorrectable word, a cell whose CRC fails, a signature that does not match. -/
structure ReadFault where
  ecc : Bool := false
  crc : Bool := false
  sig : Bool := false
  /-- A word read with one bit corrected. -/
  corrected : Bool := false
  /-- Data of the frame store or delay store returned poisoned (R309). -/
  poison : Bool := false
  bank : Nat := 0
  row : Nat := 0
  /-- Of a processed flow's item: the input, and the source line, whose read meets it. -/
  inp : Nat := 0
  line : Nat := 0
deriving DecidableEq, Repr

/-- What a memory read meets (R307 to R310). -/
structure MemFault where
  /-- Corrected positions. -/
  corrected : List Nat := []
  uncorrectable : Bool := false
deriving DecidableEq, Repr

/-- What an SDI receiver measures at a frame start (R161 to R164). -/
structure SdiFrame where
  /-- Instant of the frame start on the system counter. -/
  at_ : Nat := 0
  /-- Format and colour signalled, and whether a VPID is present, its words and Level B mapping. -/
  format : Nat := 0xFFFF
  colour : Nat := 0
  vpidHere : Bool := false
  vpid : Nat := 0
  levelB : Bool := false
  /-- The serial data arrive inverted (R160). -/
  inverted : Bool := false
deriving DecidableEq, Repr

/-- An ancillary packet found in a line: its stream (0 luma, 1 chroma), horizontal offset and words from DID through checksum
(R166). -/
structure AncPacket where
  stream : Nat
  hoffset : Nat
  words : List Nat
deriving DecidableEq, Repr

/-- An audio control packet: its group, whether it shows asynchronous audio, its rate in Hz and its active channels (R164). -/
structure SdiControl where
  group : Nat
  async_ : Bool
  rate : Nat
  active : Nat
deriving DecidableEq, Repr

/-- What an SDI receiver takes from one line (R161, R165 to R167). -/
structure SdiLine where
  /-- Interface line number, from 1; which of the lines of the single picture that it carries this is; and its active
  samples. -/
  ifLine : Nat := 1
  sub : Nat := 0
  bytes : List Byte := []
  trsBad : Bool := false
  /-- The data stream whose line CRC failed. -/
  crcBad : Option Nat := none
  /-- Ancillary packets. -/
  anc : List AncPacket := []
  /-- How many audio packets a BCH code corrected, and the groups of those with an uncorrectable error (R167). -/
  audioFixed : Nat := 0
  audioBad : List Nat := []
  control : List SdiControl := []
  /-- Embedded samples: port channel, instant of the sample, word. -/
  audio : List (Nat × Nat × Nat) := []
deriving DecidableEq, Repr

/-- What an Ethernet receiver finds in a frame beside its bytes (R184, R389, R196, R203). -/
structure EthFault where
  fcs : Bool := false
  /-- The reassembly stage's check of the payload fails. -/
  payload : Bool := false
  /-- For a PTP message that completes a measurement of a time base (R62, R204): the offset of its master's time from the
  time base as management firmware computes it, ns. -/
  ptb : Option Int := none
  /-- Position of the frame within the FEC codeword and marker pattern as the PCS measures it, 0.1 ns (R204). -/
  pos : Int := 0
deriving DecidableEq, Repr

/-- A kind of host ring or index line (R328, R329, R149, R207). -/
inductive RingKind where
  | cmd
  | cpl
  | evt
  | msg
  | xring
deriving DecidableEq, Repr

/-- A lane's capability word: the highest rate that its end reaches, in units of 0.25 Gb/s, its transmit equaliser presets, and
the spare flag (R215, R223). -/
structure Capability where
  rate : Nat := 425
  presets : Nat := 0
  spare : Bool := false
deriving DecidableEq, Repr

/-- Receiver settings: continuous-time equaliser, the taps of the 12-tap decision-feedback equaliser, gain (R218). -/
structure RxTune where
  ctle : Int := 0
  dfe : List Int := []
  gain : Int := 0
deriving DecidableEq, Repr, Inhabited

/-- What a lane's step ends with: the far end's capability word (BASE of a fabric lane), the highest common denominator (BASE of
an Ethernet lane), and the transmit taps and receiver settings that training has set (R215, R216, R218). -/
structure StepResult where
  far : Capability := {}
  hcd : Nat := 0
  tx : List Int := []
  rx : RxTune := {}
deriving DecidableEq, Repr

/-- The end of a lane's step: the lane and what the step ends with (R215). -/
structure LaneStep where
  lane : Nat
  r : StepResult := {}
deriving DecidableEq, Repr

/-- A step that runs out of time, or whose far end, by its capability word, cannot reach the rate (R215). -/
structure LaneLimit where
  lane : Nat
  far : Option Capability := none
deriving DecidableEq, Repr

/-- The end of a scrub pass: the controller, and how much of the pass, ns, fell in a gating of the HBM stacks (R316, R403). -/
structure ScrubPass where
  ctrl : Nat
  gated : Nat := 0
deriving DecidableEq, Repr

/-- A cell as it arrives; `replaced` says that it came on the lane that a spare has replaced (R224). -/
structure CellRx where
  cell : List Byte
  replaced : Bool := false
deriving DecidableEq, Repr

/-- A PTP frame that firmware sends, and the time, ns, by which its position in the FEC codeword and alignment-marker pattern
moves its stamp (R203, R204). -/
structure PtpFrame where
  bytes : List Byte
  pos : Int := 0
deriving DecidableEq, Repr

/-- A command of the block: a host command, a register access or an event, one constructor per row of the table of
operations and events. -/
inductive Instr where
  /-- NOP (R341): Command that does nothing and completes DONE. -/
  | nop (c : Cmd)
  /-- VERSION_READ (R341): Command that writes the 64-byte hardware, firmware, ROM and catalogue version record to host memory. -/
  | versionRead (c : Cmd) (a : Nat)
  /-- FENCE (R341): Command that completes DONE once every command fetched earlier on any ring has written its completion. -/
  | fence (c : Cmd)
  /-- FLOW_DEFINE (R22): Command that checks a 64-byte flow entry from host memory and writes it into the flow table. -/
  | flowDefine (c : Cmd) (a : Nat) (img : List Byte)
  /-- FLOW_START (R22): Command that rechecks a defined or stopped flow against its domain and admits it under every budget,
  making it RUNNING. -/
  | flowStart (c : Cmd) (flow : Nat)
  /-- FLOW_STOP (R22): Command that stops a flow at once or arms it to stop at the point its essence and namespace set. -/
  | flowStop (c : Cmd) (flow : Nat)
  /-- FLOW_STOPPED (R22): A RUNNING flow armed by FLOW_STOP reaches its stop point, releases its load and slots, and completes
  the command. -/
  | flowStopped (flow : Nat)
  /-- FLOW_STOP_TIMEOUT (R22): No frame start arrives within 1 FP of FLOW_STOP on a video input, so the flow stops at the end
  of that FP. -/
  | flowStopTimeout (flow : Nat)
  /-- FLOW_DELETE (R22): Command that removes a flow that is neither RUNNING, HELD nor a consist member. -/
  | flowDelete (c : Cmd) (flow : Nat)
  /-- FLOW_READ (R21): Command that writes the current flow entry, with its readback fields filled, to host memory. -/
  | flowRead (c : Cmd) (flow : Nat) (a : Nat)
  /-- CONSIST_DEFINE (R28): Command that checks a consist descriptor and defines the consist. -/
  | consistDefine (c : Cmd) (a : Nat) (img : List Byte)
  /-- CONSIST_DELETE (R32): Command that deletes a consist not named by an unapplied resident page. -/
  | consistDelete (c : Cmd) (n : Nat)
  /-- CONSIST_READ (R29): Command that writes a consist descriptor to host memory. -/
  | consistRead (c : Cmd) (n : Nat) (a : Nat)
  /-- SVP_PORT_SET (R160): Command that loads an SDI receiver or transmitter descriptor and moves a receiver into HUNT or
  DISABLED. -/
  | svpPortSet (c : Cmd) (a : Nat) (img : List Byte)
  /-- SVP_PORT_READ (R160): Command that writes the SDI port descriptor currently held to host memory. -/
  | svpPortRead (c : Cmd) (port : Nat) (dir : Nat) (a : Nat)
  /-- NMP_STREAM_SET (R183): Command that writes the 64-byte stream descriptor of an NMP flow. -/
  | nmpStreamSet (c : Cmd) (a : Nat) (img : List Byte)
  /-- NMP_STREAM_READ (R211): Command that writes a stream descriptor and its receive and transmit status to host memory. -/
  | nmpStreamRead (c : Cmd) (flow : Nat) (a : Nat)
  /-- NMP_GATE_LOAD (R200): Command that checks and admits a pending gate control list for one MAC. -/
  | nmpGateLoad (c : Cmd) (mac : Nat) (a : Nat) (img : List Byte)
  /-- NMP_FRAME_SEND (R208): Command that queues one host frame for transmission on a MAC. -/
  | nmpFrameSend (c : Cmd) (mac : Nat) (queue : Nat) (len : Nat) (option_ : Nat) (a : Nat) (img : List Byte)
  /-- NMP_FRAME_SENT (R208): A host frame leaves its MAC, or is discarded because the link is DOWN, and NMP_FRAME_SEND
  completes DONE. -/
  | nmpFrameSent (mac : Nat)
  /-- PAGE_LOAD (R88): Command that checks, admits and copies a timetable page into a resident slot, or refuses it. -/
  | pageLoad (c : Cmd) (a : Nat) (img : List Byte)
  /-- PAGE_WITHDRAW (R99): Command that withdraws a collecting coordinator page or a loaded or armed local page. -/
  | pageWithdraw (c : Cmd) (page : Nat)
  /-- PAGE_STATUS (R110): Command that writes the 192-byte status record of a resident or last-held page. -/
  | pageStatus (c : Cmd) (page : Nat) (a : Nat)
  /-- XP_DIRECT (R108): Command that admits and writes one crosspoint word through the management port. -/
  | xpDirect (c : Cmd) (word : Nat) (sel : Nat) (src : Nat)
  /-- XP_READ (R109): Command that writes INTENT and LIVE for a range of crosspoint words to host memory. -/
  | xpRead (c : Cmd) (first : Nat) (count : Nat) (a : Nat)
  /-- PLATFORM_SET (R82): Command that sets the platform depth of a defined or stopped video output flow. -/
  | platformSet (c : Cmd) (flow : Nat) (depth : Nat)
  /-- CELL_ROW_SPARE (R111): Command that starts mirroring a cell-memory row into a spare row for a named boundary. -/
  | cellRowSpare (c : Cmd) (bank : Nat) (row : Nat) (dom : Nat) (fi : Nat)
  /-- CELL_ROW_COPY_DONE (R111): The copy of a spared cell-memory row into its spare completes within the first FP. -/
  | cellRowCopyDone (bank : Nat) (row : Nat)
  /-- CELL_ROW_SPARE_SWAP (R111): At the named boundary reads are redirected to the spare row. -/
  | cellRowSpareSwap (bank : Nat) (row : Nat)
  /-- LINK_START (R126): Command that starts a fabric link from DOWN into FRAMING, sending idle cells. -/
  | linkStart (c : Cmd) (link : Nat)
  /-- LINK_STOP (R126): Command that takes a fabric link to DOWN with cause 3. -/
  | linkStop (c : Cmd) (link : Nat)
  /-- LINK_READ (R152): Command that writes 32-byte state, flight and counter records for a range of links. -/
  | linkRead (c : Cmd) (first : Nat) (count : Nat) (a : Nat)
  /-- PLAN_LOAD (R133): Command that checks, admits and writes a slot plan into a link's shadow bank. -/
  | planLoad (c : Cmd) (link : Nat) (a : Nat) (img : List Byte)
  /-- PLAN_SWAP (R135): Command that commits the shadows of a set of links to swap at a named fabric cycle. -/
  | planSwap (c : Cmd) (cycle : Nat) (a : Nat) (img : List Byte)
  /-- PLAN_READ (R132): Command that writes one bank of a link's slot plan to host memory. -/
  | planRead (c : Cmd) (link : Nat) (bank : Nat) (a : Nat)
  /-- ROUTE_DEFINE (R136): Command that loads a route record at a device the route touches. -/
  | routeDefine (c : Cmd) (a : Nat) (img : List Byte)
  /-- ROUTE_DELETE (R141): Command that deletes a route whose groups are closed and not named in a resident page. -/
  | routeDelete (c : Cmd) (feeder : Nat)
  /-- ROUTE_VERIFY (R140): Command at the feeder that checks its part of a route and sends ROUTE_CHECK with E + S. -/
  | routeVerify (c : Cmd) (feeder : Nat)
  /-- ROUTE_STATUS (R152): Command that writes the 96-byte state and latency record of a route. -/
  | routeStatus (c : Cmd) (feeder : Nat) (a : Nat)
  /-- CTRL_ROUTE_SET (R124): Command that checks and sets up to four control routes to one destination. -/
  | ctrlRouteSet (c : Cmd) (dest : Nat) (a : Nat) (img : List Byte)
  /-- FWD_SET (R147): Command that loads unscheduled forwarding entries for a range of destination devices. -/
  | fwdSet (c : Cmd) (first : Nat) (count : Nat) (a : Nat) (img : List Byte)
  /-- MSG_SEND (R149): Command that queues one host message in an unscheduled virtual output queue. -/
  | msgSend (c : Cmd) (dest : Nat) (cls : Nat) (len : Nat) (a : Nat) (img : List Byte)
  /-- PROC_SET (R230): Command that checks a function descriptor for a processed flow and computes its readbacks. -/
  | procSet (c : Cmd) (a : Nat) (img : List Byte)
  /-- PROC_PARAM_LOAD (R244): Command that checks and copies a parameter set of a processed flow into line memory. -/
  | procParamLoad (c : Cmd) (pf : Nat) (set : Nat) (a : Nat) (img : List Byte)
  /-- PROC_READ (R252): Command that writes a function descriptor with readbacks, set state and frame-sync counts. -/
  | procRead (c : Cmd) (pf : Nat) (a : Nat)
  /-- ENGINE_SPARE (R251): Command that schedules a spare engine to take over an active slot at a named boundary. -/
  | engineSpare (c : Cmd) (room : Nat) (slot : Nat) (tile : Nat) (dom : Nat) (fi : Nat)
  /-- ENGINE_SPARE_SWAP (R251): At the named boundary the slot's work items go to the spare and the old spare retires. -/
  | engineSpareSwap (room : Nat)
  /-- LAYER_STATUS (R271): Command that writes the per-layer state records of a COMPOSE flow. -/
  | layerStatus (c : Cmd) (pf : Nat) (a : Nat)
  /-- AUD_PORT_SET (R285): Command that loads an audio port descriptor and moves the port to ACQUIRE or DISABLED. -/
  | audPortSet (c : Cmd) (a : Nat) (img : List Byte)
  /-- AUD_PORT_READ (R295): Command that writes an audio port descriptor to host memory. -/
  | audPortRead (c : Cmd) (port : Nat) (a : Nat)
  /-- AUD_PORT_RESUME (R290): Command that returns a LOST or SLIPPED audio port to ACQUIRE. -/
  | audPortResume (c : Cmd) (port : Nat)
  /-- AUDIO_XP_DIRECT (R281): Command that admits and writes one audio crosspoint through the management port. -/
  | audioXpDirect (c : Cmd) (out : Nat) (inp : Nat) (gain : Nat) (ramp : Nat)
  /-- AUDIO_XP_DIRECT_START (R281): The first sample period at least 100 µs after acceptance begins the direct crosspoint's
  ramp. -/
  | audioXpDirectStart (out : Nat) (inp : Nat)
  /-- AUDIO_XP_READ (R281): Command that writes the active crosspoints of one output channel to host memory. -/
  | audioXpRead (c : Cmd) (out : Nat) (a : Nat)
  /-- AUD_DELAY_SET (R293): Command that allocates or releases delay lines for a range of output channels. -/
  | audDelaySet (c : Cmd) (first : Nat) (count : Nat) (store : Nat) (max : Nat)
  /-- AUD_DELAY_CHANGE (R294): Command that schedules a crossfaded delay change for a range of channels at a boundary. -/
  | audDelayChange (c : Cmd) (first : Nat) (count : Nat) (delay : Nat) (ramp : Nat) (dom : Nat) (fi : Nat)
  /-- AUD_DELAY_CROSSFADE_END (R294): The delay crossfade of RAMP samples ends and the new delay is in force. -/
  | audDelayCrossfadeEnd (out : Nat)
  /-- AUD_DELAY_READ (R295): Command that writes delay, store, pending and MAX for a range of channels. -/
  | audDelayRead (c : Cmd) (first : Nat) (count : Nat) (a : Nat)
  /-- AUD_CS_SET (R283): Command that loads a 24-byte channel-status template for an audio output flow. -/
  | audCsSet (c : Cmd) (flow : Nat) (a : Nat) (img : List Byte)
  /-- MEM_TRAIN (R313): Command that starts training a DDR5 channel pair or an HBM stack. -/
  | memTrain (c : Cmd) (unit : Nat)
  /-- MEM_FREQ (R314): Command that changes a DDR5 pair's rate and retrains it, waiting for a running step to end. -/
  | memFreq (c : Cmd) (pair : Nat) (rate : Nat)
  /-- MEM_FREQ_RESTART (R314): A waiting MEM_FREQ takes effect at the end of the current training step and training restarts
  from step 1. -/
  | memFreqRestart (pair : Nat)
  /-- MEM_WIN_SET (R300): Command that places, sizes and reserves bandwidth for a CXL.mem window, or closes it. -/
  | memWinSet (c : Cmd) (win : Nat) (store : Nat) (base : Nat) (size : Nat) (reserve : Nat)
  /-- MEM_MOVE (R301): Command that queues a memory-mover copy between host memory and windows. -/
  | memMove (c : Cmd) (a : Nat) (img : List Byte)
  /-- MEM_MOVE_DONE (R301): A memory move ends with status done, poisoned data or host address error. -/
  | memMoveDone (hostOk : Bool)
  /-- MEM_SPARE (R317): Command that schedules a DRAM row, column or chip-spare repair at a named boundary. -/
  | memSpare (c : Cmd) (kind : Nat) (loc : Nat) (row : Nat) (col : Nat) (dom : Nat) (fi : Nat)
  /-- MEM_SPARE_COPY_DONE (R317): The row to be repaired has been copied to its holding row. -/
  | memSpareCopyDone (ctrl : Nat)
  /-- MEM_SPARE_BOUNDARY (R317): At the named boundary reads go to the holding row and the repair command is issued, or the
  chip-spare erasure begins. -/
  | memSpareBoundary (ctrl : Nat)
  /-- MEM_SPARE_REPAIR_DONE (R317): The memory's repair programming ends and the holding row is copied back or kept on a
  failed check. -/
  | memSpareRepairDone (ctrl : Nat) (good : Bool)
  /-- MEM_WEAR_READ (R318): Command that writes a controller's correction counts to host memory. -/
  | memWearRead (c : Cmd) (ctrl : Nat) (a : Nat)
  /-- LANE_SPARE (R222): Command that maps a spare lane at once or starts its shadow bring-up for a swap at a boundary. -/
  | laneSpare (c : Cmd) (lane : Nat) (spare : Nat) (dom : Nat) (fi : Nat)
  /-- LANE_SPARE_CHECK (R223): Two cycles before the swap cycle the shadow's readiness and skew are checked and the swap
  abandoned if they fail. -/
  | laneSpareCheck (die : Nat) (spare : Nat)
  /-- LANE_SPARE_SWAP (R224): At the swap cycle boundary both ends move to the spare lane without loss and the replaced lane
  powers down. -/
  | laneSpareSwap (die : Nat) (spare : Nat)
  /-- TIME_STEP_ACCEPT (R65): Command that applies the pending step of a time base or the system counter. -/
  | timeStepAccept (c : Cmd) (target : Nat)
  /-- REF_FORCE (R61): Command that forces selection of a named qualified candidate. -/
  | refForce (c : Cmd) (cand : Nat)
  /-- REF_FORCE_RELEASE (R61): REF_FORCE with candidate 31 that releases a forced selection. -/
  | refForceRelease (c : Cmd)
  /-- HOLDOVER_COEF_LOAD (R67): Command that loads the holdover model coefficients from host memory. -/
  | holdoverCoefLoad (c : Cmd) (a : Nat) (img : List Byte)
  /-- TIME_SET (R66): Command that writes whole seconds into the system counter while no flow runs. -/
  | timeSet (c : Cmd) (seconds : Nat)
  /-- PAIR_START (R354): Command that moves a unit from UNPAIRED to PAIRING. -/
  | pairStart (c : Cmd)
  /-- PAIR_STOP (R354): Command that sends LEAVE on both paths and returns the unit to UNPAIRED. -/
  | pairStop (c : Cmd)
  /-- TABLET_REQUEST (R371): Command that makes a ready standby unit enter WARM and ask for the tablet. -/
  | tabletRequest (c : Cmd)
  /-- TABLET_TAKE (R375): Command that makes a PAIRING, STANDBY or FENCED unit take the tablet. -/
  | tabletTake (c : Cmd)
  /-- PAIR_STATUS (R375): Command that writes pair state, GEN, JSEQ and the partner's last message. -/
  | pairStatus (c : Cmd) (a : Nat)
  /-- FAULT_READ (R398): Command that writes status, stamps and configuration for a range of fault sources. -/
  | faultRead (c : Cmd) (first : Nat) (count : Nat) (a : Nat)
  /-- FAULT_CLEAR (R398): Command that clears a range of fault sources as a W1C write would. -/
  | faultClear (c : Cmd) (first : Nat) (count : Nat)
  /-- ALIVE_RESUME (R387): Command that restarts a stopped ALIVE output. -/
  | aliveResume (c : Cmd)
  /-- SNAPSHOT_READ (R398): Command that writes and empties the fault snapshot buffer. -/
  | snapshotRead (c : Cmd) (a : Nat)
  /-- FAULT_INJECT (R398): Command that raises a source as hardware would, with every reaction except BLOCK_RESET. -/
  | faultInject (c : Cmd) (src : Nat)
  /-- LANE_EYE_SCAN (R220): Command that starts a full eye-scan grid on one trained lane. -/
  | laneEyeScan (c : Cmd) (lane : Nat) (eye : Nat) (hStep : Nat) (vStep : Nat) (dwell : Nat) (a : Nat)
  /-- LANE_EYE_DONE (R220): An eye scan completes or ends early and its record is written. -/
  | laneEyeDone (lane : Nat) (counts : List Nat)
  /-- LANE_PRBS (R221): Command that starts the PRBS generator, checker or both on an idle lane. -/
  | lanePrbs (c : Cmd) (lane : Nat) (rate : Nat) (pattern : Nat) (dir : Nat) (duration : Nat)
  /-- LANE_PRBS_STOP (R221): LANE_PRBS with direction 0 that stops a running PRBS test. -/
  | lanePrbsStop (c : Cmd) (lane : Nat)
  /-- LANE_PRBS_DONE (R221): A PRBS test ends by duration or stop, reports its error count and returns the lane to IDLE. -/
  | lanePrbsDone (lane : Nat) (errors : Nat)
  /-- PWR_STATE_SET (R404): Command that requests RUN, TRIM or OFF, starting or queuing a power transition. -/
  | pwrStateSet (c : Cmd) (target : Nat)
  /-- THERM_COEF_LOAD (R414): Command that loads the P_est coefficients from host memory. -/
  | thermCoefLoad (c : Cmd) (a : Nat) (img : List Byte)
  /-- IDENTITY_READ (R428): Command that writes the unique ID and identity public key. -/
  | identityRead (c : Cmd) (a : Nat)
  /-- ATTEST_QUOTE (R429): Command that signs a quote over a nonce, measurements and state with the identity key. -/
  | attestQuote (c : Cmd) (nonceAt : Nat) (a : Nat) (nonce : List Byte)
  /-- UPDATE_APPLY (R434): Command that checks a delta update package and starts rebuilding the staging slot. -/
  | updateApply (c : Cmd) (a : Nat) (len : Nat) (img : List Byte)
  /-- UPDATE_DONE (R434): The staging slot has been rebuilt and its digest checked, ending the update as done or refused. -/
  | updateDone (eraseErr : Option Nat) (flashErr : Option Nat)
  /-- UPDATE_COMMIT (R435): Command that marks the running slot SUPERSEDED so the staging slot boots next. -/
  | updateCommit (c : Cmd)
  /-- ROLLBACK_ADVANCE (R436): Command that raises the anti-rollback counter to the running image's SVN. -/
  | rollbackAdvance (c : Cmd)
  /-- LIFECYCLE_SET (R431): Command that checks a token and moves the lifecycle state forward. -/
  | lifecycleSet (c : Cmd) (target : Nat) (a : Nat) (img : List Byte)
  /-- COSIGNER_FUSE (R432): Command that programs the customer co-signer key digest once in PROVISIONED. -/
  | cosignerFuse (c : Cmd) (a : Nat) (img : List Byte)
  /-- TOKEN_NONCE (R431): Command that generates and writes a fresh token nonce, held in secure SRAM. -/
  | tokenNonce (c : Cmd) (a : Nat)
  /-- FUSE_PROGRAM_DONE (R421): A fuse programming run completes and the next waiting fuse command is checked against the new
  values. -/
  | fuseProgramDone
  /-- REGISTER_WRITE (R4): Host or master write to a BAR0 register with no row of its own, applied or ignored and logged under
  the access codes and ranges. -/
  | registerWrite (master : Nat) (off : Nat) (value : Word)
  /-- SETUP_LOCK (R327): Write of 1 to HIF_SETUP_LOCK.LOCK that freezes every RWL field until chip reset. -/
  | setupLock (master : Nat)
  /-- SYSTIME_LO_READ (R46): Read of TIM_SYSTIME_LO that latches the counter's upper half into TIM_SYSTIME_HI. -/
  | systimeLoRead
  /-- DOMAIN_CFG_WRITE (R49): Write of TIM_DOM_CFG or TIM_DOM_PHASE, checked against running flows and FP before it takes
  effect. -/
  | domainCfgWrite (master : Nat) (dom : Nat) (phase : Bool) (value : Word)
  /-- REF_HIST_CLEAR (R55): W1C write to TIM_REF_HIST clearing sticky reference history bits. -/
  | refHistClear (cand : Nat) (value : Word)
  /-- SRC_STATUS_CLEAR (R381): W1C write to FLT_SRC_STATUS clearing STICKY, CONSEQ, COUNT and stamps, ordered against a
  same-cycle raise. -/
  | srcStatusClear (src : Nat) (value : Word)
  /-- HEALTH_CLEAR (R382): W1C write to FLT_HEALTH or FLT_HEALTH_IKA clearing latched health bits. -/
  | healthClear (reg : Nat) (value : Word)
  /-- ALOG_ENTRY_READ (R386): Read of an address-log ADDR_LO that latches the entry's other words and clears its VALID bit. -/
  | alogEntryRead (entry : Nat)
  /-- CMD_RING_ENABLE (R330): Setting a command ring's EN, which reads the doorbell and starts the ring empty. -/
  | cmdRingEnable (master : Nat) (ring : Nat) (value : Word) (line : Option Nat)
  /-- CMD_RING_DISABLE (R330): Clearing a command ring's EN, which lets the running command finish and fetches no more. -/
  | cmdRingDisable (master : Nat) (ring : Nat) (value : Word)
  /-- CPL_RING_ENABLE (R330): Setting a completion ring's EN, which resets its write index and phase. -/
  | cplRingEnable (master : Nat) (ring : Nat) (value : Word)
  /-- CPL_RING_DISABLE (R330): Clearing a completion ring's EN, refused while an enabled command ring names it. -/
  | cplRingDisable (master : Nat) (ring : Nat) (value : Word)
  /-- EVT_RING_ENABLE (R330): Setting an event ring's EN, which resets its index and phase and writes held FINAL records first. -/
  | evtRingEnable (master : Nat) (ring : Nat) (value : Word)
  /-- EVT_RING_DISABLE (R330): Clearing an event ring's EN, after which its records are dropped and counted. -/
  | evtRingDisable (master : Nat) (ring : Nat) (value : Word)
  /-- REPORT_CARD_ENABLE (R343): Setting HIF_CFG.RC_EN, which restarts report cards from SEQ 1. -/
  | reportCardEnable (master : Nat) (value : Word)
  /-- MSG_RING_ENABLE (R149): Setting AQF_MSG_CFG.EN, which resets the message ring's write index and phase. -/
  | msgRingEnable (master : Nat) (value : Word)
  /-- XRING_ENABLE (R207): Setting NMP_XRING_CFG.EN, which resets the host frame ring's write index and phase. -/
  | xringEnable (master : Nat) (value : Word)
  /-- MAC_ENABLE (R181): Write of NMP_MAC_CFG.EN that checks lane placement and starts or stops a media MAC. -/
  | macEnable (master : Nat) (mac : Nat) (value : Word)
  /-- MOVER_RESERVE_WRITE (R298): Write of MEM_MOVER_CFG.RESERVE, admitted against each store's bandwidth or ignored. -/
  | moverReserveWrite (master : Nat) (value : Word)
  /-- RECOVERY_GO (R425): Write of SEC_RECOVERY_CTL.GO that starts writing a recovery image into slot A. -/
  | recoveryGo (master : Nat) (value : Word)
  /-- RECOVERY_DONE (R425): Recovery writing ends and RESULT reports success or the failing check. -/
  | recoveryDone (img : SlotImage)
  /-- BAR0_DEFAULT_ACCESS (R325): A misaligned, mis-sized or undecoded BAR0 access goes to the default target and is logged. -/
  | bar0DefaultAccess (master : Nat) (off : Nat) (size : Nat) (write : Bool)
  /-- BAR2_IO_REQUEST (R324): A CXL.io request to BAR2 completes with Unsupported Request and raises BUS_DECODE_ERR. -/
  | bar2IoRequest (addr : Nat) (write : Bool)
  /-- CXL_MEM_ACCESS (R300): A host CXL.mem access through an HDM decoder reaches its window's store address under the
  window's bandwidth limit. -/
  | cxlMemAccess (dec : Nat) (off : Nat) (len : Nat) (write : Bool) (data : List Byte)
  /-- BUS_TIMEOUT (R345): A bus target gives no answer within 10 µs and the matrix answers with an error. -/
  | busTimeout (master : Nat) (addr : Nat)
  /-- BUS_ORPHAN (R346): A master reset mid-burst, after which the matrix finishes the burst on its behalf. -/
  | busOrphan (master : Nat) (addr : Nat)
  /-- DOORBELL_SNOOP (R329): A host write to a held doorbell or consumer-index line invalidates it and the device rereads it. -/
  | doorbellSnoop (kind : RingKind) (ring : Nat) (value : Nat)
  /-- DOORBELL_POLL (R329): Every 1 µs in DB_MODE 1 the device reads each enabled command ring's doorbell line. -/
  | doorbellPoll (values : List (Nat × Nat))
  /-- CONSUMER_INDEX_READ (R329): The device rereads a ring's consumer index while it needs a free entry. -/
  | consumerIndexRead (kind : RingKind) (ring : Nat) (value : Nat)
  /-- COMMAND_FETCH (R333): The device fetches the next command of a ring with work and a free completion entry and dispatches
  it. -/
  | commandFetch (writes : List (Nat × List Byte)) (fetchOk : Bool) (hostOk : Bool) (cplOk : Bool)
  /-- EVENT_RECORD_WRITE (R337): A raised event's record is written to its group's event ring, or dropped and counted when the
  ring is full or disabled. -/
  | eventRecordWrite (ok : Bool)
  /-- IRQ_HOLDOFF_END (R342): A vector's hold-off expires and a deferred MSI-X message is sent. -/
  | irqHoldoffEnd (vector : Nat)
  /-- REPORT_CARD (R343): At each whole second in RUN or TRIM with RC_EN the device writes report card n. -/
  | reportCard (after : Nat)
  /-- CXL_LINK_DOWN (R323): Loss of the CXL link, a hot reset or an FLR stops every ring, discards pending writes and holds
  FINAL records. -/
  | cxlLinkDown (cause : Nat)
  /-- CXL_LINK_UP (R320): The CXL link trains and reports its speed and width, with CXL.io-only fallback under R321. -/
  | cxlLinkUp (speed : Nat) (width : Nat) (io : Bool) (cache : Bool) (mem : Bool)
  /-- DOMAIN_BOUNDARY (R48): The frame boundary T(n) of a timing domain strobes every block and advances FI. -/
  | domainBoundary (dom : Nat)
  /-- SELECTOR_TICK (R57): Every 100 µs the reference selector chooses a candidate, enters holdover or starts build-out. -/
  | selectorTick
  /-- LOSS_OF_SIGNAL (R52): MISS consecutive expected edges of a candidate are missing, putting it in LOS. -/
  | lossOfSignal (cand : Nat)
  /-- LOS_CLEAR (R52): MISS consecutive edges arrive in place and the candidate's LOS clears. -/
  | losClear (cand : Nat)
  /-- FREQ_MEASURE (R53): Every 100 ms each candidate's frequency offset over a 1 s gate is updated and judged against its
  limits. -/
  | freqMeasure (offsets : List (Nat × Int))
  /-- CANDIDATE_QUALIFIED (R54): A candidate has been enabled, free of LOS and within limit for QUAL_S seconds and becomes
  qualified. -/
  | candidateQualified (cand : Nat)
  /-- HOLDOVER_CORRECTION (R67): Once per second in holdover the DPLL recomputes the OCXO frequency from the model. -/
  | holdoverCorrection
  /-- HOLDOVER_DEGRADED (R68): HOLD_GOOD × 900 s of holdover expire and HQ becomes DEGRADED. -/
  | holdoverDegraded
  /-- OCXO_DAC_UPDATE (R69): Every 1 ms a 24-bit DAC frame is sent to the OCXO. -/
  | ocxoDacUpdate (code : Nat)
  /-- OVEN_ADC_READ (R69): Every 100 ms the oven ADC code is read and judged against the band. -/
  | ovenAdcRead (code : Nat)
  /-- OVEN_STABLE (R69): The oven code has held within the band for OVEN_TIME × 10 s and the oven becomes STABLE. -/
  | ovenStable
  /-- CDC_FIFO_ERR (R74): A clock-crossing FIFO overflows or underflows and is reported. -/
  | cdcFifoErr (crossing : Nat) (overflow : Bool)
  /-- RUN_AHEAD_FILLED (R101): Every run-ahead window of a loaded page is filled and the page arms. -/
  | runAheadFilled (page : Nat)
  /-- ARM_DEADLINE (R97): The arm deadline passes at the coordinator with an ARMED missing and the page is withdrawn. -/
  | armDeadline (page : Nat)
  /-- PAGE_GUARD (R96): The guard passes for a participant page not COMMITTED, which goes LATE and cancels run-ahead. -/
  | pageGuard (page : Nat)
  /-- COMMIT_RESEND (R95): Every RESEND_US until the guard the coordinator resends COMMIT or WITHDRAWN on every route lacking
  an ACK. -/
  | commitResend (page : Nat)
  /-- PAGE_ACTIVATION (R105): At T(ACT_FI) the timetable engine writes a committed page's crosspoint words and audio changes. -/
  | pageActivation (page : Nat)
  /-- CROSSPOINT_LATCH (R79): At its switching instant a platform or engine input latches its crosspoint word for the frame. -/
  | crosspointLatch (word : Nat) (bad : Bool)
  /-- COMMIT_EVALUATION (R97): At T(ACT_FI) + 1 FP the coordinator settles the outcome from the ACKs received. -/
  | commitEvaluation (page : Nat)
  /-- ARMED_RX (R97): The coordinator receives an ARMED message, checks it and may send COMMIT to all or WITHDRAWN. -/
  | armedRx (m : CommitMsg)
  /-- REFUSED_RX (R97): The coordinator receives REFUSED and withdraws the page. -/
  | refusedRx (m : CommitMsg)
  /-- COMMIT_RX (R96): A participant receives COMMIT, answers ACK and commits, or answers ACK with LATE. -/
  | commitRx (m : CommitMsg)
  /-- COMMIT_ACK_RX (R97): The coordinator receives an ACK and records it with its LATE flag. -/
  | commitAckRx (m : CommitMsg)
  /-- WITHDRAWN_RX (R96): A participant receives WITHDRAWN, cancels run-ahead and releases its acquisitions. -/
  | withdrawnRx (m : CommitMsg)
  /-- RUN_AHEAD_RX (R102): A device on a feeder's route receives RUN_AHEAD and opens the group early when it holds the page. -/
  | runAheadRx (m : CommitMsg) (link : Nat)
  /-- RUN_AHEAD_CANCEL_RX (R103): A device receives CANCEL and closes the group it opened early at its next cycle boundary. -/
  | runAheadCancelRx (m : CommitMsg) (link : Nat)
  /-- PLATFORM_LINE_READ (R84): Each line period a platform reads the next line of its latched source, emitting fill if it is
  missing. -/
  | platformLineRead (flow : Nat) (line : Nat) (f : ReadFault)
  /-- FABRIC_CYCLE_BOUNDARY (R116): A fabric cycle begins: TIME cells are sent, pending plan swaps, group opens and closes and
  grid realignment take effect. -/
  | fabricCycleBoundary
  /-- FABRIC_SLOT (R138): Each 20 ns slot a link sends its scheduled, transit, control, credit or unscheduled cell. -/
  | fabricSlot (link : Nat) (sigBad : Bool) (genBad : Bool)
  /-- FABRIC_CELL_RX (R131): A cell arrives at a fabric receiver and is framed, CRC-checked and dispatched by TYPE. -/
  | fabricCellRx (link : Nat) (rx : CellRx)
  /-- SCHEDULED_CELL_RX (R144): A scheduled cell is matched against its RX plan entry and deadline and stored or discarded. -/
  | scheduledCellRx (link : Nat) (cell : List Byte)
  /-- UNSCHEDULED_CELL_RX (R147): An unscheduled cell is forwarded, queued or delivered to the host message ring. -/
  | unscheduledCellRx (link : Nat) (cell : List Byte)
  /-- CONTROL_CELL_RX (R121): A routed control cell is forwarded on its source route, delivered or discarded. -/
  | controlCellRx (link : Nat) (cell : List Byte)
  /-- HELLO_RX (R126): A HELLO is received, identity-checked and moves the link state, including into or out of QUIET. -/
  | helloRx (link : Nat) (h : Hello)
  /-- HELLO_SEND (R126): Every 16 cycles a HELLO is sent on each link past FRAMING. -/
  | helloSend (link : Nat)
  /-- HELLO_LOSS (R126): Three HELLO periods pass without a HELLO on an UP link, which goes DOWN. -/
  | helloLoss (link : Nat)
  /-- TIME_RX (R128): A TIME cell is received and the link's delay, offset and flight are computed. -/
  | timeRx (link : Nat) (m : TimeMsg)
  /-- CREDIT_RX (R148): A CREDIT cell returns unscheduled credits to the sender for its link. -/
  | creditRx (link : Nat) (n : Nat)
  /-- LINK_NOTICE_RX (R125): A LINK_NOTICE newer than the last from its sender is recorded and flooded on. -/
  | linkNoticeRx (m : Notice) (link : Nat)
  /-- QUIET_WAKE (R126): The far end's lane leaves low-power idle and a QUIET link returns to UP. -/
  | quietWake (link : Nat)
  /-- QUIET_REFRESH_LOSS (R126): No low-power-idle refresh from the far end for 3 ms and a QUIET link goes DOWN. -/
  | quietRefreshLoss (link : Nat)
  /-- LPI_REFRESH (R127): Every 1 ms a QUIET link's lane sends a low-power-idle refresh. -/
  | lpiRefresh (link : Nat)
  /-- ROUTE_CHECK_RX (R140): A transit or destination device checks its part of a route, adds its term and forwards or answers. -/
  | routeCheckRx (link : Nat) (m : RouteMsg)
  /-- ROUTE_RESULT_RX (R140): A device on the reverse route makes its reservation firm or releases it and marks the route. -/
  | routeResultRx (link : Nat) (m : RouteMsg)
  /-- ROUTE_VERIFY_TIMEOUT (R140): No ROUTE_RESULT reaches the feeder within 10 ms and the route is refused as UNREACHABLE. -/
  | routeVerifyTimeout (feeder : Nat)
  /-- ROUTE_RESERVATION_EXPIRY (R140): A tentative transit reservation held 20 ms after its ROUTE_CHECK is released and the
  route returns to DEFINED. -/
  | routeReservationExpiry (feeder : Nat)
  /-- SDI_HUNT_DWELL (R161): A 50 µs dwell ends without lock and the receiver tries the next rate. -/
  | sdiHuntDwell (port : Nat)
  /-- SDI_CDR_LOCK (R161): The receiver's CDR locks at the rate tried and it enters LOCKED. -/
  | sdiCdrLock (port : Nat)
  /-- SDI_IDENT_TIMEOUT (R161): A LOCKED receiver is not identified within 125.1 ms and returns to HUNT. -/
  | sdiIdentTimeout (port : Nat)
  /-- SDI_SIGNAL_LOSS (R164): Loss of transitions or of CDR lock returns the receiver to HUNT and holds its flows. -/
  | sdiSignalLoss (port : Nat) (cause : Nat)
  /-- SDI_FRAME_START (R162): A frame start arrives: it is stamped, identified or checked for arrival window, period, format
  and VPID. -/
  | sdiFrameStart (port : Nat) (f : SdiFrame)
  /-- SDI_LINE_RX (R165): An SDI line is received: TRS, CRC, ANC and embedded audio are checked and the line stored. -/
  | sdiLineRx (port : Nat) (l : SdiLine)
  /-- SDI_TX_LINE (R170): A transmitter sends the next line with generated TRS, CRC, VPID, audio and ANC. -/
  | sdiTxLine (port : Nat) (f : ReadFault) (genBad : Bool) (skew : Int)
  /-- ETH_FRAME_RX (R184): A received Ethernet frame passes the checks in order and goes to PTP, the host ring, a flow or
  discard. -/
  | ethFrameRx (mac : Nat) (frame : List Byte) (f : EthFault)
  /-- NMP_LINK_UP (R180): A MAC's PCS aligns all lanes with FEC lock and its link comes UP. -/
  | nmpLinkUp (mac : Nat) (hcd : Nat)
  /-- NMP_LINK_DOWN (R180): Loss of signal, alignment or FEC lock, or a failed negotiation takes a MAC's link DOWN. -/
  | nmpLinkDown (mac : Nat) (cause : Nat)
  /-- NMP_AN_RETRY (R180): 500 ms after a failed negotiation the MAC tries auto-negotiation again. -/
  | nmpAnRetry (mac : Nat)
  /-- NMP_NO_PACKET_TIMEOUT (R190): No accepted packet for 1 FP or 10 ms holds a network input flow. -/
  | nmpNoPacketTimeout (flow : Nat)
  /-- NMP_LEG_LOST (R192): A leg receives nothing for 10 ms while the other receives. -/
  | nmpLegLost (flow : Nat) (leg : Nat)
  /-- NMP_PACKET_SEND (R197): A paced media packet is released and sent when its gate allows. -/
  | nmpPacketSend (flow : Nat) (leg : Nat) (f : ReadFault) (genBad : Bool)
  /-- NMP_TX_LATE (R202): A media packet not sent within its limit of its release is discarded. -/
  | nmpTxLate (flow : Nat) (leg : Nat)
  /-- NMP_GATE_START (R200): A pending gate list takes effect at its first eligible cycle start. -/
  | nmpGateStart (mac : Nat)
  /-- NMP_GATE_INTERVAL (R199): A gate-list interval ends and the next entry's gate states apply. -/
  | nmpGateInterval (mac : Nat)
  /-- MGMT_MAC_COLLISION (R210): A half-duplex collision on the management MAC jams and backs off, or discards the frame. -/
  | mgmtMacCollision (sent : Nat) (slots : Nat)
  /-- MGMT_BACKOFF_END (R210): A collision backoff expires and the management MAC retries the frame. -/
  | mgmtBackoffEnd
  /-- LANE_STEP_DONE (R215): A lane training step holds its error ratio for 10 ms and the lane steps up or becomes TRAINED. -/
  | laneStepDone (x : LaneStep)
  /-- LANE_STEP_TIMEOUT (R215): A training step runs out of time or the far end cannot reach the rate and the lane goes FAILED. -/
  | laneStepTimeout (x : LaneLimit)
  /-- LANE_RETRY (R215): A FAILED lane's 1 s wait ends and it starts again from BASE. -/
  | laneRetry (lane : Nat)
  /-- LANE_LOCK_LOST (R217): A trained lane loses CDR lock, restarts bring-up and its owner reports the loss. -/
  | laneLockLost (lane : Nat)
  /-- LANE_MARGIN_MEASURE (R219): Every PERIOD_S seconds each trained lane measures its horizontal and vertical margins. -/
  | laneMarginMeasure (lane : Nat) (h : Nat) (v : Nat)
  /-- LANE_SHADOW_READY (R223): A spare lane's shadow is trained at both ends with stable flight and becomes READY. -/
  | laneShadowReady (die : Nat) (spare : Nat) (farReady : Bool)
  /-- ENGINE_WORK_ITEM (R233): A classroom runs one work item of a processed flow and writes its output line or block. -/
  | engineWorkItem (pf : Nat) (slot : Nat) (item : Nat) (f : ReadFault) (parity : Bool) (srcPpm : Int)
  /-- SRC_RECOVER (R242): The SRC ratio has been in range for 100 ms and the output ramps back up. -/
  | srcRecover (pf : Nat)
  /-- FRAME_SYNC_DECISION (R236): At each boundary a frame synchroniser picks the frame to read, repeating, dropping or
  holding. -/
  | frameSyncDecision (pf : Nat)
  /-- ENGINE_AUDIT_TICK (R249): Every 8 FP the auditor recomputes a sampled work item of the next slot and compares results. -/
  | engineAuditTick (room : Nat) (crc : Nat)
  /-- ENGINE_AUDIT_THIRD_OPINION (R249): The other free spare recomputes a mismatched item within the next 8 FP to give a
  verdict. -/
  | engineAuditThirdOpinion (room : Nat) (crc : Nat)
  /-- LAYER_DECISION (R268): At each output frame's decision point each COMPOSE layer's state is updated from its sources. -/
  | layerDecision (pf : Nat)
  /-- MATRIX_SAMPLE_PERIOD (R273): Each sample period the matrix computes every output channel from its crosspoints, ramps and
  delays. -/
  | matrixSamplePeriod (residueBad : Option Nat) (bad : List (Nat × ReadFault))
  /-- AUD_PORT_FRAME_RX (R287): An audio port frame is stamped, assigned to a sample period and judged for lock and slip. -/
  | audPortFrameRx (port : Nat) (stamp : Nat) (words : List Nat) (inactive : List Nat) (rate : Nat) (codingErr : Nat) (crccErr : Nat)
  /-- AUD_PORT_FRAME_TX (R288): A transmitting audio port sends sample period n at its reference instant. -/
  | audPortFrameTx (port : Nat) (stamp : Nat)
  /-- AUD_CLOCK_LOSS (R290): An external audio clock shows no transition for 2 µs and the port ramps to zero and enters LOST. -/
  | audClockLoss (port : Nat)
  /-- TRAIN_STEP_DONE (R313): A memory training step ends, moving to the next step, TRAINED or FAILED. -/
  | trainStepDone (ctrl : Nat) (fail : Option Nat)
  /-- MEM_READ (R309): A memory read is decoded and corrected, or returned poisoned to its consumer. -/
  | memRead (master : Nat) (store : Nat) (addr : Nat) (len : Nat) (f : MemFault)
  /-- MEM_WRITE (R306): A memory write is merged into the write queue or completed by read-modify-write. -/
  | memWrite (master : Nat) (store : Nat) (addr : Nat) (data : List Byte) (readBad : Bool)
  /-- ROW_IDLE_CLOSE (R305): A row kept open with nothing queued for IDLE_NS is closed. -/
  | rowIdleClose (ctrl : Nat) (bank : Nat)
  /-- REFRESH_DUE (R311): A rank's or bank's refresh interval expires and a refresh is issued or postponed. -/
  | refreshDue (ctrl : Nat) (rank : Nat) (queued : Bool)
  /-- DIMM_TEMP_READ (R311): Every 1 ms each DIMM temperature is read and the refresh range is changed. -/
  | dimmTempRead (ctrl : Nat) (dimm : Nat) (temp : Nat)
  /-- MEM_CALIBRATION (R315): Periodic ZQ and DQS-oscillator calibration runs on a rank or stack. -/
  | memCalibration (ctrl : Nat) (kind : Nat)
  /-- SCRUB_PASS_END (R316): A controller's scrub completes a pass over its whole range, `gated` ns of which its stack was
  gated (R403). -/
  | scrubPassEnd (x : ScrubPass)
  /-- PAIRING_TIMEOUT (R354): A PAIRING home unit hears no holder for LEASE_MS + 1 ms and takes the tablet as SOLE. -/
  | pairingTimeout
  /-- BEAT_SEND (R357): Every 250 µs the holder or fenced unit sends a BEAT on both paths and sends journal records. -/
  | beatSend
  /-- BEAT_RX (R357): A BEAT is received, acknowledged, and may trigger standby entry, conflict resolution or takeover
  conditions. -/
  | beatRx (m : PairMsg) (path : Nat) (agree : Bool)
  /-- PAIR_ACK_RX (R357): The holder receives an ACK, renews its lease and updates ACTIVE or SOLE and image resend. -/
  | pairAckRx (m : PairMsg) (path : Nat)
  /-- TAKE_RX (R366): A TAKE message from a new holder is received. -/
  | takeRx (m : PairMsg) (path : Nat)
  /-- ASK_RX (R372): The holder receives ASK and names the handover boundary B. -/
  | askRx (m : PairMsg) (path : Nat)
  /-- PASS_SEND (R372): Every 250 µs the holder sends PASS on both paths until the confirm point. -/
  | passSend
  /-- PASS_RX (R372): The warm home answers PASS with PASS_ACK on both paths. -/
  | passRx (m : PairMsg) (path : Nat)
  /-- PASS_ACK_RX (R372): The holder records a PASS_ACK on a path. -/
  | passAckRx (m : PairMsg) (path : Nat)
  /-- HANDOVER_CONFIRM_POINT (R372): At T(B) − 1 FP the holder sends CONFIRM or CANCEL. -/
  | handoverConfirmPoint
  /-- CONFIRM_RX (R372): The home receives CONFIRM for the handover at B. -/
  | confirmRx (m : PairMsg) (path : Nat)
  /-- PAIR_CANCEL_RX (R372): The home receives CANCEL and returns to STANDBY. -/
  | pairCancelRx (m : PairMsg) (path : Nat)
  /-- HANDOVER_AT_B (R372): At T(B) ACTIVE and senders change between holder and home and GEN increases. -/
  | handoverAtB
  /-- RELAY_END (R372): After 32 fabric cycles of relaying control cells the former holder enters STANDBY. -/
  | relayEnd
  /-- JACK_RX (R360): The holder receives a JACK confirming a journal record and may release waiting ARMED or ACK. -/
  | jackRx (m : PairMsg) (path : Nat)
  /-- LEAVE_RX (R354): A holder receives LEAVE and becomes SOLE. -/
  | leaveRx (m : PairMsg) (path : Nat)
  /-- JOURNAL_RECORD_RX (R360): The partner's journal receiver takes a complete record, buffers it and returns JACK. -/
  | journalRecordRx (jseq : Nat) (type : Nat) (fi : Nat) (data : List Byte) (lost : Option Nat)
  /-- JOURNAL_DIVERGED (R360): A journal record waits unconfirmed beyond 2 FP and the holder sets DIVERGED. -/
  | journalDiverged
  /-- PATH_LIVENESS_TIMEOUT (R356): No valid message on a path for 1 ms and the path stops being live. -/
  | pathLivenessTimeout (path : Nat)
  /-- LEASE_END (R358): An ACTIVE holder's lease end passes and it fences. -/
  | leaseEnd
  /-- RECESS_WAKE (R365): Every 250 µs a standby unit wakes in hardware, answers BEATs and may take the tablet. -/
  | recessWake
  /-- TAKEOVER_WAKE_DONE (R366): The Wake step of a takeover ends with the device in RUN and memories trained. -/
  | takeoverWakeDone
  /-- TAKEOVER_RESTORE_DONE (R366): The image is restored, links and ports started, and ACTIVE is driven. -/
  | takeoverRestoreDone
  /-- FIRST_COMMIT (R368): At the first boundary 1 FP after Drive the platforms follow the restored crosspoints. -/
  | firstCommit (dom : Nat)
  /-- RESTORED_FLOW_TIMEOUT (R367): A restored input flow not ready within 16 FP of Drive becomes HELD. -/
  | restoredFlowTimeout (flow : Nat)
  /-- REVERT_HOLD_OFF (R371): A home standby ready with both paths for HOLD_OFF_S seconds enters WARM to ask for the tablet. -/
  | revertHoldOff
  /-- WARM_PERIOD_END (R371): The warm period ends and the home sends ASK on both paths. -/
  | warmPeriodEnd
  /-- CONSEQ_WINDOW_END (R383): A consequence window reaches CONSEQ_US from its stamp and closes. -/
  | conseqWindowEnd
  /-- CHIP_RESET_REACTION (R379): 10 µs after a raise with CHIP_RESET the device resets as on PERST#. -/
  | chipResetReaction
  /-- NMT_SNAPSHOT_TAKEN (R379): Firmware finishes copying a block's 256-byte state into the snapshot buffer after a trap. -/
  | nmtSnapshotTaken (bytes : List Byte)
  /-- BLOCK_ERROR_PIN (R385): A block's error pin is latched into FLT_HEALTH. -/
  | blockErrorPin (block : Nat) (room : Nat)
  /-- ROLL_CALL (R393): Each frame every crosspoint word's INTENT is compared with its LIVE latch. -/
  | rollCall (dom : Nat)
  /-- ALIVE_TOGGLE (R387): At each multiple of 500 µs the ALIVE pin toggles unless stopped. -/
  | aliveToggle
  /-- FW_WATCHDOG (R387): Firmware fails to refresh the watchdog within WDOG_MS. -/
  | fwWatchdog
  /-- PWR_BLOCK_ANSWER (R404): A quiescing block answers AGREE or REFUSE; the next block is asked or the transition abandoned. -/
  | pwrBlockAnswer
  /-- PWR_ACK_TIMEOUT (R404): A block gives no answer within ACK_US and counts as refused. -/
  | pwrAckTimeout
  /-- PWR_TRANSITION_DONE (R406): A power transition completes gating or ungating and the pending request starts. -/
  | pwrTransitionDone
  /-- PWR_RETRY (R405): Every 100 ms a refused transition requested by the redundancy controller is retried. -/
  | pwrRetry
  /-- SERVICE_WAKE (R402): A command reaching an enabled ring in RECESS raises core 0, the bus matrix and SRAM to run it. -/
  | serviceWake (ring : Nat)
  /-- SERVICE_WAKE_END (R402): No command has been pending for 1 ms and the service wake ends. -/
  | serviceWakeEnd
  /-- AVS_REQUEST (R410): At most every 10 ms a rail is sent a voltage request toward its target. -/
  | avsRequest (rail : Nat)
  /-- AVS_RESPONSE (R410): A regulator's status response puts the new voltage in force. -/
  | avsResponse (rail : Nat) (mv : Nat)
  /-- AVS_TIMEOUT (R411): No AVS response within TIMEOUT_US or a bus error keeps the old voltage and retries. -/
  | avsTimeout (rail : Nat) (error : Bool)
  /-- AVS_READ (R411): Every 100 ms each rail's voltage and current are read. -/
  | avsRead (readings : List (Nat × Nat × Nat))
  /-- SENSOR_SAMPLE (R412): Every 1 ms the die sensors are sampled, failures judged and Tmax formed. -/
  | sensorSample (codes : List Int)
  /-- THERM_TRIP_RELEASE (R415): Every valid sensor has been below TRIP_C − 10 °C for 1 s and THERM_TRIP is released. -/
  | thermTripRelease
  /-- THERMAL_LOOP (R413): Every 100 ms each enabled cooling output's duty is recomputed with feed-forward and slew. -/
  | thermalLoop (edges : List Nat)
  /-- FAN_STALL (R413): An output at or above MIN_DUTY sees no tachometer pulse for 2 s. -/
  | fanStall (out : Nat)
  /-- POWER_UP (R416): Supplies come up and the always-on island leaves its power-on reset with the counter at 0. -/
  | powerUp
  /-- PERST_RELEASE (R416): PERST# is released and the start-up sequence runs from root PLL lock to boot. -/
  | perstRelease
  /-- PERST_ASSERT (R416): PERST# is asserted and the device is chip-reset. -/
  | perstAssert
  /-- SYS_PWRGD_FALL (R441): SYS_PWRGD falls while PERST_N is high and the device acts as on PERST#. -/
  | sysPwrgdFall
  /-- GPIO0_WAKE (R409): A rising edge on GPIO 0 with WAKE_EN leaves OFF as a chip reset outside the island. -/
  | gpio0Wake
  /-- BOOT_IMAGE_VERIFIED (R424): The boot ROM finishes verifying slots and starts firmware from the first that verifies, or
  reads FAILED. -/
  | bootImageVerified (a : SlotImage) (b : SlotImage)
  /-- CXL_CONFIG_READY (R417): CXL configuration becomes ready at start-up, opening BAR0 to the host. -/
  | cxlConfigReady
  /-- TAMPER_ASSERT (R427): TAMPER_N is held low beyond its filter time, secure SRAM is wiped and security commands are barred. -/
  | tamperAssert
  /-- DPLL_SETTLED (R58): The DPLL's phase and frequency settle within the loop, moving the mode from ACQUIRE to LOCKED and
  ending a build-out slew. -/
  | dpllSettled
  /-- PTP_MESSAGE_SEND (R203): Management firmware sends a PTP message in queue 7, which is stamped at egress and, in one-step
  mode, given its originTimestamp and a corrected UDP checksum. -/
  | ptpMessageSend (mac : Nat) (frame : PtpFrame)
  /-- RUN_AHEAD_REQUEST_EXPIRY (R102): A RUN_AHEAD request kept by a device that never loaded the page is discarded when the
  page's guard passes. -/
  | runAheadRequestExpiry (page : Nat)
  /-- ENGINE_TILE_RESET_RELEASE (R380): An engine tile held in reset by a BLOCK_RESET reaction is released after 10 µs and
  takes work items again. -/
  | engineTileResetRelease (room : Nat) (tile : Nat)
  /-- RGMII_IN_BAND_STATUS (R209): The external PHY's RGMII in-band status changes, moving the management MAC's link state and
  NMP_MGMT_STATUS.LINK. -/
  | rgmiiInBandStatus (link : Bool) (speed : Nat) (full : Bool)
deriving DecidableEq, Repr

end Sys2Proof
end

