-- ==== Sys2Proof/Machine/Bits.lean ====
section
/-!
DEFINITION. Bit fields, little-endian byte strings (R2), two's complement (R332), saturating counts, and the
association list `Tab` in which the model keeps every table that is indexed by a number.
-/
namespace Sys2Proof.Machine
open Sys2Proof

/-- Bits `[hi:lo]` of a number, as every register map and layout of the manual names them (R2). -/
def bits (n hi lo : Nat) : Nat := n / 2 ^ lo % 2 ^ (hi + 1 - lo)

/-- Bit `i` of a number. -/
def bit (n i : Nat) : Bool := n / 2 ^ i % 2 == 1

/-- A flag placed at bit `i`. -/
def flag (b : Bool) (i : Nat) : Nat := if b then 2 ^ i else 0

/-- A count of `w` bits that saturates. -/
def satAdd (w n k : Nat) : Nat := min (n + k) (2 ^ w - 1)

/-- Quotient rounded up. -/
def ceilDiv (a b : Nat) : Nat := (a + b - 1) / b

/-- The number with bit `i` set. -/
def setBit (n i : Nat) : Nat := if bit n i then n else n + 2 ^ i

/-- The number with bit `i` cleared. -/
def clrBit (n i : Nat) : Nat := if bit n i then n - 2 ^ i else n

/-- A `w`-bit pattern read as a signed number (R332). -/
def toSigned (w n : Nat) : Int :=
  if n % 2 ^ w < 2 ^ (w - 1) then ((n % 2 ^ w : Nat) : Int) else ((n % 2 ^ w : Nat) : Int) - ((2 ^ w : Nat) : Int)

/-- The `w`-bit two's complement pattern of a signed number (R332). -/
def ofSigned (w : Nat) (z : Int) : Nat := (z % ((2 ^ w : Nat) : Int)).toNat

/-- A signed number clamped to `w` bits, as a pattern. -/
def clampSigned (w : Nat) (z : Int) : Nat :=
  ofSigned w (max (-((2 ^ (w - 1) : Nat) : Int)) (min z (((2 ^ (w - 1) : Nat) : Int) - 1)))

/-- The distance between two signed numbers. -/
def absDiff (a b : Int) : Nat := (a - b).natAbs

/-! ## Byte strings, little-endian (R2) -/

/-- `n` as `len` bytes, least significant first. -/
def leBytes : Nat → Nat → List Byte
  | 0, _ => []
  | len + 1, n => BitVec.ofNat 8 n :: leBytes len (n / 256)

/-- The number that a little-endian byte string spells. -/
def leNat : List Byte → Nat
  | [] => 0
  | b :: bs => b.toNat + 256 * leNat bs

/-- `len` bytes from `off`; bytes past the end are absent. -/
def slice (l : List Byte) (off len : Nat) : List Byte := (l.drop off).take len

/-- The little-endian field of `len` bytes at `off` (R2). -/
def fieldAt (l : List Byte) (off len : Nat) : Nat := leNat (slice l off len)

/-- The big-endian field of `len` bytes at `off`, for network protocol headers. -/
def beAt (l : List Byte) (off len : Nat) : Nat := leNat (slice l off len).reverse

/-- `n` as `len` bytes, most significant first. -/
def beBytes (len n : Nat) : List Byte := (leBytes len n).reverse

/-- `n` zero bytes (reserved bytes read and are written 0, R3). -/
def zeros (n : Nat) : List Byte := List.replicate n 0

/-- A byte string cut or zero-filled to `n` bytes. -/
def padTo (n : Nat) (l : List Byte) : List Byte := (l ++ zeros n).take n

/-- The length rounded up to the alignment `a` (R332). -/
def alignUp (a n : Nat) : Nat := ceilDiv n a * a

/-- Parameters packed one after another, each aligned to its own size (R332): `(size, value)` pairs from offset `off`. -/
def packFrom : Nat → List (Nat × Nat) → List Byte
  | _, [] => []
  | off, (sz, v) :: rest =>
    zeros (alignUp sz off - off) ++ leBytes sz v ++ packFrom (alignUp sz off + sz) rest

/-- Parameters unpacked under R332, their sizes given, from a byte string that starts at offset `off`. -/
def unpackFrom : Nat → List Nat → List Byte → List Nat
  | _, [], _ => []
  | off, sz :: rest, l =>
    leNat ((l.drop (alignUp sz off - off)).take sz) ::
      unpackFrom (alignUp sz off + sz) rest (l.drop (alignUp sz off - off + sz))

/-! ## Tables -/

/-- A table indexed by a number: strictly rising keys, an absent key holding the table's default. -/
abbrev Tab (α : Type) := List (Nat × α)

/-- The entry of a key, if the table lists it. -/
def tget? {α : Type} : Tab α → Nat → Option α
  | [], _ => none
  | (k, v) :: t, i => if k = i then some v else tget? t i

/-- The entry of a key, or the default. -/
def tgetD {α : Type} (t : Tab α) (i : Nat) (d : α) : α := (tget? t i).getD d

/-- The table with the key's entry set, keys kept strictly rising. -/
def tput {α : Type} : Tab α → Nat → α → Tab α
  | [], i, v => [(i, v)]
  | (k, w) :: t, i, v =>
    if i < k then (i, v) :: (k, w) :: t
    else if i = k then (i, v) :: t
    else (k, w) :: tput t i v

/-- The table without the key. -/
def tdel {α : Type} (t : Tab α) (i : Nat) : Tab α := t.filter (fun p => p.1 != i)

/-- The entry of a key changed by a function, from the default where absent. -/
def tupd {α : Type} (t : Tab α) (i : Nat) (d : α) (f : α → α) : Tab α := tput t i (f (tgetD t i d))

/-- Every entry changed by a function. -/
def tmap {α : Type} (t : Tab α) (f : Nat → α → α) : Tab α := t.map (fun p => (p.1, f p.1 p.2))

/-- The keys of the entries that meet a test. -/
def tkeys {α : Type} (t : Tab α) (f : Nat → α → Bool) : List Nat := (t.filter (fun p => f p.1 p.2)).map Prod.fst

/-- How many entries meet a test. -/
def tcount {α : Type} (t : Tab α) (f : Nat → α → Bool) : Nat := (t.filter (fun p => f p.1 p.2)).length

/-- Whether the keys rise strictly: the canonical form of a table. -/
def tsorted {α : Type} : Tab α → Bool
  | [] => true
  | [_] => true
  | (a, _) :: (b, w) :: t => decide (a < b) && tsorted ((b, w) :: t)

/-- The sum of a measure over a list. -/
def sumBy {α : Type} (l : List α) (f : α → Nat) : Nat := (l.map f).sum

/-- The first key below `n` that a test accepts. -/
def firstFree (n : Nat) (ok : Nat → Bool) : Option Nat := (List.range n).find? ok

end Sys2Proof.Machine
end

