-- ==== Sys2Proof/Machine/State.lean ====
section
/-!
DEFINITION. The state of the HG1024: every register, ring, table, memory, timer and pin level the manual gives the
device, as plain data, and the state right after reset. A field's default is its value at reset.
-/
namespace Sys2Proof.Machine
open Sys2Proof

/-! ## Host interface (R320 to R350) -/

/-- A command ring's own state (R328, R330, R333, R334). -/
structure CmdRing where
  en : Bool := false
  error : Bool := false
  head : Nat := 0
  /-- The last valid PRODUCER read (R329). -/
  producer : Nat := 0
  /-- The last PRODUCER value read, valid or not: DB_INVALID is raised once per change of value (R329). -/
  seen : Nat := 0
  /-- The ring's last command has not yet written its completion (R333). -/
  busy : Bool := false
  /-- The link was lost while that command ran: its completion is discarded (R323). -/
  gone : Bool := false
deriving DecidableEq, Repr

/-- A completion ring's own state (R330, R336). -/
structure CplRing where
  en : Bool := false
  tail : Nat := 0
  phase : Bool := false
  /-- The consumer index as last read (R329). -/
  cons : Nat := 0
  /-- Entries written and not yet consumed (R336). -/
  used : Nat := 0
deriving DecidableEq, Repr

/-- An event ring's own state (R330, R337, R338). -/
structure EvtRing where
  en : Bool := false
  tail : Nat := 0
  phase : Bool := false
  cons : Nat := 0
  used : Nat := 0
  /-- HIF_EVT_LOST.COUNT. -/
  lost : Nat := 0
  /-- Records dropped since the last OVERFLOW record (R338). -/
  owed : Nat := 0
deriving DecidableEq, Repr

/-- An event record before it is laid out in its ring (R337); `signal` says whether it signals the ring's vector (R342). -/
structure EvRec where
  stamp : Nat
  src : Nat
  kind : Nat
  sev : Nat
  addr : Nat
  data : List Byte
  tag : Nat
  signal : Bool
deriving DecidableEq, Repr

/-- One MSI-X vector: its table words, its pending bit and its hold-off (R324, R342). -/
structure MsixVec where
  addrLo : Word := 0
  addrHi : Word := 0
  data : Word := 0
  /-- Vector control; bit 0 masks the vector. -/
  ctrl : Word := 1
  pend : Bool := false
  /-- The instant at which the running hold-off ends. -/
  until_ : Nat := 0
  /-- The hold-off of the ring whose write was deferred, to be signalled at its end. -/
  deferred : Option Nat := none
deriving DecidableEq, Repr

/-- A FENCE waiting for the commands fetched before it (R341). -/
structure Fence where
  cmd : Cmd
  rings : List Nat
deriving DecidableEq, Repr

/-- The last completion a command formed (R335): the model's own record of it, kept whether or not its completion ring
could take the entry. -/
structure Completed where
  ring : Nat
  tag : Nat
  op : Nat
  st : Nat
  result : Nat
  err : Nat
deriving DecidableEq, Repr

/-- What the last host read of BAR0 or BAR2 answered (R325, R324). -/
inductive Resp where
  | data (w : Word)
  | completerAbort
  | unsupportedRequest
  | memory (bytes : List Byte)
  | poisoned
  /-- The error response of the bus matrix (R326, R345). -/
  | errorResponse
deriving DecidableEq, Repr

/-- The host interface. -/
structure Hif where
  /-- HIF_SETUP_LOCK.LOCK (R327). -/
  lock : Bool := false
  cmd : Tab CmdRing := []
  cpl : Tab CplRing := []
  evt : Tab EvtRing := []
  /-- FINAL records held while the link is down or their ring is disabled, in the order raised (R323). -/
  held : List EvRec := []
  fences : List Fence := []
  msix : Tab MsixVec := []
  /-- The PCIe function mask of MSI-X (R342). -/
  fnMask : Bool := false
  /-- Host memory as the device reads and writes it; an address not listed reads 0. -/
  mem : List Host.Cell := []
  /-- Doorbell and consumer-index lines held Shared in the device cache (R322). -/
  lines : List Nat := []
  /-- The ring served last in round robin (R333). -/
  served : Nat := 63
  /-- SEQ of the last report card written, 0 for none (R343). -/
  cardSeq : Nat := 0
  /-- The last whole second at which a report card was written or passed over (R343, R455). -/
  cardSec : Nat := 0
  linkUp : Bool := false
  cxlIo : Bool := false
  cxlCache : Bool := false
  cxlMem : Bool := false
  width : Nat := 0
  speed : Nat := 0
  /-- CXL component registers, by BAR0 offset (R324). -/
  comp : Tab Word := []
  resp : Option Resp := none
  replied : Option Completed := none
  /-- Management SRAM serves one access at a time (R347); 1 in boot ROM execution, memory test and recovery. -/
  sramSingle : Bool := true
  /-- The master last granted the path to each target of the control-plane crossbar (R344). -/
  granted : Tab Nat := []
deriving DecidableEq, Repr

/-! ## Fault collector (R377 to R399) -/

/-- The status words of one source (R381), with what R382 needs to order a clear against a raise of the same instant. -/
structure SrcStat where
  sticky : Bool := false
  conseq : Bool := false
  count : Nat := 0
  first : Nat := 0
  last : Nat := 0
  /-- The instant of the latest raise, in full. -/
  lastAt : Nat := 0
  /-- Raises at that instant, and whether the latest was consequential. -/
  sameN : Nat := 0
  lastConseq : Bool := false
deriving DecidableEq, Repr

/-- A consequence window (R383). -/
structure Window where
  src : Nat
  opened : Nat
  dep : Nat
  until_ : Nat
deriving DecidableEq, Repr

/-- An entry of the address log (R386). -/
structure AlogEntry where
  addr : Nat := 0
  space : Nat := 0
  origin : Nat := 0
  source : Nat := 0
  stamp : Nat := 0
deriving DecidableEq, Repr

/-- The words of an entry's read latch (R386). -/
structure AlogLatch where
  hi : Nat := 0
  info : Nat := 0
  stamp : Nat := 0
deriving DecidableEq, Repr

/-- A snapshot taken after an NMT trap (R379). -/
structure Snapshot where
  src : Nat
  stamp : Nat
  bytes : List Byte
deriving DecidableEq, Repr

/-- The unit a block reset names (R380). -/
inductive ResetUnit where
  | link (n : Nat)
  | lane (n : Nat)
  | sdiRx (p : Nat)
  | sdiTx (p : Nat)
  | mac (m : Nat)
  | tile (c t : Nat)
  | audPort (p : Nat)
deriving DecidableEq, Repr

/-- The fault collector. -/
structure Flt where
  stat : Tab SrcStat := []
  windows : List Window := []
  /-- Records raised and not yet written to their ring, oldest first (R337). -/
  evq : List EvRec := []
  /-- FLT_HEALTH and FLT_HEALTH_IKA, with the instant each bit was last set (R382, R385). -/
  health : Nat := 0
  healthIka : Nat := 0
  healthAt : Tab Nat := []
  aliveLevel : Bool := false
  aliveStopped : Bool := false
  aliveBy : Nat := 0
  /-- The last multiple of 500,000 ns at which ALIVE toggled (R387). -/
  aliveAt : Nat := 0
  nmt : Option (Nat × Nat) := none
  snap : Option Snapshot := none
  snapLost : Nat := 0
  /-- FLT_RESET_CAUSE, held in the always-on island. -/
  resetCause : Option Nat := none
  /-- The instant of a chip reset already decided (R379). -/
  chipResetAt : Option Nat := none
  /-- Block resets decided in this cycle and not yet carried out (R379, R380). -/
  resetQ : List ResetUnit := []
  sigCount : Nat := 0
  rcMismatch : Nat := 0
  rcSkipped : Nat := 0
  alog : Tab AlogEntry := []
  alogLatch : Tab AlogLatch := []
  alogValid : Nat := 0
  alogNext : Nat := 0
  alogLost : Nat := 0
  /-- Raises since the last whole second by severity (R343). -/
  sevCount : List Nat := [0, 0, 0, 0]
  /-- The instant of the last watchdog refresh (R387). -/
  wdogAt : Nat := 0
  /-- The instant of the last watchdog refresh, or of the last expiry after it (R387). -/
  wdogLast : Nat := 0
  /-- The instant of the last AUDIT_MISMATCH of a crosspoint word (R393). -/
  rollAt : Tab Nat := []
  /-- Limits of one record per interval: the last interval in which a limited event was raised, by event and instance. -/
  limit : List ((Nat × Nat) × Nat) := []
deriving DecidableEq, Repr

/-! ## Flows and consists (R19 to R44) -/

/-- Where a flow stands in its lifecycle (R21 STATE, R22). -/
inductive FlowSt where
  | defined
  | running
  | stopped
  | held
deriving DecidableEq, Repr

/-- A flow-table entry (R21) with its state and what a stop in progress needs (R22). -/
structure Flow where
  essence : Nat := 0
  endpoint : Nat := 0
  port : Nat := 0
  locked : Bool := false
  domain : Nat := 0
  colour : Nat := 0
  format : Nat := 0
  feeder : Nat := 0
  latency : Nat := 0
  rate : Nat := 0
  base : Nat := 0
  count : Nat := 0
  params : List Byte := []
  sigEn : Bool := false
  /-- Host address of the entry last passed to FLOW_DEFINE (R22, R44). -/
  addr : Nat := 0
  st : FlowSt := .defined
  /-- Platform depth D of a video output flow (R82). -/
  depth : Nat := 4
  /-- An armed FLOW_STOP and the instant at which its 1 FP wait ends (R22). -/
  stop : Option (Cmd × Nat) := none
  /-- Further FLOW_STOPs that wait for the same end (R22). -/
  stopMore : List Cmd := []
  /-- The instant at which a flow restored by a takeover becomes HELD unless it is ready (R367). -/
  restore : Option Nat := none
  /-- The format detected when the flow became HELD; 0xFFFF for none (R26, R260). -/
  detected : Nat := 0xFFFF
  /-- The instant at which the flow last became RUNNING: its silence is counted from there (R190, R192). -/
  runAt : Nat := 0
deriving DecidableEq, Repr

/-- A consist (R28, R29): members are `(role, flow number)`. -/
structure Consist where
  kind : Nat := 0
  division : Nat := 0
  members : List (Nat × Nat) := []
deriving DecidableEq, Repr

/-! ## Time, references and holdover (R45 to R76) -/

/-- A reference candidate (R51 to R55, R60). -/
structure Cand where
  qualified : Bool := false
  freqWarn : Bool := false
  los : Bool := false
  /-- Last disqualification: 0 none or disabled, 1 LOS, 2 FREQ, 3 RATE. -/
  cause : Nat := 0
  /-- Frequency offset in units of 0.1 ppb (R53). -/
  offset : Int := 0
  /-- Since when the candidate has been enabled, free of LOS and within its accept limit. -/
  okSince : Option Nat := none
  /-- TIM_REF_HIST bits and the instants at which they were last set (R55, R382). -/
  hist : Nat := 0
  histAt : Tab Nat := []
  /-- Offsets measured over the last 60 s, newest first, for the drift estimate of R60. -/
  trend : List (Nat × Int) := []
  /-- Measured V phase (TIM_VPHASE). -/
  vValid : Bool := false
  vPhase : Nat := 0
  /-- Time of a time-bearing candidate against the system counter, ns, as last received. -/
  timeOff : Int := 0
  hasTime : Bool := false
deriving DecidableEq, Repr

/-- A PTP time base: its difference from the system counter, its pending step (R62, R64), and a correction within STEP_NS
being slewed since an instant. -/
structure Ptb where
  delta : Int := 0
  pend : Option Int := none
  slew : Int := 0
  slewAt : Nat := 0
deriving DecidableEq, Repr

/-- One sample of the LOCKED history (R67): its instant, the output's frequency in ppt, the sum of the 32 die sensors in
0.25 °C, and the oven code. -/
structure LockSample where
  at_ : Nat := 0
  freq : Int := 0
  die : Int := 0
  oven : Nat := 0
deriving DecidableEq, Repr

/-- Mode of the DPLL (TIM_SEL_STATUS.MODE). -/
inductive DpllMode where
  | freeRun
  | acquire
  | locked
  | holdover
deriving DecidableEq, Repr

/-- The timing complex. -/
structure Tim where
  /-- The 64-bit system nanosecond counter (R45) and its 32-bit fraction. -/
  now : Nat := 0
  frac : Nat := 0
  /-- TIM_SYSTIME_HI as latched (R46). -/
  hiLatch : Nat := 0
  cands : Tab Cand := []
  mode : DpllMode := .freeRun
  forced : Bool := false
  sel : Nat := 31
  /-- A build-out is in progress, and the phase it holds as an offset (R58). -/
  buildOut : Bool := false
  phaseOff : Int := 0
  /-- The rate to which the counter is trimmed against the untuned oscillator, ppt (R45, R58). -/
  rate : Int := 0
  /-- A correction of the counter within STEP_NS being slewed, and since when (R64). -/
  slew : Int := 0
  slewAt : Nat := 0
  /-- Forward steps of the counter, oldest first: from and to (R455). -/
  jumps : List (Nat × Nat) := []
  /-- Last instants of the periodic actions: selector tick, frequency gate, DAC frame, oven reading (R53, R57, R69). -/
  tickAt : Nat := 0
  gateAt : Nat := 0
  dacAt : Nat := 0
  ovenAt : Nat := 0
  /-- When each of the other periodic actions last took place, by its number (R16; the numbers stand at Machine.Periodic). -/
  lastAt : Tab Nat := []
  /-- Candidate pairs found to disagree (R59). -/
  disagree : List (Nat × Nat) := []
  ptb : Tab Ptb := []
  /-- Pending step of the system counter (R64). -/
  pend : Option Int := none
  /-- A time-bearing candidate has been acquired since reset (R66). -/
  acquired : Bool := false
  /-- LOCKED history: when it began, and its length in ns when LOCKED was left (R67, R68). -/
  lockedSince : Option Nat := none
  history : Nat := 0
  /-- Samples of the LOCKED history, newest first (R67). -/
  samples : List LockSample := []
  /-- Start of the holdover in progress, whether HQ has become DEGRADED, and seconds corrected (R67, R68). -/
  holdSince : Option Nat := none
  degraded : Bool := false
  corrections : Nat := 0
  /-- Averages kept over the history window: frequency (ppt), sum of the 32 die sensors (0.25 °C), oven code, and the
  window's midpoint in s (R67). -/
  fAvg : Int := 0
  dAvg : Int := 0
  kAvg : Int := 0
  tAvg : Int := 0
  /-- Holdover coefficients C_DIE1, C_DIE2, C_OVEN, AGE (R67). -/
  coef : List Int := [0, 0, 0, 0]
  /-- OCXO frequency correction set in holdover, ppt (R67). -/
  freq : Int := 0
  dac : Nat := 0
  /-- The DAC code and the rate at which the holdover began (R67, R69). -/
  dacHold : Nat := 0
  rateHold : Int := 0
  ovenCode : Nat := 0
  ovenStable : Bool := false
  ovenSince : Option Nat := none
  ovenStuck : Nat := 0
  /-- The last boundary FI strobed for each enabled domain (R48). -/
  strobed : Tab Nat := []
deriving DecidableEq, Repr

/-! ## Switch core: crosspoint table, platforms, cell memory (R77 to R84, R111) -/

/-- A crosspoint word (R78), its protection state (R81) and the direct write still to be latched (R108). -/
structure XpWord where
  sel : Bool := false
  pend : Bool := false
  mgmt : Bool := false
  page : Nat := 0
  src : Nat := 0
  bad : Bool := false
  /-- Instant of the last write through either port (R80, R393). -/
  wrote : Nat := 0
  /-- Instant of the last timetable-port write, for a collision in the same cycle (R80). -/
  ttAt : Option Nat := none
  /-- TAG and source of each XP_DIRECT not yet latched, oldest first (R108). -/
  direct : List (Nat × Nat) := []
deriving DecidableEq, Repr

/-- What a platform or engine input latched (R79, R109). -/
structure XpLive where
  sel : Bool := false
  src : Nat := 0
  /-- Frame for which it was latched, and the instant of the latch. -/
  fi : Nat := 0
  at_ : Nat := 0
  /-- The latch met an uncorrectable word and kept the previous source (R81). -/
  kept : Bool := false
  /-- The source latched for the frame before, none for SEL = 0. -/
  was : Option Nat := none
deriving DecidableEq, Repr

/-- A line, audio block slice or frame stream stored in cell memory (R33 to R37, R43). -/
structure Stored where
  line : Nat := 0
  fi : Nat := 0
  /-- Payload bytes so far and cells received. -/
  bytes : List Byte := []
  cells : Nat := 0
  complete : Bool := false
  /-- The line signature stored with the last cell (R388); none for fill. -/
  sig : Option Nat := none
  /-- Segments of a line not yet complete, by byte offset (R187). -/
  parts : Tab (List Byte) := []
  /-- The instant at which it was complete. -/
  at_ : Nat := 0
deriving DecidableEq, Repr

/-- A platform: the last line it read and whether its source has been reported HELD (R27, R84). -/
structure Platform where
  line : Nat := 0
  bytes : List Byte := []
  fill : Bool := true
  src : Nat := 0
  fi : Nat := 0
  sig : Option Nat := none
  heldSrc : Option Nat := none
  /-- The source that an opaque output was sending when frame `fi` began (R37). -/
  cur : Option Nat := none
deriving DecidableEq, Repr

/-- A cell-memory row being or having been spared (R111). -/
structure RowSpare where
  bank : Nat
  row : Nat
  spare : Nat
  dom : Nat
  fi : Nat
  tag : Nat
  copied : Bool := false
  swapped : Bool := false
deriving DecidableEq, Repr

/-- The switch core. -/
structure Swc where
  xp : Tab XpWord := []
  live : Tab XpLive := []
  plats : Tab Platform := []
  store : Tab (Tab Stored) := []
  rows : List RowSpare := []
  prefetchDiscard : Nat := 0
  xpCollision : Nat := 0
deriving DecidableEq, Repr

/-! ## Timetable pages (R85 to R107) -/

/-- A timetable entry (R86). -/
structure PageEntry where
  type : Nat := 0
  target : Nat := 0
  source : Nat := 0
  arg : Nat := 0
deriving DecidableEq, Repr

/-- State of a page as PAGE_STATUS codes it (R110). -/
inductive PageSt where
  | free
  | loaded
  | armed
  | committed
  | applying
  | applied
  | withdrawn
  | late
  | collecting
  | commitSent
  | confirmed
  | commitMissed
deriving DecidableEq, Repr

/-- A run-ahead window (R101, R103). -/
structure RunAhead where
  /-- Crosspoint word of the output or engine input that gathers the window. -/
  word : Nat
  src : Nat
  depth : Nat
  filled : Bool := false
  /-- Consecutive complete lines gathered. -/
  got : Nat := 0
  cancelled : Bool := false
  discarded : Bool := false
deriving DecidableEq, Repr

/-- A change that a page's entry makes here (R31, R87, R105): a crosspoint word; an audio crosspoint, with RAMP, the ns from
T(ACT_FI) to the earliest start of its ramp, and whether a CONSIST_TAKE makes it; a parameter set; a slot group. -/
inductive Change where
  | word (w : Nat) (sel : Bool) (src : Nat)
  | audio (out inp gain ramp off : Nat) (take_ : Bool)
  | param (pf set : Nat)
  | mask (link group : Nat) (opens : Bool)
deriving DecidableEq, Repr

/-- A resident or last-held page (R85, R96, R97, R110). -/
structure Page where
  id : Nat := 0
  coord : Nat := 0
  actFi : Nat := 0
  /-- The activation frame's full frame index. -/
  actN : Nat := 0
  dom : Nat := 0
  lead : Nat := 0
  localOnly : Bool := false
  parts : List Nat := []
  entries : List PageEntry := []
  addr : Nat := 0
  /-- TAG of the PAGE_LOAD; none for a page restored from the journal (R369). -/
  tag : Option Nat := none
  /-- What the page changes here, as fixed at its admission (R32). -/
  changes : List Change := []
  /-- The change of P_est the page makes, 0.01 W (R93, R414). -/
  power : Int := 0
  /-- The page is held here as a participant, and its participant state (R96). -/
  part : Bool := false
  pst : PageSt := .free
  /-- The page is held here as coordinator, and its coordinator state (R97). -/
  coordHere : Bool := false
  cst : PageSt := .free
  reason : Nat := 0
  armedTs : Nat := 0
  commitTs : Nat := 0
  appliedTs : Nat := 0
  badEntry : Nat := 0xFFFFFFFF
  missing : List Nat := []
  armedFrom : List Nat := []
  /-- Devices whose ACK is held, with their LATE flag (R97). -/
  acks : List (Nat × Bool) := []
  /-- WITHDRAWN is still being resent until the guard (R95). -/
  resendW : Bool := false
  resendAt : Nat := 0
  windows : List RunAhead := []
  /-- Feeder references to which RUN_AHEAD was sent (R102). -/
  asked : List Nat := []
  /-- Groups opened early for this page: `(link, group, feeder reference)` (R102, R103). -/
  opened : List (Nat × Nat × Nat) := []
  /-- Crosspoint words written at activation and not yet latched (R79, R96). -/
  unlatched : List Nat := []
deriving DecidableEq, Repr

/-- A RUN_AHEAD request kept until its page is loaded or its guard passes (R102). -/
structure RaRequest where
  page : Nat
  flow : Nat
  guard_ : Nat
deriving DecidableEq, Repr

/-- The timetable engine. -/
structure Tt where
  slots : Tab Page := []
  requests : List RaRequest := []
  /-- Slot groups to open or close at the first cycle boundary at or after an instant (R105): `(instant, link, group, open)`. -/
  masks : List (Nat × Nat × Nat × Bool) := []
  /-- Windows cancelled with their pages' run-ahead, whose cells are discarded and counted: PAGE_ID and window (R103). -/
  cancelled : List (Nat × RunAhead) := []
deriving DecidableEq, Repr

/-! ## Aiquel fabric (R115 to R153) -/

/-- State of a fabric link, in LINK_READ's order (R126, R152). -/
inductive LinkSt where
  | down
  | framing
  | hello
  | timing
  | up
  | quiet
  | held
deriving DecidableEq, Repr

/-- A slot-plan entry (R132): KIND 0 FREE, 1 CONTROL, 2 LOCAL, 3 TRANSIT. -/
structure PlanEntry where
  kind : Nat := 0
  group : Nat := 0
  label : Nat := 0
  ref : Nat := 0
deriving DecidableEq, Repr

/-- One slot-plan bank of a link: transmit and receive tables, an absent slot being FREE (R132). -/
structure PlanBank where
  tx : Tab PlanEntry := []
  rx : Tab PlanEntry := []
  /-- The bank has been loaded and admitted (R135). -/
  ok : Bool := false
deriving DecidableEq, Repr

/-- A control cell (R120, R121). -/
structure CtrlCell where
  dest : Nat := 0
  src : Nat := 0
  ctype : Nat := 0
  hop : Nat := 0
  hops : Nat := 0
  visit : Bool := false
  seq : Nat := 0
  msg : List Byte := []
  route : List Nat := []
deriving DecidableEq, Repr

/-- An unscheduled cell (R119), with the link it arrived on, whose buffer credit it holds (R148). -/
structure UnschedCell where
  dest : Nat := 0
  src : Nat := 0
  cls : Nat := 0
  ttl : Nat := 0
  len : Nat := 0
  seq : Nat := 0
  data : List Byte := []
  from_ : Option Nat := none
deriving DecidableEq, Repr

/-- A fabric link. -/
structure Link where
  st : LinkSt := .down
  /-- The link has been started and not stopped since (R126). -/
  started : Bool := false
  /-- TAGs of the LINK_STARTs that have not ended (R152). -/
  start : List Nat := []
  goodRun : Nat := 0
  badRun : Nat := 0
  peer : Nat := 0x3FF
  peerLink : Nat := 0xFF
  peerRole : Nat := 0
  peerUid : Nat := 0
  /-- When the peer's HELLO last carried ROLE 1, counted since this link or its twin came UP (R352). -/
  role1At : Option Nat := none
  /-- Instant of the last HELLO received, and of the last low-power-idle refresh (R126, R127). -/
  helloAt : Nat := 0
  refreshAt : Nat := 0
  /-- TIME exchanges done since TIMING began, flights of the last 64 and the reported F and θ (R128). -/
  exchanges : Nat := 0
  flights : List Int := []
  flight : Int := 0
  theta : Int := 0
  /-- Arrival stamp of the last TIME cell received, to be sent back in the next one, and the cycle and the stamp that cell
  carried (R128). -/
  timeAt : Nat := 0
  timeCycle : Nat := 0
  timeStamp : Nat := 0
  /-- The neighbour's TIM mode and its hop count from the timing master (R128). -/
  peerMode : Nat := 0
  peerHops : Nat := 15
  /-- Consecutive cycles with |θ| above, and within, 20 ns (R129). -/
  badTheta : Nat := 0
  okTheta : Nat := 0
  alignErr : Bool := false
  crcErrors : Nat := 0
  discards : Nat := 0
  changed : Nat := 0
  active : Nat := 0
  bank0 : PlanBank := {}
  bank1 : PlanBank := {}
  /-- Open slot groups (R134). -/
  mask : List Nat := []
  ctrlQ : List CtrlCell := []
  /-- Unscheduled credits held as sender; `needCredit` until the first CREDIT after the link came up (R148). -/
  credits : Nat := 0
  needCredit : Bool := true
  /-- Credits freed and not yet returned as receiver, and cells of this link still held in the buffer (R148). -/
  toReturn : Nat := 0
  heldCells : Nat := 0
  /-- Destination served last in each class (R148). -/
  rr : Tab Nat := []
  /-- The first slot not yet sent, counted from slot 0 of cycle 0 (R116). -/
  nextSlot : Nat := 0
  /-- After a lane swap: its first slot, and the flight of the replaced lane, until every slot before it has arrived (R224). -/
  swapped : Option (Nat × Int) := none
  /-- The skew buffer: slot, arrival and cell of those that the spare has brought before their turn (R224). -/
  skew : List (Nat × Nat × List Byte) := []
deriving DecidableEq, Repr

/-- State of a route (R141). -/
inductive RouteSt where
  | defined
  | verifying
  | verified
  | refused
  | stale
deriving DecidableEq, Repr

/-- One hop of a route or control route (R136, R124). -/
structure Hop where
  dev : Nat := 0
  egress : Nat := 0
  rx : Nat := 0
  label : Nat := 0
deriving DecidableEq, Repr

/-- A route record as held by a device it touches (R136, R140, R141, R152). -/
structure Route where
  dest : Nat := 0
  hops : List Hop := []
  st : RouteSt := .defined
  reason : Nat := 0
  refHop : Nat := 0xFF
  b : Nat := 0
  latency : Nat := 0
  verifyTs : Nat := 0
  srcTerm : Nat := 0
  terms : List Nat := []
  /-- Slots per cycle of the route, and transit cells reserved by this device (R138). -/
  n : Nat := 0
  reserve : Nat := 0
  /-- Instant at which a tentative reservation expires (R140). -/
  tentative : Option Nat := none
  /-- At the feeder: TAG of the ROUTE_VERIFY in progress and when it was sent (R140). -/
  verify : Option (Nat × Nat) := none
  /-- Flight of the incoming link as used in the verification, and this hop's slack (R141). -/
  usedFlight : Int := 0
  slack : Nat := 0
deriving DecidableEq, Repr

/-- A forwarding entry (R147). -/
structure Fwd where
  valid : Bool := false
  altValid : Bool := false
  alt : Nat := 0
  primary : Nat := 0
deriving DecidableEq, Repr

/-- A link-state report (R125). -/
structure Report where
  uid : Nat
  dev : Nat
  link : Nat
  st : Nat
  peer : Nat
  peerLink : Nat
deriving DecidableEq, Repr

/-- The newest notice acted on from one card (R125). -/
structure Reporter where
  uid : Nat
  dev : Nat
  boot : Nat
  nseq : Nat
  role : Nat
deriving DecidableEq, Repr

/-- A pending slot-plan swap (R135). -/
structure Swap where
  cycle : Nat
  links : List Nat
  tag : Nat
deriving DecidableEq, Repr

/-- A scheduled cell in the transit buffer, with the slot it must leave in (R138). -/
structure TransitCell where
  queue : Nat
  /-- The slot it must leave in, counted from slot 0 of cycle 0 (R138). -/
  due : Nat
  fseq : Nat
  line : Nat
  seg : Nat
  eol : Bool
  payload : List Byte
deriving DecidableEq, Repr

/-- A released cell of a local output flow that waits for its slot (R137). -/
structure FeedCell where
  fseq : Nat
  line : Nat
  seg : Nat
  eol : Bool
  payload : List Byte
deriving DecidableEq, Repr

/-- The fabric interface. -/
structure Aqf where
  links : Tab Link := []
  /-- Routes by feeder reference (R136). -/
  routes : Tab Route := []
  /-- Control routes by destination device (R124). -/
  ctrlRoutes : Tab (List (List Hop)) := []
  fwd : Tab Fwd := []
  reports : List Report := []
  reporters : List Reporter := []
  /-- BOOT and the next NSEQ of this device's own notices (R125). -/
  boot : Option Nat := none
  nseq : Nat := 0
  ctrlSeq : Nat := 0
  /-- Virtual output queues by 32 × destination + class (R146). -/
  voqs : Tab (List UnschedCell) := []
  /-- Next SEQ sent per 32 × destination + class, and next SEQ expected per 32 × source + class (R119, R149). -/
  seqTx : Tab Nat := []
  seqRx : Tab Nat := []
  msgEn : Bool := false
  msgTail : Nat := 0
  msgPhase : Bool := false
  msgCons : Nat := 0
  msgUsed : Nat := 0
  swaps : List Swap := []
  transit : List TransitCell := []
  /-- Released cells of output flows with ENDPOINT AQF, by output index, oldest first (R137). -/
  feed : Tab (List FeedCell) := []
  /-- The slot, counted from slot 0 of cycle 0, in which each output index last sent a cell, and that cell: a twin sends it
  in the same slot (R352). -/
  fed : Tab (Nat × FeedCell) := []
  /-- Last cycle begun, and, after a step of the counter, the last cycle of the old grid (R130). -/
  cycle : Nat := 0
  realign : Option (Nat × Int) := none
  cellLate : Nat := 0
  crcCount : Nat := 0
  /-- Slot groups to close at the next cycle boundary (R103, R105): `(link, group)`. -/
  closing : List (Nat × Nat) := []
  /-- Slot groups to open at the next cycle boundary (R102, R105). -/
  opening : List (Nat × Nat) := []
deriving DecidableEq, Repr

/-! ## Serial video ports (R154 to R177) -/

/-- State of an SDI receiver (R161, SVP_RX_STATUS.STATE). -/
inductive RxSt where
  | disabled
  | hunt
  | locked
  | identified
deriving DecidableEq, Repr

/-- An SDI receiver: descriptor fields (R160), state machine (R161) and measurements. -/
structure SdiRx where
  mode : Nat := 0
  ifRate : Nat := 0
  vpidOpt : Nat := 0
  trsTol : Nat := 0
  invert : Bool := false
  st : RxSt := .disabled
  /-- Interface rate being tried, or locked at; and the rate at which it was last locked, 0 for none. -/
  rate : Nat := 0
  lastRate : Nat := 0
  /-- Instant of entry into the present dwell or state. -/
  since : Nat := 0
  levelB : Bool := false
  vpidHere : Bool := false
  vpid : Nat := 0
  flywheel : Bool := false
  format : Nat := 0xFFFF
  colour : Nat := 0
  arrival : Option Int := none
  crc : Nat := 0
  /-- Complete frames with TRS at the same positions, and consecutive lines with a TRS error (R161). -/
  goodFrames : Nat := 0
  badLines : Nat := 0
  /-- A TRS error, and a line CRC error, reported in this frame (R161, R165). -/
  trsSeen : Bool := false
  crcSeen : Bool := false
  /-- Audio packets with a correctable error corrected (R167). -/
  bchFixed : Nat := 0
  /-- Instant of the last frame start (R162, R163), and the frame it began. -/
  frameAt : Option Nat := none
  frame : Nat := 0
deriving DecidableEq, Repr

/-- An SDI transmitter: descriptor fields (R160) and what it is sending (R169). -/
structure SdiTx where
  mode : Nat := 0
  levelBMap : Bool := false
  invert : Bool := false
  txOffset : Nat := 0
  sending : Bool := false
  ifRate : Nat := 0
  ancDrops : Nat := 0
  /-- Frame being sent, and the next interface line. -/
  frame : Nat := 0
  line : Nat := 1
  /-- The video output flow being sent. -/
  flow : Nat := 0
deriving DecidableEq, Repr

/-- The serial video ports. -/
structure Svp where
  rx : Tab SdiRx := []
  tx : Tab SdiTx := []
deriving DecidableEq, Repr

/-! ## Network media ports (R178 to R212) -/

/-- State of a media MAC (NMP_MAC_STATUS.STATE). -/
inductive MacSt where
  | disabled
  | negotiating
  | training
  | aligning
  | up
  | lowPower
deriving DecidableEq, Repr

/-- A gate control list (R200): `(gate state, interval)` entries, with its start once fixed. -/
structure GateList where
  base : Nat := 0
  entries : List (Nat × Nat) := []
  start : Nat := 0
  tag : Nat := 0
deriving DecidableEq, Repr

/-- A host frame waiting on a MAC (R208). -/
structure HostFrame where
  queue : Nat
  bytes : List Byte
  csum : Bool
  /-- The command that queued it; none for a PTP message (R203, R210). -/
  cmd : Option Cmd
  /-- The instant at which it was released to its queue (R199). -/
  at_ : Nat := 0
deriving DecidableEq, Repr

/-- A MAC: 0 to 15 the media MACs, 16 the management MAC. -/
structure Mac where
  st : MacSt := .disabled
  fecLock : Bool := false
  hcd : Nat := 0
  txDrops : Nat := 0
  fcs : Nat := 0
  drop : Nat := 0
  retryAt : Option Nat := none
  oper : Option GateList := none
  pend : Option GateList := none
  /-- Entry of the list in effect, and the instant it began (R199). -/
  gateIx : Nat := 0
  gateAt : Nat := 0
  frames : List HostFrame := []
deriving DecidableEq, Repr

/-- One leg of a stream descriptor (R183). -/
structure Leg where
  dmac : Nat := 0
  tagged : Bool := false
  pcp : Nat := 0
  vid : Nat := 0
  dstIp : Nat := 0
  srcIp : Nat := 0
  dstPort : Nat := 0
  srcPort : Nat := 0
  dscp : Nat := 0
  ttl : Nat := 0
  queue : Nat := 0
deriving DecidableEq, Repr

/-- The next packet of a leg: RTP sequence number, frame or first sample period, line or offset in the stream, and packet
within it (R193, R197); for an opaque flow, the marker of the packet before it and its codestream frame's timestamp (R195). -/
structure TxPos where
  seq : Nat := 0
  frame : Nat := 0
  line : Nat := 0
  pkt : Nat := 0
  marker : Bool := true
  rtp : Nat := 0
deriving DecidableEq, Repr

/-- The stream descriptor and status of an NMP flow (R183, R192, R211). -/
structure Stream where
  ssrc : Nat := 0
  legs : List Leg := []
  pktsA : Nat := 0
  pktsB : Nat := 0
  dups : Nat := 0
  gaps : Nat := 0
  window : Nat := 0
  rejects : Nat := 0
  arrival : Option Int := none
  lastRtp : Nat := 0
  txLate : Nat := 0
  /-- Newest extended sequence number used, and the numbers used within 32,768 of it (R192). -/
  newest : Option Nat := none
  used : List Nat := []
  /-- Instant of the last accepted packet of each leg, and which leg is lost (R192, R190). -/
  atA : Nat := 0
  atB : Nat := 0
  lost : Option Nat := none
  /-- The frame being received: its index, RTP timestamp and instant of its first packet (R188, R191). -/
  frame : Nat := 0
  frameRtp : Option Nat := none
  frameAt : Nat := 0
  /-- The next packet to send on each leg (R197, R198). -/
  tx : Tab TxPos := []
  /-- The marker bit of the previous packet (R37). -/
  marker : Bool := true
  /-- Serial data of an ST 2022-6 stream received since its last complete line (R196). -/
  serial : List Byte := []
deriving DecidableEq, Repr

/-- A PTP message handed to management firmware with its corrected stamp (R203, R204). -/
structure PtpMsg where
  mac : Nat
  stamp : Int
  bytes : List Byte
deriving DecidableEq, Repr

/-- The network media ports. -/
structure Nmp where
  macs : Tab Mac := []
  streams : Tab Stream := []
  xEn : Bool := false
  xTail : Nat := 0
  xPhase : Bool := false
  xCons : Nat := 0
  xUsed : Nat := 0
  xDrop : Nat := 0
  /-- Frames written in the second `xSec`, and the instants of those discarded in the last second (R207, R212). -/
  xSec : Nat := 0
  xWritten : Nat := 0
  xLost : List Nat := []
  ptpRx : List PtpMsg := []
  /-- Stamps of PTP messages sent (R204). -/
  ptpTx : List PtpMsg := []
  mgmtLink : Bool := false
  mgmtSpeed : Nat := 0
  mgmtFull : Bool := true
  lateColl : Nat := 0
  excessColl : Nat := 0
  /-- Attempts made for the frame at the head of the management MAC, and the end of its backoff (R210). -/
  attempts : Nat := 0
  backoff : Option Nat := none
deriving DecidableEq, Repr

/-! ## Lane complex (R213 to R227) -/

/-- State of a lane (R214). -/
inductive LaneSt where
  | off
  | idle
  | base
  | step
  | trained
  | prbs
  | failed
deriving DecidableEq, Repr

/-- A PRBS test (R221). -/
structure Prbs where
  rate : Nat
  pattern : Nat
  dir : Nat
  /-- When the test began and when it ends; no end until it is stopped. -/
  start : Nat
  stopAt : Option Nat
  tag : Nat
deriving DecidableEq, Repr

/-- An eye scan (R220). -/
structure EyeScan where
  eye : Nat
  hStep : Nat
  vStep : Nat
  dwell : Nat
  /-- The lane's rate in units of 0.25 Gb/s. -/
  rate : Nat
  start : Nat
  addr : Nat
  cmd : Cmd
  /-- The lane left TRAINED or was replaced before the scan was complete. -/
  early : Bool := false
deriving DecidableEq, Repr

/-- How one margin of a lane stands (R219): reported low and not since back, and when it was first found back. -/
structure Margin where
  value : Nat := 0
  low : Bool := false
  good : Option Nat := none
deriving DecidableEq, Repr

/-- A logical lane 0 to 143, or at 144 + 4 × d + k the shadow on spare k of die d (R223). -/
structure Lane where
  st : LaneSt := .off
  /-- Current rate, and the highest reached in the series, in units of 0.25 Gb/s. -/
  rate : Nat := 0
  best : Nat := 0
  /-- Training step in progress (0 BASE, 1 to 3) and its start (R215). -/
  step : Nat := 0
  since : Nat := 0
  /-- LANE_TRAIN_FAIL last raised in the present run of failures (R215). -/
  failAt : Option Nat := none
  /-- The spare 0 to 3 that serves the lane (R222, R224). -/
  spare : Option Nat := none
  /-- The far end's capability word (R215). -/
  far : Capability := {}
  /-- Transmit taps, and the receiver settings as they stood at `adaptAt`, from which they adapt (R218). -/
  tx : List Int := []
  rx : RxTune := {}
  adaptAt : Nat := 0
  marginH : Margin := {}
  marginV : Margin := {}
  /-- When the margins were last measured, or the lane was TRAINED (R219). -/
  marginAt : Nat := 0
  prbs : Option Prbs := none
  prbsErr : Nat := 0
  scan : Option EyeScan := none
deriving DecidableEq, Repr

/-- State of a spare lane (LNX_SPARE_STATUS.STATE). -/
inductive SpareSt where
  | free
  | shadow
  | ready
  | inService
  | retired
deriving DecidableEq, Repr

/-- A spare lane with the swap it is to make (R222 to R225). -/
structure SpareLane where
  st : SpareSt := .free
  lane : Nat := 0xFF
  dom : Nat := 0
  fi : Nat := 0
  /-- Fabric cycle of the swap. -/
  cycle : Nat := 0
  tag : Nat := 0
  flight : Int := 0
deriving DecidableEq, Repr

/-- The lane complex: lanes 0 to 143, and spare k of die d at 4 × d + k. -/
structure Lnx where
  lanes : Tab Lane := []
  spares : Tab SpareLane := []
deriving DecidableEq, Repr

/-! ## Irkai array and composition (R228 to R272) -/

/-- State of a spare engine (IKA_CLASS_SPARE). -/
inductive TileSt where
  | free
  | pending
  | inService
  | retired
deriving DecidableEq, Repr

/-- A spare engine: its state and the slot it serves or is to serve. -/
structure SpareTile where
  st : TileSt := .free
  slot : Nat := 0
deriving DecidableEq, Repr

/-- A pending ENGINE_SPARE (R251). -/
structure EngineSwap where
  slot : Nat
  tile : Nat
  dom : Nat
  fi : Nat
  tag : Nat
deriving DecidableEq, Repr

/-- A frame of a source written into a frame buffer (R236, R238, R254). -/
structure FrameBuf where
  n : Nat := 0
  src : Nat := 0
  lines : Tab (List Byte) := []
  start : Nat := 0
  /-- The instant at which the frame was complete. -/
  done : Option Nat := none
  /-- The fill input's word held SEL = 0 when the frame was written (R267). -/
  void_ : Bool := false
deriving DecidableEq, Repr

/-- State of a layer (R268). -/
inductive LayerSt where
  | empty
  | showing
  | repeating
  | fill
deriving DecidableEq, Repr

/-- A COMPOSE layer (R268, R271). -/
structure Layer where
  st : LayerSt := .empty
  count : Nat := 0
  shown : Option Nat := none
  episodes : Nat := 0
  lastTs : Nat := 0
  opaque_ : Bool := false
  /-- LAYER_LINEBUF has been raised for the source as it stands (R260). -/
  misfit : Bool := false
deriving DecidableEq, Repr

/-- A processed flow's descriptor, parameter sets, admitted costs and running state (R230, R244 to R248). -/
structure Proc where
  /-- The 256-byte descriptor as passed to PROC_SET, and its host address. -/
  desc : List Byte := []
  addr : Nat := 0
  sets : Tab (List Byte) := []
  inForce : Nat := 0
  /-- A PROC_PARAM change waiting for its frame (R105). -/
  next : Option (Nat × Nat) := none
  lambda : Nat := 0
  window : Nat := 0
  cycles : Nat := 0
  lineMem : Nat := 0
  bw : Nat := 0
  cap : Nat := 0
  delay : Nat := 0
  fsRepeat : Nat := 0
  fsDrop : Nat := 0
  /-- Frame buffers of each input, newest first. -/
  bufs : Tab (List FrameBuf) := []
  /-- Source and number of the frame being read (R236), and output frames since no new frame completed. -/
  reading : Option (Nat × Nat) := none
  /-- Per input, the instant at which its selection last changed (R237, R269). -/
  since : Tab Nat := []
  repeats : Nat := 0
  /-- Frames overwritten unread since the last decision (R236). -/
  unread : Nat := 0
  /-- Audio DELAY: words written to its store, by channel of the flow and input period (R241). -/
  hist : Tab (Tab Nat) := []
  /-- Inputs whose PF_INPUT_HELD has been raised in the present episode (R235). -/
  heldSeen : List Nat := []
  layers : Tab Layer := []
  /-- The parameter set in force before the last change, and the frame or sample period at which it changed (R241, R243). -/
  oldParams : List Byte := []
  changedAt : Nat := 0
  /-- Video DELAY: no frame before this one is emitted again after a lengthened delay (R241). -/
  floor : Nat := 0
  /-- SRC: first period of the ramp to silence, and of the ramp back up (R242). -/
  srcDown : Option Nat := none
  srcUp : Option Nat := none
  /-- SRC: the offset measured last, in ppm; the input buffered ahead of the read point, in 1 / (10⁶ × output rate) of an input
  sample; and since when the ratio has been in range. -/
  srcPpm : Int := 0
  srcLevel : Int := 0
  srcOk : Option Nat := none
  /-- The frame decided last by a frame synchroniser or a composition (R236, R266). -/
  decided : Option Nat := none
deriving DecidableEq, Repr

/-- An audit mismatch waiting for its third opinion (R249). -/
structure Opinion where
  slot : Nat
  pf : Nat
  tick : Nat
  /-- CRC-32C of the engine's result. -/
  crc : Nat
deriving DecidableEq, Repr

/-- A work item kept for the auditor (R249): processed flow and item, the flow's state with its parameter sets and frame buffers,
the lines or words read from cell memory, and the CRC-32C of the engine's result. -/
structure AuditItem where
  pf : Nat
  item : Nat
  state : Proc
  inputs : List (List Byte)
  crc : Nat
deriving DecidableEq, Repr

/-- A classroom (R14, R249, R251). -/
structure Classroom where
  s32 : SpareTile := {}
  s33 : SpareTile := {}
  swap : Option EngineSwap := none
  /-- Tile that serves a slot where it is not the slot's own. -/
  serving : Tab Nat := []
  /-- 0: tile 32 audits; 1: tile 33 audits. -/
  auditor : Nat := 0
  auditNext : Nat := 0
  passes : Nat := 0
  fails : Nat := 0
  idle : Nat := 0
  /-- AUDIT_SUSPENDED has been raised for want of a free spare (R14). -/
  suspended : Bool := false
  opinion : Option Opinion := none
  /-- First work item of the slot due for audit since the last tick, and the instant of that tick (R249). -/
  sampled : Option AuditItem := none
  auditAt : Nat := 0
deriving DecidableEq, Repr

/-- A frame start of a free-running input flow, recorded for the frame synchroniser (R163, R191). -/
structure FrameMark where
  n : Nat
  at_ : Nat
  rtp : Nat
deriving DecidableEq, Repr

/-- The Irkai array. -/
structure Ika where
  rooms : Tab Classroom := []
  procs : Tab Proc := []
  /-- Frame starts recorded per input flow, newest first. -/
  marks : Tab (List FrameMark) := []
  /-- AUDIT_SUSPENDED has been raised for all classrooms (R249). -/
  allSuspended : Bool := false
  /-- Catalogue entries of functions 1 to 7, loaded from the verified image at start-up (R229). -/
  cat : Tab Nat := []
  /-- Engine tiles held in reset, with the instant of release (R380): key 64 × classroom + tile. -/
  heldTiles : Tab Nat := []
deriving DecidableEq, Repr

/-! ## Audio (R273 to R296) -/

/-- A ramp on an audio crosspoint (R279): to coefficient `new` from period `s0` over `len` samples. -/
structure Ramp where
  new : Nat
  s0 : Nat
  len : Nat
  /-- Boundary time of the change, then its domain: 8 times the one plus the other (R280). -/
  rank : Nat := 0
deriving DecidableEq, Repr

/-- An active audio crosspoint (R277, R281). -/
structure AudXp where
  inp : Nat
  /-- Target GAIN. -/
  gain : Nat
  /-- The coefficient before the ramps, and the ramps begun or to come, latest first (R279, R280). -/
  base : Nat := 0
  ramps : List Ramp := []
  mgmt : Bool := false
  page : Nat := 0
  /-- TAG of an AUDIO_XP_DIRECT whose ramp has not begun, with its first sample period (R281). -/
  direct : Option (Nat × Nat) := none
  /-- Instant of the last timetable write, for a collision in the same cycle (R280). -/
  ttAt : Option Nat := none
  /-- A crosspoint that a page removes counts as active until this instant (R277). -/
  countUntil : Option Nat := none
deriving DecidableEq, Repr

/-- State of an audio port (R291). -/
inductive AudPortSt where
  | disabled
  | acquire
  | locked
  | lost
  | slipped
deriving DecidableEq, Repr

/-- An audio port: descriptor (R285) and running state (R287 to R291). -/
structure AudPort where
  mode : Nat := 0
  clock : Nat := 0
  justify : Nat := 0
  rate : Nat := 0
  dirs : Nat := 0
  rxOffset : Int := 0
  txOffset : Nat := 0
  st : AudPortSt := .disabled
  clockHere : Bool := false
  phi0 : Int := 0
  phi : Int := 0
  steady : Nat := 0
  /-- Bounds of φ over the frames counted in `steady`. -/
  phiLo : Int := 0
  phiHi : Int := 0
  /-- Guarded samples not yet written: `(period, words per channel)` (R287, R290). -/
  guard_ : List (Nat × List Nat) := []
  /-- First period of the ramp from silence, and frames sent of the ramp to silence in transmission (R287, R291). -/
  rampUp : Option Nat := none
  rampDown : Option Nat := none
  /-- The first period not yet sent (R288). -/
  txNext : Nat := 0
  coding : Nat := 0
  crcc : Nat := 0
  /-- Coding errors of the last second: `(instant, errors)` (R286, R296). -/
  codingAt : List (Nat × Nat) := []
deriving DecidableEq, Repr

/-- A channel delay change (R294). -/
structure DelayChange where
  new : Nat
  ramp : Nat
  dom : Nat
  fi : Nat
  /-- First sample period of the crossfade: the first at or after T(FI). -/
  s0 : Nat
  first : Nat
  count : Nat
  tag : Nat
  /-- The crossfade's time is over; a 0x0010 channel still waits for its block start. -/
  ended : Bool := false
deriving DecidableEq, Repr

/-- A channel delay line (R293). -/
structure DelayLine where
  store : Nat := 0
  max : Nat := 0
  cur : Nat := 0
  change : Option DelayChange := none
deriving DecidableEq, Repr

/-- A format-0x0010 crosspoint change waiting for its block start (R284). -/
structure ZWait where
  out : Nat
  inp : Nat
  remove : Bool
  s0 : Nat
  page : Nat
  mgmt : Bool
  /-- TAG and first period of an AUDIO_XP_DIRECT not yet applied (R281). -/
  direct : Option (Nat × Nat) := none
deriving DecidableEq, Repr

/-- Delay lines allocated together, and what they were admitted for (R293). -/
structure DelayAlloc where
  chs : List Nat
  store : Nat
  max : Nat
  bw : Nat
  cap : Nat
deriving DecidableEq, Repr

/-- The audio complex. -/
structure Aud where
  /-- Active crosspoints by output channel. -/
  xps : Tab (List AudXp) := []
  ports : Tab AudPort := []
  delays : Tab DelayLine := []
  allocs : List DelayAlloc := []
  cs : Tab (List Byte) := []
  /-- Sample words stored by input channel and period, and computed words by output channel and period; bit 32 of a computed
  word says that it was copied in sole-source mode (R282). -/
  inp : Tab (Tab Nat) := []
  out : Tab (Tab Nat) := []
  /-- Sample words as they leave the matrix after the channel delay, by output channel and period (R293). -/
  post : Tab (Tab Nat) := []
  zwait : List ZWait := []
  sat : Nat := 0
  late : Nat := 0
  collision : Nat := 0
  /-- Saturations in the second `satSec`, and their lowest channel (R278). -/
  satSec : Nat := 0
  satN : Nat := 0
  satLow : Nat := 0
  /-- The last sample period computed. -/
  period : Nat := 0
deriving DecidableEq, Repr

/-! ## Memory complex (R297 to R319) -/

/-- State of a memory controller (R313). -/
inductive CtrlSt where
  | untrained
  | training
  | trained
  | failed
deriving DecidableEq, Repr

/-- A repair in progress or in force (R317). -/
structure Repair where
  kind : Nat
  loc : Nat
  row : Nat
  col : Nat
  dom : Nat
  fi : Nat
  tag : Nat
  /-- 0 accepted, 1 copied, 2 reads on the holding row and repair issued, 3 done, 4 kept on the holding row. -/
  phase : Nat := 0
deriving DecidableEq, Repr

/-- Refresh state of a rank (R311). -/
structure Rank where
  owed : Nat := 0
  /-- Instant of the last refresh that was due. -/
  refAt : Nat := 0
  doubled : Bool := false
  postpone : Bool := true
  temp : Nat := 0
deriving DecidableEq, Repr

/-- Page predictor and open row of a bank (R305). -/
structure BankSt where
  pred : Nat := 2
  last : Option Nat := none
  open_ : Option Nat := none
  idleAt : Nat := 0
deriving DecidableEq, Repr

/-- A queued write: line address and its 64 bytes with their byte enables applied (R306). -/
structure WriteQ where
  line : Nat
  data : List Byte
deriving DecidableEq, Repr

/-- A memory controller: 0 to 7 DDR5 channels, 8 to 11 HBM stacks. -/
structure Ctrl where
  st : CtrlSt := .untrained
  step : Nat := 0
  rate : Nat := 0
  ranks : Tab Rank := []
  banks : Tab BankSt := []
  wq : List WriteQ := []
  repairs : List Repair := []
  /-- Corrections by position (R310), since reset and in the present scrub pass. -/
  wear : Tab Nat := []
  passWear : Tab Nat := []
  /-- Instants of the corrections of the last second. -/
  correctedAt : List Nat := []
  scrubAt : Nat := 0
  suspected : List Nat := []
  /-- Last ZQ calibration and DQS-oscillator tracking (R315). -/
  zqAt : Nat := 0
  dqsAt : Nat := 0
deriving DecidableEq, Repr

/-- A CXL.mem window (R300). -/
structure MemWin where
  opened : Bool := false
  store : Nat := 0
  base : Nat := 0
  size : Nat := 0
  reserve : Nat := 0
  /-- Bytes moved in the present 10 µs interval, and the interval (R300). -/
  slice_ : Nat := 0
  moved : Nat := 0
  /-- Throttled µs of the last second: `(instant, µs)`. -/
  throttledAt : List (Nat × Nat) := []
deriving DecidableEq, Repr

/-- A queued memory move (R301). -/
structure Move where
  src : Nat
  dst : Nat
  len : Nat
  srcWin : Option Nat
  dstWin : Option Nat
  tag : Nat
  hostOk : Bool
deriving DecidableEq, Repr

/-- The memory complex. -/
structure MemC where
  ctrls : Tab Ctrl := []
  wins : Tab MemWin := []
  moves : List Move := []
  /-- Instant since when the move that runs may be under way (R301). -/
  moverAt : Nat := 0
  /-- A MEM_FREQ that waits for the running step of its pair: `(pair, rate, TAG)` (R314). -/
  freqWait : List (Nat × Nat × Nat) := []
  /-- Contents of the frame store and the delay store, by store address; an address not listed reads 0. -/
  hbm : List Host.Cell := []
  ddr : List Host.Cell := []
  /-- What the last read returned to its consumer: whether it was poisoned, and its bytes (R309). -/
  answer : Option (Bool × List Byte) := none
  /-- 64-byte lines that stay uncorrectable until written (R309): `(store, line)`. -/
  poison : List (Nat × Nat) := []
  /-- The mover is disabled for a store until RESERVE is written to a value that fits (R298). -/
  moverOff : List Nat := []
  /-- TAGs of the MEM_TRAIN and MEM_FREQ commands in progress, by channel pair 0 to 3 or stack 8 to 11 (R313, R314). -/
  trainTags : Tab (List Nat) := []
deriving DecidableEq, Repr

/-! ## The pair and the tablet (R351 to R376) -/

/-- Pair state, in RED_STATUS order (R353). -/
inductive PairSt where
  | unpaired
  | pairing
  | sole
  | active
  | standby
  | warm
  | taking
  | fenced
deriving DecidableEq, Repr

/-- A journal record (R361). -/
structure JRec where
  jseq : Nat
  type : Nat
  fi : Nat
  data : List Byte
  /-- Instant at which the holder queued or sent it (R360). -/
  at_ : Nat := 0
  sent : Bool := false
deriving DecidableEq, Repr

/-- A commit message that waits for its journal record to be confirmed (R360). -/
structure HeldMsg where
  jseq : Nat
  dest : Nat
  msg : CommitMsg
deriving DecidableEq, Repr

/-- The redundancy controller. -/
structure Red where
  st : PairSt := .unpaired
  gen : Nat := 0
  seq : Nat := 0
  jseq : Nat := 0
  /-- The partner's last message (R375). -/
  partner : Option PairMsg := none
  /-- Whether each path is live, and the instant of the last valid message on it (R356). -/
  liveA : Bool := false
  liveB : Bool := false
  atA : Nat := 0
  atB : Nat := 0
  /-- Holder: the partner's last READY; lease end; newest acknowledged BEAT and the STAMPs of those sent (R357). -/
  partnerReady : Bool := false
  leaseEnd : Nat := 0
  acked : Nat := 0
  beats : List (Nat × Nat) := []
  /-- Partner: image complete, set-up digests agree, holder shows DIVERGED or oversize (R363). -/
  hasImage : Bool := false
  digestOk : Bool := true
  sawDiverged : Bool := false
  sawOversize : Bool := false
  /-- READY as last reported by PAIR_READY or PAIR_NOT_READY. -/
  ready : Bool := false
  /-- Instant of the newest BEAT heard from the holder, and whether one of the current GEN carried FENCED (R365). -/
  beatAt : Nat := 0
  fencedHeard : Bool := false
  blocked : Bool := false
  /-- Holder: records queued or not yet confirmed, oldest first; messages that wait for them (R360). -/
  jout : List JRec := []
  heldMsgs : List HeldMsg := []
  oversize : Bool := false
  /-- Partner: the image held, and the one being received (R363). -/
  image : List JRec := []
  building : Option (List JRec) := none
  /-- Time of PAIRING, of WARM, of Drive, and of the last REVERT condition. -/
  since : Nat := 0
  driveAt : Option Nat := none
  healthySince : Option Nat := none
  warmEnd : Option Nat := none
  cause : Nat := 0
  /-- Domains whose first commit is still to come (R368). -/
  uncommitted : List Nat := []
  /-- TAG of a TABLET_REQUEST or TABLET_TAKE in progress (R375). -/
  tag : Option Nat := none
  /-- Handover: the boundary B, PASS_ACK received on each path, CONFIRM sent or received (R372). -/
  bound : Option Nat := none
  ackA : Bool := false
  ackB : Bool := false
  confirmed : Bool := false
  asked : Bool := false
  /-- Holder: ASK received on each path (R372). -/
  askA : Bool := false
  askB : Bool := false
  /-- Fabric cycle boundary at which scheduled cells and HELLO roles change sender (R372). -/
  fabricAt : Nat := 0
  /-- Fragments sent of the first record not yet sent; the 250 µs interval in progress and the bytes sent in it (R360). -/
  jfrag : Nat := 0
  jslice : Nat × Nat := (0, 0)
  /-- Fragments of the record being received, joined (R361). -/
  jasm : List Byte := []
  jfrags : Nat := 0
  /-- WARM: records held for the boundaries in their FI (R371). -/
  jwait : List JRec := []
  relayEnd : Option Nat := none
  /-- The end of frame B, up to which a former holder's SDI transmitters go on (R372). -/
  sdiUntil : Nat := 0
  conflict : Bool := false
deriving DecidableEq, Repr

/-! ## Power, cooling and start-up (R400 to R419, R441) -/

/-- Power state (R400). -/
inductive PwrSt where
  | run
  | trim
  | recess
  | off
deriving DecidableEq, Repr

/-- BOOT of PWR_STATUS (R416). -/
inductive Boot where
  | rom
  | verifying
  | firmware
  | failed
deriving DecidableEq, Repr

/-- A power transition: its target, the blocks still to be asked and those that agreed, who asked for it (R404, R405). -/
structure Transit where
  target : PwrSt
  /-- Block orders of R404 still to answer; the first has been asked at `asked`. -/
  todo : List Nat
  agreed : List Nat
  asked : Nat
  /-- TAG of the PWR_STATE_SET; none for the redundancy controller. -/
  tag : Option Nat
deriving DecidableEq, Repr

/-- An AVSBus rail (R410, R411). -/
structure Rail where
  /-- Voltage in force, mV, and last current read, 0.1 A. -/
  mv : Nat := 0
  iout : Nat := 0
  want : Nat := 0
  /-- A request under way: its voltage and the instant it was sent. -/
  asked : Option (Nat × Nat) := none
  lastAt : Option Nat := none
deriving DecidableEq, Repr

/-- A die sensor (R412): reading in 0.25 °C. -/
structure Sensor where
  temp : Int := 0
  failed : Bool := false
  /-- Since when it repeats one code, and the readings of its die then. -/
  since : Nat := 0
  base : List Int := []
deriving DecidableEq, Repr

/-- A cooling output (R413, R415): duty in 0.0001 %. -/
structure Cooler where
  duty : Nat := 0
  rpm : Nat := 0
  /-- Falling edges of the tachometer in each of the last ten 100 ms, newest first (R449). -/
  edges : List Nat := []
  /-- Integral of Tmax − TARGET, in °C·s × 40 (0.25 °C by 0.1 s). -/
  integral : Int := 0
  pulseAt : Nat := 0
  stalled : Bool := false
deriving DecidableEq, Repr

/-- The power manager and thermal controller. -/
structure Pwr where
  st : PwrSt := .run
  trans : Option Transit := none
  pend : Option (PwrSt × Option Nat) := none
  boot : Boot := .rom
  wakeCause : Nat := 0
  wakeTs : Nat := 0
  rails : Tab Rail := []
  sensors : Tab Sensor := []
  tmax : Int := 0
  /-- Consecutive samples at or above TRIP_C; THERM_TRIP asserted; since when every sensor is below TRIP_C − 10 °C. -/
  tripRun : Nat := 0
  trip : Bool := false
  coolSince : Option Nat := none
  warn : Bool := false
  coolers : Tab Cooler := []
  coef : List Nat := [1440, 100, 10, 150, 50]
  /-- Refused transition of the redundancy controller to be retried, and the second of its last PWR_REFUSED (R405). -/
  retry : Option (PwrSt × Nat) := none
  refusedSec : Option Nat := none
  /-- Service wake in progress, and since when no command has been pending (R402). -/
  svcWake : Bool := false
  svcIdle : Nat := 0
  /-- CXL configuration is ready and BAR0 open to the host (R417). -/
  cxlReady : Bool := false
  /-- PERST# is asserted; the supplies are good. -/
  perst : Bool := false
deriving DecidableEq, Repr

/-! ## Identity, firmware and lifecycle (R420 to R438) -/

/-- A fuse programming command (R421). -/
inductive FuseOp where
  | counter (cmd : Cmd) (value : Nat)
  | cosign (cmd : Cmd) (addr : Nat)
  | lifecycle (cmd : Cmd) (target addr : Nat)
deriving DecidableEq, Repr

/-- An update in progress (R433, R434). -/
structure Update where
  tag : Nat
  version : Nat
  /-- Slot being written: 0 A, 1 B. -/
  target : Nat
  digest : Nat
  /-- The image that the records rebuild (R433). -/
  out : List Byte := []
deriving DecidableEq, Repr

/-- An instruction of the test port (R451); `other` stands for every instruction the manual does not name. -/
inductive TapIns where
  | bypass
  | idcode
  | sample
  | extest
  | clamp
  | highz
  | other (code : Nat)
deriving DecidableEq, Repr

/-- The 16 states of the IEEE 1149.1 controller (R451). -/
inductive TapSt where
  | reset
  | idle
  | selectDr
  | captureDr
  | shiftDr
  | exit1Dr
  | pauseDr
  | exit2Dr
  | updateDr
  | selectIr
  | captureIr
  | shiftIr
  | exit1Ir
  | pauseIr
  | exit2Ir
  | updateIr
deriving DecidableEq, Repr

/-- The test port (R451): TRST_N is held low in service, so the controller stays in Test-Logic-Reset with IDCODE. -/
structure Tap where
  trstLow : Bool := true
  st : TapSt := .reset
  ins : TapIns := .idcode
  /-- The instruction and data shift registers, the bit nearest TDO first. -/
  irShift : List Bool := []
  drShift : List Bool := []
  /-- The boundary cells' update latches, which drive the balls in EXTEST and CLAMP. -/
  cells : List Bool := []
deriving DecidableEq, Repr

/-- The root of trust. -/
structure Sec where
  lotLo : Nat := 0
  lotHi : Nat := 0
  wafer : Nat := 0
  dieX : Nat := 0
  dieY : Nat := 0
  uid : Nat := 0
  /-- Lifecycle code (R430); every part ships PROVISIONED (R453). -/
  life : Nat := 1
  counter : Nat := 0
  keyDigest : Nat := 0
  cosign : Option Nat := none
  /-- Fuse run under way and the fuse commands that wait for it (R421). -/
  run : Option FuseOp := none
  wait : List FuseOp := []
  tampered : Bool := false
  /-- Secure SRAM was wiped by a lifecycle change since chip reset (R427). -/
  lifeWiped : Bool := false
  idKey : Bool := false
  nonce : Option Nat := none
  /-- The flash contents of slots A and B from offset 0, once the ROM has read or the device has written them; bytes past the
  end read erased (R422). -/
  slotA : List Byte := []
  slotB : List Byte := []
  resultA : Nat := 0
  resultB : Nat := 0
  /-- Slot running: 0 A, 1 B. -/
  slot : Nat := 0
  fw : Nat := 0
  meas : List Nat := [0, 0, 0]
  update : Option Update := none
  /-- UPDATE_DONE has been raised and no later UPDATE_APPLY has begun (R435). -/
  updated : Bool := false
  recBusy : Bool := false
  recResult : Nat := 0
  /-- The 256 KiB of secure SRAM as the bus reaches it; an address not listed reads 0, as a wipe leaves it (R344, R426). -/
  sram : List Host.Cell := []
  /-- The test port (R451). -/
  tap : Tap := {}
deriving DecidableEq, Repr

/-! ## The whole device -/

/-- A line as an SDI transmitter builds it (R171, R172, R292). -/
structure SdiOut where
  /-- Line number, whether it is fill, and its active samples. -/
  line : Nat
  fill : Bool := false
  bytes : List Byte := []
  /-- The records inserted, and the embedded samples: port channel, period, word. -/
  anc : List (List Byte) := []
  audio : List (Nat × Nat × Nat) := []
  /-- The audio control packets, and the payload identifier, of a line that carries them. -/
  control : List SdiControl := []
  vpid : Option Nat := none
  /-- The line CRC of each data stream. -/
  crc : List Nat := []
  /-- Level B dual-link interleave, and inverted polarity (R160). -/
  levelB : Bool := false
  invert : Bool := false
deriving DecidableEq, Repr

/-- What leaves the device, oldest last: the model's own record of outputs on pins and links. -/
inductive Wire where
  | msi (vector : Nat)
  | cell (link : Nat) (bytes : List Byte)
  | refresh (link : Nat)
  | sdi (port : Nat) (line : SdiOut)
  | eth (mac : Nat) (bytes : List Byte)
  /-- The words by channel, and on MADI the channels marked inactive. -/
  | audio (port period : Nat) (words inactive : List Nat)
  | pathB (msg : PairMsg) (inverted : Bool)
  | spiDac (code : Nat)
  | avs (rail mv : Nat)
  | pwm (out duty : Nat)
  | jam
  /-- A lane's capability word (R215). -/
  | capability (lane : Nat) (word : Capability)
deriving DecidableEq, Repr

/-- Everything the manual gives the device, and the commands that wait. -/
structure State where
  pending : List Instr := []
  /-- Register words that software holds, by BAR0 offset; an offset not listed holds its reset word. -/
  regs : Tab Word := []
  tim : Tim := {}
  flows : Tab Flow := []
  consists : Tab Consist := []
  swc : Swc := {}
  tt : Tt := {}
  aqf : Aqf := {}
  svp : Svp := {}
  nmp : Nmp := {}
  lnx : Lnx := {}
  ika : Ika := {}
  aud : Aud := {}
  mem : MemC := {}
  hif : Hif := {}
  flt : Flt := {}
  red : Red := {}
  pwr : Pwr := {}
  sec : Sec := {}
  /-- The model's own counter of free values: no statement rests on it. -/
  free : Nat := 0
  wire : List Wire := []
deriving DecidableEq, Repr

/-- Why the machine stops with a fault. No command of the manual stops the block, so no fault is ever raised: the type has
its one constructor for the interface's sake. -/
inductive Fault where
  /-- Raised by no meaning: the manual describes no condition in which the block stops. Safe. -/
  | none_
deriving DecidableEq, Repr

/-- Why a command has no meaning. -/
inductive Refusal where
  /-- Raised by an arm of exec whose command has no meaning yet. Safe: nothing is claimed of it. -/
  | notModelled (mnemonic : String)
deriving DecidableEq, Repr

/-- The device right after chip reset at power-up: every field at the value its default names. -/
def State.reset : State := {}

end Sys2Proof.Machine
end

