-- ==== Sys2Proof/Config.lean ====
section
/-!
DEFINITION. What the manual leaves open and an implementation fixes, and the free values: constants without a body, which no
proof can evaluate. Each is named in the assumption log.
-/
namespace Sys2Proof.Config
open Sys2Proof

/-- The k-th free number: a value the manual does not state, constrained by nothing. -/
opaque freeNat : Nat → Nat
/-- The k-th free signed number. -/
opaque freeInt : Nat → Int

/-- The drift-rate estimate of R60, in ppb/s, from the offsets measured over the last 60 s. -/
opaque drift : List (Nat × Int) → Int

/-- The boot ROM's version word (R341), which the manual does not state. -/
opaque romVersion : Nat

/-- The device's own PCS-to-PCS delay, ns, which a measured flight leaves out (R128). -/
opaque pcsDelay : Int

/-- Whether a value between two whole numbers is taken up rather than down, where the manual states a real result and no
rounding: a coefficient within a ramp, a sample within a fade or crossfade (R279, R287, R290, R294). -/
opaque roundsUp : Int → Int → Nat → Nat → Bool

/-- A coefficient of the built-in windowed sinc, with 14 fraction bits: taps, source and output samples, phase, tap (R239,
R258). -/
opaque sinc : Nat → Nat → Nat → Nat → Nat → Int

/-- The fixed 8-tap filter that makes 4:4:4 of 4:2:2, at an even or odd pixel, from the samples of the eight nearest pairs; and
the fixed 7-tap filter back, from the seven nearest codes (R240, R258, R264). -/
opaque upsample : Nat → List Int → Int
opaque downsample : List Int → Int

/-- The SRC's 64-tap polyphase filter: input samples about the read point, and how far the point lies beyond the 32nd of them, as
a numerator and its denominator (R242). -/
opaque resample : List Int → Int → Nat → Int

/-- V, U, C and Z of a word that an audio function generates, by processed flow and period (R242, R243). -/
opaque engineFlags : Nat → Nat → Nat

/-- Payload bytes of one packet of an ST 2110-22 stream, as counted in its wire rate (R201): one more than this number. -/
opaque opaquePayload : Nat

/-- The line number of the single picture that a line of a level B, 6G or 12G signal carries, which the manual leaves to the
interface standards: IFRATE, level B, interface line, and which of the picture's lines that interface line carries (R166). -/
opaque pictureLine : Nat → Bool → Nat → Nat → Nat

/-- Data streams of an interface above HD with a line CRC each: IFRATE, level B (R165, R171). -/
opaque sdiStreams : Nat → Bool → Nat
/-- The line CRC of a data stream: IFRATE, stream, line, active samples (R171). -/
opaque sdiCrc : Nat → Nat → Nat → List Byte → Nat

/-- The lines on which the interface standards put the VPID, and the audio control packets: IFRATE, level B, line (R171). -/
opaque vpidLine : Nat → Bool → Nat → Bool
opaque controlLine : Nat → Bool → Nat → Bool
/-- The VPID: FORMAT, COLOUR, IFRATE, level B, and the link number of a quad consist's member (R171). -/
opaque vpidWord : Nat → Nat → Nat → Bool → Option Nat → Nat
/-- Where the packets that a transmitter generates lie on a line, as stream, first word and words: IFRATE, level B, line, the
VPID or else the number of the audio packet (R171, R172). -/
opaque packetAt : Nat → Bool → Nat → Option Nat → Nat × Nat × Nat
/-- The first word after the ancillary space that holds a word: FORMAT, line, HOFFSET (R172). -/
opaque ancEnd : Nat → Nat → Nat → Nat

/-- The header and serial data of an ST 2022-6 datagram sent, which its standard lays out: FORMAT, datagram of the frame, and the
lines of the signal that it falls in (R171, R196). -/
opaque serialData : Nat → Nat → List Machine.SdiOut → List Byte

/-- RTP timestamp of an ST 2022-6 datagram sent: flow, frame and datagram within it (R171, R196). -/
opaque serialStamp : Nat → Nat → Nat → Nat

/-- What a receiver finds in ST 2022-6 datagrams: the IFRATE of a payload's HBRMT header; the serial data behind it; and in the
serial data gathered since the last line, the frame start and the line that they complete, with what is left (R196). The
manual leaves the layout to the standard. -/
opaque serialRate : List Byte → Nat
opaque serialBody : List Byte → List Byte
opaque serialStart : List Byte → Option SdiFrame
opaque serialLine : List Byte → Option (SdiLine × List Byte)
/-- The byte position in the serial data gathered of 0H of interface line 1 (R196). -/
opaque serialAt : List Byte → Nat

/-- Identification of an IPv4 header sent, by flow and RTP sequence number, and its don't-fragment bit (R198). -/
opaque ipIdent : Nat → Nat → Nat
opaque dontFragment : Bool

/-- SHAKE256 with a 256-bit output (R422, R427). -/
opaque shake : List Byte → Nat

/-- An ML-DSA-65 signature verifies: public key, message, signature (R420, R430). -/
opaque verifies : List Byte → List Byte → List Byte → Bool

/-- An ML-DSA-65 signature of the device identity key over a message (R427). -/
opaque sign : List Byte → List Byte

/-- The identity public key (R426). -/
opaque identityKey : List Byte

/-- The catalogue entries of functions 1 to 7 in an image's body (R229, R422). -/
opaque catalogue : List Byte → List Nat

/-- Digest of the boot ROM (R424). -/
opaque romDigest : Nat

/-- The k-th random nonce (R431). -/
opaque nonce : Nat → Nat

/-- The voltage that the characterisation asks of a rail at a temperature in 0.25 °C, mV (R411). -/
opaque avsTarget : Nat → Int → Nat

/-- The transmit equaliser presets of this device's capability words (R215). -/
opaque presets : Nat
/-- The receiver settings that a TRAINED lane has adapted to: lane, settings it adapts from, since when, now (R218). -/
opaque adapted : Nat → RxTune → Nat → Nat → RxTune
/-- Errors that a checker has counted: lane, start of the test, now (R221). -/
opaque prbsErrors : Nat → Nat → Nat → Nat

/-- Length of the test port's instruction register, the names of its codes, and the number of boundary cells (R451). -/
opaque tapIrLen : Nat
opaque tapCode : List Bool → Nat
opaque tapCells : Nat

end Sys2Proof.Config
end

