-- ==== Sys2Proof/Machine/RegMap.lean ====
section
/-!
DEFINITION. The register map of BAR0: every register the manual tables, its offset (block base of R324 plus the offset
its chapter gives), its index ranges, the bits of each access code (R4) and its reset word.
-/
namespace Sys2Proof.Machine
open Sys2Proof

/-- A register of BAR0, named as the manual names it. -/
inductive Reg where
  | timSystimeLo
  | timSystimeHi
  | timDomCfg
  | timDomPhase
  | timDomFi
  | timRefCfg
  | timRefLim
  | timRefStatus
  | timVphase
  | timSelCfg
  | timSelStatus
  | timPtbCfg
  | timStepCfg
  | timOcxoCfg
  | timOvenCfg
  | timOvenStatus
  | timMediaCfg
  | swcTtCfg
  | swcTtStatus
  | swcPrefetchDiscard
  | swcXpCollision
  | aqfDevCfg
  | aqfPairCfg
  | aqfTimeCfg
  | aqfMsgBaseLo
  | aqfMsgBaseHi
  | aqfMsgCfg
  | aqfCellLateCount
  | aqfCrcCount
  | aqfLinkAsym
  | svpOctetCfg
  | svpRxStatus
  | svpRxArrival
  | svpRxCrc
  | svpRxVpid
  | svpTxStatus
  | nmpMacCfg
  | nmpMacAddrLo
  | nmpMacAddrHi
  | nmpMacStatus
  | nmpRxFcs
  | nmpRxDrop
  | nmpEee
  | nmpGateStatus
  | nmpMgmtCfg
  | nmpMgmtAddrLo
  | nmpMgmtAddrHi
  | nmpMgmtStatus
  | nmpXringBaseLo
  | nmpXringBaseHi
  | nmpXringCfg
  | nmpXringDrop
  | nmpPtpCorr
  | lnxLaneCfg
  | lnxLaneStatus
  | lnxPrbsErr
  | lnxMarginCfg
  | lnxSpareStatus
  | ikaClassCfg
  | ikaClassLoad
  | ikaClassSpare
  | ikaClassAudit
  | ikaAuditCfg
  | ikaHbmLoad
  | ikaDdrLoad
  | ikaCat
  | audCfg
  | audStatus
  | audSatCount
  | audLateCount
  | audXpCollision
  | audDelayHbm
  | audDelayDdr
  | audPortStatus
  | audPortErr
  | memDdrCfg
  | memOrder
  | memRegion
  | memScrubCfg
  | memSchedCfg
  | memMoverCfg
  | memCtrlStatus
  | memWinStatus
  | memWinReserve
  | identId
  | identUidLo
  | identUidHi
  | identFw
  | identBoot
  | hifCfg
  | hifSetupLock
  | hifLinkCfg
  | hifLinkStatus
  | hifRcBaseLo
  | hifRcBaseHi
  | hifCmdBaseLo
  | hifCmdBaseHi
  | hifCmdDbLo
  | hifCmdDbHi
  | hifCmdCfg
  | hifCmdStatus
  | hifCplBaseLo
  | hifCplBaseHi
  | hifEvtBaseLo
  | hifEvtBaseHi
  | hifCplCfg
  | hifEvtCfg
  | hifCplStatus
  | hifEvtLost
  | hifEvtRoute
  | redCfg
  | redCfg2
  | redStatus
  | redGen
  | redJseq
  | redJournal
  | fltCfg
  | fltHealthLo
  | fltHealthHi
  | fltHealthIka
  | fltAlive
  | fltResetCause
  | fltSigCount
  | fltRcMismatch
  | fltRcSkipped
  | fltAlogStatus
  | pwrCfg
  | pwrStatus
  | pwrGatedClass
  | pwrGatedIo
  | pwrGatedQuadLo
  | pwrGatedQuadHi
  | pwrWake
  | pwrWakeTs
  | pwrAvsCfg
  | pwrAvsStatus
  | pwrThermCfg
  | pwrThermGain
  | pwrEst
  | pwrOutCfg
  | pwrOutStatus
  | pwrTemp
  | secFuseLotLo
  | secFuseLotHi
  | secFuseDie
  | secLifecycle
  | secTamperCfg
  | secBootStatus
  | secRecoveryAddrLo
  | secRecoveryAddrHi
  | secKeyDigest
  | secCosignDigest
  | secRecoveryCtl
  | secMeas
  | timRefHist
  | fltSrcCfg
  | fltSrcStatus
  | fltSrcFirst
  | fltSrcLast
  | fltAlogAddrLo
  | fltAlogAddrHi
  | fltAlogSpace
  | fltAlogStamp
deriving DecidableEq, Repr

/-- One line of the register map: the BAR0 offset of index 0, the two index strides and counts, the bits of each access
code of R4, and the reset value of the stored bits. -/
structure RegSpec where
  base : Nat
  stride : Nat
  count : Nat
  stride2 : Nat
  count2 : Nat
  rw : Nat
  rwl : Nat
  w1c : Nat
  ro : Nat
  reset : Nat
deriving DecidableEq, Repr

/-- The register map, as each chapter's register section gives it. -/
def regSpec : Reg → RegSpec
  | .timSystimeLo => ⟨0x600000, 0, 1, 0, 1, 0x0, 0x0, 0x0, 0xffffffff, 0x0⟩
  | .timSystimeHi => ⟨0x600004, 0, 1, 0, 1, 0x0, 0x0, 0x0, 0xffffffff, 0x0⟩
  | .timDomCfg => ⟨0x600300, 16, 8, 0, 1, 0x8000000f, 0x0, 0x0, 0x0, 0x0⟩
  | .timDomPhase => ⟨0x600304, 16, 8, 0, 1, 0xffffffff, 0x0, 0x0, 0x0, 0x0⟩
  | .timDomFi => ⟨0x600308, 16, 8, 0, 1, 0x0, 0x0, 0x0, 0xffffffff, 0x0⟩
  | .timRefCfg => ⟨0x600100, 16, 17, 0, 1, 0xffffff3f, 0x0, 0x0, 0x0, 0x300⟩
  | .timRefLim => ⟨0x600104, 16, 17, 0, 1, 0xffffffff, 0x0, 0x0, 0x0, 0xc80032⟩
  | .timRefStatus => ⟨0x600108, 16, 17, 0, 1, 0x0, 0x0, 0x0, 0xffffffff, 0x0⟩
  | .timVphase => ⟨0x600040, 4, 4, 0, 1, 0x0, 0x0, 0x0, 0xffffffff, 0x0⟩
  | .timSelCfg => ⟨0x600010, 0, 1, 0, 1, 0xffffff03, 0x0, 0x0, 0x0, 0x14140a02⟩
  | .timSelStatus => ⟨0x600014, 0, 1, 0, 1, 0x0, 0x0, 0x0, 0xff1f0000, 0x0⟩
  | .timPtbCfg => ⟨0x600400, 16, 4, 0, 1, 0xf8ff1ff0, 0x0, 0x0, 0x0, 0xd0⟩
  | .timStepCfg => ⟨0x600018, 0, 1, 0, 1, 0xffffffff, 0x0, 0x0, 0x0, 0x6403e8⟩
  | .timOcxoCfg => ⟨0x600020, 0, 1, 0, 1, 0x0, 0x9fffffff, 0x0, 0x0, 0x10090018⟩
  | .timOvenCfg => ⟨0x600024, 0, 1, 0, 1, 0xffffffff, 0x0, 0x0, 0x0, 0x8000101e⟩
  | .timOvenStatus => ⟨0x600028, 0, 1, 0, 1, 0x0, 0x0, 0x0, 0x8000ffff, 0x0⟩
  | .timMediaCfg => ⟨0x600030, 0, 1, 0, 1, 0xff, 0x0, 0x0, 0x0, 0x0⟩
  | .swcTtCfg => ⟨0xb00000, 0, 1, 0, 1, 0xffff01, 0x0, 0x0, 0x0, 0x140200⟩
  | .swcTtStatus => ⟨0xb00004, 0, 1, 0, 1, 0x0, 0x0, 0x0, 0x7f007f, 0x0⟩
  | .swcPrefetchDiscard => ⟨0xb00008, 0, 1, 0, 1, 0x0, 0x0, 0x0, 0xffffffff, 0x0⟩
  | .swcXpCollision => ⟨0xb0000c, 0, 1, 0, 1, 0x0, 0x0, 0x0, 0xffff, 0x0⟩
  | .aqfDevCfg => ⟨0xa00000, 0, 1, 0, 1, 0x80000000, 0x3ff, 0x0, 0x0, 0x0⟩
  | .aqfPairCfg => ⟨0xa00004, 0, 1, 0, 1, 0x0, 0xc000ffff, 0x0, 0x0, 0x0⟩
  | .aqfTimeCfg => ⟨0xa00008, 0, 1, 0, 1, 0x800000ff, 0x0, 0x0, 0x0, 0x0⟩
  | .aqfMsgBaseLo => ⟨0xa00010, 0, 1, 0, 1, 0x0, 0xfffff000, 0x0, 0x0, 0x0⟩
  | .aqfMsgBaseHi => ⟨0xa00014, 0, 1, 0, 1, 0x0, 0xffffffff, 0x0, 0x0, 0x0⟩
  | .aqfMsgCfg => ⟨0xa00018, 0, 1, 0, 1, 0x80000000, 0xf, 0x0, 0x0, 0x8⟩
  | .aqfCellLateCount => ⟨0xa00020, 0, 1, 0, 1, 0x0, 0x0, 0x0, 0xffffffff, 0x0⟩
  | .aqfCrcCount => ⟨0xa00024, 0, 1, 0, 1, 0x0, 0x0, 0x0, 0xffffffff, 0x0⟩
  | .aqfLinkAsym => ⟨0xa00100, 4, 144, 0, 1, 0xffff, 0x0, 0x0, 0x0, 0x0⟩
  | .svpOctetCfg => ⟨0x800000, 0, 1, 0, 1, 0xff, 0x0, 0x0, 0x0, 0x0⟩
  | .svpRxStatus => ⟨0x800100, 16, 64, 0, 1, 0x0, 0x0, 0x0, 0xffc0ffff, 0x0⟩
  | .svpRxArrival => ⟨0x800104, 16, 64, 0, 1, 0x0, 0x0, 0x0, 0xffffffff, 0x0⟩
  | .svpRxCrc => ⟨0x800108, 16, 64, 0, 1, 0x0, 0x0, 0x0, 0xffffffff, 0x0⟩
  | .svpRxVpid => ⟨0x80010c, 16, 64, 0, 1, 0x0, 0x0, 0x0, 0xffffffff, 0x0⟩
  | .svpTxStatus => ⟨0x800500, 4, 64, 0, 1, 0x0, 0x0, 0x0, 0xf800ffff, 0x0⟩
  | .nmpMacCfg => ⟨0x900000, 32, 16, 0, 1, 0xfcff3fff, 0x0, 0x0, 0x0, 0x40002400⟩
  | .nmpMacAddrLo => ⟨0x900004, 32, 16, 0, 1, 0xffffffff, 0x0, 0x0, 0x0, 0x0⟩
  | .nmpMacAddrHi => ⟨0x900008, 32, 16, 0, 1, 0xffff, 0x0, 0x0, 0x0, 0x0⟩
  | .nmpMacStatus => ⟨0x90000c, 32, 16, 0, 1, 0x0, 0x0, 0x0, 0xff00ffff, 0x0⟩
  | .nmpRxFcs => ⟨0x900010, 32, 16, 0, 1, 0x0, 0x0, 0x0, 0xffffffff, 0x0⟩
  | .nmpRxDrop => ⟨0x900014, 32, 16, 0, 1, 0x0, 0x0, 0x0, 0xffffffff, 0x0⟩
  | .nmpEee => ⟨0x900018, 32, 16, 0, 1, 0x8000ffff, 0x0, 0x0, 0x0, 0x0⟩
  | .nmpGateStatus => ⟨0x90001c, 32, 16, 0, 1, 0x0, 0x0, 0x0, 0xc00001ff, 0x0⟩
  | .nmpMgmtCfg => ⟨0x900200, 0, 1, 0, 1, 0xf8000000, 0x0, 0x0, 0x0, 0x40000000⟩
  | .nmpMgmtAddrLo => ⟨0x900204, 0, 1, 0, 1, 0xffffffff, 0x0, 0x0, 0x0, 0x0⟩
  | .nmpMgmtAddrHi => ⟨0x900208, 0, 1, 0, 1, 0xffff, 0x0, 0x0, 0x0, 0x0⟩
  | .nmpMgmtStatus => ⟨0x90020c, 0, 1, 0, 1, 0x0, 0x0, 0x0, 0x8000ffff, 0x0⟩
  | .nmpXringBaseLo => ⟨0x900300, 0, 1, 0, 1, 0x0, 0xfffff000, 0x0, 0x0, 0x0⟩
  | .nmpXringBaseHi => ⟨0x900304, 0, 1, 0, 1, 0x0, 0xffffffff, 0x0, 0x0, 0x0⟩
  | .nmpXringCfg => ⟨0x900308, 0, 1, 0, 1, 0x80000000, 0xf, 0x0, 0x0, 0x8⟩
  | .nmpXringDrop => ⟨0x90030c, 0, 1, 0, 1, 0x0, 0x0, 0x0, 0xffffffff, 0x0⟩
  | .nmpPtpCorr => ⟨0x900400, 4, 17, 0, 1, 0xffffffff, 0x0, 0x0, 0x0, 0x0⟩
  | .lnxLaneCfg => ⟨0x700000, 16, 144, 0, 1, 0x8000, 0xf0000000, 0x0, 0x0, 0x0⟩
  | .lnxLaneStatus => ⟨0x700004, 16, 144, 0, 1, 0x0, 0x0, 0x0, 0xffffffff, 0x0⟩
  | .lnxPrbsErr => ⟨0x700008, 16, 144, 0, 1, 0x0, 0x0, 0x0, 0xffffffff, 0x0⟩
  | .lnxMarginCfg => ⟨0x700c00, 0, 1, 0, 1, 0xffffff, 0x0, 0x0, 0x0, 0x100a0a⟩
  | .lnxSpareStatus => ⟨0x700d00, 16, 2, 4, 4, 0x0, 0x0, 0x0, 0xe00000ff, 0x0⟩
  | .ikaClassCfg => ⟨0xc00000, 16, 32, 0, 1, 0x80000000, 0x0, 0x0, 0x0, 0x0⟩
  | .ikaClassLoad => ⟨0xc00004, 16, 32, 0, 1, 0x0, 0x0, 0x0, 0xffff07ff, 0x0⟩
  | .ikaClassSpare => ⟨0xc00008, 16, 32, 0, 1, 0x0, 0x0, 0x0, 0xffff031f, 0x0⟩
  | .ikaClassAudit => ⟨0xc0000c, 16, 32, 0, 1, 0x0, 0x0, 0x0, 0xffffffff, 0x0⟩
  | .ikaAuditCfg => ⟨0xc00400, 0, 1, 0, 1, 0x80000007, 0x0, 0x0, 0x0, 0x80000000⟩
  | .ikaHbmLoad => ⟨0xc00404, 0, 1, 0, 1, 0x0, 0x0, 0x0, 0xffffffff, 0x0⟩
  | .ikaDdrLoad => ⟨0xc00408, 0, 1, 0, 1, 0x0, 0x0, 0x0, 0xffffffff, 0x0⟩
  | .ikaCat => ⟨0xc00804, 4, 7, 0, 1, 0x0, 0x0, 0x0, 0xffffffff, 0x0⟩
  | .audCfg => ⟨0xd00000, 0, 1, 0, 1, 0x87ff07ff, 0x40000000, 0x0, 0x0, 0x1f40060⟩
  | .audStatus => ⟨0xd00004, 0, 1, 0, 1, 0x0, 0x0, 0x0, 0x3ffff, 0x0⟩
  | .audSatCount => ⟨0xd00008, 0, 1, 0, 1, 0x0, 0x0, 0x0, 0xffffffff, 0x0⟩
  | .audLateCount => ⟨0xd0000c, 0, 1, 0, 1, 0x0, 0x0, 0x0, 0xffffffff, 0x0⟩
  | .audXpCollision => ⟨0xd00010, 0, 1, 0, 1, 0x0, 0x0, 0x0, 0xffffffff, 0x0⟩
  | .audDelayHbm => ⟨0xd00014, 0, 1, 0, 1, 0x0, 0x0, 0x0, 0xffffffff, 0x0⟩
  | .audDelayDdr => ⟨0xd00018, 0, 1, 0, 1, 0x0, 0x0, 0x0, 0xffffffff, 0x0⟩
  | .audPortStatus => ⟨0xd00100, 8, 40, 0, 1, 0x0, 0x0, 0x0, 0xf000ffff, 0x0⟩
  | .audPortErr => ⟨0xd00104, 8, 40, 0, 1, 0x0, 0x0, 0x0, 0xffffffff, 0x0⟩
  | .memDdrCfg => ⟨0xe00000, 0, 1, 0, 1, 0x0, 0xfff0000f, 0x0, 0x0, 0xd0000f⟩
  | .memOrder => ⟨0xe00004, 0, 1, 0, 1, 0x0, 0xffffff, 0x0, 0x0, 0x0⟩
  | .memRegion => ⟨0xe00008, 0, 1, 0, 1, 0x0, 0xff000fff, 0x0, 0x0, 0x860007f0⟩
  | .memScrubCfg => ⟨0xe0000c, 0, 1, 0, 1, 0xffe0ffff, 0x0, 0x0, 0x0, 0xb78003e8⟩
  | .memSchedCfg => ⟨0xe00010, 0, 1, 0, 1, 0x800003ff, 0x0, 0x0, 0x0, 0x800001f4⟩
  | .memMoverCfg => ⟨0xe00014, 0, 1, 0, 1, 0x0, 0xffff, 0x0, 0x0, 0x1f40⟩
  | .memCtrlStatus => ⟨0xe00100, 4, 12, 0, 1, 0x0, 0x0, 0x0, 0xfff01fff, 0x0⟩
  | .memWinStatus => ⟨0xe00200, 8, 2, 0, 1, 0x0, 0x0, 0x0, 0xffffffff, 0x0⟩
  | .memWinReserve => ⟨0xe00204, 8, 2, 0, 1, 0x0, 0x0, 0x0, 0xffffffff, 0x0⟩
  | .identId => ⟨0x0, 0, 1, 0, 1, 0x0, 0x0, 0x0, 0xffffff00, 0x0⟩
  | .identUidLo => ⟨0x4, 0, 1, 0, 1, 0x0, 0x0, 0x0, 0xffffffff, 0x0⟩
  | .identUidHi => ⟨0x8, 0, 1, 0, 1, 0x0, 0x0, 0x0, 0xffffffff, 0x0⟩
  | .identFw => ⟨0xc, 0, 1, 0, 1, 0x0, 0x0, 0x0, 0xffffffff, 0x0⟩
  | .identBoot => ⟨0x10, 0, 1, 0, 1, 0x0, 0x0, 0x0, 0x1, 0x0⟩
  | .hifCfg => ⟨0x100000, 0, 1, 0, 1, 0x4, 0x2, 0x0, 0x0, 0x0⟩
  | .hifSetupLock => ⟨0x100004, 0, 1, 0, 1, 0x0, 0x0, 0x0, 0x0, 0x0⟩
  | .hifLinkCfg => ⟨0x100008, 0, 1, 0, 1, 0x0, 0xff, 0x0, 0x0, 0x35⟩
  | .hifLinkStatus => ⟨0x10000c, 0, 1, 0, 1, 0x0, 0x0, 0x0, 0xf80000ff, 0x0⟩
  | .hifRcBaseLo => ⟨0x100010, 0, 1, 0, 1, 0x0, 0xfffffc00, 0x0, 0x0, 0x0⟩
  | .hifRcBaseHi => ⟨0x100014, 0, 1, 0, 1, 0x0, 0xffffffff, 0x0, 0x0, 0x0⟩
  | .hifCmdBaseLo => ⟨0x101000, 32, 64, 0, 1, 0x0, 0xfffff000, 0x0, 0x0, 0x0⟩
  | .hifCmdBaseHi => ⟨0x101004, 32, 64, 0, 1, 0x0, 0xffffffff, 0x0, 0x0, 0x0⟩
  | .hifCmdDbLo => ⟨0x101008, 32, 64, 0, 1, 0x0, 0xffffffc0, 0x0, 0x0, 0x0⟩
  | .hifCmdDbHi => ⟨0x10100c, 32, 64, 0, 1, 0x0, 0xffffffff, 0x0, 0x0, 0x0⟩
  | .hifCmdCfg => ⟨0x101010, 32, 64, 0, 1, 0x80000000, 0x3f000f, 0x0, 0x0, 0x4⟩
  | .hifCmdStatus => ⟨0x101014, 32, 64, 0, 1, 0x0, 0x0, 0x0, 0xc000ffff, 0x0⟩
  | .hifCplBaseLo => ⟨0x102000, 16, 64, 0, 1, 0x0, 0xfffff000, 0x0, 0x0, 0x0⟩
  | .hifCplBaseHi => ⟨0x102004, 16, 64, 0, 1, 0x0, 0xffffffff, 0x0, 0x0, 0x0⟩
  | .hifEvtBaseLo => ⟨0x103000, 16, 8, 0, 1, 0x0, 0xfffff000, 0x0, 0x0, 0x0⟩
  | .hifEvtBaseHi => ⟨0x103004, 16, 8, 0, 1, 0x0, 0xffffffff, 0x0, 0x0, 0x0⟩
  | .hifCplCfg => ⟨0x102008, 16, 64, 0, 1, 0xffff0000, 0xf, 0x0, 0x0, 0x8⟩
  | .hifEvtCfg => ⟨0x103008, 16, 8, 0, 1, 0xffff0000, 0xf, 0x0, 0x0, 0x8⟩
  | .hifCplStatus => ⟨0x10200c, 16, 64, 0, 1, 0x0, 0x0, 0x0, 0x1ffff, 0x0⟩
  | .hifEvtLost => ⟨0x10300c, 16, 8, 0, 1, 0x0, 0x0, 0x0, 0xffffffff, 0x0⟩
  | .hifEvtRoute => ⟨0x103100, 4, 20, 0, 1, 0x7, 0x0, 0x0, 0x0, 0x0⟩
  | .redCfg => ⟨0x500000, 0, 1, 0, 1, 0x2000ffff, 0x40ff0000, 0x0, 0x0, 0x20041e02⟩
  | .redCfg2 => ⟨0x500004, 0, 1, 0, 1, 0x0, 0xc0000007, 0x0, 0x0, 0x0⟩
  | .redStatus => ⟨0x500008, 0, 1, 0, 1, 0x0, 0x0, 0x0, 0xff800000, 0x0⟩
  | .redGen => ⟨0x50000c, 0, 1, 0, 1, 0x0, 0x0, 0x0, 0xffffffff, 0x0⟩
  | .redJseq => ⟨0x500010, 0, 1, 0, 1, 0x0, 0x0, 0x0, 0xffffffff, 0x0⟩
  | .redJournal => ⟨0x500014, 0, 1, 0, 1, 0x0, 0x0, 0x0, 0x1fff, 0x0⟩
  | .fltCfg => ⟨0x200000, 0, 1, 0, 1, 0x80ffffff, 0x0, 0x0, 0x0, 0x800a03e8⟩
  | .fltHealthLo => ⟨0x200004, 0, 1, 0, 1, 0x0, 0x0, 0xffffffff, 0x0, 0x0⟩
  | .fltHealthHi => ⟨0x200008, 0, 1, 0, 1, 0x0, 0x0, 0xffffffff, 0x0, 0x0⟩
  | .fltHealthIka => ⟨0x20000c, 0, 1, 0, 1, 0x0, 0x0, 0xffffffff, 0x0, 0x0⟩
  | .fltAlive => ⟨0x200010, 0, 1, 0, 1, 0x0, 0x0, 0x0, 0xe003ffff, 0x0⟩
  | .fltResetCause => ⟨0x200014, 0, 1, 0, 1, 0x0, 0x0, 0x0, 0x800003ff, 0x0⟩
  | .fltSigCount => ⟨0x200018, 0, 1, 0, 1, 0x0, 0x0, 0x0, 0xffffffff, 0x0⟩
  | .fltRcMismatch => ⟨0x20001c, 0, 1, 0, 1, 0x0, 0x0, 0x0, 0xffffffff, 0x0⟩
  | .fltRcSkipped => ⟨0x200020, 0, 1, 0, 1, 0x0, 0x0, 0x0, 0xffffffff, 0x0⟩
  | .fltAlogStatus => ⟨0x200024, 0, 1, 0, 1, 0x0, 0x0, 0x0, 0xfffff0ff, 0x0⟩
  | .pwrCfg => ⟨0x300000, 0, 1, 0, 1, 0xbfff0000, 0x0, 0x0, 0x0, 0x3e80000⟩
  | .pwrStatus => ⟨0x300004, 0, 1, 0, 1, 0x0, 0x0, 0x0, 0xffc00000, 0x0⟩
  | .pwrGatedClass => ⟨0x300008, 0, 1, 0, 1, 0x0, 0x0, 0x0, 0xffffffff, 0x0⟩
  | .pwrGatedIo => ⟨0x30000c, 0, 1, 0, 1, 0x0, 0x0, 0x0, 0x800000ff, 0x0⟩
  | .pwrGatedQuadLo => ⟨0x300010, 0, 1, 0, 1, 0x0, 0x0, 0x0, 0xffffffff, 0x0⟩
  | .pwrGatedQuadHi => ⟨0x300014, 0, 1, 0, 1, 0x0, 0x0, 0x0, 0xffffffff, 0x0⟩
  | .pwrWake => ⟨0x300018, 0, 1, 0, 1, 0x0, 0x0, 0x0, 0xf0000000, 0x0⟩
  | .pwrWakeTs => ⟨0x30001c, 0, 1, 0, 1, 0x0, 0x0, 0x0, 0xffffffff, 0x0⟩
  | .pwrAvsCfg => ⟨0x300020, 8, 3, 0, 1, 0xffff0000, 0x0, 0x0, 0x0, 0x3e80000⟩
  | .pwrAvsStatus => ⟨0x300024, 8, 3, 0, 1, 0x0, 0x0, 0x0, 0xffffffff, 0x0⟩
  | .pwrThermCfg => ⟨0x300100, 0, 1, 0, 1, 0xffff00ff, 0xff00, 0x0, 0x0, 0x5564731e⟩
  | .pwrThermGain => ⟨0x300104, 0, 1, 0, 1, 0xffffffff, 0x0, 0x0, 0x0, 0x4011388⟩
  | .pwrEst => ⟨0x300108, 0, 1, 0, 1, 0x0, 0x0, 0x0, 0xffffffff, 0x0⟩
  | .pwrOutCfg => ⟨0x300110, 8, 4, 0, 1, 0xfffffff0, 0x0, 0x0, 0x0, 0x140a0a20⟩
  | .pwrOutStatus => ⟨0x300114, 8, 4, 0, 1, 0x0, 0x0, 0x0, 0xff00ffff, 0x0⟩
  | .pwrTemp => ⟨0x300200, 4, 32, 0, 1, 0x0, 0x0, 0x0, 0x8000ffff, 0x0⟩
  | .secFuseLotLo => ⟨0x400000, 0, 1, 0, 1, 0x0, 0x0, 0x0, 0xffffffff, 0x0⟩
  | .secFuseLotHi => ⟨0x400004, 0, 1, 0, 1, 0x0, 0x0, 0x0, 0x1fffff, 0x0⟩
  | .secFuseDie => ⟨0x400008, 0, 1, 0, 1, 0x0, 0x0, 0x0, 0xffff, 0x0⟩
  | .secLifecycle => ⟨0x40000c, 0, 1, 0, 1, 0x0, 0x0, 0x0, 0xf800007f, 0x0⟩
  | .secTamperCfg => ⟨0x400010, 0, 1, 0, 1, 0x0, 0xff, 0x0, 0x0, 0xa⟩
  | .secBootStatus => ⟨0x400014, 0, 1, 0, 1, 0x0, 0x0, 0x0, 0xffc00000, 0x0⟩
  | .secRecoveryAddrLo => ⟨0x400018, 0, 1, 0, 1, 0xffffffff, 0x0, 0x0, 0x0, 0x0⟩
  | .secRecoveryAddrHi => ⟨0x40001c, 0, 1, 0, 1, 0xffffffff, 0x0, 0x0, 0x0, 0x0⟩
  | .secKeyDigest => ⟨0x400020, 4, 8, 0, 1, 0x0, 0x0, 0x0, 0xffffffff, 0x0⟩
  | .secCosignDigest => ⟨0x400040, 4, 8, 0, 1, 0x0, 0x0, 0x0, 0xffffffff, 0x0⟩
  | .secRecoveryCtl => ⟨0x400060, 0, 1, 0, 1, 0x0, 0x0, 0x0, 0x7c000000, 0x0⟩
  | .secMeas => ⟨0x400100, 32, 3, 4, 8, 0x0, 0x0, 0x0, 0xffffffff, 0x0⟩
  | .timRefHist => ⟨0x60010c, 16, 17, 0, 1, 0x0, 0x0, 0x1f, 0x0, 0x0⟩
  | .fltSrcCfg => ⟨0x201000, 4, 640, 0, 1, 0xfe0fffff, 0x0, 0x0, 0x0, 0x42000000⟩
  | .fltSrcStatus => ⟨0x202000, 16, 640, 0, 1, 0x0, 0x0, 0x60000000, 0x800000ff, 0x0⟩
  | .fltSrcFirst => ⟨0x202004, 16, 640, 0, 1, 0x0, 0x0, 0x0, 0xffffffff, 0x0⟩
  | .fltSrcLast => ⟨0x202008, 16, 640, 0, 1, 0x0, 0x0, 0x0, 0xffffffff, 0x0⟩
  | .fltAlogAddrLo => ⟨0x200100, 16, 16, 0, 1, 0x0, 0x0, 0x0, 0xffffffff, 0x0⟩
  | .fltAlogAddrHi => ⟨0x200104, 16, 16, 0, 1, 0x0, 0x0, 0x0, 0xffffffff, 0x0⟩
  | .fltAlogSpace => ⟨0x200108, 16, 16, 0, 1, 0x0, 0x0, 0x0, 0xffffffff, 0x0⟩
  | .fltAlogStamp => ⟨0x20010c, 16, 16, 0, 1, 0x0, 0x0, 0x0, 0xffffffff, 0x0⟩

/-- Registers of the map, part 1. -/
def regs1 : List Reg := [.timSystimeLo, .timSystimeHi, .timDomCfg, .timDomPhase, .timDomFi, .timRefCfg, .timRefLim, .timRefStatus, .timVphase, .timSelCfg, .timSelStatus, .timPtbCfg, .timStepCfg, .timOcxoCfg, .timOvenCfg, .timOvenStatus, .timMediaCfg, .swcTtCfg, .swcTtStatus, .swcPrefetchDiscard]
/-- Registers of the map, part 2. -/
def regs2 : List Reg := [.swcXpCollision, .aqfDevCfg, .aqfPairCfg, .aqfTimeCfg, .aqfMsgBaseLo, .aqfMsgBaseHi, .aqfMsgCfg, .aqfCellLateCount, .aqfCrcCount, .aqfLinkAsym, .svpOctetCfg, .svpRxStatus, .svpRxArrival, .svpRxCrc, .svpRxVpid, .svpTxStatus, .nmpMacCfg, .nmpMacAddrLo, .nmpMacAddrHi, .nmpMacStatus]
/-- Registers of the map, part 3. -/
def regs3 : List Reg := [.nmpRxFcs, .nmpRxDrop, .nmpEee, .nmpGateStatus, .nmpMgmtCfg, .nmpMgmtAddrLo, .nmpMgmtAddrHi, .nmpMgmtStatus, .nmpXringBaseLo, .nmpXringBaseHi, .nmpXringCfg, .nmpXringDrop, .nmpPtpCorr, .lnxLaneCfg, .lnxLaneStatus, .lnxPrbsErr, .lnxMarginCfg, .lnxSpareStatus, .ikaClassCfg, .ikaClassLoad]
/-- Registers of the map, part 4. -/
def regs4 : List Reg := [.ikaClassSpare, .ikaClassAudit, .ikaAuditCfg, .ikaHbmLoad, .ikaDdrLoad, .ikaCat, .audCfg, .audStatus, .audSatCount, .audLateCount, .audXpCollision, .audDelayHbm, .audDelayDdr, .audPortStatus, .audPortErr, .memDdrCfg, .memOrder, .memRegion, .memScrubCfg, .memSchedCfg]
/-- Registers of the map, part 5. -/
def regs5 : List Reg := [.memMoverCfg, .memCtrlStatus, .memWinStatus, .memWinReserve, .identId, .identUidLo, .identUidHi, .identFw, .identBoot, .hifCfg, .hifSetupLock, .hifLinkCfg, .hifLinkStatus, .hifRcBaseLo, .hifRcBaseHi, .hifCmdBaseLo, .hifCmdBaseHi, .hifCmdDbLo, .hifCmdDbHi, .hifCmdCfg]
/-- Registers of the map, part 6. -/
def regs6 : List Reg := [.hifCmdStatus, .hifCplBaseLo, .hifCplBaseHi, .hifEvtBaseLo, .hifEvtBaseHi, .hifCplCfg, .hifEvtCfg, .hifCplStatus, .hifEvtLost, .hifEvtRoute, .redCfg, .redCfg2, .redStatus, .redGen, .redJseq, .redJournal, .fltCfg, .fltHealthLo, .fltHealthHi, .fltHealthIka]
/-- Registers of the map, part 7. -/
def regs7 : List Reg := [.fltAlive, .fltResetCause, .fltSigCount, .fltRcMismatch, .fltRcSkipped, .fltAlogStatus, .pwrCfg, .pwrStatus, .pwrGatedClass, .pwrGatedIo, .pwrGatedQuadLo, .pwrGatedQuadHi, .pwrWake, .pwrWakeTs, .pwrAvsCfg, .pwrAvsStatus, .pwrThermCfg, .pwrThermGain, .pwrEst, .pwrOutCfg]
/-- Registers of the map, part 8. -/
def regs8 : List Reg := [.pwrOutStatus, .pwrTemp, .secFuseLotLo, .secFuseLotHi, .secFuseDie, .secLifecycle, .secTamperCfg, .secBootStatus, .secRecoveryAddrLo, .secRecoveryAddrHi, .secKeyDigest, .secCosignDigest, .secRecoveryCtl, .secMeas, .timRefHist, .fltSrcCfg, .fltSrcStatus, .fltSrcFirst, .fltSrcLast, .fltAlogAddrLo]
/-- Registers of the map, part 9. -/
def regs9 : List Reg := [.fltAlogAddrHi, .fltAlogSpace, .fltAlogStamp]

/-- Every register of the map. -/
def allRegs : List Reg := regs1 ++ regs2 ++ regs3 ++ regs4 ++ regs5 ++ regs6 ++ regs7 ++ regs8 ++ regs9

/-- The BAR0 offset of a register at its indices. -/
def regOff (r : Reg) (i j : Nat) : Nat := (regSpec r).base + (regSpec r).stride * i + (regSpec r).stride2 * j

/-- The indices at which a register lies at an offset, if it lies there. -/
def regAt (r : Reg) (off : Nat) : Option (Nat × Nat) :=
  let q := regSpec r
  if off < q.base then none
  else
    let d := off - q.base
    let i := if q.stride = 0 then 0 else d / q.stride
    let e := d - q.stride * i
    let j := if q.stride2 = 0 then 0 else e / q.stride2
    if i < q.count && j < q.count2 && e - q.stride2 * j = 0 then some (i, j) else none

/-- The register of a list that lies at an offset, with its indices. -/
def locateIn : List Reg → Nat → Option (Reg × Nat × Nat)
  | [], _ => none
  | r :: rs, off =>
    match regAt r off with
    | some (i, j) => some (r, i, j)
    | none => locateIn rs off

/-- The register at a BAR0 offset (R324, R325). -/
def locate (off : Nat) : Option (Reg × Nat × Nat) := locateIn allRegs off

end Sys2Proof.Machine
end

