-- ==== Sys2Proof/Machine/Flags.lean ====
section
/-!
DEFINITION. The fault collector's flags: what a raise sets in a source's status words, the consequence windows that cover
it, the reactions it takes and the record it queues (R337, R377 to R384), and the address log (R386).
-/
namespace Sys2Proof.Machine
open Sys2Proof

/-! ## Register words -/

/-- The word a register holds for its RW and RWL fields: as last written, or its reset word (R4). -/
def rd (s : State) (r : Reg) (i : Nat) (j : Nat := 0) : Nat :=
  (tgetD s.regs (regOff r i j) (BitVec.ofNat 32 (regSpec r).reset)).toNat

/-- Field `[hi:lo]` of a register (R2). -/
def fld (s : State) (r : Reg) (i hi lo : Nat) : Nat := bits (rd s r i) hi lo

/-- A register's word set. -/
def wr (s : State) (r : Reg) (i j n : Nat) : State :=
  { s with regs := tput s.regs (regOff r i j) (BitVec.ofNat 32 n) }

/-- TS32 of an instant: bits [31:0] of the system nanosecond counter. -/
def ts32 (t : Nat) : Nat := t % 2 ^ 32

/-! ## Raising a source -/

/-- A raise before the collector takes it: its source, its data items as `(size, value)` pairs for R332, the address its
data name, the TAG of the ACCEPTED command it ends, the unit its data name for a block reset (R380), and whether its
record has been written already (the OVERFLOW record of R338). -/
structure Ev where
  src : Nat
  data : List (Nat × Nat) := []
  addr : Nat := 0
  fin : Option Nat := none
  unit : Option ResetUnit := none
  written : Bool := false
deriving DecidableEq, Repr

/-- The group of a source: sources are numbered 32 × group + bit (R377). -/
def groupOf (src : Nat) : Nat := src / 32

/-- A window covers a raise of `src` at instant `t` (R383, R384; the window includes its end, R1). -/
def covers (w : Window) (src t : Nat) : Bool :=
  bit w.dep (groupOf src) && (decide (w.opened < t) || decide (w.opened = t) && decide (w.src < src)) && decide (t ≤ w.until_)

/-- A raise is consequential while a window covers it (R383). -/
def conseqIn (f : Flt) (src t : Nat) : Bool := f.windows.any (fun w => covers w src t)

/-- A source's status words after a raise (R381), with what R382 needs of the raises of one instant. -/
def statusAfter (st : SrcStat) (conseq : Bool) (t : Nat) : SrcStat :=
  { sticky := st.sticky || !conseq
    conseq := st.conseq || conseq
    count := satAdd 8 st.count 1
    first := if st.sticky || st.conseq then st.first else ts32 t
    last := ts32 t
    lastAt := t
    sameN := if decide (st.lastAt = t) && decide (0 < st.sameN) then st.sameN + 1 else 1
    lastConseq := conseq }

/-- A source's status words after a clear at instant `t` (R381): a raise of the same instant is applied after it (R382). -/
def statusCleared (st : SrcStat) (t : Nat) : SrcStat :=
  if decide (st.lastAt = t) && decide (0 < st.sameN) then
    { st with sticky := !st.lastConseq, conseq := st.lastConseq, count := min 255 st.sameN, first := ts32 t, last := ts32 t }
  else {}

/-- The event record of a raise (R337). -/
def recordOf (e : Ev) (cfg : Nat) (conseq : Bool) (t : Nat) : EvRec :=
  { stamp := ts32 t
    src := e.src
    kind := if e.fin.isSome then 1 else if conseq then 2 else 0
    sev := bits cfg 31 30
    addr := e.addr
    data := padTo 12 (packFrom 0 e.data)
    tag := e.fin.getD 0
    signal := e.fin.isSome || (!conseq && bit cfg 25) }

/-- ALIVE_STOP (R379): ALIVE holds its level; the first source to stop it is kept in BY. -/
def reactAlive (cfg src : Nat) (f : Flt) : Flt :=
  if bit cfg 29 && !f.aliveStopped then { f with aliveStopped := true, aliveBy := src } else f

/-- NMT (R379): a trap to management core 0, or a count of snapshots not taken while one is held or being copied. -/
def reactNmt (cfg src t : Nat) (f : Flt) : Flt :=
  if bit cfg 26 then
    if f.snap.isSome || f.nmt.isSome then { f with snapLost := satAdd 8 f.snapLost 1 } else { f with nmt := some (src, ts32 t) }
  else f

/-- BLOCK_RESET (R379, R380): the unit named in the data, in a group that has a reset unit. -/
def reactBlock (cfg : Nat) (u : Option ResetUnit) (f : Flt) : Flt :=
  match u with
  | some x => if bit cfg 27 then { f with resetQ := f.resetQ ++ [x] } else f
  | none => f

/-- CHIP_RESET (R379): the cause is written now, the reset follows 10 µs after the raise. -/
def reactChip (cfg src t : Nat) (f : Flt) : Flt :=
  if bit cfg 28 then { f with resetCause := some src, chipResetAt := some (f.chipResetAt.getD (t + 10000)) } else f

/-- A window opened by a raise whose DEP is not zero (R383). -/
def openWindow (cfg src t conseqNs : Nat) (f : Flt) : Flt :=
  if bits cfg 19 0 = 0 then f
  else { f with windows := f.windows ++ [{ src := src, opened := t, dep := bits cfg 19 0, until_ := t + conseqNs }] }

/-- The reactions of a raise that is not consequential, in the order of R379. -/
def react (e : Ev) (cfg t conseqNs : Nat) (f : Flt) : Flt :=
  openWindow cfg e.src t conseqNs
    (reactChip cfg e.src t (reactBlock cfg e.unit (reactNmt cfg e.src t (reactAlive cfg e.src f))))

/-- The report card's count of raises by severity (R343), saturating at 32 bits. -/
def countSev (sev : Nat) (l : List Nat) : List Nat := l.set sev (satAdd 32 (l.getD sev 0) 1)

/-- The collector after a raise at instant `t` under the source's configuration word. -/
def raiseFlt (e : Ev) (cfg t conseqNs : Nat) (f : Flt) : Flt :=
  let conseq := conseqIn f e.src t
  let f := { f with
    stat := tput f.stat e.src (statusAfter (tgetD f.stat e.src {}) conseq t)
    sevCount := countSev (bits cfg 31 30) f.sevCount
    evq := if e.written then f.evq else f.evq ++ [recordOf e cfg conseq t] }
  if conseq then f else react e cfg t conseqNs f

/-- FLT_CFG.CONSEQ_US in ns; 0 acts as 1,000 µs. -/
def conseqNs (s : State) : Nat := (if fld s .fltCfg 0 15 0 = 0 then 1000 else fld s .fltCfg 0 15 0) * 1000

/-- A raise (R377 to R384): it touches the fault collector and nothing else. -/
def raise (e : Ev) (s : State) : State :=
  { s with flt := raiseFlt e (rd s .fltSrcCfg e.src) s.tim.now (conseqNs s) s.flt }

/-- A raise if a condition holds. -/
def raiseIf (b : Bool) (e : Ev) (s : State) : State := if b then raise e s else s

/-- One record per TAG of the commands that an event finishes, or an ordinary record where it finishes none (R332). -/
def raiseFor (tags : List Nat) (e : Ev) (s : State) : State :=
  match tags with
  | [] => raise e s
  | _ => tags.foldl (fun s t => raise { e with fin := some t } s) s

/-- A raise limited to one per interval and instance, where a chapter limits its event: `slot` numbers the interval. -/
def raiseOnce (inst slot : Nat) (e : Ev) (s : State) : State :=
  if s.flt.limit.any (fun p => p.1 == (e.src, inst) && p.2 == slot) then s
  else
    raise e { s with flt := { s.flt with
      limit := ((e.src, inst), slot) :: s.flt.limit.filter (fun p => !(p.1 == (e.src, inst))) } }

/-- The whole second of the system counter, the interval of most limits. -/
def secOf (s : State) : Nat := s.tim.now / 1000000000

/-- A clear of one source's status words (R381, R382). -/
def clearSrc (src : Nat) (s : State) : State :=
  { s with flt := { s.flt with
      stat := tput s.flt.stat src (statusCleared (tgetD s.flt.stat src {}) s.tim.now) } }

/-! ## The address log (R386) -/

/-- Spaces of an address-log entry. -/
inductive Space where
  | host
  | bar0
  | bus
  | hbm
  | ddr
  | ram
deriving DecidableEq, Repr

/-- Its code in the entry's word at +8. -/
def spaceCode : Space → Nat
  | .host => 0
  | .bar0 => 1
  | .bus => 2
  | .hbm => 3
  | .ddr => 4
  | .ram => 5

/-- An address recorded in the log: the next entry of the ring of 16; an unread entry overwritten is counted and raises
ALOG_OVERWRITE. -/
def alog (addr : Nat) (sp : Space) (origin source : Nat) (s : State) : State :=
  let f := s.flt
  let i := f.alogNext
  let full := bit f.alogValid i
  let lost := if full then satAdd 8 f.alogLost 1 else f.alogLost
  let e : AlogEntry := { addr := addr, space := spaceCode sp, origin := origin, source := source, stamp := ts32 s.tim.now }
  raiseIf full { src := 0x24A, data := [(1, lost)] }
    { s with flt := { f with
        alog := tput f.alog i e, alogValid := setBit f.alogValid i, alogNext := (i + 1) % 16, alogLost := lost } }

/-- A register write ignored and logged as a violation (R326): SETUP_VIOLATION with the offset and the master, the offset in
the address log, and an error response to a management core or the debug port. -/
def violation (master off : Nat) (s : State) : State :=
  let s := alog off .bar0 (64 + master) 0x009 (raise { src := 0x009, data := [(1, master)], addr := off } s)
  if master < 4 ∨ master = 6 then { s with hif := { s.hif with resp := some .errorResponse } } else s

end Sys2Proof.Machine
end

