-- ==== Sys2Proof/Machine/Ops.lean ====
section
/-!
DEFINITION. The shared operations over memory and rings: byte memories in canonical form, host memory as the device reads
and writes it, MSI-X messages and hold-off (R342), completions with their status, entry and log (R335, R336, R339,
R340), and the form every host command takes.
-/
namespace Sys2Proof.Machine
open Sys2Proof

/-! ## Byte memories -/

/-- The byte at an address; an address not listed reads 0. -/
def cget : List Host.Cell → Nat → Byte
  | [], _ => 0
  | (k, v) :: t, a => if k = a then v else cget t a

/-- One byte written, the canonical form kept. -/
def cput : List Host.Cell → Nat → Byte → List Host.Cell
  | [], a, b => if b = 0 then [] else [(a, b)]
  | (k, v) :: t, a, b =>
    if a < k then (if b = 0 then (k, v) :: t else (a, b) :: (k, v) :: t)
    else if a = k then (if b = 0 then t else (a, b) :: t)
    else (k, v) :: cput t a b

/-- `n` bytes read from an address. -/
def cread (m : List Host.Cell) (a n : Nat) : List Byte := (List.range n).map (fun i => cget m (a + i))

/-- A byte string written at an address. -/
def cwrite : List Host.Cell → Nat → List Byte → List Host.Cell
  | m, _, [] => m
  | m, a, b :: bs => cwrite (cput m a b) (a + 1) bs

/-- The canonical form of a byte memory: addresses strictly rising, and no entry equal to what an unlisted address reads
as. -/
def Memory.wf (m : List Host.Cell) : Bool := tsorted m && m.all (fun p => p.2 != 0)

/-! ## Host memory -/

/-- What the host wrote at an address before the command reached the device. -/
def place (a : Nat) (img : List Byte) (s : State) : State :=
  { s with hif := { s.hif with mem := cwrite s.hif.mem a img } }

/-- Bytes of host memory. -/
def hostBytes (s : State) (a n : Nat) : List Byte := cread s.hif.mem a n

/-- Bytes the device writes to host memory. -/
def hostWrite (a : Nat) (bytes : List Byte) (s : State) : State := place a bytes s

/-! ## MSI-X (R342) -/

/-- A vector signalled by a ring with a hold-off in µs: one message per hold-off, a later write being signalled at its end;
a masked vector sets its pending bit. -/
def signalVector (v holdoff : Nat) (s : State) : State :=
  let x := tgetD s.hif.msix v {}
  if s.tim.now < x.until_ then
    { s with hif := { s.hif with msix := tput s.hif.msix v { x with deferred := some holdoff } } }
  else if bit x.ctrl.toNat 0 || s.hif.fnMask then
    { s with hif := { s.hif with msix := tput s.hif.msix v { x with pend := true, until_ := s.tim.now + holdoff * 1000 } } }
  else
    { s with
      hif := { s.hif with msix := tput s.hif.msix v { x with until_ := s.tim.now + holdoff * 1000 } }
      wire := s.wire ++ [.msi v] }

/-- A ring's write signals its vector when IRQ_EN is set; `cfg` is its configuration word. -/
def signalRing (cfg : Nat) (s : State) : State :=
  if bit cfg 30 then signalVector (bits cfg 29 24) (bits cfg 23 16) s else s

/-! ## Rings -/

/-- A 64-bit address held in a LO and a HI register. -/
def rdAddr (s : State) (lo hi : Reg) (i : Nat) : Nat := rd s lo i + 2 ^ 32 * rd s hi i

/-- Sizes in entries (R328). -/
def cmdSize (s : State) (q : Nat) : Nat := 2 ^ fld s .hifCmdCfg q 3 0
def cplSize (s : State) (c : Nat) : Nat := 2 ^ fld s .hifCplCfg c 3 0
def evtSize (s : State) (e : Nat) : Nat := 2 ^ fld s .hifEvtCfg e 3 0

/-- The completion ring a command ring names. -/
def cplOf (s : State) (q : Nat) : Nat := fld s .hifCmdCfg q 21 16

def cmdRing (s : State) (q : Nat) : CmdRing := tgetD s.hif.cmd q {}
def cplRing (s : State) (c : Nat) : CplRing := tgetD s.hif.cpl c {}
def evtRing (s : State) (e : Nat) : EvtRing := tgetD s.hif.evt e {}

def setCmdRing (q : Nat) (r : CmdRing) (s : State) : State := { s with hif := { s.hif with cmd := tput s.hif.cmd q r } }
def setCplRing (c : Nat) (r : CplRing) (s : State) : State := { s with hif := { s.hif with cpl := tput s.hif.cpl c r } }
def setEvtRing (e : Nat) (r : EvtRing) (s : State) : State := { s with hif := { s.hif with evt := tput s.hif.evt e r } }

/-- The host address of the entry of the command of ring `q` fetched last. -/
def entryAddr (s : State) (q : Nat) : Nat :=
  rdAddr s .hifCmdBaseLo .hifCmdBaseHi q + 64 * (((cmdRing s q).head + cmdSize s q - 1) % cmdSize s q)

/-- The next write position of a ring: the index after it and the phase, inverted on each later pass (R336). -/
def advance (size tail : Nat) (phase : Bool) : Nat × Bool :=
  if tail + 1 < size then (tail + 1, phase) else (0, !phase)

/-- A line that the device cache no longer holds (R322). -/
def dropLine (a : Nat) (s : State) : State := { s with hif := { s.hif with lines := s.hif.lines.filter (fun x => x != a) } }

/-! ## Completions -/

/-- How a command ends: its completion status (R339), its immediate result and the host address of the offending field. -/
structure Reply where
  st : Nat := 0
  result : Nat := 0
  err : Nat := 0
deriving DecidableEq, Repr

def replyDone : Reply := {}
def replyResult (r : Nat) : Reply := { result := r }
def accepted : Reply := { st := 0x01 }
def badOpcode : Reply := { st := 0x10 }
/-- BAD_FIELD for the field at host address `a`. -/
def badField (a : Nat) : Reply := { st := 0x11, err := a }
def noResource : Reply := { st := 0x12 }
/-- ADMISSION_REFUSED for the field at host address `a`. -/
def refusedAt (a : Nat) : Reply := { st := 0x13, err := a }
def denied : Reply := { st := 0x20 }
/-- ADDRESS_ERROR for host address `a`. -/
def addressError (a : Nat) : Reply := { st := 0x21, err := a }
def replyWithdrawn : Reply := { st := 0x30 }
def replyLate : Reply := { st := 0x31 }

/-- The host address of byte `off` of the entry of command `c`: where an offending ARGS parameter stands (R335). -/
def argAt (c : Cmd) (off : Nat) (s : State) : Nat := entryAddr s c.ring + off

/-- BAD_FIELD for the ARGS parameter at byte `off` of the entry. -/
def badArg (c : Cmd) (off : Nat) (s : State) : Reply := badField (argAt c off s)

/-- The first check that fails, if any: a command's checks in the order it makes them. -/
def firstErr : List (Bool × Reply) → Option Reply
  | [] => none
  | (bad, r) :: t => if bad then some r else firstErr t

/-- The 32-byte completion entry (R335). -/
def cplEntry (c : Cmd) (op : Nat) (r : Reply) (phase : Bool) (head now : Nat) : List Byte :=
  leBytes 4 c.tag ++ leBytes 2 op ++ leBytes 1 r.st ++ leBytes 1 (flag phase 0) ++ leBytes 1 c.ring ++ zeros 1 ++
    leBytes 2 head ++ leBytes 4 r.result ++ leBytes 8 r.err ++ leBytes 4 (ts32 now) ++ zeros 4

/-- The completion entry written to the command's completion ring, if it is enabled and has an entry free (R333, R336), and the
link was not lost while the command ran (R323): a failed write stops the ring and raises CPL_WRITE_ERR (R349). -/
def writeCpl (c : Cmd) (op : Nat) (r : Reply) (s : State) : State :=
  let n := cplOf s c.ring
  let q := cplRing s n
  let base := rdAddr s .hifCplBaseLo .hifCplBaseHi n
  let at_ := base + 32 * q.tail
  if !q.en || decide (cplSize s n ≤ q.used) || (cmdRing s c.ring).gone then s
  else if !c.cplOk then
    raise { src := 0x001, data := [(1, n)], addr := at_ }
      (dropLine (base + 32 * cplSize s n) (setCplRing n { q with en := false } s))
  else
    let p := advance (cplSize s n) q.tail q.phase
    signalRing (rd s .hifCplCfg n)
      (setCplRing n { q with tail := p.1, phase := p.2, used := q.used + 1 }
        (hostWrite at_ (cplEntry c op r q.phase (cmdRing s c.ring).head s.tim.now) s))

/-- The log entry of a status other than DONE and ACCEPTED (R340). -/
def logStatus (c : Cmd) (r : Reply) (s : State) : State :=
  if r.st = 0 ∨ r.st = 1 then s
  else alog (if r.err = 0 then entryAddr s c.ring else r.err) .host c.ring 0x3FF s

/-- One completion: the log entry first, then the entry in the ring; the command ring may go on (R333). -/
def completeOne (c : Cmd) (op : Nat) (r : Reply) (s : State) : State :=
  let s := writeCpl c op r (logStatus c r s)
  let s := setCmdRing c.ring { cmdRing s c.ring with busy := false, gone := false } s
  { s with hif := { s.hif with
      replied := some { ring := c.ring, tag := c.tag, op := op, st := r.st, result := r.result, err := r.err } } }

/-- A ring that has written its completion no longer holds back a FENCE (R341). -/
def fencePassed (q : Nat) (f : Fence) : Fence := { f with rings := f.rings.filter (fun x => x != q) }

/-- FENCEs that nothing holds back complete, oldest first; one that completes may release another. -/
def releaseFences : Nat → Nat → State → State
  | 0, _, s => s
  | n + 1, q, s =>
    let fs := s.hif.fences.map (fencePassed q)
    match fs.find? (fun f => f.rings.isEmpty) with
    | none => { s with hif := { s.hif with fences := fs } }
    | some f =>
      releaseFences n f.cmd.ring
        (completeOne f.cmd 0x0003 replyDone { s with hif := { s.hif with fences := fs.erase f } })

/-- A command completes: its entry is written and the FENCEs it held back are released. -/
def complete (c : Cmd) (op : Nat) (r : Reply) (s : State) : State :=
  releaseFences s.hif.fences.length c.ring (completeOne c op r s)

/-- A unit that is STANDBY or WARM refuses every command of series 0x01xx to 0x06xx that changes state (R339, R364). -/
def barred (s : State) : Bool := s.red.st == .standby || s.red.st == .warm

/-- A host command: refused on a STANDBY or WARM unit if it `changes` state, else its own meaning; then its completion. -/
def hostCmd (c : Cmd) (op : Nat) (changes : Bool) (body : State → Reply × State) (s : State) : State :=
  if changes && barred s then complete c op denied s
  else complete c op (body s).1 (body s).2

/-- The command's ring fetches nothing more until the command has written its completion (R333). -/
def holdRing (c : Cmd) (s : State) : State := setCmdRing c.ring { cmdRing s c.ring with busy := true } s

/-- A command that makes its checks in order and, when all pass, does `act`. -/
def checked (checks : State → List (Bool × Reply)) (act : State → Reply × State) (s : State) : Reply × State :=
  match firstErr (checks s) with
  | some r => (r, s)
  | none => act s

/-- A record written to host memory at `a`, or ADDRESS_ERROR. -/
def readBack (c : Cmd) (a : Nat) (bytes : State → List Byte) (s : State) : Reply × State :=
  if c.hostOk then (replyDone, hostWrite a (bytes s) s) else (addressError a, s)

end Sys2Proof.Machine
end

