-- ==== Sys2Proof/Machine/Operands.lean ====
section
/-!
DEFINITION. The operand forms shared by commands, pages, cells and events: flow numbers and references (R20), location codes
(R6, R7), serial arithmetic and TS32 (R47), essence formats and their cells, load and slots (R33, R38 to R43), timing
domains and their frames (R48 to R50), and CRC-32C.
-/
namespace Sys2Proof.Machine
open Sys2Proof

/-! ## Flow numbers and references (R19, R20) -/

/-- NS of a flow number: 0 input, 1 output, 2 processed, 3 reserved. -/
def nsOf (n : Nat) : Nat := bits n 15 14
/-- INDEX of a flow number. -/
def ixOf (n : Nat) : Nat := bits n 9 0
/-- A flow number from its namespace and index, reserved bits 0. -/
def flowNum (ns ix : Nat) : Nat := ns * 2 ^ 14 + ix
/-- A flow number with its reserved bits ignored (R3). -/
def normFlow (n : Nat) : Nat := flowNum (nsOf n) (ixOf n)
/-- NS 0b11 and a processed INDEX above 511 return BAD_FIELD (R20). -/
def flowNumOk (n : Nat) : Bool := nsOf n != 3 && (nsOf n != 2 || decide (ixOf n < 512))

def refNs (r : Nat) : Nat := bits r 31 30
def refDev (r : Nat) : Nat := bits r 29 20
def refIx (r : Nat) : Nat := bits r 9 0
/-- A flow reference, reserved bits 0. -/
def flowRef (ns dev ix : Nat) : Nat := ns * 2 ^ 30 + dev * 2 ^ 20 + ix
/-- The flow number of a reference. -/
def refFlow (r : Nat) : Nat := flowNum (refNs r) (refIx r)
def refOk (r : Nat) : Bool := refNs r != 3 && (refNs r != 2 || decide (refIx r < 512))

/-- This device's ID (AQF_DEV_CFG, R17). -/
def devId (s : State) : Nat := fld s .aqfDevCfg 0 9 0
/-- The reference of a local flow. -/
def localRef (s : State) (n : Nat) : Nat := flowRef (nsOf n) (devId s) (ixOf n)

/-! ## Location codes (R6, R7) -/

/-- A location code from its fields. -/
def locCode (die sub cluster tile macro_ : Nat) : Nat :=
  die * 2 ^ 30 + sub * 2 ^ 26 + cluster * 2 ^ 18 + tile * 2 ^ 8 + macro_

def locDie (l : Nat) : Nat := bits l 31 30
def locSub (l : Nat) : Nat := bits l 29 26
def locCluster (l : Nat) : Nat := bits l 25 18
def locTile (l : Nat) : Nat := bits l 17 8
def locMacro (l : Nat) : Nat := bits l 7 0

/-- The die that holds a memory controller: DDR5 channels 0 to 3 north, 4 to 7 south, HBM stacks core. -/
def memDie (ctrl : Nat) : Nat := if ctrl < 4 then 1 else if ctrl < 8 then 2 else 0

/-! ## Serial arithmetic and stamps -/

/-- `a` precedes `b` in `w`-bit serial arithmetic. -/
def serialLt (w a b : Nat) : Bool :=
  let d := (b + 2 ^ w - a % 2 ^ w) % 2 ^ w
  decide (0 < d) && decide (d < 2 ^ (w - 1))

/-- The signed distance from `b` to `a` in `w`-bit serial arithmetic. -/
def serialDiff (w a b : Nat) : Int := toSigned w ((a % 2 ^ w + 2 ^ w - b % 2 ^ w) % 2 ^ w)

/-- The number nearest to `near` whose low `w` bits are `low` (R47 for TS32). -/
def extend (w low near : Nat) : Nat := ((near : Int) + serialDiff w low near).toNat

/-! ## Frame rates and timing domains (R38, R48, R50) -/

/-- Frames per second of a rate code as a fraction; a code outside 1 to 8 has none. -/
def rateFrac : Nat → Option (Nat × Nat)
  | 1 => some (24000, 1001)
  | 2 => some (24, 1)
  | 3 => some (25, 1)
  | 4 => some (30000, 1001)
  | 5 => some (30, 1)
  | 6 => some (50, 1)
  | 7 => some (60000, 1001)
  | 8 => some (60, 1)
  | _ => none

def rateNum (code : Nat) : Nat := ((rateFrac code).getD (1, 1)).1
def rateDen (code : Nat) : Nat := ((rateFrac code).getD (1, 1)).2

/-- floor(FP) of a rate code, ns. -/
def fpFloor (code : Nat) : Nat := rateDen code * 1000000000 / rateNum code

/-- FP of a rate code rounded up, ns: no whole frame period ends earlier. -/
def fpCeil (code : Nat) : Nat := ceilDiv (rateDen code * 1000000000) (rateNum code)

def domEn (s : State) (d : Nat) : Bool := bit (rd s .timDomCfg d) 31
def domRate (s : State) (d : Nat) : Nat := fld s .timDomCfg d 3 0
def domPhase (s : State) (d : Nat) : Nat := rd s .timDomPhase d

/-- T(n): the boundary that begins frame `n` of a rate and phase (R48). -/
def boundary (code phase n : Nat) : Nat := phase + ceilDiv (n * rateDen code * 1000000000) (rateNum code)

/-- The frame in progress at instant `t`, by the formula of R48; negative before the first boundary. -/
def frameAtInt (code phase t : Nat) : Int :=
  (((t : Int) - (phase : Int)) * ((rateNum code : Nat) : Int)) / ((rateDen code * 1000000000 : Nat) : Int)

def frameAt (code phase t : Nat) : Nat := (frameAtInt code phase t).toNat

/-- T(n) of a domain. -/
def tOf (s : State) (d n : Nat) : Nat := boundary (domRate s d) (domPhase s d) n
/-- The frame of a domain in progress at an instant. -/
def fiAt (s : State) (d t : Nat) : Nat := frameAt (domRate s d) (domPhase s d) t
/-- FI[31:0] of the frame in progress by R48's formula; before the first boundary it is that of frame −1. -/
def fiWord (s : State) (d : Nat) : Nat := ofSigned 32 (frameAtInt (domRate s d) (domPhase s d) s.tim.now)
/-- The frame of a domain whose boundary is the first at or after instant `t` (R48). -/
def frameFrom (s : State) (d t : Nat) : Nat :=
  if t ≤ tOf s d 0 then 0 else if tOf s d (fiAt s d t) = t then fiAt s d t else fiAt s d t + 1
/-- The first boundary of a domain at or after an instant. -/
def boundaryFrom (s : State) (d t : Nat) : Nat := tOf s d (frameFrom s d t)
/-- The frame of a domain in progress. -/
def fiNow (s : State) (d : Nat) : Nat := fiAt s d s.tim.now
/-- The full frame index named by FI[31:0], nearest to the present frame. -/
def fullFi (s : State) (d fi : Nat) : Nat := extend 32 fi (fiNow s d)
/-- FP of a domain rounded up, ns. -/
def fpOf (s : State) (d : Nat) : Nat := fpCeil (domRate s d)

/-! ## Video formats (R33, R38, R50) -/

def fmtRaster (f : Nat) : Nat := bits f 15 8
def fmtRate (f : Nat) : Nat := bits f 7 4
def fmtSampling (f : Nat) : Nat := bits f 3 0

/-- Active width and lines and total lines of a raster code. -/
def rasterDims : Nat → Option (Nat × Nat × Nat)
  | 1 => some (1280, 720, 750)
  | 2 => some (1920, 1080, 1125)
  | 3 => some (1920, 1080, 1125)
  | 5 => some (3840, 2160, 2250)
  | 6 => some (4096, 2160, 2250)
  | _ => none

def fmtWidth (f : Nat) : Nat := ((rasterDims (fmtRaster f)).getD (0, 0, 1)).1
def fmtLines (f : Nat) : Nat := ((rasterDims (fmtRaster f)).getD (0, 0, 1)).2.1
def fmtTotal (f : Nat) : Nat := ((rasterDims (fmtRaster f)).getD (0, 0, 1)).2.2

/-- Bits per pixel of a sampling code. -/
def samplingBits : Nat → Option Nat
  | 1 => some 20
  | 2 => some 24
  | 3 => some 30
  | 4 => some 30
  | 5 => some 36
  | 6 => some 36
  | _ => none

def fmtBits (f : Nat) : Nat := (samplingBits (fmtSampling f)).getD 0

/-- Raster 0x02 is interlaced. -/
def fmtInterlaced (f : Nat) : Bool := fmtRaster f == 2

/-- The combinations R38 allows. -/
def videoFormatOk (f : Nat) : Bool :=
  (rasterDims (fmtRaster f)).isSome && (samplingBits (fmtSampling f)).isSome &&
    (if fmtInterlaced f then fmtRate f == 3 || fmtRate f == 4 || fmtRate f == 5
     else decide (1 ≤ fmtRate f) && decide (fmtRate f ≤ 8))

/-- COLOUR of a video flow is legal (R21), and sampling 0x3 and 0x5 are narrow range (R38). -/
def colourOk (f colour : Nat) : Bool :=
  bits colour 5 4 != 3 && decide (bits colour 3 0 < 2) &&
    !((fmtSampling f == 3 || fmtSampling f == 5) && bit colour 6)

/-- Bytes of one active line. -/
def lineBytes (f : Nat) : Nat := ceilDiv (fmtWidth f * fmtBits f) 8
/-- C: cells per line (R33). -/
def cellsPerLine (f : Nat) : Nat := ceilDiv (fmtWidth f * fmtBits f) 1920

/-- `k` line periods of a format, ns, rounded up. -/
def linesNs (f k : Nat) : Nat :=
  ceilDiv (k * rateDen (fmtRate f) * 1000000000) (rateNum (fmtRate f) * fmtTotal f)

/-- From T(n) to the switching instant, line 7, rounded up to a whole ns (R50). -/
def switchOffset (f : Nat) : Nat := linesNs f 6

/-! ## Audio formats (R39) -/

def audioFormatOk (f : Nat) : Bool := f == 1 || f == 2 || f == 3 || f == 4 || f == 0x10
/-- Sample rate of an audio format code. -/
def audioRate (f : Nat) : Nat := if f == 3 || f == 4 then 96000 else 48000
/-- Sample period `n` of a rate begins at this instant (R71). -/
def periodStart (rate n : Nat) : Nat := ceilDiv (n * 1000000000) rate
/-- The sample period in progress at an instant. -/
def periodAt (rate t : Nat) : Nat := t * rate / 1000000000

/-! ## Cells, load and slots of a flow (R42, R43) -/

/-- Cells per second as a fraction. -/
def cellRate (f : Flow) : Nat × Nat :=
  if f.essence = 0 then (cellsPerLine f.format * fmtLines f.format * rateNum (fmtRate f.format), rateDen (fmtRate f.format))
  else if f.essence = 1 then (ceilDiv f.count 8 * (audioRate f.format / 6), 1)
  else (ceilDiv (f.rate * 1000000) 1920, 1)

/-- Switching load in kcell/s: the ceiling of the cell rate divided by 1,000. -/
def flowLoad (f : Flow) : Nat := ceilDiv (cellRate f).1 ((cellRate f).2 * 1000)

/-- RATE_MBPS as read back: ceil(cell rate × 1,920 / 10⁶). -/
def rateBack (f : Flow) : Nat := ceilDiv ((cellRate f).1 * 1920) ((cellRate f).2 * 1000000)

/-- A matrix-fed audio output flow is written by the matrix; an audio flow of format 0x0010 too (R41, R276). -/
def matrixFed (n : Nat) (f : Flow) : Bool := nsOf n == 1 && f.essence == 1

/-- Cell-memory slots a running flow reserves (R43). -/
def flowSlots (n : Nat) (f : Flow) : Nat :=
  if f.essence = 0 then (if nsOf n = 0 then 8 * cellsPerLine f.format else if nsOf n = 2 then 4 * cellsPerLine f.format else 0)
  else if f.essence = 1 then 16 * ceilDiv f.count 8
  else if nsOf n = 1 then 0
  else if f.essence = 2 then 64
  else max 64 (ceilDiv ((cellRate f).1 * 250) ((cellRate f).2 * 1000000))

/-- CELLS as read back. -/
def cellsBack (f : Flow) : Nat := if f.essence = 0 then cellsPerLine f.format else if f.essence = 1 then 1 else 0

/-- The instant from T(n) at which a flow takes: its switching line, or T(n) for a flow without a raster (R50). -/
def takeOffset (f : Flow) : Nat := if f.essence = 0 then switchOffset f.format else 0

/-! ## CRC-32 -/

/-- One bit of a reflected CRC-32 of polynomial `p`. -/
def crcBit (p c : BitVec 32) : BitVec 32 := if c.getLsbD 0 then (c >>> 1) ^^^ p else c >>> 1

/-- One byte. -/
def crcByte (p c : BitVec 32) (b : Byte) : BitVec 32 :=
  crcBit p (crcBit p (crcBit p (crcBit p (crcBit p (crcBit p (crcBit p (crcBit p (c ^^^ b.setWidth 32))))))))

/-- A reflected CRC-32 of a byte string. -/
def crcOf (p : BitVec 32) (l : List Byte) : Nat := (l.foldl (crcByte p) 0xFFFFFFFF#32 ^^^ 0xFFFFFFFF#32).toNat

/-- CRC-32C of a byte string. -/
def crc32c (l : List Byte) : Nat := crcOf 0x82F63B78#32 l

/-- The frame check sequence of IEEE 802.3, with which a frame goes on the wire behind its padding to 60 bytes (R178, R198; the
polynomial and the padding are that standard's: PRESUMED, notes/assumptions/150.md). -/
def withFcs (l : List Byte) : List Byte :=
  let l := if l.length < 60 then padTo 60 l else l
  l ++ leBytes 4 (crcOf 0xEDB88320#32 l)

/-! ## Gate lists (R200) -/

/-- The cycle of a gate list. -/
def gateCycle (l : List (Nat × Nat)) : Nat := sumBy l (fun e => e.2)

/-- The first `base + m × cycle` at or after `t`; m may be negative (R200). -/
def gridFrom (base cycle t : Nat) : Nat :=
  if base ≤ t then base + ceilDiv (t - base) cycle * cycle else base - (base - t) / cycle * cycle

/-- The first cycle start of a gate list at or after `t`. -/
def gatesFrom (g : GateList) (t : Nat) : Nat := gridFrom g.base (max 1 (gateCycle g.entries)) t

/-! ## Events of one instant -/

/-- The counter at the instant of a timed event that occurs no earlier than `t`: it never runs backwards (R45). -/
def atLeast (t : Nat) (s : State) : State := { s with tim := { s.tim with now := max s.tim.now t } }

/-- The next instant of an action of period `p` whose last was at `last`: the first whole multiple of `p` after it. -/
def nextOf (p last : Nat) : Nat := (last / p + 1) * p

/-- Periodic actions that hold no instant of their own, each with its number; those of a link, DIMM or domain have one apiece. -/
inductive Periodic where
  | beat
  | pass
  | wake
  | sensors
  | cooling
  | rails
  | doorbells
  | hello (link : Nat)
  | refresh (link : Nat)
  | dimm (n : Nat)
  | roll (d : Nat)
  | index (ring : Nat)
deriving DecidableEq, Repr

def periodicKey : Periodic → Nat
  | .beat => 0
  | .pass => 1
  | .wake => 2
  | .sensors => 3
  | .cooling => 4
  | .rails => 5
  | .doorbells => 6
  | .hello n => 1000 + n
  | .refresh n => 2000 + n
  | .dimm n => 3000 + n
  | .roll d => 4000 + d
  | .index n => 5000 + n

/-- When a periodic action last took place. -/
def lastOf (a : Periodic) (s : State) : Nat := tgetD s.tim.lastAt (periodicKey a) 0

/-- A periodic action takes place now. -/
def noteNow (a : Periodic) (s : State) : State :=
  { s with tim := { s.tim with lastAt := tput s.tim.lastAt (periodicKey a) s.tim.now } }

/-- An action of period `p` takes place at its next instant (R16). -/
def every (a : Periodic) (p : Nat) (s : State) : State := noteNow a (atLeast (nextOf p (lastOf a s)) s)

/-- An action repeated no sooner than `p` after the last. -/
def apart (a : Periodic) (p : Nat) (s : State) : State :=
  noteNow a (match tget? s.tim.lastAt (periodicKey a) with
    | some t => atLeast (t + p) s
    | none => s)

/-- The instant of a one-shot action named at `t`: one that a forward step skips takes place at the first corresponding
instant after the step, which `grid` gives (R455). -/
def namedAt (s : State) (grid : Nat → Nat) (t : Nat) : Nat :=
  s.tim.jumps.foldl (fun t j => if j.1 < t ∧ t < j.2 then grid j.2 else t) t

/-- The instant of an action named at frame `n` of a domain (R455). -/
def namedFrame (s : State) (d n : Nat) : Nat := namedAt s (boundaryFrom s d) (tOf s d n)

/-- Raises of one instant, taken in ascending source number by whoever lists them so (R384). -/
def raiseAll : List Ev → State → State
  | [], s => s
  | e :: es, s => raiseAll es (raise e s)

end Sys2Proof.Machine
end

