-- ==== Sys2Proof/Machine/Timing.lean ====
section
/-!
DEFINITION. The timing complex: steps of the system counter and of the PTP time bases (R62 to R66, R455), qualification of
the reference candidates (R52 to R56, R60), selection (R57 to R61), holdover (R67, R68) and the OCXO interface (R69).
-/
namespace Sys2Proof.Machine
open Sys2Proof

def setTim (t : Tim) (s : State) : State := { s with tim := t }

/-! ## Flow activity -/

/-- A flow that is RUNNING or HELD. -/
def active (f : Flow) : Bool := f.st == .running || f.st == .held
/-- Any flow RUNNING or HELD (R66). -/
def anyActive (s : State) : Bool := s.flows.any (fun p => active p.2)
/-- Any flow with domain `d` RUNNING or HELD (R49). -/
def domActive (s : State) (d : Nat) : Bool := s.flows.any (fun p => active p.2 && p.2.domain == d)

/-! ## Steps (R64 to R66, R455) -/

/-- The first whole multiple of `p` at or after `t`, less one period: periodic actions go on from their first instant at or
after a step (R455). -/
def lastBefore (p t : Nat) : Nat := (ceilDiv t p - 1) * p

def stepNs (s : State) : Nat := fld s .timStepCfg 0 15 0
def slewNs (s : State) : Nat := fld s .timStepCfg 0 31 16

/-- How much of a correction has been slewed after `dt` ns at no more than SLEW_NS per second (R64). -/
def slewed (slew : Int) (rate dt : Nat) : Int :=
  let k : Int := min slew.natAbs (rate * dt / 1000000000)
  if slew < 0 then -k else k

/-- How far the counter has been moved by the correction being slewed (R64). -/
def counterSlewed (s : State) : Int := slewed s.tim.slew (slewNs s) (s.tim.now - s.tim.slewAt)

/-- A time base's present difference from the system counter. -/
def ptbDelta (s : State) (p : Nat) : Int :=
  let b := tgetD s.tim.ptb p {}
  b.delta + slewed b.slew (slewNs s) (s.tim.now - b.slewAt) - counterSlewed s

/-- A time base's count (R62). -/
def ptbNow (s : State) (p : Nat) : Nat := ((s.tim.now : Int) + ptbDelta s p).toNat

/-- What a time base shows when the counter has moved by `off` and stands at `t`, its own count left where it was. -/
def ptbMoved (s : State) (off : Int) (t p : Nat) (b : Ptb) : Ptb :=
  { b with delta := ptbDelta s p - off, slew := b.slew - slewed b.slew (slewNs s) (s.tim.now - b.slewAt), slewAt := t }

/-- The timing complex with its counter moved by `off` to `t`: the time bases and the candidates' time stand where they
stood, so what is left of their difference is less by as much, and a correction being slewed has ended (R64 to R66). -/
def counterMoved (s : State) (off : Int) (t : Nat) : Tim :=
  { s.tim with
    now := t, slew := 0, slewAt := t
    ptb := s.tim.ptb.map (fun p => (p.1, ptbMoved s off t p.1 p.2))
    cands := s.tim.cands.map (fun p => (p.1, { p.2 with timeOff := p.2.timeOff - counterSlewed s - off })) }

/-- The time that followed the counter brought up to date: what has been slewed is taken as moved. -/
def endSlew (s : State) : State := { s with tim := counterMoved s 0 s.tim.now }

/-- A MAC's gate list after the counter has been set to `t`: its last entry is in effect up to the first cycle start at or after
`t` (R455; DESIGN CHOICE for the entry in effect until then, notes/assumptions/151.md). -/
def gatesMoved (t : Nat) (m : Mac) : Mac :=
  match m.oper with
  | none => m
  | some g =>
    let i := g.entries.length - 1
    { m with gateIx := i, gateAt := gatesFrom g t - (g.entries.getD i (0, 1)).2 }

/-- The measurement period of the lanes' margins, ns: PERIOD_S 0 acts as 10 (R219). -/
def marginNs (s : State) : Nat :=
  (if fld s .lnxMarginCfg 0 7 0 = 0 then 10 else fld s .lnxMarginCfg 0 7 0) * 1000000000

/-- The system counter set to `t`. Periodic actions go on from their first instant on the new time; the fabric cycle
realigns at its next boundary of the new grid (R130). A backward step leaves every action named at an instant waiting for
that instant (R455). -/
def setCounter (t : Nat) (s : State) : State :=
  { s with
    tim := { counterMoved s ((t : Int) - s.tim.now) t with
      jumps := if s.tim.now < t then s.tim.jumps ++ [(s.tim.now, t)] else []
      strobed := []
      tickAt := lastBefore 100000 t
      gateAt := lastBefore 100000000 t
      dacAt := lastBefore 1000000 t
      ovenAt := lastBefore 100000000 t
      lastAt := tmap s.tim.lastAt (fun _ _ => t - 1) }
    flt := { s.flt with aliveAt := lastBefore 500000 t }
    hif := { s.hif with cardSec := ceilDiv t 1000000000 - 1 }
    nmp := { s.nmp with macs := tmap s.nmp.macs (fun _ m => gatesMoved t m) }
    lnx := { s.lnx with lanes := tmap s.lnx.lanes (fun _ l => { l with
      marginAt := lastBefore (marginNs s) t
      marginH := { l.marginH with good := l.marginH.good.map (min t) }
      marginV := { l.marginV with good := l.marginV.good.map (min t) } }) }
    mem := { s.mem with
      moverAt := min t s.mem.moverAt
      ctrls := tmap s.mem.ctrls (fun _ c => { c with
        zqAt := min t c.zqAt, dqsAt := min t c.dqsAt, ranks := tmap c.ranks (fun _ x => { x with refAt := min t x.refAt }) }) }
    ika := { s.ika with
      rooms := tmap s.ika.rooms (fun _ r => { r with auditAt := t - 1 })
      procs := tmap s.ika.procs (fun _ p => { p with decided := none }) }
    aud := { s.aud with
      period := ceilDiv (t * (if bit (rd s .audCfg 0) 30 then 96000 else 48000)) 1000000000 - 1
      ports := tmap s.aud.ports (fun _ x => { x with txNext := 0 }) }
    aqf := { s.aqf with realign := match s.aqf.realign with
      | some (c, off) => some (c, off + ((t : Int) - s.tim.now))
      | none => some (s.aqf.cycle, (t : Int) - s.tim.now) } }

/-- A step of the system counter by a signed offset, with TIME_STEPPED (R65, R66). -/
def stepCounter (off : Int) (s : State) : State :=
  let s := setCounter ((s.tim.now : Int) + off).toNat s
  raise { src := 0x1C7, data := [(1, 4), (4, ofSigned 32 off)] } { s with tim := { s.tim with pend := none } }

/-- A time base's offset from its master's time as firmware computes it: slewed within STEP_NS, else held as a pending step
with STEP_REFUSED (R62, R64). -/
def ptbOffset (p : Nat) (off : Int) (s : State) : State :=
  let b : Ptb := { delta := ptbDelta s p + counterSlewed s, pend := (tgetD s.tim.ptb p {}).pend, slew := 0, slewAt := s.tim.now }
  if off.natAbs ≤ stepNs s then
    { s with tim := { s.tim with ptb := tput s.tim.ptb p { b with pend := none, slew := off } } }
  else
    raiseIf b.pend.isNone { src := 0x1C6, data := [(1, p), (4, ofSigned 32 off)] }
      { s with tim := { s.tim with ptb := tput s.tim.ptb p { b with pend := some off } } }

/-- What a time-bearing candidate's time is against the system counter, if it is known: a time base's, that of candidate 16,
and the phase of the second of a 1PPS pin (R51, R66, R129; DEDUCED for 1PPS, notes/assumptions/137.md). -/
def candTime (s : State) (n : Nat) : Option Int :=
  if 4 ≤ n ∧ n < 8 then (if bit (rd s .timPtbCfg (n - 4)) 31 then some (ptbDelta s (n - 4)) else none)
  else
    let c := tgetD s.tim.cands n {}
    if c.hasTime && (n == 16 || decide (n < 4) && fld s .timRefCfg n 26 24 == 1) then some (c.timeOff - counterSlewed s) else none

/-- The counter's rate against the untuned oscillator, ppt: the DPLL's trim and the slew in progress (R45, R64). -/
def counterRate (s : State) : Int :=
  let left := s.tim.slew - counterSlewed s
  s.tim.rate + (if left = 0 then 0 else if left < 0 then -(slewNs s * 1000 : Int) else slewNs s * 1000)

/-- One nanosecond of the untuned oscillator: the counter, with its 32-bit fraction, advances at its trimmed rate (R45). -/
def idleTick (s : State) : State :=
  let x := ((s.tim.frac + 2 ^ 32 : Nat) + counterRate s * 2 ^ 32 / 10 ^ 12).toNat
  { s with tim := { s.tim with now := s.tim.now + x / 2 ^ 32, frac := x % 2 ^ 32 } }

/-! ## Timing outputs (R72, R446) -/

/-- PPS_OUT: it rises at each whole second of system time and stays high for 100 ms, in every mode. -/
def ppsOut (s : State) : Bool := decide (s.tim.now % 1000000000 < 100000000)

/-- CLK10M_OUT: it rises at each whole multiple of 100 ns, with a duty cycle of 50 %, in every mode. -/
def clk10mOut (s : State) : Bool := decide (s.tim.now % 100 < 50)

/-- The first rising edge of an output of period `p` at or after an instant: after a step the outputs go on from it (R455). -/
def nextRise (p t : Nat) : Nat := ceilDiv t p * p

/-- The whole of a small correction given to the slew (R64): one in progress towards the same time goes on. -/
def slewTo (off : Int) (s : State) : State :=
  if s.tim.slew - counterSlewed s = off then s
  else
    let s := endSlew s
    { s with tim := { s.tim with slew := off } }

/-- The system counter follows a time-bearing selected candidate once the build-out has ended: within STEP_NS it is slewed
and nothing is pending; beyond it the step is applied while no flow is RUNNING or HELD (R66), else held with STEP_REFUSED
and not slewed (R64). -/
def followTime (s : State) : State :=
  if s.tim.buildOut then s
  else match candTime s s.tim.sel with
  | none => if s.tim.slew = 0 then s else endSlew s
  | some off =>
    if off.natAbs ≤ stepNs s then
      let s := slewTo off s
      { s with tim := { s.tim with pend := none, acquired := true } }
    else if !anyActive s then
      let s := stepCounter off s
      { s with tim := { s.tim with acquired := true } }
    else
      let s := if s.tim.slew = 0 then s else endSlew s
      raiseIf s.tim.pend.isNone { src := 0x1C6, data := [(1, 4), (4, ofSigned 32 off)] }
        { s with tim := { s.tim with pend := some off } }

/-! ## Candidates -/

def cand (s : State) (n : Nat) : Cand := tgetD s.tim.cands n {}
def setCand (n : Nat) (c : Cand) (s : State) : State := { s with tim := { s.tim with cands := tput s.tim.cands n c } }
def candEn (s : State) (n : Nat) : Bool := bit (rd s .timRefCfg n) 31
/-- The link named in AQF_TIME_CFG is UP and feeds candidate 16 (R129). -/
def timeFed (s : State) : Bool :=
  bit (rd s .aqfTimeCfg 0) 31 && (tgetD s.aqf.links (fld s .aqfTimeCfg 0 7 0) {}).st == .up
def candRank (s : State) (n : Nat) : Nat := fld s .timRefCfg n 30 27
/-- Limits in units of 0.1 ppb. -/
def acceptLim (s : State) (n : Nat) : Nat := fld s .timRefLim n 15 0 * 100
def rejectLim (s : State) (n : Nat) : Nat := fld s .timRefLim n 31 16 * 100

/-- A history bit set by hardware (R55), with its instant (R382). -/
def histSet (b now : Nat) (c : Cand) : Cand := { c with hist := setBit c.hist b, histAt := tput c.histAt b now }

/-- A W1C write to the history bits: a bit set in the same cycle stays set (R382). -/
def histClear (v now : Nat) (c : Cand) : Cand :=
  { c with hist := ([0, 1, 2, 3, 4].filter (fun b => bit c.hist b && (!bit v b || tget? c.histAt b == some now))).foldl setBit 0 }

/-- A qualified candidate is disqualified (R54): cause 1 LOS, 2 FREQ, 3 RATE, 0 when EN is cleared; FORCED falls (R61). -/
def disqualify (n cause : Nat) (s : State) : State :=
  let c := cand s n
  if c.qualified then
    let s := setCand n (histSet 2 s.tim.now { c with qualified := false, cause := cause, okSince := none }) s
    raise { src := 0x1C2, data := [(1, n), (1, cause)] }
      { s with tim := { s.tim with forced := s.tim.forced && s.tim.sel != n } }
  else setCand n { c with okSince := none } s

/-- An enabled candidate enters LOS (R52, R54). -/
def enterLos (n : Nat) (s : State) : State :=
  let c := cand s n
  if candEn s n && !c.los then
    disqualify n 1 (raise { src := 0x1C0, data := [(1, n)] } (setCand n (histSet 0 s.tim.now { c with los := true }) s))
  else s

/-- LOS clears (R52). -/
def leaveLos (n : Nat) (s : State) : State :=
  let c := cand s n
  if candEn s n && c.los then
    setCand n { c with los := false, okSince := if c.offset.natAbs ≤ acceptLim s n then some s.tim.now else none } s
  else s

/-- ±1,000 ppm in units of 0.1 ppb: beyond it a rate change (R54). -/
def rateLim : Nat := 10000000

/-- One candidate's new frequency offset, judged against its limits (R53, R54, R60). -/
def measure (n : Nat) (off : Int) (s : State) : State :=
  if !candEn s n then s
  else
    let c := cand s n
    let now := s.tim.now
    let trend := (now, off) :: c.trend.filter (fun p => decide (now ≤ p.1 + 60000000000))
    let beyond := decide (acceptLim s n < off.natAbs)
    let ok := if beyond || c.los then none else some (c.okSince.getD now)
    let passed := beyond && !c.freqWarn
    let c' := { c with offset := off, trend := trend, freqWarn := beyond, okSince := ok }
    let s := raiseIf passed { src := 0x1C1, data := [(1, n), (4, ofSigned 32 (Config.drift trend))] }
      (setCand n (if passed then histSet 1 now c' else c') s)
    if c.qualified && decide (rateLim < off.natAbs) then disqualify n 3 s
    else if c.qualified && decide (rejectLim s n < off.natAbs) then disqualify n 2 s
    else s

/-! ## Selection -/

/-- Candidates that may be selected: qualified, with a non-zero RANK (R57). -/
def eligible (s : State) : List Nat :=
  (List.range 17).filter (fun n => (cand s n).qualified && decide (0 < candRank s n))

/-- The qualified candidate of lowest RANK, and of lowest index among equals (R57, R59). -/
def bestOf (s : State) : List Nat → Option Nat
  | [] => none
  | n :: ns =>
    match bestOf s ns with
    | none => some n
    | some m => if candRank s m < candRank s n then some m else some n

/-- Pairs of qualified candidates of equal RANK whose offsets differ by more than AGREE (R59). -/
def disagreeing (s : State) : List (Nat × Nat) :=
  let l := (List.range 17).filter (fun n => (cand s n).qualified)
  (l.flatMap (fun i => (l.filter (fun j => decide (i < j))).map (fun j => (i, j)))).filter (fun p =>
    candRank s p.1 == candRank s p.2 &&
      decide (fld s .timSelCfg 0 31 24 * 100 < absDiff (cand s p.1).offset (cand s p.2).offset))

/-- REF_DISAGREE for every pair that has begun to disagree. -/
def raiseDisagree : List (Nat × Nat) → State → State
  | [], s => s
  | (i, j) :: ps, s =>
    raiseDisagree ps
      (raiseIf (!s.tim.disagree.contains (i, j))
        { src := 0x1C5, data := [(1, i), (1, j), (4, absDiff (cand s i).offset (cand s j).offset)] } s)

/-- The pairs that disagree, with REF_DISAGREE for each that has begun to (R59). -/
def noteDisagree (s : State) : State :=
  let d := disagreeing s
  let s := raiseDisagree d s
  { s with tim := { s.tim with disagree := d } }

/-- LOCKED history kept so far, ns. -/
def lockedNs (s : State) : Nat :=
  s.tim.history + (match s.tim.lockedSince with | some t => s.tim.now - t | none => 0)

/-- Holdover quality (R68): 0 NOT_READY, 1 GOOD, 2 DEGRADED. -/
def holdQuality (s : State) : Nat :=
  if !s.tim.ovenStable || decide (lockedNs s < 300000000000) then 0
  else if s.tim.degraded || fld s .timSelCfg 0 19 16 == 0 then 2 else 1

/-- LOCKED is left: its length joins the history. -/
def endLocked (t : Tim) : Tim :=
  { t with history := t.history + (match t.lockedSince with | some x => t.now - x | none => 0), lockedSince := none }

/-- A candidate is selected (R57, R58): SELECTED, and a build-out from the present output phase, which holds the phase
measured as an offset (a free value). LOCKED stays LOCKED. -/
def select (n : Nat) (s : State) : State :=
  if s.tim.sel = n then s
  else
    let prev := s.tim.sel
    let s := setCand n (histSet 3 s.tim.now (cand s n)) s
    let mode := if s.tim.mode = .locked then DpllMode.locked else .acquire
    raise { src := 0x1C3, data := [(1, n), (1, prev)] }
      { s with
        free := s.free + 1
        tim := { s.tim with
          sel := n, buildOut := true, phaseOff := Config.freeInt s.free
          mode := if bit (rd s .timSelCfg 0) 0 then mode else .freeRun
          holdSince := none, degraded := false } }

/-- The mean of a measure over a list, 0 over none. -/
def meanOf {α : Type} (l : List α) (f : α → Int) : Int := (l.map f).sum / (l.length : Int)

/-- The history window of R67: the samples of up to 300 s of LOCKED history that ends 2 s before `t`, ten each second. -/
def historyWindow (t : Nat) (l : List LockSample) : List LockSample :=
  (l.filter (fun x => decide (x.at_ + 2000000000 ≤ t))).take 3000

/-- The window's midpoint, s. -/
def midpoint (l : List LockSample) : Int :=
  (((l.head?.map (fun x => x.at_)).getD 0 + (l.getLast?.map (fun x => x.at_)).getD 0) / 2000000000 : Nat)

/-- No qualified candidate remains: LOCKED, and ACQUIRE with locked history, go to HOLDOVER; ACQUIRE without it to
FREE_RUN (R57, R67). The averages are those of the samples in the history window. -/
def loseAll (s : State) : State :=
  let lost := s.tim.sel
  if s.tim.mode = .locked ∨ (s.tim.mode = .acquire ∧ 0 < lockedNs s) then
    let hq := holdQuality s
    let s := if lost < 17 then setCand lost (histSet 4 s.tim.now (cand s lost)) s else s
    let t := endLocked s.tim
    let win := historyWindow t.now t.samples
    raise { src := 0x1C4, data := [(1, lost), (1, hq)] }
      { s with tim := { t with
          mode := .holdover, sel := 31, forced := false, buildOut := false
          holdSince := some t.now, degraded := false, corrections := 0
          dacHold := t.dac, rateHold := t.rate, freq := if win.length < 100 then t.rate else meanOf win (fun x => x.freq)
          fAvg := meanOf win (fun x => x.freq), dAvg := meanOf win (fun x => x.die)
          kAvg := meanOf win (fun x => (x.oven : Int)), tAvg := midpoint win } }
  else
    { s with tim := { s.tim with mode := if s.tim.mode = .acquire then .freeRun else s.tim.mode, sel := 31, forced := false } }

/-- The selector's choice at a tick (R57, R59, R61). -/
def choose (s : State) : State :=
  let l := eligible s
  let sel := s.tim.sel
  if s.tim.forced && (cand s sel).qualified then s
  else
    match bestOf s l with
    | none => if sel = 31 ∧ s.tim.mode ≠ .acquire ∧ s.tim.mode ≠ .locked then s else loseAll s
    | some b =>
      if l.contains sel then
        if bit (rd s .timSelCfg 0) 1 && decide (candRank s b < candRank s sel) then select b s else s
      else select b s

/-- SEL_EN is 0: the mode is FREE_RUN and nothing is selected; LOCKED history so far stays history (R57, R68;
DESIGN CHOICE, notes/assumptions/131.md). -/
def freeRun (s : State) : State :=
  setTim { endLocked s.tim with mode := .freeRun, sel := 31, forced := false, buildOut := false, holdSince := none } s

/-- The rate towards which the DPLL moves (R53, R58, R67): the selected candidate's, the holdover's, or the present one. -/
def targetRate (s : State) : Int :=
  match s.tim.mode with
  | .freeRun => s.tim.rate
  | .holdover => s.tim.freq
  | _ => (cand s s.tim.sel).offset * 100

/-- The rate after `dt` ns: in holdover as R67 sets it, else moved by at most SLEW_NS per second (R58). -/
def movedRate (s : State) (dt : Nat) : Int :=
  let d := targetRate s - s.tim.rate
  let k : Int := min d.natAbs (slewNs s * 1000 * dt / 1000000000)
  if s.tim.mode = .holdover then s.tim.freq else if d < 0 then s.tim.rate - k else s.tim.rate + k

/-- SELECTOR_TICK (R57 to R59, R64, R66): every 100 µs. -/
def opSelectorTick (s : State) : State :=
  let s := atLeast (nextOf 100000 s.tim.tickAt) s
  let dt := s.tim.now - s.tim.tickAt
  let s := noteDisagree { s with tim := { s.tim with tickAt := s.tim.now, rate := movedRate s dt } }
  if bit (rd s .timSelCfg 0) 0 then followTime (choose s) else freeRun s

/-- LOSS_OF_SIGNAL (R52, R54, R55). -/
def opLossOfSignal (n : Nat) (s : State) : State := if n < 17 then enterLos n s else s

/-- LOS_CLEAR (R52): candidate 16 stays in LOS while its link is not UP (R129). -/
def opLosClear (n : Nat) (s : State) : State := if n < 17 && (n != 16 || timeFed s) then leaveLos n s else s

/-- The offsets measured at a gate (R53, R54, R60). -/
def measureAll : List (Nat × Int) → State → State
  | [], s => s
  | (n, off) :: l, s => measureAll l (if n < 17 then measure n off s else s)

/-- The phase a pin's measurement gives beside its frequency, a free value within its range: of the last wide pulse of an H/V
candidate, modulo the FP of HV_RATE, and of the second of a 1PPS candidate (R51, R445). -/
def measurePhase (n : Nat) (s : State) : State :=
  let c := cand s n
  let kind := fld s .timRefCfg n 26 24
  if !candEn s n || c.los then s
  else if kind = 4 then
    setCand n { c with vValid := true, vPhase := Config.freeNat s.free % max 1 (fpFloor (fld s .timRefCfg n 15 12)) }
      { s with free := s.free + 1 }
  else if kind = 1 then
    setCand n { c with hasTime := true, timeOff := Config.freeInt s.free % 1000000000 - 500000000 + counterSlewed s }
      { s with free := s.free + 1 }
  else s

/-- The sum of the 32 die sensors, 0.25 °C. -/
def dieSum (s : State) : Int := ((List.range 32).map (fun i => (tgetD s.pwr.sensors i {}).temp)).sum

/-- One sample of the LOCKED history; 302 s of them are kept (R67). -/
def sampleLocked (s : State) : State :=
  if s.tim.mode = .locked then
    let x : LockSample := { at_ := s.tim.now, freq := s.tim.rate, die := dieSum s, oven := s.tim.ovenCode }
    { s with tim := { s.tim with samples := (x :: s.tim.samples).take 3020 } }
  else s

/-- FREQ_MEASURE (R51, R53, R54, R59, R60): every 100 ms, the offsets measured at this gate. -/
def opFreqMeasure (l : List (Nat × Int)) (s : State) : State :=
  let s := atLeast (nextOf 100000000 s.tim.gateAt) s
  let s := measureAll l { s with tim := { s.tim with gateAt := s.tim.now } }
  sampleLocked (noteDisagree ([0, 1, 2, 3].foldl (fun s n => measurePhase n s) s))

/-- CANDIDATE_QUALIFIED (R54): QUAL_S seconds enabled, free of LOS and within the accept limit. -/
def opCandidateQualified (n : Nat) (s : State) : State :=
  let c := cand s n
  match c.okSince with
  | some t =>
    if candEn s n && !c.los && !c.qualified then
      noteDisagree (setCand n { c with qualified := true } (atLeast (t + fld s .timSelCfg 0 15 8 * 1000000000) s))
    else s
  | none => s

/-- DPLL_SETTLED (R58): ACQUIRE becomes LOCKED, and a build-out ends. -/
def opDpllSettled (s : State) : State :=
  if s.tim.mode = .acquire then
    { s with tim := { s.tim with mode := .locked, lockedSince := some s.tim.now, buildOut := false } }
  else { s with tim := { s.tim with buildOut := false } }

/-! ## Holdover and the OCXO -/

/-- Less than 10 s of LOCKED history lies in the window (R67). -/
def shortHistory (s : State) : Bool :=
  decide ((historyWindow (s.tim.holdSince.getD s.tim.now) s.tim.samples).length < 100)

/-- The corrected frequency of R67, ppt, in whole ppt: `x` the die sum against its average (128 steps per °C of the mean),
`k` the oven code against its average, `t` seconds since the window's midpoint. -/
def holdFreq (f : Int) (coef : List Int) (x k t : Int) : Int :=
  f + (coef.getD 0 0 * x * 128 + coef.getD 1 0 * x * x) / 16384 + coef.getD 2 0 * k + coef.getD 3 0 * t / 86400

/-- HOLDOVER_CORRECTION (R67): once per second; with less than 10 s of history the last DAC value is held. -/
def opHoldoverCorrection (s : State) : State :=
  match s.tim.holdSince with
  | none => s
  | some t0 =>
    let s := atLeast (t0 + (s.tim.corrections + 1) * 1000000000) s
    let n := s.tim.corrections + 1
    if shortHistory s then { s with tim := { s.tim with corrections := n } }
    else
      { s with tim := { s.tim with
          corrections := n
          freq := holdFreq s.tim.fAvg s.tim.coef (dieSum s - s.tim.dAvg) ((s.tim.ovenCode : Int) - s.tim.kAvg)
            (((s.tim.now / 1000000000 : Nat) : Int) - s.tim.tAvg) } }

/-- HOLDOVER_DEGRADED (R68). -/
def opHoldoverDegraded (s : State) : State :=
  match s.tim.holdSince with
  | none => s
  | some t0 =>
    if s.tim.degraded || holdQuality s == 0 then s
    else
      let s := atLeast (t0 + fld s .timSelCfg 0 19 16 * 900000000000) s
      raise { src := 0x1C9, data := [(4, (s.tim.now - t0) / 1000000000)] } { s with tim := { s.tim with degraded := true } }

/-- The DAC code that tunes the OCXO to the holdover frequency, from the code and rate at entry (R67, R69): SLOPE ppt per
LSB, POL its sense, held within the DAC's width; how a part of an LSB is rounded is a free value. -/
def holdCode (s : State) : Nat :=
  let slope := max 1 (fld s .timOcxoCfg 0 15 0)
  let d := s.tim.freq - s.tim.rateHold
  let q := d / (slope : Int) + (if d % slope ≠ 0 ∧ Config.roundsUp d slope 0 0 then 1 else 0)
  let c : Int := if bit (rd s .timOcxoCfg 0) 31 then s.tim.dacHold - q else s.tim.dacHold + q
  min c.toNat (2 ^ fld s .timOcxoCfg 0 28 24 - 1)

/-- OCXO_DAC_UPDATE (R69): every 1 ms a 24-bit frame, MSB first, left-justified, zero-padded. In holdover the code is that of
R67, and with less than 10 s of history the last value is held. -/
def opOcxoDacUpdate (code : Nat) (s : State) : State :=
  let s := atLeast (nextOf 1000000 s.tim.dacAt) s
  let w := fld s .timOcxoCfg 0 28 24
  let c := if s.tim.mode = .holdover then (if shortHistory s then s.tim.dac else holdCode s) else code % 2 ^ w
  { s with tim := { s.tim with dac := c, dacAt := s.tim.now }, wire := s.wire ++ [.spiDac (c * 2 ^ (24 - w))] }

/-- OVEN_ADC_READ (R69): every 100 ms. -/
def opOvenAdcRead (code : Nat) (s : State) : State :=
  let s := atLeast (nextOf 100000000 s.tim.ovenAt) s
  let stuck := if code = 0 ∨ code = 0xFFFF then s.tim.ovenStuck + 1 else 0
  let inBand := decide (absDiff code (fld s .timOvenCfg 0 31 16) ≤ fld s .timOvenCfg 0 15 8) && decide (stuck < 3)
  raiseIf (stuck == 3) { src := 0x1CA, data := [(2, code)] }
    { s with tim := { s.tim with
        ovenAt := s.tim.now, ovenCode := code, ovenStuck := stuck
        ovenSince := if inBand then some (s.tim.ovenSince.getD s.tim.now) else none
        ovenStable := s.tim.ovenStable && inBand } }

/-- OVEN_STABLE (R69): in band for OVEN_TIME × 10 s. -/
def opOvenStable (s : State) : State :=
  match s.tim.ovenSince with
  | none => s
  | some t0 =>
    if s.tim.ovenStable then s
    else
      let s := atLeast (t0 + fld s .timOvenCfg 0 7 0 * 10000000000) s
      raise { src := 0x1C8, data := [(2, s.tim.ovenCode)] } { s with tim := { s.tim with ovenStable := true } }

/-- CDC_FIFO_ERR (R74): the clock domain, 0 overflow or 1 underflow. -/
def opCdcFifoErr (crossing : Nat) (overflow : Bool) (s : State) : State :=
  raise { src := 0x1CB, data := [(1, crossing), (1, if overflow then 0 else 1)] } s

/-! ## Commands (R75) -/

/-- Any timetable page ARMED or COMMITTED (R65). -/
def pageArmed (s : State) : Bool := s.tt.slots.any (fun p => p.2.part && (p.2.pst == .armed || p.2.pst == .committed))

/-- TIME_STEP_ACCEPT (R65). -/
def opTimeStepAccept (c : Cmd) (target : Nat) : State → State :=
  hostCmd c 0x0701 false (checked
    (fun s => [
      (decide (4 < target), badArg c 24 s),
      (decide (target < 4) && (tgetD s.tim.ptb target {}).pend.isNone, denied),
      (target == 4 && s.tim.pend.isNone, denied),
      (target == 4 && pageArmed s, denied)])
    (fun s =>
      if target = 4 then (replyDone, stepCounter (s.tim.pend.getD 0) s)
      else
        let b := tgetD s.tim.ptb target {}
        let off := b.pend.getD 0
        let b' : Ptb := { delta := ptbDelta s target + counterSlewed s + off, pend := none, slew := 0, slewAt := s.tim.now }
        (replyDone, raise { src := 0x1C7, data := [(1, target), (4, ofSigned 32 off)] }
          { s with tim := { s.tim with ptb := tput s.tim.ptb target b' } })))

/-- A forced selection released: normal selection resumes at the next tick (R61). -/
def releaseForce (s : State) : State := { s with tim := { s.tim with forced := false } }

/-- REF_FORCE (R61): a named qualified candidate whatever its RANK, or 31 to release. With SEL_EN 0 it is taken and the next
tick drops it (DESIGN CHOICE, notes/assumptions/130.md). -/
def opRefForce (c : Cmd) (n : Nat) : State → State :=
  hostCmd c 0x0702 false (checked
    (fun s => [(decide (16 < n) && n != 31, badArg c 24 s), (n != 31 && !(cand s n).qualified, denied)])
    (fun s =>
      if n = 31 then (replyDone, releaseForce s)
      else
        let s := select n s
        (replyDone, { s with tim := { s.tim with forced := true } })))

/-- REF_FORCE with candidate 31 (R61). -/
def opRefForceRelease (c : Cmd) : State → State := hostCmd c 0x0702 false (fun s => (replyDone, releaseForce s))

/-- HOLDOVER_COEF_LOAD (R67): four signed 32-bit coefficients. -/
def opHoldoverCoefLoad (c : Cmd) (a : Nat) (img : List Byte) (s : State) : State :=
  hostCmd c 0x0703 false (fun s =>
    if 2 ^ 64 < a + 32 then (badArg c 24 s, s)
    else if c.hostOk then
      let l := hostBytes s a 32
      (replyDone, { s with tim := { s.tim with
          coef := [toSigned 32 (fieldAt l 0 4), toSigned 32 (fieldAt l 4 4), toSigned 32 (fieldAt l 8 4), toSigned 32 (fieldAt l 12 4)] } })
    else (addressError a, s)) (place a img s)

/-- TIME_SET (R66): whole seconds, the sub-second part kept; refused while any flow is RUNNING or HELD. -/
def opTimeSet (c : Cmd) (seconds : Nat) : State → State :=
  hostCmd c 0x0704 false (checked
    (fun s => [(decide (2 ^ 64 ≤ (seconds + 1) * 1000000000), badArg c 24 s), (anyActive s, denied)])
    (fun s =>
      if s.tim.now / 1000000000 = seconds then (replyDone, s)
      else (replyDone, stepCounter (((seconds * 1000000000 + s.tim.now % 1000000000 : Nat) : Int) - (s.tim.now : Int)) s)))

/-! ## Registers with a row of their own -/

/-- SYSTIME_LO_READ (R46): the low half is answered and the upper half latched. -/
def opSystimeLoRead (s : State) : State :=
  { s with
    tim := { s.tim with hiLatch := bits s.tim.now 63 32 }
    hif := { s.hif with resp := some (.data (BitVec.ofNat 32 (bits s.tim.now 31 0))) } }

/-- REF_HIST_CLEAR (R55, R382). -/
def opRefHistClear (n : Nat) (v : Word) (s : State) : State :=
  if n < 17 then setCand n (histClear v.toNat s.tim.now (cand s n)) s else s

end Sys2Proof.Machine
end

