-- ==== Sys2Proof/Machine/Sources.lean ====
section
/-!
DEFINITION. Who feeds whom, and at what cost: the flow table, crosspoint words, function descriptors, the budgets of R41 to R44,
R245 to R248, R270 and R298, and the admission of a selection (R24, R83, R232) or of an audio crosspoint (R274, R277,
R284).
-/
namespace Sys2Proof.Machine
open Sys2Proof

/-! ## Tables -/

def flow? (s : State) (n : Nat) : Option Flow := tget? s.flows n
/-- The flow table's entry with an absent flow shown as a default entry. -/
def flowD (s : State) (n : Nat) : Flow := tgetD s.flows n {}
def setFlow (n : Nat) (f : Flow) (s : State) : State := { s with flows := tput s.flows n f }
def running (s : State) (n : Nat) : Bool := (flowD s n).st == .running
def isHeld (s : State) (n : Nat) : Bool := (flowD s n).st == .held

/-- The crosspoint word of an output flow, or of input `k` of a processed flow (R77). -/
def outWord (ix : Nat) : Nat := ix
def pfWord (ix k : Nat) : Nat := 1024 + 16 * ix + k
def xp (s : State) (w : Nat) : XpWord := tgetD s.swc.xp w {}
def setXp (w : Nat) (x : XpWord) (s : State) : State := { s with swc := { s.swc with xp := tput s.swc.xp w x } }
/-- The flow and input a word serves: an output, or input `k` of a processed flow. -/
def wordFlow (w : Nat) : Nat := if w < 1024 then flowNum 1 w else flowNum 2 ((w - 1024) / 16)
def wordInput (w : Nat) : Nat := (w - 1024) % 16

/-- Words that select flow `n`. -/
def selecting (s : State) (n : Nat) : List Nat := tkeys s.swc.xp (fun _ x => x.sel && x.src == n)

/-! ## Function descriptors (R230, R231, R255) -/

def proc (s : State) (ix : Nat) : Proc := tgetD s.ika.procs ix {}
def setProc (ix : Nat) (p : Proc) (s : State) : State := { s with ika := { s.ika with procs := tput s.ika.procs ix p } }
def hasProc (p : Proc) : Bool := !p.desc.isEmpty
def pFunc (p : Proc) : Nat := fieldAt p.desc 2 1
def pMode (p : Proc) : Nat := fieldAt p.desc 3 1
def pInFormat (p : Proc) : Nat := fieldAt p.desc 4 2
def pInColour (p : Proc) : Nat := fieldAt p.desc 6 1 % 128
def pInLag (p : Proc) : Nat := fieldAt p.desc 7 1
def pStore (p : Proc) : Nat := fieldAt p.desc 8 1
def pInitSet (p : Proc) : Nat := fieldAt p.desc 9 1
/-- A field of BODY. -/
def pBody (p : Proc) (off len : Nat) : Nat := fieldAt p.desc (32 + off) len

/-- A layer entry of a COMPOSE body (R255). -/
structure LayerDef where
  kind : Nat
  fillIn : Nat
  keyIn : Nat
  tapsH : Nat
  tapsV : Nat
  format : Nat
  colour : Nat
  lbKib : Nat
deriving DecidableEq, Repr

def layerDef (p : Proc) (i : Nat) : LayerDef :=
  let o := 16 + 8 * i
  let t := pBody p (o + 3) 1
  { kind := pBody p o 1, fillIn := pBody p (o + 1) 1, keyIn := pBody p (o + 2) 1, tapsH := bits t 7 4, tapsV := bits t 3 0
    format := pBody p (o + 4) 2, colour := pBody p (o + 6) 1 % 128, lbKib := pBody p (o + 7) 1 }

/-- The layers of a COMPOSE, bottom first. -/
def layerDefs (p : Proc) : List LayerDef := (List.range (pBody p 0 1)).map (layerDef p)

/-- Inputs the layers use, with their declared FORMAT and COLOUR (R256). -/
def composeInputs (p : Proc) : List (Nat × Nat × Nat) :=
  (layerDefs p).flatMap (fun l =>
    (l.fillIn, l.format, l.colour) :: (if l.keyIn = 0xFF then [] else [(l.keyIn, l.format, l.colour)]))

/-- What input `k` of a processed flow must carry: FORMAT, COLOUR and channel count; none for an input the function does
not use (R231, R232, R243, R256). -/
def inputDecl (p : Proc) (f : Flow) (k : Nat) : Option (Nat × Nat × Nat) :=
  if !hasProc p then none
  else if pFunc p = 4 then ((composeInputs p).find? (fun x => x.1 == k)).map (fun x => (x.2.1, x.2.2, 0))
  else if pFunc p = 5 then (if k < pBody p 0 1 then some (pInFormat p, 0, pBody p (4 + k) 1) else none)
  else if k = 0 then some (pInFormat p, pInColour p, f.count)
  else none

/-- The inputs a processed flow uses. -/
def usedInputs (p : Proc) (f : Flow) : List Nat := (List.range 16).filter (fun k => (inputDecl p f k).isSome)

/-! ## Nominal raster (R186) -/

/-- A of a raster for active line `k`. -/
def rasterA (raster k : Nat) : Nat :=
  match raster with
  | 1 => 25
  | 2 => if k < 540 then 20 else 43
  | 3 => 41
  | 5 => 82
  | 6 => 82
  | _ => 0

/-- From T(n) to the nominal start of active line `k`, and `d` line periods more, ns, rounded up (R186). -/
def lineOffset (f k d : Nat) : Nat := linesNs f (rasterA (fmtRaster f) k + k + d)

/-! ## Costs of a processed flow (R245 to R247, R270) -/

/-- Colour components for R245: 2 for 4:2:2, 3 for 4:4:4. -/
def kOf (f : Nat) : Nat := if fmtSampling f = 1 ∨ fmtSampling f = 2 then 2 else 3
/-- Bytes of a whole frame. -/
def frameBytes (f : Nat) : Nat := fmtWidth f * fmtLines f * fmtBits f / 8

structure Cost where
  cycles : Nat := 0
  lineMem : Nat := 0
  bw : Nat := 0
  cap : Nat := 0
deriving DecidableEq, Repr

/-- Loaded parameter sets of a COLOUR flow with LUT_EN at 1 (R246). -/
def lutSets (p : Proc) : Nat := if pFunc p = 3 then tcount p.sets (fun _ b => fieldAt b 0 1 == 1) else 0

/-- Line memory in bytes but for parameter-set LUTs (R246, R270). -/
def lineMemBytes (p : Proc) (f : Flow) : Nat :=
  match pFunc p with
  | 2 => fmtWidth (pInFormat p) * (pBody p 1 1 + 1) * fmtBits (pInFormat p) / 8
  | 3 => 12 * fmtWidth f.format
  | 4 => 12 * fmtWidth f.format + 4096 + sumBy (layerDefs p) (fun l => if l.kind = 1 then l.lbKib * 1024 else 0)
  | 5 => 16384
  | 6 => 16384
  | _ => if f.essence = 0 then 2 * fmtWidth f.format * fmtBits f.format / 8 else if f.essence = 1 then 16384 else 4096

/-- The LUTs' share of line memory, KiB: the bytes of a flow are rounded up once. -/
def lutKib (p : Proc) (f : Flow) (sets : Nat) : Nat :=
  ceilDiv (lineMemBytes p f + 215622 * sets) 1024 - ceilDiv (lineMemBytes p f) 1024

/-- Engine load in Mcycle/s, rounded up (R245, R270); `n / d` is the frame rate. -/
def engineLoad (p : Proc) (f : Flow) (n d : Nat) : Nat :=
  let w := fmtWidth f.format
  let l := fmtTotal f.format
  let h := fmtLines f.format
  let r := audioRate f.format
  match pFunc p with
  | 2 => ceilDiv (((pBody p 0 1 + pBody p 1 1) * kOf f.format * w + 2048) * l * n) (32 * d * 1000000)
  | 3 => ceilDiv ((3 * w + 128) * l * n) (2 * d * 1000000)
  | 4 =>
    let per := sumBy (layerDefs p) (fun x => 16 + (if x.kind = 1 then (x.tapsH + x.tapsV) * kOf f.format else 0))
    ceilDiv (((8 * w + 2048) * l + per * w * h) * n) (32 * d * 1000000)
  | 5 => ceilDiv (12 * r) 1000000
  | 6 => ceilDiv (3 * f.count * r) 1000000
  | _ =>
    if f.essence = 0 then ceilDiv ((w + 512) * l * n) (8 * d * 1000000)
    else if f.essence = 1 then ceilDiv (f.count * r) 4000000
    else ceilDiv (2000 * n) (d * 1000000)

/-- Bandwidth in MB/s and capacity in MiB of the store named in STORE (R247, R270). -/
def storeCost (p : Proc) (f : Flow) (n d : Nat) : Nat × Nat :=
  let mb (bytes : Nat) := ceilDiv (bytes * n) (d * 1000000)
  let mib (bytes : Nat) := ceilDiv bytes 1048576
  let fb := frameBytes f.format
  let src := frameBytes (pInFormat p)
  let max_ := pBody p 0 4
  match pFunc p with
  | 2 => if pMode p = 1 then (2 * mb src, mib (2 * src)) else (0, 0)
  | 3 => (0, 0)
  | 4 => (sumBy (composeInputs p) (fun x => 2 * mb (frameBytes x.2.1)), mib (sumBy (composeInputs p) (fun x => 2 * frameBytes x.2.1)))
  | 5 => (0, 0)
  | 6 => (0, 0)
  | fn =>
    if f.essence = 0 then
      if fn = 1 then (ceilDiv (fb * n * 1001) (d * 1000000000) + mb fb, mib (3 * fb)) else (2 * mb fb, mib ((max_ + 1) * fb))
    else if f.essence = 1 then
      (2 * ceilDiv (4 * f.count * audioRate f.format) 1000000, mib (4 * f.count * (max_ + 6)))
    else
      (2 * ceilDiv f.rate 8, mib (((if fn = 1 then 3 else max_) + 1) * ceilDiv (f.rate * 1000000 * d) (8 * n)))

/-- A processed flow's budgets, LUTs left out of its line memory. -/
def procCost (s : State) (p : Proc) (f : Flow) : Cost :=
  let code := if f.essence = 0 then fmtRate f.format else domRate s f.domain
  let n := rateNum code
  let d := rateDen code
  { cycles := engineLoad p f n d, lineMem := ceilDiv (lineMemBytes p f) 1024
    bw := (storeCost p f n d).1, cap := (storeCost p f n d).2 }

/-- SRC: the buffer's level at its start and after a reset, 1.0 ms of input in 1 / (10⁶ × output rate) of a sample (R242). -/
def srcStart (p : Proc) (f : Flow) : Int := ((audioRate (pInFormat p) / 1000 * 1000000 * audioRate f.format : Nat) : Int)

/-! ## Budgets in use -/

/-- Active processed flows, with their descriptors. -/
def activeProcs (s : State) : List (Nat × Flow) := s.flows.filter (fun p => nsOf p.1 == 2 && active p.2)

/-- Admitted engine load of a classroom, Mcycle/s. -/
def roomCycles (s : State) (c : Nat) : Nat :=
  sumBy ((activeProcs s).filter (fun x => x.2.port == c)) (fun x => (proc s (ixOf x.1)).cycles)

/-- Line memory of a processed flow, KiB, its LUTs with it (R246). -/
def procLines (p : Proc) (f : Flow) : Nat := p.lineMem + lutKib p f (lutSets p)

/-- Admitted line memory of a classroom, KiB, of its active flows (R246, R248). -/
def roomLines (s : State) (c : Nat) : Nat :=
  sumBy ((activeProcs s).filter (fun x => x.2.port == c)) (fun x => procLines (proc s (ixOf x.1)) x.2)

/-- Bandwidth and capacity of running processed flows in a store: 1 frame store, 2 delay store. -/
def procBw (s : State) (store : Nat) : Nat :=
  sumBy ((activeProcs s).filter (fun x => pStore (proc s (ixOf x.1)) == store)) (fun x => (proc s (ixOf x.1)).bw)
def procCap (s : State) (store : Nat) : Nat :=
  sumBy ((activeProcs s).filter (fun x => pStore (proc s (ixOf x.1)) == store)) (fun x => (proc s (ixOf x.1)).cap)

/-- Bandwidth and capacity of channel delay lines in a store (R293). -/
def delayBw (s : State) (store : Nat) : Nat :=
  sumBy (s.aud.allocs.filter (fun a => a.store == store)) (fun a => a.bw)
def delayCap (s : State) (store : Nat) : Nat :=
  sumBy (s.aud.allocs.filter (fun a => a.store == store)) (fun a => a.cap)

/-- RESERVE of the open windows of a store: windows name store 0 for the frame store and 1 for the delay store. -/
def winBw (s : State) (store : Nat) : Nat :=
  sumBy (s.mem.wins.filter (fun w => w.2.opened && w.2.store == store)) (fun w => w.2.reserve)

/-! ## The stores' admissible figures (R297, R313) -/

def ctrl (s : State) (k : Nat) : Ctrl := tgetD s.mem.ctrls k {}
def ddrEn (s : State) (k : Nat) : Bool := bit (rd s .memDdrCfg 0) (24 + k)
def hbmEn (s : State) (k : Nat) : Bool := bit (rd s .memDdrCfg 0) k
/-- Populated DDR5 channels. -/
def ddrChannels (s : State) : List Nat := (List.range 8).filter (ddrEn s)
def hbmStacks (s : State) : List Nat := (List.range 4).filter (hbmEn s)
/-- MT/s of a rate code of MEM_DDR_CFG.RATE. -/
def ddrRate : Nat → Nat
  | 0 => 4800
  | 1 => 5600
  | _ => 6400

/-- The frame store's admissible bandwidth: 0 until every stack set in HBM_EN is TRAINED. -/
def hbmLimit (s : State) : Nat :=
  if !(hbmStacks s).isEmpty && (hbmStacks s).all (fun k => (ctrl s (8 + k)).st == .trained) then 4000000 else 0

/-- The delay store's admissible bandwidth, by the lowest rate among the populated channels. -/
def ddrLimit (s : State) : Nat :=
  let l := ddrChannels s
  if !l.isEmpty && l.all (fun k => (ctrl s k).st == .trained) then
    let r := l.foldl (fun m k => min m (ddrRate (ctrl s k).rate)) 5600
    300000 * l.length * r / (8 * 5600)
  else 0

/-- The admissible bandwidth of a store: 0 frame store, 1 delay store. -/
def storeLimit (s : State) (store : Nat) : Nat := if store = 0 then hbmLimit s else ddrLimit s

def moverReserve (s : State) : Nat := fld s .memMoverCfg 0 15 0

/-- Bandwidth in use in a store, the mover's RESERVE left out. -/
def storeUsed (s : State) (store : Nat) : Nat := procBw s (store + 1) + delayBw s (store + 1) + winBw s store

/-- Bandwidth in use in a store: RESERVE counts once the store's figure is not 0 (R298). -/
def storeBw (s : State) (store : Nat) : Nat :=
  storeUsed s store + (if storeLimit s store = 0 then 0 else moverReserve s)

/-- Capacity in use, and the processing region, MiB (R299). -/
def storeCap (s : State) (store : Nat) : Nat := procCap s (store + 1) + delayCap s (store + 1)
def regionMib (s : State) (store : Nat) : Nat :=
  (if store = 0 then fld s .memRegion 0 31 24 else fld s .memRegion 0 11 0) * 1024

/-- The HBM stacks are gated: in TRIM nothing of the frame store is admitted (R403). -/
def hbmGated (s : State) : Bool :=
  s.pwr.st == .trim && storeBw s 0 == 0 && storeCap s 0 == 0 && !s.mem.wins.any (fun w => w.2.opened && w.2.store == 0)

/-- A cluster that a command ungates is on before the command goes on: it takes its ungate time (R403). -/
def ungate (gated : Bool) (ns : Nat) (s : State) : State := if gated then atLeast (s.tim.now + ns) s else s

/-- The HBM stacks ungated by what has been admitted since `s`, in 1 ms (R403). -/
def ungateHbm (s s' : State) : State := ungate (hbmGated s && !hbmGated s') 1000000 s'

/-! ## Switching load and the pool (R41 to R44) -/

/-- Scheduled transit slots of a bank, received and sent. -/
def transitSlots (b : PlanBank) : Nat × Nat := (tcount b.rx (fun _ e => e.kind == 3), tcount b.tx (fun _ e => e.kind == 3))

def activeBank (l : Link) : PlanBank := if l.active = 0 then l.bank0 else l.bank1
def shadowBank (l : Link) : PlanBank := if l.active = 0 then l.bank1 else l.bank0

/-- `k` cells per fabric cycle in kcell/s, rounded up. -/
def perCycle (k : Nat) : Nat := ceilDiv (k * 1000000) 81920

/-- Of a link's two banks the larger counts, in each direction (R133). -/
def transitIn (s : State) : Nat :=
  perCycle (sumBy s.aqf.links (fun l => max (transitSlots l.2.bank0).1 (transitSlots l.2.bank1).1))
def transitOut (s : State) : Nat :=
  perCycle (sumBy s.aqf.links (fun l => max (transitSlots l.2.bank0).2 (transitSlots l.2.bank1).2))

/-- The write direction: running inputs, processed flows and matrix-fed audio outputs, and transit entering. -/
def loadWrite (s : State) : Nat :=
  sumBy (s.flows.filter (fun p => active p.2 && (nsOf p.1 != 1 || matrixFed p.1 p.2))) (fun p => flowLoad p.2) + transitIn s

/-- Engine reads of a processed flow: one of each selected source (R248). -/
def engineReads (s : State) (ix : Nat) : Nat :=
  sumBy (List.range 16) (fun k => if (xp s (pfWord ix k)).sel then flowLoad (flowD s (xp s (pfWord ix k)).src) else 0)

/-- The read direction: running outputs, engine reads, audio inputs read by the matrix, and transit leaving. -/
def loadRead (s : State) : Nat :=
  sumBy (s.flows.filter (fun p => active p.2 && (nsOf p.1 == 1 || (nsOf p.1 == 0 && p.2.essence == 1)))) (fun p => flowLoad p.2) +
    sumBy (activeProcs s) (fun p => engineReads s (ixOf p.1)) + transitOut s

/-- Cell-memory slots admitted. -/
def poolUsed (s : State) : Nat := sumBy (s.flows.filter (fun p => active p.2)) (fun p => flowSlots p.1 p.2)

def loadLimit : Nat := 6400000
def poolLimit : Nat := 368640

/-! ## Lag and selection (R24, R83, R232) -/

/-- Λ of a video source (R83): line periods from a line's nominal start to its storage. -/
def lagOf (s : State) (n : Nat) : Nat :=
  let f := flowD s n
  if nsOf n = 2 then (proc s (ixOf n)).lambda
  else if f.endpoint = 2 then
    2 + ceilDiv (f.latency * rateNum (fmtRate f.format) * fmtTotal f.format) (rateDen (fmtRate f.format) * 1000000000)
  else 2

/-- U of a video source (R83). -/
def lagMax (s : State) (n : Nat) : Nat := if nsOf n = 2 then lagOf s n + 1 else 7

/-- R24 between a source and what a selecting flow or a declaration asks for. -/
def essenceMatch (src : Flow) (essence format colour count domain : Nat) (needLock : Bool) : Bool :=
  src.essence == essence && src.format == format && src.colour == colour && (essence != 1 || src.count == count) &&
    (!needLock || (src.locked && src.domain == domain))

/-- An ANC or opaque selection from an AQF input needs LATENCY_NS ≤ FP / 2 (R83). -/
def streamInTime (s : State) (src : Flow) (domain : Nat) : Bool :=
  src.essence == 0 || src.essence == 1 || src.endpoint != 2 ||
    decide (2 * src.latency * rateNum (domRate s domain) ≤ rateDen (domRate s domain) * 1000000000)

/-- A source number may be selected at all: a defined local input or processed flow (R19). -/
def isSource (s : State) (n : Nat) : Bool := (nsOf n == 0 || nsOf n == 2) && (flow? s n).isSome

/-- The selection of `src` by output flow `o` is admitted (R24, R83). -/
def selOutOk (s : State) (o src : Nat) : Bool :=
  let f := flowD s o
  let x := flowD s src
  isSource s src && essenceMatch x f.essence f.format f.colour f.count f.domain true && streamInTime s x f.domain &&
    (f.essence != 0 || (decide (lagOf s src ≤ f.depth) && decide (f.depth ≤ lagMax s src) && decide (f.depth ≤ 8)))

/-- The selection of `src` by input `k` of processed flow `pf` is admitted (R24, R232): the input of a FRAME_SYNC is exempt
from the lock condition. -/
def selPfOk (s : State) (pf k src : Nat) : Bool :=
  let f := flowD s pf
  let p := proc s (ixOf pf)
  let x := flowD s src
  match inputDecl p f k with
  | none => false
  | some (format, colour, count) =>
    isSource s src && essenceMatch x f.essence format colour count f.domain (pFunc p != 1) && streamInTime s x f.domain &&
      (f.essence != 0 || decide (lagOf s src ≤ pInLag p))

/-- The selection of `src` by a crosspoint word. -/
def selOk (s : State) (w src : Nat) : Bool :=
  if w < 1024 then selOutOk s (wordFlow w) src else selPfOk s (wordFlow w) (wordInput w) src

/-! ## Audio crosspoints (R40, R274, R277, R284) -/

/-- The matrix rate. -/
def matrixRate (s : State) : Nat := if bit (rd s .audCfg 0) 30 then 96000 else 48000
/-- M. -/
def matrixDelay (s : State) : Nat := fld s .audCfg 0 10 0
/-- Channels on each side of the matrix (R40). -/
def matrixChannels (s : State) : Nat := if bit (rd s .audCfg 0) 30 then 16384 else 32768

/-- The audio flow that owns a matrix input channel (R40, R276), or an output channel. -/
def ownerIn (s : State) (ch : Nat) : Option (Nat × Flow) :=
  s.flows.find? (fun p => nsOf p.1 != 1 && p.2.essence == 1 && decide (p.2.base ≤ ch) && decide (ch < p.2.base + p.2.count))
def ownerOut (s : State) (ch : Nat) : Option (Nat × Flow) :=
  s.flows.find? (fun p => nsOf p.1 == 1 && p.2.essence == 1 && decide (p.2.base ≤ ch) && decide (ch < p.2.base + p.2.count))

/-- Samples per packet of an NMP audio stream (R193): PTIME in byte 1 of ENDPOINT_PARAMS is read where NMP defines it. -/
def packetSamples (f : Flow) : Nat :=
  let ms := !bit (fieldAt f.params 3 1) 0
  if ms then audioRate f.format / 1000 else audioRate f.format / 8000

/-- The fixed delay of an audio processed flow, sample periods (R230, R241 to R243). -/
def procDelay (s : State) (ix : Nat) : Nat := (proc s ix).delay

/-- Λa of a source that is no processed flow (R274). -/
def audioLagIn (s : State) (f : Flow) : Nat :=
  if f.endpoint = 4 then 32
  else if f.endpoint = 0 then 14
  else if f.endpoint = 1 then packetSamples f + 2 + ceilDiv (fld s .audCfg 0 26 16 * matrixRate s) 1000000
  else 7 + ceilDiv (f.latency * matrixRate s) 1000000000

/-- Λa of an audio flow (R274); `fuel` bounds a chain of processed flows. -/
def audioLag : Nat → State → Nat → Nat
  | 0, _, _ => 8
  | fuel + 1, s, n =>
    let f := flowD s n
    if nsOf n = 2 then
      let ins := (List.range 16).filterMap (fun k =>
        if (xp s (pfWord (ixOf n) k)).sel then some (audioLag fuel s (xp s (pfWord (ixOf n) k)).src) else none)
      max 8 (ins.foldl max 0 + 8 - procDelay s (ixOf n))
    else audioLagIn s f

/-- A direct write's removal of a crosspoint that was not there, kept for its event alone (R281). -/
def ghost (x : AudXp) : Bool := x.direct.isSome && x.base == 0 && x.ramps.all (fun r => r.new == 0)

/-- Active crosspoints, those of format 0x0010 that wait for their block start among them (R277, R284). -/
def activeXps (s : State) : Nat :=
  sumBy s.aud.xps (fun p => (p.2.filter (fun x => !ghost x)).length) + (s.aud.zwait.filter (fun z => !z.remove)).length
def xpsOf (s : State) (out : Nat) : List AudXp := tgetD s.aud.xps out []
def setXps (out : Nat) (l : List AudXp) (s : State) : State := { s with aud := { s.aud with xps := tput s.aud.xps out l } }
def xpLimit (s : State) : Nat := if bit (rd s .audCfg 0) 30 then 65536 else 131072

/-- GAIN codes of R87: −9,600 to +1,200, or 0x8000 to remove. -/
def gainOk (g : Nat) : Bool :=
  g == 0x8000 || (decide (-9600 ≤ toSigned 16 g) && decide (toSigned 16 g ≤ 1200))

/-- A flow feeds or takes matrix channels directly: a PCM flow only at the matrix rate (R39). -/
def onMatrix (s : State) (f : Flow) : Bool := f.format == 0x10 || audioRate f.format == matrixRate s

/-- A crosspoint between two channels is admitted (R39, R274, R284): `others` are the output's crosspoints that stay. -/
def audioXpOk (s : State) (out inp gain : Nat) (others : List AudXp) : Bool :=
  match ownerIn s inp, ownerOut s out with
  | some (n, fi), some (_, fo) =>
    let raw := fi.format == 0x10 || fo.format == 0x10
    onMatrix s fi && onMatrix s fo && decide (audioLag 8 s n + 2 ≤ matrixDelay s) &&
      (!raw || (fi.format == fo.format && (gain == 0 || gain == 0x8000) && (others.filter (fun x => x.inp != inp)).isEmpty))
  | _, _ => false

end Sys2Proof.Machine
end

