-- ==== Sys2Proof/Machine/Hif.lean ====
section
/-!
DEFINITION. The host interface: the general commands (R341), default-target accesses (R324, R325, R345, R346), doorbells
and consumer indices (R328, R329), event records and their rings (R337, R338), MSI-X hold-off (R342) and the CXL link
(R320 to R323).
-/
namespace Sys2Proof.Machine
open Sys2Proof

/-! ## General commands (R341) -/

/-- NOP. -/
def opNop (c : Cmd) : State → State := hostCmd c 0x0001 false (fun s => (replyDone, s))

/-- IDENT_ID: hardware type 0x1024, stepping B0 (R324). -/
def identWord : Nat := 0x1024B000

/-- The debug port (master 6) is enabled in MANUFACTURE and RETURNED (R430). -/
def debugOn (s : State) : Bool := s.sec.life == 0 || s.sec.life == 3

/-- A master may write registers: the debug port only while it is enabled, and none in OFF, where the bus matrix is gated
(R344, R400, R430). -/
def masterOk (s : State) (master : Nat) : Bool := s.pwr.st != .off && (decide (master < 6) || (master == 6 && debugOn s))

/-- The 64-byte version record. -/
def versionRecord (s : State) : List Byte :=
  leBytes 4 identWord ++ leBytes 4 s.sec.fw ++ leBytes 4 Config.romVersion ++ leBytes 1 s.sec.slot ++ zeros 3 ++
    (List.range 7).flatMap (fun i => leBytes 4 (tgetD s.ika.cat (i + 1) 0)) ++ zeros 20

/-- VERSION_READ. -/
def opVersionRead (c : Cmd) (a : Nat) : State → State := hostCmd c 0x0002 false (readBack c a versionRecord)

/-- Command rings whose command has not completed, but for one. -/
def busyRings (s : State) (q : Nat) : List Nat := tkeys s.hif.cmd (fun k r => r.busy && k != q)

/-- FENCE: completes once every command fetched earlier on any ring has written its completion. -/
def opFence (c : Cmd) (s : State) : State :=
  if (busyRings s c.ring).isEmpty then complete c 0x0003 replyDone s
  else holdRing c { s with hif := { s.hif with fences := s.hif.fences ++ [{ cmd := c, rings := busyRings s c.ring }] } }

/-! ## Accesses outside the registers -/

/-- Offsets that some block, the MSI-X table, the PBA or the CXL component registers decode (R324, R325). -/
def decoded (off : Nat) : Bool :=
  decide (off < 0xF00000) || (decide (0xF00000 ≤ off) && decide (off < 0xF00400)) ||
    (decide (0xF00800 ≤ off) && decide (off < 0xF00808)) || (decide (0xF10000 ≤ off) && decide (off < 0xF20000))

/-- BAR0_DEFAULT_ACCESS (R325): another size or alignment raises BUS_ACCESS_ERR, an offset no block decodes BUS_DECODE_ERR;
the address is logged, a read completes with Completer Abort, and a write is discarded, with an error response to a master
other than the host. -/
def opBar0DefaultAccess (master off size : Nat) (write : Bool) (s : State) : State :=
  let bad := size != 4 || off % 4 != 0
  if !bad && decoded off then s
  else
    let src := if bad then 0x021 else 0x020
    let s := alog off .bar0 (64 + master) src (raise { src := src, data := [(1, master)], addr := off } s)
    if write then (if master < 4 ∨ master = 6 then { s with hif := { s.hif with resp := some .errorResponse } } else s)
    else { s with hif := { s.hif with resp := some .completerAbort } }

/-- BAR2_IO_REQUEST (R324): Unsupported Request and BUS_DECODE_ERR. -/
def opBar2IoRequest (addr : Nat) (_write : Bool) (s : State) : State :=
  raise { src := 0x020, data := [(1, 4)], addr := addr } { s with hif := { s.hif with resp := some .unsupportedRequest } }

/-- BUS_TIMEOUT (R345). -/
def opBusTimeout (master addr : Nat) (s : State) : State :=
  raise { src := 0x022, data := [(1, master)], addr := addr } { s with hif := { s.hif with resp := some .errorResponse } }

/-- BUS_ORPHAN (R346). -/
def opBusOrphan (master addr : Nat) (s : State) : State := raise { src := 0x023, data := [(1, master)], addr := addr } s

/-! ## Doorbells and consumer indices (R328, R329) -/

/-- DB_MODE in force: CXL.cache doorbells need CXL.cache (R321). -/
def polling (s : State) : Bool := bit (rd s .hifCfg 0) 1 || !s.hif.cxlCache

/-- The doorbell line of a command ring. -/
def doorbell (s : State) (q : Nat) : Nat := rdAddr s .hifCmdDbLo .hifCmdDbHi q

/-- PRODUCER as read: a value of the ring's size or more is ignored, with DB_INVALID once per change of value (R329). -/
def takeProducer (q v : Nat) (s : State) : State :=
  let r := cmdRing s q
  let n := v % 65536
  if !r.en then s
  else if n < cmdSize s q then setCmdRing q { r with producer := n, seen := n } s
  else raiseIf (r.seen != n) { src := 0x004, data := [(1, q), (2, n)] } (setCmdRing q { r with seen := n } s)

/-- The doorbell line of a ring read as the ring starts (R330): HEAD is PRODUCER, so the ring starts empty; a PRODUCER of the
ring's size or more is ignored, and HEAD is kept (R329). -/
def startRing (q : Nat) (s : State) : State :=
  let r := cmdRing s q
  let n := leNat (hostBytes s (doorbell s q) 4) % 65536
  if n < cmdSize s q then setCmdRing q { r with head := n, producer := n, seen := n } s
  else
    raiseIf (r.seen != n) { src := 0x004, data := [(1, q), (2, n)] } (setCmdRing q { r with producer := r.head, seen := n } s)

/-- Every enabled ring's doorbell line is read as firmware starts (R417). -/
def startRings (s : State) : State := (tkeys s.hif.cmd (fun _ r => r.en)).foldl (fun s q => startRing q s) s

/-- Entries consumed when the index moves from `old` to `new` in a ring of `size` with `used` entries unconsumed: an index
outside the ring, or past the last entry written, consumes none. -/
def consumed (size used old new : Nat) : Nat :=
  let k := (new + size - old) % size
  if new < size ∧ k ≤ used then k else 0

/-! ## Event records (R337, R338) -/

/-- The 32-byte event record. -/
def recordBytes (r : EvRec) (phase : Bool) : List Byte :=
  leBytes 4 r.stamp ++ leBytes 2 r.src ++ leBytes 1 r.kind ++ leBytes 1 (flag phase 7 + r.sev) ++ leBytes 8 r.addr ++
    r.data ++ leBytes 4 r.tag

/-- The address of a consumer-index word: the bytes after the last entry (R328). -/
def consAddr (s : State) (kind : RingKind) (n : Nat) : Nat :=
  match kind with
  | .cmd => doorbell s n
  | .cpl => rdAddr s .hifCplBaseLo .hifCplBaseHi n + 32 * cplSize s n
  | .evt => rdAddr s .hifEvtBaseLo .hifEvtBaseHi n + 32 * evtSize s n
  | .msg => rdAddr s .aqfMsgBaseLo .aqfMsgBaseHi 0 + 512 * 2 ^ fld s .aqfMsgCfg 0 3 0
  | .xring => rdAddr s .nmpXringBaseLo .nmpXringBaseHi 0 + 2048 * 2 ^ fld s .nmpXringCfg 0 3 0

/-- One record placed in an enabled ring with room: a failed write stops the ring and raises EVT_WRITE_ERR (R349). -/
def placeRecord (e : Nat) (r : EvRec) (ok : Bool) (s : State) : State :=
  let q := evtRing s e
  let at_ := rdAddr s .hifEvtBaseLo .hifEvtBaseHi e + 32 * q.tail
  if !ok then
    raise { src := 0x002, data := [(1, e)], addr := at_ } (dropLine (consAddr s .evt e) (setEvtRing e { q with en := false } s))
  else
    let p := advance (evtSize s e) q.tail q.phase
    let s := setEvtRing e { q with tail := p.1, phase := p.2, used := q.used + 1 } (hostWrite at_ (recordBytes r q.phase) s)
    if r.signal then signalRing (rd s .hifEvtCfg e) s else s

/-- The OVERFLOW record owed by a ring that has room again: it is itself the raise of EVT_OVERFLOW (R338). -/
def payOverflow (e : Nat) (ok : Bool) (s : State) : State :=
  let q := evtRing s e
  if !q.en || q.owed == 0 || decide (evtSize s e ≤ q.used) then s
  else
    let d := [(4, q.owed), (1, e)]
    let r : EvRec :=
      { stamp := ts32 s.tim.now, src := 3, kind := 3, sev := fld s .fltSrcCfg 3 31 30, addr := 0
        data := padTo 12 (packFrom 0 d), tag := 0, signal := true }
    placeRecord e r ok (setEvtRing e { q with owed := 0 } (raise { src := 3, data := d, written := true } s))

/-- A record dropped and counted (R338). -/
def dropRecord (e : Nat) (s : State) : State :=
  let q := evtRing s e
  setEvtRing e { q with lost := satAdd 32 q.lost 1, owed := satAdd 32 q.owed 1 } s

/-- A record for ring `e`: a FINAL record is held while its ring is disabled, up to 256 in all (R323); a record that finds
its ring full or disabled is dropped and counted; the first record written after a loss is the OVERFLOW record. -/
def putRecord (e : Nat) (r : EvRec) (ok : Bool) (s : State) : State :=
  if !(evtRing s e).en then
    if r.kind == 1 && decide (s.hif.held.length < 256) then { s with hif := { s.hif with held := s.hif.held ++ [r] } }
    else dropRecord e s
  else
    let s := payOverflow e ok s
    if decide (evtSize s e ≤ (evtRing s e).used) || !(evtRing s e).en then dropRecord e s else placeRecord e r ok s

/-- The ring a record's group is routed to. -/
def routeOf (s : State) (r : EvRec) : Nat := fld s .hifEvtRoute (groupOf r.src) 2 0

/-- EVENT_RECORD_WRITE (R337, R338): the oldest record raised and not yet written. -/
def opEventRecordWrite (ok : Bool) (s : State) : State :=
  match s.flt.evq with
  | [] => s
  | r :: rest => putRecord (routeOf s r) r ok { s with flt := { s.flt with evq := rest } }

/-- Records not yet sent meet disabled rings: FINAL records are held, the rest dropped and counted (R323). -/
def discardRecords : List EvRec → State → State
  | [], s => s
  | r :: rs, s => discardRecords rs (putRecord (routeOf s r) r true s)

/-- The records queued for ring `e` when it is disabled: FINAL records are held, the rest dropped and counted (R323, R330). -/
def dropQueued (e : Nat) (s : State) : State :=
  discardRecords (s.flt.evq.filter (fun r => routeOf s r == e))
    { s with flt := { s.flt with evq := s.flt.evq.filter (fun r => routeOf s r != e) } }

/-- Held FINAL records of ring `e` written to it in the order raised, while it has room (R323). -/
def writeHeld (e : Nat) : List EvRec → State → State
  | [], s => s
  | r :: rs, s =>
    if routeOf s r = e ∧ (evtRing s e).en ∧ (evtRing s e).used < evtSize s e then
      writeHeld e rs (placeRecord e r true { s with hif := { s.hif with held := s.hif.held.erase r } })
    else writeHeld e rs s

/-- Whether a ring needs a consumer index: it is enabled and full as last read (R329). -/
def needsIndex (s : State) (kind : RingKind) (n : Nat) : Bool :=
  match kind with
  | .cmd => false
  | .cpl => (cplRing s n).en && decide (cplSize s n ≤ (cplRing s n).used)
  | .evt => (evtRing s n).en && decide (evtSize s n ≤ (evtRing s n).used)
  | .msg => s.aqf.msgEn && decide (2 ^ fld s .aqfMsgCfg 0 3 0 ≤ s.aqf.msgUsed)
  | .xring => s.nmp.xEn && decide (2 ^ fld s .nmpXringCfg 0 3 0 ≤ s.nmp.xUsed)

/-- A consumer index read: the entries it has passed are free, and a ring that dropped records reports it (R338). -/
def takeIndex (kind : RingKind) (n v : Nat) (s : State) : State :=
  let i := v % 65536
  match kind with
  | .cmd => takeProducer n v s
  | .cpl =>
    let q := cplRing s n
    let k := consumed (cplSize s n) q.used q.cons i
    if k = 0 then s else setCplRing n { q with cons := i, used := q.used - k } s
  | .evt =>
    let q := evtRing s n
    let k := consumed (evtSize s n) q.used q.cons i
    if k = 0 then s else payOverflow n true (writeHeld n s.hif.held (setEvtRing n { q with cons := i, used := q.used - k } s))
  | .msg =>
    let k := consumed (2 ^ fld s .aqfMsgCfg 0 3 0) s.aqf.msgUsed s.aqf.msgCons i
    if k = 0 then s else { s with aqf := { s.aqf with msgCons := i, msgUsed := s.aqf.msgUsed - k } }
  | .xring =>
    let k := consumed (2 ^ fld s .nmpXringCfg 0 3 0) s.nmp.xUsed s.nmp.xCons i
    if k = 0 then s else { s with nmp := { s.nmp with xCons := i, xUsed := s.nmp.xUsed - k } }

/-- Lines held Shared: at most 256 (R322). -/
def holdLine (a : Nat) (s : State) : State :=
  if s.hif.lines.contains a || decide (256 ≤ s.hif.lines.length) then s
  else { s with hif := { s.hif with lines := s.hif.lines ++ [a] } }

/-- DOORBELL_SNOOP (R329): the host's write to a held line invalidates it, and the device reads it again; a line not held is
only written. -/
def opDoorbellSnoop (kind : RingKind) (n v : Nat) (s : State) : State :=
  let a := consAddr s kind n
  let s := place a (leBytes 4 v) s
  if polling s || !s.hif.lines.contains a then s
  else
    let s := takeIndex kind n v s
    if kind == .cmd || needsIndex s kind n then s else dropLine a s

/-- DOORBELL_POLL (R329): every 1 µs in DB_MODE 1; the doorbell lines as the host has written them. -/
def pollRings : List (Nat × Nat) → State → State
  | [], s => s
  | (q, v) :: l, s => pollRings l (takeProducer q v (place (doorbell s q) (leBytes 4 v) s))

def opDoorbellPoll (l : List (Nat × Nat)) (s : State) : State :=
  if polling s then pollRings l (every .doorbells 1000 s) else s

/-- A number for each kind of ring. -/
def ringCode (k : RingKind) : Nat :=
  match k with
  | .cmd => 0
  | .cpl => 1
  | .evt => 2
  | .msg => 3
  | .xring => 4

/-- CONSUMER_INDEX_READ (R329): read only while the ring needs an entry, in DB_MODE 1 every 1 µs; the line is then held in
DB_MODE 0. -/
def opConsumerIndexRead (kind : RingKind) (n v : Nat) (s : State) : State :=
  if needsIndex s kind n then
    let a := consAddr s kind n
    let s := if polling s then apart (.index (64 * ringCode kind + n)) 1000 s else s
    let s := takeIndex kind n v (place a (leBytes 4 v) s)
    if !polling s && needsIndex s kind n && (kind == .cpl || kind == .evt) then holdLine a s else s
  else s

/-! ## Interrupts -/

/-- IRQ_HOLDOFF_END (R342): the write deferred within the hold-off is signalled at its end. -/
def opIrqHoldoffEnd (v : Nat) (s : State) : State :=
  let x := tgetD s.hif.msix v {}
  match x.deferred with
  | none => s
  | some h =>
    let s := atLeast x.until_ s
    signalVector v h { s with hif := { s.hif with msix := tput s.hif.msix v { x with deferred := none, until_ := 0 } } }

/-! ## The CXL link (R320 to R323) -/

/-- CXL_LINK_DOWN (R323): 0 link loss, 1 hot reset, 2 function-level reset. Every ring stops, and the completion
of a command that runs is discarded; the report card stops until RC_EN is set again. -/
def opCxlLinkDown (cause : Nat) (s : State) : State :=
  let q := s.flt.evq
  let s := { s with
    flt := { s.flt with evq := [] }
    hif := { s.hif with
      cmd := tmap s.hif.cmd (fun _ r => { r with en := false, gone := r.busy })
      cpl := tmap s.hif.cpl (fun _ r => { r with en := false })
      evt := tmap s.hif.evt (fun _ r => { r with en := false })
      lines := []
      linkUp := false, cxlIo := false, cxlCache := false, cxlMem := false, width := 0, speed := 0 } }
  raise { src := 0x006, data := [(1, cause)] } (wr (discardRecords q s) .hifCfg 0 0 (clrBit (rd s .hifCfg 0) 2))

/-- CXL_LINK_UP (R320, R321). -/
def opCxlLinkUp (speed width : Nat) (io cache mem : Bool) (s : State) : State :=
  let s := { s with hif := { s.hif with
    linkUp := true, cxlIo := io, cxlCache := cache, cxlMem := mem, width := width, speed := speed } }
  let low := decide (speed < fld s .hifLinkCfg 0 3 0) || decide (width < fld s .hifLinkCfg 0 7 4)
  raiseIf low { src := 0x007, data := [(1, speed), (1, width)] } (raise { src := 0x005, data := [(1, speed), (1, width)] } s)

end Sys2Proof.Machine
end

