-- ==== Sys2Proof/Machine/Faults.lean ====
section
/-!
DEFINITION. The fault collector's commands and events: read-back and clearing (R381, R382, R398), injection, ALIVE and the
watchdog (R387), the snapshot (R379), the health word (R385), the address log (R386) and the roll call (R393, R394).
-/
namespace Sys2Proof.Machine
open Sys2Proof

/-- Ranges of source numbers that a chapter assigns: all others are reserved (R377). -/
def assignedRanges : List (Nat × Nat) :=
  [(0x000, 0x007), (0x009, 0x009), (0x020, 0x025), (0x040, 0x048), (0x07C, 0x07D), (0x080, 0x091), (0x0A0, 0x0A6),
    (0x0C0, 0x0C7), (0x0E0, 0x0E9), (0x100, 0x10D), (0x120, 0x12A), (0x140, 0x143), (0x160, 0x169), (0x180, 0x18D),
    (0x1C0, 0x1CB), (0x1E0, 0x1EE), (0x200, 0x208), (0x220, 0x228), (0x240, 0x24A)]

def assigned (src : Nat) : Bool := assignedRanges.any (fun r => decide (r.1 ≤ src) && decide (src ≤ r.2))

/-- LIVE of a level source: its condition now (R377). -/
def live (s : State) (src : Nat) : Bool :=
  match src with
  | 0x086 => s.aqf.links.any (fun l => l.2.alignErr)
  | 0x126 => s.ika.allSuspended || s.ika.rooms.any (fun r => r.2.suspended)
  | 0x1C0 => (List.range 17).any (fun n => candEn s n && (cand s n).los)
  | 0x1C1 => s.tim.cands.any (fun c => c.2.qualified && c.2.freqWarn)
  | 0x1C4 => s.tim.mode == .holdover
  | 0x1C5 => !(disagreeing s).isEmpty
  | 0x1E3 => s.red.st != .unpaired && (!s.red.liveA || !s.red.liveB)
  | 0x204 => s.pwr.warn
  | 0x205 => s.pwr.trip
  | 0x207 => s.pwr.coolers.any (fun c => c.2.stalled)
  | _ => false

def srcStat (s : State) (src : Nat) : SrcStat := tgetD s.flt.stat src {}

/-- FLT_SRC_STATUS (R381). -/
def srcStatusWord (s : State) (src : Nat) : Nat :=
  flag (live s src) 31 + flag (srcStat s src).sticky 30 + flag (srcStat s src).conseq 29 + (srcStat s src).count

/-- The 16 bytes of FAULT_READ for one source (R398). -/
def faultRecord (s : State) (src : Nat) : List Byte :=
  leBytes 4 (srcStatusWord s src) ++ leBytes 4 (srcStat s src).first ++ leBytes 4 (srcStat s src).last ++
    leBytes 4 (rd s .fltSrcCfg src)

/-- The range check of FAULT_READ and FAULT_CLEAR (R398). -/
def rangeChecks (c : Cmd) (first count : Nat) (s : State) : List (Bool × Reply) :=
  [(decide (639 < first), badArg c 24 s), (count == 0 || decide (640 < first + count), badArg c 26 s)]

/-- FAULT_READ. -/
def opFaultRead (c : Cmd) (first count a : Nat) : State → State :=
  hostCmd c 0x0901 false (checked (rangeChecks c first count)
    (readBack c a (fun s => (List.range count).flatMap (fun i => faultRecord s (first + i)))))

/-- Sources cleared one after another. -/
def clearRange : Nat → Nat → State → State
  | _, 0, s => s
  | first, n + 1, s => clearRange (first + 1) n (clearSrc first s)

/-- FAULT_CLEAR: each source as a W1C write would clear it, under R382. -/
def opFaultClear (c : Cmd) (first count : Nat) : State → State :=
  hostCmd c 0x0902 false (checked (rangeChecks c first count) (fun s => (replyDone, clearRange first count s)))

/-- ALIVE_RESUME (R387). -/
def opAliveResume (c : Cmd) : State → State :=
  hostCmd c 0x0903 false (checked (fun s => [(!s.flt.aliveStopped, denied)])
    (fun s => (replyDone, { s with flt := { s.flt with aliveStopped := false } })))

/-- The 264 bytes of SNAPSHOT_READ (R398). -/
def snapBytes (s : State) : List Byte :=
  match s.flt.snap with
  | some x => leBytes 2 x.src ++ zeros 2 ++ leBytes 4 x.stamp ++ padTo 256 x.bytes
  | none => zeros 264

/-- SNAPSHOT_READ: writes and empties the buffer. -/
def opSnapshotRead (c : Cmd) (a : Nat) : State → State :=
  hostCmd c 0x0904 false (checked (fun s => [(s.flt.snap.isNone, denied), (!c.hostOk, addressError a)])
    (fun s =>
      let s' := hostWrite a (snapBytes s) s
      (replyDone, { s' with flt := { s'.flt with snap := none } })))

/-- FAULT_INJECT (R398): a raise whose data names no unit, with 0xFFFF in its first data item. -/
def opFaultInject (c : Cmd) (src : Nat) : State → State :=
  hostCmd c 0x0905 false (checked (fun s => [(!assigned src, badArg c 24 s)])
    (fun s => (replyDone, raise { src := src, data := [(2, 0xFFFF)] } s)))

/-- SRC_STATUS_CLEAR (R381): 1 in STICKY or in CONSEQ clears both bits, COUNT and the stamps. -/
def opSrcStatusClear (src : Nat) (v : Word) (s : State) : State :=
  if decide (src < 640) && (bit v.toNat 30 || bit v.toNat 29) then clearSrc src s else s

/-- Bits of a word cleared by a W1C write, but for those set in the same cycle (R382); `base` is the first bit's key. -/
def clearBits (base w : Nat) (s : State) (n : Nat) : Nat :=
  ((List.range 32).filter (fun i => bit w i && !(tget? s.flt.healthAt (base + i) == some s.tim.now))).foldl
    (fun m i => clrBit m i) n

/-- HEALTH_CLEAR (R382, R385): 0 FLT_HEALTH_LO, 1 FLT_HEALTH_HI, 2 FLT_HEALTH_IKA. -/
def opHealthClear (reg : Nat) (v : Word) (s : State) : State :=
  match reg with
  | 0 =>
    let n := clearBits 0 v.toNat s (bits s.flt.health 31 0)
    { s with flt := { s.flt with health := bits s.flt.health 63 32 * 2 ^ 32 + n } }
  | 1 =>
    let n := clearBits 32 v.toNat s (bits s.flt.health 63 32)
    { s with flt := { s.flt with health := n * 2 ^ 32 + bits s.flt.health 31 0 } }
  | 2 => { s with flt := { s.flt with healthIka := clearBits 64 v.toNat s s.flt.healthIka } }
  | _ => s

/-- BLOCK_ERROR_PIN (R385): the pin is latched, and a bit that it sets raises HEALTH_SET; a classroom's pin is detailed in
FLT_HEALTH_IKA. -/
def opBlockErrorPin (block room : Nat) (s : State) : State :=
  if 60 < block then s
  else
    let f := s.flt
    let f := { f with healthAt := tput f.healthAt block s.tim.now }
    let f := if block = 45 ∧ room < 32 then
        { f with healthIka := setBit f.healthIka room, healthAt := tput f.healthAt (64 + room) s.tim.now }
      else f
    raiseIf (!bit s.flt.health block) { src := 0x240, data := [(1, block)] }
      { s with flt := { f with health := setBit f.health block } }

/-- ALOG_ENTRY_READ (R386): ADDR_LO read; the entry's latch takes its other words and its VALID bit clears. -/
def opAlogEntryRead (i : Nat) (s : State) : State :=
  if 15 < i then s
  else
    let e := tgetD s.flt.alog i {}
    let l : AlogLatch :=
      { hi := bits e.addr 63 32, info := e.space * 2 ^ 28 + e.origin * 2 ^ 16 + e.source, stamp := e.stamp }
    { s with
      flt := { s.flt with alogLatch := tput s.flt.alogLatch i l, alogValid := clrBit s.flt.alogValid i }
      hif := { s.hif with resp := some (.data (BitVec.ofNat 32 (bits e.addr 31 0))) } }

/-- CONSEQ_WINDOW_END (R383): the window that ends first closes, with any that ends at the same instant. -/
def opConseqWindowEnd (s : State) : State :=
  match s.flt.windows.map (fun w => w.until_) with
  | [] => s
  | t :: ts =>
    let s := atLeast (ts.foldl min t) s
    { s with flt := { s.flt with windows := s.flt.windows.filter (fun w => decide (s.tim.now < w.until_)) } }

/-- NMT_SNAPSHOT_TAKEN (R379): firmware ends its copy of the block's 256 bytes. -/
def opNmtSnapshotTaken (bytes : List Byte) (s : State) : State :=
  match s.flt.nmt with
  | none => s
  | some (src, stamp) =>
    { s with flt := { s.flt with nmt := none, snap := some { src := src, stamp := stamp, bytes := padTo 256 bytes } } }

/-- ALIVE_TOGGLE (R387): at each whole multiple of 500,000 ns once firmware has started. -/
def opAliveToggle (s : State) : State :=
  let s := atLeast (s.flt.aliveAt + 500000) s
  let go := s.pwr.boot == .firmware && !s.flt.aliveStopped
  { s with flt := { s.flt with
      aliveAt := s.tim.now / 500000 * 500000, aliveLevel := if go then !s.flt.aliveLevel else s.flt.aliveLevel } }

/-- FW_WATCHDOG (R387): WDOG_MS pass without a refresh, since the last one or the last expiry after it. -/
def opFwWatchdog (s : State) : State :=
  if s.pwr.boot == .firmware then
    let s := atLeast (s.flt.wdogLast + fld s .fltCfg 0 23 16 * 1000000) s
    raise { src := 0x249, data := [(4, (s.tim.now - s.flt.wdogAt) / 1000000)] }
      { s with flt := { s.flt with wdogLast := s.tim.now } }
  else s

/-! ## Roll call (R393, R394) -/

/-- A crosspoint word as software reads it (R78). -/
def xpWordBits (x : XpWord) : Nat := flag x.sel 31 + flag x.pend 30 + flag x.mgmt 29 + x.page * 2 ^ 23 + x.src

/-- LIVE as it is reported: SEL and SOURCE. -/
def xpLiveBits (l : XpLive) : Nat := flag l.sel 31 + l.src

/-- The comparison of one word with its latch: 0 equal, 1 different, 2 written after the latch. -/
def rollWord (x : XpWord) (l : XpLive) : Nat :=
  if l.at_ < x.wrote then 2 else if x.sel != l.sel || x.src != l.src || x.bad || l.kept then 1 else 0

/-- The roll call of the words given. -/
def rollCall (d : Nat) : List Nat → State → State
  | [], s => s
  | w :: ws, s =>
    let x := tgetD s.swc.xp w {}
    let l := tgetD s.swc.live w {}
    rollCall d ws
      (match rollWord x l with
      | 0 => s
      | 1 =>
        let f := { s.flt with rcMismatch := satAdd 32 s.flt.rcMismatch 1 }
        let due := match tget? f.rollAt w with | none => true | some t => decide (t + 1000000000 ≤ s.tim.now)
        if due then
          raise { src := 0x241, data := [(2, w), (4, xpWordBits x), (4, xpLiveBits l), (1, l.fi % 256)] }
            { s with flt := { f with rollAt := tput f.rollAt w s.tim.now } }
        else { s with flt := f }
      | _ => { s with flt := { s.flt with rcSkipped := satAdd 32 s.flt.rcSkipped 1 } })

/-- ROLL_CALL of one domain's frame: every word with a latch whose output or processed flow is in the domain. -/
def opRollCall (d : Nat) (s : State) : State :=
  if bit (rd s .fltCfg 0) 31 && domEn s d then
    let s := noteNow (.roll d) (atLeast (boundaryFrom s d (lastOf (.roll d) s + 1)) s)
    rollCall d (tkeys s.swc.live (fun w _ => (flowD s (wordFlow w)).domain == d)) s
  else s

end Sys2Proof.Machine
end

