-- ==== Sys2Proof/Machine/Journal.lean ====
section
/-!
DEFINITION. The journal's sending side (R360, R361): the holder of the tablet queues one record for each configuration change.
-/
namespace Sys2Proof.Machine
open Sys2Proof

/-- The unit holds the tablet (R353). -/
def holds (s : State) : Bool := s.red.st == .sole || s.red.st == .active

/-- The unit is in a pair and does not hold the tablet (R364). -/
def notHolder (s : State) : Bool := s.red.st != .unpaired && !holds s

/-- The unit drives its outputs: it holds the tablet, or it is in no pair (R18, R353, R358). -/
def drives (s : State) : Bool :=
  match s.red.st with
  | .unpaired => true
  | .sole => true
  | .active => true
  | _ => false

/-- SDI transmitters run: in WARM too, behind open relays (R371), and after a handover through frame B (R372). -/
def sdiRuns (s : State) : Bool := drives s || s.red.st == .warm || decide (s.tim.now < s.red.sdiUntil)

/-- Scheduled cells leave from this unit: at a handover they change sender at a fabric cycle boundary (R372). -/
def fabricOn (s : State) : Bool := drives s != decide (s.tim.now < s.red.fabricAt)

/-- JDOMAIN. -/
def jdomain (s : State) : Nat := fld s .redCfg2 0 2 0

/-- FI[31:0] of the next journal-domain boundary, at which a change takes effect at the partner (R361). -/
def journalFi (s : State) : Nat := (fiNow s (jdomain s) + 1) % 2 ^ 32

/-- One record queued by a holder that has a partner to send it to; other units send none. -/
def journal (type : Nat) (data : List Byte) (s : State) : State :=
  if holds s then
    let n := (s.red.jseq + 1) % 2 ^ 32
    let r : JRec := { jseq := n, type := type, fi := journalFi s, data := data, at_ := s.tim.now }
    { s with red := { s.red with jseq := n, jout := s.red.jout ++ [r] } }
  else s

end Sys2Proof.Machine
end

