-- ==== Sys2Proof/Machine/Links.lean ====
section
/-!
DEFINITION. Fabric links: cells (R117 to R123), control routes and the link-state view (R124, R125), link states (R126, R127),
link time (R128, R129), flight changes (R141), unscheduled queues and credits (R146 to R149) and twins (R351, R352).
-/
namespace Sys2Proof.Machine
open Sys2Proof

/-! ## Links and lanes -/

def link (s : State) (n : Nat) : Link := tgetD s.aqf.links n {}
def setLink (n : Nat) (l : Link) (s : State) : State := { s with aqf := { s.aqf with links := tput s.aqf.links n l } }
def linkUp (s : State) (n : Nat) : Bool := (link s n).st == .up
def lane (s : State) (n : Nat) : Lane := tgetD s.lnx.lanes n {}
def setLane (n : Nat) (l : Lane) (s : State) : State := { s with lnx := { s.lnx with lanes := tput s.lnx.lanes n l } }

/-- LNX_LANE_CFG(n).USE: 0 unused, 1 Ethernet, 2 fabric (R213); a shadow runs as a fabric lane does (R223). -/
def laneUse (s : State) (n : Nat) : Nat := if 144 ≤ n then 2 else fld s .lnxLaneCfg n 31 30
/-- A lane's state: OFF while USE is 0, IDLE until its owner starts it (R214). -/
def laneSt (s : State) (n : Nat) : LaneSt :=
  let l := lane s n
  if laneUse s n = 0 then .off else if l.st == .off then .idle else l.st

/-- A lane quad is gated: in TRIM none of its assigned lanes is started (R403). -/
def quadGated (s : State) (q : Nat) : Bool :=
  s.pwr.st == .trim && (List.range 4).any (fun i => laneUse s (4 * q + i) != 0) &&
    (List.range 4).all (fun i => laneSt s (4 * q + i) == .off || laneSt s (4 * q + i) == .idle)

/-- The quad of a lane ungated, in 200 µs (R403). -/
def ungateQuad (n : Nat) (s : State) : State := ungate (quadGated s (n / 4)) 200000 s

/-- Pair links (AQF_PAIR_CFG). -/
def isPair (s : State) (n : Nat) : Bool :=
  let w := rd s .aqfPairCfg 0
  (bit w 31 && bits w 7 0 == n) || (bit w 30 && bits w 15 8 == n)

/-- ROLE (R353): 0 unpaired, 1 holder, 2 otherwise. -/
def role (s : State) : Nat :=
  if s.red.st == .unpaired then 0 else if holds s != decide (s.tim.now < s.red.fabricAt) then 1 else 2

/-- STATE as LINK_READ codes it (R152). -/
def linkCode : LinkSt → Nat
  | .down => 0
  | .framing => 1
  | .hello => 2
  | .timing => 3
  | .up => 4
  | .quiet => 5
  | .held => 6

/-! ## Cells (R117 to R121) -/

/-- A 250-byte cell from its header word and payload. -/
def cellBytes (hdr : Nat) (payload : List Byte) : List Byte :=
  let h := beBytes 6 hdr
  let p := padTo 240 payload
  h ++ beBytes 4 (crc32c (h ++ p)) ++ p

def cellHeader (c : List Byte) : Nat := beAt c 0 6
def cellPayload (c : List Byte) : List Byte := padTo 240 (c.drop 10)
/-- The CRC of a received cell holds. -/
def cellCrcOk (c : List Byte) : Bool :=
  c.length == 250 && beAt c 6 4 == crc32c (slice c 0 6 ++ slice c 10 240)

/-- A control cell as it is sent: message in bytes 0 to 223, source route in 224 to 238 (R121). -/
def ctrlBytes (c : CtrlCell) : List Byte :=
  cellBytes (2 * 2 ^ 46 + c.dest * 2 ^ 36 + c.src * 2 ^ 26 + c.ctype * 2 ^ 20 + c.hop * 2 ^ 16 + c.hops * 2 ^ 12 +
      flag c.visit 11 + c.seq)
    (padTo 224 c.msg ++ padTo 15 (c.route.map (fun n => BitVec.ofNat 8 n)) ++ zeros 1)

/-- A control cell as received. -/
def parseCtrl (cell : List Byte) : CtrlCell :=
  let h := cellHeader cell
  let p := cellPayload cell
  { dest := bits h 45 36, src := bits h 35 26, ctype := bits h 25 20, hop := bits h 19 16, hops := bits h 15 12
    visit := bit h 11, seq := bits h 10 0, msg := p.take 224, route := (slice p 224 15).map (fun b => b.toNat) }

/-- An unscheduled cell as it is sent (R119). -/
def unschedBytes (c : UnschedCell) : List Byte :=
  cellBytes (2 ^ 46 + c.dest * 2 ^ 36 + c.src * 2 ^ 26 + c.cls * 2 ^ 21 + c.ttl * 2 ^ 17 + c.len * 2 ^ 9 + c.seq) c.data

def parseUnsched (cell : List Byte) (from_ : Nat) : UnschedCell :=
  let h := cellHeader cell
  { dest := bits h 45 36, src := bits h 35 26, cls := bits h 25 21, ttl := bits h 20 17, len := bits h 16 9
    seq := bits h 8 0, data := (cellPayload cell).take (bits h 16 9), from_ := some from_ }

/-! ## Sending control cells (R121, R123, R352) -/

/-- A cell leaves on a link. -/
def sendCell (n : Nat) (bytes : List Byte) (s : State) : State := { s with wire := s.wire ++ [.cell n bytes] }

/-- The idle cell (R118). -/
def idleCell : List Byte := cellBytes (3 * 2 ^ 46) []

/-- A control cell queued on a link; a full queue discards it with CTRL_OVERFLOW (R123). -/
def sendCtrl (n : Nat) (c : CtrlCell) (s : State) : State :=
  let l := link s n
  if l.ctrlQ.length < 256 then setLink n { l with ctrlQ := l.ctrlQ ++ [c] } s
  else raise { src := 0x091, data := [(1, n)] } s

/-- The next control sequence number (R120). -/
def bumpSeq (s : State) : State := { s with aqf := { s.aqf with ctrlSeq := (s.aqf.ctrlSeq + 1) % 2048 } }

/-- A link-local control cell (HOPS 0). -/
def sendLocal (n ctype : Nat) (msg : List Byte) (s : State) : State :=
  bumpSeq (sendCtrl n { src := devId s, ctype := ctype, seq := s.aqf.ctrlSeq, msg := msg } s)

/-- A cell discarded here, counted in LINK_READ DISCARDS. -/
def discard (n : Nat) (s : State) : State := setLink n { link s n with discards := satAdd 32 (link s n).discards 1 } s

/-- Twins of a link: links whose peers report one device ID and different unique IDs (R351), the link itself first. -/
def twins (s : State) (n : Nat) : List Nat :=
  let l := link s n
  n :: tkeys s.aqf.links (fun k x => k != n && x.peer != 0x3FF && x.peer == l.peer && x.peerUid != l.peerUid)

/-- The later of two links by the instant its peer last carried ROLE 1. -/
def laterRole (s : State) (a : Option Nat) (n : Nat) : Option Nat :=
  match (link s n).role1At, a with
  | none, _ => a
  | some _, none => some n
  | some t, some m => match (link s m).role1At with
    | some u => if u < t then some n else some m
    | none => some n

/-- The twin that control and unscheduled cells take (R352): the one UP whose peer's last HELLO carried ROLE 1, else the
one that last carried it, else neither. A link without a twin stands for itself. -/
def pickTwin (s : State) (n : Nat) : Option Nat :=
  let t := twins s n
  if t.length < 2 then some n
  else
    match t.find? (fun k => linkUp s k && (link s k).peerRole == 1) with
    | some k => some k
    | none => t.foldl (laterRole s) none

/-- A control cell sent towards an egress link: discarded and counted where the link in use is not UP (R121, R352). -/
def sendOn (n : Nat) (c : CtrlCell) (s : State) : State :=
  match pickTwin s n with
  | some k => if linkUp s k then sendCtrl k c s else discard k s
  | none => discard n s

/-- A routed control cell from this device: `route` lists the egress links from the sender on (R121). A unit of a pair that does
not hold the tablet sends none of its own (R18). -/
def sendRouted (dest ctype : Nat) (visit : Bool) (route : List Nat) (msg : List Byte) (s : State) : State :=
  match route with
  | [] => s
  | n :: _ =>
    if notHolder s then s
    else
      bumpSeq (sendOn n { dest := dest, src := devId s, ctype := ctype, hops := route.length, visit := visit
                          seq := s.aqf.ctrlSeq, msg := msg, route := route } s)

/-- Links on which floods and unscheduled cells leave: UP, and of twins the one in use. -/
def outLinks (s : State) : List Nat := tkeys s.aqf.links (fun k l => l.st == .up && pickTwin s k == some k)

/-! ## Notices and the link-state view (R125) -/

def noticeBytes (m : Notice) : List Byte :=
  leBytes 2 m.dev ++ leBytes 1 m.link ++ leBytes 1 m.st ++ leBytes 2 m.peer ++ leBytes 1 m.peerLink ++ leBytes 1 m.role ++
    leBytes 4 m.boot ++ leBytes 4 m.nseq ++ leBytes 8 m.uid

def parseNotice (p : List Byte) : Notice :=
  { dev := fieldAt p 0 2 % 1024, link := fieldAt p 2 1, st := fieldAt p 3 1, peer := fieldAt p 4 2 % 1024
    peerLink := fieldAt p 6 1, role := fieldAt p 7 1, boot := fieldAt p 8 4, nseq := fieldAt p 12 4, uid := fieldAt p 16 8 }

/-- A notice sent on every link but one. -/
def flood (m : Notice) (except : Nat) (s : State) : State :=
  ((outLinks s).filter (fun k => k != except)).foldl (fun s k => sendLocal k 4 (noticeBytes m) s) s

/-- This device's notice of a link's state. -/
def ownNotice (s : State) (n : Nat) : Notice :=
  let l := link s n
  { dev := devId s, link := n, st := linkCode l.st, peer := l.peer, peerLink := l.peerLink, role := role s
    boot := s.aqf.boot.getD 0, nseq := s.aqf.nseq, uid := s.sec.uid }

def notify (n : Nat) (s : State) : State :=
  let s' := flood (ownNotice s n) n s
  { s' with aqf := { s'.aqf with nseq := (s'.aqf.nseq + 1) % 2 ^ 32 } }

/-- A card of a pair notifies its started links when its ROLE changes (R125). -/
def notifyRole (s : State) : State := (tkeys s.aqf.links (fun _ l => l.started)).foldl (fun s n => notify n s) s

/-- Newer in 32-bit serial arithmetic, first by BOOT and then by NSEQ (R125). -/
def newerNotice (m : Notice) (r : Reporter) : Bool :=
  serialLt 32 r.boot m.boot || (r.boot == m.boot && serialLt 32 r.nseq m.nseq)

/-- LINK_NOTICE received: acted on and forwarded only if it is newer than the newest acted on from its sender (R125). -/
def opLinkNoticeRx (m : Notice) (n : Nat) (s : State) : State :=
  let known := s.aqf.reporters.find? (fun r => r.uid == m.uid)
  let fresh := m.uid != s.sec.uid && (match known with | none => true | some r => newerNotice m r)
  if !fresh then s
  else
    let rep : Report := { uid := m.uid, dev := m.dev, link := m.link, st := m.st, peer := m.peer, peerLink := m.peerLink }
    let who : Reporter := { uid := m.uid, dev := m.dev, boot := m.boot, nseq := m.nseq, role := m.role }
    let s := { s with aqf := { s.aqf with
      reports := rep :: s.aqf.reports.filter (fun r => !(r.uid == m.uid && r.link == m.link))
      reporters := who :: s.aqf.reporters.filter (fun r => r.uid != m.uid) } }
    raise { src := 0x08D, data := [(2, m.dev), (1, m.link), (1, m.st)] } (flood m n s)

/-- Cards whose reports under one device ID the view uses: those of a pair whose newest notice carried ROLE 1, and a card in no
pair (R125, R353). -/
def cardsOf (s : State) (d : Nat) : List Reporter := s.aqf.reporters.filter (fun r => r.dev == d && decide (r.role < 2))

/-- One link end is UP in this device's view, as an end of the physical link to `far` (R125). -/
def endUp (s : State) (e far : Nat × Nat) : Bool :=
  if e.1 = devId s then
    match pickTwin s e.2 with
    | some k => linkUp s k && (link s k).peer == far.1 && (link s k).peerLink == far.2
    | none => false
  else (cardsOf s e.1).any (fun c => s.aqf.reports.any (fun r =>
    r.uid == c.uid && r.link == e.2 && r.st == 4 && r.peer == far.1 && r.peerLink == far.2))

/-- A control route's physical links as pairs of ends: (device, egress), (next device, receiving link). -/
def routeEnds : List Hop → Nat → List ((Nat × Nat) × (Nat × Nat))
  | [], _ => []
  | [h], dest => [((h.dev, h.egress), (dest, h.rx))]
  | h :: g :: t, dest => ((h.dev, h.egress), (g.dev, h.rx)) :: routeEnds (g :: t) dest

/-- A route is up when every physical link on it is UP in the view. -/
def routeUp (s : State) (dest : Nat) (r : List Hop) : Bool :=
  (routeEnds r dest).all (fun e => endUp s e.1 e.2 && endUp s e.2 e.1)

/-- The name of a physical link: the lesser of its two ends as 18-bit values. -/
def linkName (e : (Nat × Nat) × (Nat × Nat)) : Nat := min (e.1.1 * 256 + e.1.2) (e.2.1 * 256 + e.2.2)

/-- Two routes are link-disjoint when they share no physical link name. -/
def disjoint (dest : Nat) (a b : List Hop) : Bool :=
  !((routeEnds a dest).any (fun e => (routeEnds b dest).any (fun f => linkName e == linkName f)))

def ctrlRoutes (s : State) (dest : Nat) : List (List Hop) := tgetD s.aqf.ctrlRoutes dest []

/-- A message sent to a device on every configured control route whose first link is UP (R124). -/
def sendToDevice (dest ctype : Nat) (msg : List Byte) (s : State) : State :=
  (ctrlRoutes s dest).foldl (fun s r =>
    match r with
    | [] => s
    | h :: _ =>
      match pickTwin s h.egress with
      | some k => if linkUp s k then sendRouted dest ctype false (r.map (fun x => x.egress)) msg s else s
      | none => s) s

/-! ## Link states (R126, R127) -/

def spareLane (s : State) (k : Nat) : SpareLane := tgetD s.lnx.spares k {}
def setSpareLane (k : Nat) (x : SpareLane) (s : State) : State := { s with lnx := { s.lnx with spares := tput s.lnx.spares k x } }

/-- The lane that a lane's events name: of a shadow, the logical lane (DESIGN CHOICE, notes/assumptions/143.md). -/
def laneName (s : State) (n : Nat) : Nat := if n < 144 then n else (spareLane s (n - 144)).lane

/-- The bring-up of the shadow on spare `k` ends; its TIME exchange is that of link 144 + k. -/
def dropShadow (k : Nat) (s : State) : State :=
  { s with
    lnx := { s.lnx with lanes := tdel s.lnx.lanes (144 + k) }
    aqf := { s.aqf with links := tdel s.aqf.links (144 + k) } }

/-- A pending lane swap abandoned (R223, R224): the spare is FREE again. -/
def abandonSpare (k reason : Nat) (s : State) : State :=
  let x := spareLane s k
  raise { src := 0x0C7, data := [(1, x.lane), (1, reason)], fin := some x.tag, unit := some (.lane x.lane) }
    (dropShadow k (setSpareLane k {} s))

/-- Spares whose swap of a lane is pending: 4 × die + spare. -/
def pendingSpares (s : State) (n : Nat) : List Nat :=
  tkeys s.lnx.spares (fun _ x => x.lane == n && (x.st == .shadow || x.st == .ready))

/-- A link's state changed, with LINK_NOTICE where it passes between UP and any other state (R125); a lane swap pending on a
link that goes DOWN is abandoned (R223). -/
def moveLink (n : Nat) (st : LinkSt) (s : State) : State :=
  let l := link s n
  let s := if st = .down then (pendingSpares s n).foldl (fun s k => abandonSpare k 1 s) s else s
  let s' := setLink n { l with st := st, changed := ts32 s.tim.now } s
  if (l.st == .up) != (st == .up) then notify n s' else s'

/-- A link that leaves UP: its credits are void until the first CREDIT after its return (R148), and candidate 16 that it
feeds is in LOS (R129). -/
def leaveUp (n : Nat) (s : State) : State :=
  let s := setLink n { link s n with credits := 0, needCredit := true, badTheta := 0, okTheta := 0, alignErr := false } s
  if bit (rd s .aqfTimeCfg 0) 31 && fld s .aqfTimeCfg 0 7 0 == n then enterLos 16 s else s

/-- A link goes DOWN with a cause: LINK_DOWN from UP or QUIET, or with the TAG of a LINK_START it ends; a QUIET link that loses
lock sends LINK_NOTICE too (R126). -/
def linkDown (n cause : Nat) (fin : List Nat) (s : State) : State :=
  let l := link s n
  let was := l.st == .up || l.st == .quiet
  let s := if was then leaveUp n s else s
  let s := if was || cause == 3 then raiseFor fin { src := 0x081, data := [(1, n), (1, cause)], unit := some (.link n) } s else s
  let s := moveLink n .down (setLink n { link s n with
    goodRun := 0, badRun := 0, exchanges := 0, flights := [], swapped := none, skew := [] } s)
  if l.st == .quiet && cause == 0 then notify n s else s

/-- An eye scan ends early when its lane leaves TRAINED or is replaced (R220). -/
def endScan (l : Lane) : Lane := { l with scan := l.scan.map (fun e => { e with early := true }) }

/-- A fabric lane starts its bring-up from the lowest rate (R214, R215), and sends its capability word; 1.25 Gb/s is 5 units of
0.25 Gb/s. -/
def startLane (n : Nat) (s : State) : State :=
  let s := setLane n { endScan (lane s n) with st := .base, step := 0, rate := 5, best := 5, since := s.tim.now } s
  { s with wire := s.wire ++ [.capability n { presets := Config.presets, spare := decide (144 ≤ n) }] }

/-- A lane returns to IDLE when its owner stops (R214). -/
def stopLane (n : Nat) (s : State) : State :=
  setLane n { endScan (lane s n) with st := .idle, rate := 0, failAt := none } s

/-- A fabric lane has lost lock: it restarts from BASE, and its link goes DOWN with cause 0 (R126, R217). -/
def linkLockLost (n : Nat) (s : State) : State :=
  let l := link s n
  if l.st == .down then s else linkDown n 0 [] s

/-- A link whose lane is TRAINED starts framing (R115, R126). -/
def startFraming (n : Nat) (s : State) : State :=
  let l := link s n
  if l.started && l.st == .down then moveLink n .framing (setLink n { l with goodRun := 0, badRun := 0 } s) else s

/-- A link started: its lane is brought up, or framing begins at once on a trained lane. -/
def bringUp (n : Nat) (s : State) : State :=
  if (lane s n).st == .trained then startFraming n s else startLane n s

/-- LINK_START (R126, R152). -/
def opLinkStart (c : Cmd) (n : Nat) : State → State :=
  hostCmd c 0x0301 true (checked
    (fun s => [
      (decide (143 < n), badArg c 24 s),
      (laneUse s n != 2 || !bit (rd s .aqfDevCfg 0) 31 || (link s n).st != .down || laneSt s n == .prbs, denied)])
    (fun s =>
      let s := ungateQuad n { s with aqf := { s.aqf with boot := some (s.aqf.boot.getD (s.tim.now / 1000000000 % 2 ^ 32)) } }
      (accepted, bringUp n (setLink n { link s n with started := true, start := (link s n).start ++ [c.tag] } s))))

/-- A link stopped (R126): LINK_DOWN cause 3 from every state but HELD. -/
def stopLink (n : Nat) (s : State) : State :=
  let l := link s n
  if !l.started then s
  else
    let s := stopLane n (setLink n { l with started := false, start := [] } s)
    if l.st == .held then moveLink n .down s else linkDown n 3 l.start s

/-- LINK_STOP (R152). -/
def opLinkStop (c : Cmd) (n : Nat) : State → State :=
  hostCmd c 0x0302 true (checked
    (fun s => [(decide (143 < n), badArg c 24 s), (!(link s n).mask.isEmpty, denied)])
    (fun s => (replyDone, stopLink n s)))

/-- The HELLO payload (R126). -/
def helloBytes (s : State) (n : Nat) (quiet : Bool) : List Byte :=
  leBytes 2 (devId s) ++ leBytes 1 n ++ leBytes 1 (role s) ++ leBytes 1 (flag quiet 0) ++ zeros 3 ++ leBytes 8 s.sec.uid

def parseHello (p : List Byte) : Hello :=
  { dev := fieldAt p 0 2 % 1024, link := fieldAt p 2 1, role := fieldAt p 3 1, quiet := bit (fieldAt p 4 1) 0
    uid := fieldAt p 8 8 }

def sendHello (n : Nat) (quiet : Bool) (s : State) : State := sendLocal n 1 (helloBytes s n quiet) s

/-- HELLO_SEND (R126): every 16 cycles on a link past FRAMING. -/
def opHelloSend (n : Nat) (s : State) : State :=
  match (link s n).st with
  | .down => s
  | .framing => s
  | .quiet => s
  | _ => sendHello n false (every (.hello n) (16 * 81920) s)

/-- The identity check (R126). -/
def identityOk (s : State) (n : Nat) (h : Hello) : Bool :=
  if isPair s n then h.dev == devId s && h.uid != s.sec.uid else h.dev != devId s

/-- A link comes UP, or returns to UP: the unscheduled credits start again (R148), and with no twin UP the ROLE 1 memory of
the twins starts again (R352). -/
def enterUp (n : Nat) (s : State) : State :=
  let l := link s n
  let others := (twins s n).filter (fun k => k != n)
  let alone := others.all (fun k => (link s k).st != .up && (link s k).st != .quiet)
  let s := if alone then others.foldl (fun s k => setLink k { link s k with role1At := none, peerRole := 0 } s) s else s
  let r1 := if l.peerRole == 1 then some s.tim.now else if alone then none else l.role1At
  moveLink n .up (setLink n { link s n with
    credits := 0, needCredit := true, toReturn := 96 - l.heldCells, role1At := r1, helloAt := s.tim.now } s)

/-- HELLO sent at once, out of the control queue (R126). -/
def helloNow (n : Nat) (quiet : Bool) (s : State) : State :=
  bumpSeq (sendCell n (ctrlBytes { src := devId s, ctype := 1, seq := s.aqf.ctrlSeq, msg := helloBytes s n quiet }) s)

/-- A QUIET link returns to UP (R126, R127): the flight is kept, and measured again. -/
def opQuietWake (n : Nat) (s : State) : State :=
  if (link s n).st == .quiet then enterUp n (setLink n { link s n with timeAt := 0, flights := [] } s) else s

/-- A link enters QUIET (R126): the flight and θ are kept. -/
def enterQuiet (n : Nat) (s : State) : State :=
  moveLink n .quiet (let s := leaveUp n s; setLink n { link s n with refreshAt := s.tim.now } s)

/-- A device that enters RECESS: its links but the pair links send HELLO with QUIET = 1 at once and rest (R126). -/
def quietLinks (s : State) : State :=
  (tkeys s.aqf.links (fun k l => l.st == .up && !isPair s k)).foldl (fun s n => enterQuiet n (helloNow n true s)) s

/-- A device that leaves RECESS: QUIET links return to UP with HELLO (R126). -/
def wakeLinks (s : State) : State :=
  (tkeys s.aqf.links (fun _ l => l.st == .quiet)).foldl (fun s n => sendHello n false (opQuietWake n s)) s

/-- HELLO_RX (R126). -/
def opHelloRx (n : Nat) (h : Hello) (s : State) : State :=
  let l := link s n
  match l.st with
  | .down => s
  | .framing => s
  | .held => s
  | st =>
    let r1 := if h.role == 1 then some s.tim.now else l.role1At
    let s := setLink n { l with
      peer := h.dev, peerLink := h.link, peerRole := h.role, peerUid := h.uid, helloAt := s.tim.now, role1At := r1 } s
    if !identityOk s n h then
      let s := if st == .up then leaveUp n s else s
      raiseFor l.start { src := 0x085, data := [(1, n), (2, h.dev)], unit := some (.link n) }
        (moveLink n .held (setLink n { link s n with start := [] } s))
    else
      match st with
      | .hello => moveLink n .timing (setLink n { link s n with exchanges := 0, flights := [], timeAt := 0 } s)
      | .up => if h.quiet && !isPair s n then enterQuiet n s else s
      | .quiet => if !h.quiet then opQuietWake n s else s
      | _ => s

/-- HELLO_LOSS (R126): 3 HELLO periods of 16 cycles without a HELLO. -/
def opHelloLoss (n : Nat) (s : State) : State :=
  if linkUp s n then
    let s := atLeast ((link s n).helloAt + 3 * 16 * 81920) s
    startLane n (linkDown n 2 [] s)
  else s

/-- QUIET_REFRESH_LOSS (R126): no refresh for 3 ms. -/
def opQuietRefreshLoss (n : Nat) (s : State) : State :=
  if (link s n).st == .quiet then
    let s := atLeast ((link s n).refreshAt + 3000000) s
    startLane n (linkDown n 0 [] (raise { src := 0x0C2, data := [(1, n)], unit := some (.lane n) } s))
  else s

/-- LPI_REFRESH (R127). -/
def opLpiRefresh (n : Nat) (s : State) : State :=
  if (link s n).st == .quiet then
    let s := every (.refresh n) 1000000 s
    { s with wire := s.wire ++ [.refresh n] }
  else s

/-! ## Link time (R128, R129) and flight (R141) -/

/-- The device's own hop count from the timing master (R128). -/
def ownHops (s : State) : Nat :=
  if s.tim.sel = 16 then min 15 ((link s (fld s .aqfTimeCfg 0 7 0)).peerHops + 1)
  else if s.tim.sel < 16 then 0 else 15

def modeCode (m : DpllMode) : Nat :=
  match m with
  | .freeRun => 0
  | .acquire => 1
  | .locked => 2
  | .holdover => 3

/-- The TIME payload for cycle `c` (R128). -/
def timeBytes (s : State) (n c : Nat) : List Byte :=
  leBytes 8 c ++ leBytes 8 (link s n).timeAt ++ leBytes 2 (modeCode s.tim.mode * 4096 + ownHops s)

/-- The slack of a link's hop on a route, and the route made STALE when its flight has risen by more (R141). -/
def staleRoutes (n : Nat) (f : Int) : List (Nat × Route) → State → State
  | [], s => s
  | (k, r) :: rs, s =>
    let mine := s.aqf.routes.any (fun p => p.1 == k && p.2.st == .verified)
    let here := (r.hops.zip (r.hops.drop 1)).any (fun p => p.2.dev == devId s && p.1.rx == n) ||
      (r.dest / 2 ^ 20 % 1024 == devId s && (r.hops.getLast?.map (fun h => h.rx)) == some n)
    if mine && here && decide (r.usedFlight + (r.slack : Int) < f) then
      staleRoutes n f rs
        (raise { src := 0x087, data := [(1, n), (4, ofSigned 32 r.usedFlight), (4, ofSigned 32 f)], unit := some (.link n) }
          { s with aqf := { s.aqf with routes := tput s.aqf.routes k { r with st := .stale } } })
    else staleRoutes n f rs s

/-- Flights within 4 ns of one another. -/
def steady (l : List Int) : Bool := l.all (fun x => l.all (fun y => decide (absDiff x y ≤ 4)))

/-- θ judged on an UP link (R129): beyond 20 ns for 16 cycles raises TIME_ALIGN_ERR; 16 cycles within end it. -/
def judgeTheta (n : Nat) (s : State) : State :=
  let l := link s n
  if 20 < l.theta.natAbs then
    raiseIf (!l.alignErr && l.badTheta + 1 == 16)
      { src := 0x086, data := [(1, n), (4, ofSigned 32 l.theta)], unit := some (.link n) }
      (setLink n { l with badTheta := l.badTheta + 1, okTheta := 0, alignErr := l.alignErr || decide (16 ≤ l.badTheta + 1) } s)
  else setLink n { l with okTheta := l.okTheta + 1, badTheta := 0, alignErr := l.alignErr && decide (l.okTheta + 1 < 16) } s

/-- Candidate 16 follows the time link: its time is the neighbour's time plus F (R129). -/
def feedTime (n : Nat) (s : State) : State :=
  if linkUp s n && bit (rd s .aqfTimeCfg 0) 31 && fld s .aqfTimeCfg 0 7 0 == n then
    setCand 16 { cand s 16 with timeOff := -(link s n).theta, hasTime := true } s
  else s

/-- What a TIME cell leaves with the link (R128). -/
def keepTime (m : TimeMsg) (l : Link) : Link :=
  { l with timeAt := m.arrived, timeCycle := m.cycle, timeStamp := m.stamp, peerMode := m.mode, peerHops := m.hops }

/-- The TIME cell closes an exchange: the last one received was of the cycle before, and the stamp it carries is a new one, so
both are of the cells of that cycle (R128). -/
def exchangeDone (l : Link) (m : TimeMsg) : Bool :=
  l.timeAt != 0 && m.stamp != 0 && m.cycle == l.timeCycle + 1 && m.stamp != l.timeStamp

/-- The one-way flight and θ of an exchange, both stamps against the start of the cycle before the one the cell names. -/
def exchange (s : State) (n : Nat) (m : TimeMsg) : Int × Int :=
  let asym := toSigned 16 (fld s .aqfLinkAsym (laneName s n) 15 0)
  let base : Int := ((m.cycle - 1) * 81920 : Nat)
  let fwd := (m.stamp : Int) - base
  let back := ((link s n).timeAt : Int) - base
  ((fwd + back) / 2 + asym / 2 - Config.pcsDelay, (back - fwd) / 2 - asym / 2)

/-- F after a flight measured: the mean of the last 64; a link that has returned to UP keeps its F over the first 16 (R127). -/
def meanFlight (l : Link) (flights : List Int) : Int :=
  if l.st == .up && decide (flights.length < 16) then l.flight else flights.sum / (flights.length : Int)

/-- TIME_RX (R128): the exchange of the cycle before the one the cell names; on a shadow it measures F′ alone (R223). -/
def opTimeRx (n : Nat) (m : TimeMsg) (s : State) : State :=
  let l := link s n
  if !(l.st == .timing || l.st == .up) then s
  else if !exchangeDone l m then setLink n (keepTime m l) s
  else
    let x := exchange s n m
    let flights := (x.1 :: l.flights).take 64
    let mean := meanFlight l flights
    let s := setLink n { keepTime m l with
      exchanges := l.exchanges + 1, flights := flights, flight := mean, theta := x.2 } s
    if 144 ≤ n then s
    else if l.st == .timing then
      if 64 ≤ l.exchanges + 1 ∧ steady (flights.take 16) then
        feedTime n (raiseFor l.start { src := 0x080, data := [(1, n), (2, l.peer)], unit := some (.link n) }
          (enterUp n (setLink n { link s n with start := [] } s)))
      else s
    else feedTime n (staleRoutes n mean s.aqf.routes (judgeTheta n s))

/-- CREDIT_RX (R148). -/
def opCreditRx (n k : Nat) (s : State) : State :=
  if linkUp s n then setLink n { link s n with credits := (link s n).credits + k, needCredit := false } s else s

/-! ## Commands (R124, R147, R149, R152) -/

/-- The 32 bytes of LINK_READ for one link. -/
def linkRecord (s : State) (n : Nat) : List Byte :=
  let l := link s n
  leBytes 1 n ++ leBytes 1 (linkCode l.st) ++ leBytes 2 l.peer ++ leBytes 1 l.peerLink ++
    leBytes 1 (flag l.alignErr 2 + flag (bit (rd s .aqfTimeCfg 0) 31 && fld s .aqfTimeCfg 0 7 0 == n) 1 + flag (isPair s n) 0) ++
    leBytes 2 (lane s n).rate ++ leBytes 4 (ofSigned 32 l.flight) ++ leBytes 4 (ofSigned 32 l.theta) ++
    leBytes 4 l.crcErrors ++ leBytes 4 l.discards ++ leBytes 4 l.changed ++ zeros 4

/-- LINK_READ. -/
def opLinkRead (c : Cmd) (first count a : Nat) : State → State :=
  hostCmd c 0x0303 false (checked
    (fun s => [(decide (143 < first), badArg c 24 s), (count == 0 || decide (144 < first + count), badArg c 28 s)])
    (readBack c a (fun s => (List.range count).flatMap (fun i => linkRecord s (first + i)))))

/-- One control-route record of 64 bytes (R124). -/
def parseCtrlRoute (p : List Byte) : List Hop :=
  (List.range (fieldAt p 0 1)).map (fun i =>
    let w := fieldAt p (4 + 4 * i) 4
    { dev := bits w 25 16, egress := bits w 15 8, rx := bits w 7 0 })

def ctrlRouteBytes (r : List Hop) : List Byte :=
  padTo 64 (leBytes 1 r.length ++ zeros 3 ++ r.flatMap (fun h => leBytes 4 (h.dev * 2 ^ 16 + h.egress * 2 ^ 8 + h.rx)))

/-- The local checks of a control route (R124). -/
def ctrlRouteOk (s : State) (dest : Nat) (r : List Hop) : Bool :=
  match r with
  | [] => true
  | h :: t =>
    let next := match t with | [] => dest | g :: _ => g.dev
    decide (r.length ≤ 15) && h.dev == devId s && decide (h.egress < 144) && laneUse s h.egress == 2 &&
      (!linkUp s h.egress || ((link s h.egress).peer == next && (link s h.egress).peerLink == h.rx))

/-- The journal's FORWARD record of one destination: its control routes and forwarding entry (R361). -/
def forwardRecord (s : State) (dest : Nat) : List Byte :=
  let e := tgetD s.aqf.fwd dest {}
  leBytes 2 dest ++ leBytes 2 0 ++ leBytes 4 (flag e.valid 31 + flag e.altValid 30 + e.alt * 256 + e.primary) ++
    padTo 256 ((ctrlRoutes s dest).flatMap ctrlRouteBytes)

/-- CTRL_ROUTE_SET: four records of 64 bytes. -/
def opCtrlRouteSet (c : Cmd) (dest a : Nat) (img : List Byte) (s : State) : State :=
  let recs (s : State) := (List.range 4).map (fun i => parseCtrlRoute (hostBytes s (a + 64 * i) 64))
  hostCmd c 0x0330 true (checked
    (fun s => (decide (1023 < dest), badArg c 24 s) :: (!c.hostOk, addressError a) ::
      ((List.range 4).map (fun i =>
        (decide (15 < fieldAt (hostBytes s (a + 64 * i) 64) 0 1) || !ctrlRouteOk s dest ((recs s).getD i []),
          badField (a + 64 * i)))))
    (fun s =>
      let s' := { s with aqf := { s.aqf with
        ctrlRoutes := tput s.aqf.ctrlRoutes dest ((recs s).filter (fun r => !r.isEmpty)) } }
      (replyDone, journal 0x32 (forwardRecord s' dest) s'))) (place a img s)

/-- A forwarding entry from its word (R147). -/
def parseFwd (w : Nat) : Fwd := { valid := bit w 31, altValid := bit w 30, alt := bits w 15 8, primary := bits w 7 0 }

/-- A forwarding entry's links exist where they are valid. -/
def fwdOk (e : Fwd) : Bool := !e.valid || (decide (e.primary < 144) && (!e.altValid || decide (e.alt < 144)))

/-- Entries set from `first` on, each journalled. -/
def setFwds : Nat → List Nat → State → State
  | _, [], s => s
  | d, w :: ws, s =>
    let s' := { s with aqf := { s.aqf with fwd := tput s.aqf.fwd d (parseFwd w) } }
    setFwds (d + 1) ws (journal 0x32 (forwardRecord s' d) s')

/-- FWD_SET. -/
def opFwdSet (c : Cmd) (first count a : Nat) (img : List Byte) (s : State) : State :=
  let words (s : State) := (List.range count).map (fun i => fieldAt (hostBytes s (a + 4 * i) 4) 0 4)
  hostCmd c 0x0331 true (checked
    (fun s => (decide (1023 < first), badArg c 24 s) :: (count == 0 || decide (1024 < first + count), badArg c 28 s) ::
      (!c.hostOk, addressError a) ::
      ((List.range count).map (fun i => (!fwdOk (parseFwd ((words s).getD i 0)), badField (a + 4 * i)))))
    (fun s => (replyDone, setFwds first (words s) s))) (place a img s)

/-- The virtual output queue of a destination and class (R146). -/
def voq (s : State) (dest cls : Nat) : List UnschedCell := tgetD s.aqf.voqs (32 * dest + cls) []
def setVoq (dest cls : Nat) (l : List UnschedCell) (s : State) : State :=
  { s with aqf := { s.aqf with voqs := tput s.aqf.voqs (32 * dest + cls) l } }

/-- Cells in the unscheduled buffer, and those of them that came by no link (R146, R148). -/
def bufferCells (s : State) : Nat := sumBy s.aqf.voqs (fun q => q.2.length)
def localCells (s : State) : Nat := sumBy s.aqf.voqs (fun q => (q.2.filter (fun c => c.from_.isNone)).length)

/-- A cell originated here has room: in its queue, in the buffer, and in the 2,560 cells that the links' credits leave. -/
def localRoom (s : State) (dest cls : Nat) : Bool :=
  decide ((voq s dest cls).length < 64) && decide (localCells s < 2560) && decide (bufferCells s < 16384)

/-- A cell originated here and queued, with the next SEQ of its (SRC, DEST, CLASS). -/
def originate (dest cls : Nat) (data : List Byte) (s : State) : State :=
  let k := 32 * dest + cls
  let seq := tgetD s.aqf.seqTx k 0
  let cell : UnschedCell :=
    { dest := dest, src := devId s, cls := cls, ttl := 15, len := data.length, seq := seq, data := data }
  let s := setVoq dest cls (voq s dest cls ++ [cell]) s
  { s with aqf := { s.aqf with seqTx := tput s.aqf.seqTx k ((seq + 1) % 512) } }

/-- MSG_SEND (R149). -/
def opMsgSend (c : Cmd) (dest cls len a : Nat) (img : List Byte) (s : State) : State :=
  hostCmd c 0x0340 true (checked
    (fun s => [
      (decide (1023 < dest), badArg c 24 s), (decide (29 < cls), badArg c 26 s),
      (len == 0 || decide (240 < len), badArg c 27 s), (!c.hostOk, addressError a),
      (!localRoom s dest cls, noResource)])
    (fun s => (replyDone, originate dest cls (hostBytes s a len) s))) (place a img s)

end Sys2Proof.Machine
end

