-- ==== Sys2Proof/Machine/Plans.lean ====
section
/-!
DEFINITION. Slot plans and routes (R132 to R143, R152): loading, swapping and reading plans; defining, verifying and reading
routes; the latency bound; and the estimate of power that the admitted load makes (R414).
-/
namespace Sys2Proof.Machine
open Sys2Proof

/-! ## Pages resident here -/

/-- The participant's copy has not yet been applied, withdrawn or gone LATE. -/
def partLive (p : Page) : Bool :=
  p.part && (p.pst == .loaded || p.pst == .armed || p.pst == .committed || p.pst == .applying)
/-- The coordinator's copy has not yet come to its outcome. -/
def coordLive (p : Page) : Bool := p.coordHere && (p.cst == .collecting || p.cst == .commitSent)
/-- The page is resident: its slot is not free (R96, R97). -/
def resident (p : Page) : Bool := partLive p || coordLive p

/-- Pages whose changes here are still to come, with their slots. -/
def livePages (s : State) : List (Nat × Page) := s.tt.slots.filter (fun p => partLive p.2)
/-- Every change still to come. -/
def liveChanges (s : State) : List Change := (livePages s).flatMap (fun p => p.2.changes)

/-- Load in the read direction that changes acquire: each newly selected source of an active processed flow, but for one its
word reads already (R41, R91). -/
def changeReads (s : State) (l : List Change) : Nat :=
  sumBy l (fun c =>
    match c with
    | .word w true src =>
      if 1024 ≤ w && active (flowD s (wordFlow w)) && !((xp s w).sel && (xp s w).src == src) then flowLoad (flowD s src) else 0
    | _ => 0)

/-- The read direction with what resident pages have acquired (R41, R91). -/
def readTotal (s : State) : Nat := loadRead s + changeReads s (liveChanges s)

def maskNames (n g : Nat) (c : Change) : Bool :=
  match c with
  | .mask l k _ => l == n && k == g
  | _ => false

/-- A resident page names a slot group of a link in a SLOT_MASK entry. -/
def groupNamed (s : State) (n g : Nat) : Bool := s.tt.slots.any (fun p => resident p.2 && p.2.changes.any (maskNames n g))

/-! ## Banks (R132) -/

/-- A byte string as 4-byte words. -/
def words4 : List Byte → List Nat
  | a :: b :: c :: d :: t => leNat [a, b, c, d] :: words4 t
  | _ => []

/-- An entry from its word; FREE and CONTROL entries carry nothing else. -/
def planEntry (w : Nat) : PlanEntry :=
  if bits w 31 30 < 2 then { kind := bits w 31 30 }
  else { kind := bits w 31 30, group := bits w 29 22, label := bits w 21 12, ref := bits w 10 0 }

def planWord (e : PlanEntry) : Nat := e.kind * 2 ^ 30 + e.group * 2 ^ 22 + e.label * 2 ^ 12 + e.ref

/-- A table of 4,096 entries from its words, numbered from `i`; a FREE slot is not listed. -/
def planTable : Nat → List Nat → Tab PlanEntry
  | _, [] => []
  | i, w :: ws => if (planEntry w).kind = 0 then planTable (i + 1) ws else (i, planEntry w) :: planTable (i + 1) ws

/-- A bank from the 32,768-byte record. -/
def planBank (l : List Byte) : PlanBank :=
  { tx := planTable 0 (words4 (l.take 16384)), rx := planTable 0 (words4 ((l.drop 16384).take 16384)), ok := true }

def tableBytes (t : Tab PlanEntry) : List Byte := (List.range 4096).flatMap (fun i => leBytes 4 (planWord (tgetD t i {})))

def bankBytes (b : PlanBank) : List Byte := tableBytes b.tx ++ tableBytes b.rx

def bankOf (l : Link) (i : Nat) : PlanBank := if i = 0 then l.bank0 else l.bank1
def setShadow (l : Link) (b : PlanBank) : Link := if l.active = 0 then { l with bank1 := b } else { l with bank0 := b }

/-- Entries that carry a stream: LOCAL and TRANSIT; an RX entry of KIND CONTROL is FREE. -/
def streams (t : Tab PlanEntry) : Tab PlanEntry := t.filter (fun e => decide (2 ≤ e.2.kind))

/-- Slots of one label, ascending. -/
def labelSlots (t : Tab PlanEntry) (label : Nat) : List Nat := tkeys (streams t) (fun _ e => e.label == label)

/-- A link is committed to a pending swap. -/
def swapPending (s : State) (n : Nat) : Bool := s.aqf.swaps.any (fun w => w.links.contains n)

/-! ## PLAN_LOAD (R133) -/

/-- CONTROL slots: slot 0, at least 64, and gaps of at most 128, the cycle closing on itself. -/
def controlOk (t : Tab PlanEntry) : Bool :=
  let c := tkeys t (fun _ e => e.kind == 1)
  decide (64 ≤ c.length) && (c.zip (c.drop 1 ++ (c.take 1).map (fun x => x + 4096))).all (fun p => decide (p.2 ≤ p.1 + 128))

/-- The first stream entry that another entry of its label contradicts. -/
def labelClash (t : Tab PlanEntry) : Option Nat :=
  ((streams t).find? (fun e => (streams t).any (fun f =>
    f.2.label == e.2.label && !(f.2.kind == e.2.kind && f.2.group == e.2.group && f.2.ref == e.2.ref)))).map Prod.fst

/-- The first LOCAL entry that names no defined flow with ENDPOINT AQF. -/
def badRef (s : State) (ns : Nat) (t : Tab PlanEntry) : Option Nat :=
  (t.find? (fun e => e.2.kind == 2 && !(match flow? s (flowNum ns e.2.ref) with
    | some f => f.endpoint == 2
    | none => false))).map Prod.fst

/-- The first entry of a label with more than 4,032 slots. -/
def overLabel (t : Tab PlanEntry) : Option Nat :=
  ((streams t).find? (fun e => decide (4032 < (labelSlots t e.2.label).length))).map Prod.fst

/-- A group is closed on a link and no resident page names it. -/
def groupFree (s : State) (n g : Nat) : Bool := !(link s n).mask.contains g && !groupNamed s n g

/-- The first TX slot that differs from the active plan while a group concerned is open or named. -/
def badChange (s : State) (n : Nat) (t : Tab PlanEntry) : Option Nat :=
  let a := (activeBank (link s n)).tx
  let ok (e : PlanEntry) := decide (e.kind < 2) || groupFree s n e.group
  ((a.map Prod.fst ++ t.map Prod.fst).find? (fun i =>
    tgetD a i {} != tgetD t i {} && !(ok (tgetD a i {}) && ok (tgetD t i {}))))

/-- The state with a bank loaded as a link's shadow. -/
def loadShadow (n : Nat) (b : PlanBank) (s : State) : State := setLink n (setShadow (link s n) b) s

/-- A refusal at the entry numbered by `o` from a base address, or none. -/
def atEntry (a : Nat) (o : Option Nat) : Bool × Reply := (o.isSome, refusedAt (a + 4 * o.getD 0))

/-- The transit load of the loaded plan fits in each direction. -/
def transitFits (s : State) : Bool := decide (loadWrite s ≤ loadLimit) && decide (readTotal s ≤ loadLimit)

/-- The journal's PLAN record: link, bank, whether the bank is active, the plan record and the group mask (R361). -/
def planRecord (s : State) (n bank : Nat) : List Byte :=
  let l := link s n
  leBytes 1 n ++ leBytes 1 bank ++ leBytes 1 (flag (l.active == bank) 0) ++ zeros 1 ++ bankBytes (bankOf l bank) ++
    leBytes 32 (l.mask.foldl setBit 0)

/-- PLAN_LOAD. -/
def opPlanLoad (c : Cmd) (n a : Nat) (img : List Byte) (s : State) : State :=
  hostCmd c 0x0310 true (checked
    (fun s =>
      let b := planBank (hostBytes s a 32768)
      [(decide (143 < n), badArg c 24 s), (!c.hostOk, addressError a), (swapPending s n, denied),
        ((tgetD b.tx 0 {}).kind != 1, refusedAt a), (!controlOk b.tx, refusedAt a),
        atEntry a (labelClash b.tx), atEntry (a + 16384) (labelClash b.rx),
        atEntry a (badRef s 1 b.tx), atEntry (a + 16384) (badRef s 0 b.rx),
        atEntry a (overLabel b.tx), atEntry (a + 16384) (overLabel b.rx),
        atEntry a (badChange s n b.tx), (!transitFits (loadShadow n b s), refusedAt a)])
    (fun s =>
      let s' := loadShadow n (planBank (hostBytes s a 32768)) s
      (replyDone, journal 0x30 (planRecord s' n (1 - (link s' n).active)) s'))) (place a img s)

/-! ## PLAN_SWAP and PLAN_READ (R135) -/

/-- The fabric cycle in progress (R116). -/
def cycleNow (s : State) : Nat := s.tim.now / 81920

/-- Links that a 32-byte mask names. -/
def maskLinks (l : List Byte) : List Nat := (List.range 256).filter (fun i => bit (leNat l) i)

/-- PLAN_SWAP. -/
def opPlanSwap (c : Cmd) (cycle a : Nat) (img : List Byte) (s : State) : State :=
  let d (s : State) := (cycle % 2 ^ 32 + 2 ^ 32 - cycleNow s % 2 ^ 32) % 2 ^ 32
  let links (s : State) := maskLinks (hostBytes s a 32)
  hostCmd c 0x0311 true (checked
    (fun s => [
      (decide (d s < 2) || decide (2 ^ 31 ≤ d s), replyLate), (decide (2 ^ 24 < d s), badArg c 24 s),
      (!c.hostOk, addressError a),
      ((links s).isEmpty || (links s).any (fun n => decide (143 < n) || !(shadowBank (link s n)).ok), badField a),
      ((links s).any (swapPending s), denied)])
    (fun s =>
      let w : Swap := { cycle := cycleNow s + d s, links := links s, tag := c.tag }
      (accepted, { s with aqf := { s.aqf with swaps := s.aqf.swaps ++ [w] } }))) (place a img s)

/-- PLAN_READ. -/
def opPlanRead (c : Cmd) (n bank a : Nat) : State → State :=
  hostCmd c 0x0312 false (checked
    (fun s => [(decide (143 < n), badArg c 24 s), (decide (1 < bank), badArg c 25 s)])
    (readBack c a (fun s => bankBytes (bankOf (link s n) bank))))

/-! ## Where a device stands on a route (R136) -/

/-- The device reached by hop `i`: the next hop's sender, or the destination. -/
def nextDev (r : Route) (i : Nat) : Nat := (r.hops[i + 1]?.map (fun h => h.dev)).getD (refDev r.dest)

/-- The hop on which this device sends: its index and entry. -/
def outHop (s : State) (r : Route) : Option (Nat × Hop) :=
  ((List.range r.hops.length).find? (fun i => (r.hops[i]?.map (fun h => h.dev)) == some (devId s))).bind
    (fun i => r.hops[i]?.map (fun h => (i, h)))

/-- The hop by which this device is reached. -/
def inHop (s : State) (r : Route) : Option (Nat × Hop) :=
  ((List.range r.hops.length).find? (fun i => nextDev r i == devId s)).bind (fun i => r.hops[i]?.map (fun h => (i, h)))

/-- Slots of a route's stream as this device sends it, and receives it, in the active banks. -/
def outSlots (s : State) (r : Route) : List Nat :=
  match outHop s r with
  | some (_, h) => labelSlots (activeBank (link s h.egress)).tx h.label
  | none => []
def inSlots (s : State) (r : Route) : List Nat :=
  match inHop s r with
  | some (_, h) => labelSlots (activeBank (link s h.rx)).rx h.label
  | none => []

/-- The slot groups in which this device sends a route's stream. -/
def outGroups (s : State) (r : Route) : List (Nat × Nat) :=
  match outHop s r with
  | some (_, h) =>
    ((streams (activeBank (link s h.egress)).tx).filter (fun e => e.2.label == h.label)).map (fun e => (h.egress, e.2.group))
  | none => []

/-- Every route with a stream in a group of a link is VERIFIED at this device (R143). -/
def groupVerified (s : State) (n g : Nat) : Bool :=
  s.aqf.routes.all (fun r => !(outGroups s r.2).contains (n, g) || r.2.st == .verified)

/-- Groups that carry one of this device's own output flows, as `(link, group)`. -/
def flowGroups (s : State) (ix : Nat) : List (Nat × Nat) :=
  s.aqf.links.flatMap (fun l =>
    ((streams (activeBank l.2).tx).filter (fun e => e.2.kind == 2 && e.2.ref == ix)).map (fun e => (l.1, e.2.group)))

/-! ## The swap itself (R135) -/

/-- A route whose slots differ between two states returns to DEFINED and its reservation is released. -/
def redefine (s s' : State) (_ : Nat) (r : Route) : Route :=
  if outSlots s r == outSlots s' r && inSlots s r == inSlots s' r then r
  else { r with st := .defined, reserve := 0, tentative := none }

/-- A link's banks exchanged. -/
def flip (n : Nat) (s : State) : State := setLink n { link s n with active := 1 - (link s n).active } s

/-- One swap takes effect: PLAN_SWAPPED with the cycle of the boundary and the number of links. -/
def swapPlans (c : Nat) (w : Swap) (s : State) : State :=
  let s' := w.links.foldl (fun s n => flip n s) s
  let s' := { s' with aqf := { s'.aqf with
    routes := tmap s'.aqf.routes (redefine s s'), swaps := s'.aqf.swaps.filter (fun x => x != w) } }
  let s' := w.links.foldl (fun s n => journal 0x30 (planRecord s n (link s n).active) s) s'
  raise { src := 0x088, data := [(4, c % 2 ^ 32), (1, w.links.length)], fin := some w.tag } s'

/-! ## The latency bound (R137 to R139) -/

/-- K of a stream and floor(P / 20 ns). -/
def releaseOf (s : State) (f : Flow) : Nat × Nat :=
  if f.essence = 0 then
    (cellsPerLine f.format, rateDen (fmtRate f.format) * 1000000000 / (20 * rateNum (fmtRate f.format) * fmtTotal f.format))
  else if f.essence = 1 then (ceilDiv f.count 8, 6000000000 / (20 * audioRate f.format))
  else
    let r := domRate s f.domain
    (ceilDiv (f.rate * 1000000 * rateDen r) (1920 * rateNum r), rateDen r * 1000000000 / (20 * rateNum r))

/-- Position `j` of a stream in the cyclically repeated plan. -/
def posAt (p : List Nat) (j : Nat) : Nat := p.getD (j % p.length) 0 + 4096 * (j / p.length)

/-- The greatest span(s): it is met just after a stream slot. -/
def maxSpan (p : List Nat) (k : Nat) : Nat :=
  ((List.range p.length).map (fun i => posAt p (i + k) - posAt p i)).foldl max 0

/-- E of a route in ns (R139). -/
def termE (f : Flow) : Nat := if f.essence = 0 then linesNs f.format (f.depth - 2) else 20000

/-- The departure slot paired with arrival slot `a`, as a distance in slots: the first at `600 + F` ns or more. -/
def pairDist (b : List Nat) (flight : Int) (a : Nat) : Option Nat :=
  ((List.range 4096).find? (fun d => decide (600 + flight ≤ ((20 * d : Nat) : Int)) && b.contains ((a + d) % 4096)))

/-- The distances of a pairing, if every arrival has its own departure. -/
def pairing (a b : List Nat) (flight : Int) : Option (List Nat) :=
  let d : List (Option Nat) := a.map (pairDist b flight)
  if d.all (fun x => x.isSome) then
    let l := d.map (fun x => x.getD 0)
    let b' : List Nat := (a.zip l).map (fun p => (p.1 + p.2) % 4096)
    if b'.Nodup then some l else none
  else none

/-- Transit cells reserved: 1 + ceil(N × X / 81,920 ns). -/
def transitReserve (n x : Nat) : Nat := 1 + ceilDiv (n * x) 81920

/-- Reservations of the other routes. -/
def reservedBut (s : State) (feeder : Nat) : Nat := sumBy (s.aqf.routes.filter (fun r => r.1 != feeder)) (fun r => r.2.reserve)

/-- Positions as the 16-bit numbers that POS_CRC covers. -/
def posCrc (p : List Nat) : Nat := crc32c (p.flatMap (leBytes 2))

/-! ## Messages (R142) -/

def routeMsgBytes (m : RouteMsg) : List Byte :=
  leBytes 4 m.feeder ++ leBytes 4 m.dest ++ leBytes 1 m.hop ++ leBytes 1 m.essence ++ leBytes 2 m.format ++
    leBytes 1 m.colour ++ leBytes 1 (m.rate * 16 + m.domain) ++ leBytes 2 m.n ++ leBytes 4 m.phase ++ leBytes 4 m.posCrc ++
    leBytes 4 m.b ++ leBytes 4 m.srcTerm ++ padTo 60 (m.terms.flatMap (leBytes 4)) ++ zeros 132

def parseRouteMsg (p : List Byte) : RouteMsg :=
  { feeder := fieldAt p 0 4, dest := fieldAt p 4 4, hop := fieldAt p 8 1, essence := fieldAt p 9 1, format := fieldAt p 10 2
    colour := fieldAt p 12 1, rate := fieldAt p 13 1 / 16, domain := fieldAt p 13 1 % 8, n := fieldAt p 14 2
    phase := fieldAt p 16 4, posCrc := fieldAt p 20 4, b := fieldAt p 24 4, srcTerm := fieldAt p 28 4
    terms := (words4 (slice p 32 60)) }

/-- The egress links of a route from its feeder on. -/
def forwardLinks (r : Route) : List Nat := r.hops.map (fun h => h.egress)
/-- The links of the reverse route from the device reached by hop `i` (R136). -/
def reverseLinks (r : Route) (i : Nat) : List Nat := ((r.hops.take (i + 1)).map (fun h => h.rx)).reverse

def route? (s : State) (feeder : Nat) : Option Route := tget? s.aqf.routes feeder
def setRoute (feeder : Nat) (r : Route) (s : State) : State := { s with aqf := { s.aqf with routes := tput s.aqf.routes feeder r } }

def routeCode (x : RouteSt) : Nat :=
  match x with
  | .defined => 0
  | .verifying => 1
  | .verified => 2
  | .refused => 3
  | .stale => 4

/-! ## ROUTE_DEFINE, ROUTE_DELETE, ROUTE_STATUS (R136, R141, R152) -/

def parseHop (l : List Byte) : Hop :=
  let w := leNat l
  { dev := bits w 57 48, egress := bits w 47 40, rx := bits w 39 32, label := bits w 9 0 }

/-- The hops of a route record at a host address. -/
def recordHops (s : State) (a : Nat) : List Hop :=
  (List.range (fieldAt (hostBytes s (a + 8) 1) 0 1)).map (fun i => parseHop (hostBytes s (a + 16 + 8 * i) 8))

/-- The route record of a route (R136). -/
def routeRecord (feeder : Nat) (r : Route) : List Byte :=
  leBytes 4 feeder ++ leBytes 4 r.dest ++ leBytes 1 r.hops.length ++ zeros 7 ++
    r.hops.flatMap (fun h => leBytes 8 (h.dev * 2 ^ 48 + h.egress * 2 ^ 40 + h.rx * 2 ^ 32 + h.label))

/-- The ROUTE record of the journal: the route record with its state, reservation and terms (R361). -/
def routeJournal (feeder : Nat) (r : Route) : List Byte :=
  padTo 136 (routeRecord feeder r) ++ leBytes 1 (routeCode r.st) ++ leBytes 1 r.reason ++ leBytes 1 r.refHop ++ zeros 1 ++
    leBytes 4 r.b ++ leBytes 4 r.latency ++ leBytes 4 r.verifyTs ++ leBytes 4 r.srcTerm ++ padTo 60 (r.terms.flatMap (leBytes 4)) ++
    leBytes 4 r.n ++ leBytes 4 r.reserve ++ leBytes 4 (ofSigned 32 r.usedFlight) ++ leBytes 4 r.slack

/-- A route stored and journalled. -/
def keepRoute (feeder : Nat) (r : Route) (s : State) : State := journal 0x31 (routeJournal feeder r) (setRoute feeder r s)

/-- A hop's fields lie in range and its device follows the chain from the feeder. -/
def badHop (feeder : Nat) (h : List Hop) : Option Nat :=
  (List.range h.length).find? (fun i =>
    let x := h.getD i {}
    decide (143 < x.egress) || decide (143 < x.rx) || (i == 0 && x.dev != refDev feeder))

/-- ROUTE_DEFINE. -/
def opRouteDefine (c : Cmd) (a : Nat) (img : List Byte) (s : State) : State :=
  let feeder (s : State) := fieldAt (hostBytes s a 4) 0 4
  let dest (s : State) := fieldAt (hostBytes s (a + 4) 4) 0 4
  let hops (s : State) := recordHops s a
  let key (s : State) := flowRef 1 (refDev (feeder s)) (refIx (feeder s))
  hostCmd c 0x0320 true (checked
    (fun s => [
      (!c.hostOk, addressError a), (refNs (feeder s) != 1, badField a), (refNs (dest s) != 0, badField (a + 4)),
      ((hops s).isEmpty || decide (15 < (hops s).length), badField (a + 8)),
      ((badHop (feeder s) (hops s)).isSome, badField (a + 16 + 8 * (badHop (feeder s) (hops s)).getD 0)),
      (!(hops s).any (fun h => h.dev == devId s) && refDev (dest s) != devId s, badField (a + 16)),
      ((route? s (key s)).isSome, denied), (decide (2048 ≤ s.aqf.routes.length), noResource)])
    (fun s =>
      (replyDone, keepRoute (key s) { dest := flowRef 0 (refDev (dest s)) (refIx (dest s)), hops := hops s } s)))
    (place a img s)

/-- A group that carries a route is open, or a resident page names it. -/
def routeInUse (s : State) (r : Route) : Bool := (outGroups s r).any (fun g => !groupFree s g.1 g.2)

/-- ROUTE_DELETE. -/
def opRouteDelete (c : Cmd) (feeder : Nat) : State → State :=
  hostCmd c 0x0321 true (checked
    (fun s => [
      ((route? s feeder).isNone, badArg c 24 s),
      ((match route? s feeder with | some r => routeInUse s r | none => false), denied)])
    (fun s =>
      let s' := { s with aqf := { s.aqf with routes := tdel s.aqf.routes feeder } }
      (replyDone, journal 0x31 (leBytes 4 feeder) s')))

/-- The 96 bytes of ROUTE_STATUS. -/
def routeStatus (feeder : Nat) (r : Route) : List Byte :=
  leBytes 4 feeder ++ leBytes 4 r.dest ++ leBytes 1 (routeCode r.st) ++ leBytes 1 r.reason ++ leBytes 1 r.refHop ++
    leBytes 1 r.hops.length ++ leBytes 4 r.b ++ leBytes 4 r.latency ++ leBytes 4 r.verifyTs ++ leBytes 4 r.srcTerm ++ zeros 4 ++
    padTo 60 (r.terms.flatMap (leBytes 4)) ++ zeros 4

/-- ROUTE_STATUS. -/
def opRouteStatus (c : Cmd) (feeder a : Nat) : State → State :=
  hostCmd c 0x0323 false (checked
    (fun s => [((route? s feeder).isNone, badArg c 24 s)])
    (readBack c a (fun s => match route? s feeder with | some r => routeStatus feeder r | none => [])))

/-! ## ROUTE_VERIFY (R140) -/

/-- A route refused at this device: what it holds is released. -/
def refuseRoute (feeder reason hop : Nat) (r : Route) (s : State) : State :=
  keepRoute feeder { r with
    st := .refused, reason := reason, refHop := hop, reserve := 0, tentative := none, verify := none
    verifyTs := ts32 s.tim.now } s

/-- The first failing check of the feeder, as a REASON code (R140 step 1). -/
def feederReason (s : State) (feeder : Nat) (r : Route) : Option Nat :=
  let p := outSlots s r
  match flow? s (refFlow feeder), outHop s r with
  | some f, some (0, h) =>
    let e := tgetD (activeBank (link s h.egress)).tx (p.headD 0) {}
    let k := releaseOf s f
    if f.endpoint != 2 || p.isEmpty || e.kind != 2 || e.ref != refIx feeder then some 1
    else if k.2 < 1 + maxSpan p k.1 then some 2 else none
  | _, _ => some 1

/-- The ROUTE_CHECK that the feeder sends. -/
def firstCheck (s : State) (feeder : Nat) (r : Route) : RouteMsg :=
  let f := flowD s (refFlow feeder)
  let p := outSlots s r
  let t := termE f + 20 * (1 + maxSpan p (releaseOf s f).1)
  { feeder := feeder, dest := r.dest, hop := 0, essence := f.essence, format := f.format, colour := f.colour
    rate := domRate s f.domain, domain := f.domain, n := p.length, phase := domPhase s f.domain, posCrc := posCrc p
    b := t, srcTerm := t }

/-- ROUTE_VERIFY. -/
def opRouteVerify (c : Cmd) (feeder : Nat) : State → State :=
  hostCmd c 0x0322 true (checked
    (fun s => [
      ((route? s feeder).isNone, badArg c 24 s),
      (refDev feeder != devId s || (match route? s feeder with | some r => r.st == .verifying | none => false), denied)])
    (fun s =>
      let r := (route? s feeder).getD {}
      match feederReason s feeder r with
      | some why =>
        (accepted, raise { src := 0x08A, data := [(4, feeder), (1, why), (1, 0)], fin := some c.tag }
          (refuseRoute feeder why 0 r s))
      | none =>
        let m := firstCheck s feeder r
        let r' := { r with st := .verifying, reason := 0, refHop := 0xFF, verify := some (c.tag, s.tim.now)
                           n := m.n, srcTerm := m.srcTerm }
        (accepted, sendRouted (refDev r.dest) 10 true (forwardLinks r) (routeMsgBytes m) (keepRoute feeder r' s))))

/-- A ROUTE_RESULT sent from the device reached by hop `i` along the reverse route: 0 verified, 1 refused. -/
def sendResult (i res reason hop : Nat) (r : Route) (m : RouteMsg) (s : State) : State :=
  sendRouted (refDev m.feeder) 11 true (reverseLinks r i)
    (routeMsgBytes { m with
      hop := i, essence := res, format := hop * 256 + reason }) s

/-- A refusal at the device reached by hop `i` (R140, R142). -/
def refuseAt (i reason : Nat) (r : Route) (m : RouteMsg) (s : State) : State :=
  sendResult i 1 reason (i + 1) r m (refuseRoute m.feeder reason (i + 1) { r with b := m.b, srcTerm := m.srcTerm } s)

/-- The result of a transit device's checks (R140 step 2): a REASON, or its queue's term Xᵢ and new POS_CRC. -/
def transitCheck (s : State) (i : Nat) (r : Route) (m : RouteMsg) : Nat ⊕ (Nat × Nat) :=
  match r.hops[i]?, r.hops[i + 1]? with
  | some h, some g =>
    let rx := (activeBank (link s h.rx)).rx
    let tx := (activeBank (link s g.egress)).tx
    let a := labelSlots rx h.label
    let b := labelSlots tx g.label
    let ea := tgetD rx (a.headD 0) {}
    let eb := tgetD tx (b.headD 0) {}
    if g.dev != devId s then .inl 9
    else if a.isEmpty || b.isEmpty || ea.kind != 3 || eb.kind != 3 || ea.ref != eb.ref || a.length != m.n || b.length != m.n then .inl 1
    else if posCrc a != m.posCrc then .inl 7
    else
      match pairing a b (link s h.rx).flight with
      | none => .inl 3
      | some d =>
        let x := 20 * d.foldl max 0
        if 24576 < reservedBut s m.feeder + transitReserve m.n x then .inl 4 else .inr (x, posCrc b)
  | _, _ => .inl 9

/-- The first failing check of the destination (R140 step 3), with B before it is judged. -/
def destReason (s : State) (i : Nat) (r : Route) (m : RouteMsg) (b : Nat) : Option Nat :=
  match r.hops[i]? with
  | none => some 9
  | some h =>
    let rx := (activeBank (link s h.rx)).rx
    let a := labelSlots rx h.label
    let e := tgetD rx (a.headD 0) {}
    match flow? s (refFlow r.dest) with
    | none => some 1
    | some f =>
      if a.isEmpty || e.kind != 2 || e.ref != refIx r.dest || a.length != m.n then some 1
      else if f.endpoint != 2 || flowRef (refNs f.feeder) (refDev f.feeder) (refIx f.feeder) != m.feeder then some 6
      else if posCrc a != m.posCrc then some 7
      else if f.essence != m.essence || f.format != m.format || f.colour != m.colour || f.domain != m.domain ||
          domRate s f.domain != m.rate || domPhase s f.domain != m.phase then some 6
      else if f.latency < b then some 5 else none

/-- Terms with entry `i` set. -/
def setTerm (l : List Nat) (i v : Nat) : List Nat := (l ++ List.replicate (15 - l.length) 0).set i v

/-- A ROUTE_CHECK at the device reached by hop `m.hop`; `cell` is the cell to forward, already counted onto its next hop. -/
def routeCheckAt (n : Nat) (m : RouteMsg) (cell : CtrlCell) (s : State) : State :=
  match route? s m.feeder with
  | none => discard n s
  | some r =>
    let i := m.hop
    let fl := (link s ((r.hops.getD i {}).rx)).flight
    if i + 1 < r.hops.length then
      match transitCheck s i r m with
      | .inl why => refuseAt i why r m s
      | .inr (x, crc) =>
        let r' := { r with
          st := .verifying, reason := 0, refHop := 0xFF, n := m.n, b := m.b + x, srcTerm := m.srcTerm
          terms := setTerm m.terms i x, reserve := transitReserve m.n x, tentative := some (s.tim.now + 20000000)
          usedFlight := fl, slack := ((x : Int) - 600 - fl).toNat / 20 * 20 }
        let m' := { m with hop := i + 1, b := m.b + x, posCrc := crc, terms := setTerm m.terms i x }
        sendOn ((r.hops.getD (i + 1) {}).egress) { cell with msg := routeMsgBytes m' } (keepRoute m.feeder r' s)
    else
      let t := (600 + fl).toNat
      let b := m.b + t
      let m' := { m with b := b, terms := setTerm m.terms i t }
      match destReason s i r m b with
      | some why => refuseAt i why r m' s
      | none =>
        let lat := (flowD s (refFlow r.dest)).latency
        let r' := { r with
          st := .verified, reason := 0, refHop := 0xFF, n := m.n, b := b, latency := lat, srcTerm := m.srcTerm
          terms := m'.terms, verifyTs := ts32 s.tim.now, usedFlight := fl, slack := lat - b }
        sendResult i 0 0 0xFF r' m' (keepRoute m.feeder r' s)

/-- The control cell that carries a route's message over hop `i`, as it stands at the device it reaches. -/
def routeCell (r : Route) (feeder i ctype : Nat) (links : List Nat) (dest : Nat) : CtrlCell :=
  { dest := dest, src := refDev feeder, ctype := ctype, hop := i + 1, hops := r.hops.length, visit := true, route := links }

/-- ROUTE_CHECK_RX. -/
def opRouteCheckRx (n : Nat) (m : RouteMsg) (s : State) : State :=
  let r := (route? s m.feeder).getD {}
  routeCheckAt n m (routeCell r m.feeder m.hop 10 (forwardLinks r) (refDev r.dest)) s

/-- A route's result at this device: at the feeder it ends ROUTE_VERIFY. -/
def takeResult (m : RouteMsg) (s : State) : State :=
  match route? s m.feeder with
  | none => s
  | some r =>
    let why := m.format % 256
    let hop := m.format / 256
    let good := m.essence == 0
    let r' := { r with b := m.b, srcTerm := m.srcTerm, terms := m.terms, verifyTs := ts32 s.tim.now }
    if refDev m.feeder = devId s then
      match r.verify with
      | none => s
      | some (tag, _) =>
        if good then
          raise { src := 0x089, data := [(4, m.feeder), (4, m.b)], fin := some tag }
            (keepRoute m.feeder { r' with st := .verified, reason := 0, refHop := 0xFF, verify := none } s)
        else
          raise { src := 0x08A, data := [(4, m.feeder), (1, why), (1, hop)], fin := some tag }
            (refuseRoute m.feeder why hop r' s)
    else if r.st == .verifying then
      if good then keepRoute m.feeder { r' with st := .verified, reason := 0, refHop := 0xFF, tentative := none } s
      else refuseRoute m.feeder why hop r' s
    else s

/-- ROUTE_RESULT_RX: acted on here and passed on towards the feeder. -/
def opRouteResultRx (n : Nat) (m : RouteMsg) (s : State) : State :=
  match route? s m.feeder with
  | none => discard n s
  | some r =>
    let s := takeResult m s
    if refDev m.feeder = devId s then s
    else
      match inHop s r with
      | none => s
      | some (i, h) => sendOn h.rx
          { routeCell r m.feeder i 11 (reverseLinks r i) (refDev m.feeder) with
            hop := 0, hops := i + 1, msg := routeMsgBytes { m with hop := i } } s

/-- ROUTE_VERIFY_TIMEOUT: no result within 10 ms. -/
def opRouteVerifyTimeout (feeder : Nat) (s : State) : State :=
  match route? s feeder with
  | none => s
  | some r =>
    match r.verify with
    | none => s
    | some (tag, t) =>
      let s := atLeast (t + 10000000) s
      raise { src := 0x08A, data := [(4, feeder), (1, 8), (1, 0xFF)], fin := some tag } (refuseRoute feeder 8 0xFF r s)

/-- ROUTE_RESERVATION_EXPIRY: a tentative reservation is released 20 ms after its check. -/
def opRouteReservationExpiry (feeder : Nat) (s : State) : State :=
  match route? s feeder with
  | none => s
  | some r =>
    match r.tentative with
    | none => s
    | some t => keepRoute feeder { r with st := .defined, reserve := 0, tentative := none } (atLeast t s)

/-! ## Estimated power (R414) -/

/-- An output flow that the switching term leaves out: its word holds SEL = 0, or its stream's groups are all closed. -/
def quietOut (s : State) (n : Nat) (f : Flow) : Bool :=
  (f.essence != 1 && !(xp s (outWord (ixOf n))).sel) ||
    (f.endpoint == 2 && (flowGroups s (ixOf n)).all (fun g => !(link s g.1).mask.contains g.2))

/-- Open transit slots of the active banks, received and sent: a queue whose groups are closed carries nothing. -/
def openTransit (s : State) : Nat × Nat :=
  let open_ := s.aqf.links.flatMap (fun l =>
    ((activeBank l.2).tx.filter (fun e => e.2.kind == 3 && l.2.mask.contains e.2.group)).map (fun e => e.2.ref))
  (sumBy s.aqf.links (fun l => tcount (activeBank l.2).rx (fun _ e => e.kind == 3 && open_.contains e.ref)), open_.length)

/-- The switching load of R414: the admitted load without what carries nothing. -/
def powerLoad (s : State) : Nat :=
  sumBy (s.flows.filter (fun p => active p.2 && (nsOf p.1 != 1 || matrixFed p.1 p.2))) (fun p => flowLoad p.2) +
    sumBy (s.flows.filter (fun p => active p.2 && nsOf p.1 == 1 && !quietOut s p.1 p.2)) (fun p => flowLoad p.2) +
    sumBy (s.flows.filter (fun p => active p.2 && nsOf p.1 == 0 && p.2.essence == 1)) (fun p => flowLoad p.2) +
    sumBy (activeProcs s) (fun p => engineReads s (ixOf p.1)) + perCycle (openTransit s).1 + perCycle (openTransit s).2

/-- P_est in 0.01 W. -/
def estPower (s : State) : Nat :=
  let k (i : Nat) := s.pwr.coef.getD i 0
  10 * k 0 + k 1 * powerLoad s / 100000 + k 2 * sumBy (activeProcs s) (fun p => (proc s (ixOf p.1)).cycles) / 1000 +
    k 3 * storeBw s 0 / 100000 + k 4 * storeBw s 1 / 10000

end Sys2Proof.Machine
end

