-- ==== Sys2Proof/Machine/Pages.lean ====
section
/-!
DEFINITION. Timetable pages (R85 to R104): what a page changes, its checks and admission, run-ahead, and the commit protocol
with its messages, resends and outcomes.
-/
namespace Sys2Proof.Machine
open Sys2Proof

/-! ## Times of a page -/

def pageT (s : State) (p : Page) : Nat := tOf s p.dom p.actN
/-- The guard: T(ACT_FI) − 100 µs. -/
def guardOf (s : State) (p : Page) : Nat := pageT s p - 100000
/-- `k` frame periods of a domain in ns, rounded up. -/
def framesNs (s : State) (d k : Nat) : Nat := ceilDiv (k * rateDen (domRate s d) * 1000000000) (rateNum (domRate s d))
/-- The arm deadline: T(ACT_FI) − ARM_LEAD × FP, in whole ns. -/
def deadlineOf (s : State) (p : Page) : Nat := pageT s p - framesNs s p.dom p.lead
/-- Evaluation: T(ACT_FI) + 1 FP. -/
def evalOf (s : State) (p : Page) : Nat := pageT s p + framesNs s p.dom 1
/-- T(ACT_FI) + FP / 2, at which slot groups close (R105). -/
def halfOf (s : State) (p : Page) : Nat :=
  pageT s p + ceilDiv (rateDen (domRate s p.dom) * 1000000000) (2 * rateNum (domRate s p.dom))

def page (s : State) (slot : Nat) : Page := tgetD s.tt.slots slot {}
def setPage (slot : Nat) (p : Page) (s : State) : State := { s with tt := { s.tt with slots := tput s.tt.slots slot p } }

/-- The slot of a resident page. -/
def pageSlot (s : State) (id : Nat) : Option Nat :=
  (s.tt.slots.find? (fun p => p.2.id == id && resident p.2)).map Prod.fst
/-- The slot of the page last held under a PAGE_ID. -/
def lastSlot (s : State) (id : Nat) : Option Nat :=
  match pageSlot s id with
  | some n => some n
  | none => (s.tt.slots.find? (fun p => p.2.id == id)).map Prod.fst

/-- SWC_TT_CFG.TT_EN. -/
def ttEn (s : State) : Bool := bit (rd s .swcTtCfg 0) 0

/-! ## What a page changes (R31, R87, R105) -/

def consist? (s : State) (n : Nat) : Option Consist := tget? s.consists n
def fillOf (e : PageEntry) : Bool := if e.type = 1 then bit e.arg 0 else bit e.arg 4
/-- RAMP of an entry: 0 means 240 samples. -/
def rampOf (n : Nat) : Nat := if n = 0 then 240 else n

/-- TX_OFFSET_NS of a video output flow's egress port (R170, R183). -/
def txOffset (s : State) (f : Flow) : Nat :=
  if f.endpoint = 0 then (tgetD s.svp.tx f.port {}).txOffset
  else if f.endpoint = 1 then fieldAt f.params 8 4 else 0

/-- From T(ACT_FI) to the wire switching line of a destination consist's video member, or 0 without one (R105, R170); of a
quad the member VIDEO_Q0 stands for it. -/
def takeOff (s : State) (d : Consist) : Nat :=
  match d.members.find? (fun m => decide (m.1 < 2)) with
  | some (_, n) => linesNs (flowD s n).format (6 + (flowD s n).depth) + txOffset s (flowD s n)
  | none => 0

/-- The changes of one member pair of a CONSIST_TAKE. -/
def pairChanges (s : State) (ramp off dst src : Nat) : List Change :=
  let f := flowD s dst
  if f.essence = 1 then
    (List.range f.count).map (fun i => .audio (f.base + i) ((flowD s src).base + i) 0 ramp off true)
  else [.word (outWord (ixOf dst)) true src]

/-- The changes an entry makes; those of a CONSIST_TAKE are the member changes it expands to. -/
def entryChanges (s : State) (e : PageEntry) : List Change :=
  match e.type with
  | 1 => [.word (outWord (ixOf e.target)) (!fillOf e) (if fillOf e then 0 else normFlow (e.source % 65536))]
  | 2 =>
    match consist? s (e.target % 256), consist? s (e.source % 256) with
    | some d, some c =>
      d.members.flatMap (fun m =>
        match c.members.find? (fun x => x.1 == m.1) with
        | some x => pairChanges s (rampOf (e.arg % 65536)) (takeOff s d) m.2 x.2
        | none => [])
    | _, _ => []
  | 3 => [.word (pfWord (ixOf e.target) (e.arg % 16)) (!fillOf e) (if fillOf e then 0 else normFlow (e.source % 65536))]
  | 4 => [.audio (e.target % 32768) (e.source % 32768) (e.arg % 65536) (rampOf (bits e.arg 31 16)) 0 false]
  | 5 => [.mask e.target (e.source % 256) (bit e.arg 0)]
  | 6 => [.param (ixOf e.target) (e.source % 8)]
  | _ => []

/-- What a change changes, for R88 and R280. -/
def changeKey (c : Change) : Nat × Nat × Nat :=
  match c with
  | .word w _ _ => (0, w, 0)
  | .audio o i _ _ _ _ => (1, o, i)
  | .param p _ => (2, p, 0)
  | .mask l g _ => (3, l, g)

def isWrite (c : Change) : Bool :=
  match c with
  | .word _ _ _ => true
  | .param _ _ => true
  | _ => false
def isAudio (c : Change) : Bool := (changeKey c).1 == 1
def isTake (c : Change) : Bool :=
  match c with
  | .audio _ _ _ _ _ t => t
  | _ => false

/-- A resident page changes a crosspoint word. -/
def wordNamed (s : State) (w : Nat) : Bool := (liveChanges s).any (fun c => changeKey c == (0, w, 0))
/-- A resident page changes an audio crosspoint, or its output channel through a CONSIST_TAKE (R281). -/
def audioNamed (s : State) (o i : Nat) : Bool :=
  (liveChanges s).any (fun c => changeKey c == (1, o, i) || (isTake c && (changeKey c).2.1 == o))
/-- A resident page names a parameter set in a PROC_PARAM entry (R244). -/
def setNamed (s : State) (pf k : Nat) : Bool := (liveChanges s).any (fun c => c == .param pf k)

/-- A resident page names a consist (R32). -/
def consistNamed (s : State) (n : Nat) : Bool :=
  (livePages s).any (fun p => p.2.entries.any (fun e => e.type == 2 && (e.target % 256 == n || e.source % 256 == n)))

/-- The flows a change names: the flow of its word and the source selected, the owners of its audio channels, or the
processed flow. -/
def changeFlows (s : State) (c : Change) : List Nat :=
  match c with
  | .word w sel src => wordFlow w :: (if sel then [src] else [])
  | .audio o i _ _ _ _ => ((ownerOut s o).map Prod.fst).toList ++ ((ownerIn s i).map Prod.fst).toList
  | .param p _ => [flowNum 2 p]
  | .mask _ _ _ => []

/-- A resident page not yet applied or withdrawn names a flow (R22). -/
def flowNamed (s : State) (n : Nat) : Bool := (liveChanges s).any (fun c => (changeFlows s c).contains n)

/-! ## The checks of R88 -/

/-- A flow is LOCKED to a domain. -/
def lockedTo (s : State) (n d : Nat) : Bool :=
  match flow? s n with
  | some f => f.locked && f.domain == d
  | none => false

/-- SOURCE of an XP or PF_INPUT entry: a flow number of an input or processed flow, or 0 when FILL. -/
def badSource (e : PageEntry) : Bool :=
  let n := e.source % 65536
  if fillOf e then n != 0 else !(flowNumOk n && (nsOf n == 0 || nsOf n == 2))

/-- The offset, within an entry, of its first field that R88 refuses. -/
def entryBad (s : State) (d : Nat) (e : PageEntry) : Option Nat :=
  let tgt := normFlow e.target
  match e.type with
  | 0 => if e.target ≠ 0 then some 2 else if e.source ≠ 0 then some 4 else if e.arg ≠ 0 then some 8 else none
  | 1 =>
    if nsOf e.target != 1 || !lockedTo s tgt d || (flowD s tgt).essence == 1 then some 2
    else if badSource e then some 4 else none
  | 2 =>
    match consist? s (e.target % 256), consist? s (e.source % 256) with
    | some x, some y =>
      if x.kind != 1 || x.members.any (fun m => !lockedTo s m.2 d) then some 2
      else if y.kind != 0 then some 4 else if 1024 < e.arg % 65536 then some 8 else none
    | none, _ => some 2
    | _, none => some 4
  | 3 =>
    if nsOf e.target != 2 || !flowNumOk e.target || !lockedTo s tgt d then some 2
    else if badSource e then some 4 else none
  | 4 =>
    match ownerOut s (e.target % 32768) with
    | none => some 2
    | some (n, _) =>
      if !lockedTo s n d then some 2
      else if matrixChannels s ≤ e.source % 32768 then some 4
      else if 1024 < bits e.arg 31 16 || !gainOk (e.arg % 65536) then some 8 else none
  | 5 => if 143 < e.target then some 2 else none
  | 6 =>
    if nsOf e.target != 2 || !flowNumOk e.target || !lockedTo s tgt d then some 2
    else if e.arg ≠ 0 then some 8 else none
  | _ => some 0

/-- The first entry that changes what an earlier entry changes: `seen` holds the keys so far. -/
def firstDup (s : State) : Nat → List (Nat × Nat × Nat) → List PageEntry → Option Nat
  | _, _, [] => none
  | i, seen, e :: es =>
    let k := (entryChanges s e).map changeKey
    if k.any (fun x => seen.contains x) then some i else firstDup s (i + 1) (k ++ seen) es

/-! ## Admission (R91, R92, R143, R244, R274, R277, R280) -/

/-- A destination consist holds the flow. -/
def inDestConsist (s : State) (n : Nat) : Bool := s.consists.any (fun c => c.2.kind == 1 && c.2.members.any (fun m => m.2 == n))

/-- Changes of the other resident pages of one boundary. -/
def sameBoundary (s : State) (d n : Nat) : List Change :=
  ((livePages s).filter (fun p => p.2.dom == d && p.2.actN == n)).flatMap (fun p => p.2.changes)

/-- An audio change meets one of another page of the same boundary (R280). -/
def audioClash (l : List Change) (o i : Nat) (take_ : Bool) : Bool :=
  l.any (fun c => changeKey c == (1, o, i) || (isAudio c && (changeKey c).2.1 == o && (take_ || isTake c)))

/-- One member pair of a take is admitted (R24, R83, R274, R284). -/
def pairOk (s : State) (d n dst src : Nat) : Bool :=
  let f := flowD s dst
  let x := flowD s src
  if f.essence = 1 then
    isSource s src && essenceMatch x 1 f.format f.colour f.count f.domain true &&
      (List.range f.count).all (fun i =>
        audioXpOk s (f.base + i) (x.base + i) 0 [] && !audioClash (sameBoundary s d n) (f.base + i) (x.base + i) true)
  else selOutOk s dst src

/-- The offset, within an entry, of the field for which R91 refuses it. An AUDIO_XP on a channel of an audio member of a
destination consist is admitted: R31 refuses a take of one member, and AUDIO_XP takes no flow (DESIGN CHOICE,
notes/assumptions/129.md). -/
def entryRefused (s : State) (d n : Nat) (e : PageEntry) : Option Nat :=
  let tgt := normFlow e.target
  let src := normFlow (e.source % 65536)
  match e.type with
  | 1 => if inDestConsist s tgt then some 2 else if !fillOf e && !selOutOk s tgt src then some 4 else none
  | 2 =>
    match consist? s (e.target % 256), consist? s (e.source % 256) with
    | some x, some y =>
      if x.division == y.division && x.members.all (fun m =>
          match y.members.find? (fun z => z.1 == m.1) with
          | some z => pairOk s d n m.2 z.2
          | none => false) then none else some 4
    | _, _ => some 4
  | 3 => if !fillOf e && !selPfOk s tgt (e.arg % 16) src then some 4 else none
  | 4 =>
    let o := e.target % 32768
    let i := e.source % 32768
    if audioClash (sameBoundary s d n) o i false || !audioXpOk s o i (e.arg % 65536) (xpsOf s o) then some 4 else none
  | 5 => if bit e.arg 0 && !groupVerified s e.target (e.source % 256) then some 2 else none
  | 6 => if (tget? (proc s (ixOf e.target)).sets (e.source % 8)).isNone then some 4 else none
  | _ => none

/-- Crosspoints that changes add: pairs not active now. -/
def addedXps (s : State) (l : List Change) : List (Nat × Nat) :=
  (l.filterMap (fun c =>
    match c with
    | .audio o i g _ _ _ => if g != 0x8000 && !(xpsOf s o).any (fun x => x.inp == i) then some (o, i) else none
    | _ => none)).eraseDups

/-- The crosspoint limits of R277 hold with changes added: in all, and 256 on each output channel. -/
def xpsFit (s : State) (l : List Change) : Bool :=
  let a := addedXps s l
  decide (activeXps s + a.length ≤ xpLimit s) &&
    a.all (fun p => decide ((xpsOf s p.1).length + (a.filter (fun q => q.1 == p.1)).length ≤ 256))

/-- The budgets of R91 and R92 hold for the page's changes so far, with every other resident page assumed to apply. -/
def changesFit (s : State) (d n : Nat) (l : List Change) : Bool :=
  let b := sameBoundary s d n ++ l
  decide ((b.filter isWrite).length ≤ 4096) && decide ((b.filter isAudio).length ≤ 4096) &&
    decide (readTotal s + changeReads s l ≤ loadLimit) && xpsFit s (liveChanges s ++ l)

/-- The first refused entry and field: `acc` holds the changes of the entries before. -/
def firstRefused (s : State) (d n : Nat) : Nat → List Change → List PageEntry → Option (Nat × Nat)
  | _, _, [] => none
  | i, acc, e :: es =>
    match entryRefused s d n e with
    | some f => some (i, f)
    | none =>
      let acc := acc ++ entryChanges s e
      if changesFit s d n acc then firstRefused s d n (i + 1) acc es else some (i, 0)

/-! ## Parsing a page (R85, R86) -/

/-- Entries of 16 bytes. -/
def parseEntries : Nat → List Byte → List PageEntry
  | 0, _ => []
  | n + 1, l =>
    { type := fieldAt l 0 1, target := fieldAt l 2 2, source := fieldAt l 4 4, arg := fieldAt l 8 8 } ::
      parseEntries n (l.drop 16)

/-- The devices that a participant map names. -/
def mapDevices (l : List Byte) : List Nat := (List.range 1024).filter (fun d => bit (leNat l) d)
/-- The map of a set of devices. -/
def deviceMap (l : List Nat) : List Byte := leBytes 128 (l.foldl setBit 0)

/-- A page from its bytes: header and entries, the effective ARM_LEAD and the full activation frame. -/
def parsePage (s : State) (a : Nat) (l : List Byte) : Page :=
  let d := fieldAt l 12 1 % 8
  let dflt := if fld s .swcTtCfg 0 15 8 = 0 then 2 else fld s .swcTtCfg 0 15 8
  let act := fieldAt l 8 4
  { id := fieldAt l 0 4, coord := fieldAt l 4 2 % 1024, actFi := act
    actN := fiNow s d + (act + 2 ^ 32 - fiNow s d % 2 ^ 32) % 2 ^ 32, dom := d
    lead := if fieldAt l 13 1 = 0 then dflt else fieldAt l 13 1
    localOnly := bit (fieldAt l 14 1) 0, parts := mapDevices (slice l 32 128)
    entries := parseEntries (fieldAt l 6 2) (l.drop 192), addr := a }

/-- The bytes of a page, for the journal's PAGE record (R361). -/
def pageBytes (p : Page) : List Byte :=
  leBytes 4 p.id ++ leBytes 2 p.coord ++ leBytes 2 p.entries.length ++ leBytes 4 p.actFi ++ leBytes 1 p.dom ++ leBytes 1 p.lead ++
    leBytes 1 (flag p.localOnly 0) ++ zeros 17 ++ deviceMap p.parts ++ zeros 32 ++
    p.entries.flatMap (fun e => leBytes 1 e.type ++ zeros 1 ++ leBytes 2 e.target ++ leBytes 4 e.source ++ leBytes 8 e.arg)

/-- A page's bytes in host memory: its header says how many entries follow. -/
def pageImage (s : State) (a : Nat) : List Byte := hostBytes s a (192 + 16 * min 4096 (fieldAt (hostBytes s a 192) 6 2))

/-! ## Messages (R94) -/

def commitBytes (m : CommitMsg) : List Byte :=
  leBytes 1 m.kind ++ leBytes 1 (flag m.late 0) ++ leBytes 2 m.dev ++ leBytes 4 m.page ++ leBytes 4 m.actFi ++ leBytes 1 m.dom ++
    leBytes 1 m.rate ++ zeros 2 ++ leBytes 4 m.phase ++ leBytes 4 m.stamp ++ leBytes 4 m.flow ++ zeros 4

def parseCommit (p : List Byte) : CommitMsg :=
  { kind := fieldAt p 0 1, late := bit (fieldAt p 1 1) 0, dev := fieldAt p 2 2 % 1024, page := fieldAt p 4 4
    actFi := fieldAt p 8 4, dom := fieldAt p 12 1 % 8, rate := fieldAt p 13 1 % 16, phase := fieldAt p 16 4
    stamp := fieldAt p 20 4, flow := fieldAt p 24 4 }

/-- A message of this device about a page. -/
def pageMsg (s : State) (kind id actFi dom : Nat) : CommitMsg :=
  { kind := kind, dev := devId s, page := id, actFi := actFi, dom := dom, rate := domRate s dom, phase := domPhase s dom
    stamp := ts32 s.tim.now }

def sendCommit (dest : Nat) (m : CommitMsg) (s : State) : State := sendToDevice dest 8 (commitBytes m) s
/-- A message to several devices. -/
def sendAll (l : List Nat) (m : CommitMsg) (s : State) : State := l.foldl (fun s d => sendCommit d m s) s

/-- ARMED or ACK leaves only after the record just journalled is confirmed, or at once when path A is not live (R360). -/
def sendGated (dest : Nat) (m : CommitMsg) (s : State) : State :=
  if holds s && s.red.liveA && s.red.jout.any (fun r => r.jseq == s.red.jseq) then
    { s with red := { s.red with heldMsgs := s.red.heldMsgs ++ [{ jseq := s.red.jseq, dest := dest, msg := m }] } }
  else sendCommit dest m s

/-! ## Status (R110) and the journal (R361) -/

def pageCode (x : PageSt) : Nat :=
  match x with
  | .free => 0
  | .loaded => 1
  | .armed => 2
  | .committed => 3
  | .applying => 4
  | .applied => 5
  | .withdrawn => 6
  | .late => 7
  | .collecting => 8
  | .commitSent => 9
  | .confirmed => 10
  | .commitMissed => 11

/-- Participants without a timely ACK. -/
def missingOf (p : Page) : List Nat := p.parts.filter (fun d => !p.acks.contains (d, false))

/-- REASON as read: RUN_AHEAD while a page stays LOADED past its arm deadline (R101). -/
def reasonOf (s : State) (p : Page) : Nat :=
  if p.part && p.pst == .loaded && decide (deadlineOf s p < s.tim.now) then 2 else p.reason

/-- The 192 bytes of PAGE_STATUS; a coordinator's copy shows the coordinator's state. -/
def pageStatusBytes (s : State) (slot : Nat) (p : Page) : List Byte :=
  let miss := if p.coordHere && (p.cst == .commitSent || p.cst == .confirmed || p.cst == .commitMissed) then missingOf p else []
  leBytes 4 p.id ++ leBytes 1 slot ++ leBytes 1 (pageCode (if p.coordHere then p.cst else p.pst)) ++
    leBytes 1 (flag p.coordHere 1 + flag p.part 0) ++ leBytes 1 (reasonOf s p) ++ leBytes 4 p.actFi ++ leBytes 4 p.armedTs ++
    leBytes 4 p.commitTs ++ leBytes 4 p.appliedTs ++ leBytes 4 p.badEntry ++ leBytes 2 miss.length ++
    leBytes 2 (miss.headD 0xFFFF) ++ zeros 32 ++ deviceMap miss

/-- The PAGE_STATE record: PAGE_ID; participant and coordinator state; ACK and ARMED maps (R361). -/
def pageStateBytes (p : Page) : List Byte :=
  leBytes 4 p.id ++ leBytes 1 (pageCode p.pst) ++ leBytes 1 (pageCode p.cst) ++ zeros 2 ++
    deviceMap ((p.acks.filter (fun x => !x.2)).map Prod.fst) ++ deviceMap p.armedFrom

def journalPage (slot : Nat) (s : State) : State :=
  journal 0x21 (pageBytes (page s slot) ++ pageStatusBytes s slot (page s slot)) s
def journalState (slot : Nat) (s : State) : State := journal 0x22 (pageStateBytes (page s slot)) s

/-- The TAG that a page's final event carries: at a coordinator its own outcome ends PAGE_LOAD. -/
def partTag (p : Page) : Option Nat := if p.coordHere then none else p.tag

/-! ## Run-ahead (R101 to R103) -/

/-- The window of one change, if the change selects a source: an AQF video source gathers its lines, any other counts as
filled at once. -/
def windowOf (s : State) (c : Change) : Option RunAhead :=
  match c with
  | .word w true src =>
    let x := flowD s src
    let gather := nsOf src == 0 && x.endpoint == 2 && x.essence == 0
    some { word := w, src := src, filled := !gather
           depth := if w < 1024 then (flowD s (wordFlow w)).depth else (proc s ((w - 1024) / 16)).window }
  | _ => none

/-- An AQF input whose slots are closed: no cell of it has been stored within the last frame period (DEDUCED: the groups of
other devices are not seen here, notes/assumptions/140.md). -/
def slotsClosed (s : State) (n : Nat) : Bool :=
  let f := flowD s n
  let fp := fpOf s f.domain
  let fed :=
    if f.essence = 1 then
      (tgetD s.aud.inp f.base []).any (fun x => decide (periodAt (audioRate f.format) (s.tim.now - fp) ≤ x.1))
    else (tgetD s.swc.store n []).any (fun x => x.2.cells != 0 && decide (s.tim.now ≤ x.2.at_ + fp))
  nsOf n == 0 && f.endpoint == 2 && !fed

/-- Feeders to be asked for: those of the AQF sources that the page selects and whose slot groups are closed, where their
route is held here (R102); a page with LOCAL set exchanges no messages (R98). -/
def feedersOf (s : State) (p : Page) (ws : List RunAhead) : List Nat :=
  if p.localOnly then []
  else
    ((ws.filter (fun w => nsOf w.src == 0 && (flowD s w.src).endpoint == 2 && slotsClosed s w.src)).map
      (fun w => (flowD s w.src).feeder)).eraseDups.filter (fun f => (route? s f).isSome)

/-- RUN_AHEAD (6) or CANCEL (7) sent along the reverse of a feeder's route. -/
def sendRunAhead (kind : Nat) (p : Page) (feeder : Nat) (s : State) : State :=
  match route? s feeder with
  | none => s
  | some r => sendRouted (refDev feeder) 8 true (reverseLinks r (r.hops.length - 1))
      (commitBytes { pageMsg s kind p.id p.actFi p.dom with flow := feeder }) s

/-- The groups that a page opens for a feeder at its request: its OPEN entries that carry the feeder's flow here, closed
now and verified (R102, R143). -/
def requested (s : State) (p : Page) (feeder : Nat) : List (Nat × Nat) :=
  match route? s feeder with
  | none => []
  | some r => (outGroups s r).eraseDups.filter (fun g =>
      p.changes.any (fun c => c == .mask g.1 g.2 true) && groupVerified s g.1 g.2 && !(link s g.1).mask.contains g.2 &&
        !p.opened.any (fun o => o.1 == g.1 && o.2.1 == g.2))

/-- The groups of a request open at the next fabric cycle boundary. -/
def openEarly (slot feeder : Nat) (s : State) : State :=
  let p := page s slot
  let g := requested s p feeder
  setPage slot { p with opened := p.opened ++ g.map (fun x => (x.1, x.2, feeder)) }
    { s with aqf := { s.aqf with opening := s.aqf.opening ++ g } }

/-- Groups opened early close at the next fabric cycle boundary. -/
def closeEarly (l : List (Nat × Nat × Nat)) (s : State) : State :=
  let g := l.map (fun x => (x.1, x.2.1))
  { s with aqf := { s.aqf with
      opening := s.aqf.opening.filter (fun x => !g.contains x), closing := s.aqf.closing ++ g } }

/-- A page's run-ahead is cancelled (R103). -/
def cancelPage (slot : Nat) (s : State) : State :=
  let p := page s slot
  let s := p.asked.foldl (fun s f => sendRunAhead 7 p f s) s
  let s := closeEarly p.opened s
  setPage slot { p with windows := p.windows.map (fun w => { w with cancelled := true }), opened := [], asked := [] }
    { s with tt := { s.tt with
        cancelled := s.tt.cancelled ++ p.windows.map (fun w => (p.id, { w with cancelled := true, discarded := false })) } }

/-! ## The coordinator (R97) -/

/-- WITHDRAWN to all, and TT_WITHDRAWN with the reason; the coordinator's own participant copy ends with it. -/
def withdrawCoord (slot reason : Nat) (s : State) : State :=
  let p := page s slot
  let s := if partLive p then cancelPage slot s else s
  let p := page s slot
  let s := setPage slot { p with
    pst := if p.part then .withdrawn else p.pst, cst := .withdrawn, reason := reason, resendW := true
    resendAt := s.tim.now } s
  let s := sendAll (p.parts.filter (fun d => d != devId s)) (pageMsg s 5 p.id p.actFi p.dom) s
  journalState slot (raise { src := 0x0A3, data := [(4, p.id), (1, reason)], fin := p.tag } s)

/-- Two link-disjoint control routes to a device are up (R97). -/
def twoRoutes (s : State) (dest : Nat) : Bool :=
  let l := (ctrlRoutes s dest).filter (routeUp s dest)
  l.any (fun a => l.any (fun b => disjoint dest a b))

/-- The times at which a committed page's slot groups change (R105). -/
def scheduleMasks (slot : Nat) (s : State) : State :=
  let p := page s slot
  let l := p.changes.filterMap (fun c =>
    match c with
    | .mask n g o => if o && p.opened.any (fun x => x.1 == n && x.2.1 == g) then none
                     else some (if o then guardOf s p else halfOf s p, n, g, o)
    | _ => none)
  { s with tt := { s.tt with masks := s.tt.masks ++ l } }

/-- A participant's copy is COMMITTED; `stamp` is the TS32 of COMMIT receipt. -/
def commitPart (slot stamp : Nat) (s : State) : State :=
  let p := page s slot
  let s := setPage slot { p with pst := .committed, commitTs := stamp } s
  scheduleMasks slot (raise { src := 0x0A2, data := [(4, p.id), (4, stamp)] } s)

/-- The coordinator's check once an ARMED counts: COMMIT to all, or WITHDRAWN for want of routes. -/
def tryCommit (slot : Nat) (s : State) : State :=
  let p := page s slot
  if p.cst != .collecting || !p.parts.all (fun d => p.armedFrom.contains d) then s
  else
    let others := p.parts.filter (fun d => d != devId s)
    if !others.all (twoRoutes s) then withdrawCoord slot 6 s
    else
      let stamp := ts32 s.tim.now
      let s := setPage slot { p with cst := .commitSent, commitTs := stamp, resendAt := s.tim.now } s
      let s := raise { src := 0x0A1, data := [(4, p.id)] } s
      let s := sendAll others (pageMsg s 3 p.id p.actFi p.dom) s
      let s := if p.part && p.pst == .armed then
          commitPart slot stamp (setPage slot { page s slot with acks := (devId s, false) :: p.acks } s) else s
      journalState slot s

/-- An ARMED from a device counts up to the arm deadline. -/
def countArmed (slot dev : Nat) (s : State) : State :=
  let p := page s slot
  if deadlineOf s p < s.tim.now then s
  else if p.armedFrom.contains dev then tryCommit slot s
  else tryCommit slot (journalState slot (setPage slot { p with armedFrom := p.armedFrom ++ [dev] } s))

/-! ## The participant (R96, R98) -/

/-- Every window is filled: the page arms. A local page commits at once. -/
def armPage (slot : Nat) (s : State) : State :=
  let p := page s slot
  let s := setPage slot { p with pst := .armed, armedTs := ts32 s.tim.now } s
  let s := raise { src := 0x0A0, data := [(4, p.id)] } s
  if p.localOnly then journalState slot (commitPart slot (ts32 s.tim.now) s)
  else if p.coordHere then countArmed slot (devId s) (journalState slot s)
  else sendGated p.coord (pageMsg s 1 p.id p.actFi p.dom) (journalState slot s)

/-- A loaded page whose windows are all filled arms: up to its arm deadline, or its guard if it is local (R98, R101). -/
def tryArm (slot : Nat) (s : State) : State :=
  let p := page s slot
  let due := if p.localOnly then guardOf s p else deadlineOf s p
  if p.part && p.pst == .loaded && p.windows.all (fun w => w.filled) && decide (s.tim.now ≤ due) then armPage slot s else s

/-- Requests kept for a page are served once it is loaded (R102). -/
def serveRequests (slot : Nat) (s : State) : State :=
  let p := page s slot
  let l := s.tt.requests.filter (fun q => q.page == p.id)
  l.foldl (fun s q => if s.tim.now ≤ q.guard_ then openEarly slot q.flow s else s)
    { s with tt := { s.tt with requests := s.tt.requests.filter (fun q => q.page != p.id) } }

/-- The change of P_est that a page makes (R93, R414). -/
def pagePower (p : Page) (s : State) : Int :=
  (estPower (p.changes.foldl (fun s c =>
    match c with
    | .word w sel src => setXp w { xp s w with sel := sel, src := src } s
    | .mask n g true => setLink n { link s n with mask := g :: (link s n).mask } s
    | .mask n g false => setLink n { link s n with mask := (link s n).mask.filter (fun x => x != g) } s
    | _ => s) s) : Int) - estPower s

/-- An admitted page takes its slot: at a coordinator COLLECTING, at a participant LOADED with run-ahead begun. -/
def enterPage (slot : Nat) (p : Page) (s : State) : State :=
  let ws := p.changes.filterMap (windowOf s)
  let asked := feedersOf s p ws
  let p := { p with power := pagePower p s, windows := ws, asked := asked }
  let s := journalPage slot (setPage slot p s)
  if p.part then
    let s := asked.foldl (fun s f => sendRunAhead 6 p f s) s
    tryArm slot (serveRequests slot s)
  else tryCommit slot s

/-! ## PAGE_LOAD (R88 to R91) -/

/-- The final event of a page waits to be written: its slot is not free before (R96). -/
def reporting (s : State) (p : Page) : Bool :=
  (s.flt.evq ++ s.hif.held).any (fun r =>
    (r.src == 0x040 || (decide (0x0A3 ≤ r.src) && decide (r.src ≤ 0x0A6))) && r.data.take 4 == leBytes 4 p.id)

/-- The lowest free slot; a slot whose withdrawn page is still being reported is taken last. -/
def freeSlot (s : State) : Option Nat :=
  match firstFree 64 (fun i => !resident (page s i) && !reporting s (page s i) && !(page s i).resendW) with
  | some i => some i
  | none => firstFree 64 (fun i => !resident (page s i) && !reporting s (page s i))

/-- The page as this device would hold it. -/
def ownPage (c : Cmd) (s : State) (a : Nat) : Page :=
  let p := parsePage s a (pageImage s a)
  let me := devId s
  let part := p.localOnly || p.parts.contains me
  let coord := !p.localOnly && p.coord == me
  { p with
    tag := some c.tag, part := part, pst := if part then .loaded else .free, coordHere := coord
    cst := if coord then .collecting else .free, changes := p.entries.flatMap (entryChanges s) }

/-- The BAD_FIELD checks of the header's identity: PAGE_ID, COUNT, COORD and PARTICIPANTS. -/
def headerChecks (a : Nat) (p : Page) (s : State) : List (Bool × Reply) :=
  let me := devId s
  [(p.id == 0 || (pageSlot s p.id).isSome, badField a),
    (decide (4096 < fieldAt (hostBytes s a 192) 6 2), badField (a + 6)),
    (p.localOnly && p.coord != me, badField (a + 4)),
    (!p.localOnly && p.coord != me && !p.parts.contains me, badField (a + 32 + me / 8))]

/-- The other BAD_FIELD checks of R88. -/
def bodyChecks (a : Nat) (p : Page) (s : State) : List (Bool × Reply) :=
  let at_ (i f : Nat) := a + 192 + 16 * i + f
  [(!domEn s p.dom, badField (a + 12)), (!p.localOnly && decide (p.lead < 2), badField (a + 13)),
    (decide (16777216 < p.actN - fiNow s p.dom), badField (a + 8))] ++
    (p.entries.zipIdx.map (fun e => ((entryBad s p.dom e.1).isSome, badField (at_ e.2 ((entryBad s p.dom e.1).getD 0))))) ++
    [((firstDup s 0 [] p.entries).isSome, badField (at_ ((firstDup s 0 [] p.entries).getD 0) 2))]

/-- LATE, NO_RESOURCE and the admission of R91. -/
def admitChecks (a : Nat) (p : Page) (s : State) : List (Bool × Reply) :=
  let r := firstRefused s p.dom p.actN 0 [] p.entries
  [(decide (deadlineOf s p < s.tim.now), replyLate), ((freeSlot s).isNone, noResource),
    (r.isSome, refusedAt (a + 192 + 16 * (r.getD (0, 0)).1 + (r.getD (0, 0)).2))]

/-- The coordinator that a refused page's header names is told: the page is not local, and this device is one of its
participants (R89, R96). -/
def tellRefused (p : Page) (s : State) : State :=
  if !p.localOnly && p.coord != devId s && p.parts.contains (devId s) then
    sendCommit p.coord (pageMsg s 2 p.id p.actFi p.dom) s
  else s

/-- What PAGE_STATUS shows of a page that admission refused: the slot it would have taken is FREE again, with REASON ADMISSION
and the entry that caused the refusal (R110; DEDUCED, notes/assumptions/141.md). -/
def recordRefused (p : Page) (s : State) : State :=
  match freeSlot s, firstRefused s p.dom p.actN 0 [] p.entries with
  | some k, some (e, _) =>
    if (page s k).resendW then s
    else
      setPage k { id := p.id, coord := p.coord, actFi := p.actFi, actN := p.actN, dom := p.dom, lead := p.lead
                  localOnly := p.localOnly, parts := p.parts, reason := 1, badEntry := e } s
  | _, _ => s

/-- PAGE_LOAD. -/
def opPageLoad (c : Cmd) (a : Nat) (img : List Byte) (s : State) : State :=
  hostCmd c 0x0201 true (fun s =>
    let p := ownPage c s a
    match firstErr [(!ttEn s, denied), (!c.hostOk, addressError a)] with
    | some r => (r, s)
    | none =>
      match firstErr (headerChecks a p s ++ bodyChecks a p s ++ admitChecks a p s) with
      | some r => (r, tellRefused p (if r.st = 0x13 then recordRefused p s else s))
      | none => (accepted, enterPage ((freeSlot s).getD 0) p s)) (place a img s)

/-- PAGE_WITHDRAW (R99). -/
def opPageWithdraw (c : Cmd) (id : Nat) : State → State :=
  hostCmd c 0x0202 true (checked
    (fun s => [
      ((pageSlot s id).isNone, badArg c 24 s),
      (!(match pageSlot s id with
        | some n =>
          let p := page s n
          (p.coordHere && p.cst == .collecting) || (p.localOnly && (p.pst == .loaded || p.pst == .armed))
        | none => false), denied)])
    (fun s =>
      let n := (pageSlot s id).getD 0
      let p := page s n
      if p.coordHere then (replyDone, withdrawCoord n 5 s)
      else
        let s := cancelPage n s
        let s := setPage n { page s n with pst := .withdrawn, reason := 5 } s
        (replyDone, journalState n (raise { src := 0x0A3, data := [(4, id), (1, 5)], fin := p.tag } s))))

/-- The slot that PAGE_STATUS names: a PAGE_ID held, else a slot. -/
def statusSlot (s : State) (n : Nat) : Option Nat :=
  match lastSlot s n with
  | some k => if n = 0 then some 0 else some k
  | none => if n < 64 then some n else none

/-- PAGE_STATUS (R110). -/
def opPageStatus (c : Cmd) (n a : Nat) : State → State :=
  hostCmd c 0x0203 false (checked
    (fun s => [((statusSlot s n).isNone, badArg c 24 s)])
    (readBack c a (fun s => pageStatusBytes s ((statusSlot s n).getD 0) (page s ((statusSlot s n).getD 0)))))

/-! ## Events of a page -/

/-- RUN_AHEAD_FILLED (R101): the last lines of every window of a loaded page have arrived within their bound. -/
def opRunAheadFilled (id : Nat) (s : State) : State :=
  match pageSlot s id with
  | none => s
  | some n => tryArm n s

/-- ARM_DEADLINE (R97): it has passed with an ARMED missing. -/
def opArmDeadline (id : Nat) (s : State) : State :=
  match pageSlot s id with
  | none => s
  | some n =>
    let p := page s n
    if p.coordHere && p.cst == .collecting then withdrawCoord n 4 (atLeast (deadlineOf s p + 1) s) else s

/-- PAGE_GUARD (R96, R98): the guard passes without COMMIT and the page goes LATE. -/
def opPageGuard (id : Nat) (s : State) : State :=
  match pageSlot s id with
  | none => s
  | some n =>
    let p := page s n
    if p.part && (p.pst == .loaded || p.pst == .armed) then
      let s := cancelPage n (atLeast (guardOf s p + 1) s)
      let s := setPage n { page s n with pst := .late, reason := if p.pst == .loaded then 2 else p.reason } s
      journalState n (raise { src := 0x0A4, data := [(4, id)], fin := partTag p } s)
    else s

/-- COMMIT_RESEND (R95): until the guard, COMMIT to each participant from which no ACK is held, or WITHDRAWN to all. -/
def opCommitResend (id : Nat) (s : State) : State :=
  match s.tt.slots.find? (fun p => p.2.id == id && p.2.coordHere && (p.2.cst == .commitSent || p.2.resendW)) with
  | none => s
  | some (n, p) =>
    let s := atLeast (p.resendAt + 1000 * max 1 (fld s .swcTtCfg 0 23 16)) s
    if guardOf s p < s.tim.now then setPage n { p with resendW := false } s
    else
      let s := setPage n { p with resendAt := s.tim.now } s
      let others := p.parts.filter (fun d => d != devId s)
      if p.cst == .commitSent then
        sendAll (others.filter (fun d => !p.acks.any (fun x => x.1 == d))) (pageMsg s 3 p.id p.actFi p.dom) s
      else sendAll others (pageMsg s 5 p.id p.actFi p.dom) s

/-- COMMIT_EVALUATION (R97, R100). -/
def opCommitEvaluation (id : Nat) (s : State) : State :=
  match pageSlot s id with
  | none => s
  | some n =>
    let p := page s n
    if p.coordHere && p.cst == .commitSent then
      let s := atLeast (evalOf s p) s
      let miss := missingOf p
      if miss.isEmpty then
        journalState n (raise { src := 0x0A6, data := [(4, id)], fin := p.tag } (setPage n { p with cst := .confirmed } s))
      else
        journalState n (raise { src := 0x0A5, data := [(4, id), (2, miss.length), (2, miss.headD 0)], fin := p.tag }
          (setPage n { p with cst := .commitMissed, missing := miss } s))
    else s

/-! ## Messages received -/

/-- An ARMED carries the coordinator's values, from one of its participants (R90). -/
def armedMatches (s : State) (p : Page) (m : CommitMsg) : Bool :=
  p.parts.contains m.dev && m.actFi == p.actFi && m.dom == p.dom && m.rate == domRate s p.dom && m.phase == domPhase s p.dom

/-- A coordinator's copy was sent COMMIT: it never sends WITHDRAWN for that page. -/
def wasCommitted (s : State) (id : Nat) : Bool :=
  s.tt.slots.any (fun p => p.2.id == id && p.2.coordHere && (p.2.cst == .confirmed || p.2.cst == .commitMissed))

/-- ARMED_RX. -/
def opArmedRx (m : CommitMsg) (s : State) : State :=
  if !ttEn s then s
  else
    match s.tt.slots.find? (fun p => p.2.id == m.page && coordLive p.2) with
    | none => if wasCommitted s m.page then s else sendCommit m.dev (pageMsg s 5 m.page m.actFi m.dom) s
    | some (n, p) =>
      if p.cst != .collecting then s
      else if !armedMatches s p m then withdrawCoord n 7 s else countArmed n m.dev s

/-- REFUSED_RX. -/
def opRefusedRx (m : CommitMsg) (s : State) : State :=
  match s.tt.slots.find? (fun p => p.2.id == m.page && p.2.coordHere && p.2.cst == .collecting) with
  | some (n, _) => if ttEn s then withdrawCoord n 3 s else s
  | none => s

/-- ACK to the sender of a COMMIT. -/
def answerCommit (m : CommitMsg) (late : Bool) (stamp : Nat) (s : State) : State :=
  sendGated m.dev { pageMsg s 4 m.page m.actFi m.dom with late := late, stamp := stamp } s

/-- COMMIT_RX (R95, R96): every COMMIT is answered, with LATE once the guard has passed; one that finds the copy still LOADED
changes nothing. -/
def opCommitRx (m : CommitMsg) (s : State) : State :=
  if !ttEn s then s
  else
    let now := ts32 s.tim.now
    match lastSlot s m.page with
    | none => answerCommit m true now s
    | some n =>
      let p := page s n
      if !p.part || p.localOnly || p.coordHere then answerCommit m true now s
      else
        match p.pst with
        | .loaded => answerCommit m (decide (guardOf s p < s.tim.now)) now s
        | .armed =>
          if s.tim.now ≤ guardOf s p then answerCommit m false now (journalState n (commitPart n now s))
          else answerCommit m true now s
        | .committed => answerCommit m false p.commitTs s
        | .applying => answerCommit m false p.commitTs s
        | .applied => answerCommit m false p.commitTs s
        | _ => answerCommit m true now s

/-- COMMIT_ACK_RX (R97): a timely ACK once recorded stays so. -/
def opCommitAckRx (m : CommitMsg) (s : State) : State :=
  match s.tt.slots.find? (fun p => p.2.id == m.page && p.2.coordHere && p.2.cst == .commitSent) with
  | some (n, p) =>
    if ttEn s && p.parts.contains m.dev && !p.acks.contains (m.dev, false) then
      journalState n (setPage n { p with acks := (m.dev, m.late) :: p.acks.filter (fun x => x.1 != m.dev) } s)
    else s
  | none => s

/-- WITHDRAWN_RX (R96): a committed page ignores it, logged as a violation of SWC_TT_CFG. The message carries no reason, so the
REASON shown here is a free value among those of R110 (notes/assumptions/142.md). -/
def opWithdrawnRx (m : CommitMsg) (s : State) : State :=
  match pageSlot s m.page with
  | none => s
  | some n =>
    let p := page s n
    if !ttEn s || !p.part || p.localOnly || p.coordHere || m.dev != p.coord then s
    else if p.pst == .loaded || p.pst == .armed then
      let s := cancelPage n s
      let r := Config.freeNat s.free % 9
      let s := setPage n { page s n with pst := .withdrawn, reason := r } { s with free := s.free + 1 }
      journalState n (raise { src := 0x0A3, data := [(4, p.id), (1, r)], fin := p.tag } s)
    else if p.pst == .committed then violation 0 (regOff .swcTtCfg 0 0) s
    else s

/-- The guard of a message's page, in the domain the message names. -/
def msgGuard (s : State) (m : CommitMsg) : Nat :=
  boundary m.rate m.phase (extend 32 m.actFi (frameAt m.rate m.phase s.tim.now)) - 100000

/-- RUN_AHEAD as each device on the route acts on it (R102). -/
def takeRunAhead (m : CommitMsg) (s : State) : State :=
  if !ttEn s then s
  else
    match s.tt.slots.find? (fun p => p.2.id == m.page && partLive p.2 && p.2.pst != .applying) with
    | some (n, _) => openEarly n m.flow s
    | none =>
      let q : RaRequest := { page := m.page, flow := m.flow, guard_ := msgGuard s m }
      if s.tim.now ≤ q.guard_ && !s.tt.requests.contains q then
        { s with tt := { s.tt with requests := s.tt.requests ++ [q] } } else s

/-- CANCEL as each device on the route acts on it (R103): a COMMITTED page keeps its groups. -/
def takeCancel (m : CommitMsg) (s : State) : State :=
  if !ttEn s then s
  else
    let s := { s with tt := { s.tt with requests := s.tt.requests.filter (fun q => !(q.page == m.page && q.flow == m.flow)) } }
    match s.tt.slots.find? (fun p => p.2.id == m.page && p.2.part && (p.2.pst == .loaded || p.2.pst == .armed)) with
    | some (n, p) =>
      let mine := p.opened.filter (fun o => o.2.2 == m.flow)
      setPage n { p with opened := p.opened.filter (fun o => o.2.2 != m.flow) } (closeEarly mine s)
    | none => s

/-- The message passed on along the reverse of its feeder's route (R121, R136). -/
def passReverse (n : Nat) (m : CommitMsg) (s : State) : State :=
  if refDev m.flow = devId s then s
  else
    match route? s m.flow with
    | none => discard n s
    | some r =>
      match inHop s r with
      | none => discard n s
      | some (i, h) => sendOn h.rx
          { dest := refDev m.flow, src := m.dev, ctype := 8, hop := 0, hops := i + 1, visit := true
            msg := commitBytes m, route := reverseLinks r i } s

/-- RUN_AHEAD_RX. -/
def opRunAheadRx (m : CommitMsg) (n : Nat) (s : State) : State := passReverse n m (takeRunAhead m s)

/-- RUN_AHEAD_CANCEL_RX. -/
def opRunAheadCancelRx (m : CommitMsg) (n : Nat) (s : State) : State := passReverse n m (takeCancel m s)

/-- RUN_AHEAD_REQUEST_EXPIRY (R102): the page's guard passes and its requests are discarded. -/
def opRunAheadRequestExpiry (id : Nat) (s : State) : State :=
  match s.tt.requests.find? (fun q => q.page == id) with
  | none => s
  | some q =>
    let s := atLeast (q.guard_ + 1) s
    { s with tt := { s.tt with requests := s.tt.requests.filter (fun q => q.page != id || decide (s.tim.now ≤ q.guard_)) } }

/-- A COMMIT cell's message by its KIND (R94), acted on at the device it reaches. -/
def takeCommit (m : CommitMsg) (s : State) : State :=
  match m.kind with
  | 1 => opArmedRx m s
  | 2 => opRefusedRx m s
  | 3 => opCommitRx m s
  | 4 => opCommitAckRx m s
  | 5 => opWithdrawnRx m s
  | 6 => takeRunAhead m s
  | 7 => takeCancel m s
  | _ => s

end Sys2Proof.Machine
end

