-- ==== Sys2Proof/Machine/Essence.lean ====
section
/-!
DEFINITION. Essence in cell memory (R33 to R37, R43): lines and streams stored, signatures made and checked (R388, R389), the
flow entry and its journal record (R21, R361), flows HELD (R26), fill (R27) and the platforms (R84).
-/
namespace Sys2Proof.Machine
open Sys2Proof

/-! ## Flow entries (R21) -/

/-- The consist of which a flow is a member, with its role. -/
def memberOf (s : State) (n : Nat) : Option (Nat × Nat) :=
  (s.consists.find? (fun c => c.2.members.any (fun m => m.2 == n))).map (fun c =>
    (c.1, ((c.2.members.find? (fun m => m.2 == n)).map Prod.fst).getD 0))

def flowCode (x : FlowSt) : Nat :=
  match x with
  | .defined => 0
  | .running => 1
  | .stopped => 2
  | .held => 3

/-- The 64 bytes of a flow entry with its readback fields. CELLS, LOAD and SLOTS are those of the entry whatever its STATE, a
DEFINED or STOPPED flow's too (DESIGN CHOICE, notes/assumptions/127.md). -/
def flowBytes (s : State) (n : Nat) (f : Flow) : List Byte :=
  let role := ((memberOf s n).map Prod.snd).getD 0
  leBytes 2 n ++ leBytes 1 f.essence ++ leBytes 1 (flowCode f.st) ++ leBytes 1 f.endpoint ++ leBytes 1 f.port ++
    leBytes 1 (flag f.locked 7 + f.domain) ++ leBytes 1 f.colour ++ leBytes 2 f.format ++
    leBytes 2 (((memberOf s n).map Prod.fst).getD 0xFFFF) ++ leBytes 2 (if 1 ≤ role ∧ role ≤ 4 then role - 1 else 0) ++ zeros 2 ++
    leBytes 4 f.feeder ++ leBytes 4 f.latency ++ leBytes 4 (rateBack f) ++ leBytes 4 (f.count * 65536 + f.base) ++
    padTo 16 f.params ++ leBytes 4 (flag f.sigEn 0) ++ leBytes 2 (cellsBack f) ++ leBytes 2 (min 0xFFFF (flowLoad f)) ++
    leBytes 4 (flowSlots n f) ++ zeros 4

/-- One leg of a stream descriptor as 28 bytes (R183). -/
def legBytes (l : Leg) : List Byte :=
  leBytes 6 l.dmac ++ leBytes 2 (flag l.tagged 15 + l.pcp * 2 ^ 12 + l.vid) ++ leBytes 4 l.dstIp ++ leBytes 4 l.srcIp ++
    leBytes 2 l.dstPort ++ leBytes 2 l.srcPort ++ leBytes 1 l.dscp ++ leBytes 1 l.ttl ++ leBytes 1 l.queue ++ zeros 5

/-- The journal's FLOW record: the entry, RATE_MBPS as it was declared, the platform depth, and the stream descriptor of an NMP
flow; of a deleted flow its number alone (R361). -/
def flowRecord (s : State) (n : Nat) : List Byte :=
  match flow? s n with
  | none => leBytes 2 n
  | some f =>
    let d := tgetD s.nmp.streams n {}
    (flowBytes s n f).take 24 ++ leBytes 4 f.rate ++ (flowBytes s n f).drop 28 ++ leBytes 1 f.depth ++
      leBytes 4 d.ssrc ++ d.legs.flatMap legBytes

def journalFlow (n : Nat) (s : State) : State := journal 0x10 (flowRecord s n) s

/-! ## A flow that stops or is held (R22, R26) -/

/-- A flow has stopped: the FLOW_STOPs that armed its stop, if any, complete DONE. -/
def stopFlow (n : Nat) (s : State) : State :=
  let f := flowD s n
  let s := journalFlow n (setFlow n { f with st := .stopped, stop := none, stopMore := [], restore := none } s)
  match f.stop with
  | some (c, _) => (c :: f.stopMore).foldl (fun s c => complete c 0x0103 replyDone s) s
  | none => s

/-- The detected format as FLOW_FORMAT_CHANGE carries it: one that is in no table of formats reads 0xFFFF (R26, R38, R39). -/
def detectedCode (f : Flow) (fmt : Nat) : Nat :=
  if videoFormatOk fmt || (f.essence == 1 && audioFormatOk fmt) then fmt else 0xFFFF

/-- A RUNNING flow becomes HELD with FLOW_FORMAT_CHANGE and the detected format (R26); one that was stopping, which writes
nothing more, has stopped (R22). -/
def holdFlow (n fmt : Nat) (s : State) : State :=
  let f := flowD s n
  if f.st != .running then s
  else
    let fmt := detectedCode f fmt
    let s := raise { src := 0x07C, data := [(2, n), (2, fmt)] } (setFlow n { f with st := .held, restore := none, detected := fmt } s)
    if f.stop.isSome then stopFlow n s else journalFlow n s

/-- Several flows held. -/
def holdFlows (l : List Nat) (fmt : Nat) (s : State) : State := l.foldl (fun s n => holdFlow n fmt s) s

/-- Flows of one namespace on an endpoint and port that meet a test. -/
def portFlows (s : State) (ns endpoint port : Nat) (ok : Flow → Bool) : List Nat :=
  tkeys s.flows (fun n f => nsOf n == ns && f.endpoint == endpoint && f.port == port && ok f)

/-! ## Signatures (R388, R389) -/

/-- The signature of data owned by a flow: `line` and the two prefix bytes after it by essence. -/
def signature (s : State) (n line b6 b7 : Nat) (data : List Byte) : Nat :=
  crc32c (leBytes 4 (localRef s n) ++ leBytes 2 line ++ leBytes 1 b6 ++ leBytes 1 b7 ++ data)

/-- FLT_SIG_COUNT. -/
def countSig (s : State) : State := { s with flt := { s.flt with sigCount := satAdd 32 s.flt.sigCount 1 } }

/-- A failed check of a cell's CRC, of a residue or of a generator: counted, and its event raised (R389, R391, R392). -/
def checkFail (b : Bool) (e : Ev) (s : State) : State := if b then raise e (countSig s) else s

/-- A failed signature check: counted, and its event raised once per flow and frame, or second. -/
def sigFail (inst slot : Nat) (e : Ev) (s : State) : State := raiseOnce inst slot e (countSig s)

/-! ## Cells discarded after a cancelled run-ahead (R103) -/

/-- What a word's latch holds. -/
def latched (s : State) (w : Nat) : XpLive := tgetD s.swc.live w {}

/-- A window waits for cells that its page's withdrawal cancelled: no live page and no latch has the source for that word. -/
def stillCancelled (s : State) (w : RunAhead) : Bool :=
  !((latched s w.word).sel && (latched s w.word).src == w.src) &&
    !(livePages s).any (fun p => p.2.windows.any (fun x => x.word == w.word && x.src == w.src && !x.cancelled))

/-- `k` cells for the cancelled windows of a source: discarded there and counted, and reported for the first of each window. -/
def discardAhead (n k : Nat) (s : State) : State :=
  let all := s.tt.cancelled.filter (fun x => stillCancelled s x.2)
  let hit := all.filter (fun x => x.2.src == n)
  if hit.isEmpty then s
  else
    let s' := { s with
      swc := { s.swc with prefetchDiscard := satAdd 32 s.swc.prefetchDiscard (k * hit.length) }
      tt := { s.tt with cancelled := all.map (fun x => if x.2.src = n then (x.1, { x.2 with discarded := true }) else x) } }
    (hit.filter (fun x => !x.2.discarded)).foldl (fun s x => raise { src := 0x041, data := [(2, n), (4, x.1)] } s) s'

/-- Cells of a source on this device, which its arrival through the fabric does not count. -/
def discardLocal (n k : Nat) (s : State) : State :=
  if nsOf n = 0 ∧ (flowD s n).endpoint = 2 then s else discardAhead n k s

/-! ## Stores -/

def stored (s : State) (n key : Nat) : Stored := tgetD (tgetD s.swc.store n []) key {}
def setStored (n key : Nat) (x : Stored) (s : State) : State :=
  { s with swc := { s.swc with store := tupd s.swc.store n [] (fun t => tput t key x) } }

/-- A whole video line stored with its signature. -/
def storeLine (n fi line : Nat) (bytes : List Byte) (s : State) : State :=
  let f := flowD s n
  let s := discardLocal n (cellsPerLine f.format) s
  setStored n line { line := line, fi := fi, bytes := bytes, cells := cellsPerLine f.format, complete := true, at_ := s.tim.now
                     sig := if f.sigEn then some (signature s n line (fi % 256) 0 bytes) else none } s

/-- Bytes of a frame's ANC or opaque stream, kept by frame. -/
def storeStream (n fi : Nat) (bytes : List Byte) (ends : Bool) (s : State) : State :=
  let x := stored s n (fi % 8)
  let x := if x.fi = fi then x else { fi := fi }
  let s := discardLocal n (ceilDiv (x.bytes.length + bytes.length) 240 - ceilDiv x.bytes.length 240) s
  setStored n (fi % 8) { x with
    bytes := x.bytes ++ bytes, cells := ceilDiv (x.bytes.length + bytes.length) 240, complete := x.complete || ends
    at_ := s.tim.now } s

/-- The stream of a frame. -/
def streamOf (s : State) (n fi : Nat) : List Byte :=
  let x := stored s n (fi % 8)
  if x.fi = fi then x.bytes else []

/-- The sample rate of the flow that owns an input channel. -/
def rateIn (s : State) (ch : Nat) : Nat :=
  match ownerIn s ch with
  | some (_, f) => audioRate f.format
  | none => matrixRate s

/-- Sample words of the input channel `ch`: period `p` stored unless the matrix has read it (R275). -/
def storeSample (ch p w : Nat) (s : State) : State :=
  if rateIn s ch = matrixRate s ∧ p + matrixDelay s < s.aud.period + 3 then s
  else { s with aud := { s.aud with inp := tupd s.aud.inp ch [] (fun t => tput t p w) } }

/-- Sample words of several channels of one period, from a flow's first channel on. -/
def storeSamples (p : Nat) : Nat → List Nat → State → State
  | _, [], s => s
  | ch, w :: ws, s => storeSamples p (ch + 1) ws (storeSample ch p w s)

/-! ## Fill (R27) -/

/-- Sample values of black: Cb or B, Y or G, Cr or R of a format and colour. -/
def blackOf (f colour : Nat) : Nat × Nat :=
  let k := if fmtSampling f = 2 ∨ fmtSampling f = 5 ∨ fmtSampling f = 6 then 4 else 1
  let full := bit colour 6
  if fmtSampling f = 4 ∨ fmtSampling f = 6 then (if full then (0, 0) else (64 * k, 64 * k))
  else (512 * k, if full then 0 else 64 * k)

/-- Samples of one pixel group of black in transmission order, and the group's pixels. -/
def blackGroup (f colour : Nat) : List Nat × Nat :=
  let b := blackOf f colour
  if fmtSampling f = 1 ∨ fmtSampling f = 2 then ([b.1, b.2, b.1, b.2], 2)
  else if fmtSampling f = 3 ∨ fmtSampling f = 4 then ((List.replicate 4 [b.1, b.2, b.1]).flatten, 4)
  else ((List.replicate 2 [b.1, b.2, b.1]).flatten, 2)

/-- Samples of `w` bits packed most significant bit first (R33). -/
def packSamples (w : Nat) (l : List Nat) : List Byte := beBytes (ceilDiv (w * l.length) 8) (l.foldl (fun a x => a * 2 ^ w + x) 0)

def sampleBits (f : Nat) : Nat := if fmtSampling f = 2 ∨ fmtSampling f = 5 ∨ fmtSampling f = 6 then 12 else 10

/-- One active line of black. -/
def blackLine (f colour : Nat) : List Byte :=
  (List.replicate (fmtWidth f / (blackGroup f colour).2) (packSamples (sampleBits f) (blackGroup f colour).1)).flatten

/-! ## Local feed of the fabric (R137) -/

/-- A byte string cut into cells of 240 bytes: at most `n`. -/
def cutCells : Nat → List Byte → List (List Byte)
  | 0, _ => []
  | n + 1, l => if l.isEmpty then [] else padTo 240 l :: cutCells n (l.drop 240)

def feedOf (s : State) (ix : Nat) : List FeedCell := tgetD s.aqf.feed ix []
def setFeed (ix : Nat) (l : List FeedCell) (s : State) : State := { s with aqf := { s.aqf with feed := tput s.aqf.feed ix l } }

/-- Cells released by an output flow with ENDPOINT AQF, segments from 0; `last` marks the last as the end of a line. -/
def releaseCells (ix fseq line : Nat) (last : Bool) (cells : List (List Byte)) (s : State) : State :=
  setFeed ix (feedOf s ix ++ cells.zipIdx.map (fun c =>
    { fseq := fseq, line := line, seg := c.2 % 128, eol := last && c.2 + 1 == cells.length, payload := c.1 })) s

/-! ## Platforms (R84, R27, R368) -/

/-- Outputs of a domain carry fill from Drive to its first commit (R368). -/
def beforeCommit (s : State) (d : Nat) : Bool := s.red.uncommitted.contains d

/-- The source that an output's word holds for frame `n`, the latest it has latched or the one before; none for SEL = 0. -/
def srcFor (s : State) (w n : Nat) : Option Nat :=
  let l := latched s w
  if n < l.fi then l.was else if l.sel then some l.src else none
def plat (s : State) (ix : Nat) : Platform := tgetD s.swc.plats ix {}
def setPlat (ix : Nat) (p : Platform) (s : State) : State := { s with swc := { s.swc with plats := tput s.swc.plats ix p } }

/-- A line taken from a source's storage, with what the read meets: its cell's CRC and its signature (R389). -/
def emitLine (o k : Nat) (x : Stored) (f : ReadFault) (s : State) : State :=
  let l := latched s (ixOf o)
  let src := flowD s l.src
  let bad := f.sig || (match x.sig with
    | some c => src.sigEn && c != signature s l.src k (l.fi % 256) 0 x.bytes
    | none => false)
  let s := setPlat (ixOf o) { plat s (ixOf o) with
    line := k, bytes := x.bytes, fill := false, src := l.src, fi := l.fi, sig := x.sig } s
  let s := checkFail f.crc { src := 0x248, data := [(1, f.bank), (1, f.row), (1, 0)] } s
  if bad && src.sigEn then
    sigFail o l.fi { src := 0x242, data := [(2, o), (2, l.src), (2, k), (1, l.fi % 256)] } s
  else s

/-- A fill line emitted. -/
def emitFill (o k : Nat) (s : State) : State :=
  let f := flowD s o
  setPlat (ixOf o) { plat s (ixOf o) with
    line := k, bytes := blackLine f.format f.colour, fill := true, src := (latched s (ixOf o)).src, fi := (latched s (ixOf o)).fi
    sig := none } s

/-- One line of a platform's latched source: fill without an event for SEL = 0, before a first commit and from a restored
source that is not ready; a HELD source reports SOURCE_HELD once and is fill until a take selects another; any other
missing line is fill with LINE_MISSING. -/
def readLine (o k : Nat) (f : ReadFault) (s : State) : State :=
  let l := latched s (ixOf o)
  let x := stored s l.src k
  let here := x.complete && x.line == k && x.fi == l.fi
  let src := flowD s l.src
  let s := if !l.sel then setPlat (ixOf o) { plat s (ixOf o) with heldSrc := none } s else s
  let f := if l.sel && here && !beforeCommit s (flowD s o).domain then f else {}
  let s := raiseIf f.corrected { src := 0x046, data := [(1, f.bank), (1, f.row)] } s
  if !l.sel || beforeCommit s (flowD s o).domain || (src.restore.isSome && !here) then emitFill o k s
  else if (plat s (ixOf o)).heldSrc == some l.src then emitFill o k s
  else
    let s := if (plat s (ixOf o)).heldSrc.isSome then setPlat (ixOf o) { plat s (ixOf o) with heldSrc := none } s else s
    if here && !f.ecc then emitLine o k x f s
    else
      let s := emitFill o k (raiseIf f.ecc { src := 0x047, data := [(1, f.bank), (1, f.row)] } s)
      if src.st == .held then
        raise { src := 0x07D, data := [(2, o), (2, l.src)] }
          (setPlat (ixOf o) { plat s (ixOf o) with heldSrc := some l.src } s)
      else raise { src := 0x042, data := [(2, o), (2, k), (1, l.fi % 256)] } s

/-- PLATFORM_LINE_READ: D line periods after its nominal start in the frame latched (R82) the line is read, and a flow that
feeds the fabric releases its cells then (R137). -/
def opPlatformLineRead (flow k : Nat) (f : ReadFault) (s : State) : State :=
  let o := normFlow flow
  let x := flowD s o
  if nsOf o != 1 || x.st != .running || x.essence != 0 || !decide (k < fmtLines x.format) then s
  else
    let s := readLine o k f (atLeast (tOf s x.domain (latched s (ixOf o)).fi + lineOffset x.format k x.depth) s)
    let p := plat s (ixOf o)
    if x.endpoint = 2 then
      releaseCells (ixOf o) (p.fi % 256) k true (cutCells (cellsPerLine x.format) p.bytes) s
    else s

end Sys2Proof.Machine
end

