-- ==== Sys2Proof/Machine/Audio.lean ====
section
/-!
DEFINITION. Audio (R273 to R296): gain coefficients and ramps, crosspoint writes, the matrix, channel status, the serial audio
and MADI ports, and per-channel delay.
-/
namespace Sys2Proof.Machine
open Sys2Proof

/-! ## Coefficients and ramps (R278, R279) -/

/-- Largest `g` of at most `n` bits, tried from the top bit down on `acc`, that a test accepts. -/
def bisect (ok : Nat → Bool) : Nat → Nat → Nat
  | 0, acc => acc
  | n + 1, acc => bisect ok n (if ok (acc + 2 ^ n) then acc + 2 ^ n else acc)

/-- G = round(2²⁰ × 10^(GAIN / 2,000)), exactly: the largest g with (2g − 1)^2000 ≤ 2^(21 × 2000) × 10^GAIN. -/
def gainCoef (gain : Nat) : Nat :=
  let z := toSigned 16 gain
  if gain = 0x8000 then 0
  else if 0 ≤ z then bisect (fun g => decide ((2 * g - 1) ^ 2000 ≤ 2 ^ 42000 * 10 ^ z.toNat)) 22 0
  else bisect (fun g => decide ((2 * g - 1) ^ 2000 * 10 ^ (-z).toNat ≤ 2 ^ 42000)) 22 0

/-- π × 2^100. -/
def pi100 : Int := 3982441812995697363688351113952

/-- The cosine series from term `i` on, in units of 2^-100. -/
def cosSeries : Nat → Nat → Int → Int → Int
  | 0, _, _, _ => 0
  | n + 1, i, term, x2 =>
    term + cosSeries n (i + 1) (-(term * x2 / 2 ^ 100 / (((2 * i + 1) * (2 * i + 2) : Nat) : Int))) x2

/-- w(k) = (1 − cos(π (k + 0.5) / N)) / 2 in units of 2^-100 (R279). -/
def raisedCos (k n : Nat) : Int :=
  let x := pi100 * ((2 * k + 1 : Nat) : Int) / ((2 * n : Nat) : Int)
  (2 ^ 100 - cosSeries 40 0 (2 ^ 100) (x * x / 2 ^ 100)) / 2

/-- The value `k` steps into a raised-cosine change from `a` to `b` over `n` steps: a whole number where the formula gives
one, else one of the two whole numbers beside it. -/
def lerp (a b : Int) (k n : Nat) : Int :=
  if n ≤ k then b
  else
    let v := a * 2 ^ 100 + (b - a) * raisedCos k n
    let q := v / 2 ^ 100
    let r := v % 2 ^ 100
    if r < 2 ^ 60 then q else if 2 ^ 100 - 2 ^ 60 < r then q + 1
    else if Config.roundsUp a b k n then q + 1 else q

/-- The coefficient in force at period `n`: ramps latest first, each beginning from the one in force at its start (R280). -/
def coefAt (base n : Nat) : List Ramp → Nat
  | [] => base
  | r :: older =>
    if n < r.s0 then coefAt base n older else (lerp (coefAt base r.s0 older) r.new (n - r.s0) r.len).toNat

/-- A change that starts with a ramp of a later boundary, or of the same boundary in a higher domain, takes no effect (R280). -/
def outranked (s0 rank : Nat) (l : List Ramp) : Bool := l.any (fun x => x.s0 == s0 && decide (rank < x.rank))

/-- A ramp put in its place; one that starts at the same period is replaced. -/
def addRamp (r : Ramp) (l : List Ramp) : List Ramp :=
  l.filter (fun x => decide (r.s0 < x.s0)) ++ [r] ++ l.filter (fun x => decide (x.s0 < r.s0))

/-! ## Crosspoint writes (R277, R280, R284) -/

/-- The first sample period that starts at or after an instant (R71). -/
def periodFrom (s : State) (t : Nat) : Nat := ceilDiv (t * matrixRate s) 1000000000

/-- A crosspoint belongs to flows of format 0x0010. -/
def rawPair (s : State) (out : Nat) : Bool :=
  match ownerOut s out with
  | some (_, f) => f.format == 0x10
  | none => false

/-- The ramps of a takeover (R368): crosspoints that meet a test rise from 0 to their gains over 240 samples from `s0`; one of
format 0x0010 has no ramp. -/
def riseXps (s0 : Nat) (ok : Nat → Nat → Bool) (s : State) : State :=
  { s with aud := { s.aud with xps := tmap s.aud.xps (fun o l => l.map (fun x =>
      if !ok o x.inp then x
      else if rawPair s o then { x with base := gainCoef x.gain, ramps := [] }
      else { x with base := 0, ramps := [{ new := gainCoef x.gain, s0 := s0, len := 240 }] })) } }

/-- A write to the crosspoint store: who writes, and with which page slot, TAG and count rule. -/
structure AudWrite where
  mgmt : Bool := false
  page : Nat := 0
  direct : Option (Nat × Nat) := none
  ttAt : Option Nat := none
  countUntil : Option Nat := none
  rank : Nat := 0
deriving DecidableEq, Repr

/-- An existing crosspoint changed. -/
def changeXp (gain ramp s0 : Nat) (w : AudWrite) (x : AudXp) : AudXp :=
  if outranked s0 w.rank x.ramps then x
  else { x with
    gain := gain, ramps := addRamp { new := gainCoef gain, s0 := s0, len := ramp, rank := w.rank } x.ramps, mgmt := w.mgmt, page := w.page
    direct := w.direct, ttAt := w.ttAt, countUntil := if gain = 0x8000 then w.countUntil else none }

/-- One crosspoint set: an existing one changes, a new one begins from 0; a removal of none leaves only a direct write's
event to come. -/
def setXpGain (out inp gain ramp s0 : Nat) (w : AudWrite) (s : State) : State :=
  let l := xpsOf s out
  if l.any (fun x => x.inp == inp) then
    setXps out (l.map (fun x => if x.inp = inp then changeXp gain ramp s0 w x else x)) s
  else if gain = 0x8000 && w.direct.isNone then s
  else setXps out (l ++ [changeXp gain ramp s0 w { inp := inp, gain := gain }]) s

/-- A write of one audio crosspoint: a 0x0010 pair waits for its block start; a CONSIST_TAKE removes, in the same ramp, every
other crosspoint of its output channel (R106). -/
def writeXp (out inp gain ramp s0 : Nat) (take_ : Bool) (w : AudWrite) (s : State) : State :=
  if rawPair s out then
    let z : ZWait :=
      { out := out, inp := inp, remove := gain == 0x8000, s0 := s0, page := w.page, mgmt := w.mgmt, direct := w.direct }
    { s with aud := { s.aud with zwait := s.aud.zwait.filter (fun x => !(x.out == out && x.inp == inp)) ++ [z] } }
  else
    let s := if take_ then
        setXps out ((xpsOf s out).map (fun x =>
          if x.inp = inp then x else changeXp 0x8000 ramp s0 { w with direct := x.direct } x)) s
      else s
    setXpGain out inp gain ramp s0 w s

/-- A removal whose ramp has ended. -/
def removed (n : Nat) (x : AudXp) : Bool := x.gain == 0x8000 && !(x.ramps.any (fun r => decide (n < r.s0 + r.len)))

/-- A crosspoint that sums at period `n`: begun, and not removed. -/
def summing (n : Nat) (x : AudXp) : Bool := (x.base != 0 || x.ramps.any (fun r => decide (r.s0 ≤ n))) && !removed n x

/-- A ramp is running at period `n`. -/
def ramping (n : Nat) (x : AudXp) : Bool := x.ramps.any (fun r => decide (r.s0 ≤ n) && decide (n < r.s0 + r.len))

/-- The journal's AUDIO records (R361): 0 one output channel's crosspoints, 1 delay lines, 2 a channel-status template. -/
def xpRecord (n : Nat) (x : AudXp) : List Byte :=
  leBytes 2 x.inp ++ leBytes 2 x.gain ++ leBytes 1 (flag (ramping n x) 1 + flag x.mgmt 0) ++
    leBytes 1 (if x.mgmt then 0 else x.page) ++ zeros 2

/-- The crosspoint that an output channel in sole-source mode copies (R282). -/
def soleSource (s : State) (out n : Nat) : Option AudXp :=
  match (xpsOf s out).filter (summing n) with
  | [x] => if x.gain == 0 && !ramping n x then some x else none
  | _ => none

def delayLine? (s : State) (out : Nat) : Option DelayLine := tget? s.aud.delays out

/-- The record of AUDIO_XP_READ. -/
def xpReadBytes (s : State) (out : Nat) : List Byte :=
  let n := s.aud.period
  let l := (xpsOf s out).filter (fun x => !removed n x && !ghost x)
  leBytes 2 out ++ leBytes 2 l.length ++ leBytes 1 (if (soleSource s out n).isSome then 1 else 0) ++ zeros 3 ++
    leBytes 4 ((delayLine? s out).getD {}).cur ++ zeros 4 ++ l.flatMap (xpRecord n)

def journalXps (out : Nat) (s : State) : State := journal 0x50 (leBytes 1 0 ++ xpReadBytes s out) s

/-! ## AUDIO_XP_DIRECT and AUDIO_XP_READ (R281) -/

/-- A timetable write to the crosspoint in the same cycle. -/
def audCollides (s : State) (out inp : Nat) : Bool := (xpsOf s out).any (fun x => x.inp == inp && x.ttAt == some s.tim.now)

/-- AUDIO_XP_DIRECT. -/
def opAudioXpDirect (c : Cmd) (out inp gain ramp : Nat) : State → State :=
  hostCmd c 0x0510 true (fun s =>
    match firstErr [
      (decide (matrixChannels s ≤ out), badArg c 24 s), (decide (matrixChannels s ≤ inp), badArg c 26 s),
      (!gainOk gain, badArg c 28 s), (decide (1024 < ramp), badArg c 30 s), (audioNamed s out inp, denied),
      (!audioXpOk s out inp gain (xpsOf s out) || !xpsFit s (liveChanges s ++ [.audio out inp gain ramp 0 false]),
        refusedAt (argAt c 26 s))] with
    | some r => (r, s)
    | none =>
      if audCollides s out inp then
        (denied, raise { src := 0x166, data := [(2, out), (2, inp)] }
          { s with aud := { s.aud with collision := satAdd 32 s.aud.collision 1 } })
      else
        let s0 := periodFrom s (s.tim.now + 100000)
        let fin := periodStart (matrixRate s) (s0 + rampOf ramp)
        (accepted, journalXps out (writeXp out inp gain (rampOf ramp) s0 false
          { mgmt := true, direct := some (c.tag, s0), countUntil := some fin, rank := 8 * s.tim.now } s)))

/-- AUDIO_XP_DIRECT_START: the ramp's first sample. -/
def opAudioXpDirectStart (out inp : Nat) (s : State) : State :=
  let ev (tag : Nat) : Ev := { src := 0x167, data := [(2, out), (2, inp)], fin := some tag }
  match ((xpsOf s out).find? (fun x => x.inp == inp)).bind (fun x => x.direct) with
  | some (tag, s0) =>
    let s := atLeast (periodStart (matrixRate s) s0) s
    raise (ev tag) (setXps out ((xpsOf s out).map (fun x => if x.inp = inp then { x with direct := none } else x)) s)
  | none =>
    match (s.aud.zwait.find? (fun z => z.out == out && z.inp == inp)).bind (fun z => z.direct) with
    | some (tag, s0) =>
      let s := atLeast (periodStart (matrixRate s) s0) s
      raise (ev tag) { s with aud := { s.aud with
        zwait := s.aud.zwait.map (fun z => if z.out = out ∧ z.inp = inp then { z with direct := none } else z) } }
    | none => s

/-- AUDIO_XP_READ. -/
def opAudioXpRead (c : Cmd) (out a : Nat) : State → State :=
  hostCmd c 0x0511 false (checked (fun s => [(decide (matrixChannels s ≤ out), badArg c 24 s)])
    (readBack c a (fun s => xpReadBytes s out)))

/-! ## The matrix (R273, R275, R278, R282 to R284) -/

/-- The word of an input channel's period: 0 where none is stored, or the flow is not RUNNING or not at the matrix rate. -/
def inputWord (s : State) (ch p : Nat) : Nat :=
  match ownerIn s ch with
  | some (n, f) => if running s n && onMatrix s f then tgetD (tgetD s.aud.inp ch []) p 0 else 0
  | none => 0

def sampleOf (w : Nat) : Int := toSigned 24 (bits w 31 8)
/-- A word from a 24-bit sample and its low byte of flags. -/
def wordOf (z : Int) (flags : Nat) : Nat := clampSigned 24 z * 256 + flags

/-- A flow of an AUD port that is not LOCKED carries zero samples (R287, R290). -/
def portSilent (s : State) (f : Flow) : Bool := f.endpoint == 4 && (tgetD s.aud.ports f.port {}).st != .locked

/-- Input channels that feed a crosspoint, once each. -/
def feeding (s : State) : List Nat := ((s.aud.xps.flatMap (fun p => p.2.map (fun x => x.inp)))).eraseDups

/-- Input period `p` of one channel read: a missing period is counted and reads as zero (R275). -/
def readInput (p : Nat) (bad : List (Nat × ReadFault)) (ch : Nat) (s : State) : State :=
  match ownerIn s ch with
  | none => s
  | some (n, f) =>
    let x := ((bad.find? (fun b => b.1 == ch && !b.2.poison)).map Prod.snd).getD {}
    let here := (tget? (tgetD s.aud.inp ch []) p).isSome
    let s := raiseIf (x.corrected && here) { src := 0x046, data := [(1, x.bank), (1, x.row)] } s
    let s := checkFail (x.crc && here) { src := 0x248, data := [(1, x.bank), (1, x.row), (1, 2)] } s
    if !active f || portSilent s f || f.restore.isSome || (here && !x.ecc) then s
    else
      let s := raiseIf (x.ecc && here) { src := 0x047, data := [(1, x.bank), (1, x.row)] } s
      let s := { s with aud := { s.aud with
        late := satAdd 32 s.aud.late 1, inp := tupd s.aud.inp ch [] (fun t => tdel t p) } }
      if f.st == .held then s else raiseOnce n (secOf s) { src := 0x163, data := [(2, n), (2, p / 6 % 4096)] } s

/-- A 0x0010 crosspoint takes effect at an incoming block start, or is removed on a multiple of 192 periods (R284). -/
def zDue (s : State) (n : Nat) (z : ZWait) : Bool :=
  decide (z.s0 ≤ n) && (if z.remove then n % 192 == 0 else bit (inputWord s z.inp (n - matrixDelay s)) 4)

def zApply (s : State) (z : ZWait) : State :=
  if z.remove then setXps z.out ((xpsOf s z.out).filter (fun x => x.inp != z.inp)) s
  else setXps z.out [{ inp := z.inp, gain := 0, base := 2 ^ 20, mgmt := z.mgmt, page := z.page }] s

def runZ (n : Nat) (s : State) : State :=
  let due := s.aud.zwait.filter (fun z => zDue s n z)
  due.foldl zApply { s with aud := { s.aud with zwait := s.aud.zwait.filter (fun z => !zDue s n z) } }

/-- The rounded sum before saturation: exact, half up at bit 20 (R278). -/
def mixSum (s : State) (out n : Nat) : Int :=
  ((((xpsOf s out).filter (summing n)).map (fun x =>
    sampleOf (inputWord s x.inp (n - matrixDelay s)) * (coefAt x.base n x.ramps : Int))).sum + 2 ^ 19) / 2 ^ 20

/-- V of a generated word. -/
def mixV (s : State) (out n : Nat) : Bool :=
  ((xpsOf s out).filter (summing n)).any (fun x =>
    coefAt x.base n x.ramps != 0 && bit (inputWord s x.inp (n - matrixDelay s)) 7)

/-- The flow of an input channel is HELD. -/
def heldIn (s : State) (ch : Nat) : Bool :=
  match ownerIn s ch with
  | some (_, f) => f.st == .held
  | none => false

/-- The word that an output channel forms at period `n`, before its delay; bit 32 marks a sole-source copy, which of a HELD
source is fill: a zero sample with Z every 192 periods (R27). -/
def mixWord (s : State) (out n : Nat) : Nat :=
  match soleSource s out n with
  | some x =>
    2 ^ 32 + (if heldIn s x.inp then flag (n % 192 == 0) 4 else inputWord s x.inp (n - matrixDelay s) / 16 * 16)
  | none => wordOf (mixSum s out n) (flag (mixV s out n) 7)

/-- The sum left the 24-bit range. -/
def saturated (s : State) (out n : Nat) : Bool :=
  (soleSource s out n).isNone && (decide (mixSum s out n < -(2 ^ 23)) || decide ((2 : Int) ^ 23 ≤ mixSum s out n))

/-- The channel-status template of an audio output flow (R283). -/
def csOf (s : State) (n : Nat) : List Byte := tgetD s.aud.cs n (leBytes 24 1)

/-- One bit of AES3's CRCC, and one byte, least significant bit first. -/
def crccBit (c : Nat) (b : Bool) : Nat :=
  if bit c 7 != b then Nat.xor (c * 2 % 256) 0x1D else c * 2 % 256
def crccByte (c : Nat) (b : Byte) : Nat := (List.range 8).foldl (fun c i => crccBit c (b.getLsbD i)) c

/-- The template with byte 23 replaced by the CRCC of bytes 0 to 22. -/
def withCrcc (l : List Byte) : List Byte :=
  let c := (l.take 23).foldl crccByte 0xFF
  padTo 23 l ++ [BitVec.ofNat 8 ((List.range 8).foldl (fun a i => a + flag (bit c i) (7 - i)) 0)]

/-- The word of an output channel at a read point of its delay line. -/
def mixed (s : State) (out p : Nat) : Nat := tgetD (tgetD s.aud.out out []) p 0

/-- C and Z of a generated word of period `n`. -/
def csFlags (l : List Byte) (n : Nat) : Nat :=
  flag ((l.getD (n % 192 / 8) 0).getLsbD (n % 8)) 5 + flag (n % 192 == 0) 4

/-- The word that leaves the matrix at period `n`: the channel's period n − d, or the crossfade of two read points (R293,
R294). A sole-source word passes whole. -/
def postWord (s : State) (o out n : Nat) : Nat :=
  let d := (delayLine? s out).getD {}
  let gen (z : Int) (v : Bool) := wordOf z (flag v 7 + csFlags (csOf s o) n)
  let plain (k : Nat) :=
    let w := mixed s out (n - k)
    if bit w 32 then w - 2 ^ 32 else gen (sampleOf w) (bit w 7)
  match d.change with
  | some x =>
    if n < x.s0 || rawPair s out then plain d.cur
    else if x.s0 + x.ramp ≤ n then plain x.new
    else
      let a := mixed s out (n - d.cur)
      let b := mixed s out (n - x.new)
      gen (lerp (sampleOf a) (sampleOf b) (n - x.s0) x.ramp) (bit a 7 || bit b 7)
  | none => plain d.cur

/-- A 0x0010 channel takes its new delay at the first period whose new read point carries Z. -/
def rawDelay (n out : Nat) (s : State) : State :=
  match delayLine? s out with
  | some d =>
    match d.change with
    | some x =>
      if rawPair s out && decide (x.s0 ≤ n) && d.cur != x.new && bit (mixed s out (n - x.new)) 4 then
        { s with aud := { s.aud with
            delays := tput s.aud.delays out { d with cur := x.new, change := if x.ended then none else d.change } } }
      else s
    | none => s
  | none => s

/-- Finished ramps folded into the coefficient, and removed crosspoints dropped once they no longer count (R277). -/
def settleXps (n now : Nat) (l : List AudXp) : List AudXp :=
  (l.filter (fun x => !(removed n x && decide (x.countUntil.getD 0 ≤ now) && x.direct.isNone))).map (fun x =>
    match x.ramps with
    | r :: _ => if r.s0 + r.len ≤ n then { x with base := r.new, ramps := [] } else x
    | [] => x)

/-- The store returned the block of a channel's delay line poisoned: it reads as zero samples with V = 0, and is counted
(R309). -/
def delayPoisoned (s : State) (bad : List (Nat × ReadFault)) (out : Nat) : Bool :=
  bad.any (fun b => b.1 == out && b.2.poison) && ((delayLine? s out).getD {}).store != 0

/-- One output channel of an output flow computed for period `n`; `bad` lists by output channel what its delay line's read met. -/
def runChannel (bad : List (Nat × ReadFault)) (o n out : Nat) (s : State) : State :=
  let s := if saturated s out n then
      { s with aud := { s.aud with
        sat := satAdd 32 s.aud.sat 1, satN := satAdd 32 s.aud.satN 1
        satLow := if s.aud.satN = 0 then out else min s.aud.satLow out } }
    else s
  let keep := max 64 (((delayLine? s out).getD {}).max + 8)
  let s := { s with aud := { s.aud with
    out := tupd s.aud.out out [] (fun t => tput (t.filter (fun e => decide (n ≤ e.1 + keep))) n (mixWord s out n)) } }
  let s := rawDelay n out s
  let dead := delayPoisoned s bad out
  let w := if dead then wordOf 0 (csFlags (csOf s o) n) else postWord s o out n
  { s with aud := { s.aud with
    late := satAdd 32 s.aud.late (if dead then 1 else 0)
    post := tupd s.aud.post out [] (fun t => tput (t.filter (fun e => decide (n ≤ e.1 + 4096))) n w) } }

/-- The payload of one audio slice for 6 periods from `p` (R35): words by output channel. -/
def slicePayload (s : State) (f : Flow) (p slice : Nat) : List Byte :=
  let w := min 8 (f.count - 8 * slice)
  padTo 240 (leBytes 4 (ts32 (periodStart (matrixRate s) p)) ++ leBytes 1 (8 * slice) ++ leBytes 1 w ++ leBytes 1 6 ++ zeros 1 ++
    (List.range 6).flatMap (fun k => (List.range w).flatMap (fun i =>
      leBytes 4 (tgetD (tgetD s.aud.post (f.base + 8 * slice + i) []) (p + k) 0))))

/-- One audio output flow: its channels, and at the end of a block of 6 periods its cells for the fabric (R137). A PCM flow of
another rate takes nothing from the matrix (R39). -/
def runOutput (bad : List (Nat × ReadFault)) (n o : Nat) (s : State) : State :=
  let f := flowD s o
  if !onMatrix s f then s else
  let s := (List.range f.count).foldl (fun s i => runChannel bad o n (f.base + i) s) s
  if f.endpoint == 2 && n % 6 == 5 then
    releaseCells (ixOf o) 0 (n / 6 % 4096) false ((List.range (ceilDiv f.count 8)).map (slicePayload s f (n - 5))) s
  else s

/-- AUD_SAT for a second that has ended (R278). -/
def reportSat (s : State) : State :=
  if s.aud.satSec = secOf s then s
  else
    raiseIf (decide (0 < s.aud.satN)) { src := 0x164, data := [(2, s.aud.satLow), (4, s.aud.satN)] }
      { s with aud := { s.aud with satSec := secOf s, satN := 0, satLow := 0 } }

/-- Input words older than any matrix or engine read reaches are no longer kept. -/
def dropInputs (p : Nat) (s : State) : State :=
  { s with aud := { s.aud with inp := tmap s.aud.inp (fun ch t =>
      t.filter (fun e => decide (p * rateIn s ch ≤ (e.1 + 256) * matrixRate s))) } }

/-- MATRIX_SAMPLE_PERIOD: `bad` lists what reads of input channels, and with poison of output channels' delay lines, meet. The
next sample period begins; the matrix reads input period n + 2 − M and forms output period n. -/
def opMatrixSamplePeriod (residueBad : Option Nat) (bad : List (Nat × ReadFault)) (s : State) : State :=
  let n := s.aud.period + 1
  let s := atLeast (periodStart (matrixRate s) n) s
  let s := { s with aud := { s.aud with period := n } }
  if !bit (rd s .audCfg 0) 31 then s
  else
    let s := reportSat s
    let s := (feeding s).foldl (fun s ch => readInput (n + 2 - matrixDelay s) bad ch s) s
    let s := runZ n s
    let s := (tkeys s.flows (fun k f => nsOf k == 1 && f.essence == 1 && f.st == .running)).foldl (fun s o => runOutput bad n o s) s
    let s := { s with aud := { s.aud with xps := (tmap s.aud.xps (fun _ l => settleXps n s.tim.now l)).filter (fun p => !p.2.isEmpty) } }
    let s := dropInputs (n - matrixDelay s) s
    match residueBad with
    | some ch => checkFail true { src := 0x247, data := [(2, ch), (2, n / 6 % 4096)] } s
    | none => s

/-! ## Channel status and delay commands (R283, R293, R294) -/

/-- AUD_CS_SET. -/
def opAudCsSet (c : Cmd) (flow a : Nat) (img : List Byte) (s : State) : State :=
  hostCmd c 0x0530 true (checked
    (fun s => [
      (!flowNumOk flow || nsOf flow != 1 || (match flow? s (normFlow flow) with | some f => f.essence != 1 | none => true),
        badArg c 24 s),
      (!c.hostOk, addressError a)])
    (fun s =>
      let l := withCrcc (hostBytes s a 24)
      (replyDone, journal 0x50 (leBytes 1 2 ++ leBytes 2 (normFlow flow) ++ l)
        { s with aud := { s.aud with cs := tput s.aud.cs (normFlow flow) l } }))) (place a img s)

/-- Bytes per channel of AUD_DELAY_READ. -/
def delayBytes (s : State) (ch : Nat) : List Byte :=
  let d := (delayLine? s ch).getD {}
  leBytes 4 d.cur ++ leBytes 4 (d.store * 2 ^ 30 + flag d.change.isSome 29 + d.max)

def delayRange (s : State) (first count : Nat) : List Byte :=
  (List.range count).flatMap (fun i => delayBytes s (first + i))

def journalDelay (first count : Nat) (s : State) : State :=
  journal 0x50 (leBytes 1 1 ++ leBytes 2 first ++ leBytes 2 count ++ delayRange s first count) s

/-- MAX allowed in a store: 2 s or 60 s of samples. -/
def delayMax (s : State) (store : Nat) : Nat := (if store = 1 then 2 else 60) * matrixRate s

/-- What `count` channels with MAX samples cost: MB/s and MiB (the audio DELAY row of R247). -/
def delayCost (s : State) (count max_ : Nat) : Nat × Nat :=
  (2 * ceilDiv (4 * count * matrixRate s) 1000000, ceilDiv (4 * count * (max_ + 6)) 1048576)

/-- The first channel of a range that refuses AUD_DELAY_SET, and why: an allocation meets a line or a pending change, a
release a pending change or a delay other than 0. -/
def setRefusal (s : State) (first count : Nat) (release : Bool) : Option (Nat × Nat) :=
  ((List.range count).findSome? (fun i =>
    match delayLine? s (first + i) with
    | none => none
    | some d =>
      if d.change.isSome then some (first + i, 1)
      else if !release then some (first + i, 2)
      else if d.cur ≠ 0 then some (first + i, 3) else none))

/-- The first channel of a range that refuses AUD_DELAY_CHANGE, and why. -/
def changeRefusal (s : State) (first count : Nat) : Option (Nat × Nat) :=
  ((List.range count).findSome? (fun i =>
    match delayLine? s (first + i) with
    | none => some (first + i, 0)
    | some d => if d.change.isSome then some (first + i, 1) else none))

/-- ACCESS_DENIED with AUD_DELAY_REFUSED. -/
def delayRefused (r : Nat × Nat) (s : State) : Reply × State :=
  (denied, raise { src := 0x169, data := [(2, r.1), (1, r.2)] } s)

/-- An allocation without some channels, its cost that of the channels left. -/
def shrinkAlloc (s : State) (first count : Nat) (x : DelayAlloc) : Option DelayAlloc :=
  let l := x.chs.filter (fun ch => decide (ch < first) || decide (first + count ≤ ch))
  if l.isEmpty then none
  else
    let k := delayCost s l.length x.max
    some { x with chs := l, bw := k.1, cap := k.2 }

/-- Whether the store named 1 or 2 can take more bandwidth and capacity. -/
def storeFits (s : State) (store bw cap : Nat) : Bool :=
  decide (storeBw s (store - 1) + bw ≤ storeLimit s (store - 1)) &&
    decide (storeCap s (store - 1) + cap ≤ regionMib s (store - 1))

/-- AUD_DELAY_SET. -/
def opAudDelaySet (c : Cmd) (first count store max_ : Nat) : State → State :=
  hostCmd c 0x0520 true (fun s =>
    match firstErr [
      (decide (matrixChannels s ≤ first), badArg c 24 s),
      (count == 0 || decide (1024 < count) || decide (matrixChannels s < first + count), badArg c 26 s),
      (decide (2 < store), badArg c 28 s), (store != 0 && decide (delayMax s store < max_), badArg c 32 s)] with
    | some r => (r, s)
    | none =>
      match setRefusal s first count (store == 0) with
      | some r => delayRefused r s
      | none =>
        if store = 0 then
          let s' := { s with aud := { s.aud with
            delays := s.aud.delays.filter (fun d => decide (d.1 < first) || decide (first + count ≤ d.1))
            allocs := s.aud.allocs.filterMap (shrinkAlloc s first count) } }
          (replyDone, journalDelay first count s')
        else
          let k := delayCost s count max_
          if !storeFits s store k.1 k.2 then (refusedAt (argAt c 28 s), s)
          else
            let chs := (List.range count).map (fun i => first + i)
            let s' := { s with aud := { s.aud with
              delays := chs.foldl (fun t ch => tput t ch { store := store, max := max_ }) s.aud.delays
              allocs := s.aud.allocs ++ [{ chs := chs, store := store, max := max_, bw := k.1, cap := k.2 }] } }
            (replyDone, journalDelay first count (ungateHbm s s')))

/-- AUD_DELAY_CHANGE. -/
def opAudDelayChange (c : Cmd) (first count delay ramp dom fi : Nat) : State → State :=
  hostCmd c 0x0521 true (fun s =>
    let over_ := (List.range count).any (fun i =>
      match delayLine? s (first + i) with | some d => decide (d.max < delay) | none => false)
    match firstErr [
      (decide (matrixChannels s ≤ first), badArg c 24 s),
      (count == 0 || decide (matrixChannels s < first + count), badArg c 26 s),
      (over_, badArg c 28 s), (decide (1024 < ramp), badArg c 32 s), (decide (7 < dom) || !domEn s dom, badArg c 34 s)] with
    | some r => (r, s)
    | none =>
      match changeRefusal s first count with
      | some r => delayRefused r s
      | none =>
        let t := tOf s dom (fullFi s dom fi)
        if t < s.tim.now + framesNs s dom 2 then (replyLate, s)
        else
          let x : DelayChange :=
            { new := delay, ramp := rampOf ramp, dom := dom, fi := fi, s0 := periodFrom s t, first := first, count := count
              tag := c.tag }
          let s' := { s with aud := { s.aud with
            delays := (List.range count).foldl (fun l i => tupd l (first + i) {} (fun d => { d with change := some x })) s.aud.delays } }
          (accepted, journalDelay first count s'))

/-- AUD_DELAY_CROSSFADE_END: the crossfade of RAMP samples ends on every channel of its range; a 0x0010 channel may still wait for
its block start. -/
def opAudDelayCrossfadeEnd (out : Nat) (s : State) : State :=
  match (delayLine? s out).bind (fun d => d.change) with
  | none => s
  | some x =>
    if x.ended then s
    else
    let s := atLeast (periodStart (matrixRate s) (x.s0 + x.ramp)) s
    let s := { s with aud := { s.aud with
      delays := tmap s.aud.delays (fun ch d =>
        if d.change != some x then d
        else if rawPair s ch && d.cur != x.new then { d with change := some { x with ended := true } }
        else { d with cur := x.new, change := none }) } }
    journalDelay x.first x.count
      (raise { src := 0x168, data := [(2, x.first), (2, x.count), (4, x.new)], fin := some x.tag } s)

/-- AUD_DELAY_READ. -/
def opAudDelayRead (c : Cmd) (first count a : Nat) : State → State :=
  hostCmd c 0x0522 false (checked
    (fun s => [(decide (matrixChannels s ≤ first), badArg c 24 s),
      (count == 0 || decide (matrixChannels s < first + count), badArg c 26 s)])
    (readBack c a (fun s => delayRange s first count)))

/-! ## Ports (R285 to R291) -/

def audPort (s : State) (p : Nat) : AudPort := tgetD s.aud.ports p {}
def setAudPort (p : Nat) (x : AudPort) (s : State) : State := { s with aud := { s.aud with ports := tput s.aud.ports p x } }
def audRate (x : AudPort) : Nat := if x.rate = 1 then 96000 else 48000
/-- Channels of a port: 2, 56 or 64. -/
def audChannels (p : Nat) (x : AudPort) : Nat := if p < 32 then 2 else if x.mode = 1 then 56 else 64
/-- Word-select mode of a serial port, and its master and slave forms. -/
def wordSelect (p : Nat) (x : AudPort) : Bool := decide (p < 32) && x.mode == 1
def wsMaster (p : Nat) (x : AudPort) : Bool := wordSelect p x && x.clock == 0

/-- The 16 bytes of a port descriptor. -/
def portBytes (p : Nat) (x : AudPort) : List Byte :=
  leBytes 1 p ++ leBytes 1 x.mode ++ leBytes 1 x.clock ++ leBytes 1 x.justify ++ leBytes 1 x.rate ++ leBytes 1 x.dirs ++ zeros 2 ++
    leBytes 4 (ofSigned 32 x.rxOffset) ++ leBytes 4 x.txOffset

/-- The checks of a port descriptor at `a` (R285). -/
def portChecks (l : List Byte) (a : Nat) : List (Bool × Reply) :=
  let p := fieldAt l 0 1
  let m := fieldAt l 1 1
  let ws := decide (p < 32) && m == 1
  let rx := toSigned 32 (fieldAt l 8 4)
  [(decide (39 < p), badField a), (decide (2 < m), badField (a + 1)),
    (decide ((if ws then 1 else 0) < fieldAt l 2 1), badField (a + 2)),
    (decide ((if ws then 1 else 0) < fieldAt l 3 1), badField (a + 3)),
    (decide ((if p < 32 then 1 else 0) < fieldAt l 4 1), badField (a + 4)),
    (decide (100000 < rx.natAbs), badField (a + 8)), (decide (100000 < fieldAt l 12 4), badField (a + 12))]

/-- Any flow on an AUD port is RUNNING or HELD. -/
def audPortBusy (s : State) (p : Nat) : Bool := s.flows.any (fun f => f.2.endpoint == 4 && f.2.port == p && active f.2)

/-- AUD_PORT_SET. -/
def opAudPortSet (c : Cmd) (a : Nat) (img : List Byte) (s : State) : State :=
  hostCmd c 0x0501 true (checked
    (fun s =>
      let l := hostBytes s a 16
      (!c.hostOk, addressError a) :: portChecks l a ++ [(audPortBusy s (fieldAt l 0 1), denied)])
    (fun s =>
      let l := hostBytes s a 16
      let p := fieldAt l 0 1
      let x : AudPort :=
        { audPort s p with
          mode := fieldAt l 1 1, clock := fieldAt l 2 1, justify := fieldAt l 3 1, rate := fieldAt l 4 1
          dirs := fieldAt l 5 1 % 4, rxOffset := toSigned 32 (fieldAt l 8 4), txOffset := fieldAt l 12 4
          st := if fieldAt l 1 1 = 0 then .disabled else .acquire
          steady := 0, guard_ := [], rampUp := none, rampDown := none, txNext := 0 }
      (replyDone, journal 0x12 (leBytes 1 1 ++ portBytes p x) (setAudPort p x s)))) (place a img s)

/-- AUD_PORT_READ. -/
def opAudPortRead (c : Cmd) (p a : Nat) : State → State :=
  hostCmd c 0x0502 false (checked (fun s => [(decide (39 < p), badArg c 24 s)]) (readBack c a (fun s => portBytes p (audPort s p))))

/-- AUD_PORT_RESUME (R290, R291). -/
def opAudPortResume (c : Cmd) (p : Nat) : State → State :=
  hostCmd c 0x0503 true (checked
    (fun s => [(decide (39 < p), badArg c 24 s), ((audPort s p).st != .lost && (audPort s p).st != .slipped, denied)])
    (fun s => (replyDone, setAudPort p { audPort s p with st := .acquire, steady := 0, guard_ := [], rampDown := none } s)))

/-- A sample word faded: `k` steps into a ramp of `n` from silence or to it; a 0x0010 flow's words are silenced at once. -/
def fadeWord (up raw : Bool) (k n w : Nat) : Nat :=
  if raw then (if up then w else 0)
  else if up then wordOf (lerp 0 (sampleOf w) k n) (w % 256) else wordOf (lerp (sampleOf w) 0 k n) (w % 256)

/-- One guarded period of a port written to the port's RUNNING input flows, each word through `fade`. -/
def writePort (p n : Nat) (words : List Nat) (fade : Bool → Nat → Nat) (s : State) : State :=
  (portFlows s 0 4 p (fun f => f.st == .running)).foldl (fun s k =>
    let f := flowD s k
    storeSamples n f.base
      ((List.range f.count).map (fun i => fade (f.format == 0x10) (words.getD (fieldAt f.params 0 1 + i) 0))) s) s

/-- The guarded samples of a port written ramped to zero (R290). -/
def flushPort (p : Nat) (s : State) : State :=
  let g := (audPort s p).guard_
  let s := g.zipIdx.foldl (fun s e => writePort p e.1.1 e.1.2 (fun raw w => fadeWord false raw e.2 g.length w) s) s
  setAudPort p { audPort s p with guard_ := [] } s

/-- A word as a port receives it: a word-select port carries no V, U or C, and Z on multiples of 192 (R286). -/
def portWord (p : Nat) (x : AudPort) (n w : Nat) : Nat :=
  if wordSelect p x then w / 256 * 256 + flag (n % 192 == 0) 4 else w / 16 * 16

/-- A locked port's frame of period `n`: held for 24 periods, then written, with a ramp from silence after a lock. -/
def takeFrame (p n : Nat) (words : List Nat) (s : State) : State :=
  let x := audPort s p
  let g := x.guard_ ++ [(n, words.map (portWord p x n))]
  let due := g.filter (fun e => decide (e.1 + 24 ≤ n))
  let s := due.foldl (fun s e => writePort p e.1 e.2 (fun raw w =>
    match x.rampUp with
    | some u => if e.1 < u + 240 then fadeWord true raw (e.1 - u) 240 w else w
    | none => w) s) s
  setAudPort p { audPort s p with guard_ := g.filter (fun e => !decide (e.1 + 24 ≤ n)) } s

/-- The period of rate `r` whose start is nearest to an instant, and the phase of the instant against it (R287). -/
def nearPeriod (r : Nat) (t : Int) : Int := (2 * t * (r : Int) + 1000000000) / 2000000000
def phaseOf (r : Nat) (t : Int) : Int := t + -(nearPeriod r t * 1000000000) / (r : Int)

/-- Lock and slip judged on one reference instant `t` (R287, R291): `dir` 0 receive, 1 transmit. -/
def judgePort (p dir : Nat) (t : Int) (s : State) : State :=
  let x := audPort s p
  match x.st with
  | .acquire =>
    let phi := phaseOf (audRate x) t
    let lo := min x.phiLo phi
    let hi := max x.phiHi phi
    let fits := x.steady != 0 && decide (8 * (hi - lo) * (audRate x : Int) ≤ 1000000000)
    let x := if fits then { x with steady := x.steady + 1, phiLo := lo, phiHi := hi }
             else { x with steady := 1, phiLo := phi, phiHi := phi }
    if x.steady < 48 then setAudPort p { x with clockHere := true } s
    else
      raise { src := 0x162, data := [(1, p), (4, ofSigned 32 phi)] }
        (setAudPort p { x with
          st := .locked, clockHere := true, phi0 := phi, phi := phi, guard_ := []
          rampUp := some (periodAt (audRate x) s.tim.now + 1) } s)
  | .locked =>
    let phi := x.phi0 + phaseOf (audRate x) (t - x.phi0)
    if 1000000000 < 4 * (phi - x.phi0).natAbs * audRate x then
      let s := flushPort p (setAudPort p { x with phi := phi } s)
      let s := holdFlows (portFlows s 0 4 p (fun f => f.st == .running)) 0xFFFF s
      raise { src := 0x161, data := [(1, p), (1, dir), (4, ofSigned 32 (phi - x.phi0))] }
        (setAudPort p { audPort s p with st := .slipped, rampDown := some 0 } s)
    else setAudPort p { x with phi := phi, clockHere := true } s
  | _ => setAudPort p { x with clockHere := true } s

/-- Coding and channel-status errors counted; AUD_CODING_ERR at most once per second (R286). -/
def codingErrors (p coding crcc : Nat) (s : State) : State :=
  let x := audPort s p
  let l := x.codingAt.filter (fun e => decide (s.tim.now < e.1 + 1000000000)) ++ (if coding = 0 then [] else [(s.tim.now, coding)])
  let s := setAudPort p { x with coding := satAdd 16 x.coding coding, crcc := satAdd 16 x.crcc crcc, codingAt := l } s
  if coding = 0 then s else raiseOnce p (secOf s) { src := 0x165, data := [(1, p), (4, sumBy l Prod.snd)] } s

/-- AUD_PORT_FRAME_RX: one received frame with the stamp of its reference instant. A locked port's mismatch of rate, or of a
MADI channel found inactive, holds the flows concerned (R289, R290). -/
def opAudPortFrameRx (p stamp : Nat) (words inactive : List Nat) (rate codingErr crccErr : Nat) (s : State) : State :=
  let x := audPort s p
  if 39 < p || x.st == .disabled || !bit x.dirs 0 || !bit (rd s .audCfg 0) 31 then s
  else
    let s := judgePort p 0 ((stamp : Int) - x.rxOffset) (codingErrors p codingErr crccErr s)
    let x := audPort s p
    if x.st != .locked then s
    else if rate != x.rate then
      holdFlows (portFlows s 0 4 p (fun f => f.st == .running)) 0xFFFF s
    else
      let hit (f : Flow) := inactive.any (fun ch => decide (fieldAt f.params 0 1 ≤ ch) && decide (ch < fieldAt f.params 0 1 + f.count))
      let s := holdFlows (portFlows s 0 4 p (fun f => f.st == .running && hit f)) 0xFFFF s
      takeFrame p (nearPeriod (audRate x) ((stamp : Int) - x.rxOffset - x.phi0)).toNat words s

/-- The RUNNING output flow that covers a port channel. -/
def txFlow (s : State) (p ch : Nat) : Option Flow :=
  (s.flows.find? (fun f => nsOf f.1 == 1 && f.2.endpoint == 4 && f.2.port == p && f.2.st == .running &&
    decide (fieldAt f.2.params 0 1 ≤ ch) && decide (ch < fieldAt f.2.params 0 1 + f.2.count))).map Prod.snd

/-- The word of a port channel to be sent for period `n`: the flow's that covers it, else zero. -/
def txWord (s : State) (p n ch : Nat) : Nat :=
  match txFlow s p ch with
  | some f =>
    let w := tgetD (tgetD s.aud.post (f.base + (ch - fieldAt f.params 0 1)) []) n 0
    if wordSelect p (audPort s p) then w / 256 * 256 else w
  | none => 0

/-- A slave word-select port, whose bit clock and word select are external. -/
def wsSlave (p : Nat) (x : AudPort) : Bool := wordSelect p x && x.clock == 1

/-- A port's clock is its own: a word-select master, or an AES3 or MADI port that only sends. -/
def ownClock (p : Nat) (x : AudPort) : Bool := wsMaster p x || (!wordSelect p x && !bit x.dirs 0)

/-- What a port sends on a channel for period `n` by its state: a locked port ramps up over 240 samples, a slipped one down over
24 frames, and the rest send zero (R287, R290, R291). -/
def portSends (s : State) (p n ch : Nat) : Nat :=
  let x := audPort s p
  let w := txWord s p n ch
  let raw := (txFlow s p ch).any (fun f => f.format == 0x10)
  match x.st with
  | .locked =>
    match x.rampUp with
    | some u => if n < u + 240 then fadeWord true raw (n - u) 240 w else w
    | none => w
  | .slipped =>
    match x.rampDown with
    | some k => fadeWord false raw k 24 w
    | none => 0
  | .acquire => if !bit x.dirs 0 && !wsSlave p x then w else 0
  | _ => 0

/-- AUD_PORT_FRAME_TX: the frame of period n, two periods and TX_OFFSET_NS after the period's start, or for a slave the period
that its word-select edge, stamped `stamp`, is nearest to (R288). A slave without its clock sends nothing. -/
def opAudPortFrameTx (p stamp : Nat) (s : State) : State :=
  let slave := wsSlave p (audPort s p)
  let t : Int := (stamp : Int) - ((audPort s p).txOffset : Int)
  let s := if slave && !bit (audPort s p).dirs 0 && (audPort s p).st != .disabled then judgePort p 1 t s else s
  let x := audPort s p
  let r := audRate x
  if 39 < p || x.st == .disabled || !bit x.dirs 1 || !bit (rd s .audCfg 0) 31 || (slave && x.st == .lost && !x.clockHere) || !drives s then s
  else
    let n := if slave then (nearPeriod r t - 2).toNat else max x.txNext (nearPeriod r ((s.tim.now : Int) - (x.txOffset : Int)) - 2).toNat
    let s := if slave then s else atLeast (periodStart r (n + 2) + x.txOffset) s
    let chs := List.range (audChannels p x)
    let off := if p < 32 then [] else chs.filter (fun ch => (txFlow s p ch).isNone)
    let s := { s with wire := s.wire ++ [.audio p n (chs.map (portSends s p n)) off] }
    setAudPort p { x with txNext := n + 1, rampDown := x.rampDown.map (fun k => k + 1) } s

/-- AUD_CLOCK_LOSS (R290): an external clock shows no transition. -/
def opAudClockLoss (p : Nat) (s : State) : State :=
  let x := audPort s p
  if 39 < p || x.st == .disabled || ownClock p x then s
  else
    match x.st with
    | .locked =>
      let s := flushPort p s
      raise { src := 0x160, data := [(1, p)] } (setAudPort p { audPort s p with st := .lost, clockHere := false } s)
    | .acquire => setAudPort p { x with clockHere := false, steady := 0 } s
    | _ => setAudPort p { x with clockHere := false } s

end Sys2Proof.Machine
end

