-- ==== Sys2Proof/Machine/Irkai.lean ====
section
/-!
DEFINITION. The Irkai array (R228 to R253): function descriptors and parameter sets, frame buffers and their writers, the frame
synchroniser, audits and engine sparing.
-/
namespace Sys2Proof.Machine
open Sys2Proof

def room (s : State) (c : Nat) : Classroom := tgetD s.ika.rooms c {}
def setRoom (c : Nat) (r : Classroom) (s : State) : State := { s with ika := { s.ika with rooms := tput s.ika.rooms c r } }
/-- IKA_CLASS_CFG.EN. -/
def roomEn (s : State) (c : Nat) : Bool := bit (rd s .ikaClassCfg c) 31
/-- A function is in the catalogue (R229). -/
def catHas (s : State) (f : Nat) : Bool := decide (1 ≤ f) && decide (f ≤ 7) && bits (tgetD s.ika.cat f 0) 31 24 == f
/-- The number of a processed flow. -/
def pfNum (ix : Nat) : Nat := flowNum 2 ix

/-! ## PROC_SET (R230, R231, R234) -/

/-- Essences a function serves. -/
def funcEssence (fn e : Nat) : Bool :=
  match fn with
  | 1 => e == 0 || e == 2
  | 5 => e == 1
  | 6 => e == 1
  | 7 => e == 0 || e == 1 || e == 2
  | _ => e == 0

/-- STORE as R231 fixes it. -/
def storeOk (fn mode st : Nat) : Bool :=
  match fn with
  | 1 => st == 1
  | 2 => st == mode
  | 4 => st == 1
  | 7 => st == 1 || st == 2
  | _ => st == 0

def tapsOk (t : Nat) : Bool := t == 2 || t == 4 || t == 6 || t == 8

/-- IN_FORMAT and IN_COLOUR of a function against the flow (R230, R238, R240 to R243). -/
def inFormatOk (p : Proc) (f : Flow) : Bool :=
  let x := pInFormat p
  match pFunc p with
  | 2 => videoFormatOk x && fmtRate x == fmtRate f.format && !fmtInterlaced x && !fmtInterlaced f.format &&
      fmtSampling x == fmtSampling f.format
  | 3 => videoFormatOk x && fmtRate x == fmtRate f.format && fmtRaster x == fmtRaster f.format
  | 4 => videoFormatOk x && !fmtInterlaced f.format
  | 5 => x == f.format && x != 0x10
  | 6 => decide (1 ≤ x) && decide (x ≤ 4) && f.format != 0x10
  | _ => x == f.format

def inColourOk (p : Proc) (f : Flow) : Bool :=
  if f.essence ≠ 0 then pInColour p == 0
  else if pFunc p = 3 || pFunc p = 4 then colourOk (pInFormat p) (pInColour p)
  else pInColour p == f.colour

/-- YCbCr or RGB, as the sampling code fixes it. -/
def isRgb (f : Nat) : Bool := fmtSampling f == 4 || fmtSampling f == 6

/-- One layer entry of a COMPOSE body against the flow (R254 to R256). -/
def layerOk (f : Flow) (l : LayerDef) : Bool :=
  (l.kind == 1 || l.kind == 2) && decide (l.fillIn < 16) && (l.keyIn == 0xFF || decide (l.keyIn < 16)) &&
    (if l.kind = 1 then tapsOk l.tapsH && tapsOk l.tapsV && decide (1 ≤ l.lbKib) else l.tapsH == 0 && l.tapsV == 0 && l.lbKib == 0) &&
    videoFormatOk l.format && !fmtInterlaced l.format && fmtRate l.format == fmtRate f.format &&
    isRgb l.format == isRgb f.format && colourOk l.format l.colour && l.colour % 64 == f.colour % 64

/-- The offset in the descriptor of the first COMPOSE field out of range. -/
def composeBad (p : Proc) (f : Flow) : Option Nat :=
  let n := pBody p 0 1
  if n = 0 ∨ 16 < n then some 32
  else
    match (List.range 16).find? (fun i => if i < n then !layerOk f (layerDef p i) else pBody p (16 + 8 * i) 8 != 0) with
    | some i => some (48 + 8 * i)
    | none =>
      let ins := composeInputs p
      if (ins.map (fun x => x.1)).eraseDups.length ≠ ins.length then some 48
      else
        match ins.find? (fun x => x.1 == 0) with
        | none => some 48
        | some x => if x.2.1 ≠ pInFormat p then some 4 else if x.2.2 ≠ pInColour p then some 6 else none

/-- The offset in the descriptor of the first BODY field out of range. -/
def bodyBad (p : Proc) (f : Flow) : Option Nat :=
  match pFunc p with
  | 1 =>
    let l := pBody p 2 2
    if f.essence = 0 then (if l ≠ 0 then some 34 else none)
    else if nsOf l ≠ 2 ∨ flowNumOk l = false then some 34 else none
  | 2 =>
    let h := fmtLines (pInFormat p)
    if !tapsOk (pBody p 0 1) then some 32 else if !tapsOk (pBody p 1 1) then some 33
    else if pMode p = 1 then (if pBody p 2 2 ≠ 0 then some 34 else if pBody p 4 2 ≠ 0 then some 36 else none)
    else if h ≤ pBody p 2 2 then some 34
    else if pBody p 4 2 = 0 ∨ h < pBody p 2 2 + pBody p 4 2 then some 36 else none
  | 4 => composeBad p f
  | 5 =>
    let n := pBody p 0 1
    if n = 0 ∨ 16 < n then some 32
    else ((List.range n).find? (fun k => pBody p (4 + k) 1 == 0 || decide (64 < pBody p (4 + k) 1))).map (fun k => 36 + k)
  | 7 =>
    let m := pBody p 0 4
    let top := if f.essence = 1 then (if pStore p = 1 then 2 else 60) * audioRate f.format else 3600
    if m = 0 ∨ top < m then some 32 else none
  | _ => none

/-- Λ of a MODE LINE scaler (R234): terms compared in units of Po / (total source lines). -/
def lambdaLine (p : Proc) (f : Flow) : Nat :=
  let ho := fmtLines f.format
  let lo := fmtTotal f.format
  let ls := fmtTotal (pInFormat p)
  let cy := pBody p 2 2
  let ch := pBody p 4 2
  let tv := pBody p 1 1
  let need (k : Nat) : Int :=
    let y : Int := (((2 * k + 1) * ch : Nat) - (ho : Int)) / ((2 * ho : Nat) : Int)
    let j : Int := min ((cy + ch : Nat) - 1 : Int) ((cy : Int) + y + ((tv / 2 : Nat) : Int))
    (((rasterA (fmtRaster (pInFormat p)) 0 + pInLag p : Nat) : Int) + j) * (lo : Int) -
      ((rasterA (fmtRaster f.format) 0 + k : Nat) : Int) * (ls : Int)
  let worst := (List.range ho).foldl (fun m k => max m (need k)) (need 0)
  max 3 (1 + (-((-worst) / (ls : Int)))).toNat

/-- Λ and WINDOW of a function (R231, R254). -/
def lambdaOf (p : Proc) (f : Flow) : Nat :=
  if f.essence ≠ 0 then 0
  else if pFunc p = 2 ∧ pMode p = 0 then lambdaLine p f
  else if pFunc p = 3 then 1 + pInLag p else 3
def windowSize (p : Proc) : Nat := if pFunc p = 2 ∧ pMode p = 0 then min 8 (pBody p 1 1 / 2 + 2) else 2

/-- DELAY of a function before its parameter set is known (R230, R238, R242, R243, R254). -/
def fixedDelay (p : Proc) (f : Flow) : Nat :=
  match pFunc p with
  | 1 => 1
  | 2 => pMode p
  | 4 => 1
  | 5 => 6
  | 6 => audioRate f.format / 1000
  | _ => 0

/-- The DELAY readback a parameter set of DELAY gives (R241). -/
def setDelay (f : Flow) (b : List Byte) : Nat := fieldAt b 0 4 + (if f.essence = 1 then 6 else 0)

/-- The checks of a function descriptor at `a` for a defined processed flow. -/
def procChecks (s : State) (a : Nat) (p : Proc) (f : Flow) : List (Bool × Reply) :=
  let fn := pFunc p
  [(active f || !roomEn s f.port, denied), (!catHas s fn || !funcEssence fn f.essence, badField (a + 2)),
    (decide ((if fn = 2 then 1 else 0) < pMode p), badField (a + 3)), (!inFormatOk p f, badField (a + 4)),
    (!inColourOk p f, badField (a + 6)),
    (if f.essence = 0 then decide (pInLag p < 2) || decide (8 < pInLag p) else pInLag p != 0, badField (a + 7)),
    (!storeOk fn (pMode p) (pStore p), badField (a + 8)), (decide (7 < pInitSet p), badField (a + 9)),
    ((bodyBad p f).isSome, badField (a + (bodyBad p f).getD 0)), (decide (fn = 2 ∧ pMode p = 0 ∧ 8 < lambdaOf p f), refusedAt (a + 3))]

/-- Bytes of BODY that a function defines (R235 to R243, R255): the others are reserved. -/
def bodyKept (fn off : Nat) : Bool :=
  match fn with
  | 1 => off == 0 || off == 2 || off == 3
  | 2 => decide (off < 6)
  | 4 => off == 0 || (decide (16 ≤ off) && decide (off < 144))
  | 5 => off == 0 || (decide (4 ≤ off) && decide (off < 20))
  | 7 => decide (off < 4)
  | _ => false

/-- A descriptor as it is kept: reserved and readback fields are 0 (R3, R230). -/
def normDesc (l : List Byte) : List Byte :=
  let fn := fieldAt l 2 1
  slice l 0 6 ++ leBytes 1 (fieldAt l 6 1 % 128) ++ slice l 7 3 ++ zeros 22 ++
    (List.range 224).flatMap (fun i =>
      leBytes 1 (if !bodyKept fn i then 0
        else if fn = 4 ∧ 16 ≤ i ∧ i % 8 = 6 then fieldAt l (32 + i) 1 % 128
        else fieldAt l (32 + i) 1))

/-- The 256-byte descriptor with its readback fields. -/
def procBytes (p : Proc) : List Byte :=
  padTo 10 p.desc ++ zeros 2 ++ leBytes 4 p.cycles ++ leBytes 2 p.lineMem ++ leBytes 1 p.lambda ++ leBytes 1 p.window ++
    leBytes 4 p.bw ++ leBytes 4 p.cap ++ leBytes 4 p.delay ++ padTo 224 (p.desc.drop 32)

/-- The journal's PROC record: flow, set in force, sets loaded, descriptor, then each set. -/
def procData (s : State) (ix : Nat) : List Byte :=
  let p := proc s ix
  leBytes 2 (pfNum ix) ++ leBytes 1 p.inForce ++ leBytes 1 p.sets.length ++ procBytes p ++
    p.sets.flatMap (fun x => leBytes 4 x.1 ++ leBytes 4 x.2.length ++ x.2)

def journalProc (ix : Nat) (s : State) : State := journal 0x40 (procData s ix) s

/-- A descriptor accepted: sets of another function are dropped. -/
def acceptProc (ix : Nat) (p old : Proc) (f : Flow) (s : State) : State :=
  let k := procCost s p f
  let p := { p with
    sets := if pFunc p = pFunc old then old.sets else []
    inForce := pInitSet p, lambda := lambdaOf p f, window := windowSize p, delay := fixedDelay p f
    cycles := k.cycles, lineMem := k.lineMem, bw := k.bw, cap := k.cap }
  journalProc ix (setProc ix p s)

/-- PROC_SET. -/
def opProcSet (c : Cmd) (a : Nat) (img : List Byte) (s : State) : State :=
  hostCmd c 0x0401 true (fun s =>
    let l := hostBytes s a 256
    let n := normFlow (fieldAt l 0 2)
    let p : Proc := { desc := normDesc l, addr := a }
    match flow? s n with
    | none => (if c.hostOk then badField a else addressError a, s)
    | some f =>
      checked (fun s => (!c.hostOk, addressError a) :: (nsOf n != 2 || !flowNumOk (fieldAt l 0 2), badField a) :: procChecks s a p f)
        (fun s => (replyDone, ungateHbm s (acceptProc (ixOf n) p (proc s (ixOf n)) f s))) s) (place a img s)

/-! ## PROC_PARAM_LOAD (R239, R240, R243, R244, R257) -/

/-- Length of a function's parameter set. -/
def setLen (fn : Nat) : Nat :=
  match fn with
  | 2 => 2112
  | 3 => 215686
  | 4 => 544
  | 5 => 1028
  | 7 => 8
  | _ => 0

/-- The used taps of phase `ph` of a coefficient table at `off` sum to 16,384 (R239). -/
def coefsOk (b : List Byte) (off taps ph : Nat) : Bool :=
  ((List.range taps).map (fun i => toSigned 16 (fieldAt b (off + 16 * ph + 2 * ((8 - taps) / 2 + i)) 2))).sum == 16384

/-- The offset of the first SCALE field out of range. -/
def scaleSetBad (p : Proc) (b : List Byte) : Option Nat :=
  let w := fmtWidth (pInFormat p)
  let h := fmtLines (pInFormat p)
  let v (o : Nat) := fieldAt b o 2
  if w ≤ v 0 then some 0
  else if v 2 = 0 ∨ w < v 0 + v 2 then some 2
  else if pMode p = 1 ∧ h ≤ v 4 then some 4
  else if pMode p = 1 ∧ (v 6 = 0 ∨ h < v 4 + v 6) then some 6
  else if 1 < fieldAt b 8 1 then some 8
  else if fieldAt b 8 1 = 0 then none
  else
    match (List.range 64).find? (fun ph => !coefsOk b 64 (pBody p 0 1) ph) with
    | some ph => some (64 + 16 * ph)
    | none => ((List.range 64).find? (fun ph => !coefsOk b 1088 (pBody p 1 1) ph)).map (fun ph => 1088 + 16 * ph)

/-- A colour value whose words keep their reserved bits clear. -/
def colourWordsOk (b : List Byte) (off : Nat) : Bool :=
  (List.range 3).all (fun i => decide (fieldAt b (off + 2 * i) 2 < 4096))

/-- The offset, within layer entry `i` of a COMPOSE set, of the first field out of range (R257). -/
def layerSetBad (p : Proc) (f : Flow) (b : List Byte) (i : Nat) : Option Nat :=
  let o := 32 + 32 * i
  let l := layerDef p i
  let v (k : Nat) := fieldAt b (o + k) 2
  let th := bits (fieldAt b (o + 20) 1) 7 4
  let tv := bits (fieldAt b (o + 20) 1) 3 0
  let far (x y : Nat) := decide (16 * y < x) || decide (16 * x < y)
  if 4096 < v 2 then some 2
  else if v 8 = 0 ∨ fmtWidth f.format < v 4 + v 8 then some 8
  else if v 10 = 0 ∨ fmtLines f.format < v 6 + v 10 then some 10
  else if v 16 = 0 ∨ fmtWidth l.format < v 12 + v 16 then some 16
  else if v 18 = 0 ∨ fmtLines l.format < v 14 + v 18 then some 18
  else if l.kind = 2 ∧ v 8 ≠ v 16 then some 8
  else if l.kind = 2 ∧ v 10 ≠ v 18 then some 10
  else if l.kind = 1 ∧ far (v 16) (v 8) = true then some 16
  else if l.kind = 1 ∧ far (v 18) (v 10) = true then some 18
  else if (if l.kind = 1 then !(tapsOk th && tapsOk tv && decide (th ≤ l.tapsH) && decide (tv ≤ l.tapsV)) else th != 0 || tv != 0) then some 20
  else if !colourWordsOk b (o + 24) then some 24 else none

def composeSetBad (p : Proc) (f : Flow) (b : List Byte) : Option Nat :=
  if !colourWordsOk b 0 then some 0
  else ((List.range 16).filterMap (fun i =>
    if i < pBody p 0 1 then (layerSetBad p f b i).map (fun o => 32 + 32 * i + o)
    else if leNat (slice b (32 + 32 * i) 32) ≠ 0 then some (32 + 32 * i) else none)).head?

/-- A term of an AUDIO_MIX set: input, its channel, output channel, GAIN (R243). -/
structure MixTerm where
  inp : Nat
  ch : Nat
  out : Nat
  gain : Nat
deriving DecidableEq, Repr

def mixTerms (b : List Byte) : List MixTerm :=
  (List.range (fieldAt b 0 2)).map (fun i =>
    let w := fieldAt b (4 + 4 * i) 4
    { inp := bits w 31 28, ch := bits w 27 22, out := bits w 21 16, gain := bits w 15 0 })

def mixSetBad (p : Proc) (f : Flow) (b : List Byte) : Option Nat :=
  if 256 < fieldAt b 0 2 then some 0
  else ((mixTerms b).zipIdx.find? (fun t =>
    decide (pBody p 0 1 ≤ t.1.inp) || decide (pBody p (4 + t.1.inp) 1 ≤ t.1.ch) || decide (f.count ≤ t.1.out) ||
      !gainOk t.1.gain)).map (fun t => 4 + 4 * t.2)

/-- The offset of the first field of a parameter set out of range. -/
def setBad (p : Proc) (f : Flow) (b : List Byte) : Option Nat :=
  match pFunc p with
  | 2 => scaleSetBad p b
  | 3 =>
    if 1 < fieldAt b 0 1 then some 0
    else if fieldAt b 0 1 = 0 ∧ f.colour % 64 ≠ pInColour p % 64 then some 0 else none
  | 4 => composeSetBad p f b
  | 5 => mixSetBad p f b
  | 7 =>
    if fieldAt b 0 4 = 0 ∨ pBody p 0 4 < fieldAt b 0 4 then some 0
    else if f.essence = 1 ∧ 1024 < fieldAt b 4 2 then some 4 else none
  | _ => none

/-- The set in force at frame `n`: a change by a page waits for its frame (R105). -/
def setAt (p : Proc) (n : Nat) : Nat :=
  match p.next with
  | some (k, m) => if m ≤ n then k else p.inForce
  | none => p.inForce

/-- The parameter set in force. -/
def setNow (p : Proc) : List Byte := tgetD p.sets p.inForce []

/-- A set is in force, or a page that has activated is about to put it in force. -/
def setBusy (p : Proc) (f : Flow) (k : Nat) : Bool :=
  active f && (p.inForce == k || (p.next.map Prod.fst) == some k)

/-- The classroom's line memory holds a COLOUR set's LUT (R246). -/
def lutFits (s : State) (ix k : Nat) (b : List Byte) (f : Flow) : Bool :=
  let p := proc s ix
  let q := { p with sets := tput p.sets k b }
  pFunc p != 3 || fieldAt b 0 1 == 0 ||
    decide (roomLines s f.port + procLines q f ≤ 1984 + (if active f then procLines p f else 0))

/-- PROC_PARAM_LOAD. -/
def opProcParamLoad (c : Cmd) (pf k a : Nat) (img : List Byte) (s : State) : State :=
  let n := normFlow pf
  let ix := ixOf n
  hostCmd c 0x0402 true (checked
    (fun s =>
      let p := proc s ix
      let b := hostBytes s a (setLen (pFunc p))
      [(nsOf pf != 2 || !flowNumOk pf || (flow? s n).isNone || !hasProc p, badArg c 24 s), (decide (7 < k), badArg c 26 s),
        (!c.hostOk, addressError a), (setBusy p (flowD s n) k || setNamed s ix k, denied),
        ((setBad p (flowD s n) b).isSome, badField (a + (setBad p (flowD s n) b).getD 0)),
        (!lutFits s ix k b (flowD s n), refusedAt a)])
    (fun s =>
      let p := proc s ix
      (replyDone, journalProc ix (setProc ix { p with sets := tput p.sets k (hostBytes s a (setLen (pFunc p))) } s)))) (place a img s)

/-- PROC_READ (R252). -/
def procRecord (s : State) (ix : Nat) : List Byte :=
  let p := proc s ix
  procBytes p ++ leBytes 8 (p.inForce * 2 ^ 56 + (p.sets.foldl (fun m x => setBit m x.1) 0) * 2 ^ 48) ++
    leBytes 4 p.fsRepeat ++ leBytes 4 p.fsDrop

def opProcRead (c : Cmd) (pf a : Nat) : State → State :=
  hostCmd c 0x0403 false (checked
    (fun s => [(nsOf pf != 2 || !flowNumOk pf || (flow? s (normFlow pf)).isNone || !hasProc (proc s (ixOf pf)), badArg c 24 s)])
    (readBack c a (fun s => procRecord s (ixOf pf))))

/-! ## The set in force changes (R105, R241, R243) -/

/-- The set whose frame has come is in force; `at_` is the frame, or for audio the first sample period. -/
def commitSet (ix n : Nat) (s : State) : State :=
  let p := proc s ix
  let f := flowD s (pfNum ix)
  match p.next with
  | none => s
  | some (k, m) =>
    if n < m then s
    else
      let b := tgetD p.sets k []
      let q := { p with next := none, inForce := k, oldParams := tgetD p.sets p.inForce [], changedAt := m }
      let q := if pFunc p = 7 then
          { q with delay := setDelay f b
                   floor := if f.essence = 1 then 0
                            else if p.delay < setDelay f b then max p.floor (m - p.delay) else 0 }
        else q
      journalProc ix (setProc ix q s)

/-! ## Missing and held inputs (R235) -/

/-- The source of an input is HELD, or the input is unselected (R235). -/
def inputHeld (s : State) (ix k : Nat) : Bool :=
  let l := latched s (pfWord ix k)
  !l.sel || (flowD s l.src).st == .held

/-- A source line or block that a work item needs is not there. -/
def inputMissing (ix k line n : Nat) (s : State) : State :=
  let l := latched s (pfWord ix k)
  let p := proc s ix
  if inputHeld s ix k then
    if p.heldSeen.contains k then s
    else raise { src := 0x120, data := [(2, pfNum ix), (1, k), (2, l.src)] } (setProc ix { p with heldSeen := k :: p.heldSeen } s)
  else if (flowD s l.src).restore.isSome then s
  else raiseOnce ix n { src := 0x121, data := [(2, pfNum ix), (1, k), (2, line), (1, n % 256)] } s

/-- An input in an episode reads as fill until a take selects another source. -/
def inputDead (s : State) (ix k : Nat) : Bool := (proc s ix).heldSeen.contains k

/-! ## Frame buffers and their writers (R236 to R238, R241, R254, R268) -/

/-- Processed flows that write an input into frame buffers. -/
def buffers (p : Proc) : Bool := pFunc p == 1 || (pFunc p == 2 && pMode p == 1) || pFunc p == 4 || pFunc p == 7

def bufsOf (p : Proc) (k : Nat) : List FrameBuf := tgetD p.bufs k []
def setBufs (ix k : Nat) (l : List FrameBuf) (s : State) : State :=
  let p := proc s ix
  setProc ix { p with bufs := tput p.bufs k l } s

/-- Frames of input `k` that the function may still read once frame `m` is being written. -/
def keeps (p : Proc) (k m : Nat) (b : FrameBuf) : Bool :=
  decide (m ≤ b.n + 1) ||
    (if pFunc p = 7 then decide (m ≤ b.n + 1 + pBody p 0 4)
     else p.layers.any (fun x =>
       x.2.shown == some b.n && ((layerDef p x.1).fillIn == k || (layerDef p x.1).keyIn == k)))

/-- At its latch for frame `m`, an input that is written frame by frame opens that frame's buffer (R238, R241, R267, R269). -/
def openFrame (ix k m : Nat) (l : XpLive) (s : State) : State :=
  let p := proc s ix
  if !buffers p || pFunc p == 1 then s
  else
    let b : FrameBuf := { n := m, src := l.src, start := s.tim.now, void_ := !l.sel }
    setBufs ix k (b :: (bufsOf p k).filter (fun x => x.n != m && keeps p k m x)) s

/-- The selection of an input changed at its latch: a new episode may begin (R235), and a frame synchroniser releases every
buffer of the old source but the one being read (R237). -/
def inputChanged (ix k : Nat) (s : State) : State :=
  let p := proc s ix
  let p := { p with since := tput p.since k s.tim.now, heldSeen := p.heldSeen.filter (fun x => x != k) }
  let p := if pFunc p = 1 then
      { p with bufs := tput p.bufs k ((bufsOf p k).filter (fun b => p.reading == some (b.src, b.n) && b.done.isSome)) }
    else p
  setProc ix p s

/-- The start of a source's frame on the system counter: as recorded, or its boundary for a source without a record. -/
def startOf (s : State) (src n : Nat) : Nat :=
  match (tgetD s.ika.marks src []).find? (fun m => m.n == n) with
  | some m => m.at_
  | none => tOf s (flowD s src).domain n

/-- The first line, or the stream, that a frame of input 0 lacks. -/
def lacking (p : Proc) (f : Flow) (b : FrameBuf) : Option Nat :=
  (List.range (if f.essence = 0 then fmtLines (pInFormat p) else 1)).find? (fun k => (tget? b.lines k).isNone)

/-- A frame synchroniser's buffers when a new frame begins: the frame being written is complete, and of the complete frames
only the newest and the one being read stay; others were overwritten unread (R236). -/
def closeFrames (p : Proc) (now : Nat) : Proc :=
  let l := (bufsOf p 0).map (fun b => if b.done.isNone then { b with done := some now } else b)
  match l with
  | [] => p
  | b :: rest =>
    let stays (x : FrameBuf) := p.reading == some (x.src, x.n)
    { p with bufs := tput p.bufs 0 (b :: rest.filter stays), unread := p.unread + (rest.filter (fun x => !stays x)).length }

/-- A frame of its source begins at a frame synchroniser: the one before is complete, lines that it lacks are reported and stay
fill, and the new one is written only if it starts after the switching instant of the take
that selected the source (R237). -/
def syncStart (ix src n : Nat) (s : State) : State :=
  let p := proc s ix
  let s := match (bufsOf p 0).head? with
    | some b =>
      (match b.done, lacking p (flowD s (pfNum ix)) b with
       | none, some k => inputMissing ix 0 k b.n s
       | _, _ => s)
    | none => s
  let p := closeFrames (proc s ix) s.tim.now
  let after := decide (tgetD p.since 0 0 < startOf s src n)
  let b : FrameBuf := { n := n, src := src, start := startOf s src n }
  setProc ix (if after then { p with bufs := tput p.bufs 0 (b :: bufsOf p 0) } else p) s

/-- Frame synchronisers whose latched source is flow `src`. -/
def syncsOf (s : State) (src : Nat) : List Nat :=
  ((activeProcs s).filter (fun x => pFunc (proc s (ixOf x.1)) == 1 &&
    (latched s (pfWord (ixOf x.1) 0)).sel && (latched s (pfWord (ixOf x.1) 0)).src == src)).map (fun x => ixOf x.1)

/-- A frame of an input flow begins: its start is recorded, and frame synchronisers that follow the flow go on to it. -/
def frameBegins (src n at_ rtp : Nat) (s : State) : State :=
  let s := { s with ika := { s.ika with
    marks := tupd s.ika.marks src [] (fun l => { n := n, at_ := at_, rtp := rtp } :: l.take 3) } }
  (syncsOf s src).foldl (fun s ix => syncStart ix src n s) s

/-- A line, or the stream so far, put into a frame buffer. -/
def putLine (k : Nat) (bytes : List Byte) (now : Nat) (last : Bool) (b : FrameBuf) : FrameBuf :=
  { b with lines := tput b.lines k bytes, done := if last && b.done.isNone then some now else b.done }

/-- A line of source `src` reaches input `k` of a processed flow: a frame that is complete takes no more. -/
def feedInput (ix k src n line : Nat) (bytes : List Byte) (last : Bool) (s : State) : State :=
  let p := proc s ix
  if inputDead s ix k then s
  else
  let s := if pFunc p = 1 && !(bufsOf p k).any (fun b => b.src == src && b.n == n) then
      (if ((bufsOf p k).head?.map (fun b => b.src == src && decide (n < b.n))) == some true then s else syncStart ix src n s)
    else s
  setBufs ix k ((bufsOf (proc s ix) k).map (fun b =>
    if b.src = src ∧ b.n = n ∧ b.void_ = false ∧ b.done = none then putLine line bytes s.tim.now last b else b)) s

/-- Inputs of running processed flows that buffer frames and whose latched source is flow `src`: `(index, input)`. -/
def feeds (s : State) (src : Nat) : List (Nat × Nat) :=
  (activeProcs s).flatMap (fun x =>
    let ix := ixOf x.1
    if buffers (proc s ix) && x.2.essence != 1 then
      ((usedInputs (proc s ix) x.2).filter (fun k => (latched s (pfWord ix k)).sel && (latched s (pfWord ix k)).src == src)).map
        (fun k => (ix, k))
    else [])

/-- A line of a flow has been stored: every processed flow that buffers it takes it. -/
def arrived (src n line : Nat) (bytes : List Byte) (last : Bool) (s : State) : State :=
  (feeds s src).foldl (fun s x => feedInput x.1 x.2 src n line bytes last s) s

/-- A video line received whole: stored with its signature, and taken by the functions that buffer it. -/
def takeLine (n fi line : Nat) (bytes : List Byte) (s : State) : State :=
  arrived n fi line bytes (line + 1 == fmtLines (flowD s n).format) (storeLine n fi line bytes s)

/-- Bytes of a frame's stream received: stored, and taken. -/
def takeStream (n fi : Nat) (bytes : List Byte) (ends : Bool) (s : State) : State :=
  let s := storeStream n fi bytes ends s
  arrived n fi 0 (streamOf s n fi) ends s

/-! ## The frame synchroniser's decision (R236) -/

/-- What a decision found. -/
structure SyncOutcome where
  drops : Nat := 0
  repeats : Bool := false
  expires : Bool := false
deriving DecidableEq, Repr

/-- The counts and events of a decision of output frame `n`. -/
def syncEvents (ix n : Nat) (o : SyncOutcome) (s : State) : State :=
  let p := proc s ix
  let s := setProc ix { p with
    fsDrop := satAdd 32 p.fsDrop o.drops, fsRepeat := satAdd 32 p.fsRepeat (if o.repeats then 1 else 0) } s
  let s := raiseIf o.repeats { src := 0x122, data := [(2, pfNum ix), (1, n % 256)] } s
  let s := (List.range o.drops).foldl (fun s _ => raise { src := 0x123, data := [(2, pfNum ix), (1, n % 256)] } s) s
  raiseIf o.expires { src := 0x124, data := [(2, pfNum ix)] } s

/-- The newest frame complete by T(n) is read; `held` says that the source is HELD or unselected. -/
def syncDecide (p : Proc) (t : Nat) (held : Bool) : Proc × SyncOutcome :=
  let l := bufsOf p 0
  let isDone (b : FrameBuf) : Bool := match b.done with | some d => decide (d ≤ t) | none => false
  match l.find? isDone with
  | none => (p, {})
  | some b =>
    if p.reading = some (b.src, b.n) then
      if held && decide (pBody p 0 1 ≤ p.repeats) then
        ({ p with reading := none, bufs := tput p.bufs 0 (l.filter (fun x => !isDone x)), repeats := 0, unread := 0 },
          { drops := p.unread, expires := true })
      else ({ p with repeats := p.repeats + 1, unread := 0 }, { drops := p.unread, repeats := true })
    else
      let older (x : FrameBuf) := isDone x && x != b && p.reading != some (x.src, x.n)
      ({ p with
          reading := some (b.src, b.n), repeats := 0, unread := 0
          bufs := tput p.bufs 0 (l.filter (fun x => !isDone x || x == b)) },
        { drops := p.unread + (l.filter older).length })

/-- ANC synchronisers that follow a video synchroniser (R236). -/
def followers (s : State) (n : Nat) : List Nat :=
  ((activeProcs s).filter (fun x => x.2.essence == 2 && pFunc (proc s (ixOf x.1)) == 1 &&
    normFlow (pBody (proc s (ixOf x.1)) 2 2) == n)).map (fun x => ixOf x.1)

/-- A follower reads the frame of its own source that its LEADER reads. -/
def follow (frame : Option Nat) (ix : Nat) (s : State) : State :=
  let p := proc s ix
  setProc ix { p with
    reading := frame.map (fun m => ((latched s (pfWord ix 0)).src, m)), unread := 0
    bufs := tput p.bufs 0 ((bufsOf p 0).take 4) } s

/-- The frame of a processed flow's domain that is decided next: the one in progress, or the one after the last decided. -/
def dueFrame (s : State) (ix : Nat) : Nat :=
  let n := fiNow s (flowD s (pfNum ix)).domain
  match (proc s ix).decided with
  | some m => max n (m + 1)
  | none => n

/-- Frame `n` is decided. -/
def decided (ix n : Nat) (s : State) : State := setProc ix { proc s ix with decided := some n } s

/-- An input that is HELD or unselected and has brought no new frame reports its episode (R235). -/
def reportHeld (ix n : Nat) (s : State) : State := if inputHeld s ix 0 then inputMissing ix 0 0 n s else s

/-- FRAME_SYNC_DECISION, at T(n) of each frame: an ANC synchroniser's decision is its LEADER's. -/
def opFrameSyncDecision (pf : Nat) (s : State) : State :=
  let ix := ixOf pf
  let f := flowD s (pfNum ix)
  if f.st != .running || f.essence != 0 || pFunc (proc s ix) != 1 then s
  else
    let n := dueFrame s ix
    let s := decided ix n (atLeast (tOf s f.domain n) s)
    let r := syncDecide (proc s ix) (tOf s f.domain n) (inputHeld s ix 0)
    let idle := r.2.repeats || r.1.reading.isNone
    let s := setProc ix r.1 s
    let s := syncEvents ix n r.2 (if idle then reportHeld ix n s else s)
    let frame := r.1.reading.map Prod.snd
    (followers s (pfNum ix)).foldl (fun s i =>
      let s := if idle then reportHeld i n s else s
      syncEvents i n r.2 (follow frame i s)) s

/-! ## Audits (R14, R249) -/

/-- The auditor of a classroom: the lower-numbered spare that is not in service or retired. -/
def auditorOf (r : Classroom) : Option Nat :=
  if r.s32.st = .free ∨ r.s32.st = .pending then some 32
  else if r.s33.st = .free ∨ r.s33.st = .pending then some 33 else none

/-- The classroom's other spare, free for a third opinion. -/
def otherFree (r : Classroom) : Bool :=
  match auditorOf r with
  | some 32 => r.s33.st == .free
  | _ => false

/-- The tile that serves an active slot (R251). -/
def tileOf (r : Classroom) (slot : Nat) : Nat := tgetD r.serving slot slot

/-- The location code of an engine's core or local memory. -/
def tileLoc (c tile macro_ : Nat) : Nat := locCode 0 6 c tile macro_

/-- Audits run at all: IKA_AUDIT_CFG.EN, with its domain enabled. -/
def auditsRun (s : State) : Bool := bit (rd s .ikaAuditCfg 0) 31 && domEn s (fld s .ikaAuditCfg 0 2 0)

def auditFail (c slot pf verdict : Nat) (s : State) : State :=
  let t := tileOf (room s c) slot
  raise { src := 0x125, data := [(4, tileLoc c t 0xFF), (2, pf), (1, verdict)], unit := some (.tile c t) } s

/-- The instant of the audit tick after `last`: every eighth frame of IKA_AUDIT_CFG.DOMAIN. -/
def auditTick (s : State) (last : Nat) : Nat :=
  let d := fld s .ikaAuditCfg 0 2 0
  let n := 8 * ceilDiv (frameFrom s d (last + 1)) 8
  tOf s d n

/-- ENGINE_AUDIT_TICK: the work item kept from the slot due is recomputed, `crc` the CRC-32C of the auditor's result; a slot
without one is passed over. An opinion still outstanding was not available. -/
def opEngineAuditTick (c crc : Nat) (s : State) : State :=
  let r := room s c
  if !auditsRun s || !roomEn s c || (auditorOf r).isNone then s
  else
    let s := atLeast (auditTick s r.auditAt) s
    let s := match r.opinion with
      | some o => auditFail c o.slot o.pf 2 s
      | none => s
    let slot := r.auditNext
    let r := { r with opinion := none, sampled := none, auditNext := (slot + 1) % 32, auditAt := s.tim.now }
    match (room s c).sampled with
    | none => setRoom c { r with idle := r.idle + 1 } s
    | some x =>
      if x.crc = crc then setRoom c { r with passes := satAdd 16 r.passes 1 } s
      else
        let r := { r with fails := satAdd 16 r.fails 1 }
        if otherFree r then
          setRoom c { r with opinion := some { slot := slot, pf := x.pf, tick := s.tim.now, crc := x.crc } } s
        else auditFail c slot x.pf 2 (setRoom c r s)

/-- ENGINE_AUDIT_THIRD_OPINION: the other spare's result, of CRC-32C `crc`, has the engine differ from both spares, or the auditor
from the third opinion. -/
def opEngineAuditThirdOpinion (c crc : Nat) (s : State) : State :=
  match (room s c).opinion with
  | some o => auditFail c o.slot o.pf (if crc = o.crc then 1 else 0) (setRoom c { room s c with opinion := none } s)
  | none => s

/-! ## Engine sparing (R251) -/

def spareOf (r : Classroom) (t : Nat) : SpareTile := if t = 32 then r.s32 else r.s33
def setSpare (t : Nat) (x : SpareTile) (r : Classroom) : Classroom := if t = 32 then { r with s32 := x } else { r with s33 := x }

/-- ENGINE_SPARE. -/
def opEngineSpare (c : Cmd) (rm slot tile dom fi : Nat) : State → State :=
  hostCmd c 0x0410 true (checked
    (fun s =>
      let r := room s rm
      [(decide (31 < rm), badArg c 24 s), (decide (31 < slot), badArg c 25 s), (tile != 32 && tile != 33, badArg c 26 s),
        (decide (7 < dom) || !domEn s dom, badArg c 27 s), ((spareOf r tile).st != .free, noResource), (r.swap.isSome, denied),
        (decide (tOf s dom (fullFi s dom fi) < s.tim.now + framesNs s dom 2), replyLate)])
    (fun s =>
      let r := setSpare tile { st := .pending, slot := slot } (room s rm)
      (accepted, setRoom rm { r with swap := some { slot := slot, tile := tile, dom := dom, fi := fullFi s dom fi, tag := c.tag } } s)))

/-- No free spare is left: audits of the classroom stop (R14). -/
def auditStop (c : Nat) (s : State) : State :=
  let r := room s c
  if (auditorOf r).isSome || r.suspended then s
  else raise { src := 0x126, data := [(1, c)] } (setRoom c { r with suspended := true } s)

/-- ENGINE_SPARE_SWAP: at the named boundary the spare serves the slot, and a spare that served it before is retired. -/
def opEngineSpareSwap (c : Nat) (s : State) : State :=
  let r := room s c
  match r.swap with
  | none => s
  | some w =>
    let s := atLeast (namedFrame s w.dom w.fi) s
    let r := if tileOf r w.slot = 65 - w.tile then setSpare (65 - w.tile) { st := .retired, slot := 0 } r else r
    let r := setSpare w.tile { st := .inService, slot := w.slot } r
    let r := { r with
      swap := none, serving := tput r.serving w.slot w.tile
      auditor := if auditorOf r = some 33 then 1 else 0 }
    auditStop c (raise { src := 0x128, data := [(1, c), (1, w.slot), (4, tileLoc c w.tile 0xFF)], fin := some w.tag } (setRoom c r s))

end Sys2Proof.Machine
end

