-- ==== Sys2Proof/Machine/Picture.lean ====
section
/-!
DEFINITION. Pictures: the samples of a line (R33), the signal domain (R261, R264), chroma resampling, polyphase filters (R234,
R238, R239, R258) and colour conversion (R240).
-/
namespace Sys2Proof.Machine
open Sys2Proof

/-! ## Samples of a line -/

/-- A real quotient taken to one of the two whole numbers beside it, where the manual states no rounding. -/
def roundFree (num : Int) (den : Nat) : Int :=
  let q := num / (den : Int)
  if num % (den : Int) = 0 then q else if Config.roundsUp num (den : Int) 0 0 then q + 1 else q

/-- The place of component `c` (0 Y or G, 1 Cb or B, 2 Cr or R) of pixel `x` among a line's samples (R33). -/
def samplePlace (f x c : Nat) : Nat :=
  if fmtSampling f = 1 ∨ fmtSampling f = 2 then (if c = 0 then 2 * x + 1 else 4 * (x / 2) + (if c = 1 then 0 else 2))
  else if isRgb f then 3 * x + (if c = 0 then 1 else if c = 1 then 2 else 0)
  else 3 * x + (if c = 0 then 1 else if c = 1 then 0 else 2)

/-- Sample `i` of a line of `w`-bit samples packed most significant bit first (R33). -/
def sampleCode (w : Nat) (l : List Byte) (i : Nat) : Nat :=
  let o := i * w
  beAt l (o / 8) 3 / 2 ^ (24 - o % 8 - w) % 2 ^ w

/-- The code of component `c` of pixel `x` of a line. -/
def codeAt (f : Nat) (row : List Byte) (c x : Nat) : Nat := sampleCode (sampleBits f) row (samplePlace f x c)

/-- Component `c` of a format is carried for every second pixel alone. -/
def subsampled (f c : Nat) : Bool := (fmtSampling f == 1 || fmtSampling f == 2) && c != 0

/-- Offset and span of a component (R261), at 12 bits if `deep`, else at 10. -/
def compScale (deep rgb : Bool) (colour c : Nat) : Nat × Nat :=
  let k := if deep then 4 else 1
  let full := bit colour 6
  let top := if deep then 4095 else 1023
  if c != 0 && !rgb then (512 * k, if full then top else 896 * k)
  else (if full then 0 else 64 * k, if full then top else 876 * k)

def isDeep (f : Nat) : Bool := sampleBits f == 12

/-- A code in the domain with 16 fraction bits. -/
def normalise (deep rgb : Bool) (colour c code : Nat) : Int :=
  let k := compScale deep rgb colour c
  roundFree (((code : Int) - (k.1 : Int)) * 65536) k.2

/-- Back to a code: rounded half up and clamped (R264). -/
def toCode (f colour c : Nat) (v : Int) : Nat :=
  let k := compScale (isDeep f) (isRgb f) colour c
  let z := (2 * (v * (k.2 : Int) + (k.1 : Int) * 65536) + 65536) / 131072
  let m : Nat := if isDeep f then 4 else 1
  (max ((4 * m : Nat) : Int) (min ((1020 * m - 1 : Nat) : Int) z)).toNat

/-! ## Chroma (R240, R258, R264) -/

/-- A whole number taken into a range. -/
def within (lo hi : Nat) (i : Int) : Nat := (max (lo : Int) (min (hi : Int) i)).toNat

/-- Component `c` of pixel `x` in 4:4:4, with `val` its value at the pixels that carry it: of a 4:2:2 line the 8 nearest pairs
are filtered, pairs beyond `lo` to `hi` taken as those. The coefficients are free (R240); the edge rule is that of R258. -/
def full444 (f c lo hi x : Nat) (val : Nat → Int) : Int :=
  if subsampled f c then
    Config.upsample (x % 2) ((List.range 8).map (fun i => val (2 * within lo hi (((x / 2 : Nat) : Int) - 3 + (i : Int)))))
  else val x

/-- A value taken into the codes that a picture may hold (R264). -/
def clampCode (f : Nat) (v : Int) : Nat :=
  let m : Nat := if isDeep f then 4 else 1
  within (4 * m) (1020 * m - 1) v

/-- A line packed in its format from the codes of component `c` at pixel `x` in 4:4:4: 4:2:2 chroma is downsampled with the 7-tap
filter, pixels beyond the line taken as its last (R240, R264). -/
def packLine (f : Nat) (at_ : Nat → Nat → Nat) : List Byte :=
  let w := fmtWidth f
  let down (c x : Nat) : Nat :=
    clampCode f (Config.downsample ((List.range 7).map (fun i => (at_ c (within 0 (w - 1) ((x : Int) - 3 + (i : Int))) : Int))))
  packSamples (sampleBits f) (
    if subsampled f 1 then (List.range (w / 2)).flatMap (fun i => [down 1 (2 * i), at_ 0 (2 * i), down 2 (2 * i), at_ 0 (2 * i + 1)])
    else (List.range w).flatMap (fun x => if isRgb f then [at_ 2 x, at_ 0 x, at_ 1 x] else [at_ 1 x, at_ 0 x, at_ 2 x]))

/-! ## Polyphase filters (R234, R238, R239, R258) -/

/-- The place of output sample `x` of `out` on a crop of `crop` source samples from `first` on, in 1/64 of a sample: the phase is
the one at or below the exact place (DESIGN CHOICE, notes/assumptions/148.md). -/
def scalePos (first crop out x : Nat) : Int :=
  64 * (first : Int) + 64 * ((((2 * x + 1) * crop : Nat) : Int) - (out : Int)) / ((2 * out : Nat) : Int)

/-- Coefficients, by phase and tap, and source samples of a filter at a place; a tap outside the crop takes the sample on its
edge. -/
def tapsAt (taps : Nat) (coef : Nat → Nat → Int) (lo hi : Nat) (pos : Int) : List (Int × Nat) :=
  (List.range taps).map (fun i => (coef (pos % 64).toNat i, within lo hi (pos / 64 - ((taps / 2 : Nat) : Int) + 1 + (i : Int))))

/-- A separable filter, coefficients with 14 fraction bits: vertical and horizontal taps over samples by line and place. -/
def filter2 (v h : List (Int × Nat)) (smp : Nat → Nat → Int) : Int :=
  roundFree ((v.map (fun a => (h.map (fun b => a.1 * b.1 * smp a.2 b.2)).sum)).sum) (2 ^ 28)

/-! ## SCALE (R234, R238, R239) -/

/-- The vertical crop: the descriptor's in MODE LINE, the set's in MODE FRAME. -/
def cropRows (p : Proc) : Nat × Nat :=
  if pMode p = 0 then (pBody p 2 2, pBody p 4 2) else (fieldAt (setNow p) 4 2, fieldAt (setNow p) 6 2)

/-- A coefficient of a table at `off` of the set: the middle taps of the phase, or the built-in kernel's. -/
def scaleCoef (b : List Byte) (off taps crop out ph i : Nat) : Int :=
  if fieldAt b 8 1 = 1 then toSigned 16 (fieldAt b (off + 16 * ph + 2 * ((8 - taps) / 2 + i)) 2) else Config.sinc taps crop out ph i

/-- The vertical taps of output line `k`. -/
def scaleRows (p : Proc) (f : Flow) (k : Nat) : List (Int × Nat) :=
  let c := cropRows p
  tapsAt (pBody p 1 1) (scaleCoef (setNow p) 1088 (pBody p 1 1) c.2 (fmtLines f.format)) c.1 (c.1 + c.2 - 1)
    (scalePos c.1 c.2 (fmtLines f.format) k)

/-- Source lines that output line `k` of a scaler reaches (R234). -/
def scaleLines (p : Proc) (f : Flow) (k : Nat) : List Nat := ((scaleRows p f k).map Prod.snd).eraseDups

/-- The horizontal taps of component `c` at output pixel `x`: chroma of 4:2:2 lies at every second pixel. -/
def scaleCols (p : Proc) (f : Flow) (c x : Nat) : List (Int × Nat) :=
  let b := setNow p
  let t := pBody p 0 1
  let cx := fieldAt b 0 2
  let cw := fieldAt b 2 2
  let w := fmtWidth f.format
  if subsampled f.format c then
    tapsAt t (scaleCoef b 64 t cw w) (cx / 2) ((cx + cw - 1) / 2)
      (64 * (((2 * w * cx + (2 * x + 1) * cw : Nat) : Int) - (w : Int)) / ((4 * w : Nat) : Int))
  else tapsAt t (scaleCoef b 64 t cw w) cx (cx + cw - 1) (scalePos cx cw w x)

/-- The code of component `c` at output pixel `x` of line `k`, from the source lines. -/
def scaleCode (p : Proc) (f : Flow) (k : Nat) (row : Nat → List Byte) (c x : Nat) : Nat :=
  clampCode f.format (filter2 (scaleRows p f k) (scaleCols p f c x) (fun j i =>
    (codeAt (pInFormat p) (row j) c (if subsampled f.format c then 2 * i else i) : Int)))

/-- Output line `k` of SCALE. Chroma of 4:2:2 is filtered as it is carried (DESIGN CHOICE, notes/assumptions/148.md). -/
def scaleLine (p : Proc) (f : Flow) (k : Nat) (row : Nat → List Byte) : List Byte :=
  let w := fmtWidth f.format
  let at_ := scaleCode p f k row
  packSamples (sampleBits f.format) (
    if subsampled f.format 1 then (List.range (w / 2)).flatMap (fun i => [at_ 1 (2 * i), at_ 0 (2 * i), at_ 2 (2 * i), at_ 0 (2 * i + 1)])
    else (List.range w).flatMap (fun x => if isRgb f.format then [at_ 2 x, at_ 0 x, at_ 1 x] else [at_ 1 x, at_ 0 x, at_ 2 x]))

/-! ## COLOUR (R240) -/

/-- Luma coefficients of R and B of a COLORIMETRY, in 1/10,000: those of BT.709 and BT.2020 (PRESUMED,
notes/assumptions/149.md). -/
def lumaOf (colour : Nat) : Int × Int := if bits colour 3 0 = 1 then (2627, 593) else (2126, 722)

/-- Y, Cb, Cr to G, B, R, all in the signal domain. -/
def toGbr (colour : Nat) (y cb cr : Int) : List Int :=
  let k := lumaOf colour
  let g := 10000 - k.1 - k.2
  [y - roundFree (2 * k.1 * (10000 - k.1) * cr + 2 * k.2 * (10000 - k.2) * cb) (10000 * g).toNat,
    y + roundFree (2 * (10000 - k.2) * cb) 10000, y + roundFree (2 * (10000 - k.1) * cr) 10000]

/-- G, B, R to Y, Cb, Cr. -/
def ofGbr (colour : Nat) (g b r : Int) : List Int :=
  let k := lumaOf colour
  let s := k.1 * r + (10000 - k.1 - k.2) * g + k.2 * b
  [roundFree s 10000, roundFree (10000 * b - s) (2 * (10000 - k.2)).toNat, roundFree (10000 * r - s) (2 * (10000 - k.1)).toNat]

/-- The 33-node grid's cell that holds a value, and how far into it the value lies, out of 65,535. -/
def gridCell (v : Nat) : Nat × Nat := (min 31 (v * 32 / 65535), v * 32 - min 31 (v * 32 / 65535) * 65535)

/-- Component `c` (0 R′, 1 G′, 2 B′) of the LUT's node. -/
def lutNode (b : List Byte) (r g bl c : Nat) : Nat := fieldAt b (64 + 6 * (r + 33 * g + 1089 * bl) + 2 * c) 2

/-- Axes by how far the value lies along them, the farthest first. -/
def farther (x : Nat × Nat) : List (Nat × Nat) → List (Nat × Nat)
  | [] => [x]
  | y :: l => if x.1 < y.1 then y :: farther x l else x :: y :: l

/-- Tetrahedral interpolation: from the cell's lowest node along the axes, the farthest first, to its highest. -/
def lutValue (b : List Byte) (v : List Nat) (c : Nat) : Int :=
  let cell (i : Nat) := (gridCell (v.getD i 0)).1
  let frac (i : Nat) := (gridCell (v.getD i 0)).2
  let path := farther (frac 0, 0) (farther (frac 1, 1) (farther (frac 2, 2) []))
  let node (k : Nat) : Int :=
    let on (i : Nat) : Nat := if (path.take k).any (fun a => a.2 == i) then 1 else 0
    (lutNode b (cell 0 + on 0) (cell 1 + on 1) (cell 2 + on 2) c : Int)
  let d (k : Nat) : Int := ((path.getD k (0, 0)).1 : Int)
  roundFree (node 0 * (65535 - d 0) + node 1 * (d 0 - d 1) + node 2 * (d 1 - d 2) + node 3 * d 2) 65535

/-- Three components of one pixel through COLOUR, all in the signal domain: without the LUT only the model changes; with it the
pixel goes as R′G′B′ of 0 to 65,535 through the LUT. -/
def colourPixel (p : Proc) (f : Flow) (px : List Int) : List Int :=
  let b := setNow p
  let c (l : List Int) (i : Nat) : Int := l.getD i 0
  let inRgb := isRgb (pInFormat p)
  let outRgb := isRgb f.format
  let gbr := if inRgb then px else toGbr (pInColour p) (c px 0) (c px 1) (c px 2)
  let model (l : List Int) : List Int := if outRgb then l else ofGbr f.colour (c l 0) (c l 1) (c l 2)
  if fieldAt b 0 1 = 1 then
    let v := [2, 0, 1].map (fun i => within 0 65535 (roundFree (c gbr i * 65535) 65536))
    model ([1, 2, 0].map (fun i => roundFree (lutValue b v i * 65536) 65535))
  else if inRgb = outRgb then px else model gbr

/-- A line through COLOUR (R240): 4:4:4 inside, rounded and clamped as a composed picture is (DESIGN CHOICE,
notes/assumptions/148.md). -/
def colourLine (p : Proc) (f : Flow) (row : List Byte) : List Byte :=
  let i := pInFormat p
  let w := fmtWidth f.format
  let px := (List.range w).map (fun x => colourPixel p f ((List.range 3).map (fun c =>
    full444 i c 0 (w / 2 - 1) x (fun m => normalise (isDeep i) (isRgb i) (pInColour p) c (codeAt i row c m)))))
  packLine f.format (fun c x => toCode f.format f.colour c ((px.getD x []).getD c 0))

end Sys2Proof.Machine
end

