-- ==== Sys2Proof/Machine/Compose.lean ====
section
/-!
DEFINITION. Layer composition (R254 to R272): layer states and decisions, opacity, and the pixels a COMPOSE flow draws.
-/
namespace Sys2Proof.Machine
open Sys2Proof

/-! ## A layer's entry in a parameter set (R257) -/

/-- The entry of layer `i`. -/
structure LayerSet where
  en : Bool
  premul : Bool
  transparent : Bool
  freeze : Nat
  alpha : Nat
  dstX : Nat
  dstY : Nat
  dstW : Nat
  dstH : Nat
  cropX : Nat
  cropY : Nat
  cropW : Nat
  cropH : Nat
  tapsH : Nat
  tapsV : Nat
  fill : List Nat
deriving DecidableEq, Repr

def layerSet (b : List Byte) (i : Nat) : LayerSet :=
  let o := 32 + 32 * i
  let v (k : Nat) := fieldAt b (o + k) 2
  let fl := fieldAt b o 1
  { en := bit fl 0, premul := bit fl 1, transparent := bit fl 2
    freeze := if fieldAt b (o + 1) 1 = 0 then 4 else fieldAt b (o + 1) 1
    alpha := v 2, dstX := v 4, dstY := v 6, dstW := v 8, dstH := v 10, cropX := v 12, cropY := v 14
    cropW := v 16, cropH := v 18, tapsH := bits (fieldAt b (o + 20) 1) 7 4, tapsV := bits (fieldAt b (o + 20) 1) 3 0
    fill := [v 24, v 26, v 28] }

def layer (p : Proc) (i : Nat) : Layer := tgetD p.layers i {}

/-! ## Decisions (R265 to R268) -/

/-- The frame `n` of an input, as written. -/
def frameOf (p : Proc) (k n : Nat) : Option FrameBuf := (bufsOf p k).find? (fun b => b.n == n)

/-- Every active line of the layer's format is in the frame. -/
def frameWhole (l : LayerDef) (b : Option FrameBuf) : Bool :=
  match b with
  | some b => (List.range (fmtLines l.format)).all (fun k => (tget? b.lines k).isSome)
  | none => false

/-- The class of frame `n` of a layer. -/
inductive Ready where
  | void_
  | ready
  | notReady
deriving DecidableEq, Repr

/-- An unselected key's frames count as stored (R267). -/
def keyWhole (l : LayerDef) (b : Option FrameBuf) : Bool :=
  match b with
  | some x => x.void_ || frameWhole l b
  | none => false

def classify (p : Proc) (l : LayerDef) (n : Nat) : Ready :=
  let b := frameOf p l.fillIn n
  if (b.map (fun x => x.void_)) == some true then .void_
  else if frameWhole l b && (l.keyIn == 0xFF || keyWhole l (frameOf p l.keyIn n)) then .ready else .notReady

/-- The line-buffer need of a video layer, bytes, with `f` as the format of its fill (R259). -/
def lineNeed (l : LayerDef) (f : Nat) : Nat :=
  if l.kind = 1 then fmtWidth f * l.tapsV * (fmtBits f + (if l.keyIn = 0xFF then 0 else sampleBits f)) / 8 else 0

/-- The detected format of a HELD source of the layer that no longer fits its line buffer (R260). -/
def misfit (s : State) (ix : Nat) (l : LayerDef) : Option Nat :=
  let ins := l.fillIn :: (if l.keyIn = 0xFF then [] else [l.keyIn])
  (ins.filterMap (fun k =>
    let x := latched s (pfWord ix k)
    let f := flowD s x.src
    if x.sel && f.st == .held && f.detected != 0xFFFF && decide (l.lbKib * 1024 < lineNeed l f.detected) then some f.detected
    else none)).head?

/-- What a decision makes of a layer: its next state, the frame shown and the event, if any. -/
structure Decided where
  next : Layer
  ev : Option Ev := none
deriving DecidableEq, Repr

/-- A layer moved to a state, with the stamp of a change. -/
def toState (x : Layer) (st : LayerSt) (count : Nat) (shown : Option Nat) (now : Nat) : Layer :=
  { x with st := st, count := count, shown := shown, lastTs := if x.st = st then x.lastTs else ts32 now }

/-- The table of R268 for layer `i` of flow `pf` at output frame `n`. -/
def decideLayer (s : State) (ix i n : Nat) : Decided :=
  let p := proc s ix
  let l := layerDef p i
  let x := { layer p i with misfit := (layer p i).misfit && (misfit s ix (layerDef p i)).isSome }
  let e := layerSet (setNow p) i
  let now := s.tim.now
  let head := [(2, pfNum ix), (1, i)]
  let fi := (1, n % 256)
  match misfit s ix l with
  | some f =>
    if x.misfit then { next := toState x .fill x.count none now }
    else { next := { toState x .fill x.count none now with misfit := true }
           ev := some { src := 0x143, data := head ++ [(2, f), (4, lineNeed l f)] } }
  | none =>
    match classify p l (n - 1) with
    | .void_ => { next := toState x .empty 0 none now }
    | .ready =>
      { next := toState x .showing 0 (some (n - 1)) now
        ev := if x.st = .repeating ∨ x.st = .fill then some { src := 0x142, data := head ++ [fi] } else none }
    | .notReady =>
      match x.st with
      | .showing =>
        let cause := if inputHeld s ix l.fillIn || (l.keyIn != 0xFF && (latched s (pfWord ix l.keyIn)).sel && inputHeld s ix l.keyIn) then 1 else 0
        { next := { toState x .repeating 1 x.shown now with episodes := satAdd 32 x.episodes 1 }
          ev := some { src := 0x140, data := head ++ [fi, (1, cause)] } }
      | .repeating =>
        if x.count < e.freeze then { next := { x with count := x.count + 1 } }
        else { next := toState x .fill x.count none now
               ev := some { src := 0x141, data := head ++ [fi, (1, if e.transparent then 1 else 0)] } }
      | _ => { next := x }

/-- A layer is opaque for the frame (R265). -/
def opaqueNow (l : LayerDef) (e : LayerSet) (x : Layer) : Bool :=
  e.en && l.keyIn == 0xFF && e.alpha == 4096 &&
    (x.st == .showing || x.st == .repeating || !e.transparent)

/-- The decision of one layer. -/
def decideOne (ix n i : Nat) (s : State) : State :=
  let d := decideLayer s ix i n
  let p := proc s ix
  let x := { d.next with opaque_ := opaqueNow (layerDef p i) (layerSet (setNow p) i) d.next }
  let s := setProc ix { p with layers := tput p.layers i x } s
  match d.ev with
  | some e => raise e s
  | none => s

/-- Inputs whose frame was written with lines as fill, or not at all, report them (R235). -/
def missingInputs (ix n : Nat) (s : State) : State :=
  (composeInputs (proc s ix)).foldl (fun s x =>
    let b := (frameOf (proc s ix) x.1 n).getD {}
    match (List.range (fmtLines x.2.1)).find? (fun k => (tget? b.lines k).isNone) with
    | some k => inputMissing ix x.1 k n s
    | none => s) s

/-- LAYER_DECISION: every layer of the flow is decided for the next frame not yet decided, at T(n) + (Ao + 2) × Po, from frame
n − 1 of its sources (R266). -/
def opLayerDecision (pf : Nat) (s : State) : State :=
  let ix := ixOf pf
  let f := flowD s (pfNum ix)
  if f.st != .running || pFunc (proc s ix) != 4 then s
  else
    let n := dueFrame s ix
    let s := decided ix n (atLeast (tOf s f.domain n + lineOffset f.format 0 2) s)
    let s := missingInputs ix (n - 1) (commitSet ix n s)
    (List.range (pBody (proc s ix) 0 1)).foldl (fun s i => decideOne ix n i s) s

/-! ## Drawing (R258, R262, R263) -/

/-- The lines of the frame that an input of a layer shows. -/
def shownLines (p : Proc) (l : LayerDef) (k n : Nat) : List (List Byte) :=
  let b := (frameOf p k n).getD {}
  (List.range (fmtLines l.format)).map (fun i => tgetD b.lines i (blackLine l.format l.colour))

/-- The vertical taps of a video layer at output line `y` (R258). -/
def layerRows (e : LayerSet) (y : Nat) : List (Int × Nat) :=
  tapsAt e.tapsV (Config.sinc e.tapsV e.cropH e.dstH) e.cropY (e.cropY + e.cropH - 1) (scalePos e.cropY e.cropH e.dstH (y - e.dstY))

/-- An output pixel lies in a layer's destination rectangle. -/
def covers_ (e : LayerSet) (x y : Nat) : Bool :=
  decide (e.dstX ≤ x) && decide (x < e.dstX + e.dstW) && decide (e.dstY ≤ y) && decide (y < e.dstY + e.dstH)

/-- A component of a layer's fill or key at an output pixel, in the signal domain: upsampled to 4:4:4 within the crop, then
copied by a graphic layer and filtered with the built-in kernel by a video layer (R258). -/
def layerAt (p : Proc) (i : Nat) (lines : List (List Byte)) (x y c : Nat) : Int :=
  let l := layerDef p i
  let e := layerSet (setNow p) i
  let px (row col : Nat) : Int := full444 l.format c (e.cropX / 2) ((e.cropX + e.cropW - 1) / 2) col (fun m =>
    normalise (isDeep l.format) (isRgb l.format) l.colour c (codeAt l.format (lines.getD row []) c m))
  if l.kind = 2 then px (e.cropY + (y - e.dstY)) (e.cropX + (x - e.dstX))
  else
    filter2 (layerRows e y)
      (tapsAt e.tapsH (Config.sinc e.tapsH e.cropW e.dstW) e.cropX (e.cropX + e.cropW - 1) (scalePos e.cropX e.cropW e.dstW (x - e.dstX)))
      px

/-- What a layer contributes at a pixel: per-pixel alpha in 16 fraction bits, fill per component, and whether the fill is
pre-multiplied; none where it draws nothing. -/
def contribution (p : Proc) (f : Flow) (i x y : Nat) : Option (Int × List Int × Bool) :=
  let l := layerDef p i
  let e := layerSet (setNow p) i
  let st := layer p i
  if !e.en || !covers_ e x y then none
  else
    match st.shown with
    | some n =>
      let fills := shownLines p l l.fillIn n
      let keys := shownLines p l l.keyIn n
      let a := if l.keyIn = 0xFF then 65536
               else if ((frameOf p l.keyIn n).map (fun b => b.void_)) == some true then 0
               else max 0 (min 65536 (layerAt p i keys x y 0))
      some (a, (List.range 3).map (layerAt p i fills x y), e.premul)
    | none =>
      if e.transparent then none
      else
        some (65536, (List.range 3).map (fun c => normalise true (isRgb f.format) f.colour c (e.fill.getD c 0)), false)

/-- One component blended with a layer at layer alpha `g` out of 4,096. -/
def blend (g : Nat) (a fill : Int) (premul : Bool) (c : Int) : Int :=
  let ag := a * (g : Int)
  roundFree ((2 ^ 28 - ag) * c + (if premul then 65536 * (g : Int) else ag) * fill) (2 ^ 28)

/-- A pixel's three components, background first and then each layer upwards. -/
def pixelAt (p : Proc) (f : Flow) (x y : Nat) : List Int :=
  let bg := (List.range 3).map (fun c => normalise true (isRgb f.format) f.colour c (fieldAt (setNow p) (2 * c) 2))
  (List.range (pBody p 0 1)).foldl (fun acc i =>
    match contribution p f i x y with
    | some (a, fill, premul) =>
      (List.range 3).map (fun c => blend (layerSet (setNow p) i).alpha a (fill.getD c 0) premul (acc.getD c 0))
    | none => acc) bg

/-- Output line `y` packed in the flow's format: 4:2:2 chroma is downsampled from the row of codes (R264). -/
def composeLine (p : Proc) (f : Flow) (y : Nat) : List Byte :=
  let w := fmtWidth f.format
  let px := (List.range w).map (fun x => (pixelAt p f x y).zipIdx.map (fun v => toCode f.format f.colour v.2 v.1))
  packLine f.format (fun c x => (px.getD x []).getD c 0)

/-! ## What is never fetched (R265) -/

/-- A pixel of layer `j` lies in the opaque region of a layer above it. -/
def hiddenAt (p : Proc) (j x y : Nat) : Bool :=
  (List.range (pBody p 0 1)).any (fun i => decide (j < i) && (layer p i).opaque_ && covers_ (layerSet (setNow p) i) x y)

/-- Source line `j` of layer `i` is read for output line `y`: the filter of some pixel that is not hidden reaches it. -/
def layerReads (p : Proc) (i y j : Nat) : Bool :=
  let e := layerSet (setNow p) i
  let rows := if (layerDef p i).kind = 2 then [e.cropY + (y - e.dstY)] else (layerRows e y).map Prod.snd
  e.en && (layer p i).shown.isSome && rows.contains j &&
    (List.range e.dstW).any (fun d => covers_ e (e.dstX + d) y && !hiddenAt p i (e.dstX + d) y)

/-- Source line `j` of input `k` is read for output line `y` by a layer that the input is the fill or the key of. -/
def composeReads (p : Proc) (k y j : Nat) : Bool :=
  (List.range (pBody p 0 1)).any (fun i => ((layerDef p i).fillIn == k || (layerDef p i).keyIn == k) && layerReads p i y j)

/-! ## LAYER_STATUS (R271) -/

def layerCode (x : LayerSt) : Nat :=
  match x with
  | .empty => 0
  | .showing => 1
  | .repeating => 2
  | .fill => 3

/-- The 16-byte record of a layer. -/
def layerBytes (p : Proc) (i : Nat) : List Byte :=
  let x := layer p i
  if pBody p 0 1 ≤ i then leBytes 1 0xFF ++ zeros 3 ++ leBytes 4 0xFFFFFFFF ++ zeros 8
  else
    leBytes 1 (layerCode x.st) ++ leBytes 1 (flag x.opaque_ 1 + flag (layerSet (setNow p) i).en 0) ++ leBytes 1 (x.count % 256) ++
      zeros 1 ++ leBytes 4 ((x.shown.map ts32).getD 0xFFFFFFFF) ++ leBytes 4 x.episodes ++ leBytes 4 x.lastTs

/-- LAYER_STATUS. -/
def opLayerStatus (c : Cmd) (pf a : Nat) : State → State :=
  hostCmd c 0x0420 false (checked
    (fun s => [(nsOf pf != 2 || !flowNumOk pf || (flow? s (normFlow pf)).isNone || pFunc (proc s (ixOf pf)) != 4, badArg c 24 s)])
    (readBack c a (fun s => (List.range 16).flatMap (layerBytes (proc s (ixOf pf))))))

end Sys2Proof.Machine
end

