-- ==== Sys2Proof/Machine/Engine.lean ====
section
/-!
DEFINITION. Work items (R228, R233, R235, R238 to R243, R250): what an engine reads, computes and writes.
-/
namespace Sys2Proof.Machine
open Sys2Proof

/-! ## Writing an item's output -/

/-- A fill line written: it carries no signature (R389). -/
def writeFill (n fi k : Nat) (s : State) : State :=
  let f := flowD s n
  let b := blackLine f.format f.colour
  arrived n fi k b (k + 1 == fmtLines f.format)
    (setStored n k { line := k, fi := fi, bytes := b, cells := cellsPerLine f.format, complete := true, at_ := s.tim.now } s)

/-- A read voids what it reads: an uncorrectable word of cell memory, or poison from a store (R235, R309). -/
def spoils (f : ReadFault) : Bool := f.ecc || f.poison

/-- What the item's read of a cell meets: a failed cell CRC, a failed signature of the latched source, an uncorrectable word
(R389, R111). -/
def readChecks (ix k line n : Nat) (f : ReadFault) (s : State) : State :=
  let l := latched s (pfWord ix k)
  let s := raiseIf f.corrected { src := 0x046, data := [(1, f.bank), (1, f.row)] } s
  let s := raiseIf f.ecc { src := 0x047, data := [(1, f.bank), (1, f.row)] } s
  let s := if f.sig && (flowD s l.src).sigEn then
      sigFail (1024 + ix) n { src := 0x243, data := [(2, pfNum ix), (1, k), (2, l.src), (2, line)] } s
    else s
  checkFail f.crc { src := 0x248, data := [(1, f.bank), (1, f.row), (1, 1)] } s

/-! ## Video (R233, R236, R238, R240, R241) -/

/-- A source line as stored in cell memory for frame `n`. -/
def directLine (s : State) (ix k n j : Nat) : Option (List Byte) :=
  let l := latched s (pfWord ix k)
  let x := stored s l.src j
  if l.sel && !inputDead s ix k && x.complete && x.line == j && x.fi == n then some x.bytes else none

/-- The frame buffer that a frame synchroniser reads. -/
def readBuf (p : Proc) : Option FrameBuf := p.reading.bind (fun r => (bufsOf p 0).find? (fun b => b.src == r.1 && b.n == r.2))

/-- A source line as written to a frame buffer. -/
def bufferLine (p : Proc) (k n j : Nat) : Option (List Byte) := (frameOf p k n).bind (fun b => tget? b.lines j)

/-- The start of the item of line `k` of frame `n`, and its end one line period later (R233). -/
def itemStart (s : State) (ix k n : Nat) : Nat :=
  let f := flowD s (pfNum ix)
  tOf s f.domain n + lineOffset f.format k ((proc s ix).lambda - 1)
def itemEnd (s : State) (ix k n : Nat) : Nat :=
  let f := flowD s (pfNum ix)
  tOf s f.domain n + lineOffset f.format k (proc s ix).lambda

/-- The frame whose line `k` is the next item: the frame in progress or the one before it, while the item's line period lasts and
its line is not yet stored, else the first whose item is yet to begin. -/
def itemFrame (s : State) (ix k : Nat) : Nat :=
  let f := flowD s (pfNum ix)
  let n := fiNow s f.domain
  let x := stored s (pfNum ix) k
  let open_ (m : Nat) : Bool := decide (s.tim.now < itemEnd s ix k m) && !(x.complete && x.fi == m && x.line == k)
  if open_ (n - 1) then n - 1 else if open_ n then n else n + 1

/-- The frame of the source that output frame `n` of a buffered function carries: none before there is one. -/
def carried (p : Proc) (n : Nat) : Option Nat :=
  match pFunc p with
  | 1 => p.reading.map Prod.snd
  | 7 => if n < p.delay then none else some (max p.floor (n - p.delay))
  | _ => if n = 0 then none else some (n - 1)

/-- A source line for the item of frame `n`, or none: an uncorrectable or poisoned word voids the line that it lies in (R111,
R235, R309). -/
def itemLine (s : State) (ix n j : Nat) (f : ReadFault) : Option (List Byte) :=
  let p := proc s ix
  if spoils f && f.inp == 0 && f.line == j then none
  else if buffers p then (carried p n).bind (fun m => bufferLine p 0 m j)
  else directLine s ix 0 n j

/-- The first of some lines that is missing reports it. -/
def reportMissing (ix n : Nat) (js : List Nat) (f : ReadFault) (s : State) : State :=
  match js.find? (fun j => (itemLine s ix n j f).isNone) with
  | some j => inputMissing ix 0 j n s
  | none => s

/-- A frame's line put into its buffer as a DELAY takes it in: a line missing is reported, and stored as fill (R235, R241). -/
def delayIntake (ix n k : Nat) (fill : List Byte) (f : ReadFault) (s : State) : State :=
  let here := !(spoils f && f.inp == 0 && f.line == k) && (bufferLine (proc s ix) 0 n k).isSome
  if here then s
  else
    let s := inputMissing ix 0 k n s
    setBufs ix 0 ((bufsOf (proc s ix) 0).map (fun b =>
      if b.n = n then { b with lines := tput b.lines k fill } else b)) s

/-- The frame of input `k` shown in a layer loses the line that an uncorrectable word lies in (R235). -/
def layersRead (p : Proc) (black : List Byte) (f : ReadFault) : Proc :=
  if spoils f then { p with bufs := tput p.bufs f.inp ((bufsOf p f.inp).map (fun b =>
      if p.layers.any (fun x => x.2.shown == some b.n && ((layerDef p x.1).fillIn == f.inp || (layerDef p x.1).keyIn == f.inp)) then
        { b with lines := tput b.lines f.line black } else b)) }
  else p

/-- What line `k` of a function other than a frame synchroniser or DELAY is made of. -/
def itemBytes (s : State) (ix n k : Nat) (f : ReadFault) : List Byte :=
  let p := proc s ix
  let x := flowD s (pfNum ix)
  let black := blackLine (pInFormat p) (pInColour p)
  match pFunc p with
  | 2 => scaleLine p x k (fun j => (itemLine s ix n j f).getD black)
  | 3 => colourLine p x ((itemLine s ix n k f).getD black)
  | _ =>
    let fill := ((composeInputs p).find? (fun c => c.1 == f.inp)).map (fun c => blackLine c.2.1 c.2.2)
    composeLine (layersRead p (fill.getD black) f) x k

/-- Output line `k` of frame `n`. A frame synchroniser without a frame to read, or at a line that its frame lacks, emits fill
(R236). -/
def videoItem (ix n k : Nat) (f : ReadFault) (s : State) : State :=
  let p := proc s ix
  let x := flowD s (pfNum ix)
  let o := pfNum ix
  match pFunc p with
  | 1 =>
    match (readBuf p).bind (fun b => tget? b.lines k) with
    | some b => if spoils f then writeFill o n k (inputMissing ix 0 k n s) else takeLine o n k b s
    | none => writeFill o n k s
  | 7 =>
    let s := delayIntake ix n k (blackLine x.format x.colour) f s
    match (carried p n).bind (fun m => bufferLine (proc s ix) 0 m k) with
    | some b => takeLine o n k b s
    | none => writeFill o n k s
  | 4 => takeLine o n k (itemBytes s ix n k f) (if spoils f then inputMissing ix f.inp f.line n s else s)
  | fn => takeLine o n k (itemBytes s ix n k f) (reportMissing ix n (if fn = 2 then scaleLines p x k else [k]) f s)

/-- One video item: line `k` of the frame due, no earlier than its start (R233). -/
def videoWork (ix k : Nat) (f : ReadFault) (void_ : Bool) (s : State) : State :=
  let o := pfNum ix
  let n := itemFrame s ix k
  if !decide (k < fmtLines (flowD s o).format) then s
  else
    let s := commitSet ix n (atLeast (itemStart s ix k n) s)
    if void_ then writeFill o n k s else videoItem ix n k f (readChecks ix f.inp k n f s)

/-! ## ANC (R236, R241) -/

/-- The frame before is taken in by an ANC DELAY: a stream that has not ended is reported, and an empty one stored (R235,
R241). -/
def ancIntake (ix n : Nat) (s : State) : State :=
  let b := frameOf (proc s ix) 0 n
  if pFunc (proc s ix) != 7 || (b.map (fun x => x.done.isSome)).getD true then s else delayIntake ix n 0 (zeros 6) { ecc := true } s

/-- One ANC item: the record stream of the frame in progress; a stream that is not there is an empty one. -/
def ancWork (ix : Nat) (f : ReadFault) (void_ : Bool) (s : State) : State :=
  let o := pfNum ix
  let n := fiNow s (flowD s o).domain
  let s := commitSet ix n s
  let empty := zeros 6
  if void_ then takeStream o n empty true s
  else
    let s := ancIntake ix (n - 1) (readChecks ix 0 0 n f s)
    let p := proc s ix
    let b := if pFunc p = 1 then (readBuf p).bind (fun b => tget? b.lines 0) else (carried p n).bind (fun m => bufferLine p 0 m 0)
    match b with
    | some b => if spoils f then takeStream o n empty true (inputMissing ix 0 0 n s) else takeStream o n b true s
    | none => takeStream o n empty true s

/-! ## Audio (R235, R241 to R243) -/

/-- The word of channel `c` of an input at one of its periods: zero of a port that is not LOCKED (R287). -/
def inWord? (s : State) (ix k c p : Nat) : Option Nat :=
  let l := latched s (pfWord ix k)
  let f := flowD s l.src
  if l.sel && portSilent s f && f.st == .running then some 0
  else if l.sel && !inputDead s ix k && f.st == .running then tget? (tgetD s.aud.inp (f.base + c) []) p else none

/-- The same for the item: `bad` is the input whose block an uncorrectable word voids (R235). -/
def itemWord? (bad : Option Nat) (s : State) (ix k c p : Nat) : Option Nat := if bad = some k then none else inWord? s ix k c p

def inSample (bad : Option Nat) (s : State) (ix k c p : Nat) : Int := ((itemWord? bad s ix k c p).map sampleOf).getD 0

/-- The coefficient of a route of a mix in a set: terms that name the route twice add. -/
def routeGain (b : List Byte) (k ch out : Nat) : Int :=
  (((mixTerms b).filter (fun t => t.inp == k && t.ch == ch && t.out == out)).map (fun t => (gainCoef t.gain : Int))).sum

/-- Routes to an output channel in either set. -/
def routesTo (a b : List Byte) (out : Nat) : List (Nat × Nat) :=
  (((mixTerms a ++ mixTerms b).filter (fun t => t.out == out)).map (fun t => (t.inp, t.ch))).eraseDups

/-- The coefficient of a route at output period `q`: every changed gain ramps along a raised cosine (R243, R279). -/
def routeCoef (p : Proc) (k ch out q : Nat) : Int :=
  let b := setNow p
  let new := routeGain b k ch out
  let len := rampOf (fieldAt b 2 2)
  if p.oldParams.isEmpty || decide (p.changedAt + len ≤ q) then new
  else
    let old := routeGain p.oldParams k ch out
    if q < p.changedAt then old else if old = new then new else lerp old new (q - p.changedAt) len

/-- AUDIO_MIX: output channel `c` at period `q` (R243). -/
def mixOut (bad : Option Nat) (s : State) (ix c q : Nat) : Nat :=
  let p := proc s ix
  let sum := ((routesTo p.oldParams (setNow p) c).map (fun r => inSample bad s ix r.1 r.2 (q - 6) * routeCoef p r.1 r.2 c q)).sum
  wordOf ((sum + 2 ^ 19) / 2 ^ 20) (Config.engineFlags ix q % 16 * 16)

/-- The offset that the SRC follows: the measured one, clamped to ±1,000 ppm (R242). -/
def srcRatio (p : Proc) : Int := max (-1000) (min 1000 p.srcPpm)

/-- The read point of output period `q` in the input, in 1 / (10⁶ × output rate) of a sample: behind the newest input by what the
buffer holds (R242). -/
def srcPoint (p : Proc) (q : Nat) : Int :=
  ((q * audioRate (pInFormat p) * 1000000 : Nat) : Int) - p.srcLevel

/-- SRC: output channel `c` at period `q`; silence while the ratio is out of range (R242). -/
def srcOut (bad : Option Nat) (s : State) (ix c q : Nat) : Nat :=
  let p := proc s ix
  let f := flowD s (pfNum ix)
  let one : Nat := 1000000 * audioRate f.format
  let z := srcPoint p q
  let v := Config.resample ((List.range 64).map (fun j => inSample bad s ix 0 c (z / (one : Int) + (j : Int) - 31).toNat)) (z % (one : Int)) one
  let z : Int := match p.srcDown, p.srcUp with
    | some d, _ => lerp v 0 (q - d) 240
    | none, some u => if q < u then 0 else lerp 0 v (q - u) 240
    | none, none => v
  wordOf z (Config.engineFlags ix q % 16 * 16)

/-- DELAY: the word written `d` periods before input period `p`. -/
def histWord (p : Proc) (c q d : Nat) : Nat := if q < d then 0 else tgetD (tgetD p.hist c []) (q - d) 0

/-- DELAY: output channel `c` at period `q`, with a crossfade of the old and new read points after a change (R241). -/
def delayOut (s : State) (ix c q : Nat) : Nat :=
  let p := proc s ix
  let b := setNow p
  let len := rampOf (fieldAt b 4 2)
  let new := histWord p c (q - 6) (fieldAt b 0 4)
  if p.oldParams.isEmpty || decide (p.changedAt + len ≤ q) then new
  else
    let old := histWord p c (q - 6) (fieldAt p.oldParams 0 4)
    if q < p.changedAt then old
    else wordOf (lerp (sampleOf old) (sampleOf new) (q - p.changedAt) len) (Config.engineFlags ix q % 16 * 16)

/-- DELAY writes the input period behind output period `q` to its store. -/
def recordHist (bad : Option Nat) (ix q : Nat) (s : State) : State :=
  let p := proc s ix
  let n := (flowD s (pfNum ix)).count
  setProc ix { p with hist := (List.range n).foldl (fun h c =>
    tupd h c [] (fun t => tput (t.filter (fun e => decide (q ≤ e.1 + pBody p 0 4 + 6))) (q - 6) ((itemWord? bad s ix 0 c (q - 6)).getD 0))) p.hist } s

/-- The word of an audio function. -/
def audioOut (bad : Option Nat) (s : State) (ix c q : Nat) : Nat :=
  match pFunc (proc s ix) with
  | 5 => mixOut bad s ix c q
  | 6 => srcOut bad s ix c q
  | _ => delayOut s ix c q

/-- SRC: the buffer after one output period, with SRC_RANGE where it overflows 2 ms or runs dry with the ratio out of range: the
output ramps to silence and the buffer is reset (R242). -/
def srcStep (ix q : Nat) (s : State) : State :=
  let p := proc s ix
  let f := flowD s (pfNum ix)
  let lvl := p.srcLevel + (p.srcPpm - srcRatio p) * (audioRate (pInFormat p) : Int)
  if lvl ≤ 0 ∨ 2 * srcStart p f < lvl then
    let s := setProc ix { p with srcLevel := srcStart p f, srcDown := some (p.srcDown.getD q), srcUp := none } s
    raiseIf p.srcDown.isNone { src := 0x12A, data := [(2, pfNum ix), (4, ofSigned 32 p.srcPpm)] } s
  else setProc ix { p with srcLevel := lvl } s

/-- One output period of an audio item: the set whose period has come is in force (R241, R243). -/
def audioPeriod (bad : Option Nat) (ix q : Nat) (void_ : Bool) (s : State) : State :=
  let f := flowD s (pfNum ix)
  let s := commitSet ix q s
  let fn := pFunc (proc s ix)
  let s := if fn = 7 && !void_ then recordHist bad ix q s else s
  let s := if fn = 6 && !void_ then srcStep ix q s else s
  storeSamples q f.base ((List.range f.count).map (fun c => if void_ then 0 else audioOut bad s ix c q)) s

/-- Inputs without the block's first period report it (R235). -/
def audioMissing (bad : Option Nat) (ix b : Nat) (s : State) : State :=
  let p := proc s ix
  let f := flowD s (pfNum ix)
  let i := if pFunc p = 6 then (srcPoint p (6 * b) / ((1000000 * audioRate f.format : Nat) : Int)).toNat else 6 * b - 6
  (usedInputs p f).foldl (fun s k =>
    if (itemWord? bad s ix k 0 i).isSome then s else inputMissing ix k (b % 4096) (fiNow s f.domain) s) s

/-- SRC: the input's rate as its STAMPs show it, and since when it has been in range (R242). -/
def srcMeasure (ix : Nat) (ppm : Int) (s : State) : State :=
  let p := proc s ix
  if pFunc p != 6 then s
  else setProc ix { p with
    srcPpm := ppm
    srcOk := if -1000 ≤ ppm ∧ ppm ≤ 1000 then some (p.srcOk.getD s.tim.now) else none } s

/-- One audio item: the block of six output periods from period 6 × `b`. A voided item leaves the flow's state as it was
(R250). -/
def audioWork (ix b : Nat) (f : ReadFault) (void_ : Bool) (ppm : Int) (s : State) : State :=
  let bad := if spoils f then some f.inp else none
  let s := if void_ then s else
    audioMissing bad ix b (readChecks ix f.inp (b % 4096) (secOf s) f (srcMeasure ix ppm s))
  (List.range 6).foldl (fun s i => audioPeriod bad ix (6 * b + i) void_ s) s

/-! ## ENGINE_WORK_ITEM and SRC_RECOVER -/

/-- The tile of a slot is held in a block reset (R380). -/
def tileHeld (s : State) (c tile : Nat) : Bool := (tget? s.ika.heldTiles (64 * c + tile)).isSome

/-- The lines that a video item reads from cell memory, or the words of an audio item's block by input and channel. -/
def itemInputs (s : State) (ix item : Nat) (f : ReadFault) : List (List Byte) :=
  let p := proc s ix
  let x := flowD s (pfNum ix)
  if x.essence = 1 then
    (usedInputs p x).flatMap (fun k => (List.range x.count).map (fun c =>
      (List.range 6).flatMap (fun i => leBytes 4 ((inWord? s ix k c (6 * item + i - 6)).getD 0))))
  else if x.essence = 0 ∧ buffers p = false then
    (if pFunc p = 2 then scaleLines p x item else [item]).map (fun j => (itemLine s ix (itemFrame s ix item) j f).getD [])
  else []

/-- The result of an item in cell memory. -/
def itemResult (s : State) (ix item : Nat) : List Byte :=
  let o := pfNum ix
  let x := flowD s o
  if x.essence = 0 then (stored s o item).bytes
  else if x.essence = 1 then
    (List.range x.count).flatMap (fun c => (List.range 6).flatMap (fun i =>
      leBytes 4 (tgetD (tgetD s.aud.inp (x.base + c) []) (6 * item + i) 0)))
  else streamOf s o (fiNow s x.domain)

/-- The first item on the slot due for audit since the last tick is kept for the auditor: `before` is the state it began in
(R249). -/
def sampleItem (c slot ix item : Nat) (f : ReadFault) (before s : State) : State :=
  let r := room s c
  if r.auditNext = slot ∧ r.sampled = none then
    let x : AuditItem :=
      { pf := pfNum ix, item := item, state := proc before ix, inputs := itemInputs before ix item f
        crc := crc32c (itemResult s ix item) }
    setRoom c { r with sampled := some x } s
  else s

/-- ENGINE_WORK_ITEM: output line, audio block or frame `item` of a processed flow on an active slot. A COMPOSE meets nothing
where it reads nothing (R265). A parity error in the engine's local memory, or a reset of its tile, voids the item (R250,
R380). -/
def opEngineWorkItem (pf slot item : Nat) (f : ReadFault) (parity : Bool) (ppm : Int) (s : State) : State :=
  let ix := ixOf pf
  let x := flowD s (pfNum ix)
  let c := x.port
  if x.st != .running || !hasProc (proc s ix) || !decide (slot < 32) then s
  else
    let t := tileOf (room s c) slot
    let void_ := parity || tileHeld s c t
    let f := if pFunc (proc s ix) = 4 ∧ composeReads (proc s ix) f.inp item f.line = false then {} else f
    let s := raiseIf (parity && !tileHeld s c t)
      { src := 0x129, data := [(4, tileLoc c t 1), (2, pfNum ix)], unit := some (.tile c t) } s
    sampleItem c slot ix item f s (
      if x.essence = 0 then videoWork ix item f void_ s
      else if x.essence = 1 then audioWork ix item f void_ ppm s
      else ancWork ix f void_ s)

/-- SRC_RECOVER: the ratio has been in range for 100 ms and the output ramps back up from the next period. -/
def opSrcRecover (pf : Nat) (s : State) : State :=
  let ix := ixOf pf
  let p := proc s ix
  match p.srcDown, p.srcOk with
  | some _, some t =>
    let s := atLeast (t + 100000000) s
    setProc ix { p with srcDown := none, srcUp := some (periodAt (audioRate (flowD s (pfNum ix)).format) s.tim.now + 1) } s
  | _, _ => s

/-- ENGINE_TILE_RESET_RELEASE: a tile leaves its block reset 10 µs after it began (R380). -/
def opEngineTileResetRelease (c t : Nat) (s : State) : State :=
  match tget? s.ika.heldTiles (64 * c + t) with
  | some at_ =>
    let s := atLeast at_ s
    { s with ika := { s.ika with heldTiles := tdel s.ika.heldTiles (64 * c + t) } }
  | none => s

end Sys2Proof.Machine
end

