-- ==== Sys2Proof/Machine/Timetable.lean ====
section
/-!
DEFINITION. The timetable's writes and the latches that take them (R77 to R81, R105, R108), direct writes and readback (R108,
R109), platform depth (R82) and the sparing of cell-memory rows (R111).
-/
namespace Sys2Proof.Machine
open Sys2Proof

/-- The journal's XP record of one word (R361). -/
def journalXp (w : Nat) (s : State) : State := journal 0x20 (leBytes 2 w ++ leBytes 4 (xpWordBits (xp s w))) s

/-! ## PAGE_ACTIVATION (R105) -/

/-- The sample period or frame from which a parameter set is in force. -/
def paramFrom (s : State) (p : Page) (pf : Nat) : Nat :=
  let f := flowD s (pfNum pf)
  if f.essence = 1 then ceilDiv (pageT s p * audioRate f.format) 1000000000 else p.actN

/-- One change written through the timetable port. Slot groups change at cycle boundaries. -/
def writeChange (slot : Nat) (p : Page) (c : Change) (s : State) : State :=
  match c with
  | .word w sel src =>
    journalXp w (setXp w { xp s w with
      sel := sel, src := src, pend := true, mgmt := false, page := slot, wrote := s.tim.now, ttAt := some s.tim.now, bad := false } s)
  | .audio o i g ramp off take_ =>
    let s0 := periodFrom s (pageT s p + off)
    journalXps o (writeXp o i g ramp s0 take_
      { page := slot, ttAt := some s.tim.now, rank := 8 * pageT s p + p.dom
        countUntil := some (boundaryFrom s p.dom (periodStart (matrixRate s) (s0 + ramp))) } s)
  | .param pf set => setProc pf { proc s pf with next := some (set, paramFrom s p pf) } s
  | .mask _ _ _ => s

/-- The crosspoint words whose latches carry the switching instants of the changes' targets; of a parameter set that of its
processed flow's first input (R96). -/
def changeWords (l : List Change) : List Nat :=
  l.filterMap (fun c =>
    match c with
    | .word w _ _ => some w
    | .param p _ => some (pfWord p 0)
    | _ => none)

/-- A page whose last word has latched, or that has none, has applied. -/
def finishPage (slot : Nat) (s : State) : State :=
  let p := page s slot
  if p.pst == .applying && p.unlatched.isEmpty then
    let s := setPage slot { p with pst := .applied, appliedTs := ts32 s.tim.now } s
    journalState slot (raise { src := 0x040, data := [(4, p.id), (4, ts32 s.tim.now)], fin := partTag p } s)
  else s

/-- PAGE_ACTIVATION: at T(ACT_FI) a COMMITTED page's changes are written. -/
def opPageActivation (id : Nat) (s : State) : State :=
  match pageSlot s id with
  | none => s
  | some n =>
    let p := page s n
    if !(p.part && p.pst == .committed) then s
    else
      let s := atLeast (pageT s p) s
      let s := setPage n { p with pst := .applying, unlatched := changeWords p.changes } s
      finishPage n (journalState n (p.changes.foldl (fun s c => writeChange n p c s) s))

/-! ## CROSSPOINT_LATCH (R79, R81) -/

/-- The frame for which a word latches next. -/
def latchFrame (s : State) (w d : Nat) : Nat :=
  let l := latched s w
  if l.at_ ≠ 0 ∧ l.fi = fiNow s d then fiNow s d + 1 else fiNow s d

/-- Direct writes taken by this latch are reported, oldest first (R108); also where the latch read an uncorrectable word and
kept the previous source (DESIGN CHOICE, notes/assumptions/133.md). -/
def directApplied (w : Nat) : List (Nat × Nat) → State → State
  | [], s => s
  | (tag, src) :: l, s => directApplied w l (raise { src := 0x045, data := [(2, w), (2, src)], fin := some tag } s)

/-- A latched word is struck from the pages that wait for it. -/
def strikeWord (w : Nat) (s : State) : State :=
  (tkeys s.tt.slots (fun _ p => p.pst == .applying && p.unlatched.contains w)).foldl
    (fun s n => finishPage n (setPage n { page s n with unlatched := (page s n).unlatched.filter (fun x => x != w) } s)) s

/-- An engine input follows its latch. -/
def engineLatch (w m : Nat) (changed : Bool) (s : State) : State :=
  if w < 1024 then s
  else
    let ix := (w - 1024) / 16
    let k := wordInput w
    let s := if changed then inputChanged ix k s else s
    openFrame ix k m (latched s w) s

/-- CROSSPOINT_LATCH: a word that cannot be read keeps the source of the previous frame. -/
def opCrosspointLatch (w : Nat) (bad : Bool) (s : State) : State :=
  match flow? s (wordFlow w) with
  | none => s
  | some f =>
    if !domEn s f.domain || !decide (w < 9216) then s
    else
      let m := latchFrame s w f.domain
      let s := atLeast (tOf s f.domain m + takeOffset f) s
      let x := xp s w
      let l := latched s w
      let lost := bad || x.bad
      let was := if l.fi < m then (if l.sel then some l.src else none) else l.was
      let new : XpLive := if lost then { l with fi := m, at_ := s.tim.now, kept := true, was := was }
                          else { sel := x.sel, src := x.src, fi := m, at_ := s.tim.now, kept := false, was := was }
      let x' := { x with pend := false, bad := lost, direct := [] }
      let s := setXp w x' { s with swc := { s.swc with live := tput s.swc.live w new } }
      let s := engineLatch w m (new.sel != l.sel || new.src != l.src) s
      let s := strikeWord w s
      directApplied w x.direct (raiseIf lost { src := 0x044, data := [(2, w)] } s)

/-! ## XP_DIRECT (R80, R108) -/

/-- The word is one an XP or PF_INPUT entry could name (R88, R276): of a LOCKED output that is no audio flow, or of an input
that a processed flow uses. -/
def wordNameable (s : State) (w : Nat) : Bool :=
  match flow? s (wordFlow w) with
  | none => false
  | some f =>
    f.locked && (if w < 1024 then f.essence != 1 else (inputDecl (proc s ((w - 1024) / 16)) f (wordInput w)).isSome)

/-- A management-port write discarded: WRITE_COLLISION with its cause, and the word in the address log. -/
def collide (c : Cmd) (w cause : Nat) (s : State) : Reply × State :=
  (denied, alog w .ram c.ring 0x043 (raise { src := 0x043, data := [(2, w), (1, cause)] }
    { s with swc := { s.swc with xpCollision := satAdd 16 s.swc.xpCollision 1 } }))

/-- The change a direct write makes. -/
def directChange (w sel src : Nat) : Change := .word w (sel == 1) (if sel = 1 then normFlow src else 0)

/-- XP_DIRECT. -/
def opXpDirect (c : Cmd) (w sel src : Nat) : State → State :=
  hostCmd c 0x0210 true (fun s =>
    let f := flowD s (wordFlow w)
    let n := normFlow src
    let badSrc := if sel = 0 then src != 0 else !(flowNumOk src && (nsOf src == 0 || nsOf src == 2))
    match firstErr [
      (decide (9215 < w) || !wordNameable s w, badArg c 24 s), (decide (1 < sel), badArg c 26 s), (badSrc, badArg c 28 s),
      (!ttEn s, denied), (inDestConsist s (wordFlow w), refusedAt (argAt c 24 s)),
      (sel == 1 && (!selOk s w n || slotsClosed s n), refusedAt (argAt c 28 s)),
      (!changesFit s f.domain (fiNow s f.domain + 1) [directChange w sel src], refusedAt (argAt c 24 s))] with
    | some r => (r, s)
    | none =>
      if (xp s w).ttAt = some s.tim.now then collide c w 0 s
      else if (xp s w).pend then collide c w 1 s
      else if wordNamed s w then (denied, s)
      else
        (accepted, journalXp w (setXp w { xp s w with
          sel := sel == 1, src := if sel = 1 then n else 0, mgmt := true, page := 0, wrote := s.tim.now, bad := false
          direct := (xp s w).direct ++ [(c.tag, if sel = 1 then n else 0)] } s)))

/-- XP_READ (R109). -/
def opXpRead (c : Cmd) (first count a : Nat) : State → State :=
  hostCmd c 0x0211 false (checked
    (fun s => [(decide (9215 < first), badArg c 24 s), (count == 0 || decide (9216 < first + count), badArg c 26 s)])
    (readBack c a (fun s => (List.range count).flatMap (fun i =>
      leBytes 4 (xpWordBits (xp s (first + i))) ++ leBytes 4 (xpLiveBits (latched s (first + i)))))))

/-! ## PLATFORM_SET (R82) -/

def opPlatformSet (c : Cmd) (flow d : Nat) : State → State :=
  let n := normFlow flow
  hostCmd c 0x0220 true (checked
    (fun s => [(nsOf flow != 1 || (flow? s n).isNone || (flowD s n).essence != 0, badArg c 24 s),
      (decide (d < 2) || decide (8 < d), badArg c 26 s), (active (flowD s n), denied)])
    (fun s => (replyDone, journal 0x60 (leBytes 1 0 ++ leBytes 2 n ++ leBytes 1 d) (setFlow n { flowD s n with depth := d } s))))

/-! ## Sparing of cell-memory rows (R111) -/

/-- CELL_ROW_SPARE: a bank has 8 spare rows. A domain that is not enabled has no boundary to name and returns BAD_FIELD
(DESIGN CHOICE, notes/assumptions/132.md). -/
def opCellRowSpare (c : Cmd) (bank row dom fi : Nat) : State → State :=
  hostCmd c 0x0230 true (checked
    (fun s => [
      (decide (95 < bank), badArg c 24 s), (decide (255 < row), badArg c 25 s),
      (decide (7 < dom) || !domEn s dom, badArg c 26 s),
      (s.swc.rows.any (fun r => r.bank == bank && r.row == row), denied),
      (decide (8 ≤ (s.swc.rows.filter (fun r => r.bank == bank)).length), noResource),
      (decide (tOf s dom (fullFi s dom fi) < s.tim.now + framesNs s dom 2), replyLate)])
    (fun s =>
      let k := (s.swc.rows.filter (fun r => r.bank == bank)).length
      (accepted, { s with swc := { s.swc with
        rows := s.swc.rows ++ [{ bank := bank, row := row, spare := k, dom := dom, fi := fullFi s dom fi, tag := c.tag }] } })))

def setRow (bank row : Nat) (f : RowSpare → RowSpare) (s : State) : State :=
  { s with swc := { s.swc with rows := s.swc.rows.map (fun r => if r.bank = bank ∧ r.row = row then f r else r) } }

/-- CELL_ROW_COPY_DONE. -/
def opCellRowCopyDone (bank row : Nat) (s : State) : State := setRow bank row (fun r => { r with copied := true }) s

/-- CELL_ROW_SPARE_SWAP: at the named boundary reads go to the spare row; after a step that skips it, at the first boundary of
its domain (R455). -/
def opCellRowSpareSwap (bank row : Nat) (s : State) : State :=
  match s.swc.rows.find? (fun r => r.bank == bank && r.row == row && r.copied && !r.swapped) with
  | none => s
  | some r =>
    raise { src := 0x048, data := [(4, locCode 0 5 bank (256 + r.spare) 0xFF)], fin := some r.tag }
      (setRow bank row (fun x => { x with swapped := true }) (atLeast (namedFrame s r.dom r.fi) s))

end Sys2Proof.Machine
end

