-- ==== Sys2Proof/Machine/Svp.lean ====
section
/-!
DEFINITION. Serial video ports (R154 to R177): interfaces, port descriptors, the receiver and the transmitter.
-/
namespace Sys2Proof.Machine
open Sys2Proof

/-! ## Interfaces (R155, R159, R160) -/

/-- The interface of a video FORMAT as an IFRATE code in its integer form: 1 HD, 3 3G, 5 6G, 7 12G, 0 for none. -/
def ifClass (f : Nat) : Nat :=
  let one := fmtSampling f == 1
  let rate := fmtRate f
  if !videoFormatOk f then 0
  else
    match fmtRaster f with
    | 1 => if one then 1 else 3
    | 2 => if one then 1 else 3
    | 3 => if rate ≤ 5 then (if one then 1 else 3) else if one then 3 else 5
    | _ => if rate ≤ 5 then (if one then 5 else 7) else if one then 7 else 0

/-- Rate codes of the fractional family (R70, R155). -/
def fractional (rate : Nat) : Bool := rate == 1 || rate == 4 || rate == 7

/-- IFRATE of a FORMAT. -/
def ifRateOf (f : Nat) : Nat := if ifClass f = 0 then 0 else ifClass f + (if fractional (fmtRate f) then 1 else 0)

/-- Sample frequency of an interface as a fraction of Hz. -/
def ifClock (code : Nat) : Nat × Nat :=
  let base := match (code + 1) / 2 with
    | 1 => 74250000
    | 2 => 148500000
    | 3 => 297000000
    | _ => 594000000
  if code % 2 = 0 then (base * 1000, 1001) else (base, 1)

/-- floor(line period) of a format, ns. -/
def lineFloor (f : Nat) : Nat := rateDen (fmtRate f) * 1000000000 / (rateNum (fmtRate f) * fmtTotal f)

def sdiRx (s : State) (p : Nat) : SdiRx := tgetD s.svp.rx p {}
def setRx (p : Nat) (x : SdiRx) (s : State) : State := { s with svp := { s.svp with rx := tput s.svp.rx p x } }
def sdiTx (s : State) (p : Nat) : SdiTx := tgetD s.svp.tx p {}
def setTx (p : Nat) (x : SdiTx) (s : State) : State := { s with svp := { s.svp with tx := tput s.svp.tx p x } }

/-- An SDI signal is that of a port 0 to 63, or, from 64 on, that of the ST 2022-6 stream of video flow `p − 64` (R196). -/
def stream6 (p : Nat) : Nat := p - 64

/-- CARRIAGE, ASSOC and GROUP of a flow of an ST 2022-6 stream (R182), and GROUP of a port's (R158). -/
def carriage (f : Flow) : Nat := fieldAt f.params 0 1
def assoc (f : Flow) : Nat := normFlow (fieldAt f.params 12 2)
def sdiGroup (f : Flow) : Nat := if f.endpoint = 1 then fieldAt f.params 6 1 else fieldAt f.params 0 1

/-- A flow is carried by an SDI signal in one direction. -/
def onSdi (ns p n : Nat) (f : Flow) : Bool :=
  nsOf n == ns && (if p < 64 then f.endpoint == 0 && f.port == p
    else f.endpoint == 1 && carriage f == 1 && (if f.essence = 0 then ixOf n == stream6 p else ixOf (assoc f) == stream6 p))

/-- The video flow of an SDI signal in one direction. -/
def videoOn (s : State) (ns p : Nat) : Option (Nat × Flow) := s.flows.find? (fun f => onSdi ns p f.1 f.2 && f.2.essence == 0)

/-- The port an SDI event names: for an ST 2022-6 stream, its MAC. -/
def sdiLabel (s : State) (p : Nat) : Nat := if p < 64 then p else (flowD s (flowNum 0 (stream6 p))).port
/-- The unit an SDI event names: an ST 2022-6 stream has none. -/
def rxUnit (p : Nat) : Option ResetUnit := if p < 64 then some (.sdiRx p) else none

/-! ## SVP_PORT_SET and SVP_PORT_READ (R160, R161, R176) -/

/-- The descriptor held, as 16 bytes. -/
def rxBytes (p : Nat) (x : SdiRx) : List Byte :=
  leBytes 1 p ++ leBytes 1 0 ++ leBytes 1 x.mode ++ leBytes 1 x.ifRate ++ leBytes 1 0 ++ leBytes 1 x.vpidOpt ++ leBytes 1 x.trsTol ++
    leBytes 1 (flag x.invert 0) ++ zeros 8
def txBytes (p : Nat) (x : SdiTx) : List Byte :=
  leBytes 1 p ++ leBytes 1 1 ++ leBytes 1 x.mode ++ leBytes 1 0 ++ leBytes 1 (flag x.levelBMap 0) ++ leBytes 1 0 ++ leBytes 1 0 ++
    leBytes 1 (flag x.invert 0) ++ leBytes 4 x.txOffset ++ zeros 4

/-- A flow on a side of the port is RUNNING or HELD. -/
def sdiBusy (s : State) (ns p : Nat) : Bool := s.flows.any (fun f => nsOf f.1 == ns && f.2.endpoint == 0 && f.2.port == p && active f.2)

/-- TX_OFFSET_NS fits the video output flow of the port. -/
def txOffsetOk (s : State) (p off : Nat) : Bool :=
  match videoOn s 1 p with
  | some (_, f) => decide (off < lineFloor f.format)
  | none => true

/-- The checks of a descriptor at `a`. IFRATE 0 names no interface, so MODE 0x02 with it returns BAD_FIELD (DEDUCED,
notes/assumptions/136.md). -/
def sdiChecks (s : State) (a : Nat) : List (Bool × Reply) :=
  let b (o : Nat) := fieldAt (hostBytes s a 16) o 1
  let rx := b 1 == 0
  let off := fieldAt (hostBytes s a 16) 8 4
  [(decide (63 < b 0), badField a), (decide (1 < b 1), badField (a + 1)), (decide ((if rx then 2 else 1) < b 2), badField (a + 2)),
    (if rx && b 2 == 2 then b 3 == 0 || decide (8 < b 3) else b 3 != 0, badField (a + 3)), (rx && b 4 != 0, badField (a + 4)),
    (decide ((if rx then 1 else 0) < b 5), badField (a + 5)), (decide ((if rx then 7 else 0) < b 6), badField (a + 6)),
    (if rx then off != 0 else !txOffsetOk s (b 0) off, badField (a + 8)),
    (!bit (rd s .svpOctetCfg 0) (b 0 / 8) || sdiBusy s (b 1) (b 0), denied)]

/-- Candidates that follow an SDI receiver enter LOS (R52, R168). -/
def candsLose (p : Nat) (s : State) : State :=
  ((List.range 8).filter (fun i => candEn s (8 + i) && fld s .timRefCfg (8 + i) 5 0 == p)).foldl (fun s i => enterLos (8 + i) s) s

/-- They do in the cycle in which it leaves IDENTIFIED (R168). -/
def leaveIdentified (p : Nat) (s : State) : State := if (sdiRx s p).st != .identified then s else candsLose p s

/-- A receiver that begins to hunt forgets what it measured. -/
def huntAt (rate now : Nat) (x : SdiRx) : SdiRx :=
  { x with
    st := .hunt, rate := rate, since := now, levelB := false, vpidHere := false, vpid := 0, flywheel := false, format := 0xFFFF
    colour := 0, arrival := none, goodFrames := 0, badLines := 0, frameAt := none }

/-- The rate tried first on entry from DISABLED. -/
def firstRate (x : SdiRx) : Nat := if x.mode = 2 then x.ifRate else 7

/-- A receiver's descriptor applied. -/
def applyRx (p : Nat) (l : List Byte) (s : State) : State :=
  let old := sdiRx s p
  let s := leaveIdentified p s
  let x := { old with
    mode := fieldAt l 2 1, ifRate := fieldAt l 3 1, vpidOpt := fieldAt l 5 1, trsTol := fieldAt l 6 1, invert := bit (fieldAt l 7 1) 0 }
  let x := if x.mode = 0 then { huntAt 0 s.tim.now x with st := .disabled }
           else { huntAt (firstRate x) s.tim.now x with crc := if old.st = .disabled then 0 else old.crc }
  setRx p x s

/-- A transmitter's descriptor applied. -/
def applyTx (p : Nat) (l : List Byte) (s : State) : State :=
  setTx p { sdiTx s p with
    mode := fieldAt l 2 1, levelBMap := bit (fieldAt l 4 1) 0, invert := bit (fieldAt l 7 1) 0, txOffset := fieldAt l 8 4 } s

/-- An octet is gated: in TRIM every port of it is DISABLED (R403). -/
def octetGated (s : State) (o : Nat) : Bool :=
  s.pwr.st == .trim && bit (rd s .svpOctetCfg 0) o &&
    (List.range 8).all (fun i => (sdiRx s (8 * o + i)).st == .disabled && (sdiTx s (8 * o + i)).mode == 0)

/-- SVP_PORT_SET; a MODE other than 0 ungates the port's octet in 50 µs (R403). -/
def opSvpPortSet (c : Cmd) (a : Nat) (img : List Byte) (s : State) : State :=
  hostCmd c 0x0120 true (checked (fun s => (!c.hostOk, addressError a) :: sdiChecks s a)
    (fun s =>
      let l := hostBytes s a 16
      let p := fieldAt l 0 1
      let s := ungate (octetGated s (p / 8) && fieldAt l 2 1 != 0) 50000 s
      let s := if fieldAt l 1 1 = 0 then applyRx p l s else applyTx p l s
      (replyDone, journal 0x12 (leBytes 1 0 ++ (if fieldAt l 1 1 = 0 then rxBytes p (sdiRx s p) else txBytes p (sdiTx s p))) s)))
    (place a img s)

/-- SVP_PORT_READ. -/
def opSvpPortRead (c : Cmd) (p dir a : Nat) : State → State :=
  hostCmd c 0x0121 false (checked (fun s => [(decide (63 < p), badArg c 24 s), (decide (1 < dir), badArg c 25 s)])
    (readBack c a (fun s => if dir = 0 then rxBytes p (sdiRx s p) else txBytes p (sdiTx s p))))

/-! ## The receiver's states (R161, R164) -/

/-- The RUNNING input flows of a port; a restored flow that is not ready yet counts among the waiting ones (R367). -/
def inputsOn (s : State) (p : Nat) : List Nat := tkeys s.flows (fun n f => onSdi 0 p n f && f.st == .running && f.restore.isNone)
def waitingOn (s : State) (p : Nat) : List Nat := tkeys s.flows (fun n f => onSdi 0 p n f && f.st == .running && f.restore.isSome)

/-- A restored flow is ready: an audio flow's crosspoints rise from here where their output's first commit has passed
(R367, R368). -/
def readyFlow (n : Nat) (s : State) : State :=
  let f := flowD s n
  let s := setFlow n { f with restore := none } s
  if f.essence = 1 then
    riseXps (periodFrom s s.tim.now) (fun o i => decide (f.base ≤ i) && decide (i < f.base + f.count) &&
      (match ownerOut s o with
        | some (_, g) => !beforeCommit s g.domain
        | none => false)) s
  else s

/-- Restored flows are ready. -/
def readyFlows (l : List Nat) (s : State) : State := l.foldl (fun s n => readyFlow n s) s

/-- The rate tried after another: 12G, 12G /1.001, 6G, and so on. -/
def nextRate (r : Nat) : Nat :=
  match r with
  | 7 => 8
  | 8 => 5
  | 5 => 6
  | 6 => 3
  | 3 => 4
  | 4 => 1
  | 1 => 2
  | _ => 7

/-- The receiver hunts again after losing a signal: MODE 0x01 first tries the rate last locked. -/
def rehunt (p : Nat) (s : State) : State :=
  let s := leaveIdentified p s
  let x := sdiRx s p
  setRx p (huntAt (if x.mode = 2 then x.ifRate else if x.lastRate = 0 then 7 else x.lastRate) s.tim.now x) s

/-- SDI_HUNT_DWELL: 50 µs at one rate without lock. -/
def opSdiHuntDwell (p : Nat) (s : State) : State :=
  let x := sdiRx s p
  if x.st != .hunt then s
  else
    let s := atLeast (x.since + 50000) s
    setRx p { x with rate := if x.mode = 2 then x.ifRate else nextRate x.rate, since := s.tim.now } s

/-- SDI_CDR_LOCK. -/
def opSdiCdrLock (p : Nat) (s : State) : State :=
  let x := sdiRx s p
  if x.st != .hunt then s
  else setRx p { x with st := .locked, lastRate := x.rate, since := s.tim.now, goodFrames := 0, frameAt := none } s

/-- SDI_IDENT_TIMEOUT: 3 FP of 23.98 Hz in LOCKED without identification. -/
def opSdiIdentTimeout (p : Nat) (s : State) : State :=
  let x := sdiRx s p
  if x.st = .locked then rehunt p (atLeast (x.since + 125125000) s) else s

/-- A signal lost: the candidates are in LOS at once (R52), and the flows of the port are held, with no format identified any
more. -/
def loseSignal (p cause : Nat) (s : State) : State :=
  let l := inputsOn s p
  let s := raise { src := 0x0E1, data := [(1, sdiLabel s p), (1, cause)], unit := rxUnit p } (rehunt p (candsLose p s))
  holdFlows l 0xFFFF s

/-- SDI_SIGNAL_LOSS: cause 0 transitions, 1 CDR lock. -/
def opSdiSignalLoss (p cause : Nat) (s : State) : State :=
  let x := sdiRx s p
  if x.st = .locked ∨ x.st = .identified then loseSignal p cause s else s

/-! ## Frame starts (R162 to R164) -/

/-- The frame that a start begins: of the domain for a LOCKED flow, else the port's own count, which FLOW_START sets so that
the next frame is 0 (R163). -/
def sdiFrameNum (s : State) (p at_ : Nat) : Nat :=
  match videoOn s 0 p with
  | some (_, f) => if f.locked then fiAt s f.domain at_ else ((sdiRx s p).frame + 1) % 2 ^ 32
  | none =>
    match s.flows.find? (fun f => onSdi 0 p f.1 f.2 && f.2.locked) with
    | some (_, f) => fiAt s f.domain at_
    | none => ((sdiRx s p).frame + 1) % 2 ^ 32

/-- The frame period is within its limit: one sample period of the interface for a LOCKED flow, 500 ppm else. -/
def periodOk (rx : SdiRx) (f : Flow) (period : Nat) : Bool :=
  let n := rateNum (fmtRate f.format)
  let d := rateDen (fmtRate f.format) * 1000000000
  let diff := absDiff ((period * n : Nat) : Int) ((d : Nat) : Int)
  let k := ifClock rx.rate
  if f.locked then decide (diff * k.1 ≤ n * 1000000000 * k.2) else decide (diff * 1000000 ≤ 500 * d)

/-- The format and colour a frame start shows for a video flow: declared sampling and colour where no VPID is needed. -/
def shownFormat (rx : SdiRx) (f : Flow) (x : SdiFrame) : Nat × Nat :=
  if !x.vpidHere && rx.vpidOpt == 1 then (x.format / 16 * 16 + fmtSampling f.format, f.colour) else (x.format, x.colour)

/-- The mismatches of a frame start for the video flow of the port: the event of each, in ascending order of source. -/
def frameFaults (s : State) (p : Nat) (f : Flow) (x : SdiFrame) (period : Option Nat) : List Ev :=
  let rx := sdiRx s p
  let sh := shownFormat rx f x
  let absent := !x.vpidHere && rx.vpidOpt == 0
  let shape := sh.1 / 16 != f.format / 16
  let kind := sh.1 % 16 != f.format % 16 || sh.2 != f.colour
  let arrival := x.at_ - tOf s f.domain (fiAt s f.domain x.at_)
  let late := f.locked && decide (lineFloor f.format / 2 < arrival)
  let drift := match period with
    | some t => !periodOk rx f t
    | none => false
  (if absent || (kind && x.vpidHere) then
    [{ src := 0x0E6, data := (1, sdiLabel s p) :: (List.range 4).map (fun i => (1, bits x.vpid (31 - 8 * i) (24 - 8 * i))), unit := rxUnit p }]
   else if shape || kind then [{ src := 0x3FF }] else []) ++
  (if late || drift then
    [{ src := 0x0E7, data := [(1, sdiLabel s p), (4, if late then arrival else period.getD 0)], unit := rxUnit p }] else [])

/-- The mismatch list's mark of a raster, rate or sampling that differs: it has no event of its own. -/
def realEvent (e : Ev) : Bool := e.src != 0x3FF

/-- The detected format reported for a port (R164). -/
def detectedOf (s : State) (p : Nat) : Nat := if (sdiRx s p).st = .identified then (sdiRx s p).format else 0xFFFF

/-- The RUNNING flows of an identified port meet a frame start. -/
def judgeFrame (p : Nat) (x : SdiFrame) (period : Option Nat) (s : State) : State :=
  match videoOn s 0 p with
  | none => s
  | some (_, f) =>
    let l := frameFaults s p f x period
    if (inputsOn s p).isEmpty || l.isEmpty then s
    else holdFlows (inputsOn s p) (detectedOf s p) (raiseAll (l.filter realEvent) s)

/-- A video input whose stop is armed stops at its frame start (R22). -/
def stopAtFrame (l : List Nat) (s : State) : State :=
  l.foldl (fun s n =>
    let f := flowD s n
    if f.essence = 0 && f.st == .running && f.stop.isSome then stopFlow n s else s) s

/-- ANC streams of the frame that ends get their closing record (R36). -/
def closeAnc (l : List Nat) (fi : Nat) (s : State) : State :=
  l.foldl (fun s n => if (flowD s n).essence = 2 && (flowD s n).st == .running then takeStream n fi (zeros 6) true s else s) s

/-- A LOCKED video input flow of the signal is RUNNING (R162, R175). -/
def lockedVideo (s : State) (p : Nat) : Bool :=
  match videoOn s 0 p with
  | some (_, f) => f.locked && f.st == .running
  | none => false

/-- A frame of the port begins for its RUNNING flows. -/
def beginFrame (p n at_ : Nat) (s : State) : State :=
  let arrival : Option Int := match videoOn s 0 p with
    | some (_, f) => some ((at_ : Int) - (tOf s f.domain n : Int))
    | none => none
  let s := setRx p { sdiRx s p with
    frame := n, frameAt := some at_, arrival := if lockedVideo s p then arrival else none, trsSeen := false, crcSeen := false } s
  ((inputsOn s p).filter (fun k => (flowD s k).essence != 1)).foldl (fun s k => frameBegins k n at_ 0 s) s

/-- At a frame start at which the receiver is IDENTIFIED with the flow's FORMAT, its restored flows are ready (R367). -/
def readyPort (p : Nat) (x : SdiFrame) (s : State) : State :=
  let ok : Bool := match videoOn s 0 p with
    | some (_, f) => (shownFormat (sdiRx s p) f x).1 == f.format
    | none => true
  if ok then readyFlows (waitingOn s p) s else s

/-- What the VPID of a frame shows (R161, R175). -/
def takeVpid (x : SdiFrame) (rx : SdiRx) : SdiRx :=
  { rx with colour := x.colour, vpidHere := x.vpidHere, vpid := if x.vpidHere then x.vpid else 0, levelB := x.levelB }

/-- What is identified at a frame start: the sampling nibble is 0 without a VPID. -/
def identify (x : SdiFrame) (rx : SdiRx) : SdiRx :=
  { takeVpid x rx with format := if x.vpidHere then x.format else x.format / 16 * 16 }

/-- A frame start seen in LOCKED: the second of two complete frames of one raster and rate, which R155 has, identifies the
receiver (R161). -/
def lockedFrame (p : Nat) (x : SdiFrame) (s : State) : State :=
  let rx := sdiRx s p
  let same := rx.frameAt.isSome && rx.format / 16 == x.format / 16 && ifRateOf (x.format / 16 * 16 + 1) != 0
  let good := if same then rx.goodFrames + 1 else 0
  let s := holdFlows (inputsOn s p) 0xFFFF s
  if good < 2 then setRx p { takeVpid x rx with goodFrames := good, frameAt := some x.at_, format := x.format } s
  else
    let y := identify x rx
    let s := setRx p { y with st := .identified, goodFrames := 0, badLines := 0, since := s.tim.now } s
    let s := raise { src := 0x0E0, data := [(1, sdiLabel s p), (1, rx.rate), (2, y.format)], unit := rxUnit p } s
    beginFrame p (sdiFrameNum s p x.at_) x.at_ (readyPort p x s)

/-- SDI_FRAME_START: 0H of interface line 1. A signal of the polarity that INVERT does not expect shows no TRS (R160). -/
def opSdiFrameStart (p : Nat) (x : SdiFrame) (s : State) : State :=
  let rx := sdiRx s p
  let s := atLeast x.at_ s
  let period := rx.frameAt.map (fun t => x.at_ - t)
  if x.inverted != rx.invert then s
  else
    match rx.st with
    | .locked => lockedFrame p x s
    | .identified =>
      let s := closeAnc (inputsOn s p) rx.frame s
      let s := setRx p (identify x rx) (stopAtFrame (inputsOn s p) s)
      let s := judgeFrame p x period s
      beginFrame p (sdiFrameNum s p x.at_) x.at_ (readyPort p x s)
    | _ => s

/-! ## Lines (R161, R165 to R167) -/

/-- A line with a TRS error: reported for the first of each frame; a run of TRS_TOL loses the raster. -/
def trsLine (p : Nat) (l : SdiLine) (s : State) : State :=
  let x := sdiRx s p
  if l.trsBad then
    raiseIf (!x.trsSeen) { src := 0x0E3, data := [(1, sdiLabel s p), (2, l.ifLine)], unit := rxUnit p }
      (setRx p { x with badLines := x.badLines + 1, flywheel := true, trsSeen := true } s)
  else setRx p { x with badLines := 0, flywheel := false } s

/-- A line whose CRC fails is counted, and reported for the first of each frame. -/
def crcLine (p : Nat) (l : SdiLine) (s : State) : State :=
  match l.crcBad with
  | none => s
  | some k =>
    let x := sdiRx s p
    raiseIf (!x.crcSeen) { src := 0x0E2, data := [(1, sdiLabel s p), (2, l.ifLine), (1, k)], unit := rxUnit p }
      (setRx p { x with crc := satAdd 32 x.crc 1, crcSeen := true } s)

/-- The line of the picture that a received line is: on a level B, 6G or 12G signal that of the reconstructed single picture,
which the interface standards fix, else the interface line (R166). -/
def picLine (x : SdiRx) (l : SdiLine) : Nat :=
  if x.levelB || decide (5 ≤ x.rate) then Config.pictureLine x.rate x.levelB l.ifLine l.sub else l.ifLine

/-- Even parity of a word's low 8 bits is its bit 8, and bit 9 is the inverse of bit 8 (ST 291-1; PRESUMED,
notes/assumptions/146.md). -/
def parityOk (w : Nat) : Bool := bit w 8 == bit (((List.range 8).filter (fun i => bit w i)).length) 0 && bit w 9 != bit w 8

/-- A packet with a parity or checksum error: DID, secondary DID or data count with wrong parity, or a checksum that is not the
9-bit sum of the words before it with bit 9 the inverse of bit 8 (R166; PRESUMED, notes/assumptions/146.md). -/
def ancBad (x : AncPacket) : Bool :=
  let w := x.words
  let sum := (w.take (w.length - 1)).foldl (fun a b => (a + b) % 512) 0
  let cs := w.getD (w.length - 1) 0
  decide (w.length < 4) || w.length != w.getD 2 0 % 256 + 4 || !(w.take 3).all parityOk || cs % 512 != sum || bit cs 9 == bit cs 8

/-- A packet that no ANC flow carries: an ST 352 payload identifier, or ST 299-1 or ST 299-2 audio data or control of any group
(R166; their DIDs are PRESUMED, notes/assumptions/146.md). -/
def ancExcepted (x : AncPacket) : Bool :=
  let did := x.words.headD 0 % 256
  (did == 0x41 && x.words.getD 1 0 % 256 == 0x01) || did / 8 == 0x14 || did / 8 == 0x1C

/-- A packet as a record (R36). A line number above 2,047 has no place in LINE and is sent modulo 2,048 (DESIGN CHOICE,
notes/assumptions/128.md). -/
def ancRecord (line : Nat) (x : AncPacket) : List Byte :=
  leBytes 2 (flag (x.stream == 1) 11 + line % 2048) ++ leBytes 2 (x.hoffset % 4096) ++ leBytes 2 x.words.length ++
    x.words.flatMap (fun w => leBytes 2 (w % 1024))

/-- The packets of a line into an ANC flow: bad ones are left out if the flow says so (R158, R166). -/
def storeAnc (n fi line : Nat) (l : SdiLine) (s : State) : State :=
  let drop := bit (fieldAt (flowD s n).params 1 1) 0
  let l' := (l.anc.filter (fun x => !ancExcepted x && !(ancBad x && drop))).flatMap (ancRecord line)
  if l'.isEmpty then s else takeStream n fi l' false s

/-- The embedded samples of a flow's channels (R159, R167). -/
def storeEmbedded (n : Nat) (l : SdiLine) (s : State) : State :=
  let f := flowD s n
  let c0 := 4 * sdiGroup f
  (l.audio.filter (fun x => decide (c0 ≤ x.1) && decide (x.1 < c0 + f.count))).foldl
    (fun s x => storeSample (f.base + (x.1 - c0)) (periodAt (audioRate f.format) x.2.1) (x.2.2 / 16 * 16) s) s

/-- An audio control packet that contradicts a flow of its group (R164). -/
def controlBad (f : Flow) (x : SdiControl) : Bool :=
  let g := sdiGroup f
  let k := x.group - g
  decide (g ≤ x.group) && decide (4 * k < f.count) &&
    (x.async_ || x.rate != audioRate f.format || decide (x.active < min 4 (f.count - 4 * k)))

/-- The active line of a raster line, if it is one (R34, R186). -/
def activeOf (f ifLine : Nat) : Option Nat :=
  let ok (k : Nat) := decide (k < fmtLines f) && ifLine == rasterA (fmtRaster f) k + k + 1
  let a := ifLine - 1 - rasterA (fmtRaster f) 0
  let b := ifLine - 1 - rasterA (fmtRaster f) (fmtLines f - 1)
  if ok a then some a else if ok b then some b else none

/-- The essences of one line stored: the picture by its active line number (R34). -/
def storeSdiLine (p : Nat) (l : SdiLine) (s : State) : State :=
  let fi := (sdiRx s p).frame
  let line := picLine (sdiRx s p) l
  let bad := (inputsOn s p).filter (fun n => (flowD s n).essence == 1 && l.control.any (controlBad (flowD s n)))
  let s := holdFlows bad (detectedOf s p) s
  (inputsOn s p).foldl (fun s n =>
    match (flowD s n).essence with
    | 0 =>
      match activeOf (flowD s n).format line with
      | some k => if fi < 2 ^ 32 - 1 then takeLine n fi k l.bytes s else s
      | none => s
    | 1 => storeEmbedded n l s
    | 2 => storeAnc n fi line l s
    | _ => s) s

/-- What the packets of a line show: SDI_ANC_BAD of each bad one, SDI_AUDIO_ERR of each group with an uncorrectable error, and the
audio packets corrected (R166, R167). -/
def judgePackets (p : Nat) (l : SdiLine) (s : State) : State :=
  let s := (l.anc.filter ancBad).foldl (fun s y =>
    raise { src := 0x0E4, data := [(1, sdiLabel s p), (2, l.ifLine), (1, y.words.headD 0 % 256)], unit := rxUnit p } s) s
  let s := l.audioBad.foldl (fun s g => raise { src := 0x0E8, data := [(1, sdiLabel s p), (1, g)], unit := rxUnit p } s) s
  setRx p { sdiRx s p with bchFixed := (sdiRx s p).bchFixed + l.audioFixed } s

/-- SDI_LINE_RX. -/
def opSdiLineRx (p : Nat) (l : SdiLine) (s : State) : State :=
  if (sdiRx s p).st != .identified then s
  else
    let s := judgePackets p l (trsLine p l (crcLine p l s))
    let x := sdiRx s p
    if (if x.trsTol = 0 then 3 else x.trsTol) ≤ x.badLines then loseSignal p 2 s else storeSdiLine p l s

/-! ## The transmitter (R169 to R173, R292) -/

/-- A transmitter starts at the first boundary of its domain after its video flow became RUNNING (R169). It sends at the rate of
its flow's FORMAT, also where FAMILY of the octet has been changed since FLOW_DEFINE checked it (DESIGN CHOICE,
notes/assumptions/135.md). -/
def startTx (d : Nat) (s : State) : State :=
  (tkeys s.flows (fun n f => nsOf n == 1 && f.endpoint == 0 && f.essence == 0 && f.domain == d && f.st == .running)).foldl (fun s n =>
    let f := flowD s n
    let x := sdiTx s f.port
    if x.sending || x.mode == 0 || !sdiRuns s then s
    else setTx f.port { x with sending := true, ifRate := ifRateOf f.format, frame := fiNow s d, line := 1, flow := n } s) s

/-- Records of the stream that an ANC output sends in this frame (R172). -/
def parseRecords : Nat → List Byte → List (Nat × List Byte)
  | 0, _ => []
  | n + 1, l =>
    let k := fieldAt l 4 2
    if k = 0 ∨ l.length < 6 + 2 * k then [] else (fieldAt l 0 2, l.take (6 + 2 * k)) :: parseRecords n (l.drop (6 + 2 * k))

/-- The ANC output of a port and the stream it inserts into output frame `n`: that of frame n − 1. -/
def ancOut (s : State) (p n : Nat) : List (Nat × List Byte) :=
  match s.flows.find? (fun f => onSdi 1 p f.1 f.2 && f.2.essence == 2 && f.2.st == .running) with
  | some (o, f) =>
    match srcFor s (ixOf o) (n - 1) with
    | some src =>
      if beforeCommit s f.domain || n == 0 then []
      else
        let b := streamOf s src (n - 1)
        parseRecords b.length b
    | none => []
  | none => []

/-- The words of a line that something takes: stream, first word and words. -/
abbrev Span := Nat × Nat × Nat

/-- Two spans share a word. -/
def overlap (a b : Span) : Bool := a.1 == b.1 && decide (a.2.1 < b.2.1 + b.2.2) && decide (b.2.1 < a.2.1 + a.2.2)

/-- The words a record takes on its line: the 3 words of the ancillary data flag and its own (ST 291-1; PRESUMED,
notes/assumptions/146.md). -/
def recordSpan (r : List Byte) : Span := (bits (fieldAt r 0 2) 11 11, fieldAt r 2 2 % 4096, 3 + fieldAt r 4 2)

/-- Records placed on their line in order: one is dropped that overlaps a span taken already or runs past the end of its
ancillary space (R172). -/
def placeRecords (room : Span → Bool) : List Span → List (List Byte) → List (List Byte) × List (List Byte)
  | _, [] => ([], [])
  | taken, r :: rs =>
    if room (recordSpan r) && !taken.any (overlap (recordSpan r)) then
      let q := placeRecords room (recordSpan r :: taken) rs
      (r :: q.1, q.2)
    else
      let q := placeRecords room taken rs
      (q.1, r :: q.2)

/-- Records dropped: counted, and reported for the first of each frame. -/
def dropAnc (p frame : Nat) (l : List (List Byte)) (s : State) : State :=
  match l with
  | [] => s
  | r :: _ =>
    let x := sdiTx s p
    raiseOnce p frame { src := 0x0E5, data := [(1, p), (2, fieldAt r 0 2 % 2048), (1, fieldAt r 6 2 % 256)], unit := some (.sdiTx p) }
      (setTx p { x with ancDrops := satAdd 16 x.ancDrops l.length } s)

/-- The audio output flows that a signal carries. -/
def audioOuts (s : State) (p : Nat) : List (Nat × Flow) :=
  s.flows.filter (fun f => onSdi 1 p f.1 f.2 && f.2.essence == 1 && f.2.st == .running)

/-- Embedded samples of a line: each period whose start falls since the 0H of the line before (R292). -/
def embedded (s : State) (p frame line : Nat) (v : Flow) : List (Nat × Nat × Nat) :=
  let t1 := tOf s v.domain frame + linesNs v.format (line - 1)
  let t0 := t1 - linesNs v.format 1
  (audioOuts s p).flatMap (fun f =>
    let r := audioRate f.2.format
    let first := periodAt r t0 + 1
    (List.range (periodAt r t1 + 1 - first)).flatMap (fun i => (List.range (4 * ceilDiv f.2.count 4)).map (fun c =>
      (4 * sdiGroup f.2 + c, first + i,
        if c < f.2.count then tgetD (tgetD s.aud.post (f.2.base + c) []) (first + i) 0 else 0))))

/-- Level B dual-link applies to the signal that a flow makes on a port: a 3G signal of a 1080p rate 0x6 to 0x8 with sampling 0x1
(R160). -/
def sendsLevelB (x : SdiTx) (f : Flow) : Bool :=
  x.levelBMap && ifClass f.format == 3 && fmtRaster f.format == 3 && decide (6 ≤ fmtRate f.format) && fmtSampling f.format == 1

/-- The link number of a quad consist's member: its sub-image 1 to 4 (R30, R171). -/
def quadLink (s : State) (n : Nat) : Option Nat :=
  ((s.consists.flatMap (fun c => c.2.members)).find? (fun m => m.2 == n && decide (1 ≤ m.1) && decide (m.1 ≤ 4))).map Prod.fst

/-- The audio control packet of each group of a signal's audio output flows (R171). -/
def controlOut (s : State) (p : Nat) : List SdiControl :=
  (audioOuts s p).flatMap (fun f => (List.range (ceilDiv f.2.count 4)).map (fun k =>
    { group := sdiGroup f.2 + k, async_ := false, rate := audioRate f.2.format, active := min 4 (f.2.count - 4 * k) }))

/-- The words of a line that the transmitter's own packets take: the VPID, and one audio packet for each group and period
(R171, R172). -/
def ownSpans (x : SdiTx) (b : Bool) (audio : List (Nat × Nat × Nat)) : List Span :=
  (if Config.vpidLine x.ifRate b x.line then [Config.packetAt x.ifRate b x.line none] else []) ++
    (List.range ((audio.map (fun a => (a.1 / 4, a.2.1))).eraseDups).length).map (fun i => Config.packetAt x.ifRate b x.line (some i))

/-- Data streams with a line CRC: Y and C of HD (R165). -/
def crcStreams (x : SdiTx) (b : Bool) : Nat := if x.ifRate ≤ 2 then 2 else Config.sdiStreams x.ifRate b

/-- A line of frame `x.frame` as a transmitter builds it around its active samples, and the records it drops (R171, R172): those
of a LINE that the raster does not have are dropped on line 1. -/
def buildLine (s : State) (p : Nat) (x : SdiTx) (f : Flow) (fill : Bool) (bytes : List Byte) : SdiOut × List (List Byte) :=
  let b := sendsLevelB x f
  let audio := embedded s p x.frame x.line f
  let anc := ancOut s p x.frame
  let room (z : Span) : Bool := decide (z.2.1 + z.2.2 ≤ Config.ancEnd f.format x.line z.2.1)
  let q := placeRecords room (ownSpans x b audio) ((anc.filter (fun z => z.1 % 2048 == x.line)).map Prod.snd)
  let lost := if x.line = 1 then
      (anc.filter (fun z => z.1 % 2048 == 0 || decide (fmtTotal f.format < z.1 % 2048))).map Prod.snd else []
  ({ line := x.line, fill := fill, bytes := bytes, anc := q.1, audio := audio
     control := if Config.controlLine x.ifRate b x.line then controlOut s p else []
     vpid := if Config.vpidLine x.ifRate b x.line then
        some (Config.vpidWord f.format f.colour x.ifRate b (quadLink s x.flow)) else none
     crc := (List.range (crcStreams x b)).map (fun k => Config.sdiCrc x.ifRate k x.line bytes)
     levelB := b, invert := x.invert }, lost ++ q.2)

/-- The next line to send; after the last, the next frame, or static once the flow has stopped, as one with an armed stop
now does (R22, R169). -/
def advanceTx (p : Nat) (f : Flow) (s : State) : State :=
  let x := sdiTx s p
  if x.line < fmtTotal f.format then setTx p { x with line := x.line + 1 } s
  else
    let s := if f.st == .running && f.stop.isSome then stopFlow x.flow s else s
    setTx p { x with line := 1, frame := x.frame + 1, sending := running s x.flow } s

/-- The instant at which a transmitter's next line leaves the pin, `skew` ns from its nominal instant, within 10 ns (R170). -/
def txInstant (s : State) (x : SdiTx) (f : Flow) (skew : Int) : Nat :=
  (((tOf s f.domain x.frame + linesNs f.format (f.depth + x.line - 1) + x.txOffset : Nat) : Int) + max (-10) (min 10 skew)).toNat

/-- SDI_TX_LINE: the next interface line leaves the pin. -/
def opSdiTxLine (p : Nat) (r : ReadFault) (genBad : Bool) (skew : Int) (s : State) : State :=
  let x := sdiTx s p
  let f := flowD s x.flow
  if !x.sending || !sdiRuns s then s
  else
    let s := atLeast (txInstant s x f skew) s
    let y := plat s (ixOf x.flow)
    let want := activeOf f.format x.line
    let here := want == some y.line && y.fi == x.frame
    let fill := want.isSome && (!here || y.fill)
    let bytes := if want.isNone then [] else if here then y.bytes else blackLine f.format f.colour
    let s := raiseIf (want.isSome && !here) { src := 0x0E9, data := [(1, p), (2, x.line)], unit := some (.sdiTx p) } s
    let o := buildLine s p x f fill bytes
    let s := dropAnc p x.frame o.2 s
    let s := if r.sig && !fill && want.isSome && (flowD s y.src).sigEn then
        sigFail x.flow x.frame { src := 0x244, data := [(2, x.flow), (2, want.getD 0)] } s
      else s
    let s := checkFail genBad { src := 0x245, data := [(1, 0), (1, p)] } s
    advanceTx p f { s with wire := s.wire ++ [.sdi p o.1] }

end Sys2Proof.Machine
end

