-- ==== Sys2Proof/Machine/Nmp.lean ====
section
/-!
DEFINITION. Network media ports (R178 to R212): MACs and links, stream descriptors, gate lists, precision time stamps, host
frames and the management MAC.
-/
namespace Sys2Proof.Machine
open Sys2Proof

/-! ## MACs (R178 to R181) -/

def mac (s : State) (m : Nat) : Mac := tgetD s.nmp.macs m {}
def setMac (m : Nat) (x : Mac) (s : State) : State := { s with nmp := { s.nmp with macs := tput s.nmp.macs m x } }
def macEn (s : State) (m : Nat) : Bool := if m = 16 then bit (rd s .nmpMgmtCfg 0) 31 else bit (rd s .nmpMacCfg m) 31
def macMode (s : State) (m : Nat) : Nat := fld s .nmpMacCfg m 29 26
def macAn (s : State) (m : Nat) : Bool := bit (rd s .nmpMacCfg m) 30

/-- Lanes of a MODE, and its MAC rate in Gb/s. -/
def modeLanes (mode : Nat) : Nat := [0, 1, 1, 4, 2, 1, 4, 8, 4].getD mode 0
def modeGbps (mode : Nat) : Nat := [0, 25, 50, 100, 100, 100, 200, 400, 400].getD mode 0
/-- Lane rate of a MODE in units of 0.25 Gb/s, rounded down. -/
def modeLaneRate (mode : Nat) : Nat := [0, 103, 212, 103, 212, 425, 212, 212, 425].getD mode 0

/-- The lanes of a MAC configuration word. -/
def macLanes (w : Nat) : List Nat := (List.range (modeLanes (bits w 29 26))).map (fun i => bits w 23 16 + i)

/-- The placement rules of R179 for MAC `m` with configuration word `w`; quads hold four lanes, and lanes 0 to 71 are north. -/
def placementOk (s : State) (m w : Nat) : Bool :=
  let mode := bits w 29 26
  let first := bits w 23 16
  let l := macLanes w
  let south := decide (8 ≤ m)
  let used := sumBy ((List.range 8).filter (fun i => macEn s ((if south then 8 else 0) + i) && (if south then 8 else 0) + i != m))
    (fun i => modeLanes (macMode s ((if south then 8 else 0) + i)))
  decide (1 ≤ mode) && decide (mode ≤ 8) && l.all (fun n => decide (n < 144) && (decide (72 ≤ n) == south) && laneUse s n == 1) &&
    (match modeLanes mode with
     | 2 => first % 4 == 0 || first % 4 == 2
     | 4 => first % 4 == 0
     | 8 => first % 8 == 0
     | _ => true) && decide (used + l.length ≤ 32) &&
    (List.range 16).all (fun k => k == m || !macEn s k || (macLanes (rd s .nmpMacCfg k)).all (fun n => !l.contains n))

/-- Legs of a flow with ENDPOINT NMP (R182). -/
def legB (f : Flow) : Nat := fieldAt f.params 1 1
def legMacs (f : Flow) : List Nat := f.port :: (if legB f = 0xFF then [] else [legB f])
def onMac (m : Nat) (f : Flow) : Bool := f.endpoint == 1 && (legMacs f).contains m
/-- A flow that has the MAC as a leg is RUNNING or HELD (R181, R206). -/
def macBusy (s : State) (m : Nat) : Bool := s.flows.any (fun f => onMac m f.2 && active f.2)

def macUp (s : State) (m : Nat) : Bool := if m = 16 then s.nmp.mgmtLink && macEn s 16 else (mac s m).st == .up || (mac s m).st == .lowPower

/-- One lane of a MAC starts (R216): from BASE with AN_EN, else at the mode's rate. The rate of the Clause 73 signalling is
below one unit of 0.25 Gb/s. -/
def startMacLane (m n : Nat) (s : State) : State :=
  let an := macAn s m
  let r := if an then 0 else modeLaneRate (macMode s m)
  setLane n { endScan (lane s n) with
    st := if an then .base else .step, step := if an then 0 else 1, rate := r, best := r, since := s.tim.now } s

/-- A MAC begins to bring its link up, and its lanes with it (R214, R216). -/
def macStart (m : Nat) (s : State) : State :=
  let s := (macLanes (rd s .nmpMacCfg m)).foldl (fun s n => startMacLane m n s) s
  setMac m { mac s m with st := if macAn s m then .negotiating else .training, fecLock := false, retryAt := none } s

/-- A packet for transmission discarded on a MAC that is DOWN is counted (R180). -/
def countDown (m : Nat) (s : State) : State := setMac m { mac s m with txDrops := satAdd 16 (mac s m).txDrops 1 } s

/-- A frame has left or is gone: the NMP_FRAME_SEND that queued it completes DONE (R208). -/
def frameDone (h : HostFrame) (s : State) : State :=
  match h.cmd with
  | some c => complete c 0x0133 replyDone s
  | none => s

/-- Host frames waiting on a MAC whose link is DOWN are discarded; each command completes DONE (R180, R208). -/
def dropFrames (m : Nat) : List HostFrame → State → State
  | [], s => s
  | h :: hs, s => dropFrames m hs (frameDone h (countDown m s))

def discardFrames (m : Nat) (s : State) : State :=
  let l := (mac s m).frames
  dropFrames m l (setMac m { mac s m with frames := [] } { s with nmp := { s.nmp with
    attempts := if m = 16 then 0 else s.nmp.attempts, backoff := if m = 16 then none else s.nmp.backoff } })

/-- RUNNING input flows every leg of which is on a MAC that is DOWN are held (R190). -/
def holdLegless (s : State) : State :=
  holdFlows (tkeys s.flows (fun n f =>
    nsOf n == 0 && f.st == .running && f.endpoint == 1 && (legMacs f).all (fun m => !macUp s m))) 0xFFFF s

/-- A link goes DOWN with a cause. -/
def macDown (m cause : Nat) (x : Mac) (s : State) : State :=
  let s := discardFrames m (setMac m { x with fecLock := false } s)
  let s := holdLegless s
  raise { src := 0x101, data := [(1, m), (1, cause)], unit := some (.mac m) } s

/-- NMP_LINK_UP: all lanes aligned, FEC locked. A highest common denominator other than MODE ends the attempt (R180). -/
def opNmpLinkUp (m hcd : Nat) (s : State) : State :=
  let x := mac s m
  if 15 < m || !macEn s m || !(x.st == .negotiating || x.st == .training || x.st == .aligning) then s
  else if macAn s m && hcd != macMode s m then
    macDown m 2 { x with st := .negotiating, hcd := hcd, retryAt := some (s.tim.now + 500000000) } s
  else
    raise { src := 0x100, data := [(1, m), (1, macMode s m)] }
      (setMac m { x with st := .up, fecLock := true, hcd := if macAn s m then hcd else 0, retryAt := none } s)

/-- NMP_LINK_DOWN: cause 0 signal, 1 alignment or FEC, of a link that is UP; 2, a failed negotiation. -/
def opNmpLinkDown (m cause : Nat) (s : State) : State :=
  let x := mac s m
  if 15 < m || !macEn s m then s
  else if cause = 2 then
    if x.st = .negotiating then macDown m 2 { x with retryAt := some (s.tim.now + 500000000) } s else s
  else if cause < 2 && macUp s m then macDown m cause { x with st := if macAn s m then .negotiating else .training } s
  else s

/-- NMP_AN_RETRY. -/
def opNmpAnRetry (m : Nat) (s : State) : State :=
  match (mac s m).retryAt with
  | some t => macStart m (atLeast t s)
  | none => s

/-! ## Stream descriptors (R183, R185, R211) -/

def stream (s : State) (n : Nat) : Stream := tgetD s.nmp.streams n {}
def setStream (n : Nat) (x : Stream) (s : State) : State := { s with nmp := { s.nmp with streams := tput s.nmp.streams n x } }

/-- One leg from its 28 bytes. -/
def parseLeg (l : List Byte) : Leg :=
  let v := fieldAt l 6 2
  { dmac := fieldAt l 0 6, tagged := bit v 15, pcp := bits v 14 12, vid := bits v 11 0, dstIp := fieldAt l 8 4, srcIp := fieldAt l 12 4
    dstPort := fieldAt l 16 2, srcPort := fieldAt l 18 2, dscp := fieldAt l 20 1 % 64, ttl := fieldAt l 21 1, queue := fieldAt l 22 1 }

/-- A leg obeys R183 for its direction. -/
def legOk (output : Bool) (x : Leg) : Bool :=
  if output then decide (1 ≤ x.ttl) && decide (x.queue ≤ 6)
  else x.dmac == 0 && x.srcPort == 0 && x.dscp == 0 && x.ttl == 0 && x.queue == 0

/-- The key of a leg on a MAC (R185). -/
def legKey (m : Nat) (x : Leg) : Nat × Option Nat × Nat × Nat := (m, if x.tagged then some x.vid else none, x.dstIp, x.dstPort)

/-- Another input flow's leg has the same key and source. -/
def keyTaken (s : State) (n m : Nat) (x : Leg) : Bool :=
  s.nmp.streams.any (fun q => q.1 != n && nsOf q.1 == 0 &&
    ((legMacs (flowD s q.1)).zip q.2.legs).any (fun z => legKey z.1 z.2 == legKey m x && z.2.srcIp == x.srcIp))

/-- The checks of a stream descriptor at `a`. -/
def streamChecks (s : State) (a : Nat) : List (Bool × Reply) :=
  let l := hostBytes s a 64
  let n := normFlow (fieldAt l 0 2)
  let f := flowD s n
  let k := fieldAt l 2 1
  let output := nsOf n == 1
  let a0 := parseLeg (slice l 8 28)
  let b0 := parseLeg (slice l 36 28)
  [(!flowNumOk (fieldAt l 0 2) || (flow? s n).isNone || f.endpoint != 1, badField a), (active f, denied),
    (k != (legMacs f).length, badField (a + 2)), (!legOk output a0, badField (a + 8)),
    (if k = 1 then leNat (slice l 36 28) != 0 else !legOk output b0, badField (a + 36)),
    (!output && keyTaken s n f.port a0, badField (a + 8)), (!output && k == 2 && keyTaken s n (legB f) b0, badField (a + 36))]

/-- NMP_STREAM_SET. -/
def opNmpStreamSet (c : Cmd) (a : Nat) (img : List Byte) (s : State) : State :=
  hostCmd c 0x0130 true (checked (fun s => (!c.hostOk, addressError a) :: streamChecks s a)
    (fun s =>
      let l := hostBytes s a 64
      let n := normFlow (fieldAt l 0 2)
      let legs := parseLeg (slice l 8 28) :: (if fieldAt l 2 1 = 2 then [parseLeg (slice l 36 28)] else [])
      (replyDone, journalFlow n (setStream n { ssrc := fieldAt l 4 4, legs := legs } s)))) (place a img s)

/-- A leg as its 28 bytes. -/
def streamRecord (s : State) (n : Nat) : List Byte :=
  let x := stream s n
  let live (at_ k : Nat) : Bool := decide (k < x.legs.length) && at_ != 0 && x.lost != some k && decide (s.tim.now < at_ + 10000000)
  padTo 64 (leBytes 2 n ++ leBytes 1 x.legs.length ++ zeros 1 ++ leBytes 4 x.ssrc ++ x.legs.flatMap legBytes) ++
    leBytes 4 x.pktsA ++ leBytes 4 x.pktsB ++ leBytes 4 x.dups ++ leBytes 4 x.gaps ++ leBytes 4 x.window ++ leBytes 4 x.rejects ++
    leBytes 4 ((x.arrival.map (clampSigned 32)).getD 0x80000000) ++ leBytes 4 x.lastRtp ++
    leBytes 1 (flag (live x.atB 1) 1 + flag (live x.atA 0) 0) ++ zeros 3 ++ leBytes 4 x.txLate ++ zeros 24

/-- NMP_STREAM_READ. -/
def opNmpStreamRead (c : Cmd) (flow a : Nat) : State → State :=
  hostCmd c 0x0131 false (checked
    (fun s => [(!flowNumOk flow || (flow? s (normFlow flow)).isNone || (flowD s (normFlow flow)).endpoint != 1, badArg c 24 s)])
    (readBack c a (fun s => streamRecord s (normFlow flow))))

/-! ## Wire rates and gates (R199 to R201) -/

/-- Samples per packet and bytes per sample of ST 2110-30 and -31 (R193). -/
def sampleBytes (f : Flow) : Nat := if f.format = 2 ∨ f.format = 4 then 2 else if f.format = 0x10 then 4 else 3

/-- Packets of one active line (R197). -/
def linePackets (f : Flow) : Nat := ceilDiv (lineBytes f.format) (max 1 (fieldAt f.params 4 2))

/-- Datagrams of one ST 2022-6 frame: the interface's bytes cut by 1,376. -/
def frameDatagrams (f : Flow) : Nat :=
  let k := ifClock (ifRateOf f.format)
  ceilDiv (k.1 * 20 * rateDen (fmtRate f.format)) (k.2 * rateNum (fmtRate f.format) * 8 * 1376)

/-- The most packets that the records of one frame of an ST 2110-40 stream fill at its RATE_MBPS. A packet takes records up to
1,400 bytes, and the longest record is below 336, so all but one hold more than 1,064 (DESIGN CHOICE,
notes/assumptions/144.md). -/
def ancPerFrame (s : State) (f : Flow) : Nat :=
  1 + f.rate * 1000000 * rateDen (domRate s f.domain) / (rateNum (domRate s f.domain) * 8 * 1065)

/-- Wire rate of a leg of an NMP flow in bit/s, rounded up (R201). -/
def wireRate (s : State) (f : Flow) (x : Leg) : Nat :=
  let o := 78 + (if x.tagged then 4 else 0)
  if carriage f = 1 then
    (if f.essence = 0 then
      ceilDiv (frameDatagrams f * rateNum (fmtRate f.format) * (1376 + o + 8) * 8) (rateDen (fmtRate f.format)) else 0)
  else
    match f.essence with
    | 0 => ceilDiv (linePackets f * fmtLines f.format * rateNum (fmtRate f.format) * (fieldAt f.params 4 2 + o + 8) * 8)
        (rateDen (fmtRate f.format))
    | 1 => ceilDiv (audioRate f.format) (packetSamples f) * (f.count * sampleBytes f * packetSamples f + o) * 8
    | 2 => f.rate * 1000000 + ceilDiv (ancPerFrame s f * rateNum (domRate s f.domain) * (o + 8) * 8) (rateDen (domRate s f.domain))
    | _ => f.rate * 1000000 + ceilDiv (f.rate * 1000000 * o) (Config.opaquePayload + 1)

/-- The time in a cycle for which queue `q` of a gate list is open. -/
def gateOpenTime (l : List (Nat × Nat)) (q : Nat) : Nat := sumBy (l.filter (fun e => bit e.1 q)) (fun e => e.2)

/-- Legs of running NMP outputs on a MAC and queue, and their wire rates. -/
def queueRate (s : State) (m q : Nat) (extra : List (Nat × Flow)) : Nat :=
  let fs := s.flows.filter (fun f => nsOf f.1 == 1 && f.2.endpoint == 1 && active f.2) ++ extra
  sumBy fs (fun f =>
    let d := if carriage f.2 = 1 ∧ f.2.essence ≠ 0 then {} else stream s f.1
    sumBy (((legMacs f.2).zip d.legs).filter (fun z => z.1 == m && z.2.queue == q)) (fun z => wireRate s f.2 z.2))

/-- The loads of every queue of a MAC fit 95 % of the time its gate leaves open, under a gate list, with flows added. -/
def macFits (s : State) (m : Nat) (gates : Option GateList) (extra : List (Nat × Flow)) : Bool :=
  let bps := modeGbps (macMode s m) * 1000000000
  (List.range 7).all (fun q =>
    let r := queueRate s m q extra
    r == 0 || (match gates with
      | some g => decide (r * 100 * gateCycle g.entries ≤ 95 * bps * gateOpenTime g.entries q)
      | none => decide (r * 100 ≤ 95 * bps)))

/-- A gate list's bytes: base and `(state, interval)` entries. -/
def parseGates (l : List Byte) : Nat → List (Nat × Nat)
  | 0 => []
  | n + 1 => parseGates l n ++ [(fieldAt l (16 + 4 * n) 4 / 2 ^ 24, fieldAt l (16 + 4 * n) 4 % 2 ^ 24)]

/-- The first BASE_TIME + m × cycle at least 100 µs after acceptance; m may be negative. -/
def gateStart (base cycle now : Nat) : Nat := gridFrom base cycle (now + 100000)

def gateBytes (m : Nat) (g : GateList) : List Byte :=
  leBytes 1 2 ++ leBytes 1 m ++ leBytes 8 g.base ++ leBytes 2 g.entries.length ++ g.entries.flatMap (fun e => leBytes 4 (e.1 * 2 ^ 24 + e.2))

/-- NMP_GATE_LOAD. -/
def opNmpGateLoad (c : Cmd) (m a : Nat) (img : List Byte) (s : State) : State :=
  let list (s : State) : GateList :=
    let l := hostBytes s a 1040
    let e := parseGates l (min 256 (fieldAt l 8 2))
    { base := fieldAt l 0 8, entries := e, start := gateStart (fieldAt l 0 8) (max 1 (gateCycle e)) s.tim.now, tag := c.tag }
  hostCmd c 0x0132 true (checked
    (fun s =>
      let n := fieldAt (hostBytes s a 16) 8 2
      let g := list s
      [(decide (15 < m), badArg c 24 s), (!c.hostOk, addressError a), (n == 0 || decide (256 < n), badField (a + 8)),
        (g.entries.any (fun e => !bit e.1 7 || e.2 == 0) || decide (1000000000 < gateCycle g.entries), badField (a + 16)),
        (!macFits s m (some g) [], refusedAt (a + 16))])
    (fun s => (accepted, journal 0x12 (gateBytes m (list s)) (setMac m { mac s m with pend := some (list s) } s)))) (place a img s)

/-- NMP_GATE_START: at the start of the list, or at its first cycle start after a step that skipped that (R455). -/
def opNmpGateStart (m : Nat) (s : State) : State :=
  let x := mac s m
  match x.pend with
  | none => s
  | some g =>
    let t := namedAt s (gatesFrom g) g.start
    raise { src := 0x10B, data := [(1, m), (4, ts32 t)], fin := some g.tag }
      (setMac m { x with oper := some g, pend := none, gateIx := 0, gateAt := t } (atLeast t s))

/-- NMP_GATE_INTERVAL: the next entry's gate states apply. -/
def opNmpGateInterval (m : Nat) (s : State) : State :=
  let x := mac s m
  match x.oper with
  | none => s
  | some g =>
    let t := x.gateAt + (g.entries.getD x.gateIx (0, 1)).2
    setMac m { x with gateIx := (x.gateIx + 1) % max 1 g.entries.length, gateAt := t } (atLeast t s)

/-- Time from the start of entry `i` during which queue `q` stays open, over at most `n` entries. -/
def openRun (l : List (Nat × Nat)) (q : Nat) : Nat → Nat → Nat
  | 0, _ => 0
  | n + 1, i =>
    let e := l.getD (i % max 1 l.length) (0, 0)
    if bit e.1 q then e.2 + openRun l q n (i + 1) else 0

/-- A frame of `bytes` on the wire may start in queue `q` now: its gate is open and it can end before the gate closes. -/
def mayStart (s : State) (m q bytes : Nat) : Bool :=
  match (mac s m).oper with
  | none => true
  | some g =>
    let x := mac s m
    let left := openRun g.entries q (2 * g.entries.length) x.gateIx - (s.tim.now - x.gateAt)
    g.entries.all (fun e => bit e.1 q) || decide (ceilDiv (bytes * 8) (max 1 (modeGbps (macMode s m))) ≤ left)

/-! ## Precision time stamps (R203 to R205) -/

/-- Fixed terms of a mode, transmit and receive, 0.1 ns. -/
def ptpTerms (mode : Nat) : Int × Int :=
  match mode with
  | 1 => (384, 612)
  | 2 => (440, 883)
  | 3 => (357, 796)
  | 4 => (401, 928)
  | 5 => (390, 955)
  | 6 => (426, 1104)
  | 7 => (426, 1187)
  | 8 => (413, 1210)
  | _ => (0, 0)

def termsOf (s : State) (m : Nat) : Int × Int := if m = 16 then (0, 0) else ptpTerms (macMode s m)

/-! ## Host frames (R207, R208) -/

def xSize (s : State) : Nat := 2 ^ fld s .nmpXringCfg 0 3 0

/-- A frame for the host that is discarded: counted, and reported at most once per second. -/
def dropX (s : State) : State :=
  let l := s.nmp.xLost.filter (fun t => decide (s.tim.now < t + 1000000000)) ++ [s.tim.now]
  raiseOnce 0 (secOf s) { src := 0x10A, data := [(4, l.length)] }
    { s with nmp := { s.nmp with xDrop := satAdd 32 s.nmp.xDrop 1, xLost := l } }

/-- A frame written to the host frame ring: at most 200,000 in a second. -/
def toHost (m reason : Nat) (frame : List Byte) (s : State) : State :=
  let s := if s.nmp.xSec = secOf s then s else { s with nmp := { s.nmp with xSec := secOf s, xWritten := 0 } }
  if 2032 < frame.length || !s.nmp.xEn || decide (xSize s ≤ s.nmp.xUsed) || decide (200000 ≤ s.nmp.xWritten) then dropX s
  else
    let at_ := rdAddr s .nmpXringBaseLo .nmpXringBaseHi 0 + 2048 * s.nmp.xTail
    let rec_ := leBytes 1 m ++ leBytes 1 reason ++ leBytes 2 frame.length ++ leBytes 4 (ts32 s.tim.now) ++
      leBytes 1 (flag s.nmp.xPhase 0) ++ zeros 7 ++ padTo 2032 frame
    let p := advance (xSize s) s.nmp.xTail s.nmp.xPhase
    let s := hostWrite at_ rec_ s
    { s with nmp := { s.nmp with xTail := p.1, xPhase := p.2, xUsed := s.nmp.xUsed + 1, xWritten := s.nmp.xWritten + 1 } }

/-- Ones' complement sum of 16-bit big-endian words. -/
def onesSum : List Byte → Nat
  | [] => 0
  | [a] => a.toNat * 256
  | a :: b :: l => a.toNat * 256 + b.toNat + onesSum l

/-- The Internet checksum of a byte string. -/
def inetSum (l : List Byte) : Nat :=
  let f (n : Nat) := n % 65536 + n / 65536
  65535 - f (f (f (onesSum l)))

/-- Bytes replaced at an offset. -/
def patch (l : List Byte) (off : Nat) (b : List Byte) : List Byte := l.take off ++ b ++ l.drop (off + b.length)

/-- Offset of the IPv4 header in a frame: after one VLAN tag, if there is one. -/
def ipOffset (l : List Byte) : Nat := if beAt l 12 2 = 0x8100 then 18 else 14
def etherType (l : List Byte) : Nat := beAt l (ipOffset l - 2) 2

/-- The UDP checksum over the pseudo header of an IPv4 packet at `o`; `seg` is the UDP segment. -/
def udpSum (l : List Byte) (o : Nat) (seg : List Byte) : Nat :=
  inetSum (slice l (o + 12) 8 ++ beBytes 2 17 ++ beBytes 2 seg.length ++ seg)

/-- IPv4 and UDP checksums filled in. -/
def withChecksums (l : List Byte) : List Byte :=
  let o := ipOffset l
  if etherType l ≠ 0x0800 then l
  else
    let h := 4 * (beAt l o 1 % 16)
    let l := patch l (o + 10) (zeros 2)
    let l := patch l (o + 10) (beBytes 2 (inetSum (slice l o h)))
    if beAt l (o + 9) 1 ≠ 17 then l
    else
      let l := patch l (o + h + 6) (zeros 2)
      let seg := slice l (o + h) (beAt l (o + h + 4) 2)
      let k := udpSum l o seg
      patch l (o + h + 6) (beBytes 2 (if k = 0 then 0xFFFF else k))

/-! ## PTP messages (R62, R63, R203, R204) -/

/-- A UDP/IPv4 header shape at the frame's IPv4 offset. -/
def isUdp (l : List Byte) : Bool := etherType l == 0x0800 && beAt l (ipOffset l + 9) 1 == 17
def ihl (l : List Byte) : Nat := 4 * (beAt l (ipOffset l) 1 % 16)
def udpOff (l : List Byte) : Nat := ipOffset l + ihl l
def dstPortOf (l : List Byte) : Nat := beAt l (udpOff l + 2) 2

/-- A PTP message (R184 step 2), and where its own header begins. -/
def isPtp (l : List Byte) : Bool := etherType l == 0x88F7 || (isUdp l && (dstPortOf l == 319 || dstPortOf l == 320))
def ptpOff (l : List Byte) : Nat := if etherType l = 0x88F7 then ipOffset l else udpOff l + 8

/-- Enabled time bases that name a MAC. -/
def basesOn (s : State) (m : Nat) : List Nat := (List.range 4).filter (fun p => bit (rd s .timPtbCfg p) 31 && fld s .timPtbCfg p 12 8 == m)

/-- The time base that a message on a MAC is stamped against: of those bound to the MAC the one of the message's PTP domain,
else the first (R63; the place of domainNumber is IEEE 1588's: PRESUMED, notes/assumptions/145.md). -/
def baseFor (s : State) (m : Nat) (l : List Byte) : Option Nat :=
  let b := basesOn s m
  (b.find? (fun p => fld s .timPtbCfg p 23 16 == beAt l (ptpOff l + 4) 1)).or b.head?

/-- The count of the time base bound to a MAC, 0.1 ns; of the system counter where none is. -/
def stampCount (s : State) (m : Nat) (l : List Byte) : Int :=
  10 * (((baseFor s m l).map (ptbNow s)).getD s.tim.now : Int)

/-- A receive stamp referred to the pin, 0.1 ns: earlier than at the PCS by the receive term and the frame's position. -/
def rxStamp (s : State) (m : Nat) (l : List Byte) (pos : Int) : Int :=
  stampCount s m l - (termsOf s m).2 - pos - toSigned 16 (fld s .nmpPtpCorr m 15 0)
/-- A transmit stamp referred to the pin, 0.1 ns: later than at the PCS by the transmit term and the frame's position. -/
def txStamp (s : State) (m : Nat) (l : List Byte) (pos : Int) : Int :=
  stampCount s m l + (termsOf s m).1 + pos + toSigned 16 (fld s .nmpPtpCorr m 31 16)

/-- A message as it leaves in one-step operation: a Sync carries its stamp as originTimestamp, and a UDP checksum that is in use
is corrected (R62; the places of messageType and originTimestamp are IEEE 1588's: PRESUMED, notes/assumptions/145.md). -/
def oneStep (s : State) (m : Nat) (l : List Byte) (stamp : Int) : List Byte :=
  let o := ptpOff l
  let two : Bool := match baseFor s m l with
    | some p => bit (rd s .timPtbCfg p) 27
    | none => true
  if two || !isPtp l || beAt l o 1 % 16 != 0 then l
  else
    let ns := (stamp / 10).toNat
    let l := patch l (o + 34) (beBytes 6 (ns / 1000000000) ++ beBytes 4 (ns % 1000000000))
    if isUdp l && beAt l (udpOff l + 6) 2 != 0 then withChecksums l else l

/-- A frame goes on the wire of a MAC. -/
def sendEth (m : Nat) (l : List Byte) (s : State) : State := { s with wire := s.wire ++ [.eth m (withFcs l)] }

/-- A PTP message leaves: stamped at the pin, its stamp kept for firmware. -/
def sendPtp (m : Nat) (l : List Byte) (pos : Int) (s : State) : State :=
  let b := oneStep s m l (txStamp s m l pos)
  sendEth m b { s with nmp := { s.nmp with ptpTx := s.nmp.ptpTx ++ [{ mac := m, stamp := txStamp s m l pos, bytes := b }] } }

/-- Half duplex is in force on the management MAC: configured, below 1,000 Mb/s (R209). -/
def halfDuplex (s : State) : Bool := bit (rd s .nmpMgmtCfg 0) 28 && fld s .nmpMgmtCfg 0 30 29 != 2

/-- PTP_MESSAGE_SEND: firmware sends a message in queue 7, whose gate is always open, so it leaves at once; on a half-duplex
management MAC it waits its turn as every frame does (R203, R210). One for a link that is DOWN is discarded and counted
(R180). -/
def opPtpMessageSend (m : Nat) (frame : List Byte) (pos : Int) (s : State) : State :=
  if 16 < m then s
  else if !macUp s m then countDown m s
  else if m == 16 && halfDuplex s then
    setMac m { mac s m with frames := (mac s m).frames ++ [{ queue := 7, bytes := frame, csum := false, cmd := none, at_ := s.tim.now }] } s
  else sendPtp m frame pos s

/-! ## NMP_FRAME_SEND (R208) -/

/-- NMP_FRAME_SEND. -/
def opNmpFrameSend (c : Cmd) (m q len opt a : Nat) (img : List Byte) (s : State) : State :=
  let s := place a img s
  match firstErr [
    (barred s, denied), (decide (16 < m), badArg c 24 s), (decide (6 < q), badArg c 25 s), (decide (len < 14) || decide (9212 < len), badArg c 26 s),
    (decide (1 < opt), badArg c 28 s), (!c.hostOk, addressError a), (decide (64 ≤ (mac s m).frames.length), noResource)] with
  | some r => complete c 0x0133 r s
  | none =>
    if !macUp s m then complete c 0x0133 replyDone (countDown m s)
    else holdRing c (setMac m { mac s m with
      frames := (mac s m).frames ++
        [{ queue := q, bytes := hostBytes s a len, csum := opt == 1, cmd := some c, at_ := s.tim.now }] } s)

/-- The waiting frame that leaves next: the oldest of the highest queue. -/
def nextFrame : List HostFrame → Option HostFrame
  | [] => none
  | h :: hs =>
    match nextFrame hs with
    | some x => if h.queue < x.queue then some x else some h
    | none => some h

/-! ## The management MAC (R209, R210) -/

/-- A slot time, 512 bit times, ns. -/
def slotTime (s : State) : Nat := if fld s .nmpMgmtCfg 0 30 29 = 0 then 51200 else 5120

/-- The frame being sent is discarded after a collision; its command completes. -/
def loseFrame (late : Bool) (h : HostFrame) (s : State) : State :=
  let n := s.nmp
  let s := { s with nmp := { n with
    attempts := 0, backoff := none, lateColl := if late then satAdd 8 n.lateColl 1 else n.lateColl
    excessColl := if late then n.excessColl else satAdd 8 n.excessColl 1 } }
  let s := setMac 16 { mac s 16 with frames := (mac s 16).frames.erase h } s
  raise { src := 0x10C, data := [(1, if late then 0 else 1)] } (frameDone h s)

/-- MGMT_MAC_COLLISION: `sent` bits of the frame had been sent; `slots` is the backoff drawn. -/
def opMgmtMacCollision (sent slots : Nat) (s : State) : State :=
  match nextFrame (mac s 16).frames with
  | none => s
  | some h =>
    if !halfDuplex s || s.nmp.backoff.isSome then s
    else
      let s := { s with wire := s.wire ++ [.jam] }
      if 512 < sent then loseFrame true h s
      else
        let k := s.nmp.attempts + 1
        if 16 ≤ k then loseFrame false h s
        else { s with nmp := { s.nmp with attempts := k, backoff := some (s.tim.now + slots % 2 ^ min k 10 * slotTime s) } }

/-- MGMT_BACKOFF_END. -/
def opMgmtBackoffEnd (s : State) : State :=
  match s.nmp.backoff with
  | some t =>
    let s := atLeast t s
    { s with nmp := { s.nmp with backoff := none } }
  | none => s

/-- RGMII_IN_BAND_STATUS: the PHY's link state; frames waiting on a link that goes down are discarded. -/
def opRgmiiInBandStatus (link : Bool) (speed : Nat) (full : Bool) (s : State) : State :=
  let s := { s with nmp := { s.nmp with mgmtLink := link, mgmtSpeed := speed, mgmtFull := full } }
  if link then s else discardFrames 16 s

end Sys2Proof.Machine
end

