-- ==== Sys2Proof/Machine/NmpRx.lean ====
section
/-!
DEFINITION. The network media receiver (R184 to R196): frame checks, stream match, seamless merge, and the payloads of
ST 2110-20, -30, -31, -40, -22 and ST 2022-6.
-/
namespace Sys2Proof.Machine
open Sys2Proof

/-! ## Frame checks (R184) -/

/-- Step 3: IPv4 with a valid header checksum, unfragmented, carrying UDP. -/
def ipOk (l : List Byte) : Bool :=
  let o := ipOffset l
  isUdp l && beAt l o 1 / 16 == 4 && decide (20 ≤ ihl l) && decide (o + ihl l + 8 ≤ l.length) && inetSum (slice l o (ihl l)) == 0 &&
    beAt l (o + 6) 2 % 2 ^ 14 == 0

/-- Step 4: the UDP checksum, when not 0. -/
def udpOk (l : List Byte) : Bool :=
  beAt l (udpOff l + 6) 2 == 0 || udpSum l (ipOffset l) (slice l (udpOff l) (beAt l (udpOff l + 4) 2)) == 0

/-- A frame's own match key and its source. -/
def frameKey (m : Nat) (l : List Byte) : Nat × Option Nat × Nat × Nat :=
  (m, if beAt l 12 2 = 0x8100 then some (beAt l 14 2 % 4096) else none, beAt l (ipOffset l + 16) 4, dstPortOf l)
def frameSrc (l : List Byte) : Nat := beAt l (ipOffset l + 12) 4

/-- Legs of input flows with a key: flow, leg number and source. -/
def legsWith (s : State) (key : Nat × Option Nat × Nat × Nat) : List (Nat × Nat × Nat) :=
  (s.nmp.streams.filter (fun q => nsOf q.1 == 0)).flatMap (fun q =>
    (((legMacs (flowD s q.1)).zip q.2.legs).zipIdx.filter (fun z => legKey z.1.1 z.1.2 == key)).map (fun z => (q.1, z.2, z.1.2.srcIp)))

/-- What the match of R185 answers. -/
inductive Matched where
  | leg (flow leg : Nat)
  | wrongSource
  | unmatched
deriving DecidableEq, Repr

/-- An entry whose source is set takes precedence; one that matches but for its source discards the frame. -/
def matchFrame (s : State) (m : Nat) (l : List Byte) : Matched :=
  let c := legsWith s (frameKey m l)
  match c.find? (fun x => x.2.2 == frameSrc l && x.2.2 != 0) with
  | some x => .leg x.1 x.2.1
  | none =>
    match c.find? (fun x => x.2.2 == 0) with
    | some x => .leg x.1 x.2.1
    | none => if c.isEmpty then .unmatched else .wrongSource

/-! ## RTP -/

/-- An RTP packet. -/
structure Rtp where
  version : Nat
  marker : Bool
  pt : Nat
  seq : Nat
  ts : Nat
  ssrc : Nat
  payload : List Byte
deriving DecidableEq, Repr

/-- The RTP packet of a UDP payload: contributing sources, extension and padding removed. -/
def parseRtp (l : List Byte) : Rtp :=
  let o := 12 + 4 * (beAt l 0 1 % 16)
  let o := if bit (beAt l 0 1) 4 then o + 4 + 4 * beAt l (o + 2) 2 else o
  let pad := if bit (beAt l 0 1) 5 then (l.getLast?.map (fun b => b.toNat)).getD 0 else 0
  { version := beAt l 0 1 / 64, marker := bit (beAt l 1 1) 7, pt := beAt l 1 1 % 128, seq := beAt l 2 2, ts := beAt l 4 4
    ssrc := beAt l 8 4, payload := (l.take (l.length - pad)).drop o }

/-! ## Mismatches (R190) -/

/-- A mismatch of row `row` for a RUNNING flow: it is held, and the row reported. -/
def mismatch (n row : Nat) (s : State) : State :=
  if (flowD s n).st != .running then s
  else raise { src := 0x10D, data := [(2, n), (1, row)] } (holdFlow n 0xFFFF s)

/-- A timing mismatch reports its value as well. -/
def timingMismatch (n row value : Nat) (s : State) : State :=
  if (flowD s n).st != .running then s
  else
    let s := raise { src := 0x106, data := [(2, n), (4, value)] } (holdFlow n 0xFFFF s)
    raise { src := 0x10D, data := [(2, n), (1, row)] } s

/-! ## Seamless merge (R192) -/

/-- The extended sequence number of a packet. -/
def extSeq (x : Stream) (f : Flow) (r : Rtp) : Nat :=
  if f.essence = 0 ∧ carriage f = 0 then
    let low := beAt r.payload 0 2 * 65536 + r.seq
    match x.newest with
    | some n => extend 32 low n
    | none => 2 ^ 32 + low
  else
    match x.newest with
    | some n => extend 16 r.seq n
    | none => 2 ^ 32 + r.seq

/-- A copy's fate. -/
inductive Copy where
  | use
  | duplicate
  | stale
deriving DecidableEq, Repr

def fateOf (x : Stream) (q : Nat) : Copy :=
  match x.newest with
  | none => .use
  | some n => if q + 32768 < n then .stale else if x.used.contains q then .duplicate else .use

/-- A number used: the newest moves on, and what it passed over is missing. -/
def useSeq (n q : Nat) (s : State) : State :=
  let x := stream s n
  let top := max q (x.newest.getD q)
  let missing := match x.newest with
    | some m => q - m - 1
    | none => 0
  let s := setStream n { x with
    newest := some top, used := q :: x.used.filter (fun k => decide (top ≤ k + 32768)), gaps := satAdd 32 x.gaps missing } s
  match x.newest with
  | some m => raiseIf (decide (0 < missing)) { src := 0x104, data := [(2, n), (4, (m + 1) % 2 ^ 32), (4, q % 2 ^ 32)] } s
  | none => s

/-- A packet accepted on a leg: counted, its stamp kept, a lost leg restored. -/
def acceptOn (n leg ts : Nat) (s : State) : State :=
  let x := stream s n
  let x := if leg = 0 then { x with pktsA := satAdd 32 x.pktsA 1, atA := s.tim.now } else { x with pktsB := satAdd 32 x.pktsB 1, atB := s.tim.now }
  let back := x.lost == some leg
  raiseIf back { src := 0x108, data := [(2, n), (1, leg)] }
    (setStream n { x with lost := if back then none else x.lost, lastRtp := ts } s)

/-! ## Frames of a video flow (R188, R189, R191) -/

/-- The 90 kHz value of an instant. -/
def rtp90 (t : Nat) : Nat := t * 9 / 100000
/-- The frame whose boundary is nearest the instant that an RTP timestamp denotes. -/
def rtpFrame (s : State) (d ts : Nat) : Nat :=
  let t := ceilDiv (extend 32 ts (rtp90 s.tim.now) * 100000) 9
  let n := fiAt s d t
  if t - tOf s d n ≤ tOf s d (n + 1) - t then n else n + 1

/-- A packet outside its window: discarded, counted and reported once per flow and frame. -/
def outWindow (n line fi late : Nat) (s : State) : State :=
  let x := stream s n
  raiseOnce n fi { src := 0x105, data := [(2, n), (2, line), (1, fi % 256), (1, late)] }
    (setStream n { x with window := satAdd 32 x.window 1 } s)

/-- A packet of frame `fi` that carries line `k` is early or late now. -/
def windowFault (s : State) (f : Flow) (fi k : Nat) : Option Nat :=
  let t := tOf s f.domain fi
  if s.tim.now < t + lineOffset f.format k 0 then some 0
  else if t + lineOffset f.format k 2 - 1000 < s.tim.now then some 1 else none

/-- A new frame begins: `fi`, with its timestamp; a mismatch it shows holds the flow. `first` says that the packet carries
the first samples of line 0. -/
def newFrame (n fi ts : Nat) (first : Bool) (s : State) : State :=
  let f := flowD s n
  let x := stream s n
  let step := (ts + 2 ^ 32 - x.frameRtp.getD ts) % 2 ^ 32
  let old := x.frameRtp.isSome
  let arrival : Int := (s.tim.now : Int) - ((tOf s f.domain fi + lineOffset f.format 0 0 : Nat) : Int)
  let s := setStream n { x with
    frame := fi, frameRtp := some ts, frameAt := s.tim.now, arrival := if f.locked && first then some arrival else x.arrival } s
  if f.locked then
    let want := rtp90 (tOf s f.domain (x.frame + 1)) - rtp90 (tOf s f.domain x.frame)
    if first && (decide (arrival < 0) || decide (((lineFloor f.format / 2 : Nat) : Int) < arrival)) then
      timingMismatch n 4 (ofSigned 32 arrival) s
    else if old && (decide (step + 1 < want) || decide (want + 1 < step)) then timingMismatch n 4 step s
    else frameBegins n fi s.tim.now ts s
  else
    let num := rateNum (fmtRate f.format)
    let want := 90000 * rateDen (fmtRate f.format)
    if old && decide (500 * want < 1000000 * absDiff ((step * num : Nat) : Int) ((want : Nat) : Int)) then timingMismatch n 5 step s
    else frameBegins n fi s.tim.now ts s

/-! ## ST 2110-20 (R187) -/

/-- A sample-row data header: length, field bit, row, pixel offset; and whether another follows. -/
structure Srd where
  len : Nat
  field : Nat
  row : Nat
  px : Nat
deriving DecidableEq, Repr

/-- At most three headers, with what follows them. -/
def parseSrds : Nat → List Byte → Option (List Srd × List Byte)
  | 0, _ => none
  | k + 1, l =>
    let h : Srd := { len := beAt l 0 2, field := beAt l 2 2 / 32768, row := beAt l 2 2 % 32768, px := beAt l 4 2 % 32768 }
    if l.length < 6 then none
    else if bit (beAt l 4 2) 15 then (parseSrds k (l.drop 6)).map (fun r => (h :: r.1, r.2))
    else some ([h], l.drop 6)

/-- Bytes and pixels of a pixel group (R33, R38). -/
def pixelGroup (f : Nat) : Nat × Nat :=
  match fmtSampling f with
  | 1 => (5, 2)
  | 2 => (6, 2)
  | 3 => (15, 4)
  | 4 => (15, 4)
  | _ => (9, 2)

/-- The active line of a header: the second field's lines follow the first's (R186). -/
def srdLine (f : Nat) (h : Srd) : Nat := h.row + (if fmtInterlaced f then fmtLines f / 2 * h.field else 0)

/-- A header beyond the active raster, or of a part of a pixel group. -/
def srdBad (f : Nat) (h : Srd) : Bool :=
  let g := pixelGroup f
  h.len % g.1 != 0 || decide (fmtWidth f ≤ h.px) || decide (fmtWidth f < h.px + h.len / g.1 * g.2) ||
    (if fmtInterlaced f then decide (fmtLines f / 2 ≤ h.row) else h.field != 0 || decide (fmtLines f ≤ h.row))

/-- Segments joined from offset `pos` on, as far as they reach without a hole. -/
def joinParts : Nat → Tab (List Byte) → List Byte
  | _, [] => []
  | pos, (o, b) :: t =>
    if pos < o then [] else b.drop (pos - o) ++ joinParts (max pos (o + b.length)) t

/-- Samples placed in their line; a line complete is stored with its signature and taken. -/
def placeSegment (n fi line off : Nat) (b : List Byte) (s : State) : State :=
  let f := flowD s n
  let x := stored s n line
  let x := if x.fi = fi ∧ x.line = line ∧ (x.complete = true ∨ x.parts ≠ []) then x else { line := line, fi := fi }
  if x.complete then s
  else
    let parts := tput x.parts off b
    let l := joinParts 0 parts
    if lineBytes f.format ≤ l.length then takeLine n fi line (l.take (lineBytes f.format)) s
    else setStored n line { x with parts := parts } s

/-- The segments of a packet placed one after another. -/
def placeSrds (n fi : Nat) : List Srd → List Byte → State → State
  | [], _, s => s
  | h :: hs, l, s =>
    let f := flowD s n
    let g := pixelGroup f.format
    let s := if h.len = 0 then s else placeSegment n fi (srdLine f.format h) (h.px / g.2 * g.1) (l.take h.len) s
    placeSrds n fi hs (l.drop h.len) s

/-- A video packet of a RUNNING flow. -/
def videoPacket (n : Nat) (r : Rtp) (s : State) : State :=
  match parseSrds 3 (r.payload.drop 2) with
  | none => s
  | some (hs, data) =>
    let f := flowD s n
    if hs.any (srdBad f.format) || decide (data.length < sumBy hs (fun h => h.len)) then mismatch n 3 s
    else
      let x := stream s n
      let fresh := match x.frameRtp with
        | none => true
        | some t => serialLt 32 t r.ts
      let fi := if f.locked then rtpFrame s f.domain r.ts
        else if fresh then (if x.frameRtp.isNone then 0 else (x.frame + 1) % 2 ^ 32)
        else if x.frameRtp = some r.ts then x.frame else x.frame - 1
      let first := hs.any (fun h => srdLine f.format h == 0 && h.px == 0)
      let s := if fresh then newFrame n fi r.ts first (stopAtFrame [n] s) else s
      if (flowD s n).st != .running then s
      else
        match (if f.locked then hs.find? (fun h => (windowFault s f fi (srdLine f.format h)).isSome) else none) with
        | some h => outWindow n (srdLine f.format h) fi ((windowFault s f fi (srdLine f.format h)).getD 0) s
        | none => placeSrds n fi hs data s

/-! ## ST 2110-30 and -31 (R193) -/

/-- One received audio word: sample left-justified; L16 and L24 set Z every 192 periods, AM824 carries its own flags. -/
def audioWord (format p : Nat) (l : List Byte) : Nat :=
  if format = 0x10 then
    let h := beAt l 0 1
    beAt l 1 3 * 256 + flag (bit h 0) 7 + flag (bit h 1) 6 + flag (bit h 2) 5 + flag (bit h 5) 4
  else (if format = 2 ∨ format = 4 then beAt l 0 2 * 65536 else beAt l 0 3 * 256) + flag (p % 192 == 0) 4

/-- Words of one period. -/
def periodWords (f : Flow) (p : Nat) (l : List Byte) : List Nat :=
  (List.range f.count).map (fun c => audioWord f.format p (slice l (c * sampleBytes f) (sampleBytes f)))

/-- An audio packet of a RUNNING flow. -/
def audioPacket (n : Nat) (r : Rtp) (s : State) : State :=
  let f := flowD s n
  let k := f.count * sampleBytes f
  if r.payload.length ≠ k * packetSamples f then mismatch n 6 s
  else
    let rate := audioRate f.format
    let s0 := extend 32 r.ts (periodAt rate s.tim.now)
    let s := setStream n { stream s n with arrival := some ((s.tim.now : Int) - (periodStart rate s0 : Int)) } s
    (List.range (packetSamples f)).foldl
      (fun s i => storeSamples (s0 + i) f.base (periodWords f (s0 + i) (slice r.payload (i * k) k)) s) s

/-! ## ST 2110-40 (R194) -/

/-- A field of `w` bits at bit `o`, most significant first. -/
def bitField (l : List Byte) (o w : Nat) : Nat :=
  beAt l (o / 8) ((o % 8 + w + 7) / 8) / 2 ^ ((8 - (o + w) % 8) % 8) % 2 ^ w

/-- RFC 8331 packets as records: at most `k`. -/
def rfc8331 : Nat → List Byte → List Byte
  | 0, _ => []
  | k + 1, l =>
    if l.length < 8 then []
    else
      let words := bitField l (32 + 20) 10 % 256 + 4
      let x : AncPacket :=
        { stream := bitField l 0 1, hoffset := bitField l 12 12, words := (List.range words).map (fun i => bitField l (32 + 10 * i) 10) }
      ancRecord (bitField l 1 11) x ++ rfc8331 k (l.drop (4 + 4 * ceilDiv (10 * words) 32))

/-- An ANC packet of a RUNNING flow. -/
def ancPacket (n : Nat) (r : Rtp) (s : State) : State :=
  let f := flowD s n
  let fi := rtpFrame s f.domain r.ts
  let x := stream s n
  if tOf s f.domain (fi + 1) ≤ s.tim.now then outWindow n 0 fi 1 s
  else
    let fresh := match x.frameRtp with
      | none => true
      | some t => serialLt 32 t r.ts
    let s := if fresh then
        frameBegins n fi s.tim.now r.ts (setStream n { x with frame := fi, frameRtp := some r.ts, frameAt := s.tim.now } s)
      else s
    let b := rfc8331 (beAt r.payload 4 1) (r.payload.drop 8)
    takeStream n fi (b ++ (if r.marker then zeros 6 else [])) r.marker s

/-! ## ST 2110-22 (R195) and ST 2022-6 (R196) -/

/-- An opaque packet: its payload behind a word of its length and marker. -/
def opaquePacket (n : Nat) (r : Rtp) (s : State) : State :=
  takeStream n (fiNow s (flowD s n).domain) (leBytes 4 (flag r.marker 31 + r.payload.length) ++ r.payload) false
    (setStream n { stream s n with marker := r.marker } s)

/-- The time that `n` bytes of a signal take at an interface rate, ns. -/
def serialNs (rate n : Nat) : Nat := n * 8 * 1000000000 * (ifClock rate).2 / ((ifClock rate).1 * 20)

/-- The ARRIVAL of an ST 2022-6 video flow is its stream's (R196, R211). -/
def takeArrival (n : Nat) (s : State) : State :=
  match (sdiRx s (64 + ixOf n)).arrival with
  | some a => setStream n { stream s n with arrival := some a } s
  | none => s

/-- An ST 2022-6 datagram: its receiver locks to the header's rate, which must be FORMAT's; the frame starts and lines that its
serial data complete are handled as an SDI receiver's. A frame start is timed at its 0H: the datagram's arrival, corrected by
that word's position (R196). -/
def sdiDatagram (n : Nat) (payload : List Byte) (s : State) : State :=
  let p := 64 + ixOf n
  let rate := Config.serialRate payload
  let rx := sdiRx s p
  let s := if rx.st = .identified ∨ rx.st = .locked then s
    else setRx p { rx with st := .locked, rate := rate, lastRate := rate, since := s.tim.now, goodFrames := 0, frameAt := none } s
  let s := if rate = ifRateOf (flowD s n).format then s else holdFlows (inputsOn s p) 0xFFFF s
  let old := (stream s n).serial
  let data := old ++ Config.serialBody payload
  let s := match Config.serialStart data with
    | some y => takeArrival n (opSdiFrameStart p { y with at_ := s.tim.now + serialNs rate (Config.serialAt data - old.length) } s)
    | none => s
  match Config.serialLine data with
  | some (y, rest) => opSdiLineRx p y (setStream n { stream s n with serial := rest } s)
  | none => setStream n { stream s n with serial := data } s

/-! ## ETH_FRAME_RX -/

/-- A used packet goes to its flow. -/
def usePacket (m n : Nat) (r : Rtp) (x : EthFault) (s : State) : State :=
  let f := flowD s n
  let slot := if f.essence = 1 then secOf s else (stream s n).frame
  let s := if x.payload && f.sigEn then sigFail n slot { src := 0x246, data := [(1, m), (2, n)] } s else s
  if carriage f = 1 then sdiDatagram n r.payload s
  else
    match f.essence with
    | 0 => videoPacket n r s
    | 1 => audioPacket n r s
    | 2 => ancPacket n r s
    | _ => opaquePacket n r s

/-- A packet matched to a leg: its RTP header checked, merged, and used while its flow is RUNNING (an ST 2022-6 receiver
follows its signal whether or not its flows run, as a port does). -/
def streamPacket (m n leg : Nat) (r : Rtp) (x : EthFault) (s : State) : State :=
  let f := flowD s n
  let y := stream s n
  let wrongPt := r.pt != fieldAt f.params 2 1
  if r.version != 2 || wrongPt || (y.ssrc != 0 && r.ssrc != y.ssrc) then
    let s := setStream n { y with rejects := satAdd 32 y.rejects 1 } s
    if r.version == 2 && wrongPt then mismatch n 2 s else s
  else if f.st != .running && carriage f != 1 then s
  else
    let s := acceptOn n leg r.ts (readyFlows (if f.restore.isSome && carriage f == 0 then [n] else []) s)
    let q := extSeq y f r
    match fateOf y q with
    | .use => usePacket m n r x (useSeq n q s)
    | .duplicate => setStream n { stream s n with dups := satAdd 32 (stream s n).dups 1 } s
    | .stale => s

/-- A discarded frame counted under NMP_RX_DROP. -/
def dropFrame (m : Nat) (s : State) : State := setMac m { mac s m with drop := satAdd 32 (mac s m).drop 1 } s

/-- A PTP message: to firmware with its stamp on a MAC that an enabled time base names, to the host else (R203). -/
def ptpMessage (m : Nat) (l : List Byte) (x : EthFault) (s : State) : State :=
  let b := basesOn s m
  if b.isEmpty then toHost m 2 l s
  else
    let s := { s with nmp := { s.nmp with ptpRx := s.nmp.ptpRx ++ [{ mac := m, stamp := rxStamp s m l x.pos, bytes := l }] } }
    match x.ptb with
    | some off => b.foldl (fun s p => ptbOffset p off s) s
    | none => s

/-- The largest frame a MAC takes, with its FCS. -/
def maxFrame (s : State) (m : Nat) : Nat := if m = 16 then 9216 else fld s .nmpMacCfg m 13 0

/-- ETH_FRAME_RX: the checks of R184 in order; `l` is the frame without its FCS. -/
def opEthFrameRx (m : Nat) (l : List Byte) (x : EthFault) (s : State) : State :=
  if 16 < m || !macUp s m then s
  else if x.fcs || decide (maxFrame s m < l.length + 4) then
    raiseOnce m (secOf s) { src := 0x102, data := [(1, m)], unit := if m < 16 then some (.mac m) else none }
      (setMac m { mac s m with fcs := satAdd 32 (mac s m).fcs 1 } s)
  else if isPtp l then ptpMessage m l x s
  else if !ipOk l then toHost m 1 l s
  else if !udpOk l then
    raiseOnce m (secOf s) { src := 0x103, data := [(1, m)], unit := if m < 16 then some (.mac m) else none } (dropFrame m s)
  else
    match matchFrame s m l with
    | .unmatched => toHost m 0 l s
    | .wrongSource => dropFrame m s
    | .leg n leg => streamPacket m n leg (parseRtp (slice l (udpOff l + 8) (beAt l (udpOff l + 4) 2 - 8))) x s

/-! ## Silence (R190, R192) -/

/-- The flow under whose descriptor a flow's packets come: an ST 2022-6 stream's video flow, else its own (R183). -/
def streamOwner (n : Nat) (f : Flow) : Nat := if carriage f = 1 ∧ f.essence ≠ 0 then assoc f else n

/-- How long a flow may go without an accepted packet: 1 FP, or 10 ms for audio (R190). -/
def silenceNs (s : State) (f : Flow) : Nat :=
  if f.essence = 1 then 10000000 else if f.essence = 0 then fpFloor (fmtRate f.format) else fpFloor (domRate s f.domain)

/-- NMP_NO_PACKET_TIMEOUT: that time after the last accepted packet of a RUNNING flow, or after it became RUNNING, the flow is
held; the receiver of an ST 2022-6 stream hunts again with its video flow. -/
def opNmpNoPacketTimeout (flow : Nat) (s : State) : State :=
  let n := normFlow flow
  let f := flowD s n
  if nsOf n != 0 || f.st != .running || f.endpoint != 1 || f.restore.isSome then s
  else
    let x := stream s (streamOwner n f)
    let s := mismatch n 1 (atLeast (max f.runAt (max x.atA x.atB) + silenceNs s f) s)
    if carriage f = 1 ∧ f.essence = 0 then rehunt (64 + ixOf n) s else s

/-- NMP_LEG_LOST: a leg receives nothing for 10 ms while the other receives. -/
def opNmpLegLost (flow leg : Nat) (s : State) : State :=
  let n := normFlow flow
  let x := stream s n
  let t := atLeast (max (flowD s n).runAt (if leg = 0 then x.atA else x.atB) + 10000000) s
  let other := if leg = 0 then x.atB else x.atA
  if nsOf n != 0 || !active (flowD s n) || x.legs.length != 2 || 1 < leg || x.lost.isSome || other == 0 ||
      decide (other + 10000000 ≤ t.tim.now) then s
  else raise { src := 0x107, data := [(2, n), (1, leg)] } (setStream n { x with lost := some leg } t)

end Sys2Proof.Machine
end

