-- ==== Sys2Proof/Machine/NmpTx.lean ====
section
/-!
DEFINITION. The network media transmitter (R193 to R198, R202): paced packets of ST 2110 and ST 2022-6 output flows.
-/
namespace Sys2Proof.Machine
open Sys2Proof

/-! ## Position of a leg -/

def txPos (s : State) (n leg : Nat) : TxPos := tgetD (stream s n).tx leg {}
def setPos (n leg : Nat) (p : TxPos) (s : State) : State :=
  let x := stream s n
  setStream n { x with tx := tput x.tx leg p } s

/-- Where a flow that starts now begins: video at the next frame, audio at the next whole packet, ANC and opaque with the
stream of the frame in progress. The first sequence number is one of the device's own choice. -/
def firstPos (s : State) (f : Flow) : TxPos :=
  let k := max 1 (packetSamples f)
  { seq := Config.freeNat s.free % 2 ^ 32
    frame := if f.essence = 1 then ceilDiv (periodAt (audioRate f.format) s.tim.now + 1) k * k
             else if f.essence = 0 then fiNow s f.domain + 1 else fiNow s f.domain }

/-- The stream descriptor an output sends under: an ST 2022-6 stream's is its video flow's. -/
def legOf (s : State) (n leg : Nat) : Leg := ((stream s n).legs[leg]?).getD {}
def legMac (f : Flow) (leg : Nat) : Nat := (legMacs f).getD leg 0
def txOffsetNs (f : Flow) : Nat := fieldAt f.params 8 4

/-! ## Packets -/

/-- The RTP payload of a packet, its timestamp, its marker, and the line or block it carries. -/
structure Packet where
  payload : List Byte := []
  rtp : Nat := 0
  marker : Bool := false
  line : Nat := 0
  /-- It carries a line of fill. -/
  fill : Bool := false
deriving DecidableEq, Repr

/-- `k` line periods and `j` parts of `n`, ns, rounded up. -/
def linePart (f k j n : Nat) : Nat :=
  ceilDiv ((k * n + j) * rateDen (fmtRate f) * 1000000000) (rateNum (fmtRate f) * fmtTotal f * n)

/-- ST 2110-20 (R197): packet j of line k, one header each. -/
def videoTx (s : State) (n : Nat) (f : Flow) (p : TxPos) : Packet :=
  let y := plat s (ixOf n)
  let here := y.line == p.line && y.fi == p.frame && !y.fill
  let bytes := if here then y.bytes else blackLine f.format f.colour
  let size := fieldAt f.params 4 2
  let b := slice bytes (p.pkt * size) size
  let g := pixelGroup f.format
  let half := fmtLines f.format / 2
  let second := fmtInterlaced f.format && decide (half ≤ p.line)
  let row := if second then p.line - half else p.line
  let lastLine := p.line + 1 == fmtLines f.format || (fmtInterlaced f.format && p.line + 1 == half)
  { payload := beBytes 2 (p.seq / 65536) ++ beBytes 2 b.length ++ beBytes 2 (flag second 15 + row) ++
      beBytes 2 (p.pkt * size / g.1 * g.2) ++ b
    rtp := rtp90 (tOf s f.domain p.frame), marker := lastLine && p.pkt + 1 == linePackets f, line := p.line, fill := !here }

/-- An audio word as sent: L16 and L24 truncate; AM824 carries V, U, C and the block start with its own parity. -/
def sentWord (format : Nat) (firstSub : Bool) (w : Nat) : List Byte :=
  if format = 0x10 then
    let x := flag (bit w 7) 0 + flag (bit w 6) 1 + flag (bit w 5) 2
    let ones := ((List.range 24).filter (fun i => bit w (8 + i))).length + ((List.range 3).filter (fun i => bit x i)).length
    beBytes 1 (x + flag (ones % 2 == 1) 3 + flag firstSub 4 + flag (bit w 4) 5) ++ beBytes 3 (w / 256)
  else if format = 2 ∨ format = 4 then beBytes 2 (w / 65536) else beBytes 3 (w / 256)

/-- ST 2110-30 and -31 (R193): the packet of sample periods from `frame` on. -/
def audioTx (s : State) (f : Flow) (p : TxPos) : Packet :=
  { payload := (List.range (packetSamples f)).flatMap (fun i => (List.range f.count).flatMap (fun c =>
      sentWord f.format (c % 2 == 0) (tgetD (tgetD s.aud.post (f.base + c) []) (p.frame + i) 0)))
    rtp := p.frame % 2 ^ 32, line := p.frame / 6 % 4096 }

/-- Bits, most significant first. -/
def bitsOf (w n : Nat) : List Bool := (List.range w).map (fun i => bit n (w - 1 - i))
def packBits (l : List Bool) : List Byte :=
  let k := ceilDiv l.length 32
  beBytes (4 * k) (((l ++ List.replicate (32 * k - l.length) false).foldl (fun a b => 2 * a + (if b then 1 else 0)) 0))

/-- A record as an RFC 8331 packet. -/
def ancWire (r : List Byte) : List Byte :=
  let w := fieldAt r 0 2
  packBits (bitsOf 1 (bits w 11 11) ++ bitsOf 11 (w % 2048) ++ bitsOf 12 (fieldAt r 2 2) ++ bitsOf 8 0 ++
    (List.range (fieldAt r 4 2)).flatMap (fun i => bitsOf 10 (fieldAt r (6 + 2 * i) 2)))

/-- Records gathered into packets of at most 255 records and 1,400 bytes: `(count, bytes)`. -/
def gatherAnc : List (List Byte) → List (Nat × List Byte)
  | [] => [(0, [])]
  | b :: bs =>
    match gatherAnc bs with
    | (k, l) :: t => if k < 255 ∧ b.length + l.length ≤ 1400 then (k + 1, b ++ l) :: t else (1, b) :: (k, l) :: t
    | [] => [(1, b)]

/-- The stream that an ANC or opaque output carries for frame `n` of its latched source; none before the first commit. -/
def latchedStream (s : State) (o n : Nat) : List Byte :=
  match srcFor s (ixOf o) n with
  | some src => if beforeCommit s (flowD s o).domain then [] else streamOf s src n
  | none => []

/-- ANC packets of the stream of frame `n`. -/
def ancPackets (s : State) (o n : Nat) : List (Nat × List Byte) :=
  let b := latchedStream s o n
  gatherAnc ((parseRecords b.length b).map (fun r => ancWire r.2))

/-- ST 2110-40 (R194): the stream of frame n in frame n + 1. -/
def ancTx (s : State) (o : Nat) (f : Flow) (p : TxPos) : Packet :=
  let l := ancPackets s o p.frame
  let x := l.getD p.pkt (0, [])
  { payload := beBytes 2 (p.seq / 65536) ++ beBytes 2 x.2.length ++ beBytes 1 x.1 ++ zeros 3 ++ x.2
    rtp := rtp90 (tOf s f.domain (p.frame + 1)), marker := decide (l.length ≤ p.pkt + 1) }

/-- Payloads of an opaque stream, each with its leading word, from offset 0: `(offset, word, payload)`. -/
def opaqueParts : Nat → Nat → List Byte → List (Nat × Nat × List Byte)
  | 0, _, _ => []
  | k + 1, off, l =>
    let w := fieldAt l 0 4
    let n := w % 65536
    if w = 0 ∨ l.length < 4 + n then [] else (off, w, slice l 4 n) :: opaqueParts k (off + 4 + n) (l.drop (4 + n))

def partsOf (s : State) (src n : Nat) : List (Nat × Nat × List Byte) :=
  let b := streamOf s src n
  opaqueParts b.length 0 b

/-- Offset of the first codestream frame of a source's stream of frame `n` that begins after T(n): the start of the stream if
the last packet before T(n) had its marker set, else past the stream's first marker; none without one (R37). -/
def takeAt (s : State) (src n : Nat) : Option Nat :=
  let ended := n != 0 && ((partsOf s src (n - 1)).getLast?.map (fun x => bit x.2.1 31)).getD false
  if ended then some 0
  else ((partsOf s src n).find? (fun x => bit x.2.1 31)).map (fun x => x.1 + 4 + x.2.2.length)

/-- The source that an opaque output sends after the frame its record notes: fill at once, and a new source only once a
codestream frame of it has begun (R37). -/
def curAfter (s : State) (y : Platform) : Option Nat :=
  if y.fill then none
  else if y.cur = some y.src ∨ (takeAt s y.src y.fi).isSome then some y.src
  else y.cur

/-- The source that an opaque output sends as frame `n` begins. -/
def curFor (s : State) (o n : Nat) : Option Nat :=
  let y := plat s (ixOf o)
  if y.fi = n then y.cur else curAfter s y

/-- Payloads that an opaque output sends of frame `n`: after a take the old source goes on until the new one's first
codestream frame (R37). -/
def opaqueSent (s : State) (o n : Nat) : List (Nat × Nat × List Byte) :=
  match srcFor s (ixOf o) n with
  | none => []
  | some src =>
    let old := curFor s o n
    if beforeCommit s (flowD s o).domain then []
    else if old = some src then partsOf s src n
    else
      let before := (old.map (fun x => partsOf s x n)).getD []
      match takeAt s src n with
      | some k => before.filter (fun x => decide (x.1 + 4 + x.2.2.length ≤ k)) ++ (partsOf s src n).filter (fun x => decide (k ≤ x.1))
      | none => before

/-- As a frame begins an opaque output notes the source it has latched and the one it is sending. -/
def noteSource (o n : Nat) (s : State) : State :=
  let y := plat s (ixOf o)
  let x := srcFor s (ixOf o) n
  if y.fi = n ∧ y.src = x.getD 0 then s
  else setPlat (ixOf o) { y with fi := n, cur := curFor s o n, src := x.getD 0, fill := x.isNone } s

/-- ST 2110-22 (R195): one packet per payload, unchanged. -/
def opaqueTx (s : State) (o : Nat) (p : TxPos) (at_ : Nat) : Packet :=
  let f := flowD s o
  let x := (opaqueSent s o p.frame).getD p.pkt (0, 0, [])
  { payload := x.2.2, marker := bit x.2.1 31
    rtp := if p.marker then rtp90 (tOf s f.domain (fiAt s f.domain at_)) else p.rtp }

/-- Active samples of line `k` of frame `n` as an ST 2022-6 output takes them: what its platform has read, or holds for it in cell
memory, else fill (R27, R82). -/
def serialSamples (s : State) (o n k : Nat) (f : Flow) : Bool × List Byte :=
  let y := plat s (ixOf o)
  if y.line = k ∧ y.fi = n then (y.fill, y.bytes)
  else
    let z := match srcFor s (ixOf o) n with
      | some src => stored s src k
      | none => {}
    if z.complete ∧ z.fi = n then (false, z.bytes) else (true, blackLine f.format f.colour)

/-- Line `l` of frame `n` of the signal that an ST 2022-6 output carries, built as an SDI transmitter builds it (R171, R172,
R196). -/
def serialLineOut (s : State) (o n l : Nat) (f : Flow) : SdiOut :=
  let x : SdiTx := { ifRate := ifRateOf f.format, frame := n, line := l, flow := o }
  match activeOf f.format l with
  | some k => (buildLine s (64 + ixOf o) x f (serialSamples s o n k f).1 (serialSamples s o n k f).2).1
  | none => (buildLine s (64 + ixOf o) x f false []).1

/-- The lines that datagram `j` of a frame falls in: that of its first byte and the next. -/
def serialLines (f : Flow) (j : Nat) : List Nat :=
  let l := j * fmtTotal f.format / max 1 (frameDatagrams f) + 1
  if l < fmtTotal f.format then [l, l + 1] else [l]

/-- ST 2022-6 (R196): datagram j of frame n. -/
def serialTx (s : State) (n : Nat) (f : Flow) (p : TxPos) : Packet :=
  { payload := Config.serialData f.format p.pkt ((serialLines f p.pkt).map (fun l => serialLineOut s n p.frame l f))
    rtp := Config.serialStamp n p.frame p.pkt, marker := p.pkt + 1 == frameDatagrams f }

/-- Packets of the position's line, block or frame. -/
def packetsHere (s : State) (n : Nat) (f : Flow) (p : TxPos) : Nat :=
  if carriage f = 1 then frameDatagrams f
  else
    match f.essence with
    | 0 => linePackets f
    | 1 => 1
    | 2 => (ancPackets s n p.frame).length
    | _ => (opaqueSent s n p.frame).length

def packetOf (s : State) (n : Nat) (f : Flow) (p : TxPos) (at_ : Nat) : Packet :=
  if carriage f = 1 then serialTx s n f p
  else
    match f.essence with
    | 0 => videoTx s n f p
    | 1 => audioTx s f p
    | 2 => ancTx s n f p
    | _ => opaqueTx s n p at_

/-- Release instant of the packet at a position (R193 to R197). -/
def releaseAt (s : State) (n : Nat) (f : Flow) (p : TxPos) : Nat :=
  let t := tOf s f.domain p.frame
  let off := txOffsetNs f
  if carriage f = 1 then
    let k := ifClock (ifRateOf f.format)
    t + linesNs f.format f.depth + off + ceilDiv (1376 * 8 * p.pkt * 1000000000 * k.2) (k.1 * 20)
  else
    match f.essence with
    | 0 => t + off + linePart f.format (rasterA (fmtRaster f.format) p.line + p.line + f.depth) p.pkt (linePackets f)
    | 1 => periodStart (audioRate f.format) (p.frame + packetSamples f) + off
    | 2 => tOf s f.domain (p.frame + 1) + off + 500000 * p.pkt / max 1 (packetsHere s n f p)
    | _ => tOf s f.domain (p.frame + 1) + off + ((opaqueSent s n p.frame).getD p.pkt (0, 0, [])).1 * 8000 / max 1 f.rate

/-- The position after a packet. -/
def nextPos (s : State) (n : Nat) (f : Flow) (k : Packet) (p : TxPos) : TxPos :=
  let p := { p with seq := (p.seq + 1) % 2 ^ 32, marker := k.marker, rtp := k.rtp }
  if f.essence = 1 then { p with frame := p.frame + packetSamples f }
  else if p.pkt + 1 < packetsHere s n f p then { p with pkt := p.pkt + 1 }
  else if f.essence = 0 ∧ carriage f = 0 ∧ p.line + 1 < fmtLines f.format then { p with line := p.line + 1, pkt := 0 }
  else { p with frame := p.frame + 1, line := 0, pkt := 0 }

/-! ## The frame on the wire (R183, R198) -/

/-- The Ethernet frame of a packet on a leg, without its FCS. -/
def mediaFrame (s : State) (n leg : Nat) (f : Flow) (k : Packet) (seq : Nat) : List Byte :=
  let g := legOf s n leg
  let m := legMac f leg
  let udp := 8 + 12 + k.payload.length
  let rtp := beBytes 1 0x80 ++ beBytes 1 (flag k.marker 7 + fieldAt f.params 2 1) ++ beBytes 2 seq ++ beBytes 4 k.rtp ++
    beBytes 4 (stream s n).ssrc
  let l := beBytes 6 g.dmac ++ beBytes 6 (fld s .nmpMacAddrHi m 15 0 * 2 ^ 32 + rd s .nmpMacAddrLo m) ++
    (if g.tagged then beBytes 2 0x8100 ++ beBytes 2 (g.pcp * 2 ^ 13 + g.vid) else []) ++ beBytes 2 0x0800 ++
    beBytes 1 0x45 ++ beBytes 1 (4 * g.dscp) ++ beBytes 2 (20 + udp) ++ beBytes 2 (Config.ipIdent n seq) ++
    beBytes 2 (flag Config.dontFragment 14) ++ beBytes 1 g.ttl ++ beBytes 1 17 ++ zeros 2 ++ beBytes 4 g.srcIp ++ beBytes 4 g.dstIp ++
    beBytes 2 g.srcPort ++ beBytes 2 g.dstPort ++ beBytes 2 udp ++ zeros 2 ++ rtp ++ k.payload
  let c := withChecksums l
  if bit (fieldAt f.params 3 1) 2 then c else patch c (udpOff l + 6) (zeros 2)

/-! ## NMP_PACKET_SEND and NMP_TX_LATE -/

/-- An output flow that sends packets of its own: the audio and ANC flows of an ST 2022-6 stream go in their video flow's. -/
def sends (s : State) (n leg : Nat) : Bool :=
  let f := flowD s n
  drives s && nsOf n == 1 && f.st == .running && f.endpoint == 1 && decide (leg < (stream s n).legs.length) &&
    (carriage f == 0 || f.essence == 0)

/-- A packet that waits on a MAC: its queue, the instant of its release and its bytes. -/
structure Waiting where
  queue : Nat
  at_ : Nat
  bytes : Nat
deriving DecidableEq, Repr

/-- The packet at a leg's position, if its release has come. -/
def mediaWaiting (s : State) (n leg : Nat) : Option Waiting :=
  let f := flowD s n
  let p := txPos s n leg
  let t := releaseAt s n f p
  if sends s n leg && packetsHere s n f p != 0 && decide (t ≤ s.tim.now) then
    some { queue := (legOf s n leg).queue, at_ := t, bytes := (mediaFrame s n leg f (packetOf s n f p t) p.seq).length }
  else none

/-- Everything that waits on a MAC: released media packets and host frames (R199). -/
def waitingOnMac (s : State) (m : Nat) : List Waiting :=
  (s.flows.flatMap (fun f => (List.range 2).filterMap (fun leg => if legMac f.2 leg = m then mediaWaiting s f.1 leg else none))) ++
    (mac s m).frames.map (fun h => { queue := h.queue, at_ := h.at_, bytes := h.bytes.length })

/-- A packet leaves next on its MAC: its gate lets it, nothing that may start waits in a higher queue, and nothing released
earlier waits in its own (R199). -/
def goesNow (s : State) (m : Nat) (w : Waiting) : Bool :=
  mayStart s m w.queue (w.bytes + 24) &&
    (waitingOnMac s m).all (fun x =>
      decide (x.queue < w.queue) || (x.queue == w.queue && decide (w.at_ ≤ x.at_)) ||
        (decide (w.queue < x.queue) && !mayStart s m x.queue (x.bytes + 24)))

/-- NMP_PACKET_SEND: the packet at the leg's position leaves when its release has come, its link is UP and its turn and its gate
allow; a packet for a link that is DOWN is discarded and counted (R180). -/
def opNmpPacketSend (flow leg : Nat) (r : ReadFault) (genBad : Bool) (s : State) : State :=
  let n := normFlow flow
  let f := flowD s n
  if !sends s n leg then s
  else
    let s := if f.essence = 3 then noteSource n (txPos s n leg).frame s else s
    let p := txPos s n leg
    let m := legMac f leg
    let t := releaseAt s n f p
    if packetsHere s n f p = 0 then setPos n leg { p with frame := p.frame + 1, line := 0, pkt := 0 } s
    else
      let s := atLeast t s
      let k := packetOf s n f p s.tim.now
      let b := mediaFrame s n leg f k p.seq
      let go := setPos n leg (nextPos s n f k p) s
      if !macUp s m then countDown m go
      else if !goesNow s m { queue := (legOf s n leg).queue, at_ := t, bytes := b.length } then s
      else
        let slot := if f.essence = 1 then secOf s else p.frame
        let s := if r.sig && !k.fill && f.essence ≤ 1 && (if f.essence = 0 then (flowD s (plat s (ixOf n)).src).sigEn else f.sigEn) then
            sigFail n slot { src := 0x244, data := [(2, n), (2, k.line)] } go
          else go
        let s := checkFail genBad { src := 0x245, data := [(1, 1), (1, m)] } s
        sendEth m b s

/-- How long a media packet may wait after its release: one line period (video), or one packet time (R202). -/
def lateNs (s : State) (n : Nat) (f : Flow) (p : TxPos) : Nat :=
  match f.essence with
  | 0 => lineFloor f.format
  | 1 => periodStart (audioRate f.format) (p.frame + 2 * packetSamples f) - periodStart (audioRate f.format) (p.frame + packetSamples f)
  | 2 => 500000 / max 1 (packetsHere s n f p)
  | _ => (4 + ((opaqueSent s n p.frame).getD p.pkt (0, 0, [])).2.2.length) * 8000 / max 1 f.rate

/-- NMP_TX_LATE: a packet that has not left in that time is discarded; the first of each flow and leg in each frame of its domain
is reported. -/
def opNmpTxLate (flow leg : Nat) (s : State) : State :=
  let n := normFlow flow
  let f := flowD s n
  if !sends s n leg then s
  else
    let p := txPos s n leg
    let r := releaseAt s n f p
    let s := atLeast (r + lateNs s n f p) s
    let x := stream s n
    let s := setStream n { x with txLate := satAdd 32 x.txLate 1 } s
    raiseOnce (2 * n + leg) (fiAt s f.domain r) { src := 0x109, data := [(2, n), (1, leg)] }
      (setPos n leg (nextPos s n f (packetOf s n f p r) p) s)

/-- NMP_FRAME_SENT: the frame of the highest queue that waits leaves when its turn comes, and its command completes; a PTP
message is stamped as it does (R199, R203, R208). -/
def opNmpFrameSent (m : Nat) (s : State) : State :=
  match nextFrame (mac s m).frames with
  | none => s
  | some h =>
    if !macUp s m || (m == 16 && s.nmp.backoff.isSome) ||
        !goesNow s m { queue := h.queue, at_ := h.at_, bytes := h.bytes.length } then s
    else
      let s := setMac m { mac s m with frames := (mac s m).frames.erase h } { s with nmp := { s.nmp with
        attempts := if m = 16 then 0 else s.nmp.attempts } }
      if h.cmd.isNone then sendPtp m h.bytes 0 s
      else frameDone h (sendEth m (if h.csum then withChecksums h.bytes else h.bytes) s)

end Sys2Proof.Machine
end

