-- ==== Sys2Proof/Machine/Lanes.lean ====
section
/-!
DEFINITION. The lane complex (R213 to R227): bring-up of lanes, margins, eye scans, PRBS tests and lane sparing.
-/
namespace Sys2Proof.Machine
open Sys2Proof

/-! ## Bring-up (R214 to R217) -/

/-- The MAC a lane serves: enabled, with the lane among its own (R179). -/
def macOf (s : State) (n : Nat) : Option Nat :=
  (List.range 16).find? (fun m => macEn s m && (macLanes (rd s .nmpMacCfg m)).contains n)

/-- Rates of the fabric steps BASE to STEP 3, in units of 0.25 Gb/s, rounded down (R215). -/
def stepRate (k : Nat) : Nat := [5, 103, 212, 425].getD k 425

/-- The receiver settings of a lane now: TRAINED and not frozen, they have adapted since `adaptAt` (R218). -/
def adaptedRx (s : State) (n : Nat) : RxTune :=
  let l := lane s n
  if l.st == .trained then Config.adapted n l.rx l.adaptAt s.tim.now else l.rx

/-- What training has set (R218). -/
def tuned (r : StepResult) (now : Nat) (l : Lane) : Lane := { l with tx := r.tx, rx := r.rx, adaptAt := now }

/-- A lane is TRAINED (R215, R216); a shadow's TIME exchange begins (R223). -/
def trainedLane (n rate : Nat) (s : State) : State :=
  let l := lane s n
  let s := setLane n { l with
    st := .trained, rate := rate, best := max l.best rate, failAt := none, marginAt := s.tim.now } s
  let s := if 144 ≤ n then setLink n { st := .timing } s else s
  raise { src := 0x0C0, data := [(1, laneName s n), (2, rate)], unit := some (.lane (laneName s n)) } s

/-- A lane goes to FAILED, with LANE_TRAIN_FAIL where it is due. -/
def failLane (n : Nat) (due : Bool) (s : State) : State :=
  let l := lane s n
  let s := setLane n { l with
    st := .failed, rate := 0, since := s.tim.now, failAt := if due then some s.tim.now else l.failAt } s
  raiseIf due
    { src := 0x0C1, data := [(1, laneName s n), (2, l.best), (1, l.step)], unit := some (.lane (laneName s n)) } s

/-- A fabric lane fails (R215): LANE_TRAIN_FAIL on the first failure of a series and then once per 60 s. -/
def failFabric (n : Nat) (s : State) : State :=
  failLane n (match (lane s n).failAt with
    | none => true
    | some t => decide (t + 60000000000 ≤ s.tim.now)) s

/-- A fabric lane's step succeeds (R215): on to the next, or TRAINED and its link in FRAMING. BASE shows in the far end's
capability word whether it can reach 106.25 Gb/s. -/
def fabricStep (n : Nat) (r : StepResult) (s : State) : State :=
  let l := lane s n
  if l.step = 0 ∧ r.far.rate < 425 then failFabric n (setLane n { l with far := r.far } s)
  else if 3 ≤ l.step then startFraming n (trainedLane n 425 (setLane n (tuned r s.tim.now l) s))
  else
    let rate := stepRate (l.step + 1)
    let l := if l.step = 0 then { l with far := r.far } else tuned r s.tim.now l
    setLane n { l with st := .step, step := l.step + 1, rate := rate, best := max l.best rate, since := s.tim.now } s

/-- Negotiation ends with the mode of the MAC: every lane of it goes to the mode's rate (R216). -/
def macSteps (m hcd : Nat) (s : State) : State :=
  let r := modeLaneRate (macMode s m)
  let s := (macLanes (rd s .nmpMacCfg m)).foldl (fun s n =>
    setLane n { endScan (lane s n) with st := .step, step := 1, rate := r, best := r, since := s.tim.now } s) s
  setMac m { mac s m with hcd := hcd, st := if (mac s m).st == .negotiating then .training else (mac s m).st } s

/-- An Ethernet lane's step succeeds (R216): negotiation, which a highest common denominator other than MODE ends with cause 2
(R180), or training, and with the last lane TRAINED the MAC aligns its PCS. -/
def macStep (m n : Nat) (r : StepResult) (s : State) : State :=
  if (lane s n).st = .base then
    if r.hcd = macMode s m then macSteps m r.hcd s
    else opNmpLinkDown m 2 (setMac m { mac s m with hcd := r.hcd } s)
  else
    let s := trainedLane n (modeLaneRate (macMode s m)) (setLane n (tuned r s.tim.now (lane s n)) s)
    if (macLanes (rd s .nmpMacCfg m)).all (fun k => (lane s k).st == .trained) && (mac s m).st == .training then
      setMac m { mac s m with st := .aligning } s
    else s

/-- A step's time limit, ns (R215, R216); negotiation has none. -/
def stepLimit (s : State) (n : Nat) : Option Nat :=
  if laneUse s n = 1 then (if (lane s n).st = .base then none else some 500000000)
  else some (if (lane s n).step = 0 then 10000000 else 100000000)

/-- A lane trains, and its step has not run out of time. -/
def stepOpen (s : State) (n : Nat) : Bool :=
  (laneSt s n == .base || laneSt s n == .step) &&
    (match stepLimit s n with
     | none => true
     | some t => decide (s.tim.now ≤ (lane s n).since + t))

/-- LANE_STEP_DONE: a fabric step above BASE has held its error ratio for 10 ms (R215). -/
def opLaneStepDone (n : Nat) (r : StepResult) (s : State) : State :=
  if !stepOpen s n then s
  else if laneUse s n = 2 then fabricStep n r (if (lane s n).step = 0 then s else atLeast ((lane s n).since + 10000000) s)
  else match macOf s n with
    | some m => macStep m n r s
    | none => s

/-- LANE_STEP_TIMEOUT: the lane goes to FAILED at its step's limit; in BASE a fabric lane does so at once when `far`, the far
end's capability word, shows that it cannot reach 106.25 Gb/s. -/
def opLaneStepTimeout (n : Nat) (far : Option Capability) (s : State) : State :=
  let l := lane s n
  let st := laneSt s n
  match stepLimit s n with
  | none => s
  | some t =>
    if !(st == .base || st == .step) then s
    else if laneUse s n = 2 then
      match far with
      | some c =>
        if l.step = 0 ∧ c.rate < 425 then failFabric n (setLane n { l with far := c } s) else failFabric n (atLeast (l.since + t) s)
      | none => failFabric n (atLeast (l.since + t) s)
    else
      let s := failLane n true (atLeast (l.since + t) s)
      match macOf s n with
      | some m => setMac m { mac s m with retryAt := some (s.tim.now + 500000000) } s
      | none => s

/-- A lane starts again from the lowest rate of its owner's sequence. -/
def restartLane (n : Nat) (s : State) : State :=
  if laneUse s n = 2 then startLane n s
  else match macOf s n with
    | some m => startMacLane m n s
    | none => s

/-- LANE_RETRY: a fabric lane starts again 1 s after a failure; a MAC's lanes do so with their MAC (R180, R216). -/
def opLaneRetry (n : Nat) (s : State) : State :=
  if laneSt s n == .failed && laneUse s n == 2 then startLane n (atLeast ((lane s n).since + 1000000000) s) else s

/-- A shadow has lost lock: it is brought up again, and is READY no longer (R217, R223). -/
def shadowLost (k : Nat) (s : State) : State :=
  let x := spareLane s k
  startLane (144 + k) { setSpareLane k { x with st := .shadow } s with aqf := { s.aqf with links := tdel s.aqf.links (144 + k) } }

/-- LANE_LOCK_LOST (R217): the owner's report follows in the next MAIN cycle, which a consequence window of LANE_LOCK_LOST
covers. -/
def opLaneLockLost (n : Nat) (s : State) : State :=
  if laneSt s n == .trained then
    let s := raise { src := 0x0C2, data := [(1, laneName s n)], unit := some (.lane (laneName s n)) } s
    if 144 ≤ n then shadowLost (n - 144) s
    else
    let s := atLeast (s.tim.now + 1) (restartLane n s)
    if laneUse s n = 2 then linkLockLost n s
    else match macOf s n with
      | some m => opNmpLinkDown m 0 s
      | none => s
  else s

/-! ## Margins and eye scans (R219, R220) -/

/-- A margin measured at `now` (R219): whether it is to be reported low, which once reported it is again only after a full
period at or above its minimum. -/
def measured (value least period now : Nat) (x : Margin) : Bool × Margin :=
  if value < least then
    (!x.low || (match x.good with | none => false | some t => decide (t + period ≤ now)),
      { value := value, low := true, good := none })
  else (false, { x with value := value, good := some (x.good.getD now) })

/-- LANE_MARGIN_MEASURE: every PERIOD_S, at its whole multiples (DESIGN CHOICE, notes/assumptions/147.md). -/
def opLaneMarginMeasure (n h v : Nat) (s : State) : State :=
  let l := lane s n
  if laneSt s n == .trained && l.scan.isNone then
    let s := atLeast (nextOf (marginNs s) l.marginAt) s
    let a := measured h (fld s .lnxMarginCfg 0 23 16) (marginNs s) s.tim.now l.marginH
    let b := measured v (fld s .lnxMarginCfg 0 15 8) (marginNs s) s.tim.now l.marginV
    raiseIf (a.1 || b.1) { src := 0x0C3, data := [(1, n), (1, h), (1, v)], unit := some (.lane n) }
      (setLane n { l with marginH := a.2, marginV := b.2, marginAt := s.tim.now } s)
  else s

/-- A step between measured points of an eye scan. -/
def scanStepOk (k : Nat) : Bool := k == 1 || k == 2 || k == 4

/-- LANE_EYE_SCAN. -/
def opLaneEyeScan (c : Cmd) (n eye hStep vStep dwell a : Nat) : State → State :=
  hostCmd c 0x0910 false (checked
    (fun s => [
      (decide (143 < n), badArg c 24 s),
      (decide (2 < eye) || (laneSt s n == .trained && (lane s n).rate == 103 && eye != 0), badArg c 25 s),
      (!scanStepOk hStep, badArg c 26 s), (!scanStepOk vStep, badArg c 27 s),
      (decide (dwell < 5) || decide (10 < dwell), badArg c 28 s),
      (laneSt s n != .trained || (lane s n).scan.isSome, denied),
      (!c.hostOk, addressError a)])
    (fun s => (accepted, setLane n { lane s n with
      scan := some { eye := eye, hStep := hStep, vStep := vStep, dwell := dwell, rate := (lane s n).rate, start := s.tim.now, addr := a, cmd := c } } s)))

/-- The grid's counts from point `i` on: phase-major, threshold-minor; a point that is not measured holds 0xFFFF. -/
def eyeCounts (hStep vStep : Nat) : Nat → Nat → List Nat → List Byte
  | 0, _, _ => []
  | left + 1, i, l =>
    let here := i / 127 % hStep == 0 && i % 127 % vStep == 0
    let v := if here then (l.head?.map (fun x => min x 0xFFFE)).getD 0xFFFF else 0xFFFF
    leBytes 2 v ++ eyeCounts hStep vStep left (i + 1) l.tail

/-- The record of an eye scan. -/
def eyeRecord (n now : Nat) (e : EyeScan) (counts : List Nat) : List Byte :=
  leBytes 1 n ++ leBytes 1 e.eye ++ leBytes 1 e.hStep ++ leBytes 1 e.vStep ++ leBytes 1 e.dwell ++
    leBytes 1 (if e.early then 1 else 0) ++ leBytes 2 e.rate ++ leBytes 4 (ts32 e.start) ++ leBytes 4 (ts32 now) ++ zeros 16 ++
    eyeCounts e.hStep e.vStep 8128 0 counts

/-- LANE_EYE_DONE: `counts` are the error counts of the grid in the record's order, as far as they were measured. -/
def opLaneEyeDone (n : Nat) (counts : List Nat) (s : State) : State :=
  let l := lane s n
  match l.scan with
  | none => s
  | some e =>
    raise { src := 0x0C4, data := [(1, n), (1, if e.early then 1 else 0)], fin := some e.cmd.tag, unit := some (.lane n) }
      (setLane n { l with scan := none } (hostWrite e.addr (eyeRecord n s.tim.now e counts) s))

/-! ## PRBS tests (R221) -/

/-- A stop: LANE_PRBS with DIRECTION 0. -/
def opLanePrbsStop (c : Cmd) (n : Nat) : State → State :=
  hostCmd c 0x0911 false (checked
    (fun s => [(decide (143 < n), badArg c 24 s), (laneSt s n != .prbs, denied)])
    (fun s =>
      let l := lane s n
      (replyDone, setLane n { l with prbs := l.prbs.map (fun p => { p with stopAt := some s.tim.now }) } s)))

/-- LANE_PRBS. -/
def opLanePrbs (c : Cmd) (n rate pattern dir ms : Nat) (s : State) : State :=
  if dir = 0 ∧ rate = 0 ∧ pattern = 0 ∧ ms = 0 then opLanePrbsStop c n s
  else
    hostCmd c 0x0911 false (checked
      (fun s => [
        (decide (143 < n), badArg c 24 s),
        (decide (3 < rate) || (dir == 0 && rate != 0), badArg c 25 s),
        (decide (6 < pattern) || (dir == 0 && pattern != 0) || (dir != 0 && (decide (2 ≤ rate) != decide (5 ≤ pattern))), badArg c 26 s),
        (decide (3 < dir), badArg c 27 s),
        (dir == 0 && ms != 0, badArg c 28 s),
        (laneSt s n != .idle, denied)])
      (fun s =>
        let s := ungateQuad n s
        let p : Prbs := { rate := rate, pattern := pattern, dir := dir, tag := c.tag, start := s.tim.now
                          stopAt := if ms = 0 then none else some (s.tim.now + ms * 1000000) }
        (accepted, setLane n { lane s n with st := .prbs, rate := stepRate rate, prbs := some p, prbsErr := 0 } s))) s

/-- LNX_PRBS_ERR: what the checker of the last or current test has counted, saturating; 0 without a checker. -/
def prbsCount (s : State) (n : Nat) : Nat :=
  match (lane s n).prbs with
  | none => (lane s n).prbsErr
  | some p => if p.dir = 1 then 0 else min (Config.prbsErrors n p.start s.tim.now) (2 ^ 32 - 1)

/-- LANE_PRBS_DONE: a checker has counted `errors` in all, no fewer than it has shown. -/
def opLanePrbsDone (n errors : Nat) (s : State) : State :=
  let l := lane s n
  match l.prbs with
  | none => s
  | some p =>
    match p.stopAt with
    | none => s
    | some t =>
      let s := atLeast t s
      let k := if p.dir = 1 then 0 else min (max (prbsCount s n) errors) (2 ^ 32 - 1)
      raise { src := 0x0C5, data := [(1, n), (4, k)], fin := some p.tag, unit := some (.lane n) }
        (setLane n { l with st := .idle, rate := 0, prbs := none, prbsErr := k } s)

/-! ## Lane sparing (R222 to R225) -/

/-- The die whose group a lane belongs to (0 north, 1 south), and a spare's index. -/
def laneDie (n : Nat) : Nat := if n < 72 then 0 else 1
def spareIx (n spare : Nat) : Nat := 4 * laneDie n + spare

/-- The location code of spare `k` (R6, R7). -/
def spareLoc (k : Nat) : Nat := locCode (1 + k / 4) 4 (36 + k / 4) (k % 4) 0xFF

/-- A lane is powered but not in service: it is spared without a shadow. -/
def laneQuiet (s : State) (n : Nat) : Bool := laneSt s n == .idle || laneSt s n == .off

/-- A spare takes a lane's place (R224, R225) with the settings that its shadow was trained to; the spare it displaces is
RETIRED. -/
def mapSpare (k tag : Nat) (s : State) : State :=
  let x := spareLane s k
  let l := lane s x.lane
  let y := lane s (144 + k)
  let l := if y.st == .trained then { l with far := y.far, tx := y.tx, rx := adaptedRx s (144 + k), adaptAt := s.tim.now } else l
  let s := dropShadow k s
  let s := match l.spare with
    | some j => setSpareLane (spareIx x.lane j) { st := .retired } s
    | none => s
  raise { src := 0x0C6, data := [(1, x.lane), (4, spareLoc k)], fin := some tag, unit := some (.lane x.lane) }
    (setSpareLane k { x with st := .inService } (setLane x.lane { endScan l with spare := some (k % 4) } s))

/-- LANE_SPARE. -/
def opLaneSpare (c : Cmd) (n spare dom fi : Nat) : State → State :=
  hostCmd c 0x0640 true (checked
    (fun s => [
      (decide (143 < n), badArg c 24 s), (decide (3 < spare), badArg c 25 s),
      (if dom = 0xFF then !laneQuiet s n else decide (7 < dom) || !domEn s dom, badArg c 26 s),
      ((spareLane s (spareIx n spare)).st != .free, noResource),
      (laneSt s n == .prbs || (macOf s n).isSome || !(pendingSpares s n).isEmpty, denied),
      (dom != 0xFF && decide (tOf s dom (fullFi s dom fi) < s.tim.now + 1000000000), replyLate)])
    (fun s =>
      let s := ungateQuad n s
      let k := spareIx n spare
      if dom = 0xFF then (accepted, mapSpare k c.tag (setSpareLane k { lane := n, tag := c.tag } s))
      else
        let t := tOf s dom (fullFi s dom fi)
        let x : SpareLane :=
          { st := if laneQuiet s n then .ready else .shadow, lane := n, dom := dom, fi := fullFi s dom fi
            cycle := ceilDiv t 81920, tag := c.tag, flight := (link s n).flight }
        (accepted, if laneQuiet s n then setSpareLane k x s else startLane (144 + k) (setSpareLane k x s))))

/-- LANE_SHADOW_READY (R223): the shadow TRAINED here and at the far end, and F′ within 4 ns over its last 16 exchanges. -/
def opLaneShadowReady (die spare : Nat) (farReady : Bool) (s : State) : State :=
  let k := 4 * die + spare
  let x := spareLane s k
  let y := link s (144 + k)
  if farReady ∧ x.st = .shadow ∧ laneSt s (144 + k) = .trained ∧ 16 ≤ y.flights.length ∧ steady (y.flights.take 16) then
    setSpareLane k { x with st := .ready, flight := y.flight } s
  else s

/-- The check two cycles before the swap (R223, R224). -/
def checkSpare (k : Nat) (s : State) : State :=
  let x := spareLane s k
  if x.st = .shadow then abandonSpare k 0 s
  else if x.st = .ready ∧ laneQuiet s x.lane = false ∧ 1280 < absDiff x.flight (link s x.lane).flight then abandonSpare k 2 s
  else s

/-- The swap's instant: its cycle boundary, or where a step of the counter skipped that, the first one after the step (R455). -/
def swapAt (s : State) (x : SpareLane) : Nat := namedAt s (fun t => ceilDiv t 81920 * 81920) (x.cycle * 81920)

/-- LANE_SPARE_CHECK: two cycles before the swap. -/
def opLaneSpareCheck (die spare : Nat) (s : State) : State :=
  let k := 4 * die + spare
  let x := spareLane s k
  if x.st = .shadow ∨ x.st = .ready then checkSpare k (atLeast (swapAt s x - 2 * 81920) s) else s

/-- The link goes on over the spare from slot `k`: its flight and TIME exchange are the shadow's, and cells sent before that slot
still arrive on the replaced lane (R224). -/
def moveFlight (k : Nat) (shadow : Link) (l : Link) : Link :=
  { l with
    flight := shadow.flight, flights := shadow.flights, timeAt := shadow.timeAt, timeCycle := shadow.timeCycle
    timeStamp := shadow.timeStamp, swapped := some (k, l.flight), skew := [] }

/-- LANE_SPARE_SWAP (R224): the lane's traffic goes to the spare at the swap cycle, and the link's flight is the spare's. -/
def opLaneSpareSwap (die spare : Nat) (s : State) : State :=
  let k := 4 * die + spare
  let x := spareLane s k
  if x.st = .shadow ∨ x.st = .ready then
    let t := swapAt s x
    let s := checkSpare k (atLeast t s)
    if (spareLane s k).st = .ready then
      let live := laneUse s x.lane == 2 && !laneQuiet s x.lane
      let s := if live then
          staleRoutes x.lane (link s (144 + k)).flight s.aqf.routes
            (setLink x.lane (moveFlight (t / 20) (link s (144 + k)) (link s x.lane)) s)
        else s
      mapSpare k x.tag s
    else s
  else s

end Sys2Proof.Machine
end

