-- ==== Sys2Proof/Machine/Mem.lean ====
section
/-!
DEFINITION. The frame store and the delay store (R297 to R319): address orders, write queues and page predictors, errors and
poison, refresh, training, windows, the memory mover and sparing. Stores are numbered 0 (frame) and 1 (delay); controllers 0
to 7 are DDR5 channels and 8 to 11 HBM stacks.
-/
namespace Sys2Proof.Machine
open Sys2Proof

/-! ## Population and capacity (R297, R299) -/

def setCtrl (k : Nat) (c : Ctrl) (s : State) : State := { s with mem := { s.mem with ctrls := tput s.mem.ctrls k c } }

/-- MEM_DDR_CFG: two DIMMs per channel; 32 Gb devices. -/
def dpc2 (s : State) : Bool := bit (rd s .memDdrCfg 0) 23
def dev32 (s : State) : Bool := bit (rd s .memDdrCfg 0) 22

/-- Capacity of a store, GiB, and its device reserve. -/
def storeGib (s : State) (store : Nat) : Nat :=
  if store = 0 then 144
  else (ddrChannels s).length * (if dpc2 s then 2 else 1) * (if dev32 s then 128 else 64)
def reserveGib (store : Nat) : Nat := if store = 0 then 10 else 16

/-- The delay store uses 1, 2, 4 or 8 populated channels. -/
def countOk (s : State) : Bool := [1, 2, 4, 8].contains (ddrChannels s).length

/-! ## Address orders (R302 to R304) -/

/-- Where a 64-byte access falls. -/
structure Loc where
  ctrl : Nat
  /-- 4 × DIMM + 2 × rank + subchannel, or 3 × pseudo-channel + SID. -/
  tile : Nat
  bg : Nat
  bank : Nat
  row : Nat
  col : Nat
deriving DecidableEq, Repr

/-- A frame-store address. -/
def locHbm (s : State) (a : Nat) : Loc :=
  let k := bits a 10 9
  let p := bits a 8 0 + a / 2 ^ 16 * 2 ^ 9
  let o := fld s .memOrder 0 (17 + 2 * k) (16 + 2 * k)
  let z := bits p 30 27
  let col := match o with
    | 0 => bits p 9 6
    | 2 => bits p 13 10
    | _ => bits p 11 8
  let bg := match o with
    | 0 => bits p 11 10
    | 3 => bits p 7 6 ^^^ bits p 15 14
    | _ => bits p 7 6
  let bank := match o with
    | 2 => bits p 9 8
    | 3 => bits p 13 12 ^^^ bits p 17 16
    | _ => bits p 13 12
  { ctrl := 8 + k, tile := 3 * bits a 15 11 + z / 3, bg := bg, bank := bank, row := bits p 26 14 + z % 3 * 8192, col := col }

/-- The channel bits of a delay-store address. -/
def channelBits (s : State) : Nat :=
  match (ddrChannels s).length with
  | 8 => 3
  | 4 => 2
  | 2 => 1
  | _ => 0

/-- A delay-store address: with one DIMM per channel the DIMM field is absent, with 16 Gb devices the row is one bit narrower,
and the fields above move down. -/
def locDdr (s : State) (a : Nat) : Loc :=
  let c := channelBits s
  let k := (ddrChannels s).getD (a / 2 ^ 9 % 2 ^ c) 0
  let q := bits a 8 0 + a / 2 ^ (9 + c) * 2 ^ 9
  let o := fld s .memOrder 0 (1 + 2 * k) (2 * k)
  let d := if dpc2 s then 1 else 0
  let r := if dev32 s then 17 else 16
  let sub := bits q 6 6
  if o = 2 then
    let dimm := if dpc2 s then bits q 11 11 else 0
    { ctrl := k, tile := 4 * dimm + 2 * bits q 10 10 + sub, bg := bits q 9 7, bank := bits q (19 + d) (18 + d)
      row := bits q (19 + d + r) (20 + d), col := bits q (17 + d) (11 + d) }
  else
    let dimm := if dpc2 s then bits q (20 + r) (20 + r) else 0
    let bg := match o with
      | 0 => bits q 16 14
      | 3 => bits q 9 7 ^^^ bits q 21 19
      | _ => bits q 9 7
    let bank := if o = 3 then bits q 18 17 ^^^ bits q 23 22 else bits q 18 17
    { ctrl := k, tile := 4 * dimm + 2 * bits q (19 + r) (19 + r) + sub, bg := bg, bank := bank
      row := bits q (18 + r) 19, col := if o = 0 then bits q 13 7 else bits q 16 10 }

/-- The place of a store address. -/
def locOf (s : State) (store a : Nat) : Loc := if store = 0 then locHbm s a else locDdr s a

/-- The controller of an address is TRAINED: traffic reaches it (R313). -/
def reaches (s : State) (store a : Nat) : Bool :=
  decide (store < 2) && decide (a < storeGib s store * 2 ^ 30) && (ctrl s (locOf s store a).ctrl).st == .trained

/-- A bank within its controller. -/
def bankKey (l : Loc) : Nat := 32 * l.tile + 4 * l.bg + l.bank

/-! ## Page predictors (R305) -/

/-- A queued write targets the bank's row. -/
def rowQueued (s : State) (store : Nat) (l : Loc) (but : Nat) : Bool :=
  (ctrl s l.ctrl).wq.any (fun w =>
    let m := locOf s store (64 * w.line)
    w.line != but && bankKey m == bankKey l && m.row == l.row)

/-- An access to a row: the predictor learns from the bank's last access, and the row is kept open or precharged. -/
def touchBank (store line : Nat) (s : State) : State :=
  let l := locOf s store (64 * line)
  let c := ctrl s l.ctrl
  let b := tgetD c.banks (bankKey l) {}
  let p := match b.last with
    | none => b.pred
    | some r => if r = l.row then min 3 (b.pred + 1) else b.pred - 1
  let keep := rowQueued s store l line || decide (2 ≤ p)
  let e : BankSt := { pred := p, last := some l.row, open_ := if keep then some l.row else none, idleAt := s.tim.now }
  setCtrl l.ctrl { c with banks := tput c.banks (bankKey l) e } s

/-- ROW_IDLE_CLOSE: the predictor is not changed. -/
def opRowIdleClose (k bank : Nat) (s : State) : State :=
  let c := ctrl s k
  let b := tgetD c.banks bank {}
  match b.open_ with
  | none => s
  | some r =>
    let store := if k < 8 then 1 else 0
    if c.wq.any (fun w => bankKey (locOf s store (64 * w.line)) == bank && (locOf s store (64 * w.line)).row == r) then s
    else setCtrl k { c with banks := tput c.banks bank { b with open_ := none } } (atLeast (b.idleAt + fld s .memSchedCfg 0 9 0) s)

/-! ## Contents and write queues (R306) -/

def cellsOf (s : State) (store : Nat) : List Host.Cell := if store = 0 then s.mem.hbm else s.mem.ddr
def setCells (store : Nat) (m : List Host.Cell) (s : State) : State :=
  if store = 0 then { s with mem := { s.mem with hbm := m } } else { s with mem := { s.mem with ddr := m } }

/-- The queue an address's writes wait in: one per DDR5 channel, one per HBM pseudo-channel. -/
def queueOf (s : State) (store line : Nat) : Nat × Nat :=
  ((locOf s store (64 * line)).ctrl, if store = 0 then bits (64 * line) 15 11 else 0)
def queued (s : State) (store line : Nat) : Option WriteQ :=
  (ctrl s (queueOf s store line).1).wq.find? (fun w => w.line == line)

/-- The 64 bytes of a line as every master reads them: the youngest accepted. -/
def lineBytesAt (s : State) (store line : Nat) : List Byte :=
  match queued s store line with
  | some w => w.data
  | none => cread (cellsOf s store) (64 * line) 64

def poisoned (s : State) (store line : Nat) : Bool := s.mem.poison.contains (store, line)
def setPoison (store line : Nat) (on : Bool) (s : State) : State :=
  let l := s.mem.poison.filter (fun p => p != (store, line))
  { s with mem := { s.mem with poison := if on then (store, line) :: l else l } }

/-- A queued write goes to memory. -/
def drainOne (store : Nat) (w : WriteQ) (s : State) : State :=
  let k := (queueOf s store w.line).1
  let s := touchBank store w.line s
  setCtrl k { ctrl s k with wq := (ctrl s k).wq.erase w } (setCells store (cwrite (cellsOf s store) (64 * w.line) w.data) s)

/-- Entries of the queue a line waits in, oldest first. -/
def sameQueue (s : State) (store line : Nat) : List WriteQ :=
  (ctrl s (queueOf s store line).1).wq.filter (fun w => queueOf s store w.line == queueOf s store line)

/-- A whole line queued, a queued line replaced in place; from 48 entries on, or at the queue's size, the oldest is written. -/
def queueLine (store line : Nat) (data : List Byte) (s : State) : State :=
  let k := (queueOf s store line).1
  let c := ctrl s k
  let s := setPoison store line false s
  if (queued s store line).isSome then
    setCtrl k { c with wq := c.wq.map (fun w => if w.line = line then { w with data := data } else w) } s
  else
    let s := setCtrl k { c with wq := c.wq ++ [{ line := line, data := data }] } s
    let l := sameQueue s store line
    if (if store = 0 then 32 else 48) ≤ l.length then
      match l with
      | w :: _ => drainOne store w s
      | [] => s
    else s

/-- Every queued write of a controller goes to memory. -/
def drainAll (k : Nat) (s : State) : State :=
  (ctrl s k).wq.foldl (fun s w => drainOne (if k < 8 then 1 else 0) w s) s

/-! ## Errors (R307 to R310) -/

def memSpace (store : Nat) : Space := if store = 0 then .hbm else .ddr

/-- A line that cannot be corrected: MEM_UNCORRECTABLE, and the address in the address log. -/
def uncorrectable (master store line : Nat) (s : State) : State :=
  let k := (locOf s store (64 * line)).ctrl
  setPoison store line true
    (alog (64 * line) (memSpace store) (64 + master) 0x181
      (raise { src := 0x181, data := [(1, k)], addr := 64 * line } s))

/-- The wear counter of a corrected position: DIMM, rank, subchannel and symbol; or pseudo-channel and SID. -/
def wearKey (l : Loc) (pos : Nat) : Nat := if l.ctrl < 8 then 10 * l.tile + pos % 10 else l.tile

/-- Location code of a DDR5 symbol position. -/
def symbolLoc (k key : Nat) : Nat := locCode (memDie k) 8 k (key / 10) (key % 10)

/-- One correction counted: the first in a second raises MEM_CORRECTED with the corrections of the last second; a DDR5
position beyond SUSPECT in the pass raises MEM_DEVICE_SUSPECT once. -/
def countCorrection (l : Loc) (pos : Nat) (s : State) : State :=
  let k := l.ctrl
  let c := ctrl s k
  let i := wearKey l pos
  let n := tgetD c.passWear i 0 + 1
  let l := c.correctedAt.filter (fun t => decide (s.tim.now < t + 1000000000)) ++ [s.tim.now]
  let s := setCtrl k { c with
    wear := tput c.wear i (satAdd 32 (tgetD c.wear i 0) 1), passWear := tput c.passWear i n, correctedAt := l } s
  let s := raiseOnce k (secOf s) { src := 0x180, data := [(1, k), (4, l.length)] } s
  if k < 8 && decide (fld s .memScrubCfg 0 15 0 < n) && !c.suspected.contains i then
    raise { src := 0x182, data := [(4, symbolLoc k i), (4, n)] }
      (setCtrl k { ctrl s k with suspected := i :: c.suspected } s)
  else s

/-- The symbol position that chip-spare decodes as an erasure at a place (R307, R317). -/
def erased (s : State) (l : Loc) : Option Nat :=
  ((ctrl s l.ctrl).repairs.find? (fun r => r.kind == 2 && r.phase == 3 && locTile r.loc == l.tile)).map (fun r => locMacro r.loc)

/-- Positions in error at a place: one beside an erasure cannot be corrected, and the erasure itself is no correction (R307). -/
def beyond (s : State) (l : Loc) (ps : List Nat) : Bool :=
  match erased s l with
  | some e => ps.any (fun p => p % 10 != e)
  | none => false
def corrections (s : State) (l : Loc) (ps : List Nat) : List Nat := if (erased s l).isSome then [] else ps

/-- One line read: from the queue, or from memory with what its code finds there. -/
def memReadLine (master store line : Nat) (f : MemFault) (s : State) : State :=
  if !reaches s store (64 * line) || (queued s store line).isSome then s
  else
    let s := touchBank store line s
    let l := locOf s store (64 * line)
    if f.uncorrectable || poisoned s store line || beyond s l f.corrected then uncorrectable master store line s
    else (corrections s l f.corrected).foldl (fun s p => countCorrection l p s) s

/-- The lines an access touches. -/
def linesOf (a len : Nat) : List Nat := (List.range ((a + len + 63) / 64 - a / 64)).map (fun i => a / 64 + i)

/-- The bytes of an access. -/
def bytesAt (s : State) (store a len : Nat) : List Byte :=
  slice ((linesOf a len).flatMap (lineBytesAt s store)) (a % 64) len

/-- A read: `f` is what its first line meets. The answer is kept for its consumer. -/
def memRead (master store a len : Nat) (f : MemFault) (s : State) : State :=
  let s := memReadLine master store (a / 64) f s
  let s := (linesOf a len).tail.foldl (fun s n => memReadLine master store n {} s) s
  let bad := (linesOf a len).any (fun n => poisoned s store n)
  { s with mem := { s.mem with answer := some (bad, bytesAt s store a len) } }

/-! ### The control-plane crossbar (R344) -/

/-- Secure SRAM among the targets a MEM_READ or MEM_WRITE names (DESIGN CHOICE, notes/assumptions/138.md). -/
def secureTarget : Nat := 2
def secureSize : Nat := 262144

/-- The bursts of an access: at most 8 beats of 32 bytes each, a beat being an aligned 32 bytes. -/
def burstsOf : Nat → Nat → Nat → List (Nat × Nat)
  | 0, _, _ => []
  | fuel + 1, a, len =>
    if len = 0 then []
    else
      let n := min len (256 - a % 32)
      (a, n) :: burstsOf fuel (a + n) (len - n)

/-- The master granted next among those that wait, in round robin after the one granted last; with none waiting the path is
parked on management core 0. -/
def grantNext (waiting : List Nat) (last : Nat) : Nat :=
  ((List.range 7).map (fun i => (last + 1 + i) % 7)).find? (fun m => waiting.contains m) |>.getD 0

/-- A master is granted the path to a target for its bursts. -/
def busGrant (target : Nat) (waiting : List Nat) (s : State) : State :=
  { s with hif := { s.hif with granted := tput s.hif.granted target (grantNext waiting (tgetD s.hif.granted target 0)) } }

/-- An access that its target turns away: an error response and BUS_ACCESS_ERR, the address recorded in the log. -/
def busRefused (master a : Nat) (s : State) : State :=
  alog a .bus (64 + master) 0x021
    (raise { src := 0x021, data := [(1, master)], addr := a } { s with hif := { s.hif with resp := some .errorResponse } })

/-- An access to secure SRAM: only masters 0 to 3 are accepted, and only within its 256 KiB. -/
def secureMay (master a len : Nat) : Bool := decide (master < 4) && decide (a + len ≤ secureSize)

def secureRead (master a len : Nat) (s : State) : State :=
  let s := busGrant secureTarget [master] s
  if secureMay master a len then
    let bytes := (burstsOf (len + 1) a len).flatMap (fun b => cread s.sec.sram b.1 b.2)
    { s with hif := { s.hif with resp := some (.memory bytes) } }
  else busRefused master a s

def secureWrite (master a : Nat) (data : List Byte) (s : State) : State :=
  let s := busGrant secureTarget [master] s
  if secureMay master a data.length then { s with sec := { s.sec with sram := cwrite s.sec.sram a data } }
  else busRefused master a s

/-- MEM_READ. -/
def opMemRead (master store a len : Nat) (f : MemFault) (s : State) : State :=
  if store = secureTarget then secureRead master a len s
  else if len = 0 ∨ !reaches s store a then s else memRead master store a len f (busGrant store [master] s)

/-- Bytes of one line written: a partial write to a line not queued is completed by read-modify-write; if its read is
uncorrectable the line stays poisoned and nothing is written (R306, R309). -/
def memWriteLine (master store line off : Nat) (data : List Byte) (readBad : Bool) (s : State) : State :=
  if !reaches s store (64 * line) then s
  else
    let whole := off == 0 && data.length == 64
    if whole || (queued s store line).isSome then queueLine store line (patch (lineBytesAt s store line) off data) s
    else if readBad || poisoned s store line then
      let k := (locOf s store (64 * line)).ctrl
      raise { src := 0x18C, data := [(1, k)], addr := 64 * line } (uncorrectable master store line (touchBank store line s))
    else queueLine store line (patch (lineBytesAt s store line) off data) (touchBank store line s)

/-- A write split into lines. -/
def memWrite (master store : Nat) : Nat → Nat → List Byte → Bool → State → State
  | 0, _, _, _, s => s
  | fuel + 1, a, data, readBad, s =>
    let n := 64 - a % 64
    if data.isEmpty then s
    else memWrite master store fuel (a + n) (data.drop n) readBad (memWriteLine master store (a / 64) (a % 64) (data.take n) readBad s)

/-- MEM_WRITE. -/
def opMemWrite (master store a : Nat) (data : List Byte) (readBad : Bool) (s : State) : State :=
  if store = secureTarget then secureWrite master a data s
  else memWrite master store (data.length + 1) a data readBad (busGrant store [master] s)

/-! ## Refresh and calibration (R311, R312, R315) -/

def rankOf (s : State) (k r : Nat) : Rank := tgetD (ctrl s k).ranks r {}
def anyDoubled (s : State) (k : Nat) : Bool := (ctrl s k).ranks.any (fun x => x.2.doubled)

/-- A rank's refresh state set: MEM_DOUBLED when the controller's first rank enters the doubled range or its last leaves. -/
def setRank (k r : Nat) (x : Rank) (s : State) : State :=
  let was := anyDoubled s k
  let c := ctrl s k
  let s := setCtrl k { c with ranks := tput c.ranks r x } s
  raiseIf (was != anyDoubled s k) { src := 0x187, data := [(1, k), (1, if anyDoubled s k then 1 else 0)] } s

/-- A rank with no debt leaves the doubled range below 83 °C (0.25 °C units). -/
def coolRank (x : Rank) : Rank := if x.doubled && x.owed == 0 && decide (x.temp < 332) then { x with doubled := false } else x

/-- Refresh closes every row of the banks it refreshes: of a DDR5 rank `r`, whose tiles are 2r and 2r + 1, and of one bank `r`
of a stack (R305, R312). -/
def closeRows (k r : Nat) (c : Ctrl) : Ctrl :=
  { c with banks := tmap c.banks (fun i b => if (if k < 8 then i / 32 / 2 else i) = r then { b with open_ := none } else b) }

/-- tREFI of a rank, ns (R311). -/
def refi (x : Rank) : Nat := if x.doubled then 1950 else 3900

/-- REFRESH_DUE, tREFI after the last: postponed while reads are queued and OWED is below 4; issued otherwise, an idle rank paying
what it owes first. A debt converted on entering the doubled range is paid whole and at once. A stack refreshes bank by bank and
never postpones (R312). -/
def opRefreshDue (k r : Nat) (reads : Bool) (s : State) : State :=
  if (ctrl s k).st != .trained then s
  else if 7 < k then setCtrl k (closeRows k r (ctrl s k)) s
  else
    let x := rankOf s k r
    let s := if x.postpone then atLeast (x.refAt + refi x) s else s
    let x := { x with refAt := s.tim.now }
    if bit (rd s .memSchedCfg 0) 31 && reads && x.postpone && decide (x.owed < 4) then setRank k r { x with owed := x.owed + 1 } s
    else
      let s := setCtrl k (closeRows k r (ctrl s k)) s
      let owed := if reads && x.postpone then x.owed else 0
      setRank k r (coolRank { x with owed := owed, postpone := x.postpone || owed == 0 }) s

/-- A rank's new temperature: on entering the doubled range each owed refresh becomes two, and postponement stops. -/
def heatRank (k r temp : Nat) (s : State) : State :=
  let x := { rankOf s k r with temp := temp }
  if 340 ≤ temp ∧ !x.doubled then
    let debt := decide (0 < x.owed)
    let y := { x with doubled := true, owed := 2 * x.owed, postpone := x.postpone && !debt }
    raiseIf debt { src := 0x186, data := [(1, k), (1, r), (1, y.owed)] } (setRank k r y s)
  else setRank k r (coolRank x) s

/-- DIMM_TEMP_READ: `temp` in 0.25 °C, for both ranks of a DIMM; a stack's reading is kept (R312). -/
def opDimmTempRead (k dimm temp : Nat) (s : State) : State :=
  let s := every (.dimm (2 * k + dimm)) 1000000 s
  if k < 8 then heatRank k (2 * dimm + 1) temp (heatRank k (2 * dimm) temp s)
  else if k < 12 then setRank k 0 { rankOf s k 0 with temp := temp } s
  else s

/-- MEM_CALIBRATION: 0 ZQ every 128 ms, 1 DQS-oscillator tracking every 16 ms; never in training. -/
def opMemCalibration (k kind : Nat) (s : State) : State :=
  let c := ctrl s k
  if c.st != .trained then s
  else if kind = 0 then
    let s := atLeast (c.zqAt + 128000000) s
    setCtrl k { c with zqAt := s.tim.now } s
  else
    let s := atLeast (c.dqsAt + 16000000) s
    setCtrl k { c with dqsAt := s.tim.now } s

/-- SCRUB_PASS_END (R316): `gated` ns of the pass fell in a gating of the HBM stacks, during which it paused (R403). -/
def opScrubPassEnd (k gated : Nat) (s : State) : State :=
  let c := ctrl s k
  if bit (rd s .memScrubCfg 0) 31 && c.st == .trained && !(decide (8 ≤ k) && hbmGated s) then
    raise { src := 0x189, data := [(1, if k < 8 then 1 else 0), (4, (s.tim.now - c.scrubAt - gated) / 1000000000)] }
      (setCtrl k { c with scrubAt := s.tim.now, passWear := [], suspected := [] } s)
  else s

/-! ## Training (R313, R314) -/

/-- Populated controllers of a pair, or a stack set in HBM_EN. -/
def unitCtrls (s : State) (u : Nat) : List Nat :=
  if u < 4 then (ddrChannels s).filter (fun k => k / 2 == u)
  else if 8 ≤ u ∧ u < 12 ∧ hbmEn s (u - 8) then [u] else []
/-- The unit a controller trains with. -/
def unitOf (k : Nat) : Nat := if k < 8 then k / 2 else k

/-- The rate a controller reports, MT/s. -/
def rateOf (s : State) (k : Nat) : Nat := if k < 8 then ddrRate (ctrl s k).rate else 9600
/-- The code of a rate in MT/s. -/
def rateCode (mts : Nat) : Nat := if mts = 4800 then 0 else if mts = 5600 then 1 else 2
/-- The fastest rate code of the population. -/
def topRate (s : State) : Nat := if dpc2 s then 1 else 2

/-- The RESERVE of a store whose figure has become non-zero and cannot hold it: the mover stays disabled there (R298). -/
def checkMover (store before : Nat) (s : State) : State :=
  if before = 0 ∧ 0 < storeLimit s store then
    let l := s.mem.moverOff.filter (fun x => x != store)
    { s with mem := { s.mem with moverOff := if storeLimit s store < storeUsed s store + moverReserve s then store :: l else l } }
  else s

/-- One event per TAG of the commands that a controller's end finishes, or an ordinary record. -/
def finishTraining (k : Nat) (e : Ev) (s : State) : State :=
  let u := unitOf k
  if (unitCtrls s u).any (fun j => (ctrl s j).st == .training) then raise e s
  else
    raiseFor (tgetD s.mem.trainTags u []) e { s with mem := { s.mem with trainTags := tdel s.mem.trainTags u } }

def trainFail (cause : Nat) (s : State) (k : Nat) : State :=
  let c := ctrl s k
  finishTraining k { src := 0x184, data := [(1, k), (1, c.step), (1, cause)] } (setCtrl k { c with st := .failed } s)

/-- A unit starts training: `code` gives a rate to every controller, or none to train at the rate they have. A count of
populated channels outside R297 fails at once. -/
def startUnit (u tag : Nat) (code : Option Nat) (s : State) : State :=
  let start (s : State) (k : Nat) : State :=
    let s := drainAll k s
    let c := ctrl s k
    let r := match code with
      | some r => r
      | none => if c.st == .untrained && decide (k < 8) then fld s .memDdrCfg 0 21 20 else c.rate
    setCtrl k { c with st := .training, step := 1, rate := r, banks := [] } s
  let ks := (unitCtrls s u).filter (fun k => code.isSome || (ctrl s k).st != .trained)
  let s := ks.foldl start { s with mem := { s.mem with trainTags := tput s.mem.trainTags u (tgetD s.mem.trainTags u [] ++ [tag]) } }
  if u < 4 && !countOk s then ks.foldl (trainFail 3) s else s

/-- A MEM_FREQ for the pair waits. -/
def freqWaits (s : State) (u : Nat) : Bool := s.mem.freqWait.any (fun w => w.1 == u)

/-- MEM_TRAIN. -/
def opMemTrain (c : Cmd) (u : Nat) : State → State :=
  hostCmd c 0x0601 true (checked
    (fun s => [
      (decide (11 < u) || (decide (3 < u) && decide (u < 8)) || (unitCtrls s u).isEmpty ||
        (decide (u < 4) && decide (topRate s < fld s .memDdrCfg 0 21 20)), badArg c 24 s),
      ((unitCtrls s u).any (fun k => (ctrl s k).st == .training || (ctrl s k).st == .trained) || freqWaits s u, denied)])
    (fun s => (accepted, startUnit u c.tag none s)))

/-- MEM_FREQ: `rate` in MT/s; it waits for the running step of a pair in training. -/
def opMemFreq (c : Cmd) (u rate : Nat) : State → State :=
  hostCmd c 0x0602 true (checked
    (fun s => [
      (decide (3 < u) || (unitCtrls s u).isEmpty, badArg c 24 s),
      (!(rate == 4800 || rate == 5600 || rate == 6400) || decide (topRate s < rateCode rate), badArg c 26 s),
      (storeUsed s 1 != 0 || storeCap s 1 != 0 || s.mem.wins.any (fun w => w.2.opened && w.2.store == 1) ||
        !s.mem.moves.isEmpty || freqWaits s u, denied)])
    (fun s =>
      if (unitCtrls s u).any (fun k => (ctrl s k).st == .training) then
        (accepted, { s with mem := { s.mem with freqWait := s.mem.freqWait ++ [(u, rateCode rate, c.tag)] } })
      else (accepted, startUnit u c.tag (some (rateCode rate)) s)))

/-- MEM_FREQ_RESTART: every result gathered belongs to the old rate and is discarded. -/
def opMemFreqRestart (u : Nat) (s : State) : State :=
  match s.mem.freqWait.find? (fun w => w.1 == u) with
  | none => s
  | some (_, code, tag) =>
    let s := { s with mem := { s.mem with freqWait := s.mem.freqWait.filter (fun w => w.1 != u) } }
    startUnit u tag (some code) (raise { src := 0x185, data := [(1, u), (2, ddrRate code)] } s)

/-- A controller's last step is complete. -/
def trained (k : Nat) (s : State) : State :=
  let store := if k < 8 then 1 else 0
  let before := storeLimit s store
  let s := checkMover store before (setCtrl k { ctrl s k with st := .trained, scrubAt := s.tim.now } s)
  finishTraining k { src := 0x183, data := [(1, k), (2, rateOf s k)] } s

/-- TRAIN_STEP_DONE: `fail` is none, or the cause of R319 for which the step failed; a waiting MEM_FREQ takes the step's place. -/
def opTrainStepDone (k : Nat) (fail : Option Nat) (s : State) : State :=
  let c := ctrl s k
  if c.st != .training then s
  else if freqWaits s (unitOf k) then opMemFreqRestart (unitOf k) s
  else
    match fail with
    | some cause => trainFail cause s k
    | none => if c.step < (if k < 8 then 6 else 4) then setCtrl k { c with step := c.step + 1 } s else trained k s

/-! ## Windows (R299, R300) -/

def win (s : State) (i : Nat) : MemWin := tgetD s.mem.wins i {}
def setWin (i : Nat) (w : MemWin) (s : State) : State := { s with mem := { s.mem with wins := tput s.mem.wins i w } }

/-- The link is up without CXL: a PCIe endpoint (R321). -/
def pcieMode (s : State) : Bool := s.hif.linkUp && !s.hif.cxlIo

/-- The size that BAR2 reads as: 4 TiB, and 0 without CXL (R321, R324). -/
def bar2Size (s : State) : Nat := if pcieMode s then 0 else 2 ^ 42

/-- A word of HDM decoder `i` in the CXL HDM decoder capability (PRESUMED, notes/assumptions/23.md). -/
def hdmWord (s : State) (i off : Nat) : Nat := (tgetD s.hif.comp (0xF11200 + 0x20 * i + off) 0).toNat

/-- The base and the size of the range of HDM decoder `i`. -/
def hdmRange (s : State) (i : Nat) : Nat × Nat :=
  (hdmWord s i 0x10 + 2 ^ 32 * hdmWord s i 0x14, hdmWord s i 0x18 + 2 ^ 32 * hdmWord s i 0x1C)

/-- Two ranges, base and size, share no address. -/
def rangesApart (x y : Nat × Nat) : Bool := decide (x.1 + x.2 ≤ y.1) || decide (y.1 + y.2 ≤ x.1)

/-- HDM decoder `i` is committed: bit 9 of its control register, for a range that BAR2 can hold and, of decoder 1, that does
not overlap decoder 0's (R324). -/
def committed (s : State) (i : Nat) : Bool :=
  bit (hdmWord s i 0x20) 9 && decide ((hdmRange s i).2 ≤ bar2Size s) &&
    (i == 0 || !bit (hdmWord s 0 0x20) 9 || rangesApart (hdmRange s 0) (hdmRange s i))

/-- A window that shares bytes with another of its store. -/
def overlaps (s : State) (i store base size : Nat) : Bool :=
  s.mem.wins.any (fun w => w.1 != i && w.2.opened && w.2.store == store && decide (base < w.2.base + w.2.size) &&
    decide (w.2.base < base + size))

/-- MEM_WIN_SET. -/
def opMemWinSet (c : Cmd) (i store base size reserve : Nat) : State → State :=
  hostCmd c 0x0603 true (checked
    (fun s => [
      (decide (1 < i), badArg c 24 s), (decide (1 < store), badArg c 25 s),
      (size != 0 && (decide (base * 1024 < regionMib s store) || overlaps s i store base size), badArg c 26 s),
      (size != 0 && decide (storeGib s store < base + size + reserveGib store), badArg c 28 s),
      (pcieMode s || ((win s i).opened && committed s i), denied),
      (size != 0 && decide (storeLimit s store < storeBw (setWin i {} s) store + reserve), refusedAt (argAt c 32 s))])
    (fun s =>
      (replyDone, ungateHbm s (setWin i (if size = 0 then {}
        else { opened := true, store := store, base := base, size := size, reserve := reserve }) s))))

/-- Bytes of free value: what a host read outside its window returns is stated nowhere. -/
def freeBytes (k n : Nat) : List Byte := (List.range n).map (fun i => BitVec.ofNat 8 (Config.freeNat (k + i)))

/-- A window's traffic beyond RESERVE in a 10 µs interval waits for the next one (R300); throttled µs are reported once per
second. -/
def throttle (i len : Nat) (s : State) : State :=
  let w := win s i
  let now10 := s.tim.now / 10000
  let moved := if w.slice_ = now10 then w.moved else 0
  if moved = 0 ∨ moved + len ≤ 10 * w.reserve then setWin i { w with slice_ := now10, moved := moved + len } s
  else
    let t := (now10 + 1) * 10000
    let l := w.throttledAt.filter (fun e => decide (t < e.1 + 1000000000)) ++ [(t, ceilDiv (t - s.tim.now) 1000)]
    let s := atLeast t s
    let s := raiseOnce i (secOf s) { src := 0x18B, data := [(1, i), (4, sumBy l Prod.snd)] } s
    setWin i { w with slice_ := now10 + 1, moved := len, throttledAt := l } s

/-- CXL_MEM_ACCESS: offset `off` of decoder `i`. A read returns data, or poison. -/
def opCxlMemAccess (i off len : Nat) (write : Bool) (data : List Byte) (s : State) : State :=
  let w := win s i
  let a := w.base * 2 ^ 30 + off
  let n := if write then data.length else len
  if 1 < i || !s.hif.cxlMem || !committed s i then s
  else if !w.opened || decide (w.size * 2 ^ 30 < off + n) then
    if write then s
    else { s with hif := { s.hif with resp := some (.memory (freeBytes s.free n)) }, free := s.free + n }
  else if !reaches s w.store a || w.reserve == 0 then s
  else
    let s := throttle i n s
    if write then opMemWrite 4 w.store a data false s
    else
      let s := memRead 4 w.store a n {} (busGrant w.store [4] s)
      { s with hif := { s.hif with resp := some (match s.mem.answer with
        | some (true, _) => .poisoned
        | some (false, b) => .memory b
        | none => .poisoned) } }

/-! ## The memory mover (R298, R301) -/

/-- A move as its descriptor gives it. -/
def parseMove (l : List Byte) (tag : Nat) (hostOk : Bool) : Move :=
  let k := fieldAt l 20 1
  { src := fieldAt l 0 8, dst := fieldAt l 8 8, len := fieldAt l 16 4
    srcWin := if bit k 0 then some (bits k 1 1) else none, dstWin := if bit k 2 then some (bits k 3 3) else none
    tag := tag, hostOk := hostOk }

/-- A range within a window. -/
def inWin (s : State) (w : Option Nat) (off len : Nat) : Bool :=
  match w with
  | none => true
  | some i => decide (off + len ≤ (win s i).size * 2 ^ 30)

/-- The mover may use a window's store. -/
def moverOk (s : State) (w : Option Nat) : Bool :=
  match w with
  | none => true
  | some i => storeLimit s (win s i).store != 0 && !s.mem.moverOff.contains (win s i).store

/-- MEM_MOVE: one move runs and 16 wait. -/
def opMemMove (c : Cmd) (a : Nat) (img : List Byte) (s : State) : State :=
  let mv (s : State) := parseMove (hostBytes s a 32) c.tag true
  hostCmd c 0x0604 true (checked
    (fun s =>
      let m := mv s
      [(!c.hostOk, addressError a),
        (decide (m.len < 64) || decide (2 ^ 30 < m.len) || m.len % 64 != 0, badField (a + 16)),
        (m.srcWin.isNone && m.dstWin.isNone, badField (a + 20)),
        (!inWin s m.srcWin m.src m.len, badField a), (!inWin s m.dstWin m.dst m.len, badField (a + 8)),
        (decide (17 ≤ s.mem.moves.length), noResource),
        (moverReserve s == 0 || !moverOk s m.srcWin || !moverOk s m.dstWin, denied)])
    (fun s => (accepted, { s with mem := { s.mem with
      moves := s.mem.moves ++ [mv s], moverAt := if s.mem.moves.isEmpty then s.tim.now else s.mem.moverAt } }))) (place a img s)

/-- 64 bytes of a move's source from byte `o`: none where a line is poisoned. -/
def moveFrom (m : Move) (o : Nat) (s : State) : State × Option (List Byte) :=
  match m.srcWin with
  | none => (s, some (hostBytes s (m.src + o) 64))
  | some i =>
    let w := win s i
    let s := memRead 5 w.store (w.base * 2 ^ 30 + m.src + o) 64 {} (busGrant w.store [5] s)
    (s, match s.mem.answer with
      | some (false, b) => some b
      | _ => none)

/-- 64 bytes put where the move goes. -/
def moveTo (m : Move) (o : Nat) (b : List Byte) (s : State) : State :=
  match m.dstWin with
  | none => hostWrite (m.dst + o) b s
  | some i => opMemWrite 5 (win s i).store ((win s i).base * 2 ^ 30 + m.dst + o) b false s

/-- The move, line by line: poison stops it at its byte offset. -/
def moveLines (m : Move) : Nat → Nat → State → State × Option Nat
  | 0, _, s => (s, none)
  | k + 1, o, s =>
    let p := moveFrom m o s
    match p.2 with
    | none => (p.1, some o)
    | some b => moveLines m k (o + 64) (moveTo m o b p.1)

/-- The mover works: RESERVE is not 0, and the stores of a move's windows have a figure that holds it (R298). -/
def moverRuns (s : State) (m : Move) : Bool := moverReserve s != 0 && moverOk s m.srcWin && moverOk s m.dstWin

/-- The earliest end of the move that runs: its bytes at RESERVE, in bytes per µs (R301). -/
def moveEnd (s : State) (m : Move) : Nat := s.mem.moverAt + ceilDiv (m.len * 1000) (moverReserve s)

/-- MEM_MOVE_DONE: 0 done, 1 poisoned data at an offset, 2 host address error. The mover is never faster than RESERVE, and the
next move begins when one ends. -/
def opMemMoveDone (hostOk : Bool) (s : State) : State :=
  match s.mem.moves with
  | [] => s
  | m :: rest =>
    if !moverRuns s m then s
    else
    let s := atLeast (moveEnd s m) s
    let s := { s with mem := { s.mem with moves := rest, moverAt := s.tim.now } }
    let done (st o : Nat) (s : State) := raise { src := 0x18A, data := [(1, st), (4, o)], fin := some m.tag } s
    if !hostOk && (m.srcWin.isNone || m.dstWin.isNone) then done 2 0 s
    else
      let p := moveLines m (m.len / 64) 0 s
      match p.2 with
      | some o => done 1 o p.1
      | none => done 0 0 p.1

/-! ## Sparing (R317) -/

/-- Holding rows of a controller in use. -/
def holdingRows (s : State) (k : Nat) : Nat := ((ctrl s k).repairs.filter (fun r => r.kind != 2 && r.phase != 3)).length
/-- A MEM_SPARE is pending on the controller. -/
def sparePending (s : State) (k : Nat) : Bool := (ctrl s k).repairs.any (fun r => decide (r.phase < 3))

/-- The offset, among the parameters, of the first that is out of range for its kind. -/
def spareBad (s : State) (kind loc row col : Nat) : Option Nat :=
  let k := locCluster loc
  let t := locTile loc
  let m := locMacro loc
  let hbm := decide (3 ≤ kind)
  let banks := if hbm then 16 else 32
  let rows := if hbm then 24576 else if dev32 s then 131072 else 65536
  if 4 < kind then some 24
  else if locSub loc ≠ 8 then some 28
  else if hbm && !(decide (8 ≤ k) && decide (k < 12) && hbmEn s (k - 8) && decide (t < 96)) then some 28
  else if !hbm && !(decide (k < 8) && ddrEn s k && decide (t < (if dpc2 s then 8 else 4))) then some 28
  else if locDie loc ≠ memDie k then some 28
  else if (if kind = 2 then decide (9 < m) else decide (m < 0x20) || decide (0x20 + banks ≤ m)) then some 28
  else if (if kind = 2 then row != 0 else decide (rows ≤ row)) then some 32
  else if (if kind = 4 then decide (15 < col) else col != 0) then some 36
  else none

/-- MEM_SPARE. -/
def opMemSpare (c : Cmd) (kind loc row col dom fi : Nat) : State → State :=
  let k := locCluster loc
  hostCmd c 0x0610 true (checked
    (fun s => [
      ((spareBad s kind loc row col).isSome, badArg c ((spareBad s kind loc row col).getD 0) s),
      (decide (7 < dom) || !domEn s dom, badArg c 37 s),
      (kind != 2 && decide (16 ≤ holdingRows s k), noResource),
      (kind == 2 && (ctrl s k).repairs.any (fun r => r.kind == 2 && locTile r.loc == locTile loc), noResource),
      ((kind == 1 && storeUsed s 1 != 0) || (kind == 4 && storeUsed s 0 != 0) || sparePending s k, denied),
      (decide (tOf s dom (fullFi s dom fi) < s.tim.now + framesNs s dom 2), replyLate)])
    (fun s =>
      let r : Repair := { kind := kind, loc := loc, row := row, col := col, dom := dom, fi := fullFi s dom fi, tag := c.tag }
      (accepted, setCtrl k { ctrl s k with repairs := (ctrl s k).repairs ++ [r] } s)))

/-- The pending repair of a controller in a phase. -/
def repairIn (s : State) (k : Nat) (ok : Repair → Bool) : Option Repair := (ctrl s k).repairs.find? (fun r => decide (r.phase < 3) && ok r)
def setRepair (k : Nat) (r : Repair) (phase : Nat) (s : State) : State :=
  setCtrl k { ctrl s k with repairs := (ctrl s k).repairs.map (fun x => if x = r then { r with phase := phase } else x) } s

/-- MEM_SPARED, the command's end. -/
def spared (r : Repair) (holding : Nat) (s : State) : State :=
  raise { src := 0x188, data := [(1, r.kind), (4, r.loc), (1, holding)], fin := some r.tag } s

/-- MEM_SPARE_COPY_DONE. -/
def opMemSpareCopyDone (k : Nat) (s : State) : State :=
  match repairIn s k (fun r => r.kind != 2 && r.phase == 0) with
  | some r => if (ctrl s k).st = .trained then setRepair k r 1 s else s
  | none => s

/-- MEM_SPARE_BOUNDARY: on a controller that is not TRAINED, or with no store address that reaches the row, the repair is
abandoned (R319). -/
def opMemSpareBoundary (k : Nat) (s : State) : State :=
  match repairIn s k (fun r => decide (r.phase < 2)) with
  | none => s
  | some r =>
    let s := atLeast (namedFrame s r.dom r.fi) s
    let lost (cause : Nat) :=
      raise { src := 0x18D, data := [(1, r.kind), (4, r.loc), (1, cause)], fin := some r.tag }
        (setCtrl k { ctrl s k with repairs := (ctrl s k).repairs.erase r } s)
    if (ctrl s k).st ≠ .trained then lost 0
    else if k < 8 ∧ !countOk s then lost 1
    else if r.kind = 2 then spared r 0 (setRepair k r 3 s)
    else if r.phase = 1 then setRepair k r 2 s else s

/-- MEM_SPARE_REPAIR_DONE: the holding row is copied back, or serves the row until reset. -/
def opMemSpareRepairDone (k : Nat) (good : Bool) (s : State) : State :=
  match repairIn s k (fun r => r.phase == 2) with
  | none => s
  | some r => spared r (if good then 0 else 1) (setRepair k r (if good then 3 else 4) s)

/-! ## Wear telemetry (R310, R318) -/

/-- The 512 bytes of MEM_WEAR_READ. -/
def wearRecord (s : State) (k : Nat) : List Byte :=
  let n := if k < 8 then (if dpc2 s then 80 else 40) else 96
  padTo 512 ((List.range n).flatMap (fun i => leBytes 4 (tgetD (ctrl s k).wear i 0)))

/-- MEM_WEAR_READ. -/
def opMemWearRead (c : Cmd) (k a : Nat) : State → State :=
  hostCmd c 0x0611 false (checked (fun s => [(decide (11 < k), badArg c 24 s)]) (readBack c a (fun s => wearRecord s k)))

/-- MOVER_RESERVE_WRITE (R298): RESERVE as admitted against each store whose figure is not 0; a value that fits both enables the
mover again. -/
def opMoverReserveWrite (master : Nat) (v : Word) (s : State) : State :=
  let n := bits v.toNat 15 0
  let off := regOff .memMoverCfg 0 0
  let full (store : Nat) := storeLimit s store != 0 && decide (storeLimit s store < storeUsed s store + n)
  if !masterOk s master then s
  else if (s.hif.lock && n != moverReserve s) || full 0 || full 1 then violation master off s
  else
    let s := wr s .memMoverCfg 0 0 n
    { s with mem := { s.mem with moverOff := s.mem.moverOff.filter (fun x => storeLimit s x == 0) } }

end Sys2Proof.Machine
end

