-- ==== Sys2Proof/Machine/Flow.lean ====
section
/-!
DEFINITION. Flows and consists (R19 to R32, R44): the flow entry and its checks, the flow lifecycle with the endpoint chapters'
conditions, and consists.
-/
namespace Sys2Proof.Machine
open Sys2Proof

/-! ## FLOW_DEFINE (R21, R22, R157 to R159, R182, R193, R286) -/

/-- ENDPOINT_PARAMS without its reserved bits, which are ignored and read 0 (R3, R158, R182, R286); `ancIn` marks an ANC
input flow, whose ANC_OPT has one bit. -/
def keptParams (endpoint : Nat) (ancIn : Bool) (l : List Byte) : List Byte :=
  let b (o n : Nat) := fieldAt l o n
  padTo 16 (match endpoint with
  | 0 => leBytes 1 (b 0 1) ++ leBytes 1 (if ancIn then b 1 1 % 2 else b 1 1)
  | 1 => slice l 0 3 ++ leBytes 1 (b 3 1 % 8) ++ slice l 4 3 ++ zeros 1 ++ slice l 8 4 ++ leBytes 2 (normFlow (b 12 2))
  | 4 => leBytes 1 (b 0 1)
  | _ => [])

/-- A flow entry from its 64 bytes at host address `a`: reserved bits are ignored (R3), RATE_MBPS counts for ANC and opaque
flows, AUDIO for audio. -/
def parseFlow (a : Nat) (l : List Byte) : Flow :=
  let e := fieldAt l 2 1
  let fd := fieldAt l 16 4
  { essence := e, endpoint := fieldAt l 4 1, port := fieldAt l 5 1, locked := bit (fieldAt l 6 1) 7
    domain := bits (fieldAt l 6 1) 2 0, colour := fieldAt l 7 1 % 128, format := fieldAt l 8 2, feeder := flowRef (refNs fd) (refDev fd) (refIx fd)
    latency := fieldAt l 20 4, rate := if e = 2 ∨ e = 3 then fieldAt l 24 4 else 0
    base := if e = 1 then bits (fieldAt l 28 4) 14 0 else 0, count := if e = 1 then bits (fieldAt l 28 4) 22 16 else 0
    params := keptParams (fieldAt l 4 1) (e == 2 && nsOf (fieldAt l 0 2) == 0) (slice l 32 16), sigEn := bit (fieldAt l 48 1) 0, addr := a }

/-- Endpoints a namespace and an essence may have (R21, R37, R286). -/
def endpointOk (ns : Nat) (f : Flow) : Bool :=
  if ns = 2 then f.endpoint == 3 && f.essence != 3
  else (f.endpoint == 0 || f.endpoint == 1 || f.endpoint == 2 || f.endpoint == 4) &&
    (f.essence != 3 || f.endpoint == 1 || f.endpoint == 2) && (f.endpoint != 4 || f.essence == 1)

/-- PORT by endpoint. -/
def portOk (f : Flow) : Bool :=
  match f.endpoint with
  | 0 => decide (f.port < 64)
  | 1 => decide (f.port < 16)
  | 2 => f.port == 0xFF
  | 3 => decide (f.port < 32)
  | _ => decide (f.port < 40)

/-- Defined flows of the side of the matrix on which an audio flow's channels lie, the flow itself left out (R40, R276). -/
def sameSide (s : State) (n : Nat) : List (Nat × Flow) :=
  s.flows.filter (fun x => x.1 != n && x.2.essence == 1 && (nsOf x.1 == 1) == (nsOf n == 1))

/-- Two channel ranges overlap. -/
def rangesMeet (a n b m : Nat) : Bool := decide (a < b + m) && decide (b < a + n)

/-- Embedded groups a stream of an interface carries: by IFRATE class, and the sample rate (R159). -/
def groupCapacity (cls rate : Nat) : Nat :=
  if cls = 1 then (if rate = 96000 then 2 else 4) else (if rate = 96000 then 4 else 8)

/-- The groups of an audio flow end within the capacity of an interface. -/
def groupsFit (cls : Nat) (f : Flow) : Bool :=
  decide (sdiGroup f + ceilDiv f.count 4 ≤ groupCapacity cls (audioRate f.format))

/-- Flows of an SDI signal in the direction of flow `n`, the flow itself left out. -/
def signalFlows (s : State) (p n : Nat) : List (Nat × Flow) := s.flows.filter (fun x => x.1 != n && onSdi (nsOf n) p x.1 x.2)

/-- The interface class that a signal's video flow gives in the direction of flow `n`; 3G while none is defined. -/
def signalClass (s : State) (p n : Nat) : Nat :=
  (((signalFlows s p n).find? (fun x => x.2.essence == 0)).map (fun x => ifClass x.2.format)).getD 3

/-- A video flow's interface carries the groups of every audio flow of its signal. -/
def audioFits (s : State) (p n : Nat) (f : Flow) : Bool :=
  (signalFlows s p n).all (fun x => x.2.essence != 1 || groupsFit (ifClass f.format) x.2)

/-- FORMAT against essence, domain and endpoint. -/
def formatBad (s : State) (n : Nat) (f : Flow) : Bool :=
  if f.essence = 0 then
    let cls := ifClass f.format
    !videoFormatOk f.format || fmtRate f.format != domRate s f.domain ||
      (f.endpoint == 0 && (cls == 0 || !audioFits s f.port n f)) ||
      (f.endpoint == 0 && nsOf n == 1 && (bit (rd s .timMediaCfg 0) (f.port / 8) != fractional (fmtRate f.format) ||
        decide (lineFloor f.format ≤ (sdiTx s f.port).txOffset))) ||
      (f.endpoint == 1 && carriage f == 1 && ((cls != 1 && cls != 3) || !audioFits s (64 + ixOf n) n f))
  else if f.essence = 1 then
    !audioFormatOk f.format ||
      (f.endpoint == 4 && (audioRate f.format != audRate (audPort s f.port) ||
        (f.format == 0x10 && wordSelect f.port (audPort s f.port))))
  else f.format != 0

/-- The channels a packet time of ST 2110-30 and -31 allows (R193). -/
def channelLimit (f : Flow) : Nat :=
  let k := if bit (fieldAt f.params 3 1) 0 then 64 else 8
  if audioRate f.format = 96000 then k / 2 else k

/-- AUDIO of an audio flow (R21, R40, R193, R286). -/
def audioBad (s : State) (n : Nat) (f : Flow) : Bool :=
  f.essence == 1 && (f.count == 0 || decide (64 < f.count) || decide (matrixChannels s < f.base + f.count) ||
    (sameSide s n).any (fun x => rangesMeet f.base f.count x.2.base x.2.count) ||
    (f.endpoint == 1 && carriage f == 0 && decide (channelLimit f < f.count)) ||
    (f.endpoint == 4 && decide (audChannels f.port (audPort s f.port) < fieldAt f.params 0 1 + f.count)))

/-- The offset in ENDPOINT_PARAMS of the first field out of range for an SVP flow (R157 to R159). -/
def svpParamBad (s : State) (n : Nat) (f : Flow) : Option Nat :=
  let g := fieldAt f.params 0 1
  let meet (x : Nat × Flow) := x.2.essence == 1 && rangesMeet g (ceilDiv f.count 4) (sdiGroup x.2) (ceilDiv x.2.count 4)
  if f.essence = 1 then
    if 7 < g || !groupsFit (signalClass s f.port n) f || (signalFlows s f.port n).any meet then some 0
    else if fieldAt f.params 1 1 ≠ 0 then some 1 else none
  else if g ≠ 0 then some 0
  else if fieldAt f.params 1 1 != 0 && !(f.essence == 2 && nsOf n == 0) then some 1 else none

/-- ASSOC of an audio or ANC flow of an ST 2022-6 stream: a video flow of such a stream in the same direction. -/
def assocOk (s : State) (n : Nat) (f : Flow) : Bool :=
  let v := flowD s (assoc f)
  flowNumOk (fieldAt f.params 12 2) && nsOf (assoc f) == nsOf n && (flow? s (assoc f)).isSome && v.essence == 0 && v.endpoint == 1 &&
    carriage v == 1

/-- PAYLOAD of an ST 2110-20 output flow (R182). -/
def payloadOk (f : Flow) : Bool :=
  let x := fieldAt f.params 4 2
  decide (180 ≤ x) && decide (x ≤ 8640) && x % (pixelGroup f.format).1 == 0 && (!bit (fieldAt f.params 3 1) 1 || x % 180 == 0)

/-- The offset in ENDPOINT_PARAMS of the first field out of range for an NMP flow (R182, R159). -/
def nmpParamBad (s : State) (n : Nat) (f : Flow) : Option Nat :=
  let part := carriage f == 1 && (f.essence == 1 || f.essence == 2)
  let limit := if f.essence = 0 then lineFloor f.format else 125000
  if 1 < carriage f || (carriage f == 1 && f.essence == 3) then some 0
  else if legB f ≠ 0xFF && (15 < legB f || legB f == f.port || !macEn s (legB f)) then some 1
  else if fieldAt f.params 2 1 < 96 || 127 < fieldAt f.params 2 1 then some 2
  else if (if nsOf n = 1 ∧ f.essence = 0 ∧ carriage f = 0 then !payloadOk f else fieldAt f.params 4 2 != 0) then some 4
  else if part && !assocOk s n f then some 12
  else if !part && fieldAt f.params 12 2 != 0 then some 12
  else if (if part && f.essence == 1 then
      decide (7 < sdiGroup f) || !groupsFit (ifClass (flowD s (assoc f)).format) f else fieldAt f.params 6 1 != 0) then some 6
  else if (if nsOf n = 1 then decide (limit ≤ txOffsetNs f) else txOffsetNs f != 0) then some 8
  else none

/-- The offset in ENDPOINT_PARAMS of FIRST where it is out of range or meets another flow of the port and direction (R286). -/
def audParamBad (s : State) (n : Nat) (f : Flow) : Option Nat :=
  let first := fieldAt f.params 0 1
  if (if f.port < 32 then 1 else 63) < first ||
      s.flows.any (fun x => x.1 != n && nsOf x.1 == nsOf n && x.2.endpoint == 4 && x.2.port == f.port &&
        rangesMeet first f.count (fieldAt x.2.params 0 1) x.2.count) then some 0
  else none

def paramBad (s : State) (n : Nat) (f : Flow) : Option Nat :=
  match f.endpoint with
  | 0 => svpParamBad s n f
  | 1 => nmpParamBad s n f
  | 4 => audParamBad s n f
  | _ => none

/-- DOMAIN: enabled (R49), LOCKED where it must be (R23, R286), and one for all flows of an SVP port (R157). -/
def domainBad (s : State) (n : Nat) (f : Flow) : Bool :=
  !domEn s f.domain || (!f.locked && (nsOf n != 0 || f.endpoint == 4)) ||
    (f.endpoint == 0 && s.flows.any (fun x => x.1 != n && x.2.endpoint == 0 && x.2.port == f.port && x.2.domain != f.domain))

/-- A receiver or transmitter has at most one video and one ANC flow (R157). -/
def essenceTaken (s : State) (n : Nat) (f : Flow) : Bool :=
  f.endpoint == 0 && f.essence != 1 && (signalFlows s f.port n).any (fun x => x.2.essence == f.essence)

/-- FEEDER of an input flow with endpoint AQF names an output flow of another device (R25); of other flows it is 0. -/
def feederBad (s : State) (n : Nat) (f : Flow) : Bool :=
  if nsOf n = 0 ∧ f.endpoint = 2 then refNs f.feeder != 1 || !refOk f.feeder || refDev f.feeder == devId s else f.feeder != 0

/-- The checks of a flow entry at `a`. -/
def defineChecks (s : State) (a : Nat) : List (Bool × Reply) :=
  let l := hostBytes s a 64
  let n := normFlow (fieldAt l 0 2)
  let f := parseFlow a l
  [(!flowNumOk (fieldAt l 0 2), badField a), (active (flowD s n) || (memberOf s n).isSome, denied),
    (decide (3 < f.essence) || essenceTaken s n f, badField (a + 2)), (!endpointOk (nsOf n) f, badField (a + 4)),
    (!portOk f || (f.endpoint == 1 && !macEn s f.port), badField (a + 5)), (domainBad s n f, badField (a + 6)),
    (if f.essence = 0 then !colourOk f.format f.colour else f.colour != 0, badField (a + 7)),
    (formatBad s n f, badField (a + 8)), (feederBad s n f, badField (a + 16)),
    (!(nsOf n == 0 && f.endpoint == 2) && f.latency != 0, badField (a + 20)),
    ((f.essence == 2 || f.essence == 3) && (f.rate == 0 || decide (25000 < f.rate)), badField (a + 24)),
    (audioBad s n f, badField (a + 28)), ((paramBad s n f).isSome, badField (a + 32 + (paramBad s n f).getD 0))]

/-- What a function descriptor was checked against is the same in two entries (R230). -/
def sameForProc (f g : Flow) : Bool :=
  f.essence == g.essence && f.format == g.format && f.colour == g.colour && f.count == g.count && f.rate == g.rate &&
    f.port == g.port && f.domain == g.domain

/-- The journal's records of what hangs on a flow: an audio output's channel status and a function descriptor, or their flow's
number alone (R361). -/
def journalParts (n : Nat) (s : State) : State :=
  let s := if nsOf n = 2 then journal 0x40 (if hasProc (proc s (ixOf n)) then procData s (ixOf n) else leBytes 2 n) s else s
  if nsOf n = 1 then journal 0x50 (leBytes 1 2 ++ leBytes 2 n ++ (tget? s.aud.cs n).getD []) s else s

/-- A flow entry enters the flow table: the flow is DEFINED, its storage empty, its depth 4 (R82) and its channel status the
default. A stream or function descriptor written for an entry it no longer fits is dropped. -/
def defineFlow (n : Nat) (f : Flow) (s : State) : State :=
  let g := flowD s n
  let streams := if f.endpoint = 1 && g.endpoint == 1 && legMacs f == legMacs g then s.nmp.streams else tdel s.nmp.streams n
  let procs := if nsOf n = 2 && !sameForProc f g then tdel s.ika.procs (ixOf n) else s.ika.procs
  let cs := if nsOf n = 1 && f.essence == 1 then tput s.aud.cs n (withCrcc (leBytes 24 1)) else tdel s.aud.cs n
  journalParts n <| journalFlow n { s with
    flows := tput s.flows n f
    nmp := { s.nmp with streams := streams }
    ika := { s.ika with procs := procs, marks := tdel s.ika.marks n }
    aud := { s.aud with cs := cs }
    swc := { s.swc with store := tdel s.swc.store n } }

/-- A classroom is gated: in TRIM no processed flow is defined in it (R403). -/
def classGated (s : State) (c : Nat) : Bool :=
  s.pwr.st == .trim && roomEn s c && !s.flows.any (fun f => nsOf f.1 == 2 && f.2.port == c)

/-- FLOW_DEFINE; a processed flow ungates its classroom in 20 µs (R403). -/
def opFlowDefine (c : Cmd) (a : Nat) (img : List Byte) (s : State) : State :=
  hostCmd c 0x0101 true (checked (fun s => (!c.hostOk, addressError a) :: defineChecks s a) (fun s =>
    let l := hostBytes s a 64
    let n := normFlow (fieldAt l 0 2)
    let f := parseFlow a l
    (replyDone, defineFlow n f (ungate (nsOf n == 2 && classGated s f.port) 20000 s)))) (place a img s)

/-! ## FLOW_START (R22, R44, R164, R169, R182, R183, R206, R201, R230, R236, R248) -/

/-- The selections of an output or processed flow are admitted again before it runs (R24, R83). -/
def selectionsOk (s : State) (n : Nat) : Bool :=
  let ok (w : Nat) := !(xp s w).sel || selOk s w (xp s w).src
  if nsOf n = 1 then (flowD s n).essence == 1 || ok (outWord (ixOf n))
  else if nsOf n = 2 then (usedInputs (proc s (ixOf n)) (flowD s n)).all (fun k => ok (pfWord (ixOf n) k))
  else true

/-- The LEADER of an ANC frame synchroniser is a RUNNING video FRAME_SYNC on the same input source: sources of one port
(R236). -/
def leaderOk (s : State) (n : Nat) : Bool :=
  let ld := normFlow (pBody (proc s (ixOf n)) 2 2)
  let src (x : Nat) : Option (Nat × Nat) :=
    let w := xp s (pfWord (ixOf x) 0)
    if w.sel then some ((flowD s w.src).endpoint, (flowD s w.src).port) else none
  nsOf ld == 2 && running s ld && (flowD s ld).essence == 0 && pFunc (proc s (ixOf ld)) == 1 && src ld == src n

/-- A leg's MAC rules. -/
def legsBad (f : Flow) (bad : Nat → Bool) : Bool := f.endpoint == 1 && (legMacs f).any bad

/-- The load of an NMP output fits each of its MACs under every gate list held for it (R201). -/
def wireFits (s : State) (n : Nat) (f : Flow) : Bool :=
  !(nsOf n == 1 && f.endpoint == 1) ||
    (legMacs f).all (fun m => macFits s m (mac s m).oper [(n, f)] &&
      ((mac s m).pend.isNone || macFits s m (mac s m).pend [(n, f)]))

/-- The layer of a COMPOSE flow whose line buffer is short (R259). -/
def shortLayer (p : Proc) : Option Nat :=
  if pFunc p = 4 then (List.range (pBody p 0 1)).find? (fun i =>
    decide ((layerDef p i).lbKib * 1024 < lineNeed (layerDef p i) (layerDef p i).format)) else none

/-- The state with the flow counted as running: what switching and pool would be. -/
def asRunning (n : Nat) (s : State) : State := setFlow n { flowD s n with st := .running } s

/-- The switching load and the pool with the flow in them fit (R41 to R44). -/
def switchingFits (s : State) (n : Nat) : Bool :=
  let t := asRunning n s
  decide (loadWrite t ≤ loadLimit) && decide (readTotal t ≤ loadLimit) && decide (poolUsed t ≤ poolLimit)

/-- A processed flow's budgets, in the order of R248. -/
def procBudgets (s : State) (n : Nat) (f : Flow) : List (Bool × Reply) :=
  let p := proc s (ixOf n)
  let st := pStore p - 1
  if nsOf n ≠ 2 then []
  else
    [(decide (38400 < roomCycles s f.port + p.cycles), refusedAt (f.addr + 5)),
      (decide (1984 < roomLines s f.port + procLines p f), refusedAt (f.addr + 5)),
      ((shortLayer p).isSome, refusedAt (p.addr + 55 + 8 * (shortLayer p).getD 0)),
      (pStore p != 0 && decide (storeLimit s st < storeBw s st + p.bw), refusedAt (p.addr + 8)),
      (pStore p != 0 && decide (regionMib s st < storeCap s st + p.cap), refusedAt (p.addr + 8))]

/-- The address of FORMAT, or of RATE_MBPS for ANC and opaque flows (R44). -/
def loadField (f : Flow) : Nat := if f.essence = 2 ∨ f.essence = 3 then f.addr + 24 else f.addr + 8

/-- What a FLOW_START checks before its budgets. -/
def startChecks (c : Cmd) (n : Nat) (s : State) : List (Bool × Reply) :=
  let f := flowD s n
  let p := proc s (ixOf n)
  let out := nsOf n == 1
  [((flow? s n).isNone, badArg c 24 s), (active f, denied),
    (!domEn s f.domain || (f.essence == 0 && fmtRate f.format != domRate s f.domain), badField (f.addr + 6)),
    (f.endpoint == 0 && (if out then (sdiTx s f.port).mode == 0 else (sdiRx s f.port).st == .disabled), denied),
    (out && f.endpoint == 0 && f.essence != 0 &&
      !(s.flows.any (fun x => onSdi 1 f.port x.1 x.2 && x.2.essence == 0 && x.2.st == .running)), badArg c 24 s),
    (legsBad f (fun m => !macEn s m), badField (if macEn s f.port then f.addr + 33 else f.addr + 5)),
    (f.endpoint == 1 && (f.essence == 0 || f.essence == 3 || carriage f == 0) && (tget? s.nmp.streams n).isNone, badArg c 24 s),
    (legsBad f (fun m => bit (rd s .nmpEee m) 31), denied),
    (nsOf n == 2 && (!hasProc p || (setLen (pFunc p) != 0 && (tget? p.sets (pInitSet p)).isNone)), badArg c 24 s),
    (nsOf n == 2 && f.essence == 2 && pFunc p == 1 && !leaderOk s n, badField (p.addr + 34))]

/-- The budgets of a FLOW_START. -/
def startBudgets (n : Nat) (s : State) : List (Bool × Reply) :=
  let f := flowD s n
  procBudgets s n f ++
    [(!selectionsOk s n, refusedAt (loadField f)), (!wireFits s n f, refusedAt (loadField f)),
      (!switchingFits s n, refusedAt (loadField f))]

/-- A processed flow begins from nothing with its INIT_SET in force (R230, R236, R241, R242). -/
def startProc (n : Nat) (s : State) : State :=
  let f := flowD s n
  let p := proc s (ixOf n)
  let k := pInitSet p
  let p := { p with
    inForce := k, next := none, oldParams := [], changedAt := 0, floor := 0, bufs := [], layers := [], hist := [], heldSeen := []
    reading := none, repeats := 0, unread := 0, decided := none, srcDown := none, srcUp := none, srcPpm := 0, srcOk := none
    srcLevel := srcStart p f
    delay := if pFunc p = 7 then setDelay f (tgetD p.sets k []) else p.delay
    since := (usedInputs p f).map (fun i => (i, s.tim.now)) }
  let s := setProc (ixOf n) p s
  if auditsRun s || s.ika.allSuspended then s
  else raise { src := 0x126, data := [(1, 0xFF)] } { s with ika := { s.ika with allSuspended := true } }

/-- A stream begins: its merger and frame state empty, and an output's first packet placed on each leg. -/
def startStream (n : Nat) (s : State) : State :=
  let f := flowD s n
  let x := stream s n
  if nsOf n = 1 then
    let pos := firstPos s f
    { setStream n { x with tx := (List.range x.legs.length).map (fun i => (i, pos)), marker := true } s with free := s.free + 1 }
  else setStream n { x with newest := none, used := [], atA := 0, atB := 0, lost := none, frame := 0, frameRtp := none, frameAt := 0
                            arrival := none, marker := true, serial := [] } s

/-- An unlocked SDI input counts its frames from 0 (R163). -/
def startCount (n : Nat) (s : State) : State :=
  let f := flowD s n
  let p := if f.endpoint = 0 then f.port else 64 + ixOf n
  if nsOf n = 0 && f.essence == 0 && !f.locked && (f.endpoint == 0 || (f.endpoint == 1 && carriage f == 1)) then
    setRx p { sdiRx s p with frame := 2 ^ 32 - 1 } s
  else s

/-- A flow becomes RUNNING: what it stored before is gone, and its endpoint or function begins. -/
def runFlow (n : Nat) (s : State) : State :=
  let f := flowD s n
  let s := setFlow n { f with
      st := .running, stop := none, stopMore := [], restore := none, detected := 0xFFFF, runAt := s.tim.now }
    { s with swc := { s.swc with store := tdel s.swc.store n }, ika := { s.ika with marks := tdel s.ika.marks n } }
  let s := if nsOf n = 1 then setFeed (ixOf n) [] { s with swc := { s.swc with plats := tdel s.swc.plats (ixOf n) } } else s
  let s := if nsOf n = 2 then startProc n s else s
  let s := if f.endpoint = 1 && (tget? s.nmp.streams n).isSome then startStream n s else s
  holdLegless (journalFlow n (startCount n s))

/-- FLOW_START. -/
def opFlowStart (c : Cmd) (flow : Nat) : State → State :=
  hostCmd c 0x0102 true (checked
    (fun s => (!flowNumOk flow, badArg c 24 s) :: (startChecks c (normFlow flow) s ++ startBudgets (normFlow flow) s))
    (fun s => (replyDone, ungateHbm s (runFlow (normFlow flow) s))))

/-! ## FLOW_STOP, FLOW_STOPPED, FLOW_STOP_TIMEOUT -/

/-- An audio crosspoint, in place or waiting for its block start, is fed from the flow's channels (R22, R284). -/
def feedsMatrix (s : State) (n : Nat) : Bool :=
  let f := flowD s n
  let mine (i : Nat) := decide (f.base ≤ i) && decide (i < f.base + f.count)
  nsOf n != 1 && f.essence == 1 &&
    (s.aud.xps.any (fun x => x.2.any (fun y => mine y.inp)) || s.aud.zwait.any (fun z => !z.remove && mine z.inp))

/-- Another output flow of the SDI port is RUNNING or HELD (R169). -/
def portStillUsed (s : State) (n : Nat) (f : Flow) : Bool :=
  nsOf n == 1 && f.endpoint == 0 && f.essence == 0 &&
    s.flows.any (fun x => x.1 != n && nsOf x.1 == 1 && x.2.endpoint == 0 && x.2.port == f.port && active x.2)

/-- The end of the frame in progress on a video output's egress: the next 0H of line 1 at its pin, MAC or link (R170). -/
def egressEnd (s : State) (f : Flow) : Nat :=
  let off := linesNs f.format f.depth + txOffset s f
  let n := fiNow s f.domain
  if s.tim.now < tOf s f.domain n + off then tOf s f.domain n + off else tOf s f.domain (n + 1) + off

/-- The moment at which a video flow stops: for an input, the end of 1 FP within which its frame start may come sooner. -/
def stopAt (s : State) (n : Nat) (f : Flow) : Nat :=
  if nsOf n = 0 then s.tim.now + fpCeil (fmtRate f.format)
  else if nsOf n = 2 then tOf s f.domain (fiNow s f.domain + 1)
  else egressEnd s f

/-- A flow that stops at once: no further cell is written or sent. -/
def stopNow (n : Nat) (s : State) : State :=
  stopFlow n (if nsOf n = 1 && (flowD s n).endpoint == 2 then setFeed (ixOf n) [] s else s)

/-- Why a FLOW_STOP of a flow is refused. -/
def stopChecks (c : Cmd) (n : Nat) (s : State) : List (Bool × Reply) :=
  let f := flowD s n
  [((flow? s n).isNone, badArg c 24 s), (!active f, replyDone),
    (!(selecting s n).isEmpty || feedsMatrix s n || flowNamed s n || portStillUsed s n f, denied)]

/-- A RUNNING video flow's stop is armed; its command waits. -/
def armStop (c : Cmd) (n : Nat) (s : State) : State :=
  let f := flowD s n
  holdRing c (setFlow n (if f.stop.isSome then { f with stopMore := f.stopMore ++ [c] }
    else { f with stop := some (c, stopAt s n f) }) s)

/-- FLOW_STOP. -/
def opFlowStop (c : Cmd) (flow : Nat) (s : State) : State :=
  let n := normFlow flow
  if barred s then complete c 0x0103 denied s
  else
    match firstErr ((!flowNumOk flow, badArg c 24 s) :: stopChecks c n s) with
    | some r => complete c 0x0103 r s
    | none =>
      if (flowD s n).st == .running && (flowD s n).essence == 0 then armStop c n s
      else complete c 0x0103 replyDone (stopNow n s)

/-- FLOW_STOPPED: an armed flow reaches its stop point; an input's is its own next frame start. -/
def opFlowStopped (flow : Nat) (s : State) : State :=
  let n := normFlow flow
  match (flowD s n).stop with
  | some (_, t) => if running s n then stopFlow n (if nsOf n = 0 then s else atLeast t s) else s
  | none => s

/-- FLOW_STOP_TIMEOUT: no frame start came within 1 FP. -/
def opFlowStopTimeout (flow : Nat) (s : State) : State :=
  let n := normFlow flow
  match (flowD s n).stop with
  | some (_, t) => if running s n && nsOf n == 0 then stopFlow n (atLeast t s) else s
  | none => s

/-! ## FLOW_DELETE and FLOW_READ -/

/-- A flow leaves the flow table with all that was kept for it. -/
def deleteFlow (n : Nat) (s : State) : State :=
  journalParts n <| journalFlow n { s with
    flows := tdel s.flows n
    nmp := { s.nmp with streams := tdel s.nmp.streams n }
    ika := { s.ika with procs := if nsOf n = 2 then tdel s.ika.procs (ixOf n) else s.ika.procs, marks := tdel s.ika.marks n }
    aud := { s.aud with cs := tdel s.aud.cs n }
    swc := { s.swc with store := tdel s.swc.store n } }

/-- FLOW_DELETE. -/
def opFlowDelete (c : Cmd) (flow : Nat) : State → State :=
  hostCmd c 0x0104 true (checked
    (fun s => [(!flowNumOk flow || (flow? s (normFlow flow)).isNone, badArg c 24 s),
      (active (flowD s (normFlow flow)) || (memberOf s (normFlow flow)).isSome, denied)])
    (fun s => (replyDone, deleteFlow (normFlow flow) s)))

/-- FLOW_READ. -/
def opFlowRead (c : Cmd) (flow a : Nat) : State → State :=
  hostCmd c 0x0105 false (checked
    (fun s => [(!flowNumOk flow || (flow? s (normFlow flow)).isNone, badArg c 24 s)])
    (readBack c a (fun s => flowBytes s (normFlow flow) (flowD s (normFlow flow)))))

/-! ## Consists (R28 to R32, R156) -/

/-- A member word: ROLE and flow number. -/
def consistMember (l : List Byte) (i : Nat) : Nat × Nat :=
  (bits (fieldAt l (8 + 4 * i) 4) 23 16, bits (fieldAt l (8 + 4 * i) 4) 15 0)

def parseConsist (l : List Byte) : Consist :=
  { kind := fieldAt l 2 1, division := fieldAt l 4 1
    members := (List.range (fieldAt l 3 1)).map (fun i => ((consistMember l i).1, normFlow (consistMember l i).2)) }

/-- The essence a role needs; none for a role R30 does not list. -/
def roleEssence (r : Nat) : Option Nat :=
  if r ≤ 4 then some 0
  else if 0x10 ≤ r ∧ r ≤ 0x1F then some 1
  else if 0x20 ≤ r ∧ r ≤ 0x27 then some 2
  else if r = 0x30 then some 3 else none

/-- Member `i` of consist `k` breaks R28 or R30 on its own. -/
def memberBad (s : State) (k : Nat) (d : Consist) (l : List Byte) (i : Nat) : Bool :=
  let r := (consistMember l i).1
  let n := normFlow (consistMember l i).2
  let f := flowD s n
  let first := flowD s ((d.members.head?.map Prod.snd).getD 0)
  (roleEssence r).isNone || !flowNumOk (consistMember l i).2 || (flow? s n).isNone || (nsOf n == 1) != (d.kind == 1) ||
    !f.locked || f.domain != first.domain || roleEssence r != some f.essence ||
    (d.members.take i).any (fun m => m.1 == r || m.2 == n) ||
    (match memberOf s n with
      | some m => m.1 != k
      | none => false)

/-- The flow of a role. -/
def roleFlow (s : State) (d : Consist) (r : Nat) : Flow := flowD s (((d.members.find? (fun m => m.1 == r)).map Prod.snd).getD 0)

/-- Quadrant members carried on SDI occupy four ports in order, as 3G or 12G signals (R156). -/
def quadOnSdi (l : List Flow) : Bool :=
  l.all (fun f => f.endpoint != 0) ||
    (l.zipIdx.all (fun x => x.1.endpoint == 0 && x.1.port % 4 == x.2 && x.1.port / 4 == (l.headD {}).port / 4) &&
      l.all (fun f => if fmtRaster f.format = 3 then ifClass f.format == 3 else ifClass f.format == 7))

/-- The video members of a consist: none, one, four quadrants of one format, or an opaque one (R30). -/
def videoSetOk (s : State) (d : Consist) : Bool :=
  let has (r : Nat) := d.members.any (fun m => m.1 == r)
  let quads := (List.range 4).map (fun i => roleFlow s d (i + 1))
  let q := (List.range 4).filter (fun i => has (i + 1))
  let f := (roleFlow s d 1).format
  if q.isEmpty then !(has 0 && has 0x30)
  else q.length == 4 && !has 0 && !has 0x30 && quads.all (fun x => x.format == f) && (fmtRaster f == 3 || fmtRaster f == 5) &&
    quadOnSdi quads

/-- The checks of a consist descriptor at `a`. -/
def consistChecks (s : State) (a : Nat) : List (Bool × Reply) :=
  let l := hostBytes s a 72
  let k := fieldAt l 0 2
  let d := parseConsist l
  let quad := d.members.any (fun m => decide (1 ≤ m.1) && decide (m.1 ≤ 4))
  let bad := (List.range (fieldAt l 3 1)).find? (memberBad s k d l)
  [(decide (255 < k), badField a), (consistNamed s k, denied), (decide (1 < d.kind), badField (a + 2)),
    (fieldAt l 3 1 == 0 || decide (16 < fieldAt l 3 1), badField (a + 3)),
    (decide (2 < d.division) || (d.division != 0) != quad, badField (a + 4)),
    (bad.isSome, badField (a + 8 + 4 * bad.getD 0)), (!videoSetOk s d, badField (a + 8))]

/-- The 72 bytes of a consist. -/
def consistBytes (k : Nat) (d : Consist) : List Byte :=
  padTo 72 (leBytes 2 k ++ leBytes 1 d.kind ++ leBytes 1 d.members.length ++ leBytes 1 d.division ++ zeros 3 ++
    d.members.flatMap (fun m => leBytes 4 (m.1 * 65536 + m.2)))

/-- The journal's CONSIST record: the descriptor, or the number alone of one deleted (R361). -/
def journalConsist (k : Nat) (s : State) : State :=
  journal 0x11 (match consist? s k with
    | some d => consistBytes k d
    | none => leBytes 2 k) s

/-- CONSIST_DEFINE. -/
def opConsistDefine (c : Cmd) (a : Nat) (img : List Byte) (s : State) : State :=
  hostCmd c 0x0110 true (checked (fun s => (!c.hostOk, addressError a) :: consistChecks s a) (fun s =>
    let l := hostBytes s a 72
    (replyDone, journalConsist (fieldAt l 0 2) { s with consists := tput s.consists (fieldAt l 0 2) (parseConsist l) })))
    (place a img s)

/-- CONSIST_DELETE. -/
def opConsistDelete (c : Cmd) (n : Nat) : State → State :=
  hostCmd c 0x0111 true (checked (fun s => [((consist? s n).isNone, badArg c 24 s), (consistNamed s n, denied)])
    (fun s => (replyDone, journalConsist n { s with consists := tdel s.consists n })))

/-- CONSIST_READ. -/
def opConsistRead (c : Cmd) (n a : Nat) : State → State :=
  hostCmd c 0x0112 false (checked (fun s => [((consist? s n).isNone, badArg c 24 s)])
    (readBack c a (fun s => consistBytes n ((consist? s n).getD {}))))

end Sys2Proof.Machine
end

