-- ==== Sys2Proof/Machine/Power.lean ====
section
/-!
DEFINITION. Power states, cooling and resets (R400 to R419, R441): transitions between RUN, TRIM, RECESS and OFF with the
blocks' answers, AVSBus, die sensors, the cooling loop, and the chip reset.
-/
namespace Sys2Proof.Machine
open Sys2Proof

def setPwr (p : Pwr) (s : State) : State := { s with pwr := p }

def pwrCode (x : PwrSt) : Nat :=
  match x with
  | .run => 0
  | .trim => 1
  | .recess => 2
  | .off => 3

/-- A target that PWR_STATE_SET may name (R404). -/
def pwrTarget (n : Nat) : Option PwrSt :=
  match n with
  | 0 => some .run
  | 1 => some .trim
  | 3 => some .off
  | _ => none

/-! ## Transitions (R404 to R406) -/

/-- Blocks asked for a transition that removes power, by their order in R404; one that only adds power asks none. -/
def blocksFor (now target : PwrSt) : List Nat :=
  match target with
  | .run => []
  | .trim => if now = .run then [7, 8] else []
  | .recess => [1, 2, 3, 4, 5, 6, 7, 8]
  | .off => [1, 2, 3, 4, 5, 6, 7, 8, 9]

/-- Subsystem number of a block (R6). -/
def blockSub (k : Nat) : Nat := [0, 7, 6, 5, 3, 2, 1, 4, 8, 10].getD k 0

/-- Why a block refuses a transition: 0 activity, 1 operation pending. For TRIM only clusters that are idle are asked. -/
def blockReason (s : State) (target : PwrSt) (k : Nat) : Option Nat :=
  let why (a p : Bool) : Option Nat := if a then some 0 else if p then some 1 else none
  if target = .trim then none
  else
    match k with
    | 1 => why (s.aud.ports.any (fun p => p.2.st != .disabled)) (s.aud.delays.any (fun d => d.2.change.isSome))
    | 2 => why (!(activeProcs s).isEmpty) (s.ika.rooms.any (fun r => r.2.swap.isSome))
    | 3 => why (s.tt.slots.any (fun p => resident p.2)) (s.swc.rows.any (fun r => !r.swapped))
    | 4 =>
      if target = .off then why (s.aqf.links.any (fun l => l.2.st != .down)) false
      else why (s.aqf.links.any (fun l => !isPair s l.1 && !l.2.mask.isEmpty)) (s.aqf.routes.any (fun r => r.2.st == .verifying))
    | 5 => why (s.flows.any (fun f => f.2.endpoint == 1 && active f.2)) false
    | 6 => why (s.flows.any (fun f => f.2.endpoint == 0 && active f.2)) false
    | 7 => why (s.lnx.lanes.any (fun l => l.2.prbs.isSome || l.2.scan.isSome))
        (s.lnx.spares.any (fun x => x.2.st == .shadow || x.2.st == .ready))
    | 8 => why (s.mem.ctrls.any (fun c => c.2.st == .training) || !s.mem.moves.isEmpty ||
          (target == .off && s.mem.wins.any (fun w => w.2.opened)))
        ((List.range 12).any (sparePending s))
    | _ => why (s.hif.cmd.any (fun r => r.2.busy)) false

/-- A transition starts. -/
def startTransit (target : PwrSt) (tag : Option Nat) (s : State) : State :=
  setPwr { s.pwr with
    trans := some { target := target, todo := blocksFor s.pwr.st target, agreed := [], asked := s.tim.now, tag := tag }
    retry := none } s

/-- A request: it starts, or waits in the pending slot in place of the request that waits there (R406). -/
def requestPower (target : PwrSt) (tag : Option Nat) (s : State) : State :=
  if s.pwr.trans.isNone then startTransit target tag s
  else
    let s' := setPwr { s.pwr with pend := some (target, tag) } s
    match s.pwr.pend with
    | some (old, t) => raise { src := 0x202, data := [(1, pwrCode old), (1, pwrCode target)], fin := t } s'
    | none => s'

/-- The pending request starts once a transition has ended. -/
def startPending (s : State) : State :=
  match s.pwr.pend with
  | some (t, tag) => startTransit t tag (setPwr { s.pwr with pend := none } s)
  | none => s

/-- A transition abandoned: PWR_REFUSED, and a retry of the redundancy controller's own; its event at most once a second. -/
def refuseTransit (x : Transit) (k reason : Nat) (s : State) : State :=
  let own := x.tag.isNone
  let e : Ev := { src := 0x201, data := [(1, pwrCode x.target), (1, blockSub k), (1, reason)], fin := x.tag }
  let quiet := own && s.pwr.refusedSec == some (secOf s)
  let s := raiseIf (!quiet) e (setPwr { s.pwr with
    trans := none, retry := if own then some (x.target, s.tim.now + 100000000) else none
    refusedSec := if own then some (secOf s) else s.pwr.refusedSec } s)
  startPending s

/-- PWR_BLOCK_ANSWER: the block asked agrees, and the next is asked; or it refuses. -/
def opPwrBlockAnswer (s : State) : State :=
  match s.pwr.trans with
  | none => s
  | some x =>
    match x.todo with
    | [] => s
    | k :: rest =>
      match blockReason s x.target k with
      | some r => refuseTransit x k r s
      | none => setPwr { s.pwr with trans := some { x with todo := rest, agreed := x.agreed ++ [k], asked := s.tim.now } } s

/-- PWR_ACK_TIMEOUT: no answer within ACK_US. -/
def opPwrAckTimeout (s : State) : State :=
  match s.pwr.trans with
  | none => s
  | some x =>
    match x.todo with
    | [] => s
    | k :: _ => refuseTransit x k 2 (atLeast (x.asked + 1000 * fld s .pwrCfg 0 29 16) s)

/-- What RECESS does not keep (R407): cell memory, crosspoints, the flow table, slot plans, the unscheduled buffer and the
classrooms' memories are cleared. -/
def clearCore (s : State) : State :=
  { s with
    flows := [], consists := []
    swc := { s.swc with xp := [], live := [], plats := [], store := [] }
    tt := {}
    aqf := { s.aqf with
      links := tmap s.aqf.links (fun _ l => { l with bank0 := {}, bank1 := {}, active := 0, mask := [] })
      voqs := [], transit := [], feed := [], opening := [], closing := [], swaps := [] }
    nmp := { s.nmp with streams := [] }
    ika := { s.ika with procs := [], marks := [] }
    aud := { s.aud with xps := [], delays := [], allocs := [], cs := [], inp := [], out := [], post := [], zwait := [] } }

/-- MACs set EEE_EN and at rest in low-power idle, or back (R206). -/
def restMacs (low : Bool) (s : State) : State :=
  { s with nmp := { s.nmp with macs := tmap s.nmp.macs (fun m x =>
      if low && x.st == .up && bit (rd s .nmpEee m) 31 then { x with st := .lowPower }
      else if !low && x.st == .lowPower then { x with st := .up } else x) } }

/-- The cause of a wake from RECESS, by what the pair's state asks of it (R408). -/
def wakeCode (s : State) : Nat :=
  match s.red.st with
  | .warm => 7
  | .taking => 4 + s.red.cause
  | _ => 8

/-- The cause and stamp of a wake (R408). -/
def recordWake (cause : Nat) (s : State) : State := setPwr { s.pwr with wakeCause := cause, wakeTs := ts32 s.tim.now } s

/-- Registers of the timing complex, which stay in the always-on island (R401, R409). -/
def islandRegs (s : State) : Tab Word := s.regs.filter (fun r => decide (0x600000 ≤ r.1) && decide (r.1 < 0x700000))

/-- The device reset but for its fuses and a run that programs them, which always completes (R421), its flash, host memory and
what the model keeps beside the device; `island` keeps the always-on island too. -/
def resetDevice (island : Bool) (s : State) : State :=
  let d := State.reset
  { d with
    pending := s.pending, free := s.free, wire := s.wire
    regs := if island then islandRegs s else d.regs
    tim := if island then s.tim else d.tim
    hif := { d.hif with mem := s.hif.mem }
    flt := { d.flt with
      resetCause := s.flt.resetCause
      aliveLevel := island && s.flt.aliveLevel, aliveStopped := island && s.flt.aliveStopped
      aliveBy := if island then s.flt.aliveBy else 0, aliveAt := if island then s.flt.aliveAt else 0 }
    pwr := { d.pwr with perst := s.pwr.perst }
    sec := { d.sec with
      lotLo := s.sec.lotLo, lotHi := s.sec.lotHi, wafer := s.sec.wafer, dieX := s.sec.dieX, dieY := s.sec.dieY, uid := s.sec.uid
      life := s.sec.life, counter := s.sec.counter, keyDigest := s.sec.keyDigest, cosign := s.sec.cosign
      run := s.sec.run, slotA := s.sec.slotA, slotB := s.sec.slotB, tap := s.sec.tap } }

/-- SECURE_WIPE with its cause (R426): all of secure SRAM reads zero. -/
def wiped (cause : Nat) (s : State) : State :=
  raise { src := 0x227, data := [(1, cause)] } { s with sec := { s.sec with sram := [] } }

/-- A wake from OFF but by PERST#: a chip reset outside the island, and the start-up sequence from step 2 (R408, R409). -/
def wakeOff (cause : Nat) (s : State) : State :=
  let s := recordWake cause (resetDevice true s)
  wiped 0 (raise { src := 0x208, data := [(1, cause)] } (setPwr { s.pwr with boot := .verifying } s))

/-- OFF gates every block but the always-on island and, until its link goes down, the host interface: what they hold is lost
(R400, R407, R409). -/
def gateAll (s : State) : State :=
  let d := resetDevice true s
  { d with
    regs := s.regs.filter (fun r => decide (r.1 < 0x700000))
    hif := s.hif, flt := s.flt, red := s.red, sec := s.sec
    pwr := { s.pwr with coolers := tmap s.pwr.coolers (fun _ c => { c with duty := 0 }), trip := false } }

/-- SDI transmitters go static. -/
def staticTx (s : State) : State := { s with svp := { s.svp with tx := tmap s.svp.tx (fun _ x => { x with sending := false }) } }

/-- The state a transition ends in takes hold: RECESS quiets the links, rests the MACs and gates the SDI octets (R400), OFF
gates the blocks; leaving RECESS clears what it did not keep and records the wake; the links wait for the Restore step of a
takeover or warm-up (R366). -/
def enterPower (target : PwrSt) (s : State) : State :=
  let from_ := s.pwr.st
  let s := setPwr { s.pwr with st := target, svcWake := false } s
  if from_ = .recess && (target == .run || target == .trim) then
    let c := wakeCode s
    let s := restMacs false (recordWake c (clearCore s))
    raise { src := 0x208, data := [(1, c)] } (if s.red.st == .taking || s.red.st == .warm then s else wakeLinks s)
  else if from_ = .off && target != .off then wakeOff 3 s
  else
    match target with
    | .recess => staticTx (restMacs true (quietLinks s))
    | .off => gateAll s
    | _ => s

/-- PWR_TRANSITION_DONE: PWR_STATE_DONE, before the host interface goes down in OFF (R406). RECESS, which gates the SDI
octets, waits for the end of frame B, in which a former holder's transmitters still run (R372; DESIGN CHOICE,
notes/assumptions/184.md). -/
def opPwrTransitionDone (s : State) : State :=
  match s.pwr.trans with
  | none => s
  | some x =>
    if !x.todo.isEmpty then s
    else
      let s := if x.target = .recess then atLeast s.red.sdiUntil s else s
      let s := enterPower x.target (setPwr { s.pwr with trans := none } s)
      let s := raise { src := 0x200, data := [(1, pwrCode x.target)], fin := x.tag } s
      startPending s

/-- PWR_RETRY: 100 ms after a refusal of the redundancy controller's request. -/
def opPwrRetry (s : State) : State :=
  match s.pwr.retry with
  | some (t, at_) => if s.pwr.trans.isNone then startTransit t none (atLeast at_ s) else s
  | none => s

/-- PWR_STATE_SET. -/
def opPwrStateSet (c : Cmd) (target : Nat) : State → State :=
  hostCmd c 0x0A01 false (checked
    (fun s => [((pwrTarget target).isNone, badArg c 24 s),
      (s.red.st == .standby || s.red.st == .warm || s.red.st == .taking, denied)])
    (fun s =>
      let t := (pwrTarget target).getD .run
      if s.pwr.st = t && s.pwr.trans.isNone && s.pwr.pend.isNone then (replyDone, s)
      else (accepted, requestPower t (some c.tag) s)))

/-- SERVICE_WAKE: a command reaches an enabled ring in RECESS; management SRAM is usable 40 µs after it is raised (R402, R407). -/
def opServiceWake (ring : Nat) (s : State) : State :=
  if s.pwr.st == .recess && (cmdRing s ring).en then
    let s := ungate (!s.pwr.svcWake) 40000 s
    setPwr { s.pwr with svcWake := true, svcIdle := s.tim.now } s
  else s

/-- SERVICE_WAKE_END: no command pending for 1 ms. -/
def opServiceWakeEnd (s : State) : State :=
  if s.pwr.svcWake && !s.hif.cmd.any (fun r => r.2.en && (r.2.busy || r.2.head != r.2.producer)) then
    let s := atLeast (s.pwr.svcIdle + 1000000) s
    setPwr { s.pwr with svcWake := false } s
  else s

/-! ## AVSBus (R410, R411) -/

def rail (s : State) (r : Nat) : Rail := tgetD s.pwr.rails r {}
def setRail (r : Nat) (x : Rail) (s : State) : State := setPwr { s.pwr with rails := tput s.pwr.rails r x } s

/-- The voltage in force: rails start at 0.750 V (R440). -/
def railMv (x : Rail) : Nat := if x.mv = 0 then 750 else x.mv

/-- The voltage asked of a rail: the target of the characterisation, in range and in steps of 5 mV. -/
def railWant (s : State) (r : Nat) : Nat :=
  let w := Config.avsTarget r s.pwr.tmax / 5 * 5
  if r = 0 then max 680 (min 850 w) else max 700 (min 800 w)

/-- AVS_REQUEST: at most one in 10 ms and at most 10 mV towards the target. -/
def opAvsRequest (r : Nat) (s : State) : State :=
  let x := rail s r
  let want := railWant s r
  let v := if railMv x < want then min want (railMv x + 10) else max want (railMv x - 10)
  if 2 < r || x.asked.isSome || v == railMv x then s
  else
    let s := atLeast ((x.lastAt.map (fun t => t + 10000000)).getD 0) s
    { setRail r { x with want := want, asked := some (v, s.tim.now), lastAt := some s.tim.now } s with wire := s.wire ++ [.avs r v] }

/-- AVS_RESPONSE: the regulator's output done puts the voltage in force. -/
def opAvsResponse (r mv : Nat) (s : State) : State :=
  match (rail s r).asked with
  | some (v, _) => if v = mv then setRail r { rail s r with mv := v, asked := none } s else s
  | none => s

/-- AVS_TIMEOUT: no response within TIMEOUT_US, or a bus error. -/
def opAvsTimeout (r : Nat) (error : Bool) (s : State) : State :=
  match (rail s r).asked with
  | some (v, t) =>
    let s := if error then s else atLeast (t + 1000 * fld s .pwrAvsCfg r 31 16) s
    raise { src := 0x203, data := [(1, r), (2, v)] } (setRail r { rail s r with asked := none, lastAt := some s.tim.now } s)
  | none => s

/-- AVS_READ: rails' voltages and currents as read. -/
def opAvsRead (l : List (Nat × Nat × Nat)) (s : State) : State :=
  l.foldl (fun s x => if x.1 < 3 then setRail x.1 { rail s x.1 with iout := x.2.2 } s else s) (every .rails 100000000 s)

/-! ## Sensors and THERM_TRIP (R412, R415) -/

def sensor (s : State) (i : Nat) : Sensor := tgetD s.pwr.sensors i {}

/-- Sensors of the die of sensor `i`. -/
def dieOf (i : Nat) : List Nat :=
  if i < 20 then List.range 20 else if i < 26 then (List.range 6).map (fun k => 20 + k) else (List.range 6).map (fun k => 26 + k)

/-- One sample of a sensor among all samples: out of range, or stuck for 10 s while another of its die moves by 2 °C. -/
def sampleSensor (codes : List Int) (now i : Nat) (x : Sensor) : Sensor :=
  let c := codes.getD i 0
  let die : List Int := (dieOf i).map (fun k => codes.getD k 0)
  let x := if c = x.temp && !x.base.isEmpty then x else { x with temp := c, since := now, base := die }
  let moved := (die.zip x.base).any (fun z => decide (8 ≤ absDiff z.1 z.2))
  { x with failed := decide (c < -160) || decide (600 < c) || (decide (x.since + 10000000000 ≤ now) && moved) }

/-- More than half the sensors of a die have failed. -/
def dieFailed (p : Pwr) : Option Nat :=
  [0, 20, 26].find? (fun i => decide ((dieOf i).length < 2 * ((dieOf i).filter (fun k => (tgetD p.sensors k {}).failed)).length))

/-- The hottest valid sensor. -/
def hottest (p : Pwr) : Option (Nat × Int) :=
  (List.range 32).foldl (fun b i =>
    let x := tgetD p.sensors i {}
    if x.failed then b
    else
      match b with
      | some (_, t) => if t < x.temp then some (i, x.temp) else b
      | none => some (i, x.temp)) none

/-- THERM_WARN and THERM_TRIP after a sample. -/
def judgeHeat (s : State) : State :=
  let p := s.pwr
  let hot := (hottest p).getD (0, p.tmax)
  let t := hot.2
  let warnC : Int := 4 * fld s .pwrThermCfg 0 23 16
  let tripC : Int := 4 * fld s .pwrThermCfg 0 15 8
  let run := if tripC ≤ t then p.tripRun + 1 else 0
  let die := dieFailed p
  let trip := p.trip || decide (3 ≤ run) || die.isSome
  let cool := die.isNone && decide (t < tripC - 40)
  let s' := setPwr { p with
    tmax := t, tripRun := run, warn := decide (warnC ≤ t), trip := trip
    coolSince := if cool then some (p.coolSince.getD s.tim.now) else none } s
  let d : List (Nat × Nat) := [(1, hot.1), (2, ofSigned 16 t)]
  let s' := raiseIf (!p.warn && decide (warnC ≤ t)) { src := 0x204, data := d } s'
  raiseIf (!p.trip && trip) { src := 0x205, data := d ++ [(1, if 3 ≤ run then 0 else 1)] } s'

/-- SENSOR_SAMPLE. The thermal controller is not driven in OFF (R400). -/
def opSensorSample (codes : List Int) (s : State) : State :=
  if s.pwr.st == .off then s
  else
  let s := every .sensors 1000000 s
  let old := s.pwr.sensors
  let new : Tab Sensor := (List.range 32).map (fun i => (i, sampleSensor codes s.tim.now i (tgetD old i {})))
  let s := setPwr { s.pwr with sensors := new } s
  let s := judgeHeat s
  raiseAll ((new.filter (fun x => x.2.failed && !(tgetD old x.1 {}).failed)).map (fun x => { src := 0x206, data := [(1, x.1)] })) s

/-- THERM_TRIP_RELEASE: every valid sensor below TRIP_C − 10 °C for 1 s and no die mostly failed. -/
def opThermTripRelease (s : State) : State :=
  match s.pwr.coolSince with
  | some t => if s.pwr.trip then (let s := atLeast (t + 1000000000) s; setPwr { s.pwr with trip := false } s) else s
  | none => s

/-! ## Cooling (R413, R414) -/

def cooler (s : State) (k : Nat) : Cooler := tgetD s.pwr.coolers k {}
def setCooler (k : Nat) (x : Cooler) (s : State) : State := setPwr { s.pwr with coolers := tput s.pwr.coolers k x } s

/-- P_ff in 0.01 W: P_est and the increases of pages whose activation is at most LEAD_MS away. -/
def feedForward (s : State) : Nat :=
  estPower s + sumBy (s.tt.slots.filter (fun p => partLive p.2 && decide (0 < p.2.power) &&
    decide (pageT s p.2 ≤ s.tim.now + 1000000 * fld s .pwrThermGain 0 15 0))) (fun p => p.2.power.toNat)

/-- One output's duty moved towards `want` at no more than SLEW: 0.1 s of it. -/
def slewDuty (slew want duty : Nat) : Nat := if duty < want then min want (duty + 1000 * slew) else max want (duty - 1000 * slew)

/-- The loop of one output: its duty and integral after one period, in 0.0001 % and units of 0.25 °C by 0.1 s. -/
def coolStep (s : State) (k : Nat) (x : Cooler) : Cooler :=
  let slew := fld s .pwrOutCfg k 23 16
  if s.pwr.st = .recess then { x with duty := slewDuty slew (10000 * fld s .pwrThermCfg 0 7 0) x.duty }
  else
    let e : Int := s.pwr.tmax - 4 * (fld s .pwrThermCfg 0 31 24 : Nat)
    let raw (i : Int) : Int := (fld s .pwrOutCfg k 15 8 * feedForward s : Nat) +
      (fld s .pwrThermGain 0 31 24 * 2500 : Nat) * e + (fld s .pwrThermGain 0 23 16 * 25 : Nat) * i
    let lo : Int := (10000 * fld s .pwrOutCfg k 30 24 : Nat)
    let i := x.integral + e
    let held := decide (raw i ≤ lo) || decide (1000000 ≤ raw i)
    let i := if held then x.integral else i
    let want := (max lo (min 1000000 (raw i))).toNat
    { x with duty := slewDuty slew want x.duty, integral := i }

/-- The tachometer of an output after 100 ms with `n` falling edges: PPR of them a revolution, over a gate of 1 s (R449). -/
def tach (s : State) (k n : Nat) (x : Cooler) : Cooler :=
  let l := (n :: x.edges).take 10
  { x with
    edges := l, rpm := if l.length < 10 then x.rpm else 60 * l.sum / max 1 (fld s .pwrOutCfg k 7 4)
    pulseAt := if 0 < n then s.tim.now else x.pulseAt, stalled := x.stalled && n == 0 }

/-- One output: its tachometer, its loop, and its pin, whose duty has steps of 1 % (R449). -/
def coolOne (edges : List Nat) (k : Nat) (s : State) : State :=
  if !bit (rd s .pwrOutCfg k) 31 || s.pwr.st == .off then s
  else
    let y := coolStep s k (tach s k (edges.getD k 0) (cooler s k))
    { setCooler k y s with wire := s.wire ++ [.pwm k (y.duty / 10000)] }

/-- THERMAL_LOOP: `edges` are the tachometers' falling edges since the last one. -/
def opThermalLoop (edges : List Nat) (s : State) : State :=
  (List.range 4).foldl (fun s k => coolOne edges k s) (every .cooling 100000000 s)

/-- FAN_STALL: a driven output at MIN_DUTY or above without a pulse for 2 s. -/
def opFanStall (k : Nat) (s : State) : State :=
  let x := cooler s k
  if 3 < k || s.pwr.st == .off || !bit (rd s .pwrOutCfg k) 31 || x.stalled || decide (x.duty < 10000 * fld s .pwrOutCfg k 30 24) then s
  else raise { src := 0x207, data := [(1, k)] } (setCooler k { x with stalled := true } (atLeast (x.pulseAt + 2000000000) s))

/-- THERM_COEF_LOAD. -/
def opThermCoefLoad (c : Cmd) (a : Nat) (img : List Byte) (s : State) : State :=
  hostCmd c 0x0A02 false (checked (fun s => [(decide (2 ^ 64 < a + 32), badArg c 24 s), (!c.hostOk, addressError a)])
    (fun s => (replyDone, setPwr { s.pwr with coef := (List.range 5).map (fun i => fieldAt (hostBytes s a 10) (2 * i) 2) } s)))
    (place a img s)

/-! ## Resets (R379, R408, R409, R416, R441) -/

/-- A chip reset with its cause in PWR_WAKE (R408). -/
def chipReset (cause : Nat) (s : State) : State := recordWake cause (resetDevice false s)

/-- CHIP_RESET_REACTION: 10 µs after the raise (R379). -/
def opChipResetReaction (s : State) : State :=
  match s.flt.chipResetAt with
  | some t => wiped 0 (chipReset 2 (atLeast t s))
  | none => s

/-- POWER_UP: the island leaves its power-on reset, PERST# still asserted. -/
def opPowerUp (s : State) : State :=
  let s := chipReset 0 s
  { s with flt := { s.flt with resetCause := none }, pwr := { s.pwr with perst := true }, sec := { s.sec with run := none, tap := {} } }

/-- PERST_RELEASE: the start-up sequence runs to the verification of the images (R416). -/
def opPerstRelease (s : State) : State :=
  if s.pwr.perst then wiped 0 (setPwr { s.pwr with perst := false, boot := .verifying } s) else s

/-- PERST_ASSERT; from OFF it is a wake too (R408). -/
def opPerstAssert (s : State) : State :=
  let off := s.pwr.st == .off
  let s := chipReset 1 s
  raiseIf off { src := 0x208, data := [(1, 1)] } (setPwr { s.pwr with perst := true } s)

/-- SYS_PWRGD_FALL: while PERST# is high the device acts as on PERST# (R441). -/
def opSysPwrgdFall (s : State) : State := if s.pwr.perst then s else opPerstAssert s

/-- GPIO0_WAKE: from OFF with WAKE_EN, a chip reset outside the island, and the start-up sequence from step 2 (R409). -/
def opGpio0Wake (s : State) : State :=
  if s.pwr.st == .off && bit (rd s .pwrCfg 0) 31 then
    wakeOff 3 s
  else s

/-- CXL_CONFIG_READY (R417). -/
def opCxlConfigReady (s : State) : State := setPwr { s.pwr with cxlReady := true } s

end Sys2Proof.Machine
end

