-- ==== Sys2Proof/Machine/Image.lean ====
section
/-!
DEFINITION. The journal image (R361, R362, R366, R369): the records that a holder sends of every object, and their application at
the partner.
-/
namespace Sys2Proof.Machine
open Sys2Proof

/-! ## Building the image -/

/-- A record's TYPE and data. -/
abbrev Rec := Nat × List Byte

/-- RTP positions of the media outputs and message sequence numbers, for the PLATFORM records: 0 depth, 1 a leg's next packet,
2 and 3 the next message SEQ sent and expected. -/
def platformRecords (s : State) : List Rec :=
  (s.nmp.streams.flatMap (fun x => x.2.tx.map (fun p => (0x60,
    leBytes 1 1 ++ leBytes 2 x.1 ++ leBytes 1 p.1 ++ leBytes 4 p.2.seq ++ leBytes 8 p.2.frame ++ leBytes 4 p.2.line ++
      leBytes 4 p.2.pkt ++ leBytes 1 (flag p.2.marker 0) ++ leBytes 4 p.2.rtp)))) ++
    s.aqf.seqTx.map (fun x => (0x60, leBytes 1 2 ++ leBytes 4 x.1 ++ leBytes 2 x.2)) ++
    s.aqf.seqRx.map (fun x => (0x60, leBytes 1 3 ++ leBytes 4 x.1 ++ leBytes 2 x.2))

/-- Port descriptors and gate lists held. -/
def portRecords (s : State) : List Rec :=
  s.svp.rx.map (fun x => (0x12, leBytes 1 0 ++ rxBytes x.1 x.2)) ++ s.svp.tx.map (fun x => (0x12, leBytes 1 0 ++ txBytes x.1 x.2)) ++
    s.aud.ports.map (fun x => (0x12, leBytes 1 1 ++ portBytes x.1 x.2)) ++
    s.nmp.macs.flatMap (fun x => (x.2.oper.toList ++ x.2.pend.toList).map (fun g => (0x12, gateBytes x.1 g)))

/-- Destinations that have a control route or a forwarding entry. -/
def destinations (s : State) : List Nat := (s.aqf.ctrlRoutes.map Prod.fst ++ s.aqf.fwd.map Prod.fst).eraseDups

/-- Every object of the image. -/
def imageRecords (s : State) : List Rec :=
  s.flows.map (fun f => (0x10, flowRecord s f.1)) ++ s.consists.map (fun d => (0x11, consistBytes d.1 d.2)) ++ portRecords s ++
    (s.swc.xp.filter (fun x => x.2 != {})).map (fun x => (0x20, leBytes 2 x.1 ++ leBytes 4 (xpWordBits x.2))) ++
    s.aqf.links.flatMap (fun l => ([0, 1].filter (fun b => (bankOf l.2 b).ok)).map (fun b => (0x30, planRecord s l.1 b))) ++
    s.aqf.routes.map (fun r => (0x31, routeJournal r.1 r.2)) ++ (destinations s).map (fun d => (0x32, forwardRecord s d)) ++
    (s.ika.procs.filter (fun p => hasProc p.2)).map (fun p => (0x40, procData s p.1)) ++
    s.aud.xps.map (fun x => (0x50, leBytes 1 0 ++ xpReadBytes s x.1)) ++
    s.aud.delays.map (fun d => (0x50, leBytes 1 1 ++ leBytes 2 d.1 ++ leBytes 2 1 ++ delayRange s d.1 1)) ++
    s.aud.cs.map (fun x => (0x50, leBytes 1 2 ++ leBytes 2 x.1 ++ x.2)) ++
    (s.tt.slots.filter (fun p => resident p.2)).flatMap (fun p =>
      [(0x21, pageBytes p.2 ++ pageStatusBytes s p.1 p.2), (0x22, pageStateBytes p.2)]) ++ platformRecords s

/-- Its size in bytes. -/
def sizeOf_ (l : List Rec) : Nat := sumBy l (fun r => r.2.length)
def imageSize (s : State) : Nat := sizeOf_ (imageRecords s)
/-- An image holds at most 6 MiB. -/
def imageLimit : Nat := 6291456

/-- JOURNAL_OVERSIZE when the image comes to exceed its limit. -/
def judgeImage (s : State) : State :=
  let big := decide (imageLimit < imageSize s)
  raiseIf (big && !s.red.oversize) { src := 0x1ED, data := [(4, ceilDiv (imageSize s) 1024)] }
    { s with red := { s.red with oversize := big } }

/-- A fresh image replaces the records still to be confirmed; messages that wait for one of those wait for its end. -/
def sendImage (s : State) : State :=
  let l := imageRecords s
  let s := judgeImage { s with red := { s.red with jout := [] } }
  let s := journal 0x01 (leBytes 4 (sizeOf_ l)) s
  if imageLimit < sizeOf_ l then s
  else
    let s := journal 0x02 (leBytes 4 (crc32c (l.flatMap Prod.snd))) (l.foldl (fun s r => journal r.1 r.2 s) s)
    { s with red := { s.red with heldMsgs := s.red.heldMsgs.map (fun m => { m with jseq := s.red.jseq }) } }

/-! ## The image at the partner -/

/-- Bytes of a record's data that name its object. -/
def keyLen (r : JRec) : Nat :=
  let k := fieldAt r.data 0 1
  match r.type with
  | 0x12 => if k = 0 then 3 else 2
  | 0x21 => 4
  | 0x22 => 4
  | 0x31 => 4
  | 0x50 => if k = 1 then 5 else 3
  | 0x60 => if k = 0 then 3 else if k = 1 then 4 else 5
  | _ => 2

/-- Two records are of one object. -/
def sameObject (a b : JRec) : Bool := a.type == b.type && a.data.take (keyLen a) == b.data.take (keyLen b)

/-- A record replaces that of its object; one that only names its object removes it. -/
def keepRecord (r : JRec) (l : List JRec) : List JRec :=
  let l := l.filter (fun x => !sameObject r x)
  if r.data.length ≤ keyLen r then l else l ++ [r]

/-! ## Applying a record -/

def flowOf (code : Nat) : FlowSt := [FlowSt.defined, .running, .stopped, .held].getD code .defined

/-- Legs of 28 bytes. -/
def parseLegs : Nat → List Byte → List Leg
  | 0, _ => []
  | n + 1, l => if l.length < 28 then [] else parseLeg l :: parseLegs n (l.drop 28)

/-- FLOW: the entry with its state, or a deletion. -/
def applyFlow (l : List Byte) (s : State) : State :=
  let n := fieldAt l 0 2
  if l.length ≤ 2 then deleteFlow n s
  else
    let f := { parseFlow 0 l with st := flowOf (fieldAt l 3 1), depth := fieldAt l 64 1 }
    let s := setFlow n f s
    let legs := parseLegs 2 (l.drop 69)
    if f.endpoint = 1 && !legs.isEmpty then setStream n { stream s n with ssrc := fieldAt l 65 4, legs := legs } s
    else { s with nmp := { s.nmp with streams := tdel s.nmp.streams n } }

/-- PORT: an SVP or AUD descriptor, or a gate list, which runs from its next cycle. -/
def applyPort (l : List Byte) (s : State) : State :=
  let d := l.drop 1
  let p := fieldAt d 0 1
  match fieldAt l 0 1 with
  | 0 => if fieldAt d 1 1 = 0 then applyRx p d s else applyTx p d s
  | 1 => setAudPort p {
      mode := fieldAt d 1 1, clock := fieldAt d 2 1, justify := fieldAt d 3 1, rate := fieldAt d 4 1, dirs := fieldAt d 5 1 % 4
      rxOffset := toSigned 32 (fieldAt d 8 4), txOffset := fieldAt d 12 4, st := if fieldAt d 1 1 = 0 then .disabled else .acquire } s
  | _ =>
    let base := fieldAt d 1 8
    let e := (List.range (fieldAt d 9 2)).map (fun i =>
      (fieldAt d (11 + 4 * i) 4 / 2 ^ 24, fieldAt d (11 + 4 * i) 4 % 2 ^ 24))
    let t := gateStart base (max 1 (gateCycle e)) s.tim.now
    setMac p { mac s p with oper := some { base := base, entries := e, start := t }, gateIx := 0, gateAt := t } s

/-- XP: one crosspoint word, through the management port (R80). -/
def applyXp (l : List Byte) (s : State) : State :=
  let w := fieldAt l 2 4
  setXp (fieldAt l 0 2) { sel := bit w 31, mgmt := bit w 29, page := bits w 28 23, src := bits w 15 0, wrote := s.tim.now } s

/-- PAGE: the page with its slot and roles. -/
def applyPage (l : List Byte) (s : State) : State :=
  let p := parsePage s 0 l
  let x := l.drop (192 + 16 * p.entries.length)
  let part := bit (fieldAt x 6 1) 0
  let coord := bit (fieldAt x 6 1) 1
  let q := { p with
    actN := fullFi s p.dom p.actFi, part := part, coordHere := coord, pst := if part then .loaded else .free
    cst := if coord then .collecting else .free, reason := fieldAt x 7 1, armedTs := fieldAt x 12 4, commitTs := fieldAt x 16 4
    appliedTs := fieldAt x 20 4, badEntry := fieldAt x 24 4, changes := p.entries.flatMap (entryChanges s) }
  setPage (fieldAt x 4 1) { q with power := pagePower q s } s

def pageOf (code : Nat) : PageSt :=
  [PageSt.free, .loaded, .armed, .committed, .applying, .applied, .withdrawn, .late, .collecting, .commitSent, .confirmed,
    .commitMissed].getD code .free

/-- PAGE_STATE. -/
def applyPageState (l : List Byte) (s : State) : State :=
  match lastSlot s (fieldAt l 0 4) with
  | none => s
  | some n =>
    let p := page s n
    setPage n { p with
      pst := if p.part then pageOf (fieldAt l 4 1) else p.pst, cst := if p.coordHere then pageOf (fieldAt l 5 1) else p.cst
      acks := (mapDevices (slice l 8 128)).map (fun d => (d, false)), armedFrom := mapDevices (slice l 136 128)
      unlatched := if pageOf (fieldAt l 4 1) = .applying then changeWords p.changes else [] } s

/-- PLAN: one bank of a link, whether it is active, and the link's group mask. -/
def applyPlan (l : List Byte) (s : State) : State :=
  let n := fieldAt l 0 1
  let b := planBank (slice l 4 32768)
  let x := link s n
  let x := if fieldAt l 1 1 = 0 then { x with bank0 := b } else { x with bank1 := b }
  setLink n { x with
    active := if bit (fieldAt l 2 1) 0 then fieldAt l 1 1 else x.active, mask := maskLinks (slice l 32772 32) } s

def routeOfCode (code : Nat) : RouteSt := [RouteSt.defined, .verifying, .verified, .refused, .stale].getD code .defined

/-- ROUTE. -/
def applyRoute (l : List Byte) (s : State) : State :=
  let k := fieldAt l 0 4
  if l.length ≤ 4 then { s with aqf := { s.aqf with routes := tdel s.aqf.routes k } }
  else
    setRoute k {
      dest := fieldAt l 4 4, hops := (List.range (fieldAt l 8 1)).map (fun i => parseHop (slice l (16 + 8 * i) 8))
      st := routeOfCode (fieldAt l 136 1), reason := fieldAt l 137 1, refHop := fieldAt l 138 1, b := fieldAt l 140 4
      latency := fieldAt l 144 4, verifyTs := fieldAt l 148 4, srcTerm := fieldAt l 152 4, terms := words4 (slice l 156 60)
      n := fieldAt l 216 4, reserve := fieldAt l 220 4, usedFlight := toSigned 32 (fieldAt l 224 4), slack := fieldAt l 228 4 } s

/-- FORWARD. -/
def applyForward (l : List Byte) (s : State) : State :=
  let d := fieldAt l 0 2
  let r := (List.range 4).map (fun i => parseCtrlRoute (slice l (8 + 64 * i) 64))
  { s with aqf := { s.aqf with
      fwd := tput s.aqf.fwd d (parseFwd (fieldAt l 4 4)), ctrlRoutes := tput s.aqf.ctrlRoutes d (r.filter (fun x => !x.isEmpty)) } }

/-- Parameter sets: number, length and bytes of each. -/
def parseSets : Nat → List Byte → Tab (List Byte)
  | 0, _ => []
  | n + 1, l => tput (parseSets n (l.drop (8 + fieldAt l 4 4))) (fieldAt l 0 4) (slice l 8 (fieldAt l 4 4))

/-- PROC: the descriptor with its readbacks and sets. -/
def applyProc (l : List Byte) (s : State) : State :=
  let ix := ixOf (fieldAt l 0 2)
  let d := slice l 4 256
  if l.length ≤ 2 then { s with ika := { s.ika with procs := tdel s.ika.procs ix } }
  else
    let p := proc s ix
    setProc ix { p with
      desc := d, sets := parseSets (fieldAt l 3 1) (l.drop 260), inForce := fieldAt l 2 1, cycles := fieldAt d 12 4
      lineMem := fieldAt d 16 2, lambda := fieldAt d 18 1, window := fieldAt d 19 1, bw := fieldAt d 20 4, cap := fieldAt d 24 4
      delay := fieldAt d 28 4, since := (List.range 16).map (fun i => (i, s.tim.now)) } s

/-- AUDIO 0: the crosspoints of an output channel at their gains. -/
def applyXps (l : List Byte) (s : State) : State :=
  setXps (fieldAt l 1 2) ((List.range (fieldAt l 3 2)).map (fun i =>
    let o := 17 + 8 * i
    { inp := fieldAt l o 2, gain := fieldAt l (o + 2) 2, base := gainCoef (fieldAt l (o + 2) 2), mgmt := bit (fieldAt l (o + 4) 1) 0
      page := fieldAt l (o + 5) 1 })) s

/-- AUDIO 1: delay lines of a range, allocated, released or at a new delay. -/
def applyDelays (l : List Byte) (s : State) : State :=
  let first := fieldAt l 1 2
  let count := fieldAt l 3 2
  let chs := (List.range count).map (fun i => first + i)
  let word (ch : Nat) := fieldAt l (9 + 8 * (ch - first)) 4
  let cur (ch : Nat) := fieldAt l (5 + 8 * (ch - first)) 4
  let store := bits (word first) 31 30
  let max_ := bits (word first) 28 0
  let known := chs.all (fun ch => match delayLine? s ch with
    | some d => d.store == store && d.max == max_
    | none => false)
  let s := if known then s
    else { s with aud := { s.aud with
      delays := s.aud.delays.filter (fun d => !chs.contains d.1), allocs := s.aud.allocs.filterMap (shrinkAlloc s first count) } }
  if store = 0 then s
  else
    let k := delayCost s count max_
    { s with aud := { s.aud with
        delays := chs.foldl (fun t ch => tput t ch { store := store, max := max_, cur := cur ch }) s.aud.delays
        allocs := if known then s.aud.allocs
                  else s.aud.allocs ++ [{ chs := chs, store := store, max := max_, bw := k.1, cap := k.2 }] } }

/-- AUDIO. -/
def applyAudio (l : List Byte) (s : State) : State :=
  match fieldAt l 0 1 with
  | 0 => applyXps l s
  | 1 => applyDelays l s
  | _ =>
    let n := fieldAt l 1 2
    { s with aud := { s.aud with cs := if l.length ≤ 3 then tdel s.aud.cs n else tput s.aud.cs n (l.drop 3) } }

/-- PLATFORM. -/
def applyPlatform (l : List Byte) (s : State) : State :=
  let n := fieldAt l 1 2
  match fieldAt l 0 1 with
  | 0 => if (flow? s n).isSome then setFlow n { flowD s n with depth := fieldAt l 3 1 } s else s
  | 1 =>
    if (tget? s.nmp.streams n).isSome then
      setPos n (fieldAt l 3 1) {
        seq := fieldAt l 4 4, frame := fieldAt l 8 8, line := fieldAt l 16 4, pkt := fieldAt l 20 4, marker := bit (fieldAt l 24 1) 0
        rtp := fieldAt l 25 4 } s
    else s
  | 2 => { s with aqf := { s.aqf with seqTx := tput s.aqf.seqTx (fieldAt l 1 4) (fieldAt l 5 2) } }
  | _ => { s with aqf := { s.aqf with seqRx := tput s.aqf.seqRx (fieldAt l 1 4) (fieldAt l 5 2) } }

/-- One record applied through the management ports. -/
def applyRecord (r : JRec) (s : State) : State :=
  let l := r.data
  match r.type with
  | 0x10 => applyFlow l s
  | 0x11 =>
    let k := fieldAt l 0 2
    { s with consists := if l.length ≤ 2 then tdel s.consists k else tput s.consists k (parseConsist l) }
  | 0x12 => applyPort l s
  | 0x20 => applyXp l s
  | 0x21 => applyPage l s
  | 0x22 => applyPageState l s
  | 0x30 => applyPlan l s
  | 0x31 => applyRoute l s
  | 0x32 => applyForward l s
  | 0x40 => applyProc l s
  | 0x50 => applyAudio l s
  | 0x60 => applyPlatform l s
  | _ => s

/-- Records that name objects of other records come last. -/
def namesOthers (r : JRec) : Bool := r.type == 0x21 || r.type == 0x22 || r.type == 0x60

/-- The image applied. -/
def applyImage (s : State) : State :=
  (s.red.image.filter (fun r => !namesOthers r) ++ s.red.image.filter namesOthers).foldl (fun s r => applyRecord r s) s

/-! ## What resumes when the unit drives (R366, R367, R369, R372) -/

/-- A leg's position moved past every packet due before `t`. -/
def skipTo (s : State) (n : Nat) (f : Flow) (t : Nat) : Nat → TxPos → TxPos
  | 0, p => p
  | k + 1, p =>
    let at_ := releaseAt s n f p
    if t ≤ at_ then p
    else if packetsHere s n f p = 0 then skipTo s n f t k { p with frame := p.frame + 1, line := 0, pkt := 0 }
    else skipTo s n f t k (nextPos s n f (packetOf s n f p at_) p)

/-- The media outputs go on from the recorded sequence numbers with the first packet due at or after `t`. -/
def resumeStreams (t : Nat) (s : State) : State :=
  (tkeys s.flows (fun n f => nsOf n == 1 && f.endpoint == 1 && f.st == .running && (tget? s.nmp.streams n).isSome)).foldl (fun s n =>
    let x := stream s n
    if x.tx.isEmpty then startStream n s
    else setStream n { x with tx := tmap x.tx (fun _ p => skipTo s n (flowD s n) t 100000 p) } s) s

/-- One resident page resumes: LOADED and ARMED run ahead again, COMMITTED will open and close its slot groups. -/
def resumePage (slot : Nat) (s : State) : State :=
  let p := page s slot
  if p.part && (p.pst == .loaded || p.pst == .armed) then
    let ws := p.changes.filterMap (windowOf s)
    let asked := feedersOf s p ws
    let s := setPage slot { p with pst := .loaded, windows := ws, asked := asked } s
    tryArm slot (asked.foldl (fun s f => sendRunAhead 6 p f s) s)
  else if p.part && p.pst == .committed then scheduleMasks slot s
  else s

def resumePages (s : State) : State := (s.tt.slots.map Prod.fst).foldl (fun s n => resumePage n s) s

/-- Running input flows wait for their ports: they count as ready when they first store, up to 16 FP from now. -/
def awaitInputs (s : State) : State :=
  { s with flows := tmap s.flows (fun n f =>
      if nsOf n == 0 && f.st == .running && decide (f.endpoint < 3) then
        { f with restore := some (s.tim.now + framesNs s f.domain 16) } else f) }

/-- The Restore step: the image is applied, media MACs leave low-power idle for good, SVP octets and receivers start, links
return to UP. -/
def restoreCore (s : State) : State :=
  let s := applyImage (clearCore s)
  let s := (List.range 16).foldl (fun s m => wr s .nmpEee m 0 (clrBit (rd s .nmpEee m) 31)) s
  awaitInputs (wr (restMacs false s) .svpOctetCfg 0 0 0xFF)

end Sys2Proof.Machine
end

