-- ==== Sys2Proof/Machine/Red.lean ====
section
/-!
DEFINITION. Active and standby (R351 to R376): pair states, messages, the lease and fencing, the journal's confirmation and
reception, takeover, the revertive return and its handover.
-/
namespace Sys2Proof.Machine
open Sys2Proof

def setRed (r : Red) (s : State) : State := { s with red := r }

/-- RED_CFG and RED_CFG2. -/
def home (s : State) : Bool := bit (rd s .redCfg 0) 30
def revert (s : State) : Bool := bit (rd s .redCfg 0) 29
def leaseNs (s : State) : Nat := 1000000 * fld s .redCfg 0 23 16
/-- HB_INV_TX. -/
def hbInv (s : State) : Bool := bit (rd s .redCfg2 0) 31
/-- `k` frame periods of the journal domain, ns, and its boundaries. -/
def jFrames (s : State) (k : Nat) : Nat := framesNs s (jdomain s) k
def jT (s : State) (n : Nat) : Nat := tOf s (jdomain s) n

def pairCode (x : PairSt) : Nat :=
  match x with
  | .unpaired => 0
  | .pairing => 1
  | .sole => 2
  | .active => 3
  | .standby => 4
  | .warm => 5
  | .taking => 6
  | .fenced => 7

/-! ## Liveness and status (R356, R360, R363) -/

/-- A path is live: a valid message within the last 1 ms. -/
def livePath (s : State) (path : Nat) : Bool :=
  if path = 0 then s.red.liveA && decide (s.tim.now ≤ s.red.atA + 1000000)
  else s.red.liveB && decide (s.tim.now ≤ s.red.atB + 1000000)

/-- Some record has waited unconfirmed for more than 2 FP of the journal domain. -/
def diverged (s : State) : Bool := holds s && s.red.jout.any (fun r => decide (r.at_ + jFrames s 2 < s.tim.now))

/-- READY of the unit as a partner. -/
def readyNow (r : Red) : Bool := r.hasImage && r.digestOk && !r.sawDiverged && !r.sawOversize

/-- Why a unit is not READY: 0 no image, 1 diverged, 2 set-up mismatch, 3 oversize. -/
def notReady (r : Red) : Nat := if r.sawOversize then 3 else if !r.hasImage then 0 else if r.sawDiverged then 1 else 2

/-- JSEQ as sent and read: the newest record sent or held. -/
def jseqShown (s : State) : Nat :=
  match s.red.jout.find? (fun r => !r.sent) with
  | some r => if holds s then (r.jseq + 2 ^ 32 - 1) % 2 ^ 32 else s.red.jseq
  | none => s.red.jseq

/-- RED_STATUS. -/
def redStatus (s : State) : Nat :=
  let r := s.red
  pairCode r.st * 2 ^ 28 + flag (if holds s then r.partnerReady else r.ready) 27 + flag (livePath s 0) 26 + flag (livePath s 1) 25 +
    flag ((r.partner.map (fun m => m.home)).getD false) 24 + flag (diverged s) 23

/-- RED_JOURNAL.SIZE_KIB: the holder's image, or the one held. -/
def journalKib (s : State) : Nat :=
  min 6144 (ceilDiv (if holds s then imageSize s else sumBy s.red.image (fun r => r.data.length)) 1024)

/-- The hold-off of a revertive return runs while a STANDBY is READY with both paths live (R371). -/
def judgeHealth (s : State) : State :=
  let ok := s.red.st == .standby && s.red.ready && livePath s 0 && livePath s 1
  setRed { s.red with healthySince := if ok then some (s.red.healthySince.getD s.tim.now) else none } s

/-- READY reported when it changes. -/
def judgeReady (s : State) : State :=
  let r := s.red
  let now := readyNow r
  let s' := judgeHealth (setRed { r with ready := now } s)
  if now = r.ready then s'
  else if now then raise { src := 0x1E5, data := [(4, r.jseq)] } s'
  else raise { src := 0x1E6, data := [(1, notReady r)] } s'

/-! ## Messages (R355, R356) -/

/-- The 32 bytes of a pair message. -/
def pairBytes (m : PairMsg) : List Byte :=
  leBytes 1 m.kind ++ leBytes 1 m.state ++
    leBytes 1 (flag m.home 4 + flag m.diverged 3 + flag m.ready 2 + flag m.fenced 1 + m.path % 2) ++ zeros 1 ++ leBytes 4 m.gen ++
    leBytes 4 m.seq ++ leBytes 4 m.ackSeq ++ leBytes 4 m.jseq ++ leBytes 4 m.stamp ++ leBytes 4 m.fi ++ leBytes 1 m.domain ++ zeros 3

def parsePair (l : List Byte) : PairMsg :=
  let f := fieldAt l 2 1
  { kind := fieldAt l 0 1, state := fieldAt l 1 1, home := bit f 4, diverged := bit f 3, ready := bit f 2, fenced := bit f 1
    path := f % 2, gen := fieldAt l 4 4, seq := fieldAt l 8 4, ackSeq := fieldAt l 12 4, jseq := fieldAt l 16 4
    stamp := fieldAt l 20 4, fi := fieldAt l 24 4, domain := fieldAt l 28 1 % 8 }

/-- This unit's message of a kind; FI and DOMAIN are given in PASS and CONFIRM. -/
def ownMsg (s : State) (kind ack : Nat) (fi : Option Nat) : PairMsg :=
  { kind := kind, state := pairCode s.red.st, home := home s, diverged := diverged s, ready := s.red.ready && !holds s
    fenced := s.red.st == .fenced, gen := s.red.gen, seq := s.red.seq, ackSeq := ack, jseq := jseqShown s, stamp := ts32 s.tim.now
    fi := (fi.getD 0) % 2 ^ 32, domain := if fi.isSome then jdomain s else 0 }

/-- The pair links that are UP. -/
def pairLinks (s : State) : List Nat := tkeys s.aqf.links (fun k l => isPair s k && l.st == .up)

/-- A message on one path: A on every UP pair link, B on HB_TX in the polarity of HB_INV_TX. -/
def sendPath (m : PairMsg) (path : Nat) (s : State) : State :=
  if path = 0 then (pairLinks s).foldl (fun s n => sendLocal n 9 (pairBytes { m with path := 0 }) s) s
  else { s with wire := s.wire ++ [.pathB { m with path := 1 } (hbInv s)] }

/-- One message on the paths given, under one SEQ. -/
def sendPair (paths : List Nat) (kind ack : Nat) (fi : Option Nat) (s : State) : State :=
  let m := ownMsg s kind ack fi
  paths.foldl (fun s p => sendPath m p s) (setRed { s.red with seq := (s.red.seq + 1) % 2 ^ 32 } s)

def bothPaths : List Nat := [0, 1]

/-- A valid message heard on a path: the path is live, again if it was before. -/
def hear (m : PairMsg) (path : Nat) (s : State) : State :=
  let r := s.red
  let t := s.tim.now
  let again := !livePath s path && (if path = 0 then r.atA else r.atB) != 0
  let r := if path = 0 then { r with liveA := true, atA := t, partner := some m } else { r with liveB := true, atB := t, partner := some m }
  raiseIf again { src := 0x1E4, data := [(1, path)] } (judgeHealth (setRed r s))

/-- The message comes from a unit that holds the tablet. -/
def fromHolder (m : PairMsg) : Bool := (m.state == 2 || m.state == 3) && !m.fenced

/-- GEN `a` is newer than `b`. -/
def newerGen (a b : Nat) : Bool := serialLt 32 b a

/-! ## Changes of state -/

/-- A unit becomes STANDBY: it watches, keeps no image yet, and goes into RECESS. -/
def enterStandby (gen : Nat) (s : State) : State :=
  let r := s.red
  let s := setRed { r with
    st := .standby, gen := gen, beatAt := s.tim.now, fencedHeard := false, blocked := false, conflict := false
    hasImage := false, image := [], building := none, sawDiverged := false, sawOversize := false, ready := false
    jout := [], heldMsgs := [], jasm := [], jfrags := 0, jwait := [], partnerReady := false, healthySince := none
    driveAt := none, uncommitted := [], warmEnd := none, bound := none, ackA := false, ackB := false, askA := false, askB := false
    confirmed := false, asked := false } s
  requestPower .recess none (notifyRole s)

/-- A holder fences (R358). -/
def fence (s : State) : State :=
  let s := notifyRole (setRed { s.red with st := .fenced } s)
  raise { src := 0x1E2, data := [(4, s.red.gen), (4, s.red.acked)] } (staticTx s)

/-- The Drive step (R366, R368): the unit drives ACTIVE as SOLE, every domain's first commit to come. -/
def drive (s : State) : State :=
  let s := setRed { s.red with
    st := .sole, driveAt := some s.tim.now, uncommitted := (List.range 8).filter (domEn s), partnerReady := false, partner := none
    warmEnd := none, bound := none, confirmed := false, asked := false } s
  let s := { s with aud := { s.aud with xps := tmap s.aud.xps (fun _ l => l.map (fun x => { x with base := 0, ramps := [] })) } }
  resumePages (resumeStreams s.tim.now (awaitInputs (notifyRole s)))

/-- The Take step (R366): a unit in RECESS then wakes and restores, one already running drives at once. -/
def takeTablet (cause : Nat) (s : State) : State :=
  let from_ := s.red.st
  let gap := from_ == .warm && s.red.bound.isSome && !s.red.confirmed
  let fi := s.red.bound.getD 0 % 2 ^ 32
  let tag := s.red.tag
  let s := setRed { s.red with st := .taking, gen := (s.red.gen + 1) % 2 ^ 32, cause := cause, tag := none, fencedHeard := false } s
  let s := sendPair bothPaths 3 0 none s
  let s := raise { src := 0x1E0, data := [(4, s.red.gen), (1, cause)], fin := tag } s
  let s := raiseIf gap { src := 0x1EA, data := [(4, fi)] } s
  if from_ = .standby then requestPower .run none s
  else if from_ = .warm && s.red.warmEnd.isNone && !s.red.asked then s
  else drive s

/-- A unit prepares a return: WARM, in RUN (R371). -/
def enterWarm (s : State) : State :=
  requestPower .run none (setRed { s.red with
    st := .warm, since := s.tim.now, warmEnd := none, bound := none, ackA := false, ackB := false, confirmed := false
    asked := false, healthySince := none } s)

/-- A return abandoned at the asking unit: STANDBY again, in RECESS. -/
def abandonReturn (s : State) : State :=
  let why := if livePath s 0 && livePath s 1 then 1 else 0
  let tag := s.red.tag
  let s := judgeHealth (setRed { s.red with
    st := .standby, tag := none, bound := none, confirmed := false, asked := false, warmEnd := none, jwait := [] } s)
  requestPower .recess none (raise { src := 0x1E9, data := [(1, why)], fin := tag } (staticTx s))

/-! ## Commands (R354, R375) -/

/-- AQF_PAIR_CFG enables a pair link. -/
def pairEnabled (s : State) : Bool := bit (rd s .aqfPairCfg 0) 31 || bit (rd s .aqfPairCfg 0) 30

/-- PAIR_START. -/
def opPairStart (c : Cmd) : State → State :=
  hostCmd c 0x0801 false (checked
    (fun s => [(s.red.st != .unpaired || !pairEnabled s || (!home s && !s.flows.isEmpty), denied)])
    (fun s => (replyDone, notifyRole (staticTx (setRed { s.red with
      st := .pairing, since := s.tim.now, partner := none, liveA := false, liveB := false, atA := 0, atB := 0
      conflict := false } s)))))

/-- ARMED or ACK held for the journal leaves: ARMED is stamped when it is sent (R94, R360). -/
def releaseHeld (ok : HeldMsg → Bool) (s : State) : State :=
  let go := s.red.heldMsgs.filter ok
  go.foldl (fun s h => sendCommit h.dest (if h.msg.kind = 4 then h.msg else { h.msg with stamp := ts32 s.tim.now }) s)
    (setRed { s.red with heldMsgs := s.red.heldMsgs.filter (fun h => !ok h) } s)

/-- PAIR_STOP: LEAVE on both paths, and a unit in RECESS wakes. -/
def opPairStop (c : Cmd) : State → State :=
  hostCmd c 0x0802 false (checked
    (fun s => [(s.red.st != .sole && s.red.st != .standby && s.red.st != .pairing, denied)])
    (fun s =>
      let standby := s.red.st == .standby
      let s := sendPair bothPaths 10 0 none s
      let s := notifyRole (setRed { s.red with
        st := .unpaired, liveA := false, liveB := false, atA := 0, atB := 0, partnerReady := false, ready := false, jout := []
        healthySince := none } s)
      (replyDone, if standby then requestPower .run none (releaseHeld (fun _ => true) s) else releaseHeld (fun _ => true) s)))

/-- TABLET_REQUEST (R371). -/
def opTabletRequest (c : Cmd) : State → State :=
  hostCmd c 0x0803 false (checked
    (fun s => [(s.red.st != .standby || !s.red.ready || !livePath s 0 || !livePath s 1, denied)])
    (fun s => (accepted, enterWarm (setRed { s.red with tag := some c.tag } s))))

/-- A holder is heard on a live path. -/
def holderHeard (s : State) : Bool :=
  (livePath s 0 || livePath s 1) && (match s.red.partner with
    | some m => fromHolder m
    | none => false)

/-- TABLET_TAKE. -/
def opTabletTake (c : Cmd) : State → State :=
  hostCmd c 0x0804 false (checked
    (fun s => [((s.red.st != .pairing && s.red.st != .standby && s.red.st != .fenced) || holderHeard s, denied)])
    (fun s => (accepted, takeTablet 2 (setRed { s.red with tag := some c.tag } s))))

/-- The 32 bytes of PAIR_STATUS: the partner's last message from its SEQ field on. -/
def pairStatus (s : State) : List Byte :=
  leBytes 4 (redStatus s) ++ leBytes 4 s.red.gen ++ leBytes 4 (jseqShown s) ++
    slice ((s.red.partner.map pairBytes).getD (zeros 32)) 8 20

/-- PAIR_STATUS. -/
def opPairStatus (c : Cmd) (a : Nat) : State → State := hostCmd c 0x0805 false (readBack c a pairStatus)

/-! ## Formation and heartbeats (R354, R357 to R359) -/

/-- PAIRING_TIMEOUT: a HOME unit without flows that has heard no holder takes the tablet. -/
def opPairingTimeout (s : State) : State :=
  if s.red.st == .pairing && home s && s.flows.isEmpty && !s.red.conflict && !holderHeard s then
    let s := atLeast (s.red.since + leaseNs s + 1000000) s
    let s := notifyRole (setRed { s.red with st := .sole, gen := 1 } s)
    raise { src := 0x1E0, data := [(4, 1), (1, 3)] } s
  else s

/-- BEAT_SEND: every 250 µs, by holders, fenced units and units in PAIRING. -/
def opBeatSend (s : State) : State :=
  match s.red.st with
  | .unpaired => s
  | .standby => s
  | .warm => s
  | .taking => s
  | _ =>
    let s := every .beat 250000 s
    let r := s.red
    let s := setRed { r with beats := ((r.seq, s.tim.now) :: r.beats).take 256 } s
    let s := sendPair bothPaths 1 0 none s
    if holds s then judgeImage s else s

/-- PAIR_CONFLICT, once for each PAIRING. -/
def pairConflict (why : Nat) (s : State) : State :=
  raiseIf (!s.red.conflict) { src := 0x1EB, data := [(1, why)] } (setRed { s.red with conflict := true } s)

/-- The partner takes a BEAT of its holder and answers it on the same path. -/
def watchBeat (m : PairMsg) (path : Nat) (agree : Bool) (s : State) : State :=
  let r := s.red
  if newerGen r.gen m.gen then s
  else
    let s := setRed { r with
      gen := m.gen, beatAt := s.tim.now, fencedHeard := m.fenced || (r.fencedHeard && m.gen == r.gen), sawDiverged := m.diverged
      digestOk := agree, blocked := r.blocked && m.fenced } s
    sendPair [path] 2 m.seq none (judgeReady s)

/-- Two units hold the tablet (R359). -/
def meetHolder (m : PairMsg) (s : State) : State :=
  let own := s.red.gen
  let keep := newerGen own m.gen || (own == m.gen && home s)
  let s' := setRed { s.red with conflict := true } s
  raiseIf (!s.red.conflict) { src := 0x1EC, data := [(4, own), (4, m.gen)] } (if keep then s' else fence s')

/-- A BEAT, or a TAKE, by the state of the unit that hears it. -/
def takeBeat (m : PairMsg) (path : Nat) (agree : Bool) (s : State) : State :=
  match s.red.st with
  | .pairing =>
    if fromHolder m then
      if s.flows.isEmpty then watchBeat m path agree (enterStandby m.gen s) else pairConflict 1 s
    else if m.state == 1 && m.home && home s then pairConflict 0 s else s
  | .standby => if fromHolder m || m.state == 7 then watchBeat m path agree s else s
  | .warm => if fromHolder m || m.state == 7 then watchBeat m path agree s else s
  | .sole => if fromHolder m then meetHolder m s else setRed { s.red with conflict := false } s
  | .active => if fromHolder m then meetHolder m s else setRed { s.red with conflict := false } s
  | .fenced => if fromHolder m && newerGen m.gen s.red.gen then watchBeat m path agree (enterStandby m.gen s) else s
  | _ => s

/-- BEAT_RX. -/
def opBeatRx (m : PairMsg) (path : Nat) (agree : Bool) (s : State) : State :=
  if s.red.st = .unpaired then s else takeBeat m path agree (hear m path s)

/-- TAKE_RX: a unit that takes the tablet is heard. One that watches or is fenced follows the newer generation. -/
def opTakeRx (m : PairMsg) (path : Nat) (s : State) : State :=
  if s.red.st = .unpaired then s
  else
    let s := hear m path s
    match s.red.st with
    | .standby => if newerGen m.gen s.red.gen then judgeReady (setRed { s.red with gen := m.gen, beatAt := s.tim.now, fencedHeard := false } s) else s
    | .warm => if newerGen m.gen s.red.gen then enterStandby m.gen s else s
    | .pairing => if s.flows.isEmpty then enterStandby m.gen s else pairConflict 1 s
    | .fenced => if newerGen m.gen s.red.gen then enterStandby m.gen s else s
    | _ => if holds s then meetHolder m s else s

/-- The STAMP of a BEAT sent. -/
def beatStamp (r : Red) (seq : Nat) : Option Nat := (r.beats.find? (fun b => b.1 == seq)).map Prod.snd

/-- PAIR_ACK_RX (R357, R363): the lease is renewed, and the newest ACK decides between ACTIVE and SOLE. -/
def opPairAckRx (m : PairMsg) (path : Nat) (s : State) : State :=
  if s.red.st = .unpaired then s
  else
    let was := (s.red.partner.map (fun p => p.state)).getD 0
    let s := hear m path s
    if !holds s then s
    else
      match beatStamp s.red m.ackSeq with
      | none => s
      | some t =>
        let r := s.red
        let newest := m.ackSeq == r.acked || !serialLt 32 m.ackSeq r.acked
        let ready := if newest then m.ready else r.partnerReady
        let behind := match r.jout with
          | x :: _ => serialLt 32 (m.jseq + 1) x.jseq
          | [] => false
        let s' := setRed { r with
          acked := if newest then m.ackSeq else r.acked, partnerReady := ready, leaseEnd := max r.leaseEnd (t + leaseNs s)
          st := if ready then .active else .sole } s
        let s' := if ready = r.partnerReady then s'
          else if ready then raise { src := 0x1E5, data := [(4, m.jseq)] } s'
          else raise { src := 0x1E6, data := [(1, if s.red.oversize then 3 else if diverged s then 1 else 0)] } s'
        if m.state == 4 && (was != 4 || behind) then sendImage s' else s'

/-- LEASE_END (R358): the instant after the lease end. -/
def opLeaseEnd (s : State) : State :=
  if s.red.st = .active then fence (atLeast (s.red.leaseEnd + 1) s) else s

/-- PATH_LIVENESS_TIMEOUT (R356): with path A no longer live, held messages leave at once. -/
def opPathLivenessTimeout (path : Nat) (s : State) : State :=
  let r := s.red
  if 1 < path || r.st == .unpaired || !(if path = 0 then r.liveA else r.liveB) then s
  else
    let s := atLeast ((if path = 0 then r.atA else r.atB) + 1000001) s
    let s := judgeHealth (setRed (if path = 0 then { s.red with liveA := false } else { s.red with liveB := false }) s)
    let s := raise { src := 0x1E3, data := [(1, path)] } s
    if path = 0 then releaseHeld (fun _ => true) s else s

/-- LEAVE_RX: a holder becomes SOLE (R354). -/
def opLeaveRx (m : PairMsg) (path : Nat) (s : State) : State :=
  if s.red.st = .unpaired then s
  else
    let s := hear m path s
    if holds s then setRed { s.red with st := .sole, partnerReady := false } s else s

/-! ## The journal (R360 to R363, R371) -/

/-- JACK_RX: the record is confirmed, and the messages that waited for it leave. -/
def opJackRx (m : PairMsg) (path : Nat) (s : State) : State :=
  if s.red.st = .unpaired then s
  else
    let s := hear m path s
    let s := setRed { s.red with jout := s.red.jout.filter (fun r => r.jseq != m.ackSeq) } s
    if holds s then releaseHeld (fun h => !s.red.jout.any (fun r => r.jseq == h.jseq)) s else s

/-- JOURNAL_DIVERGED: from now on some record has waited for more than 2 FP. -/
def opJournalDiverged (s : State) : State :=
  match s.red.jout with
  | r :: _ => if holds s then atLeast (r.at_ + jFrames s 2 + 1) s else s
  | [] => s

/-- The longest delay of a DELAY function or channel delay line, ns (R371). -/
def longestDelay (s : State) : Nat :=
  let pf (x : Nat × Flow) : Nat :=
    let p := proc s (ixOf x.1)
    if pFunc p != 7 then 0
    else if x.2.essence = 1 then periodStart (audioRate x.2.format) p.delay else framesNs s x.2.domain p.delay
  (((activeProcs s).map pf) ++ s.aud.delays.map (fun d => periodStart (matrixRate s) d.2.cur)).foldl max 0

/-- The warm period begins, or begins again. -/
def startWarm (s : State) : State :=
  setRed { s.red with warmEnd := some (s.tim.now + max (jFrames s (fld s .redCfg 0 7 0)) (longestDelay s)), asked := false } s

/-- The unit is WARM with its image restored. -/
def restored (s : State) : Bool := s.red.st == .warm && (s.red.warmEnd.isSome || s.red.asked || s.red.bound.isSome)

/-- A change received while WARM: it waits for its boundary, or is late and restarts the warm period. -/
def warmRecord (r : JRec) (s : State) : State :=
  if !restored s then s
  else
    let n := extend 32 r.fi (fiNow s (jdomain s))
    if jT s n < s.tim.now then
      raise { src := 0x1EE, data := [(4, r.jseq)] } (startWarm (applyRecord r s))
    else setRed { s.red with jwait := s.red.jwait ++ [r] } s

/-- One complete record at the partner. -/
def takeRecord (r : JRec) (s : State) : State :=
  match r.type with
  | 0x01 =>
    let big := decide (imageLimit < fieldAt r.data 0 4)
    setRed { s.red with building := if big then none else some [], sawOversize := big } s
  | 0x02 =>
    match s.red.building with
    | none => s
    | some l =>
      if crc32c (l.flatMap (fun x => x.data)) = fieldAt r.data 0 4 then
        setRed { s.red with image := l.foldl (fun a x => keepRecord x a) [], hasImage := true, building := none } s
      else setRed { s.red with building := none } s
  | 0x03 => s
  | _ =>
    match s.red.building with
    | some l => setRed { s.red with building := some (l ++ [r]) } s
    | none => warmRecord r (setRed { s.red with image := keepRecord r s.red.image } s)

/-- JOURNAL_RECORD_RX: a JACK on path A for each complete record; `lost` is the address of a word of it that the bus matrix
kept from management SRAM, which the receiver writes again (R348). -/
def opJournalRecordRx (jseq type fi : Nat) (data : List Byte) (lost : Option Nat) (s : State) : State :=
  if s.red.st != .standby && s.red.st != .warm then s
  else
    let s := match lost with
      | some a => alog a .ram 64 0x024 (raise { src := 0x024, data := [(1, 0)], addr := a } s)
      | none => s
    let s := setRed { s.red with jseq := if serialLt 32 jseq s.red.jseq then s.red.jseq else jseq } s
    judgeReady (takeRecord { jseq := jseq, type := type, fi := fi, data := data, at_ := s.tim.now } (sendPair [0] 9 jseq none s))

/-- The MARK of boundary `n` of the journal domain, with the PLATFORM records of that moment. -/
def journalMark (n : Nat) (s : State) : State :=
  if !holds s then s
  else
    let k := (s.red.jseq + 1) % 2 ^ 32
    let s := setRed { s.red with
      jseq := k, jout := s.red.jout ++ [{ jseq := k, type := 0x03, fi := n % 2 ^ 32, data := [], at_ := s.tim.now }] } s
    (platformRecords s).foldl (fun s r => journal r.1 r.2 s) s

/-- Records of boundary `n` and before applied on a WARM unit. -/
def applyWaiting (n : Nat) (s : State) : State :=
  let due (r : JRec) : Bool := decide (extend 32 r.fi n ≤ n)
  (s.red.jwait.filter due).foldl (fun s r => applyRecord r s) (setRed { s.red with jwait := s.red.jwait.filter (fun r => !due r) } s)

/-! ## Takeover (R365 to R369) -/

/-- RECESS_WAKE: the watch's wake, every 250 µs; a home that is WARM watches too (R373). -/
def opRecessWake (s : State) : State :=
  if s.red.st != .standby && s.red.st != .warm then s
  else
    let s := every .wake 250000 s
    let silent := decide (s.red.beatAt + leaseNs s + 1000000 ≤ s.tim.now)
    if !silent && !s.red.fencedHeard then s
    else if s.red.ready then takeTablet (if silent then 0 else 1) s
    else if silent && !s.red.blocked then
      requestPower .run none (raise { src := 0x1E7, data := [(4, (s.tim.now - s.red.beatAt) / 1000)] }
        (setRed { s.red with blocked := true } s))
    else s

/-- TAKEOVER_WAKE_DONE: the Wake step ends. -/
def opTakeoverWakeDone (s : State) : State :=
  if s.red.st == .taking || s.red.st == .warm then
    match s.pwr.trans with
    | some x => if x.target = .run then opPwrTransitionDone s else s
    | none => s
  else s

/-- HELLO on every UP link but the pair links. -/
def helloAll (s : State) : State :=
  (tkeys s.aqf.links (fun k l => l.st == .up && !isPair s k)).foldl (fun s n => sendHello n false s) s

/-- TAKEOVER_RESTORE_DONE: the Restore step ends; a taking unit drives, a WARM one begins its warm period. -/
def opTakeoverRestoreDone (s : State) : State :=
  if s.pwr.st != .run then s
  else if s.red.st == .taking then helloAll (drive (wakeLinks (restoreCore s)))
  else if s.red.st == .warm && !restored s then startWarm (wakeLinks (restoreCore s))
  else s

/-- COMMITTED pages of a domain whose activation is not after frame `n`. -/
def commitPages (d n : Nat) (s : State) : State :=
  ((s.tt.slots.filter (fun p => p.2.part && p.2.pst == .committed && p.2.dom == d && decide (p.2.actN ≤ n))).map (fun p => p.2.id)).foldl
    (fun s id => opPageActivation id s) s

/-- FIRST_COMMIT of a domain: its first boundary at or after the Drive step + 1 FP. -/
def opFirstCommit (d : Nat) (s : State) : State :=
  match s.red.driveAt with
  | none => s
  | some t =>
    if !s.red.uncommitted.contains d then s
    else
      let at_ := boundaryFrom s d (t + framesNs s d 1)
      let s := atLeast at_ s
      let n := fiAt s d at_
      let s := commitPages d n (setRed { s.red with uncommitted := s.red.uncommitted.filter (fun x => x != d) } s)
      let s := riseXps (periodFrom s s.tim.now) (fun o i =>
        (match ownerOut s o with
          | some (_, g) => g.domain == d
          | none => false) &&
        (match ownerIn s i with
          | some (_, f) => f.restore.isNone
          | none => true)) s
      raise { src := 0x1E8, data := [(1, d), (4, n % 2 ^ 32)] } s

/-- RESTORED_FLOW_TIMEOUT: a restored flow that is not ready within 16 FP of the Drive step becomes HELD. -/
def opRestoredFlowTimeout (flow : Nat) (s : State) : State :=
  let n := normFlow flow
  match (flowD s n).restore with
  | some t => if holds s then holdFlow n 0xFFFF (atLeast t s) else s
  | none => s

/-! ## The revertive return (R371 to R373) -/

/-- REVERT_HOLD_OFF. -/
def opRevertHoldOff (s : State) : State :=
  match s.red.healthySince with
  | some t =>
    if s.red.st == .standby && home s && revert s && s.red.ready && s.red.liveA && s.red.liveB then
      enterWarm (atLeast (t + 1000000000 * fld s .redCfg 0 15 8) s)
    else s
  | none => s

/-- WARM_PERIOD_END: ASK on both paths. -/
def opWarmPeriodEnd (s : State) : State :=
  match s.red.warmEnd with
  | some t =>
    if s.red.st == .warm then sendPair bothPaths 4 0 none (let s := atLeast t s; setRed { s.red with warmEnd := none, asked := true } s)
    else s
  | none => s

/-- ASK_RX: once heard on both paths, B is the first boundary at least 3 FP later. -/
def opAskRx (m : PairMsg) (path : Nat) (s : State) : State :=
  if s.red.st = .unpaired then s
  else
    let s := hear m path s
    let s := setRed (if path = 0 then { s.red with askA := true } else { s.red with askB := true }) s
    if !holds s || s.red.bound.isSome || !s.red.askA || !s.red.askB then s
    else
      let d := jdomain s
      setRed { s.red with
        bound := some (fiAt s d (boundaryFrom s d (s.tim.now + jFrames s 3))), ackA := false, ackB := false, confirmed := false } s

/-- PASS_SEND: every 250 µs up to the confirm point. -/
def opPassSend (s : State) : State :=
  match s.red.bound with
  | some n => if holds s && !s.red.confirmed then sendPair bothPaths 5 0 (some n) (every .pass 250000 s) else s
  | none => s

/-- PASS_RX: the asking unit notes B and answers on both paths. -/
def opPassRx (m : PairMsg) (path : Nat) (s : State) : State :=
  if s.red.st = .unpaired then s
  else
    let s := hear m path s
    if s.red.st != .warm || !s.red.asked then s
    else
      let n := extend 32 m.fi (fiNow s (jdomain s))
      sendPair bothPaths 6 0 none (setRed { s.red with bound := some n } s)

/-- PASS_ACK_RX. -/
def opPassAckRx (m : PairMsg) (path : Nat) (s : State) : State :=
  if s.red.st = .unpaired then s
  else
    let s := hear m path s
    if holds s && s.red.bound.isSome then
      setRed (if path = 0 then { s.red with ackA := true } else { s.red with ackB := true }) s
    else s

/-- HANDOVER_CONFIRM_POINT: T(B) − 1 FP. -/
def opHandoverConfirmPoint (s : State) : State :=
  match s.red.bound with
  | none => s
  | some n =>
    if !holds s || s.red.confirmed then s
    else
      let s := atLeast (jT s n - jFrames s 1) s
      let paths := livePath s 0 && livePath s 1
      if paths && s.red.ackA && s.red.ackB then sendPair bothPaths 7 0 (some n) (setRed { s.red with confirmed := true } s)
      else
        let s := sendPair bothPaths 8 0 none (setRed { s.red with
          bound := none, ackA := false, ackB := false, askA := false, askB := false } s)
        raise { src := 0x1E9, data := [(1, if paths then 1 else 0)] } s

/-- CONFIRM_RX: it counts up to T(B) − 100 µs. -/
def opConfirmRx (m : PairMsg) (path : Nat) (s : State) : State :=
  if s.red.st = .unpaired then s
  else
    let s := hear m path s
    match s.red.bound with
    | some n => if s.red.st == .warm && decide (s.tim.now + 100000 ≤ jT s n) then setRed { s.red with confirmed := true } s else s
    | none => s

/-- PAIR_CANCEL_RX. -/
def opPairCancelRx (m : PairMsg) (path : Nat) (s : State) : State :=
  if s.red.st = .unpaired then s
  else
    let s := hear m path s
    if s.red.st == .warm then abandonReturn s else s

/-- The first fabric cycle boundary at or after an instant. -/
def cycleFrom (t : Nat) : Nat := alignUp 81920 t

/-- TABLET_PASSED, with the new generation. -/
def passed (n : Nat) (fin : Option Nat) (s : State) : State :=
  raise { src := 0x1E1, data := [(4, s.red.gen), (4, n % 2 ^ 32)], fin := fin } s

/-- HANDOVER_AT_B: the holder drops ACTIVE at T(B) once it has sent CONFIRM, the home raises it if it holds CONFIRM. The former
holder's SDI transmitters go on to the end of frame B. -/
def opHandoverAtB (s : State) : State :=
  match s.red.bound with
  | none => s
  | some n =>
    if !s.red.confirmed then s
    else
      let s := atLeast (jT s n) s
      let gen := (s.red.gen + 1) % 2 ^ 32
      let at_ := cycleFrom (jT s n)
      if holds s then
        let cut := !livePath s 0 && !livePath s 1
        let s := setRed { s.red with
          st := .standby, gen := gen, beatAt := s.tim.now, fencedHeard := false, blocked := false, hasImage := false, image := []
          building := none, ready := false, sawDiverged := false, sawOversize := false, jout := [], partnerReady := false
          bound := none, confirmed := false, askA := false, askB := false, ackA := false, ackB := false
          fabricAt := at_, relayEnd := some (jT s n + 32 * 81920), sdiUntil := jT s (n + 1) } s
        let s := releaseHeld (fun _ => true) s
        raiseIf cut { src := 0x1EA, data := [(4, n % 2 ^ 32)] } (passed n none s)
      else if s.red.st == .warm then
        let tag := s.red.tag
        let s := setRed { s.red with
          st := .sole, gen := gen, tag := none, bound := none, confirmed := false, asked := false, warmEnd := none, ready := false
          fabricAt := at_, partnerReady := false } s
        let s := { s with flows := tmap s.flows (fun _ f =>
          { f with restore := f.restore.map (fun _ => s.tim.now + framesNs s f.domain 16) }) }
        passed n tag (resumePages (resumeStreams (jT s n) s))
      else s

/-- RELAY_END: 32 fabric cycles after B the former holder goes into RECESS. -/
def opRelayEnd (s : State) : State :=
  match s.red.relayEnd with
  | none => s
  | some t => requestPower .recess none (let s := atLeast t s; setRed { s.red with relayEnd := none } s)

end Sys2Proof.Machine
end

