-- ==== Sys2Proof/Machine/Fabric.lean ====
section
/-!
DEFINITION. The fabric's slots and cells: cycle boundaries (R116, R130, R135), what each slot of a link sends (R118 to R123, R134
to R138, R146 to R148, R352, R360, R371), and what a received cell does (R121, R131, R137, R138, R144 to R149, R364).
-/
namespace Sys2Proof.Machine
open Sys2Proof

/-! ## FABRIC_CYCLE_BOUNDARY -/

/-- A slot group opened or closed in a link's mask. -/
def setMask (x : Nat × Nat × Bool) (s : State) : State :=
  let l := link s x.1
  if x.2.2 then (if l.mask.contains x.2.1 then s else setLink x.1 { l with mask := l.mask ++ [x.2.1] } s)
  else setLink x.1 { l with mask := l.mask.filter (fun g => g != x.2.1) } s

/-- Group changes that take effect at the boundary at `t`: cancelled run-ahead closes, the timetable's own in their order, then
run-ahead opens (R102, R103, R105). -/
def maskChanges (s : State) (t : Nat) : List (Nat × Nat × Bool) :=
  s.aqf.closing.map (fun g => (g.1, g.2, false)) ++
    (s.tt.masks.filter (fun m => decide (m.1 ≤ t))).map (fun m => (m.2.1, m.2.2.1, m.2.2.2)) ++
    s.aqf.opening.map (fun g => (g.1, g.2, true))

/-- They take effect, and the plan of each link changed is journalled (R361). -/
def changeMasks (t : Nat) (s : State) : State :=
  let l := maskChanges s t
  let s' := l.foldl (fun s x => setMask x s) { s with
    aqf := { s.aqf with closing := [], opening := [] }
    tt := { s.tt with masks := s.tt.masks.filter (fun m => !decide (m.1 ≤ t)) } }
  ((l.map Prod.fst).eraseDups).foldl (fun s n => journal 0x30 (planRecord s n (link s n).active) s) s'

/-- The TIME cell of cycle `c` on a link (R128). -/
def sendTime (c n : Nat) (s : State) : State :=
  bumpSeq (sendCell n (ctrlBytes { src := devId s, ctype := 2, seq := s.aqf.ctrlSeq, msg := timeBytes s n c }) s)

/-- The grid is realigned (R130): scheduled cells of the interval are discarded at the sender. -/
def endRealign (c : Nat) (s : State) : State :=
  match s.aqf.realign with
  | none => s
  | some (old, _) =>
    let started := bit (rd s .aqfDevCfg 0) 31 && s.aqf.links.any (fun l => l.2.st != .down)
    raiseIf started { src := 0x08B, data := [(4, old % 2 ^ 32), (4, c % 2 ^ 32)] } { s with aqf := { s.aqf with
        realign := none, transit := [], feed := [], fed := [], links := tmap s.aqf.links (fun _ l => { l with nextSlot := 0, timeAt := 0 }) } }

/-- The cycle that begins next: the one after the last begun, and after a step of the counter the first of the new grid once the
old cycle's slots have run (R130). -/
def nextCycle (s : State) : Nat :=
  match s.aqf.realign with
  | none => max (ceilDiv s.tim.now 81920) (s.aqf.cycle + 1)
  | some (old, off) => ceilDiv (max s.tim.now ((((old + 1) * 81920 : Nat) : Int) + off).toNat) 81920

/-- FABRIC_CYCLE_BOUNDARY. -/
def opFabricCycleBoundary (s : State) : State :=
  let c := nextCycle s
  let t := 81920 * c
  let s := atLeast t s
  let s := { s with aqf := { s.aqf with cycle := c } }
  let s := (s.aqf.swaps.filter (fun w => decide (w.cycle ≤ c))).foldl (fun s w => swapPlans c w s) s
  let s := changeMasks t (endRealign c s)
  let s := if s.red.fabricAt = t ∧ t ≠ 0 then notifyRole s else s
  (tkeys s.aqf.links (fun _ l => l.st == .up || l.st == .timing)).foldl (fun s n => sendTime c n s) s

/-- A slot with nothing to carry (R115, R118). -/
def sendIdle (n : Nat) (s : State) : State := sendCell n idleCell s

/-! ## Unscheduled cells leave (R146 to R148) -/

/-- The link on which cells for a destination leave now: PRIMARY, or ALT while PRIMARY is not UP. -/
def egressFor (s : State) (dest : Nat) : Option Nat :=
  let e := tgetD s.aqf.fwd dest {}
  let up (n : Nat) : Option Nat := (pickTwin s n).filter (linkUp s)
  if !e.valid then none
  else match up e.primary with
    | some k => some k
    | none => if e.altValid then up e.alt else none

/-- The buffer space of a cell is free again: its link returns the credit. -/
def freeCredit (from_ : Option Nat) (s : State) : State :=
  match from_ with
  | none => s
  | some m => setLink m { link s m with toReturn := (link s m).toReturn + 1, heldCells := (link s m).heldCells - 1 } s

/-- Cells queued for a device whose forwarding entry is not VALID are discarded; they count on the link they came by, or
on link `n`. -/
def dropUnrouted (n : Nat) (s : State) : State :=
  let bad := s.aqf.voqs.filter (fun q => !(tgetD s.aqf.fwd (q.1 / 32) {}).valid)
  (bad.flatMap Prod.snd).foldl (fun s c => freeCredit c.from_ (discard (c.from_.getD n) s))
    { s with aqf := { s.aqf with voqs := s.aqf.voqs.filter (fun q => (tgetD s.aqf.fwd (q.1 / 32) {}).valid) } }

/-- Destinations with a cell of a class that leave by link `n`. -/
def waitingFor (s : State) (n cls : Nat) : List Nat :=
  (tkeys s.aqf.voqs (fun k q => k % 32 == cls && !q.isEmpty && egressFor s (k / 32) == some n)).map (fun k => k / 32)

/-- Round robin: the first destination after the one served last, else the first. -/
def nextDest (l : List Nat) (last : Option Nat) : Option Nat :=
  match last with
  | some d => (l.find? (fun x => decide (d < x))).or l.head?
  | none => l.head?

/-- The class and destination that link `n` serves: class 31 first, class 0 last. -/
def serveNext (s : State) (n : Nat) : Nat → Option (Nat × Nat)
  | 0 => none
  | k + 1 =>
    match nextDest (waitingFor s n k) (tget? (link s n).rr k) with
    | some d => some (k, d)
    | none => serveNext s n k

/-- One queued cell leaves by link `n`. -/
def sendUnsched (n : Nat) (s : State) : State :=
  let s := dropUnrouted n s
  match serveNext s n 32 with
  | none => sendIdle n s
  | some (k, d) =>
    match voq s d k with
    | [] => sendIdle n s
    | c :: l =>
      let s := setLink n { link s n with credits := (link s n).credits - 1, rr := tput (link s n).rr k d } (setVoq d k l s)
      sendCell n (unschedBytes c) (freeCredit c.from_ s)

/-! ## Journal cells (R360, R361) -/

def jchunks (r : JRec) : Nat := max 1 (ceilDiv r.data.length 224)

/-- Fragment `i` of a record. -/
def jpayload (r : JRec) (i : Nat) : List Byte :=
  let d := slice r.data (224 * i) 224
  leBytes 4 r.jseq ++ leBytes 1 r.type ++ leBytes 1 (flag (i == 0) 1 + flag (i + 1 == jchunks r) 0) ++ leBytes 2 i ++
    leBytes 2 d.length ++ zeros 2 ++ leBytes 4 r.fi ++ d

/-- The next journal cell on a pair link, within 64 KiB in each 250 µs. -/
def journalCell (s : State) (n : Nat) : Option (List Byte) :=
  let spent := if s.red.jslice.1 = s.tim.now / 250000 then s.red.jslice.2 else 0
  if !holds s || !isPair s n then none
  else match s.red.jout.find? (fun r => !r.sent) with
    | none => none
    | some r =>
      let p := jpayload r s.red.jfrag
      if 65536 < spent + p.length then none else some p

/-- It leaves. -/
def sendJournal (n : Nat) (p : List Byte) (s : State) : State :=
  let d := devId s
  let k := 32 * d + 31
  let seq := tgetD s.aqf.seqTx k 0
  let r := s.red
  let spent := if r.jslice.1 = s.tim.now / 250000 then r.jslice.2 else 0
  let ends := bit (fieldAt p 5 1) 0
  let q := fieldAt p 0 4
  let s := { s with
    aqf := { s.aqf with seqTx := tput s.aqf.seqTx k ((seq + 1) % 512) }
    red := { r with
      jslice := (s.tim.now / 250000, spent + p.length), jfrag := if ends then 0 else r.jfrag + 1
      jout := if ends then r.jout.map (fun x => if x.jseq = q ∧ x.sent = false then { x with sent := true } else x) else r.jout } }
  sendCell n (unschedBytes { dest := d, src := d, cls := 31, ttl := 15, len := p.length, seq := seq, data := p })
    (setLink n { link s n with credits := (link s n).credits - 1 } s)

/-- What a FREE slot of an UP link carries. -/
def freeSlot_ (n : Nat) (s : State) : State :=
  let l := link s n
  if l.needCredit || l.credits == 0 then sendIdle n s
  else
    match journalCell s n with
    | some p => sendJournal n p s
    | none => if drives s then sendUnsched n s else sendIdle n s

/-! ## Control cells leave (R123) -/

/-- Where a waiting control cell stands in the order of service. -/
def ctrlRank (c : CtrlCell) : Nat := if c.ctype = 9 then 0 else if c.ctype = 1 then 2 else 3

/-- Cells that the link's state and the unit's let leave: HELLO alone before UP; in WARM the link's own cells; of a unit of a pair
that does not hold the tablet no routed cell of its own (R18, R126, R371). -/
def ctrlMay (s : State) (n : Nat) (c : CtrlCell) : Bool :=
  if !linkUp s n then c.ctype == 1
  else if s.red.st == .warm then c.ctype == 9 || c.ctype == 1
  else !(notHolder s && c.hops != 0 && c.src == devId s)

/-- The first cell of a rank that may leave. -/
def ctrlOf (s : State) (n rank : Nat) : Option CtrlCell :=
  (link s n).ctrlQ.find? (fun c => ctrlRank c == rank && ctrlMay s n c)

def sendQueued (n : Nat) (c : CtrlCell) (s : State) : State :=
  sendCell n (ctrlBytes c) (setLink n { link s n with ctrlQ := (link s n).ctrlQ.erase c } s)

/-- CREDIT with all the credits freed (R148). -/
def sendCredit (n : Nat) (s : State) : State :=
  let l := link s n
  bumpSeq (sendCell n (ctrlBytes { src := devId s, ctype := 3, seq := s.aqf.ctrlSeq, msg := leBytes 2 l.toReturn })
    (setLink n { l with toReturn := 0 } s))

/-- One slot that serves control cells: HEARTBEAT, CREDIT, HELLO, then the rest in arrival order; `rest` where none waits. -/
def controlElse (n : Nat) (rest : State → State) (s : State) : State :=
  match ctrlOf s n 0 with
  | some c => sendQueued n c s
  | none =>
    if linkUp s n && decide (0 < (link s n).toReturn) then sendCredit n s
    else
      match (ctrlOf s n 2).or (ctrlOf s n 3) with
      | some c => sendQueued n c s
      | none => rest s

/-- A CONTROL slot. -/
def controlSlot (n : Nat) (s : State) : State := controlElse n (sendIdle n) s

/-! ## Scheduled cells leave (R118, R134, R137, R138) -/

/-- A scheduled cell on the wire. -/
def schedBytes (label bank : Nat) (c : FeedCell) : List Byte :=
  cellBytes (label * 2 ^ 36 + c.fseq % 256 * 2 ^ 28 + c.line % 4096 * 2 ^ 16 + c.seg % 128 * 2 ^ 9 + flag c.eol 8 + bank * 2 ^ 7)
    c.payload

/-- The cell of an output index for slot `k`: taken from its release queue once, and sent again by a twin in the same slot. -/
def takeFeed (ix k : Nat) (s : State) : Option FeedCell × State :=
  match tget? s.aqf.fed ix with
  | some (j, c) => if j = k then (some c, s) else popFeed
  | none => popFeed
where
  popFeed : Option FeedCell × State :=
    match feedOf s ix with
    | [] => (none, s)
    | c :: l => (some c, setFeed ix l { s with aqf := { s.aqf with fed := tput s.aqf.fed ix (k, c) } })

/-- EGRESS_SIG_MISMATCH at the end of a line (R389). -/
def egressCheck (ix : Nat) (c : FeedCell) (sigBad : Bool) (s : State) : State :=
  let o := flowNum 1 ix
  let f := flowD s o
  let src := (latched s ix).src
  let slot := if f.essence = 1 then secOf s else c.fseq
  if sigBad && c.eol && (flowD s src).sigEn then sigFail o slot { src := 0x244, data := [(2, o), (2, c.line)] } s else s

/-- A LOCAL slot. -/
def localSlot (n k : Nat) (e : PlanEntry) (sigBad : Bool) (s : State) : State :=
  match takeFeed e.ref k s with
  | (none, s) => sendIdle n s
  | (some c, s) =>
    if fabricOn s then sendCell n (schedBytes e.label (link s n).active c) (egressCheck e.ref c sigBad s) else sendIdle n s

/-- A TRANSIT slot: the cell paired with it leaves, and its absence is a TRANSIT_MISS. A cell kept with no payload stands for
an arrival slot in which none came. -/
def transitSlot (n k : Nat) (e : PlanEntry) (s : State) : State :=
  let s := { s with aqf := { s.aqf with transit := s.aqf.transit.filter (fun c => c.queue != e.ref || decide (k ≤ c.due)) } }
  match s.aqf.transit.find? (fun c => c.queue == e.ref && c.due == k) with
  | none => sendIdle n (raiseIf (fabricOn s) { src := 0x08C, data := [(2, e.ref), (2, k % 4096)] } s)
  | some c =>
    if c.payload.isEmpty || !fabricOn s then sendIdle n s
    else
      sendCell n (schedBytes e.label (link s n).active { fseq := c.fseq, line := c.line, seg := c.seg, eol := c.eol, payload := c.payload }) s

/-! ## FABRIC_SLOT -/

/-- The slot in progress, counted from slot 0 of cycle 0; after a step of the counter it is counted on the old grid, and once
the old cycle's slots have run none carries anything until the grid is realigned (R130). -/
def slotNow (s : State) : Nat × Bool :=
  match s.aqf.realign with
  | none => (s.tim.now / 20, true)
  | some (c, off) =>
    let t := ((s.tim.now : Int) - off).toNat
    (t / 20, decide (t / 81920 = c))

/-- What a slot of a link carries by its entry. A shadow carries idle and TIME cells alone (R223). Slot 0 of an UP or TIMING
link is the TIME cell's (R128). A link without an admitted plan serves its control queue in every slot, and unscheduled
traffic where no control cell waits (DESIGN CHOICE, notes/assumptions/134.md). -/
def slotEntry (n k : Nat) (sigBad : Bool) (s : State) : State :=
  let l := link s n
  let e := tgetD (activeBank l).tx (k % 4096) {}
  if 144 ≤ n then (if k % 4096 = 0 then s else sendIdle n s)
  else if k % 4096 = 0 then (if l.st == .up || l.st == .timing then s else sendIdle n s)
  else if l.st == .framing then sendIdle n s
  else if l.st != .up then (if !(activeBank l).ok || e.kind == 1 then controlSlot n s else sendIdle n s)
  else if !(activeBank l).ok then controlElse n (freeSlot_ n) s
  else if e.kind == 1 then controlSlot n s
  else if e.kind == 0 || !l.mask.contains e.group then freeSlot_ n s
  else if e.kind == 2 then localSlot n k e sigBad s
  else transitSlot n k e s

/-- FABRIC_SLOT: the slot in progress of a link, each once; a DOWN or QUIET link sends no cells (R126, R127). The two CRC
generators are compared on every cell (R392). -/
def opFabricSlot (n : Nat) (sigBad genBad : Bool) (s : State) : State :=
  let l := link s n
  let k := slotNow s
  if l.st == .down || l.st == .quiet || decide (k.1 < l.nextSlot) then s
  else
    let s := setLink n { l with nextSlot := k.1 + 1 } s
    checkFail genBad { src := 0x245, data := [(1, 2), (1, n)] } (if k.2 then slotEntry n k.1 sigBad s else sendIdle n s)

/-! ## Scheduled cells arrive (R137, R138, R144, R145) -/

/-- The slot in which a cell that arrives now over a lane of flight `f` was sent, counted from slot 0 of cycle 0, on the grid
still in force (R130). -/
def slotOver (s : State) (f : Int) : Nat :=
  ((s.tim.now : Int) - f - (match s.aqf.realign with | none => 0 | some (_, off) => off)).toNat / 20

def sentSlot (s : State) (n : Nat) : Nat := slotOver s (link s n).flight

/-- The flight of link `n` that the route of a label was verified with, or the present one of a stream that no route names
(R138, R141). -/
def routeFlight (s : State) (n label : Nat) : Int :=
  let mine (r : Route) : Bool := r.st != .defined && r.st != .refused &&
    (match inHop s r with | some (_, h) => h.rx == n && h.label == label | none => false)
  ((s.aqf.routes.find? (fun r => mine r.2)).map (fun r => r.2.usedFlight)).getD (link s n).flight

/-- A cell put into the transit buffer for its paired slot; a cell replaces the mark of an empty arrival slot. -/
def enterTransit (n k label queue : Nat) (c : FeedCell) (s : State) : State :=
  let out := s.aqf.links.find? (fun l => (activeBank l.2).tx.any (fun e => e.2.kind == 3 && e.2.ref == queue))
  match out with
  | none => s
  | some (m, _) =>
    let b := tkeys (activeBank (link s m)).tx (fun _ e => e.kind == 3 && e.ref == queue)
    match pairDist b (routeFlight s n label) (k % 4096) with
    | none => s
    | some d =>
      let cell : TransitCell :=
        { queue := queue, due := k + d, fseq := c.fseq, line := c.line, seg := c.seg, eol := c.eol, payload := c.payload }
      let same (x : TransitCell) : Bool := x.queue == queue && x.due == k + d
      if c.payload.isEmpty && s.aqf.transit.any same then s
      else { s with aqf := { s.aqf with transit := s.aqf.transit.filter (fun x => !same x) ++ [cell] } }

/-- The frame of a tag: FSEQ within ±128 of the frame in progress, or for audio the frame in progress. -/
def tagFrame (s : State) (f : Flow) (fseq : Nat) : Nat :=
  if f.essence = 1 then fiNow s f.domain else extend 8 fseq (fiNow s f.domain)

/-- The deadline of a cell (R144). -/
def cellDeadline (s : State) (f : Flow) (fi line : Nat) (p : List Byte) : Nat :=
  f.latency +
    match f.essence with
    | 0 => tOf s f.domain fi + lineOffset f.format line 2
    | 1 => extend 32 (fieldAt p 0 4) s.tim.now + periodStart (audioRate f.format) 6
    | _ => tOf s f.domain (fi + 1)

/-- A late cell: counted, and reported for the first of each flow and frame. -/
def lateCell (n fi line : Nat) (s : State) : State :=
  raiseOnce n fi { src := 0x083, data := [(2, n), (2, line), (1, fi % 256)] }
    { s with aqf := { s.aqf with cellLate := satAdd 32 s.aqf.cellLate 1 } }

/-- The bytes of an ANC stream up to and with its closing record, once that has come. -/
def ancEnd : Nat → Nat → List Byte → Option Nat
  | 0, _, _ => none
  | k + 1, pos, l =>
    let w := fieldAt l 4 2
    if l.length < 6 then none
    else if w = 0 then some (pos + 6)
    else if l.length < 6 + 2 * w then none
    else ancEnd k (pos + 6 + 2 * w) (l.drop (6 + 2 * w))

/-- A cell of an ANC stream: in order, up to the closing record. -/
def ancCell (n fi seg : Nat) (p : List Byte) (s : State) : State :=
  let x := stored s n (fi % 8)
  let x := if x.fi = fi then x else { fi := fi }
  if x.complete || x.cells % 128 != seg then s
  else
    let l := x.bytes ++ p
    match ancEnd l.length 0 l with
    | some k => takeStream n fi ((l.take k).drop x.bytes.length) true s
    | none => takeStream n fi p false s

/-- A cell of an opaque stream, in order: the byte stream carries each payload with its length and marker word (R195). -/
def opaqueCell (n fi seg : Nat) (p : List Byte) (s : State) : State :=
  let x := stored s n (fi % 8)
  let x := if x.fi = fi then x else { fi := fi }
  if x.cells % 128 != seg then s else takeStream n fi p false s

/-- An audio slice of 6 periods (R35). -/
def audioCell (f : Flow) (p : List Byte) (s : State) : State :=
  let first := fieldAt p 4 1
  let w := fieldAt p 5 1
  let n := periodAt (audioRate f.format) (extend 32 (fieldAt p 0 4) s.tim.now)
  if w = 0 ∨ 8 < w ∨ f.count < first + w then s
  else
    (List.range 6).foldl (fun s k => storeSamples (n + k) (f.base + first)
      ((List.range w).map (fun i => fieldAt p (8 + 4 * (w * k + i)) 4)) s) s

/-- Windows that gather a source count a line just complete; a page whose windows are all filled arms (R101). -/
def fillWindows (n fi line : Nat) (s : State) : State :=
  let y := if line = 0 then stored s n (fmtLines (flowD s n).format - 1) else stored s n (line - 1)
  let joined := y.complete && y.fi == (if line = 0 then fi - 1 else fi)
  let go (w : RunAhead) : RunAhead :=
    if w.src = n ∧ w.filled = false ∧ w.cancelled = false then
      let g := if joined then w.got + 1 else 1
      { w with got := g, filled := decide (w.depth ≤ g) }
    else w
  (tkeys s.tt.slots (fun _ p => p.part && p.pst == .loaded && p.windows.any (fun w => w.src == n && !w.filled))).foldl (fun s k =>
    tryArm k (setPage k { page s k with windows := (page s k).windows.map go } s)) s

/-- A segment of a video line. -/
def videoCell (n fi line seg : Nat) (p : List Byte) (s : State) : State :=
  let was := (stored s n line).complete && (stored s n line).fi == fi
  let s := placeSegment n fi line (240 * seg) p s
  if !was && (stored s n line).complete && (stored s n line).fi == fi then fillWindows n fi line s else s

/-- A cell within its bound goes to its flow: a restored flow is ready, and the first cell of a new frame begins it, or stops a
video input whose stop is armed (R22, R367). -/
def deliver (n fi line seg : Nat) (p : List Byte) (s : State) : State :=
  let s := if (flowD s n).restore.isSome then readyFlow n s else s
  let f := flowD s n
  let begun : Bool := match (tgetD s.ika.marks n []).head? with
    | some m => decide (fi ≤ m.n)
    | none => false
  if f.essence = 1 then audioCell f p s
  else if f.essence = 0 && !begun && f.stop.isSome then stopFlow n s
  else
    let s := if begun then s else frameBegins n fi s.tim.now 0 s
    match f.essence with
    | 0 => videoCell n fi line seg p s
    | 2 => ancCell n fi seg p s
    | _ => opaqueCell n fi seg p s

/-- A cell for input flow `n`. -/
def localCell (n : Nat) (hdr : Nat) (p : List Byte) (s : State) : State :=
  let f := flowD s n
  if f.st != .running then s
  else
    let line := bits hdr 27 16
    let fi := tagFrame s f (bits hdr 35 28)
    let s := discardAhead n 1 s
    if cellDeadline s f fi line p < s.tim.now then lateCell n fi line s else deliver n fi line (bits hdr 15 9) p s

/-- A scheduled cell sent in slot `k` of link `n`. -/
def takeScheduled (n k : Nat) (cell : List Byte) (s : State) : State :=
  if !linkUp s n then s
  else
    let h := cellHeader cell
    let e := tgetD (bankOf (link s n) (bits h 7 7)).rx (k % 4096) {}
    if e.kind < 2 ∨ e.label ≠ bits h 45 36 then
      raise { src := 0x084, data := [(1, n), (2, k % 4096), (2, bits h 45 36)] } s
    else if e.kind = 3 then
      enterTransit n k e.label e.ref
        { fseq := bits h 35 28, line := bits h 27 16, seg := bits h 15 9, eol := bit h 8, payload := cellPayload cell } s
    else localCell (flowNum 0 e.ref) h (cellPayload cell) s

/-- SCHEDULED_CELL_RX. -/
def opScheduledCellRx (n : Nat) (cell : List Byte) (s : State) : State := takeScheduled n (sentSlot s n) cell s

/-! ## Unscheduled cells arrive (R147 to R149, R361, R364) -/

/-- A cell taken out of the receiver at once: its credit goes back. -/
def consumeCell (n : Nat) (s : State) : State := setLink n { link s n with toReturn := (link s n).toReturn + 1 } s

def msgSize (s : State) : Nat := 2 ^ fld s .aqfMsgCfg 0 3 0

/-- A message for the host (R149): a full or disabled ring discards it. -/
def hostMessage (c : UnschedCell) (s : State) : State :=
  let a := s.aqf
  if !a.msgEn || msgSize s ≤ a.msgUsed then raise { src := 0x08F, data := [(2, c.src), (1, c.cls)] } s
  else
    let at_ := rdAddr s .aqfMsgBaseLo .aqfMsgBaseHi 0 + 256 * a.msgTail
    let p := advance (msgSize s) a.msgTail a.msgPhase
    let rec_ := leBytes 2 c.src ++ leBytes 1 c.cls ++ leBytes 1 c.len ++ leBytes 4 (ts32 s.tim.now) ++ leBytes 2 c.seq ++
      leBytes 1 (flag a.msgPhase 0) ++ zeros 5 ++ padTo 240 c.data
    let s := hostWrite at_ rec_ s
    { s with aqf := { s.aqf with msgTail := p.1, msgPhase := p.2, msgUsed := a.msgUsed + 1 } }

/-- A message delivered here, its sequence number checked. -/
def takeMessage (c : UnschedCell) (s : State) : State :=
  let k := 32 * c.src + c.cls
  let want := tgetD s.aqf.seqRx k c.seq
  let s := hostMessage c { s with aqf := { s.aqf with seqRx := tput s.aqf.seqRx k ((c.seq + 1) % 512) } }
  raiseIf (want != c.seq) { src := 0x090, data := [(2, c.src), (1, c.cls), (2, want), (2, c.seq)] } s

/-- A journal fragment at the partner: fragments in order make a record. -/
def takeFragment (p : List Byte) (s : State) : State :=
  let i := fieldAt p 6 2
  let flags := fieldAt p 5 1
  let d := slice p 16 (fieldAt p 8 2)
  let r := s.red
  if s.red.st != .standby && s.red.st != .warm then s
  else if !bit flags 1 && (i == 0 || i != r.jfrags) then setRed { r with jasm := [], jfrags := 0 } s
  else
    let l := if bit flags 1 then d else r.jasm ++ d
    if bit flags 0 then
      opJournalRecordRx (fieldAt p 0 4) (fieldAt p 4 1) (fieldAt p 12 4) l none (setRed { r with jasm := [], jfrags := 0 } s)
    else setRed { r with jasm := l, jfrags := i + 1 } s

/-- A cell for another device: queued, TTL one less. -/
def forwardCell (n : Nat) (c : UnschedCell) (s : State) : State :=
  if c.ttl = 0 then
    raise { src := 0x08E, data := [(2, c.src), (2, c.dest), (1, c.cls)] } (consumeCell n (discard n s))
  else if !(tgetD s.aqf.fwd c.dest {}).valid then consumeCell n (discard n s)
  else if 16384 ≤ bufferCells s || decide (64 ≤ (voq s c.dest c.cls).length) then consumeCell n (discard n s)
  else
    setVoq c.dest c.cls (voq s c.dest c.cls ++ [{ c with ttl := c.ttl - 1 }])
      (setLink n { link s n with heldCells := (link s n).heldCells + 1 } s)

/-- UNSCHEDULED_CELL_RX. -/
def opUnscheduledCellRx (n : Nat) (cell : List Byte) (s : State) : State :=
  let c := parseUnsched cell n
  if !linkUp s n then s
  else if c.cls = 31 && isPair s n then takeFragment c.data (consumeCell n s)
  else if notHolder s then consumeCell n (discard n s)
  else if c.dest = devId s then
    if c.cls < 30 then takeMessage c (consumeCell n s)
    else if c.cls = 30 then consumeCell n s
    else consumeCell n (discard n s)
  else forwardCell n c s

/-! ## Control cells arrive (R121, R122, R364, R372) -/

/-- A pair message by its KIND (R355). -/
def takePair (m : PairMsg) (path : Nat) (s : State) : State :=
  match m.kind with
  | 1 => opBeatRx m path s.red.digestOk s
  | 2 => opPairAckRx m path s
  | 3 => opTakeRx m path s
  | 4 => opAskRx m path s
  | 5 => opPassRx m path s
  | 6 => opPassAckRx m path s
  | 7 => opConfirmRx m path s
  | 8 => opPairCancelRx m path s
  | 9 => opJackRx m path s
  | 10 => opLeaveRx m path s
  | _ => s

/-- A link-local or flooded cell that arrived at `at_`. -/
def linkCell (n at_ : Nat) (c : CtrlCell) (s : State) : State :=
  match c.ctype with
  | 1 => opHelloRx n (parseHello c.msg) s
  | 2 => opTimeRx n { cycle := fieldAt c.msg 0 8, stamp := fieldAt c.msg 8 8, mode := bits (fieldAt c.msg 16 2) 15 12
                      hops := fieldAt c.msg 16 2 % 16, arrived := at_ } s
  | 3 => opCreditRx n (fieldAt c.msg 0 2) s
  | 4 => if linkUp s n then opLinkNoticeRx (parseNotice c.msg) n s else s
  | 9 => if linkUp s n && isPair s n then takePair (parsePair c.msg) 0 s else discard n s
  | _ => discard n s

/-- What a routed cell does at a device that acts on it, but for ROUTE_CHECK. -/
def actOn (c : CtrlCell) (s : State) : State :=
  match c.ctype with
  | 8 => takeCommit (parseCommit c.msg) s
  | 11 => takeResult (parseRouteMsg c.msg) s
  | _ => s

/-- The cell as the next device is to get it: ROUTE_RESULT carries the index of the link it crosses (R142). -/
def onward (c : CtrlCell) : CtrlCell :=
  if c.ctype = 11 then
    let m := parseRouteMsg c.msg
    { c with msg := routeMsgBytes { m with hop := m.hop - 1 } }
  else c

/-- A routed cell: forwarded, acted on, or discarded where it goes astray. -/
def routedCell (n : Nat) (c : CtrlCell) (s : State) : State :=
  let c := { c with hop := c.hop + 1 }
  if !(c.ctype == 8 || c.ctype == 10 || c.ctype == 11 || c.ctype == 12) then discard n s
  else if c.hops ≤ c.hop then
    if c.hop ≠ c.hops ∨ c.dest ≠ devId s then discard n s
    else if c.ctype = 10 then routeCheckAt n (parseRouteMsg c.msg) c s
    else actOn c s
  else if c.visit && c.ctype == 10 then routeCheckAt n (parseRouteMsg c.msg) c s
  else
    sendOn (c.route.getD c.hop 0) (onward c) (if c.visit then actOn c s else s)

/-- A pair link that is UP, for relaying. -/
def relayLink (s : State) : Option Nat := (pairLinks s).head?

/-- A control cell that arrived at `at_`: a unit that does not hold the tablet discards routed cells for the pair, or relays
them after a handover. -/
def takeControl (n at_ : Nat) (cell : List Byte) (s : State) : State :=
  let c := parseCtrl cell
  match (link s n).st with
  | .down => s
  | .framing => s
  | st =>
    if c.hops = 0 then linkCell n at_ c s
    else if st != .up then s
    else if notHolder s && s.red.relayEnd.isSome && !isPair s n then
      match relayLink s with
      | some k => sendCtrl k c s
      | none => discard n s
    else if notHolder s && c.dest == devId s then discard n s
    else routedCell n c s

/-- CONTROL_CELL_RX. -/
def opControlCellRx (n : Nat) (cell : List Byte) (s : State) : State := takeControl n s.tim.now cell s

/-! ## FABRIC_CELL_RX (R131, R224) -/

/-- An arrival slot of a transit queue in which no scheduled cell came. -/
def emptyArrival (n k : Nat) (s : State) : State :=
  let e := tgetD (activeBank (link s n)).rx (k % 4096) {}
  if linkUp s n && e.kind == 3 then enterTransit n k e.label e.ref { fseq := 0, line := 0, seg := 0, eol := false, payload := [] } s else s

/-- A cell with a bad CRC: counted and reported; four in a row take an UP link DOWN. -/
def badCell (n k : Nat) (s : State) : State :=
  let l := link s n
  let s := raise { src := 0x082, data := [(1, n), (2, k % 4096)], unit := some (.link n) }
    { s with aqf := { s.aqf with crcCount := satAdd 32 s.aqf.crcCount 1 } }
  let s := setLink n { l with crcErrors := satAdd 32 l.crcErrors 1, badRun := l.badRun + 1, goodRun := 0 } s
  if l.st == .up && decide (4 ≤ l.badRun + 1) then startLane n (linkDown n 1 [] s) else s

/-- A good cell counts towards leaving FRAMING. -/
def goodCell (n : Nat) (s : State) : State :=
  let l := link s n
  let s := setLink n { l with badRun := 0, goodRun := l.goodRun + 1 } s
  if l.st == .framing && decide (64 ≤ l.goodRun + 1) then sendHello n false (moveLink n .hello s) else s

/-- A cell of slot `k` that arrived at `at_`, in its turn: framed, checked and dispatched by TYPE. -/
def takeCell (n k at_ : Nat) (cell : List Byte) (s : State) : State :=
  match (link s n).st with
  | .down => s
  | st =>
    if !cellCrcOk cell then (if st == .quiet then s else badCell n k s)
    else
      let s := goodCell n s
      match bits (cellHeader cell) 47 46 with
      | 0 => takeScheduled n k cell s
      | 1 => opUnscheduledCellRx n cell (emptyArrival n k s)
      | 2 => takeControl n at_ cell (emptyArrival n k s)
      | _ => emptyArrival n k s

/-- A cell on a shadow: TIME cells alone are taken (R223). -/
def shadowCell (n : Nat) (cell : List Byte) (s : State) : State :=
  let c := parseCtrl cell
  if cellCrcOk cell && bits (cellHeader cell) 47 46 == 2 && c.hops == 0 && c.ctype == 2 then linkCell n s.tim.now c s else s

/-- The cells of the skew buffer in slot order, once every slot before the swap has arrived (R224). -/
def flushSkew (n : Nat) (s : State) : State :=
  let l := link s n
  l.skew.foldl (fun s x => takeCell n x.1 x.2.1 x.2.2 s) (setLink n { l with swapped := none, skew := [] } s)

/-- Every slot before the swap at slot `k` has had its time to arrive over the replaced lane, of flight `f`. -/
def oldArrived (s : State) (k : Nat) (f : Int) : Bool := decide (k ≤ slotOver s f)

/-- A cell on a link whose lane a spare has just replaced: slots before the swap count on the replaced lane alone, those from it
on the spare alone, which wait in the skew buffer of 64 slots for their turn (R224). -/
def swapCell (n k : Nat) (f : Int) (cell : List Byte) (replaced : Bool) (s : State) : State :=
  let s := if oldArrived s k f then flushSkew n s else s
  let j := slotOver s (if replaced then f else (link s n).flight)
  if replaced then
    if k ≤ j then s
    else
      let s := takeCell n j s.tim.now cell s
      if j + 1 = k then flushSkew n s else s
  else if j < k then s
  else if (link s n).swapped.isNone then takeCell n j s.tim.now cell s
  else if (link s n).skew.length < 64 then setLink n { link s n with skew := (link s n).skew ++ [(j, s.tim.now, cell)] } s
  else s

/-- FABRIC_CELL_RX: a cell on a link's lane or on the shadow 144 + k; `replaced` says that it came on the lane that a spare has
replaced. -/
def opFabricCellRx (n : Nat) (cell : List Byte) (replaced : Bool) (s : State) : State :=
  if 144 ≤ n then shadowCell n cell s
  else match (link s n).swapped with
    | some (k, f) => swapCell n k f cell replaced s
    | none => if replaced then s else takeCell n (sentSlot s n) s.tim.now cell s

end Sys2Proof.Machine
end

