-- ==== Sys2Proof/Machine/Sec.lean ====
section
/-!
DEFINITION. Identity, firmware and lifecycle (R420 to R438): fuse runs, boot, recovery, tamper, attestation and updates.
-/
namespace Sys2Proof.Machine
open Sys2Proof

def setSec (x : Sec) (s : State) : State := { s with sec := x }

/-- ENDED (R430). -/
def lifeEnded : Nat := 4
/-- The flash contents of a slot: 0 A, 1 B. -/
def slotImage (s : State) (k : Nat) : List Byte := if k = 0 then s.sec.slotA else s.sec.slotB
def setSlot (k : Nat) (x : List Byte) (s : State) : State :=
  setSec (if k = 0 then { s.sec with slotA := x } else { s.sec with slotB := x }) s

/-! ## The image layout (R422) -/

/-- Bytes of an image; those past its end read erased. -/
def imgBytes (l : List Byte) (off len : Nat) : List Byte :=
  let b := slice l off len
  b ++ List.replicate (len - b.length) 0xFF
def imgField (l : List Byte) (off len : Nat) : Nat := leNat (imgBytes l off len)

def imgMagic : Nat := 0x4847494D
def imgSvn (l : List Byte) : Nat := imgField l 7 1
def imgVersion (l : List Byte) : Nat := imgField l 8 4
def imgBodyLen (l : List Byte) : Nat := imgField l 12 4
def imgBody (l : List Byte) : List Byte := imgBytes l 12288 (imgBodyLen l)
/-- SUPERSEDED: erased flash reads current. -/
def superseded (l : List Byte) : Bool := imgField l 4095 1 == 0
def calzelKey (l : List Byte) : List Byte := imgBytes l 4096 1952
def customerKey (l : List Byte) : List Byte := imgBytes l 6048 1952

/-- What the image digest covers: the whole image, SUPERSEDED read as 0xFF. -/
def digested (l : List Byte) : List Byte := imgBytes l 0 4095 ++ [0xFF] ++ imgBytes l 4096 (8192 + imgBodyLen l)
def imageDigest (l : List Byte) : Nat := Config.shake (digested l)

/-- TYPE and STEPPING are this device's. -/
def unitOk (type stepping : Nat) : Bool := type == bits identWord 31 16 && stepping == bits identWord 15 8

/-- A slot with its first `n` bytes erased. -/
def eraseTo (n : Nat) (l : List Byte) : List Byte := List.replicate n 0xFF ++ l.drop n

/-! ## Verification and boot (R423, R424, R428) -/

/-- The keys of a KEYS block have the fused digests (R423). -/
def keysOk (s : State) (calzel customer : List Byte) : Bool :=
  Config.shake calzel == s.sec.keyDigest && (s.sec.cosign.isNone || s.sec.cosign == some (Config.shake customer))

/-- The body has the digest that the image states (R422). -/
def bodyOk (l : List Byte) : Bool := leBytes 32 (Config.shake (imgBody l)) == imgBytes l 16 32

/-- The result of verifying an image: 1, or the first failing check of R423 plus one; 7 for a read error. -/
def slotResult (s : State) (x : SlotImage) : Nat :=
  let l := x.bytes
  if x.readErr.isSome then 7
  else if imgField l 0 4 ≠ imgMagic || !unitOk (imgField l 4 2) (imgField l 6 1) then 2
  else if imgSvn l < s.sec.counter then 3
  else if !keysOk s (calzelKey l) (customerKey l) then 4
  else if !x.sigOk || (s.sec.cosign.isSome && !x.cosigOk) then 5
  else if !bodyOk l then 6 else 1

/-- Slots in the order in which the ROM tries them. -/
def bootOrder (a b : List Byte) : List Nat :=
  (if superseded a then [] else [0]) ++ (if superseded b then [] else [1]) ++ (if superseded a then [0] else []) ++
    (if superseded b then [1] else [])

/-- FLASH_ERR for an error met at a flash address of a slot (R438). -/
def flashError (slot : Nat) (e : Option Nat) (s : State) : State :=
  match e with
  | some a => raise { src := 0x228, data := [(1, slot), (4, a)] } s
  | none => s

/-- The slots tried in order up to the first that verifies, each result recorded. -/
def tryOrder (a b : SlotImage) : List Nat → State → State
  | [], s => setPwr { s.pwr with boot := .failed } s
  | k :: l, s =>
    let x := if k = 0 then a else b
    let r := slotResult s x
    let s := setSec (if k = 0 then { s.sec with resultA := r } else { s.sec with resultB := r }) s
    let s := flashError k x.readErr s
    if r = 1 then setPwr { s.pwr with boot := .firmware } (setSec { s.sec with slot := k } s) else tryOrder a b l s

/-- What measurement M2 covers: the lifecycle state, the counter, both key digests and the debug port's enable (R428). -/
def lifeBytes (s : State) : List Byte :=
  leBytes 1 s.sec.life ++ leBytes 1 s.sec.counter ++ leBytes 32 s.sec.keyDigest ++ leBytes 32 (s.sec.cosign.getD 0) ++
    leBytes 1 (flag (debugOn s) 0)

/-- Firmware starts from the slot booted: every enabled ring's doorbell line is read (R417), SRAM is interleaved, the identity
key derived, the measurements and the catalogue written, and BOOT_SLOT raised. -/
def startFirmware (s : State) : State :=
  let s := startRings s
  let k := s.sec.slot
  let x := slotImage s k
  let s := { s with
    sec := { s.sec with
      fw := imgVersion x, idKey := true, meas := [Config.romDigest, imageDigest x, Config.shake (lifeBytes s)] }
    ika := { s.ika with cat := (Config.catalogue (imgBody x)).zipIdx.map (fun e => (e.2 + 1, e.1)) }
    hif := { s.hif with sramSingle := false }
    flt := { s.flt with wdogAt := s.tim.now, wdogLast := s.tim.now } }
  raise { src := 0x220, data := [(1, k), (1, if k = 0 then s.sec.resultB else s.sec.resultA)] } (raise { src := 0x025, data := [(1, 0)] } s)

/-- A slot as the ROM reads it: flash whose contents are known holds them; of other flash, what is read becomes known. -/
def found (known : List Byte) (x : SlotImage) : SlotImage := if known.isEmpty then x else { x with bytes := known }

/-- BOOT_IMAGE_VERIFIED: the slots as the ROM reads them. -/
def opBootImageVerified (a b : SlotImage) (s : State) : State :=
  if (s.pwr.boot != .rom && s.pwr.boot != .verifying) || s.pwr.perst || s.pwr.st == .off then s
  else
    let a := found s.sec.slotA a
    let b := found s.sec.slotB b
    let s := setSec { s.sec with slotA := a.bytes, slotB := b.bytes } s
    let s := tryOrder a b (if s.sec.life = lifeEnded then [] else bootOrder a.bytes b.bytes) s
    if s.pwr.boot = .firmware then startFirmware s else s

/-! ## Recovery (R425) -/

/-- RECOVERY_GO: a write to SEC_RECOVERY_CTL. -/
def opRecoveryGo (master : Nat) (value : Word) (s : State) : State :=
  if !bit value.toNat 31 || !masterOk s master then s
  else if s.sec.recBusy then violation master (regOff .secRecoveryCtl 0 0) s
  else if s.pwr.boot == .failed && s.sec.life != lifeEnded then setSec { s.sec with recBusy := true, recResult := 0 } s
  else s

/-- The recovery image in host memory, its body as long as its header says. -/
def recoveryImage (s : State) (x : SlotImage) : SlotImage :=
  let a := rdAddr s .secRecoveryAddrLo .secRecoveryAddrHi 0
  { x with bytes := hostBytes s a (12288 + imgBodyLen (hostBytes s a 4096)) }

/-- Slot A after a recovery with result `r`: checks 1 to 4 and errors before the body leave it alone; the header is written
last. -/
def recovered (r : Nat) (x : SlotImage) (old : List Byte) : List Byte :=
  if r = 1 then x.bytes
  else if r < 6 || decide (x.readErr.getD 12288 < 12288) then old
  else eraseTo 12288 x.bytes

/-- RECOVERY_DONE: `img` is what host memory held at SEC_RECOVERY_ADDR, and what checking it showed. -/
def opRecoveryDone (img : SlotImage) (s : State) : State :=
  if !s.sec.recBusy then s
  else
    let s := place (rdAddr s .secRecoveryAddrLo .secRecoveryAddrHi 0) img.bytes s
    let x := recoveryImage s img
    let r := slotResult s x
    setSec { s.sec with recBusy := false, recResult := r, slotA := recovered r x s.sec.slotA } s

/-! ## Tamper (R426, R427) -/

/-- TAMPER_N low for FILTER_US. -/
def opTamperAssert (s : State) : State :=
  if s.pwr.st == .off then s
  else
    let low := max 1 (fld s .secTamperCfg 0 7 0)
    let u := s.sec.update
    let s := setSec { s.sec with tampered := true, idKey := false, nonce := none, update := none } s
    let s := match u with
      | some x => raise { src := 0x222, data := [(1, 9)], fin := some x.tag } s
      | none => s
    wiped 1 (raise { src := 0x226, data := [(4, low)] } s)

/-- The identity key and the update engine are barred after a tamper or a lifecycle change. -/
def secBarred (s : State) : Bool := s.sec.tampered || s.sec.lifeWiped

/-! ## Identity and attestation (R428, R429) -/

/-- IDENTITY_READ. -/
def opIdentityRead (c : Cmd) (a : Nat) : State → State :=
  hostCmd c 0x0B01 false (checked (fun s => [(secBarred s, denied)])
    (readBack c a (fun s => leBytes 8 s.sec.uid ++ padTo 1952 Config.identityKey)))

/-- Bytes 0 to 159 of a quote. -/
def quoteBytes (s : State) (nonce : List Byte) : List Byte :=
  leBytes 8 s.sec.uid ++ leBytes 4 identWord ++ leBytes 1 s.sec.life ++ leBytes 1 s.sec.counter ++ leBytes 1 s.sec.slot ++
    leBytes 1 (flag s.sec.cosign.isSome 1 + flag (debugOn s) 0) ++ padTo 32 nonce ++ s.sec.meas.flatMap (leBytes 32) ++
    leBytes 8 s.tim.now ++ zeros 8

/-- ATTEST_QUOTE. -/
def opAttestQuote (c : Cmd) (nonceAt a : Nat) (nonce : List Byte) (s : State) : State :=
  hostCmd c 0x0B02 false (checked (fun s => [(secBarred s, denied), (!c.hostOk, addressError nonceAt)])
    (readBack c a (fun s =>
      let q := quoteBytes s (hostBytes s nonceAt 32)
      padTo 3584 (q ++ padTo 3309 (Config.sign q))))) (place nonceAt nonce s)

/-! ## Updates (R433 to R435) -/

/-- The running slot and the staging slot. -/
def bootedImage (s : State) : List Byte := slotImage s s.sec.slot
def staging (s : State) : Nat := 1 - s.sec.slot

/-- The image that records rebuild from the installed one. -/
def rebuild (base : List Byte) : Nat → List Byte → List Byte
  | 0, _ => []
  | k + 1, l =>
    let len := fieldAt l 4 4
    match fieldAt l 0 1 with
    | 1 => imgBytes base (fieldAt l 8 4) len ++ rebuild base k (l.drop 12)
    | 2 => slice l 12 len ++ rebuild base k (l.drop (12 + alignUp 4 len))
    | _ => []

/-- COPY ranges of records within an image of `n` bytes: the records end with END inside their length. -/
def recordsOk (n : Nat) : Nat → List Byte → Bool
  | 0, _ => false
  | k + 1, l =>
    let len := fieldAt l 4 4
    if l.length < 12 then false
    else match fieldAt l 0 1 with
      | 0 => true
      | 1 => decide (fieldAt l 8 4 + len ≤ n) && recordsOk n k (l.drop 12)
      | 2 => decide (12 + len ≤ l.length) && recordsOk n k (l.drop (12 + alignUp 4 len))
      | _ => false

/-- The first failing check of R434, as its reason. -/
def updateReason (s : State) (a len : Nat) : Option Nat :=
  let h := hostBytes s a 4096
  let keys := hostBytes s (a + 4096) 4096
  let cosig := hostBytes s (a + 8192) 4096
  let unit_ := fieldAt h 8 8
  let calzel := keys.take 1952
  let cust := slice keys 1952 1952
  let msg := h.take 768
  let n := fieldAt h 84 4
  if fieldAt h 0 4 ≠ 0x48475544 ∨ !unitOk (fieldAt h 4 2) (fieldAt h 6 1) then some 1
  else if unit_ ≠ s.sec.uid ∧ unit_ ≠ 2 ^ 64 - 1 then some 2
  else if leBytes 32 (imageDigest (bootedImage s)) ≠ slice h 16 32 then some 3
  else if fieldAt h 7 1 < s.sec.counter then some 4
  else if !keysOk s calzel cust then some 5
  else if !Config.verifies calzel msg (slice h 768 3309) ||
      (s.sec.cosign.isSome && !Config.verifies cust msg (cosig.take 3309)) then some 6
  else if 2 ^ 24 < fieldAt h 80 4 ∨ len < 12288 + n ∨
      !recordsOk (12288 + imgBodyLen (bootedImage s)) (n + 1) (hostBytes s (a + 12288) n) then some 7
  else none

/-- UPDATE_APPLY: the checks of R434 decide between a refusal, with the staging slot untouched, and an update in progress. -/
def opUpdateApply (c : Cmd) (a len : Nat) (img : List Byte) (s : State) : State :=
  hostCmd c 0x0B10 false (checked
    (fun s => [(decide (len < 12288), badArg c 24 s), (secBarred s || s.sec.update.isSome, denied), (!c.hostOk, addressError a)])
    (fun s =>
      let h := hostBytes s a 4096
      let s := setSec { s.sec with updated := false } s
      match updateReason s a len with
      | some r => (accepted, raise { src := 0x222, data := [(1, r)], fin := some c.tag } s)
      | none =>
        let n := fieldAt h 84 4
        let u : Update :=
          { tag := c.tag, version := fieldAt h 88 4, target := staging s, digest := fieldAt h 48 32
            out := rebuild (bootedImage s) (n + 1) (hostBytes s (a + 12288) n) }
        let s := setSlot u.target (eraseTo 4096 (slotImage s u.target)) s
        (accepted, setSec { s.sec with update := some u } s))) (place a img s)

/-- UPDATE_DONE: the staging slot holds what the records rebuilt; a wrong digest, or a flash error met in the erase of its first
sector or in the writes, erases that sector again. -/
def opUpdateDone (eraseErr flashErr : Option Nat) (s : State) : State :=
  match s.sec.update with
  | none => s
  | some u =>
    let s := setSec { s.sec with update := none } s
    if eraseErr.isSome || flashErr.isSome || leBytes 32 (imageDigest u.out) != leBytes 32 u.digest then
      let s := raise { src := 0x222, data := [(1, 8)], fin := some u.tag } (setSlot u.target (eraseTo 4096 u.out) s)
      flashError u.target flashErr (flashError u.target eraseErr s)
    else
      let s := setSlot u.target u.out s
      raise { src := 0x221, data := [(4, u.version), (1, u.target)], fin := some u.tag } (setSec { s.sec with updated := true } s)

/-- UPDATE_COMMIT. -/
def opUpdateCommit (c : Cmd) : State → State :=
  hostCmd c 0x0B11 false (checked (fun s => [(secBarred s || !s.sec.updated || s.sec.update.isSome, denied)])
    (fun s =>
      let k := s.sec.slot
      (replyDone, raise { src := 0x223, data := [(1, k)] } (setSlot k ((bootedImage s).set 4095 0) s))))

/-! ## Fuses and lifecycle (R421, R430 to R432, R436) -/

/-- The transitions of R430. -/
def lifeStep (a b : Nat) : Bool := (a == 0 && b == 1) || (a == 1 && b == 2) || (a == 2 && b == 3) || (a != 4 && b == 4)
/-- Those that need a token. -/
def needsToken (a b : Nat) : Bool := (a == 0 && b == 1) || (a == 2 && b == 3)

/-- A token holds (R431): its target, unique ID, nonce and signature under the Calzel key of the booted slot. -/
def tokenOk (s : State) (target : Nat) (l : List Byte) : Bool :=
  fieldAt l 0 4 == 0x48474C54 && fieldAt l 4 1 == target && fieldAt l 8 8 == s.sec.uid && some (fieldAt l 16 32) == s.sec.nonce &&
    Config.verifies (calzelKey (bootedImage s)) (l.take 768) (slice l 768 3309)

def fuseCmd : FuseOp → Cmd
  | .counter c _ => c
  | .cosign c _ => c
  | .lifecycle c _ _ => c
def fuseOpcode : FuseOp → Nat
  | .counter _ _ => 0x0B20
  | .cosign _ _ => 0x0B31
  | .lifecycle _ _ _ => 0x0B30

/-- Why a fuse command is refused, by the present fuse values. -/
def fuseRefused (s : State) (x : FuseOp) : Option Reply :=
  match x with
  | .counter _ _ => firstErr [(decide (imgSvn (bootedImage s) ≤ s.sec.counter) || s.sec.update.isSome || s.sec.tampered, denied)]
  | .cosign c a => firstErr [(s.sec.life != 1 || s.sec.cosign.isSome, denied), (!c.hostOk, addressError a)]
  | .lifecycle c t a =>
    let token := needsToken s.sec.life t
    firstErr [
      (!lifeStep s.sec.life t, badArg c 24 s), (s.sec.update.isSome, denied), (token && !c.hostOk, addressError a),
      (token && !tokenOk s t (hostBytes s a 4096), denied)]

/-- The run of an admitted command, with the value it programs. -/
def fuseRun (s : State) (x : FuseOp) : FuseOp :=
  match x with
  | .counter c _ => .counter c (imgSvn (bootedImage s))
  | y => y

/-- A fuse command checked: refused, or its programming run begins and its ring waits. A nonce is void after any LIFECYCLE_SET. -/
def startFuse (x : FuseOp) (s : State) : State :=
  let c := fuseCmd x
  let r := fuseRefused s x
  let y := fuseRun s x
  let s := match x with
    | .lifecycle _ _ _ => setSec { s.sec with nonce := none } s
    | _ => s
  match r with
  | some r => complete c (fuseOpcode x) r s
  | none => holdRing c (setSec { s.sec with run := some y } s)

/-- A command that would program fuses: it waits for a run under way. -/
def requestFuse (x : FuseOp) (s : State) : State :=
  if s.sec.run.isSome then holdRing (fuseCmd x) (setSec { s.sec with wait := s.sec.wait ++ [x] } s) else startFuse x s

/-- ROLLBACK_ADVANCE. -/
def opRollbackAdvance (c : Cmd) (s : State) : State := requestFuse (.counter c 0) s

/-- LIFECYCLE_SET. -/
def opLifecycleSet (c : Cmd) (target a : Nat) (img : List Byte) (s : State) : State :=
  requestFuse (.lifecycle c target a) (place a img s)

/-- COSIGNER_FUSE. -/
def opCosignerFuse (c : Cmd) (a : Nat) (img : List Byte) (s : State) : State := requestFuse (.cosign c a) (place a img s)

/-- A run ends: the fuses hold their new values, and the command completes. -/
def fuseWritten (x : FuseOp) (s : State) : State :=
  match x with
  | .counter c v =>
    let s := setSec { s.sec with counter := v } s
    let low := flag (decide (imgSvn (slotImage s (staging s)) < v)) 0
    complete c 0x0B20 (replyResult (v + 256 * low)) (raise { src := 0x224, data := [(1, v), (1, low)] } s)
  | .cosign c a => complete c 0x0B31 replyDone (setSec { s.sec with cosign := some (leNat (hostBytes s a 32)) } s)
  | .lifecycle c t _ =>
    let old := s.sec.life
    let s := setSec { s.sec with life := t, lifeWiped := true, idKey := false, nonce := none } s
    complete c 0x0B30 replyDone (wiped 2 (raise { src := 0x225, data := [(1, old), (1, t)] } s))

/-- Waiting fuse commands are checked in order until one begins its run. -/
def nextFuse : List FuseOp → State → State
  | [], s => setSec { s.sec with wait := [] } s
  | x :: l, s =>
    let s := startFuse x s
    if s.sec.run.isSome then setSec { s.sec with wait := l } s else nextFuse l s

/-- FUSE_PROGRAM_DONE. -/
def opFuseProgramDone (s : State) : State :=
  match s.sec.run with
  | none => s
  | some x =>
    let s := fuseWritten x (setSec { s.sec with run := none } s)
    nextFuse s.sec.wait s

/-- TOKEN_NONCE: a fresh random value. -/
def opTokenNonce (c : Cmd) (a : Nat) : State → State :=
  hostCmd c 0x0B32 false (fun s =>
    let n := Config.nonce s.free % 2 ^ 256
    readBack c a (fun _ => leBytes 32 n) { s with free := s.free + 1, sec := { s.sec with nonce := some n } })

end Sys2Proof.Machine
end

