-- ==== Sys2Proof/Machine/Registers.lean ====
section
/-!
DEFINITION. Register writes (R4, R324 to R327, R454): access codes, ranges and the chapters' own conditions on a write, what
a taken write does beside its fields, and the commands for the registers that start or stop a ring, a MAC or a domain.
-/
namespace Sys2Proof.Machine
open Sys2Proof

/-! ## The word of a register -/

/-- EN of a ring's configuration register, which the device keeps with the ring (R330). -/
def ringEn (s : State) (r : Reg) (i : Nat) : Option Bool :=
  match r with
  | .hifCmdCfg => some (cmdRing s i).en
  | .hifCplCfg => some (cplRing s i).en
  | .hifEvtCfg => some (evtRing s i).en
  | .aqfMsgCfg => some s.aqf.msgEn
  | .nmpXringCfg => some s.nmp.xEn
  | _ => none

/-- The RW and RWL fields of a register as they stand. -/
def regWord (s : State) (r : Reg) (i j : Nat) : Nat :=
  match ringEn s r i with
  | some b => clrBit (rd s r i j) 31 + flag b 31
  | none => rd s r i j

/-- The bits of a register that a write sets. -/
def writable (r : Reg) : Nat := (regSpec r).rw ||| (regSpec r).rwl

/-- The word after a write: bits that are not RW or RWL are ignored (R3, R4). -/
def mergeWord (r : Reg) (old v : Nat) : Nat := (old ^^^ (old &&& writable r)) ||| (v &&& writable r)

/-- A write that would change an RWL field while the lock is set (R327). -/
def lockBad (s : State) (r : Reg) (old new : Nat) : Bool := s.hif.lock && ((old ^^^ new) &&& (regSpec r).rwl) != 0

/-- A field `[hi:lo]` changes. -/
def changes (old new hi lo : Nat) : Bool := bits old hi lo != bits new hi lo
/-- A bit goes from 1 to 0, and from 0 to 1. -/
def clears (old new i : Nat) : Bool := bit old i && !bit new i
def sets (old new i : Nat) : Bool := !bit old i && bit new i

/-- A number outside a range. -/
def outside (n lo hi : Nat) : Bool := decide (n < lo) || decide (hi < n)

/-! ## Ranges of the fields (R454) -/

/-- A field of the word is outside its range or holds a reserved value. -/
def rangeBad (r : Reg) (i w : Nat) : Bool :=
  match r with
  | .timDomCfg => outside (bits w 3 0) 1 8
  | .timRefCfg =>
    outside (bits w 11 8) 1 15 || (decide (i < 4) && (decide (4 < bits w 26 24) ||
      (bits w 26 24 == 4 && ((rasterDims (bits w 23 16)).isNone || (rateFrac (bits w 15 12)).isNone))))
  | .timRefLim => bits w 15 0 == 0 || decide (bits w 31 16 ≤ bits w 15 0)
  | .timSelCfg => bits w 31 24 == 0 || decide (3 < bits w 23 20) || bits w 15 8 == 0
  | .timPtbCfg => decide (2 < bits w 30 28) || decide (16 < bits w 12 8) || (decide (1 < bits w 7 4) && decide (bits w 7 4 < 9))
  | .timStepCfg => outside (bits w 31 16) 10 1000 || bits w 15 0 == 0
  | .timOcxoCfg => outside (bits w 28 24) 16 24 || bits w 15 0 == 0
  | .aqfPairCfg => decide (143 < bits w 15 8) || decide (143 < bits w 7 0)
  | .aqfTimeCfg => decide (143 < bits w 7 0)
  | .aqfMsgCfg => outside (bits w 3 0) 4 14
  | .nmpMacCfg => decide (8 < bits w 29 26) || decide (143 < bits w 23 16) || outside (bits w 13 0) 1518 9216
  | .nmpMgmtCfg => bits w 30 29 == 3 || (bit w 28 && bits w 30 29 == 2)
  | .nmpXringCfg => outside (bits w 3 0) 4 14
  | .lnxLaneCfg => bits w 31 30 == 3
  | .audCfg => decide (2000 < bits w 26 16) || outside (bits w 10 0) 16 1024
  | .memDdrCfg => bits w 21 20 == 3
  | .memRegion => decide (134 < bits w 31 24) || decide (2032 < bits w 11 0)
  | .memScrubCfg => outside (bits w 30 27) 1 6 || outside (bits w 26 21) 10 60
  | .memSchedCfg => outside (bits w 9 0) 50 1000
  | .hifLinkCfg => decide (3 < bits w 7 4) || !([1, 3, 4, 5].contains (bits w 3 0))
  | .hifCmdCfg => outside (bits w 3 0) 4 12
  | .hifCplCfg => outside (bits w 3 0) 4 14
  | .hifEvtCfg => outside (bits w 3 0) 6 14
  | .redCfg => outside (bits w 23 16) 2 50 || bits w 15 8 == 0 || decide (bits w 7 0 < 2)
  | .fltCfg => bits w 23 16 == 0
  | .pwrCfg => outside (bits w 29 16) 100 10000
  | .pwrAvsCfg => outside (bits w 31 16) 100 10000
  | .pwrThermCfg => outside (bits w 15 8) 90 125
  | .pwrOutCfg => outside (bits w 23 16) 1 100 || outside (bits w 7 4) 1 4
  | _ => false

/-! ## Conditions of the chapters -/

/-- TIM_DOM_CFG and TIM_DOM_PHASE (R49): the domain has active flows, or PHASE_NS is not below floor(FP). -/
def domBad (s : State) (d rate phase : Nat) : Bool := domActive s d || (rate != 0 && decide (fpFloor rate ≤ phase))

/-- Groups whose sources have a reset unit (R380). -/
def hasResetUnit (g : Nat) : Bool := [4, 6, 7, 8, 9, 10, 11].contains g

/-- Lanes of the die of lane `n`, that lane left out, whose USE is Ethernet (R213). -/
def ethLanes (s : State) (n : Nat) : Nat :=
  ((List.range 72).filter (fun k => (if n < 72 then k else 72 + k) != n && laneUse s (if n < 72 then k else 72 + k) == 1)).length

/-- A lane's owner runs (R213). -/
def ownerRuns (s : State) (n : Nat) : Bool :=
  match laneUse s n with
  | 1 => (macOf s n).isSome
  | 2 => (link s n).st != .down
  | _ => false

/-- A port of an SDI octet is not DISABLED (R175). -/
def octetBusy (s : State) (o : Nat) : Bool :=
  (List.range 8).any (fun i => (sdiRx s (8 * o + i)).st != .disabled || (sdiTx s (8 * o + i)).mode != 0)

/-- An SDI output of an octet is RUNNING or HELD. -/
def octetSends (s : State) (o : Nat) : Bool :=
  s.flows.any (fun f => nsOf f.1 == 1 && f.2.endpoint == 0 && f.2.port / 8 == o && active f.2)

/-- A condition of the register's own chapter forbids the change from `old` to `new`. -/
def ruleBad (s : State) (r : Reg) (i old new : Nat) : Bool :=
  match r with
  | .timDomCfg => domBad s i (bits new 3 0) (domPhase s i)
  | .timDomPhase => domBad s i (domRate s i) new
  | .timPtbCfg => bit old 31 && changes old new 30 0
  | .timMediaCfg => (List.range 8).any (fun o => changes old new o o && octetSends s o)
  | .aqfTimeCfg => changes old new 7 0 && s.tim.sel == 16
  | .svpOctetCfg => (List.range 8).any (fun o => clears old new o && octetBusy s o)
  | .nmpMacCfg =>
    (bit old 31 && (changes old new 30 26 || changes old new 23 16)) ||
      (sets old new 31 && (!placementOk s i new || (macLanes new).any (fun n => laneSt s n == .prbs))) ||
      (clears old new 31 && macBusy s i)
  | .nmpEee => sets old new 31 && macBusy s i
  | .lnxLaneCfg =>
    changes old new 31 30 && (ownerRuns s i || (bits new 31 30 == 1 && decide (32 ≤ ethLanes s i)))
  | .ikaClassCfg => clears old new 31 && s.flows.any (fun f => nsOf f.1 == 2 && f.2.port == i)
  | .audCfg =>
    (changes old new 30 30 && s.flows.any (fun f => f.2.essence == 1)) ||
      (changes old new 10 0 && s.flows.any (fun f => matrixFed f.1 f.2 && active f.2))
  | .memDdrCfg =>
    (changes old new 31 20 && (List.range 8).any (fun k => (ctrl s k).st != .untrained)) ||
      (changes old new 3 0 && (List.range 4).any (fun k => (ctrl s (8 + k)).st != .untrained))
  | .memRegion =>
    decide (storeGib s 1 - 16 < bits new 11 0) || decide (bits new 31 24 * 1024 < storeCap s 0) ||
      decide (bits new 11 0 * 1024 < storeCap s 1)
  | .hifCmdBaseLo => (cmdRing s i).en
  | .hifCmdBaseHi => (cmdRing s i).en
  | .hifCmdDbLo => (cmdRing s i).en
  | .hifCmdDbHi => (cmdRing s i).en
  | .hifCplBaseLo => (cplRing s i).en
  | .hifCplBaseHi => (cplRing s i).en
  | .hifEvtBaseLo => (evtRing s i).en
  | .hifEvtBaseHi => (evtRing s i).en
  | .hifCmdCfg => (bit old 31 && changes old new 3 0) || (sets old new 31 && !(cplRing s (bits new 21 16)).en)
  | .hifCplCfg =>
    (bit old 31 && changes old new 3 0) || (clears old new 31 && s.hif.cmd.any (fun q => q.2.en && cplOf s q.1 == i))
  | .hifEvtCfg => bit old 31 && changes old new 3 0
  | .fltSrcCfg => !assigned i || (bit new 27 && !hasResetUnit (i / 32))
  | _ => false

/-- Registers writable only in a state of the device, and ignored without a log entry otherwise. -/
def writeShut (s : State) (r : Reg) : Bool :=
  match r with
  | .secRecoveryAddrLo => s.pwr.boot != .failed
  | .secRecoveryAddrHi => s.pwr.boot != .failed
  | _ => false

/-! ## What a taken write does beside its fields -/

/-- Audits stop or resume for every classroom as a write changes IKA_AUDIT_CFG.EN or its domain (R249, R253). -/
def auditNote (ran : Bool) (s : State) : State :=
  if auditsRun s then
    if s.ika.allSuspended then raise { src := 0x127, data := [(1, 0xFF)] } { s with ika := { s.ika with allSuspended := false } } else s
  else
    if ran && !s.ika.allSuspended then
      raise { src := 0x126, data := [(1, 0xFF)] } { s with ika := { s.ika with allSuspended := true } }
    else s

/-- A candidate enabled: what was measured before does not count, and candidate 16 enters LOS at once while its link is not
UP; disabled: it is disqualified without a cause (R52, R54, R129). -/
def candWrite (n old new : Nat) (s : State) : State :=
  if sets old new 31 then
    let s := setCand n { cand s n with los := false, okSince := none, freqWarn := false, vValid := false, hasTime := n == 16 && (cand s n).hasTime } s
    if n = 16 && !timeFed s then enterLos 16 s else s
  else if clears old new 31 then
    let s := disqualify n 0 s
    setCand n { cand s n with los := false, cause := 0, freqWarn := false } s
  else s

/-- A domain's write: its frames are counted afresh from its next boundary (R48). -/
def domWrite (d : Nat) (ran : Bool) (s : State) : State :=
  auditNote ran { s with tim := { s.tim with strobed := tdel s.tim.strobed d } }

/-- A media MAC started or stopped by EN (R180, R181, R214): stopping ends its link with cause 3. -/
def macWrite (m old new : Nat) (s : State) : State :=
  if sets old new 31 then macStart m s
  else if clears old new 31 then
    let x := { mac s m with st := .disabled, fecLock := false, retryAt := none, hcd := 0 }
    let up := (mac s m).st == .up || (mac s m).st == .lowPower
    let s := (macLanes new).foldl (fun s n => stopLane n s) s
    if up then macDown m 3 x s else discardFrames m (setMac m x s)
  else s

/-- ADAPT_FREEZE of a lane (R218): the receiver settings are held as they are, or adapt on from there. -/
def freezeWrite (n old new : Nat) (s : State) : State :=
  let l := lane s n
  if sets old new 15 then setLane n { l with rx := adaptedRx s n } s
  else if clears old new 15 then setLane n { l with adaptAt := s.tim.now } s
  else s

/-- USE of a lane (R213, R214): the lane is OFF with USE 0, and IDLE until its new owner starts. -/
def laneWrite (n old new : Nat) (s : State) : State :=
  let s := freezeWrite n old new s
  if changes old new 31 30 && laneSt s n != .prbs then setLane n { endScan (lane s n) with st := .off, rate := 0, best := 0, failAt := none } s
  else s

/-- EN and RATE of the audio complex: sample periods are counted from the present one (R273). -/
def audWrite (old new : Nat) (s : State) : State :=
  if sets old new 31 || changes old new 30 30 then
    { s with aud := { s.aud with period := periodAt (if bit new 30 then 96000 else 48000) s.tim.now } }
  else s

/-- HIF_CFG: setting RC_EN restarts the report cards at SEQ 1 (R343); DB_MODE decides which lines are held (R322, R329). -/
def hifCfgWrite (old new : Nat) (s : State) : State :=
  let s := if sets old new 2 then { s with hif := { s.hif with cardSeq := 0, cardSec := secOf s } } else s
  if sets old new 1 then { s with hif := { s.hif with lines := [] } }
  else if clears old new 1 && !polling s then
    (tkeys s.hif.cmd (fun _ q => q.en)).foldl (fun s q => holdLine (doorbell s q) s) s
  else s

/-- A command ring's EN (R330): set, the doorbell line is read and the ring starts empty; cleared, nothing more is fetched. -/
def cmdWrite (q old new : Nat) (s : State) : State :=
  if sets old new 31 then
    let s := startRing q (setCmdRing q { cmdRing s q with en := true, error := false } s)
    if polling s then s else holdLine (doorbell s q) s
  else if clears old new 31 then dropLine (doorbell s q) (setCmdRing q { cmdRing s q with en := false } s)
  else s

/-- A completion ring's EN (R330). -/
def cplWrite (n old new : Nat) (s : State) : State :=
  if sets old new 31 then setCplRing n { en := true, tail := 0, phase := true, cons := 0, used := 0 } s
  else if clears old new 31 then dropLine (consAddr s .cpl n) (setCplRing n { cplRing s n with en := false } s)
  else s

/-- An event ring's EN (R323, R330, R338): set, held FINAL records are written first, then the OVERFLOW record that is owed;
cleared, the records queued for it are dropped. -/
def evtWrite (n old new : Nat) (s : State) : State :=
  if sets old new 31 then
    let s := setEvtRing n { evtRing s n with en := true, tail := 0, phase := true, cons := 0, used := 0 } s
    payOverflow n true (writeHeld n s.hif.held s)
  else if clears old new 31 then dropQueued n (dropLine (consAddr s .evt n) (setEvtRing n { evtRing s n with en := false } s))
  else s

/-- The message ring's EN (R149). -/
def msgWrite (old new : Nat) (s : State) : State :=
  if sets old new 31 then { s with aqf := { s.aqf with msgEn := true, msgTail := 0, msgPhase := true, msgCons := 0, msgUsed := 0 } }
  else if clears old new 31 then { s with aqf := { s.aqf with msgEn := false } }
  else s

/-- The host frame ring's EN (R207). -/
def xringWrite (old new : Nat) (s : State) : State :=
  if sets old new 31 then { s with nmp := { s.nmp with xEn := true, xTail := 0, xPhase := true, xCons := 0, xUsed := 0 } }
  else if clears old new 31 then { s with nmp := { s.nmp with xEn := false } }
  else s

/-- What a taken write of register `r(i)` from `old` to `new` starts, stops or ends; `ran` says whether audits ran before it. -/
def writeEffect (r : Reg) (i old new : Nat) (ran : Bool) (s : State) : State :=
  match r with
  | .timDomCfg => domWrite i ran s
  | .timDomPhase => domWrite i ran s
  | .timRefCfg => candWrite i old new s
  | .timSelCfg => if clears old new 0 then freeRun s else s
  | .lnxLaneCfg => laneWrite i old new s
  | .nmpMacCfg => macWrite i old new s
  | .nmpMgmtCfg => if clears old new 31 then discardFrames 16 s else s
  | .nmpEee => if clears old new 31 && (mac s i).st == .lowPower then setMac i { mac s i with st := .up } s else s
  | .ikaAuditCfg => auditNote ran s
  | .audCfg => audWrite old new s
  | .hifCfg => hifCfgWrite old new s
  | .hifCmdCfg => cmdWrite i old new s
  | .hifCplCfg => cplWrite i old new s
  | .hifEvtCfg => evtWrite i old new s
  | .aqfTimeCfg => if timeFed s then s else enterLos 16 s
  | .aqfMsgCfg => msgWrite old new s
  | .nmpXringCfg => xringWrite old new s
  | _ => s

/-- A taken write: the fields, then what follows from them. The EN bit of a ring lies with the ring. -/
def takeWrite (r : Reg) (i j old new : Nat) (s : State) : State :=
  writeEffect r i old new (auditsRun s)
    (wr s r i j (if (ringEn s r i).isSome then clrBit new 31 else new))

/-- A write to a register with RW or RWL fields (R4, R326, R327, R454). -/
def writeFields (master : Nat) (r : Reg) (i j v : Nat) (s : State) : State :=
  let old := regWord s r i j
  let new := mergeWord r old v
  if writable r = 0 || writeShut s r then s
  else if lockBad s r old new || rangeBad r i new || ruleBad s r i old new then violation master (regOff r i j) s
  else takeWrite r i j old new s

/-- HIF_SETUP_LOCK: write-1-to-set (R327). -/
def setLock (v : Nat) (s : State) : State := if bit v 0 then { s with hif := { s.hif with lock := true } } else s

/-- A write to a register at its indices: those whose bits are W1C, W1S or WO act on the write. -/
def writeReg (master : Nat) (r : Reg) (i j v : Nat) (s : State) : State :=
  let w := BitVec.ofNat 32 v
  match r with
  | .timRefHist => opRefHistClear i w s
  | .fltSrcStatus => opSrcStatusClear i w s
  | .fltHealthLo => opHealthClear 0 w s
  | .fltHealthHi => opHealthClear 1 w s
  | .fltHealthIka => opHealthClear 2 w s
  | .secRecoveryCtl => opRecoveryGo master w s
  | .memMoverCfg => opMoverReserveWrite master w s
  | .hifSetupLock => setLock v s
  | _ => writeFields master r i j v s

/-! ## The MSI-X table and the CXL component registers (R324, R342) -/

/-- A word of the MSI-X table: a vector unmasked with its pending bit set sends its message. -/
def writeMsix (off v : Nat) (s : State) : State :=
  let k := off / 16
  let x := tgetD s.hif.msix k {}
  let w := BitVec.ofNat 32 v
  let x := match off % 16 / 4 with
    | 0 => { x with addrLo := w }
    | 1 => { x with addrHi := w }
    | 2 => { x with data := w }
    | _ => { x with ctrl := w }
  if x.pend && !bit x.ctrl.toNat 0 && !s.hif.fnMask then
    { s with hif := { s.hif with msix := tput s.hif.msix k { x with pend := false } }, wire := s.wire ++ [.msi k] }
  else { s with hif := { s.hif with msix := tput s.hif.msix k x } }

/-- A 4-byte write to BAR0: a register, an offset of a block at which none lies (R325), the MSI-X table and PBA, the CXL
component registers, or the default target. The reserved fourth word of a source's status is an offset without a register
(DESIGN CHOICE, notes/assumptions/126.md). -/
def writeBar0 (master off v : Nat) (s : State) : State :=
  if !masterOk s master then s
  else if off % 4 ≠ 0 || !decoded off then opBar0DefaultAccess master off 4 true s
  else if off < 0xF00000 then
    match locate off with
    | some (r, i, j) => writeReg master r i j v s
    | none => violation master off s
  else if off < 0xF00400 then writeMsix (off - 0xF00000) v s
  else if off < 0xF10000 then s
  else { s with hif := { s.hif with comp := tput s.hif.comp off (BitVec.ofNat 32 v) } }

/-! ## The commands -/

/-- REGISTER_WRITE. -/
def opRegisterWrite (master off : Nat) (value : Word) (s : State) : State := writeBar0 master off value.toNat s

/-- A write to register `r(i)`, which the command names; an index the register does not have names nothing. -/
def writeNamed (master : Nat) (r : Reg) (i : Nat) (value : Word) (s : State) : State :=
  if i < (regSpec r).count && masterOk s master then writeReg master r i 0 value.toNat s else s

/-- SETUP_LOCK: a write of 1 to LOCK. -/
def opSetupLock (master : Nat) : State → State := writeNamed master .hifSetupLock 0 1

/-- DOMAIN_CFG_WRITE: TIM_DOM_PHASE(d) if `phase`, else TIM_DOM_CFG(d). -/
def opDomainCfgWrite (master dom : Nat) (phase : Bool) (value : Word) : State → State :=
  writeNamed master (if phase then .timDomPhase else .timDomCfg) dom value

/-- CMD_RING_ENABLE: `line` is the PRODUCER that the host has written in the ring's doorbell line. -/
def opCmdRingEnable (master ring : Nat) (value : Word) (line : Option Nat) (s : State) : State :=
  writeNamed master .hifCmdCfg ring value
    (match line with
     | some v => place (doorbell s ring) (leBytes 4 v) s
     | none => s)

def opCmdRingDisable (master ring : Nat) (value : Word) : State → State := writeNamed master .hifCmdCfg ring value
def opCplRingEnable (master ring : Nat) (value : Word) : State → State := writeNamed master .hifCplCfg ring value
def opCplRingDisable (master ring : Nat) (value : Word) : State → State := writeNamed master .hifCplCfg ring value
def opEvtRingEnable (master ring : Nat) (value : Word) : State → State := writeNamed master .hifEvtCfg ring value
def opEvtRingDisable (master ring : Nat) (value : Word) : State → State := writeNamed master .hifEvtCfg ring value
def opReportCardEnable (master : Nat) (value : Word) : State → State := writeNamed master .hifCfg 0 value
def opMsgRingEnable (master : Nat) (value : Word) : State → State := writeNamed master .aqfMsgCfg 0 value
def opXringEnable (master : Nat) (value : Word) : State → State := writeNamed master .nmpXringCfg 0 value
def opMacEnable (master mac : Nat) (value : Word) : State → State := writeNamed master .nmpMacCfg mac value

end Sys2Proof.Machine
end

