-- ==== Sys2Proof/Machine/Boundary.lean ====
section
/-!
DEFINITION. What comes with time for the whole device: the frame boundary of a timing domain (R48) and the report card (R343).
-/
namespace Sys2Proof.Machine
open Sys2Proof

/-! ## DOMAIN_BOUNDARY (R48, R137, R164, R169, R360, R371) -/

/-- The frame whose boundary comes next: the present one if it begins now and has not been strobed. -/
def nextBoundary (s : State) (d : Nat) : Nat :=
  let n := frameFrom s d s.tim.now
  if tOf s d n = s.tim.now ∧ tget? s.tim.strobed d = some n then n + 1 else n

/-- SDI input flows of a domain that run on a receiver that is not IDENTIFIED at the first frame start after their FLOW_START:
held (R164). A flow that a takeover restored has its own limit (R367). -/
def unfedInputs (s : State) (d : Nat) : List Nat :=
  tkeys s.flows (fun n f => nsOf n == 0 && f.endpoint == 0 && f.domain == d && f.st == .running && f.restore.isNone &&
    (sdiRx s f.port).st != .identified)

/-- One ANC or opaque output flow on the fabric releases the stream of frame `n` (R137). -/
def releaseStream (n o : Nat) (s : State) : State :=
  let f := flowD s o
  let k := (releaseOf s f).1
  if f.essence = 2 then releaseCells (ixOf o) (n % 256) 0 false (cutCells k (padTo (240 * k) (latchedStream s o n))) s
  else
    let s := noteSource o n s
    releaseCells (ixOf o) (n % 256) 0 false (cutCells k ((opaqueSent s o n).flatMap (fun x => leBytes 4 x.2.1 ++ x.2.2))) s

/-- The ANC and opaque output flows of a domain on the fabric. -/
def streamOutputs (s : State) (d : Nat) : List Nat :=
  tkeys s.flows (fun n f => nsOf n == 1 && f.endpoint == 2 && f.domain == d && f.st == .running && (f.essence == 2 || f.essence == 3))

/-- What the journal does at boundary `n` of its domain: the holder marks it (R360), a WARM unit applies what waited for it
(R371). -/
def journalBoundary (d n : Nat) (s : State) : State :=
  if d = jdomain s then journalMark n (if s.red.st == .warm then applyWaiting n s else s) else s

/-- DOMAIN_BOUNDARY: frame `n` begins. -/
def opDomainBoundary (d : Nat) (s : State) : State :=
  if 7 < d || !domEn s d then s
  else
    let n := nextBoundary s d
    let s := atLeast (tOf s d n) s
    let s := { s with tim := { s.tim with strobed := tput s.tim.strobed d n } }
    let s := holdFlows (unfedInputs s d) 0xFFFF s
    let s := startTx d s
    let s := if n = 0 then s else (streamOutputs s d).foldl (fun s o => releaseStream (n - 1) o s) s
    journalBoundary d n s

/-! ## REPORT_CARD (R343) -/

/-- HIF_EVT_LOST over all rings. -/
def evtLost (s : State) : Nat := sumBy s.hif.evt (fun q => q.2.lost)

/-- Pages resident. -/
def residentPages (s : State) : Nat := tcount s.tt.slots (fun _ p => resident p)

/-- POWER_W (R411, R440): the AVSBus rails as read, and the others at their values with what is gated left out, rounded half up.
The terms are in 1 / 360,000 W. -/
def powerW (s : State) : Nat :=
  let rails := sumBy (List.range 3) (fun r => railMv (rail s r) * (rail s r).iout)
  let quads := ((List.range 36).filter (fun q => !quadGated s q)).length
  let octets := ((List.range 8).filter (fun o => !octetGated s o)).length
  let n := 36 * rails + 500000 * quads + 360000 * octets + 4140000 + (if hbmGated s then 0 else 39 * 360000)
  (2 * n + 360000) / 720000

/-- The 512 bytes of a report card. -/
def reportCard (s : State) (seq : Nat) : List Byte :=
  leBytes 8 seq ++ leBytes 8 (secOf s * 1000000000) ++ leBytes 1 (modeCode s.tim.mode * 16 + holdQuality s * 4) ++ leBytes 1 (role s) ++
    leBytes 1 (pwrCode s.pwr.st) ++ leBytes 1 (ofSigned 8 (s.pwr.tmax / 4)) ++ leBytes 2 (powerW s) ++ zeros 2 ++
    leBytes 8 s.flt.health ++ s.flt.sevCount.flatMap (leBytes 4) ++ leBytes 4 (loadWrite s) ++ leBytes 4 (readTotal s) ++
    leBytes 4 (poolUsed s) ++ leBytes 1 (residentPages s) ++ zeros 3 ++ leBytes 4 (storeBw s 0) ++ leBytes 4 (storeBw s 1) ++
    leBytes 4 (evtLost s) ++ zeros 4 ++ (List.range 32).flatMap (fun c => leBytes 2 (roomCycles s c)) ++ zeros 368

/-- REPORT_CARD: at a whole second, in RUN or TRIM with RC_EN set, card n goes to buffer n mod 2, up to 1 ms after the
second; the counts of the second start again. -/
def opReportCard (after : Nat) (s : State) : State :=
  let s := atLeast ((s.hif.cardSec + 1) * 1000000000 + min after 1000000) s
  let s :=
    if bit (rd s .hifCfg 0) 2 && (s.pwr.st == .run || s.pwr.st == .trim) then
      let n := s.hif.cardSeq + 1
      let s := hostWrite (rdAddr s .hifRcBaseLo .hifRcBaseHi 0 + 512 * (n % 2)) (reportCard s n) s
      { s with hif := { s.hif with cardSeq := n } }
    else s
  { s with hif := { s.hif with cardSec := secOf s }, flt := { s.flt with sevCount := [0, 0, 0, 0] } }

end Sys2Proof.Machine
end

