-- ==== Sys2Proof/Machine/Fetch.lean ====
section
/-!
DEFINITION. COMMAND_FETCH (R331 to R334): the ring served, the 64-byte command entry with its parameters unpacked under R332,
and the opcode tables, each opcode acting as the command of its own row.
-/
namespace Sys2Proof.Machine
open Sys2Proof

/-! ## The command entry (R331, R332) -/

/-- A command entry taken apart: its opcode, TAG, host addresses and the bytes of ARGS. -/
structure CmdEntry where
  op : Nat
  tag : Nat
  addr0 : Nat
  addr1 : Nat
  args : List Byte
deriving DecidableEq, Repr

def parseEntry (l : List Byte) : CmdEntry :=
  { op := fieldAt l 0 2, tag := fieldAt l 4 4, addr0 := fieldAt l 8 8, addr1 := fieldAt l 16 8, args := slice l 24 40 }

/-- The entry's bytes, reserved bytes 0. -/
def entryBytes (e : CmdEntry) : List Byte :=
  leBytes 2 e.op ++ zeros 2 ++ leBytes 4 e.tag ++ leBytes 8 e.addr0 ++ leBytes 8 e.addr1 ++ padTo 40 e.args

/-- Parameter `k` of a command whose parameters in ARGS have the sizes given (R332). -/
def param (e : CmdEntry) (sizes : List Nat) (k : Nat) : Nat := (unpackFrom 0 sizes e.args).getD k 0

/-! ## The opcode tables -/

/-- What a fetched command does to the device; none where no table lists the opcode. -/
abbrev Fetched := Option (State → State)

/-- Series 0x00 (R341). -/
def general (op : Nat) (c : Cmd) (e : CmdEntry) : Fetched :=
  match op with
  | 0x01 => some (opNop c)
  | 0x02 => some (opVersionRead c e.addr0)
  | 0x03 => some (opFence c)
  | _ => none

/-- Series 0x01 (R22, R30, R176, R211): a flow number takes 2 bytes. -/
def flowSeries (op : Nat) (c : Cmd) (e : CmdEntry) : Fetched :=
  let n := param e [2] 0
  let b := param e [1] 0
  match op with
  | 0x01 => some (opFlowDefine c e.addr0 [])
  | 0x02 => some (opFlowStart c n)
  | 0x03 => some (opFlowStop c n)
  | 0x04 => some (opFlowDelete c n)
  | 0x05 => some (opFlowRead c n e.addr0)
  | 0x10 => some (opConsistDefine c e.addr0 [])
  | 0x11 => some (opConsistDelete c b)
  | 0x12 => some (opConsistRead c b e.addr0)
  | 0x20 => some (opSvpPortSet c e.addr0 [])
  | 0x21 => some (opSvpPortRead c b (param e [1, 1] 1) e.addr0)
  | 0x30 => some (opNmpStreamSet c e.addr0 [])
  | 0x31 => some (opNmpStreamRead c n e.addr0)
  | 0x32 => some (opNmpGateLoad c b e.addr0 [])
  | 0x33 =>
    let z := [1, 1, 2, 4]
    some (opNmpFrameSend c (param e z 0) (param e z 1) (param e z 2) (param e z 3) e.addr0 [])
  | _ => none

/-- Series 0x02 (R110). -/
def pageSeries (op : Nat) (c : Cmd) (e : CmdEntry) : Fetched :=
  let id := param e [4] 0
  match op with
  | 0x01 => some (opPageLoad c e.addr0 [])
  | 0x02 => some (opPageWithdraw c id)
  | 0x03 => some (opPageStatus c id e.addr0)
  | 0x10 => let z := [2, 1, 2]; some (opXpDirect c (param e z 0) (param e z 1) (param e z 2))
  | 0x11 => let z := [2, 2]; some (opXpRead c (param e z 0) (param e z 1) e.addr0)
  | 0x20 => let z := [2, 1]; some (opPlatformSet c (param e z 0) (param e z 1))
  | 0x30 => let z := [1, 1, 1, 4]; some (opCellRowSpare c (param e z 0) (param e z 1) (param e z 2) (param e z 3))
  | _ => none

/-- Series 0x03 (R152): counts of links and of devices have no stated range and take 4 bytes. -/
def fabricSeries (op : Nat) (c : Cmd) (e : CmdEntry) : Fetched :=
  let n := param e [1] 0
  let r := param e [4] 0
  match op with
  | 0x01 => some (opLinkStart c n)
  | 0x02 => some (opLinkStop c n)
  | 0x03 => let z := [1, 4]; some (opLinkRead c (param e z 0) (param e z 1) e.addr0)
  | 0x10 => some (opPlanLoad c n e.addr0 [])
  | 0x11 => some (opPlanSwap c r e.addr0 [])
  | 0x12 => let z := [1, 1]; some (opPlanRead c (param e z 0) (param e z 1) e.addr0)
  | 0x20 => some (opRouteDefine c e.addr0 [])
  | 0x21 => some (opRouteDelete c r)
  | 0x22 => some (opRouteVerify c r)
  | 0x23 => some (opRouteStatus c r e.addr0)
  | 0x30 => some (opCtrlRouteSet c (param e [2] 0) e.addr0 [])
  | 0x31 => let z := [2, 4]; some (opFwdSet c (param e z 0) (param e z 1) e.addr0 [])
  | 0x40 => let z := [2, 1, 1]; some (opMsgSend c (param e z 0) (param e z 1) (param e z 2) e.addr0 [])
  | _ => none

/-- Series 0x04 (R252, R271). -/
def procSeries (op : Nat) (c : Cmd) (e : CmdEntry) : Fetched :=
  let n := param e [2] 0
  match op with
  | 0x01 => some (opProcSet c e.addr0 [])
  | 0x02 => some (opProcParamLoad c n (param e [2, 1] 1) e.addr0 [])
  | 0x03 => some (opProcRead c n e.addr0)
  | 0x10 =>
    let z := [1, 1, 1, 1, 4]
    some (opEngineSpare c (param e z 0) (param e z 1) (param e z 2) (param e z 3) (param e z 4))
  | 0x20 => some (opLayerStatus c n e.addr0)
  | _ => none

/-- Series 0x05 (R295). -/
def audioSeries (op : Nat) (c : Cmd) (e : CmdEntry) : Fetched :=
  let n := param e [2] 0
  let k := param e [2, 2] 1
  match op with
  | 0x01 => some (opAudPortSet c e.addr0 [])
  | 0x02 => some (opAudPortRead c (param e [1] 0) e.addr0)
  | 0x03 => some (opAudPortResume c (param e [1] 0))
  | 0x10 => let z := [2, 2, 2, 2]; some (opAudioXpDirect c (param e z 0) (param e z 1) (param e z 2) (param e z 3))
  | 0x11 => some (opAudioXpRead c n e.addr0)
  | 0x20 => let z := [2, 2, 1, 4]; some (opAudDelaySet c (param e z 0) (param e z 1) (param e z 2) (param e z 3))
  | 0x21 =>
    let z := [2, 2, 4, 2, 1, 4]
    some (opAudDelayChange c (param e z 0) (param e z 1) (param e z 2) (param e z 3) (param e z 4) (param e z 5))
  | 0x22 => some (opAudDelayRead c n k e.addr0)
  | 0x30 => some (opAudCsSet c n e.addr0 [])
  | _ => none

/-- Series 0x06 (R318, R317, R222). -/
def memSeries (op : Nat) (c : Cmd) (e : CmdEntry) : Fetched :=
  let b := param e [1] 0
  match op with
  | 0x01 => some (opMemTrain c b)
  | 0x02 => some (opMemFreq c b (param e [1, 2] 1))
  | 0x03 =>
    let z := [1, 1, 2, 2, 4]
    some (opMemWinSet c (param e z 0) (param e z 1) (param e z 2) (param e z 3) (param e z 4))
  | 0x04 => some (opMemMove c e.addr0 [])
  | 0x10 =>
    let z := [1, 4, 4, 1, 1, 4]
    some (opMemSpare c (param e z 0) (param e z 1) (param e z 2) (param e z 3) (param e z 4) (param e z 5))
  | 0x11 => some (opMemWearRead c b e.addr0)
  | 0x40 => let z := [1, 1, 1, 4]; some (opLaneSpare c (param e z 0) (param e z 1) (param e z 2) (param e z 3))
  | _ => none

/-- Series 0x07 (R75). -/
def timeSeries (op : Nat) (c : Cmd) (e : CmdEntry) : Fetched :=
  let b := param e [1] 0
  match op with
  | 0x01 => some (opTimeStepAccept c b)
  | 0x02 => some (if b = 31 then opRefForceRelease c else opRefForce c b)
  | 0x03 => some (opHoldoverCoefLoad c e.addr0 [])
  | 0x04 => some (opTimeSet c (param e [8] 0))
  | _ => none

/-- Series 0x08 (R375). -/
def pairSeries (op : Nat) (c : Cmd) (e : CmdEntry) : Fetched :=
  match op with
  | 0x01 => some (opPairStart c)
  | 0x02 => some (opPairStop c)
  | 0x03 => some (opTabletRequest c)
  | 0x04 => some (opTabletTake c)
  | 0x05 => some (opPairStatus c e.addr0)
  | _ => none

/-- Series 0x09 (R398, R220, R221). -/
def faultSeries (op : Nat) (c : Cmd) (e : CmdEntry) : Fetched :=
  let z := [2, 2]
  match op with
  | 0x01 => some (opFaultRead c (param e z 0) (param e z 1) e.addr0)
  | 0x02 => some (opFaultClear c (param e z 0) (param e z 1))
  | 0x03 => some (opAliveResume c)
  | 0x04 => some (opSnapshotRead c e.addr0)
  | 0x05 => some (opFaultInject c (param e [2] 0))
  | 0x10 =>
    let z := [1, 1, 1, 1, 1]
    some (opLaneEyeScan c (param e z 0) (param e z 1) (param e z 2) (param e z 3) (param e z 4) e.addr0)
  | 0x11 =>
    let z := [1, 1, 1, 1, 2]
    some (opLanePrbs c (param e z 0) (param e z 1) (param e z 2) (param e z 3) (param e z 4))
  | _ => none

/-- Series 0x0A (R418). -/
def powerSeries (op : Nat) (c : Cmd) (e : CmdEntry) : Fetched :=
  match op with
  | 0x01 => some (opPwrStateSet c (param e [1] 0))
  | 0x02 => some (opThermCoefLoad c e.addr0 [])
  | _ => none

/-- Series 0x0B (R437). -/
def secSeries (op : Nat) (c : Cmd) (e : CmdEntry) : Fetched :=
  match op with
  | 0x01 => some (opIdentityRead c e.addr0)
  | 0x02 => some (opAttestQuote c e.addr0 e.addr1 [])
  | 0x10 => some (opUpdateApply c e.addr0 (param e [4] 0) [])
  | 0x11 => some (opUpdateCommit c)
  | 0x20 => some (opRollbackAdvance c)
  | 0x30 => some (opLifecycleSet c (param e [1] 0) e.addr0 [])
  | 0x31 => some (opCosignerFuse c e.addr0 [])
  | 0x32 => some (opTokenNonce c e.addr0)
  | _ => none

/-- The tables by series. -/
def lookupOp (op : Nat) (c : Cmd) (e : CmdEntry) : Fetched :=
  let k := op % 256
  match op / 256 with
  | 0x00 => general k c e
  | 0x01 => flowSeries k c e
  | 0x02 => pageSeries k c e
  | 0x03 => fabricSeries k c e
  | 0x04 => procSeries k c e
  | 0x05 => audioSeries k c e
  | 0x06 => memSeries k c e
  | 0x07 => timeSeries k c e
  | 0x08 => pairSeries k c e
  | 0x09 => faultSeries k c e
  | 0x0A => powerSeries k c e
  | 0x0B => secSeries k c e
  | _ => none

/-! ## The fetch (R333, R334) -/

/-- Command rings whose command has yet to write its completion in completion ring `n`. -/
def owedTo (s : State) (n : Nat) : Nat := tcount s.hif.cmd (fun q r => r.busy && cplOf s q == n)

/-- A ring has work and an entry free for its completion: each command in progress holds one of the entries free (R336). -/
def canServe (s : State) (q : Nat) : Bool :=
  let r := cmdRing s q
  let n := cplOf s q
  r.en && !r.busy && r.head != r.producer && (cplRing s n).en && decide ((cplRing s n).used + owedTo s n < cplSize s n)

/-- The ring served next in round robin after the one served last. -/
def nextRing (s : State) : Option Nat :=
  ((List.range 64).map (fun i => (s.hif.served + 1 + i) % 64)).find? (canServe s)

/-- Commands are fetched once firmware runs (R417), in RECESS during a service wake (R402), and never in OFF. -/
def fetching (s : State) : Bool :=
  s.pwr.boot == .firmware && s.pwr.st != .off && (s.pwr.st != .recess || s.pwr.svcWake)

/-- A fetch that fails, or returns poison, stops the ring (R334). -/
def fetchError (q : Nat) (s : State) : State :=
  let r := cmdRing s q
  let a := rdAddr s .hifCmdBaseLo .hifCmdBaseHi q + 64 * r.head
  raise { src := 0x000, data := [(1, q)], addr := a } (dropLine (doorbell s q) (setCmdRing q { r with en := false, error := true } s))

/-- The command at HEAD of ring `q` runs; an opcode that no table lists returns BAD_OPCODE. -/
def runFetched (q : Nat) (hostOk cplOk : Bool) (s : State) : State :=
  let r := cmdRing s q
  let e := parseEntry (hostBytes s (rdAddr s .hifCmdBaseLo .hifCmdBaseHi q + 64 * r.head) 64)
  let c : Cmd := { ring := q, tag := e.tag, hostOk := hostOk, cplOk := cplOk }
  let s := setCmdRing q { r with head := (r.head + 1) % cmdSize s q } s
  match lookupOp e.op c e with
  | some f => f s
  | none => complete c e.op badOpcode s

/-- COMMAND_FETCH: `writes` is what the host wrote to its memory before; `fetchOk`, `hostOk` and `cplOk` say whether the fetch,
the command's own accesses and its completion write succeed. -/
def opCommandFetch (writes : List (Nat × List Byte)) (fetchOk hostOk cplOk : Bool) (s : State) : State :=
  let s := writes.foldl (fun s w => place w.1 w.2 s) s
  if !fetching s then s
  else
    match nextRing s with
    | none => s
    | some q =>
      let s := { s with hif := { s.hif with served := q }, pwr := { s.pwr with svcIdle := s.tim.now } }
      if fetchOk then runFetched q hostOk cplOk s else fetchError q s

end Sys2Proof.Machine
end

