-- ==== Sys2Proof/Machine/Settle.lean ====
section
/-! DEFINITION. Block resets (R379, R380): the units whose reset the raises of a command decided, reset in the same cycle. -/
namespace Sys2Proof.Machine
open Sys2Proof

/-- A link reset: as LINK_STOP and then LINK_START. -/
def resetLink (n : Nat) (s : State) : State :=
  if (link s n).started then
    let s := stopLink n s
    bringUp n (setLink n { link s n with started := true } s)
  else s

/-- A logical lane reset: to BASE, its owner reporting as for a loss of lock (R217). -/
def resetLane (n : Nat) (s : State) : State :=
  let st := laneSt s n
  if st == .off || st == .idle || st == .prbs then s
  else
    let s := restartLane n s
    if laneUse s n = 2 then linkLockLost n s
    else match macOf s n with
      | some m => opNmpLinkDown m 0 s
      | none => s

/-- An SDI receiver reset: DISABLED, then the held descriptor reapplied; RUNNING input flows are HELD (R164). -/
def resetRx (p : Nat) (s : State) : State :=
  let x := sdiRx s p
  if x.st = .disabled then s
  else
    let l := inputsOn s p
    let s := leaveIdentified p s
    holdFlows l 0xFFFF (applyRx p (rxBytes p x) (setRx p { x with st := .disabled } s))

/-- An SDI transmitter reset: DISABLED, then the held descriptor reapplied; it sends again from its domain's next boundary
(R169). -/
def resetTx (p : Nat) (s : State) : State :=
  let x := sdiTx s p
  if x.mode = 0 then s else applyTx p (txBytes p x) (setTx p { x with sending := false } s)

/-- A MAC reset: EN cleared and set again. -/
def resetMac (m : Nat) (s : State) : State :=
  if m < 16 ∧ macEn s m then
    let w := rd s .nmpMacCfg m
    macWrite m (clrBit w 31) w (macWrite m w (clrBit w 31) s)
  else s

/-- An engine tile held in reset for 10 µs. -/
def resetTile (c t : Nat) (s : State) : State :=
  { s with ika := { s.ika with heldTiles := tput s.ika.heldTiles (64 * c + t) (s.tim.now + 10000) } }

/-- An audio port reset: DISABLED, then its descriptor reapplied to ACQUIRE. -/
def resetAudPort (p : Nat) (s : State) : State :=
  let x := audPort s p
  if x.mode = 0 then s
  else
    setAudPort p { mode := x.mode, clock := x.clock, justify := x.justify, rate := x.rate, dirs := x.dirs
                   rxOffset := x.rxOffset, txOffset := x.txOffset, st := .acquire } s

/-- One unit reset. -/
def resetUnit (u : ResetUnit) (s : State) : State :=
  match u with
  | .link n => resetLink n s
  | .lane n => resetLane n s
  | .sdiRx p => resetRx p s
  | .sdiTx p => resetTx p s
  | .mac m => resetMac m s
  | .tile c t => resetTile c t s
  | .audPort p => resetAudPort p s

/-- The collector with no reset left to carry out. -/
def clearResets (s : State) : State := { s with flt := { s.flt with resetQ := [] } }

/-- The resets decided, carried out in the order of their raises until none is left: each unit is reset once, so what a reset
itself raises decides no further reset of a unit reset already (DESIGN CHOICE, notes/assumptions/9.md). -/
def settleLoop : Nat → List ResetUnit → State → State
  | 0, _, s => clearResets s
  | n + 1, done, s =>
    match s.flt.resetQ with
    | [] => s
    | u :: rest =>
      let s := { s with flt := { s.flt with resetQ := rest } }
      if done.contains u then settleLoop n done s else settleLoop n (u :: done) (resetUnit u s)

/-- The block resets that a command's raises decided, carried out in its cycle. -/
def settle (s : State) : State :=
  match s.flt.resetQ with
  | [] => s
  | _ => settleLoop 4096 [] s

end Sys2Proof.Machine
end

