-- ==== Sys2Proof/Machine/Meanings.lean ====
section
/-!
DEFINITION. The meaning of every command: what it does to the block (the operation of the same name in its family's file),
with the block resets its raises decided carried out in the same cycle (R379, R380).
-/
namespace Sys2Proof.Machine
open Sys2Proof

/-- The meaning of NOP (R341). -/
def execNop (c : Cmd) (s : State) : Host.Outcome State Fault Refusal :=
  .next (settle (opNop c s))

/-- The meaning of VERSION_READ (R341). -/
def execVersionRead (c : Cmd) (a : Nat) (s : State) : Host.Outcome State Fault Refusal :=
  .next (settle (opVersionRead c a s))

/-- The meaning of FENCE (R341). -/
def execFence (c : Cmd) (s : State) : Host.Outcome State Fault Refusal :=
  .next (settle (opFence c s))

/-- The meaning of FLOW_DEFINE (R22). -/
def execFlowDefine (c : Cmd) (a : Nat) (img : List Byte) (s : State) : Host.Outcome State Fault Refusal :=
  .next (settle (opFlowDefine c a img s))

/-- The meaning of FLOW_START (R22). -/
def execFlowStart (c : Cmd) (flow : Nat) (s : State) : Host.Outcome State Fault Refusal :=
  .next (settle (opFlowStart c flow s))

/-- The meaning of FLOW_STOP (R22). -/
def execFlowStop (c : Cmd) (flow : Nat) (s : State) : Host.Outcome State Fault Refusal :=
  .next (settle (opFlowStop c flow s))

/-- The meaning of FLOW_STOPPED (R22). -/
def execFlowStopped (flow : Nat) (s : State) : Host.Outcome State Fault Refusal :=
  .next (settle (opFlowStopped flow s))

/-- The meaning of FLOW_STOP_TIMEOUT (R22). -/
def execFlowStopTimeout (flow : Nat) (s : State) : Host.Outcome State Fault Refusal :=
  .next (settle (opFlowStopTimeout flow s))

/-- The meaning of FLOW_DELETE (R22). -/
def execFlowDelete (c : Cmd) (flow : Nat) (s : State) : Host.Outcome State Fault Refusal :=
  .next (settle (opFlowDelete c flow s))

/-- The meaning of FLOW_READ (R21). -/
def execFlowRead (c : Cmd) (flow : Nat) (a : Nat) (s : State) : Host.Outcome State Fault Refusal :=
  .next (settle (opFlowRead c flow a s))

/-- The meaning of CONSIST_DEFINE (R28). -/
def execConsistDefine (c : Cmd) (a : Nat) (img : List Byte) (s : State) : Host.Outcome State Fault Refusal :=
  .next (settle (opConsistDefine c a img s))

/-- The meaning of CONSIST_DELETE (R32). -/
def execConsistDelete (c : Cmd) (n : Nat) (s : State) : Host.Outcome State Fault Refusal :=
  .next (settle (opConsistDelete c n s))

/-- The meaning of CONSIST_READ (R29). -/
def execConsistRead (c : Cmd) (n : Nat) (a : Nat) (s : State) : Host.Outcome State Fault Refusal :=
  .next (settle (opConsistRead c n a s))

/-- The meaning of SVP_PORT_SET (R160). -/
def execSvpPortSet (c : Cmd) (a : Nat) (img : List Byte) (s : State) : Host.Outcome State Fault Refusal :=
  .next (settle (opSvpPortSet c a img s))

/-- The meaning of SVP_PORT_READ (R160). -/
def execSvpPortRead (c : Cmd) (port : Nat) (dir : Nat) (a : Nat) (s : State) : Host.Outcome State Fault Refusal :=
  .next (settle (opSvpPortRead c port dir a s))

/-- The meaning of NMP_STREAM_SET (R183). -/
def execNmpStreamSet (c : Cmd) (a : Nat) (img : List Byte) (s : State) : Host.Outcome State Fault Refusal :=
  .next (settle (opNmpStreamSet c a img s))

/-- The meaning of NMP_STREAM_READ (R211). -/
def execNmpStreamRead (c : Cmd) (flow : Nat) (a : Nat) (s : State) : Host.Outcome State Fault Refusal :=
  .next (settle (opNmpStreamRead c flow a s))

/-- The meaning of NMP_GATE_LOAD (R200). -/
def execNmpGateLoad (c : Cmd) (mac : Nat) (a : Nat) (img : List Byte) (s : State) : Host.Outcome State Fault Refusal :=
  .next (settle (opNmpGateLoad c mac a img s))

/-- The meaning of NMP_FRAME_SEND (R208). -/
def execNmpFrameSend (c : Cmd) (mac : Nat) (queue : Nat) (len : Nat) (option_ : Nat) (a : Nat) (img : List Byte) (s : State) : Host.Outcome State Fault Refusal :=
  .next (settle (opNmpFrameSend c mac queue len option_ a img s))

/-- The meaning of NMP_FRAME_SENT (R208). -/
def execNmpFrameSent (mac : Nat) (s : State) : Host.Outcome State Fault Refusal :=
  .next (settle (opNmpFrameSent mac s))

/-- The meaning of PAGE_LOAD (R88). -/
def execPageLoad (c : Cmd) (a : Nat) (img : List Byte) (s : State) : Host.Outcome State Fault Refusal :=
  .next (settle (opPageLoad c a img s))

/-- The meaning of PAGE_WITHDRAW (R99). -/
def execPageWithdraw (c : Cmd) (page : Nat) (s : State) : Host.Outcome State Fault Refusal :=
  .next (settle (opPageWithdraw c page s))

/-- The meaning of PAGE_STATUS (R110). -/
def execPageStatus (c : Cmd) (page : Nat) (a : Nat) (s : State) : Host.Outcome State Fault Refusal :=
  .next (settle (opPageStatus c page a s))

/-- The meaning of XP_DIRECT (R108). -/
def execXpDirect (c : Cmd) (word : Nat) (sel : Nat) (src : Nat) (s : State) : Host.Outcome State Fault Refusal :=
  .next (settle (opXpDirect c word sel src s))

/-- The meaning of XP_READ (R109). -/
def execXpRead (c : Cmd) (first : Nat) (count : Nat) (a : Nat) (s : State) : Host.Outcome State Fault Refusal :=
  .next (settle (opXpRead c first count a s))

/-- The meaning of PLATFORM_SET (R82). -/
def execPlatformSet (c : Cmd) (flow : Nat) (depth : Nat) (s : State) : Host.Outcome State Fault Refusal :=
  .next (settle (opPlatformSet c flow depth s))

/-- The meaning of CELL_ROW_SPARE (R111). -/
def execCellRowSpare (c : Cmd) (bank : Nat) (row : Nat) (dom : Nat) (fi : Nat) (s : State) : Host.Outcome State Fault Refusal :=
  .next (settle (opCellRowSpare c bank row dom fi s))

/-- The meaning of CELL_ROW_COPY_DONE (R111). -/
def execCellRowCopyDone (bank : Nat) (row : Nat) (s : State) : Host.Outcome State Fault Refusal :=
  .next (settle (opCellRowCopyDone bank row s))

/-- The meaning of CELL_ROW_SPARE_SWAP (R111). -/
def execCellRowSpareSwap (bank : Nat) (row : Nat) (s : State) : Host.Outcome State Fault Refusal :=
  .next (settle (opCellRowSpareSwap bank row s))

/-- The meaning of LINK_START (R126). -/
def execLinkStart (c : Cmd) (link : Nat) (s : State) : Host.Outcome State Fault Refusal :=
  .next (settle (opLinkStart c link s))

/-- The meaning of LINK_STOP (R126). -/
def execLinkStop (c : Cmd) (link : Nat) (s : State) : Host.Outcome State Fault Refusal :=
  .next (settle (opLinkStop c link s))

/-- The meaning of LINK_READ (R152). -/
def execLinkRead (c : Cmd) (first : Nat) (count : Nat) (a : Nat) (s : State) : Host.Outcome State Fault Refusal :=
  .next (settle (opLinkRead c first count a s))

/-- The meaning of PLAN_LOAD (R133). -/
def execPlanLoad (c : Cmd) (link : Nat) (a : Nat) (img : List Byte) (s : State) : Host.Outcome State Fault Refusal :=
  .next (settle (opPlanLoad c link a img s))

/-- The meaning of PLAN_SWAP (R135). -/
def execPlanSwap (c : Cmd) (cycle : Nat) (a : Nat) (img : List Byte) (s : State) : Host.Outcome State Fault Refusal :=
  .next (settle (opPlanSwap c cycle a img s))

/-- The meaning of PLAN_READ (R132). -/
def execPlanRead (c : Cmd) (link : Nat) (bank : Nat) (a : Nat) (s : State) : Host.Outcome State Fault Refusal :=
  .next (settle (opPlanRead c link bank a s))

/-- The meaning of ROUTE_DEFINE (R136). -/
def execRouteDefine (c : Cmd) (a : Nat) (img : List Byte) (s : State) : Host.Outcome State Fault Refusal :=
  .next (settle (opRouteDefine c a img s))

/-- The meaning of ROUTE_DELETE (R141). -/
def execRouteDelete (c : Cmd) (feeder : Nat) (s : State) : Host.Outcome State Fault Refusal :=
  .next (settle (opRouteDelete c feeder s))

/-- The meaning of ROUTE_VERIFY (R140). -/
def execRouteVerify (c : Cmd) (feeder : Nat) (s : State) : Host.Outcome State Fault Refusal :=
  .next (settle (opRouteVerify c feeder s))

/-- The meaning of ROUTE_STATUS (R152). -/
def execRouteStatus (c : Cmd) (feeder : Nat) (a : Nat) (s : State) : Host.Outcome State Fault Refusal :=
  .next (settle (opRouteStatus c feeder a s))

/-- The meaning of CTRL_ROUTE_SET (R124). -/
def execCtrlRouteSet (c : Cmd) (dest : Nat) (a : Nat) (img : List Byte) (s : State) : Host.Outcome State Fault Refusal :=
  .next (settle (opCtrlRouteSet c dest a img s))

/-- The meaning of FWD_SET (R147). -/
def execFwdSet (c : Cmd) (first : Nat) (count : Nat) (a : Nat) (img : List Byte) (s : State) : Host.Outcome State Fault Refusal :=
  .next (settle (opFwdSet c first count a img s))

/-- The meaning of MSG_SEND (R149). -/
def execMsgSend (c : Cmd) (dest : Nat) (cls : Nat) (len : Nat) (a : Nat) (img : List Byte) (s : State) : Host.Outcome State Fault Refusal :=
  .next (settle (opMsgSend c dest cls len a img s))

/-- The meaning of PROC_SET (R230). -/
def execProcSet (c : Cmd) (a : Nat) (img : List Byte) (s : State) : Host.Outcome State Fault Refusal :=
  .next (settle (opProcSet c a img s))

/-- The meaning of PROC_PARAM_LOAD (R244). -/
def execProcParamLoad (c : Cmd) (pf : Nat) (set : Nat) (a : Nat) (img : List Byte) (s : State) : Host.Outcome State Fault Refusal :=
  .next (settle (opProcParamLoad c pf set a img s))

/-- The meaning of PROC_READ (R252). -/
def execProcRead (c : Cmd) (pf : Nat) (a : Nat) (s : State) : Host.Outcome State Fault Refusal :=
  .next (settle (opProcRead c pf a s))

/-- The meaning of ENGINE_SPARE (R251). -/
def execEngineSpare (c : Cmd) (room : Nat) (slot : Nat) (tile : Nat) (dom : Nat) (fi : Nat) (s : State) : Host.Outcome State Fault Refusal :=
  .next (settle (opEngineSpare c room slot tile dom fi s))

/-- The meaning of ENGINE_SPARE_SWAP (R251). -/
def execEngineSpareSwap (room : Nat) (s : State) : Host.Outcome State Fault Refusal :=
  .next (settle (opEngineSpareSwap room s))

/-- The meaning of LAYER_STATUS (R271). -/
def execLayerStatus (c : Cmd) (pf : Nat) (a : Nat) (s : State) : Host.Outcome State Fault Refusal :=
  .next (settle (opLayerStatus c pf a s))

/-- The meaning of AUD_PORT_SET (R285). -/
def execAudPortSet (c : Cmd) (a : Nat) (img : List Byte) (s : State) : Host.Outcome State Fault Refusal :=
  .next (settle (opAudPortSet c a img s))

/-- The meaning of AUD_PORT_READ (R295). -/
def execAudPortRead (c : Cmd) (port : Nat) (a : Nat) (s : State) : Host.Outcome State Fault Refusal :=
  .next (settle (opAudPortRead c port a s))

/-- The meaning of AUD_PORT_RESUME (R290). -/
def execAudPortResume (c : Cmd) (port : Nat) (s : State) : Host.Outcome State Fault Refusal :=
  .next (settle (opAudPortResume c port s))

/-- The meaning of AUDIO_XP_DIRECT (R281). -/
def execAudioXpDirect (c : Cmd) (out : Nat) (inp : Nat) (gain : Nat) (ramp : Nat) (s : State) : Host.Outcome State Fault Refusal :=
  .next (settle (opAudioXpDirect c out inp gain ramp s))

/-- The meaning of AUDIO_XP_DIRECT_START (R281). -/
def execAudioXpDirectStart (out : Nat) (inp : Nat) (s : State) : Host.Outcome State Fault Refusal :=
  .next (settle (opAudioXpDirectStart out inp s))

/-- The meaning of AUDIO_XP_READ (R281). -/
def execAudioXpRead (c : Cmd) (out : Nat) (a : Nat) (s : State) : Host.Outcome State Fault Refusal :=
  .next (settle (opAudioXpRead c out a s))

/-- The meaning of AUD_DELAY_SET (R293). -/
def execAudDelaySet (c : Cmd) (first : Nat) (count : Nat) (store : Nat) (max : Nat) (s : State) : Host.Outcome State Fault Refusal :=
  .next (settle (opAudDelaySet c first count store max s))

/-- The meaning of AUD_DELAY_CHANGE (R294). -/
def execAudDelayChange (c : Cmd) (first : Nat) (count : Nat) (delay : Nat) (ramp : Nat) (dom : Nat) (fi : Nat) (s : State) : Host.Outcome State Fault Refusal :=
  .next (settle (opAudDelayChange c first count delay ramp dom fi s))

/-- The meaning of AUD_DELAY_CROSSFADE_END (R294). -/
def execAudDelayCrossfadeEnd (out : Nat) (s : State) : Host.Outcome State Fault Refusal :=
  .next (settle (opAudDelayCrossfadeEnd out s))

/-- The meaning of AUD_DELAY_READ (R295). -/
def execAudDelayRead (c : Cmd) (first : Nat) (count : Nat) (a : Nat) (s : State) : Host.Outcome State Fault Refusal :=
  .next (settle (opAudDelayRead c first count a s))

/-- The meaning of AUD_CS_SET (R283). -/
def execAudCsSet (c : Cmd) (flow : Nat) (a : Nat) (img : List Byte) (s : State) : Host.Outcome State Fault Refusal :=
  .next (settle (opAudCsSet c flow a img s))

/-- The meaning of MEM_TRAIN (R313). -/
def execMemTrain (c : Cmd) (unit : Nat) (s : State) : Host.Outcome State Fault Refusal :=
  .next (settle (opMemTrain c unit s))

/-- The meaning of MEM_FREQ (R314). -/
def execMemFreq (c : Cmd) (pair : Nat) (rate : Nat) (s : State) : Host.Outcome State Fault Refusal :=
  .next (settle (opMemFreq c pair rate s))

/-- The meaning of MEM_FREQ_RESTART (R314). -/
def execMemFreqRestart (pair : Nat) (s : State) : Host.Outcome State Fault Refusal :=
  .next (settle (opMemFreqRestart pair s))

/-- The meaning of MEM_WIN_SET (R300). -/
def execMemWinSet (c : Cmd) (win : Nat) (store : Nat) (base : Nat) (size : Nat) (reserve : Nat) (s : State) : Host.Outcome State Fault Refusal :=
  .next (settle (opMemWinSet c win store base size reserve s))

/-- The meaning of MEM_MOVE (R301). -/
def execMemMove (c : Cmd) (a : Nat) (img : List Byte) (s : State) : Host.Outcome State Fault Refusal :=
  .next (settle (opMemMove c a img s))

/-- The meaning of MEM_MOVE_DONE (R301). -/
def execMemMoveDone (hostOk : Bool) (s : State) : Host.Outcome State Fault Refusal :=
  .next (settle (opMemMoveDone hostOk s))

/-- The meaning of MEM_SPARE (R317). -/
def execMemSpare (c : Cmd) (kind : Nat) (loc : Nat) (row : Nat) (col : Nat) (dom : Nat) (fi : Nat) (s : State) : Host.Outcome State Fault Refusal :=
  .next (settle (opMemSpare c kind loc row col dom fi s))

/-- The meaning of MEM_SPARE_COPY_DONE (R317). -/
def execMemSpareCopyDone (ctrl : Nat) (s : State) : Host.Outcome State Fault Refusal :=
  .next (settle (opMemSpareCopyDone ctrl s))

/-- The meaning of MEM_SPARE_BOUNDARY (R317). -/
def execMemSpareBoundary (ctrl : Nat) (s : State) : Host.Outcome State Fault Refusal :=
  .next (settle (opMemSpareBoundary ctrl s))

/-- The meaning of MEM_SPARE_REPAIR_DONE (R317). -/
def execMemSpareRepairDone (ctrl : Nat) (good : Bool) (s : State) : Host.Outcome State Fault Refusal :=
  .next (settle (opMemSpareRepairDone ctrl good s))

/-- The meaning of MEM_WEAR_READ (R318). -/
def execMemWearRead (c : Cmd) (ctrl : Nat) (a : Nat) (s : State) : Host.Outcome State Fault Refusal :=
  .next (settle (opMemWearRead c ctrl a s))

/-- The meaning of LANE_SPARE (R222). -/
def execLaneSpare (c : Cmd) (lane : Nat) (spare : Nat) (dom : Nat) (fi : Nat) (s : State) : Host.Outcome State Fault Refusal :=
  .next (settle (opLaneSpare c lane spare dom fi s))

/-- The meaning of LANE_SPARE_CHECK (R223). -/
def execLaneSpareCheck (die : Nat) (spare : Nat) (s : State) : Host.Outcome State Fault Refusal :=
  .next (settle (opLaneSpareCheck die spare s))

/-- The meaning of LANE_SPARE_SWAP (R224). -/
def execLaneSpareSwap (die : Nat) (spare : Nat) (s : State) : Host.Outcome State Fault Refusal :=
  .next (settle (opLaneSpareSwap die spare s))

/-- The meaning of TIME_STEP_ACCEPT (R65). -/
def execTimeStepAccept (c : Cmd) (target : Nat) (s : State) : Host.Outcome State Fault Refusal :=
  .next (settle (opTimeStepAccept c target s))

/-- The meaning of REF_FORCE (R61). -/
def execRefForce (c : Cmd) (cand : Nat) (s : State) : Host.Outcome State Fault Refusal :=
  .next (settle (opRefForce c cand s))

/-- The meaning of REF_FORCE_RELEASE (R61). -/
def execRefForceRelease (c : Cmd) (s : State) : Host.Outcome State Fault Refusal :=
  .next (settle (opRefForceRelease c s))

/-- The meaning of HOLDOVER_COEF_LOAD (R67). -/
def execHoldoverCoefLoad (c : Cmd) (a : Nat) (img : List Byte) (s : State) : Host.Outcome State Fault Refusal :=
  .next (settle (opHoldoverCoefLoad c a img s))

/-- The meaning of TIME_SET (R66). -/
def execTimeSet (c : Cmd) (seconds : Nat) (s : State) : Host.Outcome State Fault Refusal :=
  .next (settle (opTimeSet c seconds s))

/-- The meaning of PAIR_START (R354). -/
def execPairStart (c : Cmd) (s : State) : Host.Outcome State Fault Refusal :=
  .next (settle (opPairStart c s))

/-- The meaning of PAIR_STOP (R354). -/
def execPairStop (c : Cmd) (s : State) : Host.Outcome State Fault Refusal :=
  .next (settle (opPairStop c s))

/-- The meaning of TABLET_REQUEST (R371). -/
def execTabletRequest (c : Cmd) (s : State) : Host.Outcome State Fault Refusal :=
  .next (settle (opTabletRequest c s))

/-- The meaning of TABLET_TAKE (R375). -/
def execTabletTake (c : Cmd) (s : State) : Host.Outcome State Fault Refusal :=
  .next (settle (opTabletTake c s))

/-- The meaning of PAIR_STATUS (R375). -/
def execPairStatus (c : Cmd) (a : Nat) (s : State) : Host.Outcome State Fault Refusal :=
  .next (settle (opPairStatus c a s))

/-- The meaning of FAULT_READ (R398). -/
def execFaultRead (c : Cmd) (first : Nat) (count : Nat) (a : Nat) (s : State) : Host.Outcome State Fault Refusal :=
  .next (settle (opFaultRead c first count a s))

/-- The meaning of FAULT_CLEAR (R398). -/
def execFaultClear (c : Cmd) (first : Nat) (count : Nat) (s : State) : Host.Outcome State Fault Refusal :=
  .next (settle (opFaultClear c first count s))

/-- The meaning of ALIVE_RESUME (R387). -/
def execAliveResume (c : Cmd) (s : State) : Host.Outcome State Fault Refusal :=
  .next (settle (opAliveResume c s))

/-- The meaning of SNAPSHOT_READ (R398). -/
def execSnapshotRead (c : Cmd) (a : Nat) (s : State) : Host.Outcome State Fault Refusal :=
  .next (settle (opSnapshotRead c a s))

/-- The meaning of FAULT_INJECT (R398). -/
def execFaultInject (c : Cmd) (src : Nat) (s : State) : Host.Outcome State Fault Refusal :=
  .next (settle (opFaultInject c src s))

/-- The meaning of LANE_EYE_SCAN (R220). -/
def execLaneEyeScan (c : Cmd) (lane : Nat) (eye : Nat) (hStep : Nat) (vStep : Nat) (dwell : Nat) (a : Nat) (s : State) : Host.Outcome State Fault Refusal :=
  .next (settle (opLaneEyeScan c lane eye hStep vStep dwell a s))

/-- The meaning of LANE_EYE_DONE (R220). -/
def execLaneEyeDone (lane : Nat) (counts : List Nat) (s : State) : Host.Outcome State Fault Refusal :=
  .next (settle (opLaneEyeDone lane counts s))

/-- The meaning of LANE_PRBS (R221). -/
def execLanePrbs (c : Cmd) (lane : Nat) (rate : Nat) (pattern : Nat) (dir : Nat) (duration : Nat) (s : State) : Host.Outcome State Fault Refusal :=
  .next (settle (opLanePrbs c lane rate pattern dir duration s))

/-- The meaning of LANE_PRBS_STOP (R221). -/
def execLanePrbsStop (c : Cmd) (lane : Nat) (s : State) : Host.Outcome State Fault Refusal :=
  .next (settle (opLanePrbsStop c lane s))

/-- The meaning of LANE_PRBS_DONE (R221). -/
def execLanePrbsDone (lane : Nat) (errors : Nat) (s : State) : Host.Outcome State Fault Refusal :=
  .next (settle (opLanePrbsDone lane errors s))

/-- The meaning of PWR_STATE_SET (R404). -/
def execPwrStateSet (c : Cmd) (target : Nat) (s : State) : Host.Outcome State Fault Refusal :=
  .next (settle (opPwrStateSet c target s))

/-- The meaning of THERM_COEF_LOAD (R414). -/
def execThermCoefLoad (c : Cmd) (a : Nat) (img : List Byte) (s : State) : Host.Outcome State Fault Refusal :=
  .next (settle (opThermCoefLoad c a img s))

/-- The meaning of IDENTITY_READ (R428). -/
def execIdentityRead (c : Cmd) (a : Nat) (s : State) : Host.Outcome State Fault Refusal :=
  .next (settle (opIdentityRead c a s))

/-- The meaning of ATTEST_QUOTE (R429). -/
def execAttestQuote (c : Cmd) (nonceAt : Nat) (a : Nat) (nonce : List Byte) (s : State) : Host.Outcome State Fault Refusal :=
  .next (settle (opAttestQuote c nonceAt a nonce s))

/-- The meaning of UPDATE_APPLY (R434). -/
def execUpdateApply (c : Cmd) (a : Nat) (len : Nat) (img : List Byte) (s : State) : Host.Outcome State Fault Refusal :=
  .next (settle (opUpdateApply c a len img s))

/-- The meaning of UPDATE_DONE (R434). -/
def execUpdateDone (eraseErr : Option Nat) (flashErr : Option Nat) (s : State) : Host.Outcome State Fault Refusal :=
  .next (settle (opUpdateDone eraseErr flashErr s))

/-- The meaning of UPDATE_COMMIT (R435). -/
def execUpdateCommit (c : Cmd) (s : State) : Host.Outcome State Fault Refusal :=
  .next (settle (opUpdateCommit c s))

/-- The meaning of ROLLBACK_ADVANCE (R436). -/
def execRollbackAdvance (c : Cmd) (s : State) : Host.Outcome State Fault Refusal :=
  .next (settle (opRollbackAdvance c s))

/-- The meaning of LIFECYCLE_SET (R431). -/
def execLifecycleSet (c : Cmd) (target : Nat) (a : Nat) (img : List Byte) (s : State) : Host.Outcome State Fault Refusal :=
  .next (settle (opLifecycleSet c target a img s))

/-- The meaning of COSIGNER_FUSE (R432). -/
def execCosignerFuse (c : Cmd) (a : Nat) (img : List Byte) (s : State) : Host.Outcome State Fault Refusal :=
  .next (settle (opCosignerFuse c a img s))

/-- The meaning of TOKEN_NONCE (R431). -/
def execTokenNonce (c : Cmd) (a : Nat) (s : State) : Host.Outcome State Fault Refusal :=
  .next (settle (opTokenNonce c a s))

/-- The meaning of FUSE_PROGRAM_DONE (R421). -/
def execFuseProgramDone (s : State) : Host.Outcome State Fault Refusal :=
  .next (settle (opFuseProgramDone s))

/-- The meaning of REGISTER_WRITE (R4). -/
def execRegisterWrite (master : Nat) (off : Nat) (value : Word) (s : State) : Host.Outcome State Fault Refusal :=
  .next (settle (opRegisterWrite master off value s))

/-- The meaning of SETUP_LOCK (R327). -/
def execSetupLock (master : Nat) (s : State) : Host.Outcome State Fault Refusal :=
  .next (settle (opSetupLock master s))

/-- The meaning of SYSTIME_LO_READ (R46). -/
def execSystimeLoRead (s : State) : Host.Outcome State Fault Refusal :=
  .next (settle (opSystimeLoRead s))

/-- The meaning of DOMAIN_CFG_WRITE (R49). -/
def execDomainCfgWrite (master : Nat) (dom : Nat) (phase : Bool) (value : Word) (s : State) : Host.Outcome State Fault Refusal :=
  .next (settle (opDomainCfgWrite master dom phase value s))

/-- The meaning of REF_HIST_CLEAR (R55). -/
def execRefHistClear (cand : Nat) (value : Word) (s : State) : Host.Outcome State Fault Refusal :=
  .next (settle (opRefHistClear cand value s))

/-- The meaning of SRC_STATUS_CLEAR (R381). -/
def execSrcStatusClear (src : Nat) (value : Word) (s : State) : Host.Outcome State Fault Refusal :=
  .next (settle (opSrcStatusClear src value s))

/-- The meaning of HEALTH_CLEAR (R382). -/
def execHealthClear (reg : Nat) (value : Word) (s : State) : Host.Outcome State Fault Refusal :=
  .next (settle (opHealthClear reg value s))

/-- The meaning of ALOG_ENTRY_READ (R386). -/
def execAlogEntryRead (entry : Nat) (s : State) : Host.Outcome State Fault Refusal :=
  .next (settle (opAlogEntryRead entry s))

/-- The meaning of CMD_RING_ENABLE (R330). -/
def execCmdRingEnable (master : Nat) (ring : Nat) (value : Word) (line : Option Nat) (s : State) : Host.Outcome State Fault Refusal :=
  .next (settle (opCmdRingEnable master ring value line s))

/-- The meaning of CMD_RING_DISABLE (R330). -/
def execCmdRingDisable (master : Nat) (ring : Nat) (value : Word) (s : State) : Host.Outcome State Fault Refusal :=
  .next (settle (opCmdRingDisable master ring value s))

/-- The meaning of CPL_RING_ENABLE (R330). -/
def execCplRingEnable (master : Nat) (ring : Nat) (value : Word) (s : State) : Host.Outcome State Fault Refusal :=
  .next (settle (opCplRingEnable master ring value s))

/-- The meaning of CPL_RING_DISABLE (R330). -/
def execCplRingDisable (master : Nat) (ring : Nat) (value : Word) (s : State) : Host.Outcome State Fault Refusal :=
  .next (settle (opCplRingDisable master ring value s))

/-- The meaning of EVT_RING_ENABLE (R330). -/
def execEvtRingEnable (master : Nat) (ring : Nat) (value : Word) (s : State) : Host.Outcome State Fault Refusal :=
  .next (settle (opEvtRingEnable master ring value s))

/-- The meaning of EVT_RING_DISABLE (R330). -/
def execEvtRingDisable (master : Nat) (ring : Nat) (value : Word) (s : State) : Host.Outcome State Fault Refusal :=
  .next (settle (opEvtRingDisable master ring value s))

/-- The meaning of REPORT_CARD_ENABLE (R343). -/
def execReportCardEnable (master : Nat) (value : Word) (s : State) : Host.Outcome State Fault Refusal :=
  .next (settle (opReportCardEnable master value s))

/-- The meaning of MSG_RING_ENABLE (R149). -/
def execMsgRingEnable (master : Nat) (value : Word) (s : State) : Host.Outcome State Fault Refusal :=
  .next (settle (opMsgRingEnable master value s))

/-- The meaning of XRING_ENABLE (R207). -/
def execXringEnable (master : Nat) (value : Word) (s : State) : Host.Outcome State Fault Refusal :=
  .next (settle (opXringEnable master value s))

/-- The meaning of MAC_ENABLE (R181). -/
def execMacEnable (master : Nat) (mac : Nat) (value : Word) (s : State) : Host.Outcome State Fault Refusal :=
  .next (settle (opMacEnable master mac value s))

/-- The meaning of MOVER_RESERVE_WRITE (R298). -/
def execMoverReserveWrite (master : Nat) (value : Word) (s : State) : Host.Outcome State Fault Refusal :=
  .next (settle (opMoverReserveWrite master value s))

/-- The meaning of RECOVERY_GO (R425). -/
def execRecoveryGo (master : Nat) (value : Word) (s : State) : Host.Outcome State Fault Refusal :=
  .next (settle (opRecoveryGo master value s))

/-- The meaning of RECOVERY_DONE (R425). -/
def execRecoveryDone (img : SlotImage) (s : State) : Host.Outcome State Fault Refusal :=
  .next (settle (opRecoveryDone img s))

/-- The meaning of BAR0_DEFAULT_ACCESS (R325). -/
def execBar0DefaultAccess (master : Nat) (off : Nat) (size : Nat) (write : Bool) (s : State) : Host.Outcome State Fault Refusal :=
  .next (settle (opBar0DefaultAccess master off size write s))

/-- The meaning of BAR2_IO_REQUEST (R324). -/
def execBar2IoRequest (addr : Nat) (write : Bool) (s : State) : Host.Outcome State Fault Refusal :=
  .next (settle (opBar2IoRequest addr write s))

/-- The meaning of CXL_MEM_ACCESS (R300). -/
def execCxlMemAccess (dec : Nat) (off : Nat) (len : Nat) (write : Bool) (data : List Byte) (s : State) : Host.Outcome State Fault Refusal :=
  .next (settle (opCxlMemAccess dec off len write data s))

/-- The meaning of BUS_TIMEOUT (R345). -/
def execBusTimeout (master : Nat) (addr : Nat) (s : State) : Host.Outcome State Fault Refusal :=
  .next (settle (opBusTimeout master addr s))

/-- The meaning of BUS_ORPHAN (R346). -/
def execBusOrphan (master : Nat) (addr : Nat) (s : State) : Host.Outcome State Fault Refusal :=
  .next (settle (opBusOrphan master addr s))

/-- The meaning of DOORBELL_SNOOP (R329). -/
def execDoorbellSnoop (kind : RingKind) (ring : Nat) (value : Nat) (s : State) : Host.Outcome State Fault Refusal :=
  .next (settle (opDoorbellSnoop kind ring value s))

/-- The meaning of DOORBELL_POLL (R329). -/
def execDoorbellPoll (values : List (Nat × Nat)) (s : State) : Host.Outcome State Fault Refusal :=
  .next (settle (opDoorbellPoll values s))

/-- The meaning of CONSUMER_INDEX_READ (R329). -/
def execConsumerIndexRead (kind : RingKind) (ring : Nat) (value : Nat) (s : State) : Host.Outcome State Fault Refusal :=
  .next (settle (opConsumerIndexRead kind ring value s))

/-- The meaning of COMMAND_FETCH (R333). -/
def execCommandFetch (writes : List (Nat × List Byte)) (fetchOk : Bool) (hostOk : Bool) (cplOk : Bool) (s : State) : Host.Outcome State Fault Refusal :=
  .next (settle (opCommandFetch writes fetchOk hostOk cplOk s))

/-- The meaning of EVENT_RECORD_WRITE (R337). -/
def execEventRecordWrite (ok : Bool) (s : State) : Host.Outcome State Fault Refusal :=
  .next (settle (opEventRecordWrite ok s))

/-- The meaning of IRQ_HOLDOFF_END (R342). -/
def execIrqHoldoffEnd (vector : Nat) (s : State) : Host.Outcome State Fault Refusal :=
  .next (settle (opIrqHoldoffEnd vector s))

/-- The meaning of REPORT_CARD (R343). -/
def execReportCard (after : Nat) (s : State) : Host.Outcome State Fault Refusal :=
  .next (settle (opReportCard after s))

/-- The meaning of CXL_LINK_DOWN (R323). -/
def execCxlLinkDown (cause : Nat) (s : State) : Host.Outcome State Fault Refusal :=
  .next (settle (opCxlLinkDown cause s))

/-- The meaning of CXL_LINK_UP (R320). -/
def execCxlLinkUp (speed : Nat) (width : Nat) (io : Bool) (cache : Bool) (mem : Bool) (s : State) : Host.Outcome State Fault Refusal :=
  .next (settle (opCxlLinkUp speed width io cache mem s))

/-- The meaning of DOMAIN_BOUNDARY (R48). -/
def execDomainBoundary (dom : Nat) (s : State) : Host.Outcome State Fault Refusal :=
  .next (settle (opDomainBoundary dom s))

/-- The meaning of SELECTOR_TICK (R57). -/
def execSelectorTick (s : State) : Host.Outcome State Fault Refusal :=
  .next (settle (opSelectorTick s))

/-- The meaning of LOSS_OF_SIGNAL (R52). -/
def execLossOfSignal (cand : Nat) (s : State) : Host.Outcome State Fault Refusal :=
  .next (settle (opLossOfSignal cand s))

/-- The meaning of LOS_CLEAR (R52). -/
def execLosClear (cand : Nat) (s : State) : Host.Outcome State Fault Refusal :=
  .next (settle (opLosClear cand s))

/-- The meaning of FREQ_MEASURE (R53). -/
def execFreqMeasure (offsets : List (Nat × Int)) (s : State) : Host.Outcome State Fault Refusal :=
  .next (settle (opFreqMeasure offsets s))

/-- The meaning of CANDIDATE_QUALIFIED (R54). -/
def execCandidateQualified (cand : Nat) (s : State) : Host.Outcome State Fault Refusal :=
  .next (settle (opCandidateQualified cand s))

/-- The meaning of HOLDOVER_CORRECTION (R67). -/
def execHoldoverCorrection (s : State) : Host.Outcome State Fault Refusal :=
  .next (settle (opHoldoverCorrection s))

/-- The meaning of HOLDOVER_DEGRADED (R68). -/
def execHoldoverDegraded (s : State) : Host.Outcome State Fault Refusal :=
  .next (settle (opHoldoverDegraded s))

/-- The meaning of OCXO_DAC_UPDATE (R69). -/
def execOcxoDacUpdate (code : Nat) (s : State) : Host.Outcome State Fault Refusal :=
  .next (settle (opOcxoDacUpdate code s))

/-- The meaning of OVEN_ADC_READ (R69). -/
def execOvenAdcRead (code : Nat) (s : State) : Host.Outcome State Fault Refusal :=
  .next (settle (opOvenAdcRead code s))

/-- The meaning of OVEN_STABLE (R69). -/
def execOvenStable (s : State) : Host.Outcome State Fault Refusal :=
  .next (settle (opOvenStable s))

/-- The meaning of CDC_FIFO_ERR (R74). -/
def execCdcFifoErr (crossing : Nat) (overflow : Bool) (s : State) : Host.Outcome State Fault Refusal :=
  .next (settle (opCdcFifoErr crossing overflow s))

/-- The meaning of RUN_AHEAD_FILLED (R101). -/
def execRunAheadFilled (page : Nat) (s : State) : Host.Outcome State Fault Refusal :=
  .next (settle (opRunAheadFilled page s))

/-- The meaning of ARM_DEADLINE (R97). -/
def execArmDeadline (page : Nat) (s : State) : Host.Outcome State Fault Refusal :=
  .next (settle (opArmDeadline page s))

/-- The meaning of PAGE_GUARD (R96). -/
def execPageGuard (page : Nat) (s : State) : Host.Outcome State Fault Refusal :=
  .next (settle (opPageGuard page s))

/-- The meaning of COMMIT_RESEND (R95). -/
def execCommitResend (page : Nat) (s : State) : Host.Outcome State Fault Refusal :=
  .next (settle (opCommitResend page s))

/-- The meaning of PAGE_ACTIVATION (R105). -/
def execPageActivation (page : Nat) (s : State) : Host.Outcome State Fault Refusal :=
  .next (settle (opPageActivation page s))

/-- The meaning of CROSSPOINT_LATCH (R79). -/
def execCrosspointLatch (word : Nat) (bad : Bool) (s : State) : Host.Outcome State Fault Refusal :=
  .next (settle (opCrosspointLatch word bad s))

/-- The meaning of COMMIT_EVALUATION (R97). -/
def execCommitEvaluation (page : Nat) (s : State) : Host.Outcome State Fault Refusal :=
  .next (settle (opCommitEvaluation page s))

/-- The meaning of ARMED_RX (R97). -/
def execArmedRx (m : CommitMsg) (s : State) : Host.Outcome State Fault Refusal :=
  .next (settle (opArmedRx m s))

/-- The meaning of REFUSED_RX (R97). -/
def execRefusedRx (m : CommitMsg) (s : State) : Host.Outcome State Fault Refusal :=
  .next (settle (opRefusedRx m s))

/-- The meaning of COMMIT_RX (R96). -/
def execCommitRx (m : CommitMsg) (s : State) : Host.Outcome State Fault Refusal :=
  .next (settle (opCommitRx m s))

/-- The meaning of COMMIT_ACK_RX (R97). -/
def execCommitAckRx (m : CommitMsg) (s : State) : Host.Outcome State Fault Refusal :=
  .next (settle (opCommitAckRx m s))

/-- The meaning of WITHDRAWN_RX (R96). -/
def execWithdrawnRx (m : CommitMsg) (s : State) : Host.Outcome State Fault Refusal :=
  .next (settle (opWithdrawnRx m s))

/-- The meaning of RUN_AHEAD_RX (R102). -/
def execRunAheadRx (m : CommitMsg) (link : Nat) (s : State) : Host.Outcome State Fault Refusal :=
  .next (settle (opRunAheadRx m link s))

/-- The meaning of RUN_AHEAD_CANCEL_RX (R103). -/
def execRunAheadCancelRx (m : CommitMsg) (link : Nat) (s : State) : Host.Outcome State Fault Refusal :=
  .next (settle (opRunAheadCancelRx m link s))

/-- The meaning of PLATFORM_LINE_READ (R84). -/
def execPlatformLineRead (flow : Nat) (line : Nat) (f : ReadFault) (s : State) : Host.Outcome State Fault Refusal :=
  .next (settle (opPlatformLineRead flow line f s))

/-- The meaning of FABRIC_CYCLE_BOUNDARY (R116). -/
def execFabricCycleBoundary (s : State) : Host.Outcome State Fault Refusal :=
  .next (settle (opFabricCycleBoundary s))

/-- The meaning of FABRIC_SLOT (R138). -/
def execFabricSlot (link : Nat) (sigBad : Bool) (genBad : Bool) (s : State) : Host.Outcome State Fault Refusal :=
  .next (settle (opFabricSlot link sigBad genBad s))

/-- The meaning of FABRIC_CELL_RX (R131). -/
def execFabricCellRx (link : Nat) (rx : CellRx) (s : State) : Host.Outcome State Fault Refusal :=
  .next (settle (opFabricCellRx link rx.cell rx.replaced s))

/-- The meaning of SCHEDULED_CELL_RX (R144). -/
def execScheduledCellRx (link : Nat) (cell : List Byte) (s : State) : Host.Outcome State Fault Refusal :=
  .next (settle (opScheduledCellRx link cell s))

/-- The meaning of UNSCHEDULED_CELL_RX (R147). -/
def execUnscheduledCellRx (link : Nat) (cell : List Byte) (s : State) : Host.Outcome State Fault Refusal :=
  .next (settle (opUnscheduledCellRx link cell s))

/-- The meaning of CONTROL_CELL_RX (R121). -/
def execControlCellRx (link : Nat) (cell : List Byte) (s : State) : Host.Outcome State Fault Refusal :=
  .next (settle (opControlCellRx link cell s))

/-- The meaning of HELLO_RX (R126). -/
def execHelloRx (link : Nat) (h : Hello) (s : State) : Host.Outcome State Fault Refusal :=
  .next (settle (opHelloRx link h s))

/-- The meaning of HELLO_SEND (R126). -/
def execHelloSend (link : Nat) (s : State) : Host.Outcome State Fault Refusal :=
  .next (settle (opHelloSend link s))

/-- The meaning of HELLO_LOSS (R126). -/
def execHelloLoss (link : Nat) (s : State) : Host.Outcome State Fault Refusal :=
  .next (settle (opHelloLoss link s))

/-- The meaning of TIME_RX (R128). -/
def execTimeRx (link : Nat) (m : TimeMsg) (s : State) : Host.Outcome State Fault Refusal :=
  .next (settle (opTimeRx link m s))

/-- The meaning of CREDIT_RX (R148). -/
def execCreditRx (link : Nat) (n : Nat) (s : State) : Host.Outcome State Fault Refusal :=
  .next (settle (opCreditRx link n s))

/-- The meaning of LINK_NOTICE_RX (R125). -/
def execLinkNoticeRx (m : Notice) (link : Nat) (s : State) : Host.Outcome State Fault Refusal :=
  .next (settle (opLinkNoticeRx m link s))

/-- The meaning of QUIET_WAKE (R126). -/
def execQuietWake (link : Nat) (s : State) : Host.Outcome State Fault Refusal :=
  .next (settle (opQuietWake link s))

/-- The meaning of QUIET_REFRESH_LOSS (R126). -/
def execQuietRefreshLoss (link : Nat) (s : State) : Host.Outcome State Fault Refusal :=
  .next (settle (opQuietRefreshLoss link s))

/-- The meaning of LPI_REFRESH (R127). -/
def execLpiRefresh (link : Nat) (s : State) : Host.Outcome State Fault Refusal :=
  .next (settle (opLpiRefresh link s))

/-- The meaning of ROUTE_CHECK_RX (R140). -/
def execRouteCheckRx (link : Nat) (m : RouteMsg) (s : State) : Host.Outcome State Fault Refusal :=
  .next (settle (opRouteCheckRx link m s))

/-- The meaning of ROUTE_RESULT_RX (R140). -/
def execRouteResultRx (link : Nat) (m : RouteMsg) (s : State) : Host.Outcome State Fault Refusal :=
  .next (settle (opRouteResultRx link m s))

/-- The meaning of ROUTE_VERIFY_TIMEOUT (R140). -/
def execRouteVerifyTimeout (feeder : Nat) (s : State) : Host.Outcome State Fault Refusal :=
  .next (settle (opRouteVerifyTimeout feeder s))

/-- The meaning of ROUTE_RESERVATION_EXPIRY (R140). -/
def execRouteReservationExpiry (feeder : Nat) (s : State) : Host.Outcome State Fault Refusal :=
  .next (settle (opRouteReservationExpiry feeder s))

/-- The meaning of SDI_HUNT_DWELL (R161). -/
def execSdiHuntDwell (port : Nat) (s : State) : Host.Outcome State Fault Refusal :=
  .next (settle (opSdiHuntDwell port s))

/-- The meaning of SDI_CDR_LOCK (R161). -/
def execSdiCdrLock (port : Nat) (s : State) : Host.Outcome State Fault Refusal :=
  .next (settle (opSdiCdrLock port s))

/-- The meaning of SDI_IDENT_TIMEOUT (R161). -/
def execSdiIdentTimeout (port : Nat) (s : State) : Host.Outcome State Fault Refusal :=
  .next (settle (opSdiIdentTimeout port s))

/-- The meaning of SDI_SIGNAL_LOSS (R164). -/
def execSdiSignalLoss (port : Nat) (cause : Nat) (s : State) : Host.Outcome State Fault Refusal :=
  .next (settle (opSdiSignalLoss port cause s))

/-- The meaning of SDI_FRAME_START (R162). -/
def execSdiFrameStart (port : Nat) (f : SdiFrame) (s : State) : Host.Outcome State Fault Refusal :=
  .next (settle (opSdiFrameStart port f s))

/-- The meaning of SDI_LINE_RX (R165). -/
def execSdiLineRx (port : Nat) (l : SdiLine) (s : State) : Host.Outcome State Fault Refusal :=
  .next (settle (opSdiLineRx port l s))

/-- The meaning of SDI_TX_LINE (R170). -/
def execSdiTxLine (port : Nat) (f : ReadFault) (genBad : Bool) (skew : Int) (s : State) : Host.Outcome State Fault Refusal :=
  .next (settle (opSdiTxLine port f genBad skew s))

/-- The meaning of ETH_FRAME_RX (R184). -/
def execEthFrameRx (mac : Nat) (frame : List Byte) (f : EthFault) (s : State) : Host.Outcome State Fault Refusal :=
  .next (settle (opEthFrameRx mac frame f s))

/-- The meaning of NMP_LINK_UP (R180). -/
def execNmpLinkUp (mac : Nat) (hcd : Nat) (s : State) : Host.Outcome State Fault Refusal :=
  .next (settle (opNmpLinkUp mac hcd s))

/-- The meaning of NMP_LINK_DOWN (R180). -/
def execNmpLinkDown (mac : Nat) (cause : Nat) (s : State) : Host.Outcome State Fault Refusal :=
  .next (settle (opNmpLinkDown mac cause s))

/-- The meaning of NMP_AN_RETRY (R180). -/
def execNmpAnRetry (mac : Nat) (s : State) : Host.Outcome State Fault Refusal :=
  .next (settle (opNmpAnRetry mac s))

/-- The meaning of NMP_NO_PACKET_TIMEOUT (R190). -/
def execNmpNoPacketTimeout (flow : Nat) (s : State) : Host.Outcome State Fault Refusal :=
  .next (settle (opNmpNoPacketTimeout flow s))

/-- The meaning of NMP_LEG_LOST (R192). -/
def execNmpLegLost (flow : Nat) (leg : Nat) (s : State) : Host.Outcome State Fault Refusal :=
  .next (settle (opNmpLegLost flow leg s))

/-- The meaning of NMP_PACKET_SEND (R197). -/
def execNmpPacketSend (flow : Nat) (leg : Nat) (f : ReadFault) (genBad : Bool) (s : State) : Host.Outcome State Fault Refusal :=
  .next (settle (opNmpPacketSend flow leg f genBad s))

/-- The meaning of NMP_TX_LATE (R202). -/
def execNmpTxLate (flow : Nat) (leg : Nat) (s : State) : Host.Outcome State Fault Refusal :=
  .next (settle (opNmpTxLate flow leg s))

/-- The meaning of NMP_GATE_START (R200). -/
def execNmpGateStart (mac : Nat) (s : State) : Host.Outcome State Fault Refusal :=
  .next (settle (opNmpGateStart mac s))

/-- The meaning of NMP_GATE_INTERVAL (R199). -/
def execNmpGateInterval (mac : Nat) (s : State) : Host.Outcome State Fault Refusal :=
  .next (settle (opNmpGateInterval mac s))

/-- The meaning of MGMT_MAC_COLLISION (R210). -/
def execMgmtMacCollision (sent : Nat) (slots : Nat) (s : State) : Host.Outcome State Fault Refusal :=
  .next (settle (opMgmtMacCollision sent slots s))

/-- The meaning of MGMT_BACKOFF_END (R210). -/
def execMgmtBackoffEnd (s : State) : Host.Outcome State Fault Refusal :=
  .next (settle (opMgmtBackoffEnd s))

/-- The meaning of LANE_STEP_DONE (R215). -/
def execLaneStepDone (x : LaneStep) (s : State) : Host.Outcome State Fault Refusal :=
  .next (settle (opLaneStepDone x.lane x.r s))

/-- The meaning of LANE_STEP_TIMEOUT (R215). -/
def execLaneStepTimeout (x : LaneLimit) (s : State) : Host.Outcome State Fault Refusal :=
  .next (settle (opLaneStepTimeout x.lane x.far s))

/-- The meaning of LANE_RETRY (R215). -/
def execLaneRetry (lane : Nat) (s : State) : Host.Outcome State Fault Refusal :=
  .next (settle (opLaneRetry lane s))

/-- The meaning of LANE_LOCK_LOST (R217). -/
def execLaneLockLost (lane : Nat) (s : State) : Host.Outcome State Fault Refusal :=
  .next (settle (opLaneLockLost lane s))

/-- The meaning of LANE_MARGIN_MEASURE (R219). -/
def execLaneMarginMeasure (lane : Nat) (h : Nat) (v : Nat) (s : State) : Host.Outcome State Fault Refusal :=
  .next (settle (opLaneMarginMeasure lane h v s))

/-- The meaning of LANE_SHADOW_READY (R223). -/
def execLaneShadowReady (die : Nat) (spare : Nat) (farReady : Bool) (s : State) : Host.Outcome State Fault Refusal :=
  .next (settle (opLaneShadowReady die spare farReady s))

/-- The meaning of ENGINE_WORK_ITEM (R233). -/
def execEngineWorkItem (pf : Nat) (slot : Nat) (item : Nat) (f : ReadFault) (parity : Bool) (srcPpm : Int) (s : State) : Host.Outcome State Fault Refusal :=
  .next (settle (opEngineWorkItem pf slot item f parity srcPpm s))

/-- The meaning of SRC_RECOVER (R242). -/
def execSrcRecover (pf : Nat) (s : State) : Host.Outcome State Fault Refusal :=
  .next (settle (opSrcRecover pf s))

/-- The meaning of FRAME_SYNC_DECISION (R236). -/
def execFrameSyncDecision (pf : Nat) (s : State) : Host.Outcome State Fault Refusal :=
  .next (settle (opFrameSyncDecision pf s))

/-- The meaning of ENGINE_AUDIT_TICK (R249). -/
def execEngineAuditTick (room : Nat) (crc : Nat) (s : State) : Host.Outcome State Fault Refusal :=
  .next (settle (opEngineAuditTick room crc s))

/-- The meaning of ENGINE_AUDIT_THIRD_OPINION (R249). -/
def execEngineAuditThirdOpinion (room : Nat) (crc : Nat) (s : State) : Host.Outcome State Fault Refusal :=
  .next (settle (opEngineAuditThirdOpinion room crc s))

/-- The meaning of LAYER_DECISION (R268). -/
def execLayerDecision (pf : Nat) (s : State) : Host.Outcome State Fault Refusal :=
  .next (settle (opLayerDecision pf s))

/-- The meaning of MATRIX_SAMPLE_PERIOD (R273). -/
def execMatrixSamplePeriod (residueBad : Option Nat) (bad : List (Nat × ReadFault)) (s : State) : Host.Outcome State Fault Refusal :=
  .next (settle (opMatrixSamplePeriod residueBad bad s))

/-- The meaning of AUD_PORT_FRAME_RX (R287). -/
def execAudPortFrameRx (port : Nat) (stamp : Nat) (words : List Nat) (inactive : List Nat) (rate : Nat) (codingErr : Nat) (crccErr : Nat) (s : State) : Host.Outcome State Fault Refusal :=
  .next (settle (opAudPortFrameRx port stamp words inactive rate codingErr crccErr s))

/-- The meaning of AUD_PORT_FRAME_TX (R288). -/
def execAudPortFrameTx (port : Nat) (stamp : Nat) (s : State) : Host.Outcome State Fault Refusal :=
  .next (settle (opAudPortFrameTx port stamp s))

/-- The meaning of AUD_CLOCK_LOSS (R290). -/
def execAudClockLoss (port : Nat) (s : State) : Host.Outcome State Fault Refusal :=
  .next (settle (opAudClockLoss port s))

/-- The meaning of TRAIN_STEP_DONE (R313). -/
def execTrainStepDone (ctrl : Nat) (fail : Option Nat) (s : State) : Host.Outcome State Fault Refusal :=
  .next (settle (opTrainStepDone ctrl fail s))

/-- The meaning of MEM_READ (R309). -/
def execMemRead (master : Nat) (store : Nat) (addr : Nat) (len : Nat) (f : MemFault) (s : State) : Host.Outcome State Fault Refusal :=
  .next (settle (opMemRead master store addr len f s))

/-- The meaning of MEM_WRITE (R306). -/
def execMemWrite (master : Nat) (store : Nat) (addr : Nat) (data : List Byte) (readBad : Bool) (s : State) : Host.Outcome State Fault Refusal :=
  .next (settle (opMemWrite master store addr data readBad s))

/-- The meaning of ROW_IDLE_CLOSE (R305). -/
def execRowIdleClose (ctrl : Nat) (bank : Nat) (s : State) : Host.Outcome State Fault Refusal :=
  .next (settle (opRowIdleClose ctrl bank s))

/-- The meaning of REFRESH_DUE (R311). -/
def execRefreshDue (ctrl : Nat) (rank : Nat) (queued : Bool) (s : State) : Host.Outcome State Fault Refusal :=
  .next (settle (opRefreshDue ctrl rank queued s))

/-- The meaning of DIMM_TEMP_READ (R311). -/
def execDimmTempRead (ctrl : Nat) (dimm : Nat) (temp : Nat) (s : State) : Host.Outcome State Fault Refusal :=
  .next (settle (opDimmTempRead ctrl dimm temp s))

/-- The meaning of MEM_CALIBRATION (R315). -/
def execMemCalibration (ctrl : Nat) (kind : Nat) (s : State) : Host.Outcome State Fault Refusal :=
  .next (settle (opMemCalibration ctrl kind s))

/-- The meaning of SCRUB_PASS_END (R316). -/
def execScrubPassEnd (x : ScrubPass) (s : State) : Host.Outcome State Fault Refusal :=
  .next (settle (opScrubPassEnd x.ctrl x.gated s))

/-- The meaning of PAIRING_TIMEOUT (R354). -/
def execPairingTimeout (s : State) : Host.Outcome State Fault Refusal :=
  .next (settle (opPairingTimeout s))

/-- The meaning of BEAT_SEND (R357). -/
def execBeatSend (s : State) : Host.Outcome State Fault Refusal :=
  .next (settle (opBeatSend s))

/-- The meaning of BEAT_RX (R357). -/
def execBeatRx (m : PairMsg) (path : Nat) (agree : Bool) (s : State) : Host.Outcome State Fault Refusal :=
  .next (settle (opBeatRx m path agree s))

/-- The meaning of PAIR_ACK_RX (R357). -/
def execPairAckRx (m : PairMsg) (path : Nat) (s : State) : Host.Outcome State Fault Refusal :=
  .next (settle (opPairAckRx m path s))

/-- The meaning of TAKE_RX (R366). -/
def execTakeRx (m : PairMsg) (path : Nat) (s : State) : Host.Outcome State Fault Refusal :=
  .next (settle (opTakeRx m path s))

/-- The meaning of ASK_RX (R372). -/
def execAskRx (m : PairMsg) (path : Nat) (s : State) : Host.Outcome State Fault Refusal :=
  .next (settle (opAskRx m path s))

/-- The meaning of PASS_SEND (R372). -/
def execPassSend (s : State) : Host.Outcome State Fault Refusal :=
  .next (settle (opPassSend s))

/-- The meaning of PASS_RX (R372). -/
def execPassRx (m : PairMsg) (path : Nat) (s : State) : Host.Outcome State Fault Refusal :=
  .next (settle (opPassRx m path s))

/-- The meaning of PASS_ACK_RX (R372). -/
def execPassAckRx (m : PairMsg) (path : Nat) (s : State) : Host.Outcome State Fault Refusal :=
  .next (settle (opPassAckRx m path s))

/-- The meaning of HANDOVER_CONFIRM_POINT (R372). -/
def execHandoverConfirmPoint (s : State) : Host.Outcome State Fault Refusal :=
  .next (settle (opHandoverConfirmPoint s))

/-- The meaning of CONFIRM_RX (R372). -/
def execConfirmRx (m : PairMsg) (path : Nat) (s : State) : Host.Outcome State Fault Refusal :=
  .next (settle (opConfirmRx m path s))

/-- The meaning of PAIR_CANCEL_RX (R372). -/
def execPairCancelRx (m : PairMsg) (path : Nat) (s : State) : Host.Outcome State Fault Refusal :=
  .next (settle (opPairCancelRx m path s))

/-- The meaning of HANDOVER_AT_B (R372). -/
def execHandoverAtB (s : State) : Host.Outcome State Fault Refusal :=
  .next (settle (opHandoverAtB s))

/-- The meaning of RELAY_END (R372). -/
def execRelayEnd (s : State) : Host.Outcome State Fault Refusal :=
  .next (settle (opRelayEnd s))

/-- The meaning of JACK_RX (R360). -/
def execJackRx (m : PairMsg) (path : Nat) (s : State) : Host.Outcome State Fault Refusal :=
  .next (settle (opJackRx m path s))

/-- The meaning of LEAVE_RX (R354). -/
def execLeaveRx (m : PairMsg) (path : Nat) (s : State) : Host.Outcome State Fault Refusal :=
  .next (settle (opLeaveRx m path s))

/-- The meaning of JOURNAL_RECORD_RX (R360). -/
def execJournalRecordRx (jseq : Nat) (type : Nat) (fi : Nat) (data : List Byte) (lost : Option Nat) (s : State) : Host.Outcome State Fault Refusal :=
  .next (settle (opJournalRecordRx jseq type fi data lost s))

/-- The meaning of JOURNAL_DIVERGED (R360). -/
def execJournalDiverged (s : State) : Host.Outcome State Fault Refusal :=
  .next (settle (opJournalDiverged s))

/-- The meaning of PATH_LIVENESS_TIMEOUT (R356). -/
def execPathLivenessTimeout (path : Nat) (s : State) : Host.Outcome State Fault Refusal :=
  .next (settle (opPathLivenessTimeout path s))

/-- The meaning of LEASE_END (R358). -/
def execLeaseEnd (s : State) : Host.Outcome State Fault Refusal :=
  .next (settle (opLeaseEnd s))

/-- The meaning of RECESS_WAKE (R365). -/
def execRecessWake (s : State) : Host.Outcome State Fault Refusal :=
  .next (settle (opRecessWake s))

/-- The meaning of TAKEOVER_WAKE_DONE (R366). -/
def execTakeoverWakeDone (s : State) : Host.Outcome State Fault Refusal :=
  .next (settle (opTakeoverWakeDone s))

/-- The meaning of TAKEOVER_RESTORE_DONE (R366). -/
def execTakeoverRestoreDone (s : State) : Host.Outcome State Fault Refusal :=
  .next (settle (opTakeoverRestoreDone s))

/-- The meaning of FIRST_COMMIT (R368). -/
def execFirstCommit (dom : Nat) (s : State) : Host.Outcome State Fault Refusal :=
  .next (settle (opFirstCommit dom s))

/-- The meaning of RESTORED_FLOW_TIMEOUT (R367). -/
def execRestoredFlowTimeout (flow : Nat) (s : State) : Host.Outcome State Fault Refusal :=
  .next (settle (opRestoredFlowTimeout flow s))

/-- The meaning of REVERT_HOLD_OFF (R371). -/
def execRevertHoldOff (s : State) : Host.Outcome State Fault Refusal :=
  .next (settle (opRevertHoldOff s))

/-- The meaning of WARM_PERIOD_END (R371). -/
def execWarmPeriodEnd (s : State) : Host.Outcome State Fault Refusal :=
  .next (settle (opWarmPeriodEnd s))

/-- The meaning of CONSEQ_WINDOW_END (R383). -/
def execConseqWindowEnd (s : State) : Host.Outcome State Fault Refusal :=
  .next (settle (opConseqWindowEnd s))

/-- The meaning of CHIP_RESET_REACTION (R379). -/
def execChipResetReaction (s : State) : Host.Outcome State Fault Refusal :=
  .next (settle (opChipResetReaction s))

/-- The meaning of NMT_SNAPSHOT_TAKEN (R379). -/
def execNmtSnapshotTaken (bytes : List Byte) (s : State) : Host.Outcome State Fault Refusal :=
  .next (settle (opNmtSnapshotTaken bytes s))

/-- The meaning of BLOCK_ERROR_PIN (R385). -/
def execBlockErrorPin (block : Nat) (room : Nat) (s : State) : Host.Outcome State Fault Refusal :=
  .next (settle (opBlockErrorPin block room s))

/-- The meaning of ROLL_CALL (R393). -/
def execRollCall (dom : Nat) (s : State) : Host.Outcome State Fault Refusal :=
  .next (settle (opRollCall dom s))

/-- The meaning of ALIVE_TOGGLE (R387). -/
def execAliveToggle (s : State) : Host.Outcome State Fault Refusal :=
  .next (settle (opAliveToggle s))

/-- The meaning of FW_WATCHDOG (R387). -/
def execFwWatchdog (s : State) : Host.Outcome State Fault Refusal :=
  .next (settle (opFwWatchdog s))

/-- The meaning of PWR_BLOCK_ANSWER (R404). -/
def execPwrBlockAnswer (s : State) : Host.Outcome State Fault Refusal :=
  .next (settle (opPwrBlockAnswer s))

/-- The meaning of PWR_ACK_TIMEOUT (R404). -/
def execPwrAckTimeout (s : State) : Host.Outcome State Fault Refusal :=
  .next (settle (opPwrAckTimeout s))

/-- The meaning of PWR_TRANSITION_DONE (R406). -/
def execPwrTransitionDone (s : State) : Host.Outcome State Fault Refusal :=
  .next (settle (opPwrTransitionDone s))

/-- The meaning of PWR_RETRY (R405). -/
def execPwrRetry (s : State) : Host.Outcome State Fault Refusal :=
  .next (settle (opPwrRetry s))

/-- The meaning of SERVICE_WAKE (R402). -/
def execServiceWake (ring : Nat) (s : State) : Host.Outcome State Fault Refusal :=
  .next (settle (opServiceWake ring s))

/-- The meaning of SERVICE_WAKE_END (R402). -/
def execServiceWakeEnd (s : State) : Host.Outcome State Fault Refusal :=
  .next (settle (opServiceWakeEnd s))

/-- The meaning of AVS_REQUEST (R410). -/
def execAvsRequest (rail : Nat) (s : State) : Host.Outcome State Fault Refusal :=
  .next (settle (opAvsRequest rail s))

/-- The meaning of AVS_RESPONSE (R410). -/
def execAvsResponse (rail : Nat) (mv : Nat) (s : State) : Host.Outcome State Fault Refusal :=
  .next (settle (opAvsResponse rail mv s))

/-- The meaning of AVS_TIMEOUT (R411). -/
def execAvsTimeout (rail : Nat) (error : Bool) (s : State) : Host.Outcome State Fault Refusal :=
  .next (settle (opAvsTimeout rail error s))

/-- The meaning of AVS_READ (R411). -/
def execAvsRead (readings : List (Nat × Nat × Nat)) (s : State) : Host.Outcome State Fault Refusal :=
  .next (settle (opAvsRead readings s))

/-- The meaning of SENSOR_SAMPLE (R412). -/
def execSensorSample (codes : List Int) (s : State) : Host.Outcome State Fault Refusal :=
  .next (settle (opSensorSample codes s))

/-- The meaning of THERM_TRIP_RELEASE (R415). -/
def execThermTripRelease (s : State) : Host.Outcome State Fault Refusal :=
  .next (settle (opThermTripRelease s))

/-- The meaning of THERMAL_LOOP (R413). -/
def execThermalLoop (edges : List Nat) (s : State) : Host.Outcome State Fault Refusal :=
  .next (settle (opThermalLoop edges s))

/-- The meaning of FAN_STALL (R413). -/
def execFanStall (out : Nat) (s : State) : Host.Outcome State Fault Refusal :=
  .next (settle (opFanStall out s))

/-- The meaning of POWER_UP (R416). -/
def execPowerUp (s : State) : Host.Outcome State Fault Refusal :=
  .next (settle (opPowerUp s))

/-- The meaning of PERST_RELEASE (R416). -/
def execPerstRelease (s : State) : Host.Outcome State Fault Refusal :=
  .next (settle (opPerstRelease s))

/-- The meaning of PERST_ASSERT (R416). -/
def execPerstAssert (s : State) : Host.Outcome State Fault Refusal :=
  .next (settle (opPerstAssert s))

/-- The meaning of SYS_PWRGD_FALL (R441). -/
def execSysPwrgdFall (s : State) : Host.Outcome State Fault Refusal :=
  .next (settle (opSysPwrgdFall s))

/-- The meaning of GPIO0_WAKE (R409). -/
def execGpio0Wake (s : State) : Host.Outcome State Fault Refusal :=
  .next (settle (opGpio0Wake s))

/-- The meaning of BOOT_IMAGE_VERIFIED (R424). -/
def execBootImageVerified (a : SlotImage) (b : SlotImage) (s : State) : Host.Outcome State Fault Refusal :=
  .next (settle (opBootImageVerified a b s))

/-- The meaning of CXL_CONFIG_READY (R417). -/
def execCxlConfigReady (s : State) : Host.Outcome State Fault Refusal :=
  .next (settle (opCxlConfigReady s))

/-- The meaning of TAMPER_ASSERT (R427). -/
def execTamperAssert (s : State) : Host.Outcome State Fault Refusal :=
  .next (settle (opTamperAssert s))

/-- The meaning of DPLL_SETTLED (R58). -/
def execDpllSettled (s : State) : Host.Outcome State Fault Refusal :=
  .next (settle (opDpllSettled s))

/-- The meaning of PTP_MESSAGE_SEND (R203). -/
def execPtpMessageSend (mac : Nat) (frame : PtpFrame) (s : State) : Host.Outcome State Fault Refusal :=
  .next (settle (opPtpMessageSend mac frame.bytes frame.pos s))

/-- The meaning of RUN_AHEAD_REQUEST_EXPIRY (R102). -/
def execRunAheadRequestExpiry (page : Nat) (s : State) : Host.Outcome State Fault Refusal :=
  .next (settle (opRunAheadRequestExpiry page s))

/-- The meaning of ENGINE_TILE_RESET_RELEASE (R380). -/
def execEngineTileResetRelease (room : Nat) (tile : Nat) (s : State) : Host.Outcome State Fault Refusal :=
  .next (settle (opEngineTileResetRelease room tile s))

/-- The meaning of RGMII_IN_BAND_STATUS (R209). -/
def execRgmiiInBandStatus (link : Bool) (speed : Nat) (full : Bool) (s : State) : Host.Outcome State Fault Refusal :=
  .next (settle (opRgmiiInBandStatus link speed full s))

end Sys2Proof.Machine
end

