-- ==== Sys2Proof/Machine/Dispatch.lean ====
section
/-! DEFINITION. The meaning of every command: one arm per row of the table, each one call of its meaning. -/
namespace Sys2Proof.Machine
open Sys2Proof

/-- What a command does to the block, by the rules of its row; the queue of waiting commands is left to step. -/
def exec (i : Instr) (s : State) : Host.Outcome State Fault Refusal :=
  match i with
  | .nop c => Sys2Proof.Machine.execNop c s
  | .versionRead c a => Sys2Proof.Machine.execVersionRead c a s
  | .fence c => Sys2Proof.Machine.execFence c s
  | .flowDefine c a img => Sys2Proof.Machine.execFlowDefine c a img s
  | .flowStart c flow => Sys2Proof.Machine.execFlowStart c flow s
  | .flowStop c flow => Sys2Proof.Machine.execFlowStop c flow s
  | .flowStopped flow => Sys2Proof.Machine.execFlowStopped flow s
  | .flowStopTimeout flow => Sys2Proof.Machine.execFlowStopTimeout flow s
  | .flowDelete c flow => Sys2Proof.Machine.execFlowDelete c flow s
  | .flowRead c flow a => Sys2Proof.Machine.execFlowRead c flow a s
  | .consistDefine c a img => Sys2Proof.Machine.execConsistDefine c a img s
  | .consistDelete c n => Sys2Proof.Machine.execConsistDelete c n s
  | .consistRead c n a => Sys2Proof.Machine.execConsistRead c n a s
  | .svpPortSet c a img => Sys2Proof.Machine.execSvpPortSet c a img s
  | .svpPortRead c port dir a => Sys2Proof.Machine.execSvpPortRead c port dir a s
  | .nmpStreamSet c a img => Sys2Proof.Machine.execNmpStreamSet c a img s
  | .nmpStreamRead c flow a => Sys2Proof.Machine.execNmpStreamRead c flow a s
  | .nmpGateLoad c mac a img => Sys2Proof.Machine.execNmpGateLoad c mac a img s
  | .nmpFrameSend c mac queue len option_ a img => Sys2Proof.Machine.execNmpFrameSend c mac queue len option_ a img s
  | .nmpFrameSent mac => Sys2Proof.Machine.execNmpFrameSent mac s
  | .pageLoad c a img => Sys2Proof.Machine.execPageLoad c a img s
  | .pageWithdraw c page => Sys2Proof.Machine.execPageWithdraw c page s
  | .pageStatus c page a => Sys2Proof.Machine.execPageStatus c page a s
  | .xpDirect c word sel src => Sys2Proof.Machine.execXpDirect c word sel src s
  | .xpRead c first count a => Sys2Proof.Machine.execXpRead c first count a s
  | .platformSet c flow depth => Sys2Proof.Machine.execPlatformSet c flow depth s
  | .cellRowSpare c bank row dom fi => Sys2Proof.Machine.execCellRowSpare c bank row dom fi s
  | .cellRowCopyDone bank row => Sys2Proof.Machine.execCellRowCopyDone bank row s
  | .cellRowSpareSwap bank row => Sys2Proof.Machine.execCellRowSpareSwap bank row s
  | .linkStart c link => Sys2Proof.Machine.execLinkStart c link s
  | .linkStop c link => Sys2Proof.Machine.execLinkStop c link s
  | .linkRead c first count a => Sys2Proof.Machine.execLinkRead c first count a s
  | .planLoad c link a img => Sys2Proof.Machine.execPlanLoad c link a img s
  | .planSwap c cycle a img => Sys2Proof.Machine.execPlanSwap c cycle a img s
  | .planRead c link bank a => Sys2Proof.Machine.execPlanRead c link bank a s
  | .routeDefine c a img => Sys2Proof.Machine.execRouteDefine c a img s
  | .routeDelete c feeder => Sys2Proof.Machine.execRouteDelete c feeder s
  | .routeVerify c feeder => Sys2Proof.Machine.execRouteVerify c feeder s
  | .routeStatus c feeder a => Sys2Proof.Machine.execRouteStatus c feeder a s
  | .ctrlRouteSet c dest a img => Sys2Proof.Machine.execCtrlRouteSet c dest a img s
  | .fwdSet c first count a img => Sys2Proof.Machine.execFwdSet c first count a img s
  | .msgSend c dest cls len a img => Sys2Proof.Machine.execMsgSend c dest cls len a img s
  | .procSet c a img => Sys2Proof.Machine.execProcSet c a img s
  | .procParamLoad c pf set a img => Sys2Proof.Machine.execProcParamLoad c pf set a img s
  | .procRead c pf a => Sys2Proof.Machine.execProcRead c pf a s
  | .engineSpare c room slot tile dom fi => Sys2Proof.Machine.execEngineSpare c room slot tile dom fi s
  | .engineSpareSwap room => Sys2Proof.Machine.execEngineSpareSwap room s
  | .layerStatus c pf a => Sys2Proof.Machine.execLayerStatus c pf a s
  | .audPortSet c a img => Sys2Proof.Machine.execAudPortSet c a img s
  | .audPortRead c port a => Sys2Proof.Machine.execAudPortRead c port a s
  | .audPortResume c port => Sys2Proof.Machine.execAudPortResume c port s
  | .audioXpDirect c out inp gain ramp => Sys2Proof.Machine.execAudioXpDirect c out inp gain ramp s
  | .audioXpDirectStart out inp => Sys2Proof.Machine.execAudioXpDirectStart out inp s
  | .audioXpRead c out a => Sys2Proof.Machine.execAudioXpRead c out a s
  | .audDelaySet c first count store max => Sys2Proof.Machine.execAudDelaySet c first count store max s
  | .audDelayChange c first count delay ramp dom fi => Sys2Proof.Machine.execAudDelayChange c first count delay ramp dom fi s
  | .audDelayCrossfadeEnd out => Sys2Proof.Machine.execAudDelayCrossfadeEnd out s
  | .audDelayRead c first count a => Sys2Proof.Machine.execAudDelayRead c first count a s
  | .audCsSet c flow a img => Sys2Proof.Machine.execAudCsSet c flow a img s
  | .memTrain c unit => Sys2Proof.Machine.execMemTrain c unit s
  | .memFreq c pair rate => Sys2Proof.Machine.execMemFreq c pair rate s
  | .memFreqRestart pair => Sys2Proof.Machine.execMemFreqRestart pair s
  | .memWinSet c win store base size reserve => Sys2Proof.Machine.execMemWinSet c win store base size reserve s
  | .memMove c a img => Sys2Proof.Machine.execMemMove c a img s
  | .memMoveDone hostOk => Sys2Proof.Machine.execMemMoveDone hostOk s
  | .memSpare c kind loc row col dom fi => Sys2Proof.Machine.execMemSpare c kind loc row col dom fi s
  | .memSpareCopyDone ctrl => Sys2Proof.Machine.execMemSpareCopyDone ctrl s
  | .memSpareBoundary ctrl => Sys2Proof.Machine.execMemSpareBoundary ctrl s
  | .memSpareRepairDone ctrl good => Sys2Proof.Machine.execMemSpareRepairDone ctrl good s
  | .memWearRead c ctrl a => Sys2Proof.Machine.execMemWearRead c ctrl a s
  | .laneSpare c lane spare dom fi => Sys2Proof.Machine.execLaneSpare c lane spare dom fi s
  | .laneSpareCheck die spare => Sys2Proof.Machine.execLaneSpareCheck die spare s
  | .laneSpareSwap die spare => Sys2Proof.Machine.execLaneSpareSwap die spare s
  | .timeStepAccept c target => Sys2Proof.Machine.execTimeStepAccept c target s
  | .refForce c cand => Sys2Proof.Machine.execRefForce c cand s
  | .refForceRelease c => Sys2Proof.Machine.execRefForceRelease c s
  | .holdoverCoefLoad c a img => Sys2Proof.Machine.execHoldoverCoefLoad c a img s
  | .timeSet c seconds => Sys2Proof.Machine.execTimeSet c seconds s
  | .pairStart c => Sys2Proof.Machine.execPairStart c s
  | .pairStop c => Sys2Proof.Machine.execPairStop c s
  | .tabletRequest c => Sys2Proof.Machine.execTabletRequest c s
  | .tabletTake c => Sys2Proof.Machine.execTabletTake c s
  | .pairStatus c a => Sys2Proof.Machine.execPairStatus c a s
  | .faultRead c first count a => Sys2Proof.Machine.execFaultRead c first count a s
  | .faultClear c first count => Sys2Proof.Machine.execFaultClear c first count s
  | .aliveResume c => Sys2Proof.Machine.execAliveResume c s
  | .snapshotRead c a => Sys2Proof.Machine.execSnapshotRead c a s
  | .faultInject c src => Sys2Proof.Machine.execFaultInject c src s
  | .laneEyeScan c lane eye hStep vStep dwell a => Sys2Proof.Machine.execLaneEyeScan c lane eye hStep vStep dwell a s
  | .laneEyeDone lane counts => Sys2Proof.Machine.execLaneEyeDone lane counts s
  | .lanePrbs c lane rate pattern dir duration => Sys2Proof.Machine.execLanePrbs c lane rate pattern dir duration s
  | .lanePrbsStop c lane => Sys2Proof.Machine.execLanePrbsStop c lane s
  | .lanePrbsDone lane errors => Sys2Proof.Machine.execLanePrbsDone lane errors s
  | .pwrStateSet c target => Sys2Proof.Machine.execPwrStateSet c target s
  | .thermCoefLoad c a img => Sys2Proof.Machine.execThermCoefLoad c a img s
  | .identityRead c a => Sys2Proof.Machine.execIdentityRead c a s
  | .attestQuote c nonceAt a nonce => Sys2Proof.Machine.execAttestQuote c nonceAt a nonce s
  | .updateApply c a len img => Sys2Proof.Machine.execUpdateApply c a len img s
  | .updateDone eraseErr flashErr => Sys2Proof.Machine.execUpdateDone eraseErr flashErr s
  | .updateCommit c => Sys2Proof.Machine.execUpdateCommit c s
  | .rollbackAdvance c => Sys2Proof.Machine.execRollbackAdvance c s
  | .lifecycleSet c target a img => Sys2Proof.Machine.execLifecycleSet c target a img s
  | .cosignerFuse c a img => Sys2Proof.Machine.execCosignerFuse c a img s
  | .tokenNonce c a => Sys2Proof.Machine.execTokenNonce c a s
  | .fuseProgramDone => Sys2Proof.Machine.execFuseProgramDone s
  | .registerWrite master off value => Sys2Proof.Machine.execRegisterWrite master off value s
  | .setupLock master => Sys2Proof.Machine.execSetupLock master s
  | .systimeLoRead => Sys2Proof.Machine.execSystimeLoRead s
  | .domainCfgWrite master dom phase value => Sys2Proof.Machine.execDomainCfgWrite master dom phase value s
  | .refHistClear cand value => Sys2Proof.Machine.execRefHistClear cand value s
  | .srcStatusClear src value => Sys2Proof.Machine.execSrcStatusClear src value s
  | .healthClear reg value => Sys2Proof.Machine.execHealthClear reg value s
  | .alogEntryRead entry => Sys2Proof.Machine.execAlogEntryRead entry s
  | .cmdRingEnable master ring value line => Sys2Proof.Machine.execCmdRingEnable master ring value line s
  | .cmdRingDisable master ring value => Sys2Proof.Machine.execCmdRingDisable master ring value s
  | .cplRingEnable master ring value => Sys2Proof.Machine.execCplRingEnable master ring value s
  | .cplRingDisable master ring value => Sys2Proof.Machine.execCplRingDisable master ring value s
  | .evtRingEnable master ring value => Sys2Proof.Machine.execEvtRingEnable master ring value s
  | .evtRingDisable master ring value => Sys2Proof.Machine.execEvtRingDisable master ring value s
  | .reportCardEnable master value => Sys2Proof.Machine.execReportCardEnable master value s
  | .msgRingEnable master value => Sys2Proof.Machine.execMsgRingEnable master value s
  | .xringEnable master value => Sys2Proof.Machine.execXringEnable master value s
  | .macEnable master mac value => Sys2Proof.Machine.execMacEnable master mac value s
  | .moverReserveWrite master value => Sys2Proof.Machine.execMoverReserveWrite master value s
  | .recoveryGo master value => Sys2Proof.Machine.execRecoveryGo master value s
  | .recoveryDone img => Sys2Proof.Machine.execRecoveryDone img s
  | .bar0DefaultAccess master off size write => Sys2Proof.Machine.execBar0DefaultAccess master off size write s
  | .bar2IoRequest addr write => Sys2Proof.Machine.execBar2IoRequest addr write s
  | .cxlMemAccess dec off len write data => Sys2Proof.Machine.execCxlMemAccess dec off len write data s
  | .busTimeout master addr => Sys2Proof.Machine.execBusTimeout master addr s
  | .busOrphan master addr => Sys2Proof.Machine.execBusOrphan master addr s
  | .doorbellSnoop kind ring value => Sys2Proof.Machine.execDoorbellSnoop kind ring value s
  | .doorbellPoll values => Sys2Proof.Machine.execDoorbellPoll values s
  | .consumerIndexRead kind ring value => Sys2Proof.Machine.execConsumerIndexRead kind ring value s
  | .commandFetch writes fetchOk hostOk cplOk => Sys2Proof.Machine.execCommandFetch writes fetchOk hostOk cplOk s
  | .eventRecordWrite ok => Sys2Proof.Machine.execEventRecordWrite ok s
  | .irqHoldoffEnd vector => Sys2Proof.Machine.execIrqHoldoffEnd vector s
  | .reportCard after => Sys2Proof.Machine.execReportCard after s
  | .cxlLinkDown cause => Sys2Proof.Machine.execCxlLinkDown cause s
  | .cxlLinkUp speed width io cache mem => Sys2Proof.Machine.execCxlLinkUp speed width io cache mem s
  | .domainBoundary dom => Sys2Proof.Machine.execDomainBoundary dom s
  | .selectorTick => Sys2Proof.Machine.execSelectorTick s
  | .lossOfSignal cand => Sys2Proof.Machine.execLossOfSignal cand s
  | .losClear cand => Sys2Proof.Machine.execLosClear cand s
  | .freqMeasure offsets => Sys2Proof.Machine.execFreqMeasure offsets s
  | .candidateQualified cand => Sys2Proof.Machine.execCandidateQualified cand s
  | .holdoverCorrection => Sys2Proof.Machine.execHoldoverCorrection s
  | .holdoverDegraded => Sys2Proof.Machine.execHoldoverDegraded s
  | .ocxoDacUpdate code => Sys2Proof.Machine.execOcxoDacUpdate code s
  | .ovenAdcRead code => Sys2Proof.Machine.execOvenAdcRead code s
  | .ovenStable => Sys2Proof.Machine.execOvenStable s
  | .cdcFifoErr crossing overflow => Sys2Proof.Machine.execCdcFifoErr crossing overflow s
  | .runAheadFilled page => Sys2Proof.Machine.execRunAheadFilled page s
  | .armDeadline page => Sys2Proof.Machine.execArmDeadline page s
  | .pageGuard page => Sys2Proof.Machine.execPageGuard page s
  | .commitResend page => Sys2Proof.Machine.execCommitResend page s
  | .pageActivation page => Sys2Proof.Machine.execPageActivation page s
  | .crosspointLatch word bad => Sys2Proof.Machine.execCrosspointLatch word bad s
  | .commitEvaluation page => Sys2Proof.Machine.execCommitEvaluation page s
  | .armedRx m => Sys2Proof.Machine.execArmedRx m s
  | .refusedRx m => Sys2Proof.Machine.execRefusedRx m s
  | .commitRx m => Sys2Proof.Machine.execCommitRx m s
  | .commitAckRx m => Sys2Proof.Machine.execCommitAckRx m s
  | .withdrawnRx m => Sys2Proof.Machine.execWithdrawnRx m s
  | .runAheadRx m link => Sys2Proof.Machine.execRunAheadRx m link s
  | .runAheadCancelRx m link => Sys2Proof.Machine.execRunAheadCancelRx m link s
  | .platformLineRead flow line f => Sys2Proof.Machine.execPlatformLineRead flow line f s
  | .fabricCycleBoundary => Sys2Proof.Machine.execFabricCycleBoundary s
  | .fabricSlot link sigBad genBad => Sys2Proof.Machine.execFabricSlot link sigBad genBad s
  | .fabricCellRx link rx => Sys2Proof.Machine.execFabricCellRx link rx s
  | .scheduledCellRx link cell => Sys2Proof.Machine.execScheduledCellRx link cell s
  | .unscheduledCellRx link cell => Sys2Proof.Machine.execUnscheduledCellRx link cell s
  | .controlCellRx link cell => Sys2Proof.Machine.execControlCellRx link cell s
  | .helloRx link h => Sys2Proof.Machine.execHelloRx link h s
  | .helloSend link => Sys2Proof.Machine.execHelloSend link s
  | .helloLoss link => Sys2Proof.Machine.execHelloLoss link s
  | .timeRx link m => Sys2Proof.Machine.execTimeRx link m s
  | .creditRx link n => Sys2Proof.Machine.execCreditRx link n s
  | .linkNoticeRx m link => Sys2Proof.Machine.execLinkNoticeRx m link s
  | .quietWake link => Sys2Proof.Machine.execQuietWake link s
  | .quietRefreshLoss link => Sys2Proof.Machine.execQuietRefreshLoss link s
  | .lpiRefresh link => Sys2Proof.Machine.execLpiRefresh link s
  | .routeCheckRx link m => Sys2Proof.Machine.execRouteCheckRx link m s
  | .routeResultRx link m => Sys2Proof.Machine.execRouteResultRx link m s
  | .routeVerifyTimeout feeder => Sys2Proof.Machine.execRouteVerifyTimeout feeder s
  | .routeReservationExpiry feeder => Sys2Proof.Machine.execRouteReservationExpiry feeder s
  | .sdiHuntDwell port => Sys2Proof.Machine.execSdiHuntDwell port s
  | .sdiCdrLock port => Sys2Proof.Machine.execSdiCdrLock port s
  | .sdiIdentTimeout port => Sys2Proof.Machine.execSdiIdentTimeout port s
  | .sdiSignalLoss port cause => Sys2Proof.Machine.execSdiSignalLoss port cause s
  | .sdiFrameStart port f => Sys2Proof.Machine.execSdiFrameStart port f s
  | .sdiLineRx port l => Sys2Proof.Machine.execSdiLineRx port l s
  | .sdiTxLine port f genBad skew => Sys2Proof.Machine.execSdiTxLine port f genBad skew s
  | .ethFrameRx mac frame f => Sys2Proof.Machine.execEthFrameRx mac frame f s
  | .nmpLinkUp mac hcd => Sys2Proof.Machine.execNmpLinkUp mac hcd s
  | .nmpLinkDown mac cause => Sys2Proof.Machine.execNmpLinkDown mac cause s
  | .nmpAnRetry mac => Sys2Proof.Machine.execNmpAnRetry mac s
  | .nmpNoPacketTimeout flow => Sys2Proof.Machine.execNmpNoPacketTimeout flow s
  | .nmpLegLost flow leg => Sys2Proof.Machine.execNmpLegLost flow leg s
  | .nmpPacketSend flow leg f genBad => Sys2Proof.Machine.execNmpPacketSend flow leg f genBad s
  | .nmpTxLate flow leg => Sys2Proof.Machine.execNmpTxLate flow leg s
  | .nmpGateStart mac => Sys2Proof.Machine.execNmpGateStart mac s
  | .nmpGateInterval mac => Sys2Proof.Machine.execNmpGateInterval mac s
  | .mgmtMacCollision sent slots => Sys2Proof.Machine.execMgmtMacCollision sent slots s
  | .mgmtBackoffEnd => Sys2Proof.Machine.execMgmtBackoffEnd s
  | .laneStepDone x => Sys2Proof.Machine.execLaneStepDone x s
  | .laneStepTimeout x => Sys2Proof.Machine.execLaneStepTimeout x s
  | .laneRetry lane => Sys2Proof.Machine.execLaneRetry lane s
  | .laneLockLost lane => Sys2Proof.Machine.execLaneLockLost lane s
  | .laneMarginMeasure lane h v => Sys2Proof.Machine.execLaneMarginMeasure lane h v s
  | .laneShadowReady die spare farReady => Sys2Proof.Machine.execLaneShadowReady die spare farReady s
  | .engineWorkItem pf slot item f parity srcPpm => Sys2Proof.Machine.execEngineWorkItem pf slot item f parity srcPpm s
  | .srcRecover pf => Sys2Proof.Machine.execSrcRecover pf s
  | .frameSyncDecision pf => Sys2Proof.Machine.execFrameSyncDecision pf s
  | .engineAuditTick room crc => Sys2Proof.Machine.execEngineAuditTick room crc s
  | .engineAuditThirdOpinion room crc => Sys2Proof.Machine.execEngineAuditThirdOpinion room crc s
  | .layerDecision pf => Sys2Proof.Machine.execLayerDecision pf s
  | .matrixSamplePeriod residueBad bad => Sys2Proof.Machine.execMatrixSamplePeriod residueBad bad s
  | .audPortFrameRx port stamp words inactive rate codingErr crccErr => Sys2Proof.Machine.execAudPortFrameRx port stamp words inactive rate codingErr crccErr s
  | .audPortFrameTx port stamp => Sys2Proof.Machine.execAudPortFrameTx port stamp s
  | .audClockLoss port => Sys2Proof.Machine.execAudClockLoss port s
  | .trainStepDone ctrl fail => Sys2Proof.Machine.execTrainStepDone ctrl fail s
  | .memRead master store addr len f => Sys2Proof.Machine.execMemRead master store addr len f s
  | .memWrite master store addr data readBad => Sys2Proof.Machine.execMemWrite master store addr data readBad s
  | .rowIdleClose ctrl bank => Sys2Proof.Machine.execRowIdleClose ctrl bank s
  | .refreshDue ctrl rank queued => Sys2Proof.Machine.execRefreshDue ctrl rank queued s
  | .dimmTempRead ctrl dimm temp => Sys2Proof.Machine.execDimmTempRead ctrl dimm temp s
  | .memCalibration ctrl kind => Sys2Proof.Machine.execMemCalibration ctrl kind s
  | .scrubPassEnd x => Sys2Proof.Machine.execScrubPassEnd x s
  | .pairingTimeout => Sys2Proof.Machine.execPairingTimeout s
  | .beatSend => Sys2Proof.Machine.execBeatSend s
  | .beatRx m path agree => Sys2Proof.Machine.execBeatRx m path agree s
  | .pairAckRx m path => Sys2Proof.Machine.execPairAckRx m path s
  | .takeRx m path => Sys2Proof.Machine.execTakeRx m path s
  | .askRx m path => Sys2Proof.Machine.execAskRx m path s
  | .passSend => Sys2Proof.Machine.execPassSend s
  | .passRx m path => Sys2Proof.Machine.execPassRx m path s
  | .passAckRx m path => Sys2Proof.Machine.execPassAckRx m path s
  | .handoverConfirmPoint => Sys2Proof.Machine.execHandoverConfirmPoint s
  | .confirmRx m path => Sys2Proof.Machine.execConfirmRx m path s
  | .pairCancelRx m path => Sys2Proof.Machine.execPairCancelRx m path s
  | .handoverAtB => Sys2Proof.Machine.execHandoverAtB s
  | .relayEnd => Sys2Proof.Machine.execRelayEnd s
  | .jackRx m path => Sys2Proof.Machine.execJackRx m path s
  | .leaveRx m path => Sys2Proof.Machine.execLeaveRx m path s
  | .journalRecordRx jseq type fi data lost => Sys2Proof.Machine.execJournalRecordRx jseq type fi data lost s
  | .journalDiverged => Sys2Proof.Machine.execJournalDiverged s
  | .pathLivenessTimeout path => Sys2Proof.Machine.execPathLivenessTimeout path s
  | .leaseEnd => Sys2Proof.Machine.execLeaseEnd s
  | .recessWake => Sys2Proof.Machine.execRecessWake s
  | .takeoverWakeDone => Sys2Proof.Machine.execTakeoverWakeDone s
  | .takeoverRestoreDone => Sys2Proof.Machine.execTakeoverRestoreDone s
  | .firstCommit dom => Sys2Proof.Machine.execFirstCommit dom s
  | .restoredFlowTimeout flow => Sys2Proof.Machine.execRestoredFlowTimeout flow s
  | .revertHoldOff => Sys2Proof.Machine.execRevertHoldOff s
  | .warmPeriodEnd => Sys2Proof.Machine.execWarmPeriodEnd s
  | .conseqWindowEnd => Sys2Proof.Machine.execConseqWindowEnd s
  | .chipResetReaction => Sys2Proof.Machine.execChipResetReaction s
  | .nmtSnapshotTaken bytes => Sys2Proof.Machine.execNmtSnapshotTaken bytes s
  | .blockErrorPin block room => Sys2Proof.Machine.execBlockErrorPin block room s
  | .rollCall dom => Sys2Proof.Machine.execRollCall dom s
  | .aliveToggle => Sys2Proof.Machine.execAliveToggle s
  | .fwWatchdog => Sys2Proof.Machine.execFwWatchdog s
  | .pwrBlockAnswer => Sys2Proof.Machine.execPwrBlockAnswer s
  | .pwrAckTimeout => Sys2Proof.Machine.execPwrAckTimeout s
  | .pwrTransitionDone => Sys2Proof.Machine.execPwrTransitionDone s
  | .pwrRetry => Sys2Proof.Machine.execPwrRetry s
  | .serviceWake ring => Sys2Proof.Machine.execServiceWake ring s
  | .serviceWakeEnd => Sys2Proof.Machine.execServiceWakeEnd s
  | .avsRequest rail => Sys2Proof.Machine.execAvsRequest rail s
  | .avsResponse rail mv => Sys2Proof.Machine.execAvsResponse rail mv s
  | .avsTimeout rail error => Sys2Proof.Machine.execAvsTimeout rail error s
  | .avsRead readings => Sys2Proof.Machine.execAvsRead readings s
  | .sensorSample codes => Sys2Proof.Machine.execSensorSample codes s
  | .thermTripRelease => Sys2Proof.Machine.execThermTripRelease s
  | .thermalLoop edges => Sys2Proof.Machine.execThermalLoop edges s
  | .fanStall out => Sys2Proof.Machine.execFanStall out s
  | .powerUp => Sys2Proof.Machine.execPowerUp s
  | .perstRelease => Sys2Proof.Machine.execPerstRelease s
  | .perstAssert => Sys2Proof.Machine.execPerstAssert s
  | .sysPwrgdFall => Sys2Proof.Machine.execSysPwrgdFall s
  | .gpio0Wake => Sys2Proof.Machine.execGpio0Wake s
  | .bootImageVerified a b => Sys2Proof.Machine.execBootImageVerified a b s
  | .cxlConfigReady => Sys2Proof.Machine.execCxlConfigReady s
  | .tamperAssert => Sys2Proof.Machine.execTamperAssert s
  | .dpllSettled => Sys2Proof.Machine.execDpllSettled s
  | .ptpMessageSend mac frame => Sys2Proof.Machine.execPtpMessageSend mac frame s
  | .runAheadRequestExpiry page => Sys2Proof.Machine.execRunAheadRequestExpiry page s
  | .engineTileResetRelease room tile => Sys2Proof.Machine.execEngineTileResetRelease room tile s
  | .rgmiiInBandStatus link speed full => Sys2Proof.Machine.execRgmiiInBandStatus link speed full s

end Sys2Proof.Machine
end

