-- ==== Sys2Proof/WellFormed.lean ====
section
/-!
DEFINITION. The form of every command, and what a well-formed command satisfies: a host command fits its 64-byte entry (R331,
R332), a register access or event names units that exist. A well-formed command may still be one that the device refuses.
-/
namespace Sys2Proof

/-- What a command carries that has a stated range. -/
inductive Form where
  /-- A host command: its header, opcode, ADDR0, ADDR1, its ARGS parameters as `(size in bytes, value)`, what the host
  wrote at ADDR0 for it, and values that belong to another row of the table from a bound on. -/
  | cmd (c : Cmd) (op a0 a1 : Nat) (args : List (Nat × Nat)) (img : List Byte) (ranges : List (Nat × Nat))
  /-- A register access or an event: `(value, bound)`. -/
  | event (ranges : List (Nat × Nat))
deriving DecidableEq, Repr

/-- The form of a command. -/
def Instr.form : Instr → Form
  | .nop c => .cmd c 0x0001 0 0 [] [] []
  | .versionRead c a => .cmd c 0x0002 a 0 [] [] []
  | .fence c => .cmd c 0x0003 0 0 [] [] []
  | .flowDefine c a img => .cmd c 0x0101 a 0 [] img []
  | .flowStart c flow => .cmd c 0x0102 0 0 [(2, flow)] [] []
  | .flowStop c flow => .cmd c 0x0103 0 0 [(2, flow)] [] []
  | .flowStopped flow => .event [(flow, 65536)]
  | .flowStopTimeout flow => .event [(flow, 65536)]
  | .flowDelete c flow => .cmd c 0x0104 0 0 [(2, flow)] [] []
  | .flowRead c flow a => .cmd c 0x0105 a 0 [(2, flow)] [] []
  | .consistDefine c a img => .cmd c 0x0110 a 0 [] img []
  | .consistDelete c n => .cmd c 0x0111 0 0 [(1, n)] [] []
  | .consistRead c n a => .cmd c 0x0112 a 0 [(1, n)] [] []
  | .svpPortSet c a img => .cmd c 0x0120 a 0 [] img []
  | .svpPortRead c port dir a => .cmd c 0x0121 a 0 [(1, port), (1, dir)] [] []
  | .nmpStreamSet c a img => .cmd c 0x0130 a 0 [] img []
  | .nmpStreamRead c flow a => .cmd c 0x0131 a 0 [(2, flow)] [] []
  | .nmpGateLoad c mac a img => .cmd c 0x0132 a 0 [(1, mac)] img []
  | .nmpFrameSend c mac queue len option_ a img => .cmd c 0x0133 a 0 [(1, mac), (1, queue), (2, len), (4, option_)] img []
  | .nmpFrameSent mac => .event [(mac, 17)]
  | .pageLoad c a img => .cmd c 0x0201 a 0 [] img []
  | .pageWithdraw c page => .cmd c 0x0202 0 0 [(4, page)] [] []
  | .pageStatus c page a => .cmd c 0x0203 a 0 [(4, page)] [] []
  | .xpDirect c word sel src => .cmd c 0x0210 0 0 [(2, word), (1, sel), (2, src)] [] []
  | .xpRead c first count a => .cmd c 0x0211 a 0 [(2, first), (2, count)] [] []
  | .platformSet c flow depth => .cmd c 0x0220 0 0 [(2, flow), (1, depth)] [] []
  | .cellRowSpare c bank row dom fi => .cmd c 0x0230 0 0 [(1, bank), (1, row), (1, dom), (4, fi)] [] []
  | .cellRowCopyDone bank row => .event [(bank, 96), (row, 256)]
  | .cellRowSpareSwap bank row => .event [(bank, 96), (row, 256)]
  | .linkStart c link => .cmd c 0x0301 0 0 [(1, link)] [] []
  | .linkStop c link => .cmd c 0x0302 0 0 [(1, link)] [] []
  | .linkRead c first count a => .cmd c 0x0303 a 0 [(1, first), (4, count)] [] []
  | .planLoad c link a img => .cmd c 0x0310 a 0 [(1, link)] img []
  | .planSwap c cycle a img => .cmd c 0x0311 a 0 [(4, cycle)] img []
  | .planRead c link bank a => .cmd c 0x0312 a 0 [(1, link), (1, bank)] [] []
  | .routeDefine c a img => .cmd c 0x0320 a 0 [] img []
  | .routeDelete c feeder => .cmd c 0x0321 0 0 [(4, feeder)] [] []
  | .routeVerify c feeder => .cmd c 0x0322 0 0 [(4, feeder)] [] []
  | .routeStatus c feeder a => .cmd c 0x0323 a 0 [(4, feeder)] [] []
  | .ctrlRouteSet c dest a img => .cmd c 0x0330 a 0 [(2, dest)] img []
  | .fwdSet c first count a img => .cmd c 0x0331 a 0 [(2, first), (4, count)] img []
  | .msgSend c dest cls len a img => .cmd c 0x0340 a 0 [(2, dest), (1, cls), (1, len)] img []
  | .procSet c a img => .cmd c 0x0401 a 0 [] img []
  | .procParamLoad c pf set a img => .cmd c 0x0402 a 0 [(2, pf), (1, set)] img []
  | .procRead c pf a => .cmd c 0x0403 a 0 [(2, pf)] [] []
  | .engineSpare c room slot tile dom fi => .cmd c 0x0410 0 0 [(1, room), (1, slot), (1, tile), (1, dom), (4, fi)] [] []
  | .engineSpareSwap room => .event [(room, 32)]
  | .layerStatus c pf a => .cmd c 0x0420 a 0 [(2, pf)] [] []
  | .audPortSet c a img => .cmd c 0x0501 a 0 [] img []
  | .audPortRead c port a => .cmd c 0x0502 a 0 [(1, port)] [] []
  | .audPortResume c port => .cmd c 0x0503 0 0 [(1, port)] [] []
  | .audioXpDirect c out inp gain ramp => .cmd c 0x0510 0 0 [(2, out), (2, inp), (2, gain), (2, ramp)] [] []
  | .audioXpDirectStart out inp => .event [(out, 65536), (inp, 65536)]
  | .audioXpRead c out a => .cmd c 0x0511 a 0 [(2, out)] [] []
  | .audDelaySet c first count store max => .cmd c 0x0520 0 0 [(2, first), (2, count), (1, store), (4, max)] [] []
  | .audDelayChange c first count delay ramp dom fi => .cmd c 0x0521 0 0 [(2, first), (2, count), (4, delay), (2, ramp), (1, dom), (4, fi)] [] []
  | .audDelayCrossfadeEnd out => .event [(out, 65536)]
  | .audDelayRead c first count a => .cmd c 0x0522 a 0 [(2, first), (2, count)] [] []
  | .audCsSet c flow a img => .cmd c 0x0530 a 0 [(2, flow)] img []
  | .memTrain c unit => .cmd c 0x0601 0 0 [(1, unit)] [] []
  | .memFreq c pair rate => .cmd c 0x0602 0 0 [(1, pair), (2, rate)] [] []
  | .memFreqRestart pair => .event [(pair, 4)]
  | .memWinSet c win store base size reserve => .cmd c 0x0603 0 0 [(1, win), (1, store), (2, base), (2, size), (4, reserve)] [] []
  | .memMove c a img => .cmd c 0x0604 a 0 [] img []
  | .memMoveDone _ => .event []
  | .memSpare c kind loc row col dom fi => .cmd c 0x0610 0 0 [(1, kind), (4, loc), (4, row), (1, col), (1, dom), (4, fi)] [] []
  | .memSpareCopyDone ctrl => .event [(ctrl, 12)]
  | .memSpareBoundary ctrl => .event [(ctrl, 12)]
  | .memSpareRepairDone ctrl _ => .event [(ctrl, 12)]
  | .memWearRead c ctrl a => .cmd c 0x0611 a 0 [(1, ctrl)] [] []
  | .laneSpare c lane spare dom fi => .cmd c 0x0640 0 0 [(1, lane), (1, spare), (1, dom), (4, fi)] [] []
  | .laneSpareCheck die spare => .event [(die, 2), (spare, 4)]
  | .laneSpareSwap die spare => .event [(die, 2), (spare, 4)]
  | .timeStepAccept c target => .cmd c 0x0701 0 0 [(1, target)] [] []
  | .refForce c cand => .cmd c 0x0702 0 0 [(1, cand)] [] [(cand, 31)]
  | .refForceRelease c => .cmd c 0x0702 0 0 [(1, 31)] [] []
  | .holdoverCoefLoad c a img => .cmd c 0x0703 a 0 [] img []
  | .timeSet c seconds => .cmd c 0x0704 0 0 [(8, seconds)] [] []
  | .pairStart c => .cmd c 0x0801 0 0 [] [] []
  | .pairStop c => .cmd c 0x0802 0 0 [] [] []
  | .tabletRequest c => .cmd c 0x0803 0 0 [] [] []
  | .tabletTake c => .cmd c 0x0804 0 0 [] [] []
  | .pairStatus c a => .cmd c 0x0805 a 0 [] [] []
  | .faultRead c first count a => .cmd c 0x0901 a 0 [(2, first), (2, count)] [] []
  | .faultClear c first count => .cmd c 0x0902 0 0 [(2, first), (2, count)] [] []
  | .aliveResume c => .cmd c 0x0903 0 0 [] [] []
  | .snapshotRead c a => .cmd c 0x0904 a 0 [] [] []
  | .faultInject c src => .cmd c 0x0905 0 0 [(2, src)] [] []
  | .laneEyeScan c lane eye hStep vStep dwell a => .cmd c 0x0910 a 0 [(1, lane), (1, eye), (1, hStep), (1, vStep), (1, dwell)] [] []
  | .laneEyeDone lane _ => .event [(lane, 144)]
  | .lanePrbs c lane rate pattern dir duration => .cmd c 0x0911 0 0 [(1, lane), (1, rate), (1, pattern), (1, dir), (2, duration)] [] []
  | .lanePrbsStop c lane => .cmd c 0x0911 0 0 [(1, lane), (1, 0), (1, 0), (1, 0), (2, 0)] [] []
  | .lanePrbsDone lane _ => .event [(lane, 144)]
  | .pwrStateSet c target => .cmd c 0x0A01 0 0 [(1, target)] [] []
  | .thermCoefLoad c a img => .cmd c 0x0A02 a 0 [] img []
  | .identityRead c a => .cmd c 0x0B01 a 0 [] [] []
  | .attestQuote c nonceAt a nonce => .cmd c 0x0B02 nonceAt a [] nonce []
  | .updateApply c a len img => .cmd c 0x0B10 a 0 [(4, len)] img []
  | .updateDone _ _ => .event []
  | .updateCommit c => .cmd c 0x0B11 0 0 [] [] []
  | .rollbackAdvance c => .cmd c 0x0B20 0 0 [] [] []
  | .lifecycleSet c target a img => .cmd c 0x0B30 a 0 [(1, target)] img []
  | .cosignerFuse c a img => .cmd c 0x0B31 a 0 [] img []
  | .tokenNonce c a => .cmd c 0x0B32 a 0 [] [] []
  | .fuseProgramDone => .event []
  | .registerWrite master off _ => .event [(master, 7), (off, 2 ^ 24)]
  | .setupLock master => .event [(master, 7)]
  | .systimeLoRead => .event []
  | .domainCfgWrite master dom _ _ => .event [(master, 7), (dom, 8)]
  | .refHistClear cand _ => .event [(cand, 17)]
  | .srcStatusClear src _ => .event [(src, 640)]
  | .healthClear reg _ => .event [(reg, 3)]
  | .alogEntryRead entry => .event [(entry, 16)]
  | .cmdRingEnable master ring _ _ => .event [(master, 7), (ring, 64)]
  | .cmdRingDisable master ring _ => .event [(master, 7), (ring, 64)]
  | .cplRingEnable master ring _ => .event [(master, 7), (ring, 64)]
  | .cplRingDisable master ring _ => .event [(master, 7), (ring, 64)]
  | .evtRingEnable master ring _ => .event [(master, 7), (ring, 8)]
  | .evtRingDisable master ring _ => .event [(master, 7), (ring, 8)]
  | .reportCardEnable master _ => .event [(master, 7)]
  | .msgRingEnable master _ => .event [(master, 7)]
  | .xringEnable master _ => .event [(master, 7)]
  | .macEnable master mac _ => .event [(master, 7), (mac, 17)]
  | .moverReserveWrite master _ => .event [(master, 7)]
  | .recoveryGo master _ => .event [(master, 7)]
  | .recoveryDone _ => .event []
  | .bar0DefaultAccess master off _ _ => .event [(master, 7), (off, 2 ^ 24)]
  | .bar2IoRequest _ _ => .event []
  | .cxlMemAccess dec _ _ _ _ => .event [(dec, 2)]
  | .busTimeout master _ => .event [(master, 7)]
  | .busOrphan master _ => .event [(master, 7)]
  | .doorbellSnoop _ ring _ => .event [(ring, 64)]
  | .doorbellPoll _ => .event []
  | .consumerIndexRead _ ring _ => .event [(ring, 64)]
  | .commandFetch _ _ _ _ => .event []
  | .eventRecordWrite _ => .event []
  | .irqHoldoffEnd vector => .event [(vector, 64)]
  | .reportCard after => .event [(after, 1000001)]
  | .cxlLinkDown cause => .event [(cause, 3)]
  | .cxlLinkUp _ _ _ _ _ => .event []
  | .domainBoundary dom => .event [(dom, 8)]
  | .selectorTick => .event []
  | .lossOfSignal cand => .event [(cand, 17)]
  | .losClear cand => .event [(cand, 17)]
  | .freqMeasure _ => .event []
  | .candidateQualified cand => .event [(cand, 17)]
  | .holdoverCorrection => .event []
  | .holdoverDegraded => .event []
  | .ocxoDacUpdate _ => .event []
  | .ovenAdcRead _ => .event []
  | .ovenStable => .event []
  | .cdcFifoErr crossing _ => .event [(crossing, 64)]
  | .runAheadFilled page => .event [(page, 2 ^ 32)]
  | .armDeadline page => .event [(page, 2 ^ 32)]
  | .pageGuard page => .event [(page, 2 ^ 32)]
  | .commitResend page => .event [(page, 2 ^ 32)]
  | .pageActivation page => .event [(page, 2 ^ 32)]
  | .crosspointLatch word _ => .event [(word, 9216)]
  | .commitEvaluation page => .event [(page, 2 ^ 32)]
  | .armedRx _ => .event []
  | .refusedRx _ => .event []
  | .commitRx _ => .event []
  | .commitAckRx _ => .event []
  | .withdrawnRx _ => .event []
  | .runAheadRx _ link => .event [(link, 144)]
  | .runAheadCancelRx _ link => .event [(link, 144)]
  | .platformLineRead flow _ _ => .event [(flow, 65536)]
  | .fabricCycleBoundary => .event []
  | .fabricSlot link _ _ => .event [(link, 152)]
  | .fabricCellRx link _ => .event [(link, 152)]
  | .scheduledCellRx link _ => .event [(link, 144)]
  | .unscheduledCellRx link _ => .event [(link, 144)]
  | .controlCellRx link _ => .event [(link, 144)]
  | .helloRx link _ => .event [(link, 144)]
  | .helloSend link => .event [(link, 144)]
  | .helloLoss link => .event [(link, 144)]
  | .timeRx link _ => .event [(link, 152)]
  | .creditRx link _ => .event [(link, 144)]
  | .linkNoticeRx _ link => .event [(link, 144)]
  | .quietWake link => .event [(link, 144)]
  | .quietRefreshLoss link => .event [(link, 144)]
  | .lpiRefresh link => .event [(link, 144)]
  | .routeCheckRx link _ => .event [(link, 144)]
  | .routeResultRx link _ => .event [(link, 144)]
  | .routeVerifyTimeout feeder => .event [(feeder, 2 ^ 32)]
  | .routeReservationExpiry feeder => .event [(feeder, 2 ^ 32)]
  | .sdiHuntDwell port => .event [(port, 64)]
  | .sdiCdrLock port => .event [(port, 64)]
  | .sdiIdentTimeout port => .event [(port, 64)]
  | .sdiSignalLoss port _ => .event [(port, 64)]
  | .sdiFrameStart port _ => .event [(port, 64)]
  | .sdiLineRx port _ => .event [(port, 64)]
  | .sdiTxLine port _ _ _ => .event [(port, 64)]
  | .ethFrameRx mac _ _ => .event [(mac, 17)]
  | .nmpLinkUp mac _ => .event [(mac, 17)]
  | .nmpLinkDown mac _ => .event [(mac, 17)]
  | .nmpAnRetry mac => .event [(mac, 17)]
  | .nmpNoPacketTimeout flow => .event [(flow, 65536)]
  | .nmpLegLost flow leg => .event [(flow, 65536), (leg, 2)]
  | .nmpPacketSend flow leg _ _ => .event [(flow, 65536), (leg, 2)]
  | .nmpTxLate flow leg => .event [(flow, 65536), (leg, 2)]
  | .nmpGateStart mac => .event [(mac, 17)]
  | .nmpGateInterval mac => .event [(mac, 17)]
  | .mgmtMacCollision _ _ => .event []
  | .mgmtBackoffEnd => .event []
  | .laneStepDone x => .event [(x.lane, 152), (x.r.tx.length, 4), (x.r.rx.dfe.length, 13), (x.r.hcd, 16)]
  | .laneStepTimeout x => .event [(x.lane, 152)]
  | .laneRetry lane => .event [(lane, 152)]
  | .laneLockLost lane => .event [(lane, 152)]
  | .laneMarginMeasure lane _ _ => .event [(lane, 144)]
  | .laneShadowReady die spare _ => .event [(die, 2), (spare, 4)]
  | .engineWorkItem pf slot _ _ _ _ => .event [(pf, 512), (slot, 32)]
  | .srcRecover pf => .event [(pf, 512)]
  | .frameSyncDecision pf => .event [(pf, 512)]
  | .engineAuditTick room crc => .event [(room, 32), (crc, 2 ^ 32)]
  | .engineAuditThirdOpinion room crc => .event [(room, 32), (crc, 2 ^ 32)]
  | .layerDecision pf => .event [(pf, 512)]
  | .matrixSamplePeriod _ _ => .event []
  | .audPortFrameRx port _ _ _ _ _ _ => .event [(port, 64)]
  | .audPortFrameTx port _ => .event [(port, 64)]
  | .audClockLoss port => .event [(port, 64)]
  | .trainStepDone ctrl _ => .event [(ctrl, 12)]
  | .memRead master store _ _ _ => .event [(master, 65536), (store, 3)]
  | .memWrite master store _ _ _ => .event [(master, 65536), (store, 3)]
  | .rowIdleClose ctrl bank => .event [(ctrl, 12), (bank, 2048)]
  | .refreshDue ctrl rank _ => .event [(ctrl, 12), (rank, 64)]
  | .dimmTempRead ctrl dimm _ => .event [(ctrl, 12), (dimm, 2)]
  | .memCalibration ctrl kind => .event [(ctrl, 12), (kind, 2)]
  | .scrubPassEnd x => .event [(x.ctrl, 12)]
  | .pairingTimeout => .event []
  | .beatSend => .event []
  | .beatRx _ path _ => .event [(path, 2)]
  | .pairAckRx _ path => .event [(path, 2)]
  | .takeRx _ path => .event [(path, 2)]
  | .askRx _ path => .event [(path, 2)]
  | .passSend => .event []
  | .passRx _ path => .event [(path, 2)]
  | .passAckRx _ path => .event [(path, 2)]
  | .handoverConfirmPoint => .event []
  | .confirmRx _ path => .event [(path, 2)]
  | .pairCancelRx _ path => .event [(path, 2)]
  | .handoverAtB => .event []
  | .relayEnd => .event []
  | .jackRx _ path => .event [(path, 2)]
  | .leaveRx _ path => .event [(path, 2)]
  | .journalRecordRx jseq type fi _ _ => .event [(jseq, 2 ^ 32), (type, 256), (fi, 2 ^ 32)]
  | .journalDiverged => .event []
  | .pathLivenessTimeout path => .event [(path, 2)]
  | .leaseEnd => .event []
  | .recessWake => .event []
  | .takeoverWakeDone => .event []
  | .takeoverRestoreDone => .event []
  | .firstCommit dom => .event [(dom, 8)]
  | .restoredFlowTimeout flow => .event [(flow, 65536)]
  | .revertHoldOff => .event []
  | .warmPeriodEnd => .event []
  | .conseqWindowEnd => .event []
  | .chipResetReaction => .event []
  | .nmtSnapshotTaken _ => .event []
  | .blockErrorPin block room => .event [(block, 61), (room, 32)]
  | .rollCall dom => .event [(dom, 8)]
  | .aliveToggle => .event []
  | .fwWatchdog => .event []
  | .pwrBlockAnswer => .event []
  | .pwrAckTimeout => .event []
  | .pwrTransitionDone => .event []
  | .pwrRetry => .event []
  | .serviceWake ring => .event [(ring, 64)]
  | .serviceWakeEnd => .event []
  | .avsRequest rail => .event [(rail, 3)]
  | .avsResponse rail _ => .event [(rail, 3)]
  | .avsTimeout rail _ => .event [(rail, 3)]
  | .avsRead _ => .event []
  | .sensorSample _ => .event []
  | .thermTripRelease => .event []
  | .thermalLoop _ => .event []
  | .fanStall out => .event [(out, 4)]
  | .powerUp => .event []
  | .perstRelease => .event []
  | .perstAssert => .event []
  | .sysPwrgdFall => .event []
  | .gpio0Wake => .event []
  | .bootImageVerified _ _ => .event []
  | .cxlConfigReady => .event []
  | .tamperAssert => .event []
  | .dpllSettled => .event []
  | .ptpMessageSend mac _ => .event [(mac, 17)]
  | .runAheadRequestExpiry page => .event [(page, 2 ^ 32)]
  | .engineTileResetRelease room tile => .event [(room, 32), (tile, 34)]
  | .rgmiiInBandStatus _ _ _ => .event []

/-- Every value is below its bound. -/
def below (l : List (Nat × Nat)) : Bool := l.all (fun p => decide (p.1 < p.2))

/-- Every parameter fits its bytes. -/
def fits (l : List (Nat × Nat)) : Bool := l.all (fun p => decide (p.2 < 256 ^ p.1))

/-- The form's values are in range. -/
def Form.ok : Form → Bool
  | .cmd c _ a0 a1 args _ ranges =>
    decide (c.ring < 64) && decide (c.tag < 2 ^ 32) && decide (a0 < 2 ^ 64) && decide (a1 < 2 ^ 64) && fits args && below ranges
  | .event ranges => below ranges

/-- A command is well formed. -/
def Instr.wf (i : Instr) : Bool := i.form.ok

end Sys2Proof
end

