-- ==== Sys2Proof/Machine/Entry.lean ====
section
/-!
DEFINITION. A host command as the host sends it: the 64-byte entry it writes to its command ring (R331, R332) and the record it
places at ADDR0.
-/
namespace Sys2Proof.Machine
open Sys2Proof

/-- The entry of a host command; none for a register access or an event. -/
def entryOf (i : Instr) : Option CmdEntry :=
  match i.form with
  | .cmd c op a0 a1 args _ _ =>
    some { op := op, tag := c.tag, addr0 := a0, addr1 := a1, args := padTo 40 (packFrom 0 args) }
  | .event _ => none

/-- The command's header; for what is no host command, the header of ring 0 and TAG 0. -/
def cmdOf (i : Instr) : Cmd :=
  match i.form with
  | .cmd c _ _ _ _ _ _ => c
  | .event _ => { ring := 0, tag := 0 }

/-- The state once the host has written the record the command names. -/
def hostWrites (i : Instr) (s : State) : State :=
  match i.form with
  | .cmd _ _ a0 _ _ img _ => place a0 img s
  | .event _ => s

end Sys2Proof.Machine
end

