-- ==== Sys2Proof/Machine/ReadBack.lean ====
section
/-!
DEFINITION. What a read of a BAR0 register returns (R3, R4, R325): the fields that software holds, and the read-only fields as
each chapter's register section gives them, computed from the state. The table has no command for a read without a side
effect; the two reads that have one (TIM_SYSTIME_LO, FLT_ALOG_ADDR_LO) are commands of their own.
-/
namespace Sys2Proof.Machine
open Sys2Proof

/-! ## Codes -/

def rxCode (x : RxSt) : Nat :=
  match x with
  | .disabled => 0
  | .hunt => 1
  | .locked => 2
  | .identified => 3

def macCode (x : MacSt) : Nat :=
  match x with
  | .disabled => 0
  | .negotiating => 1
  | .training => 2
  | .aligning => 3
  | .up => 4
  | .lowPower => 5

def laneCode (x : LaneSt) : Nat :=
  match x with
  | .off => 0
  | .idle => 1
  | .base => 2
  | .step => 3
  | .trained => 4
  | .prbs => 5
  | .failed => 6

def spareCode (x : SpareSt) : Nat :=
  match x with
  | .free => 0
  | .shadow => 1
  | .ready => 2
  | .inService => 3
  | .retired => 4

def tileCode (x : TileSt) : Nat :=
  match x with
  | .free => 0
  | .pending => 1
  | .inService => 2
  | .retired => 3

def audPortCode (x : AudPortSt) : Nat :=
  match x with
  | .disabled => 0
  | .acquire => 1
  | .locked => 2
  | .lost => 3
  | .slipped => 4

def ctrlCode (x : CtrlSt) : Nat :=
  match x with
  | .untrained => 0
  | .training => 1
  | .trained => 2
  | .failed => 3

def bootCode (x : Boot) : Nat :=
  match x with
  | .rom => 0
  | .verifying => 1
  | .firmware => 2
  | .failed => 3

/-- A mask of the numbers below `n` that meet a test. -/
def maskOf (n : Nat) (ok : Nat → Bool) : Nat := sumBy (List.range n) (fun i => flag (ok i) i)

/-- 32 bits of a wide number. -/
def word32 (n i : Nat) : Nat := bits n (32 * i + 31) (32 * i)

/-! ## Read-only words by block -/

/-- TIM (R46, R48, R54, R58 to R69). -/
def timRead (s : State) (r : Reg) (i : Nat) : Option Nat :=
  match r with
  | .timSystimeLo => some (bits s.tim.now 31 0)
  | .timSystimeHi => some s.tim.hiLatch
  | .timDomFi => some (if domEn s i then fiWord s i else 0)
  | .timRefStatus =>
    let c := cand s i
    some (flag c.qualified 31 + flag (s.tim.sel == i) 30 + flag (decide (acceptLim s i < c.offset.natAbs)) 29 + flag c.los 28 +
      c.cause * 2 ^ 26 + clampSigned 26 c.offset)
  | .timRefHist => some (cand s i).hist
  | .timVphase =>
    let kind4 := fld s .timRefCfg i 26 24 == 4
    some (flag (kind4 && (cand s i).vValid) 31 + (cand s i).vPhase)
  | .timSelStatus =>
    some (modeCode s.tim.mode * 2 ^ 28 + holdQuality s * 2 ^ 26 + flag s.tim.forced 25 + flag (!(disagreeing s).isEmpty) 24 +
      s.tim.sel * 2 ^ 16)
  | .timOvenStatus => some (flag s.tim.ovenStable 31 + s.tim.ovenCode % 2 ^ 16)
  | _ => none

/-- SWC, AQF and SVP (R80, R103, R131, R144, R161, R165, R169, R172). -/
def mediaRead (s : State) (r : Reg) (i : Nat) : Option Nat :=
  match r with
  | .swcTtStatus =>
    some (residentPages s * 2 ^ 16 + tcount s.tt.slots (fun _ p => p.part && (p.pst == .armed || p.pst == .committed)))
  | .swcPrefetchDiscard => some s.swc.prefetchDiscard
  | .swcXpCollision => some s.swc.xpCollision
  | .aqfCellLateCount => some s.aqf.cellLate
  | .aqfCrcCount => some s.aqf.crcCount
  | .svpRxStatus =>
    let x := sdiRx s i
    let on := x.st == .locked || x.st == .identified
    some (rxCode x.st * 2 ^ 29 + (if on then x.rate else 0) * 2 ^ 25 + flag x.levelB 24 + flag x.vpidHere 23 + flag x.flywheel 22 +
      (if x.st = .identified then x.format else 0xFFFF))
  | .svpRxArrival => some (match (sdiRx s i).arrival with
    | some z => if lockedVideo s i then ofSigned 32 z else 0x80000000
    | none => 0x80000000)
  | .svpRxCrc => some (sdiRx s i).crc
  | .svpRxVpid => some (if (sdiRx s i).vpidHere then (sdiRx s i).vpid else 0)
  | .svpTxStatus =>
    let x := sdiTx s i
    let on := x.sending && sdiRuns s
    some (flag on 31 + (if on then x.ifRate else 0) * 2 ^ 27 + x.ancDrops)
  | _ => none

/-- NMP and LNX (R180, R184, R200, R207, R210, R214, R219 to R222). -/
def lineRead (s : State) (r : Reg) (i j : Nat) : Option Nat :=
  match r with
  | .nmpMacStatus =>
    let m := mac s i
    some (macCode m.st * 2 ^ 29 + flag m.fecLock 28 + m.hcd * 2 ^ 24 + m.txDrops)
  | .nmpRxFcs => some (mac s i).fcs
  | .nmpRxDrop => some (mac s i).drop
  | .nmpGateStatus =>
    let m := mac s i
    some (flag m.oper.isSome 31 + flag m.pend.isSome 30 + ((m.oper.map (fun g => g.entries.length)).getD 0))
  | .nmpMgmtStatus => some (flag s.nmp.mgmtLink 31 + s.nmp.lateColl * 2 ^ 8 + s.nmp.excessColl)
  | .nmpXringDrop => some s.nmp.xDrop
  | .lnxLaneStatus =>
    let l := lane s i
    let st := laneSt s i
    some (laneCode st * 2 ^ 28 + (if st = .off ∨ st = .idle then 0 else l.rate) * 2 ^ 19 + flag l.spare.isSome 18 +
      (l.spare.getD 0) * 2 ^ 16 + l.marginH.value * 2 ^ 8 + l.marginV.value)
  | .lnxPrbsErr => some (prbsCount s i)
  | .lnxSpareStatus =>
    let x := tgetD s.lnx.spares (4 * i + j) {}
    some (spareCode x.st * 2 ^ 29 + x.lane)
  | _ => none

/-- IKA and AUD (R14, R229, R245 to R251, R275 to R280, R287 to R293). -/
def engineRead (s : State) (r : Reg) (i : Nat) : Option Nat :=
  match r with
  | .ikaClassLoad => some (roomCycles s i * 2 ^ 16 + roomLines s i)
  | .ikaClassSpare =>
    let x := tgetD s.ika.rooms i {}
    some (tileCode x.s32.st * 2 ^ 29 + x.s32.slot * 2 ^ 24 + tileCode x.s33.st * 2 ^ 21 + x.s33.slot * 2 ^ 16 +
      flag (auditsRun s && roomEn s i && (auditorOf x).isSome) 9 + x.auditor * 2 ^ 8 + x.auditNext)
  | .ikaClassAudit => some ((tgetD s.ika.rooms i {}).passes * 2 ^ 16 + (tgetD s.ika.rooms i {}).fails)
  | .ikaHbmLoad => some (procBw s 1)
  | .ikaDdrLoad => some (procBw s 2)
  | .ikaCat => some (tgetD s.ika.cat (i + 1) 0)
  | .audStatus => some (activeXps s)
  | .audSatCount => some s.aud.sat
  | .audLateCount => some s.aud.late
  | .audXpCollision => some s.aud.collision
  | .audDelayHbm => some (delayBw s 1)
  | .audDelayDdr => some (delayBw s 2)
  | .audPortStatus =>
    let x := audPort s i
    some (audPortCode x.st * 2 ^ 29 + flag (x.clockHere || wsMaster i x) 28 +
      (if x.st = .locked then clampSigned 16 (x.phi - x.phi0) else 0))
  | .audPortErr => some ((audPort s i).coding * 2 ^ 16 + (audPort s i).crcc)
  | _ => none

/-- MEM (R300, R311, R313, R317). -/
def storeRead (s : State) (r : Reg) (i : Nat) : Option Nat :=
  match r with
  | .memCtrlStatus =>
    let c := ctrl s i
    let most (f : Rank → Nat) : Nat := (c.ranks.map (fun q => f q.2)).foldl max 0
    some (ctrlCode c.st * 2 ^ 29 + (if c.st = .training then c.step else 0) * 2 ^ 26 + (if i < 8 then c.rate else 0) * 2 ^ 24 +
      flag (c.ranks.any (fun q => q.2.doubled)) 23 + (if i < 8 then min 7 (most (fun q => q.owed)) else 0) * 2 ^ 20 +
      min 16 (holdingRows s i) * 2 ^ 8 + most (fun q => q.temp / 4) % 256)
  | .memWinStatus =>
    let w := tgetD s.mem.wins i {}
    some (flag w.opened 31 + w.store * 2 ^ 30 + w.base * 2 ^ 16 + w.size)
  | .memWinReserve => some (tgetD s.mem.wins i {}).reserve
  | _ => none

/-- IDENT, HIF and RED (R320, R330 to R338, R353 to R363). -/
def hostRead (s : State) (r : Reg) (i : Nat) : Option Nat :=
  match r with
  | .identId => some identWord
  | .identUidLo => some (word32 s.sec.uid 0)
  | .identUidHi => some (word32 s.sec.uid 1)
  | .identFw => some (if s.pwr.boot = .firmware then s.sec.fw else 0)
  | .identBoot => some s.sec.slot
  | .hifSetupLock => some (flag s.hif.lock 0)
  | .hifLinkStatus =>
    let h := s.hif
    let low := h.linkUp && (decide (h.speed < fld s .hifLinkCfg 0 3 0) || decide (h.width < fld s .hifLinkCfg 0 7 4))
    some (flag h.linkUp 31 + flag h.cxlIo 30 + flag h.cxlCache 29 + flag h.cxlMem 28 + flag low 27 + h.width * 2 ^ 4 + h.speed)
  | .hifCmdStatus =>
    let q := cmdRing s i
    some ((if q.error then 2 else if q.en then 1 else 0) * 2 ^ 30 + q.head)
  | .hifCplStatus => some (flag (cplRing s i).phase 16 + (cplRing s i).tail)
  | .hifEvtLost => some (evtRing s i).lost
  | .redStatus => some (redStatus s)
  | .redGen => some s.red.gen
  | .redJseq => some (jseqShown s)
  | .redJournal => some (journalKib s)
  | _ => none

/-- FLT (R379 to R394). -/
def faultRead (s : State) (r : Reg) (i : Nat) : Option Nat :=
  let f := s.flt
  match r with
  | .fltHealthLo => some (word32 f.health 0)
  | .fltHealthHi => some (word32 f.health 1)
  | .fltHealthIka => some f.healthIka
  | .fltAlive =>
    some (flag f.aliveLevel 31 + flag f.aliveStopped 30 + flag f.snap.isSome 29 + f.snapLost * 2 ^ 10 + f.aliveBy)
  | .fltResetCause => some (match f.resetCause with | some n => 2 ^ 31 + n | none => 0)
  | .fltSigCount => some f.sigCount
  | .fltRcMismatch => some f.rcMismatch
  | .fltRcSkipped => some f.rcSkipped
  | .fltAlogStatus => some (f.alogValid * 2 ^ 16 + f.alogNext * 2 ^ 12 + f.alogLost)
  | .fltSrcStatus => some (srcStatusWord s i)
  | .fltSrcFirst => some (srcStat s i).first
  | .fltSrcLast => some (srcStat s i).last
  | .fltAlogAddrLo => some (word32 (tgetD f.alog i {}).addr 0)
  | .fltAlogAddrHi => some (tgetD f.alogLatch i {}).hi
  | .fltAlogSpace => some (tgetD f.alogLatch i {}).info
  | .fltAlogStamp => some (tgetD f.alogLatch i {}).stamp
  | _ => none

/-- PWR and SEC (R403 to R415, R420 to R430). -/
def powerRead (s : State) (r : Reg) (i j : Nat) : Option Nat :=
  let p := s.pwr
  match r with
  | .pwrStatus =>
    some (pwrCode p.st * 2 ^ 30 + flag p.trans.isSome 29 + ((p.trans.map (fun t => pwrCode t.target)).getD 0) * 2 ^ 27 +
      flag p.pend.isSome 26 + ((p.pend.map (fun t => pwrCode t.1)).getD 0) * 2 ^ 24 + bootCode p.boot * 2 ^ 22)
  | .pwrGatedClass => some (maskOf 32 (classGated s))
  | .pwrGatedIo => some (flag (hbmGated s) 31 + maskOf 8 (octetGated s))
  | .pwrGatedQuadLo => some (maskOf 32 (quadGated s))
  | .pwrGatedQuadHi => some (maskOf 4 (fun k => quadGated s (32 + k)))
  | .pwrWake => some (p.wakeCause * 2 ^ 28)
  | .pwrWakeTs => some p.wakeTs
  | .pwrAvsStatus => some ((tgetD p.rails i {}).mv * 2 ^ 16 + (tgetD p.rails i {}).iout)
  | .pwrEst => some (estPower s / 100 * 2 ^ 16 + feedForward s / 100)
  | .pwrOutStatus => some ((cooler s i).duty / 10000 * 2 ^ 24 + (cooler s i).rpm % 2 ^ 16)
  | .pwrTemp => some (flag (tgetD p.sensors i {}).failed 31 + ofSigned 16 (tgetD p.sensors i {}).temp)
  | .secFuseLotLo => some s.sec.lotLo
  | .secFuseLotHi => some (s.sec.wafer * 2 ^ 16 + s.sec.lotHi)
  | .secFuseDie => some (s.sec.dieX * 2 ^ 8 + s.sec.dieY)
  | .secLifecycle => some (s.sec.life * 2 ^ 29 + flag s.sec.cosign.isSome 28 + flag s.sec.tampered 27 + s.sec.counter)
  | .secBootStatus =>
    some (s.sec.resultA * 2 ^ 28 + s.sec.resultB * 2 ^ 24 + flag (superseded s.sec.slotA) 23 + flag (superseded s.sec.slotB) 22)
  | .secKeyDigest => some (word32 s.sec.keyDigest i)
  | .secCosignDigest => some (word32 (s.sec.cosign.getD 0) i)
  | .secRecoveryCtl => some (flag s.sec.recBusy 30 + s.sec.recResult * 2 ^ 26)
  | .secMeas => some (word32 (s.sec.meas.getD i 0) j)
  | _ => none

/-- The first answer among several. -/
def firstSome : List (Option Nat) → Nat → Nat
  | [], d => d
  | some n :: _, _ => n
  | none :: l, d => firstSome l d

/-- A register read: its read-only word, or the fields that software holds. -/
def readReg (s : State) (r : Reg) (i j : Nat) : Nat :=
  firstSome [timRead s r i, mediaRead s r i, lineRead s r i j, engineRead s r i, storeRead s r i, hostRead s r i, faultRead s r i,
    powerRead s r i j] (regWord s r i j)

/-- A 4-byte read of BAR0: an offset of a block at which no register lies reads 0 (R325); none where no block decodes it. -/
def readBar0 (s : State) (off : Nat) : Option Nat :=
  if off % 4 ≠ 0 || !decoded off then none
  else if off < 0xF00000 then
    match locate off with
    | some (r, i, j) => some (readReg s r i j)
    | none => some 0
  else if off < 0xF00400 then
    let x := tgetD s.hif.msix ((off - 0xF00000) / 16) {}
    some ((match off % 16 / 4 with
      | 0 => x.addrLo
      | 1 => x.addrHi
      | 2 => x.data
      | _ => x.ctrl).toNat)
  else if off < 0xF10000 then some (maskOf 32 (fun k => (tgetD s.hif.msix (32 * ((off - 0xF00800) / 4) + k) {}).pend))
  else some (tgetD s.hif.comp off 0).toNat

end Sys2Proof.Machine
end

