-- ==== Sys2Proof/Safety.lean ====
section
/-!
DEFINITION. The terms in which claims about the block are made: a command that completes, the reply of a host command, what a
command left as it was, the invariant of every step, and a run that never stops.
-/
namespace Sys2Proof.Machine
open Sys2Proof

/-- The command completes: exec answers a next state, and that state has the property. -/
def Completes (i : Instr) (s : State) (P : State → Prop) : Prop := ∃ t, exec i s = .next t ∧ P t

/-- No block reset waits to be carried out: the resets a command's raises decide are carried out in its own cycle (R379). -/
abbrev Settled (s : State) : Prop := s.flt.resetQ = []

/-- What `t` holds is what `s` holds, but for the host interface, the fault collector and the outputs. -/
def SameBlock (s t : State) : Prop := t = { s with hif := t.hif, flt := t.flt, wire := t.wire }

/-- The host address of the next completion entry of the command's completion ring (R335, R336). -/
def cplAt (s : State) (c : Cmd) : Nat :=
  rdAddr s .hifCplBaseLo .hifCplBaseHi (cplOf s c.ring) + 32 * (cplRing s (cplOf s c.ring)).tail

/-- What `t` holds is what `s` holds, but for what a completion changes: its rings, its vector, its 32-byte entry in host memory,
the outputs, and the fault collector and the lines held if the entry's write fails. -/
def CompletionOnly (c : Cmd) (s t : State) : Prop :=
  t = { s with
    hif := { s.hif with
      mem := t.hif.mem, cmd := t.hif.cmd, cpl := t.hif.cpl, msix := t.hif.msix, replied := t.hif.replied, lines := t.hif.lines }
    flt := t.flt, wire := t.wire } ∧
    (c.cplOk = true → t.flt = s.flt ∧ t.hif.lines = s.hif.lines) ∧
    ∀ a, a < cplAt s c ∨ cplAt s c + 32 ≤ a → cget t.hif.mem a = cget s.hif.mem a

/-- The last completion is that of command `c` with opcode, status, result and offending address (R335). -/
def Replied (c : Cmd) (op st result err : Nat) (t : State) : Prop :=
  t.hif.replied = some { ring := c.ring, tag := c.tag, op := op, st := st, result := result, err := err }

/-- The command ends DONE with a result, having changed no more than `s` shows (R335, R339). -/
def EndsDone (c : Cmd) (op result : Nat) (s t : State) : Prop := CompletionOnly c s t ∧ Replied c op 0 result 0 t

/-- The command is ACCEPTED, having changed no more than `s` shows; its FINAL record follows later (R335, R339). -/
def EndsAccepted (c : Cmd) (op : Nat) (s t : State) : Prop := CompletionOnly c s t ∧ Replied c op 1 0 0 t

/-- The command ends with an error status, having changed nothing but the log (R339, R340). -/
def Fails (c : Cmd) (op st err : Nat) (s t : State) : Prop := SameBlock s t ∧ Replied c op st 0 err t

/-- Nothing but its own rule turns a command away or follows it: its unit is not STANDBY or WARM (R364), no FENCE waits whose
release would follow its completion (R341), and no block reset is left from before. -/
abbrev Clear (s : State) : Prop := s.hif.fences = [] ∧ s.flt.resetQ = [] ∧ barred s = false

/-- The source has been raised in the step from `s` to `t`: its count of raises is one more, saturating at 255 (R381), and the
last record queued is its own (R337). -/
def Raised (src : Nat) (data : List (Nat × Nat)) (addr : Nat) (s t : State) : Prop :=
  (tgetD t.flt.stat src {}).count = min ((tgetD s.flt.stat src {}).count + 1) 255 ∧
    ∃ r, t.flt.evq.getLast? = some r ∧ r.src = src ∧ r.stamp = ts32 t.tim.now ∧ r.addr = addr ∧
      r.data = padTo 12 (packFrom 0 data)

/-- As Raised, where the records of other sources raised in the same step may follow the source's own. -/
def RaisedAmong (src : Nat) (data : List (Nat × Nat)) (s t : State) : Prop :=
  (tgetD t.flt.stat src {}).count = min ((tgetD s.flt.stat src {}).count + 1) 255 ∧
    ∃ r, r ∈ t.flt.evq ∧ r.src = src ∧ r.stamp = ts32 t.tim.now ∧ r.data = padTo 12 (packFrom 0 data)

/-- The FINAL record of the ACCEPTED command of TAG `tag` is queued last (R337, R339). -/
def Final (src tag : Nat) (t : State) : Prop := ∃ r, t.flt.evq.getLast? = some r ∧ r.src = src ∧ r.kind = 1 ∧ r.tag = tag

/-- What `t` holds is what `s` holds, but for the timetable engine and what its messages, records and journal change: the
fabric's queues, the collector, the journal and the counter. -/
def PageOnly (s t : State) : Prop := t = { s with
  tim := { s.tim with now := t.tim.now }, tt := t.tt, aqf := t.aqf, flt := t.flt
  red := { s.red with jseq := t.red.jseq, jout := t.red.jout, heldMsgs := t.red.heldMsgs } }

/-- As PageOnly, with a host command's completion. -/
def PageReply (s t : State) : Prop := t = { s with
  tt := t.tt, aqf := t.aqf, flt := t.flt, hif := t.hif, wire := t.wire
  red := { s.red with jseq := t.red.jseq, jout := t.red.jout, heldMsgs := t.red.heldMsgs } }

/-- The source has been raised exactly once between `s` and `t`: its count of raises is one more, saturating at 255 (R381). -/
def RaisedOnce (src : Nat) (s t : State) : Prop :=
  (tgetD t.flt.stat src {}).count = min ((tgetD s.flt.stat src {}).count + 1) 255

/-- A machine that no command stops. -/
def Safe (s : State) : Prop := ∀ i, ∃ t, exec i s = .next t

end Sys2Proof.Machine
end

