-- ==== Sys2Proof/Certificates/Slice0/Obligations.lean ====
section
/-!
DEFINITION. The statements about the block: how its queue and its host commands run, what every step keeps, and what each family
of commands does and leaves as it was.
-/
open Sys2Proof Sys2Proof.Machine

/-- A step runs the command at the front of the queue on the rest of the state (spec/INDEX.md: Files). Where the spec leaves a
point open it states the model's choice: log entry 1. -/
def Obligations.StepRunsFrontCommand : Prop :=
  ∀ (s : State) (c : Instr) (rest : List Instr), s.pending = c :: rest → step s = exec c { s with pending := rest }

/-- With no command waiting a step passes one nanosecond of the oscillator (the model's choice) (spec/03_timing_and_references.md:
The system nanosecond counter). Where the spec leaves a point open it states the model's choice: log entry 2. -/
def Obligations.IdleStepPassesTime : Prop :=
  ∀ (s : State) (x : Nat), s.pending = [] → x = ((s.tim.frac + 2 ^ 32 : Nat) + counterRate s * 2 ^ 32 / 10 ^ 12).toNat →
    step s = .next { s with tim := { s.tim with now := s.tim.now + x / 2 ^ 32, frac := x % 2 ^ 32 } } ∧
    (counterRate s = 0 → s.tim.frac < 2 ^ 32 → step s = .next { s with tim := { s.tim with now := s.tim.now + 1 } })

/-- Every command is answered by a next state (spec/INDEX.md: Files). -/
def Obligations.NoCommandStopsTheBlock : Prop :=
  ∀ s : State, Safe s

/-- The 64-byte entry of a host command decodes to that command, with every parameter at every value (spec/13_host_interface.md:
Commands, spec/13_host_interface.md: Opcodes). -/
def Obligations.EntryRunsItsCommand : Prop :=
  ∀ (i : Instr) (e : CmdEntry), i.wf = true → entryOf i = some e →
    parseEntry (entryBytes e) = e ∧
      ∃ f, lookupOp e.op (cmdOf i) e = some f ∧ ∀ s, exec i s = .next (settle (f (hostWrites i s)))

/-- No step leaves a block reset undone (spec/15_faults_and_integrity.md: Sources). Where the spec leaves a point open it states
the model's choice: log entry 9. -/
def Obligations.EveryStepCarriesOutItsResets : Prop :=
  ∀ s t : State, Settled s → step s = .next t → Settled t

/-- At reset no block reset waits (spec/15_faults_and_integrity.md: Sources). Where the spec leaves a point open it states the
model's choice: log entry 9. -/
def Obligations.ResetHasNoResetWaiting : Prop :=
  Settled State.reset

/-- NOP, VERSION_READ and FENCE complete, and FENCE waits for the other rings (spec/13_host_interface.md: Opcodes,
spec/13_host_interface.md: Completions). Where the spec leaves a point open it states the model's choice: log entry 11. -/
def Obligations.GeneralCommandsComplete : Prop :=
  ∀ (c : Cmd) (a : Nat) (s : State), Clear s →
    Completes (.nop c) s (EndsDone c 0x0001 0 s) ∧
    (c.hostOk = true → Completes (.versionRead c a) s (EndsDone c 0x0002 0 (hostWrite a (versionRecord s) s))) ∧
    (c.hostOk = false → Completes (.versionRead c a) s (Fails c 0x0002 0x21 a s)) ∧
    (versionRecord s).length = 64 ∧ fieldAt (versionRecord s) 0 4 = 0x1024B000 ∧
    (busyRings s c.ring = [] → Completes (.fence c) s (EndsDone c 0x0003 0 s)) ∧
    (busyRings s c.ring ≠ [] → Completes (.fence c) s (fun t =>
      t = { s with hif := { s.hif with fences := t.hif.fences, cmd := t.hif.cmd } } ∧
        t.hif.fences = [{ cmd := c, rings := busyRings s c.ring }] ∧ (cmdRing t c.ring).busy = true))

/-- A write that would change an RWL field under the lock is ignored and logged as a violation (R326). -/
def Obligations.LockFreezesRwlFields : Prop :=
  ∀ (s : State) (r : Reg) (i j m off : Nat) (v : Word),
    Settled s → masterOk s m = true → off % 4 = 0 → off < 0xF00000 → locate off = some (r, i, j) →
    r ∉ ([.timRefHist, .fltSrcStatus, .fltHealthLo, .fltHealthHi, .fltHealthIka, .secRecoveryCtl, .memMoverCfg, .hifSetupLock] : List Reg) →
    writeShut s r = false → s.hif.lock = true →
    (regWord s r i j ^^^ mergeWord r (regWord s r i j) v.toNat) &&& (regSpec r).rwl ≠ 0 →
    Completes (.registerWrite m off v) s (fun t =>
      t = { s with flt := t.flt, hif := { s.hif with resp := t.hif.resp } } ∧
        (∃ u, Raised 0x009 [(1, m)] (regOff r i j) s u ∧ t.flt = (alog (regOff r i j) .bar0 (64 + m) 0x009 u).flt) ∧
        (tgetD t.flt.alog s.flt.alogNext {}).addr = regOff r i j ∧
        t.hif.resp = (if m < 4 ∨ m = 6 then some .errorResponse else s.hif.resp))

/-- A write in range sets the RW and RWL fields of its register and nothing else; LOCK is write-1-to-set (spec/00_scope.md:
Conventions, spec/13_host_interface.md: BARs and the register space). Where the spec leaves a point open it states the model's
choice: log entry 20. -/
def Obligations.PlainRegisterWriteTaken : Prop :=
  (∀ (s : State) (r : Reg) (i j m off : Nat) (v : Word),
    Settled s → masterOk s m = true → off % 4 = 0 → off < 0xF00000 → locate off = some (r, i, j) → s.hif.lock = false →
    r ∈ ([.hifEvtRoute, .fltCfg, .timStepCfg, .timRefLim, .redCfg, .redCfg2, .swcTtCfg, .aqfDevCfg, .pwrCfg, .pwrThermCfg,
      .hifRcBaseLo, .hifRcBaseHi] : List Reg) →
    rangeBad r i (mergeWord r (rd s r i j) v.toNat) = false →
    Completes (.registerWrite m off v) s (fun t =>
      rd t r i j = mergeWord r (rd s r i j) v.toNat % 2 ^ 32 ∧
        (∀ q k l, regOff q k l ≠ regOff r i j → rd t q k l = rd s q k l) ∧ t = { s with regs := t.regs })) ∧
  (∀ (s : State) (m : Nat), Settled s → masterOk s m = true →
    Completes (.setupLock m) s (fun t => t = { s with hif := { s.hif with lock := true } }) ∧
    Completes (.registerWrite m 0x100004 0) s (fun t => t = s))

/-- Setting EN of a ring starts it empty at the places its rule gives (spec/13_host_interface.md: Rings in host memory,
spec/05_aiquel_fabric.md: Unscheduled traffic, spec/07_network_media_ports.md: Host frames). Where the spec leaves a point
open it states the model's choice: log entry 28. -/
def Obligations.RingsStart : Prop :=
  ∀ (s : State) (m q n e k line : Nat), Settled s → masterOk s m = true → s.hif.lock = false → q < 64 → n < 64 → e < 8 →
    (4 ≤ k → k ≤ 12 → (cmdRing s q).en = false → (cplRing s n).en = true → line < 2 ^ k → Memory.wf s.hif.mem = true →
      Completes (.cmdRingEnable m q (BitVec.ofNat 32 (2 ^ 31 + n * 2 ^ 16 + k)) (some line)) s (fun t =>
        (cmdRing t q).en = true ∧ (cmdRing t q).error = false ∧ (cmdRing t q).head = line ∧ (cmdRing t q).producer = line ∧
          cplOf t q = n ∧ cmdSize t q = 2 ^ k)) ∧
    (4 ≤ k → k ≤ 14 → (cplRing s n).en = false →
      Completes (.cplRingEnable m n (BitVec.ofNat 32 (2 ^ 31 + k))) s (fun t =>
        cplRing t n = { en := true, tail := 0, phase := true, cons := 0, used := 0 } ∧ cplSize t n = 2 ^ k)) ∧
    (6 ≤ k → k ≤ 14 → (evtRing s e).en = false → (evtRing s e).owed = 0 → s.hif.held = [] →
      Completes (.evtRingEnable m e (BitVec.ofNat 32 (2 ^ 31 + k))) s (fun t =>
        (evtRing t e).en = true ∧ (evtRing t e).tail = 0 ∧ (evtRing t e).phase = true ∧ (evtRing t e).used = 0 ∧ evtSize t e = 2 ^ k)) ∧
    (4 ≤ k → k ≤ 14 → s.aqf.msgEn = false →
      Completes (.msgRingEnable m (BitVec.ofNat 32 (2 ^ 31 + k))) s (fun t =>
        t.aqf.msgEn = true ∧ t.aqf.msgTail = 0 ∧ t.aqf.msgPhase = true ∧ t.aqf.msgUsed = 0)) ∧
    (4 ≤ k → k ≤ 14 → s.nmp.xEn = false →
      Completes (.xringEnable m (BitVec.ofNat 32 (2 ^ 31 + k))) s (fun t =>
        t.nmp.xEn = true ∧ t.nmp.xTail = 0 ∧ t.nmp.xPhase = true ∧ t.nmp.xUsed = 0))

/-- Clearing EN stops a ring, but for a completion ring that an enabled command ring names (spec/13_host_interface.md: Rings in
host memory). -/
def Obligations.RingsStop : Prop :=
  ∀ (s : State) (m q p n e : Nat), Settled s → masterOk s m = true → q < 64 → n < 64 → e < 8 → p ≠ q →
    ((cmdRing s q).en = true → rangeBad .hifCmdCfg q (rd s .hifCmdCfg q) = false →
      Completes (.cmdRingDisable m q (BitVec.ofNat 32 (clrBit (rd s .hifCmdCfg q) 31))) s (fun t =>
        cmdRing t q = { cmdRing s q with en := false } ∧ cmdRing t p = cmdRing s p ∧
          t.hif.cpl = s.hif.cpl ∧ t.hif.evt = s.hif.evt)) ∧
    ((cplRing s n).en = true → rangeBad .hifCplCfg n (rd s .hifCplCfg n) = false →
      s.hif.cmd.any (fun p => p.2.en && cplOf s p.1 == n) = false →
      Completes (.cplRingDisable m n (BitVec.ofNat 32 (clrBit (rd s .hifCplCfg n) 31))) s (fun t =>
        cplRing t n = { cplRing s n with en := false } ∧ t.hif.cmd = s.hif.cmd ∧ t.hif.evt = s.hif.evt)) ∧
    ((cplRing s n).en = true → rangeBad .hifCplCfg n (rd s .hifCplCfg n) = false →
      s.hif.cmd.any (fun p => p.2.en && cplOf s p.1 == n) = true →
      Completes (.cplRingDisable m n (BitVec.ofNat 32 (clrBit (rd s .hifCplCfg n) 31))) s (fun t =>
        (cplRing t n).en = true ∧ (tgetD t.flt.stat 0x009 {}).count = min ((tgetD s.flt.stat 0x009 {}).count + 1) 255)) ∧
    ((evtRing s e).en = true → rangeBad .hifEvtCfg e (rd s .hifEvtCfg e) = false →
      Completes (.evtRingDisable m e (BitVec.ofNat 32 (clrBit (rd s .hifEvtCfg e) 31))) s (fun t =>
        evtRing t e = { evtRing s e with en := false } ∧ t.hif.cmd = s.hif.cmd ∧ t.hif.cpl = s.hif.cpl))

/-- Accesses that no target takes are answered and raised, and touch nothing else (spec/13_host_interface.md: The bus matrix,
spec/13_host_interface.md: BARs and the register space). -/
def Obligations.BusErrorsAreReported : Prop :=
  ∀ (s : State) (m a size : Nat) (w : Bool), Settled s →
    Completes (.busOrphan m a) s (fun t => t = { s with flt := t.flt } ∧ Raised 0x023 [(1, m)] a s t) ∧
    Completes (.busTimeout m a) s (fun t =>
      t = { s with flt := t.flt, hif := { s.hif with resp := some .errorResponse } } ∧ Raised 0x022 [(1, m)] a s t) ∧
    Completes (.bar2IoRequest a w) s (fun t =>
      t = { s with flt := t.flt, hif := { s.hif with resp := some .unsupportedRequest } } ∧ Raised 0x020 [(1, 4)] a s t) ∧
    (size ≠ 4 → bit s.flt.alogValid s.flt.alogNext = false →
      Completes (.bar0DefaultAccess m a size false) s (fun t =>
        t = { s with flt := t.flt, hif := { s.hif with resp := some .completerAbort } } ∧ Raised 0x021 [(1, m)] a s t ∧
          (tgetD t.flt.alog s.flt.alogNext {}).addr = a ∧ bit t.flt.alogValid s.flt.alogNext = true))

/-- A doorbell read moves PRODUCER if it is valid, and a consumer index frees the entries it has passed
(spec/13_host_interface.md: Rings in host memory, spec/13_host_interface.md: Completions). -/
def Obligations.DoorbellsAndIndices : Prop :=
  ∀ (s : State) (q n v : Nat), Settled s → v < 65536 →
    ((cmdRing s q).en = true → polling s = true → v < cmdSize s q →
      Completes (.doorbellPoll [(q, v)]) s (fun t =>
        (cmdRing t q).producer = v ∧ (cmdRing t q).head = (cmdRing s q).head ∧
          t = { every .doorbells 1000 s with hif := t.hif })) ∧
    ((cmdRing s q).en = true → polling s = true → cmdSize s q ≤ v → (cmdRing s q).seen ≠ v →
      Completes (.doorbellPoll [(q, v)]) s (fun t =>
        (cmdRing t q).producer = (cmdRing s q).producer ∧ (cmdRing t q).head = (cmdRing s q).head ∧ (cmdRing t q).seen = v ∧
          Raised 0x004 [(1, q), (2, v)] 0 s t)) ∧
    ((cmdRing s q).en = true → polling s = true → cmdSize s q ≤ v → (cmdRing s q).seen = v →
      Completes (.doorbellPoll [(q, v)]) s (fun t => cmdRing t q = cmdRing s q ∧ t = { every .doorbells 1000 s with hif := t.hif })) ∧
    ((cmdRing s q).en = true → polling s = false → s.hif.lines.contains (doorbell s q) = true → v < cmdSize s q →
      Completes (.doorbellSnoop .cmd q v) s (fun t =>
        (cmdRing t q).producer = v ∧ (cmdRing t q).head = (cmdRing s q).head ∧ t = { s with hif := t.hif })) ∧
    ((cplRing s n).en = true → (cplRing s n).used = cplSize s n → (cplRing s n).cons < cplSize s n → v < cplSize s n →
      v ≠ (cplRing s n).cons →
      Completes (.consumerIndexRead .cpl n v) s (fun t =>
        (cplRing t n).cons = v ∧
          (cplRing t n).used + (v + cplSize s n - (cplRing s n).cons) % cplSize s n = (cplRing s n).used ∧
          t = { (if polling s then apart (.index (64 * ringCode .cpl + n)) 1000 s else s) with hif := t.hif }))

/-- The oldest record goes to the ring its group is routed to, or is dropped and counted (spec/13_host_interface.md: Event records
and rings). Where the spec leaves a point open it states the model's choice: log entry 28. -/
def Obligations.EventRecordsReachTheirRing : Prop :=
  ∀ (s : State) (r : EvRec) (rest : List EvRec), Settled s → s.flt.evq = r :: rest → Memory.wf s.hif.mem = true →
    ((evtRing s (routeOf s r)).en = true → (evtRing s (routeOf s r)).owed = 0 →
      (evtRing s (routeOf s r)).used < evtSize s (routeOf s r) →
      Completes (.eventRecordWrite true) s (fun t =>
        t.flt.evq = rest ∧
          cread t.hif.mem (rdAddr s .hifEvtBaseLo .hifEvtBaseHi (routeOf s r) + 32 * (evtRing s (routeOf s r)).tail)
            (recordBytes r (evtRing s (routeOf s r)).phase).length = recordBytes r (evtRing s (routeOf s r)).phase ∧
          (evtRing t (routeOf s r)).used = (evtRing s (routeOf s r)).used + 1 ∧
          t = { s with hif := t.hif, flt := t.flt, wire := t.wire })) ∧
    ((evtRing s (routeOf s r)).en = true → (evtRing s (routeOf s r)).owed = 0 →
      evtSize s (routeOf s r) ≤ (evtRing s (routeOf s r)).used →
      Completes (.eventRecordWrite true) s (fun t =>
        t.flt.evq = rest ∧ (evtRing t (routeOf s r)).lost = min ((evtRing s (routeOf s r)).lost + 1) (2 ^ 32 - 1) ∧
          (evtRing t (routeOf s r)).owed = 1 ∧ t.hif.mem = s.hif.mem ∧ t.hif.held = s.hif.held ∧ t.wire = s.wire)) ∧
    ((evtRing s (routeOf s r)).en = true → (evtRing s (routeOf s r)).owed = 0 →
      (evtRing s (routeOf s r)).used < evtSize s (routeOf s r) →
      Completes (.eventRecordWrite false) s (fun t =>
        (evtRing t (routeOf s r)).en = false ∧ t.hif.mem = s.hif.mem ∧ RaisedOnce 0x002 s t ∧
          t = { s with hif := { s.hif with evt := t.hif.evt, lines := t.hif.lines, held := t.hif.held }, flt := t.flt }))

/-- At the end of a hold-off the deferred write is signalled, once (spec/13_host_interface.md: Interrupts). Where the spec leaves
a point open it states the model's choice: log entry 4. -/
def Obligations.HeldOffVectorFires : Prop :=
  ∀ (s : State) (v h : Nat), Settled s →
    ((tgetD s.hif.msix v {}).deferred = some h → bit (tgetD s.hif.msix v {}).ctrl.toNat 0 = false → s.hif.fnMask = false →
      Completes (.irqHoldoffEnd v) s (fun t =>
        t.wire = s.wire ++ [.msi v] ∧ (tgetD t.hif.msix v {}).deferred = none ∧
          (tgetD t.hif.msix v {}).until_ = t.tim.now + h * 1000 ∧ t.tim.now = max s.tim.now (tgetD s.hif.msix v {}).until_)) ∧
    ((tgetD s.hif.msix v {}).deferred = none → Completes (.irqHoldoffEnd v) s (fun t => t = s))

/-- Losing the CXL link stops every ring and the report card and keeps the set-up; the link coming up is reported
(spec/13_host_interface.md: The CXL link). Where the spec leaves a point open it states the model's choice: log entry 28. -/
def Obligations.CxlLinkChanges : Prop :=
  ∀ (s : State) (r : EvRec) (cause sp w : Nat) (io ca me : Bool), Settled s →
    (s.flt.evq = [] → Completes (.cxlLinkDown cause) s (fun t =>
      t.hif.cmd.all (fun x => !x.2.en) = true ∧ t.hif.cpl.all (fun x => !x.2.en) = true ∧ t.hif.evt.all (fun x => !x.2.en) = true ∧
        t.hif.lines = [] ∧
        t.hif.linkUp = false ∧ t.hif.cxlMem = false ∧ bit (rd t .hifCfg 0) 2 = false ∧ t.hif.lock = s.hif.lock ∧
        t.hif.held = s.hif.held ∧ t.hif.mem = s.hif.mem ∧ Raised 0x006 [(1, cause)] 0 s t ∧
        t = { s with hif := t.hif, flt := t.flt, regs := tput s.regs (regOff .hifCfg 0 0) (BitVec.ofNat 32 (clrBit (rd s .hifCfg 0) 2)) })) ∧
    (s.flt.evq = [r] → r.kind = 1 → s.hif.held.length < 256 →
      Completes (.cxlLinkDown cause) s (fun t => t.hif.held = s.hif.held ++ [r])) ∧
    (fld s .hifLinkCfg 0 3 0 ≤ sp → fld s .hifLinkCfg 0 7 4 ≤ w → Completes (.cxlLinkUp sp w io ca me) s (fun t =>
      t.hif.linkUp = true ∧ t.hif.speed = sp ∧ t.hif.width = w ∧ t.hif.cxlIo = io ∧ t.hif.cxlCache = ca ∧ t.hif.cxlMem = me ∧
        Raised 0x005 [(1, sp), (1, w)] 0 s t ∧ t = { s with hif := t.hif, flt := t.flt }))

/-- The device fetches the command at HEAD of a ring with work and runs it (spec/13_host_interface.md: Commands,
spec/13_host_interface.md: Opcodes). Where the spec leaves a point open it states the model's choice: log entry 26. -/
def Obligations.CommandFetchRunsTheRing : Prop :=
  ∀ (s : State) (q : Nat) (ok cplOk : Bool), Settled s → s.pwr.boot = .firmware → (s.pwr.st = .run ∨ s.pwr.st = .trim) →
    nextRing s = some q →
    (∀ e c u, e = parseEntry (hostBytes s (rdAddr s .hifCmdBaseLo .hifCmdBaseHi q + 64 * (cmdRing s q).head) 64) →
      c = { ring := q, tag := e.tag, hostOk := ok, cplOk := cplOk } →
      u = setCmdRing q { cmdRing s q with head := ((cmdRing s q).head + 1) % cmdSize s q }
        { s with hif := { s.hif with served := q }, pwr := { s.pwr with svcIdle := s.tim.now } } →
      (∀ f, lookupOp e.op c e = some f → Completes (.commandFetch [] true ok cplOk) s (fun t => t = settle (f u))) ∧
      (lookupOp e.op c e = none → Completes (.commandFetch [] true ok cplOk) s (fun t => t = settle (complete c e.op badOpcode u)))) ∧
    Completes (.commandFetch [] false ok cplOk) s (fun t =>
      (cmdRing t q).en = false ∧ (cmdRing t q).error = true ∧ (cmdRing t q).head = (cmdRing s q).head ∧
        Raised 0x000 [(1, q)] (rdAddr s .hifCmdBaseLo .hifCmdBaseHi q + 64 * (cmdRing s q).head) s t ∧
        t = { s with hif := t.hif, flt := t.flt, pwr := { s.pwr with svcIdle := s.tim.now } })

/-- Setting RC_EN restarts the cards, and each whole second writes card n to buffer n mod 2 (spec/13_host_interface.md: The report
card). Where the spec leaves a point open it states the model's choice: log entries 4 and 29. -/
def Obligations.ReportCardsAlternate : Prop :=
  ∀ (s : State) (m : Nat), Settled s → masterOk s m = true →
    (s.hif.lock = false → bit (rd s .hifCfg 0) 2 = false →
      Completes (.reportCardEnable m (BitVec.ofNat 32 (setBit (rd s .hifCfg 0) 2))) s (fun t =>
        t.hif.cardSeq = 0 ∧ bit (rd t .hifCfg 0) 2 = true)) ∧
    (bit (rd s .hifCfg 0) 2 = true → (s.pwr.st = .run ∨ s.pwr.st = .trim) → Memory.wf s.hif.mem = true →
      Completes (.reportCard m) s (fun t =>
        t.tim.now = max s.tim.now ((s.hif.cardSec + 1) * 1000000000 + min m 1000000) ∧ t.hif.cardSeq = s.hif.cardSeq + 1 ∧
          fieldAt (cread t.hif.mem (rdAddr s .hifRcBaseLo .hifRcBaseHi 0 + 512 * ((s.hif.cardSeq + 1) % 2)) 16) 0 8 =
            (s.hif.cardSeq + 1) % 2 ^ 64 ∧
          fieldAt (cread t.hif.mem (rdAddr s .hifRcBaseLo .hifRcBaseHi 0 + 512 * ((s.hif.cardSeq + 1) % 2)) 24) 20 2 = powerW s % 2 ^ 16 ∧
          t.flt.sevCount = [0, 0, 0, 0] ∧ t.hif.cardSec = t.tim.now / 1000000000)) ∧
    ((s.pwr.st = .recess ∨ s.pwr.st = .off) →
      Completes (.reportCard m) s (fun t => t.hif.mem = s.hif.mem ∧ t.hif.cardSeq = s.hif.cardSeq))

/-- A domain is set up in range, and its boundary brings the counter to T(n) (spec/03_timing_and_references.md: Timing domains and
frame indices). Where the spec leaves a point open it states the model's choice: log entries 4, 36, 123 and 147. -/
def Obligations.DomainsRunAndBoundariesStrobe : Prop :=
  ∀ (s : State) (m d rate ph : Nat), Settled s → masterOk s m = true → d < 8 →
    (1 ≤ rate → rate ≤ 8 → domPhase s d < fpFloor rate → domActive s d = false → s.hif.lock = false →
      Completes (.domainCfgWrite m d false (BitVec.ofNat 32 (2 ^ 31 + rate))) s (fun t => domEn t d = true ∧ domRate t d = rate)) ∧
    (domActive s d = true →
      Completes (.domainCfgWrite m d true (BitVec.ofNat 32 ph)) s (fun t =>
        t.regs = s.regs ∧ (tgetD t.flt.stat 0x009 {}).count = min ((tgetD s.flt.stat 0x009 {}).count + 1) 255)) ∧
    (domEn s d = true → (∀ p ∈ s.flows, p.2.st ≠ .running) → s.red.st ≠ .warm →
      Completes (.domainBoundary d) s (fun t =>
        t.tim.now = max s.tim.now (tOf s d (nextBoundary s d)) ∧ tget? t.tim.strobed d = some (nextBoundary s d) ∧
          t.flows = s.flows ∧ t.regs = s.regs)) ∧
    (domEn s d = false → Completes (.domainBoundary d) s (fun t => t = s))

/-- Setting EN of a media MAC on lanes placed for it starts its link bring-up (spec/07_network_media_ports.md: MACs, modes and
lanes). -/
def Obligations.MediaMacStarts : Prop :=
  ∀ (s : State) (m k : Nat) (v : Word), Settled s → masterOk s m = true → k < 16 → s.hif.lock = false → bit (rd s .nmpMacCfg k) 31 = false →
    rangeBad .nmpMacCfg k (mergeWord .nmpMacCfg (rd s .nmpMacCfg k) v.toNat) = false →
    bit (mergeWord .nmpMacCfg (rd s .nmpMacCfg k) v.toNat) 31 = true →
    (placementOk s k (mergeWord .nmpMacCfg (rd s .nmpMacCfg k) v.toNat) = true →
      (macLanes (mergeWord .nmpMacCfg (rd s .nmpMacCfg k) v.toNat)).any (fun n => laneSt s n == .prbs) = false →
      Completes (.macEnable m k v) s (fun t =>
        (mac t k).st = (if macAn t k then .negotiating else .training) ∧
          rd t .nmpMacCfg k = mergeWord .nmpMacCfg (rd s .nmpMacCfg k) v.toNat % 2 ^ 32)) ∧
    (placementOk s k (mergeWord .nmpMacCfg (rd s .nmpMacCfg k) v.toNat) = false →
      Completes (.macEnable m k v) s (fun t =>
        t.regs = s.regs ∧ t.nmp = s.nmp ∧ (tgetD t.flt.stat 0x009 {}).count = min ((tgetD s.flt.stat 0x009 {}).count + 1) 255))

/-- FAULT_READ, FAULT_CLEAR, ALIVE_RESUME, SNAPSHOT_READ and FAULT_INJECT (spec/15_faults_and_integrity.md: Commands and events,
spec/15_faults_and_integrity.md: The status of a source). Where the spec leaves a point open it states the model's choice: log
entries 11 and 34. -/
def Obligations.FaultCommandsComplete : Prop :=
  ∀ (c : Cmd) (s : State) (first count src other a : Nat), Clear s →
    (first + count ≤ 640 → 0 < count → c.hostOk = true →
      Completes (.faultRead c first count a) s
        (EndsDone c 0x0901 0 (hostWrite a ((List.range count).flatMap (fun i => faultRecord s (first + i))) s))) ∧
    (first + count ≤ 640 → 0 < count → c.cplOk = true → first ≤ src → src < first + count → (other < first ∨ first + count ≤ other) →
      Completes (.faultClear c first count) s (fun t =>
        Replied c 0x0902 0 0 0 t ∧ tgetD t.flt.stat src {} = statusCleared (tgetD s.flt.stat src {}) s.tim.now ∧
          tgetD t.flt.stat other {} = tgetD s.flt.stat other {} ∧ t = { s with hif := t.hif, flt := t.flt, wire := t.wire })) ∧
    (640 ≤ first → Completes (.faultClear c first count) s (Fails c 0x0902 0x11 (argAt c 24 s) s) ∧
      Completes (.faultRead c first count a) s (Fails c 0x0901 0x11 (argAt c 24 s) s)) ∧
    (s.flt.aliveStopped = true →
      Completes (.aliveResume c) s (EndsDone c 0x0903 0 { s with flt := { s.flt with aliveStopped := false } })) ∧
    (s.flt.aliveStopped = false → Completes (.aliveResume c) s (Fails c 0x0903 0x20 0 s)) ∧
    (s.flt.snap ≠ none → c.hostOk = true →
      Completes (.snapshotRead c a) s
        (EndsDone c 0x0904 0 { hostWrite a (snapBytes s) s with flt := { s.flt with snap := none } })) ∧
    (s.flt.snap = none → Completes (.snapshotRead c a) s (Fails c 0x0904 0x20 0 s)) ∧
    (assigned src = true →
      Completes (.faultInject c src) s (EndsDone c 0x0905 0 (raise { src := src, data := [(2, 0xFFFF)] } s))) ∧
    (assigned src = false → Completes (.faultInject c src) s (Fails c 0x0905 0x11 (argAt c 24 s) s))

/-- What clears, latches and times out in the fault collector (spec/15_faults_and_integrity.md: The status of a source,
spec/15_faults_and_integrity.md: The health word, spec/15_faults_and_integrity.md: The address log). Where the spec leaves a
point open it states the model's choice: log entries 4, 30, 31, 33 and 147. -/
def Obligations.FaultCollectorEvents : Prop :=
  ∀ (s : State) (src other n e k : Nat) (v : Word) (bs : List Byte) (l : XpLive), Settled s →
    (src < 640 → (bit v.toNat 30 = true ∨ bit v.toNat 29 = true) → other ≠ src →
      Completes (.srcStatusClear src v) s (fun t =>
        tgetD t.flt.stat src {} = statusCleared (tgetD s.flt.stat src {}) s.tim.now ∧
          tgetD t.flt.stat other {} = tgetD s.flt.stat other {} ∧ t = { s with flt := { s.flt with stat := t.flt.stat } })) ∧
    (bit v.toNat 30 = false → bit v.toNat 29 = false → Completes (.srcStatusClear src v) s (fun t => t = s)) ∧
    (k < 32 → s.flt.health < 2 ^ 64 → bit v.toNat k = true → tget? s.flt.healthAt (32 + k) ≠ some s.tim.now →
      Completes (.healthClear 1 v) s (fun t => bit t.flt.health (32 + k) = false ∧ t = { s with flt := { s.flt with health := t.flt.health } })) ∧
    (k < 32 → s.flt.health < 2 ^ 64 → bit v.toNat k = false →
      Completes (.healthClear 0 v) s (fun t => bit t.flt.health k = bit s.flt.health k)) ∧
    (n ≤ 60 → n ≠ 45 → bit s.flt.health n = false →
      Completes (.blockErrorPin n k) s (fun t =>
        bit t.flt.health n = true ∧ Raised 0x240 [(1, n)] 0 s t ∧ t = { s with flt := t.flt })) ∧
    (e < 16 → Completes (.alogEntryRead e) s (fun t =>
      tgetD t.flt.alogLatch e {} = { hi := bits (tgetD s.flt.alog e {}).addr 63 32, stamp := (tgetD s.flt.alog e {}).stamp, info := (tgetD s.flt.alog e {}).space * 2 ^ 28 + (tgetD s.flt.alog e {}).origin * 2 ^ 16 + (tgetD s.flt.alog e {}).source } ∧
        bit t.flt.alogValid e = false ∧ t.flt.alog = s.flt.alog ∧
        t.hif.resp = some (.data (BitVec.ofNat 32 (bits (tgetD s.flt.alog e {}).addr 31 0))))) ∧
    (s.flt.windows ≠ [] → Completes .conseqWindowEnd s (fun t =>
      t.flt.windows = s.flt.windows.filter (fun w => decide (t.tim.now < w.until_)) ∧
        t.flt.windows.length < s.flt.windows.length ∧ s.tim.now ≤ t.tim.now ∧ t.flt.stat = s.flt.stat)) ∧
    (s.flt.nmt = some (src, n) → Completes (.nmtSnapshotTaken bs) s (fun t =>
      t = { s with flt := { s.flt with nmt := none, snap := some { src := src, stamp := n, bytes := padTo 256 bs } } })) ∧
    (s.pwr.boot = .firmware → s.flt.aliveStopped = false → Completes .aliveToggle s (fun t =>
      t.flt.aliveLevel = !s.flt.aliveLevel ∧ t.tim.now = max s.tim.now (s.flt.aliveAt + 500000))) ∧
    (s.flt.aliveStopped = true → Completes .aliveToggle s (fun t => t.flt.aliveLevel = s.flt.aliveLevel)) ∧
    (s.pwr.boot = .firmware → Completes .fwWatchdog s (fun t =>
      (tgetD t.flt.stat 0x249 {}).count = min ((tgetD s.flt.stat 0x249 {}).count + 1) 255 ∧
        s.flt.wdogLast + fld s .fltCfg 0 23 16 * 1000000 ≤ t.tim.now ∧ t.flt.wdogLast = t.tim.now ∧ t.flt.wdogAt = s.flt.wdogAt)) ∧
    (bit (rd s .fltCfg 0) 31 = false ∨ domEn s n = false → Completes (.rollCall n) s (fun t => t = s)) ∧
    (bit (rd s .fltCfg 0) 31 = true → domEn s n = true → s.swc.live = [(k, l)] →
      (flowD s (wordFlow k)).domain = n → (tgetD s.swc.xp k {}).wrote ≤ l.at_ →
      (tgetD s.swc.xp k {}).src ≠ l.src →
      Completes (.rollCall n) s (fun t => t.flt.rcMismatch = min (s.flt.rcMismatch + 1) (2 ^ 32 - 1) ∧
        t.tim.now = max s.tim.now (boundaryFrom s n (lastOf (.roll n) s + 1)) ∧ lastOf (.roll n) t = t.tim.now ∧
        t = { s with tim := { s.tim with now := t.tim.now, lastAt := t.tim.lastAt }, flt := t.flt }))

/-- TIME_STEP_ACCEPT, REF_FORCE, HOLDOVER_COEF_LOAD and TIME_SET (spec/03_timing_and_references.md: Steps and their refusal,
spec/03_timing_and_references.md: Selection, spec/03_timing_and_references.md: Commands and events). Where the spec leaves a
point open it states the model's choice: log entries 11, 38, 130 and 152. -/
def Obligations.TimingCommandsComplete : Prop :=
  ∀ (c : Cmd) (s : State) (n secs a : Nat) (off : Int) (img : List Byte), Clear s →
    (n < 4 → (tgetD s.tim.ptb n {}).pend = some off → Completes (.timeStepAccept c n) s
      (EndsDone c 0x0701 0 (raise { src := 0x1C7, data := [(1, n), (4, ofSigned 32 off)] }
        { s with tim := { s.tim with ptb := tput s.tim.ptb n { delta := ptbDelta s n + counterSlewed s + off, pend := none, slew := 0, slewAt := s.tim.now } } }))) ∧
    (s.tim.pend = some off → pageArmed s = false → c.cplOk = true → Completes (.timeStepAccept c 4) s (fun t =>
      Replied c 0x0701 0 0 0 t ∧ t.tim.now = ((s.tim.now : Int) + off).toNat ∧ t.tim.pend = none ∧
        Raised 0x1C7 [(1, 4), (4, ofSigned 32 off)] 0 s t ∧
        t.tim.sel = s.tim.sel ∧ t.tim.mode = s.tim.mode ∧ t = { s with tim := t.tim, hif := t.hif, flt := t.flt, wire := t.wire, nmp := { s.nmp with macs := t.nmp.macs }, lnx := { s.lnx with lanes := t.lnx.lanes }, ika := { s.ika with rooms := t.ika.rooms, procs := t.ika.procs }, aud := { s.aud with period := t.aud.period }, aqf := { s.aqf with realign := t.aqf.realign } })) ∧
    (s.tim.pend = none ∨ pageArmed s = true → Completes (.timeStepAccept c 4) s (Fails c 0x0701 0x20 0 s)) ∧
    (n < 4 → (tgetD s.tim.ptb n {}).pend = none → Completes (.timeStepAccept c n) s (Fails c 0x0701 0x20 0 s)) ∧
    (4 < n → Completes (.timeStepAccept c n) s (Fails c 0x0701 0x11 (argAt c 24 s) s)) ∧
    (n < 17 → (tgetD s.tim.cands n {}).qualified = true → s.tim.sel ≠ n → Completes (.refForce c n) s (fun t =>
      Replied c 0x0702 0 0 0 t ∧ t.tim.sel = n ∧ t.tim.forced = true ∧
        (c.cplOk = true → Raised 0x1C3 [(1, n), (1, s.tim.sel)] 0 s t) ∧ t = { s with tim := t.tim, hif := t.hif, flt := t.flt, wire := t.wire, free := t.free })) ∧
    (n < 17 → (tgetD s.tim.cands n {}).qualified = true → s.tim.sel = n →
      Completes (.refForce c n) s (EndsDone c 0x0702 0 { s with tim := { s.tim with forced := true } })) ∧
    (n < 17 → (tgetD s.tim.cands n {}).qualified = false → Completes (.refForce c n) s (Fails c 0x0702 0x20 0 s)) ∧
    (16 < n → n ≠ 31 → Completes (.refForce c n) s (Fails c 0x0702 0x11 (argAt c 24 s) s)) ∧
    Completes (.refForce c 31) s (EndsDone c 0x0702 0 { s with tim := { s.tim with forced := false } }) ∧
    Completes (.refForceRelease c) s (EndsDone c 0x0702 0 { s with tim := { s.tim with forced := false } }) ∧
    (c.hostOk = true → a + 32 ≤ 2 ^ 64 → Completes (.holdoverCoefLoad c a img) s (EndsDone c 0x0703 0 { place a img s with tim := { s.tim with coef := ([0, 4, 8, 12] : List Nat).map (fun k => toSigned 32 (fieldAt (hostBytes (place a img s) a 32) k 4)) } })) ∧
    (c.hostOk = false → a + 32 ≤ 2 ^ 64 → Completes (.holdoverCoefLoad c a img) s (Fails c 0x0703 0x21 a (place a img s))) ∧
    (2 ^ 64 < a + 32 → Completes (.holdoverCoefLoad c a img) s (Fails c 0x0703 0x11 (argAt c 24 s) (place a img s))) ∧
    ((secs + 1) * 1000000000 ≤ 2 ^ 64 - 1 → anyActive s = false → c.cplOk = true → Completes (.timeSet c secs) s (fun t =>
      Replied c 0x0704 0 0 0 t ∧ t.tim.now = secs * 1000000000 + s.tim.now % 1000000000 ∧
        t.tim.sel = s.tim.sel ∧ t.tim.mode = s.tim.mode ∧ t = { s with tim := t.tim, hif := t.hif, flt := t.flt, wire := t.wire, nmp := { s.nmp with macs := t.nmp.macs }, lnx := { s.lnx with lanes := t.lnx.lanes }, ika := { s.ika with rooms := t.ika.rooms, procs := t.ika.procs }, aud := { s.aud with period := t.aud.period }, aqf := { s.aqf with realign := t.aqf.realign } })) ∧
    ((secs + 1) * 1000000000 ≤ 2 ^ 64 - 1 → anyActive s = true → Completes (.timeSet c secs) s (Fails c 0x0704 0x20 0 s))

/-- A reference qualifies, is lost, is disqualified and is selected by its rules (spec/03_timing_and_references.md: Reference
candidates, spec/03_timing_and_references.md: Selection). Where the spec leaves a point open it states the model's choice: log
entries 33, 39, 131, 137, 147, 152 and 153. -/
def Obligations.ReferencesQualifyAndAreSelected : Prop :=
  ∀ (s : State) (n m k t0 : Nat) (off : Int) (v : Word), Settled s → n < 17 → m ≠ n →
    (candEn s n = true → (tgetD s.tim.cands n {}).los = false → (tgetD s.tim.cands n {}).qualified = true → Completes (.lossOfSignal n) s (fun t =>
      (tgetD t.tim.cands n {}).los = true ∧ (tgetD t.tim.cands n {}).qualified = false ∧ (tgetD t.tim.cands n {}).cause = 1 ∧
        bit (tgetD t.tim.cands n {}).hist 0 = true ∧ bit (tgetD t.tim.cands n {}).hist 2 = true ∧
        (tgetD t.flt.stat 0x1C0 {}).count = min ((tgetD s.flt.stat 0x1C0 {}).count + 1) 255 ∧ Raised 0x1C2 [(1, n), (1, 1)] 0 s t ∧
        tget? t.tim.cands m = tget? s.tim.cands m ∧
        t = { s with tim := { s.tim with cands := t.tim.cands, forced := s.tim.forced && s.tim.sel != n }, flt := t.flt })) ∧
    (candEn s n = false → Completes (.lossOfSignal n) s (fun t => t = s) ∧ Completes (.losClear n) s (fun t => t = s)) ∧
    (timeFed s = false → Completes (.losClear 16) s (fun t => t = s)) ∧
    (candEn s n = true → n ≠ 16 ∨ timeFed s = true → (tgetD s.tim.cands n {}).los = true → Completes (.losClear n) s (fun t =>
      (tgetD t.tim.cands n {}).los = false ∧ tget? t.tim.cands m = tget? s.tim.cands m ∧
        t = { s with tim := { s.tim with cands := t.tim.cands } })) ∧
    (candEn s n = true → (tgetD s.tim.cands n {}).qualified = true → rejectLim s n < off.natAbs → Completes (.freqMeasure [(n, off)]) s (fun t =>
      (tgetD t.tim.cands n {}).qualified = false ∧ (tgetD t.tim.cands n {}).offset = off ∧
        (tgetD t.tim.cands n {}).cause = (if rateLim < off.natAbs then 3 else 2) ∧
        RaisedAmong 0x1C2 [(1, n), (1, if rateLim < off.natAbs then 3 else 2)] s t ∧
        (tgetD t.tim.cands m {}).offset = (tgetD s.tim.cands m {}).offset ∧ (tgetD t.tim.cands m {}).qualified = (tgetD s.tim.cands m {}).qualified ∧
        t.tim.now = max s.tim.now (nextOf 100000000 s.tim.gateAt) ∧
        t = { s with tim := { s.tim with now := t.tim.now, gateAt := t.tim.now, cands := t.tim.cands, disagree := t.tim.disagree, samples := t.tim.samples, forced := s.tim.forced && s.tim.sel != n }, flt := t.flt, free := t.free })) ∧
    (candEn s n = true → off.natAbs ≤ acceptLim s n → off.natAbs ≤ rejectLim s n → off.natAbs ≤ rateLim → Completes (.freqMeasure [(n, off)]) s (fun t =>
      (tgetD t.tim.cands n {}).qualified = (tgetD s.tim.cands n {}).qualified ∧ (tgetD t.tim.cands n {}).offset = off ∧
        (tgetD t.tim.cands n {}).freqWarn = false ∧
        (tgetD t.tim.cands m {}).offset = (tgetD s.tim.cands m {}).offset ∧ (tgetD t.tim.cands m {}).qualified = (tgetD s.tim.cands m {}).qualified ∧
        t.tim.now = max s.tim.now (nextOf 100000000 s.tim.gateAt) ∧
        t = { s with tim := { s.tim with now := t.tim.now, gateAt := t.tim.now, cands := t.tim.cands, disagree := t.tim.disagree, samples := t.tim.samples }, flt := t.flt, free := t.free })) ∧
    (candEn s n = true → (tgetD s.tim.cands n {}).los = false → (tgetD s.tim.cands n {}).qualified = false → (tgetD s.tim.cands n {}).okSince = some t0 →
      Completes (.candidateQualified n) s (fun t =>
        tgetD t.tim.cands n {} = { tgetD s.tim.cands n {} with qualified := true } ∧ tget? t.tim.cands m = tget? s.tim.cands m ∧
          t.tim.now = max s.tim.now (t0 + fld s .timSelCfg 0 15 8 * 1000000000) ∧
          t = { s with tim := { s.tim with cands := t.tim.cands, now := t.tim.now, disagree := disagreeing t }, flt := t.flt })) ∧
    ((tgetD s.tim.cands n {}).okSince = none → Completes (.candidateQualified n) s (fun t => t = s)) ∧
    (bit (rd s .timSelCfg 0) 0 = true → s.tim.forced = false → eligible s = [n] → s.tim.sel ≠ n → Completes .selectorTick s (fun t =>
      t.tim.sel = n ∧ t.tim.buildOut = true ∧ t.tim.mode = (if s.tim.mode = .locked then .locked else .acquire) ∧
        bit (tgetD t.tim.cands n {}).hist 3 = true ∧ Raised 0x1C3 [(1, n), (1, s.tim.sel)] 0 s t ∧ t.tim.now = max s.tim.now (nextOf 100000 s.tim.tickAt) ∧
        t = { s with tim := t.tim, flt := t.flt, free := t.free })) ∧
    (bit (rd s .timSelCfg 0) 0 = true → s.tim.forced = false → eligible s = [] → s.tim.mode = .locked → Completes .selectorTick s (fun t =>
      t.tim.sel = 31 ∧ t.tim.mode = .holdover ∧ t.tim.holdSince = some t.tim.now ∧
        t.tim.now = max s.tim.now (nextOf 100000 s.tim.tickAt) ∧
        Raised 0x1C4 [(1, s.tim.sel), (1, holdQuality { s with tim := { s.tim with now := t.tim.now } })] 0 s t ∧
        t = { s with tim := t.tim, flt := t.flt })) ∧
    (bit (rd s .timSelCfg 0) 0 = false → Completes .selectorTick s (fun t =>
      t.tim.sel = 31 ∧ t.tim.mode = .freeRun ∧ t.tim.cands = s.tim.cands ∧ t = { s with tim := t.tim, flt := t.flt })) ∧
    Completes .dpllSettled s (fun t =>
      t.tim.mode = (if s.tim.mode = .acquire then .locked else s.tim.mode) ∧ t.tim.buildOut = false ∧
        t = { s with tim := { s.tim with mode := t.tim.mode, lockedSince := t.tim.lockedSince, buildOut := false } }) ∧
    (k < 5 → bit v.toNat k = true → tget? (tgetD s.tim.cands n {}).histAt k ≠ some s.tim.now → Completes (.refHistClear n v) s (fun t =>
      bit (tgetD t.tim.cands n {}).hist k = false ∧ tget? t.tim.cands m = tget? s.tim.cands m ∧
        t = { s with tim := { s.tim with cands := t.tim.cands } }))

/-- Holdover correction, its quality, the oscillator interface, a clock-crossing error and a read of the counter
(spec/03_timing_and_references.md: The DPLL, holdover and the OCXO, spec/03_timing_and_references.md: Commands and events,
spec/03_timing_and_references.md: The system nanosecond counter). Where the spec leaves a point open it states the model's
choice: log entries 37, 41, 102, 147, 152 and 154. -/
def Obligations.HoldoverOscillatorAndCounterRead : Prop :=
  ∀ (s : State) (t0 code x : Nat) (c1 c2 c3 c4 : Int) (ov : Bool), Settled s →
    (s.tim.holdSince = some t0 → shortHistory s = false → s.tim.coef = [c1, c2, c3, c4] → Completes .holdoverCorrection s (fun t =>
      t.tim.now = max s.tim.now (t0 + (s.tim.corrections + 1) * 1000000000) ∧ t.tim.corrections = s.tim.corrections + 1 ∧
        t.tim.freq = s.tim.fAvg + (c1 * (dieSum s - s.tim.dAvg) * 128 + c2 * (dieSum s - s.tim.dAvg) * (dieSum s - s.tim.dAvg)) / 16384 +
          c3 * ((s.tim.ovenCode : Int) - s.tim.kAvg) + c4 * (((t.tim.now / 1000000000 : Nat) : Int) - s.tim.tAvg) / 86400 ∧
        t = { s with tim := { s.tim with now := t.tim.now, corrections := t.tim.corrections, freq := t.tim.freq } })) ∧
    (s.tim.holdSince = some t0 → shortHistory s = true → Completes .holdoverCorrection s (fun t =>
      t = { s with tim := { s.tim with now := t.tim.now, corrections := s.tim.corrections + 1 } })) ∧
    (s.tim.holdSince = some t0 → s.tim.degraded = false → holdQuality s ≠ 0 → Completes .holdoverDegraded s (fun t =>
      t.tim.degraded = true ∧ t.tim.now = max s.tim.now (t0 + fld s .timSelCfg 0 19 16 * 900000000000) ∧
        Raised 0x1C9 [(4, (t.tim.now - t0) / 1000000000)] 0 s t ∧
        t = { s with tim := { s.tim with now := t.tim.now, degraded := true }, flt := t.flt })) ∧
    (s.tim.holdSince = none → Completes .holdoverCorrection s (fun t => t = s) ∧ Completes .holdoverDegraded s (fun t => t = s)) ∧
    (s.tim.mode ≠ .holdover → code < 2 ^ fld s .timOcxoCfg 0 28 24 → Completes (.ocxoDacUpdate code) s (fun t =>
      t.tim.now = max s.tim.now (nextOf 1000000 s.tim.dacAt) ∧
        t = { s with tim := { s.tim with now := t.tim.now, dacAt := t.tim.now, dac := code }, wire := s.wire ++ [.spiDac (code * 2 ^ (24 - fld s .timOcxoCfg 0 28 24))] })) ∧
    (s.tim.mode = .holdover → s.tim.holdSince = some t0 → shortHistory s = true → Completes (.ocxoDacUpdate code) s (fun t =>
      t = { s with tim := { s.tim with now := t.tim.now, dacAt := t.tim.now }, wire := s.wire ++ [.spiDac (s.tim.dac * 2 ^ (24 - fld s .timOcxoCfg 0 28 24))] })) ∧
    (s.tim.mode = .holdover → s.tim.holdSince = some t0 → shortHistory s = false → bit (rd s .timOcxoCfg 0) 31 = false →
      0 < fld s .timOcxoCfg 0 15 0 → s.tim.freq = s.tim.rateHold + (fld s .timOcxoCfg 0 15 0 : Int) * x →
      s.tim.dacHold + x < 2 ^ fld s .timOcxoCfg 0 28 24 → Completes (.ocxoDacUpdate code) s (fun t => t.tim.dac = s.tim.dacHold + x)) ∧
    (Completes (.ovenAdcRead code) s (fun t =>
      t.tim.ovenCode = code ∧ (code ≠ 0 → code ≠ 0xFFFF → t.tim.ovenStuck = 0 ∧ t.flt = s.flt) ∧
        (code = 0 ∨ code = 0xFFFF → t.tim.ovenStuck = s.tim.ovenStuck + 1 ∧
          (s.tim.ovenStuck = 2 → t.tim.ovenStable = false ∧ Raised 0x1CA [(2, code)] 0 s t)) ∧
        t.tim.now = max s.tim.now (nextOf 100000000 s.tim.ovenAt) ∧
        t = { s with tim := { s.tim with now := t.tim.now, ovenAt := t.tim.now, ovenCode := code, ovenStuck := t.tim.ovenStuck, ovenSince := t.tim.ovenSince, ovenStable := t.tim.ovenStable }, flt := t.flt })) ∧
    (s.tim.ovenSince = some t0 → s.tim.ovenStable = false → Completes .ovenStable s (fun t =>
      t.tim.ovenStable = true ∧ t.tim.now = max s.tim.now (t0 + fld s .timOvenCfg 0 7 0 * 10000000000) ∧
        Raised 0x1C8 [(2, s.tim.ovenCode)] 0 s t ∧ t = { s with tim := { s.tim with now := t.tim.now, ovenStable := true }, flt := t.flt })) ∧
    (s.tim.ovenSince = none → Completes .ovenStable s (fun t => t = s)) ∧
    Completes (.cdcFifoErr x ov) s (fun t =>
      Raised 0x1CB [(1, x), (1, if ov then 0 else 1)] 0 s t ∧ t = { s with flt := t.flt }) ∧
    Completes .systimeLoRead s (fun t =>
      t = { s with tim := { s.tim with hiLatch := s.tim.now / 2 ^ 32 % 2 ^ 32 }, hif := { s.hif with resp := some (.data (BitVec.ofNat 32 s.tim.now)) } })

/-- FLOW_DEFINE, FLOW_READ and FLOW_DELETE (spec/02_flows_and_formats.md: The flow entry, spec/02_flows_and_formats.md: Locking,
selection and the timing domain). Where the spec leaves a point open it states the model's choice: log entries 11, 92 and 127. -/
def Obligations.FlowsAreDefinedReadAndDeleted : Prop :=
  ∀ (c : Cmd) (s : State) (a n m : Nat) (img l : List Byte) (r : Reply), Clear s → m ≠ normFlow n →
    (c.hostOk = true → firstErr (defineChecks (place a img s) a) = none → l = hostBytes (place a img s) a 64 → normFlow (fieldAt l 0 2) = normFlow n →
      Completes (.flowDefine c a img) s (fun t => Replied c 0x0101 0 0 0 t ∧
        flow? t (normFlow n) = some (parseFlow a l) ∧ (parseFlow a l).st = .defined ∧ (parseFlow a l).depth = 4 ∧
        (parseFlow a l).essence = fieldAt l 2 1 ∧ (parseFlow a l).endpoint = fieldAt l 4 1 ∧ (parseFlow a l).port = fieldAt l 5 1 ∧
        (parseFlow a l).format = fieldAt l 8 2 ∧ (parseFlow a l).locked = bit (fieldAt l 6 1) 7 ∧ (parseFlow a l).domain = bits (fieldAt l 6 1) 2 0 ∧
        tget? t.swc.store (normFlow n) = none ∧ flow? t m = flow? s m ∧
        t.tim.now = (if nsOf (normFlow n) == 2 && classGated s (fieldAt l 5 1) then s.tim.now + 20000 else s.tim.now) ∧
        t = { s with tim := { s.tim with now := t.tim.now }, flows := t.flows, nmp := { s.nmp with streams := t.nmp.streams }, ika := { s.ika with procs := t.ika.procs, marks := t.ika.marks }, aud := { s.aud with cs := t.aud.cs }, swc := { s.swc with store := t.swc.store }, red := { s.red with jseq := t.red.jseq, jout := t.red.jout }, hif := t.hif, flt := t.flt, wire := t.wire })) ∧
    (c.hostOk = true → firstErr (defineChecks (place a img s) a) = some r → 0x10 ≤ r.st →
      Completes (.flowDefine c a img) s (fun t => SameBlock (place a img s) t ∧ Replied c 0x0101 r.st r.result r.err t)) ∧
    (c.hostOk = false → Completes (.flowDefine c a img) s (Fails c 0x0101 0x21 a (place a img s))) ∧
    (flowNumOk n = true → (flow? s (normFlow n)).isSome = true → c.hostOk = true →
      Completes (.flowRead c n a) s (EndsDone c 0x0105 0 (hostWrite a (flowBytes s (normFlow n) (flowD s (normFlow n))) s))) ∧
    (flowNumOk n = true → (flow? s (normFlow n)).isSome = true → active (flowD s (normFlow n)) = false → memberOf s (normFlow n) = none →
      Completes (.flowDelete c n) s (fun t => Replied c 0x0104 0 0 0 t ∧ flow? t (normFlow n) = none ∧ flow? t m = flow? s m ∧
        tget? t.nmp.streams (normFlow n) = none ∧ tget? t.swc.store (normFlow n) = none ∧
        (nsOf (normFlow n) = 2 → tget? t.ika.procs (ixOf (normFlow n)) = none) ∧
        t = { s with flows := t.flows, nmp := { s.nmp with streams := t.nmp.streams }, ika := { s.ika with procs := t.ika.procs, marks := t.ika.marks }, aud := { s.aud with cs := t.aud.cs }, swc := { s.swc with store := t.swc.store }, red := { s.red with jseq := t.red.jseq, jout := t.red.jout }, hif := t.hif, flt := t.flt, wire := t.wire })) ∧
    (flowNumOk n = true → (flow? s (normFlow n)).isSome = true → (active (flowD s (normFlow n)) = true ∨ (memberOf s (normFlow n)).isSome = true) →
      Completes (.flowDelete c n) s (Fails c 0x0104 0x20 0 s)) ∧
    (flow? s (normFlow n) = none → Completes (.flowDelete c n) s (Fails c 0x0104 0x11 (argAt c 24 s) s) ∧
      Completes (.flowRead c n a) s (Fails c 0x0105 0x11 (argAt c 24 s) s))

/-- FLOW_START and FLOW_STOP, and how an armed stop ends (spec/02_flows_and_formats.md: Locking, selection and the timing domain,
spec/02_flows_and_formats.md: The flow entry). Where the spec leaves a point open it states the model's choice: log entries 4,
11, 92 and 135. -/
def Obligations.FlowsRunAndStop : Prop :=
  ∀ (c d : Cmd) (s : State) (n m t0 : Nat) (f : Flow) (r : Reply), Clear s → m ≠ normFlow n → f = flowD s (normFlow n) →
    (flowNumOk n = true → firstErr (startChecks c (normFlow n) s ++ startBudgets (normFlow n) s) = none →
      (∀ p ∈ s.flows, p.1 = normFlow n → p.2.st ≠ .running) →
      Completes (.flowStart c n) s (fun t => Replied c 0x0102 0 0 0 t ∧
        (flowD t (normFlow n)).st = (if nsOf (normFlow n) = 0 ∧ f.endpoint = 1 ∧ (legMacs f).all (fun k => !macUp s k) = true then .held else .running) ∧
        (flowD t (normFlow n)).stop = none ∧ (flowD t (normFlow n)).format = f.format ∧ (flowD t (normFlow n)).depth = f.depth ∧
        ((flowD s m).st ≠ .running → flow? t m = flow? s m) ∧
        t.tim.now = (if hbmGated s && !hbmGated t then s.tim.now + 1000000 else s.tim.now) ∧
        t = { s with tim := { s.tim with now := t.tim.now }, flows := t.flows, swc := { s.swc with store := t.swc.store, plats := t.swc.plats }, aqf := { s.aqf with feed := t.aqf.feed }, ika := t.ika, nmp := { s.nmp with streams := t.nmp.streams }, svp := { s.svp with rx := t.svp.rx }, free := t.free, red := { s.red with jseq := t.red.jseq, jout := t.red.jout }, hif := t.hif, flt := t.flt, wire := t.wire })) ∧
    (flowNumOk n = true → firstErr (startChecks c (normFlow n) s ++ startBudgets (normFlow n) s) = some r → 0x10 ≤ r.st →
      Completes (.flowStart c n) s (fun t => SameBlock s t ∧ Replied c 0x0102 r.st r.result r.err t)) ∧
    (flowNumOk n = true → flow? s (normFlow n) = some f → active f = false → Completes (.flowStop c n) s (EndsDone c 0x0103 0 s)) ∧
    (flowNumOk n = true → flow? s (normFlow n) = some f → active f = true →
      (selecting s (normFlow n) ≠ [] ∨ flowNamed s (normFlow n) = true ∨ feedsMatrix s (normFlow n) = true) →
      Completes (.flowStop c n) s (Fails c 0x0103 0x20 0 s)) ∧
    (flow? s (normFlow n) = none → Completes (.flowStop c n) s (Fails c 0x0103 0x11 (argAt c 24 s) s) ∧
      (flowNumOk n = true → Completes (.flowStart c n) s (Fails c 0x0102 0x11 (argAt c 24 s) s))) ∧
    (flowNumOk n = true → firstErr (stopChecks c (normFlow n) s) = none → f.stop = none →
      Completes (.flowStop c n) s (fun t =>
        (f.st = .running → f.essence = 0 → flowD t (normFlow n) = { f with stop := some (c, stopAt s (normFlow n) f) } ∧
          (cmdRing t c.ring).busy = true ∧ t = { s with flows := t.flows, hif := { s.hif with cmd := t.hif.cmd } }) ∧
        (f.st ≠ .running ∨ f.essence ≠ 0 → (flowD t (normFlow n)).st = .stopped ∧ Replied c 0x0103 0 0 0 t ∧
          t = { s with flows := t.flows, aqf := { s.aqf with feed := t.aqf.feed }, red := { s.red with jseq := t.red.jseq, jout := t.red.jout }, hif := t.hif, flt := t.flt, wire := t.wire }) ∧
        flow? t m = flow? s m)) ∧
    (f.stop = some (d, t0) → f.stopMore = [] → f.st = .running → Completes (.flowStopped n) s (fun t =>
      (flowD t (normFlow n)).st = .stopped ∧ (flowD t (normFlow n)).stop = none ∧ Replied d 0x0103 0 0 0 t ∧ flow? t m = flow? s m ∧
        t.tim.now = (if nsOf (normFlow n) = 0 then s.tim.now else max s.tim.now t0) ∧
        t = { s with flows := t.flows, tim := { s.tim with now := t.tim.now }, red := { s.red with jseq := t.red.jseq, jout := t.red.jout }, hif := t.hif, flt := t.flt, wire := t.wire })) ∧
    (f.stop = some (d, t0) → f.stopMore = [] → f.st = .running → nsOf (normFlow n) = 0 → Completes (.flowStopTimeout n) s (fun t =>
      (flowD t (normFlow n)).st = .stopped ∧ (flowD t (normFlow n)).stop = none ∧ Replied d 0x0103 0 0 0 t ∧ flow? t m = flow? s m ∧
        t.tim.now = max s.tim.now t0 ∧
        t = { s with flows := t.flows, tim := { s.tim with now := t.tim.now }, red := { s.red with jseq := t.red.jseq, jout := t.red.jout }, hif := t.hif, flt := t.flt, wire := t.wire })) ∧
    (f.stop = none → Completes (.flowStopped n) s (fun t => t = s) ∧ Completes (.flowStopTimeout n) s (fun t => t = s))

/-- CONSIST_DEFINE, CONSIST_READ and CONSIST_DELETE (spec/02_flows_and_formats.md: Consists). Where the spec leaves a point open
it states the model's choice: log entries 11, 59 and 60. -/
def Obligations.ConsistsAreDefinedReadAndDeleted : Prop :=
  ∀ (c : Cmd) (s : State) (a k j : Nat) (img l : List Byte) (r : Reply), Clear s → j ≠ k →
    (c.hostOk = true → firstErr (consistChecks (place a img s) a) = none → l = hostBytes (place a img s) a 72 → fieldAt l 0 2 = k →
      Completes (.consistDefine c a img) s (fun t => Replied c 0x0110 0 0 0 t ∧
        consist? t k = some { kind := fieldAt l 2 1, division := fieldAt l 4 1, members := (parseConsist l).members } ∧
        (parseConsist l).members.length = fieldAt l 3 1 ∧ consist? t j = consist? s j ∧
        t = { s with consists := t.consists, red := { s.red with jseq := t.red.jseq, jout := t.red.jout }, hif := t.hif, flt := t.flt, wire := t.wire })) ∧
    (c.hostOk = true → firstErr (consistChecks (place a img s) a) = some r → 0x10 ≤ r.st →
      Completes (.consistDefine c a img) s (fun t => SameBlock (place a img s) t ∧ Replied c 0x0110 r.st r.result r.err t)) ∧
    ((consist? s k).isSome = true → consistNamed s k = false → Completes (.consistDelete c k) s (fun t =>
      Replied c 0x0111 0 0 0 t ∧ consist? t k = none ∧ consist? t j = consist? s j ∧
        t = { s with consists := t.consists, red := { s.red with jseq := t.red.jseq, jout := t.red.jout }, hif := t.hif, flt := t.flt, wire := t.wire })) ∧
    ((consist? s k).isSome = true → consistNamed s k = true → Completes (.consistDelete c k) s (Fails c 0x0111 0x20 0 s)) ∧
    (consist? s k = none → Completes (.consistDelete c k) s (Fails c 0x0111 0x11 (argAt c 24 s) s) ∧
      Completes (.consistRead c k a) s (Fails c 0x0112 0x11 (argAt c 24 s) s)) ∧
    ((consist? s k).isSome = true → c.hostOk = true →
      Completes (.consistRead c k a) s (EndsDone c 0x0112 0 (hostWrite a (consistBytes k ((consist? s k).getD {})) s)))

/-- SVP_PORT_SET and SVP_PORT_READ, and a receiver that hunts, locks, times out and loses its signal
(spec/06_serial_video_ports.md: Receiving, spec/06_serial_video_ports.md: The port descriptor). Where the spec leaves a point
open it states the model's choice: log entries 4, 11, 93 and 136. -/
def Obligations.SdiPortsAreSetAndReceiversHunt : Prop :=
  ∀ (c : Cmd) (s : State) (a p q n cause : Nat) (img l : List Byte) (r : Reply), Clear s → q ≠ p →
    (c.hostOk = true → firstErr (sdiChecks (place a img s) a) = none → l = hostBytes (place a img s) a 16 → fieldAt l 0 1 = p → fieldAt l 1 1 = 0 →
      Completes (.svpPortSet c a img) s (fun t => Replied c 0x0120 0 0 0 t ∧
        (sdiRx t p).mode = fieldAt l 2 1 ∧ (sdiRx t p).ifRate = fieldAt l 3 1 ∧ (sdiRx t p).vpidOpt = fieldAt l 5 1 ∧ (sdiRx t p).trsTol = fieldAt l 6 1 ∧
        (sdiRx t p).invert = bit (fieldAt l 7 1) 0 ∧ (sdiRx t p).st = (if fieldAt l 2 1 = 0 then .disabled else .hunt) ∧
        (fieldAt l 2 1 ≠ 0 → (sdiRx t p).rate = if fieldAt l 2 1 = 2 then fieldAt l 3 1 else 7) ∧ sdiRx t q = sdiRx s q ∧ t.svp.tx = s.svp.tx ∧
        t.tim.now = (if octetGated s (p / 8) && fieldAt l 2 1 != 0 then s.tim.now + 50000 else s.tim.now) ∧
        t = { s with svp := { s.svp with rx := t.svp.rx }, tim := { s.tim with now := t.tim.now, cands := t.tim.cands, forced := t.tim.forced }, red := { s.red with jseq := t.red.jseq, jout := t.red.jout }, hif := t.hif, flt := t.flt, wire := t.wire })) ∧
    (c.hostOk = true → firstErr (sdiChecks (place a img s) a) = none → l = hostBytes (place a img s) a 16 → fieldAt l 0 1 = p → fieldAt l 1 1 = 1 →
      Completes (.svpPortSet c a img) s (fun t => Replied c 0x0120 0 0 0 t ∧
        sdiTx t p = { sdiTx s p with mode := fieldAt l 2 1, levelBMap := bit (fieldAt l 4 1) 0, invert := bit (fieldAt l 7 1) 0, txOffset := fieldAt l 8 4 } ∧
        sdiTx t q = sdiTx s q ∧ t.tim.now = (if octetGated s (p / 8) && fieldAt l 2 1 != 0 then s.tim.now + 50000 else s.tim.now) ∧
        t = { s with tim := { s.tim with now := t.tim.now }, svp := { s.svp with tx := t.svp.tx }, red := { s.red with jseq := t.red.jseq, jout := t.red.jout }, hif := t.hif, flt := t.flt, wire := t.wire })) ∧
    (c.hostOk = true → firstErr (sdiChecks (place a img s) a) = some r → 0x10 ≤ r.st →
      Completes (.svpPortSet c a img) s (fun t => SameBlock (place a img s) t ∧ Replied c 0x0120 r.st r.result r.err t)) ∧
    (p < 64 → c.hostOk = true → Completes (.svpPortRead c p 0 a) s (EndsDone c 0x0121 0 (hostWrite a (rxBytes p (sdiRx s p)) s)) ∧
      Completes (.svpPortRead c p 1 a) s (EndsDone c 0x0121 0 (hostWrite a (txBytes p (sdiTx s p)) s))) ∧
    (63 < p → Completes (.svpPortRead c p n a) s (Fails c 0x0121 0x11 (argAt c 24 s) s)) ∧
    (p < 64 → 1 < n → Completes (.svpPortRead c p n a) s (Fails c 0x0121 0x11 (argAt c 25 s) s)) ∧
    ((sdiRx s p).st = .hunt → Completes (.sdiHuntDwell p) s (fun t =>
      t.tim.now = max s.tim.now ((sdiRx s p).since + 50000) ∧
        sdiRx t p = { sdiRx s p with rate := if (sdiRx s p).mode = 2 then (sdiRx s p).ifRate else nextRate (sdiRx s p).rate, since := t.tim.now } ∧
        sdiRx t q = sdiRx s q ∧ t = { s with tim := { s.tim with now := t.tim.now }, svp := { s.svp with rx := t.svp.rx } }) ∧
      Completes (.sdiCdrLock p) s (fun t =>
        (sdiRx t p).st = .locked ∧ (sdiRx t p).lastRate = (sdiRx s p).rate ∧ (sdiRx t p).rate = (sdiRx s p).rate ∧ sdiRx t q = sdiRx s q ∧
          t = { s with svp := { s.svp with rx := t.svp.rx } })) ∧
    ([7, 8, 5, 6, 3, 4, 1, 2].map nextRate = [8, 5, 6, 3, 4, 1, 2, 7]) ∧
    ((sdiRx s p).st ≠ .hunt → Completes (.sdiHuntDwell p) s (fun t => t = s) ∧ Completes (.sdiCdrLock p) s (fun t => t = s)) ∧
    ((sdiRx s p).st = .locked → Completes (.sdiIdentTimeout p) s (fun t =>
      t.tim.now = max s.tim.now ((sdiRx s p).since + 125125000) ∧ (sdiRx t p).st = .hunt ∧
        (sdiRx t p).rate = (if (sdiRx s p).mode = 2 then (sdiRx s p).ifRate else if (sdiRx s p).lastRate = 0 then 7 else (sdiRx s p).lastRate) ∧
        sdiRx t q = sdiRx s q ∧ t = { s with tim := { s.tim with now := t.tim.now }, svp := { s.svp with rx := t.svp.rx } })) ∧
    ((sdiRx s p).st = .locked ∨ (sdiRx s p).st = .identified → bit (rd s .fltSrcCfg 0x0E1) 27 = false →
      Completes (.sdiSignalLoss p cause) s (fun t =>
        (sdiRx t p).st = .hunt ∧ (tgetD t.flt.stat 0x0E1 {}).count = min ((tgetD s.flt.stat 0x0E1 {}).count + 1) 255 ∧
          (inputsOn s p = [] → Raised 0x0E1 [(1, sdiLabel s p), (1, cause)] 0 s t) ∧
          (n ∈ inputsOn s p → (flowD s n).st = .running → (flowD s n).stop = none → (flowD t n).st = .held) ∧ sdiRx t q = sdiRx s q ∧
          t = { s with svp := { s.svp with rx := t.svp.rx }, tim := { s.tim with cands := t.tim.cands, forced := t.tim.forced }, flows := t.flows, red := { s.red with jseq := t.red.jseq, jout := t.red.jout }, hif := t.hif, flt := t.flt, wire := t.wire })) ∧
    ((sdiRx s p).st = .disabled ∨ (sdiRx s p).st = .hunt → Completes (.sdiSignalLoss p cause) s (fun t => t = s))

/-- What a frame start, a received line and a transmitted line do (spec/06_serial_video_ports.md: Receiving,
spec/06_serial_video_ports.md: Transmitting, spec/06_serial_video_ports.md: Ports and the flows they carry). Where the spec
leaves a point open it states the model's choice: log entries 4, 36, 128, 135, 146 and 158. -/
def Obligations.SdiFramesLinesAndOutput : Prop :=
  ∀ (s : State) (p n k : Nat) (f : Flow) (x : SdiFrame) (l : SdiLine) (rx : SdiRx) (tx : SdiTx) (skew : Int) (fr : ReadFault) (gb : Bool), Settled s → rx = sdiRx s p → tx = sdiTx s p → p < 64 →
    (rx.st = .disabled ∨ rx.st = .hunt ∨ x.inverted ≠ rx.invert → Completes (.sdiFrameStart p x) s (fun t => t = atLeast x.at_ s)) ∧
    (rx.st = .locked → x.inverted = rx.invert → rx.frameAt.isSome = true → rx.goodFrames = 1 → rx.format / 16 = x.format / 16 → x.vpidHere = true →
      ifRateOf (x.format / 16 * 16 + 1) ≠ 0 →
      bit (rd s .fltSrcCfg 0x0E0) 27 = false → Completes (.sdiFrameStart p x) s (fun t =>
        (sdiRx t p).st = .identified ∧ (sdiRx t p).format = x.format ∧ (sdiRx t p).vpid = x.vpid ∧ (sdiRx t p).frameAt = some x.at_ ∧
          (tgetD t.flt.stat 0x0E0 {}).count = min ((tgetD s.flt.stat 0x0E0 {}).count + 1) 255 ∧ t.tim.now = max s.tim.now x.at_ ∧
          t = { s with tim := { s.tim with now := t.tim.now }, svp := { s.svp with rx := t.svp.rx }, flows := t.flows, ika := t.ika, aud := { s.aud with xps := t.aud.xps }, red := { s.red with jseq := t.red.jseq, jout := t.red.jout }, hif := t.hif, flt := t.flt, wire := t.wire })) ∧
    (rx.st = .locked → x.inverted = rx.invert → rx.frameAt = none → s.flows = [] → Completes (.sdiFrameStart p x) s (fun t =>
      sdiRx t p = { takeVpid x rx with goodFrames := 0, frameAt := some x.at_, format := x.format } ∧
        t = { atLeast x.at_ s with svp := { s.svp with rx := t.svp.rx } })) ∧
    (rx.st = .identified → x.inverted = rx.invert → s.flows = [(n, f)] → onSdi 0 p n f = true → f.essence = 0 → f.locked = true → f.st = .running → f.stop = none → f.restore = none →
      frameFaults (setRx p (identify x rx) s) p f x (rx.frameAt.map (fun t => x.at_ - t)) = [] →
      Completes (.sdiFrameStart p x) s (fun t =>
        (sdiRx t p).frame = fiAt s f.domain x.at_ ∧ (sdiRx t p).frameAt = some x.at_ ∧
          (sdiRx t p).arrival = some ((x.at_ : Int) - (tOf s f.domain (fiAt s f.domain x.at_) : Int)) ∧ (sdiRx t p).st = .identified ∧ t.flows = s.flows ∧
          t = { s with tim := { s.tim with now := max s.tim.now x.at_ }, svp := { s.svp with rx := t.svp.rx }, ika := t.ika })) ∧
    (rx.st = .identified → x.inverted = rx.invert → s.flows = [(n, f)] → onSdi 0 p n f = true → f.essence = 0 → f.st = .running → f.stop = none → f.restore = none →
      frameFaults (setRx p (identify x rx) s) p f x (rx.frameAt.map (fun t => x.at_ - t)) ≠ [] →
      bit (rd s .fltSrcCfg 0x0E6) 27 = false → bit (rd s .fltSrcCfg 0x0E7) 27 = false → Completes (.sdiFrameStart p x) s (fun t =>
        (flowD t n).st = .held ∧ (flowD t n).detected = detectedCode f (if x.vpidHere then x.format else x.format / 16 * 16) ∧
          Raised 0x07C [(2, n), (2, detectedCode f (if x.vpidHere then x.format else x.format / 16 * 16))] 0 s t)) ∧
    (rx.st ≠ .identified → Completes (.sdiLineRx p l) s (fun t => t = s)) ∧
    (rx.st = .identified → s.flows = [(n, f)] → onSdi 0 p n f = true → f.essence = 0 → f.st = .running → f.restore = none →
      activeOf f.format (picLine rx l) = some k → rx.frame < 2 ^ 32 - 1 →
      l.trsBad = false → l.crcBad = none → l.audioBad = [] → l.anc = [] → Completes (.sdiLineRx p l) s (fun t =>
        (stored t n k).bytes = l.bytes ∧ (stored t n k).fi = rx.frame ∧ (stored t n k).line = k ∧ (stored t n k).complete = true ∧
          (sdiRx t p).badLines = 0 ∧ t = { s with svp := { s.svp with rx := t.svp.rx }, swc := { s.swc with store := t.swc.store, prefetchDiscard := t.swc.prefetchDiscard }, tt := { s.tt with cancelled := t.tt.cancelled }, ika := t.ika, flt := t.flt } ∧
          (s.tt.cancelled = [] → t.tt = s.tt ∧ t.flt = s.flt ∧ t.swc = { s.swc with store := t.swc.store }))) ∧
    (rx.st = .identified → l.trsBad = true → l.crcBad = none → l.audioBad = [] → l.anc = [] →
      (if rx.trsTol = 0 then 3 else rx.trsTol) ≤ rx.badLines + 1 → bit (rd s .fltSrcCfg 0x0E1) 27 = false → bit (rd s .fltSrcCfg 0x0E3) 27 = false →
      Completes (.sdiLineRx p l) s (fun t => (sdiRx t p).st = .hunt ∧
        (tgetD t.flt.stat 0x0E1 {}).count = min ((tgetD s.flt.stat 0x0E1 {}).count + 1) 255 ∧ t.swc = s.swc)) ∧
    (tx.sending = false ∨ sdiRuns s = false → Completes (.sdiTxLine p fr gb skew) s (fun t => t = s)) ∧
    (tx.sending = true → sdiRuns s = true → bit (rd s .fltSrcCfg 0x0E9) 27 = false → bit (rd s .fltSrcCfg 0x0E5) 27 = false → Completes (.sdiTxLine p fr gb skew) s (fun t =>
      Completes (.sdiTxLine p {} false skew) s (fun v => t = { v with flt := t.flt }) ∧ (gb = true → RaisedOnce 0x245 s t))) ∧
    (tx.sending = true → sdiRuns s = true → f = flowD s tx.flow → activeOf f.format tx.line = some k → ancOut s p tx.frame = [] → tx.line < fmtTotal f.format →
      ((plat s (ixOf tx.flow)).line = k → (plat s (ixOf tx.flow)).fi = tx.frame → Completes (.sdiTxLine p {} false skew) s (fun t =>
        t.tim.now = max s.tim.now (txInstant s tx f skew) ∧
          (txInstant s tx f skew : Int) = max 0 ((tOf s f.domain tx.frame + linesNs f.format (f.depth + tx.line - 1) + tx.txOffset : Nat) + max (-10) (min 10 skew)) ∧
          (∃ o, t.wire = s.wire ++ [.sdi p o] ∧ o.line = tx.line ∧ o.fill = (plat s (ixOf tx.flow)).fill ∧ o.bytes = (plat s (ixOf tx.flow)).bytes ∧
            o.anc = [] ∧ o.audio = embedded s p tx.frame tx.line f ∧ o.levelB = sendsLevelB tx f ∧ o.invert = tx.invert) ∧
          t = { s with tim := { s.tim with now := t.tim.now }, svp := { s.svp with tx := tput s.svp.tx p { tx with line := tx.line + 1 } }, wire := t.wire })) ∧
      ((plat s (ixOf tx.flow)).line ≠ k → bit (rd s .fltSrcCfg 0x0E9) 27 = false → Completes (.sdiTxLine p {} false skew) s (fun t =>
        Raised 0x0E9 [(1, p), (2, tx.line)] 0 s t ∧
          (∃ o, t.wire = s.wire ++ [.sdi p o] ∧ o.line = tx.line ∧ o.fill = true ∧ o.bytes = blackLine f.format f.colour ∧ o.anc = [] ∧
            o.audio = embedded s p tx.frame tx.line f ∧ o.levelB = sendsLevelB tx f ∧ o.invert = tx.invert) ∧
          t = { s with tim := { s.tim with now := t.tim.now }, svp := { s.svp with tx := tput s.svp.tx p { tx with line := tx.line + 1 } }, flt := t.flt, wire := t.wire })))

/-- NMP_STREAM_SET, NMP_STREAM_READ, NMP_GATE_LOAD and NMP_FRAME_SEND (spec/07_network_media_ports.md: Flows on a network port,
spec/07_network_media_ports.md: Transmitting, spec/07_network_media_ports.md: Host frames). Where the spec leaves a point open
it states the model's choice: log entries 11 and 80. -/
def Obligations.NetworkCommandsComplete : Prop :=
  ∀ (c : Cmd) (s : State) (a n m k q len opt : Nat) (img l : List Byte) (r : Reply), Clear s → k ≠ m →
    (c.hostOk = true → firstErr (streamChecks (place a img s) a) = none → l = hostBytes (place a img s) a 64 → normFlow (fieldAt l 0 2) = n →
      Completes (.nmpStreamSet c a img) s (fun t => Replied c 0x0130 0 0 0 t ∧
        (stream t n).ssrc = fieldAt l 4 4 ∧ (stream t n).legs.length = (if fieldAt l 2 1 = 2 then 2 else 1) ∧
        (stream t n).legs.head? = some (parseLeg (slice l 8 28)) ∧ (stream t n).pktsA = 0 ∧ (stream t n).rejects = 0 ∧
        (q ≠ n → stream t q = stream s q) ∧
        t = { s with nmp := { s.nmp with streams := t.nmp.streams }, red := { s.red with jseq := t.red.jseq, jout := t.red.jout }, hif := t.hif, flt := t.flt, wire := t.wire })) ∧
    (c.hostOk = true → firstErr (streamChecks (place a img s) a) = some r → 0x10 ≤ r.st →
      Completes (.nmpStreamSet c a img) s (fun t => SameBlock (place a img s) t ∧ Replied c 0x0130 r.st r.result r.err t)) ∧
    (flowNumOk n = true → (flow? s (normFlow n)).isSome = true → (flowD s (normFlow n)).endpoint = 1 → c.hostOk = true →
      Completes (.nmpStreamRead c n a) s (EndsDone c 0x0131 0 (hostWrite a (streamRecord s (normFlow n)) s))) ∧
    ((flowD s (normFlow n)).endpoint ≠ 1 → Completes (.nmpStreamRead c n a) s (Fails c 0x0131 0x11 (argAt c 24 s) s)) ∧
    (m < 16 → c.hostOk = true → l = hostBytes (place a img s) a 1040 → 1 ≤ fieldAt l 8 2 → fieldAt l 8 2 ≤ 256 →
      fieldAt (hostBytes (place a img s) a 16) 8 2 = fieldAt l 8 2 →
      (∀ e ∈ parseGates l (fieldAt l 8 2), bit e.1 7 = true ∧ e.2 ≠ 0) → gateCycle (parseGates l (fieldAt l 8 2)) ≤ 1000000000 →
      macFits (place a img s) m (some { base := fieldAt l 0 8, entries := parseGates l (fieldAt l 8 2), start := gateStart (fieldAt l 0 8) (max 1 (gateCycle (parseGates l (fieldAt l 8 2)))) s.tim.now, tag := c.tag }) [] = true →
      Completes (.nmpGateLoad c m a img) s (fun t => Replied c 0x0132 1 0 0 t ∧
        (mac t m).pend = some { base := fieldAt l 0 8, entries := parseGates l (fieldAt l 8 2), start := gateStart (fieldAt l 0 8) (max 1 (gateCycle (parseGates l (fieldAt l 8 2)))) s.tim.now, tag := c.tag } ∧
        (mac t m).oper = (mac s m).oper ∧ mac t k = mac s k ∧
        t = { s with nmp := { s.nmp with macs := t.nmp.macs }, red := { s.red with jseq := t.red.jseq, jout := t.red.jout }, hif := t.hif, flt := t.flt, wire := t.wire })) ∧
    (15 < m → Completes (.nmpGateLoad c m a img) s (Fails c 0x0132 0x11 (argAt c 24 s) (place a img s))) ∧
    (m ≤ 16 → q ≤ 6 → 14 ≤ len → len ≤ 9212 → opt ≤ 1 → c.hostOk = true → (mac s m).frames.length < 64 → macUp s m = true →
      Completes (.nmpFrameSend c m q len opt a img) s (fun t =>
        (mac t m).frames = (mac s m).frames ++ [{ queue := q, bytes := hostBytes (place a img s) a len, csum := opt == 1, cmd := some c, at_ := s.tim.now }] ∧
        (cmdRing t c.ring).busy = true ∧ mac t k = mac s k ∧
        t = { place a img s with nmp := { s.nmp with macs := t.nmp.macs }, hif := { (place a img s).hif with cmd := t.hif.cmd } })) ∧
    (m ≤ 16 → q ≤ 6 → 14 ≤ len → len ≤ 9212 → opt ≤ 1 → c.hostOk = true → (mac s m).frames.length < 64 → macUp s m = false →
      Completes (.nmpFrameSend c m q len opt a img) s
        (EndsDone c 0x0133 0 (setMac m { mac s m with txDrops := satAdd 16 (mac s m).txDrops 1 } (place a img s)))) ∧
    (m ≤ 16 → q ≤ 6 → 14 ≤ len → len ≤ 9212 → opt ≤ 1 → c.hostOk = true → 64 ≤ (mac s m).frames.length →
      Completes (.nmpFrameSend c m q len opt a img) s (Fails c 0x0133 0x12 0 (place a img s)))

/-- How a link comes up and goes down, a gate list starts, and the management MAC collides, waits and sends
(spec/07_network_media_ports.md: MACs, modes and lanes, spec/07_network_media_ports.md: Transmitting,
spec/07_network_media_ports.md: The management MAC). Where the spec leaves a point open it states the model's choice: log
entries 4, 80, 81 and 147. -/
def Obligations.NetworkLinksGatesAndManagement : Prop :=
  ∀ (s : State) (m k n t0 hcd cause sent slots sp : Nat) (f : Flow) (g : GateList) (h : HostFrame) (d : Cmd) (b : List Byte) (pos : Int) (fd : Bool), Settled s → s.hif.fences = [] → k ≠ m →
    (m < 16 → macEn s m = true → ((mac s m).st = .negotiating ∨ (mac s m).st = .training ∨ (mac s m).st = .aligning) → (macAn s m = true → hcd = macMode s m) →
      Completes (.nmpLinkUp m hcd) s (fun t => (mac t m).st = .up ∧ (mac t m).fecLock = true ∧ mac t k = mac s k ∧
        Raised 0x100 [(1, m), (1, macMode s m)] 0 s t ∧ t = { s with nmp := { s.nmp with macs := t.nmp.macs }, flt := t.flt })) ∧
    (macEn s m = false → Completes (.nmpLinkUp m hcd) s (fun t => t = s) ∧ Completes (.nmpLinkDown m cause) s (fun t => t = s)) ∧
    (m < 16 → macEn s m = true → (mac s m).st = .up → cause < 2 → (mac s m).frames = [] → bit (rd s .fltSrcCfg 0x101) 27 = false →
      Completes (.nmpLinkDown m cause) s (fun t =>
        (mac t m).st = (if macAn s m then .negotiating else .training) ∧ (mac t m).fecLock = false ∧ mac t k = mac s k ∧
        (s.flows = [(n, f)] → nsOf n = 0 → f.st = .running → f.endpoint = 1 → legMacs f = [m] → f.stop = none → (flowD t n).st = .held) ∧
        Raised 0x101 [(1, m), (1, cause)] 0 s t ∧
        t = { s with nmp := { s.nmp with macs := t.nmp.macs }, flows := t.flows, red := { s.red with jseq := t.red.jseq, jout := t.red.jout }, hif := t.hif, flt := t.flt, wire := t.wire })) ∧
    ((mac s m).retryAt = some t0 → Completes (.nmpAnRetry m) s (fun t =>
      (mac t m).st = (if macAn s m then .negotiating else .training) ∧ (mac t m).retryAt = none ∧ t.tim.now = max s.tim.now t0 ∧ mac t k = mac s k ∧
        t = { s with nmp := { s.nmp with macs := t.nmp.macs }, lnx := t.lnx, tim := { s.tim with now := t.tim.now } })) ∧
    ((mac s m).retryAt = none → Completes (.nmpAnRetry m) s (fun t => t = s)) ∧
    ((mac s m).pend = some g → Completes (.nmpGateStart m) s (fun t =>
      (mac t m).oper = some g ∧ (mac t m).pend = none ∧ (mac t m).gateIx = 0 ∧ (mac t m).gateAt = namedAt s (gatesFrom g) g.start ∧
        (s.tim.jumps = [] → (mac t m).gateAt = g.start) ∧ t.tim.now = max s.tim.now (mac t m).gateAt ∧
        mac t k = mac s k ∧ Final 0x10B g.tag t ∧ Raised 0x10B [(1, m), (4, ts32 (mac t m).gateAt)] 0 s t ∧
        t = { s with nmp := { s.nmp with macs := t.nmp.macs }, tim := { s.tim with now := t.tim.now }, flt := t.flt })) ∧
    ((mac s m).oper = some g → g.entries.length ≠ 0 → (mac s m).gateIx < g.entries.length → Completes (.nmpGateInterval m) s (fun t =>
      (mac t m).gateIx = ((mac s m).gateIx + 1) % g.entries.length ∧ (mac t m).gateAt = (mac s m).gateAt + (g.entries.getD (mac s m).gateIx (0, 0)).2 ∧
        t.tim.now = max s.tim.now (mac t m).gateAt ∧ mac t k = mac s k ∧
        t = { s with nmp := { s.nmp with macs := t.nmp.macs }, tim := { s.tim with now := t.tim.now } })) ∧
    ((mac s m).oper = none → Completes (.nmpGateInterval m) s (fun t => t = s)) ∧
    ((mac s m).frames = [h] → m < 16 → macUp s m = true → goesNow s m { queue := h.queue, at_ := h.at_, bytes := h.bytes.length } = true → h.cmd = some d →
      d.cplOk = true → Completes (.nmpFrameSent m) s (fun t =>
      Replied d 0x0133 0 0 0 t ∧ (mac t m).frames = [] ∧ mac t k = mac s k ∧
        t.wire.take (s.wire.length + 1) = s.wire ++ [.eth m (withFcs (if h.csum then withChecksums h.bytes else h.bytes))] ∧
        t = { s with nmp := { s.nmp with macs := t.nmp.macs }, hif := t.hif, wire := t.wire })) ∧
    ((mac s m).frames = [] ∨ macUp s m = false → Completes (.nmpFrameSent m) s (fun t => t = s)) ∧
    ((mac s 16).frames = [h] → halfDuplex s = true → s.nmp.backoff = none → sent ≤ 512 → s.nmp.attempts < 15 → Completes (.mgmtMacCollision sent slots) s (fun t =>
      t = { s with nmp := { s.nmp with attempts := s.nmp.attempts + 1, backoff := some (s.tim.now + slots % 2 ^ min (s.nmp.attempts + 1) 10 * slotTime s) }, wire := s.wire ++ [.jam] })) ∧
    ((mac s 16).frames = [h] → halfDuplex s = true → s.nmp.backoff = none → (512 < sent ∨ 15 ≤ s.nmp.attempts) → h.cmd = some d → Completes (.mgmtMacCollision sent slots) s (fun t =>
      (mac t 16).frames = [] ∧ t.nmp.attempts = 0 ∧ t.nmp.backoff = none ∧ Replied d 0x0133 0 0 0 t ∧
        (d.cplOk = true → Raised 0x10C [(1, if 512 < sent then 0 else 1)] 0 s t) ∧
        t = { s with nmp := { s.nmp with macs := t.nmp.macs, attempts := 0, backoff := none, lateColl := t.nmp.lateColl, excessColl := t.nmp.excessColl }, hif := t.hif, flt := t.flt, wire := t.wire })) ∧
    (s.nmp.backoff = some t0 → Completes .mgmtBackoffEnd s (fun t =>
      t = { s with nmp := { s.nmp with backoff := none }, tim := { s.tim with now := max s.tim.now t0 } })) ∧
    Completes (.rgmiiInBandStatus true sp fd) s (fun t => t = { s with nmp := { s.nmp with mgmtLink := true, mgmtSpeed := sp, mgmtFull := fd } }) ∧
    ((mac s 16).frames = [h] → h.cmd = some d → Completes (.rgmiiInBandStatus false sp fd) s (fun t =>
      t.nmp.mgmtLink = false ∧ (mac t 16).frames = [] ∧ (mac t 16).txDrops = satAdd 16 (mac s 16).txDrops 1 ∧ Replied d 0x0133 0 0 0 t ∧
        t = { s with nmp := t.nmp, hif := t.hif, flt := t.flt, wire := t.wire })) ∧
    (m ≤ 16 → macUp s m = true → (m = 16 → halfDuplex s = false) → Completes (.ptpMessageSend m ⟨b, pos⟩) s (fun t =>
      t = { s with nmp := { s.nmp with ptpTx := s.nmp.ptpTx ++ [{ mac := m, stamp := txStamp s m b pos, bytes := oneStep s m b (txStamp s m b pos) }] }, wire := s.wire ++ [.eth m (withFcs (oneStep s m b (txStamp s m b pos)))] })) ∧
    (macUp s 16 = true → halfDuplex s = true → Completes (.ptpMessageSend 16 ⟨b, pos⟩) s (fun t =>
      t = setMac 16 { mac s 16 with frames := (mac s 16).frames ++ [{ queue := 7, bytes := b, csum := false, cmd := none, at_ := s.tim.now }] } s)) ∧
    (m ≤ 16 → macUp s m = false → Completes (.ptpMessageSend m ⟨b, pos⟩) s (fun t =>
      t = setMac m { mac s m with txDrops := satAdd 16 (mac s m).txDrops 1 } s))

/-- What a received frame, a silence, a lost leg and a packet of an output do (spec/07_network_media_ports.md: Receiving,
spec/07_network_media_ports.md: Seamless merge, spec/07_network_media_ports.md: Transmitting). Where the spec leaves a point
open it states the model's choice: log entries 4, 74, 78, 79, 145, 150 and 181. -/
def Obligations.PacketsReceivedAndSent : Prop :=
  ∀ (s : State) (m n leg : Nat) (l : List Byte) (x : EthFault) (f : Flow) (y : Stream) (r : Rtp) (p : TxPos) (w : Waiting) (u : State) (fr : ReadFault) (gb : Bool), Settled s → normFlow n = n → f = flowD s n → y = stream s n →
    (macUp s m = false → Completes (.ethFrameRx m l x) s (fun t => t = s)) ∧
    (m ≤ 16 → macUp s m = true → x.fcs = true → bit (rd s .fltSrcCfg 0x102) 27 = false → Completes (.ethFrameRx m l x) s (fun t =>
      mac t m = { mac s m with fcs := satAdd 32 (mac s m).fcs 1 } ∧ t = { s with nmp := { s.nmp with macs := t.nmp.macs }, flt := t.flt })) ∧
    (m ≤ 16 → macUp s m = true → x.fcs = false → l.length + 4 ≤ maxFrame s m → l.length ≤ 2032 → isPtp l = false → ipOk l = false →
      s.nmp.xEn = true → s.nmp.xUsed < xSize s → s.nmp.xWritten < 200000 → Completes (.ethFrameRx m l x) s (fun t =>
        t.nmp.xUsed = s.nmp.xUsed + 1 ∧ t.nmp.xTail = (advance (xSize s) s.nmp.xTail s.nmp.xPhase).1 ∧
          t = { hostWrite (rdAddr s .nmpXringBaseLo .nmpXringBaseHi 0 + 2048 * s.nmp.xTail) (leBytes 1 m ++ leBytes 1 1 ++ leBytes 2 l.length ++ leBytes 4 (ts32 s.tim.now) ++ leBytes 1 (flag s.nmp.xPhase 0) ++ zeros 7 ++ padTo 2032 l) s with nmp := { s.nmp with xUsed := t.nmp.xUsed, xTail := t.nmp.xTail, xPhase := t.nmp.xPhase, xSec := t.nmp.xSec, xWritten := t.nmp.xWritten } })) ∧
    (m ≤ 16 → macUp s m = true → x.fcs = false → x.payload = false → l.length + 4 ≤ maxFrame s m → isPtp l = false → ipOk l = true → udpOk l = true →
      matchFrame s m l = .leg n leg → r = parseRtp (slice l (udpOff l + 8) (beAt l (udpOff l + 4) 2 - 8)) → r.version = 2 → (y.ssrc = 0 ∨ r.ssrc = y.ssrc) →
      carriage f = 0 → f.st = .running → f.restore = none → leg ≤ 1 →
      (r.pt = fieldAt f.params 2 1 → f.essence = 1 → y.newest = none → y.lost = none → r.payload.length = f.count * sampleBytes f * packetSamples f →
        Completes (.ethFrameRx m l x) s (fun t =>
          (stream t n).pktsA = (if leg = 0 then satAdd 32 y.pktsA 1 else y.pktsA) ∧ (stream t n).pktsB = (if leg = 0 then y.pktsB else satAdd 32 y.pktsB 1) ∧
            (stream t n).newest = some (2 ^ 32 + r.seq) ∧ (stream t n).lastRtp = r.ts ∧ t.flows = s.flows ∧
            t = { s with nmp := { s.nmp with streams := t.nmp.streams }, aud := t.aud })) ∧
      (r.pt ≠ fieldAt f.params 2 1 → f.stop = none → Completes (.ethFrameRx m l x) s (fun t =>
        (stream t n).rejects = satAdd 32 y.rejects 1 ∧ (flowD t n).st = .held ∧ Raised 0x10D [(2, n), (1, 2)] 0 s t ∧ t.aud = s.aud ∧ t.swc = s.swc)) ∧
      (r.pt = fieldAt f.params 2 1 → y.lost = none → fateOf y (extSeq y f r) = .duplicate → Completes (.ethFrameRx m l x) s (fun t =>
        (stream t n).dups = satAdd 32 y.dups 1 ∧ t = { s with nmp := { s.nmp with streams := t.nmp.streams } }))) ∧
    (nsOf n = 0 → f.st = .running → f.endpoint = 1 → f.restore = none → carriage f = 0 → f.stop = none → Completes (.nmpNoPacketTimeout n) s (fun t =>
      (flowD t n).st = .held ∧ (flowD t n).detected = 0xFFFF ∧ Raised 0x10D [(2, n), (1, 1)] 0 s t ∧
        t.tim.now = max s.tim.now (max f.runAt (max y.atA y.atB) + silenceNs s f) ∧ t = { s with flows := t.flows, tim := { s.tim with now := t.tim.now }, red := { s.red with jseq := t.red.jseq, jout := t.red.jout }, flt := t.flt })) ∧
    (f.st ≠ .running → Completes (.nmpNoPacketTimeout n) s (fun t => t = s)) ∧
    (nsOf n = 0 → active f = true → y.legs.length = 2 → leg ≤ 1 → y.lost = none → (if leg = 0 then y.atB else y.atA) ≠ 0 →
      max s.tim.now (max f.runAt (if leg = 0 then y.atA else y.atB) + 10000000) < (if leg = 0 then y.atB else y.atA) + 10000000 →
      Completes (.nmpLegLost n leg) s (fun t =>
      stream t n = { y with lost := some leg } ∧ t.tim.now = max s.tim.now (max f.runAt (if leg = 0 then y.atA else y.atB) + 10000000) ∧ Raised 0x107 [(2, n), (1, leg)] 0 s t ∧
        t = { s with nmp := { s.nmp with streams := t.nmp.streams }, tim := { s.tim with now := t.tim.now }, flt := t.flt })) ∧
    ((if leg = 0 then y.atB else y.atA) = 0 → Completes (.nmpLegLost n leg) s (fun t => t = s)) ∧
    (sends s n leg = false → Completes (.nmpPacketSend n leg fr gb) s (fun t => t = s) ∧ Completes (.nmpTxLate n leg) s (fun t => t = s)) ∧
    (sends s n leg = true → f.essence ≠ 3 → p = txPos s n leg → packetsHere s n f p ≠ 0 → u = atLeast (releaseAt s n f p) s →
      (macUp s (legMac f leg) = true → w = { queue := (legOf s n leg).queue, at_ := releaseAt s n f p, bytes := (mediaFrame u n leg f (packetOf u n f p u.tim.now) p.seq).length } →
        (goesNow u (legMac f leg) w = true → Completes (.nmpPacketSend n leg fr gb) s (fun t => Completes (.nmpPacketSend n leg {} false) s (fun v => t = { v with flt := t.flt }) ∧
          (gb = true → RaisedOnce 0x245 s t)) ∧ Completes (.nmpPacketSend n leg {} false) s (fun t =>
          t = { setPos n leg (nextPos u n f (packetOf u n f p u.tim.now) p) u with wire := s.wire ++ [.eth (legMac f leg) (withFcs (mediaFrame u n leg f (packetOf u n f p u.tim.now) p.seq))] })) ∧
        (goesNow u (legMac f leg) w = false → Completes (.nmpPacketSend n leg fr gb) s (fun t => t = u))) ∧
      (macUp s (legMac f leg) = false → Completes (.nmpPacketSend n leg fr gb) s (fun t =>
        mac t (legMac f leg) = { mac s (legMac f leg) with txDrops := satAdd 16 (mac s (legMac f leg)).txDrops 1 } ∧ t.wire = s.wire ∧
          txPos t n leg = nextPos u n f (packetOf u n f p u.tim.now) p ∧ t = { u with nmp := t.nmp }))) ∧
    (sends s n leg = true → p = txPos s n leg → Completes (.nmpTxLate n leg) s (fun t =>
      (stream t n).txLate = satAdd 32 y.txLate 1 ∧ releaseAt s n f p ≤ t.tim.now ∧ t.wire = s.wire ∧
        t = { s with nmp := { s.nmp with streams := t.nmp.streams }, tim := { s.tim with now := t.tim.now }, flt := t.flt }))

/-- PAGE_LOAD, PAGE_WITHDRAW and PAGE_STATUS, run-ahead filled, the arm deadline and the guard (spec/04_timetable_switching.md:
Set-up registers, commands and events, spec/04_timetable_switching.md: Commit across devices). Where the spec leaves a point
open it states the model's choice: log entries 4, 11, 42, 53, 55 and 141. -/
def Obligations.PagesLoadWithdrawAndWait : Prop :=
  ∀ (c : Cmd) (s u : State) (a n k m id : Nat) (img : List Byte) (p q : Page) (r : Reply), Clear s → u = place a img s → q = page s n →
    (p = ownPage c u a → ttEn u = true → c.hostOk = true → firstErr (headerChecks a p u ++ bodyChecks a p u ++ admitChecks a p u) = none →
      k = (freeSlot u).getD 0 → m ≠ k →
      Completes (.pageLoad c a img) s (fun t => Replied c 0x0201 1 0 0 t ∧ (page t k).id = p.id ∧ (page t k).actN = p.actN ∧ (page t k).changes = p.changes ∧
        (page t k).tag = some c.tag ∧ (page t k).part = p.part ∧ (page t k).coordHere = p.coordHere ∧ page t m = page s m ∧
        (p.localOnly = true → p.changes = [] → s.tim.now ≤ guardOf u p → (page t k).pst = .committed) ∧ PageReply s t)) ∧
    (firstErr [(!ttEn u, denied), (!c.hostOk, addressError a)] = some r →
      Completes (.pageLoad c a img) s (fun t => SameBlock u t ∧ Replied c 0x0201 r.st r.result r.err t)) ∧
    (p = ownPage c u a → ttEn u = true → c.hostOk = true → p.localOnly = true → k = (freeSlot u).getD 0 → m ≠ k →
      firstErr (headerChecks a p u ++ bodyChecks a p u ++ admitChecks a p u) = some r →
      (r.st ≠ 0x13 → Completes (.pageLoad c a img) s (fun t => SameBlock u t ∧ Replied c 0x0201 r.st r.result r.err t)) ∧
      (r.st = 0x13 → (page u k).resendW = false → Completes (.pageLoad c a img) s (fun t => Replied c 0x0201 0x13 r.result r.err t ∧
        (page t k).id = p.id ∧ (page t k).pst = .free ∧ (page t k).reason = 1 ∧ page t m = page s m ∧ PageReply s t))) ∧
    (pageSlot s id = some n → m ≠ n → q.coordHere = true → q.cst = .collecting → Completes (.pageWithdraw c id) s (fun t =>
      Replied c 0x0202 0 0 0 t ∧ (page t n).cst = .withdrawn ∧ (page t n).reason = 5 ∧ (q.part = true → (page t n).pst = .withdrawn) ∧
        RaisedOnce 0x0A3 s t ∧ page t m = page s m ∧ PageReply s t)) ∧
    (pageSlot s id = some n → m ≠ n → q.coordHere = false → q.localOnly = true → (q.pst = .loaded ∨ q.pst = .armed) → Completes (.pageWithdraw c id) s (fun t =>
      Replied c 0x0202 0 0 0 t ∧ (page t n).pst = .withdrawn ∧ (page t n).reason = 5 ∧ (c.cplOk = true → Raised 0x0A3 [(4, id), (1, 5)] 0 s t) ∧
        page t m = page s m ∧ PageReply s t)) ∧
    (pageSlot s id = some n → (q.coordHere = false ∨ q.cst ≠ .collecting) → (q.localOnly = false ∨ (q.pst ≠ .loaded ∧ q.pst ≠ .armed)) →
      Completes (.pageWithdraw c id) s (Fails c 0x0202 0x20 0 s)) ∧
    (pageSlot s id = none → Completes (.pageWithdraw c id) s (Fails c 0x0202 0x11 (argAt c 24 s) s)) ∧
    (statusSlot s id = some k → c.hostOk = true → Completes (.pageStatus c id a) s (EndsDone c 0x0203 0 (hostWrite a (pageStatusBytes s k (page s k)) s))) ∧
    (statusSlot s id = none → Completes (.pageStatus c id a) s (Fails c 0x0203 0x11 (argAt c 24 s) s)) ∧
    (pageSlot s id = some n → m ≠ n → q.part = true → q.pst = .loaded → q.windows.all (fun w => w.filled) = true → q.localOnly = false → q.coordHere = false →
      s.tim.now ≤ deadlineOf s q → Completes (.runAheadFilled id) s (fun t => (page t n).pst = .armed ∧ (page t n).armedTs = ts32 s.tim.now ∧ RaisedOnce 0x0A0 s t ∧
        page t m = page s m ∧ PageOnly s t)) ∧
    (pageSlot s id = some n → q.windows.all (fun w => w.filled) = false ∨ (q.localOnly = false ∧ deadlineOf s q < s.tim.now) → Completes (.runAheadFilled id) s (fun t => t = s)) ∧
    (pageSlot s id = some n → m ≠ n → q.coordHere = true → q.cst = .collecting → Completes (.armDeadline id) s (fun t =>
      (page t n).cst = .withdrawn ∧ (page t n).reason = 4 ∧ t.tim.now = max s.tim.now (deadlineOf s q + 1) ∧ Raised 0x0A3 [(4, q.id), (1, 4)] 0 s t ∧
        (q.tag = some id → Final 0x0A3 id t) ∧ page t m = page s m ∧ PageOnly s t)) ∧
    (pageSlot s id = some n → m ≠ n → q.part = true → (q.pst = .loaded ∨ q.pst = .armed) → Completes (.pageGuard id) s (fun t =>
      (page t n).pst = .late ∧ t.tim.now = max s.tim.now (guardOf s q + 1) ∧ Raised 0x0A4 [(4, id)] 0 s t ∧ page t m = page s m ∧ PageOnly s t)) ∧
    (pageSlot s id = some n → q.pst = .committed → Completes (.pageGuard id) s (fun t => t = s)) ∧
    (pageSlot s id = none → Completes (.pageGuard id) s (fun t => t = s) ∧ Completes (.armDeadline id) s (fun t => t = s) ∧
      Completes (.runAheadFilled id) s (fun t => t = s))

/-- The messages of a page at its coordinator and participants, and the commit evaluation (spec/04_timetable_switching.md: Commit
across devices, spec/04_timetable_switching.md: Run-ahead). Where the spec leaves a point open it states the model's choice:
log entries 4, 54 and 142. -/
def Obligations.PagesCommitAcrossDevices : Prop :=
  ∀ (s : State) (n m id lk : Nat) (q : Page) (x : CommitMsg) (w : RaRequest), Settled s → q = page s n → m ≠ n →
    (s.tt.slots.find? (fun p => p.2.id == id && p.2.coordHere && (p.2.cst == .commitSent || p.2.resendW)) = some (n, q) →
      Completes (.commitResend id) s (fun t =>
        t.tim.now = max s.tim.now (q.resendAt + 1000 * max 1 (fld s .swcTtCfg 0 23 16)) ∧ (page t n).acks = q.acks ∧ (page t n).cst = q.cst ∧
          page t m = page s m ∧ PageOnly s t)) ∧
    (pageSlot s id = some n → q.coordHere = true → q.cst = .commitSent → Completes (.commitEvaluation id) s (fun t =>
      t.tim.now = max s.tim.now (evalOf s q) ∧ page t m = page s m ∧ PageOnly s t ∧
        (missingOf q = [] → (page t n).cst = .confirmed ∧ Raised 0x0A6 [(4, id)] 0 s t) ∧
        (missingOf q ≠ [] → (page t n).cst = .commitMissed ∧ (page t n).missing = missingOf q ∧
          Raised 0x0A5 [(4, id), (2, (missingOf q).length), (2, (missingOf q).headD 0)] 0 s t))) ∧
    (ttEn s = true → s.tt.slots.find? (fun p => p.2.id == x.page && coordLive p.2) = some (n, q) → q.cst = .collecting →
      (armedMatches s q x = true → s.tim.now ≤ deadlineOf s q → q.armedFrom.contains x.dev = false →
        q.parts.all (fun d => (q.armedFrom ++ [x.dev]).contains d) = false →
        Completes (.armedRx x) s (fun t => page t n = { q with armedFrom := q.armedFrom ++ [x.dev] } ∧ page t m = page s m ∧ PageOnly s t)) ∧
      (armedMatches s q x = false → Completes (.armedRx x) s (fun t =>
        (page t n).cst = .withdrawn ∧ (page t n).reason = 7 ∧ Raised 0x0A3 [(4, q.id), (1, 7)] 0 s t ∧ page t m = page s m ∧ PageOnly s t))) ∧
    (ttEn s = true → s.tt.slots = [] → Completes (.armedRx x) s (fun t => t.tt = s.tt ∧ PageOnly s t)) ∧
    (ttEn s = true → s.tt.slots.find? (fun p => p.2.id == x.page && p.2.coordHere && p.2.cst == .collecting) = some (n, q) → Completes (.refusedRx x) s (fun t =>
      (page t n).cst = .withdrawn ∧ (page t n).reason = 3 ∧ Raised 0x0A3 [(4, q.id), (1, 3)] 0 s t ∧ page t m = page s m ∧ PageOnly s t)) ∧
    (ttEn s = true → lastSlot s x.page = some n → q.part = true → q.localOnly = false → q.coordHere = false →
      (q.pst = .armed → s.tim.now ≤ guardOf s q → Completes (.commitRx x) s (fun t =>
        (page t n).pst = .committed ∧ (page t n).commitTs = ts32 s.tim.now ∧ RaisedOnce 0x0A2 s t ∧ page t m = page s m ∧ PageOnly s t)) ∧
      (q.pst = .loaded ∨ q.pst = .committed ∨ (q.pst = .armed ∧ guardOf s q < s.tim.now) → Completes (.commitRx x) s (fun t => t.tt = s.tt ∧ PageOnly s t))) ∧
    (ttEn s = true → s.tt.slots.find? (fun p => p.2.id == x.page && p.2.coordHere && p.2.cst == .commitSent) = some (n, q) → q.parts.contains x.dev = true →
      q.acks.contains (x.dev, false) = false → Completes (.commitAckRx x) s (fun t =>
        page t n = { q with acks := (x.dev, x.late) :: q.acks.filter (fun y => y.1 != x.dev) } ∧ page t m = page s m ∧ PageOnly s t)) ∧
    (ttEn s = true → pageSlot s x.page = some n → q.part = true → q.localOnly = false → q.coordHere = false → x.dev = q.coord →
      (q.pst = .loaded ∨ q.pst = .armed → Completes (.withdrawnRx x) s (fun t =>
        (page t n).pst = .withdrawn ∧ (page t n).reason < 9 ∧ Raised 0x0A3 [(4, q.id), (1, (page t n).reason)] 0 s t ∧ page t m = page s m ∧
          PageOnly { s with free := s.free + 1 } t)) ∧
      (q.pst = .committed → Completes (.withdrawnRx x) s (fun t =>
        RaisedOnce 0x009 s t ∧ t = { s with flt := t.flt, hif := { s.hif with resp := t.hif.resp } }))) ∧
    (ttEn s = false → Completes (.armedRx x) s (fun t => t = s) ∧ Completes (.refusedRx x) s (fun t => t = s) ∧ Completes (.commitRx x) s (fun t => t = s) ∧
      Completes (.commitAckRx x) s (fun t => t = s) ∧ Completes (.withdrawnRx x) s (fun t => t = s)) ∧
    (ttEn s = true → s.tt.slots = [] → s.tt.requests = [] → refDev x.flow = devId s → s.tim.now ≤ msgGuard s x → Completes (.runAheadRx x lk) s (fun t =>
      t = { s with tt := { s.tt with requests := [{ page := x.page, flow := x.flow, guard_ := msgGuard s x }] } })) ∧
    (ttEn s = true → s.tt.slots = [] → refDev x.flow = devId s → Completes (.runAheadCancelRx x lk) s (fun t =>
      t = { s with tt := { s.tt with requests := s.tt.requests.filter (fun y => !(y.page == x.page && y.flow == x.flow)) } })) ∧
    (s.tt.requests = [w] → Completes (.runAheadRequestExpiry w.page) s (fun t =>
      t = { s with tim := { s.tim with now := max s.tim.now (w.guard_ + 1) }, tt := { s.tt with requests := [] } })) ∧
    (s.tt.requests = [] → Completes (.runAheadRequestExpiry id) s (fun t => t = s))

/-- PAGE_ACTIVATION, CROSSPOINT_LATCH, XP_DIRECT, XP_READ, PLATFORM_SET and the sparing of a cell-memory row
(spec/04_timetable_switching.md: The crosspoint table, spec/04_timetable_switching.md: Direct writes and readback,
spec/04_timetable_switching.md: Cell-memory rows). Where the spec leaves a point open it states the model's choice: log
entries 4, 11, 42, 82, 132, 133 and 140. -/
def Obligations.CrosspointsLatchAndAreWritten : Prop :=
  ∀ (c : Cmd) (s : State) (n m id w v src sel first count a fl d bank row dom fi fr : Nat) (q : Page) (f : Flow) (x : XpWord) (l : XpLive) (r : RowSpare), Clear s → q = page s n → m ≠ n → v ≠ w → x = xp s w → l = latched s w →
    (pageSlot s id = some n → q.part = true → q.pst = .committed → q.changes = [.word w true src] → Completes (.pageActivation id) s (fun t =>
      (page t n).pst = .applying ∧ (page t n).unlatched = [w] ∧ t.tim.now = max s.tim.now (pageT s q) ∧ (xp t w).sel = true ∧ (xp t w).src = src ∧
        (xp t w).pend = true ∧ (xp t w).mgmt = false ∧ (xp t w).page = n ∧ xp t v = xp s v ∧ page t m = page s m ∧ t.swc.live = s.swc.live ∧
        t = { s with tim := { s.tim with now := t.tim.now }, tt := t.tt, swc := { s.swc with xp := t.swc.xp }, flt := t.flt, red := { s.red with jseq := t.red.jseq, jout := t.red.jout } })) ∧
    (pageSlot s id = some n → q.part = true → q.pst = .committed → q.changes = [] → Completes (.pageActivation id) s (fun t =>
      (page t n).pst = .applied ∧ t.tim.now = max s.tim.now (pageT s q) ∧ Raised 0x040 [(4, q.id), (4, ts32 t.tim.now)] 0 s t ∧ page t m = page s m ∧ t.swc = s.swc)) ∧
    (pageSlot s id = some n → q.pst ≠ .committed → Completes (.pageActivation id) s (fun t => t = s)) ∧
    (w < 1024 → flow? s (wordFlow w) = some f → domEn s f.domain = true → x.bad = false → x.direct = [] → fr = latchFrame s w f.domain → Completes (.crosspointLatch w false) s (fun t =>
      (latched t w).sel = x.sel ∧ (latched t w).src = x.src ∧ (latched t w).fi = fr ∧ (latched t w).kept = false ∧
        t.tim.now = max s.tim.now (tOf s f.domain fr + takeOffset f) ∧ xp t w = { x with pend := false } ∧ xp t v = xp s v ∧ latched t v = latched s v ∧
        t = { s with tim := { s.tim with now := t.tim.now }, tt := t.tt, swc := { s.swc with xp := t.swc.xp, live := t.swc.live }, flt := t.flt, red := { s.red with jseq := t.red.jseq, jout := t.red.jout } })) ∧
    (w < 1024 → flow? s (wordFlow w) = some f → domEn s f.domain = true → x.bad = false → x.direct = [(id, src)] → Completes (.crosspointLatch w false) s (fun t =>
      Final 0x045 id t ∧ Raised 0x045 [(2, w), (2, src)] 0 s t ∧ (xp t w).direct = [])) ∧
    (w < 1024 → flow? s (wordFlow w) = some f → domEn s f.domain = true → x.direct = [] → Completes (.crosspointLatch w true) s (fun t =>
      (latched t w).sel = l.sel ∧ (latched t w).src = l.src ∧ (latched t w).kept = true ∧ Raised 0x044 [(2, w)] 0 s t ∧ xp t v = xp s v)) ∧
    (flow? s (wordFlow w) = none → Completes (.crosspointLatch w false) s (fun t => t = s)) ∧
    (w ≤ 9215 → wordNameable s w = true → sel ≤ 1 → ttEn s = true → inDestConsist s (wordFlow w) = false →
      (if sel = 0 then src = 0 else flowNumOk src = true ∧ (nsOf src = 0 ∨ nsOf src = 2) ∧ selOk s w (normFlow src) = true ∧ slotsClosed s (normFlow src) = false) →
      changesFit s (flowD s (wordFlow w)).domain (fiNow s (flowD s (wordFlow w)).domain + 1) [directChange w sel src] = true →
      (x.ttAt ≠ some s.tim.now → x.pend = false → wordNamed s w = false → Completes (.xpDirect c w sel src) s (fun t => Replied c 0x0210 1 0 0 t ∧
        (xp t w).sel = (sel == 1) ∧ (xp t w).src = (if sel = 1 then normFlow src else 0) ∧ (xp t w).mgmt = true ∧
        (xp t w).direct = x.direct ++ [(c.tag, if sel = 1 then normFlow src else 0)] ∧ xp t v = xp s v ∧
        t = { s with swc := { s.swc with xp := t.swc.xp }, hif := t.hif, flt := t.flt, wire := t.wire, red := { s.red with jseq := t.red.jseq, jout := t.red.jout } })) ∧
      (x.ttAt ≠ some s.tim.now → x.pend = true → Completes (.xpDirect c w sel src) s (fun t => Replied c 0x0210 0x20 0 0 t ∧
        t.swc = { s.swc with xpCollision := satAdd 16 s.swc.xpCollision 1 } ∧ RaisedOnce 0x043 s t ∧ t = { s with swc := t.swc, hif := t.hif, flt := t.flt, wire := t.wire }))) ∧
    (9215 < w → Completes (.xpDirect c w sel src) s (Fails c 0x0210 0x11 (argAt c 24 s) s)) ∧
    (first + count ≤ 9216 → 0 < count → first ≤ 9215 → c.hostOk = true → Completes (.xpRead c first count a) s (EndsDone c 0x0211 0 (hostWrite a
      ((List.range count).flatMap (fun i => leBytes 4 (xpWordBits (xp s (first + i))) ++ leBytes 4 (xpLiveBits (latched s (first + i))))) s))) ∧
    (9216 < first + count → first ≤ 9215 → Completes (.xpRead c first count a) s (Fails c 0x0211 0x11 (argAt c 26 s) s)) ∧
    (nsOf fl = 1 → flow? s (normFlow fl) = some f → f.essence = 0 → 2 ≤ d → d ≤ 8 →
      (active f = false → Completes (.platformSet c fl d) s (fun t => Replied c 0x0220 0 0 0 t ∧ flowD t (normFlow fl) = { f with depth := d } ∧
        t = { s with flows := tput s.flows (normFlow fl) { f with depth := d }, hif := t.hif, flt := t.flt, wire := t.wire, red := { s.red with jseq := t.red.jseq, jout := t.red.jout } })) ∧
      (active f = true → Completes (.platformSet c fl d) s (Fails c 0x0220 0x20 0 s))) ∧
    (bank ≤ 95 → row ≤ 255 → dom ≤ 7 → domEn s dom = true → s.swc.rows.any (fun y => y.bank == bank && y.row == row) = false →
      (s.swc.rows.filter (fun y => y.bank == bank)).length < 8 → s.tim.now + framesNs s dom 2 ≤ tOf s dom (fullFi s dom fi) →
      Completes (.cellRowSpare c bank row dom fi) s (EndsAccepted c 0x0230 { s with swc := { s.swc with rows := s.swc.rows ++ [{ bank := bank, row := row, spare := (s.swc.rows.filter (fun y => y.bank == bank)).length, dom := dom, fi := fullFi s dom fi, tag := c.tag }] } })) ∧
    (bank ≤ 95 → row ≤ 255 → dom ≤ 7 → domEn s dom = true → s.swc.rows.any (fun y => y.bank == bank && y.row == row) = true →
      Completes (.cellRowSpare c bank row dom fi) s (Fails c 0x0230 0x20 0 s)) ∧
    (s.swc.rows = [r] → Completes (.cellRowCopyDone r.bank r.row) s (fun t => t = { s with swc := { s.swc with rows := [{ r with copied := true }] } })) ∧
    (s.swc.rows = [r] → r.copied = true → r.swapped = false → Completes (.cellRowSpareSwap r.bank r.row) s (fun t =>
      t.swc.rows = [{ r with swapped := true }] ∧ t.tim.now = max s.tim.now (namedFrame s r.dom r.fi) ∧ Final 0x048 r.tag t ∧
        Raised 0x048 [(4, locCode 0 5 r.bank (256 + r.spare) 0xFF)] 0 s t ∧
        t = { s with tim := { s.tim with now := t.tim.now }, swc := { s.swc with rows := t.swc.rows }, flt := t.flt })) ∧
    (s.swc.rows = [] → Completes (.cellRowSpareSwap bank row) s (fun t => t = s))

/-- How a fabric link starts, greets, takes time, comes up, rests, is lost and stops, and what its notices do
(spec/05_aiquel_fabric.md: Link states, spec/05_aiquel_fabric.md: Link time transfer, spec/05_aiquel_fabric.md: Control
cells). Where the spec leaves a point open it states the model's choice: log entries 4, 11, 48, 49, 50 and 143. -/
def Obligations.LinksComeUpAndGoDown : Prop :=
  ∀ (c : Cmd) (s : State) (n m k : Nat) (l : Link) (h : Hello) (x : TimeMsg) (y : Notice) (fl : List Int), Clear s → m ≠ n → m ≤ 143 → l = link s n → l.start.length ≤ 1 →
    bit (rd s .fltSrcCfg 0x080) 27 = false → bit (rd s .fltSrcCfg 0x0C2) 27 = false → bit (rd s .fltSrcCfg 0x081) 27 = false → bit (rd s .fltSrcCfg 0x085) 27 = false → bit (rd s .fltSrcCfg 0x0C7) 27 = false →
    (n ≤ 143 → laneUse s n = 2 → bit (rd s .aqfDevCfg 0) 31 = true → l.st = .down → laneSt s n ≠ .prbs →
      Completes (.linkStart c n) s (fun t => Replied c 0x0301 1 0 0 t ∧ (link t n).started = true ∧ (link t n).start = l.start ++ [c.tag] ∧
        (link t n).st = (if (lane s n).st = .trained then .framing else .down) ∧ ((lane s n).st ≠ .trained → (lane t n).st = .base ∧ (lane t n).rate = 5) ∧
        t.aqf.boot.isSome = true ∧ (link t m).st = (link s m).st ∧ t.tim.now = (if quadGated s (n / 4) then s.tim.now + 200000 else s.tim.now) ∧
        t = { s with tim := { s.tim with now := t.tim.now }, aqf := t.aqf, lnx := t.lnx, hif := t.hif, flt := t.flt, wire := t.wire })) ∧
    (n ≤ 143 → laneUse s n ≠ 2 ∨ bit (rd s .aqfDevCfg 0) 31 = false ∨ l.st ≠ .down → Completes (.linkStart c n) s (Fails c 0x0301 0x20 0 s)) ∧
    (n ≤ 143 → l.mask = [] → l.started = true → l.st = .up → Completes (.linkStop c n) s (fun t => Replied c 0x0302 0 0 0 t ∧ (link t n).st = .down ∧
      (link t n).started = false ∧ RaisedOnce 0x081 s t ∧ (link t m).st = (link s m).st ∧
      t = { s with aqf := t.aqf, lnx := t.lnx, tim := t.tim, hif := t.hif, flt := t.flt, wire := t.wire } ∧ t.tim.now = s.tim.now)) ∧
    (n ≤ 143 → l.mask = [] → l.started = false → Completes (.linkStop c n) s (EndsDone c 0x0302 0 s)) ∧
    (n ≤ 143 → l.mask ≠ [] → Completes (.linkStop c n) s (Fails c 0x0302 0x20 0 s)) ∧
    (143 < n → Completes (.linkStop c n) s (Fails c 0x0302 0x11 (argAt c 24 s) s) ∧ Completes (.linkStart c n) s (Fails c 0x0301 0x11 (argAt c 24 s) s)) ∧
    (l.st = .up → l.ctrlQ.length < 256 → Completes (.helloSend n) s (fun t =>
      (link t n).ctrlQ = l.ctrlQ ++ [{ src := devId s, ctype := 1, seq := s.aqf.ctrlSeq, msg := helloBytes s n false }] ∧ link t m = link s m ∧
        t.tim.now = max s.tim.now (nextOf 1310720 (lastOf (.hello n) s)) ∧ lastOf (.hello n) t = t.tim.now ∧
        t = { s with aqf := t.aqf, tim := { s.tim with now := t.tim.now, lastAt := t.tim.lastAt } })) ∧
    (l.st = .down → Completes (.helloSend n) s (fun t => t = s) ∧ Completes (.helloRx n h) s (fun t => t = s) ∧ Completes (.timeRx n x) s (fun t => t = s)) ∧
    (l.st = .hello → identityOk s n h = true → Completes (.helloRx n h) s (fun t =>
      (link t n).st = .timing ∧ (link t n).peer = h.dev ∧ (link t n).peerLink = h.link ∧ (link t n).peerUid = h.uid ∧ (link t n).exchanges = 0 ∧ link t m = link s m ∧
        t = { s with aqf := t.aqf })) ∧
    (l.st = .hello → identityOk s n h = false → Completes (.helloRx n h) s (fun t =>
      (link t n).st = .held ∧ Raised 0x085 [(1, n), (2, h.dev)] 0 s t ∧ (l.start = [k] → Final 0x085 k t) ∧ link t m = link s m ∧
        t = { s with aqf := t.aqf, flt := t.flt })) ∧
    (l.st = .timing ∨ l.st = .up → exchangeDone l x = false → Completes (.timeRx n x) s (fun t =>
      link t n = { l with timeAt := x.arrived, timeCycle := x.cycle, timeStamp := x.stamp, peerMode := x.mode, peerHops := x.hops } ∧
        link t m = link s m ∧ t = { s with aqf := t.aqf })) ∧
    (n ≤ 143 → l.st = .timing → l.timeAt ≠ 0 → x.stamp ≠ 0 → x.cycle = l.timeCycle + 1 → x.stamp ≠ l.timeStamp →
      fl = (((((x.stamp : Int) - (((x.cycle - 1) * 81920 : Nat) : Int)) + ((l.timeAt : Int) - (((x.cycle - 1) * 81920 : Nat) : Int))) / 2 +
        toSigned 16 (fld s .aqfLinkAsym n 15 0) / 2 - Config.pcsDelay) :: l.flights).take 64 →
      (l.exchanges + 1 < 64 → Completes (.timeRx n x) s (fun t => (link t n).st = .timing ∧ (link t n).exchanges = l.exchanges + 1 ∧ (link t n).flights = fl ∧
        (link t n).flight = fl.sum / (fl.length : Int) ∧ link t m = link s m ∧ t = { s with aqf := t.aqf })) ∧
      (64 ≤ l.exchanges + 1 → steady (fl.take 16) = true → Completes (.timeRx n x) s (fun t => (link t n).st = .up ∧ (link t n).start = [] ∧
        Raised 0x080 [(1, n), (2, l.peer)] 0 s t ∧ (l.start = [k] → Final 0x080 k t) ∧ (link t m).st = (link s m).st ∧
        t = { s with aqf := t.aqf, tim := { s.tim with cands := t.tim.cands }, flt := t.flt }))) ∧
    (l.st = .up → Completes (.helloLoss n) s (fun t => (link t n).st = .down ∧ (lane t n).st = .base ∧ t.tim.now = max s.tim.now (l.helloAt + 3932160) ∧
      RaisedOnce 0x081 s t ∧ (link t m).st = (link s m).st ∧
      t = { s with aqf := t.aqf, lnx := t.lnx, tim := t.tim, flt := t.flt, wire := t.wire })) ∧
    (l.st ≠ .up → Completes (.helloLoss n) s (fun t => t = s) ∧ Completes (.creditRx n k) s (fun t => t = s)) ∧
    (l.st = .quiet → Completes (.quietRefreshLoss n) s (fun t => (link t n).st = .down ∧ (lane t n).st = .base ∧ t.tim.now = max s.tim.now (l.refreshAt + 3000000) ∧
        RaisedOnce 0x081 s t ∧ RaisedOnce 0x0C2 s t ∧ (link t m).st = (link s m).st ∧
        t = { s with aqf := t.aqf, lnx := t.lnx, tim := t.tim, flt := t.flt, wire := t.wire }) ∧
      Completes (.quietWake n) s (fun t => (link t n).st = .up ∧ (link t m).st = (link s m).st ∧ t = { s with aqf := t.aqf, flt := t.flt }) ∧
      Completes (.lpiRefresh n) s (fun t => t.tim.now = max s.tim.now (nextOf 1000000 (lastOf (.refresh n) s)) ∧ lastOf (.refresh n) t = t.tim.now ∧
        t = { s with wire := s.wire ++ [.refresh n], tim := { s.tim with now := t.tim.now, lastAt := t.tim.lastAt } })) ∧
    (l.st ≠ .quiet → Completes (.quietRefreshLoss n) s (fun t => t = s) ∧ Completes (.quietWake n) s (fun t => t = s) ∧ Completes (.lpiRefresh n) s (fun t => t = s)) ∧
    (l.st = .up → Completes (.creditRx n k) s (fun t => link t n = { l with credits := l.credits + k, needCredit := false } ∧ link t m = link s m ∧ t = { s with aqf := t.aqf })) ∧
    (y.uid ≠ s.sec.uid → s.aqf.reporters = [] → Completes (.linkNoticeRx y n) s (fun t =>
      t.aqf.reporters = [{ uid := y.uid, dev := y.dev, boot := y.boot, nseq := y.nseq, role := y.role }] ∧
        t.aqf.reports.head? = some { uid := y.uid, dev := y.dev, link := y.link, st := y.st, peer := y.peer, peerLink := y.peerLink } ∧
        Raised 0x08D [(2, y.dev), (1, y.link), (1, y.st)] 0 s t ∧ t = { s with aqf := t.aqf, flt := t.flt })) ∧
    (y.uid = s.sec.uid → Completes (.linkNoticeRx y n) s (fun t => t = s))

/-- LINK_READ, CTRL_ROUTE_SET, FWD_SET, MSG_SEND, PLAN_LOAD, PLAN_SWAP and PLAN_READ (spec/05_aiquel_fabric.md: Commands and
events, spec/05_aiquel_fabric.md: Slot plans, spec/05_aiquel_fabric.md: Unscheduled traffic). Where the spec leaves a point
open it states the model's choice: log entries 11, 45 and 57. -/
def Obligations.FabricTablesAndMessages : Prop :=
  ∀ (c : Cmd) (s u : State) (first count n dest cls len a bank cyc d : Nat) (img : List Byte) (ls : List Nat) (b : PlanBank), Clear s → u = place a img s →
    (first ≤ 143 → 0 < count → first + count ≤ 144 → c.hostOk = true → Completes (.linkRead c first count a) s (EndsDone c 0x0303 0
      (hostWrite a ((List.range count).flatMap (fun i => linkRecord s (first + i))) s))) ∧
    (143 < first → Completes (.linkRead c first count a) s (Fails c 0x0303 0x11 (argAt c 24 s) s)) ∧
    (dest ≤ 1023 → c.hostOk = true → (List.range 4).all (fun i => decide (fieldAt (hostBytes u (a + 64 * i) 64) 0 1 ≤ 15) &&
        ctrlRouteOk u dest (parseCtrlRoute (hostBytes u (a + 64 * i) 64))) = true → Completes (.ctrlRouteSet c dest a img) s (fun t => Replied c 0x0330 0 0 0 t ∧
        ctrlRoutes t dest = ((List.range 4).map (fun i => parseCtrlRoute (hostBytes u (a + 64 * i) 64))).filter (fun r => !r.isEmpty) ∧
        (n ≠ dest → ctrlRoutes t n = ctrlRoutes s n) ∧
        t = { s with aqf := { s.aqf with ctrlRoutes := t.aqf.ctrlRoutes }, hif := t.hif, flt := t.flt, wire := t.wire, red := { s.red with jseq := t.red.jseq, jout := t.red.jout } })) ∧
    (1023 < dest → Completes (.ctrlRouteSet c dest a img) s (Fails c 0x0330 0x11 (argAt c 24 s) u) ∧ Completes (.msgSend c dest cls len a img) s (Fails c 0x0340 0x11 (argAt c 24 s) u)) ∧
    (first + count ≤ 1024 → 0 < count → c.hostOk = true → (List.range count).all (fun i => fwdOk (parseFwd (fieldAt (hostBytes u (a + 4 * i) 4) 0 4))) = true →
      Completes (.fwdSet c first count a img) s (fun t => Replied c 0x0331 0 0 0 t ∧
        (n < count → tgetD t.aqf.fwd (first + n) {} = parseFwd (fieldAt (hostBytes u (a + 4 * n) 4) 0 4)) ∧
        (n < first ∨ first + count ≤ n → tget? t.aqf.fwd n = tget? s.aqf.fwd n) ∧
        t = { s with aqf := { s.aqf with fwd := t.aqf.fwd }, hif := t.hif, flt := t.flt, wire := t.wire, red := { s.red with jseq := t.red.jseq, jout := t.red.jout } })) ∧
    (dest ≤ 1023 → cls ≤ 29 → 0 < len → len ≤ 240 → c.hostOk = true → localRoom s dest cls = true → Completes (.msgSend c dest cls len a img) s (fun t =>
      Replied c 0x0340 0 0 0 t ∧
        voq t dest cls = voq s dest cls ++ [{ dest := dest, src := devId s, cls := cls, ttl := 15, len := len, seq := tgetD s.aqf.seqTx (32 * dest + cls) 0, data := hostBytes u a len }] ∧
        tgetD t.aqf.seqTx (32 * dest + cls) 0 = (tgetD s.aqf.seqTx (32 * dest + cls) 0 + 1) % 512 ∧
        t = { s with aqf := { s.aqf with voqs := t.aqf.voqs, seqTx := t.aqf.seqTx }, hif := t.hif, flt := t.flt, wire := t.wire })) ∧
    (dest ≤ 1023 → cls ≤ 29 → 0 < len → len ≤ 240 → c.hostOk = true → localRoom s dest cls = false → Completes (.msgSend c dest cls len a img) s (Fails c 0x0340 0x12 0 u)) ∧
    (n ≤ 143 → c.hostOk = true → swapPending s n = false → b = planBank (hostBytes u a 32768) → (tgetD b.tx 0 {}).kind = 1 → controlOk b.tx = true →
      labelClash b.tx = none → labelClash b.rx = none → badRef u 1 b.tx = none → badRef u 0 b.rx = none → overLabel b.tx = none → overLabel b.rx = none →
      badChange u n b.tx = none → transitFits (loadShadow n b u) = true → Completes (.planLoad c n a img) s (fun t => Replied c 0x0310 0 0 0 t ∧
        bankOf (link t n) (if (link s n).active = 0 then 1 else 0) = b ∧ (link t n).active = (link s n).active ∧
        bankOf (link t n) (if (link s n).active = 0 then 0 else 1) = bankOf (link s n) (if (link s n).active = 0 then 0 else 1) ∧ (d ≠ n → link t d = link s d) ∧
        t = { s with aqf := { s.aqf with links := t.aqf.links }, hif := t.hif, flt := t.flt, wire := t.wire, red := { s.red with jseq := t.red.jseq, jout := t.red.jout } })) ∧
    (n ≤ 143 → c.hostOk = true → swapPending s n = true → Completes (.planLoad c n a img) s (Fails c 0x0310 0x20 0 u)) ∧
    (n ≤ 143 → c.hostOk = true → swapPending s n = false → b = planBank (hostBytes u a 32768) → (tgetD b.tx 0 {}).kind ≠ 1 → Completes (.planLoad c n a img) s (Fails c 0x0310 0x13 a u)) ∧
    (d = (cyc % 2 ^ 32 + 2 ^ 32 - cycleNow s % 2 ^ 32) % 2 ^ 32 → c.hostOk = true → ls = maskLinks (hostBytes u a 32) →
      (2 ≤ d → d ≤ 2 ^ 24 → ls ≠ [] → ls.all (fun k => decide (k ≤ 143) && (shadowBank (link s k)).ok && !swapPending s k) = true → Completes (.planSwap c cyc a img) s
        (EndsAccepted c 0x0311 { u with aqf := { s.aqf with swaps := s.aqf.swaps ++ [{ cycle := cycleNow s + d, links := ls, tag := c.tag }] } })) ∧
      (d < 2 → Completes (.planSwap c cyc a img) s (Fails c 0x0311 0x31 0 u)) ∧
      (2 ^ 24 < d → d < 2 ^ 31 → Completes (.planSwap c cyc a img) s (Fails c 0x0311 0x11 (argAt c 24 s) u))) ∧
    (n ≤ 143 → bank ≤ 1 → c.hostOk = true → Completes (.planRead c n bank a) s (EndsDone c 0x0312 0 (hostWrite a (bankBytes (bankOf (link s n) bank)) s))) ∧
    (n ≤ 143 → 1 < bank → Completes (.planRead c n bank a) s (Fails c 0x0312 0x11 (argAt c 25 s) s))

/-- ROUTE_DEFINE, ROUTE_DELETE, ROUTE_STATUS and ROUTE_VERIFY, and how a verification goes on and ends (spec/05_aiquel_fabric.md:
Routes). Where the spec leaves a point open it states the model's choice: log entries 4, 11 and 56. -/
def Obligations.RoutesAreDefinedAndVerified : Prop :=
  ∀ (c : Cmd) (s u : State) (a fd k lk i tag t0 why : Nat) (img : List Byte) (h : List Hop) (r : Route) (m : RouteMsg) (x : Nat × Nat), Clear s → u = place a img s → k ≠ fd →
    (c.hostOk = true → refNs (fieldAt (hostBytes u a 4) 0 4) = 1 → refNs (fieldAt (hostBytes u (a + 4) 4) 0 4) = 0 → h = recordHops u a → h ≠ [] → h.length ≤ 15 →
      badHop (fieldAt (hostBytes u a 4) 0 4) h = none → (h.any (fun y => y.dev == devId s) = true ∨ refDev (fieldAt (hostBytes u (a + 4) 4) 0 4) = devId s) →
      fd = flowRef 1 (refDev (fieldAt (hostBytes u a 4) 0 4)) (refIx (fieldAt (hostBytes u a 4) 0 4)) →
      (route? s fd = none → s.aqf.routes.length < 2048 → Completes (.routeDefine c a img) s (fun t => Replied c 0x0320 0 0 0 t ∧
        route? t fd = some { dest := flowRef 0 (refDev (fieldAt (hostBytes u (a + 4) 4) 0 4)) (refIx (fieldAt (hostBytes u (a + 4) 4) 0 4)), hops := h } ∧
        route? t k = route? s k ∧
        t = { s with aqf := { s.aqf with routes := t.aqf.routes }, hif := t.hif, flt := t.flt, wire := t.wire, red := { s.red with jseq := t.red.jseq, jout := t.red.jout } })) ∧
      ((route? s fd).isSome = true → Completes (.routeDefine c a img) s (Fails c 0x0320 0x20 0 u))) ∧
    (c.hostOk = true → refNs (fieldAt (hostBytes u a 4) 0 4) ≠ 1 → Completes (.routeDefine c a img) s (Fails c 0x0320 0x11 a u)) ∧
    (route? s fd = some r → routeInUse s r = false → Completes (.routeDelete c fd) s (fun t => Replied c 0x0321 0 0 0 t ∧ route? t fd = none ∧ route? t k = route? s k ∧
      t = { s with aqf := { s.aqf with routes := t.aqf.routes }, hif := t.hif, flt := t.flt, wire := t.wire, red := { s.red with jseq := t.red.jseq, jout := t.red.jout } })) ∧
    (route? s fd = some r → routeInUse s r = true → Completes (.routeDelete c fd) s (Fails c 0x0321 0x20 0 s)) ∧
    (route? s fd = none → Completes (.routeDelete c fd) s (Fails c 0x0321 0x11 (argAt c 24 s) s) ∧ Completes (.routeStatus c fd a) s (Fails c 0x0323 0x11 (argAt c 24 s) s) ∧
      Completes (.routeVerify c fd) s (Fails c 0x0322 0x11 (argAt c 24 s) s)) ∧
    (route? s fd = some r → c.hostOk = true → Completes (.routeStatus c fd a) s (EndsDone c 0x0323 0 (hostWrite a (routeStatus fd r) s))) ∧
    (route? s fd = some r → refDev fd = devId s → r.st ≠ .verifying → c.cplOk = true →
      (feederReason s fd r = some why → Completes (.routeVerify c fd) s (fun t => Replied c 0x0322 1 0 0 t ∧ ((route? t fd).getD {}).st = .refused ∧
        ((route? t fd).getD {}).reason = why ∧ Final 0x08A c.tag t ∧ Raised 0x08A [(4, fd), (1, why), (1, 0)] 0 s t ∧ route? t k = route? s k)) ∧
      (feederReason s fd r = none → Completes (.routeVerify c fd) s (fun t => Replied c 0x0322 1 0 0 t ∧ ((route? t fd).getD {}).st = .verifying ∧
        ((route? t fd).getD {}).verify = some (c.tag, s.tim.now) ∧ route? t k = route? s k ∧
        t = { s with aqf := t.aqf, hif := t.hif, flt := t.flt, wire := t.wire, red := { s.red with jseq := t.red.jseq, jout := t.red.jout } }))) ∧
    (route? s fd = some r → (refDev fd ≠ devId s ∨ r.st = .verifying) → Completes (.routeVerify c fd) s (Fails c 0x0322 0x20 0 s)) ∧
    (m.feeder = fd → route? s fd = some r → i = m.hop → i + 1 < r.hops.length →
      (transitCheck s i r m = .inr x → Completes (.routeCheckRx lk m) s (fun t => ((route? t fd).getD {}).st = .verifying ∧ ((route? t fd).getD {}).b = m.b + x.1 ∧
        ((route? t fd).getD {}).reserve = transitReserve m.n x.1 ∧ ((route? t fd).getD {}).tentative = some (s.tim.now + 20000000) ∧ route? t k = route? s k ∧
        t = { s with aqf := t.aqf, flt := t.flt, red := { s.red with jseq := t.red.jseq, jout := t.red.jout } })) ∧
      (transitCheck s i r m = .inl why → Completes (.routeCheckRx lk m) s (fun t => ((route? t fd).getD {}).st = .refused ∧ ((route? t fd).getD {}).reason = why ∧
        ((route? t fd).getD {}).refHop = i + 1 ∧ ((route? t fd).getD {}).reserve = 0 ∧ route? t k = route? s k ∧
        t = { s with aqf := t.aqf, flt := t.flt, red := { s.red with jseq := t.red.jseq, jout := t.red.jout } }))) ∧
    (m.feeder = fd → route? s fd = some r → i = m.hop → r.hops.length ≤ i + 1 →
      destReason s i r m (m.b + (600 + (link s ((r.hops.getD i {}).rx)).flight).toNat) = none → Completes (.routeCheckRx lk m) s (fun t =>
        ((route? t fd).getD {}).st = .verified ∧ ((route? t fd).getD {}).b = m.b + (600 + (link s ((r.hops.getD i {}).rx)).flight).toNat ∧
        ((route? t fd).getD {}).verifyTs = ts32 s.tim.now ∧ route? t k = route? s k ∧
        t = { s with aqf := t.aqf, flt := t.flt, red := { s.red with jseq := t.red.jseq, jout := t.red.jout } })) ∧
    (m.feeder = fd → route? s fd = none → Completes (.routeCheckRx lk m) s (fun t => t = discard lk s) ∧ Completes (.routeResultRx lk m) s (fun t => t = discard lk s)) ∧
    (m.feeder = fd → route? s fd = some r → refDev fd = devId s → r.verify = some (tag, t0) →
      (m.essence = 0 → Completes (.routeResultRx lk m) s (fun t => ((route? t fd).getD {}).st = .verified ∧ ((route? t fd).getD {}).verify = none ∧ ((route? t fd).getD {}).b = m.b ∧
        Final 0x089 tag t ∧ Raised 0x089 [(4, fd), (4, m.b)] 0 s t ∧ route? t k = route? s k)) ∧
      (m.essence ≠ 0 → Completes (.routeResultRx lk m) s (fun t => ((route? t fd).getD {}).st = .refused ∧ ((route? t fd).getD {}).verify = none ∧
        Final 0x08A tag t ∧ Raised 0x08A [(4, fd), (1, m.format % 256), (1, m.format / 256)] 0 s t ∧ route? t k = route? s k))) ∧
    (route? s fd = some r → r.verify = some (tag, t0) → Completes (.routeVerifyTimeout fd) s (fun t => ((route? t fd).getD {}).st = .refused ∧ ((route? t fd).getD {}).reason = 8 ∧
      t.tim.now = max s.tim.now (t0 + 10000000) ∧ Final 0x08A tag t ∧ route? t k = route? s k)) ∧
    (route? s fd = some r → r.verify = none → Completes (.routeVerifyTimeout fd) s (fun t => t = s)) ∧
    (route? s fd = some r → r.tentative = some t0 → Completes (.routeReservationExpiry fd) s (fun t =>
      route? t fd = some { r with st := .defined, reserve := 0, tentative := none } ∧ t.tim.now = max s.tim.now t0 ∧ route? t k = route? s k)) ∧
    (route? s fd = some r → r.tentative = none → Completes (.routeReservationExpiry fd) s (fun t => t = s))

/-- PROC_SET, PROC_PARAM_LOAD, PROC_READ and LAYER_STATUS (spec/09_irkai_array.md: Defining a processed flow,
spec/09_irkai_array.md: Parameter sets, spec/09_irkai_array.md: Commands and events, spec/10_composition.md: Commands and
events). Where the spec leaves a point open it states the model's choice: log entries 11, 43, 44 and 69. -/
def Obligations.FunctionsAreDescribedLoadedAndRead : Prop :=
  ∀ (c : Cmd) (s u : State) (a pf n ix k m o : Nat) (img d b : List Byte) (f : Flow) (p q : Proc) (r : Reply), Clear s → u = place a img s → q = proc s ix →
    (c.hostOk = true → d = hostBytes u a 256 → n = normFlow (fieldAt d 0 2) → nsOf n = 2 → flowNumOk (fieldAt d 0 2) = true → flow? s n = some f → ix = ixOf n →
      p = { desc := d, addr := a } →
      (firstErr (procChecks u a p f) = none → Completes (.procSet c a img) s (fun t => Replied c 0x0401 0 0 0 t ∧
        proc t ix = { p with sets := if pFunc p = pFunc q then q.sets else [], inForce := pInitSet p, lambda := lambdaOf p f, window := windowSize p, delay := fixedDelay p f, cycles := (procCost u p f).cycles, lineMem := (procCost u p f).lineMem, bw := (procCost u p f).bw, cap := (procCost u p f).cap } ∧
        (m ≠ ix → proc t m = proc s m) ∧ t.tim.now = (if hbmGated s && !hbmGated t then s.tim.now + 1000000 else s.tim.now) ∧
        t = { s with tim := { s.tim with now := t.tim.now }, ika := { s.ika with procs := t.ika.procs }, hif := t.hif, flt := t.flt, wire := t.wire, red := { s.red with jseq := t.red.jseq, jout := t.red.jout } })) ∧
      (firstErr (procChecks u a p f) = some r → 0x10 ≤ r.st → Completes (.procSet c a img) s (fun t => SameBlock u t ∧ Replied c 0x0401 r.st r.result r.err t))) ∧
    (c.hostOk = true → flow? s (normFlow (fieldAt (hostBytes u a 256) 0 2)) = none → Completes (.procSet c a img) s (Fails c 0x0401 0x11 a u)) ∧
    (nsOf pf = 2 → flowNumOk pf = true → flow? s (normFlow pf) = some f → ix = ixOf (normFlow pf) → hasProc q = true → c.hostOk = true →
      b = hostBytes u a (setLen (pFunc q)) →
      (k ≤ 7 → setBusy q f k = false → setNamed s ix k = false → setBad q f b = none → lutFits u ix k b f = true → Completes (.procParamLoad c pf k a img) s (fun t =>
        Replied c 0x0402 0 0 0 t ∧ proc t ix = { q with sets := (proc t ix).sets } ∧ tgetD (proc t ix).sets k [] = b ∧ (m ≠ k → tget? (proc t ix).sets m = tget? q.sets m) ∧
        (m ≠ ix → proc t m = proc s m) ∧ t = { s with ika := { s.ika with procs := t.ika.procs }, hif := t.hif, flt := t.flt, wire := t.wire, red := { s.red with jseq := t.red.jseq, jout := t.red.jout } })) ∧
      (7 < k → Completes (.procParamLoad c pf k a img) s (Fails c 0x0402 0x11 (argAt c 26 s) u)) ∧
      (k ≤ 7 → (setBusy q f k = true ∨ setNamed s ix k = true) → Completes (.procParamLoad c pf k a img) s (Fails c 0x0402 0x20 0 u)) ∧
      (k ≤ 7 → setBusy q f k = false → setNamed s ix k = false → setBad q f b = some o → Completes (.procParamLoad c pf k a img) s (Fails c 0x0402 0x11 (a + o) u))) ∧
    (nsOf pf = 2 → flowNumOk pf = true → flow? s (normFlow pf) = some f → q = proc s (ixOf pf) → hasProc q = true → c.hostOk = true →
      Completes (.procRead c pf a) s (EndsDone c 0x0403 0 (hostWrite a (procRecord s (ixOf pf)) s)) ∧
      (pFunc q = 4 → Completes (.layerStatus c pf a) s (EndsDone c 0x0420 0 (hostWrite a ((List.range 16).flatMap (layerBytes q)) s))) ∧
      (pFunc q ≠ 4 → Completes (.layerStatus c pf a) s (Fails c 0x0420 0x11 (argAt c 24 s) s))) ∧
    (nsOf pf = 2 → flowNumOk pf = true → flow? s (normFlow pf) = none → Completes (.procRead c pf a) s (Fails c 0x0403 0x11 (argAt c 24 s) s) ∧
      Completes (.procParamLoad c pf k a img) s (Fails c 0x0402 0x11 (argAt c 24 s) u) ∧ Completes (.layerStatus c pf a) s (Fails c 0x0420 0x11 (argAt c 24 s) s))

/-- Audit ticks and third opinions, ENGINE_SPARE and its swap, and the release of a tile reset (spec/09_irkai_array.md: Audits,
spec/09_irkai_array.md: Engine sparing, spec/09_irkai_array.md: Commands and events). Where the spec leaves a point open it
states the model's choice: log entries 11, 72 and 163. -/
def Obligations.AuditsAndSparesOfClassrooms : Prop :=
  ∀ (c : Cmd) (s : State) (rm m slot dom fi crc v until_ : Nat) (y : AuditItem) (r : Classroom) (o : Opinion) (w : EngineSwap), Clear s → m ≠ rm → r = room s rm →
    bit (rd s .fltSrcCfg 0x125) 27 = false →
    (auditsRun s = true → roomEn s rm = true → (auditorOf r).isSome = true → r.opinion = none →
      (r.sampled = none → Completes (.engineAuditTick rm crc) s (fun t =>
        room t rm = { r with auditNext := (r.auditNext + 1) % 32, auditAt := t.tim.now, idle := r.idle + 1 } ∧ t.tim.now = max s.tim.now (auditTick s r.auditAt) ∧ room t m = room s m ∧
        t = { s with tim := { s.tim with now := t.tim.now }, ika := { s.ika with rooms := t.ika.rooms } })) ∧
      (r.sampled = some y → y.crc = crc → Completes (.engineAuditTick rm crc) s (fun t =>
        room t rm = { r with auditNext := (r.auditNext + 1) % 32, auditAt := t.tim.now, passes := satAdd 16 r.passes 1, sampled := none } ∧
        t.tim.now = max s.tim.now (auditTick s r.auditAt) ∧ room t m = room s m ∧ t = { s with tim := { s.tim with now := t.tim.now }, ika := { s.ika with rooms := t.ika.rooms } })) ∧
      (r.sampled = some y → y.crc ≠ crc → otherFree r = true → Completes (.engineAuditTick rm crc) s (fun t =>
        room t rm = { r with auditNext := (r.auditNext + 1) % 32, auditAt := t.tim.now, fails := satAdd 16 r.fails 1, sampled := none, opinion := some { slot := r.auditNext, pf := y.pf, tick := t.tim.now, crc := y.crc } } ∧
        t.tim.now = max s.tim.now (auditTick s r.auditAt) ∧ room t m = room s m ∧ t = { s with tim := { s.tim with now := t.tim.now }, ika := { s.ika with rooms := t.ika.rooms } })) ∧
      (r.sampled = some y → y.crc ≠ crc → otherFree r = false → Completes (.engineAuditTick rm crc) s (fun t =>
        room t rm = { r with auditNext := (r.auditNext + 1) % 32, auditAt := t.tim.now, fails := satAdd 16 r.fails 1, sampled := none } ∧
        Raised 0x125 [(4, tileLoc rm (tileOf r r.auditNext) 0xFF), (2, y.pf), (1, 2)] 0 s t ∧
        t.tim.now = max s.tim.now (auditTick s r.auditAt) ∧ room t m = room s m ∧
        t = { s with tim := { s.tim with now := t.tim.now }, ika := { s.ika with rooms := t.ika.rooms }, flt := t.flt }))) ∧
    (auditsRun s = false ∨ auditorOf r = none ∨ roomEn s rm = false → Completes (.engineAuditTick rm crc) s (fun t => t = s)) ∧
    (r.opinion = some o → Completes (.engineAuditThirdOpinion rm crc) s (fun t => room t rm = { r with opinion := none } ∧
      Raised 0x125 [(4, tileLoc rm (tileOf r o.slot) 0xFF), (2, o.pf), (1, if crc = o.crc then 1 else 0)] 0 s t ∧ room t m = room s m ∧
      t = { s with ika := { s.ika with rooms := t.ika.rooms }, flt := t.flt })) ∧
    (r.opinion = none → Completes (.engineAuditThirdOpinion rm crc) s (fun t => t = s)) ∧
    (rm ≤ 31 → slot ≤ 31 → dom ≤ 7 → domEn s dom = true → (spareOf r 32).st = .free → r.swap = none →
      (s.tim.now + framesNs s dom 2 ≤ tOf s dom (fullFi s dom fi) → Completes (.engineSpare c rm slot 32 dom fi) s (fun t => Replied c 0x0410 1 0 0 t ∧
        room t rm = { r with s32 := { st := .pending, slot := slot }, swap := some { slot := slot, tile := 32, dom := dom, fi := fullFi s dom fi, tag := c.tag } } ∧
        room t m = room s m ∧ t = { s with ika := { s.ika with rooms := t.ika.rooms }, hif := t.hif, flt := t.flt, wire := t.wire })) ∧
      (tOf s dom (fullFi s dom fi) < s.tim.now + framesNs s dom 2 → Completes (.engineSpare c rm slot 32 dom fi) s (Fails c 0x0410 0x31 0 s))) ∧
    (rm ≤ 31 → slot ≤ 31 → dom ≤ 7 → domEn s dom = true → (spareOf r 33).st ≠ .free → Completes (.engineSpare c rm slot 33 dom fi) s (Fails c 0x0410 0x12 0 s)) ∧
    (rm ≤ 31 → slot ≤ 31 → dom ≤ 7 → domEn s dom = true → (spareOf r 33).st = .free → r.swap.isSome = true → Completes (.engineSpare c rm slot 33 dom fi) s (Fails c 0x0410 0x20 0 s)) ∧
    (31 < rm → Completes (.engineSpare c rm slot 32 dom fi) s (Fails c 0x0410 0x11 (argAt c 24 s) s)) ∧
    (rm ≤ 31 → slot ≤ 31 → Completes (.engineSpare c rm slot 31 dom fi) s (Fails c 0x0410 0x11 (argAt c 26 s) s)) ∧
    (r.swap = none → Completes (.engineSpareSwap rm) s (fun t => t = s)) ∧
    (r.swap = some w → w.tile = 32 → Completes (.engineSpareSwap rm) s (fun t => t.tim.now = max s.tim.now (namedFrame s w.dom w.fi) ∧ (room t rm).swap = none ∧
      tileOf (room t rm) w.slot = 32 ∧ (room t rm).s32 = { st := .inService, slot := w.slot } ∧ (w.slot ≠ slot → tileOf (room t rm) slot = tileOf r slot) ∧
      (tileOf r w.slot = 33 → (room t rm).s33.st = .retired) ∧ (tileOf r w.slot ≠ 33 → (room t rm).s33 = r.s33) ∧ RaisedOnce 0x128 s t ∧
      (r.s33.st = .free → tileOf r w.slot ≠ 33 → Final 0x128 w.tag t ∧ Raised 0x128 [(1, rm), (1, w.slot), (4, tileLoc rm 32 0xFF)] 0 s t ∧ (room t rm).auditor = 1) ∧
      (tileOf r w.slot = 33 → r.suspended = false → (room t rm).suspended = true ∧ Raised 0x126 [(1, rm)] 0 s t) ∧
      room t m = room s m ∧ t = { s with tim := { s.tim with now := t.tim.now }, ika := { s.ika with rooms := t.ika.rooms }, flt := t.flt })) ∧
    (tget? s.ika.heldTiles (64 * rm + slot) = some until_ → Completes (.engineTileResetRelease rm slot) s (fun t => t.tim.now = max s.tim.now until_ ∧
      tget? t.ika.heldTiles (64 * rm + slot) = none ∧ (64 * rm + slot ≠ v → tget? t.ika.heldTiles v = tget? s.ika.heldTiles v) ∧
      t = { s with tim := { s.tim with now := t.tim.now }, ika := { s.ika with heldTiles := t.ika.heldTiles } })) ∧
    (tget? s.ika.heldTiles (64 * rm + slot) = none → Completes (.engineTileResetRelease rm slot) s (fun t => t = s))

/-- What a work item writes, and what the frame synchroniser, a layer and a recovered SRC decide (spec/09_irkai_array.md: Line
timing, spec/09_irkai_array.md: FRAME_SYNC, spec/09_irkai_array.md: SRC and AUDIO_MIX, spec/10_composition.md: Frames, takes
and late layers, spec/09_irkai_array.md: Audits). Where the spec leaves a point open it states the model's choice: log entries
67, 68, 70, 71, 73, 148, 164, 165 and 166. -/
def Obligations.WorkItemsAndFrameDecisions : Prop :=
  ∀ (s : State) (pf ix slot k n m i ch d0 d1 : Nat) (y : Proc) (x : Flow) (p : Proc) (b : List Byte) (z : Int) (g : FrameBuf) (e : Layer) (fr : ReadFault), Settled s → ix = ixOf pf → x = flowD s (pfNum ix) → p = proc s ix → y = p →
    bit (rd s .fltSrcCfg 0x129) 27 = false →
    (x.st ≠ .running → Completes (.engineWorkItem pf slot k fr false z) s (fun t => t = s) ∧ Completes (.frameSyncDecision pf) s (fun t => t = s) ∧
      Completes (.layerDecision pf) s (fun t => t = s)) ∧
    (x.st = .running → hasProc p = true → slot < 32 → p.next = none → tileHeld s x.port (tileOf (room s x.port) slot) = false →
      (spoils fr = false → Completes (.engineWorkItem pf slot k fr false z) s (fun t => Completes (.engineWorkItem pf slot k {} false z) s (fun v => t = { v with flt := t.flt }))) ∧
      (x.essence = 0 → k < fmtLines x.format → n = itemFrame s ix k →
        (spoils fr = true → Completes (.engineWorkItem pf slot k fr false z) s (fun t => (stored t (pfNum ix) k).complete = true ∧ (i ≠ k → stored t (pfNum ix) i = stored s (pfNum ix) i) ∧
          (pFunc p = 1 → (stored t (pfNum ix) k).bytes = blackLine x.format x.colour) ∧
          (pFunc p = 2 → (stored t (pfNum ix) k).bytes = scaleLine p x k (fun j => (itemLine s ix n j fr).getD (blackLine (pInFormat p) (pInColour p)))) ∧
          (pFunc p = 3 → fr.inp = 0 → fr.line = k → (stored t (pfNum ix) k).bytes = colourLine p x (blackLine (pInFormat p) (pInColour p))))) ∧
        Completes (.engineWorkItem pf slot k {} true z) s (fun t => RaisedOnce 0x129 s t ∧
          stored t (pfNum ix) k = { line := k, fi := n, bytes := blackLine x.format x.colour, cells := cellsPerLine x.format, complete := true, at_ := t.tim.now } ∧
          (i ≠ k → stored t (pfNum ix) i = stored s (pfNum ix) i) ∧ t.tim.now = max s.tim.now (itemStart s ix k n) ∧ t = { s with tim := { s.tim with now := t.tim.now }, swc := { s.swc with store := t.swc.store, prefetchDiscard := t.swc.prefetchDiscard }, tt := { s.tt with cancelled := t.tt.cancelled }, ika := t.ika, flt := t.flt }) ∧
        Completes (.engineWorkItem pf slot k {} false z) s (fun t => (stored t (pfNum ix) k).line = k ∧ (stored t (pfNum ix) k).fi = n ∧
          (stored t (pfNum ix) k).complete = true ∧ (stored t (pfNum ix) k).at_ = t.tim.now ∧
          (pFunc p = 4 → (stored t (pfNum ix) k).bytes = composeLine p x k ∧ (feeds s (pfNum ix) = [] → s.tt.cancelled = [] → t.flt = s.flt)) ∧
          (pFunc p = 1 → (readBuf p).bind (fun f => tget? f.lines k) = some b → (stored t (pfNum ix) k).bytes = b ∧ (feeds s (pfNum ix) = [] → s.tt.cancelled = [] → t.flt = s.flt)) ∧
          (pFunc p = 7 → carried p n = some m → bufferLine p 0 m k = some b → (stored t (pfNum ix) k).bytes = b ∧ ((bufferLine p 0 n k).isSome = true → feeds s (pfNum ix) = [] → s.tt.cancelled = [] → t.flt = s.flt)) ∧
          (pFunc p = 1 → p.reading = none → (stored t (pfNum ix) k).bytes = blackLine x.format x.colour ∧ (feeds s (pfNum ix) = [] → s.tt.cancelled = [] → t.flt = s.flt)) ∧
          (pFunc p = 3 → directLine s ix 0 n k = some b → (stored t (pfNum ix) k).bytes = colourLine p x b ∧ (feeds s (pfNum ix) = [] → s.tt.cancelled = [] → t.flt = s.flt)) ∧
          (pFunc p = 2 → (stored t (pfNum ix) k).bytes = scaleLine p x k (fun j => (itemLine s ix n j {}).getD (blackLine (pInFormat p) (pInColour p)))) ∧
          (i ≠ k → stored t (pfNum ix) i = stored s (pfNum ix) i) ∧ t.tim.now = max s.tim.now (itemStart s ix k n) ∧ t = { s with tim := { s.tim with now := t.tim.now }, swc := { s.swc with store := t.swc.store, prefetchDiscard := t.swc.prefetchDiscard }, tt := { s.tt with cancelled := t.tt.cancelled }, ika := t.ika, flt := t.flt })) ∧
      (x.essence = 0 → fmtLines x.format ≤ k → Completes (.engineWorkItem pf slot k {} false z) s (fun t => t = { s with ika := { s.ika with rooms := t.ika.rooms } })) ∧
      (x.essence = 2 → n = fiNow s x.domain → (stored s (pfNum ix) (n % 8)).fi ≠ n →
        Completes (.engineWorkItem pf slot k {} true z) s (fun t => RaisedOnce 0x129 s t ∧ streamOf t (pfNum ix) n = zeros 6 ∧
          t = { s with tim := { s.tim with now := t.tim.now }, swc := { s.swc with store := t.swc.store, prefetchDiscard := t.swc.prefetchDiscard }, tt := { s.tt with cancelled := t.tt.cancelled }, ika := t.ika, flt := t.flt }) ∧
        (pFunc p = 1 → (readBuf p).bind (fun f => tget? f.lines 0) = some b → Completes (.engineWorkItem pf slot k {} false z) s (fun t => streamOf t (pfNum ix) n = b ∧ t = { s with tim := { s.tim with now := t.tim.now }, swc := { s.swc with store := t.swc.store, prefetchDiscard := t.swc.prefetchDiscard }, tt := { s.tt with cancelled := t.tt.cancelled }, ika := t.ika, flt := t.flt })) ∧
        (pFunc p = 7 → m ≠ n - 1 → carried p n = some m → bufferLine p 0 m 0 = some b → Completes (.engineWorkItem pf slot k {} false z) s (fun t => streamOf t (pfNum ix) n = b ∧ t = { s with tim := { s.tim with now := t.tim.now }, swc := { s.swc with store := t.swc.store, prefetchDiscard := t.swc.prefetchDiscard }, tt := { s.tt with cancelled := t.tt.cancelled }, ika := t.ika, flt := t.flt }))) ∧
      (x.essence = 1 → ch < x.count → (rateIn s (x.base + ch) ≠ matrixRate s ∨ s.aud.period + 3 ≤ 6 * k + matrixDelay s) →
        Completes (.engineWorkItem pf slot k {} true z) s (fun t => RaisedOnce 0x129 s t ∧ (i < 6 → tget? (tgetD t.aud.inp (x.base + ch) []) (6 * k + i) = some 0) ∧
          t = { s with aud := { s.aud with inp := t.aud.inp }, ika := t.ika, flt := t.flt }) ∧
        (pFunc p = 5 → (∀ j ∈ usedInputs p x, (inWord? s ix j 0 (6 * k - 6)).isSome = true) → Completes (.engineWorkItem pf slot k {} false z) s (fun t => tget? (tgetD t.aud.inp (x.base + ch) []) (6 * k) = some (mixOut none s ix ch (6 * k)) ∧
          t = { s with aud := { s.aud with inp := t.aud.inp }, ika := t.ika, flt := t.flt })) ∧
        (pFunc p = 6 → p.srcDown = none → 1000 < z → 0 < audioRate (pInFormat p) → 2 * srcStart p x ≤ p.srcLevel → Completes (.engineWorkItem pf slot k {} false z) s (fun t => (proc t ix).srcDown = some (6 * k) ∧ (proc t ix).srcUp = none ∧ (proc t ix).srcPpm = z ∧
          RaisedOnce 0x12A s t ∧ t = { s with aud := { s.aud with inp := t.aud.inp }, ika := t.ika, flt := t.flt })))) ∧
    (p.srcDown = some d0 → p.srcOk = some d1 → Completes (.srcRecover pf) s (fun t => t.tim.now = max s.tim.now (d1 + 100000000) ∧
      proc t ix = { p with srcDown := none, srcUp := some (periodAt (audioRate x.format) t.tim.now + 1) } ∧
      (m ≠ ix → proc t m = proc s m) ∧ t = { s with tim := { s.tim with now := t.tim.now }, ika := { s.ika with procs := t.ika.procs } })) ∧
    (p.srcDown = none ∨ p.srcOk = none → Completes (.srcRecover pf) s (fun t => t = s)) ∧
    (x.st = .running → x.essence = 0 → pFunc p = 1 → followers s (pfNum ix) = [] → n = dueFrame s ix →
      ((bufsOf p 0).find? (fun w => (w.done.map (fun q => decide (q ≤ tOf s x.domain n))).getD false) = none → Completes (.frameSyncDecision pf) s (fun t =>
        (proc t ix).reading = p.reading ∧ (proc t ix).bufs = p.bufs ∧ (proc t ix).repeats = p.repeats ∧ (m ≠ ix → proc t m = proc s m) ∧ (proc t ix).decided = some n ∧ t.tim.now = max s.tim.now (tOf s x.domain n) ∧ t = { s with tim := { s.tim with now := t.tim.now }, ika := { s.ika with procs := t.ika.procs }, flt := t.flt })) ∧
      ((bufsOf p 0).find? (fun w => (w.done.map (fun q => decide (q ≤ tOf s x.domain n))).getD false) = some g → p.reading ≠ some (g.src, g.n) →
        Completes (.frameSyncDecision pf) s (fun t => (proc t ix).reading = some (g.src, g.n) ∧ (proc t ix).repeats = 0 ∧ (proc t ix).fsRepeat = min p.fsRepeat (2 ^ 32 - 1) ∧
          (m ≠ ix → proc t m = proc s m) ∧ (proc t ix).decided = some n ∧ t.tim.now = max s.tim.now (tOf s x.domain n) ∧ t = { s with tim := { s.tim with now := t.tim.now }, ika := { s.ika with procs := t.ika.procs }, flt := t.flt })) ∧
      ((bufsOf p 0).find? (fun w => (w.done.map (fun q => decide (q ≤ tOf s x.domain n))).getD false) = some g → p.reading = some (g.src, g.n) →
        (inputHeld s ix 0 = false ∨ p.repeats < pBody p 0 1 → Completes (.frameSyncDecision pf) s (fun t => (proc t ix).reading = p.reading ∧ (proc t ix).repeats = p.repeats + 1 ∧
          (proc t ix).fsRepeat = min (p.fsRepeat + 1) (2 ^ 32 - 1) ∧ (proc t ix).fsDrop = min (p.fsDrop + p.unread) (2 ^ 32 - 1) ∧ RaisedOnce 0x122 s t ∧
          (m ≠ ix → proc t m = proc s m) ∧ (proc t ix).decided = some n ∧ t.tim.now = max s.tim.now (tOf s x.domain n) ∧ t = { s with tim := { s.tim with now := t.tim.now }, ika := { s.ika with procs := t.ika.procs }, flt := t.flt })) ∧
        (inputHeld s ix 0 = true → pBody p 0 1 ≤ p.repeats → Completes (.frameSyncDecision pf) s (fun t => (proc t ix).reading = none ∧ (proc t ix).repeats = 0 ∧
          Raised 0x124 [(2, pfNum ix)] 0 s t ∧ (m ≠ ix → proc t m = proc s m) ∧ (proc t ix).decided = some n ∧ t.tim.now = max s.tim.now (tOf s x.domain n) ∧ t = { s with tim := { s.tim with now := t.tim.now }, ika := { s.ika with procs := t.ika.procs }, flt := t.flt })))) ∧
    (x.st = .running → pFunc p = 4 → p.next = none → i < pBody p 0 1 → n = dueFrame s ix → e = layer p i → Completes (.layerDecision pf) s (fun t =>
      (misfit s ix (layerDef p i) = none → classify p (layerDef p i) (n - 1) = .ready → (layer (proc t ix) i).st = .showing ∧ (layer (proc t ix) i).count = 0 ∧
        (layer (proc t ix) i).shown = some (n - 1)) ∧
      (misfit s ix (layerDef p i) = none → classify p (layerDef p i) (n - 1) = .void_ → (layer (proc t ix) i).st = .empty ∧ (layer (proc t ix) i).shown = none) ∧
      (misfit s ix (layerDef p i) = none → classify p (layerDef p i) (n - 1) = .notReady → e.st = .showing → (layer (proc t ix) i).st = .repeating ∧
        (layer (proc t ix) i).count = 1 ∧ (layer (proc t ix) i).shown = e.shown ∧ (layer (proc t ix) i).episodes = satAdd 32 e.episodes 1) ∧
      (misfit s ix (layerDef p i) = none → classify p (layerDef p i) (n - 1) = .notReady → e.st = .repeating → e.count < (layerSet (setNow p) i).freeze →
        (layer (proc t ix) i).st = .repeating ∧ (layer (proc t ix) i).count = e.count + 1 ∧ (layer (proc t ix) i).shown = e.shown) ∧
      (misfit s ix (layerDef p i) = none → classify p (layerDef p i) (n - 1) = .notReady → e.st = .repeating → (layerSet (setNow p) i).freeze ≤ e.count →
        (layer (proc t ix) i).st = .fill ∧ (layer (proc t ix) i).shown = none) ∧
      ((misfit s ix (layerDef p i)).isSome = true → (layer (proc t ix) i).st = .fill ∧ (layer (proc t ix) i).misfit = true ∧ (layer (proc t ix) i).shown = none) ∧
      (layer (proc t ix) i).opaque_ = opaqueNow (layerDef p i) (layerSet (setNow p) i) (layer (proc t ix) i) ∧
      (m ≠ ix → proc t m = proc s m) ∧ (proc t ix).decided = some n ∧ t.tim.now = max s.tim.now (tOf s x.domain n + lineOffset x.format 0 2) ∧
      t = { s with tim := { s.tim with now := t.tim.now }, ika := { s.ika with procs := t.ika.procs }, flt := t.flt }))

/-- The audio ports: their descriptors, how a port locks, follows, slips and loses its clock, and what it sends (spec/11_audio.md:
Serial audio and MADI ports, spec/11_audio.md: Loss of clock and slips, spec/11_audio.md: Commands and events). Where the spec
leaves a point open it states the model's choice: log entries 4, 11, 64, 65 and 167. -/
def Obligations.AudioPortsLockSlipAndSend : Prop :=
  ∀ (c : Cmd) (s u : State) (a p m k n rate stamp : Nat) (phi : Int) (words : List Nat) (img l : List Byte) (x : AudPort) (r : Reply) (ce cc : Nat), Clear s → u = place a img s → x = audPort s p → m ≠ p →
    (c.hostOk = true → l = hostBytes u a 16 → p = fieldAt l 0 1 →
      (firstErr (portChecks l a) = none → audPortBusy s p = false → Completes (.audPortSet c a img) s (fun t => Replied c 0x0501 0 0 0 t ∧
        audPort t p = { x with mode := fieldAt l 1 1, clock := fieldAt l 2 1, justify := fieldAt l 3 1, rate := fieldAt l 4 1, dirs := fieldAt l 5 1 % 4, rxOffset := toSigned 32 (fieldAt l 8 4), txOffset := fieldAt l 12 4, st := if fieldAt l 1 1 = 0 then .disabled else .acquire, steady := 0, guard_ := [], rampUp := none, rampDown := none, txNext := 0 } ∧ audPort t m = audPort s m ∧
        t = { s with aud := { s.aud with ports := t.aud.ports }, hif := t.hif, flt := t.flt, wire := t.wire, red := { s.red with jseq := t.red.jseq, jout := t.red.jout } })) ∧
      (firstErr (portChecks l a) = none → audPortBusy s p = true → Completes (.audPortSet c a img) s (Fails c 0x0501 0x20 0 u)) ∧
      (firstErr (portChecks l a) = some r → 0x10 ≤ r.st → Completes (.audPortSet c a img) s (fun t => SameBlock u t ∧ Replied c 0x0501 r.st r.result r.err t))) ∧
    (39 < fieldAt l 0 1 → firstErr (portChecks l a) = some { st := 0x11, err := a }) ∧
    (p ≤ 39 → c.hostOk = true → Completes (.audPortRead c p a) s (EndsDone c 0x0502 0 (hostWrite a (portBytes p x) s))) ∧
    (39 < p → Completes (.audPortRead c p a) s (Fails c 0x0502 0x11 (argAt c 24 s) s) ∧ Completes (.audPortResume c p) s (Fails c 0x0503 0x11 (argAt c 24 s) s) ∧
      Completes (.audClockLoss p) s (fun t => t = s) ∧ Completes (.audPortFrameRx p stamp words [] rate 0 0) s (fun t => t = s)) ∧
    (p ≤ 39 → x.st = .lost ∨ x.st = .slipped → Completes (.audPortResume c p) s (fun t => Replied c 0x0503 0 0 0 t ∧
      audPort t p = { x with st := .acquire, steady := 0, guard_ := [], rampDown := none } ∧ audPort t m = audPort s m ∧
      t = { s with aud := { s.aud with ports := t.aud.ports }, hif := t.hif, flt := t.flt, wire := t.wire })) ∧
    (p ≤ 39 → x.st = .disabled ∨ x.st = .acquire ∨ x.st = .locked → Completes (.audPortResume c p) s (Fails c 0x0503 0x20 0 s)) ∧
    (p ≤ 39 → ownClock p x = false → x.st = .locked → Completes (.audClockLoss p) s (fun t => (audPort t p).st = .lost ∧ (audPort t p).clockHere = false ∧
      (audPort t p).guard_ = [] ∧ Raised 0x160 [(1, p)] 0 s t ∧ audPort t m = audPort s m ∧
      t = { s with aud := { s.aud with ports := t.aud.ports, inp := t.aud.inp }, flt := t.flt })) ∧
    (p ≤ 39 → ownClock p x = false → x.st = .acquire → Completes (.audClockLoss p) s (fun t => audPort t p = { x with clockHere := false, steady := 0 } ∧ audPort t m = audPort s m ∧
      t = { s with aud := { s.aud with ports := t.aud.ports } })) ∧
    (x.st = .disabled ∨ bit x.dirs 0 = false ∨ bit (rd s .audCfg 0) 31 = false → Completes (.audPortFrameRx p stamp words [] rate 0 0) s (fun t => t = s)) ∧
    (p ≤ 39 → bit x.dirs 0 = true → bit (rd s .audCfg 0) 31 = true → x.st = .acquire → phi = phaseOf (audRate x) ((stamp : Int) - x.rxOffset) →
      (x.steady = 0 → Completes (.audPortFrameRx p stamp words [] rate 0 0) s (fun t => (audPort t p).st = .acquire ∧ (audPort t p).steady = 1 ∧ (audPort t p).phiLo = phi ∧
        (audPort t p).phiHi = phi ∧ audPort t m = audPort s m ∧ t = { s with aud := { s.aud with ports := t.aud.ports } })) ∧
      (x.steady ≠ 0 → 8 * (max x.phiHi phi - min x.phiLo phi) * (audRate x : Int) ≤ 1000000000 →
        (x.steady < 47 → Completes (.audPortFrameRx p stamp words [] rate 0 0) s (fun t => (audPort t p).st = .acquire ∧ (audPort t p).steady = x.steady + 1 ∧
          audPort t m = audPort s m ∧ t = { s with aud := { s.aud with ports := t.aud.ports } })) ∧
        (47 ≤ x.steady → rate = x.rate → Completes (.audPortFrameRx p stamp words [] rate 0 0) s (fun t => (audPort t p).st = .locked ∧ (audPort t p).phi0 = phi ∧
          (audPort t p).rampUp = some (periodAt (audRate x) s.tim.now + 1) ∧ Raised 0x162 [(1, p), (4, ofSigned 32 phi)] 0 s t ∧
          audPort t m = audPort s m ∧ t = { s with aud := { s.aud with ports := t.aud.ports }, flt := t.flt })))) ∧
    (p ≤ 39 → bit x.dirs 0 = true → bit (rd s .audCfg 0) 31 = true → x.st = .locked → phi = phaseOf (audRate x) ((stamp : Int) - x.rxOffset - x.phi0) →
      (1000000000 < 4 * phi.natAbs * audRate x → Completes (.audPortFrameRx p stamp words [] rate 0 0) s (fun t => (audPort t p).st = .slipped ∧ (audPort t p).rampDown = some 0 ∧
        Raised 0x161 [(1, p), (1, 0), (4, ofSigned 32 phi)] 0 s t ∧
        (nsOf k = 0 → (flow? s k).isSome = true → (flowD s k).endpoint = 4 → (flowD s k).port = p → (flowD s k).st = .running → (flowD s k).stop = none → (flowD t k).st = .held) ∧
        audPort t m = audPort s m ∧ t = { s with aud := { s.aud with ports := t.aud.ports, inp := t.aud.inp }, flows := t.flows, hif := t.hif, flt := t.flt, wire := t.wire, red := { s.red with jseq := t.red.jseq, jout := t.red.jout } })) ∧
      (4 * phi.natAbs * audRate x ≤ 1000000000 → rate ≠ x.rate → Completes (.audPortFrameRx p stamp words [] rate 0 0) s (fun t => (audPort t p).st = .locked ∧
        (nsOf k = 0 → (flow? s k).isSome = true → (flowD s k).endpoint = 4 → (flowD s k).port = p → (flowD s k).st = .running → (flowD s k).stop = none → (flowD t k).st = .held) ∧
        audPort t m = audPort s m ∧ t = { s with aud := { s.aud with ports := t.aud.ports }, flows := t.flows, hif := t.hif, flt := t.flt, wire := t.wire, red := { s.red with jseq := t.red.jseq, jout := t.red.jout } })) ∧
      (4 * phi.natAbs * audRate x ≤ 1000000000 → rate = x.rate → x.guard_ = [] → n = ((2 * ((stamp : Int) - x.rxOffset - x.phi0) * (audRate x : Int) + 1000000000) / 2000000000).toNat →
        Completes (.audPortFrameRx p stamp words [] rate 0 0) s (fun t => (audPort t p).st = .locked ∧ (audPort t p).phi = x.phi0 + phi ∧ (audPort t p).guard_ = [(n, words.map (portWord p x n))] ∧
        audPort t m = audPort s m ∧ t = { s with aud := { s.aud with ports := t.aud.ports } }))) ∧
    (x.st ≠ .disabled → p ≤ 39 → bit x.dirs 0 = true → bit (rd s .audCfg 0) 31 = true → Completes (.audPortFrameRx p stamp words [] rate ce cc) s (fun t =>
      Completes (.audPortFrameRx p stamp words [] rate 0 0) s (fun v => t = { v with aud := { v.aud with ports := t.aud.ports }, flt := t.flt } ∧
        audPort t p = { audPort v p with coding := min (x.coding + ce) 65535, crcc := min (x.crcc + cc) 65535, codingAt := (audPort t p).codingAt } ∧ audPort t m = audPort v m) ∧
      (ce ≠ 0 → s.flt.limit = [] → RaisedOnce 0x165 s t))) ∧
    (p ≤ 39 → bit x.dirs 0 = true → bit (rd s .audCfg 0) 31 = true → x.st = .locked → 4 * (phaseOf (audRate x) ((stamp : Int) - x.rxOffset - x.phi0)).natAbs * audRate x ≤ 1000000000 → rate = x.rate →
      nsOf k = 0 → (flow? s k).isSome = true → (flowD s k).endpoint = 4 → (flowD s k).port = p → (flowD s k).st = .running → (flowD s k).stop = none →
      fieldAt (flowD s k).params 0 1 ≤ a → a < fieldAt (flowD s k).params 0 1 + (flowD s k).count → Completes (.audPortFrameRx p stamp words [a] rate ce cc) s (fun t =>
        (audPort t p).st = .locked ∧ (flowD t k).st = .held)) ∧
    (p ≤ 39 → bit x.dirs 1 = true → bit (rd s .audCfg 0) 31 = true → drives s = true → x.st ≠ .disabled →
      (wsSlave p x = false → n = max x.txNext (nearPeriod (audRate x) ((s.tim.now : Int) - (x.txOffset : Int)) - 2).toNat → Completes (.audPortFrameTx p stamp) s (fun t =>
        t.tim.now = max s.tim.now (periodStart (audRate x) (n + 2) + x.txOffset) ∧ audPort t p = { x with txNext := n + 1, rampDown := x.rampDown.map (fun q => q + 1) } ∧ audPort t m = audPort s m ∧
        t = { s with tim := { s.tim with now := t.tim.now }, aud := { s.aud with ports := t.aud.ports }, wire := s.wire ++ [.audio p n ((List.range (audChannels p x)).map (portSends s p n)) (if p < 32 then [] else (List.range (audChannels p x)).filter (fun q => (txFlow s p q).isNone))] })) ∧
      (wsSlave p x = true → bit x.dirs 0 = true → x.st = .locked → n = (nearPeriod (audRate x) ((stamp : Int) - (x.txOffset : Int)) - 2).toNat → Completes (.audPortFrameTx p stamp) s (fun t =>
        t.tim.now = s.tim.now ∧ t.wire = s.wire ++ [.audio p n ((List.range (audChannels p x)).map (portSends s p n)) (if p < 32 then [] else (List.range (audChannels p x)).filter (fun q => (txFlow s p q).isNone))])) ∧
      (wsSlave p x = true → bit x.dirs 0 = true → x.st = .lost → x.clockHere = false → Completes (.audPortFrameTx p stamp) s (fun t => t = s)) ∧
      (x.st = .locked → x.rampUp = none → portSends s p n k = txWord s p n k) ∧ (x.st = .acquire → bit x.dirs 0 = true → portSends s p n k = 0) ∧ (x.st = .lost → portSends s p n k = 0)) ∧
    (wsSlave p x = false → drives s = false ∨ x.st = .disabled → Completes (.audPortFrameTx p stamp) s (fun t => t = s))

/-- AUD_DELAY_SET, AUD_DELAY_CHANGE and its crossfade, AUD_DELAY_READ and AUD_CS_SET (spec/11_audio.md: Per-channel delay,
spec/11_audio.md: Channel status, validity and block start, spec/11_audio.md: Commands and events). Where the spec leaves a
point open it states the model's choice: log entries 11, 63 and 169. -/
def Obligations.AudioDelayAndChannelStatus : Prop :=
  ∀ (c : Cmd) (s u : State) (a first count store mx delay ramp dom fi i j n : Nat) (img : List Byte) (k : Nat × Nat) (x : DelayChange) (d e : DelayLine) (f : Flow), Clear s → u = place a img s → c.cplOk = true →
    (first + count ≤ matrixChannels s → 0 < count → count ≤ 1024 → store = 1 ∨ store = 2 → mx ≤ delayMax s store → setRefusal s first count false = none → k = delayCost s count mx →
      (storeFits s store k.1 k.2 = true → Completes (.audDelaySet c first count store mx) s (fun t => Replied c 0x0520 0 0 0 t ∧
        (i < count → delayLine? t (first + i) = some { store := store, max := mx }) ∧ (j < first ∨ first + count ≤ j → delayLine? t j = delayLine? s j) ∧
        t.aud.allocs = s.aud.allocs ++ [{ chs := (List.range count).map (fun i => first + i), store := store, max := mx, bw := k.1, cap := k.2 }] ∧
        t.tim.now = (if hbmGated s && !hbmGated t then s.tim.now + 1000000 else s.tim.now) ∧
        t = { s with tim := { s.tim with now := t.tim.now }, aud := { s.aud with delays := t.aud.delays, allocs := t.aud.allocs }, hif := t.hif, flt := t.flt, wire := t.wire, red := { s.red with jseq := t.red.jseq, jout := t.red.jout } })) ∧
      (storeFits s store k.1 k.2 = false → Completes (.audDelaySet c first count store mx) s (Fails c 0x0520 0x13 (argAt c 28 s) s))) ∧
    (first + count ≤ matrixChannels s → 0 < count → count ≤ 1024 → setRefusal s first count true = none → Completes (.audDelaySet c first count 0 mx) s (fun t => Replied c 0x0520 0 0 0 t ∧
      (i < count → delayLine? t (first + i) = none) ∧ (j < first ∨ first + count ≤ j → delayLine? t j = delayLine? s j) ∧
      t = { s with aud := { s.aud with delays := t.aud.delays, allocs := t.aud.allocs }, hif := t.hif, flt := t.flt, wire := t.wire, red := { s.red with jseq := t.red.jseq, jout := t.red.jout } })) ∧
    (first + count ≤ matrixChannels s → 0 < count → count ≤ 1024 → setRefusal s first count true = some k → Completes (.audDelaySet c first count 0 mx) s (fun t =>
      SameBlock s t ∧ Replied c 0x0520 0x20 0 0 t ∧ Raised 0x169 [(2, k.1), (1, k.2)] 0 s t)) ∧
    (first < matrixChannels s → count = 0 ∨ 1024 < count → Completes (.audDelaySet c first count store mx) s (Fails c 0x0520 0x11 (argAt c 26 s) s)) ∧
    (first + count ≤ matrixChannels s → 0 < count → ramp ≤ 1024 → dom ≤ 7 → domEn s dom = true →
      (List.range count).all (fun i => match delayLine? s (first + i) with | some d => decide (delay ≤ d.max) | none => true) = true →
      (changeRefusal s first count = none → s.tim.now + framesNs s dom 2 ≤ tOf s dom (fullFi s dom fi) →
        x = { new := delay, ramp := rampOf ramp, dom := dom, fi := fi, s0 := periodFrom s (tOf s dom (fullFi s dom fi)), first := first, count := count, tag := c.tag } →
        Completes (.audDelayChange c first count delay ramp dom fi) s (fun t => Replied c 0x0521 1 0 0 t ∧
          (i < count → delayLine? t (first + i) = (delayLine? s (first + i)).map (fun d => { d with change := some x })) ∧
          (j < first ∨ first + count ≤ j → delayLine? t j = delayLine? s j) ∧
          t = { s with aud := { s.aud with delays := t.aud.delays }, hif := t.hif, flt := t.flt, wire := t.wire, red := { s.red with jseq := t.red.jseq, jout := t.red.jout } })) ∧
      (changeRefusal s first count = none → tOf s dom (fullFi s dom fi) < s.tim.now + framesNs s dom 2 → Completes (.audDelayChange c first count delay ramp dom fi) s (Fails c 0x0521 0x31 0 s)) ∧
      (changeRefusal s first count = some k → Completes (.audDelayChange c first count delay ramp dom fi) s (fun t =>
        SameBlock s t ∧ Replied c 0x0521 0x20 0 0 t ∧ Raised 0x169 [(2, k.1), (1, k.2)] 0 s t))) ∧
    (first + 1 ≤ matrixChannels s → delayLine? s first = some d → d.max < delay → Completes (.audDelayChange c first 1 delay ramp dom fi) s (Fails c 0x0521 0x11 (argAt c 28 s) s)) ∧
    (delayLine? s i = some d → d.change = some x → x.ended = false → Completes (.audDelayCrossfadeEnd i) s (fun t => t.tim.now = max s.tim.now (periodStart (matrixRate s) (x.s0 + x.ramp)) ∧
      delayLine? t i = some (if rawPair s i && d.cur != x.new then { d with change := some { x with ended := true } } else { d with cur := x.new, change := none }) ∧ (delayLine? s j = some e → e.change ≠ some x → delayLine? t j = some e) ∧
      Final 0x168 x.tag t ∧ Raised 0x168 [(2, x.first), (2, x.count), (4, x.new)] 0 s t ∧
      t = { s with tim := { s.tim with now := t.tim.now }, aud := { s.aud with delays := t.aud.delays }, flt := t.flt, red := { s.red with jseq := t.red.jseq, jout := t.red.jout } })) ∧
    (delayLine? s i = some d → d.change = some x → x.ended = true → Completes (.audDelayCrossfadeEnd i) s (fun t => t = s)) ∧
    ((delayLine? s i).bind (fun d => d.change) = none → Completes (.audDelayCrossfadeEnd i) s (fun t => t = s)) ∧
    (first + count ≤ matrixChannels s → 0 < count → first < matrixChannels s → c.hostOk = true → Completes (.audDelayRead c first count a) s (EndsDone c 0x0522 0
      (hostWrite a (delayRange s first count) s))) ∧
    (matrixChannels s ≤ first → Completes (.audDelayRead c first count a) s (Fails c 0x0522 0x11 (argAt c 24 s) s)) ∧
    (flowNumOk n = true → nsOf n = 1 → flow? s (normFlow n) = some f → f.essence = 1 → c.hostOk = true → Completes (.audCsSet c n a img) s (fun t => Replied c 0x0530 0 0 0 t ∧
      csOf t (normFlow n) = withCrcc (hostBytes u a 24) ∧ (j ≠ normFlow n → csOf t j = csOf s j) ∧
      t = { s with aud := { s.aud with cs := t.aud.cs }, hif := t.hif, flt := t.flt, wire := t.wire, red := { s.red with jseq := t.red.jseq, jout := t.red.jout } })) ∧
    (flow? s (normFlow n) = none → Completes (.audCsSet c n a img) s (Fails c 0x0530 0x11 (argAt c 24 s) u))

/-- AUDIO_XP_DIRECT and the start of its ramp, AUDIO_XP_READ, and a sample period of the matrix (spec/11_audio.md: The sample grid
and the matrix delay, spec/11_audio.md: Crosspoints and summing, spec/11_audio.md: Commands and events). Where the spec leaves
a point open it states the model's choice: log entries 4, 11, 25, 64 and 168. -/
def Obligations.AudioCrosspointsAndTheMatrix : Prop :=
  ∀ (c : Cmd) (s : State) (out inp gain ramp a m q s0 tag o i : Nat) (l : List AudXp) (x : AudXp) (f : Flow) (bad : List (Nat × ReadFault)) (rb : Option Nat) (fr : ReadFault), Clear s → l = xpsOf s out → m ≠ out → q ≠ inp → c.cplOk = true →
    (out < matrixChannels s → inp < matrixChannels s → gainOk gain = true → ramp ≤ 1024 → audioNamed s out inp = false →
      (audioXpOk s out inp gain l = true → xpsFit s (liveChanges s ++ [.audio out inp gain ramp 0 false]) = true → audCollides s out inp = false → s0 = periodFrom s (s.tim.now + 100000) →
        (rawPair s out = false → (l.any (fun y => y.inp == inp) = true ∨ gain ≠ 0x8000) → Completes (.audioXpDirect c out inp gain ramp) s (fun t => Replied c 0x0510 1 0 0 t ∧
          ((xpsOf t out).find? (fun y => y.inp == inp)).map (fun y => (y.gain, y.mgmt, y.direct)) = some (gain, true, some (c.tag, s0)) ∧
          ((xpsOf t out).find? (fun y => y.inp == inp)).map (fun y => y.ramps.contains { new := gainCoef gain, s0 := s0, len := rampOf ramp, rank := 8 * s.tim.now }) = some true ∧
          (xpsOf t out).find? (fun y => y.inp == q) = l.find? (fun y => y.inp == q) ∧ xpsOf t m = xpsOf s m ∧
          t = { s with aud := { s.aud with xps := t.aud.xps }, hif := t.hif, flt := t.flt, wire := t.wire, red := { s.red with jseq := t.red.jseq, jout := t.red.jout } })) ∧
        (rawPair s out = true → Completes (.audioXpDirect c out inp gain ramp) s (fun t => Replied c 0x0510 1 0 0 t ∧
          t.aud.zwait = s.aud.zwait.filter (fun y => !(y.out == out && y.inp == inp)) ++
            [{ out := out, inp := inp, remove := gain == 0x8000, s0 := s0, page := 0, mgmt := true, direct := some (c.tag, s0) }] ∧
          t = { s with aud := { s.aud with zwait := t.aud.zwait }, hif := t.hif, flt := t.flt, wire := t.wire, red := { s.red with jseq := t.red.jseq, jout := t.red.jout } }))) ∧
      (audioXpOk s out inp gain l = false → Completes (.audioXpDirect c out inp gain ramp) s (Fails c 0x0510 0x13 (argAt c 26 s) s)) ∧
      (audioXpOk s out inp gain l = true → xpsFit s (liveChanges s ++ [.audio out inp gain ramp 0 false]) = true → audCollides s out inp = true →
        Completes (.audioXpDirect c out inp gain ramp) s (fun t => Replied c 0x0510 0x20 0 0 t ∧ Raised 0x166 [(2, out), (2, inp)] 0 s t ∧
          t = { s with aud := { s.aud with collision := satAdd 32 s.aud.collision 1 }, hif := t.hif, flt := t.flt, wire := t.wire }))) ∧
    (out < matrixChannels s → inp < matrixChannels s → gainOk gain = true → ramp ≤ 1024 → audioNamed s out inp = true → Completes (.audioXpDirect c out inp gain ramp) s (Fails c 0x0510 0x20 0 s)) ∧
    (out < matrixChannels s → inp < matrixChannels s → gainOk gain = false → Completes (.audioXpDirect c out inp gain ramp) s (Fails c 0x0510 0x11 (argAt c 28 s) s)) ∧
    (l.find? (fun y => y.inp == inp) = some x → x.direct = some (tag, s0) → Completes (.audioXpDirectStart out inp) s (fun t => t.tim.now = max s.tim.now (periodStart (matrixRate s) s0) ∧
      (xpsOf t out).find? (fun y => y.inp == inp) = some { x with direct := none } ∧ (xpsOf t out).find? (fun y => y.inp == q) = l.find? (fun y => y.inp == q) ∧ xpsOf t m = xpsOf s m ∧
      Final 0x167 tag t ∧ Raised 0x167 [(2, out), (2, inp)] 0 s t ∧ t = { s with tim := { s.tim with now := t.tim.now }, aud := { s.aud with xps := t.aud.xps }, flt := t.flt })) ∧
    ((l.find? (fun y => y.inp == inp)).bind (fun y => y.direct) = none → (s.aud.zwait.find? (fun z => z.out == out && z.inp == inp)).bind (fun z => z.direct) = none →
      Completes (.audioXpDirectStart out inp) s (fun t => t = s)) ∧
    (out < matrixChannels s → c.hostOk = true → Completes (.audioXpRead c out a) s (EndsDone c 0x0511 0 (hostWrite a (xpReadBytes s out) s))) ∧
    (matrixChannels s ≤ out → Completes (.audioXpRead c out a) s (Fails c 0x0511 0x11 (argAt c 24 s) s) ∧ Completes (.audioXpDirect c out inp gain ramp) s (Fails c 0x0510 0x11 (argAt c 24 s) s)) ∧
    (bit (rd s .audCfg 0) 31 = false → Completes (.matrixSamplePeriod none []) s (fun t => t.tim.now = max s.tim.now (periodStart (matrixRate s) (s.aud.period + 1)) ∧
      t = { s with tim := { s.tim with now := t.tim.now }, aud := { s.aud with period := s.aud.period + 1 } })) ∧
    (bad.all (fun b => !b.2.ecc && !b.2.poison) = true → Completes (.matrixSamplePeriod rb bad) s (fun t => Completes (.matrixSamplePeriod none []) s (fun v => t = { v with flt := t.flt }) ∧
      (bit (rd s .audCfg 0) 31 = true → rb.isSome = true → RaisedOnce 0x247 s t))) ∧
    (bit (rd s .audCfg 0) 31 = true → feeding s = [q] → (ownerIn s q).map (fun z => active z.2 && !portSilent s z.2 && z.2.restore.isNone) = some true →
      (tget? (tgetD s.aud.inp q []) (s.aud.period + 3 - matrixDelay s)).isSome = true → fr.ecc = true → fr.poison = false → Completes (.matrixSamplePeriod none [(q, fr)]) s (fun t =>
        t.aud.late = min (s.aud.late + 1) (2 ^ 32 - 1) ∧ RaisedOnce 0x047 s t)) ∧
    (bit (rd s .audCfg 0) 31 = true → s.aud.zwait = [] → flow? s o = some f → nsOf o = 1 → f.essence = 1 → f.st = .running → i < f.count → Completes (.matrixSamplePeriod none []) s (fun t =>
      t.tim.now = max s.tim.now (periodStart (matrixRate s) (s.aud.period + 1)) ∧ t.aud.period = s.aud.period + 1 ∧
      mixed t (f.base + i) (s.aud.period + 1) = mixWord s (f.base + i) (s.aud.period + 1) ∧
      t = { s with tim := { s.tim with now := t.tim.now }, aud := { t.aud with ports := s.aud.ports, allocs := s.aud.allocs, cs := s.aud.cs, zwait := s.aud.zwait, collision := s.aud.collision }, aqf := t.aqf, flt := t.flt }))

/-- Reads and writes of the stores, of secure SRAM and of CXL memory, and the upkeep of a controller (spec/12_memory.md:
Scheduling within a controller, spec/12_memory.md: Error protection, spec/12_memory.md: Refresh, spec/12_memory.md: Scrubbing,
spec/12_memory.md: Regions and windows, spec/13_host_interface.md: The control-plane bus). Where the spec leaves a point open
it states the model's choice: log entries 4, 86, 89, 90, 138, 170, 171 and 181. -/
def Obligations.StoresAreReadWrittenAndKept : Prop :=
  ∀ (s : State) (st a len line n k r i off temp dimm kind gated : Nat) (b : List Byte) (w : WriteQ) (ws : List WriteQ) (x : Rank) (c : Ctrl) (y : MemWin) (pos : List Nat), Settled s →
    c = ctrl s k → x = rankOf s k r → y = win s i → n ≠ line →
    (a / 64 = line → a % 64 + len ≤ 64 → 0 < len → reaches s st a = true → reaches s st (64 * line) = true →
      (poisoned s st line = false → Completes (.memRead 5 st a len {}) s (fun t => t.mem.answer = some (false, slice (lineBytesAt s st line) (a % 64) len) ∧
        lineBytesAt t st n = lineBytesAt s st n ∧ t = { s with mem := { s.mem with answer := t.mem.answer, ctrls := t.mem.ctrls }, hif := { s.hif with granted := t.hif.granted } }) ∧
        (beyond s (locOf s st (64 * line)) pos = false → Completes (.memRead 5 st a len { corrected := pos }) s (fun t =>
          t.mem.answer = some (false, slice (lineBytesAt s st line) (a % 64) len) ∧ lineBytesAt t st n = lineBytesAt s st n ∧ poisoned t st line = false ∧
            t = { s with mem := { s.mem with answer := t.mem.answer, ctrls := t.mem.ctrls }, hif := { s.hif with granted := t.hif.granted }, flt := t.flt })) ∧
        (queued s st line = none → Completes (.memRead 5 st a len { uncorrectable := true }) s (fun t => RaisedOnce 0x181 s t ∧ poisoned t st line = true ∧
          t.mem.answer.map Prod.fst = some true ∧ poisoned t st n = poisoned s st n ∧
          t = { s with mem := { s.mem with answer := t.mem.answer, ctrls := t.mem.ctrls, poison := t.mem.poison }, hif := { s.hif with granted := t.hif.granted }, flt := t.flt }))) ∧
      (poisoned s st line = true → Completes (.memRead 5 st a len {}) s (fun t => t.mem.answer.map Prod.fst = some true))) ∧
    (st ≠ 2 → reaches s st a = false → Completes (.memRead 5 st a len {}) s (fun t => t = s)) ∧
    (reaches s st (64 * line) = true → b.length = 64 → (queued s st line).isSome = true ∨ (sameQueue s st line).length < 31 → Completes (.memWrite 5 st (64 * line) b false) s (fun t =>
      lineBytesAt t st line = b ∧ lineBytesAt t st n = lineBytesAt s st n ∧ poisoned t st line = false ∧ poisoned t st n = poisoned s st n ∧
      t = { s with mem := { s.mem with ctrls := t.mem.ctrls, poison := t.mem.poison }, hif := { s.hif with granted := t.hif.granted } })) ∧
    (reaches s st (64 * line) = true → b.length = 64 → queued s st line = none → sameQueue s st line = w :: ws → 47 ≤ ws.length + 1 → w.data.length = 64 → Memory.wf (cellsOf s st) = true →
      Completes (.memWrite 5 st (64 * line) b false) s (fun t => cread (cellsOf t st) (64 * w.line) 64 = w.data ∧ lineBytesAt t st line = b ∧
        t = { s with mem := { s.mem with ctrls := t.mem.ctrls, poison := t.mem.poison, hbm := t.mem.hbm, ddr := t.mem.ddr }, hif := { s.hif with granted := t.hif.granted } })) ∧
    (st ≠ 2 → reaches s st (64 * line) = false → b.length = 64 → Completes (.memWrite 5 st (64 * line) b false) s (fun t => t = { s with hif := { s.hif with granted := t.hif.granted } })) ∧
    (reaches s st (64 * line) = true → queued s st line = none → 0 < b.length → b.length < 64 → Completes (.memWrite 5 st (64 * line) b true) s (fun t =>
      RaisedOnce 0x18C s t ∧ poisoned t st line = true ∧ cellsOf t st = cellsOf s st)) ∧
    (k < 4 → a + b.length ≤ 262144 → Memory.wf s.sec.sram = true → Completes (.memWrite k 2 a b false) s (fun t => cget t.sec.sram (a + i) = (if h : i < b.length then b[i] else cget s.sec.sram (a + i)) ∧
      (n < a → cget t.sec.sram n = cget s.sec.sram n) ∧ t = { s with sec := { s.sec with sram := t.sec.sram }, hif := { s.hif with granted := t.hif.granted } })) ∧
    (k < 4 → a + len ≤ 262144 → Completes (.memRead k 2 a len {}) s (fun t => t.hif.resp = some (.memory (cread s.sec.sram a len)) ∧
      t = { s with hif := { s.hif with resp := t.hif.resp, granted := t.hif.granted } })) ∧
    (4 ≤ k → Completes (.memRead k 2 a len {}) s (fun t => RaisedOnce 0x021 s t ∧ t.hif.resp = some .errorResponse ∧
        t = { s with flt := t.flt, hif := { s.hif with resp := t.hif.resp, granted := t.hif.granted } }) ∧
      Completes (.memWrite k 2 a b false) s (fun t => RaisedOnce 0x021 s t ∧ t.hif.resp = some .errorResponse ∧
        t = { s with flt := t.flt, hif := { s.hif with resp := t.hif.resp, granted := t.hif.granted } })) ∧
    (i ≤ 1 → s.hif.cxlMem = true → committed s i = true → y.opened = true → off + len ≤ y.size * 2 ^ 30 → y.reserve ≠ 0 → y.slice_ ≠ s.tim.now / 10000 → a = y.base * 2 ^ 30 + off →
      a / 64 = line → a % 64 + len ≤ 64 → 0 < len → reaches s y.store a = true → reaches s y.store (64 * line) = true →
      (poisoned s y.store line = false → Completes (.cxlMemAccess i off len false b) s (fun t => t.hif.resp = some (.memory (slice (lineBytesAt s y.store line) (a % 64) len)) ∧
        win t i = { y with slice_ := s.tim.now / 10000, moved := len } ∧
        t = { s with mem := { s.mem with answer := t.mem.answer, ctrls := t.mem.ctrls, wins := t.mem.wins }, hif := { s.hif with resp := t.hif.resp, granted := t.hif.granted } })) ∧
      (poisoned s y.store line = true → Completes (.cxlMemAccess i off len false b) s (fun t => t.hif.resp = some .poisoned)) ∧
      (len = 64 → b.length = 64 → (queued s y.store line).isSome = true ∨ (sameQueue s y.store line).length < 31 → Completes (.cxlMemAccess i off 0 true b) s (fun t =>
        lineBytesAt t y.store line = b ∧ lineBytesAt t y.store n = lineBytesAt s y.store n ∧
        t = { s with mem := { s.mem with ctrls := t.mem.ctrls, poison := t.mem.poison, wins := t.mem.wins }, hif := { s.hif with granted := t.hif.granted } }))) ∧
    (i ≤ 1 → s.hif.cxlMem = true → committed s i = true → y.opened = true → off + len ≤ y.size * 2 ^ 30 → y.reserve ≠ 0 → y.slice_ = s.tim.now / 10000 → 0 < y.moved →
      10 * y.reserve < y.moved + len → reaches s y.store (y.base * 2 ^ 30 + off) = true → Completes (.cxlMemAccess i off len false b) s (fun t =>
        t.tim.now = (s.tim.now / 10000 + 1) * 10000 ∧ (win t i).moved = len ∧ (win t i).slice_ = s.tim.now / 10000 + 1)) ∧
    (i ≤ 1 → s.hif.cxlMem = true → committed s i = true → y.opened = false → Completes (.cxlMemAccess i off len false b) s (fun t =>
      t = { s with hif := { s.hif with resp := some (.memory (freeBytes s.free len)) }, free := s.free + len })) ∧
    (1 < i ∨ s.hif.cxlMem = false ∨ committed s i = false → Completes (.cxlMemAccess i off len false b) s (fun t => t = s)) ∧
    ((tgetD c.banks i {}).open_ = some r → c.wq = [] → Completes (.rowIdleClose k i) s (fun t => t.tim.now = max s.tim.now ((tgetD c.banks i {}).idleAt + fld s .memSchedCfg 0 9 0) ∧
      tgetD (ctrl t k).banks i {} = { tgetD c.banks i {} with open_ := none } ∧ (n ≠ i → tget? (ctrl t k).banks n = tget? c.banks n) ∧
      t = { s with tim := { s.tim with now := t.tim.now }, mem := { s.mem with ctrls := t.mem.ctrls } })) ∧
    ((tgetD c.banks i {}).open_ = none → Completes (.rowIdleClose k i) s (fun t => t = s)) ∧
    (k ≤ 7 → c.st = .trained →
      (bit (rd s .memSchedCfg 0) 31 = true → x.postpone = true → x.owed < 4 → Completes (.refreshDue k r true) s (fun t => rankOf t k r = { x with owed := x.owed + 1, refAt := t.tim.now } ∧
        t.tim.now = max s.tim.now (x.refAt + refi x) ∧ (ctrl t k).banks = c.banks ∧ t = { s with tim := { s.tim with now := t.tim.now }, mem := { s.mem with ctrls := t.mem.ctrls }, flt := t.flt })) ∧
      Completes (.refreshDue k r false) s (fun t => (rankOf t k r).owed = 0 ∧ (rankOf t k r).postpone = true ∧ (i / 64 = r → (tgetD (ctrl t k).banks i {}).open_ = none) ∧
        (x.doubled = true → x.temp < 332 → (rankOf t k r).doubled = false) ∧
        t.tim.now = (if x.postpone then max s.tim.now (x.refAt + refi x) else s.tim.now) ∧ (rankOf t k r).refAt = t.tim.now ∧
        t = { s with tim := { s.tim with now := t.tim.now }, mem := { s.mem with ctrls := t.mem.ctrls }, flt := t.flt })) ∧
    (7 < k → c.st = .trained → Completes (.refreshDue k r false) s (fun t => (tgetD (ctrl t k).banks r {}).open_ = none ∧ (n ≠ r → tget? (ctrl t k).banks n = tget? c.banks n) ∧
      ctrl t k = { c with banks := (ctrl t k).banks } ∧ t = { s with mem := { s.mem with ctrls := t.mem.ctrls } })) ∧
    (c.st ≠ .trained → Completes (.refreshDue k r false) s (fun t => t = s)) ∧
    (k ≤ 7 → r = 2 * dimm ∨ r = 2 * dimm + 1 → Completes (.dimmTempRead k dimm temp) s (fun t => (rankOf t k r).temp = temp ∧ t.tim.now = max s.tim.now (nextOf 1000000 (lastOf (.dimm (2 * k + dimm)) s)) ∧
      (340 ≤ temp → (rankOf t k r).doubled = true ∧ (x.doubled = false → (rankOf t k r).owed = 2 * x.owed)) ∧
      (temp < 332 → x.owed = 0 → (rankOf t k r).doubled = false) ∧ (332 ≤ temp → temp < 340 → rankOf t k r = { x with temp := temp }) ∧
      t = { s with tim := { s.tim with now := t.tim.now, lastAt := t.tim.lastAt }, mem := { s.mem with ctrls := t.mem.ctrls }, flt := t.flt })) ∧
    (8 ≤ k → k ≤ 11 → r = 0 → Completes (.dimmTempRead k dimm temp) s (fun t => rankOf t k r = { x with temp := temp })) ∧
    (c.st = .trained → Completes (.memCalibration k 0) s (fun t => t.tim.now = max s.tim.now (c.zqAt + 128000000) ∧ ctrl t k = { c with zqAt := t.tim.now } ∧
        t = { s with tim := { s.tim with now := t.tim.now }, mem := { s.mem with ctrls := t.mem.ctrls } }) ∧
      Completes (.memCalibration k 1) s (fun t => t.tim.now = max s.tim.now (c.dqsAt + 16000000) ∧ ctrl t k = { c with dqsAt := t.tim.now } ∧
        t = { s with tim := { s.tim with now := t.tim.now }, mem := { s.mem with ctrls := t.mem.ctrls } }) ∧
      (bit (rd s .memScrubCfg 0) 31 = true → (8 ≤ k → hbmGated s = false) → Completes (.scrubPassEnd ⟨k, gated⟩) s (fun t => ctrl t k = { c with scrubAt := s.tim.now, passWear := [], suspected := [] } ∧
        Raised 0x189 [(1, if k < 8 then 1 else 0), (4, (s.tim.now - c.scrubAt - gated) / 1000000000)] 0 s t ∧ t = { s with mem := { s.mem with ctrls := t.mem.ctrls }, flt := t.flt }))) ∧
    (c.st ≠ .trained → Completes (.memCalibration k kind) s (fun t => t = s) ∧ Completes (.scrubPassEnd ⟨k, gated⟩) s (fun t => t = s)) ∧
    (8 ≤ k → hbmGated s = true → Completes (.scrubPassEnd ⟨k, gated⟩) s (fun t => t = s))

/-- MEM_TRAIN, MEM_FREQ and training steps, MEM_SPARE from its acceptance to its end, and MEM_WEAR_READ (spec/12_memory.md:
Training, frequency and calibration, spec/12_memory.md: Sparing, spec/12_memory.md: Commands and events). Where the spec
leaves a point open it states the model's choice: log entries 11 and 87. -/
def Obligations.ControllersTrainAndSpareRows : Prop :=
  ∀ (c : Cmd) (s : State) (u k j m rate code tag cause kind loc row col dom fi a o : Nat) (x : Ctrl) (r : Repair) (l : List (Nat × Nat × Nat)), Clear s → x = ctrl s k → m ≠ k → (ctrl s m).wq = [] →
    (k ∈ unitCtrls s u → j ∉ unitCtrls s u → (u < 4 → countOk s = true) →
      (u ≤ 3 ∨ 8 ≤ u → u ≤ 11 → (u < 4 → fld s .memDdrCfg 0 21 20 ≤ topRate s) → freqWaits s u = false → (unitCtrls s u).all (fun i => (ctrl s i).st == .untrained || (ctrl s i).st == .failed) = true →
        Completes (.memTrain c u) s (fun t => Replied c 0x0601 1 0 0 t ∧ (ctrl t k).st = .training ∧ (ctrl t k).step = 1 ∧
          (x.st = .untrained → k < 8 → (ctrl t k).rate = fld s .memDdrCfg 0 21 20) ∧ (ctrl t j).st = (ctrl s j).st ∧
          tgetD t.mem.trainTags u [] = tgetD s.mem.trainTags u [] ++ [c.tag] ∧ t = { s with mem := t.mem, hif := t.hif, flt := t.flt, wire := t.wire })) ∧
      (u ≤ 3 → rate = 4800 ∨ rate = 5600 ∨ rate = 6400 → rateCode rate ≤ topRate s → storeUsed s 1 = 0 → storeCap s 1 = 0 → s.mem.wins = [] → s.mem.moves = [] → freqWaits s u = false →
        ((unitCtrls s u).all (fun i => (ctrl s i).st != .training) = true → Completes (.memFreq c u rate) s (fun t => Replied c 0x0602 1 0 0 t ∧ (ctrl t k).st = .training ∧ (ctrl t k).step = 1 ∧
          (ctrl t k).rate = rateCode rate ∧ (ctrl t j).st = (ctrl s j).st ∧ t = { s with mem := t.mem, hif := t.hif, flt := t.flt, wire := t.wire })) ∧
        (x.st = .training → Completes (.memFreq c u rate) s (EndsAccepted c 0x0602 { s with mem := { s.mem with freqWait := s.mem.freqWait ++ [(u, rateCode rate, c.tag)] } }))) ∧
      (s.mem.freqWait = (u, code, tag) :: l → freqWaits { s with mem := { s.mem with freqWait := l } } u = false → Completes (.memFreqRestart u) s (fun t => (ctrl t k).st = .training ∧ (ctrl t k).step = 1 ∧
        (ctrl t k).rate = code ∧ (ctrl t j).st = (ctrl s j).st ∧ freqWaits t u = false ∧ RaisedOnce 0x185 s t ∧ t = { s with mem := t.mem, flt := t.flt }))) ∧
    (k ∈ unitCtrls s u → u < 4 → countOk s = false → fld s .memDdrCfg 0 21 20 ≤ topRate s → freqWaits s u = false → (unitCtrls s u).all (fun i => (ctrl s i).st == .untrained || (ctrl s i).st == .failed) = true →
      Completes (.memTrain c u) s (fun t => Replied c 0x0601 1 0 0 t ∧ (ctrl t k).st = .failed)) ∧
    (k ∈ unitCtrls s u → u ≤ 3 ∨ 8 ≤ u → u ≤ 11 → (u < 4 → fld s .memDdrCfg 0 21 20 ≤ topRate s) → x.st = .training ∨ x.st = .trained → Completes (.memTrain c u) s (Fails c 0x0601 0x20 0 s)) ∧
    (unitCtrls s u = [] → Completes (.memTrain c u) s (Fails c 0x0601 0x11 (argAt c 24 s) s) ∧ Completes (.memFreq c u rate) s (Fails c 0x0602 0x11 (argAt c 24 s) s)) ∧
    (u ≤ 3 → unitCtrls s u ≠ [] → rate = 6400 → topRate s = 1 → Completes (.memFreq c u rate) s (Fails c 0x0602 0x11 (argAt c 26 s) s)) ∧
    (freqWaits s u = false → Completes (.memFreqRestart u) s (fun t => t = s)) ∧
    (x.st ≠ .training → Completes (.trainStepDone k none) s (fun t => t = s)) ∧
    (x.st = .training → freqWaits s (unitOf k) = false →
      (x.step < (if k < 8 then 6 else 4) → Completes (.trainStepDone k none) s (fun t => ctrl t k = { x with step := x.step + 1 } ∧ ctrl t m = ctrl s m ∧
        t = { s with mem := { s.mem with ctrls := t.mem.ctrls } })) ∧
      ((if k < 8 then 6 else 4) ≤ x.step → tgetD s.mem.trainTags (unitOf k) [] = [tag] → Completes (.trainStepDone k none) s (fun t => ctrl t k = { x with st := .trained, scrubAt := s.tim.now } ∧ ctrl t m = ctrl s m ∧
        Raised 0x183 [(1, k), (2, rateOf s k)] 0 s t ∧ ((unitCtrls s (unitOf k)).all (fun i => i == k || (ctrl s i).st != .training) = true → Final 0x183 tag t) ∧
        t = { s with mem := { s.mem with ctrls := t.mem.ctrls, moverOff := t.mem.moverOff, trainTags := t.mem.trainTags }, flt := t.flt })) ∧
      (tgetD s.mem.trainTags (unitOf k) [] = [tag] → Completes (.trainStepDone k (some cause)) s (fun t => ctrl t k = { x with st := .failed } ∧ ctrl t m = ctrl s m ∧
        Raised 0x184 [(1, k), (1, x.step), (1, cause)] 0 s t ∧ t = { s with mem := { s.mem with ctrls := t.mem.ctrls, trainTags := t.mem.trainTags }, flt := t.flt }))) ∧
    (spareBad s kind loc row col = some o → Completes (.memSpare c kind loc row col dom fi) s (Fails c 0x0610 0x11 (argAt c o s) s)) ∧
    (spareBad s kind loc row col = none → k = locCluster loc → dom ≤ 7 → domEn s dom = true →
      (kind ≠ 2 → 16 ≤ holdingRows s k → Completes (.memSpare c kind loc row col dom fi) s (Fails c 0x0610 0x12 0 s)) ∧
      (kind = 0 → holdingRows s k < 16 → sparePending s k = true → Completes (.memSpare c kind loc row col dom fi) s (Fails c 0x0610 0x20 0 s)) ∧
      (kind = 0 ∨ kind = 3 → holdingRows s k < 16 → sparePending s k = false →
        (tOf s dom (fullFi s dom fi) < s.tim.now + framesNs s dom 2 → Completes (.memSpare c kind loc row col dom fi) s (Fails c 0x0610 0x31 0 s)) ∧
        (s.tim.now + framesNs s dom 2 ≤ tOf s dom (fullFi s dom fi) → Completes (.memSpare c kind loc row col dom fi) s (fun t => Replied c 0x0610 1 0 0 t ∧
          ctrl t k = { x with repairs := x.repairs ++ [{ kind := kind, loc := loc, row := row, col := col, dom := dom, fi := fullFi s dom fi, tag := c.tag }] } ∧ ctrl t m = ctrl s m ∧
          t = { s with mem := { s.mem with ctrls := t.mem.ctrls }, hif := t.hif, flt := t.flt, wire := t.wire })))) ∧
    (x.repairs = [] → Completes (.memSpareCopyDone k) s (fun t => t = s) ∧ Completes (.memSpareBoundary k) s (fun t => t = s) ∧ Completes (.memSpareRepairDone k true) s (fun t => t = s)) ∧
    (x.repairs = [r] → x.st = .trained → (k < 8 → countOk s = true) →
      (r.kind ≠ 2 → r.phase = 0 → Completes (.memSpareCopyDone k) s (fun t => ctrl t k = { x with repairs := [{ r with phase := 1 }] } ∧ ctrl t m = ctrl s m ∧ t = { s with mem := { s.mem with ctrls := t.mem.ctrls } })) ∧
      (r.kind ≠ 2 → r.phase = 1 → Completes (.memSpareBoundary k) s (fun t => t.tim.now = max s.tim.now (tOf s r.dom r.fi) ∧ ctrl t k = { x with repairs := [{ r with phase := 2 }] } ∧ ctrl t m = ctrl s m ∧
        t = { s with tim := { s.tim with now := t.tim.now }, mem := { s.mem with ctrls := t.mem.ctrls } })) ∧
      (r.kind = 2 → r.phase = 0 → Completes (.memSpareBoundary k) s (fun t => ctrl t k = { x with repairs := [{ r with phase := 3 }] } ∧ ctrl t m = ctrl s m ∧
        Final 0x188 r.tag t ∧ Raised 0x188 [(1, r.kind), (4, r.loc), (1, 0)] 0 s t)) ∧
      (r.phase = 2 → Completes (.memSpareRepairDone k true) s (fun t => ctrl t k = { x with repairs := [{ r with phase := 3 }] } ∧ ctrl t m = ctrl s m ∧ Final 0x188 r.tag t ∧
          Raised 0x188 [(1, r.kind), (4, r.loc), (1, 0)] 0 s t ∧ t = { s with mem := { s.mem with ctrls := t.mem.ctrls }, flt := t.flt }) ∧
        Completes (.memSpareRepairDone k false) s (fun t => ctrl t k = { x with repairs := [{ r with phase := 4 }] } ∧ Final 0x188 r.tag t ∧ Raised 0x188 [(1, r.kind), (4, r.loc), (1, 1)] 0 s t))) ∧
    (x.repairs = [r] → r.phase < 2 → x.st ≠ .trained → Completes (.memSpareBoundary k) s (fun t => t.tim.now = max s.tim.now (tOf s r.dom r.fi) ∧ ctrl t k = { x with repairs := [] } ∧ ctrl t m = ctrl s m ∧
      Final 0x18D r.tag t ∧ Raised 0x18D [(1, r.kind), (4, r.loc), (1, 0)] 0 s t ∧ t = { s with tim := { s.tim with now := t.tim.now }, mem := { s.mem with ctrls := t.mem.ctrls }, flt := t.flt })) ∧
    (k ≤ 11 → c.hostOk = true → Completes (.memWearRead c k a) s (EndsDone c 0x0611 0 (hostWrite a (wearRecord s k) s))) ∧
    (11 < k → Completes (.memWearRead c k a) s (Fails c 0x0611 0x11 (argAt c 24 s) s))

/-- MEM_WIN_SET, MOVER_RESERVE_WRITE, MEM_MOVE and MEM_MOVE_DONE: where each completes, and with what (spec/12_memory.md: Regions
and windows, spec/12_memory.md: Organisation and admissible bandwidth, spec/12_memory.md: Commands and events). Where the spec
leaves a point open it states the model's choice: log entries 11, 90, 91 and 172. -/
def Obligations.WindowsAndTheMemoryMover : Prop :=
  ∀ (c : Cmd) (s q u w : State) (i j st base size rsv a o master n ix line : Nat) (v : Word) (rg : Reg) (img : List Byte) (m : Move) (ms : List Move) (y : MemWin), Clear s → q = place a img s → w = { s with tim := { s.tim with now := max s.tim.now (moveEnd s m) }, mem := { s.mem with moves := ms, moverAt := max s.tim.now (moveEnd s m) } } → i ≠ j → regOff rg ix 0 ≠ regOff .memMoverCfg 0 0 →
    (i ≤ 1 → st ≤ 1 → 0 < size → regionMib s st ≤ base * 1024 → overlaps s i st base size = false → base + size + reserveGib st ≤ storeGib s st →
      (pcieMode s = false → (win s i).opened = false ∨ committed s i = false → storeBw (setWin i {} s) st + rsv ≤ storeLimit s st → (∃ t, exec (.memWinSet c i st base size rsv) s = .next t ∧ Replied c 0x0603 0 0 0 t ∧
        win t i = { opened := true, store := st, base := base, size := size, reserve := rsv } ∧ win t j = win s j ∧
        t.tim.now = (if hbmGated s && st == 0 then s.tim.now + 1000000 else s.tim.now) ∧ t = { s with tim := { s.tim with now := t.tim.now }, mem := { s.mem with wins := t.mem.wins }, hif := t.hif, flt := t.flt, wire := t.wire })) ∧
      (pcieMode s = false → (win s i).opened = false ∨ committed s i = false → storeLimit s st < storeBw (setWin i {} s) st + rsv → Completes (.memWinSet c i st base size rsv) s (Fails c 0x0603 0x13 (argAt c 32 s) s)) ∧
      (pcieMode s = true ∨ (win s i).opened = true ∧ committed s i = true → Completes (.memWinSet c i st base size rsv) s (Fails c 0x0603 0x20 0 s))) ∧
    (i ≤ 1 → st ≤ 1 → pcieMode s = false → (win s i).opened = false ∨ committed s i = false → (∃ t, exec (.memWinSet c i st base 0 rsv) s = .next t ∧ Replied c 0x0603 0 0 0 t ∧ win t i = {} ∧ win t j = win s j ∧
      t = { s with mem := { s.mem with wins := t.mem.wins }, hif := t.hif, flt := t.flt, wire := t.wire })) ∧
    (1 < i → Completes (.memWinSet c i st base size rsv) s (Fails c 0x0603 0x11 (argAt c 24 s) s)) ∧
    (n = bits v.toNat 15 0 → masterOk s master = true → (s.hif.lock = false ∨ n = moverReserve s) → (storeLimit s 0 = 0 ∨ storeUsed s 0 + n ≤ storeLimit s 0) → (storeLimit s 1 = 0 ∨ storeUsed s 1 + n ≤ storeLimit s 1) →
      (∃ t, exec (.moverReserveWrite master v) s = .next t ∧ moverReserve t = n ∧ rd t rg ix = rd s rg ix ∧ t.mem.moverOff = s.mem.moverOff.filter (fun k => storeLimit s k == 0) ∧
        t = { s with regs := t.regs, mem := { s.mem with moverOff := t.mem.moverOff } })) ∧
    (n = bits v.toNat 15 0 → masterOk s master = true → (s.hif.lock = true ∧ n ≠ moverReserve s) ∨ (storeLimit s 0 ≠ 0 ∧ storeLimit s 0 < storeUsed s 0 + n) ∨ (storeLimit s 1 ≠ 0 ∧ storeLimit s 1 < storeUsed s 1 + n) → (∃ t, exec (.moverReserveWrite master v) s = .next t ∧ RaisedOnce 0x009 s t ∧
      (master < 4 → t.hif.resp = some .errorResponse) ∧ t = { s with flt := t.flt, hif := { s.hif with resp := t.hif.resp } })) ∧
    (masterOk s master = false → (∃ t, exec (.moverReserveWrite master v) s = .next t ∧ t = s)) ∧
    (c.hostOk = true → m = parseMove (hostBytes q a 32) c.tag true →
      (64 ≤ m.len → m.len ≤ 2 ^ 30 → m.len % 64 = 0 → m.srcWin.isSome = true ∨ m.dstWin.isSome = true → inWin s m.srcWin m.src m.len = true → inWin s m.dstWin m.dst m.len = true →
        (s.mem.moves.length < 17 → moverReserve s ≠ 0 → moverOk s m.srcWin = true → moverOk s m.dstWin = true → Completes (.memMove c a img) s
          (EndsAccepted c 0x0604 { q with mem := { s.mem with moves := s.mem.moves ++ [m], moverAt := if s.mem.moves = [] then s.tim.now else s.mem.moverAt } })) ∧
        (17 ≤ s.mem.moves.length → Completes (.memMove c a img) s (Fails c 0x0604 0x12 0 q)) ∧
        (s.mem.moves.length < 17 → moverReserve s = 0 ∨ moverOk s m.srcWin = false ∨ moverOk s m.dstWin = false → Completes (.memMove c a img) s (Fails c 0x0604 0x20 0 q))) ∧
      (m.len < 64 → Completes (.memMove c a img) s (Fails c 0x0604 0x11 (a + 16) q)) ∧
      (64 ≤ m.len → m.len ≤ 2 ^ 30 → m.len % 64 = 0 → m.srcWin.isSome = true → inWin s m.srcWin m.src m.len = false → Completes (.memMove c a img) s (Fails c 0x0604 0x11 a q))) ∧
    (s.mem.moves = m :: ms → moverRuns s m = true → u = (moveLines m (m.len / 64) 0 w).1 →
      ((moveLines m (m.len / 64) 0 w).2 = none → (∃ t, exec (.memMoveDone true) s = .next t ∧ t = { u with flt := t.flt } ∧ t.mem.moves = ms ∧
        Final 0x18A m.tag t ∧ Raised 0x18A [(1, 0), (4, 0)] 0 u t)) ∧
      ((moveLines m (m.len / 64) 0 w).2 = some o → (∃ t, exec (.memMoveDone true) s = .next t ∧ t = { u with flt := t.flt } ∧ t.mem.moves = ms ∧
        Final 0x18A m.tag t ∧ Raised 0x18A [(1, 1), (4, o)] 0 u t))) ∧
    (s.mem.moves = [] → (∃ t, exec (.memMoveDone true) s = .next t ∧ t = s)) ∧
    (s.mem.moves = m :: ms → moverRuns s m = false → (∃ t, exec (.memMoveDone true) s = .next t ∧ t = s)) ∧
    (s.mem.moves = m :: ms → moverRuns s m = true → (m.srcWin = none ∨ m.dstWin = none) → (∃ t, exec (.memMoveDone false) s = .next t ∧ t = { w with flt := t.flt } ∧
      Final 0x18A m.tag t ∧ Raised 0x18A [(1, 2), (4, 0)] 0 s t)) ∧
    (s.mem.moves = m :: ms → moverRuns s m = true → m.len = 64 → m.srcWin = none → m.dstWin = some i → y = win s i → y.base * 2 ^ 30 + m.dst = 64 * line → reaches s y.store (64 * line) = true →
      ((queued s y.store line).isSome = true ∨ (sameQueue s y.store line).length < 31) → (∃ t, exec (.memMoveDone true) s = .next t ∧ t.mem.moves = ms ∧ lineBytesAt t y.store line = hostBytes s m.src 64 ∧
        (o ≠ line → lineBytesAt t y.store o = lineBytesAt s y.store o) ∧ Final 0x18A m.tag t ∧ Raised 0x18A [(1, 0), (4, 0)] 0 s t ∧
        t = { w with mem := { w.mem with ctrls := t.mem.ctrls, poison := t.mem.poison }, hif := { s.hif with granted := t.hif.granted }, flt := t.flt })) ∧
    (s.mem.moves = m :: ms → moverRuns s m = true → m.len = 64 → m.srcWin = some i → m.dstWin = none → y = win s i → y.base * 2 ^ 30 + m.src = 64 * line → reaches s y.store (64 * line) = true →
      (poisoned s y.store line = false → (lineBytesAt s y.store line).length = 64 → Memory.wf s.hif.mem = true → (∃ t, exec (.memMoveDone true) s = .next t ∧ t.mem.moves = ms ∧ hostBytes t m.dst 64 = lineBytesAt s y.store line ∧
        (o < m.dst ∨ m.dst + 64 ≤ o → cget t.hif.mem o = cget s.hif.mem o) ∧ Final 0x18A m.tag t ∧ Raised 0x18A [(1, 0), (4, 0)] 0 s t)) ∧
      (poisoned s y.store line = true → (∃ t, exec (.memMoveDone true) s = .next t ∧ t.mem.moves = ms ∧ t.hif.mem = s.hif.mem ∧ Final 0x18A m.tag t ∧ RaisedOnce 0x18A s t)))

/-- A lane step that succeeds or times out, the retry, the loss of lock and the measurement of margins (spec/08_lane_complex.md:
Bring-up, spec/08_lane_complex.md: Adaptation, spec/08_lane_complex.md: Commands and events). Where the spec leaves a point
open it states the model's choice: log entries 4, 84, 147, 159, 160 and 161. -/
def Obligations.LanesTrainFailAndRestart : Prop :=
  ∀ (s : State) (n k m h v : Nat) (l : Lane) (r : StepResult) (f : Capability), Settled s → l = lane s n → k ≠ n →
    bit (rd s .fltSrcCfg 0x0C0) 27 = false → bit (rd s .fltSrcCfg 0x0C1) 27 = false → bit (rd s .fltSrcCfg 0x0C2) 27 = false → bit (rd s .fltSrcCfg 0x0C3) 27 = false → bit (rd s .fltSrcCfg 0x081) 27 = false →
    (laneUse s n = 2 → stepOpen s n = true →
      (l.step = 0 → 425 ≤ r.far.rate → Completes (.laneStepDone ⟨n, r⟩) s (fun t => lane t n = { l with far := r.far, st := .step, step := 1, rate := stepRate 1, best := max l.best (stepRate 1), since := s.tim.now } ∧
        lane t k = lane s k ∧ t = { s with lnx := { s.lnx with lanes := t.lnx.lanes } })) ∧
      (l.step = 0 → r.far.rate < 425 → l.failAt = none → Completes (.laneStepDone ⟨n, r⟩) s (fun t => lane t n = { l with far := r.far, st := .failed, rate := 0, since := s.tim.now, failAt := some s.tim.now } ∧
        Raised 0x0C1 [(1, laneName s n), (2, l.best), (1, 0)] 0 s t ∧ lane t k = lane s k ∧ t = { s with lnx := { s.lnx with lanes := t.lnx.lanes }, flt := t.flt })) ∧
      (0 < l.step → l.step < 3 → Completes (.laneStepDone ⟨n, r⟩) s (fun t => t.tim.now = max s.tim.now (l.since + 10000000) ∧
        lane t n = { l with tx := r.tx, rx := r.rx, adaptAt := t.tim.now, st := .step, step := l.step + 1, rate := stepRate (l.step + 1), best := max l.best (stepRate (l.step + 1)), since := t.tim.now } ∧
        lane t k = lane s k ∧ t = { s with tim := { s.tim with now := t.tim.now }, lnx := { s.lnx with lanes := t.lnx.lanes } })) ∧
      (3 ≤ l.step → n ≤ 143 → (link s n).started = false ∨ (link s n).st = .down → Completes (.laneStepDone ⟨n, r⟩) s (fun t => t.tim.now = max s.tim.now (l.since + 10000000) ∧
        lane t n = { l with tx := r.tx, rx := r.rx, adaptAt := t.tim.now, st := .trained, rate := 425, best := max l.best 425, failAt := none, marginAt := t.tim.now } ∧
        Raised 0x0C0 [(1, n), (2, 425)] 0 s t ∧ ((link s n).started = false → t.aqf = s.aqf) ∧ ((link s n).started = true → (link t n).st = .framing) ∧ (link t k = link s k) ∧ lane t k = lane s k ∧
        t = { s with tim := { s.tim with now := t.tim.now }, lnx := { s.lnx with lanes := t.lnx.lanes }, aqf := { s.aqf with links := t.aqf.links }, flt := t.flt })) ∧
      (3 ≤ l.step → 144 ≤ n → Completes (.laneStepDone ⟨n, r⟩) s (fun t => (lane t n).st = .trained ∧ (lane t n).rate = 425 ∧ link t n = { st := .timing } ∧
        Raised 0x0C0 [(1, laneName s n), (2, 425)] 0 s t ∧ lane t k = lane s k ∧ t = { s with tim := { s.tim with now := t.tim.now }, lnx := { s.lnx with lanes := t.lnx.lanes }, aqf := { s.aqf with links := t.aqf.links }, flt := t.flt }))) ∧
    (laneUse s n = 2 → laneSt s n = .base ∨ laneSt s n = .step → m = (if l.step = 0 then 10000000 else 100000000) →
      (l.failAt = none → Completes (.laneStepTimeout ⟨n, none⟩) s (fun t => t.tim.now = max s.tim.now (l.since + m) ∧
        lane t n = { l with st := .failed, rate := 0, since := t.tim.now, failAt := some t.tim.now } ∧ Raised 0x0C1 [(1, laneName s n), (2, l.best), (1, l.step)] 0 s t ∧ lane t k = lane s k ∧
        t = { s with tim := { s.tim with now := t.tim.now }, lnx := { s.lnx with lanes := t.lnx.lanes }, flt := t.flt })) ∧
      (l.failAt = some h → max s.tim.now (l.since + m) < h + 60000000000 → Completes (.laneStepTimeout ⟨n, none⟩) s (fun t => t.tim.now = max s.tim.now (l.since + m) ∧
        lane t n = { l with st := .failed, rate := 0, since := t.tim.now } ∧ lane t k = lane s k ∧ t = { s with tim := { s.tim with now := t.tim.now }, lnx := { s.lnx with lanes := t.lnx.lanes } })) ∧
      (l.step = 0 → f.rate < 425 → l.failAt = none → Completes (.laneStepTimeout ⟨n, some f⟩) s (fun t => lane t n = { l with far := f, st := .failed, rate := 0, since := s.tim.now, failAt := some s.tim.now } ∧
        Raised 0x0C1 [(1, laneName s n), (2, l.best), (1, 0)] 0 s t ∧ lane t k = lane s k ∧ t = { s with lnx := { s.lnx with lanes := t.lnx.lanes }, flt := t.flt }))) ∧
    (laneUse s n = 1 → macOf s n = some m →
      (laneSt s n = .base → r.hcd = macMode s m → Completes (.laneStepDone ⟨n, r⟩) s (fun t =>
        (h ∈ macLanes (rd s .nmpMacCfg m) → (lane t h).st = .step ∧ (lane t h).step = 1 ∧ (lane t h).rate = modeLaneRate (macMode s m) ∧ (lane t h).since = s.tim.now) ∧
        (h ∉ macLanes (rd s .nmpMacCfg m) → lane t h = lane s h) ∧ ((mac s m).st = .negotiating → (mac t m).st = .training) ∧ (mac t m).hcd = r.hcd ∧
        t = { s with lnx := { s.lnx with lanes := t.lnx.lanes }, nmp := { s.nmp with macs := t.nmp.macs } })) ∧
      (laneSt s n = .base → r.hcd ≠ macMode s m → (mac s m).st ≠ .negotiating → Completes (.laneStepDone ⟨n, r⟩) s (fun t => mac t m = { mac s m with hcd := r.hcd } ∧
        t = { s with nmp := { s.nmp with macs := t.nmp.macs } })) ∧
      (laneSt s n = .base → r.hcd ≠ macMode s m → m ≤ 15 → macEn s m = true → (mac s m).st = .negotiating → bit (rd s .fltSrcCfg 0x101) 27 = false → Completes (.laneStepDone ⟨n, r⟩) s (fun t =>
        (mac t m).hcd = r.hcd ∧ (mac t m).st = .negotiating ∧ (mac t m).retryAt = some (s.tim.now + 500000000) ∧ RaisedOnce 0x101 s t ∧ lane t h = lane s h)) ∧
      (laneSt s n = .step → stepOpen s n = true → Completes (.laneStepDone ⟨n, r⟩) s (fun t =>
        lane t n = { l with tx := r.tx, rx := r.rx, adaptAt := s.tim.now, st := .trained, rate := modeLaneRate (macMode s m), best := max l.best (modeLaneRate (macMode s m)), failAt := none, marginAt := s.tim.now } ∧
        Raised 0x0C0 [(1, n), (2, modeLaneRate (macMode s m))] 0 s t ∧ (macLanes (rd s .nmpMacCfg m) = [n] → (mac s m).st = .training → (mac t m).st = .aligning) ∧ lane t k = lane s k ∧
        t = { s with lnx := { s.lnx with lanes := t.lnx.lanes }, nmp := { s.nmp with macs := t.nmp.macs }, flt := t.flt })) ∧
      (laneSt s n = .step → Completes (.laneStepTimeout ⟨n, none⟩) s (fun t => t.tim.now = max s.tim.now (l.since + 500000000) ∧ (lane t n).st = .failed ∧
        (mac t m).retryAt = some (t.tim.now + 500000000) ∧ RaisedOnce 0x0C1 s t ∧ lane t k = lane s k ∧ t = { s with tim := { s.tim with now := t.tim.now }, lnx := { s.lnx with lanes := t.lnx.lanes }, nmp := { s.nmp with macs := t.nmp.macs }, flt := t.flt })) ∧
      (laneSt s n = .base → l.st = .base → Completes (.laneStepTimeout ⟨n, none⟩) s (fun t => t = s))) ∧
    (laneSt s n ≠ .base → laneSt s n ≠ .step → Completes (.laneStepDone ⟨n, r⟩) s (fun t => t = s) ∧ Completes (.laneStepTimeout ⟨n, none⟩) s (fun t => t = s)) ∧
    (laneUse s n = 2 → laneSt s n = .failed → l.scan = none → Completes (.laneRetry n) s (fun t => t.tim.now = max s.tim.now (l.since + 1000000000) ∧
      lane t n = { l with st := .base, step := 0, rate := 5, best := 5, since := t.tim.now } ∧ lane t k = lane s k ∧
      t = { s with tim := { s.tim with now := t.tim.now }, lnx := { s.lnx with lanes := t.lnx.lanes }, wire := s.wire ++ [.capability n { presets := Config.presets, spare := decide (144 ≤ n) }] })) ∧
    (laneSt s n ≠ .failed ∨ laneUse s n ≠ 2 → Completes (.laneRetry n) s (fun t => t = s)) ∧
    (laneUse s n = 2 → n ≤ 143 → laneSt s n = .trained →
      ((link s n).st = .down → Completes (.laneLockLost n) s (fun t => (lane t n).st = .base ∧ (lane t n).rate = 5 ∧ RaisedOnce 0x0C2 s t ∧ t.tim.now = s.tim.now + 1 ∧ lane t k = lane s k ∧
        t = { s with tim := { s.tim with now := t.tim.now }, lnx := { s.lnx with lanes := t.lnx.lanes }, flt := t.flt, wire := s.wire ++ [.capability n { presets := Config.presets, spare := false }] })) ∧
      ((link s n).st = .up → pendingSpares s n = [] → Completes (.laneLockLost n) s (fun t => (lane t n).st = .base ∧ (link t n).st = .down ∧ RaisedOnce 0x0C2 s t ∧ RaisedOnce 0x081 s t ∧ lane t k = lane s k ∧
        t = { s with tim := t.tim, lnx := { s.lnx with lanes := t.lnx.lanes }, aqf := t.aqf, flt := t.flt, wire := s.wire ++ [.capability n { presets := Config.presets, spare := false }] }))) ∧
    (144 ≤ n → laneSt s n = .trained → Completes (.laneLockLost n) s (fun t => (lane t n).st = .base ∧ (spareLane t (n - 144)).st = .shadow ∧ tget? t.aqf.links n = none ∧ RaisedOnce 0x0C2 s t ∧ lane t k = lane s k ∧
      t = { s with lnx := t.lnx, aqf := { s.aqf with links := t.aqf.links }, flt := t.flt, wire := t.wire })) ∧
    (laneSt s n ≠ .trained → Completes (.laneLockLost n) s (fun t => t = s) ∧ Completes (.laneMarginMeasure n h v) s (fun t => t = s)) ∧
    (laneSt s n = .trained → l.scan = none → m = nextOf (marginNs s) l.marginAt →
      (h < fld s .lnxMarginCfg 0 23 16 → l.marginH.low = false ∨ (l.marginH.good.map (fun q => decide (q + marginNs s ≤ max s.tim.now m))) = some true → Completes (.laneMarginMeasure n h v) s (fun t =>
        (lane t n).marginH = { value := h, low := true, good := none } ∧ (lane t n).marginV.value = v ∧ (lane t n).marginAt = t.tim.now ∧ t.tim.now = max s.tim.now m ∧
        Raised 0x0C3 [(1, n), (1, h), (1, v)] 0 s t ∧ lane t k = lane s k ∧ t = { s with tim := { s.tim with now := t.tim.now }, lnx := { s.lnx with lanes := t.lnx.lanes }, flt := t.flt })) ∧
      (h < fld s .lnxMarginCfg 0 23 16 → l.marginH.low = true → l.marginH.good = none → fld s .lnxMarginCfg 0 15 8 ≤ v → Completes (.laneMarginMeasure n h v) s (fun t =>
        (lane t n).marginH = { value := h, low := true, good := none } ∧ t.flt = s.flt ∧ t = { s with tim := { s.tim with now := t.tim.now }, lnx := { s.lnx with lanes := t.lnx.lanes } })) ∧
      (v < fld s .lnxMarginCfg 0 15 8 → l.marginV.low = false → Completes (.laneMarginMeasure n h v) s (fun t => (lane t n).marginV = { value := v, low := true, good := none } ∧ RaisedOnce 0x0C3 s t)) ∧
      (fld s .lnxMarginCfg 0 23 16 ≤ h → fld s .lnxMarginCfg 0 15 8 ≤ v → Completes (.laneMarginMeasure n h v) s (fun t => (lane t n).marginH.value = h ∧ (lane t n).marginV.value = v ∧
        (lane t n).marginH.good = some (l.marginH.good.getD t.tim.now) ∧ t.tim.now = max s.tim.now m ∧ lane t k = lane s k ∧ t = { s with tim := { s.tim with now := t.tim.now }, lnx := { s.lnx with lanes := t.lnx.lanes } })))

/-- Eye scans, PRBS tests and the sparing of a lane (spec/08_lane_complex.md: Eye scan, spec/08_lane_complex.md: PRBS test,
spec/08_lane_complex.md: Lane sparing, spec/08_lane_complex.md: Commands and events). Where the spec leaves a point open it
states the model's choice: log entries 11, 83, 84, 85, 143, 160 and 162. -/
def Obligations.ScansTestsAndSpareLanes : Prop :=
  ∀ (c : Cmd) (s w : State) (n k j eye hs vs dw a rate pat dir ms spare dom fi die q : Nat) (counts : List Nat) (l : Lane) (e : EyeScan) (p : Prbs) (x : SpareLane), Clear s → w = ungateQuad n s → l = lane s n → k ≠ n →
    q = 4 * die + spare → x = spareLane s q → j ≠ q → k ≠ 144 + q →
    bit (rd s .fltSrcCfg 0x0C4) 27 = false → bit (rd s .fltSrcCfg 0x0C5) 27 = false → bit (rd s .fltSrcCfg 0x0C6) 27 = false → bit (rd s .fltSrcCfg 0x0C7) 27 = false → bit (rd s .fltSrcCfg 0x087) 27 = false →
    (n ≤ 143 → eye ≤ 2 → (l.rate = 103 → eye = 0) → scanStepOk hs = true → scanStepOk vs = true → 5 ≤ dw → dw ≤ 10 →
      (laneSt s n = .trained → l.scan = none → c.hostOk = true → Completes (.laneEyeScan c n eye hs vs dw a) s (EndsAccepted c 0x0910
        (setLane n { l with scan := some { eye := eye, hStep := hs, vStep := vs, dwell := dw, rate := l.rate, start := s.tim.now, addr := a, cmd := c } } s))) ∧
      (laneSt s n ≠ .trained ∨ l.scan.isSome = true → Completes (.laneEyeScan c n eye hs vs dw a) s (Fails c 0x0910 0x20 0 s))) ∧
    (143 < n → Completes (.laneEyeScan c n eye hs vs dw a) s (Fails c 0x0910 0x11 (argAt c 24 s) s) ∧ Completes (.lanePrbsStop c n) s (Fails c 0x0911 0x11 (argAt c 24 s) s) ∧
      Completes (.laneSpare c n spare dom fi) s (Fails c 0x0640 0x11 (argAt c 24 s) s)) ∧
    (l.scan = some e → Completes (.laneEyeDone n counts) s (fun t => lane t n = { l with scan := none } ∧ lane t k = lane s k ∧
      (Memory.wf s.hif.mem = true → hostBytes t e.addr (eyeRecord n s.tim.now e counts).length = eyeRecord n s.tim.now e counts) ∧ Final 0x0C4 e.cmd.tag t ∧
      Raised 0x0C4 [(1, n), (1, if e.early then 1 else 0)] 0 s t ∧ t = { s with lnx := { s.lnx with lanes := t.lnx.lanes }, hif := { s.hif with mem := t.hif.mem }, flt := t.flt })) ∧
    (l.scan = none → Completes (.laneEyeDone n counts) s (fun t => t = s)) ∧
    (n ≤ 143 → rate ≤ 1 → pat ≤ 4 → 1 ≤ dir → dir ≤ 3 →
      (laneSt s n = .idle → Completes (.lanePrbs c n rate pat dir ms) s (EndsAccepted c 0x0911
        (setLane n { l with st := .prbs, rate := stepRate rate, prbsErr := 0, prbs := some { rate := rate, pattern := pat, dir := dir, tag := c.tag, start := w.tim.now, stopAt := if ms = 0 then none else some (w.tim.now + ms * 1000000) } } w))) ∧
      (laneSt s n ≠ .idle → Completes (.lanePrbs c n rate pat dir ms) s (Fails c 0x0911 0x20 0 s)) ∧
      Completes (.lanePrbs c n rate 5 dir ms) s (Fails c 0x0911 0x11 (argAt c 26 s) s)) ∧
    (n ≤ 143 → laneSt s n = .prbs → l.prbs = some p → Completes (.lanePrbsStop c n) s (EndsDone c 0x0911 0 (setLane n { l with prbs := some { p with stopAt := some s.tim.now } } s)) ∧
      Completes (.lanePrbs c n 0 0 0 0) s (EndsDone c 0x0911 0 (setLane n { l with prbs := some { p with stopAt := some s.tim.now } } s))) ∧
    (n ≤ 143 → laneSt s n ≠ .prbs → Completes (.lanePrbsStop c n) s (Fails c 0x0911 0x20 0 s)) ∧
    (l.prbs = some p → p.stopAt = some a → Completes (.lanePrbsDone n k) s (fun t => t.tim.now = max s.tim.now a ∧
      lane t n = { l with st := .idle, rate := 0, prbs := none, prbsErr := if p.dir = 1 then 0 else min (max (min (Config.prbsErrors n p.start t.tim.now) (2 ^ 32 - 1)) k) (2 ^ 32 - 1) } ∧ lane t k = lane s k ∧ Final 0x0C5 p.tag t ∧
      Raised 0x0C5 [(1, n), (4, (lane t n).prbsErr)] 0 s t ∧
      t = { s with tim := { s.tim with now := t.tim.now }, lnx := { s.lnx with lanes := t.lnx.lanes }, flt := t.flt })) ∧
    (l.prbs = none → Completes (.lanePrbsDone n k) s (fun t => t = s)) ∧
    (n ≤ 143 → spare ≤ 3 → dom ≤ 7 → domEn s dom = true → die = laneDie n → x.st ≠ .free → Completes (.laneSpare c n spare dom fi) s (Fails c 0x0640 0x12 0 s)) ∧
    (n ≤ 143 → spare ≤ 3 → dom ≤ 7 → domEn s dom = true → die = laneDie n → x.st = .free → laneSt s n ≠ .prbs → macOf s n = none → pendingSpares s n = [] →
      (s.tim.now + 1000000000 ≤ tOf s dom (fullFi s dom fi) → Completes (.laneSpare c n spare dom fi) s (EndsAccepted c 0x0640
        (if laneQuiet s n then setSpareLane q { st := .ready, lane := n, dom := dom, fi := fullFi w dom fi, cycle := ceilDiv (tOf s dom (fullFi w dom fi)) 81920, tag := c.tag, flight := (link s n).flight } w
         else startLane (144 + q) (setSpareLane q { st := .shadow, lane := n, dom := dom, fi := fullFi w dom fi, cycle := ceilDiv (tOf s dom (fullFi w dom fi)) 81920, tag := c.tag, flight := (link s n).flight } w)))) ∧
      (tOf s dom (fullFi s dom fi) < s.tim.now + 1000000000 → Completes (.laneSpare c n spare dom fi) s (Fails c 0x0640 0x31 0 s))) ∧
    (n ≤ 143 → spare ≤ 3 → laneQuiet s n = true → die = laneDie n → x.st = .free → macOf s n = none → pendingSpares s n = [] → Completes (.laneSpare c n spare 0xFF fi) s (fun t =>
      Replied c 0x0640 1 0 0 t ∧ (lane t n).spare = some spare ∧ (spareLane t q).st = .inService ∧ (spareLane t q).lane = n ∧ lane t k = lane s k ∧ RaisedOnce 0x0C6 s t ∧
      t.tim.now = w.tim.now ∧ t = { s with tim := { s.tim with now := t.tim.now }, lnx := t.lnx, aqf := { s.aqf with links := t.aqf.links }, hif := t.hif, flt := t.flt, wire := t.wire })) ∧
    (x.st = .shadow → laneSt s (144 + q) = .trained → 16 ≤ (link s (144 + q)).flights.length → steady ((link s (144 + q)).flights.take 16) = true → Completes (.laneShadowReady die spare true) s (fun t =>
      spareLane t q = { x with st := .ready, flight := (link s (144 + q)).flight } ∧ spareLane t j = spareLane s j ∧ t = { s with lnx := { s.lnx with spares := t.lnx.spares } })) ∧
    (x.st ≠ .shadow ∨ laneSt s (144 + q) ≠ .trained ∨ (link s (144 + q)).flights.length < 16 ∨ steady ((link s (144 + q)).flights.take 16) = false → Completes (.laneShadowReady die spare true) s (fun t => t = s)) ∧
    Completes (.laneShadowReady die spare false) s (fun t => t = s) ∧
    (x.st = .shadow → x.lane ≠ 144 + q →
      Completes (.laneSpareCheck die spare) s (fun t => t.tim.now = max s.tim.now (swapAt s x - 163840) ∧ spareLane t q = {} ∧ spareLane t j = spareLane s j ∧ tget? t.lnx.lanes (144 + q) = none ∧ lane t k = lane s k ∧
        Final 0x0C7 x.tag t ∧ Raised 0x0C7 [(1, x.lane), (1, 0)] 0 s t ∧ t = { s with tim := { s.tim with now := t.tim.now }, lnx := { s.lnx with lanes := t.lnx.lanes, spares := t.lnx.spares }, aqf := { s.aqf with links := t.aqf.links }, flt := t.flt }) ∧
      Completes (.laneSpareSwap die spare) s (fun t => spareLane t q = {} ∧ Final 0x0C7 x.tag t ∧ (lane t x.lane).spare = (lane s x.lane).spare)) ∧
    (x.st = .ready → laneQuiet s x.lane = false → 1280 < absDiff x.flight (link s x.lane).flight → Completes (.laneSpareCheck die spare) s (fun t => spareLane t q = {} ∧
        Final 0x0C7 x.tag t ∧ Raised 0x0C7 [(1, x.lane), (1, 2)] 0 s t)) ∧
    (x.st = .ready → spare ≤ 3 → x.lane ≤ 143 → laneQuiet s x.lane = true ∨ absDiff x.flight (link s x.lane).flight ≤ 1280 → Completes (.laneSpareCheck die spare) s (fun t => t.tim.now = max s.tim.now (swapAt s x - 163840) ∧
        t = { s with tim := { s.tim with now := t.tim.now } }) ∧
      Completes (.laneSpareSwap die spare) s (fun t => t.tim.now = max s.tim.now (swapAt s x) ∧ (lane t x.lane).spare = some spare ∧ (spareLane t q).st = .inService ∧ Final 0x0C6 x.tag t ∧
        RaisedOnce 0x0C6 s t ∧ (laneUse s x.lane = 2 → laneQuiet s x.lane = false → link t x.lane = moveFlight (swapAt s x / 20) (link s (144 + q)) (link s x.lane)) ∧
        t = { s with tim := { s.tim with now := t.tim.now }, lnx := t.lnx, aqf := { s.aqf with links := t.aqf.links, routes := t.aqf.routes }, flt := t.flt })) ∧
    (x.st ≠ .shadow → x.st ≠ .ready → Completes (.laneSpareCheck die spare) s (fun t => t = s) ∧ Completes (.laneSpareSwap die spare) s (fun t => t = s))

/-- What the boundary of a fabric cycle, a slot of a link and the reading of an output line do (spec/05_aiquel_fabric.md: Links,
slots and cycles, spec/05_aiquel_fabric.md: Slot plans, spec/05_aiquel_fabric.md: Unscheduled traffic,
spec/04_timetable_switching.md: Platforms and platform depth). Where the spec leaves a point open it states the model's
choice: log entries 4, 95, 111 and 134. -/
def Obligations.SlotsAndCyclesSendTheirCells : Prop :=
  ∀ (s : State) (n k g m o ix line dest cls at_ : Nat) (l : Link) (e : PlanEntry) (x : FeedCell) (xs : List FeedCell) (z : TransitCell) (u : UnschedCell) (us : List UnschedCell) (y : CtrlCell) (f : Flow) (w : XpLive) (q : Stored) (fr : ReadFault) (sb gb : Bool),
    Settled s → l = link s n → m ≠ n → s.aqf.realign = none → k = s.tim.now / 20 →
    (s.aqf.swaps = [] → s.tt.masks = [] → s.red.fabricAt = 0 →
      (s.aqf.closing = [] → s.aqf.opening = [] → Completes (.fabricCycleBoundary) s (fun t => t.aqf.cycle = nextCycle s ∧ t.tim.now = max s.tim.now (81920 * nextCycle s) ∧
        t.wire.length = s.wire.length + (tkeys s.aqf.links (fun _ l => l.st == .up || l.st == .timing)).length ∧
        t = { s with tim := { s.tim with now := t.tim.now }, aqf := { s.aqf with cycle := t.aqf.cycle, ctrlSeq := t.aqf.ctrlSeq }, wire := t.wire })) ∧
      (s.aqf.closing = [] → s.aqf.opening = [(n, g)] → Completes (.fabricCycleBoundary) s (fun t => (link t n).mask.contains g = true ∧ t.aqf.opening = [])) ∧
      (s.aqf.closing = [(n, g)] → s.aqf.opening = [] → Completes (.fabricCycleBoundary) s (fun t => (link t n).mask = l.mask.filter (fun j => j != g) ∧ t.aqf.closing = []))) ∧
    Completes (.fabricSlot n sb gb) s (fun t => Completes (.fabricSlot n false false) s (fun v => t = { v with flt := t.flt }) ∧
      (l.st = .down ∨ l.st = .quiet ∨ k < l.nextSlot → t = s) ∧ (gb = true → l.st ≠ .down → l.st ≠ .quiet → l.nextSlot ≤ k → RaisedOnce 0x245 s t)) ∧
    (l.st ≠ .down → l.st ≠ .quiet → l.nextSlot ≤ k →
      (k % 4096 ≠ 0 → 144 ≤ n ∨ l.st = .framing → Completes (.fabricSlot n false false) s (fun t => t.wire = s.wire ++ [.cell n idleCell] ∧ link t n = { l with nextSlot := k + 1 } ∧ link t m = link s m ∧ t = { s with aqf := { s.aqf with links := t.aqf.links }, wire := t.wire })) ∧
      (k % 4096 = 0 → l.st = .up ∨ l.st = .timing → Completes (.fabricSlot n false false) s (fun t => link t n = { l with nextSlot := k + 1 } ∧ t = { s with aqf := { s.aqf with links := t.aqf.links } })) ∧
      (n ≤ 143 → k % 4096 = 0 → l.st = .framing ∨ l.st = .hello → Completes (.fabricSlot n false false) s (fun t => t.wire = s.wire ++ [.cell n idleCell] ∧ link t n = { l with nextSlot := k + 1 } ∧ link t m = link s m ∧ t = { s with aqf := { s.aqf with links := t.aqf.links }, wire := t.wire }))) ∧
    (n ≤ 143 → l.st = .up → l.nextSlot ≤ k → k % 4096 ≠ 0 → (activeBank l).ok = true → e = tgetD (activeBank l).tx (k % 4096) {} →
      (e.kind = 2 → l.mask.contains e.group = true → fabricOn s = true → tget? s.aqf.fed e.ref = none → feedOf s e.ref = x :: xs → Completes (.fabricSlot n false false) s (fun t =>
        t.wire = s.wire ++ [.cell n (schedBytes e.label l.active x)] ∧ feedOf t e.ref = xs ∧ link t n = { l with nextSlot := k + 1 } ∧ link t m = link s m ∧
        t = { s with aqf := { s.aqf with links := t.aqf.links, feed := t.aqf.feed, fed := t.aqf.fed }, wire := t.wire })) ∧
      (e.kind = 2 → l.mask.contains e.group = true → tget? s.aqf.fed e.ref = none → feedOf s e.ref = [] → Completes (.fabricSlot n false false) s (fun t => t.wire = s.wire ++ [.cell n idleCell] ∧ link t n = { l with nextSlot := k + 1 } ∧ link t m = link s m ∧ t = { s with aqf := { s.aqf with links := t.aqf.links }, wire := t.wire })) ∧
      (e.kind = 3 → l.mask.contains e.group = true → fabricOn s = true → s.aqf.transit = [] → Completes (.fabricSlot n false false) s (fun t => Raised 0x08C [(2, e.ref), (2, k % 4096)] 0 s t ∧
        t.wire = s.wire ++ [.cell n idleCell] ∧ link t n = { l with nextSlot := k + 1 } ∧ t = { s with aqf := { s.aqf with links := t.aqf.links }, wire := t.wire, flt := t.flt })) ∧
      (e.kind = 3 → l.mask.contains e.group = true → fabricOn s = true → s.aqf.transit = [z] → z.queue = e.ref → z.due = k → z.payload ≠ [] → Completes (.fabricSlot n false false) s (fun t =>
        t.wire = s.wire ++ [.cell n (schedBytes e.label l.active { fseq := z.fseq, line := z.line, seg := z.seg, eol := z.eol, payload := z.payload })] ∧ t.flt = s.flt)) ∧
      (e.kind = 0 → l.needCredit = true ∨ l.credits = 0 → Completes (.fabricSlot n false false) s (fun t => t.wire = s.wire ++ [.cell n idleCell] ∧ link t n = { l with nextSlot := k + 1 } ∧ link t m = link s m ∧ t = { s with aqf := { s.aqf with links := t.aqf.links }, wire := t.wire })) ∧
      (e.kind = 0 → l.needCredit = false → 0 < l.credits → journalCell s n = none → drives s = true → s.aqf.voqs = [(32 * dest + cls, u :: us)] → cls < 32 → (tgetD s.aqf.fwd dest {}).valid = true →
        egressFor s dest = some n → u.from_ = none → Completes (.fabricSlot n false false) s (fun t => t.wire = s.wire ++ [.cell n (unschedBytes u)] ∧ voq t dest cls = us ∧
          (link t n).credits = l.credits - 1 ∧ link t m = link s m ∧ t = { s with aqf := { s.aqf with links := t.aqf.links, voqs := t.aqf.voqs }, wire := t.wire }))) ∧
    (n ≤ 143 → l.st = .up → l.nextSlot ≤ k → k % 4096 ≠ 0 → (activeBank l).ok = false →
      (ctrlOf s n 0 = none → ctrlOf s n 2 = none → ctrlOf s n 3 = none → l.toReturn = 0 → l.needCredit = true → Completes (.fabricSlot n false false) s (fun t => t.wire = s.wire ++ [.cell n idleCell] ∧ link t n = { l with nextSlot := k + 1 } ∧ link t m = link s m ∧ t = { s with aqf := { s.aqf with links := t.aqf.links }, wire := t.wire })) ∧
      (ctrlOf s n 0 = some y → Completes (.fabricSlot n false false) s (fun t => t.wire = s.wire ++ [.cell n (ctrlBytes y)] ∧ (link t n).ctrlQ = l.ctrlQ.erase y ∧ (link t n).nextSlot = k + 1 ∧
        link t m = link s m ∧ t = { s with aqf := { s.aqf with links := t.aqf.links }, wire := t.wire })) ∧
      (ctrlOf s n 0 = none → 0 < l.toReturn → Completes (.fabricSlot n false false) s (fun t =>
        t.wire = s.wire ++ [.cell n (ctrlBytes { src := devId s, ctype := 3, seq := s.aqf.ctrlSeq, msg := leBytes 2 l.toReturn })] ∧ (link t n).toReturn = 0 ∧ link t m = link s m))) ∧
    (o = normFlow o → ix = ixOf o → nsOf o = 1 → f = flowD s o → f.st = .running → f.essence = 0 → line < fmtLines f.format → w = latched s ix → q = stored s w.src line → at_ = max s.tim.now (tOf s f.domain w.fi + lineOffset f.format line f.depth) →
      (w.sel = false → Completes (.platformLineRead o line {}) s (fun t => (plat t ix).bytes = blackLine f.format f.colour ∧ (plat t ix).fill = true ∧ (plat t ix).line = line ∧ t.tim.now = at_ ∧
        (f.endpoint ≠ 2 → t = { s with tim := { s.tim with now := t.tim.now }, swc := { s.swc with plats := t.swc.plats } }) ∧
        (f.endpoint = 2 → (feedOf t ix).length = (feedOf s ix).length + cellsPerLine f.format ∧ t = { s with tim := { s.tim with now := t.tim.now }, swc := { s.swc with plats := t.swc.plats }, aqf := { s.aqf with feed := t.aqf.feed } }))) ∧
      (w.sel = true → beforeCommit s f.domain = false → (plat s ix).heldSrc = none → (flowD s w.src).restore = none →
        (q.complete = true → q.line = line → q.fi = w.fi → (flowD s w.src).sigEn = false → Completes (.platformLineRead o line {}) s (fun t => (plat t ix).bytes = q.bytes ∧ (plat t ix).fill = false ∧
          (plat t ix).src = w.src ∧ (plat t ix).fi = w.fi ∧ (m ≠ ix → plat t m = plat s m) ∧ t.tim.now = at_ ∧ t.flt = s.flt)) ∧
        (q.complete = true → q.line = line → q.fi = w.fi →
          (fr.ecc = true → (flowD s w.src).st ≠ .held → Completes (.platformLineRead o line fr) s (fun t => (plat t ix).fill = true ∧ RaisedOnce 0x047 s t ∧ Raised 0x042 [(2, o), (2, line), (1, w.fi % 256)] 0 s t)) ∧
          (fr.ecc = false → Completes (.platformLineRead o line fr) s (fun t => Completes (.platformLineRead o line {}) s (fun v => t = { v with flt := t.flt }) ∧
            (fr.corrected = true → RaisedOnce 0x046 s t) ∧ (fr.crc = true → RaisedOnce 0x248 s t) ∧ (fr.sig = true → (flowD s w.src).sigEn = true → s.flt.limit = [] → RaisedOnce 0x242 s t)))) ∧
        (q.complete = false → (flowD s w.src).st ≠ .held → Completes (.platformLineRead o line {}) s (fun t => (plat t ix).fill = true ∧ Raised 0x042 [(2, o), (2, line), (1, w.fi % 256)] 0 s t)) ∧
        (q.complete = false → (flowD s w.src).st = .held → Completes (.platformLineRead o line {}) s (fun t => (plat t ix).fill = true ∧ (plat t ix).heldSrc = some w.src ∧
          Raised 0x07D [(2, o), (2, w.src)] 0 s t)))) ∧
    ((flowD s (normFlow o)).st ≠ .running → Completes (.platformLineRead o line {}) s (fun t => t = s))

/-- A received cell: its CRC and type, and what scheduled, unscheduled and control cells do (spec/05_aiquel_fabric.md: Cells,
spec/05_aiquel_fabric.md: Run-time checks, spec/05_aiquel_fabric.md: Unscheduled traffic, spec/05_aiquel_fabric.md: Link
faults). Where the spec leaves a point open it states the model's choice: log entries 110, 111, 112 and 113. -/
def Obligations.CellsOfALinkAreReceived : Prop :=
  ∀ (s : State) (n k m h a i ch : Nat) (cell p : List Byte) (l : Link) (e : PlanEntry) (f : Flow) (c : UnschedCell) (d : CtrlCell) (fl : Int), Settled s → l = link s n → m ≠ n → bit (rd s .fltSrcCfg 0x082) 27 = false →
    bit (rd s .fltSrcCfg 0x081) 27 = false → h = cellHeader cell → p = cellPayload cell → k = sentSlot s n → e = tgetD (bankOf l (bits h 7 7)).rx (k % 4096) {} → f = flowD s (flowNum 0 e.ref) → c = parseUnsched cell n → d = parseCtrl cell →
    (n ≤ 143 → l.swapped = none → l.st = .down → Completes (.fabricCellRx n ⟨cell, false⟩) s (fun t => t = s)) ∧
    (n ≤ 143 → l.swapped = none → l.st = .quiet → cellCrcOk cell = false → Completes (.fabricCellRx n ⟨cell, false⟩) s (fun t => t = s)) ∧
    (n ≤ 143 → l.swapped = none → l.st = .up → cellCrcOk cell = false →
      (l.badRun < 3 → Completes (.fabricCellRx n ⟨cell, false⟩) s (fun t => link t n = { l with crcErrors := satAdd 32 l.crcErrors 1, badRun := l.badRun + 1, goodRun := 0 } ∧ link t m = link s m ∧
        t.aqf.crcCount = satAdd 32 s.aqf.crcCount 1 ∧ Raised 0x082 [(1, n), (2, k % 4096)] 0 s t ∧ t = { s with aqf := { s.aqf with links := t.aqf.links, crcCount := t.aqf.crcCount }, flt := t.flt })) ∧
      (3 ≤ l.badRun → Completes (.fabricCellRx n ⟨cell, false⟩) s (fun t => (link t n).st = .down ∧ (lane t n).st = .base ∧ RaisedOnce 0x082 s t ∧ RaisedOnce 0x081 s t ∧ (link t m).st = (link s m).st))) ∧
    (n ≤ 143 → l.swapped = none → cellCrcOk cell = true → l.st = .framing → bits h 47 46 = 3 →
      (l.goodRun < 63 → Completes (.fabricCellRx n ⟨cell, false⟩) s (fun t => link t n = { l with badRun := 0, goodRun := l.goodRun + 1 } ∧ link t m = link s m ∧ t = { s with aqf := { s.aqf with links := t.aqf.links } })) ∧
      (63 ≤ l.goodRun → Completes (.fabricCellRx n ⟨cell, false⟩) s (fun t => (link t n).st = .hello ∧ link t m = link s m))) ∧
    (n ≤ 143 → l.swapped = none → cellCrcOk cell = true → l.st = .up → bits h 47 46 = 0 → Completes (.fabricCellRx n ⟨cell, false⟩) s (fun t => Completes (.scheduledCellRx n cell) (goodCell n s) (fun q => t = q))) ∧
    (n ≤ 143 → l.swapped = none → cellCrcOk cell = true → l.st = .up → e.kind ≠ 3 → tgetD (activeBank l).rx (k % 4096) {} = e →
      (bits h 47 46 = 1 → Completes (.fabricCellRx n ⟨cell, false⟩) s (fun t => Completes (.unscheduledCellRx n cell) (goodCell n s) (fun q => t = q))) ∧
      (bits h 47 46 = 2 → Completes (.fabricCellRx n ⟨cell, false⟩) s (fun t => Completes (.controlCellRx n cell) (goodCell n s) (fun q => t = q)))) ∧
    (n ≤ 143 → l.swapped = none → Completes (.fabricCellRx n ⟨cell, true⟩) s (fun t => t = s)) ∧
    (144 ≤ n → cellCrcOk cell = false ∨ bits h 47 46 ≠ 2 ∨ d.hops ≠ 0 ∨ d.ctype ≠ 2 → Completes (.fabricCellRx n ⟨cell, false⟩) s (fun t => t = s)) ∧
    (n ≤ 143 → l.swapped = some (a, fl) → oldArrived s a fl = false → a ≤ k → l.skew.length < 64 → Completes (.fabricCellRx n ⟨cell, false⟩) s (fun t =>
      link t n = { l with skew := l.skew ++ [(k, s.tim.now, cell)] } ∧ link t m = link s m ∧ t = { s with aqf := { s.aqf with links := t.aqf.links } })) ∧
    (n ≤ 143 → l.swapped = some (a, fl) → oldArrived s a fl = false → k < a → Completes (.fabricCellRx n ⟨cell, false⟩) s (fun t => t = s)) ∧
    (l.st ≠ .up → Completes (.scheduledCellRx n cell) s (fun t => t = s) ∧ Completes (.unscheduledCellRx n cell) s (fun t => t = s)) ∧
    (l.st = .up → e.kind < 2 ∨ e.label ≠ bits h 45 36 → Completes (.scheduledCellRx n cell) s (fun t => Raised 0x084 [(1, n), (2, k % 4096), (2, bits h 45 36)] 0 s t ∧ t = { s with flt := t.flt })) ∧
    (l.st = .up → e.kind = 2 → e.label = bits h 45 36 →
      (f.st ≠ .running → Completes (.scheduledCellRx n cell) s (fun t => t = s)) ∧
      (f.st = .running → f.essence = 1 → extend 32 (fieldAt p 0 4) s.tim.now + periodStart (audioRate f.format) 6 + f.latency < s.tim.now →
        s.flt.limit = [] → s.tt.cancelled = [] → Completes (.scheduledCellRx n cell) s (fun t => t.aqf.cellLate = satAdd 32 s.aqf.cellLate 1 ∧
          Raised 0x083 [(2, flowNum 0 e.ref), (2, bits h 27 16), (1, fiNow s f.domain % 256)] 0 s t ∧ t = { s with aqf := { s.aqf with cellLate := t.aqf.cellLate }, flt := t.flt })) ∧
      (f.st = .running → f.essence = 1 → f.restore = none → s.tim.now ≤ extend 32 (fieldAt p 0 4) s.tim.now + periodStart (audioRate f.format) 6 + f.latency → s.tt.cancelled = [] →
        i < 6 → ch < fieldAt p 5 1 → fieldAt p 5 1 ≤ 8 → fieldAt p 4 1 + fieldAt p 5 1 ≤ f.count → a = periodAt (audioRate f.format) (extend 32 (fieldAt p 0 4) s.tim.now) →
        s.aud.period + 3 ≤ a + matrixDelay s → Completes (.scheduledCellRx n cell) s (fun t =>
          tget? (tgetD t.aud.inp (f.base + fieldAt p 4 1 + ch) []) (a + i) = some (fieldAt p (8 + 4 * (fieldAt p 5 1 * i + ch)) 4) ∧ t = { s with aud := { s.aud with inp := t.aud.inp } }))) ∧
    (l.st = .up → e.kind = 3 → e.label = bits h 45 36 → s.aqf.transit = [] → s.aqf.links = [(n, l)] → pairDist (tkeys (activeBank l).tx (fun _ x => x.kind == 3 && x.ref == e.ref)) (routeFlight s n e.label) (k % 4096) = some a →
      (activeBank l).tx.any (fun x => x.2.kind == 3 && x.2.ref == e.ref) = true → Completes (.scheduledCellRx n cell) s (fun t =>
        t.aqf.transit = [{ queue := e.ref, due := k + a, fseq := bits h 35 28, line := bits h 27 16, seg := bits h 15 9, eol := bit h 8, payload := p }] ∧
        t = { s with aqf := { s.aqf with transit := t.aqf.transit } })) ∧
    (l.st = .up → isPair s n = false → notHolder s = false →
      (c.dest = devId s → c.cls < 30 → (tget? s.aqf.seqRx (32 * c.src + c.cls) = none ∨ tget? s.aqf.seqRx (32 * c.src + c.cls) = some c.seq) →
        (s.aqf.msgEn = true → s.aqf.msgUsed < msgSize s → Completes (.unscheduledCellRx n cell) s (fun t => t.aqf.msgUsed = s.aqf.msgUsed + 1 ∧
          (t.aqf.msgTail, t.aqf.msgPhase) = advance (msgSize s) s.aqf.msgTail s.aqf.msgPhase ∧ link t n = { l with toReturn := l.toReturn + 1 } ∧ tget? t.aqf.seqRx (32 * c.src + c.cls) = some ((c.seq + 1) % 512) ∧
          (a < rdAddr s .aqfMsgBaseLo .aqfMsgBaseHi 0 + 256 * s.aqf.msgTail ∨ rdAddr s .aqfMsgBaseLo .aqfMsgBaseHi 0 + 256 * s.aqf.msgTail + 256 ≤ a → cget t.hif.mem a = cget s.hif.mem a) ∧
          t = { s with aqf := { s.aqf with links := t.aqf.links, seqRx := t.aqf.seqRx, msgTail := t.aqf.msgTail, msgPhase := t.aqf.msgPhase, msgUsed := t.aqf.msgUsed }, hif := { s.hif with mem := t.hif.mem } })) ∧
        (s.aqf.msgEn = false ∨ msgSize s ≤ s.aqf.msgUsed → Completes (.unscheduledCellRx n cell) s (fun t => Raised 0x08F [(2, c.src), (1, c.cls)] 0 s t ∧ link t n = { l with toReturn := l.toReturn + 1 }))) ∧
      (c.dest ≠ devId s → c.cls ≠ 31 →
        (c.ttl ≠ 0 → (tgetD s.aqf.fwd c.dest {}).valid = true → bufferCells s < 16384 → (voq s c.dest c.cls).length < 64 → Completes (.unscheduledCellRx n cell) s (fun t => voq t c.dest c.cls = voq s c.dest c.cls ++ [{ c with ttl := c.ttl - 1 }] ∧
          link t n = { l with heldCells := l.heldCells + 1 } ∧ link t m = link s m ∧ t = { s with aqf := { s.aqf with links := t.aqf.links, voqs := t.aqf.voqs } })) ∧
        (c.ttl = 0 → Completes (.unscheduledCellRx n cell) s (fun t => Raised 0x08E [(2, c.src), (2, c.dest), (1, c.cls)] 0 s t ∧ (link t n).toReturn = l.toReturn + 1 ∧
          (link t n).discards = satAdd 32 l.discards 1 ∧ t = { s with aqf := { s.aqf with links := t.aqf.links }, flt := t.flt })))) ∧
    (l.st = .up → isPair s n = false → notHolder s = true → c.cls ≠ 31 → Completes (.unscheduledCellRx n cell) s (fun t => (link t n).discards = satAdd 32 l.discards 1 ∧ t = { s with aqf := { s.aqf with links := t.aqf.links } })) ∧
    (l.st ≠ .down → l.st ≠ .framing → d.hops = 0 →
      (d.ctype = 1 → Completes (.controlCellRx n cell) s (fun t => Completes (.helloRx n (parseHello d.msg)) s (fun q => t = q))) ∧
      (d.ctype = 3 → Completes (.controlCellRx n cell) s (fun t => Completes (.creditRx n (fieldAt d.msg 0 2)) s (fun q => t = q))) ∧
      (d.ctype = 5 → Completes (.controlCellRx n cell) s (fun t => t = discard n s))) ∧
    (l.st = .down ∨ l.st = .framing → Completes (.controlCellRx n cell) s (fun t => t = s))

/-- Identity, quotes, updates and the nonce, and what a tamper or a lifecycle change bars (spec/17_security_lifecycle.md: Secure
SRAM and tamper, spec/17_security_lifecycle.md: Identity and attestation, spec/17_security_lifecycle.md: Delta updates,
spec/17_security_lifecycle.md: Commands and events). Where the spec leaves a point open it states the model's choice: log
entries 11, 116, 117 and 119. -/
def Obligations.IdentityQuotesUpdatesAndTamper : Prop :=
  ∀ (c : Cmd) (s u : State) (a b len r fa n : Nat) (img h : List Byte) (x : Update), Clear s → u = place a img s → c.cplOk = true →
    (secBarred s = true → Completes (.identityRead c a) s (Fails c 0x0B01 0x20 0 s) ∧ Completes (.attestQuote c a b img) s (Fails c 0x0B02 0x20 0 u) ∧
      (12288 ≤ len → Completes (.updateApply c a len img) s (Fails c 0x0B10 0x20 0 u)) ∧ Completes (.updateCommit c) s (Fails c 0x0B11 0x20 0 s)) ∧
    (secBarred s = false → c.hostOk = false → Completes (.identityRead c a) s (Fails c 0x0B01 0x21 a s) ∧ Completes (.attestQuote c a b img) s (Fails c 0x0B02 0x21 a u)) ∧
    (secBarred s = false → c.hostOk = true → Completes (.identityRead c a) s (EndsDone c 0x0B01 0 (hostWrite a (leBytes 8 s.sec.uid ++ padTo 1952 Config.identityKey) s)) ∧
      Completes (.attestQuote c a b img) s (EndsDone c 0x0B02 0 (hostWrite b (padTo 3584 (quoteBytes u (hostBytes u a 32) ++ padTo 3309 (Config.sign (quoteBytes u (hostBytes u a 32))))) u))) ∧
    (len < 12288 → Completes (.updateApply c a len img) s (Fails c 0x0B10 0x11 (argAt c 24 s) u)) ∧
    (12288 ≤ len → s.sec.update.isSome = true → Completes (.updateApply c a len img) s (Fails c 0x0B10 0x20 0 u)) ∧
    (12288 ≤ len → secBarred s = false → s.sec.update = none → c.hostOk = true →
      (updateReason u a len = some r → Completes (.updateApply c a len img) s (fun t => Replied c 0x0B10 1 0 0 t ∧ Raised 0x222 [(1, r)] 0 u t ∧ Final 0x222 c.tag t ∧
        t = { u with sec := { u.sec with updated := false }, hif := t.hif, flt := t.flt, wire := t.wire })) ∧
      (updateReason u a len = none → h = hostBytes u a 4096 → n = fieldAt h 84 4 → Completes (.updateApply c a len img) s (fun t => Replied c 0x0B10 1 0 0 t ∧
        t.sec.update = some { tag := c.tag, version := fieldAt h 88 4, target := 1 - s.sec.slot, digest := fieldAt h 48 32, out := rebuild (bootedImage s) (n + 1) (hostBytes u (a + 12288) n) } ∧
        (s.sec.slot = 0 → t.sec.slotA = s.sec.slotA ∧ t.sec.slotB = eraseTo 4096 s.sec.slotB) ∧ (s.sec.slot = 1 → t.sec.slotA = eraseTo 4096 s.sec.slotA ∧ t.sec.slotB = s.sec.slotB) ∧
        t = { u with sec := { u.sec with updated := false, update := t.sec.update, slotA := t.sec.slotA, slotB := t.sec.slotB }, hif := t.hif, flt := t.flt, wire := t.wire }))) ∧
    (s.sec.update = none → Completes (.updateDone none none) s (fun t => t = s)) ∧
    (s.sec.update = some x → leBytes 32 (imageDigest x.out) = leBytes 32 x.digest → Completes (.updateDone none none) s (fun t =>
      (x.target = 0 → t.sec.slotA = x.out ∧ t.sec.slotB = s.sec.slotB) ∧ (x.target = 1 → t.sec.slotB = x.out ∧ t.sec.slotA = s.sec.slotA) ∧
      Raised 0x221 [(4, x.version), (1, x.target)] 0 s t ∧ Final 0x221 x.tag t ∧
      t = { s with sec := { s.sec with update := none, updated := true, slotA := t.sec.slotA, slotB := t.sec.slotB }, flt := t.flt })) ∧
    (s.sec.update = some x → leBytes 32 (imageDigest x.out) ≠ leBytes 32 x.digest → Completes (.updateDone none none) s (fun t => Raised 0x222 [(1, 8)] 0 s t ∧ Final 0x222 x.tag t ∧
      (x.target = 0 → t.sec.slotA = eraseTo 4096 x.out ∧ t.sec.slotB = s.sec.slotB) ∧ (x.target = 1 → t.sec.slotB = eraseTo 4096 x.out ∧ t.sec.slotA = s.sec.slotA) ∧
      t = { s with sec := { s.sec with update := none, slotA := t.sec.slotA, slotB := t.sec.slotB }, flt := t.flt })) ∧
    (s.sec.update = some x → ∀ e : Bool, Completes (.updateDone (if e then some fa else none) (if e then none else some fa)) s (fun t => RaisedOnce 0x222 s t ∧ Raised 0x228 [(1, x.target), (4, fa)] 0 s t ∧
      (x.target = 0 → superseded t.sec.slotA = false ∧ imgField t.sec.slotA 0 4 = 2 ^ 32 - 1 ∧ t.sec.slotB = s.sec.slotB) ∧
      t = { s with sec := { s.sec with update := none, slotA := t.sec.slotA, slotB := t.sec.slotB }, flt := t.flt })) ∧
    (s.sec.updated = false ∨ s.sec.update.isSome = true → Completes (.updateCommit c) s (Fails c 0x0B11 0x20 0 s)) ∧
    (secBarred s = false → s.sec.updated = true → s.sec.update = none → Completes (.updateCommit c) s (fun t => Replied c 0x0B11 0 0 0 t ∧ Raised 0x223 [(1, s.sec.slot)] 0 s t ∧
      (s.sec.slot = 0 → t.sec.slotA = s.sec.slotA.set 4095 0 ∧ t.sec.slotB = s.sec.slotB) ∧
      (s.sec.slot = 1 → t.sec.slotB = s.sec.slotB.set 4095 0 ∧ t.sec.slotA = s.sec.slotA) ∧
      t = { s with sec := { s.sec with slotA := t.sec.slotA, slotB := t.sec.slotB }, hif := t.hif, flt := t.flt, wire := t.wire })) ∧
    (s.pwr.st = .off → Completes .tamperAssert s (fun t => t = s)) ∧
    (s.pwr.st ≠ .off → Completes .tamperAssert s (fun t => RaisedOnce 0x226 s t ∧ Raised 0x227 [(1, 1)] 0 s t ∧ (s.sec.update.isSome = true → RaisedOnce 0x222 s t) ∧ secBarred t = true ∧
      t = { s with sec := { s.sec with tampered := true, idKey := false, nonce := none, update := none, sram := [] }, flt := t.flt })) ∧
    (c.hostOk = true → Completes (.tokenNonce c a) s (EndsDone c 0x0B32 0 (hostWrite a (leBytes 32 (Config.nonce s.free % 2 ^ 256))
      { s with free := s.free + 1, sec := { s.sec with nonce := some (Config.nonce s.free % 2 ^ 256) } }))) ∧
    (c.hostOk = false → Completes (.tokenNonce c a) s (fun t => Replied c 0x0B32 0x21 0 a t))

/-- BOOT_IMAGE_VERIFIED, RECOVERY_GO, RECOVERY_DONE and the fuse commands: where each completes, and with what
(spec/17_security_lifecycle.md: Fuses, spec/17_security_lifecycle.md: Image slots, spec/17_security_lifecycle.md: Boot,
spec/17_security_lifecycle.md: Lifecycle, spec/17_security_lifecycle.md: Commands and events). Where the spec leaves a point
open it states the model's choice: log entries 11, 46, 117, 177 and 178. -/
def Obligations.BootRecoveryAndFuses : Prop :=
  ∀ (c : Cmd) (s u : State) (a n m v ra rb : Nat) (w : Word) (img : List Byte) (x y p q : SlotImage) (r : Reply), Clear s → u = place a img s → p = found s.sec.slotA x → q = found s.sec.slotB y →
    (slotResult s x = 1 → x.readErr = none ∧ imgField x.bytes 0 4 = 0x4847494D ∧ unitOk (imgField x.bytes 4 2) (imgField x.bytes 6 1) = true ∧ s.sec.counter ≤ imgSvn x.bytes ∧
      Config.shake (calzelKey x.bytes) = s.sec.keyDigest ∧ x.sigOk = true ∧ bodyOk x.bytes = true ∧ (s.sec.cosign ≠ none → s.sec.cosign = some (Config.shake (customerKey x.bytes)) ∧ x.cosigOk = true)) ∧
    (s.sec.slotA = [] → p = x) ∧ (s.sec.slotA ≠ [] → p = { x with bytes := s.sec.slotA }) ∧
    (s.pwr.boot = .firmware ∨ s.pwr.boot = .failed ∨ s.pwr.perst = true ∨ s.pwr.st = .off → (∃ t, exec (.bootImageVerified x y) s = .next t ∧ t = s)) ∧
    (s.pwr.boot = .rom ∨ s.pwr.boot = .verifying → s.pwr.perst = false → s.pwr.st ≠ .off → ra = slotResult s p → rb = slotResult s q →
      (s.sec.life = 4 → (∃ t, exec (.bootImageVerified x y) s = .next t ∧ t = { s with sec := { s.sec with slotA := p.bytes, slotB := q.bytes }, pwr := { s.pwr with boot := .failed } })) ∧
      (s.sec.life ≠ 4 → ra ≠ 1 → rb ≠ 1 → (∃ t, exec (.bootImageVerified x y) s = .next t ∧ (p.readErr = none → q.readErr = none → t.flt = s.flt) ∧ (p.readErr.isSome = true ∨ q.readErr.isSome = true → (srcStat s 0x228).count < 254 → (srcStat s 0x228).count < (srcStat t 0x228).count) ∧
        t = { s with sec := { s.sec with slotA := p.bytes, slotB := q.bytes, resultA := ra, resultB := rb }, pwr := { s.pwr with boot := .failed }, flt := t.flt })) ∧
      (s.sec.life ≠ 4 → ra = 1 → (superseded p.bytes = true → superseded q.bytes = true ∨ rb ≠ 1) → (∃ t, exec (.bootImageVerified x y) s = .next t ∧ Raised 0x220 [(1, 0), (1, t.sec.resultB)] 0 s t ∧ RaisedOnce 0x025 s t ∧ t.sec.resultB = (if superseded p.bytes = true ∧ superseded q.bytes = false then rb else s.sec.resultB) ∧
        t.sec.meas = [Config.romDigest, imageDigest p.bytes, Config.shake (lifeBytes s)] ∧ t.ika.cat = (Config.catalogue (imgBody p.bytes)).zipIdx.map (fun e => (e.2 + 1, e.1)) ∧ t.hif.sramSingle = false ∧
        ((cmdRing s n).en = true → leNat (hostBytes s (doorbell s n) 4) % 65536 < cmdSize s n → (cmdRing t n).head = leNat (hostBytes s (doorbell s n) 4) % 65536 ∧ (cmdRing t n).producer = (cmdRing t n).head) ∧
        t = { s with sec := { s.sec with slotA := p.bytes, slotB := q.bytes, resultA := 1, resultB := t.sec.resultB, slot := 0, fw := imgVersion p.bytes, idKey := true, meas := t.sec.meas }, ika := { s.ika with cat := t.ika.cat }, hif := { s.hif with cmd := t.hif.cmd, sramSingle := false }, pwr := { s.pwr with boot := .firmware }, flt := t.flt })) ∧
      (s.sec.life ≠ 4 → rb = 1 → ra ≠ 1 ∨ (superseded p.bytes = true ∧ superseded q.bytes = false) → (∃ t, exec (.bootImageVerified x y) s = .next t ∧ Raised 0x220 [(1, 1), (1, t.sec.resultA)] 0 s t ∧ RaisedOnce 0x025 s t ∧ t.sec.resultA = (if superseded p.bytes = false ∨ superseded q.bytes = true then ra else s.sec.resultA) ∧
        t.sec.meas = [Config.romDigest, imageDigest q.bytes, Config.shake (lifeBytes s)] ∧ t.ika.cat = (Config.catalogue (imgBody q.bytes)).zipIdx.map (fun e => (e.2 + 1, e.1)) ∧
        ((cmdRing s n).en = true → leNat (hostBytes s (doorbell s n) 4) % 65536 < cmdSize s n → (cmdRing t n).head = leNat (hostBytes s (doorbell s n) 4) % 65536 ∧ (cmdRing t n).producer = (cmdRing t n).head) ∧
        t = { s with sec := { s.sec with slotA := p.bytes, slotB := q.bytes, resultA := t.sec.resultA, resultB := 1, slot := 1, fw := imgVersion q.bytes, idKey := true, meas := t.sec.meas }, ika := { s.ika with cat := t.ika.cat }, hif := { s.hif with cmd := t.hif.cmd, sramSingle := false }, pwr := { s.pwr with boot := .firmware }, flt := t.flt }))) ∧
    (bit w.toNat 31 = false ∨ masterOk s m = false → (∃ t, exec (.recoveryGo m w) s = .next t ∧ t = s)) ∧
    (bit w.toNat 31 = true → masterOk s m = true → s.sec.recBusy = true → (∃ t, exec (.recoveryGo m w) s = .next t ∧ RaisedOnce 0x009 s t ∧ t = { s with flt := t.flt, hif := { s.hif with resp := t.hif.resp } })) ∧
    (bit w.toNat 31 = true → masterOk s m = true → s.sec.recBusy = false → s.pwr.boot = .failed → s.sec.life ≠ 4 → (∃ t, exec (.recoveryGo m w) s = .next t ∧ t = { s with sec := { s.sec with recBusy := true, recResult := 0 } })) ∧
    (bit w.toNat 31 = true → masterOk s m = true → s.sec.recBusy = false → s.pwr.boot ≠ .failed ∨ s.sec.life = 4 → (∃ t, exec (.recoveryGo m w) s = .next t ∧ t = s)) ∧
    (s.sec.recBusy = false → (∃ t, exec (.recoveryDone x) s = .next t ∧ t = s)) ∧
    (s.sec.recBusy = true → a = rdAddr s .secRecoveryAddrLo .secRecoveryAddrHi 0 → img = x.bytes → ra = slotResult u (recoveryImage u x) → (∃ t, exec (.recoveryDone x) s = .next t ∧ (ra = 1 → t.sec.slotA = hostBytes u a (12288 + imgField (hostBytes u a 4096) 12 4)) ∧ (2 ≤ ra → ra ≤ 5 → t.sec.slotA = s.sec.slotA) ∧
      (ra = 6 → imgField t.sec.slotA 0 4 = 2 ^ 32 - 1) ∧ (ra = 7 → x.readErr = some v → if v < 12288 then t.sec.slotA = s.sec.slotA else imgField t.sec.slotA 0 4 = 2 ^ 32 - 1) ∧
      t = { u with sec := { u.sec with recBusy := false, recResult := ra, slotA := t.sec.slotA } })) ∧
    (s.sec.run = none →
      (s.sec.counter < imgSvn (bootedImage s) → s.sec.update = none → s.sec.tampered = false → Completes (.rollbackAdvance c) s (fun t => (cmdRing t c.ring).busy = true ∧
        t = { s with sec := { s.sec with run := some (.counter c (imgSvn (bootedImage s))) }, hif := { s.hif with cmd := t.hif.cmd } })) ∧
      (imgSvn (bootedImage s) ≤ s.sec.counter ∨ s.sec.update.isSome = true ∨ s.sec.tampered = true → Completes (.rollbackAdvance c) s (Fails c 0x0B20 0x20 0 s)) ∧
      (s.sec.life = 1 → s.sec.cosign = none → c.hostOk = true → Completes (.cosignerFuse c a img) s (fun t => (cmdRing t c.ring).busy = true ∧
        t = { u with sec := { u.sec with run := some (.cosign c a) }, hif := { u.hif with cmd := t.hif.cmd } })) ∧
      (s.sec.life ≠ 1 ∨ s.sec.cosign.isSome = true → Completes (.cosignerFuse c a img) s (Fails c 0x0B31 0x20 0 u)) ∧
      (fuseRefused u (.lifecycle c n a) = none → Completes (.lifecycleSet c n a img) s (fun t => (cmdRing t c.ring).busy = true ∧
        t = { u with sec := { u.sec with run := some (.lifecycle c n a), nonce := none }, hif := { u.hif with cmd := t.hif.cmd } })) ∧
      (fuseRefused u (.lifecycle c n a) = some r → 0x10 ≤ r.st → Completes (.lifecycleSet c n a img) s (fun t => Replied c 0x0B30 r.st r.result r.err t ∧
        t = { u with sec := { u.sec with nonce := none }, hif := t.hif, flt := t.flt, wire := t.wire }))) ∧
    (lifeStep s.sec.life n = false → fuseRefused s (.lifecycle c n a) = some { st := 0x11, err := argAt c 24 s }) ∧
    (lifeStep s.sec.life n = true → s.sec.update = none → needsToken s.sec.life n = false → fuseRefused s (.lifecycle c n a) = none) ∧
    (lifeStep s.sec.life n = true → needsToken s.sec.life n = true → c.hostOk = true → tokenOk s n (hostBytes s a 4096) = false → fuseRefused s (.lifecycle c n a) = some { st := 0x20 }) ∧
    (s.sec.run = none → Completes .fuseProgramDone s (fun t => t = s)) ∧
    (s.sec.run = some (.counter c v) → c.cplOk = true → s.sec.wait = [] → Completes .fuseProgramDone s (fun t => Replied c 0x0B20 0 (v + 256 * (if imgSvn (slotImage s (1 - s.sec.slot)) < v then 1 else 0)) 0 t ∧
      Raised 0x224 [(1, v), (1, if imgSvn (slotImage s (1 - s.sec.slot)) < v then 1 else 0)] 0 s t ∧
      t = { s with sec := { s.sec with run := none, counter := v }, hif := t.hif, flt := t.flt, wire := t.wire })) ∧
    (s.sec.run = some (.cosign c a) → s.sec.wait = [] → Completes .fuseProgramDone s (EndsDone c 0x0B31 0 { s with sec := { s.sec with run := none, cosign := some (leNat (hostBytes s a 32)) } })) ∧
    (s.sec.run = some (.lifecycle c n a) → c.cplOk = true → s.sec.wait = [] → Completes .fuseProgramDone s (fun t => Replied c 0x0B30 0 0 0 t ∧ RaisedOnce 0x225 s t ∧ Raised 0x227 [(1, 2)] 0 s t ∧ secBarred t = true ∧
      t = { s with sec := { s.sec with run := none, life := n, lifeWiped := true, idKey := false, nonce := none, sram := [] }, hif := t.hif, flt := t.flt, wire := t.wire }))

/-- At most one fuse item is programmed at a time, a run always completes, and a second command waits for it (R421). -/
def Obligations.FuseRunsOneAtATime : Prop :=
  ∀ (c d : Cmd) (s u z : State) (a b n v len : Nat) (img : List Byte) (x g : FuseOp) (l : List FuseOp), Clear s → u = place a img s → s.sec.run = some x →
    (Completes (.rollbackAdvance c) s (fun t => (cmdRing t c.ring).busy = true ∧ t.hif.replied = s.hif.replied ∧
      t = { s with sec := { s.sec with wait := s.sec.wait ++ [.counter c 0] }, hif := { s.hif with cmd := t.hif.cmd } })) ∧
    (Completes (.cosignerFuse c a img) s (fun t => (cmdRing t c.ring).busy = true ∧ t.hif.replied = s.hif.replied ∧
      t = { u with sec := { u.sec with wait := s.sec.wait ++ [.cosign c a] }, hif := { u.hif with cmd := t.hif.cmd } })) ∧
    (Completes (.lifecycleSet c n a img) s (fun t => (cmdRing t c.ring).busy = true ∧ t.hif.replied = s.hif.replied ∧
      t = { u with sec := { u.sec with wait := s.sec.wait ++ [.lifecycle c n a] }, hif := { u.hif with cmd := t.hif.cmd } })) ∧
    (Completes .tamperAssert s (fun t => t.sec.run = some x ∧ t.sec.wait = s.sec.wait) ∧ Completes .perstAssert s (fun t => t.sec.run = some x) ∧
      Completes (.identityRead c a) s (fun t => t.sec = s.sec) ∧ Completes (.attestQuote c a b img) s (fun t => t.sec = s.sec) ∧
      Completes (.updateApply c a len img) s (fun t => t.sec.run = some x ∧ t.sec.wait = s.sec.wait) ∧
      Completes (.updateCommit c) s (fun t => t.sec.run = some x ∧ t.sec.wait = s.sec.wait) ∧ Completes (.tokenNonce c a) s (fun t => t.sec.run = some x ∧ t.sec.wait = s.sec.wait)) ∧
    (s.sec.wait = [] → Completes .fuseProgramDone s (fun t => t.sec.run = none ∧ t.sec.wait = [] ∧ (x = .counter c v → t.sec.counter = v ∧ t.sec.life = s.sec.life ∧ t.sec.cosign = s.sec.cosign) ∧
      (x = .lifecycle c n a → t.sec.life = n ∧ t.sec.counter = s.sec.counter ∧ t.sec.cosign = s.sec.cosign) ∧
      (x = .cosign c a → t.sec.cosign = some (leNat (hostBytes s a 32)) ∧ t.sec.counter = s.sec.counter ∧ t.sec.life = s.sec.life))) ∧
    (s.sec.wait = g :: l → z = fuseWritten x { s with sec := { s.sec with run := none } } → fuseRefused z g = none → Completes .fuseProgramDone s (fun t =>
      t.sec.run = some (fuseRun z g) ∧ t.sec.wait = l ∧ (cmdRing t (fuseCmd g).ring).busy = true)) ∧
    (x = .counter c v → imgSvn (bootedImage s) = v → s.sec.wait = [.counter d 0] → Completes .fuseProgramDone s (fun t =>
      Replied d 0x0B20 0x20 0 0 t ∧ t.sec.counter = v ∧ t.sec.run = none ∧ t.sec.wait = []))

/-- Power states: requests, the blocks asked in order, refusals, the end of a transition, and service wakes
(spec/16_power_thermal_startup.md: States and what each one powers, spec/16_power_thermal_startup.md: Transitions,
spec/16_power_thermal_startup.md: Isolation, retention and clearing, spec/16_power_thermal_startup.md: Commands and events).
Where the spec leaves a point open it states the model's choice: log entries 11, 96, 108, 173 and 175. -/
def Obligations.PowerTransitionsRunAndAreRefused : Prop :=
  ∀ (c : Cmd) (s : State) (n k r a m : Nat) (l : List Nat) (q o : PwrSt) (tg pt : Option Nat) (x y : Transit), s.hif.fences = [] → Settled s → c.cplOk = true → y = { target := q, todo := blocksFor s.pwr.st q, agreed := [], asked := s.tim.now, tag := pt } →
    (blocksFor .run .trim = [7, 8] ∧ blocksFor .trim .off = [1, 2, 3, 4, 5, 6, 7, 8, 9] ∧ blocksFor .run .recess = [1, 2, 3, 4, 5, 6, 7, 8] ∧ blocksFor .off .run = [] ∧ blocksFor .recess .trim = []) ∧
    (n ≠ 0 → n ≠ 1 → n ≠ 3 → Completes (.pwrStateSet c n) s (Fails c 0x0A01 0x11 (argAt c 24 s) s)) ∧
    (pwrTarget n = some q → s.red.st = .standby ∨ s.red.st = .warm ∨ s.red.st = .taking → Completes (.pwrStateSet c n) s (Fails c 0x0A01 0x20 0 s)) ∧
    (pwrTarget n = some q → s.red.st ≠ .standby → s.red.st ≠ .warm → s.red.st ≠ .taking →
      (s.pwr.st = q → s.pwr.trans = none → s.pwr.pend = none → Completes (.pwrStateSet c n) s (EndsDone c 0x0A01 0 s)) ∧
      (s.pwr.st ≠ q → s.pwr.trans = none → pt = some c.tag → Completes (.pwrStateSet c n) s (fun t => Replied c 0x0A01 1 0 0 t ∧
        t = { s with pwr := { s.pwr with trans := some y, retry := none }, hif := t.hif, flt := t.flt, wire := t.wire })) ∧
      (s.pwr.trans = some x → s.pwr.pend = none → Completes (.pwrStateSet c n) s (fun t => Replied c 0x0A01 1 0 0 t ∧
        t = { s with pwr := { s.pwr with pend := some (q, some c.tag) }, hif := t.hif, flt := t.flt, wire := t.wire })) ∧
      (s.pwr.trans = some x → s.pwr.pend = some (o, tg) → Completes (.pwrStateSet c n) s (fun t => Replied c 0x0A01 1 0 0 t ∧
        Raised 0x202 [(1, pwrCode o), (1, pwrCode q)] 0 s t ∧ (tg = some m → Final 0x202 m t) ∧
        t = { s with pwr := { s.pwr with pend := some (q, some c.tag) }, hif := t.hif, flt := t.flt, wire := t.wire }))) ∧
    (s.pwr.trans = none → Completes .pwrBlockAnswer s (fun t => t = s) ∧ Completes .pwrAckTimeout s (fun t => t = s) ∧ Completes .pwrTransitionDone s (fun t => t = s)) ∧
    (s.pwr.trans = some x → x.todo = [] → Completes .pwrBlockAnswer s (fun t => t = s) ∧ Completes .pwrAckTimeout s (fun t => t = s)) ∧
    (s.pwr.trans = some x → x.todo = k :: l →
      (Completes .pwrTransitionDone s (fun t => t = s)) ∧
      (blockReason s x.target k = none → Completes .pwrBlockAnswer s (fun t =>
        t = { s with pwr := { s.pwr with trans := some { x with todo := l, agreed := x.agreed ++ [k], asked := s.tim.now } } })) ∧
      (blockReason s x.target k = some r → x.tag = some m → s.pwr.pend = none → Completes .pwrBlockAnswer s (fun t =>
        Raised 0x201 [(1, pwrCode x.target), (1, blockSub k), (1, r)] 0 s t ∧ Final 0x201 m t ∧ t = { s with pwr := { s.pwr with trans := none, retry := none }, flt := t.flt })) ∧
      (blockReason s x.target k = some r → x.tag = none → s.pwr.pend = none → Completes .pwrBlockAnswer s (fun t =>
        (s.pwr.refusedSec ≠ some (secOf s) → Raised 0x201 [(1, pwrCode x.target), (1, blockSub k), (1, r)] 0 s t) ∧ (s.pwr.refusedSec = some (secOf s) → t.flt = s.flt) ∧
        t = { s with pwr := { s.pwr with trans := none, retry := some (x.target, s.tim.now + 100000000), refusedSec := some (secOf s) }, flt := t.flt })) ∧
      (blockReason s x.target k = some r → x.tag = some m → s.pwr.pend = some (q, pt) → Completes .pwrBlockAnswer s (fun t => RaisedOnce 0x201 s t ∧
        t = { s with pwr := { s.pwr with trans := some y, pend := none, retry := none }, flt := t.flt })) ∧
      (x.tag = some m → s.pwr.pend = none → Completes .pwrAckTimeout s (fun t => t.tim.now = max s.tim.now (x.asked + 1000 * fld s .pwrCfg 0 29 16) ∧
        Raised 0x201 [(1, pwrCode x.target), (1, blockSub k), (1, 2)] 0 s t ∧ Final 0x201 m t ∧
        t = { s with tim := { s.tim with now := t.tim.now }, pwr := { s.pwr with trans := none, retry := none }, flt := t.flt }))) ∧
    (s.pwr.trans = some x → x.todo = [] → s.pwr.pend = none →
      (s.pwr.st ≠ .recess → s.pwr.st ≠ .off → x.target = .run ∨ x.target = .trim → Completes .pwrTransitionDone s (fun t => Raised 0x200 [(1, pwrCode x.target)] 0 s t ∧ (x.tag = some m → Final 0x200 m t) ∧
        t = { s with pwr := { s.pwr with trans := none, st := x.target, svcWake := false }, flt := t.flt })) ∧
      (x.target = .off → Completes .pwrTransitionDone s (fun t => Raised 0x200 [(1, 3)] 0 s t ∧ (x.tag = some m → Final 0x200 m t) ∧ (tgetD t.pwr.coolers k {}).duty = 0 ∧
        (∀ p ∈ t.regs, p.1 < 0x700000 ∧ p ∈ s.regs) ∧ (∀ p ∈ s.regs, p.1 < 0x700000 → p ∈ t.regs) ∧ t = { State.reset with pending := s.pending, free := s.free, wire := s.wire, regs := t.regs, tim := s.tim, hif := s.hif, red := s.red, sec := s.sec, pwr := { s.pwr with trans := none, st := .off, svcWake := false, coolers := t.pwr.coolers, trip := false }, flt := t.flt })) ∧
      (s.pwr.st = .off → x.target = .run ∨ x.target = .trim → Completes .pwrTransitionDone s (fun t => (srcStat t 0x200).count = 1 ∧ (srcStat t 0x208).count = 1 ∧ (srcStat t 0x227).count = 1 ∧ (x.tag = some m → Final 0x200 m t) ∧
        t.pwr = { State.reset.pwr with perst := s.pwr.perst, wakeCause := 3, wakeTs := ts32 s.tim.now, boot := .verifying } ∧ t.tim = s.tim ∧ t.red = State.reset.red ∧ t.hif.mem = s.hif.mem ∧ t.sec.slotA = s.sec.slotA ∧ t.sec.counter = s.sec.counter ∧
        t = { State.reset with pending := s.pending, free := s.free, wire := s.wire, regs := t.regs, tim := t.tim, hif := t.hif, sec := t.sec, pwr := t.pwr, flt := t.flt })) ∧
      (x.target = .recess → s.pwr.st ≠ .off → Completes .pwrTransitionDone s (fun t => RaisedOnce 0x200 s t ∧ t.pwr = { s.pwr with trans := none, st := .recess, svcWake := false } ∧ t.tim.now = max s.tim.now s.red.sdiUntil ∧ (tgetD t.svp.tx k {}).sending = false ∧
        t.flows = s.flows ∧ t.swc = s.swc ∧ t.mem = s.mem ∧ t.tt = s.tt ∧ ((tgetD s.nmp.macs k {}).st = .up → bit (rd s .nmpEee k) 31 = true → (tgetD t.nmp.macs k {}).st = .lowPower))) ∧
      (s.pwr.st = .recess → x.target = .run ∨ x.target = .trim → Completes .pwrTransitionDone s (fun t => RaisedOnce 0x208 s t ∧ Raised 0x200 [(1, pwrCode x.target)] 0 s t ∧
        t.pwr = { s.pwr with trans := none, st := x.target, svcWake := false, wakeCause := t.pwr.wakeCause, wakeTs := ts32 s.tim.now } ∧
        (s.red.st = .warm → t.pwr.wakeCause = 7) ∧ (s.red.st = .taking → t.pwr.wakeCause = 4 + s.red.cause) ∧ (s.red.st = .unpaired → t.pwr.wakeCause = 8) ∧
        t.flows = [] ∧ t.consists = [] ∧ t.swc.xp = [] ∧ t.swc.live = [] ∧ t.swc.store = [] ∧ t.tt = {} ∧ t.ika.procs = [] ∧ t.aud.xps = [] ∧ t.aud.delays = [] ∧ t.mem = s.mem ∧ t.svp = s.svp ∧
        ((tgetD s.nmp.macs k {}).st = .lowPower → (tgetD t.nmp.macs k {}).st = .up)))) ∧
    (s.pwr.trans = some x → x.todo = [] → s.pwr.st ≠ .recess → s.pwr.st ≠ .off → x.target = .run ∨ x.target = .trim → s.pwr.pend = some (q, pt) → Completes .pwrTransitionDone s (fun t => RaisedOnce 0x200 s t ∧
      t = { s with pwr := { s.pwr with trans := some { y with todo := blocksFor x.target q }, pend := none, retry := none, st := x.target, svcWake := false }, flt := t.flt })) ∧
    (s.pwr.retry = some (q, a) → s.pwr.trans = none → pt = none → Completes .pwrRetry s (fun t => t.tim.now = max s.tim.now a ∧
      t = { s with tim := { s.tim with now := t.tim.now }, pwr := { s.pwr with trans := some { y with asked := t.tim.now }, retry := none } })) ∧
    (s.pwr.retry = none ∨ s.pwr.trans.isSome = true → Completes .pwrRetry s (fun t => t = s)) ∧
    (s.pwr.st = .recess → (cmdRing s n).en = true → Completes (.serviceWake n) s (fun t => t.tim.now = (if s.pwr.svcWake then s.tim.now else s.tim.now + 40000) ∧
      t = { s with tim := { s.tim with now := t.tim.now }, pwr := { s.pwr with svcWake := true, svcIdle := t.tim.now } })) ∧
    (s.pwr.st ≠ .recess ∨ (cmdRing s n).en = false → Completes (.serviceWake n) s (fun t => t = s)) ∧
    (s.pwr.svcWake = true → s.hif.cmd.any (fun r => r.2.en && (r.2.busy || r.2.head != r.2.producer)) = false → Completes .serviceWakeEnd s (fun t => t.tim.now = max s.tim.now (s.pwr.svcIdle + 1000000) ∧
      t = { s with tim := { s.tim with now := t.tim.now }, pwr := { s.pwr with svcWake := false } })) ∧
    (s.pwr.svcWake = false → Completes .serviceWakeEnd s (fun t => t = s))

/-- AVSBus, die sensors and THERM_TRIP, the cooling loop, and what each reset keeps (spec/16_power_thermal_startup.md: Supply
voltage over AVSBus, spec/16_power_thermal_startup.md: Cooling, spec/16_power_thermal_startup.md: Isolation, retention and
clearing, spec/16_power_thermal_startup.md: Start-up). Where the spec leaves a point open it states the model's choice: log
entries 4, 97, 98, 99, 100, 101, 121, 147, 175, 179 and 180. -/
def Obligations.VoltageHeatCoolingAndResets : Prop :=
  ∀ (c : Cmd) (s y : State) (r v mv a k i n lo slew : Nat) (e ig raw : Int) (img : List Byte) (codes : List Int) (edges : List Nat) (x : Sec) (d : Cooler), s.hif.fences = [] → Settled s →
    x = { State.reset.sec with lotLo := s.sec.lotLo, lotHi := s.sec.lotHi, wafer := s.sec.wafer, dieX := s.sec.dieX, dieY := s.sec.dieY, uid := s.sec.uid, life := s.sec.life, counter := s.sec.counter, keyDigest := s.sec.keyDigest, cosign := s.sec.cosign, run := s.sec.run, slotA := s.sec.slotA, slotB := s.sec.slotB, tap := s.sec.tap } →
    y = { State.reset with pending := s.pending, free := s.free, wire := s.wire, hif := { State.reset.hif with mem := s.hif.mem }, flt := { State.reset.flt with resetCause := s.flt.resetCause }, sec := x } →
    (680 ≤ railWant s 0 ∧ railWant s 0 ≤ 850 ∧ (r ≠ 0 → 700 ≤ railWant s r ∧ railWant s r ≤ 800)) ∧
    (2 < r ∨ (rail s r).asked.isSome = true ∨ railWant s r = railMv (rail s r) → Completes (.avsRequest r) s (fun t => t = s)) ∧
    (r ≤ 2 → (rail s r).asked = none → railWant s r ≠ railMv (rail s r) → Completes (.avsRequest r) s (fun t =>
      t.tim.now = max s.tim.now (((rail s r).lastAt.map (fun t => t + 10000000)).getD 0) ∧
      (railMv (rail s r) < railWant s r → (rail t r).asked = some (min (railWant s r) (railMv (rail s r) + 10), t.tim.now)) ∧
      (railWant s r < railMv (rail s r) → (rail t r).asked = some (max (railWant s r) (railMv (rail s r) - 10), t.tim.now)) ∧
      railMv (rail t r) = railMv (rail s r) ∧ t.wire = s.wire ++ [.avs r (((rail t r).asked.getD (0, 0)).1)] ∧ (k ≠ r → rail t k = rail s k) ∧
      t = { s with tim := { s.tim with now := t.tim.now }, pwr := { s.pwr with rails := t.pwr.rails }, wire := t.wire })) ∧
    ((rail s r).asked = some (v, a) → Completes (.avsResponse r v) s (fun t => rail t r = { rail s r with mv := v, asked := none } ∧ (k ≠ r → rail t k = rail s k) ∧
      t = { s with pwr := { s.pwr with rails := t.pwr.rails } }) ∧ (mv ≠ v → Completes (.avsResponse r mv) s (fun t => t = s)) ∧
      Completes (.avsTimeout r true) s (fun t => rail t r = { rail s r with asked := none, lastAt := some s.tim.now } ∧ Raised 0x203 [(1, r), (2, v)] 0 s t ∧ (k ≠ r → rail t k = rail s k) ∧
        t = { s with pwr := { s.pwr with rails := t.pwr.rails }, flt := t.flt }) ∧
      Completes (.avsTimeout r false) s (fun t => t.tim.now = max s.tim.now (a + 1000 * fld s .pwrAvsCfg r 31 16) ∧ rail t r = { rail s r with asked := none, lastAt := some t.tim.now } ∧
        Raised 0x203 [(1, r), (2, v)] 0 s t ∧ t = { s with tim := { s.tim with now := t.tim.now }, pwr := { s.pwr with rails := t.pwr.rails }, flt := t.flt })) ∧
    ((rail s r).asked = none → Completes (.avsResponse r mv) s (fun t => t = s) ∧ Completes (.avsTimeout r false) s (fun t => t = s)) ∧
    (r < 3 → Completes (.avsRead [(r, v, n)]) s (fun t => rail t r = { rail s r with iout := n } ∧ (k ≠ r → rail t k = rail s k) ∧
      t.tim.now = max s.tim.now (nextOf 100000000 (lastOf .rails s)) ∧ t = { s with tim := { s.tim with now := t.tim.now, lastAt := t.tim.lastAt }, pwr := { s.pwr with rails := t.pwr.rails } })) ∧
    (s.pwr.st = .off → Completes (.sensorSample codes) s (fun t => t = s)) ∧
    (s.pwr.st ≠ .off → Completes (.sensorSample codes) s (fun t => t.tim.now = max s.tim.now (nextOf 1000000 (lastOf .sensors s)) ∧ lastOf .sensors t = t.tim.now ∧ (i < 32 → sensor t i = sampleSensor codes t.tim.now i (sensor s i)) ∧
      (i < 32 → codes.getD i 0 < -160 ∨ 600 < codes.getD i 0 → (sensor t i).failed = true ∧ ((sensor s i).failed = false → (srcStat s 0x206).count < 255 → (srcStat s 0x206).count < (srcStat t 0x206).count)) ∧
      (i < 32 → (sensor t i).failed = false → (sensor t i).temp ≤ t.pwr.tmax) ∧ t.pwr.warn = decide ((4 * fld s .pwrThermCfg 0 23 16 : Nat) ≤ t.pwr.tmax) ∧
      t.pwr.tripRun = (if (4 * fld s .pwrThermCfg 0 15 8 : Nat) ≤ t.pwr.tmax then s.pwr.tripRun + 1 else 0) ∧
      t.pwr.trip = (s.pwr.trip || decide (3 ≤ t.pwr.tripRun) || (dieFailed t.pwr).isSome) ∧ (s.pwr.warn = false → t.pwr.warn = true → RaisedOnce 0x204 s t) ∧
      (s.pwr.trip = false → t.pwr.trip = true → RaisedOnce 0x205 s t) ∧
      t = { s with tim := { s.tim with now := t.tim.now, lastAt := t.tim.lastAt }, pwr := { s.pwr with sensors := t.pwr.sensors, tmax := t.pwr.tmax, tripRun := t.pwr.tripRun, warn := t.pwr.warn, trip := t.pwr.trip, coolSince := t.pwr.coolSince }, flt := t.flt })) ∧
    (s.pwr.trip = true → s.pwr.coolSince = some a → Completes .thermTripRelease s (fun t => t.tim.now = max s.tim.now (a + 1000000000) ∧
      t = { s with tim := { s.tim with now := t.tim.now }, pwr := { s.pwr with trip := false } })) ∧
    (s.pwr.trip = false ∨ s.pwr.coolSince = none → Completes .thermTripRelease s (fun t => t = s)) ∧
    (d = cooler s k → slew = fld s .pwrOutCfg k 23 16 → lo = 10000 * fld s .pwrOutCfg k 30 24 → e = s.pwr.tmax - (4 * fld s .pwrThermCfg 0 31 24 : Nat) → ig = d.integral + e →
      raw = (fld s .pwrOutCfg k 15 8 * feedForward s : Nat) + (fld s .pwrThermGain 0 31 24 * 2500 : Nat) * e + (fld s .pwrThermGain 0 23 16 * 25 : Nat) * ig → k < 4 → bit (rd s .pwrOutCfg k) 31 = true → s.pwr.st ≠ .off →
      Completes (.thermalLoop edges) s (fun t => (cooler t k).duty ≤ d.duty + 1000 * slew ∧ d.duty ≤ (cooler t k).duty + 1000 * slew ∧ (cooler t k).edges = (edges.getD k 0 :: d.edges).take 10 ∧
        (cooler t k).rpm = (if d.edges.length < 9 then d.rpm else 60 * (cooler t k).edges.sum / max 1 (fld s .pwrOutCfg k 7 4)) ∧ .pwm k ((cooler t k).duty / 10000) ∈ t.wire ∧
        (s.pwr.st = .recess → (cooler t k).duty = slewDuty slew (10000 * fld s .pwrThermCfg 0 7 0) d.duty) ∧
        (s.pwr.st ≠ .recess → (lo : Int) < raw → raw < 1000000 → (cooler t k).integral = ig ∧ (cooler t k).duty = slewDuty slew raw.toNat d.duty) ∧
        (s.pwr.st ≠ .recess → raw ≤ lo ∨ 1000000 ≤ raw → (cooler t k).integral = d.integral) ∧ t.tim.now = max s.tim.now (nextOf 100000000 (lastOf .cooling s)) ∧
        t = { s with tim := { s.tim with now := t.tim.now, lastAt := t.tim.lastAt }, pwr := { s.pwr with coolers := t.pwr.coolers }, wire := t.wire })) ∧
    (bit (rd s .pwrOutCfg k) 31 = false ∨ s.pwr.st = .off → Completes (.thermalLoop edges) s (fun t => cooler t k = cooler s k) ∧ Completes (.fanStall k) s (fun t => t = s)) ∧
    (k < 4 → s.pwr.st ≠ .off → bit (rd s .pwrOutCfg k) 31 = true → (cooler s k).stalled = false → 10000 * fld s .pwrOutCfg k 30 24 ≤ (cooler s k).duty → Completes (.fanStall k) s (fun t =>
      t.tim.now = max s.tim.now ((cooler s k).pulseAt + 2000000000) ∧ Raised 0x207 [(1, k)] 0 s t ∧ cooler t k = { cooler s k with stalled := true } ∧
      t = { s with tim := { s.tim with now := t.tim.now }, pwr := { s.pwr with coolers := t.pwr.coolers }, flt := t.flt })) ∧
    (a + 32 ≤ 2 ^ 64 → c.hostOk = false → Completes (.thermCoefLoad c a img) s (Fails c 0x0A02 0x21 a (place a img s))) ∧
    (2 ^ 64 < a + 32 → Completes (.thermCoefLoad c a img) s (Fails c 0x0A02 0x11 (argAt c 24 (place a img s)) (place a img s))) ∧
    (a + 32 ≤ 2 ^ 64 → c.hostOk = true → Completes (.thermCoefLoad c a img) s (EndsDone c 0x0A02 0 { place a img s with pwr := { s.pwr with coef := (List.range 5).map (fun i => leNat (hostBytes (place a img s) (a + 2 * i) 2)) } })) ∧
    (Completes .powerUp s (fun t => t = { y with flt := State.reset.flt, sec := { x with run := none, tap := {} }, pwr := { State.reset.pwr with perst := true, wakeCause := 0, wakeTs := 0 } })) ∧
    (s.pwr.st ≠ .off → Completes .perstAssert s (fun t => t = { y with pwr := { State.reset.pwr with perst := true, wakeCause := 1, wakeTs := 0 } }) ∧
      (s.pwr.perst = false → Completes .sysPwrgdFall s (fun t => t = { y with pwr := { State.reset.pwr with perst := true, wakeCause := 1, wakeTs := 0 } }))) ∧
    (s.pwr.st = .off → Completes .perstAssert s (fun t => (srcStat t 0x208).count = 1 ∧ t = { y with pwr := { State.reset.pwr with perst := true, wakeCause := 1, wakeTs := 0 }, flt := t.flt }) ∧
      (s.pwr.perst = false → Completes .sysPwrgdFall s (fun t => (srcStat t 0x208).count = 1 ∧ t = { y with pwr := { State.reset.pwr with perst := true, wakeCause := 1, wakeTs := 0 }, flt := t.flt }))) ∧
    (s.pwr.perst = false → Completes .perstRelease s (fun t => t = s)) ∧
    (s.pwr.perst = true → Completes .sysPwrgdFall s (fun t => t = s) ∧ Completes .perstRelease s (fun t => Raised 0x227 [(1, 0)] 0 s t ∧
      t = { s with pwr := { s.pwr with perst := false, boot := .verifying }, sec := { s.sec with sram := [] }, flt := t.flt })) ∧
    (s.flt.chipResetAt = none → Completes .chipResetReaction s (fun t => t = s)) ∧
    (s.flt.chipResetAt = some a → Completes .chipResetReaction s (fun t => Raised 0x227 [(1, 0)] 0 y t ∧
      t = { y with pwr := { State.reset.pwr with perst := s.pwr.perst, wakeCause := 2, wakeTs := 0 }, flt := t.flt })) ∧
    (s.pwr.st = .off → bit (rd s .pwrCfg 0) 31 = true → Completes .gpio0Wake s (fun t => t.tim = s.tim ∧ rd t .timDomCfg k = rd s .timDomCfg k ∧ (rd t .pwrCfg 0 = (regSpec .pwrCfg).reset) ∧
      t.flt.resetCause = s.flt.resetCause ∧ t.flt.aliveLevel = s.flt.aliveLevel ∧ (srcStat t 0x208).count = 1 ∧ (srcStat t 0x227).count = 1 ∧
      t.pwr = { State.reset.pwr with perst := s.pwr.perst, wakeCause := 3, wakeTs := ts32 s.tim.now, boot := .verifying } ∧
      t = { y with tim := s.tim, regs := t.regs, pwr := t.pwr, flt := t.flt })) ∧
    (s.pwr.st ≠ .off ∨ bit (rd s .pwrCfg 0) 31 = false → Completes .gpio0Wake s (fun t => t = s)) ∧
    (Completes .cxlConfigReady s (fun t => t = { s with pwr := { s.pwr with cxlReady := true } }))

/-- A pair forms, beats, answers, and keeps the tablet at one unit: the lease, ACTIVE and SOLE, fencing and conflicts
(spec/14_redundancy.md: Pair states, spec/14_redundancy.md: Heartbeats, spec/14_redundancy.md: The lease and fencing,
spec/14_redundancy.md: Partial path loss, spec/14_redundancy.md: Commands and events). Where the spec leaves a point open it
states the model's choice: log entries 4, 11, 94, 103, 104 and 147. -/
def Obligations.FormationBeatsAndTheLease : Prop :=
  ∀ (c : Cmd) (s z : State) (a path : Nat) (m : PairMsg) (agree keep : Bool) , s.hif.fences = [] → Settled s → c.cplOk = true → path ≤ 1 → z = hear m path s →
    (s.red.st = .unpaired → Completes (.beatRx m path agree) s (fun t => t = s) ∧ Completes (.takeRx m path) s (fun t => t = s) ∧ Completes (.pairAckRx m path) s (fun t => t = s) ∧ Completes (.leaveRx m path) s (fun t => t = s)) ∧
    (z = { s with red := { s.red with partner := some m, liveA := z.red.liveA, liveB := z.red.liveB, atA := z.red.atA, atB := z.red.atB, healthySince := z.red.healthySince }, flt := z.flt } ∧ livePath z path = true ∧
      livePath z (1 - path) = livePath s (1 - path) ∧ (livePath s path = true → z.flt = s.flt) ∧
      (livePath s path = false → (if path = 0 then s.red.atA else s.red.atB) ≠ 0 → Raised 0x1E4 [(1, path)] 0 s z)) ∧
    (s.red.st ≠ .unpaired ∨ pairEnabled s = false ∨ (home s = false ∧ s.flows ≠ []) → Completes (.pairStart c) s (Fails c 0x0801 0x20 0 s)) ∧
    (s.red.st = .unpaired → pairEnabled s = true → home s = true ∨ s.flows = [] → Completes (.pairStart c) s (fun t => Replied c 0x0801 0 0 0 t ∧
      t = { s with red := { s.red with st := .pairing, since := s.tim.now, partner := none, liveA := false, liveB := false, atA := 0, atB := 0, conflict := false }, aqf := t.aqf, svp := { s.svp with tx := t.svp.tx }, hif := t.hif, flt := t.flt, wire := t.wire } ∧
      (tgetD t.svp.tx a {}).sending = false)) ∧
    (s.red.st ≠ .sole → s.red.st ≠ .standby → s.red.st ≠ .pairing → Completes (.pairStop c) s (Fails c 0x0802 0x20 0 s)) ∧
    (s.red.st = .sole ∨ s.red.st = .standby ∨ s.red.st = .pairing → Completes (.pairStop c) s (fun t => Replied c 0x0802 0 0 0 t ∧
      t.wire[s.wire.length]? = some (.pathB { ownMsg s 10 0 none with path := 1 } (hbInv s)) ∧ (s.red.st ≠ .standby → t.pwr = s.pwr) ∧
      (s.red.st = .standby → s.pwr.trans = none → (t.pwr.trans.map (fun x => x.target)) = some .run) ∧
      t = { s with red := { s.red with st := .unpaired, seq := (s.red.seq + 1) % 2 ^ 32, liveA := false, liveB := false, atA := 0, atB := 0, partnerReady := false, ready := false, jout := [], heldMsgs := [], healthySince := none }, aqf := t.aqf, hif := t.hif, flt := t.flt, wire := t.wire, pwr := t.pwr })) ∧
    (c.hostOk = true → Completes (.pairStatus c a) s (EndsDone c 0x0805 0 (hostWrite a (leBytes 4 (redStatus s) ++ leBytes 4 s.red.gen ++ leBytes 4 (jseqShown s) ++
      slice ((s.red.partner.map pairBytes).getD (zeros 32)) 8 20) s))) ∧
    (c.hostOk = false → Completes (.pairStatus c a) s (Fails c 0x0805 0x21 a s)) ∧
    (s.red.st = .pairing → home s = true → s.flows = [] → s.red.conflict = false → holderHeard s = false → Completes .pairingTimeout s (fun t => t.tim.now = max s.tim.now (s.red.since + leaseNs s + 1000000) ∧
      Raised 0x1E0 [(4, 1), (1, 3)] 0 s t ∧ t = { s with tim := { s.tim with now := t.tim.now }, red := { s.red with st := .sole, gen := 1 }, aqf := t.aqf, flt := t.flt })) ∧
    (s.red.st ≠ .pairing ∨ home s = false ∨ s.flows ≠ [] ∨ s.red.conflict = true ∨ holderHeard s = true → Completes .pairingTimeout s (fun t => t = s)) ∧
    (s.red.st = .pairing ∨ s.red.st = .sole ∨ s.red.st = .active ∨ s.red.st = .fenced → Completes .beatSend s (fun t => t.tim.now = max s.tim.now (nextOf 250000 (lastOf .beat s)) ∧ lastOf .beat t = t.tim.now ∧
      t.wire = s.wire ++ [.pathB { ownMsg (every .beat 250000 s) 1 0 none with path := 1 } (hbInv s)] ∧
      beatStamp t.red s.red.seq = some t.tim.now ∧ t = { s with tim := { s.tim with now := t.tim.now, lastAt := t.tim.lastAt }, red := { s.red with seq := (s.red.seq + 1) % 2 ^ 32, beats := t.red.beats, oversize := t.red.oversize }, aqf := t.aqf, flt := t.flt, wire := t.wire })) ∧
    (s.red.st = .unpaired ∨ s.red.st = .standby ∨ s.red.st = .warm ∨ s.red.st = .taking → Completes .beatSend s (fun t => t = s)) ∧
    (s.red.st = .standby ∨ s.red.st = .warm → fromHolder m = true ∨ m.state = 7 → newerGen s.red.gen m.gen = false → Completes (.beatRx m path agree) s (fun t =>
      t.red.gen = m.gen ∧ t.red.beatAt = s.tim.now ∧ t.red.fencedHeard = (m.fenced || (s.red.fencedHeard && m.gen == s.red.gen)) ∧ t.red.st = s.red.st ∧
      t.red.ready = (s.red.hasImage && agree && !m.diverged && !s.red.sawOversize) ∧ (s.red.ready = false → t.red.ready = true → RaisedOnce 0x1E5 s t) ∧ (s.red.ready = true → t.red.ready = false → RaisedOnce 0x1E6 s t) ∧
      (path = 0 → t.wire = s.wire) ∧ (path = 1 → t.wire = s.wire ++ [.pathB { ownMsg t 2 m.seq none with path := 1, seq := s.red.seq } (hbInv s)]) ∧
      t = { s with red := t.red, aqf := t.aqf, flt := t.flt, wire := t.wire })) ∧
    (s.red.st = .standby ∨ s.red.st = .warm → newerGen s.red.gen m.gen = true → Completes (.beatRx m path agree) s (fun t => t = z)) ∧
    (s.red.st = .pairing → fromHolder m = true → s.flows = [] → Completes (.beatRx m path agree) s (fun t => t.red.st = .standby ∧ t.red.gen = m.gen ∧ t.red.beatAt = s.tim.now ∧ t.red.image = [] ∧ t.red.hasImage = false ∧
      (s.pwr.trans = none → t.pwr.trans.map (fun x => (x.target, x.todo)) = some (.recess, blocksFor s.pwr.st .recess)) ∧ t = { s with red := t.red, aqf := t.aqf, flt := t.flt, wire := t.wire, pwr := t.pwr })) ∧
    (s.red.st = .pairing → s.flows ≠ [] → s.red.conflict = false → (fromHolder m = true → Completes (.beatRx m path agree) s (fun t => Raised 0x1EB [(1, 1)] 0 z t ∧
      t = { z with red := { z.red with conflict := true }, flt := t.flt })) ∧
      Completes (.takeRx m path) s (fun t => Raised 0x1EB [(1, 1)] 0 z t ∧ t = { z with red := { z.red with conflict := true }, flt := t.flt })) ∧
    (s.red.st = .pairing → fromHolder m = false → m.state = 1 → m.home = true → home s = true → s.red.conflict = false → Completes (.beatRx m path agree) s (fun t => Raised 0x1EB [(1, 0)] 0 z t ∧
      t = { z with red := { z.red with conflict := true }, flt := t.flt })) ∧
    (s.red.st = .sole ∨ s.red.st = .active → keep = (newerGen s.red.gen m.gen || (s.red.gen == m.gen && home s)) → s.red.conflict = false →
      (fromHolder m = true → keep = true → Completes (.beatRx m path agree) s (fun t => Raised 0x1EC [(4, s.red.gen), (4, m.gen)] 0 z t ∧ t = { z with red := { z.red with conflict := true }, flt := t.flt })) ∧
      (fromHolder m = true → keep = false → Completes (.beatRx m path agree) s (fun t => RaisedAmong 0x1E2 [(4, s.red.gen), (4, s.red.acked)] z t ∧ Raised 0x1EC [(4, s.red.gen), (4, m.gen)] 0 z t ∧ (tgetD t.svp.tx a {}).sending = false ∧
        t = { z with red := { z.red with conflict := true, st := .fenced }, aqf := t.aqf, flt := t.flt, svp := { z.svp with tx := t.svp.tx } })) ∧
      (fromHolder m = false → Completes (.beatRx m path agree) s (fun t => t = { z with red := { z.red with conflict := false } }))) ∧
    (s.red.st = .fenced → fromHolder m = true → newerGen m.gen s.red.gen = true → Completes (.beatRx m path agree) s (fun t => t.red.st = .standby ∧ t.red.gen = m.gen)) ∧
    (s.red.st = .fenced → fromHolder m = false ∨ newerGen m.gen s.red.gen = false → Completes (.beatRx m path agree) s (fun t => t = z)) ∧
    (newerGen m.gen s.red.gen = true → (s.red.st = .standby → Completes (.takeRx m path) s (fun t => t.red.st = .standby ∧ t.red.gen = m.gen ∧ t.red.beatAt = s.tim.now ∧ t.red.fencedHeard = false ∧ t.pwr = s.pwr)) ∧
      (s.red.st = .warm ∨ s.red.st = .fenced → Completes (.takeRx m path) s (fun t => t.red.st = .standby ∧ t.red.gen = m.gen))) ∧
    (newerGen m.gen s.red.gen = false → s.red.st = .standby ∨ s.red.st = .warm ∨ s.red.st = .fenced → Completes (.takeRx m path) s (fun t => t = z)) ∧
    (s.red.st = .pairing → s.flows = [] → Completes (.takeRx m path) s (fun t => t.red.st = .standby ∧ t.red.gen = m.gen)) ∧
    (s.red.st ≠ .unpaired → s.red.st ≠ .sole → s.red.st ≠ .active → Completes (.pairAckRx m path) s (fun t => t = z) ∧ Completes (.leaveRx m path) s (fun t => t = z)) ∧
    (s.red.st = .sole ∨ s.red.st = .active → Completes (.leaveRx m path) s (fun t => t = { z with red := { z.red with st := .sole, partnerReady := false } }) ∧
      (beatStamp s.red m.ackSeq = none → Completes (.pairAckRx m path) s (fun t => t = z)) ∧
      (beatStamp s.red m.ackSeq = some a → m.ackSeq = s.red.acked ∨ serialLt 32 m.ackSeq s.red.acked = false → Completes (.pairAckRx m path) s (fun t => t.red.acked = m.ackSeq ∧
        t.red.leaseEnd = max s.red.leaseEnd (a + leaseNs s) ∧ t.red.partnerReady = m.ready ∧ (m.ready = true → t.red.st = .active) ∧ (m.ready = false → t.red.st = .sole) ∧
        (s.red.partnerReady = false → m.ready = true → RaisedOnce 0x1E5 s t) ∧ (s.red.partnerReady = true → m.ready = false → RaisedOnce 0x1E6 s t) ∧
        t = { s with red := { z.red with acked := t.red.acked, leaseEnd := t.red.leaseEnd, partnerReady := t.red.partnerReady, st := t.red.st, jseq := t.red.jseq, jout := t.red.jout, heldMsgs := t.red.heldMsgs, oversize := t.red.oversize }, flt := t.flt }))) ∧
    (s.red.st = .active → Completes .leaseEnd s (fun t => t.tim.now = max s.tim.now (s.red.leaseEnd + 1) ∧ Raised 0x1E2 [(4, s.red.gen), (4, s.red.acked)] 0 s t ∧ (tgetD t.svp.tx a {}).sending = false ∧ drives t = false ∧
      t = { s with tim := { s.tim with now := t.tim.now }, red := { s.red with st := .fenced }, aqf := t.aqf, flt := t.flt, svp := { s.svp with tx := t.svp.tx } })) ∧
    (s.red.st ≠ .active → Completes .leaseEnd s (fun t => t = s)) ∧
    (s.red.st ≠ .unpaired → s.red.liveA = true → Completes (.pathLivenessTimeout 0) s (fun t => t.tim.now = max s.tim.now (s.red.atA + 1000001) ∧ t.red.liveA = false ∧ t.red.heldMsgs = [] ∧ RaisedOnce 0x1E3 s t ∧
      t = { s with tim := { s.tim with now := t.tim.now }, red := { s.red with liveA := false, healthySince := t.red.healthySince, heldMsgs := [] }, aqf := t.aqf, flt := t.flt })) ∧
    (s.red.st ≠ .unpaired → s.red.liveB = true → Completes (.pathLivenessTimeout 1) s (fun t => t.tim.now = max s.tim.now (s.red.atB + 1000001) ∧ Raised 0x1E3 [(1, 1)] 0 s t ∧
      t = { s with tim := { s.tim with now := t.tim.now }, red := { s.red with liveB := false, healthySince := t.red.healthySince }, flt := t.flt })) ∧
    (s.red.st = .unpaired ∨ s.red.liveA = false → Completes (.pathLivenessTimeout 0) s (fun t => t = s))

/-- The watch takes the tablet; wake, restore, drive and first commit; the journal confirmed, received and kept
(spec/14_redundancy.md: The journal, spec/14_redundancy.md: The watch in recess, spec/14_redundancy.md: Unplanned takeover,
spec/14_redundancy.md: Revertive return, spec/14_redundancy.md: Commands and events). Where the spec leaves a point open it
states the model's choice: log entries 4, 11, 104, 105 and 106. -/
def Obligations.TakeoverRestoreAndTheJournal : Prop :=
  ∀ (c : Cmd) (s z : State) (a d n k typ fi path : Nat) (l : List Byte) (m : PairMsg) (silent : Bool) (x : Transit) (r : JRec) (b : List JRec), s.hif.fences = [] → Settled s → c.cplOk = true → path ≤ 1 → z = hear m path s → silent = decide (s.red.beatAt + leaseNs s + 1000000 ≤ max s.tim.now (nextOf 250000 (lastOf .wake s))) →
    ((s.red.st ≠ .pairing ∧ s.red.st ≠ .standby ∧ s.red.st ≠ .fenced) ∨ holderHeard s = true → Completes (.tabletTake c) s (Fails c 0x0804 0x20 0 s)) ∧
    (holderHeard s = false → (s.red.st = .standby → Completes (.tabletTake c) s (fun t => Replied c 0x0804 1 0 0 t ∧ t.red.st = .taking ∧ t.red.gen = (s.red.gen + 1) % 2 ^ 32 ∧ t.red.cause = 2 ∧ RaisedOnce 0x1E0 s t ∧
        t.flt.evq.any (fun r => r.src == 0x1E0 && r.kind == 1 && r.tag == c.tag) = true ∧
        t.wire[s.wire.length]? = some (.pathB { ownMsg { s with red := { s.red with st := .taking, gen := (s.red.gen + 1) % 2 ^ 32 } } 3 0 none with path := 1 } (hbInv s)) ∧
        (s.pwr.trans = none → t.pwr.trans.map (fun x => x.target) = some .run) ∧ t = { s with red := t.red, pwr := t.pwr, aqf := t.aqf, hif := t.hif, flt := t.flt, wire := t.wire })) ∧
      (s.red.st = .pairing ∨ s.red.st = .fenced → Completes (.tabletTake c) s (fun t => Replied c 0x0804 1 0 0 t ∧ t.red.st = .sole ∧ t.red.gen = (s.red.gen + 1) % 2 ^ 32 ∧ t.red.driveAt = some s.tim.now ∧
        t.red.uncommitted = (List.range 8).filter (domEn s) ∧ RaisedOnce 0x1E0 s t ∧ t.flt.evq.any (fun r => r.src == 0x1E0 && r.kind == 1 && r.tag == c.tag) = true ∧ drives t = true ∧ t.swc = s.swc ∧ t.mem = s.mem ∧ t.pwr = s.pwr))) ∧
    (s.red.st ≠ .standby → s.red.st ≠ .warm → Completes .recessWake s (fun t => t = s) ∧ Completes (.journalRecordRx k typ fi l none) s (fun t => t = s)) ∧
    (s.red.st = .standby ∨ s.red.st = .warm → silent = false → s.red.fencedHeard = false → Completes .recessWake s (fun t => t = every .wake 250000 s)) ∧
    (s.red.st = .standby → silent = true ∨ s.red.fencedHeard = true → s.red.ready = true → Completes .recessWake s (fun t => t.red.st = .taking ∧ t.red.gen = (s.red.gen + 1) % 2 ^ 32 ∧
      t.red.cause = (if silent = true then 0 else 1) ∧ RaisedOnce 0x1E0 s t ∧ (s.pwr.trans = none → t.pwr.trans.map (fun x => x.target) = some .run) ∧
      t = { s with tim := (every .wake 250000 s).tim, red := t.red, pwr := t.pwr, aqf := t.aqf, flt := t.flt, wire := t.wire })) ∧
    (s.red.st = .warm → silent = true ∨ s.red.fencedHeard = true → s.red.ready = true → Completes .recessWake s (fun t => t.red.gen = (s.red.gen + 1) % 2 ^ 32 ∧ RaisedOnce 0x1E0 s t ∧
      (s.red.warmEnd.isSome = true ∨ s.red.asked = true → t.red.st = .sole ∧ t.red.driveAt = some t.tim.now) ∧ t.tim = (every .wake 250000 s).tim ∧ (s.red.warmEnd = none → s.red.asked = false → t.red.st = .taking) ∧
      (s.red.bound.isSome = true → s.red.confirmed = false → RaisedOnce 0x1EA s t) ∧ t.pwr = s.pwr)) ∧
    (s.red.st = .standby ∨ s.red.st = .warm → s.red.ready = false → silent = true → s.red.blocked = false → Completes .recessWake s (fun t => RaisedOnce 0x1E7 s t ∧ (s.pwr.trans = none → t.pwr.trans.map (fun x => x.target) = some .run) ∧
      t = { s with tim := (every .wake 250000 s).tim, red := { s.red with blocked := true }, pwr := t.pwr, flt := t.flt })) ∧
    (s.red.st = .standby ∨ s.red.st = .warm → s.red.ready = false → silent = false ∨ s.red.blocked = true → Completes .recessWake s (fun t => t = every .wake 250000 s)) ∧
    (s.red.st = .taking ∨ s.red.st = .warm → s.pwr.st = .recess → s.pwr.trans = some x → x.target = .run → x.todo = [] → s.pwr.pend = none → Completes .takeoverWakeDone s (fun t => t.pwr.st = .run ∧ t.pwr.trans = none ∧
      RaisedOnce 0x208 s t ∧ RaisedOnce 0x200 s t ∧ t.flows = [] ∧ t.red = s.red ∧ t.pwr.wakeCause = (if s.red.st = .warm then 7 else 4 + s.red.cause))) ∧
    (s.pwr.trans = none ∨ (s.red.st ≠ .taking ∧ s.red.st ≠ .warm) → Completes .takeoverWakeDone s (fun t => t = s)) ∧
    (s.pwr.st ≠ .run ∨ (s.red.st ≠ .taking ∧ s.red.st ≠ .warm) ∨ (s.red.st = .warm ∧ s.red.warmEnd.isSome = true) → Completes .takeoverRestoreDone s (fun t => t = s)) ∧
    (s.pwr.st = .run → s.red.st = .taking → Completes .takeoverRestoreDone s (fun t => t.red.st = .sole ∧ t.red.driveAt = some s.tim.now ∧ drives t = true ∧ (k < 16 → bit (rd t .nmpEee k) 31 = false) ∧ rd t .svpOctetCfg 0 = 0xFF ∧
      (s.red.image = [] → t.flows = [] ∧ t.consists = []) ∧ (s.red.image = [r] → r.type = 0x20 → fieldAt r.data 0 2 = n → tgetD t.swc.xp n {} = { sel := bit (fieldAt r.data 2 4) 31, mgmt := bit (fieldAt r.data 2 4) 29, page := bits (fieldAt r.data 2 4) 28 23, src := bits (fieldAt r.data 2 4) 15 0, wrote := s.tim.now }))) ∧
    (s.pwr.st = .run → s.red.st = .warm → s.red.warmEnd = none → s.red.asked = false → s.red.bound = none → Completes .takeoverRestoreDone s (fun t => t.red.st = .warm ∧ t.red.warmEnd.isSome = true ∧ drives t = false ∧ (k < 16 → bit (rd t .nmpEee k) 31 = false))) ∧
    (s.red.driveAt = none ∨ s.red.uncommitted.contains d = false → Completes (.firstCommit d) s (fun t => t = s)) ∧
    (s.red.driveAt = some a → s.red.uncommitted.contains d = true → Completes (.firstCommit d) s (fun t => max s.tim.now (boundaryFrom s d (a + framesNs s d 1)) ≤ t.tim.now ∧
      Raised 0x1E8 [(1, d), (4, fiAt s d (boundaryFrom s d (a + framesNs s d 1)) % 2 ^ 32)] 0 s t ∧ t.red.uncommitted = s.red.uncommitted.filter (fun x => x != d) ∧
      (s.tt.slots = [] → t = { s with tim := { s.tim with now := max s.tim.now (boundaryFrom s d (a + framesNs s d 1)) }, red := { s.red with uncommitted := t.red.uncommitted }, aud := { s.aud with xps := t.aud.xps }, flt := t.flt }))) ∧
    (n = normFlow k → (flowD s n).restore = some a → holds s = true → (flowD s n).st = .running → (flowD s n).stop = none → Completes (.restoredFlowTimeout k) s (fun t => t.tim.now = max s.tim.now a ∧ (flowD t n).st = .held ∧ (flowD t n).restore = none ∧
      RaisedOnce 0x07C s t ∧ (d ≠ n → flowD t d = flowD s d) ∧ t = { s with tim := { s.tim with now := t.tim.now }, flows := t.flows, red := { s.red with jseq := t.red.jseq, jout := t.red.jout }, flt := t.flt })) ∧
    ((flowD s (normFlow k)).restore = none ∨ holds s = false → Completes (.restoredFlowTimeout k) s (fun t => t = s)) ∧
    (s.red.st = .unpaired → Completes (.jackRx m path) s (fun t => t = s)) ∧
    (s.red.st ≠ .unpaired → Completes (.jackRx m path) s (fun t => t.red.jout = s.red.jout.filter (fun r => r.jseq != m.ackSeq) ∧
      (holds s = true → t.red.heldMsgs = s.red.heldMsgs.filter (fun h => t.red.jout.any (fun r => r.jseq == h.jseq))) ∧ (holds s = false → t.red.heldMsgs = s.red.heldMsgs) ∧
      t = { z with red := { z.red with jout := t.red.jout, heldMsgs := t.red.heldMsgs }, aqf := t.aqf, flt := t.flt })) ∧
    (s.red.jout = r :: b → holds s = true → Completes .journalDiverged s (fun t => diverged t = true ∧ t = { s with tim := { s.tim with now := max s.tim.now (r.at_ + jFrames s 2 + 1) } })) ∧
    (s.red.jout = [] ∨ holds s = false → Completes .journalDiverged s (fun t => t = s)) ∧
    (s.red.st = .standby → Completes (.journalRecordRx k typ fi l none) s (fun t => t.wire = s.wire ∧ t.red.jseq = (if serialLt 32 k s.red.jseq then s.red.jseq else k) ∧ t.red.seq = (s.red.seq + 1) % 2 ^ 32 ∧
      (typ = 1 → t.red.image = s.red.image ∧ t.red.building = (if 6291456 < fieldAt l 0 4 then none else some []) ∧ t.red.sawOversize = decide (6291456 < fieldAt l 0 4)) ∧
      (typ = 3 → t.red.image = s.red.image ∧ t.red.building = s.red.building) ∧
      (typ ≠ 1 → typ ≠ 2 → typ ≠ 3 → s.red.building = some b → t.red.image = s.red.image ∧ t.red.building = some (b ++ [{ jseq := k, type := typ, fi := fi, data := l, at_ := s.tim.now }])) ∧
      (typ ≠ 1 → typ ≠ 2 → typ ≠ 3 → s.red.building = none → t.red.image = keepRecord { jseq := k, type := typ, fi := fi, data := l, at_ := s.tim.now } s.red.image) ∧
      (typ = 2 → s.red.building = some b → crc32c (b.flatMap (fun x => x.data)) = fieldAt l 0 4 → t.red.hasImage = true ∧ t.red.building = none ∧ t.red.image = b.foldl (fun a x => keepRecord x a) []) ∧
      (typ = 2 → s.red.building = none ∨ (s.red.building = some b ∧ crc32c (b.flatMap (fun x => x.data)) ≠ fieldAt l 0 4) → t.red.hasImage = s.red.hasImage ∧ t.red.image = s.red.image ∧ t.red.building = none) ∧
      t.red.ready = (t.red.hasImage && s.red.digestOk && !s.red.sawDiverged && !t.red.sawOversize) ∧ (s.red.ready = false → t.red.ready = true → RaisedOnce 0x1E5 s t) ∧ (s.red.ready = true → t.red.ready = false → RaisedOnce 0x1E6 s t) ∧
      t = { s with red := t.red, aqf := t.aqf, flt := t.flt }) ∧ Completes (.journalRecordRx k typ fi l (some a)) s (fun t => RaisedOnce 0x024 s t)) ∧
    (s.red.st = .warm → s.red.warmEnd.isSome = true → s.red.building = none → typ = 0x11 → n = extend 32 fi (fiNow s (jdomain s)) →
      (jT s n < s.tim.now → Completes (.journalRecordRx k typ fi l none) s (fun t => RaisedOnce 0x1EE s t ∧ t.red.warmEnd = some (s.tim.now + max (jFrames s (fld s .redCfg 0 7 0)) (longestDelay s)) ∧ t.red.jwait = s.red.jwait)) ∧
      (s.tim.now ≤ jT s n → Completes (.journalRecordRx k typ fi l none) s (fun t => t.red.warmEnd = s.red.warmEnd ∧ t.red.jwait = s.red.jwait ++ [{ jseq := k, type := typ, fi := fi, data := l, at_ := s.tim.now }] ∧ t.consists = s.consists)))

/-- The revertive return: WARM, ASK, PASS, CONFIRM or CANCEL, and the handover at the boundary (spec/14_redundancy.md: Revertive
return, spec/14_redundancy.md: Pair states, spec/14_redundancy.md: Commands and events). Where the spec leaves a point open it
states the model's choice: log entries 4, 11 and 104. -/
def Obligations.RevertiveReturnAndHandover : Prop :=
  ∀ (c : Cmd) (s z : State) (a n path : Nat) (m : PairMsg), s.hif.fences = [] → Settled s → c.cplOk = true → path ≤ 1 → z = hear m path s →
    (s.red.st = .unpaired → Completes (.askRx m path) s (fun t => t = s) ∧ Completes (.passRx m path) s (fun t => t = s) ∧ Completes (.passAckRx m path) s (fun t => t = s) ∧ Completes (.confirmRx m path) s (fun t => t = s) ∧
      Completes (.pairCancelRx m path) s (fun t => t = s)) ∧
    (s.red.st ≠ .standby ∨ s.red.ready = false ∨ livePath s 0 = false ∨ livePath s 1 = false → Completes (.tabletRequest c) s (Fails c 0x0803 0x20 0 s)) ∧
    (s.red.st = .standby → s.red.ready = true → livePath s 0 = true → livePath s 1 = true → Completes (.tabletRequest c) s (fun t => Replied c 0x0803 1 0 0 t ∧ t.red.tag = some c.tag ∧
      (s.pwr.trans = none → t.pwr.trans.map (fun x => x.target) = some .run) ∧
      t = { s with red := { s.red with st := .warm, since := s.tim.now, tag := some c.tag, warmEnd := none, bound := none, ackA := false, ackB := false, confirmed := false, asked := false, healthySince := none }, pwr := t.pwr, hif := t.hif, flt := t.flt, wire := t.wire })) ∧
    (s.red.healthySince = some a → s.red.st = .standby → home s = true → revert s = true → s.red.ready = true → s.red.liveA = true → s.red.liveB = true → Completes .revertHoldOff s (fun t =>
      t.tim.now = max s.tim.now (a + 1000000000 * fld s .redCfg 0 15 8) ∧ t.red.st = .warm ∧ t.red.tag = s.red.tag ∧ (s.pwr.trans = none → t.pwr.trans.map (fun x => x.target) = some .run) ∧
      t = { s with tim := { s.tim with now := t.tim.now }, red := t.red, pwr := t.pwr, flt := t.flt })) ∧
    (s.red.healthySince = none ∨ s.red.st ≠ .standby ∨ home s = false ∨ revert s = false ∨ s.red.ready = false → Completes .revertHoldOff s (fun t => t = s)) ∧
    (s.red.st = .warm → s.red.warmEnd = some a → Completes .warmPeriodEnd s (fun t => t.tim.now = max s.tim.now a ∧ t.wire = s.wire ++ [.pathB { ownMsg t 4 0 none with path := 1, seq := s.red.seq } (hbInv s)] ∧
      t = { s with tim := { s.tim with now := t.tim.now }, red := { s.red with seq := (s.red.seq + 1) % 2 ^ 32, warmEnd := none, asked := true }, aqf := t.aqf, flt := t.flt, wire := t.wire })) ∧
    (s.red.st ≠ .warm ∨ s.red.warmEnd = none → Completes .warmPeriodEnd s (fun t => t = s)) ∧
    (holds s = true → s.red.bound = none → n = fiAt s (jdomain s) (boundaryFrom s (jdomain s) (s.tim.now + jFrames s 3)) →
      (path = 0 → s.red.askB = true → Completes (.askRx m path) s (fun t => t = { z with red := { z.red with askA := true, bound := some n, ackA := false, ackB := false, confirmed := false } })) ∧
      (path = 1 → s.red.askA = true → Completes (.askRx m path) s (fun t => t = { z with red := { z.red with askB := true, bound := some n, ackA := false, ackB := false, confirmed := false } }))) ∧
    (s.red.st ≠ .unpaired → holds s = false ∨ s.red.bound.isSome = true ∨ (path = 0 ∧ s.red.askB = false) ∨ (path = 1 ∧ s.red.askA = false) → Completes (.askRx m path) s (fun t =>
      t = { z with red := { z.red with askA := z.red.askA || path == 0, askB := z.red.askB || path == 1 } })) ∧
    (s.red.bound = some n → holds s = true → s.red.confirmed = false → Completes .passSend s (fun t => t.tim.now = max s.tim.now (nextOf 250000 (lastOf .pass s)) ∧ lastOf .pass t = t.tim.now ∧
      t.wire = s.wire ++ [.pathB { ownMsg (every .pass 250000 s) 5 0 (some n) with path := 1 } (hbInv s)] ∧
      t = { s with tim := { s.tim with now := t.tim.now, lastAt := t.tim.lastAt }, red := { s.red with seq := (s.red.seq + 1) % 2 ^ 32 }, aqf := t.aqf, flt := t.flt, wire := t.wire })) ∧
    (s.red.bound = none ∨ holds s = false ∨ s.red.confirmed = true → Completes .passSend s (fun t => t = s) ∧ Completes .handoverConfirmPoint s (fun t => t = s)) ∧
    (s.red.st = .warm → s.red.asked = true → Completes (.passRx m path) s (fun t => t.red.bound = some (extend 32 m.fi (fiNow s (jdomain s))) ∧ t.wire = s.wire ++ [.pathB { ownMsg t 6 0 none with path := 1, seq := s.red.seq } (hbInv s)] ∧
      t = { z with red := { z.red with bound := t.red.bound, seq := (s.red.seq + 1) % 2 ^ 32 }, aqf := t.aqf, flt := t.flt, wire := t.wire })) ∧
    (s.red.st ≠ .unpaired → s.red.st ≠ .warm ∨ s.red.asked = false → Completes (.passRx m path) s (fun t => t = z)) ∧
    (holds s = true → s.red.bound.isSome = true → Completes (.passAckRx m path) s (fun t => t = { z with red := { z.red with ackA := z.red.ackA || path == 0, ackB := z.red.ackB || path == 1 } })) ∧
    (s.red.st ≠ .unpaired → holds s = false ∨ s.red.bound = none → Completes (.passAckRx m path) s (fun t => t = z)) ∧
    (s.red.bound = some n → holds s = true → s.red.confirmed = false → Completes .handoverConfirmPoint s (fun t => t.tim.now = max s.tim.now (jT s n - jFrames s 1) ∧
      (livePath t 0 = true → livePath t 1 = true → s.red.ackA = true → s.red.ackB = true → t.wire = s.wire ++ [.pathB { ownMsg t 7 0 (some n) with path := 1, seq := s.red.seq } (hbInv s)] ∧
        t = { s with tim := { s.tim with now := t.tim.now }, red := { s.red with confirmed := true, seq := (s.red.seq + 1) % 2 ^ 32 }, aqf := t.aqf, flt := t.flt, wire := t.wire }) ∧
      (livePath t 0 = false ∨ livePath t 1 = false ∨ s.red.ackA = false ∨ s.red.ackB = false → t.wire = s.wire ++ [.pathB { ownMsg t 8 0 none with path := 1, seq := s.red.seq } (hbInv s)] ∧
        Raised 0x1E9 [(1, if livePath t 0 && livePath t 1 then 1 else 0)] 0 s t ∧
        t = { s with tim := { s.tim with now := t.tim.now }, red := { s.red with bound := none, ackA := false, ackB := false, askA := false, askB := false, seq := (s.red.seq + 1) % 2 ^ 32 }, aqf := t.aqf, flt := t.flt, wire := t.wire }))) ∧
    (s.red.st = .warm → s.red.bound = some n → (s.tim.now + 100000 ≤ jT s n → Completes (.confirmRx m path) s (fun t => t = { z with red := { z.red with confirmed := true } })) ∧
      (jT s n < s.tim.now + 100000 → Completes (.confirmRx m path) s (fun t => t = z))) ∧
    (s.red.st ≠ .unpaired → s.red.st ≠ .warm ∨ s.red.bound = none → Completes (.confirmRx m path) s (fun t => t = z)) ∧
    (s.red.st ≠ .unpaired → s.red.st ≠ .warm → Completes (.pairCancelRx m path) s (fun t => t = z)) ∧
    (s.red.st = .warm → Completes (.pairCancelRx m path) s (fun t => t.red.st = .standby ∧ t.red.bound = none ∧ t.red.confirmed = false ∧ t.red.asked = false ∧ t.red.warmEnd = none ∧ t.red.tag = none ∧ RaisedOnce 0x1E9 s t ∧
      (s.red.tag = some a → t.flt.evq.any (fun r => r.src == 0x1E9 && r.kind == 1 && r.tag == a) = true) ∧ (s.pwr.trans = none → t.pwr.trans.map (fun x => x.target) = some .recess) ∧ (tgetD t.svp.tx a {}).sending = false ∧
      t = { s with red := t.red, pwr := t.pwr, svp := { s.svp with tx := t.svp.tx }, flt := t.flt })) ∧
    (s.red.bound = none ∨ s.red.confirmed = false → Completes .handoverAtB s (fun t => t = s)) ∧
    (s.red.bound = some n → s.red.confirmed = true → holds s = true → Completes .handoverAtB s (fun t => t.tim.now = max s.tim.now (jT s n) ∧ t.red.st = .standby ∧ drives t = false ∧ t.red.gen = (s.red.gen + 1) % 2 ^ 32 ∧ t.red.bound = none ∧
      t.red.relayEnd = some (jT s n + 32 * 81920) ∧ t.red.fabricAt = alignUp 81920 (jT s n) ∧ RaisedOnce 0x1E1 s t ∧ (livePath t 0 = false → livePath t 1 = false → RaisedOnce 0x1EA s t) ∧ t.red.sdiUntil = jT s (n + 1) ∧ (t.tim.now < jT s (n + 1) → sdiRuns t = true) ∧
      t = { s with tim := { s.tim with now := t.tim.now }, red := t.red, aqf := t.aqf, flt := t.flt })) ∧
    (s.red.bound = some n → s.red.confirmed = true → s.red.st = .warm → Completes .handoverAtB s (fun t => t.tim.now = max s.tim.now (jT s n) ∧ t.red.st = .sole ∧ drives t = true ∧ t.red.gen = (s.red.gen + 1) % 2 ^ 32 ∧ t.red.bound = none ∧
      t.red.tag = none ∧ RaisedOnce 0x1E1 s t ∧ (s.red.tag = some a → t.flt.evq.any (fun r => r.src == 0x1E1 && r.kind == 1 && r.tag == a) = true) ∧ t.swc = s.swc ∧ t.pwr = s.pwr ∧ t.mem = s.mem)) ∧
    (s.red.relayEnd = none → Completes .relayEnd s (fun t => t = s)) ∧
    (s.red.relayEnd = some a → Completes .relayEnd s (fun t => t.tim.now = max s.tim.now a ∧ (s.pwr.trans = none → t.pwr.trans.map (fun x => x.target) = some .recess) ∧
      t = { s with tim := { s.tim with now := t.tim.now }, red := { s.red with relayEnd := none }, pwr := t.pwr, flt := t.flt }))
end

