-- ==== Sys2Proof/Laws/State.lean ====
section
/-! SUPPORT. Frame lemmas: each shared update of the state leaves every other part of it as it was. -/
namespace Sys2Proof.Machine
open Sys2Proof

@[simp] theorem place_pending (a : Nat) (img : List Byte) (s : State) : (place a img s).pending = s.pending := rfl
@[simp] theorem place_regs (a : Nat) (img : List Byte) (s : State) : (place a img s).regs = s.regs := rfl
@[simp] theorem place_tim (a : Nat) (img : List Byte) (s : State) : (place a img s).tim = s.tim := rfl
@[simp] theorem place_flows (a : Nat) (img : List Byte) (s : State) : (place a img s).flows = s.flows := rfl
@[simp] theorem place_consists (a : Nat) (img : List Byte) (s : State) : (place a img s).consists = s.consists := rfl
@[simp] theorem place_swc (a : Nat) (img : List Byte) (s : State) : (place a img s).swc = s.swc := rfl
@[simp] theorem place_tt (a : Nat) (img : List Byte) (s : State) : (place a img s).tt = s.tt := rfl
@[simp] theorem place_aqf (a : Nat) (img : List Byte) (s : State) : (place a img s).aqf = s.aqf := rfl
@[simp] theorem place_svp (a : Nat) (img : List Byte) (s : State) : (place a img s).svp = s.svp := rfl
@[simp] theorem place_nmp (a : Nat) (img : List Byte) (s : State) : (place a img s).nmp = s.nmp := rfl
@[simp] theorem place_lnx (a : Nat) (img : List Byte) (s : State) : (place a img s).lnx = s.lnx := rfl
@[simp] theorem place_ika (a : Nat) (img : List Byte) (s : State) : (place a img s).ika = s.ika := rfl
@[simp] theorem place_aud (a : Nat) (img : List Byte) (s : State) : (place a img s).aud = s.aud := rfl
@[simp] theorem place_mem (a : Nat) (img : List Byte) (s : State) : (place a img s).mem = s.mem := rfl
@[simp] theorem place_flt (a : Nat) (img : List Byte) (s : State) : (place a img s).flt = s.flt := rfl
@[simp] theorem place_red (a : Nat) (img : List Byte) (s : State) : (place a img s).red = s.red := rfl
@[simp] theorem place_pwr (a : Nat) (img : List Byte) (s : State) : (place a img s).pwr = s.pwr := rfl
@[simp] theorem place_sec (a : Nat) (img : List Byte) (s : State) : (place a img s).sec = s.sec := rfl
@[simp] theorem place_free (a : Nat) (img : List Byte) (s : State) : (place a img s).free = s.free := rfl
@[simp] theorem place_wire (a : Nat) (img : List Byte) (s : State) : (place a img s).wire = s.wire := rfl

@[simp] theorem hostWrite_pending (a : Nat) (img : List Byte) (s : State) : (hostWrite a img s).pending = s.pending := rfl
@[simp] theorem hostWrite_regs (a : Nat) (img : List Byte) (s : State) : (hostWrite a img s).regs = s.regs := rfl
@[simp] theorem hostWrite_tim (a : Nat) (img : List Byte) (s : State) : (hostWrite a img s).tim = s.tim := rfl
@[simp] theorem hostWrite_flows (a : Nat) (img : List Byte) (s : State) : (hostWrite a img s).flows = s.flows := rfl
@[simp] theorem hostWrite_consists (a : Nat) (img : List Byte) (s : State) : (hostWrite a img s).consists = s.consists := rfl
@[simp] theorem hostWrite_swc (a : Nat) (img : List Byte) (s : State) : (hostWrite a img s).swc = s.swc := rfl
@[simp] theorem hostWrite_tt (a : Nat) (img : List Byte) (s : State) : (hostWrite a img s).tt = s.tt := rfl
@[simp] theorem hostWrite_aqf (a : Nat) (img : List Byte) (s : State) : (hostWrite a img s).aqf = s.aqf := rfl
@[simp] theorem hostWrite_svp (a : Nat) (img : List Byte) (s : State) : (hostWrite a img s).svp = s.svp := rfl
@[simp] theorem hostWrite_nmp (a : Nat) (img : List Byte) (s : State) : (hostWrite a img s).nmp = s.nmp := rfl
@[simp] theorem hostWrite_lnx (a : Nat) (img : List Byte) (s : State) : (hostWrite a img s).lnx = s.lnx := rfl
@[simp] theorem hostWrite_ika (a : Nat) (img : List Byte) (s : State) : (hostWrite a img s).ika = s.ika := rfl
@[simp] theorem hostWrite_aud (a : Nat) (img : List Byte) (s : State) : (hostWrite a img s).aud = s.aud := rfl
@[simp] theorem hostWrite_mem (a : Nat) (img : List Byte) (s : State) : (hostWrite a img s).mem = s.mem := rfl
@[simp] theorem hostWrite_flt (a : Nat) (img : List Byte) (s : State) : (hostWrite a img s).flt = s.flt := rfl
@[simp] theorem hostWrite_red (a : Nat) (img : List Byte) (s : State) : (hostWrite a img s).red = s.red := rfl
@[simp] theorem hostWrite_pwr (a : Nat) (img : List Byte) (s : State) : (hostWrite a img s).pwr = s.pwr := rfl
@[simp] theorem hostWrite_sec (a : Nat) (img : List Byte) (s : State) : (hostWrite a img s).sec = s.sec := rfl
@[simp] theorem hostWrite_free (a : Nat) (img : List Byte) (s : State) : (hostWrite a img s).free = s.free := rfl
@[simp] theorem hostWrite_wire (a : Nat) (img : List Byte) (s : State) : (hostWrite a img s).wire = s.wire := rfl

@[simp] theorem raise_pending (e : Ev) (s : State) : (raise e s).pending = s.pending := rfl
@[simp] theorem raise_regs (e : Ev) (s : State) : (raise e s).regs = s.regs := rfl
@[simp] theorem raise_tim (e : Ev) (s : State) : (raise e s).tim = s.tim := rfl
@[simp] theorem raise_flows (e : Ev) (s : State) : (raise e s).flows = s.flows := rfl
@[simp] theorem raise_consists (e : Ev) (s : State) : (raise e s).consists = s.consists := rfl
@[simp] theorem raise_swc (e : Ev) (s : State) : (raise e s).swc = s.swc := rfl
@[simp] theorem raise_tt (e : Ev) (s : State) : (raise e s).tt = s.tt := rfl
@[simp] theorem raise_aqf (e : Ev) (s : State) : (raise e s).aqf = s.aqf := rfl
@[simp] theorem raise_svp (e : Ev) (s : State) : (raise e s).svp = s.svp := rfl
@[simp] theorem raise_nmp (e : Ev) (s : State) : (raise e s).nmp = s.nmp := rfl
@[simp] theorem raise_lnx (e : Ev) (s : State) : (raise e s).lnx = s.lnx := rfl
@[simp] theorem raise_ika (e : Ev) (s : State) : (raise e s).ika = s.ika := rfl
@[simp] theorem raise_aud (e : Ev) (s : State) : (raise e s).aud = s.aud := rfl
@[simp] theorem raise_mem (e : Ev) (s : State) : (raise e s).mem = s.mem := rfl
@[simp] theorem raise_hif (e : Ev) (s : State) : (raise e s).hif = s.hif := rfl
@[simp] theorem raise_red (e : Ev) (s : State) : (raise e s).red = s.red := rfl
@[simp] theorem raise_pwr (e : Ev) (s : State) : (raise e s).pwr = s.pwr := rfl
@[simp] theorem raise_sec (e : Ev) (s : State) : (raise e s).sec = s.sec := rfl
@[simp] theorem raise_free (e : Ev) (s : State) : (raise e s).free = s.free := rfl
@[simp] theorem raise_wire (e : Ev) (s : State) : (raise e s).wire = s.wire := rfl

@[simp] theorem clearSrc_pending (n : Nat) (s : State) : (clearSrc n s).pending = s.pending := rfl
@[simp] theorem clearSrc_regs (n : Nat) (s : State) : (clearSrc n s).regs = s.regs := rfl
@[simp] theorem clearSrc_tim (n : Nat) (s : State) : (clearSrc n s).tim = s.tim := rfl
@[simp] theorem clearSrc_flows (n : Nat) (s : State) : (clearSrc n s).flows = s.flows := rfl
@[simp] theorem clearSrc_consists (n : Nat) (s : State) : (clearSrc n s).consists = s.consists := rfl
@[simp] theorem clearSrc_swc (n : Nat) (s : State) : (clearSrc n s).swc = s.swc := rfl
@[simp] theorem clearSrc_tt (n : Nat) (s : State) : (clearSrc n s).tt = s.tt := rfl
@[simp] theorem clearSrc_aqf (n : Nat) (s : State) : (clearSrc n s).aqf = s.aqf := rfl
@[simp] theorem clearSrc_svp (n : Nat) (s : State) : (clearSrc n s).svp = s.svp := rfl
@[simp] theorem clearSrc_nmp (n : Nat) (s : State) : (clearSrc n s).nmp = s.nmp := rfl
@[simp] theorem clearSrc_lnx (n : Nat) (s : State) : (clearSrc n s).lnx = s.lnx := rfl
@[simp] theorem clearSrc_ika (n : Nat) (s : State) : (clearSrc n s).ika = s.ika := rfl
@[simp] theorem clearSrc_aud (n : Nat) (s : State) : (clearSrc n s).aud = s.aud := rfl
@[simp] theorem clearSrc_mem (n : Nat) (s : State) : (clearSrc n s).mem = s.mem := rfl
@[simp] theorem clearSrc_hif (n : Nat) (s : State) : (clearSrc n s).hif = s.hif := rfl
@[simp] theorem clearSrc_red (n : Nat) (s : State) : (clearSrc n s).red = s.red := rfl
@[simp] theorem clearSrc_pwr (n : Nat) (s : State) : (clearSrc n s).pwr = s.pwr := rfl
@[simp] theorem clearSrc_sec (n : Nat) (s : State) : (clearSrc n s).sec = s.sec := rfl
@[simp] theorem clearSrc_free (n : Nat) (s : State) : (clearSrc n s).free = s.free := rfl
@[simp] theorem clearSrc_wire (n : Nat) (s : State) : (clearSrc n s).wire = s.wire := rfl

@[simp] theorem setCmdRing_pending (q : Nat) (r : CmdRing) (s : State) : (setCmdRing q r s).pending = s.pending := rfl
@[simp] theorem setCmdRing_regs (q : Nat) (r : CmdRing) (s : State) : (setCmdRing q r s).regs = s.regs := rfl
@[simp] theorem setCmdRing_tim (q : Nat) (r : CmdRing) (s : State) : (setCmdRing q r s).tim = s.tim := rfl
@[simp] theorem setCmdRing_flows (q : Nat) (r : CmdRing) (s : State) : (setCmdRing q r s).flows = s.flows := rfl
@[simp] theorem setCmdRing_consists (q : Nat) (r : CmdRing) (s : State) : (setCmdRing q r s).consists = s.consists := rfl
@[simp] theorem setCmdRing_swc (q : Nat) (r : CmdRing) (s : State) : (setCmdRing q r s).swc = s.swc := rfl
@[simp] theorem setCmdRing_tt (q : Nat) (r : CmdRing) (s : State) : (setCmdRing q r s).tt = s.tt := rfl
@[simp] theorem setCmdRing_aqf (q : Nat) (r : CmdRing) (s : State) : (setCmdRing q r s).aqf = s.aqf := rfl
@[simp] theorem setCmdRing_svp (q : Nat) (r : CmdRing) (s : State) : (setCmdRing q r s).svp = s.svp := rfl
@[simp] theorem setCmdRing_nmp (q : Nat) (r : CmdRing) (s : State) : (setCmdRing q r s).nmp = s.nmp := rfl
@[simp] theorem setCmdRing_lnx (q : Nat) (r : CmdRing) (s : State) : (setCmdRing q r s).lnx = s.lnx := rfl
@[simp] theorem setCmdRing_ika (q : Nat) (r : CmdRing) (s : State) : (setCmdRing q r s).ika = s.ika := rfl
@[simp] theorem setCmdRing_aud (q : Nat) (r : CmdRing) (s : State) : (setCmdRing q r s).aud = s.aud := rfl
@[simp] theorem setCmdRing_mem (q : Nat) (r : CmdRing) (s : State) : (setCmdRing q r s).mem = s.mem := rfl
@[simp] theorem setCmdRing_flt (q : Nat) (r : CmdRing) (s : State) : (setCmdRing q r s).flt = s.flt := rfl
@[simp] theorem setCmdRing_red (q : Nat) (r : CmdRing) (s : State) : (setCmdRing q r s).red = s.red := rfl
@[simp] theorem setCmdRing_pwr (q : Nat) (r : CmdRing) (s : State) : (setCmdRing q r s).pwr = s.pwr := rfl
@[simp] theorem setCmdRing_sec (q : Nat) (r : CmdRing) (s : State) : (setCmdRing q r s).sec = s.sec := rfl
@[simp] theorem setCmdRing_free (q : Nat) (r : CmdRing) (s : State) : (setCmdRing q r s).free = s.free := rfl
@[simp] theorem setCmdRing_wire (q : Nat) (r : CmdRing) (s : State) : (setCmdRing q r s).wire = s.wire := rfl

@[simp] theorem setCplRing_pending (q : Nat) (r : CplRing) (s : State) : (setCplRing q r s).pending = s.pending := rfl
@[simp] theorem setCplRing_regs (q : Nat) (r : CplRing) (s : State) : (setCplRing q r s).regs = s.regs := rfl
@[simp] theorem setCplRing_tim (q : Nat) (r : CplRing) (s : State) : (setCplRing q r s).tim = s.tim := rfl
@[simp] theorem setCplRing_flows (q : Nat) (r : CplRing) (s : State) : (setCplRing q r s).flows = s.flows := rfl
@[simp] theorem setCplRing_consists (q : Nat) (r : CplRing) (s : State) : (setCplRing q r s).consists = s.consists := rfl
@[simp] theorem setCplRing_swc (q : Nat) (r : CplRing) (s : State) : (setCplRing q r s).swc = s.swc := rfl
@[simp] theorem setCplRing_tt (q : Nat) (r : CplRing) (s : State) : (setCplRing q r s).tt = s.tt := rfl
@[simp] theorem setCplRing_aqf (q : Nat) (r : CplRing) (s : State) : (setCplRing q r s).aqf = s.aqf := rfl
@[simp] theorem setCplRing_svp (q : Nat) (r : CplRing) (s : State) : (setCplRing q r s).svp = s.svp := rfl
@[simp] theorem setCplRing_nmp (q : Nat) (r : CplRing) (s : State) : (setCplRing q r s).nmp = s.nmp := rfl
@[simp] theorem setCplRing_lnx (q : Nat) (r : CplRing) (s : State) : (setCplRing q r s).lnx = s.lnx := rfl
@[simp] theorem setCplRing_ika (q : Nat) (r : CplRing) (s : State) : (setCplRing q r s).ika = s.ika := rfl
@[simp] theorem setCplRing_aud (q : Nat) (r : CplRing) (s : State) : (setCplRing q r s).aud = s.aud := rfl
@[simp] theorem setCplRing_mem (q : Nat) (r : CplRing) (s : State) : (setCplRing q r s).mem = s.mem := rfl
@[simp] theorem setCplRing_flt (q : Nat) (r : CplRing) (s : State) : (setCplRing q r s).flt = s.flt := rfl
@[simp] theorem setCplRing_red (q : Nat) (r : CplRing) (s : State) : (setCplRing q r s).red = s.red := rfl
@[simp] theorem setCplRing_pwr (q : Nat) (r : CplRing) (s : State) : (setCplRing q r s).pwr = s.pwr := rfl
@[simp] theorem setCplRing_sec (q : Nat) (r : CplRing) (s : State) : (setCplRing q r s).sec = s.sec := rfl
@[simp] theorem setCplRing_free (q : Nat) (r : CplRing) (s : State) : (setCplRing q r s).free = s.free := rfl
@[simp] theorem setCplRing_wire (q : Nat) (r : CplRing) (s : State) : (setCplRing q r s).wire = s.wire := rfl

@[simp] theorem setEvtRing_pending (q : Nat) (r : EvtRing) (s : State) : (setEvtRing q r s).pending = s.pending := rfl
@[simp] theorem setEvtRing_regs (q : Nat) (r : EvtRing) (s : State) : (setEvtRing q r s).regs = s.regs := rfl
@[simp] theorem setEvtRing_tim (q : Nat) (r : EvtRing) (s : State) : (setEvtRing q r s).tim = s.tim := rfl
@[simp] theorem setEvtRing_flows (q : Nat) (r : EvtRing) (s : State) : (setEvtRing q r s).flows = s.flows := rfl
@[simp] theorem setEvtRing_consists (q : Nat) (r : EvtRing) (s : State) : (setEvtRing q r s).consists = s.consists := rfl
@[simp] theorem setEvtRing_swc (q : Nat) (r : EvtRing) (s : State) : (setEvtRing q r s).swc = s.swc := rfl
@[simp] theorem setEvtRing_tt (q : Nat) (r : EvtRing) (s : State) : (setEvtRing q r s).tt = s.tt := rfl
@[simp] theorem setEvtRing_aqf (q : Nat) (r : EvtRing) (s : State) : (setEvtRing q r s).aqf = s.aqf := rfl
@[simp] theorem setEvtRing_svp (q : Nat) (r : EvtRing) (s : State) : (setEvtRing q r s).svp = s.svp := rfl
@[simp] theorem setEvtRing_nmp (q : Nat) (r : EvtRing) (s : State) : (setEvtRing q r s).nmp = s.nmp := rfl
@[simp] theorem setEvtRing_lnx (q : Nat) (r : EvtRing) (s : State) : (setEvtRing q r s).lnx = s.lnx := rfl
@[simp] theorem setEvtRing_ika (q : Nat) (r : EvtRing) (s : State) : (setEvtRing q r s).ika = s.ika := rfl
@[simp] theorem setEvtRing_aud (q : Nat) (r : EvtRing) (s : State) : (setEvtRing q r s).aud = s.aud := rfl
@[simp] theorem setEvtRing_mem (q : Nat) (r : EvtRing) (s : State) : (setEvtRing q r s).mem = s.mem := rfl
@[simp] theorem setEvtRing_flt (q : Nat) (r : EvtRing) (s : State) : (setEvtRing q r s).flt = s.flt := rfl
@[simp] theorem setEvtRing_red (q : Nat) (r : EvtRing) (s : State) : (setEvtRing q r s).red = s.red := rfl
@[simp] theorem setEvtRing_pwr (q : Nat) (r : EvtRing) (s : State) : (setEvtRing q r s).pwr = s.pwr := rfl
@[simp] theorem setEvtRing_sec (q : Nat) (r : EvtRing) (s : State) : (setEvtRing q r s).sec = s.sec := rfl
@[simp] theorem setEvtRing_free (q : Nat) (r : EvtRing) (s : State) : (setEvtRing q r s).free = s.free := rfl
@[simp] theorem setEvtRing_wire (q : Nat) (r : EvtRing) (s : State) : (setEvtRing q r s).wire = s.wire := rfl

@[simp] theorem atLeast_pending (n : Nat) (s : State) : (atLeast n s).pending = s.pending := rfl
@[simp] theorem atLeast_regs (n : Nat) (s : State) : (atLeast n s).regs = s.regs := rfl
@[simp] theorem atLeast_flows (n : Nat) (s : State) : (atLeast n s).flows = s.flows := rfl
@[simp] theorem atLeast_consists (n : Nat) (s : State) : (atLeast n s).consists = s.consists := rfl
@[simp] theorem atLeast_swc (n : Nat) (s : State) : (atLeast n s).swc = s.swc := rfl
@[simp] theorem atLeast_tt (n : Nat) (s : State) : (atLeast n s).tt = s.tt := rfl
@[simp] theorem atLeast_aqf (n : Nat) (s : State) : (atLeast n s).aqf = s.aqf := rfl
@[simp] theorem atLeast_svp (n : Nat) (s : State) : (atLeast n s).svp = s.svp := rfl
@[simp] theorem atLeast_nmp (n : Nat) (s : State) : (atLeast n s).nmp = s.nmp := rfl
@[simp] theorem atLeast_lnx (n : Nat) (s : State) : (atLeast n s).lnx = s.lnx := rfl
@[simp] theorem atLeast_ika (n : Nat) (s : State) : (atLeast n s).ika = s.ika := rfl
@[simp] theorem atLeast_aud (n : Nat) (s : State) : (atLeast n s).aud = s.aud := rfl
@[simp] theorem atLeast_mem (n : Nat) (s : State) : (atLeast n s).mem = s.mem := rfl
@[simp] theorem atLeast_hif (n : Nat) (s : State) : (atLeast n s).hif = s.hif := rfl
@[simp] theorem atLeast_flt (n : Nat) (s : State) : (atLeast n s).flt = s.flt := rfl
@[simp] theorem atLeast_red (n : Nat) (s : State) : (atLeast n s).red = s.red := rfl
@[simp] theorem atLeast_pwr (n : Nat) (s : State) : (atLeast n s).pwr = s.pwr := rfl
@[simp] theorem atLeast_sec (n : Nat) (s : State) : (atLeast n s).sec = s.sec := rfl
@[simp] theorem atLeast_free (n : Nat) (s : State) : (atLeast n s).free = s.free := rfl
@[simp] theorem atLeast_wire (n : Nat) (s : State) : (atLeast n s).wire = s.wire := rfl

@[simp] theorem setTim_pending (x : Tim) (s : State) : (setTim x s).pending = s.pending := rfl
@[simp] theorem setTim_regs (x : Tim) (s : State) : (setTim x s).regs = s.regs := rfl
@[simp] theorem setTim_flows (x : Tim) (s : State) : (setTim x s).flows = s.flows := rfl
@[simp] theorem setTim_consists (x : Tim) (s : State) : (setTim x s).consists = s.consists := rfl
@[simp] theorem setTim_swc (x : Tim) (s : State) : (setTim x s).swc = s.swc := rfl
@[simp] theorem setTim_tt (x : Tim) (s : State) : (setTim x s).tt = s.tt := rfl
@[simp] theorem setTim_aqf (x : Tim) (s : State) : (setTim x s).aqf = s.aqf := rfl
@[simp] theorem setTim_svp (x : Tim) (s : State) : (setTim x s).svp = s.svp := rfl
@[simp] theorem setTim_nmp (x : Tim) (s : State) : (setTim x s).nmp = s.nmp := rfl
@[simp] theorem setTim_lnx (x : Tim) (s : State) : (setTim x s).lnx = s.lnx := rfl
@[simp] theorem setTim_ika (x : Tim) (s : State) : (setTim x s).ika = s.ika := rfl
@[simp] theorem setTim_aud (x : Tim) (s : State) : (setTim x s).aud = s.aud := rfl
@[simp] theorem setTim_mem (x : Tim) (s : State) : (setTim x s).mem = s.mem := rfl
@[simp] theorem setTim_hif (x : Tim) (s : State) : (setTim x s).hif = s.hif := rfl
@[simp] theorem setTim_flt (x : Tim) (s : State) : (setTim x s).flt = s.flt := rfl
@[simp] theorem setTim_red (x : Tim) (s : State) : (setTim x s).red = s.red := rfl
@[simp] theorem setTim_pwr (x : Tim) (s : State) : (setTim x s).pwr = s.pwr := rfl
@[simp] theorem setTim_sec (x : Tim) (s : State) : (setTim x s).sec = s.sec := rfl
@[simp] theorem setTim_free (x : Tim) (s : State) : (setTim x s).free = s.free := rfl
@[simp] theorem setTim_wire (x : Tim) (s : State) : (setTim x s).wire = s.wire := rfl

@[simp] theorem setCand_pending (n : Nat) (x : Cand) (s : State) : (setCand n x s).pending = s.pending := rfl
@[simp] theorem setCand_regs (n : Nat) (x : Cand) (s : State) : (setCand n x s).regs = s.regs := rfl
@[simp] theorem setCand_flows (n : Nat) (x : Cand) (s : State) : (setCand n x s).flows = s.flows := rfl
@[simp] theorem setCand_consists (n : Nat) (x : Cand) (s : State) : (setCand n x s).consists = s.consists := rfl
@[simp] theorem setCand_swc (n : Nat) (x : Cand) (s : State) : (setCand n x s).swc = s.swc := rfl
@[simp] theorem setCand_tt (n : Nat) (x : Cand) (s : State) : (setCand n x s).tt = s.tt := rfl
@[simp] theorem setCand_aqf (n : Nat) (x : Cand) (s : State) : (setCand n x s).aqf = s.aqf := rfl
@[simp] theorem setCand_svp (n : Nat) (x : Cand) (s : State) : (setCand n x s).svp = s.svp := rfl
@[simp] theorem setCand_nmp (n : Nat) (x : Cand) (s : State) : (setCand n x s).nmp = s.nmp := rfl
@[simp] theorem setCand_lnx (n : Nat) (x : Cand) (s : State) : (setCand n x s).lnx = s.lnx := rfl
@[simp] theorem setCand_ika (n : Nat) (x : Cand) (s : State) : (setCand n x s).ika = s.ika := rfl
@[simp] theorem setCand_aud (n : Nat) (x : Cand) (s : State) : (setCand n x s).aud = s.aud := rfl
@[simp] theorem setCand_mem (n : Nat) (x : Cand) (s : State) : (setCand n x s).mem = s.mem := rfl
@[simp] theorem setCand_hif (n : Nat) (x : Cand) (s : State) : (setCand n x s).hif = s.hif := rfl
@[simp] theorem setCand_flt (n : Nat) (x : Cand) (s : State) : (setCand n x s).flt = s.flt := rfl
@[simp] theorem setCand_red (n : Nat) (x : Cand) (s : State) : (setCand n x s).red = s.red := rfl
@[simp] theorem setCand_pwr (n : Nat) (x : Cand) (s : State) : (setCand n x s).pwr = s.pwr := rfl
@[simp] theorem setCand_sec (n : Nat) (x : Cand) (s : State) : (setCand n x s).sec = s.sec := rfl
@[simp] theorem setCand_free (n : Nat) (x : Cand) (s : State) : (setCand n x s).free = s.free := rfl
@[simp] theorem setCand_wire (n : Nat) (x : Cand) (s : State) : (setCand n x s).wire = s.wire := rfl

@[simp] theorem setFlow_pending (n : Nat) (x : Flow) (s : State) : (setFlow n x s).pending = s.pending := rfl
@[simp] theorem setFlow_regs (n : Nat) (x : Flow) (s : State) : (setFlow n x s).regs = s.regs := rfl
@[simp] theorem setFlow_tim (n : Nat) (x : Flow) (s : State) : (setFlow n x s).tim = s.tim := rfl
@[simp] theorem setFlow_consists (n : Nat) (x : Flow) (s : State) : (setFlow n x s).consists = s.consists := rfl
@[simp] theorem setFlow_swc (n : Nat) (x : Flow) (s : State) : (setFlow n x s).swc = s.swc := rfl
@[simp] theorem setFlow_tt (n : Nat) (x : Flow) (s : State) : (setFlow n x s).tt = s.tt := rfl
@[simp] theorem setFlow_aqf (n : Nat) (x : Flow) (s : State) : (setFlow n x s).aqf = s.aqf := rfl
@[simp] theorem setFlow_svp (n : Nat) (x : Flow) (s : State) : (setFlow n x s).svp = s.svp := rfl
@[simp] theorem setFlow_nmp (n : Nat) (x : Flow) (s : State) : (setFlow n x s).nmp = s.nmp := rfl
@[simp] theorem setFlow_lnx (n : Nat) (x : Flow) (s : State) : (setFlow n x s).lnx = s.lnx := rfl
@[simp] theorem setFlow_ika (n : Nat) (x : Flow) (s : State) : (setFlow n x s).ika = s.ika := rfl
@[simp] theorem setFlow_aud (n : Nat) (x : Flow) (s : State) : (setFlow n x s).aud = s.aud := rfl
@[simp] theorem setFlow_mem (n : Nat) (x : Flow) (s : State) : (setFlow n x s).mem = s.mem := rfl
@[simp] theorem setFlow_hif (n : Nat) (x : Flow) (s : State) : (setFlow n x s).hif = s.hif := rfl
@[simp] theorem setFlow_flt (n : Nat) (x : Flow) (s : State) : (setFlow n x s).flt = s.flt := rfl
@[simp] theorem setFlow_red (n : Nat) (x : Flow) (s : State) : (setFlow n x s).red = s.red := rfl
@[simp] theorem setFlow_pwr (n : Nat) (x : Flow) (s : State) : (setFlow n x s).pwr = s.pwr := rfl
@[simp] theorem setFlow_sec (n : Nat) (x : Flow) (s : State) : (setFlow n x s).sec = s.sec := rfl
@[simp] theorem setFlow_free (n : Nat) (x : Flow) (s : State) : (setFlow n x s).free = s.free := rfl
@[simp] theorem setFlow_wire (n : Nat) (x : Flow) (s : State) : (setFlow n x s).wire = s.wire := rfl

@[simp] theorem setXp_pending (n : Nat) (x : XpWord) (s : State) : (setXp n x s).pending = s.pending := rfl
@[simp] theorem setXp_regs (n : Nat) (x : XpWord) (s : State) : (setXp n x s).regs = s.regs := rfl
@[simp] theorem setXp_tim (n : Nat) (x : XpWord) (s : State) : (setXp n x s).tim = s.tim := rfl
@[simp] theorem setXp_flows (n : Nat) (x : XpWord) (s : State) : (setXp n x s).flows = s.flows := rfl
@[simp] theorem setXp_consists (n : Nat) (x : XpWord) (s : State) : (setXp n x s).consists = s.consists := rfl
@[simp] theorem setXp_tt (n : Nat) (x : XpWord) (s : State) : (setXp n x s).tt = s.tt := rfl
@[simp] theorem setXp_aqf (n : Nat) (x : XpWord) (s : State) : (setXp n x s).aqf = s.aqf := rfl
@[simp] theorem setXp_svp (n : Nat) (x : XpWord) (s : State) : (setXp n x s).svp = s.svp := rfl
@[simp] theorem setXp_nmp (n : Nat) (x : XpWord) (s : State) : (setXp n x s).nmp = s.nmp := rfl
@[simp] theorem setXp_lnx (n : Nat) (x : XpWord) (s : State) : (setXp n x s).lnx = s.lnx := rfl
@[simp] theorem setXp_ika (n : Nat) (x : XpWord) (s : State) : (setXp n x s).ika = s.ika := rfl
@[simp] theorem setXp_aud (n : Nat) (x : XpWord) (s : State) : (setXp n x s).aud = s.aud := rfl
@[simp] theorem setXp_mem (n : Nat) (x : XpWord) (s : State) : (setXp n x s).mem = s.mem := rfl
@[simp] theorem setXp_hif (n : Nat) (x : XpWord) (s : State) : (setXp n x s).hif = s.hif := rfl
@[simp] theorem setXp_flt (n : Nat) (x : XpWord) (s : State) : (setXp n x s).flt = s.flt := rfl
@[simp] theorem setXp_red (n : Nat) (x : XpWord) (s : State) : (setXp n x s).red = s.red := rfl
@[simp] theorem setXp_pwr (n : Nat) (x : XpWord) (s : State) : (setXp n x s).pwr = s.pwr := rfl
@[simp] theorem setXp_sec (n : Nat) (x : XpWord) (s : State) : (setXp n x s).sec = s.sec := rfl
@[simp] theorem setXp_free (n : Nat) (x : XpWord) (s : State) : (setXp n x s).free = s.free := rfl
@[simp] theorem setXp_wire (n : Nat) (x : XpWord) (s : State) : (setXp n x s).wire = s.wire := rfl

@[simp] theorem setPlat_pending (n : Nat) (x : Platform) (s : State) : (setPlat n x s).pending = s.pending := rfl
@[simp] theorem setPlat_regs (n : Nat) (x : Platform) (s : State) : (setPlat n x s).regs = s.regs := rfl
@[simp] theorem setPlat_tim (n : Nat) (x : Platform) (s : State) : (setPlat n x s).tim = s.tim := rfl
@[simp] theorem setPlat_flows (n : Nat) (x : Platform) (s : State) : (setPlat n x s).flows = s.flows := rfl
@[simp] theorem setPlat_consists (n : Nat) (x : Platform) (s : State) : (setPlat n x s).consists = s.consists := rfl
@[simp] theorem setPlat_tt (n : Nat) (x : Platform) (s : State) : (setPlat n x s).tt = s.tt := rfl
@[simp] theorem setPlat_aqf (n : Nat) (x : Platform) (s : State) : (setPlat n x s).aqf = s.aqf := rfl
@[simp] theorem setPlat_svp (n : Nat) (x : Platform) (s : State) : (setPlat n x s).svp = s.svp := rfl
@[simp] theorem setPlat_nmp (n : Nat) (x : Platform) (s : State) : (setPlat n x s).nmp = s.nmp := rfl
@[simp] theorem setPlat_lnx (n : Nat) (x : Platform) (s : State) : (setPlat n x s).lnx = s.lnx := rfl
@[simp] theorem setPlat_ika (n : Nat) (x : Platform) (s : State) : (setPlat n x s).ika = s.ika := rfl
@[simp] theorem setPlat_aud (n : Nat) (x : Platform) (s : State) : (setPlat n x s).aud = s.aud := rfl
@[simp] theorem setPlat_mem (n : Nat) (x : Platform) (s : State) : (setPlat n x s).mem = s.mem := rfl
@[simp] theorem setPlat_hif (n : Nat) (x : Platform) (s : State) : (setPlat n x s).hif = s.hif := rfl
@[simp] theorem setPlat_flt (n : Nat) (x : Platform) (s : State) : (setPlat n x s).flt = s.flt := rfl
@[simp] theorem setPlat_red (n : Nat) (x : Platform) (s : State) : (setPlat n x s).red = s.red := rfl
@[simp] theorem setPlat_pwr (n : Nat) (x : Platform) (s : State) : (setPlat n x s).pwr = s.pwr := rfl
@[simp] theorem setPlat_sec (n : Nat) (x : Platform) (s : State) : (setPlat n x s).sec = s.sec := rfl
@[simp] theorem setPlat_free (n : Nat) (x : Platform) (s : State) : (setPlat n x s).free = s.free := rfl
@[simp] theorem setPlat_wire (n : Nat) (x : Platform) (s : State) : (setPlat n x s).wire = s.wire := rfl

@[simp] theorem setStored_pending (n k : Nat) (x : Stored) (s : State) : (setStored n k x s).pending = s.pending := rfl
@[simp] theorem setStored_regs (n k : Nat) (x : Stored) (s : State) : (setStored n k x s).regs = s.regs := rfl
@[simp] theorem setStored_tim (n k : Nat) (x : Stored) (s : State) : (setStored n k x s).tim = s.tim := rfl
@[simp] theorem setStored_flows (n k : Nat) (x : Stored) (s : State) : (setStored n k x s).flows = s.flows := rfl
@[simp] theorem setStored_consists (n k : Nat) (x : Stored) (s : State) : (setStored n k x s).consists = s.consists := rfl
@[simp] theorem setStored_tt (n k : Nat) (x : Stored) (s : State) : (setStored n k x s).tt = s.tt := rfl
@[simp] theorem setStored_aqf (n k : Nat) (x : Stored) (s : State) : (setStored n k x s).aqf = s.aqf := rfl
@[simp] theorem setStored_svp (n k : Nat) (x : Stored) (s : State) : (setStored n k x s).svp = s.svp := rfl
@[simp] theorem setStored_nmp (n k : Nat) (x : Stored) (s : State) : (setStored n k x s).nmp = s.nmp := rfl
@[simp] theorem setStored_lnx (n k : Nat) (x : Stored) (s : State) : (setStored n k x s).lnx = s.lnx := rfl
@[simp] theorem setStored_ika (n k : Nat) (x : Stored) (s : State) : (setStored n k x s).ika = s.ika := rfl
@[simp] theorem setStored_aud (n k : Nat) (x : Stored) (s : State) : (setStored n k x s).aud = s.aud := rfl
@[simp] theorem setStored_mem (n k : Nat) (x : Stored) (s : State) : (setStored n k x s).mem = s.mem := rfl
@[simp] theorem setStored_hif (n k : Nat) (x : Stored) (s : State) : (setStored n k x s).hif = s.hif := rfl
@[simp] theorem setStored_flt (n k : Nat) (x : Stored) (s : State) : (setStored n k x s).flt = s.flt := rfl
@[simp] theorem setStored_red (n k : Nat) (x : Stored) (s : State) : (setStored n k x s).red = s.red := rfl
@[simp] theorem setStored_pwr (n k : Nat) (x : Stored) (s : State) : (setStored n k x s).pwr = s.pwr := rfl
@[simp] theorem setStored_sec (n k : Nat) (x : Stored) (s : State) : (setStored n k x s).sec = s.sec := rfl
@[simp] theorem setStored_free (n k : Nat) (x : Stored) (s : State) : (setStored n k x s).free = s.free := rfl
@[simp] theorem setStored_wire (n k : Nat) (x : Stored) (s : State) : (setStored n k x s).wire = s.wire := rfl

@[simp] theorem setPage_pending (n : Nat) (x : Page) (s : State) : (setPage n x s).pending = s.pending := rfl
@[simp] theorem setPage_regs (n : Nat) (x : Page) (s : State) : (setPage n x s).regs = s.regs := rfl
@[simp] theorem setPage_tim (n : Nat) (x : Page) (s : State) : (setPage n x s).tim = s.tim := rfl
@[simp] theorem setPage_flows (n : Nat) (x : Page) (s : State) : (setPage n x s).flows = s.flows := rfl
@[simp] theorem setPage_consists (n : Nat) (x : Page) (s : State) : (setPage n x s).consists = s.consists := rfl
@[simp] theorem setPage_swc (n : Nat) (x : Page) (s : State) : (setPage n x s).swc = s.swc := rfl
@[simp] theorem setPage_aqf (n : Nat) (x : Page) (s : State) : (setPage n x s).aqf = s.aqf := rfl
@[simp] theorem setPage_svp (n : Nat) (x : Page) (s : State) : (setPage n x s).svp = s.svp := rfl
@[simp] theorem setPage_nmp (n : Nat) (x : Page) (s : State) : (setPage n x s).nmp = s.nmp := rfl
@[simp] theorem setPage_lnx (n : Nat) (x : Page) (s : State) : (setPage n x s).lnx = s.lnx := rfl
@[simp] theorem setPage_ika (n : Nat) (x : Page) (s : State) : (setPage n x s).ika = s.ika := rfl
@[simp] theorem setPage_aud (n : Nat) (x : Page) (s : State) : (setPage n x s).aud = s.aud := rfl
@[simp] theorem setPage_mem (n : Nat) (x : Page) (s : State) : (setPage n x s).mem = s.mem := rfl
@[simp] theorem setPage_hif (n : Nat) (x : Page) (s : State) : (setPage n x s).hif = s.hif := rfl
@[simp] theorem setPage_flt (n : Nat) (x : Page) (s : State) : (setPage n x s).flt = s.flt := rfl
@[simp] theorem setPage_red (n : Nat) (x : Page) (s : State) : (setPage n x s).red = s.red := rfl
@[simp] theorem setPage_pwr (n : Nat) (x : Page) (s : State) : (setPage n x s).pwr = s.pwr := rfl
@[simp] theorem setPage_sec (n : Nat) (x : Page) (s : State) : (setPage n x s).sec = s.sec := rfl
@[simp] theorem setPage_free (n : Nat) (x : Page) (s : State) : (setPage n x s).free = s.free := rfl
@[simp] theorem setPage_wire (n : Nat) (x : Page) (s : State) : (setPage n x s).wire = s.wire := rfl

@[simp] theorem setLink_pending (n : Nat) (x : Link) (s : State) : (setLink n x s).pending = s.pending := rfl
@[simp] theorem setLink_regs (n : Nat) (x : Link) (s : State) : (setLink n x s).regs = s.regs := rfl
@[simp] theorem setLink_tim (n : Nat) (x : Link) (s : State) : (setLink n x s).tim = s.tim := rfl
@[simp] theorem setLink_flows (n : Nat) (x : Link) (s : State) : (setLink n x s).flows = s.flows := rfl
@[simp] theorem setLink_consists (n : Nat) (x : Link) (s : State) : (setLink n x s).consists = s.consists := rfl
@[simp] theorem setLink_swc (n : Nat) (x : Link) (s : State) : (setLink n x s).swc = s.swc := rfl
@[simp] theorem setLink_tt (n : Nat) (x : Link) (s : State) : (setLink n x s).tt = s.tt := rfl
@[simp] theorem setLink_svp (n : Nat) (x : Link) (s : State) : (setLink n x s).svp = s.svp := rfl
@[simp] theorem setLink_nmp (n : Nat) (x : Link) (s : State) : (setLink n x s).nmp = s.nmp := rfl
@[simp] theorem setLink_lnx (n : Nat) (x : Link) (s : State) : (setLink n x s).lnx = s.lnx := rfl
@[simp] theorem setLink_ika (n : Nat) (x : Link) (s : State) : (setLink n x s).ika = s.ika := rfl
@[simp] theorem setLink_aud (n : Nat) (x : Link) (s : State) : (setLink n x s).aud = s.aud := rfl
@[simp] theorem setLink_mem (n : Nat) (x : Link) (s : State) : (setLink n x s).mem = s.mem := rfl
@[simp] theorem setLink_hif (n : Nat) (x : Link) (s : State) : (setLink n x s).hif = s.hif := rfl
@[simp] theorem setLink_flt (n : Nat) (x : Link) (s : State) : (setLink n x s).flt = s.flt := rfl
@[simp] theorem setLink_red (n : Nat) (x : Link) (s : State) : (setLink n x s).red = s.red := rfl
@[simp] theorem setLink_pwr (n : Nat) (x : Link) (s : State) : (setLink n x s).pwr = s.pwr := rfl
@[simp] theorem setLink_sec (n : Nat) (x : Link) (s : State) : (setLink n x s).sec = s.sec := rfl
@[simp] theorem setLink_free (n : Nat) (x : Link) (s : State) : (setLink n x s).free = s.free := rfl
@[simp] theorem setLink_wire (n : Nat) (x : Link) (s : State) : (setLink n x s).wire = s.wire := rfl

@[simp] theorem setFeed_pending (n : Nat) (x : List FeedCell) (s : State) : (setFeed n x s).pending = s.pending := rfl
@[simp] theorem setFeed_regs (n : Nat) (x : List FeedCell) (s : State) : (setFeed n x s).regs = s.regs := rfl
@[simp] theorem setFeed_tim (n : Nat) (x : List FeedCell) (s : State) : (setFeed n x s).tim = s.tim := rfl
@[simp] theorem setFeed_flows (n : Nat) (x : List FeedCell) (s : State) : (setFeed n x s).flows = s.flows := rfl
@[simp] theorem setFeed_consists (n : Nat) (x : List FeedCell) (s : State) : (setFeed n x s).consists = s.consists := rfl
@[simp] theorem setFeed_swc (n : Nat) (x : List FeedCell) (s : State) : (setFeed n x s).swc = s.swc := rfl
@[simp] theorem setFeed_tt (n : Nat) (x : List FeedCell) (s : State) : (setFeed n x s).tt = s.tt := rfl
@[simp] theorem setFeed_svp (n : Nat) (x : List FeedCell) (s : State) : (setFeed n x s).svp = s.svp := rfl
@[simp] theorem setFeed_nmp (n : Nat) (x : List FeedCell) (s : State) : (setFeed n x s).nmp = s.nmp := rfl
@[simp] theorem setFeed_lnx (n : Nat) (x : List FeedCell) (s : State) : (setFeed n x s).lnx = s.lnx := rfl
@[simp] theorem setFeed_ika (n : Nat) (x : List FeedCell) (s : State) : (setFeed n x s).ika = s.ika := rfl
@[simp] theorem setFeed_aud (n : Nat) (x : List FeedCell) (s : State) : (setFeed n x s).aud = s.aud := rfl
@[simp] theorem setFeed_mem (n : Nat) (x : List FeedCell) (s : State) : (setFeed n x s).mem = s.mem := rfl
@[simp] theorem setFeed_hif (n : Nat) (x : List FeedCell) (s : State) : (setFeed n x s).hif = s.hif := rfl
@[simp] theorem setFeed_flt (n : Nat) (x : List FeedCell) (s : State) : (setFeed n x s).flt = s.flt := rfl
@[simp] theorem setFeed_red (n : Nat) (x : List FeedCell) (s : State) : (setFeed n x s).red = s.red := rfl
@[simp] theorem setFeed_pwr (n : Nat) (x : List FeedCell) (s : State) : (setFeed n x s).pwr = s.pwr := rfl
@[simp] theorem setFeed_sec (n : Nat) (x : List FeedCell) (s : State) : (setFeed n x s).sec = s.sec := rfl
@[simp] theorem setFeed_free (n : Nat) (x : List FeedCell) (s : State) : (setFeed n x s).free = s.free := rfl
@[simp] theorem setFeed_wire (n : Nat) (x : List FeedCell) (s : State) : (setFeed n x s).wire = s.wire := rfl

@[simp] theorem setRoute_pending (n : Nat) (x : Route) (s : State) : (setRoute n x s).pending = s.pending := rfl
@[simp] theorem setRoute_regs (n : Nat) (x : Route) (s : State) : (setRoute n x s).regs = s.regs := rfl
@[simp] theorem setRoute_tim (n : Nat) (x : Route) (s : State) : (setRoute n x s).tim = s.tim := rfl
@[simp] theorem setRoute_flows (n : Nat) (x : Route) (s : State) : (setRoute n x s).flows = s.flows := rfl
@[simp] theorem setRoute_consists (n : Nat) (x : Route) (s : State) : (setRoute n x s).consists = s.consists := rfl
@[simp] theorem setRoute_swc (n : Nat) (x : Route) (s : State) : (setRoute n x s).swc = s.swc := rfl
@[simp] theorem setRoute_tt (n : Nat) (x : Route) (s : State) : (setRoute n x s).tt = s.tt := rfl
@[simp] theorem setRoute_svp (n : Nat) (x : Route) (s : State) : (setRoute n x s).svp = s.svp := rfl
@[simp] theorem setRoute_nmp (n : Nat) (x : Route) (s : State) : (setRoute n x s).nmp = s.nmp := rfl
@[simp] theorem setRoute_lnx (n : Nat) (x : Route) (s : State) : (setRoute n x s).lnx = s.lnx := rfl
@[simp] theorem setRoute_ika (n : Nat) (x : Route) (s : State) : (setRoute n x s).ika = s.ika := rfl
@[simp] theorem setRoute_aud (n : Nat) (x : Route) (s : State) : (setRoute n x s).aud = s.aud := rfl
@[simp] theorem setRoute_mem (n : Nat) (x : Route) (s : State) : (setRoute n x s).mem = s.mem := rfl
@[simp] theorem setRoute_hif (n : Nat) (x : Route) (s : State) : (setRoute n x s).hif = s.hif := rfl
@[simp] theorem setRoute_flt (n : Nat) (x : Route) (s : State) : (setRoute n x s).flt = s.flt := rfl
@[simp] theorem setRoute_red (n : Nat) (x : Route) (s : State) : (setRoute n x s).red = s.red := rfl
@[simp] theorem setRoute_pwr (n : Nat) (x : Route) (s : State) : (setRoute n x s).pwr = s.pwr := rfl
@[simp] theorem setRoute_sec (n : Nat) (x : Route) (s : State) : (setRoute n x s).sec = s.sec := rfl
@[simp] theorem setRoute_free (n : Nat) (x : Route) (s : State) : (setRoute n x s).free = s.free := rfl
@[simp] theorem setRoute_wire (n : Nat) (x : Route) (s : State) : (setRoute n x s).wire = s.wire := rfl

@[simp] theorem setVoq_pending (d c : Nat) (x : List UnschedCell) (s : State) : (setVoq d c x s).pending = s.pending := rfl
@[simp] theorem setVoq_regs (d c : Nat) (x : List UnschedCell) (s : State) : (setVoq d c x s).regs = s.regs := rfl
@[simp] theorem setVoq_tim (d c : Nat) (x : List UnschedCell) (s : State) : (setVoq d c x s).tim = s.tim := rfl
@[simp] theorem setVoq_flows (d c : Nat) (x : List UnschedCell) (s : State) : (setVoq d c x s).flows = s.flows := rfl
@[simp] theorem setVoq_consists (d c : Nat) (x : List UnschedCell) (s : State) : (setVoq d c x s).consists = s.consists := rfl
@[simp] theorem setVoq_swc (d c : Nat) (x : List UnschedCell) (s : State) : (setVoq d c x s).swc = s.swc := rfl
@[simp] theorem setVoq_tt (d c : Nat) (x : List UnschedCell) (s : State) : (setVoq d c x s).tt = s.tt := rfl
@[simp] theorem setVoq_svp (d c : Nat) (x : List UnschedCell) (s : State) : (setVoq d c x s).svp = s.svp := rfl
@[simp] theorem setVoq_nmp (d c : Nat) (x : List UnschedCell) (s : State) : (setVoq d c x s).nmp = s.nmp := rfl
@[simp] theorem setVoq_lnx (d c : Nat) (x : List UnschedCell) (s : State) : (setVoq d c x s).lnx = s.lnx := rfl
@[simp] theorem setVoq_ika (d c : Nat) (x : List UnschedCell) (s : State) : (setVoq d c x s).ika = s.ika := rfl
@[simp] theorem setVoq_aud (d c : Nat) (x : List UnschedCell) (s : State) : (setVoq d c x s).aud = s.aud := rfl
@[simp] theorem setVoq_mem (d c : Nat) (x : List UnschedCell) (s : State) : (setVoq d c x s).mem = s.mem := rfl
@[simp] theorem setVoq_hif (d c : Nat) (x : List UnschedCell) (s : State) : (setVoq d c x s).hif = s.hif := rfl
@[simp] theorem setVoq_flt (d c : Nat) (x : List UnschedCell) (s : State) : (setVoq d c x s).flt = s.flt := rfl
@[simp] theorem setVoq_red (d c : Nat) (x : List UnschedCell) (s : State) : (setVoq d c x s).red = s.red := rfl
@[simp] theorem setVoq_pwr (d c : Nat) (x : List UnschedCell) (s : State) : (setVoq d c x s).pwr = s.pwr := rfl
@[simp] theorem setVoq_sec (d c : Nat) (x : List UnschedCell) (s : State) : (setVoq d c x s).sec = s.sec := rfl
@[simp] theorem setVoq_free (d c : Nat) (x : List UnschedCell) (s : State) : (setVoq d c x s).free = s.free := rfl
@[simp] theorem setVoq_wire (d c : Nat) (x : List UnschedCell) (s : State) : (setVoq d c x s).wire = s.wire := rfl

@[simp] theorem setRx_pending (n : Nat) (x : SdiRx) (s : State) : (setRx n x s).pending = s.pending := rfl
@[simp] theorem setRx_regs (n : Nat) (x : SdiRx) (s : State) : (setRx n x s).regs = s.regs := rfl
@[simp] theorem setRx_tim (n : Nat) (x : SdiRx) (s : State) : (setRx n x s).tim = s.tim := rfl
@[simp] theorem setRx_flows (n : Nat) (x : SdiRx) (s : State) : (setRx n x s).flows = s.flows := rfl
@[simp] theorem setRx_consists (n : Nat) (x : SdiRx) (s : State) : (setRx n x s).consists = s.consists := rfl
@[simp] theorem setRx_swc (n : Nat) (x : SdiRx) (s : State) : (setRx n x s).swc = s.swc := rfl
@[simp] theorem setRx_tt (n : Nat) (x : SdiRx) (s : State) : (setRx n x s).tt = s.tt := rfl
@[simp] theorem setRx_aqf (n : Nat) (x : SdiRx) (s : State) : (setRx n x s).aqf = s.aqf := rfl
@[simp] theorem setRx_nmp (n : Nat) (x : SdiRx) (s : State) : (setRx n x s).nmp = s.nmp := rfl
@[simp] theorem setRx_lnx (n : Nat) (x : SdiRx) (s : State) : (setRx n x s).lnx = s.lnx := rfl
@[simp] theorem setRx_ika (n : Nat) (x : SdiRx) (s : State) : (setRx n x s).ika = s.ika := rfl
@[simp] theorem setRx_aud (n : Nat) (x : SdiRx) (s : State) : (setRx n x s).aud = s.aud := rfl
@[simp] theorem setRx_mem (n : Nat) (x : SdiRx) (s : State) : (setRx n x s).mem = s.mem := rfl
@[simp] theorem setRx_hif (n : Nat) (x : SdiRx) (s : State) : (setRx n x s).hif = s.hif := rfl
@[simp] theorem setRx_flt (n : Nat) (x : SdiRx) (s : State) : (setRx n x s).flt = s.flt := rfl
@[simp] theorem setRx_red (n : Nat) (x : SdiRx) (s : State) : (setRx n x s).red = s.red := rfl
@[simp] theorem setRx_pwr (n : Nat) (x : SdiRx) (s : State) : (setRx n x s).pwr = s.pwr := rfl
@[simp] theorem setRx_sec (n : Nat) (x : SdiRx) (s : State) : (setRx n x s).sec = s.sec := rfl
@[simp] theorem setRx_free (n : Nat) (x : SdiRx) (s : State) : (setRx n x s).free = s.free := rfl
@[simp] theorem setRx_wire (n : Nat) (x : SdiRx) (s : State) : (setRx n x s).wire = s.wire := rfl

@[simp] theorem setTx_pending (n : Nat) (x : SdiTx) (s : State) : (setTx n x s).pending = s.pending := rfl
@[simp] theorem setTx_regs (n : Nat) (x : SdiTx) (s : State) : (setTx n x s).regs = s.regs := rfl
@[simp] theorem setTx_tim (n : Nat) (x : SdiTx) (s : State) : (setTx n x s).tim = s.tim := rfl
@[simp] theorem setTx_flows (n : Nat) (x : SdiTx) (s : State) : (setTx n x s).flows = s.flows := rfl
@[simp] theorem setTx_consists (n : Nat) (x : SdiTx) (s : State) : (setTx n x s).consists = s.consists := rfl
@[simp] theorem setTx_swc (n : Nat) (x : SdiTx) (s : State) : (setTx n x s).swc = s.swc := rfl
@[simp] theorem setTx_tt (n : Nat) (x : SdiTx) (s : State) : (setTx n x s).tt = s.tt := rfl
@[simp] theorem setTx_aqf (n : Nat) (x : SdiTx) (s : State) : (setTx n x s).aqf = s.aqf := rfl
@[simp] theorem setTx_nmp (n : Nat) (x : SdiTx) (s : State) : (setTx n x s).nmp = s.nmp := rfl
@[simp] theorem setTx_lnx (n : Nat) (x : SdiTx) (s : State) : (setTx n x s).lnx = s.lnx := rfl
@[simp] theorem setTx_ika (n : Nat) (x : SdiTx) (s : State) : (setTx n x s).ika = s.ika := rfl
@[simp] theorem setTx_aud (n : Nat) (x : SdiTx) (s : State) : (setTx n x s).aud = s.aud := rfl
@[simp] theorem setTx_mem (n : Nat) (x : SdiTx) (s : State) : (setTx n x s).mem = s.mem := rfl
@[simp] theorem setTx_hif (n : Nat) (x : SdiTx) (s : State) : (setTx n x s).hif = s.hif := rfl
@[simp] theorem setTx_flt (n : Nat) (x : SdiTx) (s : State) : (setTx n x s).flt = s.flt := rfl
@[simp] theorem setTx_red (n : Nat) (x : SdiTx) (s : State) : (setTx n x s).red = s.red := rfl
@[simp] theorem setTx_pwr (n : Nat) (x : SdiTx) (s : State) : (setTx n x s).pwr = s.pwr := rfl
@[simp] theorem setTx_sec (n : Nat) (x : SdiTx) (s : State) : (setTx n x s).sec = s.sec := rfl
@[simp] theorem setTx_free (n : Nat) (x : SdiTx) (s : State) : (setTx n x s).free = s.free := rfl
@[simp] theorem setTx_wire (n : Nat) (x : SdiTx) (s : State) : (setTx n x s).wire = s.wire := rfl

@[simp] theorem setMac_pending (n : Nat) (x : Mac) (s : State) : (setMac n x s).pending = s.pending := rfl
@[simp] theorem setMac_regs (n : Nat) (x : Mac) (s : State) : (setMac n x s).regs = s.regs := rfl
@[simp] theorem setMac_tim (n : Nat) (x : Mac) (s : State) : (setMac n x s).tim = s.tim := rfl
@[simp] theorem setMac_flows (n : Nat) (x : Mac) (s : State) : (setMac n x s).flows = s.flows := rfl
@[simp] theorem setMac_consists (n : Nat) (x : Mac) (s : State) : (setMac n x s).consists = s.consists := rfl
@[simp] theorem setMac_swc (n : Nat) (x : Mac) (s : State) : (setMac n x s).swc = s.swc := rfl
@[simp] theorem setMac_tt (n : Nat) (x : Mac) (s : State) : (setMac n x s).tt = s.tt := rfl
@[simp] theorem setMac_aqf (n : Nat) (x : Mac) (s : State) : (setMac n x s).aqf = s.aqf := rfl
@[simp] theorem setMac_svp (n : Nat) (x : Mac) (s : State) : (setMac n x s).svp = s.svp := rfl
@[simp] theorem setMac_lnx (n : Nat) (x : Mac) (s : State) : (setMac n x s).lnx = s.lnx := rfl
@[simp] theorem setMac_ika (n : Nat) (x : Mac) (s : State) : (setMac n x s).ika = s.ika := rfl
@[simp] theorem setMac_aud (n : Nat) (x : Mac) (s : State) : (setMac n x s).aud = s.aud := rfl
@[simp] theorem setMac_mem (n : Nat) (x : Mac) (s : State) : (setMac n x s).mem = s.mem := rfl
@[simp] theorem setMac_hif (n : Nat) (x : Mac) (s : State) : (setMac n x s).hif = s.hif := rfl
@[simp] theorem setMac_flt (n : Nat) (x : Mac) (s : State) : (setMac n x s).flt = s.flt := rfl
@[simp] theorem setMac_red (n : Nat) (x : Mac) (s : State) : (setMac n x s).red = s.red := rfl
@[simp] theorem setMac_pwr (n : Nat) (x : Mac) (s : State) : (setMac n x s).pwr = s.pwr := rfl
@[simp] theorem setMac_sec (n : Nat) (x : Mac) (s : State) : (setMac n x s).sec = s.sec := rfl
@[simp] theorem setMac_free (n : Nat) (x : Mac) (s : State) : (setMac n x s).free = s.free := rfl
@[simp] theorem setMac_wire (n : Nat) (x : Mac) (s : State) : (setMac n x s).wire = s.wire := rfl

@[simp] theorem setStream_pending (n : Nat) (x : Stream) (s : State) : (setStream n x s).pending = s.pending := rfl
@[simp] theorem setStream_regs (n : Nat) (x : Stream) (s : State) : (setStream n x s).regs = s.regs := rfl
@[simp] theorem setStream_tim (n : Nat) (x : Stream) (s : State) : (setStream n x s).tim = s.tim := rfl
@[simp] theorem setStream_flows (n : Nat) (x : Stream) (s : State) : (setStream n x s).flows = s.flows := rfl
@[simp] theorem setStream_consists (n : Nat) (x : Stream) (s : State) : (setStream n x s).consists = s.consists := rfl
@[simp] theorem setStream_swc (n : Nat) (x : Stream) (s : State) : (setStream n x s).swc = s.swc := rfl
@[simp] theorem setStream_tt (n : Nat) (x : Stream) (s : State) : (setStream n x s).tt = s.tt := rfl
@[simp] theorem setStream_aqf (n : Nat) (x : Stream) (s : State) : (setStream n x s).aqf = s.aqf := rfl
@[simp] theorem setStream_svp (n : Nat) (x : Stream) (s : State) : (setStream n x s).svp = s.svp := rfl
@[simp] theorem setStream_lnx (n : Nat) (x : Stream) (s : State) : (setStream n x s).lnx = s.lnx := rfl
@[simp] theorem setStream_ika (n : Nat) (x : Stream) (s : State) : (setStream n x s).ika = s.ika := rfl
@[simp] theorem setStream_aud (n : Nat) (x : Stream) (s : State) : (setStream n x s).aud = s.aud := rfl
@[simp] theorem setStream_mem (n : Nat) (x : Stream) (s : State) : (setStream n x s).mem = s.mem := rfl
@[simp] theorem setStream_hif (n : Nat) (x : Stream) (s : State) : (setStream n x s).hif = s.hif := rfl
@[simp] theorem setStream_flt (n : Nat) (x : Stream) (s : State) : (setStream n x s).flt = s.flt := rfl
@[simp] theorem setStream_red (n : Nat) (x : Stream) (s : State) : (setStream n x s).red = s.red := rfl
@[simp] theorem setStream_pwr (n : Nat) (x : Stream) (s : State) : (setStream n x s).pwr = s.pwr := rfl
@[simp] theorem setStream_sec (n : Nat) (x : Stream) (s : State) : (setStream n x s).sec = s.sec := rfl
@[simp] theorem setStream_free (n : Nat) (x : Stream) (s : State) : (setStream n x s).free = s.free := rfl
@[simp] theorem setStream_wire (n : Nat) (x : Stream) (s : State) : (setStream n x s).wire = s.wire := rfl

@[simp] theorem setLane_pending (n : Nat) (x : Lane) (s : State) : (setLane n x s).pending = s.pending := rfl
@[simp] theorem setLane_regs (n : Nat) (x : Lane) (s : State) : (setLane n x s).regs = s.regs := rfl
@[simp] theorem setLane_tim (n : Nat) (x : Lane) (s : State) : (setLane n x s).tim = s.tim := rfl
@[simp] theorem setLane_flows (n : Nat) (x : Lane) (s : State) : (setLane n x s).flows = s.flows := rfl
@[simp] theorem setLane_consists (n : Nat) (x : Lane) (s : State) : (setLane n x s).consists = s.consists := rfl
@[simp] theorem setLane_swc (n : Nat) (x : Lane) (s : State) : (setLane n x s).swc = s.swc := rfl
@[simp] theorem setLane_tt (n : Nat) (x : Lane) (s : State) : (setLane n x s).tt = s.tt := rfl
@[simp] theorem setLane_aqf (n : Nat) (x : Lane) (s : State) : (setLane n x s).aqf = s.aqf := rfl
@[simp] theorem setLane_svp (n : Nat) (x : Lane) (s : State) : (setLane n x s).svp = s.svp := rfl
@[simp] theorem setLane_nmp (n : Nat) (x : Lane) (s : State) : (setLane n x s).nmp = s.nmp := rfl
@[simp] theorem setLane_ika (n : Nat) (x : Lane) (s : State) : (setLane n x s).ika = s.ika := rfl
@[simp] theorem setLane_aud (n : Nat) (x : Lane) (s : State) : (setLane n x s).aud = s.aud := rfl
@[simp] theorem setLane_mem (n : Nat) (x : Lane) (s : State) : (setLane n x s).mem = s.mem := rfl
@[simp] theorem setLane_hif (n : Nat) (x : Lane) (s : State) : (setLane n x s).hif = s.hif := rfl
@[simp] theorem setLane_flt (n : Nat) (x : Lane) (s : State) : (setLane n x s).flt = s.flt := rfl
@[simp] theorem setLane_red (n : Nat) (x : Lane) (s : State) : (setLane n x s).red = s.red := rfl
@[simp] theorem setLane_pwr (n : Nat) (x : Lane) (s : State) : (setLane n x s).pwr = s.pwr := rfl
@[simp] theorem setLane_sec (n : Nat) (x : Lane) (s : State) : (setLane n x s).sec = s.sec := rfl
@[simp] theorem setLane_free (n : Nat) (x : Lane) (s : State) : (setLane n x s).free = s.free := rfl
@[simp] theorem setLane_wire (n : Nat) (x : Lane) (s : State) : (setLane n x s).wire = s.wire := rfl

@[simp] theorem setSpareLane_pending (n : Nat) (x : SpareLane) (s : State) : (setSpareLane n x s).pending = s.pending := rfl
@[simp] theorem setSpareLane_regs (n : Nat) (x : SpareLane) (s : State) : (setSpareLane n x s).regs = s.regs := rfl
@[simp] theorem setSpareLane_tim (n : Nat) (x : SpareLane) (s : State) : (setSpareLane n x s).tim = s.tim := rfl
@[simp] theorem setSpareLane_flows (n : Nat) (x : SpareLane) (s : State) : (setSpareLane n x s).flows = s.flows := rfl
@[simp] theorem setSpareLane_consists (n : Nat) (x : SpareLane) (s : State) : (setSpareLane n x s).consists = s.consists := rfl
@[simp] theorem setSpareLane_swc (n : Nat) (x : SpareLane) (s : State) : (setSpareLane n x s).swc = s.swc := rfl
@[simp] theorem setSpareLane_tt (n : Nat) (x : SpareLane) (s : State) : (setSpareLane n x s).tt = s.tt := rfl
@[simp] theorem setSpareLane_aqf (n : Nat) (x : SpareLane) (s : State) : (setSpareLane n x s).aqf = s.aqf := rfl
@[simp] theorem setSpareLane_svp (n : Nat) (x : SpareLane) (s : State) : (setSpareLane n x s).svp = s.svp := rfl
@[simp] theorem setSpareLane_nmp (n : Nat) (x : SpareLane) (s : State) : (setSpareLane n x s).nmp = s.nmp := rfl
@[simp] theorem setSpareLane_ika (n : Nat) (x : SpareLane) (s : State) : (setSpareLane n x s).ika = s.ika := rfl
@[simp] theorem setSpareLane_aud (n : Nat) (x : SpareLane) (s : State) : (setSpareLane n x s).aud = s.aud := rfl
@[simp] theorem setSpareLane_mem (n : Nat) (x : SpareLane) (s : State) : (setSpareLane n x s).mem = s.mem := rfl
@[simp] theorem setSpareLane_hif (n : Nat) (x : SpareLane) (s : State) : (setSpareLane n x s).hif = s.hif := rfl
@[simp] theorem setSpareLane_flt (n : Nat) (x : SpareLane) (s : State) : (setSpareLane n x s).flt = s.flt := rfl
@[simp] theorem setSpareLane_red (n : Nat) (x : SpareLane) (s : State) : (setSpareLane n x s).red = s.red := rfl
@[simp] theorem setSpareLane_pwr (n : Nat) (x : SpareLane) (s : State) : (setSpareLane n x s).pwr = s.pwr := rfl
@[simp] theorem setSpareLane_sec (n : Nat) (x : SpareLane) (s : State) : (setSpareLane n x s).sec = s.sec := rfl
@[simp] theorem setSpareLane_free (n : Nat) (x : SpareLane) (s : State) : (setSpareLane n x s).free = s.free := rfl
@[simp] theorem setSpareLane_wire (n : Nat) (x : SpareLane) (s : State) : (setSpareLane n x s).wire = s.wire := rfl

@[simp] theorem setRoom_pending (n : Nat) (x : Classroom) (s : State) : (setRoom n x s).pending = s.pending := rfl
@[simp] theorem setRoom_regs (n : Nat) (x : Classroom) (s : State) : (setRoom n x s).regs = s.regs := rfl
@[simp] theorem setRoom_tim (n : Nat) (x : Classroom) (s : State) : (setRoom n x s).tim = s.tim := rfl
@[simp] theorem setRoom_flows (n : Nat) (x : Classroom) (s : State) : (setRoom n x s).flows = s.flows := rfl
@[simp] theorem setRoom_consists (n : Nat) (x : Classroom) (s : State) : (setRoom n x s).consists = s.consists := rfl
@[simp] theorem setRoom_swc (n : Nat) (x : Classroom) (s : State) : (setRoom n x s).swc = s.swc := rfl
@[simp] theorem setRoom_tt (n : Nat) (x : Classroom) (s : State) : (setRoom n x s).tt = s.tt := rfl
@[simp] theorem setRoom_aqf (n : Nat) (x : Classroom) (s : State) : (setRoom n x s).aqf = s.aqf := rfl
@[simp] theorem setRoom_svp (n : Nat) (x : Classroom) (s : State) : (setRoom n x s).svp = s.svp := rfl
@[simp] theorem setRoom_nmp (n : Nat) (x : Classroom) (s : State) : (setRoom n x s).nmp = s.nmp := rfl
@[simp] theorem setRoom_lnx (n : Nat) (x : Classroom) (s : State) : (setRoom n x s).lnx = s.lnx := rfl
@[simp] theorem setRoom_aud (n : Nat) (x : Classroom) (s : State) : (setRoom n x s).aud = s.aud := rfl
@[simp] theorem setRoom_mem (n : Nat) (x : Classroom) (s : State) : (setRoom n x s).mem = s.mem := rfl
@[simp] theorem setRoom_hif (n : Nat) (x : Classroom) (s : State) : (setRoom n x s).hif = s.hif := rfl
@[simp] theorem setRoom_flt (n : Nat) (x : Classroom) (s : State) : (setRoom n x s).flt = s.flt := rfl
@[simp] theorem setRoom_red (n : Nat) (x : Classroom) (s : State) : (setRoom n x s).red = s.red := rfl
@[simp] theorem setRoom_pwr (n : Nat) (x : Classroom) (s : State) : (setRoom n x s).pwr = s.pwr := rfl
@[simp] theorem setRoom_sec (n : Nat) (x : Classroom) (s : State) : (setRoom n x s).sec = s.sec := rfl
@[simp] theorem setRoom_free (n : Nat) (x : Classroom) (s : State) : (setRoom n x s).free = s.free := rfl
@[simp] theorem setRoom_wire (n : Nat) (x : Classroom) (s : State) : (setRoom n x s).wire = s.wire := rfl

@[simp] theorem setProc_pending (n : Nat) (x : Proc) (s : State) : (setProc n x s).pending = s.pending := rfl
@[simp] theorem setProc_regs (n : Nat) (x : Proc) (s : State) : (setProc n x s).regs = s.regs := rfl
@[simp] theorem setProc_tim (n : Nat) (x : Proc) (s : State) : (setProc n x s).tim = s.tim := rfl
@[simp] theorem setProc_flows (n : Nat) (x : Proc) (s : State) : (setProc n x s).flows = s.flows := rfl
@[simp] theorem setProc_consists (n : Nat) (x : Proc) (s : State) : (setProc n x s).consists = s.consists := rfl
@[simp] theorem setProc_swc (n : Nat) (x : Proc) (s : State) : (setProc n x s).swc = s.swc := rfl
@[simp] theorem setProc_tt (n : Nat) (x : Proc) (s : State) : (setProc n x s).tt = s.tt := rfl
@[simp] theorem setProc_aqf (n : Nat) (x : Proc) (s : State) : (setProc n x s).aqf = s.aqf := rfl
@[simp] theorem setProc_svp (n : Nat) (x : Proc) (s : State) : (setProc n x s).svp = s.svp := rfl
@[simp] theorem setProc_nmp (n : Nat) (x : Proc) (s : State) : (setProc n x s).nmp = s.nmp := rfl
@[simp] theorem setProc_lnx (n : Nat) (x : Proc) (s : State) : (setProc n x s).lnx = s.lnx := rfl
@[simp] theorem setProc_aud (n : Nat) (x : Proc) (s : State) : (setProc n x s).aud = s.aud := rfl
@[simp] theorem setProc_mem (n : Nat) (x : Proc) (s : State) : (setProc n x s).mem = s.mem := rfl
@[simp] theorem setProc_hif (n : Nat) (x : Proc) (s : State) : (setProc n x s).hif = s.hif := rfl
@[simp] theorem setProc_flt (n : Nat) (x : Proc) (s : State) : (setProc n x s).flt = s.flt := rfl
@[simp] theorem setProc_red (n : Nat) (x : Proc) (s : State) : (setProc n x s).red = s.red := rfl
@[simp] theorem setProc_pwr (n : Nat) (x : Proc) (s : State) : (setProc n x s).pwr = s.pwr := rfl
@[simp] theorem setProc_sec (n : Nat) (x : Proc) (s : State) : (setProc n x s).sec = s.sec := rfl
@[simp] theorem setProc_free (n : Nat) (x : Proc) (s : State) : (setProc n x s).free = s.free := rfl
@[simp] theorem setProc_wire (n : Nat) (x : Proc) (s : State) : (setProc n x s).wire = s.wire := rfl

@[simp] theorem setXps_pending (n : Nat) (x : List AudXp) (s : State) : (setXps n x s).pending = s.pending := rfl
@[simp] theorem setXps_regs (n : Nat) (x : List AudXp) (s : State) : (setXps n x s).regs = s.regs := rfl
@[simp] theorem setXps_tim (n : Nat) (x : List AudXp) (s : State) : (setXps n x s).tim = s.tim := rfl
@[simp] theorem setXps_flows (n : Nat) (x : List AudXp) (s : State) : (setXps n x s).flows = s.flows := rfl
@[simp] theorem setXps_consists (n : Nat) (x : List AudXp) (s : State) : (setXps n x s).consists = s.consists := rfl
@[simp] theorem setXps_swc (n : Nat) (x : List AudXp) (s : State) : (setXps n x s).swc = s.swc := rfl
@[simp] theorem setXps_tt (n : Nat) (x : List AudXp) (s : State) : (setXps n x s).tt = s.tt := rfl
@[simp] theorem setXps_aqf (n : Nat) (x : List AudXp) (s : State) : (setXps n x s).aqf = s.aqf := rfl
@[simp] theorem setXps_svp (n : Nat) (x : List AudXp) (s : State) : (setXps n x s).svp = s.svp := rfl
@[simp] theorem setXps_nmp (n : Nat) (x : List AudXp) (s : State) : (setXps n x s).nmp = s.nmp := rfl
@[simp] theorem setXps_lnx (n : Nat) (x : List AudXp) (s : State) : (setXps n x s).lnx = s.lnx := rfl
@[simp] theorem setXps_ika (n : Nat) (x : List AudXp) (s : State) : (setXps n x s).ika = s.ika := rfl
@[simp] theorem setXps_mem (n : Nat) (x : List AudXp) (s : State) : (setXps n x s).mem = s.mem := rfl
@[simp] theorem setXps_hif (n : Nat) (x : List AudXp) (s : State) : (setXps n x s).hif = s.hif := rfl
@[simp] theorem setXps_flt (n : Nat) (x : List AudXp) (s : State) : (setXps n x s).flt = s.flt := rfl
@[simp] theorem setXps_red (n : Nat) (x : List AudXp) (s : State) : (setXps n x s).red = s.red := rfl
@[simp] theorem setXps_pwr (n : Nat) (x : List AudXp) (s : State) : (setXps n x s).pwr = s.pwr := rfl
@[simp] theorem setXps_sec (n : Nat) (x : List AudXp) (s : State) : (setXps n x s).sec = s.sec := rfl
@[simp] theorem setXps_free (n : Nat) (x : List AudXp) (s : State) : (setXps n x s).free = s.free := rfl
@[simp] theorem setXps_wire (n : Nat) (x : List AudXp) (s : State) : (setXps n x s).wire = s.wire := rfl

@[simp] theorem setAudPort_pending (n : Nat) (x : AudPort) (s : State) : (setAudPort n x s).pending = s.pending := rfl
@[simp] theorem setAudPort_regs (n : Nat) (x : AudPort) (s : State) : (setAudPort n x s).regs = s.regs := rfl
@[simp] theorem setAudPort_tim (n : Nat) (x : AudPort) (s : State) : (setAudPort n x s).tim = s.tim := rfl
@[simp] theorem setAudPort_flows (n : Nat) (x : AudPort) (s : State) : (setAudPort n x s).flows = s.flows := rfl
@[simp] theorem setAudPort_consists (n : Nat) (x : AudPort) (s : State) : (setAudPort n x s).consists = s.consists := rfl
@[simp] theorem setAudPort_swc (n : Nat) (x : AudPort) (s : State) : (setAudPort n x s).swc = s.swc := rfl
@[simp] theorem setAudPort_tt (n : Nat) (x : AudPort) (s : State) : (setAudPort n x s).tt = s.tt := rfl
@[simp] theorem setAudPort_aqf (n : Nat) (x : AudPort) (s : State) : (setAudPort n x s).aqf = s.aqf := rfl
@[simp] theorem setAudPort_svp (n : Nat) (x : AudPort) (s : State) : (setAudPort n x s).svp = s.svp := rfl
@[simp] theorem setAudPort_nmp (n : Nat) (x : AudPort) (s : State) : (setAudPort n x s).nmp = s.nmp := rfl
@[simp] theorem setAudPort_lnx (n : Nat) (x : AudPort) (s : State) : (setAudPort n x s).lnx = s.lnx := rfl
@[simp] theorem setAudPort_ika (n : Nat) (x : AudPort) (s : State) : (setAudPort n x s).ika = s.ika := rfl
@[simp] theorem setAudPort_mem (n : Nat) (x : AudPort) (s : State) : (setAudPort n x s).mem = s.mem := rfl
@[simp] theorem setAudPort_hif (n : Nat) (x : AudPort) (s : State) : (setAudPort n x s).hif = s.hif := rfl
@[simp] theorem setAudPort_flt (n : Nat) (x : AudPort) (s : State) : (setAudPort n x s).flt = s.flt := rfl
@[simp] theorem setAudPort_red (n : Nat) (x : AudPort) (s : State) : (setAudPort n x s).red = s.red := rfl
@[simp] theorem setAudPort_pwr (n : Nat) (x : AudPort) (s : State) : (setAudPort n x s).pwr = s.pwr := rfl
@[simp] theorem setAudPort_sec (n : Nat) (x : AudPort) (s : State) : (setAudPort n x s).sec = s.sec := rfl
@[simp] theorem setAudPort_free (n : Nat) (x : AudPort) (s : State) : (setAudPort n x s).free = s.free := rfl
@[simp] theorem setAudPort_wire (n : Nat) (x : AudPort) (s : State) : (setAudPort n x s).wire = s.wire := rfl

@[simp] theorem setCtrl_pending (n : Nat) (x : Ctrl) (s : State) : (setCtrl n x s).pending = s.pending := rfl
@[simp] theorem setCtrl_regs (n : Nat) (x : Ctrl) (s : State) : (setCtrl n x s).regs = s.regs := rfl
@[simp] theorem setCtrl_tim (n : Nat) (x : Ctrl) (s : State) : (setCtrl n x s).tim = s.tim := rfl
@[simp] theorem setCtrl_flows (n : Nat) (x : Ctrl) (s : State) : (setCtrl n x s).flows = s.flows := rfl
@[simp] theorem setCtrl_consists (n : Nat) (x : Ctrl) (s : State) : (setCtrl n x s).consists = s.consists := rfl
@[simp] theorem setCtrl_swc (n : Nat) (x : Ctrl) (s : State) : (setCtrl n x s).swc = s.swc := rfl
@[simp] theorem setCtrl_tt (n : Nat) (x : Ctrl) (s : State) : (setCtrl n x s).tt = s.tt := rfl
@[simp] theorem setCtrl_aqf (n : Nat) (x : Ctrl) (s : State) : (setCtrl n x s).aqf = s.aqf := rfl
@[simp] theorem setCtrl_svp (n : Nat) (x : Ctrl) (s : State) : (setCtrl n x s).svp = s.svp := rfl
@[simp] theorem setCtrl_nmp (n : Nat) (x : Ctrl) (s : State) : (setCtrl n x s).nmp = s.nmp := rfl
@[simp] theorem setCtrl_lnx (n : Nat) (x : Ctrl) (s : State) : (setCtrl n x s).lnx = s.lnx := rfl
@[simp] theorem setCtrl_ika (n : Nat) (x : Ctrl) (s : State) : (setCtrl n x s).ika = s.ika := rfl
@[simp] theorem setCtrl_aud (n : Nat) (x : Ctrl) (s : State) : (setCtrl n x s).aud = s.aud := rfl
@[simp] theorem setCtrl_hif (n : Nat) (x : Ctrl) (s : State) : (setCtrl n x s).hif = s.hif := rfl
@[simp] theorem setCtrl_flt (n : Nat) (x : Ctrl) (s : State) : (setCtrl n x s).flt = s.flt := rfl
@[simp] theorem setCtrl_red (n : Nat) (x : Ctrl) (s : State) : (setCtrl n x s).red = s.red := rfl
@[simp] theorem setCtrl_pwr (n : Nat) (x : Ctrl) (s : State) : (setCtrl n x s).pwr = s.pwr := rfl
@[simp] theorem setCtrl_sec (n : Nat) (x : Ctrl) (s : State) : (setCtrl n x s).sec = s.sec := rfl
@[simp] theorem setCtrl_free (n : Nat) (x : Ctrl) (s : State) : (setCtrl n x s).free = s.free := rfl
@[simp] theorem setCtrl_wire (n : Nat) (x : Ctrl) (s : State) : (setCtrl n x s).wire = s.wire := rfl

@[simp] theorem setWin_pending (n : Nat) (x : MemWin) (s : State) : (setWin n x s).pending = s.pending := rfl
@[simp] theorem setWin_regs (n : Nat) (x : MemWin) (s : State) : (setWin n x s).regs = s.regs := rfl
@[simp] theorem setWin_tim (n : Nat) (x : MemWin) (s : State) : (setWin n x s).tim = s.tim := rfl
@[simp] theorem setWin_flows (n : Nat) (x : MemWin) (s : State) : (setWin n x s).flows = s.flows := rfl
@[simp] theorem setWin_consists (n : Nat) (x : MemWin) (s : State) : (setWin n x s).consists = s.consists := rfl
@[simp] theorem setWin_swc (n : Nat) (x : MemWin) (s : State) : (setWin n x s).swc = s.swc := rfl
@[simp] theorem setWin_tt (n : Nat) (x : MemWin) (s : State) : (setWin n x s).tt = s.tt := rfl
@[simp] theorem setWin_aqf (n : Nat) (x : MemWin) (s : State) : (setWin n x s).aqf = s.aqf := rfl
@[simp] theorem setWin_svp (n : Nat) (x : MemWin) (s : State) : (setWin n x s).svp = s.svp := rfl
@[simp] theorem setWin_nmp (n : Nat) (x : MemWin) (s : State) : (setWin n x s).nmp = s.nmp := rfl
@[simp] theorem setWin_lnx (n : Nat) (x : MemWin) (s : State) : (setWin n x s).lnx = s.lnx := rfl
@[simp] theorem setWin_ika (n : Nat) (x : MemWin) (s : State) : (setWin n x s).ika = s.ika := rfl
@[simp] theorem setWin_aud (n : Nat) (x : MemWin) (s : State) : (setWin n x s).aud = s.aud := rfl
@[simp] theorem setWin_hif (n : Nat) (x : MemWin) (s : State) : (setWin n x s).hif = s.hif := rfl
@[simp] theorem setWin_flt (n : Nat) (x : MemWin) (s : State) : (setWin n x s).flt = s.flt := rfl
@[simp] theorem setWin_red (n : Nat) (x : MemWin) (s : State) : (setWin n x s).red = s.red := rfl
@[simp] theorem setWin_pwr (n : Nat) (x : MemWin) (s : State) : (setWin n x s).pwr = s.pwr := rfl
@[simp] theorem setWin_sec (n : Nat) (x : MemWin) (s : State) : (setWin n x s).sec = s.sec := rfl
@[simp] theorem setWin_free (n : Nat) (x : MemWin) (s : State) : (setWin n x s).free = s.free := rfl
@[simp] theorem setWin_wire (n : Nat) (x : MemWin) (s : State) : (setWin n x s).wire = s.wire := rfl

@[simp] theorem setRed_pending (x : Red) (s : State) : (setRed x s).pending = s.pending := rfl
@[simp] theorem setRed_regs (x : Red) (s : State) : (setRed x s).regs = s.regs := rfl
@[simp] theorem setRed_tim (x : Red) (s : State) : (setRed x s).tim = s.tim := rfl
@[simp] theorem setRed_flows (x : Red) (s : State) : (setRed x s).flows = s.flows := rfl
@[simp] theorem setRed_consists (x : Red) (s : State) : (setRed x s).consists = s.consists := rfl
@[simp] theorem setRed_swc (x : Red) (s : State) : (setRed x s).swc = s.swc := rfl
@[simp] theorem setRed_tt (x : Red) (s : State) : (setRed x s).tt = s.tt := rfl
@[simp] theorem setRed_aqf (x : Red) (s : State) : (setRed x s).aqf = s.aqf := rfl
@[simp] theorem setRed_svp (x : Red) (s : State) : (setRed x s).svp = s.svp := rfl
@[simp] theorem setRed_nmp (x : Red) (s : State) : (setRed x s).nmp = s.nmp := rfl
@[simp] theorem setRed_lnx (x : Red) (s : State) : (setRed x s).lnx = s.lnx := rfl
@[simp] theorem setRed_ika (x : Red) (s : State) : (setRed x s).ika = s.ika := rfl
@[simp] theorem setRed_aud (x : Red) (s : State) : (setRed x s).aud = s.aud := rfl
@[simp] theorem setRed_mem (x : Red) (s : State) : (setRed x s).mem = s.mem := rfl
@[simp] theorem setRed_hif (x : Red) (s : State) : (setRed x s).hif = s.hif := rfl
@[simp] theorem setRed_flt (x : Red) (s : State) : (setRed x s).flt = s.flt := rfl
@[simp] theorem setRed_pwr (x : Red) (s : State) : (setRed x s).pwr = s.pwr := rfl
@[simp] theorem setRed_sec (x : Red) (s : State) : (setRed x s).sec = s.sec := rfl
@[simp] theorem setRed_free (x : Red) (s : State) : (setRed x s).free = s.free := rfl
@[simp] theorem setRed_wire (x : Red) (s : State) : (setRed x s).wire = s.wire := rfl

@[simp] theorem setPwr_pending (x : Pwr) (s : State) : (setPwr x s).pending = s.pending := rfl
@[simp] theorem setPwr_regs (x : Pwr) (s : State) : (setPwr x s).regs = s.regs := rfl
@[simp] theorem setPwr_tim (x : Pwr) (s : State) : (setPwr x s).tim = s.tim := rfl
@[simp] theorem setPwr_flows (x : Pwr) (s : State) : (setPwr x s).flows = s.flows := rfl
@[simp] theorem setPwr_consists (x : Pwr) (s : State) : (setPwr x s).consists = s.consists := rfl
@[simp] theorem setPwr_swc (x : Pwr) (s : State) : (setPwr x s).swc = s.swc := rfl
@[simp] theorem setPwr_tt (x : Pwr) (s : State) : (setPwr x s).tt = s.tt := rfl
@[simp] theorem setPwr_aqf (x : Pwr) (s : State) : (setPwr x s).aqf = s.aqf := rfl
@[simp] theorem setPwr_svp (x : Pwr) (s : State) : (setPwr x s).svp = s.svp := rfl
@[simp] theorem setPwr_nmp (x : Pwr) (s : State) : (setPwr x s).nmp = s.nmp := rfl
@[simp] theorem setPwr_lnx (x : Pwr) (s : State) : (setPwr x s).lnx = s.lnx := rfl
@[simp] theorem setPwr_ika (x : Pwr) (s : State) : (setPwr x s).ika = s.ika := rfl
@[simp] theorem setPwr_aud (x : Pwr) (s : State) : (setPwr x s).aud = s.aud := rfl
@[simp] theorem setPwr_mem (x : Pwr) (s : State) : (setPwr x s).mem = s.mem := rfl
@[simp] theorem setPwr_hif (x : Pwr) (s : State) : (setPwr x s).hif = s.hif := rfl
@[simp] theorem setPwr_flt (x : Pwr) (s : State) : (setPwr x s).flt = s.flt := rfl
@[simp] theorem setPwr_red (x : Pwr) (s : State) : (setPwr x s).red = s.red := rfl
@[simp] theorem setPwr_sec (x : Pwr) (s : State) : (setPwr x s).sec = s.sec := rfl
@[simp] theorem setPwr_free (x : Pwr) (s : State) : (setPwr x s).free = s.free := rfl
@[simp] theorem setPwr_wire (x : Pwr) (s : State) : (setPwr x s).wire = s.wire := rfl

@[simp] theorem setRail_pending (n : Nat) (x : Rail) (s : State) : (setRail n x s).pending = s.pending := rfl
@[simp] theorem setRail_regs (n : Nat) (x : Rail) (s : State) : (setRail n x s).regs = s.regs := rfl
@[simp] theorem setRail_tim (n : Nat) (x : Rail) (s : State) : (setRail n x s).tim = s.tim := rfl
@[simp] theorem setRail_flows (n : Nat) (x : Rail) (s : State) : (setRail n x s).flows = s.flows := rfl
@[simp] theorem setRail_consists (n : Nat) (x : Rail) (s : State) : (setRail n x s).consists = s.consists := rfl
@[simp] theorem setRail_swc (n : Nat) (x : Rail) (s : State) : (setRail n x s).swc = s.swc := rfl
@[simp] theorem setRail_tt (n : Nat) (x : Rail) (s : State) : (setRail n x s).tt = s.tt := rfl
@[simp] theorem setRail_aqf (n : Nat) (x : Rail) (s : State) : (setRail n x s).aqf = s.aqf := rfl
@[simp] theorem setRail_svp (n : Nat) (x : Rail) (s : State) : (setRail n x s).svp = s.svp := rfl
@[simp] theorem setRail_nmp (n : Nat) (x : Rail) (s : State) : (setRail n x s).nmp = s.nmp := rfl
@[simp] theorem setRail_lnx (n : Nat) (x : Rail) (s : State) : (setRail n x s).lnx = s.lnx := rfl
@[simp] theorem setRail_ika (n : Nat) (x : Rail) (s : State) : (setRail n x s).ika = s.ika := rfl
@[simp] theorem setRail_aud (n : Nat) (x : Rail) (s : State) : (setRail n x s).aud = s.aud := rfl
@[simp] theorem setRail_mem (n : Nat) (x : Rail) (s : State) : (setRail n x s).mem = s.mem := rfl
@[simp] theorem setRail_hif (n : Nat) (x : Rail) (s : State) : (setRail n x s).hif = s.hif := rfl
@[simp] theorem setRail_flt (n : Nat) (x : Rail) (s : State) : (setRail n x s).flt = s.flt := rfl
@[simp] theorem setRail_red (n : Nat) (x : Rail) (s : State) : (setRail n x s).red = s.red := rfl
@[simp] theorem setRail_sec (n : Nat) (x : Rail) (s : State) : (setRail n x s).sec = s.sec := rfl
@[simp] theorem setRail_free (n : Nat) (x : Rail) (s : State) : (setRail n x s).free = s.free := rfl
@[simp] theorem setRail_wire (n : Nat) (x : Rail) (s : State) : (setRail n x s).wire = s.wire := rfl

@[simp] theorem setCooler_pending (n : Nat) (x : Cooler) (s : State) : (setCooler n x s).pending = s.pending := rfl
@[simp] theorem setCooler_regs (n : Nat) (x : Cooler) (s : State) : (setCooler n x s).regs = s.regs := rfl
@[simp] theorem setCooler_tim (n : Nat) (x : Cooler) (s : State) : (setCooler n x s).tim = s.tim := rfl
@[simp] theorem setCooler_flows (n : Nat) (x : Cooler) (s : State) : (setCooler n x s).flows = s.flows := rfl
@[simp] theorem setCooler_consists (n : Nat) (x : Cooler) (s : State) : (setCooler n x s).consists = s.consists := rfl
@[simp] theorem setCooler_swc (n : Nat) (x : Cooler) (s : State) : (setCooler n x s).swc = s.swc := rfl
@[simp] theorem setCooler_tt (n : Nat) (x : Cooler) (s : State) : (setCooler n x s).tt = s.tt := rfl
@[simp] theorem setCooler_aqf (n : Nat) (x : Cooler) (s : State) : (setCooler n x s).aqf = s.aqf := rfl
@[simp] theorem setCooler_svp (n : Nat) (x : Cooler) (s : State) : (setCooler n x s).svp = s.svp := rfl
@[simp] theorem setCooler_nmp (n : Nat) (x : Cooler) (s : State) : (setCooler n x s).nmp = s.nmp := rfl
@[simp] theorem setCooler_lnx (n : Nat) (x : Cooler) (s : State) : (setCooler n x s).lnx = s.lnx := rfl
@[simp] theorem setCooler_ika (n : Nat) (x : Cooler) (s : State) : (setCooler n x s).ika = s.ika := rfl
@[simp] theorem setCooler_aud (n : Nat) (x : Cooler) (s : State) : (setCooler n x s).aud = s.aud := rfl
@[simp] theorem setCooler_mem (n : Nat) (x : Cooler) (s : State) : (setCooler n x s).mem = s.mem := rfl
@[simp] theorem setCooler_hif (n : Nat) (x : Cooler) (s : State) : (setCooler n x s).hif = s.hif := rfl
@[simp] theorem setCooler_flt (n : Nat) (x : Cooler) (s : State) : (setCooler n x s).flt = s.flt := rfl
@[simp] theorem setCooler_red (n : Nat) (x : Cooler) (s : State) : (setCooler n x s).red = s.red := rfl
@[simp] theorem setCooler_sec (n : Nat) (x : Cooler) (s : State) : (setCooler n x s).sec = s.sec := rfl
@[simp] theorem setCooler_free (n : Nat) (x : Cooler) (s : State) : (setCooler n x s).free = s.free := rfl
@[simp] theorem setCooler_wire (n : Nat) (x : Cooler) (s : State) : (setCooler n x s).wire = s.wire := rfl

@[simp] theorem setSec_pending (x : Sec) (s : State) : (setSec x s).pending = s.pending := rfl
@[simp] theorem setSec_regs (x : Sec) (s : State) : (setSec x s).regs = s.regs := rfl
@[simp] theorem setSec_tim (x : Sec) (s : State) : (setSec x s).tim = s.tim := rfl
@[simp] theorem setSec_flows (x : Sec) (s : State) : (setSec x s).flows = s.flows := rfl
@[simp] theorem setSec_consists (x : Sec) (s : State) : (setSec x s).consists = s.consists := rfl
@[simp] theorem setSec_swc (x : Sec) (s : State) : (setSec x s).swc = s.swc := rfl
@[simp] theorem setSec_tt (x : Sec) (s : State) : (setSec x s).tt = s.tt := rfl
@[simp] theorem setSec_aqf (x : Sec) (s : State) : (setSec x s).aqf = s.aqf := rfl
@[simp] theorem setSec_svp (x : Sec) (s : State) : (setSec x s).svp = s.svp := rfl
@[simp] theorem setSec_nmp (x : Sec) (s : State) : (setSec x s).nmp = s.nmp := rfl
@[simp] theorem setSec_lnx (x : Sec) (s : State) : (setSec x s).lnx = s.lnx := rfl
@[simp] theorem setSec_ika (x : Sec) (s : State) : (setSec x s).ika = s.ika := rfl
@[simp] theorem setSec_aud (x : Sec) (s : State) : (setSec x s).aud = s.aud := rfl
@[simp] theorem setSec_mem (x : Sec) (s : State) : (setSec x s).mem = s.mem := rfl
@[simp] theorem setSec_hif (x : Sec) (s : State) : (setSec x s).hif = s.hif := rfl
@[simp] theorem setSec_flt (x : Sec) (s : State) : (setSec x s).flt = s.flt := rfl
@[simp] theorem setSec_red (x : Sec) (s : State) : (setSec x s).red = s.red := rfl
@[simp] theorem setSec_pwr (x : Sec) (s : State) : (setSec x s).pwr = s.pwr := rfl
@[simp] theorem setSec_free (x : Sec) (s : State) : (setSec x s).free = s.free := rfl
@[simp] theorem setSec_wire (x : Sec) (s : State) : (setSec x s).wire = s.wire := rfl

@[simp] theorem clearResets_pending (s : State) : (clearResets s).pending = s.pending := rfl
@[simp] theorem clearResets_regs (s : State) : (clearResets s).regs = s.regs := rfl
@[simp] theorem clearResets_tim (s : State) : (clearResets s).tim = s.tim := rfl
@[simp] theorem clearResets_flows (s : State) : (clearResets s).flows = s.flows := rfl
@[simp] theorem clearResets_consists (s : State) : (clearResets s).consists = s.consists := rfl
@[simp] theorem clearResets_swc (s : State) : (clearResets s).swc = s.swc := rfl
@[simp] theorem clearResets_tt (s : State) : (clearResets s).tt = s.tt := rfl
@[simp] theorem clearResets_aqf (s : State) : (clearResets s).aqf = s.aqf := rfl
@[simp] theorem clearResets_svp (s : State) : (clearResets s).svp = s.svp := rfl
@[simp] theorem clearResets_nmp (s : State) : (clearResets s).nmp = s.nmp := rfl
@[simp] theorem clearResets_lnx (s : State) : (clearResets s).lnx = s.lnx := rfl
@[simp] theorem clearResets_ika (s : State) : (clearResets s).ika = s.ika := rfl
@[simp] theorem clearResets_aud (s : State) : (clearResets s).aud = s.aud := rfl
@[simp] theorem clearResets_mem (s : State) : (clearResets s).mem = s.mem := rfl
@[simp] theorem clearResets_hif (s : State) : (clearResets s).hif = s.hif := rfl
@[simp] theorem clearResets_red (s : State) : (clearResets s).red = s.red := rfl
@[simp] theorem clearResets_pwr (s : State) : (clearResets s).pwr = s.pwr := rfl
@[simp] theorem clearResets_sec (s : State) : (clearResets s).sec = s.sec := rfl
@[simp] theorem clearResets_free (s : State) : (clearResets s).free = s.free := rfl
@[simp] theorem clearResets_wire (s : State) : (clearResets s).wire = s.wire := rfl

@[simp] theorem noteNow_pending (a : Periodic) (s : State) : (noteNow a s).pending = s.pending := rfl
@[simp] theorem noteNow_regs (a : Periodic) (s : State) : (noteNow a s).regs = s.regs := rfl
@[simp] theorem noteNow_flows (a : Periodic) (s : State) : (noteNow a s).flows = s.flows := rfl
@[simp] theorem noteNow_consists (a : Periodic) (s : State) : (noteNow a s).consists = s.consists := rfl
@[simp] theorem noteNow_swc (a : Periodic) (s : State) : (noteNow a s).swc = s.swc := rfl
@[simp] theorem noteNow_tt (a : Periodic) (s : State) : (noteNow a s).tt = s.tt := rfl
@[simp] theorem noteNow_aqf (a : Periodic) (s : State) : (noteNow a s).aqf = s.aqf := rfl
@[simp] theorem noteNow_svp (a : Periodic) (s : State) : (noteNow a s).svp = s.svp := rfl
@[simp] theorem noteNow_nmp (a : Periodic) (s : State) : (noteNow a s).nmp = s.nmp := rfl
@[simp] theorem noteNow_lnx (a : Periodic) (s : State) : (noteNow a s).lnx = s.lnx := rfl
@[simp] theorem noteNow_ika (a : Periodic) (s : State) : (noteNow a s).ika = s.ika := rfl
@[simp] theorem noteNow_aud (a : Periodic) (s : State) : (noteNow a s).aud = s.aud := rfl
@[simp] theorem noteNow_mem (a : Periodic) (s : State) : (noteNow a s).mem = s.mem := rfl
@[simp] theorem noteNow_hif (a : Periodic) (s : State) : (noteNow a s).hif = s.hif := rfl
@[simp] theorem noteNow_flt (a : Periodic) (s : State) : (noteNow a s).flt = s.flt := rfl
@[simp] theorem noteNow_red (a : Periodic) (s : State) : (noteNow a s).red = s.red := rfl
@[simp] theorem noteNow_pwr (a : Periodic) (s : State) : (noteNow a s).pwr = s.pwr := rfl
@[simp] theorem noteNow_sec (a : Periodic) (s : State) : (noteNow a s).sec = s.sec := rfl
@[simp] theorem noteNow_free (a : Periodic) (s : State) : (noteNow a s).free = s.free := rfl
@[simp] theorem noteNow_wire (a : Periodic) (s : State) : (noteNow a s).wire = s.wire := rfl

@[simp] theorem every_pending (a : Periodic) (p : Nat) (s : State) : (every a p s).pending = s.pending := rfl
@[simp] theorem every_regs (a : Periodic) (p : Nat) (s : State) : (every a p s).regs = s.regs := rfl
@[simp] theorem every_flows (a : Periodic) (p : Nat) (s : State) : (every a p s).flows = s.flows := rfl
@[simp] theorem every_consists (a : Periodic) (p : Nat) (s : State) : (every a p s).consists = s.consists := rfl
@[simp] theorem every_swc (a : Periodic) (p : Nat) (s : State) : (every a p s).swc = s.swc := rfl
@[simp] theorem every_tt (a : Periodic) (p : Nat) (s : State) : (every a p s).tt = s.tt := rfl
@[simp] theorem every_aqf (a : Periodic) (p : Nat) (s : State) : (every a p s).aqf = s.aqf := rfl
@[simp] theorem every_svp (a : Periodic) (p : Nat) (s : State) : (every a p s).svp = s.svp := rfl
@[simp] theorem every_nmp (a : Periodic) (p : Nat) (s : State) : (every a p s).nmp = s.nmp := rfl
@[simp] theorem every_lnx (a : Periodic) (p : Nat) (s : State) : (every a p s).lnx = s.lnx := rfl
@[simp] theorem every_ika (a : Periodic) (p : Nat) (s : State) : (every a p s).ika = s.ika := rfl
@[simp] theorem every_aud (a : Periodic) (p : Nat) (s : State) : (every a p s).aud = s.aud := rfl
@[simp] theorem every_mem (a : Periodic) (p : Nat) (s : State) : (every a p s).mem = s.mem := rfl
@[simp] theorem every_hif (a : Periodic) (p : Nat) (s : State) : (every a p s).hif = s.hif := rfl
@[simp] theorem every_flt (a : Periodic) (p : Nat) (s : State) : (every a p s).flt = s.flt := rfl
@[simp] theorem every_red (a : Periodic) (p : Nat) (s : State) : (every a p s).red = s.red := rfl
@[simp] theorem every_pwr (a : Periodic) (p : Nat) (s : State) : (every a p s).pwr = s.pwr := rfl
@[simp] theorem every_sec (a : Periodic) (p : Nat) (s : State) : (every a p s).sec = s.sec := rfl
@[simp] theorem every_free (a : Periodic) (p : Nat) (s : State) : (every a p s).free = s.free := rfl
@[simp] theorem every_wire (a : Periodic) (p : Nat) (s : State) : (every a p s).wire = s.wire := rfl

@[simp] theorem setBufs_pending (n k : Nat) (x : List FrameBuf) (s : State) : (setBufs n k x s).pending = s.pending := rfl
@[simp] theorem setBufs_regs (n k : Nat) (x : List FrameBuf) (s : State) : (setBufs n k x s).regs = s.regs := rfl
@[simp] theorem setBufs_tim (n k : Nat) (x : List FrameBuf) (s : State) : (setBufs n k x s).tim = s.tim := rfl
@[simp] theorem setBufs_flows (n k : Nat) (x : List FrameBuf) (s : State) : (setBufs n k x s).flows = s.flows := rfl
@[simp] theorem setBufs_consists (n k : Nat) (x : List FrameBuf) (s : State) : (setBufs n k x s).consists = s.consists := rfl
@[simp] theorem setBufs_swc (n k : Nat) (x : List FrameBuf) (s : State) : (setBufs n k x s).swc = s.swc := rfl
@[simp] theorem setBufs_tt (n k : Nat) (x : List FrameBuf) (s : State) : (setBufs n k x s).tt = s.tt := rfl
@[simp] theorem setBufs_aqf (n k : Nat) (x : List FrameBuf) (s : State) : (setBufs n k x s).aqf = s.aqf := rfl
@[simp] theorem setBufs_svp (n k : Nat) (x : List FrameBuf) (s : State) : (setBufs n k x s).svp = s.svp := rfl
@[simp] theorem setBufs_nmp (n k : Nat) (x : List FrameBuf) (s : State) : (setBufs n k x s).nmp = s.nmp := rfl
@[simp] theorem setBufs_lnx (n k : Nat) (x : List FrameBuf) (s : State) : (setBufs n k x s).lnx = s.lnx := rfl
@[simp] theorem setBufs_aud (n k : Nat) (x : List FrameBuf) (s : State) : (setBufs n k x s).aud = s.aud := rfl
@[simp] theorem setBufs_mem (n k : Nat) (x : List FrameBuf) (s : State) : (setBufs n k x s).mem = s.mem := rfl
@[simp] theorem setBufs_hif (n k : Nat) (x : List FrameBuf) (s : State) : (setBufs n k x s).hif = s.hif := rfl
@[simp] theorem setBufs_flt (n k : Nat) (x : List FrameBuf) (s : State) : (setBufs n k x s).flt = s.flt := rfl
@[simp] theorem setBufs_red (n k : Nat) (x : List FrameBuf) (s : State) : (setBufs n k x s).red = s.red := rfl
@[simp] theorem setBufs_pwr (n k : Nat) (x : List FrameBuf) (s : State) : (setBufs n k x s).pwr = s.pwr := rfl
@[simp] theorem setBufs_sec (n k : Nat) (x : List FrameBuf) (s : State) : (setBufs n k x s).sec = s.sec := rfl
@[simp] theorem setBufs_free (n k : Nat) (x : List FrameBuf) (s : State) : (setBufs n k x s).free = s.free := rfl
@[simp] theorem setBufs_wire (n k : Nat) (x : List FrameBuf) (s : State) : (setBufs n k x s).wire = s.wire := rfl

@[simp] theorem decided_pending (n k : Nat) (s : State) : (decided n k s).pending = s.pending := rfl
@[simp] theorem decided_regs (n k : Nat) (s : State) : (decided n k s).regs = s.regs := rfl
@[simp] theorem decided_tim (n k : Nat) (s : State) : (decided n k s).tim = s.tim := rfl
@[simp] theorem decided_flows (n k : Nat) (s : State) : (decided n k s).flows = s.flows := rfl
@[simp] theorem decided_consists (n k : Nat) (s : State) : (decided n k s).consists = s.consists := rfl
@[simp] theorem decided_swc (n k : Nat) (s : State) : (decided n k s).swc = s.swc := rfl
@[simp] theorem decided_tt (n k : Nat) (s : State) : (decided n k s).tt = s.tt := rfl
@[simp] theorem decided_aqf (n k : Nat) (s : State) : (decided n k s).aqf = s.aqf := rfl
@[simp] theorem decided_svp (n k : Nat) (s : State) : (decided n k s).svp = s.svp := rfl
@[simp] theorem decided_nmp (n k : Nat) (s : State) : (decided n k s).nmp = s.nmp := rfl
@[simp] theorem decided_lnx (n k : Nat) (s : State) : (decided n k s).lnx = s.lnx := rfl
@[simp] theorem decided_aud (n k : Nat) (s : State) : (decided n k s).aud = s.aud := rfl
@[simp] theorem decided_mem (n k : Nat) (s : State) : (decided n k s).mem = s.mem := rfl
@[simp] theorem decided_hif (n k : Nat) (s : State) : (decided n k s).hif = s.hif := rfl
@[simp] theorem decided_flt (n k : Nat) (s : State) : (decided n k s).flt = s.flt := rfl
@[simp] theorem decided_red (n k : Nat) (s : State) : (decided n k s).red = s.red := rfl
@[simp] theorem decided_pwr (n k : Nat) (s : State) : (decided n k s).pwr = s.pwr := rfl
@[simp] theorem decided_sec (n k : Nat) (s : State) : (decided n k s).sec = s.sec := rfl
@[simp] theorem decided_free (n k : Nat) (s : State) : (decided n k s).free = s.free := rfl
@[simp] theorem decided_wire (n k : Nat) (s : State) : (decided n k s).wire = s.wire := rfl

@[simp] theorem setPos_pending (n k : Nat) (x : TxPos) (s : State) : (setPos n k x s).pending = s.pending := rfl
@[simp] theorem setPos_regs (n k : Nat) (x : TxPos) (s : State) : (setPos n k x s).regs = s.regs := rfl
@[simp] theorem setPos_tim (n k : Nat) (x : TxPos) (s : State) : (setPos n k x s).tim = s.tim := rfl
@[simp] theorem setPos_flows (n k : Nat) (x : TxPos) (s : State) : (setPos n k x s).flows = s.flows := rfl
@[simp] theorem setPos_consists (n k : Nat) (x : TxPos) (s : State) : (setPos n k x s).consists = s.consists := rfl
@[simp] theorem setPos_swc (n k : Nat) (x : TxPos) (s : State) : (setPos n k x s).swc = s.swc := rfl
@[simp] theorem setPos_tt (n k : Nat) (x : TxPos) (s : State) : (setPos n k x s).tt = s.tt := rfl
@[simp] theorem setPos_aqf (n k : Nat) (x : TxPos) (s : State) : (setPos n k x s).aqf = s.aqf := rfl
@[simp] theorem setPos_svp (n k : Nat) (x : TxPos) (s : State) : (setPos n k x s).svp = s.svp := rfl
@[simp] theorem setPos_lnx (n k : Nat) (x : TxPos) (s : State) : (setPos n k x s).lnx = s.lnx := rfl
@[simp] theorem setPos_ika (n k : Nat) (x : TxPos) (s : State) : (setPos n k x s).ika = s.ika := rfl
@[simp] theorem setPos_aud (n k : Nat) (x : TxPos) (s : State) : (setPos n k x s).aud = s.aud := rfl
@[simp] theorem setPos_mem (n k : Nat) (x : TxPos) (s : State) : (setPos n k x s).mem = s.mem := rfl
@[simp] theorem setPos_hif (n k : Nat) (x : TxPos) (s : State) : (setPos n k x s).hif = s.hif := rfl
@[simp] theorem setPos_flt (n k : Nat) (x : TxPos) (s : State) : (setPos n k x s).flt = s.flt := rfl
@[simp] theorem setPos_red (n k : Nat) (x : TxPos) (s : State) : (setPos n k x s).red = s.red := rfl
@[simp] theorem setPos_pwr (n k : Nat) (x : TxPos) (s : State) : (setPos n k x s).pwr = s.pwr := rfl
@[simp] theorem setPos_sec (n k : Nat) (x : TxPos) (s : State) : (setPos n k x s).sec = s.sec := rfl
@[simp] theorem setPos_free (n k : Nat) (x : TxPos) (s : State) : (setPos n k x s).free = s.free := rfl
@[simp] theorem setPos_wire (n k : Nat) (x : TxPos) (s : State) : (setPos n k x s).wire = s.wire := rfl

@[simp] theorem setRow_pending (n k : Nat) (f : RowSpare → RowSpare) (s : State) : (setRow n k f s).pending = s.pending := rfl
@[simp] theorem setRow_regs (n k : Nat) (f : RowSpare → RowSpare) (s : State) : (setRow n k f s).regs = s.regs := rfl
@[simp] theorem setRow_tim (n k : Nat) (f : RowSpare → RowSpare) (s : State) : (setRow n k f s).tim = s.tim := rfl
@[simp] theorem setRow_flows (n k : Nat) (f : RowSpare → RowSpare) (s : State) : (setRow n k f s).flows = s.flows := rfl
@[simp] theorem setRow_consists (n k : Nat) (f : RowSpare → RowSpare) (s : State) : (setRow n k f s).consists = s.consists := rfl
@[simp] theorem setRow_tt (n k : Nat) (f : RowSpare → RowSpare) (s : State) : (setRow n k f s).tt = s.tt := rfl
@[simp] theorem setRow_aqf (n k : Nat) (f : RowSpare → RowSpare) (s : State) : (setRow n k f s).aqf = s.aqf := rfl
@[simp] theorem setRow_svp (n k : Nat) (f : RowSpare → RowSpare) (s : State) : (setRow n k f s).svp = s.svp := rfl
@[simp] theorem setRow_nmp (n k : Nat) (f : RowSpare → RowSpare) (s : State) : (setRow n k f s).nmp = s.nmp := rfl
@[simp] theorem setRow_lnx (n k : Nat) (f : RowSpare → RowSpare) (s : State) : (setRow n k f s).lnx = s.lnx := rfl
@[simp] theorem setRow_ika (n k : Nat) (f : RowSpare → RowSpare) (s : State) : (setRow n k f s).ika = s.ika := rfl
@[simp] theorem setRow_aud (n k : Nat) (f : RowSpare → RowSpare) (s : State) : (setRow n k f s).aud = s.aud := rfl
@[simp] theorem setRow_mem (n k : Nat) (f : RowSpare → RowSpare) (s : State) : (setRow n k f s).mem = s.mem := rfl
@[simp] theorem setRow_hif (n k : Nat) (f : RowSpare → RowSpare) (s : State) : (setRow n k f s).hif = s.hif := rfl
@[simp] theorem setRow_flt (n k : Nat) (f : RowSpare → RowSpare) (s : State) : (setRow n k f s).flt = s.flt := rfl
@[simp] theorem setRow_red (n k : Nat) (f : RowSpare → RowSpare) (s : State) : (setRow n k f s).red = s.red := rfl
@[simp] theorem setRow_pwr (n k : Nat) (f : RowSpare → RowSpare) (s : State) : (setRow n k f s).pwr = s.pwr := rfl
@[simp] theorem setRow_sec (n k : Nat) (f : RowSpare → RowSpare) (s : State) : (setRow n k f s).sec = s.sec := rfl
@[simp] theorem setRow_free (n k : Nat) (f : RowSpare → RowSpare) (s : State) : (setRow n k f s).free = s.free := rfl
@[simp] theorem setRow_wire (n k : Nat) (f : RowSpare → RowSpare) (s : State) : (setRow n k f s).wire = s.wire := rfl

@[simp] theorem setPoison_pending (n k : Nat) (b : Bool) (s : State) : (setPoison n k b s).pending = s.pending := rfl
@[simp] theorem setPoison_regs (n k : Nat) (b : Bool) (s : State) : (setPoison n k b s).regs = s.regs := rfl
@[simp] theorem setPoison_tim (n k : Nat) (b : Bool) (s : State) : (setPoison n k b s).tim = s.tim := rfl
@[simp] theorem setPoison_flows (n k : Nat) (b : Bool) (s : State) : (setPoison n k b s).flows = s.flows := rfl
@[simp] theorem setPoison_consists (n k : Nat) (b : Bool) (s : State) : (setPoison n k b s).consists = s.consists := rfl
@[simp] theorem setPoison_swc (n k : Nat) (b : Bool) (s : State) : (setPoison n k b s).swc = s.swc := rfl
@[simp] theorem setPoison_tt (n k : Nat) (b : Bool) (s : State) : (setPoison n k b s).tt = s.tt := rfl
@[simp] theorem setPoison_aqf (n k : Nat) (b : Bool) (s : State) : (setPoison n k b s).aqf = s.aqf := rfl
@[simp] theorem setPoison_svp (n k : Nat) (b : Bool) (s : State) : (setPoison n k b s).svp = s.svp := rfl
@[simp] theorem setPoison_nmp (n k : Nat) (b : Bool) (s : State) : (setPoison n k b s).nmp = s.nmp := rfl
@[simp] theorem setPoison_lnx (n k : Nat) (b : Bool) (s : State) : (setPoison n k b s).lnx = s.lnx := rfl
@[simp] theorem setPoison_ika (n k : Nat) (b : Bool) (s : State) : (setPoison n k b s).ika = s.ika := rfl
@[simp] theorem setPoison_aud (n k : Nat) (b : Bool) (s : State) : (setPoison n k b s).aud = s.aud := rfl
@[simp] theorem setPoison_hif (n k : Nat) (b : Bool) (s : State) : (setPoison n k b s).hif = s.hif := rfl
@[simp] theorem setPoison_flt (n k : Nat) (b : Bool) (s : State) : (setPoison n k b s).flt = s.flt := rfl
@[simp] theorem setPoison_red (n k : Nat) (b : Bool) (s : State) : (setPoison n k b s).red = s.red := rfl
@[simp] theorem setPoison_pwr (n k : Nat) (b : Bool) (s : State) : (setPoison n k b s).pwr = s.pwr := rfl
@[simp] theorem setPoison_sec (n k : Nat) (b : Bool) (s : State) : (setPoison n k b s).sec = s.sec := rfl
@[simp] theorem setPoison_free (n k : Nat) (b : Bool) (s : State) : (setPoison n k b s).free = s.free := rfl
@[simp] theorem setPoison_wire (n k : Nat) (b : Bool) (s : State) : (setPoison n k b s).wire = s.wire := rfl

@[simp] theorem setRepair_pending (n : Nat) (r : Repair) (k : Nat) (s : State) : (setRepair n r k s).pending = s.pending := rfl
@[simp] theorem setRepair_regs (n : Nat) (r : Repair) (k : Nat) (s : State) : (setRepair n r k s).regs = s.regs := rfl
@[simp] theorem setRepair_tim (n : Nat) (r : Repair) (k : Nat) (s : State) : (setRepair n r k s).tim = s.tim := rfl
@[simp] theorem setRepair_flows (n : Nat) (r : Repair) (k : Nat) (s : State) : (setRepair n r k s).flows = s.flows := rfl
@[simp] theorem setRepair_consists (n : Nat) (r : Repair) (k : Nat) (s : State) : (setRepair n r k s).consists = s.consists := rfl
@[simp] theorem setRepair_swc (n : Nat) (r : Repair) (k : Nat) (s : State) : (setRepair n r k s).swc = s.swc := rfl
@[simp] theorem setRepair_tt (n : Nat) (r : Repair) (k : Nat) (s : State) : (setRepair n r k s).tt = s.tt := rfl
@[simp] theorem setRepair_aqf (n : Nat) (r : Repair) (k : Nat) (s : State) : (setRepair n r k s).aqf = s.aqf := rfl
@[simp] theorem setRepair_svp (n : Nat) (r : Repair) (k : Nat) (s : State) : (setRepair n r k s).svp = s.svp := rfl
@[simp] theorem setRepair_nmp (n : Nat) (r : Repair) (k : Nat) (s : State) : (setRepair n r k s).nmp = s.nmp := rfl
@[simp] theorem setRepair_lnx (n : Nat) (r : Repair) (k : Nat) (s : State) : (setRepair n r k s).lnx = s.lnx := rfl
@[simp] theorem setRepair_ika (n : Nat) (r : Repair) (k : Nat) (s : State) : (setRepair n r k s).ika = s.ika := rfl
@[simp] theorem setRepair_aud (n : Nat) (r : Repair) (k : Nat) (s : State) : (setRepair n r k s).aud = s.aud := rfl
@[simp] theorem setRepair_hif (n : Nat) (r : Repair) (k : Nat) (s : State) : (setRepair n r k s).hif = s.hif := rfl
@[simp] theorem setRepair_flt (n : Nat) (r : Repair) (k : Nat) (s : State) : (setRepair n r k s).flt = s.flt := rfl
@[simp] theorem setRepair_red (n : Nat) (r : Repair) (k : Nat) (s : State) : (setRepair n r k s).red = s.red := rfl
@[simp] theorem setRepair_pwr (n : Nat) (r : Repair) (k : Nat) (s : State) : (setRepair n r k s).pwr = s.pwr := rfl
@[simp] theorem setRepair_sec (n : Nat) (r : Repair) (k : Nat) (s : State) : (setRepair n r k s).sec = s.sec := rfl
@[simp] theorem setRepair_free (n : Nat) (r : Repair) (k : Nat) (s : State) : (setRepair n r k s).free = s.free := rfl
@[simp] theorem setRepair_wire (n : Nat) (r : Repair) (k : Nat) (s : State) : (setRepair n r k s).wire = s.wire := rfl

@[simp] theorem setSlot_pending (n : Nat) (x : List Byte) (s : State) : (setSlot n x s).pending = s.pending := rfl
@[simp] theorem setSlot_regs (n : Nat) (x : List Byte) (s : State) : (setSlot n x s).regs = s.regs := rfl
@[simp] theorem setSlot_tim (n : Nat) (x : List Byte) (s : State) : (setSlot n x s).tim = s.tim := rfl
@[simp] theorem setSlot_flows (n : Nat) (x : List Byte) (s : State) : (setSlot n x s).flows = s.flows := rfl
@[simp] theorem setSlot_consists (n : Nat) (x : List Byte) (s : State) : (setSlot n x s).consists = s.consists := rfl
@[simp] theorem setSlot_swc (n : Nat) (x : List Byte) (s : State) : (setSlot n x s).swc = s.swc := rfl
@[simp] theorem setSlot_tt (n : Nat) (x : List Byte) (s : State) : (setSlot n x s).tt = s.tt := rfl
@[simp] theorem setSlot_aqf (n : Nat) (x : List Byte) (s : State) : (setSlot n x s).aqf = s.aqf := rfl
@[simp] theorem setSlot_svp (n : Nat) (x : List Byte) (s : State) : (setSlot n x s).svp = s.svp := rfl
@[simp] theorem setSlot_nmp (n : Nat) (x : List Byte) (s : State) : (setSlot n x s).nmp = s.nmp := rfl
@[simp] theorem setSlot_lnx (n : Nat) (x : List Byte) (s : State) : (setSlot n x s).lnx = s.lnx := rfl
@[simp] theorem setSlot_ika (n : Nat) (x : List Byte) (s : State) : (setSlot n x s).ika = s.ika := rfl
@[simp] theorem setSlot_aud (n : Nat) (x : List Byte) (s : State) : (setSlot n x s).aud = s.aud := rfl
@[simp] theorem setSlot_mem (n : Nat) (x : List Byte) (s : State) : (setSlot n x s).mem = s.mem := rfl
@[simp] theorem setSlot_hif (n : Nat) (x : List Byte) (s : State) : (setSlot n x s).hif = s.hif := rfl
@[simp] theorem setSlot_flt (n : Nat) (x : List Byte) (s : State) : (setSlot n x s).flt = s.flt := rfl
@[simp] theorem setSlot_red (n : Nat) (x : List Byte) (s : State) : (setSlot n x s).red = s.red := rfl
@[simp] theorem setSlot_pwr (n : Nat) (x : List Byte) (s : State) : (setSlot n x s).pwr = s.pwr := rfl
@[simp] theorem setSlot_free (n : Nat) (x : List Byte) (s : State) : (setSlot n x s).free = s.free := rfl
@[simp] theorem setSlot_wire (n : Nat) (x : List Byte) (s : State) : (setSlot n x s).wire = s.wire := rfl

@[simp] theorem recordWake_pending (n : Nat) (s : State) : (recordWake n s).pending = s.pending := rfl
@[simp] theorem recordWake_regs (n : Nat) (s : State) : (recordWake n s).regs = s.regs := rfl
@[simp] theorem recordWake_tim (n : Nat) (s : State) : (recordWake n s).tim = s.tim := rfl
@[simp] theorem recordWake_flows (n : Nat) (s : State) : (recordWake n s).flows = s.flows := rfl
@[simp] theorem recordWake_consists (n : Nat) (s : State) : (recordWake n s).consists = s.consists := rfl
@[simp] theorem recordWake_swc (n : Nat) (s : State) : (recordWake n s).swc = s.swc := rfl
@[simp] theorem recordWake_tt (n : Nat) (s : State) : (recordWake n s).tt = s.tt := rfl
@[simp] theorem recordWake_aqf (n : Nat) (s : State) : (recordWake n s).aqf = s.aqf := rfl
@[simp] theorem recordWake_svp (n : Nat) (s : State) : (recordWake n s).svp = s.svp := rfl
@[simp] theorem recordWake_nmp (n : Nat) (s : State) : (recordWake n s).nmp = s.nmp := rfl
@[simp] theorem recordWake_lnx (n : Nat) (s : State) : (recordWake n s).lnx = s.lnx := rfl
@[simp] theorem recordWake_ika (n : Nat) (s : State) : (recordWake n s).ika = s.ika := rfl
@[simp] theorem recordWake_aud (n : Nat) (s : State) : (recordWake n s).aud = s.aud := rfl
@[simp] theorem recordWake_mem (n : Nat) (s : State) : (recordWake n s).mem = s.mem := rfl
@[simp] theorem recordWake_hif (n : Nat) (s : State) : (recordWake n s).hif = s.hif := rfl
@[simp] theorem recordWake_flt (n : Nat) (s : State) : (recordWake n s).flt = s.flt := rfl
@[simp] theorem recordWake_red (n : Nat) (s : State) : (recordWake n s).red = s.red := rfl
@[simp] theorem recordWake_sec (n : Nat) (s : State) : (recordWake n s).sec = s.sec := rfl
@[simp] theorem recordWake_free (n : Nat) (s : State) : (recordWake n s).free = s.free := rfl
@[simp] theorem recordWake_wire (n : Nat) (s : State) : (recordWake n s).wire = s.wire := rfl

@[simp] theorem busGrant_pending (n : Nat) (l : List Nat) (s : State) : (busGrant n l s).pending = s.pending := rfl
@[simp] theorem busGrant_regs (n : Nat) (l : List Nat) (s : State) : (busGrant n l s).regs = s.regs := rfl
@[simp] theorem busGrant_tim (n : Nat) (l : List Nat) (s : State) : (busGrant n l s).tim = s.tim := rfl
@[simp] theorem busGrant_flows (n : Nat) (l : List Nat) (s : State) : (busGrant n l s).flows = s.flows := rfl
@[simp] theorem busGrant_consists (n : Nat) (l : List Nat) (s : State) : (busGrant n l s).consists = s.consists := rfl
@[simp] theorem busGrant_swc (n : Nat) (l : List Nat) (s : State) : (busGrant n l s).swc = s.swc := rfl
@[simp] theorem busGrant_tt (n : Nat) (l : List Nat) (s : State) : (busGrant n l s).tt = s.tt := rfl
@[simp] theorem busGrant_aqf (n : Nat) (l : List Nat) (s : State) : (busGrant n l s).aqf = s.aqf := rfl
@[simp] theorem busGrant_svp (n : Nat) (l : List Nat) (s : State) : (busGrant n l s).svp = s.svp := rfl
@[simp] theorem busGrant_nmp (n : Nat) (l : List Nat) (s : State) : (busGrant n l s).nmp = s.nmp := rfl
@[simp] theorem busGrant_lnx (n : Nat) (l : List Nat) (s : State) : (busGrant n l s).lnx = s.lnx := rfl
@[simp] theorem busGrant_ika (n : Nat) (l : List Nat) (s : State) : (busGrant n l s).ika = s.ika := rfl
@[simp] theorem busGrant_aud (n : Nat) (l : List Nat) (s : State) : (busGrant n l s).aud = s.aud := rfl
@[simp] theorem busGrant_mem (n : Nat) (l : List Nat) (s : State) : (busGrant n l s).mem = s.mem := rfl
@[simp] theorem busGrant_flt (n : Nat) (l : List Nat) (s : State) : (busGrant n l s).flt = s.flt := rfl
@[simp] theorem busGrant_red (n : Nat) (l : List Nat) (s : State) : (busGrant n l s).red = s.red := rfl
@[simp] theorem busGrant_pwr (n : Nat) (l : List Nat) (s : State) : (busGrant n l s).pwr = s.pwr := rfl
@[simp] theorem busGrant_sec (n : Nat) (l : List Nat) (s : State) : (busGrant n l s).sec = s.sec := rfl
@[simp] theorem busGrant_free (n : Nat) (l : List Nat) (s : State) : (busGrant n l s).free = s.free := rfl
@[simp] theorem busGrant_wire (n : Nat) (l : List Nat) (s : State) : (busGrant n l s).wire = s.wire := rfl

@[simp] theorem dropShadow_pending (n : Nat) (s : State) : (dropShadow n s).pending = s.pending := rfl
@[simp] theorem dropShadow_regs (n : Nat) (s : State) : (dropShadow n s).regs = s.regs := rfl
@[simp] theorem dropShadow_tim (n : Nat) (s : State) : (dropShadow n s).tim = s.tim := rfl
@[simp] theorem dropShadow_flows (n : Nat) (s : State) : (dropShadow n s).flows = s.flows := rfl
@[simp] theorem dropShadow_consists (n : Nat) (s : State) : (dropShadow n s).consists = s.consists := rfl
@[simp] theorem dropShadow_swc (n : Nat) (s : State) : (dropShadow n s).swc = s.swc := rfl
@[simp] theorem dropShadow_tt (n : Nat) (s : State) : (dropShadow n s).tt = s.tt := rfl
@[simp] theorem dropShadow_svp (n : Nat) (s : State) : (dropShadow n s).svp = s.svp := rfl
@[simp] theorem dropShadow_nmp (n : Nat) (s : State) : (dropShadow n s).nmp = s.nmp := rfl
@[simp] theorem dropShadow_ika (n : Nat) (s : State) : (dropShadow n s).ika = s.ika := rfl
@[simp] theorem dropShadow_aud (n : Nat) (s : State) : (dropShadow n s).aud = s.aud := rfl
@[simp] theorem dropShadow_mem (n : Nat) (s : State) : (dropShadow n s).mem = s.mem := rfl
@[simp] theorem dropShadow_hif (n : Nat) (s : State) : (dropShadow n s).hif = s.hif := rfl
@[simp] theorem dropShadow_flt (n : Nat) (s : State) : (dropShadow n s).flt = s.flt := rfl
@[simp] theorem dropShadow_red (n : Nat) (s : State) : (dropShadow n s).red = s.red := rfl
@[simp] theorem dropShadow_pwr (n : Nat) (s : State) : (dropShadow n s).pwr = s.pwr := rfl
@[simp] theorem dropShadow_sec (n : Nat) (s : State) : (dropShadow n s).sec = s.sec := rfl
@[simp] theorem dropShadow_free (n : Nat) (s : State) : (dropShadow n s).free = s.free := rfl
@[simp] theorem dropShadow_wire (n : Nat) (s : State) : (dropShadow n s).wire = s.wire := rfl

@[simp] theorem sendCell_pending (n : Nat) (l : List Byte) (s : State) : (sendCell n l s).pending = s.pending := rfl
@[simp] theorem sendCell_regs (n : Nat) (l : List Byte) (s : State) : (sendCell n l s).regs = s.regs := rfl
@[simp] theorem sendCell_tim (n : Nat) (l : List Byte) (s : State) : (sendCell n l s).tim = s.tim := rfl
@[simp] theorem sendCell_flows (n : Nat) (l : List Byte) (s : State) : (sendCell n l s).flows = s.flows := rfl
@[simp] theorem sendCell_consists (n : Nat) (l : List Byte) (s : State) : (sendCell n l s).consists = s.consists := rfl
@[simp] theorem sendCell_swc (n : Nat) (l : List Byte) (s : State) : (sendCell n l s).swc = s.swc := rfl
@[simp] theorem sendCell_tt (n : Nat) (l : List Byte) (s : State) : (sendCell n l s).tt = s.tt := rfl
@[simp] theorem sendCell_aqf (n : Nat) (l : List Byte) (s : State) : (sendCell n l s).aqf = s.aqf := rfl
@[simp] theorem sendCell_svp (n : Nat) (l : List Byte) (s : State) : (sendCell n l s).svp = s.svp := rfl
@[simp] theorem sendCell_nmp (n : Nat) (l : List Byte) (s : State) : (sendCell n l s).nmp = s.nmp := rfl
@[simp] theorem sendCell_lnx (n : Nat) (l : List Byte) (s : State) : (sendCell n l s).lnx = s.lnx := rfl
@[simp] theorem sendCell_ika (n : Nat) (l : List Byte) (s : State) : (sendCell n l s).ika = s.ika := rfl
@[simp] theorem sendCell_aud (n : Nat) (l : List Byte) (s : State) : (sendCell n l s).aud = s.aud := rfl
@[simp] theorem sendCell_mem (n : Nat) (l : List Byte) (s : State) : (sendCell n l s).mem = s.mem := rfl
@[simp] theorem sendCell_hif (n : Nat) (l : List Byte) (s : State) : (sendCell n l s).hif = s.hif := rfl
@[simp] theorem sendCell_flt (n : Nat) (l : List Byte) (s : State) : (sendCell n l s).flt = s.flt := rfl
@[simp] theorem sendCell_red (n : Nat) (l : List Byte) (s : State) : (sendCell n l s).red = s.red := rfl
@[simp] theorem sendCell_pwr (n : Nat) (l : List Byte) (s : State) : (sendCell n l s).pwr = s.pwr := rfl
@[simp] theorem sendCell_sec (n : Nat) (l : List Byte) (s : State) : (sendCell n l s).sec = s.sec := rfl
@[simp] theorem sendCell_free (n : Nat) (l : List Byte) (s : State) : (sendCell n l s).free = s.free := rfl

@[simp] theorem wr_pending (s : State) (r : Reg) (i j n : Nat) : (wr s r i j n).pending = s.pending := rfl
@[simp] theorem wr_tim (s : State) (r : Reg) (i j n : Nat) : (wr s r i j n).tim = s.tim := rfl
@[simp] theorem wr_flows (s : State) (r : Reg) (i j n : Nat) : (wr s r i j n).flows = s.flows := rfl
@[simp] theorem wr_consists (s : State) (r : Reg) (i j n : Nat) : (wr s r i j n).consists = s.consists := rfl
@[simp] theorem wr_swc (s : State) (r : Reg) (i j n : Nat) : (wr s r i j n).swc = s.swc := rfl
@[simp] theorem wr_tt (s : State) (r : Reg) (i j n : Nat) : (wr s r i j n).tt = s.tt := rfl
@[simp] theorem wr_aqf (s : State) (r : Reg) (i j n : Nat) : (wr s r i j n).aqf = s.aqf := rfl
@[simp] theorem wr_svp (s : State) (r : Reg) (i j n : Nat) : (wr s r i j n).svp = s.svp := rfl
@[simp] theorem wr_nmp (s : State) (r : Reg) (i j n : Nat) : (wr s r i j n).nmp = s.nmp := rfl
@[simp] theorem wr_lnx (s : State) (r : Reg) (i j n : Nat) : (wr s r i j n).lnx = s.lnx := rfl
@[simp] theorem wr_ika (s : State) (r : Reg) (i j n : Nat) : (wr s r i j n).ika = s.ika := rfl
@[simp] theorem wr_aud (s : State) (r : Reg) (i j n : Nat) : (wr s r i j n).aud = s.aud := rfl
@[simp] theorem wr_mem (s : State) (r : Reg) (i j n : Nat) : (wr s r i j n).mem = s.mem := rfl
@[simp] theorem wr_hif (s : State) (r : Reg) (i j n : Nat) : (wr s r i j n).hif = s.hif := rfl
@[simp] theorem wr_flt (s : State) (r : Reg) (i j n : Nat) : (wr s r i j n).flt = s.flt := rfl
@[simp] theorem wr_red (s : State) (r : Reg) (i j n : Nat) : (wr s r i j n).red = s.red := rfl
@[simp] theorem wr_pwr (s : State) (r : Reg) (i j n : Nat) : (wr s r i j n).pwr = s.pwr := rfl
@[simp] theorem wr_sec (s : State) (r : Reg) (i j n : Nat) : (wr s r i j n).sec = s.sec := rfl
@[simp] theorem wr_free (s : State) (r : Reg) (i j n : Nat) : (wr s r i j n).free = s.free := rfl
@[simp] theorem wr_wire (s : State) (r : Reg) (i j n : Nat) : (wr s r i j n).wire = s.wire := rfl

@[simp] theorem place_hif_lock (a : Nat) (img : List Byte) (s : State) : (place a img s).hif.lock = s.hif.lock := rfl
@[simp] theorem place_hif_cmd (a : Nat) (img : List Byte) (s : State) : (place a img s).hif.cmd = s.hif.cmd := rfl
@[simp] theorem place_hif_cpl (a : Nat) (img : List Byte) (s : State) : (place a img s).hif.cpl = s.hif.cpl := rfl
@[simp] theorem place_hif_evt (a : Nat) (img : List Byte) (s : State) : (place a img s).hif.evt = s.hif.evt := rfl
@[simp] theorem place_hif_held (a : Nat) (img : List Byte) (s : State) : (place a img s).hif.held = s.hif.held := rfl
@[simp] theorem place_hif_fences (a : Nat) (img : List Byte) (s : State) : (place a img s).hif.fences = s.hif.fences := rfl
@[simp] theorem place_hif_msix (a : Nat) (img : List Byte) (s : State) : (place a img s).hif.msix = s.hif.msix := rfl
@[simp] theorem place_hif_fnMask (a : Nat) (img : List Byte) (s : State) : (place a img s).hif.fnMask = s.hif.fnMask := rfl
@[simp] theorem place_hif_lines (a : Nat) (img : List Byte) (s : State) : (place a img s).hif.lines = s.hif.lines := rfl
@[simp] theorem place_hif_served (a : Nat) (img : List Byte) (s : State) : (place a img s).hif.served = s.hif.served := rfl
@[simp] theorem place_hif_granted (a : Nat) (img : List Byte) (s : State) : (place a img s).hif.granted = s.hif.granted := rfl
@[simp] theorem place_hif_cardSeq (a : Nat) (img : List Byte) (s : State) : (place a img s).hif.cardSeq = s.hif.cardSeq := rfl
@[simp] theorem place_hif_cardSec (a : Nat) (img : List Byte) (s : State) : (place a img s).hif.cardSec = s.hif.cardSec := rfl
@[simp] theorem place_hif_linkUp (a : Nat) (img : List Byte) (s : State) : (place a img s).hif.linkUp = s.hif.linkUp := rfl
@[simp] theorem place_hif_cxlIo (a : Nat) (img : List Byte) (s : State) : (place a img s).hif.cxlIo = s.hif.cxlIo := rfl
@[simp] theorem place_hif_cxlCache (a : Nat) (img : List Byte) (s : State) : (place a img s).hif.cxlCache = s.hif.cxlCache := rfl
@[simp] theorem place_hif_cxlMem (a : Nat) (img : List Byte) (s : State) : (place a img s).hif.cxlMem = s.hif.cxlMem := rfl
@[simp] theorem place_hif_width (a : Nat) (img : List Byte) (s : State) : (place a img s).hif.width = s.hif.width := rfl
@[simp] theorem place_hif_speed (a : Nat) (img : List Byte) (s : State) : (place a img s).hif.speed = s.hif.speed := rfl
@[simp] theorem place_hif_comp (a : Nat) (img : List Byte) (s : State) : (place a img s).hif.comp = s.hif.comp := rfl
@[simp] theorem place_hif_resp (a : Nat) (img : List Byte) (s : State) : (place a img s).hif.resp = s.hif.resp := rfl
@[simp] theorem place_hif_replied (a : Nat) (img : List Byte) (s : State) : (place a img s).hif.replied = s.hif.replied := rfl
@[simp] theorem place_hif_sramSingle (a : Nat) (img : List Byte) (s : State) : (place a img s).hif.sramSingle = s.hif.sramSingle := rfl

@[simp] theorem hostWrite_hif_lock (a : Nat) (img : List Byte) (s : State) : (hostWrite a img s).hif.lock = s.hif.lock := rfl
@[simp] theorem hostWrite_hif_cmd (a : Nat) (img : List Byte) (s : State) : (hostWrite a img s).hif.cmd = s.hif.cmd := rfl
@[simp] theorem hostWrite_hif_cpl (a : Nat) (img : List Byte) (s : State) : (hostWrite a img s).hif.cpl = s.hif.cpl := rfl
@[simp] theorem hostWrite_hif_evt (a : Nat) (img : List Byte) (s : State) : (hostWrite a img s).hif.evt = s.hif.evt := rfl
@[simp] theorem hostWrite_hif_held (a : Nat) (img : List Byte) (s : State) : (hostWrite a img s).hif.held = s.hif.held := rfl
@[simp] theorem hostWrite_hif_fences (a : Nat) (img : List Byte) (s : State) : (hostWrite a img s).hif.fences = s.hif.fences := rfl
@[simp] theorem hostWrite_hif_msix (a : Nat) (img : List Byte) (s : State) : (hostWrite a img s).hif.msix = s.hif.msix := rfl
@[simp] theorem hostWrite_hif_fnMask (a : Nat) (img : List Byte) (s : State) : (hostWrite a img s).hif.fnMask = s.hif.fnMask := rfl
@[simp] theorem hostWrite_hif_lines (a : Nat) (img : List Byte) (s : State) : (hostWrite a img s).hif.lines = s.hif.lines := rfl
@[simp] theorem hostWrite_hif_served (a : Nat) (img : List Byte) (s : State) : (hostWrite a img s).hif.served = s.hif.served := rfl
@[simp] theorem hostWrite_hif_granted (a : Nat) (img : List Byte) (s : State) : (hostWrite a img s).hif.granted = s.hif.granted := rfl
@[simp] theorem hostWrite_hif_cardSeq (a : Nat) (img : List Byte) (s : State) : (hostWrite a img s).hif.cardSeq = s.hif.cardSeq := rfl
@[simp] theorem hostWrite_hif_cardSec (a : Nat) (img : List Byte) (s : State) : (hostWrite a img s).hif.cardSec = s.hif.cardSec := rfl
@[simp] theorem hostWrite_hif_linkUp (a : Nat) (img : List Byte) (s : State) : (hostWrite a img s).hif.linkUp = s.hif.linkUp := rfl
@[simp] theorem hostWrite_hif_cxlIo (a : Nat) (img : List Byte) (s : State) : (hostWrite a img s).hif.cxlIo = s.hif.cxlIo := rfl
@[simp] theorem hostWrite_hif_cxlCache (a : Nat) (img : List Byte) (s : State) : (hostWrite a img s).hif.cxlCache = s.hif.cxlCache := rfl
@[simp] theorem hostWrite_hif_cxlMem (a : Nat) (img : List Byte) (s : State) : (hostWrite a img s).hif.cxlMem = s.hif.cxlMem := rfl
@[simp] theorem hostWrite_hif_width (a : Nat) (img : List Byte) (s : State) : (hostWrite a img s).hif.width = s.hif.width := rfl
@[simp] theorem hostWrite_hif_speed (a : Nat) (img : List Byte) (s : State) : (hostWrite a img s).hif.speed = s.hif.speed := rfl
@[simp] theorem hostWrite_hif_comp (a : Nat) (img : List Byte) (s : State) : (hostWrite a img s).hif.comp = s.hif.comp := rfl
@[simp] theorem hostWrite_hif_resp (a : Nat) (img : List Byte) (s : State) : (hostWrite a img s).hif.resp = s.hif.resp := rfl
@[simp] theorem hostWrite_hif_replied (a : Nat) (img : List Byte) (s : State) : (hostWrite a img s).hif.replied = s.hif.replied := rfl
@[simp] theorem hostWrite_hif_sramSingle (a : Nat) (img : List Byte) (s : State) : (hostWrite a img s).hif.sramSingle = s.hif.sramSingle := rfl

@[simp] theorem setCmdRing_hif_lock (q : Nat) (r : CmdRing) (s : State) : (setCmdRing q r s).hif.lock = s.hif.lock := rfl
@[simp] theorem setCmdRing_hif_cpl (q : Nat) (r : CmdRing) (s : State) : (setCmdRing q r s).hif.cpl = s.hif.cpl := rfl
@[simp] theorem setCmdRing_hif_evt (q : Nat) (r : CmdRing) (s : State) : (setCmdRing q r s).hif.evt = s.hif.evt := rfl
@[simp] theorem setCmdRing_hif_held (q : Nat) (r : CmdRing) (s : State) : (setCmdRing q r s).hif.held = s.hif.held := rfl
@[simp] theorem setCmdRing_hif_fences (q : Nat) (r : CmdRing) (s : State) : (setCmdRing q r s).hif.fences = s.hif.fences := rfl
@[simp] theorem setCmdRing_hif_msix (q : Nat) (r : CmdRing) (s : State) : (setCmdRing q r s).hif.msix = s.hif.msix := rfl
@[simp] theorem setCmdRing_hif_fnMask (q : Nat) (r : CmdRing) (s : State) : (setCmdRing q r s).hif.fnMask = s.hif.fnMask := rfl
@[simp] theorem setCmdRing_hif_mem (q : Nat) (r : CmdRing) (s : State) : (setCmdRing q r s).hif.mem = s.hif.mem := rfl
@[simp] theorem setCmdRing_hif_lines (q : Nat) (r : CmdRing) (s : State) : (setCmdRing q r s).hif.lines = s.hif.lines := rfl
@[simp] theorem setCmdRing_hif_served (q : Nat) (r : CmdRing) (s : State) : (setCmdRing q r s).hif.served = s.hif.served := rfl
@[simp] theorem setCmdRing_hif_granted (q : Nat) (r : CmdRing) (s : State) : (setCmdRing q r s).hif.granted = s.hif.granted := rfl
@[simp] theorem setCmdRing_hif_cardSeq (q : Nat) (r : CmdRing) (s : State) : (setCmdRing q r s).hif.cardSeq = s.hif.cardSeq := rfl
@[simp] theorem setCmdRing_hif_cardSec (q : Nat) (r : CmdRing) (s : State) : (setCmdRing q r s).hif.cardSec = s.hif.cardSec := rfl
@[simp] theorem setCmdRing_hif_linkUp (q : Nat) (r : CmdRing) (s : State) : (setCmdRing q r s).hif.linkUp = s.hif.linkUp := rfl
@[simp] theorem setCmdRing_hif_cxlIo (q : Nat) (r : CmdRing) (s : State) : (setCmdRing q r s).hif.cxlIo = s.hif.cxlIo := rfl
@[simp] theorem setCmdRing_hif_cxlCache (q : Nat) (r : CmdRing) (s : State) : (setCmdRing q r s).hif.cxlCache = s.hif.cxlCache := rfl
@[simp] theorem setCmdRing_hif_cxlMem (q : Nat) (r : CmdRing) (s : State) : (setCmdRing q r s).hif.cxlMem = s.hif.cxlMem := rfl
@[simp] theorem setCmdRing_hif_width (q : Nat) (r : CmdRing) (s : State) : (setCmdRing q r s).hif.width = s.hif.width := rfl
@[simp] theorem setCmdRing_hif_speed (q : Nat) (r : CmdRing) (s : State) : (setCmdRing q r s).hif.speed = s.hif.speed := rfl
@[simp] theorem setCmdRing_hif_comp (q : Nat) (r : CmdRing) (s : State) : (setCmdRing q r s).hif.comp = s.hif.comp := rfl
@[simp] theorem setCmdRing_hif_resp (q : Nat) (r : CmdRing) (s : State) : (setCmdRing q r s).hif.resp = s.hif.resp := rfl
@[simp] theorem setCmdRing_hif_replied (q : Nat) (r : CmdRing) (s : State) : (setCmdRing q r s).hif.replied = s.hif.replied := rfl
@[simp] theorem setCmdRing_hif_sramSingle (q : Nat) (r : CmdRing) (s : State) : (setCmdRing q r s).hif.sramSingle = s.hif.sramSingle := rfl

@[simp] theorem setCplRing_hif_lock (q : Nat) (r : CplRing) (s : State) : (setCplRing q r s).hif.lock = s.hif.lock := rfl
@[simp] theorem setCplRing_hif_cmd (q : Nat) (r : CplRing) (s : State) : (setCplRing q r s).hif.cmd = s.hif.cmd := rfl
@[simp] theorem setCplRing_hif_evt (q : Nat) (r : CplRing) (s : State) : (setCplRing q r s).hif.evt = s.hif.evt := rfl
@[simp] theorem setCplRing_hif_held (q : Nat) (r : CplRing) (s : State) : (setCplRing q r s).hif.held = s.hif.held := rfl
@[simp] theorem setCplRing_hif_fences (q : Nat) (r : CplRing) (s : State) : (setCplRing q r s).hif.fences = s.hif.fences := rfl
@[simp] theorem setCplRing_hif_msix (q : Nat) (r : CplRing) (s : State) : (setCplRing q r s).hif.msix = s.hif.msix := rfl
@[simp] theorem setCplRing_hif_fnMask (q : Nat) (r : CplRing) (s : State) : (setCplRing q r s).hif.fnMask = s.hif.fnMask := rfl
@[simp] theorem setCplRing_hif_mem (q : Nat) (r : CplRing) (s : State) : (setCplRing q r s).hif.mem = s.hif.mem := rfl
@[simp] theorem setCplRing_hif_lines (q : Nat) (r : CplRing) (s : State) : (setCplRing q r s).hif.lines = s.hif.lines := rfl
@[simp] theorem setCplRing_hif_served (q : Nat) (r : CplRing) (s : State) : (setCplRing q r s).hif.served = s.hif.served := rfl
@[simp] theorem setCplRing_hif_granted (q : Nat) (r : CplRing) (s : State) : (setCplRing q r s).hif.granted = s.hif.granted := rfl
@[simp] theorem setCplRing_hif_cardSeq (q : Nat) (r : CplRing) (s : State) : (setCplRing q r s).hif.cardSeq = s.hif.cardSeq := rfl
@[simp] theorem setCplRing_hif_cardSec (q : Nat) (r : CplRing) (s : State) : (setCplRing q r s).hif.cardSec = s.hif.cardSec := rfl
@[simp] theorem setCplRing_hif_linkUp (q : Nat) (r : CplRing) (s : State) : (setCplRing q r s).hif.linkUp = s.hif.linkUp := rfl
@[simp] theorem setCplRing_hif_cxlIo (q : Nat) (r : CplRing) (s : State) : (setCplRing q r s).hif.cxlIo = s.hif.cxlIo := rfl
@[simp] theorem setCplRing_hif_cxlCache (q : Nat) (r : CplRing) (s : State) : (setCplRing q r s).hif.cxlCache = s.hif.cxlCache := rfl
@[simp] theorem setCplRing_hif_cxlMem (q : Nat) (r : CplRing) (s : State) : (setCplRing q r s).hif.cxlMem = s.hif.cxlMem := rfl
@[simp] theorem setCplRing_hif_width (q : Nat) (r : CplRing) (s : State) : (setCplRing q r s).hif.width = s.hif.width := rfl
@[simp] theorem setCplRing_hif_speed (q : Nat) (r : CplRing) (s : State) : (setCplRing q r s).hif.speed = s.hif.speed := rfl
@[simp] theorem setCplRing_hif_comp (q : Nat) (r : CplRing) (s : State) : (setCplRing q r s).hif.comp = s.hif.comp := rfl
@[simp] theorem setCplRing_hif_resp (q : Nat) (r : CplRing) (s : State) : (setCplRing q r s).hif.resp = s.hif.resp := rfl
@[simp] theorem setCplRing_hif_replied (q : Nat) (r : CplRing) (s : State) : (setCplRing q r s).hif.replied = s.hif.replied := rfl
@[simp] theorem setCplRing_hif_sramSingle (q : Nat) (r : CplRing) (s : State) : (setCplRing q r s).hif.sramSingle = s.hif.sramSingle := rfl

@[simp] theorem setEvtRing_hif_lock (q : Nat) (r : EvtRing) (s : State) : (setEvtRing q r s).hif.lock = s.hif.lock := rfl
@[simp] theorem setEvtRing_hif_cmd (q : Nat) (r : EvtRing) (s : State) : (setEvtRing q r s).hif.cmd = s.hif.cmd := rfl
@[simp] theorem setEvtRing_hif_cpl (q : Nat) (r : EvtRing) (s : State) : (setEvtRing q r s).hif.cpl = s.hif.cpl := rfl
@[simp] theorem setEvtRing_hif_held (q : Nat) (r : EvtRing) (s : State) : (setEvtRing q r s).hif.held = s.hif.held := rfl
@[simp] theorem setEvtRing_hif_fences (q : Nat) (r : EvtRing) (s : State) : (setEvtRing q r s).hif.fences = s.hif.fences := rfl
@[simp] theorem setEvtRing_hif_msix (q : Nat) (r : EvtRing) (s : State) : (setEvtRing q r s).hif.msix = s.hif.msix := rfl
@[simp] theorem setEvtRing_hif_fnMask (q : Nat) (r : EvtRing) (s : State) : (setEvtRing q r s).hif.fnMask = s.hif.fnMask := rfl
@[simp] theorem setEvtRing_hif_mem (q : Nat) (r : EvtRing) (s : State) : (setEvtRing q r s).hif.mem = s.hif.mem := rfl
@[simp] theorem setEvtRing_hif_lines (q : Nat) (r : EvtRing) (s : State) : (setEvtRing q r s).hif.lines = s.hif.lines := rfl
@[simp] theorem setEvtRing_hif_served (q : Nat) (r : EvtRing) (s : State) : (setEvtRing q r s).hif.served = s.hif.served := rfl
@[simp] theorem setEvtRing_hif_granted (q : Nat) (r : EvtRing) (s : State) : (setEvtRing q r s).hif.granted = s.hif.granted := rfl
@[simp] theorem setEvtRing_hif_cardSeq (q : Nat) (r : EvtRing) (s : State) : (setEvtRing q r s).hif.cardSeq = s.hif.cardSeq := rfl
@[simp] theorem setEvtRing_hif_cardSec (q : Nat) (r : EvtRing) (s : State) : (setEvtRing q r s).hif.cardSec = s.hif.cardSec := rfl
@[simp] theorem setEvtRing_hif_linkUp (q : Nat) (r : EvtRing) (s : State) : (setEvtRing q r s).hif.linkUp = s.hif.linkUp := rfl
@[simp] theorem setEvtRing_hif_cxlIo (q : Nat) (r : EvtRing) (s : State) : (setEvtRing q r s).hif.cxlIo = s.hif.cxlIo := rfl
@[simp] theorem setEvtRing_hif_cxlCache (q : Nat) (r : EvtRing) (s : State) : (setEvtRing q r s).hif.cxlCache = s.hif.cxlCache := rfl
@[simp] theorem setEvtRing_hif_cxlMem (q : Nat) (r : EvtRing) (s : State) : (setEvtRing q r s).hif.cxlMem = s.hif.cxlMem := rfl
@[simp] theorem setEvtRing_hif_width (q : Nat) (r : EvtRing) (s : State) : (setEvtRing q r s).hif.width = s.hif.width := rfl
@[simp] theorem setEvtRing_hif_speed (q : Nat) (r : EvtRing) (s : State) : (setEvtRing q r s).hif.speed = s.hif.speed := rfl
@[simp] theorem setEvtRing_hif_comp (q : Nat) (r : EvtRing) (s : State) : (setEvtRing q r s).hif.comp = s.hif.comp := rfl
@[simp] theorem setEvtRing_hif_resp (q : Nat) (r : EvtRing) (s : State) : (setEvtRing q r s).hif.resp = s.hif.resp := rfl
@[simp] theorem setEvtRing_hif_replied (q : Nat) (r : EvtRing) (s : State) : (setEvtRing q r s).hif.replied = s.hif.replied := rfl
@[simp] theorem setEvtRing_hif_sramSingle (q : Nat) (r : EvtRing) (s : State) : (setEvtRing q r s).hif.sramSingle = s.hif.sramSingle := rfl

@[simp] theorem busGrant_hif_lock (n : Nat) (l : List Nat) (s : State) : (busGrant n l s).hif.lock = s.hif.lock := rfl
@[simp] theorem busGrant_hif_cmd (n : Nat) (l : List Nat) (s : State) : (busGrant n l s).hif.cmd = s.hif.cmd := rfl
@[simp] theorem busGrant_hif_cpl (n : Nat) (l : List Nat) (s : State) : (busGrant n l s).hif.cpl = s.hif.cpl := rfl
@[simp] theorem busGrant_hif_evt (n : Nat) (l : List Nat) (s : State) : (busGrant n l s).hif.evt = s.hif.evt := rfl
@[simp] theorem busGrant_hif_held (n : Nat) (l : List Nat) (s : State) : (busGrant n l s).hif.held = s.hif.held := rfl
@[simp] theorem busGrant_hif_fences (n : Nat) (l : List Nat) (s : State) : (busGrant n l s).hif.fences = s.hif.fences := rfl
@[simp] theorem busGrant_hif_msix (n : Nat) (l : List Nat) (s : State) : (busGrant n l s).hif.msix = s.hif.msix := rfl
@[simp] theorem busGrant_hif_fnMask (n : Nat) (l : List Nat) (s : State) : (busGrant n l s).hif.fnMask = s.hif.fnMask := rfl
@[simp] theorem busGrant_hif_mem (n : Nat) (l : List Nat) (s : State) : (busGrant n l s).hif.mem = s.hif.mem := rfl
@[simp] theorem busGrant_hif_lines (n : Nat) (l : List Nat) (s : State) : (busGrant n l s).hif.lines = s.hif.lines := rfl
@[simp] theorem busGrant_hif_served (n : Nat) (l : List Nat) (s : State) : (busGrant n l s).hif.served = s.hif.served := rfl
@[simp] theorem busGrant_hif_cardSeq (n : Nat) (l : List Nat) (s : State) : (busGrant n l s).hif.cardSeq = s.hif.cardSeq := rfl
@[simp] theorem busGrant_hif_cardSec (n : Nat) (l : List Nat) (s : State) : (busGrant n l s).hif.cardSec = s.hif.cardSec := rfl
@[simp] theorem busGrant_hif_linkUp (n : Nat) (l : List Nat) (s : State) : (busGrant n l s).hif.linkUp = s.hif.linkUp := rfl
@[simp] theorem busGrant_hif_cxlIo (n : Nat) (l : List Nat) (s : State) : (busGrant n l s).hif.cxlIo = s.hif.cxlIo := rfl
@[simp] theorem busGrant_hif_cxlCache (n : Nat) (l : List Nat) (s : State) : (busGrant n l s).hif.cxlCache = s.hif.cxlCache := rfl
@[simp] theorem busGrant_hif_cxlMem (n : Nat) (l : List Nat) (s : State) : (busGrant n l s).hif.cxlMem = s.hif.cxlMem := rfl
@[simp] theorem busGrant_hif_width (n : Nat) (l : List Nat) (s : State) : (busGrant n l s).hif.width = s.hif.width := rfl
@[simp] theorem busGrant_hif_speed (n : Nat) (l : List Nat) (s : State) : (busGrant n l s).hif.speed = s.hif.speed := rfl
@[simp] theorem busGrant_hif_comp (n : Nat) (l : List Nat) (s : State) : (busGrant n l s).hif.comp = s.hif.comp := rfl
@[simp] theorem busGrant_hif_resp (n : Nat) (l : List Nat) (s : State) : (busGrant n l s).hif.resp = s.hif.resp := rfl
@[simp] theorem busGrant_hif_replied (n : Nat) (l : List Nat) (s : State) : (busGrant n l s).hif.replied = s.hif.replied := rfl
@[simp] theorem busGrant_hif_sramSingle (n : Nat) (l : List Nat) (s : State) : (busGrant n l s).hif.sramSingle = s.hif.sramSingle := rfl

@[simp] theorem atLeast_tim_frac (n : Nat) (s : State) : (atLeast n s).tim.frac = s.tim.frac := rfl
@[simp] theorem atLeast_tim_hiLatch (n : Nat) (s : State) : (atLeast n s).tim.hiLatch = s.tim.hiLatch := rfl
@[simp] theorem atLeast_tim_cands (n : Nat) (s : State) : (atLeast n s).tim.cands = s.tim.cands := rfl
@[simp] theorem atLeast_tim_mode (n : Nat) (s : State) : (atLeast n s).tim.mode = s.tim.mode := rfl
@[simp] theorem atLeast_tim_forced (n : Nat) (s : State) : (atLeast n s).tim.forced = s.tim.forced := rfl
@[simp] theorem atLeast_tim_sel (n : Nat) (s : State) : (atLeast n s).tim.sel = s.tim.sel := rfl
@[simp] theorem atLeast_tim_buildOut (n : Nat) (s : State) : (atLeast n s).tim.buildOut = s.tim.buildOut := rfl
@[simp] theorem atLeast_tim_phaseOff (n : Nat) (s : State) : (atLeast n s).tim.phaseOff = s.tim.phaseOff := rfl
@[simp] theorem atLeast_tim_rate (n : Nat) (s : State) : (atLeast n s).tim.rate = s.tim.rate := rfl
@[simp] theorem atLeast_tim_slew (n : Nat) (s : State) : (atLeast n s).tim.slew = s.tim.slew := rfl
@[simp] theorem atLeast_tim_slewAt (n : Nat) (s : State) : (atLeast n s).tim.slewAt = s.tim.slewAt := rfl
@[simp] theorem atLeast_tim_jumps (n : Nat) (s : State) : (atLeast n s).tim.jumps = s.tim.jumps := rfl
@[simp] theorem atLeast_tim_tickAt (n : Nat) (s : State) : (atLeast n s).tim.tickAt = s.tim.tickAt := rfl
@[simp] theorem atLeast_tim_gateAt (n : Nat) (s : State) : (atLeast n s).tim.gateAt = s.tim.gateAt := rfl
@[simp] theorem atLeast_tim_dacAt (n : Nat) (s : State) : (atLeast n s).tim.dacAt = s.tim.dacAt := rfl
@[simp] theorem atLeast_tim_ovenAt (n : Nat) (s : State) : (atLeast n s).tim.ovenAt = s.tim.ovenAt := rfl
@[simp] theorem atLeast_tim_lastAt (n : Nat) (s : State) : (atLeast n s).tim.lastAt = s.tim.lastAt := rfl
@[simp] theorem atLeast_tim_disagree (n : Nat) (s : State) : (atLeast n s).tim.disagree = s.tim.disagree := rfl
@[simp] theorem atLeast_tim_ptb (n : Nat) (s : State) : (atLeast n s).tim.ptb = s.tim.ptb := rfl
@[simp] theorem atLeast_tim_pend (n : Nat) (s : State) : (atLeast n s).tim.pend = s.tim.pend := rfl
@[simp] theorem atLeast_tim_acquired (n : Nat) (s : State) : (atLeast n s).tim.acquired = s.tim.acquired := rfl
@[simp] theorem atLeast_tim_lockedSince (n : Nat) (s : State) : (atLeast n s).tim.lockedSince = s.tim.lockedSince := rfl
@[simp] theorem atLeast_tim_history (n : Nat) (s : State) : (atLeast n s).tim.history = s.tim.history := rfl
@[simp] theorem atLeast_tim_samples (n : Nat) (s : State) : (atLeast n s).tim.samples = s.tim.samples := rfl
@[simp] theorem atLeast_tim_holdSince (n : Nat) (s : State) : (atLeast n s).tim.holdSince = s.tim.holdSince := rfl
@[simp] theorem atLeast_tim_degraded (n : Nat) (s : State) : (atLeast n s).tim.degraded = s.tim.degraded := rfl
@[simp] theorem atLeast_tim_corrections (n : Nat) (s : State) : (atLeast n s).tim.corrections = s.tim.corrections := rfl
@[simp] theorem atLeast_tim_fAvg (n : Nat) (s : State) : (atLeast n s).tim.fAvg = s.tim.fAvg := rfl
@[simp] theorem atLeast_tim_dAvg (n : Nat) (s : State) : (atLeast n s).tim.dAvg = s.tim.dAvg := rfl
@[simp] theorem atLeast_tim_kAvg (n : Nat) (s : State) : (atLeast n s).tim.kAvg = s.tim.kAvg := rfl
@[simp] theorem atLeast_tim_tAvg (n : Nat) (s : State) : (atLeast n s).tim.tAvg = s.tim.tAvg := rfl
@[simp] theorem atLeast_tim_coef (n : Nat) (s : State) : (atLeast n s).tim.coef = s.tim.coef := rfl
@[simp] theorem atLeast_tim_freq (n : Nat) (s : State) : (atLeast n s).tim.freq = s.tim.freq := rfl
@[simp] theorem atLeast_tim_dac (n : Nat) (s : State) : (atLeast n s).tim.dac = s.tim.dac := rfl
@[simp] theorem atLeast_tim_dacHold (n : Nat) (s : State) : (atLeast n s).tim.dacHold = s.tim.dacHold := rfl
@[simp] theorem atLeast_tim_rateHold (n : Nat) (s : State) : (atLeast n s).tim.rateHold = s.tim.rateHold := rfl
@[simp] theorem atLeast_tim_ovenCode (n : Nat) (s : State) : (atLeast n s).tim.ovenCode = s.tim.ovenCode := rfl
@[simp] theorem atLeast_tim_ovenStable (n : Nat) (s : State) : (atLeast n s).tim.ovenStable = s.tim.ovenStable := rfl
@[simp] theorem atLeast_tim_ovenSince (n : Nat) (s : State) : (atLeast n s).tim.ovenSince = s.tim.ovenSince := rfl
@[simp] theorem atLeast_tim_ovenStuck (n : Nat) (s : State) : (atLeast n s).tim.ovenStuck = s.tim.ovenStuck := rfl
@[simp] theorem atLeast_tim_strobed (n : Nat) (s : State) : (atLeast n s).tim.strobed = s.tim.strobed := rfl

@[simp] theorem noteNow_tim_now (a : Periodic) (s : State) : (noteNow a s).tim.now = s.tim.now := rfl
@[simp] theorem noteNow_tim_frac (a : Periodic) (s : State) : (noteNow a s).tim.frac = s.tim.frac := rfl
@[simp] theorem noteNow_tim_hiLatch (a : Periodic) (s : State) : (noteNow a s).tim.hiLatch = s.tim.hiLatch := rfl
@[simp] theorem noteNow_tim_cands (a : Periodic) (s : State) : (noteNow a s).tim.cands = s.tim.cands := rfl
@[simp] theorem noteNow_tim_mode (a : Periodic) (s : State) : (noteNow a s).tim.mode = s.tim.mode := rfl
@[simp] theorem noteNow_tim_forced (a : Periodic) (s : State) : (noteNow a s).tim.forced = s.tim.forced := rfl
@[simp] theorem noteNow_tim_sel (a : Periodic) (s : State) : (noteNow a s).tim.sel = s.tim.sel := rfl
@[simp] theorem noteNow_tim_buildOut (a : Periodic) (s : State) : (noteNow a s).tim.buildOut = s.tim.buildOut := rfl
@[simp] theorem noteNow_tim_phaseOff (a : Periodic) (s : State) : (noteNow a s).tim.phaseOff = s.tim.phaseOff := rfl
@[simp] theorem noteNow_tim_rate (a : Periodic) (s : State) : (noteNow a s).tim.rate = s.tim.rate := rfl
@[simp] theorem noteNow_tim_slew (a : Periodic) (s : State) : (noteNow a s).tim.slew = s.tim.slew := rfl
@[simp] theorem noteNow_tim_slewAt (a : Periodic) (s : State) : (noteNow a s).tim.slewAt = s.tim.slewAt := rfl
@[simp] theorem noteNow_tim_jumps (a : Periodic) (s : State) : (noteNow a s).tim.jumps = s.tim.jumps := rfl
@[simp] theorem noteNow_tim_tickAt (a : Periodic) (s : State) : (noteNow a s).tim.tickAt = s.tim.tickAt := rfl
@[simp] theorem noteNow_tim_gateAt (a : Periodic) (s : State) : (noteNow a s).tim.gateAt = s.tim.gateAt := rfl
@[simp] theorem noteNow_tim_dacAt (a : Periodic) (s : State) : (noteNow a s).tim.dacAt = s.tim.dacAt := rfl
@[simp] theorem noteNow_tim_ovenAt (a : Periodic) (s : State) : (noteNow a s).tim.ovenAt = s.tim.ovenAt := rfl
@[simp] theorem noteNow_tim_disagree (a : Periodic) (s : State) : (noteNow a s).tim.disagree = s.tim.disagree := rfl
@[simp] theorem noteNow_tim_ptb (a : Periodic) (s : State) : (noteNow a s).tim.ptb = s.tim.ptb := rfl
@[simp] theorem noteNow_tim_pend (a : Periodic) (s : State) : (noteNow a s).tim.pend = s.tim.pend := rfl
@[simp] theorem noteNow_tim_acquired (a : Periodic) (s : State) : (noteNow a s).tim.acquired = s.tim.acquired := rfl
@[simp] theorem noteNow_tim_lockedSince (a : Periodic) (s : State) : (noteNow a s).tim.lockedSince = s.tim.lockedSince := rfl
@[simp] theorem noteNow_tim_history (a : Periodic) (s : State) : (noteNow a s).tim.history = s.tim.history := rfl
@[simp] theorem noteNow_tim_samples (a : Periodic) (s : State) : (noteNow a s).tim.samples = s.tim.samples := rfl
@[simp] theorem noteNow_tim_holdSince (a : Periodic) (s : State) : (noteNow a s).tim.holdSince = s.tim.holdSince := rfl
@[simp] theorem noteNow_tim_degraded (a : Periodic) (s : State) : (noteNow a s).tim.degraded = s.tim.degraded := rfl
@[simp] theorem noteNow_tim_corrections (a : Periodic) (s : State) : (noteNow a s).tim.corrections = s.tim.corrections := rfl
@[simp] theorem noteNow_tim_fAvg (a : Periodic) (s : State) : (noteNow a s).tim.fAvg = s.tim.fAvg := rfl
@[simp] theorem noteNow_tim_dAvg (a : Periodic) (s : State) : (noteNow a s).tim.dAvg = s.tim.dAvg := rfl
@[simp] theorem noteNow_tim_kAvg (a : Periodic) (s : State) : (noteNow a s).tim.kAvg = s.tim.kAvg := rfl
@[simp] theorem noteNow_tim_tAvg (a : Periodic) (s : State) : (noteNow a s).tim.tAvg = s.tim.tAvg := rfl
@[simp] theorem noteNow_tim_coef (a : Periodic) (s : State) : (noteNow a s).tim.coef = s.tim.coef := rfl
@[simp] theorem noteNow_tim_freq (a : Periodic) (s : State) : (noteNow a s).tim.freq = s.tim.freq := rfl
@[simp] theorem noteNow_tim_dac (a : Periodic) (s : State) : (noteNow a s).tim.dac = s.tim.dac := rfl
@[simp] theorem noteNow_tim_dacHold (a : Periodic) (s : State) : (noteNow a s).tim.dacHold = s.tim.dacHold := rfl
@[simp] theorem noteNow_tim_rateHold (a : Periodic) (s : State) : (noteNow a s).tim.rateHold = s.tim.rateHold := rfl
@[simp] theorem noteNow_tim_ovenCode (a : Periodic) (s : State) : (noteNow a s).tim.ovenCode = s.tim.ovenCode := rfl
@[simp] theorem noteNow_tim_ovenStable (a : Periodic) (s : State) : (noteNow a s).tim.ovenStable = s.tim.ovenStable := rfl
@[simp] theorem noteNow_tim_ovenSince (a : Periodic) (s : State) : (noteNow a s).tim.ovenSince = s.tim.ovenSince := rfl
@[simp] theorem noteNow_tim_ovenStuck (a : Periodic) (s : State) : (noteNow a s).tim.ovenStuck = s.tim.ovenStuck := rfl
@[simp] theorem noteNow_tim_strobed (a : Periodic) (s : State) : (noteNow a s).tim.strobed = s.tim.strobed := rfl

@[simp] theorem atLeast_now (n : Nat) (s : State) : (atLeast n s).tim.now = max s.tim.now n := rfl
@[simp] theorem every_now (a : Periodic) (p : Nat) (s : State) : (every a p s).tim.now = max s.tim.now (nextOf p (lastOf a s)) := rfl

end Sys2Proof.Machine
end

