-- ==== Sys2Proof/Laws/Tables.lean ====
section
/-! SUPPORT. Laws of tables, byte memories and little-endian strings: reading what was written, and the canonical forms kept. -/
namespace Sys2Proof.Machine
open Sys2Proof

/-! ## Tables -/

@[simp] theorem tget?_nil {α : Type} (i : Nat) : tget? ([] : Tab α) i = none := rfl

@[simp] theorem tget?_tput_same {α : Type} (t : Tab α) (i : Nat) (v : α) : tget? (tput t i v) i = some v := by
  induction t with
  | nil => simp [tput, tget?]
  | cons p t ih =>
    obtain ⟨k, w⟩ := p
    simp only [tput]
    split
    · simp [tget?]
    · split
      · simp [tget?]
      · rename_i h; simp [tget?, Ne.symm h, ih]

theorem tget?_tput_ne {α : Type} (t : Tab α) {i j : Nat} (v : α) (h : j ≠ i) : tget? (tput t i v) j = tget? t j := by
  induction t with
  | nil => simp [tput, tget?, Ne.symm h]
  | cons p t ih =>
    obtain ⟨k, w⟩ := p
    simp only [tput]
    split
    · rw [tget?, if_neg (Ne.symm h)]
    · split
      · rename_i hk; subst hk; simp [tget?, Ne.symm h]
      · simp only [tget?]; split <;> simp [ih]

@[simp] theorem tgetD_tput_same {α : Type} (t : Tab α) (i : Nat) (v d : α) : tgetD (tput t i v) i d = v := by
  simp [tgetD]

theorem tgetD_tput_ne {α : Type} (t : Tab α) {i j : Nat} (v d : α) (h : j ≠ i) :
    tgetD (tput t i v) j d = tgetD t j d := by simp [tgetD, tget?_tput_ne t v h]

/-- The least key of a table is no lower than the least of the table and the key put. -/
theorem tsorted_cons {α : Type} (a : Nat) (v : α) (t : Tab α) :
    tsorted ((a, v) :: t) = true ↔ (∀ p ∈ t.head?, a < p.1) ∧ tsorted t = true := by
  cases t with
  | nil => simp [tsorted]
  | cons p t => simp [tsorted]

theorem tput_head {α : Type} (t : Tab α) (i : Nat) (v : α) (p : Nat × α) (h : p ∈ (tput t i v).head?) :
    p.1 = i ∨ ∃ q ∈ t.head?, p.1 = q.1 := by
  cases t with
  | nil => simp [tput] at h; simp [← h]
  | cons q t =>
    simp only [tput] at h
    split at h
    · simp at h; simp [← h]
    · split at h
      · simp at h; simp [← h]
      · simp at h; right; exact ⟨q, by simp, by rw [← h]⟩

/-- Setting an entry keeps the table's canonical form. -/
theorem tsorted_tput {α : Type} (t : Tab α) (i : Nat) (v : α) (h : tsorted t = true) : tsorted (tput t i v) = true := by
  induction t with
  | nil => simp [tput, tsorted]
  | cons p t ih =>
    obtain ⟨k, w⟩ := p
    rw [tsorted_cons] at h
    simp only [tput]
    split
    · rename_i hk
      rw [tsorted_cons]
      exact ⟨by simpa using hk, by rw [tsorted_cons]; exact h⟩
    · split
      · rename_i hk; subst hk; rw [tsorted_cons]; exact h
      · rw [tsorted_cons]
        refine ⟨fun q hq => ?_, ih h.2⟩
        rcases tput_head t i v q hq with e | ⟨r, hr, e⟩
        · omega
        · rw [e]; exact h.1 r hr

/-! ## Byte memories -/

theorem wf_tail (p : Host.Cell) (m : List Host.Cell) (h : Memory.wf (p :: m) = true) : Memory.wf m = true := by
  rw [Memory.wf, Bool.and_eq_true, tsorted_cons] at h
  simp only [List.all_cons, Bool.and_eq_true] at h
  rw [Memory.wf, h.1.2, h.2.2]; rfl

theorem cget_lt (m : List Host.Cell) (a : Nat) (h : Memory.wf m = true) (lt : ∀ p ∈ m.head?, a < p.1) : cget m a = 0 := by
  induction m with
  | nil => rfl
  | cons p m ih =>
    obtain ⟨k, v⟩ := p
    have hk : a < k := lt (k, v) (by simp)
    have hm := wf_tail _ _ h
    rw [Memory.wf, Bool.and_eq_true, tsorted_cons] at h
    rw [cget, if_neg (by omega)]
    exact ih hm fun q hq => by have := h.1.1 q hq; omega

/-- A read of the byte written gives it. -/
theorem cget_cput_same (m : List Host.Cell) (a : Nat) (b : Byte) (h : Memory.wf m = true) : cget (cput m a b) a = b := by
  induction m with
  | nil => simp only [cput]; split <;> simp_all [cget]
  | cons p m ih =>
    obtain ⟨k, v⟩ := p
    have hm := wf_tail _ _ h
    simp only [cput]
    split
    · rename_i hk
      split
      · rename_i hb; subst hb
        exact cget_lt _ _ h (by simpa using hk)
      · simp [cget]
    · split
      · rename_i hk; subst hk
        split
        · rename_i hb; subst hb
          rw [Memory.wf, Bool.and_eq_true, tsorted_cons] at h
          exact cget_lt _ _ hm h.1.1
        · simp [cget]
      · rename_i h1 h2
        rw [cget, if_neg (fun e => h2 e.symm), ih hm]

/-- A write leaves every other byte. -/
theorem cget_cput_ne (m : List Host.Cell) {a c : Nat} (b : Byte) (h : c ≠ a) : cget (cput m a b) c = cget m c := by
  induction m with
  | nil => simp only [cput]; split <;> simp [cget, Ne.symm h]
  | cons p m ih =>
    obtain ⟨k, v⟩ := p
    simp only [cput]
    split
    · split
      · rfl
      · simp [cget, Ne.symm h]
    · split
      · rename_i hk; subst hk
        split <;> simp [cget, Ne.symm h]
      · simp only [cget]; split <;> simp [ih]

/-- A byte written keeps the memory's canonical form. -/
theorem Memory.wf_cput (m : List Host.Cell) (a : Nat) (b : Byte) (h : Memory.wf m = true) : Memory.wf (cput m a b) = true := by
  induction m with
  | nil => simp only [cput]; split <;> simp_all [Memory.wf, tsorted]
  | cons p m ih =>
    obtain ⟨k, v⟩ := p
    have hm := wf_tail _ _ h
    have h' := h
    rw [Memory.wf, Bool.and_eq_true, tsorted_cons] at h'
    simp only [List.all_cons, Bool.and_eq_true, bne_iff_ne, ne_eq] at h'
    obtain ⟨⟨h1, h2⟩, h3, h4⟩ := h'
    simp only [cput]
    split
    · rename_i hk
      split
      · exact h
      · rename_i hb
        rw [Memory.wf, Bool.and_eq_true, tsorted_cons, tsorted_cons]
        simp only [List.all_cons, Bool.and_eq_true, bne_iff_ne, ne_eq]
        exact ⟨⟨by simpa using hk, h1, h2⟩, hb, h3, h4⟩
    · split
      · rename_i hk; subst hk
        split
        · exact hm
        · rename_i hb
          rw [Memory.wf, Bool.and_eq_true, tsorted_cons]
          simp only [List.all_cons, Bool.and_eq_true, bne_iff_ne, ne_eq]
          exact ⟨⟨h1, h2⟩, hb, h4⟩
      · rename_i n1 n2
        have i' := ih hm
        rw [Memory.wf, Bool.and_eq_true] at i' ⊢
        rw [tsorted_cons]
        simp only [List.all_cons, Bool.and_eq_true, bne_iff_ne, ne_eq]
        refine ⟨⟨fun q hq => ?_, i'.1⟩, h3, i'.2⟩
        cases m with
        | nil =>
          simp only [cput] at hq
          split at hq <;> simp at hq
          rw [← hq]; simp; omega
        | cons r m =>
          obtain ⟨k2, v2⟩ := r
          have hk2 : k < k2 := h1 (k2, v2) (by simp)
          simp only [cput] at hq
          split at hq
          · split at hq <;> (simp at hq; rw [← hq]; simp; omega)
          · split at hq
            · split at hq
              · rw [tsorted_cons] at h2
                have := h2.1 q hq; omega
              · simp at hq; rw [← hq]; simp; omega
            · simp at hq; rw [← hq]; simp; omega

/-- A byte string written keeps the memory's canonical form. -/
theorem Memory.wf_cwrite (bs : List Byte) (m : List Host.Cell) (a : Nat) (h : Memory.wf m = true) :
    Memory.wf (cwrite m a bs) = true := by
  induction bs generalizing m a with
  | nil => exact h
  | cons b bs ih => exact ih _ _ (Memory.wf_cput m a b h)

/-- A byte string written leaves every byte outside it. -/
theorem cget_cwrite_outside (bs : List Byte) (m : List Host.Cell) (a c : Nat) (h : c < a ∨ a + bs.length ≤ c) :
    cget (cwrite m a bs) c = cget m c := by
  induction bs generalizing m a with
  | nil => rfl
  | cons b bs ih =>
    simp only [List.length_cons] at h
    rw [cwrite, ih _ _ (by omega), cget_cput_ne m b (by omega)]

/-- Byte `i` of a byte string written reads back. -/
theorem cget_cwrite_inside (bs : List Byte) (m : List Host.Cell) (a i : Nat) (h : Memory.wf m = true) (hi : i < bs.length) :
    cget (cwrite m a bs) (a + i) = bs.getD i 0 := by
  induction bs generalizing m a i with
  | nil => simp at hi
  | cons b bs ih =>
    rw [cwrite]
    cases i with
    | zero =>
      rw [cget_cwrite_outside _ _ _ _ (by omega)]; exact cget_cput_same m a b h
    | succ i =>
      have := ih (cput m a b) (a + 1) i (Memory.wf_cput m a b h) (by simpa using hi)
      rw [show a + (i + 1) = a + 1 + i by omega, this]; rfl

/-- A byte string written reads back whole. -/
theorem cread_cwrite (bs : List Byte) (m : List Host.Cell) (a : Nat) (h : Memory.wf m = true) :
    cread (cwrite m a bs) a bs.length = bs := by
  apply List.ext_getElem
  · simp [cread]
  · intro i h1 h2
    simp only [cread, List.getElem_map, List.getElem_range]
    rw [cget_cwrite_inside bs m a i h h2]; simp [h2]

/-! ## Little-endian strings -/

@[simp] theorem leBytes_length (k n : Nat) : (leBytes k n).length = k := by
  induction k generalizing n with
  | zero => rfl
  | succ k ih => simp [leBytes, ih]

/-- A number that fits `k` bytes is the number its bytes spell. -/
theorem leNat_leBytes (k n : Nat) (h : n < 256 ^ k) : leNat (leBytes k n) = n := by
  induction k generalizing n with
  | zero => simp at h; subst h; rfl
  | succ k ih =>
    have : n / 256 < 256 ^ k := by rw [pow_succ] at h; omega
    simp only [leBytes, leNat, ih _ this, BitVec.toNat_ofNat]
    omega

end Sys2Proof.Machine
end

