-- ==== Sys2Proof/Laws/Ops.lean ====
section
/-!
SUPPORT. What the shared operations can do, said once: a raise, an entry of the address log, a violation, a completion, and the
block resets of a command.
-/
namespace Sys2Proof.Machine
open Sys2Proof

/-! ## Registers -/

@[simp] theorem rd_place (a : Nat) (img : List Byte) (s : State) (r : Reg) (i j : Nat) : rd (place a img s) r i j = rd s r i j := rfl
@[simp] theorem rd_raise (e : Ev) (s : State) (r : Reg) (i j : Nat) : rd (raise e s) r i j = rd s r i j := rfl

/-- A register written reads the word written. -/
@[simp] theorem rd_wr_same (s : State) (r : Reg) (i j n : Nat) : rd (wr s r i j n) r i j = n % 2 ^ 32 := by
  simp [rd, wr]

/-- A register whose offset differs keeps its word. -/
theorem rd_wr_ne (s : State) (r q : Reg) (i j k l n : Nat) (h : regOff q k l ≠ regOff r i j) :
    rd (wr s r i j n) q k l = rd s q k l := by
  simp [rd, wr, tgetD_tput_ne _ _ _ h]

/-! ## Time -/

/-- The instant after which a periodic action's next one falls is never its own (R16). -/
theorem nextOf_gt (p last : Nat) (h : 0 < p) : last < nextOf p last := by
  have := Nat.div_add_mod last p
  have := Nat.mod_lt last h
  unfold nextOf
  rw [Nat.add_mul, Nat.one_mul, Nat.mul_comm]
  omega

/-- A periodic action notes the instant at which it takes place. -/
@[simp] theorem lastOf_noteNow (a : Periodic) (s : State) : lastOf a (noteNow a s) = s.tim.now := by
  simp [lastOf, noteNow]

/-- A periodic action never recurs at one instant (R16). -/
theorem every_after (a : Periodic) (p : Nat) (s : State) (h : 0 < p) : lastOf a s < lastOf a (every a p s) := by
  have := nextOf_gt p (lastOf a s) h
  simp only [every, lastOf_noteNow, atLeast_now]
  omega

/-- An action kept apart from its last moves the counter on, or leaves it, and notes its instant. -/
theorem apart_eq (a : Periodic) (p : Nat) (s : State) : ∃ n, apart a p s = noteNow a (atLeast n s) := by
  unfold apart; split
  · exact ⟨_, rfl⟩
  · refine ⟨0, ?_⟩
    simp [atLeast]

/-- An ungating takes its time, and does nothing else (R403). -/
theorem ungate_eq (b : Bool) (n : Nat) (s : State) :
    ungate b n s = { s with tim := { s.tim with now := if b then s.tim.now + n else s.tim.now } } := by
  unfold ungate atLeast; split <;> simp [*]

theorem ungate_now (b : Bool) (n : Nat) (s : State) : (ungate b n s).tim.now = if b then s.tim.now + n else s.tim.now := by
  rw [ungate_eq]

/-! ## Raises -/

/-- What the reactions of a raise can change in the collector (R379, R383). -/
def Reacted (f g : Flt) : Prop :=
  g = { f with
    aliveStopped := g.aliveStopped, aliveBy := g.aliveBy, nmt := g.nmt, snapLost := g.snapLost, resetQ := g.resetQ
    resetCause := g.resetCause, chipResetAt := g.chipResetAt, windows := g.windows }

theorem Reacted.trans {f g h : Flt} (a : Reacted f g) (b : Reacted g h) : Reacted f h := by
  unfold Reacted at *; rw [b, a]

theorem reactAlive_reacted (cfg n : Nat) (f : Flt) : Reacted f (reactAlive cfg n f) := by
  unfold reactAlive; split <;> rfl
theorem reactNmt_reacted (cfg n t : Nat) (f : Flt) : Reacted f (reactNmt cfg n t f) := by
  unfold reactNmt; repeat' split
  all_goals rfl
theorem reactBlock_reacted (cfg : Nat) (u : Option ResetUnit) (f : Flt) : Reacted f (reactBlock cfg u f) := by
  unfold reactBlock; repeat' split
  all_goals rfl
theorem reactChip_reacted (cfg n t : Nat) (f : Flt) : Reacted f (reactChip cfg n t f) := by
  unfold reactChip; split <;> rfl
theorem openWindow_reacted (cfg n t k : Nat) (f : Flt) : Reacted f (openWindow cfg n t k f) := by
  unfold openWindow; split <;> rfl

theorem react_reacted (e : Ev) (cfg t k : Nat) (f : Flt) : Reacted f (react e cfg t k f) :=
  ((((reactAlive_reacted _ _ _).trans (reactNmt_reacted _ _ _ _)).trans (reactBlock_reacted _ _ _)).trans
    (reactChip_reacted _ _ _ _)).trans (openWindow_reacted _ _ _ _ _)

/-- The collector's tables after a raise: the source's status words, its severity's count and its record. -/
def raised (e : Ev) (s : State) : Flt :=
  { s.flt with
    stat := tput s.flt.stat e.src (statusAfter (tgetD s.flt.stat e.src {}) (conseqIn s.flt e.src s.tim.now) s.tim.now)
    sevCount := countSev (fld s .fltSrcCfg e.src 31 30) s.flt.sevCount
    evq := if e.written then s.flt.evq
      else s.flt.evq ++ [recordOf e (rd s .fltSrcCfg e.src) (conseqIn s.flt e.src s.tim.now) s.tim.now] }

/-- A raise records its source, and beyond that does no more than its reactions. -/
theorem raise_reacted (e : Ev) (s : State) : Reacted (raised e s) (raise e s).flt := by
  simp only [raise, raiseFlt]
  split
  · rfl
  · exact react_reacted _ _ _ _ _

theorem reactAlive_resetQ (cfg n : Nat) (f : Flt) : (reactAlive cfg n f).resetQ = f.resetQ := by
  unfold reactAlive; split <;> rfl
theorem reactNmt_resetQ (cfg n t : Nat) (f : Flt) : (reactNmt cfg n t f).resetQ = f.resetQ := by
  unfold reactNmt; repeat' split
  all_goals rfl
theorem reactChip_resetQ (cfg n t : Nat) (f : Flt) : (reactChip cfg n t f).resetQ = f.resetQ := by
  unfold reactChip; split <;> rfl
theorem openWindow_resetQ (cfg n t k : Nat) (f : Flt) : (openWindow cfg n t k f).resetQ = f.resetQ := by
  unfold openWindow; split <;> rfl
theorem reactBlock_resetQ (cfg : Nat) (u : Option ResetUnit) (f : Flt) (h : u = none ∨ bit cfg 27 = false) :
    (reactBlock cfg u f).resetQ = f.resetQ := by
  unfold reactBlock; split
  · rcases h with h | h
    · simp at h
    · rw [h]; rfl
  · rfl

/-- A raise decides a block reset only if it names a unit and its source has the BLOCK_RESET reaction. -/
theorem raise_resetQ' (e : Ev) (s : State) (h : e.unit = none ∨ bit (rd s .fltSrcCfg e.src) 27 = false) :
    (raise e s).flt.resetQ = s.flt.resetQ := by
  simp only [raise, raiseFlt]
  split
  · rfl
  · simp only [react, openWindow_resetQ, reactChip_resetQ, reactBlock_resetQ _ _ _ h, reactNmt_resetQ, reactAlive_resetQ]

/-- The block resets still to carry out after a raise that names no unit. -/
theorem raise_resetQ (e : Ev) (s : State) (h : e.unit = none) : (raise e s).flt.resetQ = s.flt.resetQ :=
  raise_resetQ' e s (Or.inl h)

/-- The status words of the source raised. -/
theorem raise_stat (e : Ev) (s : State) :
    (raise e s).flt.stat =
      tput s.flt.stat e.src (statusAfter (tgetD s.flt.stat e.src {}) (conseqIn s.flt e.src s.tim.now) s.tim.now) := by
  rw [raise_reacted e s]; rfl

/-- The record a raise queues for its event ring. -/
theorem raise_evq (e : Ev) (s : State) (h : e.written = false) :
    (raise e s).flt.evq = s.flt.evq ++ [recordOf e (rd s .fltSrcCfg e.src) (conseqIn s.flt e.src s.tim.now) s.tim.now] := by
  rw [raise_reacted e s]; simp [raised, h]

/-- A raise leaves the collector's health bits, snapshot, address log, ALIVE level and limits. -/
theorem raise_flt_frame (e : Ev) (s : State) :
    (raise e s).flt.health = s.flt.health ∧ (raise e s).flt.healthIka = s.flt.healthIka ∧
      (raise e s).flt.healthAt = s.flt.healthAt ∧ (raise e s).flt.snap = s.flt.snap ∧
      (raise e s).flt.alog = s.flt.alog ∧ (raise e s).flt.alogLatch = s.flt.alogLatch ∧
      (raise e s).flt.alogValid = s.flt.alogValid ∧ (raise e s).flt.alogNext = s.flt.alogNext ∧
      (raise e s).flt.alogLost = s.flt.alogLost ∧ (raise e s).flt.aliveLevel = s.flt.aliveLevel ∧
      (raise e s).flt.limit = s.flt.limit := by
  rw [raise_reacted e s]; simp [raised]

/-- What every operation that only raises leaves as it was: all of the state but the fault collector. -/
theorem raiseIf_resetQ (b : Bool) (e : Ev) (s : State) (h : e.unit = none) : (raiseIf b e s).flt.resetQ = s.flt.resetQ := by
  unfold raiseIf; split
  · exact raise_resetQ e s h
  · rfl

/-- A conditional raise is the collector's alone. -/
theorem raiseIf_eq (b : Bool) (e : Ev) (s : State) : raiseIf b e s = { s with flt := (raiseIf b e s).flt } := by
  unfold raiseIf; split <;> rfl

/-- A raise is the collector's alone. -/
theorem raise_eq (e : Ev) (s : State) : raise e s = { s with flt := (raise e s).flt } := rfl

/-- An entry of the address log is the collector's alone. -/
theorem alog_eq (a : Nat) (sp : Space) (o q : Nat) (s : State) : alog a sp o q s = { s with flt := (alog a sp o q s).flt } := by
  unfold alog; rw [raiseIf_eq]

theorem alog_resetQ (a : Nat) (sp : Space) (o q : Nat) (s : State) : (alog a sp o q s).flt.resetQ = s.flt.resetQ := by
  unfold alog; rw [raiseIf_resetQ _ _ _ rfl]

/-- A violation touches the collector and the answer to the access. -/
theorem violation_eq (m off : Nat) (s : State) :
    ∃ f r, violation m off s = { s with flt := f, hif := { s.hif with resp := r } } := by
  unfold violation
  rw [alog_eq, raise_eq]
  dsimp only
  split
  · exact ⟨_, _, rfl⟩
  · exact ⟨_, s.hif.resp, rfl⟩

theorem violation_resetQ (m off : Nat) (s : State) : (violation m off s).flt.resetQ = s.flt.resetQ := by
  unfold violation
  dsimp only
  split <;> simp only [alog_resetQ] <;> exact raise_resetQ _ _ rfl

/-! ## Completions -/

theorem SameBlock.refl (s : State) : SameBlock s s := rfl

theorem SameBlock.trans {s t u : State} (h : SameBlock s t) (k : SameBlock t u) : SameBlock s u := by
  unfold SameBlock at *; rw [k, h]

theorem place_same (a : Nat) (img : List Byte) (s : State) : SameBlock s (place a img s) := rfl
theorem raise_same (e : Ev) (s : State) : SameBlock s (raise e s) := rfl

theorem setCplRing_same (n : Nat) (r : CplRing) (s : State) : SameBlock s (setCplRing n r s) := rfl
theorem setCmdRing_same (n : Nat) (r : CmdRing) (s : State) : SameBlock s (setCmdRing n r s) := rfl
theorem hostWrite_same (a : Nat) (l : List Byte) (s : State) : SameBlock s (hostWrite a l s) := rfl
theorem hif_same (h : Hif) (s : State) : SameBlock s { s with hif := h } := rfl

theorem alog_same (a : Nat) (sp : Space) (o q : Nat) (s : State) : SameBlock s (alog a sp o q s) := by
  rw [alog_eq]; rfl

theorem signalVector_same (v k : Nat) (s : State) : SameBlock s (signalVector v k s) := by
  unfold signalVector; dsimp only; repeat' split
  all_goals rfl

theorem signalRing_same (cfg : Nat) (s : State) : SameBlock s (signalRing cfg s) := by
  unfold signalRing; split
  · exact signalVector_same _ _ _
  · rfl

theorem signalRing_flt (cfg : Nat) (s : State) : (signalRing cfg s).flt = s.flt := by
  unfold signalRing signalVector; dsimp only; repeat' split
  all_goals rfl

/-- The parts of the host interface that a completion can change besides memory and its rings' places. -/
theorem signalRing_fences (cfg : Nat) (s : State) : (signalRing cfg s).hif.fences = s.hif.fences := by
  unfold signalRing signalVector; dsimp only; repeat' split
  all_goals rfl

theorem signalRing_mem (cfg : Nat) (s : State) : (signalRing cfg s).hif.mem = s.hif.mem := by
  unfold signalRing signalVector; dsimp only; repeat' split
  all_goals rfl

theorem logStatus_same (c : Cmd) (r : Reply) (s : State) : SameBlock s (logStatus c r s) := by
  unfold logStatus; split
  · rfl
  · exact alog_same _ _ _ _ _

theorem logStatus_hif (c : Cmd) (r : Reply) (s : State) : (logStatus c r s).hif = s.hif := by
  unfold logStatus; split
  · rfl
  · rw [alog_eq]

theorem logStatus_resetQ (c : Cmd) (r : Reply) (s : State) : (logStatus c r s).flt.resetQ = s.flt.resetQ := by
  unfold logStatus; split
  · rfl
  · exact alog_resetQ _ _ _ _ _

theorem writeCpl_same (c : Cmd) (op : Nat) (r : Reply) (s : State) : SameBlock s (writeCpl c op r s) := by
  unfold writeCpl; dsimp only; repeat' split
  · exact SameBlock.refl s
  · exact ((setCplRing_same _ _ s).trans (hif_same _ _)).trans (raise_same _ _)
  · exact ((hostWrite_same _ _ s).trans (setCplRing_same _ _ _)).trans (signalRing_same _ _)

theorem writeCpl_resetQ (c : Cmd) (op : Nat) (r : Reply) (s : State) : (writeCpl c op r s).flt.resetQ = s.flt.resetQ := by
  unfold writeCpl; dsimp only; repeat' split
  · rfl
  · exact raise_resetQ _ _ rfl
  · rw [signalRing_flt, setCplRing_flt, hostWrite_flt]

theorem writeCpl_fences (c : Cmd) (op : Nat) (r : Reply) (s : State) : (writeCpl c op r s).hif.fences = s.hif.fences := by
  unfold writeCpl; dsimp only; repeat' split
  · rfl
  · rfl
  · rw [signalRing_fences, setCplRing_hif_fences, hostWrite_hif_fences]

theorem completeOne_same (c : Cmd) (op : Nat) (r : Reply) (s : State) : SameBlock s (completeOne c op r s) :=
  (((logStatus_same c r s).trans (writeCpl_same c op r _)).trans (setCmdRing_same _ _ _)).trans (hif_same _ _)

theorem completeOne_resetQ (c : Cmd) (op : Nat) (r : Reply) (s : State) :
    (completeOne c op r s).flt.resetQ = s.flt.resetQ :=
  (writeCpl_resetQ c op r _).trans (logStatus_resetQ c r s)

theorem completeOne_replied (c : Cmd) (op : Nat) (r : Reply) (s : State) :
    (completeOne c op r s).hif.replied =
      some { ring := c.ring, tag := c.tag, op := op, st := r.st, result := r.result, err := r.err } := rfl

theorem completeOne_fences (c : Cmd) (op : Nat) (r : Reply) (s : State) :
    (completeOne c op r s).hif.fences = s.hif.fences := by
  show (writeCpl c op r (logStatus c r s)).hif.fences = _
  rw [writeCpl_fences, logStatus_hif]

theorem releaseFences_same (n q : Nat) (s : State) : SameBlock s (releaseFences n q s) := by
  induction n generalizing q s with
  | zero => rfl
  | succ n ih =>
    unfold releaseFences; dsimp only; split
    · exact hif_same _ s
    · exact ((hif_same _ s).trans (completeOne_same _ _ _ _)).trans (ih _ _)

theorem releaseFences_resetQ (n q : Nat) (s : State) : (releaseFences n q s).flt.resetQ = s.flt.resetQ := by
  induction n generalizing q s with
  | zero => rfl
  | succ n ih =>
    unfold releaseFences; dsimp only; split
    · rfl
    · rw [ih, completeOne_resetQ]

/-- A completion touches the host interface, the collector and the outputs, and nothing else. -/
theorem complete_same (c : Cmd) (op : Nat) (r : Reply) (s : State) : SameBlock s (complete c op r s) :=
  (completeOne_same c op r s).trans (releaseFences_same _ _ _)

/-- A completion decides no block reset. -/
theorem complete_resetQ (c : Cmd) (op : Nat) (r : Reply) (s : State) : (complete c op r s).flt.resetQ = s.flt.resetQ :=
  (releaseFences_resetQ _ _ _).trans (completeOne_resetQ c op r s)

/-- With no FENCE waiting, the command's own completion is the last. -/
theorem complete_replied (c : Cmd) (op : Nat) (r : Reply) (s : State) (h : s.hif.fences = []) :
    (complete c op r s).hif.replied =
      some { ring := c.ring, tag := c.tag, op := op, st := r.st, result := r.result, err := r.err } := by
  unfold complete; rw [h]; rfl

/-- A host command that the pair state allows: its own meaning, then its completion. -/
theorem hostCmd_eq (c : Cmd) (op : Nat) (changes : Bool) (body : State → Reply × State) (s : State)
    (h : changes = false ∨ barred s = false) : hostCmd c op changes body s = complete c op (body s).1 (body s).2 := by
  unfold hostCmd; rcases h with h | h <;> simp [h]

/-- A host command that a STANDBY or WARM unit refuses. -/
theorem hostCmd_barred (c : Cmd) (op : Nat) (body : State → Reply × State) (s : State) (h : barred s = true) :
    hostCmd c op true body s = complete c op denied s := by
  unfold hostCmd; simp [h]

/-- A command whose checks all pass. -/
theorem checked_ok (checks : State → List (Bool × Reply)) (act : State → Reply × State) (s : State)
    (h : firstErr (checks s) = none) : checked checks act s = act s := by
  unfold checked; rw [h]

/-- A command one of whose checks fails changes nothing. -/
theorem checked_bad (checks : State → List (Bool × Reply)) (act : State → Reply × State) (s : State) (r : Reply)
    (h : firstErr (checks s) = some r) : checked checks act s = (r, s) := by
  unfold checked; rw [h]

/-! ## The control-plane crossbar -/

/-- What an access that its target turns away can change (R344). -/
theorem busRefused_eq (m a : Nat) (s : State) :
    busRefused m a s = { s with flt := (busRefused m a s).flt, hif := { s.hif with resp := some .errorResponse } } := by
  unfold busRefused; rw [alog_eq, raise_eq]

/-- A write to secure SRAM keeps its canonical form. -/
theorem secureWrite_wf (m a : Nat) (l : List Byte) (s : State) (h : Memory.wf s.sec.sram = true) :
    Memory.wf (secureWrite m a l s).sec.sram = true := by
  unfold secureWrite; dsimp only; split
  · exact Memory.wf_cwrite _ _ _ h
  · rw [busRefused_eq]; exact h

/-! ## Block resets -/

/-- A command whose raises decided no block reset. -/
theorem settle_of_nil (s : State) (h : s.flt.resetQ = []) : settle s = s := by
  unfold settle; rw [h]

theorem settleLoop_resetQ (n : Nat) (done : List ResetUnit) (s : State) : (settleLoop n done s).flt.resetQ = [] := by
  induction n generalizing done s with
  | zero => rfl
  | succ n ih =>
    unfold settleLoop; split
    · assumption
    · dsimp only; split
      · exact ih _ _
      · exact ih _ _

/-- No block reset decided by a command is left once the command has taken effect. -/
theorem settle_resetQ (s : State) : (settle s).flt.resetQ = [] := by
  unfold settle; split
  · assumption
  · exact settleLoop_resetQ _ _ _

end Sys2Proof.Machine
end

