-- ==== Sys2Proof/Laws/Completion.lean ====
section
/-! SUPPORT. How a host command ends, said once: DONE, ACCEPTED or with an error, and what a completion leaves as it was. -/
namespace Sys2Proof.Machine
open Sys2Proof

theorem signalRing_frame (cfg : Nat) (s : State) :
    signalRing cfg s = { s with hif := { s.hif with msix := (signalRing cfg s).hif.msix }, wire := (signalRing cfg s).wire } := by
  unfold signalRing signalVector; dsimp only; repeat' split
  all_goals rfl

theorem cplEntry_length (c : Cmd) (op : Nat) (r : Reply) (ph : Bool) (h n : Nat) : (cplEntry c op r ph h n).length = 32 := by
  simp [cplEntry, zeros]

/-- An entry placed in a completion ring. -/
theorem entry_frame (n : Nat) (q : CplRing) (a : Nat) (l : List Byte) (s : State) :
    setCplRing n q (hostWrite a l s) =
      { s with hif := { s.hif with mem := cwrite s.hif.mem a l, cpl := tput s.hif.cpl n q } } := rfl

/-- The write of a completion entry. -/
theorem writeCpl_frame (c : Cmd) (op : Nat) (r : Reply) (s : State) : CompletionOnly c s (writeCpl c op r s) := by
  unfold writeCpl; dsimp only; split
  · exact ⟨rfl, fun _ => ⟨rfl, rfl⟩, fun _ _ => rfl⟩
  · split
    · rename_i h
      exact ⟨rfl, fun hc => by simp [hc] at h, fun _ _ => rfl⟩
    · have hl := cplEntry_length c op r (cplRing s (cplOf s c.ring)).phase (cmdRing s c.ring).head s.tim.now
      rw [entry_frame, signalRing_frame]
      generalize cplEntry c op r _ _ _ = l at *
      refine ⟨rfl, fun _ => ⟨rfl, rfl⟩, fun a ha => ?_⟩
      rw [← hl] at ha
      exact cget_cwrite_outside l s.hif.mem _ a ha

theorem completeOne_frame (c : Cmd) (op : Nat) (r : Reply) (s : State) (h : r.st = 0 ∨ r.st = 1) :
    CompletionOnly c s (completeOne c op r s) := by
  have hl : logStatus c r s = s := by unfold logStatus; rw [if_pos h]
  obtain ⟨h1, h2, h3⟩ := writeCpl_frame c op r s
  have e : completeOne c op r s =
      { writeCpl c op r s with hif := { (writeCpl c op r s).hif with
          cmd := (completeOne c op r s).hif.cmd, replied := (completeOne c op r s).hif.replied } } := by
    unfold completeOne; rw [hl]; rfl
  refine ⟨?_, fun hc => ?_, fun a ha => ?_⟩
  · rw [e, h1]
  · rw [e]; exact h2 hc
  · rw [e]; exact h3 a ha

/-- With no FENCE waiting, a completion with DONE or ACCEPTED changes its rings, its entry and nothing more. -/
theorem complete_frame (c : Cmd) (op : Nat) (r : Reply) (s : State) (hf : s.hif.fences = []) (h : r.st = 0 ∨ r.st = 1) :
    CompletionOnly c s (complete c op r s) := by
  unfold complete; rw [hf]; exact completeOne_frame c op r s h

/-- A host command that its unit takes ends as its own meaning says. -/
theorem hostCmd_ends (c : Cmd) (op : Nat) (ch : Bool) (body : State → Reply × State) (s : State) {r : Reply} {u : State}
    (hb : body s = (r, u)) (ht : ch = false ∨ barred s = false) (hf : u.hif.fences = []) (hq : u.flt.resetQ = [])
    (hs : r.st = 0 ∨ r.st = 1) :
    CompletionOnly c u (settle (hostCmd c op ch body s)) ∧ Replied c op r.st r.result r.err (settle (hostCmd c op ch body s)) := by
  rw [hostCmd_eq c op ch body s ht, hb, settle_of_nil _ (by rw [complete_resetQ]; exact hq)]
  exact ⟨complete_frame c op r u hf hs, complete_replied c op r u hf⟩

/-- A host command that completes DONE. -/
theorem hostCmd_done (c : Cmd) (op : Nat) (ch : Bool) (body : State → Reply × State) (s : State) {k : Nat} {u : State}
    (hb : body s = (replyResult k, u)) (hc : Clear s) (hf : u.hif.fences = []) (hq : u.flt.resetQ = []) :
    EndsDone c op k u (settle (hostCmd c op ch body s)) :=
  hostCmd_ends c op ch body s hb (Or.inr hc.2.2) hf hq (Or.inl rfl)

/-- A host command that is ACCEPTED. -/
theorem hostCmd_accepted (c : Cmd) (op : Nat) (ch : Bool) (body : State → Reply × State) (s : State) {u : State}
    (hb : body s = (accepted, u)) (hc : Clear s) (hf : u.hif.fences = []) (hq : u.flt.resetQ = []) :
    EndsAccepted c op u (settle (hostCmd c op ch body s)) :=
  hostCmd_ends c op ch body s hb (Or.inr hc.2.2) hf hq (Or.inr rfl)

/-- A host command that fails changes nothing but the log. -/
theorem hostCmd_fails (c : Cmd) (op : Nat) (ch : Bool) (body : State → Reply × State) (s : State) {st err : Nat}
    (hb : body s = ({ st := st, err := err }, s)) (hc : Clear s) :
    Fails c op st err s (settle (hostCmd c op ch body s)) := by
  rw [hostCmd_eq c op ch body s (Or.inr hc.2.2), hb, settle_of_nil _ (by rw [complete_resetQ]; exact hc.2.1)]
  exact ⟨complete_same _ _ _ _, complete_replied _ _ _ _ hc.1⟩

/-- A command that changes state, on a STANDBY or WARM unit. -/
theorem hostCmd_denied (c : Cmd) (op : Nat) (body : State → Reply × State) (s : State) (hb : barred s = true)
    (hf : s.hif.fences = []) (hq : s.flt.resetQ = []) : Fails c op 0x20 0 s (settle (hostCmd c op true body s)) := by
  rw [hostCmd_barred c op body s hb, settle_of_nil _ (by rw [complete_resetQ]; exact hq)]
  exact ⟨complete_same _ _ _ _, complete_replied _ _ _ _ hf⟩

/-- A step that raises sources without a unit settles at once. -/
theorem settle_raise (e : Ev) (s : State) (hq : s.flt.resetQ = []) (hu : e.unit = none ∨ bit (rd s .fltSrcCfg e.src) 27 = false) :
    settle (raise e s) = raise e s := settle_of_nil _ ((raise_resetQ' e s hu).trans hq)

/-- A raise counts once and queues its record last. -/
theorem raise_raised (e : Ev) (s : State) (hw : e.written = false) : Raised e.src e.data e.addr s (raise e s) := by
  refine ⟨?_, recordOf e (rd s .fltSrcCfg e.src) (conseqIn s.flt e.src s.tim.now) s.tim.now, ?_, rfl, rfl, rfl, rfl⟩
  · rw [raise_stat, tgetD_tput_same]; rfl
  · rw [raise_evq e s hw]; simp

/-- The FINAL record of an ACCEPTED command. -/
theorem raise_final (e : Ev) (s : State) (tag : Nat) (hw : e.written = false) (ht : e.fin = some tag) :
    Final e.src tag (raise e s) := by
  refine ⟨recordOf e (rd s .fltSrcCfg e.src) (conseqIn s.flt e.src s.tim.now) s.tim.now, ?_, rfl, ?_, ?_⟩
  · rw [raise_evq e s hw]; simp
  · simp [recordOf, ht]
  · simp [recordOf, ht]

end Sys2Proof.Machine
end

