-- ==== Sys2Proof/Laws/Entry.lean ====
section
/-! SUPPORT. A command entry read back: its fields, and its parameters unpacked as they were packed (R331, R332). -/
namespace Sys2Proof.Machine
open Sys2Proof

theorem slice_of_append (p l r : List Byte) (n m : Nat) (hp : p.length = n) (hl : l.length = m) :
    slice (p ++ (l ++ r)) n m = l := by
  subst hp; subst hl; simp [slice]

@[simp] theorem zeros_length (n : Nat) : (zeros n).length = n := by simp [zeros]

/-- The fields of an entry read back as they were written. -/
theorem parse_entry (op tag x y : Nat) (args : List Byte) (h1 : op < 2 ^ 16) (h2 : tag < 2 ^ 32) (h3 : x < 2 ^ 64)
    (h4 : y < 2 ^ 64) (h5 : args.length = 40) :
    parseEntry (entryBytes { op := op, tag := tag, addr0 := x, addr1 := y, args := args }) =
      { op := op, tag := tag, addr0 := x, addr1 := y, args := args } := by
  have hpad : padTo 40 args = args := by simp [padTo, h5]
  unfold parseEntry entryBytes
  simp only [hpad, CmdEntry.mk.injEq, fieldAt, List.append_assoc]
  refine ⟨?_, ?_, ?_, ?_, ?_⟩
  · rw [show ∀ r, slice (leBytes 2 op ++ r) 0 2 = leBytes 2 op from
      fun r => slice_of_append [] (leBytes 2 op) r 0 2 rfl (by simp)]
    exact leNat_leBytes _ _ (by simpa using h1)
  · rw [show ∀ r, slice (leBytes 2 op ++ (zeros 2 ++ (leBytes 4 tag ++ r))) 4 4 = leBytes 4 tag from
      fun r => by rw [← List.append_assoc]; exact slice_of_append _ _ _ _ _ (by simp) (by simp)]
    exact leNat_leBytes _ _ (by simpa using h2)
  · rw [show ∀ r, slice (leBytes 2 op ++ (zeros 2 ++ (leBytes 4 tag ++ (leBytes 8 x ++ r)))) 8 8 = leBytes 8 x from
      fun r => by
        rw [← List.append_assoc, ← List.append_assoc]; exact slice_of_append _ _ _ _ _ (by simp) (by simp)]
    exact leNat_leBytes _ _ (by simpa using h3)
  · rw [show ∀ r, slice (leBytes 2 op ++ (zeros 2 ++ (leBytes 4 tag ++ (leBytes 8 x ++ (leBytes 8 y ++ r))))) 16 8 =
        leBytes 8 y from fun r => by
        rw [← List.append_assoc, ← List.append_assoc, ← List.append_assoc]
        exact slice_of_append _ _ _ _ _ (by simp) (by simp)]
    exact leNat_leBytes _ _ (by simpa using h4)
  · have := slice_of_append (leBytes 2 op ++ (zeros 2 ++ (leBytes 4 tag ++ (leBytes 8 x ++ leBytes 8 y)))) args [] 24 40
      (by simp) h5
    simpa [List.append_assoc] using this

/-- Parameters unpack as they were packed, whatever follows them. -/
theorem unpack_pack (l1 l2 : List (Nat × Nat)) (rest : List Byte) (off : Nat) (h : fits l1 = true) :
    unpackFrom off (l1.map Prod.fst) (packFrom off (l1 ++ l2) ++ rest) = l1.map Prod.snd := by
  induction l1 generalizing off with
  | nil => rfl
  | cons p l ih =>
    obtain ⟨sz, v⟩ := p
    simp only [fits, List.all_cons, Bool.and_eq_true, decide_eq_true_eq] at h
    simp only [List.map_cons, List.cons_append, packFrom, unpackFrom, List.append_assoc]
    congr 1
    · rw [List.drop_left' (by simp), List.take_left' (by simp)]
      exact leNat_leBytes _ _ h.1
    · rw [← List.append_assoc, List.drop_left' (by simp)]
      exact ih _ h.2

theorem padTo_short (n : Nat) (l : List Byte) (h : l.length ≤ n) : padTo n l = l ++ zeros (n - l.length) := by
  unfold padTo
  rw [List.take_append, List.take_of_length_le h]
  congr 1
  unfold zeros
  rw [List.take_replicate]; congr 1; omega

/-- Parameter `k` of an entry whose first parameters are `l1`. -/
theorem entry_param (op tag x y : Nat) (l1 l2 : List (Nat × Nat)) (k : Nat) (h : fits l1 = true)
    (hl : (packFrom 0 (l1 ++ l2)).length ≤ 40) :
    param { op := op, tag := tag, addr0 := x, addr1 := y, args := padTo 40 (packFrom 0 (l1 ++ l2)) } (l1.map Prod.fst) k =
      (l1.map Prod.snd).getD k 0 := by
  unfold param
  dsimp only
  rw [padTo_short _ _ hl, unpack_pack _ _ _ _ h]

end Sys2Proof.Machine
end

