-- ==== Sys2Proof/Laws/PerInstr.lean ====
section
/-! SUPPORT. Per command: a host command's opcode takes 2 bytes and its parameters fit the 40 bytes of ARGS (R331, R332). -/
namespace Sys2Proof.Laws.FitsEntry
open Sys2Proof Sys2Proof.Machine

/-- A host command's entry holds its opcode and its parameters; a register access or an event has no entry. -/
def Statement (i : Instr) : Prop :=
  match i.form with
  | .cmd _ op _ _ args _ _ => op < 2 ^ 16 ∧ (packFrom 0 args).length ≤ 40
  | .event _ => entryOf i = none

/-- Bytes that parameters of the sizes given take from an offset on (R332). -/
def span : Nat → List Nat → Nat
  | _, [] => 0
  | off, sz :: l => (alignUp sz off - off) + sz + span (alignUp sz off + sz) l

theorem packFrom_length (l : List (Nat × Nat)) (off : Nat) : (packFrom off l).length = span off (l.map Prod.fst) := by
  induction l generalizing off with
  | nil => rfl
  | cons p l ih => obtain ⟨sz, v⟩ := p; simp [packFrom, span, zeros, ih, Nat.add_assoc]

theorem packed {l : List (Nat × Nat)} (h : span 0 (l.map Prod.fst) ≤ 40) : (packFrom 0 l).length ≤ 40 := by
  rw [packFrom_length]; exact h

theorem nop (c : Cmd) : Statement (.nop c) := ⟨by decide, packed (show span 0 [] ≤ 40 by decide)⟩
theorem versionRead (c : Cmd) (a : Nat) : Statement (.versionRead c a) := ⟨by decide, packed (show span 0 [] ≤ 40 by decide)⟩
theorem fence (c : Cmd) : Statement (.fence c) := ⟨by decide, packed (show span 0 [] ≤ 40 by decide)⟩
theorem flowDefine (c : Cmd) (a : Nat) (img : List Byte) : Statement (.flowDefine c a img) := ⟨by decide, packed (show span 0 [] ≤ 40 by decide)⟩
theorem flowStart (c : Cmd) (flow : Nat) : Statement (.flowStart c flow) := ⟨by decide, packed (show span 0 [2] ≤ 40 by decide)⟩
theorem flowStop (c : Cmd) (flow : Nat) : Statement (.flowStop c flow) := ⟨by decide, packed (show span 0 [2] ≤ 40 by decide)⟩
theorem flowStopped (flow : Nat) : Statement (.flowStopped flow) := rfl
theorem flowStopTimeout (flow : Nat) : Statement (.flowStopTimeout flow) := rfl
theorem flowDelete (c : Cmd) (flow : Nat) : Statement (.flowDelete c flow) := ⟨by decide, packed (show span 0 [2] ≤ 40 by decide)⟩
theorem flowRead (c : Cmd) (flow : Nat) (a : Nat) : Statement (.flowRead c flow a) := ⟨by decide, packed (show span 0 [2] ≤ 40 by decide)⟩
theorem consistDefine (c : Cmd) (a : Nat) (img : List Byte) : Statement (.consistDefine c a img) := ⟨by decide, packed (show span 0 [] ≤ 40 by decide)⟩
theorem consistDelete (c : Cmd) (n : Nat) : Statement (.consistDelete c n) := ⟨by decide, packed (show span 0 [1] ≤ 40 by decide)⟩
theorem consistRead (c : Cmd) (n : Nat) (a : Nat) : Statement (.consistRead c n a) := ⟨by decide, packed (show span 0 [1] ≤ 40 by decide)⟩
theorem svpPortSet (c : Cmd) (a : Nat) (img : List Byte) : Statement (.svpPortSet c a img) := ⟨by decide, packed (show span 0 [] ≤ 40 by decide)⟩
theorem svpPortRead (c : Cmd) (port : Nat) (dir : Nat) (a : Nat) : Statement (.svpPortRead c port dir a) := ⟨by decide, packed (show span 0 [1, 1] ≤ 40 by decide)⟩
theorem nmpStreamSet (c : Cmd) (a : Nat) (img : List Byte) : Statement (.nmpStreamSet c a img) := ⟨by decide, packed (show span 0 [] ≤ 40 by decide)⟩
theorem nmpStreamRead (c : Cmd) (flow : Nat) (a : Nat) : Statement (.nmpStreamRead c flow a) := ⟨by decide, packed (show span 0 [2] ≤ 40 by decide)⟩
theorem nmpGateLoad (c : Cmd) (mac : Nat) (a : Nat) (img : List Byte) : Statement (.nmpGateLoad c mac a img) := ⟨by decide, packed (show span 0 [1] ≤ 40 by decide)⟩
theorem nmpFrameSend (c : Cmd) (mac : Nat) (queue : Nat) (len : Nat) (option_ : Nat) (a : Nat) (img : List Byte) : Statement (.nmpFrameSend c mac queue len option_ a img) := ⟨by decide, packed (show span 0 [1, 1, 2, 4] ≤ 40 by decide)⟩
theorem nmpFrameSent (mac : Nat) : Statement (.nmpFrameSent mac) := rfl
theorem pageLoad (c : Cmd) (a : Nat) (img : List Byte) : Statement (.pageLoad c a img) := ⟨by decide, packed (show span 0 [] ≤ 40 by decide)⟩
theorem pageWithdraw (c : Cmd) (page : Nat) : Statement (.pageWithdraw c page) := ⟨by decide, packed (show span 0 [4] ≤ 40 by decide)⟩
theorem pageStatus (c : Cmd) (page : Nat) (a : Nat) : Statement (.pageStatus c page a) := ⟨by decide, packed (show span 0 [4] ≤ 40 by decide)⟩
theorem xpDirect (c : Cmd) (word : Nat) (sel : Nat) (src : Nat) : Statement (.xpDirect c word sel src) := ⟨by decide, packed (show span 0 [2, 1, 2] ≤ 40 by decide)⟩
theorem xpRead (c : Cmd) (first : Nat) (count : Nat) (a : Nat) : Statement (.xpRead c first count a) := ⟨by decide, packed (show span 0 [2, 2] ≤ 40 by decide)⟩
theorem platformSet (c : Cmd) (flow : Nat) (depth : Nat) : Statement (.platformSet c flow depth) := ⟨by decide, packed (show span 0 [2, 1] ≤ 40 by decide)⟩
theorem cellRowSpare (c : Cmd) (bank : Nat) (row : Nat) (dom : Nat) (fi : Nat) : Statement (.cellRowSpare c bank row dom fi) := ⟨by decide, packed (show span 0 [1, 1, 1, 4] ≤ 40 by decide)⟩
theorem cellRowCopyDone (bank : Nat) (row : Nat) : Statement (.cellRowCopyDone bank row) := rfl
theorem cellRowSpareSwap (bank : Nat) (row : Nat) : Statement (.cellRowSpareSwap bank row) := rfl
theorem linkStart (c : Cmd) (link : Nat) : Statement (.linkStart c link) := ⟨by decide, packed (show span 0 [1] ≤ 40 by decide)⟩
theorem linkStop (c : Cmd) (link : Nat) : Statement (.linkStop c link) := ⟨by decide, packed (show span 0 [1] ≤ 40 by decide)⟩
theorem linkRead (c : Cmd) (first : Nat) (count : Nat) (a : Nat) : Statement (.linkRead c first count a) := ⟨by decide, packed (show span 0 [1, 4] ≤ 40 by decide)⟩
theorem planLoad (c : Cmd) (link : Nat) (a : Nat) (img : List Byte) : Statement (.planLoad c link a img) := ⟨by decide, packed (show span 0 [1] ≤ 40 by decide)⟩
theorem planSwap (c : Cmd) (cycle : Nat) (a : Nat) (img : List Byte) : Statement (.planSwap c cycle a img) := ⟨by decide, packed (show span 0 [4] ≤ 40 by decide)⟩
theorem planRead (c : Cmd) (link : Nat) (bank : Nat) (a : Nat) : Statement (.planRead c link bank a) := ⟨by decide, packed (show span 0 [1, 1] ≤ 40 by decide)⟩
theorem routeDefine (c : Cmd) (a : Nat) (img : List Byte) : Statement (.routeDefine c a img) := ⟨by decide, packed (show span 0 [] ≤ 40 by decide)⟩
theorem routeDelete (c : Cmd) (feeder : Nat) : Statement (.routeDelete c feeder) := ⟨by decide, packed (show span 0 [4] ≤ 40 by decide)⟩
theorem routeVerify (c : Cmd) (feeder : Nat) : Statement (.routeVerify c feeder) := ⟨by decide, packed (show span 0 [4] ≤ 40 by decide)⟩
theorem routeStatus (c : Cmd) (feeder : Nat) (a : Nat) : Statement (.routeStatus c feeder a) := ⟨by decide, packed (show span 0 [4] ≤ 40 by decide)⟩
theorem ctrlRouteSet (c : Cmd) (dest : Nat) (a : Nat) (img : List Byte) : Statement (.ctrlRouteSet c dest a img) := ⟨by decide, packed (show span 0 [2] ≤ 40 by decide)⟩
theorem fwdSet (c : Cmd) (first : Nat) (count : Nat) (a : Nat) (img : List Byte) : Statement (.fwdSet c first count a img) := ⟨by decide, packed (show span 0 [2, 4] ≤ 40 by decide)⟩
theorem msgSend (c : Cmd) (dest : Nat) (cls : Nat) (len : Nat) (a : Nat) (img : List Byte) : Statement (.msgSend c dest cls len a img) := ⟨by decide, packed (show span 0 [2, 1, 1] ≤ 40 by decide)⟩
theorem procSet (c : Cmd) (a : Nat) (img : List Byte) : Statement (.procSet c a img) := ⟨by decide, packed (show span 0 [] ≤ 40 by decide)⟩
theorem procParamLoad (c : Cmd) (pf : Nat) (set : Nat) (a : Nat) (img : List Byte) : Statement (.procParamLoad c pf set a img) := ⟨by decide, packed (show span 0 [2, 1] ≤ 40 by decide)⟩
theorem procRead (c : Cmd) (pf : Nat) (a : Nat) : Statement (.procRead c pf a) := ⟨by decide, packed (show span 0 [2] ≤ 40 by decide)⟩
theorem engineSpare (c : Cmd) (room : Nat) (slot : Nat) (tile : Nat) (dom : Nat) (fi : Nat) : Statement (.engineSpare c room slot tile dom fi) := ⟨by decide, packed (show span 0 [1, 1, 1, 1, 4] ≤ 40 by decide)⟩
theorem engineSpareSwap (room : Nat) : Statement (.engineSpareSwap room) := rfl
theorem layerStatus (c : Cmd) (pf : Nat) (a : Nat) : Statement (.layerStatus c pf a) := ⟨by decide, packed (show span 0 [2] ≤ 40 by decide)⟩
theorem audPortSet (c : Cmd) (a : Nat) (img : List Byte) : Statement (.audPortSet c a img) := ⟨by decide, packed (show span 0 [] ≤ 40 by decide)⟩
theorem audPortRead (c : Cmd) (port : Nat) (a : Nat) : Statement (.audPortRead c port a) := ⟨by decide, packed (show span 0 [1] ≤ 40 by decide)⟩
theorem audPortResume (c : Cmd) (port : Nat) : Statement (.audPortResume c port) := ⟨by decide, packed (show span 0 [1] ≤ 40 by decide)⟩
theorem audioXpDirect (c : Cmd) (out : Nat) (inp : Nat) (gain : Nat) (ramp : Nat) : Statement (.audioXpDirect c out inp gain ramp) := ⟨by decide, packed (show span 0 [2, 2, 2, 2] ≤ 40 by decide)⟩
theorem audioXpDirectStart (out : Nat) (inp : Nat) : Statement (.audioXpDirectStart out inp) := rfl
theorem audioXpRead (c : Cmd) (out : Nat) (a : Nat) : Statement (.audioXpRead c out a) := ⟨by decide, packed (show span 0 [2] ≤ 40 by decide)⟩
theorem audDelaySet (c : Cmd) (first : Nat) (count : Nat) (store : Nat) (max : Nat) : Statement (.audDelaySet c first count store max) := ⟨by decide, packed (show span 0 [2, 2, 1, 4] ≤ 40 by decide)⟩
theorem audDelayChange (c : Cmd) (first : Nat) (count : Nat) (delay : Nat) (ramp : Nat) (dom : Nat) (fi : Nat) : Statement (.audDelayChange c first count delay ramp dom fi) := ⟨by decide, packed (show span 0 [2, 2, 4, 2, 1, 4] ≤ 40 by decide)⟩
theorem audDelayCrossfadeEnd (out : Nat) : Statement (.audDelayCrossfadeEnd out) := rfl
theorem audDelayRead (c : Cmd) (first : Nat) (count : Nat) (a : Nat) : Statement (.audDelayRead c first count a) := ⟨by decide, packed (show span 0 [2, 2] ≤ 40 by decide)⟩
theorem audCsSet (c : Cmd) (flow : Nat) (a : Nat) (img : List Byte) : Statement (.audCsSet c flow a img) := ⟨by decide, packed (show span 0 [2] ≤ 40 by decide)⟩
theorem memTrain (c : Cmd) (unit : Nat) : Statement (.memTrain c unit) := ⟨by decide, packed (show span 0 [1] ≤ 40 by decide)⟩
theorem memFreq (c : Cmd) (pair : Nat) (rate : Nat) : Statement (.memFreq c pair rate) := ⟨by decide, packed (show span 0 [1, 2] ≤ 40 by decide)⟩
theorem memFreqRestart (pair : Nat) : Statement (.memFreqRestart pair) := rfl
theorem memWinSet (c : Cmd) (win : Nat) (store : Nat) (base : Nat) (size : Nat) (reserve : Nat) : Statement (.memWinSet c win store base size reserve) := ⟨by decide, packed (show span 0 [1, 1, 2, 2, 4] ≤ 40 by decide)⟩
theorem memMove (c : Cmd) (a : Nat) (img : List Byte) : Statement (.memMove c a img) := ⟨by decide, packed (show span 0 [] ≤ 40 by decide)⟩
theorem memMoveDone (hostOk : Bool) : Statement (.memMoveDone hostOk) := rfl
theorem memSpare (c : Cmd) (kind : Nat) (loc : Nat) (row : Nat) (col : Nat) (dom : Nat) (fi : Nat) : Statement (.memSpare c kind loc row col dom fi) := ⟨by decide, packed (show span 0 [1, 4, 4, 1, 1, 4] ≤ 40 by decide)⟩
theorem memSpareCopyDone (ctrl : Nat) : Statement (.memSpareCopyDone ctrl) := rfl
theorem memSpareBoundary (ctrl : Nat) : Statement (.memSpareBoundary ctrl) := rfl
theorem memSpareRepairDone (ctrl : Nat) (good : Bool) : Statement (.memSpareRepairDone ctrl good) := rfl
theorem memWearRead (c : Cmd) (ctrl : Nat) (a : Nat) : Statement (.memWearRead c ctrl a) := ⟨by decide, packed (show span 0 [1] ≤ 40 by decide)⟩
theorem laneSpare (c : Cmd) (lane : Nat) (spare : Nat) (dom : Nat) (fi : Nat) : Statement (.laneSpare c lane spare dom fi) := ⟨by decide, packed (show span 0 [1, 1, 1, 4] ≤ 40 by decide)⟩
theorem laneSpareCheck (die : Nat) (spare : Nat) : Statement (.laneSpareCheck die spare) := rfl
theorem laneSpareSwap (die : Nat) (spare : Nat) : Statement (.laneSpareSwap die spare) := rfl
theorem timeStepAccept (c : Cmd) (target : Nat) : Statement (.timeStepAccept c target) := ⟨by decide, packed (show span 0 [1] ≤ 40 by decide)⟩
theorem refForce (c : Cmd) (cand : Nat) : Statement (.refForce c cand) := ⟨by decide, packed (show span 0 [1] ≤ 40 by decide)⟩
theorem refForceRelease (c : Cmd) : Statement (.refForceRelease c) := ⟨by decide, packed (show span 0 [1] ≤ 40 by decide)⟩
theorem holdoverCoefLoad (c : Cmd) (a : Nat) (img : List Byte) : Statement (.holdoverCoefLoad c a img) := ⟨by decide, packed (show span 0 [] ≤ 40 by decide)⟩
theorem timeSet (c : Cmd) (seconds : Nat) : Statement (.timeSet c seconds) := ⟨by decide, packed (show span 0 [8] ≤ 40 by decide)⟩
theorem pairStart (c : Cmd) : Statement (.pairStart c) := ⟨by decide, packed (show span 0 [] ≤ 40 by decide)⟩
theorem pairStop (c : Cmd) : Statement (.pairStop c) := ⟨by decide, packed (show span 0 [] ≤ 40 by decide)⟩
theorem tabletRequest (c : Cmd) : Statement (.tabletRequest c) := ⟨by decide, packed (show span 0 [] ≤ 40 by decide)⟩
theorem tabletTake (c : Cmd) : Statement (.tabletTake c) := ⟨by decide, packed (show span 0 [] ≤ 40 by decide)⟩
theorem pairStatus (c : Cmd) (a : Nat) : Statement (.pairStatus c a) := ⟨by decide, packed (show span 0 [] ≤ 40 by decide)⟩
theorem faultRead (c : Cmd) (first : Nat) (count : Nat) (a : Nat) : Statement (.faultRead c first count a) := ⟨by decide, packed (show span 0 [2, 2] ≤ 40 by decide)⟩
theorem faultClear (c : Cmd) (first : Nat) (count : Nat) : Statement (.faultClear c first count) := ⟨by decide, packed (show span 0 [2, 2] ≤ 40 by decide)⟩
theorem aliveResume (c : Cmd) : Statement (.aliveResume c) := ⟨by decide, packed (show span 0 [] ≤ 40 by decide)⟩
theorem snapshotRead (c : Cmd) (a : Nat) : Statement (.snapshotRead c a) := ⟨by decide, packed (show span 0 [] ≤ 40 by decide)⟩
theorem faultInject (c : Cmd) (src : Nat) : Statement (.faultInject c src) := ⟨by decide, packed (show span 0 [2] ≤ 40 by decide)⟩
theorem laneEyeScan (c : Cmd) (lane : Nat) (eye : Nat) (hStep : Nat) (vStep : Nat) (dwell : Nat) (a : Nat) : Statement (.laneEyeScan c lane eye hStep vStep dwell a) := ⟨by decide, packed (show span 0 [1, 1, 1, 1, 1] ≤ 40 by decide)⟩
theorem laneEyeDone (lane : Nat) (counts : List Nat) : Statement (.laneEyeDone lane counts) := rfl
theorem lanePrbs (c : Cmd) (lane : Nat) (rate : Nat) (pattern : Nat) (dir : Nat) (duration : Nat) : Statement (.lanePrbs c lane rate pattern dir duration) := ⟨by decide, packed (show span 0 [1, 1, 1, 1, 2] ≤ 40 by decide)⟩
theorem lanePrbsStop (c : Cmd) (lane : Nat) : Statement (.lanePrbsStop c lane) := ⟨by decide, packed (show span 0 [1, 1, 1, 1, 2] ≤ 40 by decide)⟩
theorem lanePrbsDone (lane : Nat) (errors : Nat) : Statement (.lanePrbsDone lane errors) := rfl
theorem pwrStateSet (c : Cmd) (target : Nat) : Statement (.pwrStateSet c target) := ⟨by decide, packed (show span 0 [1] ≤ 40 by decide)⟩
theorem thermCoefLoad (c : Cmd) (a : Nat) (img : List Byte) : Statement (.thermCoefLoad c a img) := ⟨by decide, packed (show span 0 [] ≤ 40 by decide)⟩
theorem identityRead (c : Cmd) (a : Nat) : Statement (.identityRead c a) := ⟨by decide, packed (show span 0 [] ≤ 40 by decide)⟩
theorem attestQuote (c : Cmd) (nonceAt : Nat) (a : Nat) (nonce : List Byte) : Statement (.attestQuote c nonceAt a nonce) := ⟨by decide, packed (show span 0 [] ≤ 40 by decide)⟩
theorem updateApply (c : Cmd) (a : Nat) (len : Nat) (img : List Byte) : Statement (.updateApply c a len img) := ⟨by decide, packed (show span 0 [4] ≤ 40 by decide)⟩
theorem updateDone (eraseErr : Option Nat) (flashErr : Option Nat) : Statement (.updateDone eraseErr flashErr) := rfl
theorem updateCommit (c : Cmd) : Statement (.updateCommit c) := ⟨by decide, packed (show span 0 [] ≤ 40 by decide)⟩
theorem rollbackAdvance (c : Cmd) : Statement (.rollbackAdvance c) := ⟨by decide, packed (show span 0 [] ≤ 40 by decide)⟩
theorem lifecycleSet (c : Cmd) (target : Nat) (a : Nat) (img : List Byte) : Statement (.lifecycleSet c target a img) := ⟨by decide, packed (show span 0 [1] ≤ 40 by decide)⟩
theorem cosignerFuse (c : Cmd) (a : Nat) (img : List Byte) : Statement (.cosignerFuse c a img) := ⟨by decide, packed (show span 0 [] ≤ 40 by decide)⟩
theorem tokenNonce (c : Cmd) (a : Nat) : Statement (.tokenNonce c a) := ⟨by decide, packed (show span 0 [] ≤ 40 by decide)⟩
theorem fuseProgramDone : Statement (.fuseProgramDone) := rfl
theorem registerWrite (master : Nat) (off : Nat) (value : Word) : Statement (.registerWrite master off value) := rfl
theorem setupLock (master : Nat) : Statement (.setupLock master) := rfl
theorem systimeLoRead : Statement (.systimeLoRead) := rfl
theorem domainCfgWrite (master : Nat) (dom : Nat) (phase : Bool) (value : Word) : Statement (.domainCfgWrite master dom phase value) := rfl
theorem refHistClear (cand : Nat) (value : Word) : Statement (.refHistClear cand value) := rfl
theorem srcStatusClear (src : Nat) (value : Word) : Statement (.srcStatusClear src value) := rfl
theorem healthClear (reg : Nat) (value : Word) : Statement (.healthClear reg value) := rfl
theorem alogEntryRead (entry : Nat) : Statement (.alogEntryRead entry) := rfl
theorem cmdRingEnable (master : Nat) (ring : Nat) (value : Word) (line : Option Nat) : Statement (.cmdRingEnable master ring value line) := rfl
theorem cmdRingDisable (master : Nat) (ring : Nat) (value : Word) : Statement (.cmdRingDisable master ring value) := rfl
theorem cplRingEnable (master : Nat) (ring : Nat) (value : Word) : Statement (.cplRingEnable master ring value) := rfl
theorem cplRingDisable (master : Nat) (ring : Nat) (value : Word) : Statement (.cplRingDisable master ring value) := rfl
theorem evtRingEnable (master : Nat) (ring : Nat) (value : Word) : Statement (.evtRingEnable master ring value) := rfl
theorem evtRingDisable (master : Nat) (ring : Nat) (value : Word) : Statement (.evtRingDisable master ring value) := rfl
theorem reportCardEnable (master : Nat) (value : Word) : Statement (.reportCardEnable master value) := rfl
theorem msgRingEnable (master : Nat) (value : Word) : Statement (.msgRingEnable master value) := rfl
theorem xringEnable (master : Nat) (value : Word) : Statement (.xringEnable master value) := rfl
theorem macEnable (master : Nat) (mac : Nat) (value : Word) : Statement (.macEnable master mac value) := rfl
theorem moverReserveWrite (master : Nat) (value : Word) : Statement (.moverReserveWrite master value) := rfl
theorem recoveryGo (master : Nat) (value : Word) : Statement (.recoveryGo master value) := rfl
theorem recoveryDone (img : SlotImage) : Statement (.recoveryDone img) := rfl
theorem bar0DefaultAccess (master : Nat) (off : Nat) (size : Nat) (write : Bool) : Statement (.bar0DefaultAccess master off size write) := rfl
theorem bar2IoRequest (addr : Nat) (write : Bool) : Statement (.bar2IoRequest addr write) := rfl
theorem cxlMemAccess (dec : Nat) (off : Nat) (len : Nat) (write : Bool) (data : List Byte) : Statement (.cxlMemAccess dec off len write data) := rfl
theorem busTimeout (master : Nat) (addr : Nat) : Statement (.busTimeout master addr) := rfl
theorem busOrphan (master : Nat) (addr : Nat) : Statement (.busOrphan master addr) := rfl
theorem doorbellSnoop (kind : RingKind) (ring : Nat) (value : Nat) : Statement (.doorbellSnoop kind ring value) := rfl
theorem doorbellPoll (values : List (Nat × Nat)) : Statement (.doorbellPoll values) := rfl
theorem consumerIndexRead (kind : RingKind) (ring : Nat) (value : Nat) : Statement (.consumerIndexRead kind ring value) := rfl
theorem commandFetch (writes : List (Nat × List Byte)) (fetchOk : Bool) (hostOk : Bool) (cplOk : Bool) : Statement (.commandFetch writes fetchOk hostOk cplOk) := rfl
theorem eventRecordWrite (ok : Bool) : Statement (.eventRecordWrite ok) := rfl
theorem irqHoldoffEnd (vector : Nat) : Statement (.irqHoldoffEnd vector) := rfl
theorem reportCard (after : Nat) : Statement (.reportCard after) := rfl
theorem cxlLinkDown (cause : Nat) : Statement (.cxlLinkDown cause) := rfl
theorem cxlLinkUp (speed : Nat) (width : Nat) (io : Bool) (cache : Bool) (mem : Bool) : Statement (.cxlLinkUp speed width io cache mem) := rfl
theorem domainBoundary (dom : Nat) : Statement (.domainBoundary dom) := rfl
theorem selectorTick : Statement (.selectorTick) := rfl
theorem lossOfSignal (cand : Nat) : Statement (.lossOfSignal cand) := rfl
theorem losClear (cand : Nat) : Statement (.losClear cand) := rfl
theorem freqMeasure (offsets : List (Nat × Int)) : Statement (.freqMeasure offsets) := rfl
theorem candidateQualified (cand : Nat) : Statement (.candidateQualified cand) := rfl
theorem holdoverCorrection : Statement (.holdoverCorrection) := rfl
theorem holdoverDegraded : Statement (.holdoverDegraded) := rfl
theorem ocxoDacUpdate (code : Nat) : Statement (.ocxoDacUpdate code) := rfl
theorem ovenAdcRead (code : Nat) : Statement (.ovenAdcRead code) := rfl
theorem ovenStable : Statement (.ovenStable) := rfl
theorem cdcFifoErr (crossing : Nat) (overflow : Bool) : Statement (.cdcFifoErr crossing overflow) := rfl
theorem runAheadFilled (page : Nat) : Statement (.runAheadFilled page) := rfl
theorem armDeadline (page : Nat) : Statement (.armDeadline page) := rfl
theorem pageGuard (page : Nat) : Statement (.pageGuard page) := rfl
theorem commitResend (page : Nat) : Statement (.commitResend page) := rfl
theorem pageActivation (page : Nat) : Statement (.pageActivation page) := rfl
theorem crosspointLatch (word : Nat) (bad : Bool) : Statement (.crosspointLatch word bad) := rfl
theorem commitEvaluation (page : Nat) : Statement (.commitEvaluation page) := rfl
theorem armedRx (m : CommitMsg) : Statement (.armedRx m) := rfl
theorem refusedRx (m : CommitMsg) : Statement (.refusedRx m) := rfl
theorem commitRx (m : CommitMsg) : Statement (.commitRx m) := rfl
theorem commitAckRx (m : CommitMsg) : Statement (.commitAckRx m) := rfl
theorem withdrawnRx (m : CommitMsg) : Statement (.withdrawnRx m) := rfl
theorem runAheadRx (m : CommitMsg) (link : Nat) : Statement (.runAheadRx m link) := rfl
theorem runAheadCancelRx (m : CommitMsg) (link : Nat) : Statement (.runAheadCancelRx m link) := rfl
theorem platformLineRead (flow : Nat) (line : Nat) (f : ReadFault) : Statement (.platformLineRead flow line f) := rfl
theorem fabricCycleBoundary : Statement (.fabricCycleBoundary) := rfl
theorem fabricSlot (link : Nat) (sigBad : Bool) (genBad : Bool) : Statement (.fabricSlot link sigBad genBad) := rfl
theorem fabricCellRx (link : Nat) (rx : CellRx) : Statement (.fabricCellRx link rx) := rfl
theorem scheduledCellRx (link : Nat) (cell : List Byte) : Statement (.scheduledCellRx link cell) := rfl
theorem unscheduledCellRx (link : Nat) (cell : List Byte) : Statement (.unscheduledCellRx link cell) := rfl
theorem controlCellRx (link : Nat) (cell : List Byte) : Statement (.controlCellRx link cell) := rfl
theorem helloRx (link : Nat) (h : Hello) : Statement (.helloRx link h) := rfl
theorem helloSend (link : Nat) : Statement (.helloSend link) := rfl
theorem helloLoss (link : Nat) : Statement (.helloLoss link) := rfl
theorem timeRx (link : Nat) (m : TimeMsg) : Statement (.timeRx link m) := rfl
theorem creditRx (link : Nat) (n : Nat) : Statement (.creditRx link n) := rfl
theorem linkNoticeRx (m : Notice) (link : Nat) : Statement (.linkNoticeRx m link) := rfl
theorem quietWake (link : Nat) : Statement (.quietWake link) := rfl
theorem quietRefreshLoss (link : Nat) : Statement (.quietRefreshLoss link) := rfl
theorem lpiRefresh (link : Nat) : Statement (.lpiRefresh link) := rfl
theorem routeCheckRx (link : Nat) (m : RouteMsg) : Statement (.routeCheckRx link m) := rfl
theorem routeResultRx (link : Nat) (m : RouteMsg) : Statement (.routeResultRx link m) := rfl
theorem routeVerifyTimeout (feeder : Nat) : Statement (.routeVerifyTimeout feeder) := rfl
theorem routeReservationExpiry (feeder : Nat) : Statement (.routeReservationExpiry feeder) := rfl
theorem sdiHuntDwell (port : Nat) : Statement (.sdiHuntDwell port) := rfl
theorem sdiCdrLock (port : Nat) : Statement (.sdiCdrLock port) := rfl
theorem sdiIdentTimeout (port : Nat) : Statement (.sdiIdentTimeout port) := rfl
theorem sdiSignalLoss (port : Nat) (cause : Nat) : Statement (.sdiSignalLoss port cause) := rfl
theorem sdiFrameStart (port : Nat) (f : SdiFrame) : Statement (.sdiFrameStart port f) := rfl
theorem sdiLineRx (port : Nat) (l : SdiLine) : Statement (.sdiLineRx port l) := rfl
theorem sdiTxLine (port : Nat) (f : ReadFault) (genBad : Bool) (skew : Int) : Statement (.sdiTxLine port f genBad skew) := rfl
theorem ethFrameRx (mac : Nat) (frame : List Byte) (f : EthFault) : Statement (.ethFrameRx mac frame f) := rfl
theorem nmpLinkUp (mac : Nat) (hcd : Nat) : Statement (.nmpLinkUp mac hcd) := rfl
theorem nmpLinkDown (mac : Nat) (cause : Nat) : Statement (.nmpLinkDown mac cause) := rfl
theorem nmpAnRetry (mac : Nat) : Statement (.nmpAnRetry mac) := rfl
theorem nmpNoPacketTimeout (flow : Nat) : Statement (.nmpNoPacketTimeout flow) := rfl
theorem nmpLegLost (flow : Nat) (leg : Nat) : Statement (.nmpLegLost flow leg) := rfl
theorem nmpPacketSend (flow : Nat) (leg : Nat) (f : ReadFault) (genBad : Bool) : Statement (.nmpPacketSend flow leg f genBad) := rfl
theorem nmpTxLate (flow : Nat) (leg : Nat) : Statement (.nmpTxLate flow leg) := rfl
theorem nmpGateStart (mac : Nat) : Statement (.nmpGateStart mac) := rfl
theorem nmpGateInterval (mac : Nat) : Statement (.nmpGateInterval mac) := rfl
theorem mgmtMacCollision (sent : Nat) (slots : Nat) : Statement (.mgmtMacCollision sent slots) := rfl
theorem mgmtBackoffEnd : Statement (.mgmtBackoffEnd) := rfl
theorem laneStepDone (x : LaneStep) : Statement (.laneStepDone x) := rfl
theorem laneStepTimeout (x : LaneLimit) : Statement (.laneStepTimeout x) := rfl
theorem laneRetry (lane : Nat) : Statement (.laneRetry lane) := rfl
theorem laneLockLost (lane : Nat) : Statement (.laneLockLost lane) := rfl
theorem laneMarginMeasure (lane : Nat) (h : Nat) (v : Nat) : Statement (.laneMarginMeasure lane h v) := rfl
theorem laneShadowReady (die : Nat) (spare : Nat) (farReady : Bool) : Statement (.laneShadowReady die spare farReady) := rfl
theorem engineWorkItem (pf : Nat) (slot : Nat) (item : Nat) (f : ReadFault) (parity : Bool) (srcPpm : Int) : Statement (.engineWorkItem pf slot item f parity srcPpm) := rfl
theorem srcRecover (pf : Nat) : Statement (.srcRecover pf) := rfl
theorem frameSyncDecision (pf : Nat) : Statement (.frameSyncDecision pf) := rfl
theorem engineAuditTick (room : Nat) (crc : Nat) : Statement (.engineAuditTick room crc) := rfl
theorem engineAuditThirdOpinion (room : Nat) (crc : Nat) : Statement (.engineAuditThirdOpinion room crc) := rfl
theorem layerDecision (pf : Nat) : Statement (.layerDecision pf) := rfl
theorem matrixSamplePeriod (residueBad : Option Nat) (bad : List (Nat × ReadFault)) : Statement (.matrixSamplePeriod residueBad bad) := rfl
theorem audPortFrameRx (port : Nat) (stamp : Nat) (words : List Nat) (inactive : List Nat) (rate : Nat) (codingErr : Nat) (crccErr : Nat) : Statement (.audPortFrameRx port stamp words inactive rate codingErr crccErr) := rfl
theorem audPortFrameTx (port : Nat) (stamp : Nat) : Statement (.audPortFrameTx port stamp) := rfl
theorem audClockLoss (port : Nat) : Statement (.audClockLoss port) := rfl
theorem trainStepDone (ctrl : Nat) (fail : Option Nat) : Statement (.trainStepDone ctrl fail) := rfl
theorem memRead (master : Nat) (store : Nat) (addr : Nat) (len : Nat) (f : MemFault) : Statement (.memRead master store addr len f) := rfl
theorem memWrite (master : Nat) (store : Nat) (addr : Nat) (data : List Byte) (readBad : Bool) : Statement (.memWrite master store addr data readBad) := rfl
theorem rowIdleClose (ctrl : Nat) (bank : Nat) : Statement (.rowIdleClose ctrl bank) := rfl
theorem refreshDue (ctrl : Nat) (rank : Nat) (queued : Bool) : Statement (.refreshDue ctrl rank queued) := rfl
theorem dimmTempRead (ctrl : Nat) (dimm : Nat) (temp : Nat) : Statement (.dimmTempRead ctrl dimm temp) := rfl
theorem memCalibration (ctrl : Nat) (kind : Nat) : Statement (.memCalibration ctrl kind) := rfl
theorem scrubPassEnd (x : ScrubPass) : Statement (.scrubPassEnd x) := rfl
theorem pairingTimeout : Statement (.pairingTimeout) := rfl
theorem beatSend : Statement (.beatSend) := rfl
theorem beatRx (m : PairMsg) (path : Nat) (agree : Bool) : Statement (.beatRx m path agree) := rfl
theorem pairAckRx (m : PairMsg) (path : Nat) : Statement (.pairAckRx m path) := rfl
theorem takeRx (m : PairMsg) (path : Nat) : Statement (.takeRx m path) := rfl
theorem askRx (m : PairMsg) (path : Nat) : Statement (.askRx m path) := rfl
theorem passSend : Statement (.passSend) := rfl
theorem passRx (m : PairMsg) (path : Nat) : Statement (.passRx m path) := rfl
theorem passAckRx (m : PairMsg) (path : Nat) : Statement (.passAckRx m path) := rfl
theorem handoverConfirmPoint : Statement (.handoverConfirmPoint) := rfl
theorem confirmRx (m : PairMsg) (path : Nat) : Statement (.confirmRx m path) := rfl
theorem pairCancelRx (m : PairMsg) (path : Nat) : Statement (.pairCancelRx m path) := rfl
theorem handoverAtB : Statement (.handoverAtB) := rfl
theorem relayEnd : Statement (.relayEnd) := rfl
theorem jackRx (m : PairMsg) (path : Nat) : Statement (.jackRx m path) := rfl
theorem leaveRx (m : PairMsg) (path : Nat) : Statement (.leaveRx m path) := rfl
theorem journalRecordRx (jseq : Nat) (type : Nat) (fi : Nat) (data : List Byte) (lost : Option Nat) : Statement (.journalRecordRx jseq type fi data lost) := rfl
theorem journalDiverged : Statement (.journalDiverged) := rfl
theorem pathLivenessTimeout (path : Nat) : Statement (.pathLivenessTimeout path) := rfl
theorem leaseEnd : Statement (.leaseEnd) := rfl
theorem recessWake : Statement (.recessWake) := rfl
theorem takeoverWakeDone : Statement (.takeoverWakeDone) := rfl
theorem takeoverRestoreDone : Statement (.takeoverRestoreDone) := rfl
theorem firstCommit (dom : Nat) : Statement (.firstCommit dom) := rfl
theorem restoredFlowTimeout (flow : Nat) : Statement (.restoredFlowTimeout flow) := rfl
theorem revertHoldOff : Statement (.revertHoldOff) := rfl
theorem warmPeriodEnd : Statement (.warmPeriodEnd) := rfl
theorem conseqWindowEnd : Statement (.conseqWindowEnd) := rfl
theorem chipResetReaction : Statement (.chipResetReaction) := rfl
theorem nmtSnapshotTaken (bytes : List Byte) : Statement (.nmtSnapshotTaken bytes) := rfl
theorem blockErrorPin (block : Nat) (room : Nat) : Statement (.blockErrorPin block room) := rfl
theorem rollCall (dom : Nat) : Statement (.rollCall dom) := rfl
theorem aliveToggle : Statement (.aliveToggle) := rfl
theorem fwWatchdog : Statement (.fwWatchdog) := rfl
theorem pwrBlockAnswer : Statement (.pwrBlockAnswer) := rfl
theorem pwrAckTimeout : Statement (.pwrAckTimeout) := rfl
theorem pwrTransitionDone : Statement (.pwrTransitionDone) := rfl
theorem pwrRetry : Statement (.pwrRetry) := rfl
theorem serviceWake (ring : Nat) : Statement (.serviceWake ring) := rfl
theorem serviceWakeEnd : Statement (.serviceWakeEnd) := rfl
theorem avsRequest (rail : Nat) : Statement (.avsRequest rail) := rfl
theorem avsResponse (rail : Nat) (mv : Nat) : Statement (.avsResponse rail mv) := rfl
theorem avsTimeout (rail : Nat) (error : Bool) : Statement (.avsTimeout rail error) := rfl
theorem avsRead (readings : List (Nat × Nat × Nat)) : Statement (.avsRead readings) := rfl
theorem sensorSample (codes : List Int) : Statement (.sensorSample codes) := rfl
theorem thermTripRelease : Statement (.thermTripRelease) := rfl
theorem thermalLoop (edges : List Nat) : Statement (.thermalLoop edges) := rfl
theorem fanStall (out : Nat) : Statement (.fanStall out) := rfl
theorem powerUp : Statement (.powerUp) := rfl
theorem perstRelease : Statement (.perstRelease) := rfl
theorem perstAssert : Statement (.perstAssert) := rfl
theorem sysPwrgdFall : Statement (.sysPwrgdFall) := rfl
theorem gpio0Wake : Statement (.gpio0Wake) := rfl
theorem bootImageVerified (a : SlotImage) (b : SlotImage) : Statement (.bootImageVerified a b) := rfl
theorem cxlConfigReady : Statement (.cxlConfigReady) := rfl
theorem tamperAssert : Statement (.tamperAssert) := rfl
theorem dpllSettled : Statement (.dpllSettled) := rfl
theorem ptpMessageSend (mac : Nat) (frame : PtpFrame) : Statement (.ptpMessageSend mac frame) := rfl
theorem runAheadRequestExpiry (page : Nat) : Statement (.runAheadRequestExpiry page) := rfl
theorem engineTileResetRelease (room : Nat) (tile : Nat) : Statement (.engineTileResetRelease room tile) := rfl
theorem rgmiiInBandStatus (link : Bool) (speed : Nat) (full : Bool) : Statement (.rgmiiInBandStatus link speed full) := rfl

end Sys2Proof.Laws.FitsEntry
end

