-- ==== Sys2Proof/Machine/Tap.lean ====
section
/-!
DEFINITION. The test port (R451): the IEEE 1149.1 controller, its instructions and its registers. No row of the table clocks the
port, and TRST_N is held low in service, so no command reaches these operations (notes/assumptions/139.md).
-/
namespace Sys2Proof.Machine
open Sys2Proof

/-- The IDCODE. -/
def tapIdcode : Nat := 0xB1024E4D

/-- The controller's next state on a rising edge of TCK with TMS. -/
def tapNext (tms : Bool) : TapSt → TapSt
  | .reset => if tms then .reset else .idle
  | .idle => if tms then .selectDr else .idle
  | .selectDr => if tms then .selectIr else .captureDr
  | .captureDr => if tms then .exit1Dr else .shiftDr
  | .shiftDr => if tms then .exit1Dr else .shiftDr
  | .exit1Dr => if tms then .updateDr else .pauseDr
  | .pauseDr => if tms then .exit2Dr else .pauseDr
  | .exit2Dr => if tms then .updateDr else .shiftDr
  | .updateDr => if tms then .selectDr else .idle
  | .selectIr => if tms then .reset else .captureIr
  | .captureIr => if tms then .exit1Ir else .shiftIr
  | .shiftIr => if tms then .exit1Ir else .shiftIr
  | .exit1Ir => if tms then .updateIr else .pauseIr
  | .pauseIr => if tms then .exit2Ir else .pauseIr
  | .exit2Ir => if tms then .updateIr else .shiftIr
  | .updateIr => if tms then .selectDr else .idle

/-- The instruction a code of the instruction register stands for; the manual gives the names and not the codes. -/
def tapDecode (ir : List Bool) : TapIns :=
  match Config.tapCode ir with
  | 0 => .bypass
  | 1 => .idcode
  | 2 => .sample
  | 3 => .extest
  | 4 => .clamp
  | 5 => .highz
  | n => .other n

/-- BYPASS, IDCODE, SAMPLE/PRELOAD, EXTEST, CLAMP and HIGHZ are available in every lifecycle state; every other instruction
acts only while the debug port is enabled, and selects the bypass register otherwise (R430, R451). -/
def tapTaken (s : State) (i : TapIns) : TapIns :=
  match i with
  | .other n => if debugOn s then .other n else .bypass
  | i => i

/-- The kinds of ball, and those the boundary-scan chain covers. -/
inductive BallKind where
  | lvcmos18
  | lvds
  | ddr5
  | serialLane
  | sdi
  | cxl
deriving DecidableEq, Repr

def inChain : BallKind → Bool
  | .lvcmos18 => true
  | .lvds => true
  | .ddr5 => true
  | .serialLane => false
  | .sdi => false
  | .cxl => false

/-- What a data register captures: the IDCODE, the balls' levels in the boundary chain, or a 0 in the bypass register. -/
def tapCapture (s : State) (balls : List Bool) : List Bool :=
  match tapTaken s s.sec.tap.ins with
  | .idcode => (List.range 32).map (fun i => bit tapIdcode i)
  | .sample => balls.take Config.tapCells
  | .extest => balls.take Config.tapCells
  | _ => [false]

/-- One bit shifted in at the far end of a register. -/
def shiftIn (tdi : Bool) (l : List Bool) : List Bool := l.drop 1 ++ [tdi]

/-- The bit that leaves at TDO. -/
def tapTdo (t : Tap) : Bool :=
  match t.st with
  | .shiftIr => t.irShift.headD false
  | .shiftDr => t.drShift.headD false
  | _ => false

/-- One rising edge of TCK, with the levels of TMS, TDI and the balls: the present state acts, then the next one is entered.
TRST_N low holds the port in Test-Logic-Reset. -/
def tapClock (tms tdi : Bool) (balls : List Bool) (s : State) : State :=
  let t := s.sec.tap
  if t.trstLow then s
  else
    let t := match t.st with
      | .reset => { t with ins := .idcode }
      | .captureIr => { t with irShift := true :: (List.range (Config.tapIrLen - 1)).map (fun _ => false) }
      | .shiftIr => { t with irShift := shiftIn tdi t.irShift }
      | .updateIr => { t with ins := tapDecode t.irShift }
      | .captureDr => { t with drShift := tapCapture s balls }
      | .shiftDr => { t with drShift := shiftIn tdi t.drShift }
      | .updateDr =>
        if t.ins == TapIns.sample || t.ins == TapIns.extest then { t with cells := t.drShift } else t
      | _ => t
    { s with sec := { s.sec with tap := { t with st := tapNext tms t.st } } }

/-- TRST_N as it stands: low resets the port. -/
def tapTrst (low : Bool) (s : State) : State :=
  { s with sec := { s.sec with tap := if low then {} else { s.sec.tap with trstLow := false } } }

/-- What drives a ball of the chain while an instruction stands: the core, its boundary cell, or nothing. -/
inductive BallDrive where
  | core
  | cell (level : Bool)
  | floating
deriving DecidableEq, Repr

def ballDrive (s : State) (cell : Nat) : BallDrive :=
  match tapTaken s s.sec.tap.ins with
  | .extest => .cell (s.sec.tap.cells.getD cell false)
  | .clamp => .cell (s.sec.tap.cells.getD cell false)
  | .highz => .floating
  | _ => .core

end Sys2Proof.Machine
end

