-- ==== Sys2Proof/Tests/Slice0.lean ====
section
/-!
SUPPORT. Tests: ill-formed commands that WellFormed refuses, worked figures of the spec, and for every statement that has
hypotheses a state and operands that meet them.
-/
namespace Sys2Proof.Tests
open Sys2Proof Sys2Proof.Machine

/-! ## Well-formedness: one ill-formed term for each check -/

theorem test_wf_well_formed : Instr.wf (.xpDirect { ring := 63, tag := 2 ^ 32 - 1 } 65535 255 65535) = true := by decide
theorem test_wf_refuses_ring : Instr.wf (.nop { ring := 64, tag := 0 }) = false := by decide
theorem test_wf_refuses_tag : Instr.wf (.nop { ring := 0, tag := 2 ^ 32 }) = false := by decide
theorem test_wf_refuses_address : Instr.wf (.versionRead { ring := 0, tag := 0 } (2 ^ 64)) = false := by decide
theorem test_wf_refuses_parameter : Instr.wf (.flowStart { ring := 0, tag := 0 } 65536) = false := by decide
theorem test_wf_refuses_other_row : Instr.wf (.refForce { ring := 0, tag := 0 } 31) = false := by decide
theorem test_wf_refuses_event_unit : Instr.wf (.domainBoundary 8) = false := by decide

/-! ## Figures of the spec -/

/-- R414: with the default coefficients BASE is 144 W, in 0.01 W. -/
theorem test_power_estimate_base : estPower State.reset = 14400 := by decide
/-- R440, the worked example's rails in RUN: 356.48 W read and 26 + 24 + 8 + 50.5 W by the table. -/
theorem test_power_report :
    powerW { State.reset with pwr := { State.reset.pwr with rails := [(0, { mv := 735, iout := 4100 }), (1, { mv := 745, iout := 380 }),
      (2, { mv := 745, iout := 360 })] } } = 465 := by decide +kernel
/-- R406: the second request waits, and the third replaces it with PWR_SUPERSEDED. -/
theorem test_power_third_request_supersedes :
    let s : State := { State.reset with pwr := { State.reset.pwr with
      trans := some { target := .trim, todo := [7, 8], agreed := [], asked := 0, tag := some 0x0A11 }, pend := some (.run, some 0x0A12) } }
    (requestPower .off (some 0x0A13) s).pwr.pend = some (.off, some 0x0A13) := by decide
/-- R436, the worked example: counter 6 and OTHER_LOW 1 once SVN 6 runs from slot B and slot A holds SVN 5. -/
theorem test_rollback_result :
    (opFuseProgramDone { State.reset with sec := { State.reset.sec with
      counter := 5, slot := 1, run := some (.counter { ring := 0, tag := 7 } 6), slotA := [0, 0, 0, 0, 0, 0, 0, 5], slotB := [0, 0, 0, 0, 0, 0, 0, 6] } }).hif.replied =
      some { ring := 0, tag := 7, op := 0x0B20, st := 0, result := 6 + 256, err := 0 } := by decide
/-- R424, the worked example: A superseded is skipped, and B boots. -/
theorem test_boot_order_skips_superseded : bootOrder (List.replicate 4095 1 ++ [0]) [] = [1, 0] := by decide +kernel
/-- R430: nothing follows ENDED, and DEPLOYED becomes RETURNED by a token. -/
theorem test_lifecycle_transitions : lifeStep 4 4 = false ∧ lifeStep 2 3 = true ∧ needsToken 2 3 = true ∧ lifeStep 3 1 = false := by decide
/-- R377, R438: 0x228 is the last source of group 17. -/
theorem test_sources_assigned : assigned 0x228 = true ∧ assigned 0x229 = false ∧ assigned 0x008 = false := by decide
/-- The published check value of CRC-32C over the nine digits. -/
theorem test_crc32c_check : crc32c [0x31, 0x32, 0x33, 0x34, 0x35, 0x36, 0x37, 0x38, 0x39] = 0xE3069283 := by decide +kernel
/-- R381: COUNT saturates at 255. -/
theorem test_count_saturates :
    (srcStat (raise { src := 0x020 } { State.reset with flt := { State.reset.flt with stat := [(0x020, { count := 255 })] } }) 0x020).count = 255 := by
  decide
/-- R355: a pair message survives its 32 bytes. -/
theorem test_pair_message_bytes :
    parsePair (pairBytes { kind := 5, state := 3, home := true, ready := true, gen := 41, seq := 9, fi := 70, domain := 2 }) =
      { kind := 5, state := 3, home := true, ready := true, gen := 41, seq := 9, fi := 70, domain := 2 } := by decide
/-- R404: the order in which blocks are asked. -/
theorem test_power_block_order : blocksFor .run .off = [1, 2, 3, 4, 5, 6, 7, 8, 9] ∧ blocksFor .run .trim = [7, 8] := by decide
/-- R341: VERSION_READ begins with IDENT_ID of stepping B0. -/
theorem test_version_record : (versionRecord State.reset).take 4 = [0x00, 0xB0, 0x24, 0x10] := by decide
/-- R333: a command in the front of the queue runs, and leaves the queue. -/
theorem test_step_takes_the_front :
    (match step { State.reset with pending := [.cxlConfigReady] } with
      | .next t => t.pending == [] && t.pwr.cxlReady
      | _ => false) = true := by decide

/-! ## A witness for every statement that has hypotheses -/

/-- Every controller TRAINED, a window open over the first GiB of the delay store, and a mover with a RESERVE. -/
def witMem : State :=
  { (wr (wr (wr State.reset .memDdrCfg 0 0 (255 * 2 ^ 24 + 2 ^ 20)) .memMoverCfg 0 0 4) .memRegion 0 0 0) with
    mem := { State.reset.mem with
      ctrls := (List.range 12).map (fun k => (k, { st := .trained })), wins := [(1, { opened := true, store := 1, base := 0, size := 1 })] } }

/-- The ROM verifies the images, PERST# released; and a boot that failed. -/
def witBoot (b : Boot) : State := { State.reset with pwr := { State.reset.pwr with boot := b, perst := false, st := .trim } }

/-- An image of this device without a body, signed. -/
def witImage : SlotImage :=
  { bytes := leBytes 4 imgMagic ++ leBytes 2 (bits identWord 31 16) ++ leBytes 1 (bits identWord 15 8) ++ leBytes 1 0 ++ leBytes 4 0 ++
      leBytes 4 0 ++ leBytes 32 (Config.shake [])
    sigOk := true }

/-- It verifies on a device that holds the digest of its key. -/
theorem witness_image_verifies :
    slotResult { witBoot .verifying with sec := { State.reset.sec with keyDigest := Config.shake (calzelKey witImage.bytes) } } witImage = 1 := by
  have hm : imgField witImage.bytes 0 4 = imgMagic := rfl
  have hu : unitOk (imgField witImage.bytes 4 2) (imgField witImage.bytes 6 1) = true := rfl
  have hv : imgSvn witImage.bytes = 0 := rfl
  have hb : bodyOk witImage.bytes = true := by
    have h : imgBytes witImage.bytes 16 32 = leBytes 32 (Config.shake []) := rfl
    have e : imgBody witImage.bytes = [] := rfl
    simp [bodyOk, h, e]
  unfold slotResult
  simp only [hm, hu, hv, hb, keysOk]
  simp [witImage, State.reset]

theorem witness_StepRunsFrontCommand :
    ({ State.reset with pending := [.aliveToggle, .powerUp] } : State).pending = .aliveToggle :: [.powerUp] := by decide

theorem witness_IdleStepPassesTime :
    State.reset.pending = [] ∧ counterRate State.reset = 0 ∧ State.reset.tim.frac < 2 ^ 32 := by decide

theorem witness_EntryRunsItsCommand :
    Instr.wf (.cellRowSpare { ring := 63, tag := 2 ^ 32 - 1 } 95 255 7 (2 ^ 32 - 1)) = true ∧
    entryOf (.cellRowSpare { ring := 63, tag := 2 ^ 32 - 1 } 95 255 7 (2 ^ 32 - 1)) ≠ none := by decide

theorem witness_EveryStepCarriesOutItsResets :
    State.reset.flt.resetQ = [] := by decide

theorem witness_GeneralCommandsComplete :
    Clear State.reset ∧ busyRings State.reset 0 = [] ∧
    Clear { State.reset with hif := { State.reset.hif with cmd := [(1, { busy := true })] } } ∧
    busyRings { State.reset with hif := { State.reset.hif with cmd := [(1, { busy := true })] } } 0 ≠ [] := by decide

theorem witness_LockFreezesRwlFields :
    Settled { State.reset with hif := { State.reset.hif with lock := true } } ∧
    masterOk { State.reset with hif := { State.reset.hif with lock := true } } 4 = true ∧
    locate 0x100000 = some (.hifCfg, 0, 0) ∧
    (regWord { State.reset with hif := { State.reset.hif with lock := true } } .hifCfg 0 0 ^^^
      mergeWord .hifCfg (regWord { State.reset with hif := { State.reset.hif with lock := true } } .hifCfg 0 0) 2) &&& (regSpec .hifCfg).rwl ≠ 0 := by decide

theorem witness_PlainRegisterWriteTaken :
    Settled State.reset ∧ masterOk State.reset 4 = true ∧ locate 0x103104 = some (.hifEvtRoute, 1, 0) ∧ State.reset.hif.lock = false ∧
    rangeBad .hifEvtRoute 1 (mergeWord .hifEvtRoute (rd State.reset .hifEvtRoute 1) 7) = false := by decide

theorem witness_RingsStart :
    Settled State.reset ∧ State.reset.hif.lock = false ∧ (cmdRing State.reset 63).en = false ∧
    (cplRing { State.reset with hif := { State.reset.hif with cpl := [(63, { en := true })] } } 63).en = true ∧
    Memory.wf State.reset.hif.mem = true ∧ (cplRing State.reset 0).en = false ∧ (evtRing State.reset 7).en = false ∧
    (evtRing State.reset 7).owed = 0 ∧ State.reset.hif.held = [] ∧ State.reset.aqf.msgEn = false ∧ State.reset.nmp.xEn = false := by decide

theorem witness_RingsStop :
    Settled { State.reset with hif := { State.reset.hif with cmd := [(3, { en := true })], cpl := [(0, { en := true }), (5, { en := true })], evt := [(7, { en := true })] } } ∧
    rangeBad .hifCmdCfg 3 (rd State.reset .hifCmdCfg 3) = false ∧ rangeBad .hifCplCfg 5 (rd State.reset .hifCplCfg 5) = false ∧
    rangeBad .hifEvtCfg 7 (rd State.reset .hifEvtCfg 7) = false ∧
    ({ State.reset with hif := { State.reset.hif with cmd := [(3, { en := true })] } } : State).hif.cmd.any (fun p => p.2.en && cplOf State.reset p.1 == 5) = false ∧
    ({ State.reset with hif := { State.reset.hif with cmd := [(3, { en := true })] } } : State).hif.cmd.any (fun p => p.2.en && cplOf State.reset p.1 == 0) = true := by decide

theorem witness_BusErrorsAreReported :
    Settled State.reset ∧ bit State.reset.flt.alogValid State.reset.flt.alogNext = false := by decide

theorem witness_DoorbellsAndIndices :
    Settled { State.reset with hif := { State.reset.hif with cmd := [(63, { en := true })], cpl := [(0, { en := true, used := 256 })] } } ∧
    polling { State.reset with hif := { State.reset.hif with cmd := [(63, { en := true })], cpl := [(0, { en := true, used := 256 })] } } = true ∧
    (15 < cmdSize State.reset 63) ∧ cmdSize State.reset 63 ≤ 16 ∧
    polling { State.reset with hif := { State.reset.hif with cxlCache := true, lines := [0] } } = false ∧
    doorbell State.reset 63 = 0 ∧ cplSize State.reset 0 = 256 := by decide

theorem witness_EventRecordsReachTheirRing :
    Settled { State.reset with flt := { State.reset.flt with evq := [{ stamp := 0, src := 5, kind := 0, sev := 0, addr := 0, data := [], tag := 0, signal := false }] }, hif := { State.reset.hif with evt := [(0, { en := true })] } } ∧
    routeOf State.reset { stamp := 0, src := 5, kind := 0, sev := 0, addr := 0, data := [], tag := 0, signal := false } = 0 ∧
    evtSize State.reset 0 = 256 ∧ Memory.wf State.reset.hif.mem = true := by decide

theorem witness_HeldOffVectorFires :
    Settled { State.reset with hif := { State.reset.hif with msix := [(63, { ctrl := 0, until_ := 20000, deferred := some 20 })] } } ∧
    (tgetD ([(63, { ctrl := 0, until_ := 20000, deferred := some 20 })] : Tab MsixVec) 63 {}).deferred = some 20 ∧
    bit (tgetD ([(63, { ctrl := 0, until_ := 20000, deferred := some 20 })] : Tab MsixVec) 63 {}).ctrl.toNat 0 = false ∧ State.reset.hif.fnMask = false ∧
    (tgetD State.reset.hif.msix 63 {}).deferred = none := by decide

theorem witness_CxlLinkChanges :
    Settled State.reset ∧ State.reset.flt.evq = [] ∧ fld State.reset .hifLinkCfg 0 3 0 ≤ 5 ∧ fld State.reset .hifLinkCfg 0 7 4 ≤ 3 ∧
    ({ stamp := 0, src := 5, kind := 1, sev := 0, addr := 0, data := [], tag := 0, signal := true } : EvRec).kind = 1 ∧ State.reset.hif.held.length < 256 := by decide

theorem witness_CommandFetchRunsTheRing :
    Settled { State.reset with pwr := { State.reset.pwr with boot := .firmware }, hif := { State.reset.hif with cmd := [(5, { en := true, producer := 1 })], cpl := [(0, { en := true, phase := true })] } } ∧
    nextRing { State.reset with pwr := { State.reset.pwr with boot := .firmware }, hif := { State.reset.hif with cmd := [(5, { en := true, producer := 1 })], cpl := [(0, { en := true, phase := true })] } } = some 5 ∧
    (lookupOp 0 { ring := 5, tag := 0 } { op := 0, tag := 0, addr0 := 0, addr1 := 0, args := [] }).isNone = true ∧
    (lookupOp 1 { ring := 5, tag := 0 } { op := 1, tag := 0, addr0 := 0, addr1 := 0, args := [] }).isSome = true := by decide

theorem witness_ReportCardsAlternate :
    Settled State.reset ∧ State.reset.hif.lock = false ∧ bit (rd State.reset .hifCfg 0) 2 = false ∧
    bit (rd (wr State.reset .hifCfg 0 0 4) .hifCfg 0) 2 = true ∧ (wr State.reset .hifCfg 0 0 4).pwr.st = .run ∧ Memory.wf State.reset.hif.mem = true := by decide

theorem witness_DomainsRunAndBoundariesStrobe :
    Settled State.reset ∧ domPhase State.reset 7 < fpFloor 8 ∧ domActive State.reset 7 = false ∧
    domActive { State.reset with flows := [(0, { st := .running, domain := 7 })] } 7 = true ∧
    domEn (wr State.reset .timDomCfg 7 0 (2 ^ 31 + 3)) 7 = true ∧ domEn State.reset 0 = false := by decide

theorem witness_MediaMacStarts :
    Settled (wr State.reset .lnxLaneCfg 0 0 (2 ^ 30)) ∧ bit (rd (wr State.reset .lnxLaneCfg 0 0 (2 ^ 30)) .nmpMacCfg 0) 31 = false ∧
    rangeBad .nmpMacCfg 0 (mergeWord .nmpMacCfg (rd (wr State.reset .lnxLaneCfg 0 0 (2 ^ 30)) .nmpMacCfg 0) (2 ^ 31 + 2 ^ 26 + 1518)) = false ∧
    placementOk (wr State.reset .lnxLaneCfg 0 0 (2 ^ 30)) 0 (mergeWord .nmpMacCfg (rd (wr State.reset .lnxLaneCfg 0 0 (2 ^ 30)) .nmpMacCfg 0) (2 ^ 31 + 2 ^ 26 + 1518)) = true ∧
    placementOk State.reset 0 (mergeWord .nmpMacCfg (rd State.reset .nmpMacCfg 0) (2 ^ 31 + 2 ^ 26 + 1518)) = false := by decide

theorem witness_FaultCommandsComplete :
    Clear State.reset ∧ 638 + 2 ≤ 640 ∧ assigned 0x24A = true ∧ assigned 8 = false ∧
    Clear { State.reset with flt := { State.reset.flt with aliveStopped := true, snap := some { src := 3, stamp := 4, bytes := [1] } } } ∧
    State.reset.flt.aliveStopped = false ∧ State.reset.flt.snap = none := by decide

theorem witness_FaultCollectorEvents :
    Settled State.reset ∧ bit (0xC0000000 : Word).toNat 30 = true ∧ bit (1 : Word).toNat 29 = false ∧
    bit State.reset.flt.health 60 = false ∧ bit (rd State.reset .fltCfg 0) 31 = true ∧
    bit (rd (wr State.reset .fltCfg 0 0 0) .fltCfg 0) 31 = false ∧ domEn (wr State.reset .timDomCfg 4 0 (2 ^ 31 + 8)) 4 = true ∧ domEn State.reset 4 = false ∧ State.reset.flt.aliveStopped = false := by decide

theorem witness_TimingCommandsComplete :
    Clear State.reset ∧ pageArmed State.reset = false ∧ anyActive State.reset = false ∧ State.reset.tim.pend = none ∧
    (tgetD State.reset.tim.ptb 3 {}).pend = none ∧ (tgetD State.reset.tim.cands 16 {}).qualified = false ∧
    Clear { State.reset with tim := { State.reset.tim with pend := some (-5), ptb := [(3, { pend := some 7 })], cands := [(16, { qualified := true })], sel := 16 } } ∧
    Clear { State.reset with flows := [(0, { st := .held })] } ∧ anyActive { State.reset with flows := [(0, { st := .held })] } = true := by decide

theorem witness_ReferencesQualifyAndAreSelected :
    Settled (wr State.reset .timRefCfg 3 0 (2 ^ 31 + 2 ^ 27)) ∧ candEn (wr State.reset .timRefCfg 3 0 (2 ^ 31 + 2 ^ 27)) 3 = true ∧ candEn State.reset 3 = false ∧
    rejectLim State.reset 3 < (20000000 : Int).natAbs ∧ (0 : Int).natAbs ≤ acceptLim State.reset 3 ∧ (0 : Int).natAbs ≤ rejectLim State.reset 3 ∧
    bit (rd (wr State.reset .timSelCfg 0 0 1) .timSelCfg 0) 0 = true ∧ bit (rd (wr State.reset .timSelCfg 0 0 0) .timSelCfg 0) 0 = false ∧
    eligible { (wr (wr State.reset .timRefCfg 3 0 (2 ^ 31 + 2 ^ 27)) .timSelCfg 0 0 1) with tim := { State.reset.tim with cands := [(3, { qualified := true })] } } = [3] ∧
    eligible State.reset = [] ∧ State.reset.tim.forced = false ∧ State.reset.tim.sel ≠ 3 ∧ bit (4 : Word).toNat 2 = true := by decide

theorem witness_HoldoverOscillatorAndCounterRead :
    Settled State.reset ∧ holdQuality { State.reset with tim := { State.reset.tim with ovenStable := true, history := 300000000000, holdSince := some 0 } } ≠ 0 ∧
    State.reset.tim.holdSince = none ∧ State.reset.tim.ovenSince = none ∧ State.reset.tim.mode ≠ .holdover ∧ State.reset.tim.coef = [0, 0, 0, 0] ∧ 5 < 2 ^ fld State.reset .timOcxoCfg 0 28 24 := by decide

theorem witness_FlowsAreDefinedReadAndDeleted :
    Clear (wr State.reset .timDomCfg 0 0 (2 ^ 31 + 8)) ∧
    firstErr (defineChecks (place 64 ([0, 0, 0, 0, 0, 5, 0x80, 0, 0x81, 3] ++ List.replicate 54 0) (wr State.reset .timDomCfg 0 0 (2 ^ 31 + 8))) 64) = none ∧
    firstErr (defineChecks (place 64 ([0, 0, 0, 0, 0, 70, 0x80, 0, 0x81, 3] ++ List.replicate 54 0) (wr State.reset .timDomCfg 0 0 (2 ^ 31 + 8))) 64) = some { st := 0x11, err := 69 } ∧
    flowNumOk 32769 = true ∧ (flow? { State.reset with flows := [(32769, {})] } (normFlow 32769)).isSome = true ∧
    active (flowD { State.reset with flows := [(32769, {})] } 32769) = false ∧ active (flowD { State.reset with flows := [(32769, { st := .held })] } 32769) = true ∧
    memberOf { State.reset with flows := [(32769, {})] } 32769 = none ∧ flow? State.reset 5 = none := by decide

theorem witness_FlowsRunAndStop :
    Clear { (wr State.reset .timDomCfg 0 0 (2 ^ 31 + 8)) with flows := [(5, { format := 0x381, locked := true, port := 9 })], svp := { State.reset.svp with rx := [(9, { st := .hunt, mode := 1 })] } } ∧
    firstErr (startChecks { ring := 0, tag := 0 } 5 { (wr State.reset .timDomCfg 0 0 (2 ^ 31 + 8)) with flows := [(5, { format := 0x381, locked := true, port := 9 })], svp := { State.reset.svp with rx := [(9, { st := .hunt, mode := 1 })] } } ++
      startBudgets 5 { (wr State.reset .timDomCfg 0 0 (2 ^ 31 + 8)) with flows := [(5, { format := 0x381, locked := true, port := 9 })], svp := { State.reset.svp with rx := [(9, { st := .hunt, mode := 1 })] } }) = none ∧
    firstErr (stopChecks { ring := 0, tag := 0 } 5 { State.reset with flows := [(5, { format := 0x381, st := .running })] }) = none ∧
    firstErr (stopChecks { ring := 0, tag := 0 } 5 { State.reset with flows := [(5, { format := 0x381, st := .held })] }) = none ∧
    selecting { State.reset with swc := { State.reset.swc with xp := [(0, { sel := true, src := 5 })] } } 5 ≠ [] ∧ flowNumOk 5 = true ∧ nsOf (normFlow 5) = 0 := by decide

theorem witness_ConsistsAreDefinedReadAndDeleted :
    Clear State.reset ∧ consist? State.reset 3 = none ∧
    firstErr (consistChecks (place 64 ([3, 0, 0, 1, 0, 0, 0, 0, 5, 0, 0, 0] ++ List.replicate 60 0) { State.reset with flows := [(5, { locked := true })] }) 64) = none ∧
    firstErr (consistChecks (place 64 ([3, 0, 0, 1, 0, 0, 0, 0, 5, 0, 0, 0] ++ List.replicate 60 0) State.reset) 64) = some { st := 0x11, err := 72 } ∧
    consistNamed { State.reset with consists := [(3, {})] } 3 = false := by decide

theorem witness_SdiPortsAreSetAndReceiversHunt :
    Clear (wr State.reset .svpOctetCfg 0 0 255) ∧
    firstErr (sdiChecks (place 64 [9, 0, 2, 5, 0, 1, 3, 1, 0, 0, 0, 0, 0, 0, 0, 0] (wr State.reset .svpOctetCfg 0 0 255)) 64) = none ∧
    firstErr (sdiChecks (place 64 [9, 1, 1, 0, 1, 0, 0, 1, 0, 1, 0, 0, 0, 0, 0, 0] (wr State.reset .svpOctetCfg 0 0 255)) 64) = none ∧
    firstErr (sdiChecks (place 64 [64, 1, 1, 0, 1, 0, 0, 1, 0, 1, 0, 0, 0, 0, 0, 0] (wr State.reset .svpOctetCfg 0 0 255)) 64) = some { st := 0x11, err := 64 } ∧
    (sdiRx { State.reset with svp := { State.reset.svp with rx := [(9, { st := .locked })] } } 9).st = .locked ∧
    (sdiRx { State.reset with svp := { State.reset.svp with rx := [(63, { st := .hunt })] } } 63).st = .hunt ∧
    bit (rd (wr State.reset .fltSrcCfg 0x0E1 0 0) .fltSrcCfg 0x0E1) 27 = false ∧ (sdiRx State.reset 0).st = .disabled ∧
    inputsOn { State.reset with flows := [(5, { st := .running, port := 9 })] } 9 = [5] := by decide

theorem witness_SdiFramesLinesAndOutput :
    Settled { (wr (wr State.reset .fltSrcCfg 0xE0 0 0) .timDomCfg 0 0 (2 ^ 31 + 8)) with svp := { State.reset.svp with rx := [(9, { mode := 1, st := .identified, rate := 3, format := 0x381 })] }, flows := [(5, { st := .running, port := 9, format := 0x381, locked := true })] } ∧
    frameFaults (setRx 9 (identify { at_ := 500000020, format := 0x381, vpidHere := true } { mode := 1, st := .identified, rate := 3, format := 0x381 })
      { (wr State.reset .timDomCfg 0 0 (2 ^ 31 + 8)) with svp := { State.reset.svp with rx := [(9, { mode := 1, st := .identified, rate := 3, format := 0x381 })] } }) 9
      { st := .running, port := 9, format := 0x381, locked := true } { at_ := 500000020, format := 0x381, vpidHere := true } none = [] ∧
    onSdi 0 9 5 { st := .running, port := 9, format := 0x381, locked := true } = true ∧ ifRateOf 0x381 ≠ 0 ∧ 3 < fmtLines 0x381 ∧
    activeOf 0x381 42 = some 0 ∧ activeOf 0x381 1 = none ∧ sdiRuns State.reset = true ∧ ancOut State.reset 9 3 = [] ∧
    bit (rd (wr State.reset .fltSrcCfg 0x0E9 0 0) .fltSrcCfg 0x0E9) 27 = false ∧ (sdiTx State.reset 9).sending = false := by decide

theorem witness_NetworkCommandsComplete :
    Clear { State.reset with flows := [(16389, { endpoint := 1, params := [0, 0xFF, 96] })] } ∧
    firstErr (streamChecks (place 64 ([5, 64, 1, 0, 9, 0, 0, 0] ++ List.replicate 20 0 ++ [0, 5, 0, 5, 0, 1, 3, 0] ++ List.replicate 28 0)
      { State.reset with flows := [(16389, { endpoint := 1, params := [0, 0xFF, 96] })] }) 64) = none ∧
    firstErr (streamChecks (place 64 [5, 64] State.reset) 64) = some { st := 0x11, err := 64 } ∧ (flowD State.reset 5).endpoint ≠ 1 ∧
    macUp { (wr State.reset .nmpMgmtCfg 0 0 (2 ^ 31)) with nmp := { State.reset.nmp with mgmtLink := true } } 16 = true ∧ macUp State.reset 15 = false ∧
    macFits State.reset 3 (some { base := 1, entries := [(129, 100)], start := 5, tag := 3 }) [] = true ∧ (mac State.reset 16).frames.length < 64 := by decide

theorem witness_NetworkLinksGatesAndManagement :
    Settled (wr (wr State.reset .nmpMacCfg 3 0 (2 ^ 31 + 2 ^ 26)) .fltSrcCfg 0x101 0 0) ∧ macEn (wr State.reset .nmpMacCfg 3 0 (2 ^ 31 + 2 ^ 26)) 3 = true ∧
    macAn (wr State.reset .nmpMacCfg 3 0 (2 ^ 31 + 2 ^ 26)) 3 = false ∧ macEn State.reset 3 = false ∧
    bit (rd (wr (wr State.reset .nmpMacCfg 3 0 (2 ^ 31 + 2 ^ 26)) .fltSrcCfg 0x101 0 0) .fltSrcCfg 0x101) 27 = false ∧
    legMacs { st := .running, endpoint := 1, port := 3, params := [0, 255] } = [3] ∧ (mac State.reset 3).retryAt = none ∧ (mac State.reset 3).oper = none ∧
    (mac { State.reset with nmp := { State.reset.nmp with macs := [(3, { st := .training, retryAt := some 50, pend := some { start := 88, tag := 6 } })] } } 3).st = .training ∧
    halfDuplex (wr State.reset .nmpMgmtCfg 0 0 (2 ^ 31 + 2 ^ 28)) = true ∧ State.reset.nmp.backoff = none ∧
    macUp { (wr State.reset .nmpMgmtCfg 0 0 (2 ^ 31)) with nmp := { State.reset.nmp with mgmtLink := true } } 16 = true := by decide

theorem witness_PacketsReceivedAndSent :
    Settled (wr (wr State.reset .nmpMgmtCfg 0 0 (2 ^ 31)) .fltSrcCfg 0x102 0 0) ∧ macUp State.reset 3 = false ∧ normFlow 5 = 5 ∧
    macUp { (wr State.reset .nmpMgmtCfg 0 0 (2 ^ 31)) with nmp := { State.reset.nmp with mgmtLink := true } } 16 = true ∧ isPtp [1, 2, 3] = false ∧ ipOk [1, 2, 3] = false ∧
    bit (rd (wr State.reset .fltSrcCfg 0x102 0 0) .fltSrcCfg 0x102) 27 = false ∧ (flowD State.reset 5).st ≠ .running ∧ sends State.reset 16389 0 = false ∧
    sends { State.reset with flows := [(16389, { st := .running, endpoint := 1, essence := 1, format := 1, count := 1, params := [0, 4, 96] })], nmp := { State.reset.nmp with streams := [(16389, { legs := [{}, {}] })] } } 16389 1 = true ∧
    packetsHere State.reset 16389 { st := .running, endpoint := 1, essence := 1, format := 1, count := 1, params := [0, 4, 96] } {} ≠ 0 := by decide

theorem witness_PagesLoadWithdrawAndWait :
    Clear State.reset ∧ pageSlot State.reset 9 = none ∧ statusSlot State.reset 64 = none ∧ statusSlot State.reset 63 = some 63 ∧ ttEn State.reset = false ∧
    firstErr [(!ttEn State.reset, denied), (!true, addressError 64)] = some denied ∧
    firstErr (headerChecks 64 (ownPage { ring := 0, tag := 0 } State.reset 64) State.reset) = some (badField 64) ∧
    pageSlot { State.reset with tt := { State.reset.tt with slots := [(3, { id := 9, part := true, pst := .loaded })] } } 9 = some 3 ∧
    pageSlot { State.reset with tt := { State.reset.tt with slots := [(3, { id := 9, coordHere := true, cst := .collecting })] } } 9 = some 3 ∧
    firstErr (bodyChecks 64 (ownPage { ring := 0, tag := 0 } (place 64 [9, 0, 0, 0, 0, 0, 0, 0, 20, 0, 0, 0, 0, 3, 1] (wr (wr State.reset .timDomCfg 0 0 (2 ^ 31 + 8)) .swcTtCfg 0 0 1)) 64)
      (wr (wr State.reset .timDomCfg 0 0 (2 ^ 31 + 8)) .swcTtCfg 0 0 1)) = none := by decide

theorem witness_PagesCommitAcrossDevices :
    Settled (wr State.reset .swcTtCfg 0 0 1) ∧ ttEn (wr State.reset .swcTtCfg 0 0 1) = true ∧ ttEn State.reset = false ∧ State.reset.tt.slots = [] ∧
    refDev 4 = devId State.reset ∧ State.reset.tim.now ≤ msgGuard State.reset { page := 9, actFi := 70, rate := 8, flow := 4 } ∧
    pageSlot { State.reset with tt := { State.reset.tt with slots := [(3, { id := 9, part := true, pst := .armed, coord := 6, actN := 70 })] } } 9 = some 3 ∧
    lastSlot { State.reset with tt := { State.reset.tt with slots := [(3, { id := 9, part := true, pst := .armed, coord := 6, actN := 70 })] } } 9 = some 3 ∧
    State.reset.tim.now ≤ guardOf (wr State.reset .timDomCfg 0 0 (2 ^ 31 + 8)) { id := 9, part := true, pst := .armed, coord := 6, actN := 70 } ∧
    armedMatches (wr State.reset .timDomCfg 0 0 (2 ^ 31 + 8)) { parts := [5, 6], actN := 70, actFi := 70 } { page := 9, dev := 5, actFi := 70, rate := 8 } = true ∧
    missingOf { parts := [5, 0], acks := [(0, false)] } = [5] ∧ missingOf { parts := [0], acks := [(0, false)] } = [] := by decide

theorem witness_CrosspointsLatchAndAreWritten :
    Clear State.reset ∧ flow? State.reset (wordFlow 5) = none ∧ wordFlow 5 = 16389 ∧ domEn (wr State.reset .timDomCfg 0 0 (2 ^ 31 + 8)) 0 = true ∧
    State.reset.tim.now + framesNs (wr State.reset .timDomCfg 0 0 (2 ^ 31 + 8)) 0 2 ≤ tOf (wr State.reset .timDomCfg 0 0 (2 ^ 31 + 8)) 0 (fullFi (wr State.reset .timDomCfg 0 0 (2 ^ 31 + 8)) 0 90) ∧
    pageSlot { State.reset with tt := { State.reset.tt with slots := [(3, { id := 9, part := true, pst := .committed })] } } 9 = some 3 ∧
    wordNameable { State.reset with flows := [(16389, { locked := true, format := 0x381 })] } 5 = true ∧
    selOk { (wr State.reset .timDomCfg 0 0 (2 ^ 31 + 8)) with flows := [(5, { locked := true, format := 0x381 }), (16389, { locked := true, format := 0x381 })] } 5 5 = true ∧
    slotsClosed { State.reset with flows := [(5, { locked := true, format := 0x381 })] } 5 = false ∧ wordNamed State.reset 5 = false ∧ (xp State.reset 5).ttAt ≠ some 0 ∧
    changesFit { (wr State.reset .timDomCfg 0 0 (2 ^ 31 + 8)) with flows := [(5, { locked := true, format := 0x381 }), (16389, { locked := true, format := 0x381 })] } 0 1 [directChange 5 1 5] = true := by decide

theorem witness_LinksComeUpAndGoDown :
    Clear (wr (wr (wr (wr (wr State.reset .fltSrcCfg 0x0C2 0 0) .fltSrcCfg 0x080 0 0) .fltSrcCfg 0x081 0 0) .fltSrcCfg 0x085 0 0) .fltSrcCfg 0x0C7 0 0) ∧
    bit (rd (wr (wr (wr (wr (wr State.reset .fltSrcCfg 0x0C2 0 0) .fltSrcCfg 0x080 0 0) .fltSrcCfg 0x081 0 0) .fltSrcCfg 0x085 0 0) .fltSrcCfg 0x0C7 0 0) .fltSrcCfg 0x080) 27 = false ∧
    laneUse (wr State.reset .lnxLaneCfg 4 0 (2 ^ 31)) 4 = 2 ∧ laneSt (wr State.reset .lnxLaneCfg 4 0 (2 ^ 31)) 4 ≠ .prbs ∧ bit (rd (wr State.reset .aqfDevCfg 0 0 (2 ^ 31)) .aqfDevCfg 0) 31 = true ∧
    (link State.reset 143).st = .down ∧ (link State.reset 143).mask = [] ∧ identityOk State.reset 4 { dev := 5 } = true ∧ identityOk State.reset 4 { dev := 0 } = false ∧
    steady [5, 3, 4] = true ∧ (link { State.reset with aqf := { State.reset.aqf with links := [(4, { st := .quiet })] } } 4).st = .quiet ∧
    State.reset.aqf.reporters = [] ∧ State.reset.sec.uid ≠ 9 := by decide

theorem witness_FabricTablesAndMessages :
    Clear State.reset ∧ swapPending State.reset 4 = false ∧ localRoom State.reset 1023 29 = true ∧ localRoom { State.reset with aqf := { State.reset.aqf with voqs := [(32 * 5 + 2, List.replicate 64 { dest := 5, src := 0, cls := 2, ttl := 15, len := 1, seq := 0, data := [] })] } } 5 2 = false ∧ fwdOk (parseFwd 0) = true ∧ fwdOk (parseFwd (2 ^ 31 + 200)) = false ∧
    ctrlRouteOk State.reset 5 [] = true ∧ shadowBank (link { State.reset with aqf := { State.reset.aqf with links := [(4, { bank1 := { ok := true } })] } } 4) = { ok := true } ∧
    maskLinks (hostBytes (place 64 [16] State.reset) 64 32) = [4] ∧ (2 % 2 ^ 32 + 2 ^ 32 - cycleNow State.reset % 2 ^ 32) % 2 ^ 32 = 2 ∧
    labelClash [(0, { kind := 1 })] = none ∧ overLabel [(0, { kind := 1 })] = none ∧ badRef State.reset 1 [(0, { kind := 1 })] = none ∧
    controlOk ((List.range 64).map (fun i => (64 * i, { kind := 1 }))) = true := by decide

theorem witness_RoutesAreDefinedAndVerified :
    Clear State.reset ∧ route? State.reset (flowRef 1 0 4) = none ∧ refNs (flowRef 1 5 4) = 1 ∧ refNs (flowRef 0 5 4) = 0 ∧ badHop (flowRef 1 0 4) [{ dev := 0, egress := 143, rx := 143 }] = none ∧
    routeInUse State.reset { hops := [{ dev := 0, egress := 3, rx := 4, label := 5 }] } = false ∧ feederReason State.reset (flowRef 1 0 4) { hops := [{ dev := 0 }] } = some 1 ∧
    transitCheck State.reset 0 { hops := [{ dev := 5 }, { dev := 0 }] } { feeder := flowRef 1 5 4 } = .inl 1 ∧ transitCheck State.reset 0 { hops := [{ dev := 5 }, { dev := 4 }] } { feeder := flowRef 1 5 4 } = .inl 9 ∧
    destReason State.reset 0 { hops := [{ dev := 5 }] } { feeder := flowRef 1 5 4 } 0 = some 1 := by decide

theorem witness_FunctionsAreDescribedLoadedAndRead :
    Clear State.reset ∧ nsOf 32771 = 2 ∧ flowNumOk 32771 = true ∧ nsOf 33279 = 2 ∧ flowNumOk 33279 = true ∧ flow? State.reset 33279 = none ∧ ixOf 33279 = 511 ∧
    hasProc { desc := [0] } = true ∧ setBusy {} {} 7 = false ∧ setBusy {} { st := .running, locked := true } 0 = true ∧ setNamed State.reset 3 7 = false ∧ setBad { desc := [0, 0, 1] } {} [] = none ∧
    lutFits State.reset 3 7 [] {} = true ∧ firstErr (procChecks State.reset 64 {} {}) = some { st := 0x20 } ∧ setBad { desc := [0, 0, 7] } {} [] = some 0 ∧
    firstErr (procChecks { (wr State.reset .ikaClassCfg 0 0 (2 ^ 31)) with ika := { State.reset.ika with cat := [(7, 7 * 2 ^ 24)] } } 64
      { desc := [3, 128, 7, 0, 129, 3, 1, 3, 1, 0] ++ zeros 22 ++ [4] ++ zeros 223 } { format := 0x381, colour := 1, port := 0 }) = none := by decide

theorem witness_AuditsAndSparesOfClassrooms :
    Clear (wr (wr (wr State.reset .fltSrcCfg 0x125 0 0) .ikaAuditCfg 0 0 (2 ^ 31)) .timDomCfg 0 0 (2 ^ 31 + 8)) ∧ bit (rd (wr (wr (wr State.reset .fltSrcCfg 0x125 0 0) .ikaAuditCfg 0 0 (2 ^ 31)) .timDomCfg 0 0 (2 ^ 31 + 8)) .fltSrcCfg 0x125) 27 = false ∧
    auditsRun (wr (wr (wr State.reset .fltSrcCfg 0x125 0 0) .ikaAuditCfg 0 0 (2 ^ 31)) .timDomCfg 0 0 (2 ^ 31 + 8)) = true ∧ auditsRun State.reset = false ∧
    domEn (wr State.reset .timDomCfg 7 0 (2 ^ 31 + 8)) 7 = true ∧ auditorOf (room State.reset 31) = some 32 ∧ otherFree (room State.reset 0) = true ∧ otherFree { s33 := { st := .retired } } = false ∧
    auditorOf { s32 := { st := .inService }, s33 := { st := .retired } } = none ∧ (spareOf {} 32).st = .free ∧ (spareOf { s33 := { st := .retired } } 33).st ≠ .free ∧
    tileOf { serving := [(1, 33)] } 1 = 33 ∧ tileOf {} 31 = 31 ∧ roomEn (wr State.reset .ikaClassCfg 31 0 (2 ^ 31)) 31 = true ∧ roomEn State.reset 31 = false ∧ (room State.reset 0).swap = none ∧ tget? State.reset.ika.heldTiles 5 = none := by decide

theorem witness_WorkItemsAndFrameDecisions :
    Settled (wr State.reset .fltSrcCfg 0x129 0 0) ∧ bit (rd (wr State.reset .fltSrcCfg 0x129 0 0) .fltSrcCfg 0x129) 27 = false ∧ (flowD State.reset 32771).st ≠ .running ∧
    ixOf 33279 = 511 ∧ pfNum 511 = 33279 ∧ hasProc { desc := [0] } = true ∧ tileHeld State.reset 0 31 = false ∧ fmtLines 0x381 = 1080 ∧
    carried { desc := [0, 0, 1], reading := some (7, 2) } 9 = some 2 ∧ carried { desc := [0, 0, 7], delay := 4 } 9 = some 5 ∧
    bufferLine { bufs := [(0, [{ n := 2, src := 7, start := 0, lines := [(5, [1])] }])] } 0 2 5 = some [1] ∧ feeds State.reset 32771 = [] ∧ 0 < audioRate 1 ∧
    (readBuf { reading := some (7, 2), bufs := [(0, [{ n := 2, src := 7, start := 0, lines := [(5, [1])] }])] }).bind (fun f => tget? f.lines 5) = some [1] ∧ followers State.reset 32771 = [] ∧
    (stored State.reset 32771 3).fi ≠ 11 ∧ (rateIn State.reset 0 ≠ matrixRate State.reset ∨ State.reset.aud.period + 3 ≤ 6 * 9 + matrixDelay State.reset) ∧
    inputHeld State.reset 3 0 = true ∧ misfit State.reset 3 { kind := 1, fillIn := 0, keyIn := 255, tapsH := 2, tapsV := 2, format := 0x381, colour := 1, lbKib := 9 } = none ∧
    classify {} { kind := 1, fillIn := 0, keyIn := 255, tapsH := 2, tapsV := 2, format := 0x381, colour := 1, lbKib := 9 } 3 = .notReady := by decide

theorem witness_AudioPortsLockSlipAndSend :
    Clear (wr State.reset .audCfg 0 0 (2 ^ 31)) ∧ bit (rd (wr State.reset .audCfg 0 0 (2 ^ 31)) .audCfg 0) 31 = true ∧ drives State.reset = true ∧
    firstErr (portChecks (hostBytes (place 64 [39, 2, 0, 0, 0, 3] State.reset) 64 16) 64) = none ∧ fieldAt (hostBytes (place 64 [39, 2, 0, 0, 0, 3] State.reset) 64 16) 0 1 = 39 ∧
    audPortBusy State.reset 39 = false ∧ audPortBusy { State.reset with flows := [(5, { endpoint := 4, port := 39, st := .held })] } 39 = true ∧
    firstErr (portChecks [40] 64) = some { st := 0x11, err := 64 } ∧ (audPort State.reset 0).st = .disabled ∧
    (audPort { State.reset with aud := { State.reset.aud with ports := [(39, { st := .locked, dirs := 3 })] } } 39).st = .locked ∧ bit 3 0 = true ∧ bit 3 1 = true ∧
    ownClock 39 { mode := 1, dirs := 1 } = false ∧ ownClock 31 { mode := 1, clock := 1 } = false ∧ wsSlave 31 { mode := 1, clock := 1 } = true ∧ wsSlave 39 { mode := 1, clock := 1 } = false := by decide

theorem witness_AudioDelayAndChannelStatus :
    Clear State.reset ∧ matrixChannels State.reset = 32768 ∧ setRefusal State.reset 32767 1 false = none ∧ setRefusal State.reset 32767 1 true = none ∧
    delayMax State.reset 2 = 2880000 ∧ storeFits State.reset 1 0 0 = true ∧ storeFits State.reset 1 9999999 0 = false ∧ domEn (wr State.reset .timDomCfg 7 0 (2 ^ 31 + 8)) 7 = true ∧
    setRefusal { State.reset with aud := { State.reset.aud with delays := [(5, { cur := 2 })] } } 5 1 true = some (5, 3) ∧ changeRefusal State.reset 5 1 = some (5, 0) ∧
    changeRefusal { State.reset with aud := { State.reset.aud with delays := [(5, { max := 2 })] } } 5 1 = none ∧
    delayLine? { State.reset with aud := { State.reset.aud with delays := [(32767, { max := 2 })] } } 32767 = some { max := 2 } ∧ (delayLine? State.reset 0).bind (fun d => d.change) = none ∧
    flowNumOk 16389 = true ∧ nsOf 16389 = 1 ∧ flow? { State.reset with flows := [(16389, { essence := 1 })] } (normFlow 16389) = some { essence := 1 } ∧ flow? State.reset (normFlow 5) = none ∧
    State.reset.tim.now + framesNs (wr State.reset .timDomCfg 7 0 (2 ^ 31 + 8)) 7 2 ≤ tOf (wr State.reset .timDomCfg 7 0 (2 ^ 31 + 8)) 7 (fullFi (wr State.reset .timDomCfg 7 0 (2 ^ 31 + 8)) 7 9) := by decide

theorem witness_AudioCrosspointsAndTheMatrix :
    (feeding { (wr State.reset .audCfg 0 0 (2 ^ 31 + 300)) with aud := { State.reset.aud with xps := [(41, [{ inp := 8, gain := 0 }])], period := 400, inp := [(8, [(103, 7)])] }, flows := [(5, { essence := 1, endpoint := 3, st := .running, base := 4, count := 6, format := 1 })] } = [8] ∧ (ownerIn { (wr State.reset .audCfg 0 0 (2 ^ 31 + 300)) with aud := { State.reset.aud with xps := [(41, [{ inp := 8, gain := 0 }])], period := 400, inp := [(8, [(103, 7)])] }, flows := [(5, { essence := 1, endpoint := 3, st := .running, base := 4, count := 6, format := 1 })] } 8).map (fun z => active z.2 && !portSilent { (wr State.reset .audCfg 0 0 (2 ^ 31 + 300)) with aud := { State.reset.aud with xps := [(41, [{ inp := 8, gain := 0 }])], period := 400, inp := [(8, [(103, 7)])] }, flows := [(5, { essence := 1, endpoint := 3, st := .running, base := 4, count := 6, format := 1 })] } z.2 && z.2.restore.isNone) = some true ∧ (tget? (tgetD ({ (wr State.reset .audCfg 0 0 (2 ^ 31 + 300)) with aud := { State.reset.aud with xps := [(41, [{ inp := 8, gain := 0 }])], period := 400, inp := [(8, [(103, 7)])] }, flows := [(5, { essence := 1, endpoint := 3, st := .running, base := 4, count := 6, format := 1 })] }).aud.inp 8 []) (400 + 3 - matrixDelay { (wr State.reset .audCfg 0 0 (2 ^ 31 + 300)) with aud := { State.reset.aud with xps := [(41, [{ inp := 8, gain := 0 }])], period := 400, inp := [(8, [(103, 7)])] }, flows := [(5, { essence := 1, endpoint := 3, st := .running, base := 4, count := 6, format := 1 })] })).isSome = true) ∧
    Clear (wr State.reset .audCfg 0 0 (2 ^ 31 + 500)) ∧ bit (rd (wr State.reset .audCfg 0 0 (2 ^ 31 + 500)) .audCfg 0) 31 = true ∧ matrixChannels State.reset = 32768 ∧ gainOk 0 = true ∧ gainOk 9000 = false ∧
    audioNamed State.reset 32767 0 = false ∧ audioXpOk State.reset 5 4 0 [] = false ∧ audCollides State.reset 5 4 = false ∧
    audioXpOk { (wr State.reset .audCfg 0 0 (2 ^ 31 + 500)) with flows := [(5, { essence := 1, base := 4, count := 1, endpoint := 4, st := .running }), (16389, { essence := 1, base := 41, count := 1, st := .running })] } 41 4 0 [] = true ∧
    rawPair State.reset 41 = false ∧ rawPair { State.reset with flows := [(16389, { essence := 1, base := 41, count := 1, format := 16 })] } 41 = true ∧
    audCollides { State.reset with aud := { State.reset.aud with xps := [(41, [{ inp := 4, gain := 0, ttAt := some 0 }])] } } 41 4 = true ∧ State.reset.aud.zwait = [] ∧
    xpsFit State.reset (liveChanges State.reset ++ [.audio 41 4 0 0 0 false]) = true ∧ (xpsOf State.reset 0).find? (fun y => y.inp == 4) = none := by decide

theorem witness_StoresAreReadWrittenAndKept :
    Settled State.reset ∧ reaches { (wr State.reset .memDdrCfg 0 0 (2 ^ 24)) with mem := { State.reset.mem with ctrls := [(0, { st := .trained })] } } 1 (64 * 7) = true ∧ reaches State.reset 0 5 = false ∧
    reaches { State.reset with mem := { State.reset.mem with ctrls := [(8, { st := .trained })] } } 0 5 = true ∧ poisoned State.reset 1 7 = false ∧ queued State.reset 1 7 = none ∧ (sameQueue State.reset 1 7).length < 31 ∧
    sameQueue { State.reset with mem := { State.reset.mem with ctrls := [(8, { wq := List.replicate 47 { line := 0, data := List.replicate 64 0 } })] } } 0 0 = { line := 0, data := List.replicate 64 0 } :: List.replicate 46 { line := 0, data := List.replicate 64 0 } ∧
    Memory.wf (cellsOf State.reset 1) = true ∧ committed { State.reset with hif := { State.reset.hif with comp := [(0xF11240, 512)] } } 1 = true ∧ committed State.reset 1 = false ∧
    (tgetD (ctrl State.reset 3).banks 5 {}).open_ = none ∧ (ctrl State.reset 7).st ≠ .trained ∧ (rankOf State.reset 7 0).postpone = true ∧ bit (rd (wr State.reset .memSchedCfg 0 0 (2 ^ 31)) .memSchedCfg 0) 31 = true ∧
    bit (rd (wr State.reset .memScrubCfg 0 0 (2 ^ 31)) .memScrubCfg 0) 31 = true ∧
    hbmGated { State.reset with pwr := { State.reset.pwr with st := .trim } } = true ∧ hbmGated { State.reset with pwr := { State.reset.pwr with st := .run } } = false := by decide

theorem witness_ControllersTrainAndSpareRows :
    Clear (wr State.reset .memDdrCfg 0 0 (2 ^ 26 + 2 ^ 27)) ∧ 3 ∈ unitCtrls (wr State.reset .memDdrCfg 0 0 (2 ^ 26 + 2 ^ 27)) 1 ∧ 4 ∉ unitCtrls (wr State.reset .memDdrCfg 0 0 (2 ^ 26 + 2 ^ 27)) 1 ∧
    11 ∈ unitCtrls (wr State.reset .memDdrCfg 0 0 15) 11 ∧ countOk (wr State.reset .memDdrCfg 0 0 (2 ^ 26 + 2 ^ 27)) = true ∧ countOk (wr State.reset .memDdrCfg 0 0 (7 * 2 ^ 26)) = false ∧ topRate (wr State.reset .memDdrCfg 0 0 0) = 2 ∧
    topRate State.reset = 1 ∧ freqWaits State.reset 3 = false ∧ storeUsed State.reset 1 = 0 ∧ storeCap State.reset 1 = 0 ∧ unitCtrls State.reset 4 = [] ∧ (ctrl State.reset 2).st ≠ .training ∧ (ctrl State.reset 2).wq = [] ∧
    spareBad State.reset 5 0 0 0 = some 24 ∧ spareBad (wr State.reset .memDdrCfg 0 0 (2 ^ 26)) 0 (locCode (memDie 2) 8 2 3 0x3F) 65535 0 = none ∧ holdingRows State.reset 2 < 16 ∧ sparePending State.reset 2 = false ∧
    sparePending { State.reset with mem := { State.reset.mem with ctrls := [(2, { repairs := [{ kind := 0, loc := 0, row := 0, col := 0, dom := 0, fi := 0, tag := 0 }] })] } } 2 = true ∧
    (ctrl { State.reset with mem := { State.reset.mem with ctrls := [(11, { st := .training, step := 4 })] } } 11).st = .training := by decide

theorem witness_WindowsAndTheMemoryMover :
    Clear witMem ∧ witMem.hif.lock = false ∧ regionMib witMem 1 ≤ 90 * 1024 ∧ overlaps witMem 0 1 90 3 = false ∧ 90 + 3 + reserveGib 1 ≤ storeGib witMem 1 ∧ (win witMem 0).opened = false ∧
    storeBw (setWin 0 {} witMem) 1 + 4 ≤ storeLimit witMem 1 ∧ storeLimit witMem 1 < storeBw (setWin 0 {} witMem) 1 + 400000 ∧ storeLimit witMem 0 = 0 ∧ storeUsed witMem 1 + 8 ≤ storeLimit witMem 1 ∧
    witMem.mem.moves.length < 17 ∧ moverReserve witMem ≠ 0 ∧ moverOk witMem none = true ∧ inWin witMem none 0 64 = true ∧ inWin witMem (some 1) (2 ^ 30 - 64) 64 = true ∧ moverOk witMem (some 1) = true ∧
    reaches witMem 1 (64 * 7) = true ∧ (sameQueue witMem 1 7).length < 31 ∧ poisoned witMem 1 7 = false ∧ (lineBytesAt witMem 1 7).length = 64 ∧
    regOff .memOrder 0 0 ≠ regOff .memMoverCfg 0 0 ∧ (win { State.reset with mem := { State.reset.mem with wins := [(1, { opened := true })] } } 1).opened = true ∧
    committed { State.reset with hif := { State.reset.hif with comp := [(0xF11240, 512)] } } 1 = true ∧ ({ State.reset.hif with lock := true } : Hif).lock = true ∧ 8 ≠ moverReserve State.reset ∧
    parseMove (hostBytes (place 64 (zeros 16 ++ [64, 0, 0, 0, 1] : List Byte) State.reset) 64 32) 7 true = { src := 0, dst := 0, len := 64, srcWin := some 0, dstWin := none, tag := 7, hostOk := true } ∧
    inWin State.reset (some 0) 0 64 = false ∧ pcieMode witMem = false ∧ masterOk witMem 3 = true ∧ masterOk witMem 6 = false ∧ moverRuns witMem { src := 0, dst := 0, len := 64, srcWin := some 1, dstWin := none, tag := 7, hostOk := true } = true ∧
    moverRuns State.reset { src := 0, dst := 0, len := 64, srcWin := some 1, dstWin := none, tag := 7, hostOk := true } = false ∧ moverReserve (wr State.reset .memMoverCfg 0 0 0) = 0 ∧ State.reset.mem.moves = [] ∧ Memory.wf State.reset.hif.mem = true ∧
    (moveLines { src := 0, dst := 0, len := 0, srcWin := some 0, dstWin := none, tag := 7, hostOk := true } 0 0 State.reset).2 = none := by decide

theorem witness_LanesTrainFailAndRestart :
    Settled (wr State.reset .lnxLaneCfg 143 0 (2 ^ 31)) ∧ laneUse (wr State.reset .lnxLaneCfg 143 0 (2 ^ 31)) 143 = 2 ∧ laneUse (wr State.reset .lnxLaneCfg 0 0 (2 ^ 30)) 0 = 1 ∧
    bit (rd (wr State.reset .fltSrcCfg 0x0C0 0 0) .fltSrcCfg 0x0C0) 27 = false ∧ bit (rd (wr State.reset .fltSrcCfg 0x0C1 0 0) .fltSrcCfg 0x0C1) 27 = false ∧ bit (rd (wr State.reset .fltSrcCfg 0x0C2 0 0) .fltSrcCfg 0x0C2) 27 = false ∧
    bit (rd (wr State.reset .fltSrcCfg 0x0C3 0 0) .fltSrcCfg 0x0C3) 27 = false ∧ bit (rd (wr State.reset .fltSrcCfg 0x081 0 0) .fltSrcCfg 0x081) 27 = false ∧
    macOf (wr State.reset .nmpMacCfg 15 0 (2 ^ 31 + 2 ^ 26 + 143 * 2 ^ 16)) 143 = some 15 ∧ macLanes (rd (wr State.reset .nmpMacCfg 15 0 (2 ^ 31 + 2 ^ 26 + 143 * 2 ^ 16)) .nmpMacCfg 15) = [143] ∧
    laneSt State.reset 0 = .off ∧ laneUse State.reset 151 = 2 ∧ nextOf (marginNs State.reset) 0 = 10000000000 ∧
    stepOpen { (wr State.reset .lnxLaneCfg 143 0 (2 ^ 31)) with lnx := { State.reset.lnx with lanes := [(143, { st := .step, step := 3 })] } } 143 = true ∧ laneSt (wr { State.reset with lnx := { State.reset.lnx with lanes := [(143, { st := .trained })] } } .lnxLaneCfg 143 0 (2 ^ 31)) 143 = .trained ∧
    (link State.reset 0).st = .down ∧ pendingSpares State.reset 143 = [] ∧ (lane State.reset 143).scan = none := by decide

theorem witness_ScansTestsAndSpareLanes :
    Clear (wr (wr State.reset .lnxLaneCfg 143 0 (2 ^ 31)) .timDomCfg 0 0 (2 ^ 31 + 8)) ∧ bit (rd (wr State.reset .fltSrcCfg 0x0C4 0 0) .fltSrcCfg 0x0C4) 27 = false ∧ bit (rd (wr State.reset .fltSrcCfg 0x0C5 0 0) .fltSrcCfg 0x0C5) 27 = false ∧
    bit (rd (wr State.reset .fltSrcCfg 0x0C6 0 0) .fltSrcCfg 0x0C6) 27 = false ∧ bit (rd (wr State.reset .fltSrcCfg 0x0C7 0 0) .fltSrcCfg 0x0C7) 27 = false ∧ bit (rd (wr State.reset .fltSrcCfg 0x087 0 0) .fltSrcCfg 0x087) 27 = false ∧
    laneSt (wr State.reset .lnxLaneCfg 143 0 (2 ^ 31)) 143 = .idle ∧ laneQuiet State.reset 143 = true ∧ scanStepOk 4 = true ∧ domEn (wr State.reset .timDomCfg 0 0 (2 ^ 31 + 8)) 0 = true ∧ macOf State.reset 143 = none ∧
    laneSt (wr { State.reset with lnx := { State.reset.lnx with lanes := [(143, { st := .prbs })] } } .lnxLaneCfg 143 0 (2 ^ 31)) 143 = .prbs ∧ pendingSpares State.reset 143 = [] ∧ (spareLane State.reset 7).st = .free ∧
    laneDie 143 = 1 ∧ (spareLane { State.reset with lnx := { State.reset.lnx with spares := [(7, { st := .ready })] } } 7).st = .ready ∧ absDiff 0 1280 = 1280 ∧
    State.reset.tim.now + 1000000000 ≤ tOf (wr State.reset .timDomCfg 0 0 (2 ^ 31 + 8)) 0 (fullFi (wr State.reset .timDomCfg 0 0 (2 ^ 31 + 8)) 0 90) := by decide

theorem witness_SlotsAndCyclesSendTheirCells :
    Settled State.reset ∧ lineOffset 0x381 0 4 ≤ 10 ^ 9 ∧ State.reset.aqf.realign = none ∧ State.reset.aqf.swaps = [] ∧ State.reset.tt.masks = [] ∧ State.reset.red.fabricAt = 0 ∧ nextCycle State.reset = 1 ∧ (link State.reset 0).st = .down ∧
    fabricOn State.reset = true ∧ drives State.reset = true ∧ journalCell State.reset 143 = none ∧ 4095 % 4096 ≠ 0 ∧
    (activeBank (link { State.reset with aqf := { State.reset.aqf with links := [(143, { st := .up, mask := [7], bank0 := { ok := true, tx := [(4095, { kind := 2, group := 7 })] } })] } } 143)).ok = true ∧
    egressFor { State.reset with aqf := { State.reset.aqf with links := [(143, { st := .up })], fwd := [(1023, { valid := true, primary := 143 })] } } 1023 = some 143 ∧ ctrlOf State.reset 0 0 = none ∧
    ctrlOf { State.reset with aqf := { State.reset.aqf with links := [(3, { st := .up, ctrlQ := [{ src := 0, ctype := 9, seq := 0, msg := [] }] })] } } 3 0 = some { src := 0, ctype := 9, seq := 0, msg := [] } ∧
    normFlow 16389 = 16389 ∧ nsOf 16389 = 1 ∧ fmtLines 0x381 = 1080 ∧ beforeCommit State.reset 0 = false ∧ (flowD State.reset 16389).st ≠ .running := by decide

theorem witness_CellsOfALinkAreReceived :
    Settled (wr State.reset .fltSrcCfg 0x082 0 0) ∧ bit (rd (wr State.reset .fltSrcCfg 0x082 0 0) .fltSrcCfg 0x082) 27 = false ∧ bit (rd (wr State.reset .fltSrcCfg 0x081 0 0) .fltSrcCfg 0x081) 27 = false ∧
    (link State.reset 143).st = .down ∧ cellCrcOk [] = false ∧ isPair State.reset 143 = false ∧ notHolder State.reset = false ∧ notHolder { State.reset with red := { State.reset.red with st := .standby } } = true ∧
    (link { State.reset with aqf := { State.reset.aqf with links := [(143, { st := .up })] } } 143).st = .up ∧ (tgetD (bankOf (link State.reset 0) 0).rx 5 {}).kind = 0 ∧
    (parseUnsched (beBytes 6 (2 ^ 46 + 5 * 2 ^ 36 + 2 * 2 ^ 21 + 15 * 2 ^ 17)) 0).dest = 5 ∧ (parseUnsched (beBytes 6 (2 ^ 46 + 5 * 2 ^ 36 + 2 * 2 ^ 21 + 15 * 2 ^ 17)) 0).ttl = 15 ∧
    (parseCtrl (beBytes 6 (2 * 2 ^ 46 + 2 ^ 20))).ctype = 1 ∧ (parseCtrl (beBytes 6 (2 * 2 ^ 46 + 2 ^ 20))).hops = 0 ∧ bits (cellHeader (beBytes 6 (3 * 2 ^ 46))) 47 46 = 3 ∧ tget? State.reset.aqf.seqRx 5 = none ∧
    State.reset.tt.cancelled = [] ∧ oldArrived State.reset 5 0 = false ∧ State.reset.flt.limit = [] := by decide

theorem witness_IdentityQuotesUpdatesAndTamper :
    Clear State.reset ∧ secBarred State.reset = false ∧ secBarred { State.reset with sec := { State.reset.sec with tampered := true } } = true ∧ State.reset.sec.update = none ∧
    secBarred { State.reset with sec := { State.reset.sec with lifeWiped := true } } = true ∧ State.reset.pwr.st ≠ .off := by decide

theorem witness_BootRecoveryAndFuses :
    Clear (witBoot .verifying) ∧ (witBoot .verifying).pwr.st ≠ .off ∧ (witBoot .verifying).pwr.perst = false ∧ (witBoot .rom).sec.life ≠ 4 ∧
    slotResult (witBoot .verifying) {} = 2 ∧ slotResult (witBoot .rom) { readErr := some 5 } = 7 ∧ masterOk (witBoot .failed) 4 = true ∧
    Clear (witBoot .failed) ∧ (witBoot .failed).sec.recBusy = false ∧ bit (2 ^ 31) 31 = true ∧ bit 0 31 = false ∧ Clear { witBoot .failed with sec := { State.reset.sec with recBusy := true } } ∧
    ({ State.reset.sec with recBusy := true, life := 4 } : Sec).recBusy = true ∧ lifeEnded = 4 ∧
    State.reset.sec.life = 1 ∧ State.reset.sec.run = none ∧ State.reset.sec.wait = [] ∧ fuseRefused State.reset (.lifecycle { ring := 0, tag := 0 } 2 0) = none ∧
    fuseRefused State.reset (.lifecycle { ring := 0, tag := 0 } 0 0) ≠ none ∧ State.reset.sec.counter < imgSvn (bootedImage { State.reset with sec := { State.reset.sec with slotA := [0, 0, 0, 0, 0, 0, 0, 5] } }) ∧
    State.reset.sec.cosign = none ∧ lifeStep 1 2 = true ∧ needsToken 1 2 = false ∧ needsToken 2 3 = true ∧ tokenOk State.reset 3 [] = false := by decide

theorem witness_FuseRunsOneAtATime :
    Clear { State.reset with sec := { State.reset.sec with run := some (.counter { ring := 0, tag := 0 } 5), wait := [.lifecycle { ring := 1, tag := 0 } 2 0] } } ∧
    fuseRefused { State.reset with sec := { State.reset.sec with counter := 5 } } (.lifecycle { ring := 1, tag := 0 } 2 0) = none ∧
    fuseRefused { State.reset with sec := { State.reset.sec with counter := 5, slotA := [0, 0, 0, 0, 0, 0, 0, 5] } } (.counter { ring := 1, tag := 0 } 0) ≠ none := by decide

theorem witness_PowerTransitionsRunAndAreRefused :
    Settled State.reset ∧ State.reset.hif.fences = [] ∧ State.reset.pwr.trans = none ∧ pwrTarget 1 = some .trim ∧ State.reset.red.st = .unpaired ∧ State.reset.pwr.st = .run ∧
    blockReason State.reset .off 5 = none ∧ blockReason { State.reset with flows := [(5, { endpoint := 1, st := .running })] } .off 5 = some 0 := by decide

theorem witness_VoltageHeatCoolingAndResets :
    Settled State.reset ∧ State.reset.hif.fences = [] ∧ (rail State.reset 0).asked = none ∧ State.reset.pwr.st ≠ .off ∧ bit (2 ^ 31) 31 = true ∧ State.reset.pwr.perst = false ∧
    bit (rd (wr State.reset .pwrOutCfg 3 0 (2 ^ 31)) .pwrOutCfg 3) 31 = true ∧ fld (wr State.reset .pwrOutCfg 3 0 (2 ^ 31)) .pwrOutCfg 3 30 24 = 0 := by decide

theorem witness_FormationBeatsAndTheLease :
    Settled State.reset ∧ State.reset.hif.fences = [] ∧ pairEnabled (wr State.reset .aqfPairCfg 0 0 (2 ^ 31)) = true ∧ home (wr State.reset .redCfg 0 0 (2 ^ 30)) = true ∧ home State.reset = false ∧
    fromHolder { state := 3 } = true ∧ fromHolder { state := 4 } = false ∧ newerGen 5 4 = true ∧ newerGen 4 4 = false ∧ beatStamp { State.reset.red with beats := [(7, 5)] } 7 = some 5 ∧ beatStamp State.reset.red 7 = none := by decide

theorem witness_TakeoverRestoreAndTheJournal :
    Settled State.reset ∧ State.reset.hif.fences = [] ∧ holderHeard State.reset = false ∧ State.reset.pwr.st = .run ∧ State.reset.pwr.trans = none ∧ holds { State.reset with red := { State.reset.red with st := .sole } } = true ∧
    (flowD { State.reset with flows := [(5, { st := .running, restore := some 9 })] } (normFlow 5)).restore = some 9 ∧ crc32c [] = 0 ∧ serialLt 32 5 4 = false := by decide

theorem witness_RevertiveReturnAndHandover :
    Settled State.reset ∧ State.reset.hif.fences = [] ∧ revert State.reset = true ∧ home (wr State.reset .redCfg 0 0 (3 * 2 ^ 29)) = true ∧ State.reset.pwr.trans = none ∧
    livePath { State.reset with red := { State.reset.red with liveA := true } } 0 = true ∧ livePath State.reset 1 = false ∧ jT (wr State.reset .timDomCfg 0 0 (2 ^ 31 + 8)) 60 = 1000000000 := by decide

end Sys2Proof.Tests
end

/-!
SUPPORT. What a register write ignored and logged as a violation leaves behind (R326), and when the setup lock turns a register
write into one (R4, R327).
-/
namespace Sys2Proof.Machine
open Sys2Proof

/-! ## The violation -/

/-- A conditional raise leaves the address log. -/
theorem raiseIf_alog (b : Bool) (e : Ev) (s : State) : (raiseIf b e s).flt.alog = s.flt.alog := by
  unfold raiseIf; split
  · rw [raise_reacted e s]; rfl
  · rfl

/-- The log's next entry holds the address recorded (R386). -/
theorem alog_next_addr (a : Nat) (sp : Space) (o q : Nat) (s : State) :
    (tgetD (alog a sp o q s).flt.alog s.flt.alogNext {}).addr = a := by
  unfold alog; rw [raiseIf_alog, tgetD_tput_same]

/-- The raise of SETUP_VIOLATION that a violation logs (R326). -/
def setupViolation (m off : Nat) (s : State) : State := raise { src := 0x009, data := [(1, m)], addr := off } s

/-- The raise leaves the place of the log's next entry. -/
theorem setupViolation_alogNext (m off : Nat) (s : State) : (setupViolation m off s).flt.alogNext = s.flt.alogNext := by
  unfold setupViolation; rw [raise_reacted]; rfl

/-- A violation in full: what it raises and logs, and the answer that only a management core or the debug port gets (R326). -/
theorem violation_eq_report (m off : Nat) (s : State) :
    violation m off s = { s with
      flt := (alog off .bar0 (64 + m) 0x009 (setupViolation m off s)).flt
      hif := { s.hif with resp := if m < 4 ∨ m = 6 then some .errorResponse else s.hif.resp } } := by
  unfold violation
  rw [alog_eq]
  split <;> rfl

/-! ## The write that the lock turns away -/

/-- The registers whose bits act on a write: those of W1C, W1S or WO fields, and the mover's reserve. -/
def actingRegs : List Reg :=
  [.timRefHist, .fltSrcStatus, .fltHealthLo, .fltHealthHi, .fltHealthIka, .secRecoveryCtl, .memMoverCfg, .hifSetupLock]

/-- A write to any other register is one of fields. -/
theorem writeReg_eq_writeFields (m : Nat) {r : Reg} (i j v : Nat) (s : State) (h : r ∉ actingRegs) :
    writeReg m r i j v s = writeFields m r i j v s := by
  unfold writeReg; split
  case h_9 => rfl
  all_goals exact absurd (by decide) h

/-- A BAR0 write of a master that may write, at a register's offset, is a write to that register (R324, R325). -/
theorem writeBar0_at_register {m off i j : Nat} {r : Reg} (v : Nat) {s : State} (hm : masterOk s m = true)
    (ha : off % 4 = 0) (ho : off < 0xF00000) (hl : locate off = some (r, i, j)) :
    writeBar0 m off v s = writeReg m r i j v s := by
  simp [writeBar0, decoded, hm, ha, ho, hl]

/-- A register with an RWL field has bits that a write sets. -/
theorem writable_ne_zero {r : Reg} (h : (regSpec r).rwl ≠ 0) : writable r ≠ 0 :=
  fun hw => h (Nat.or_eq_zero_iff.mp hw).2

/-- Under the lock, a write that would change an RWL field is a violation (R4, R327). -/
theorem writeFields_locked {m i j v : Nat} {r : Reg} {s : State} (hs : writeShut s r = false) (hk : s.hif.lock = true)
    (hc : (regWord s r i j ^^^ mergeWord r (regWord s r i j) v) &&& (regSpec r).rwl ≠ 0) :
    writeFields m r i j v s = violation m (regOff r i j) s := by
  have hw : writable r ≠ 0 := writable_ne_zero fun h0 => hc (by rw [h0, Nat.and_zero])
  have hb : lockBad s r (regWord s r i j) (mergeWord r (regWord s r i j) v) = true := by
    simpa [lockBad, hk] using hc
  simp [writeFields, hw, hs, hb]

/-- Settles O8: the write is a violation by `writeFields_locked`, whose raise names no unit, so no block reset follows it. -/
theorem lockFreezesRwlFields : Obligations.LockFreezesRwlFields := by
  unfold Obligations.LockFreezesRwlFields
  intro s r i j m off v hq hm ha ho hl hr hs hk hc
  have hx : exec (.registerWrite m off v) s = .next (violation m (regOff r i j) s) := by
    show Host.Outcome.next (settle (writeBar0 m off v.toNat s)) = _
    rw [writeBar0_at_register _ hm ha ho hl, writeReg_eq_writeFields _ _ _ _ _ hr, writeFields_locked hs hk hc,
      settle_of_nil _ ((violation_resetQ _ _ _).trans hq)]
  refine ⟨_, hx, ?_⟩
  rw [violation_eq_report]
  refine ⟨rfl, ⟨setupViolation m (regOff r i j) s, raise_raised _ s rfl, rfl⟩, ?_, rfl⟩
  rw [← setupViolation_alogNext m (regOff r i j) s]
  exact alog_next_addr _ _ _ _ _

end Sys2Proof.Machine

/-!
SUPPORT. The entry of a host command, fetched, runs that command (R331 to R334): per command, the operation its opcode's table
names, on the parameters unpacked from ARGS.
-/
namespace Sys2Proof.Laws.RunsFetched
open Sys2Proof Sys2Proof.Machine

/-- What an entry with a command's parameters in ARGS runs: an operation of the tables, which on the host's memory with the record
placed does what the command does. -/
def Statement (i : Instr) : Prop :=
  match i.form with
  | .cmd c op a0 a1 args img ranges => fits args = true → below ranges = true → ∀ (tag : Nat) (r : List Byte), ∃ f,
      lookupOp op c { op := op, tag := tag, addr0 := a0, addr1 := a1, args := packFrom 0 args ++ r } = some f ∧
        ∀ s, exec i s = .next (settle (f (place a0 img s)))
  | .event _ => True

/-- The host writes nothing. -/
theorem place_nil (a : Nat) (s : State) : place a [] s = s := rfl

/-- Parameters unpack as they were packed, whatever follows them. -/
theorem unpack_packed {args : List (Nat × Nat)} (r : List Byte) (h : fits args = true) :
    unpackFrom 0 (args.map Prod.fst) (packFrom 0 args ++ r) = args.map Prod.snd := by
  simpa using unpack_pack args [] r 0 h

/-- A table that runs `F` on the parameters unpacked runs it on the parameters packed. -/
theorem run {i : Instr} {c : Cmd} {op a0 a1 : Nat} {args : List (Nat × Nat)} {img : List Byte} {ranges : List (Nat × Nat)}
    (F : List Nat → State → State) (hi : i.form = .cmd c op a0 a1 args img ranges)
    (hl : ∀ tag l, lookupOp op c { op := op, tag := tag, addr0 := a0, addr1 := a1, args := l } =
      some (F (unpackFrom 0 (args.map Prod.fst) l)))
    (hx : ∀ s, exec i s = .next (settle (F (args.map Prod.snd) (place a0 img s)))) : Statement i := by
  unfold Statement
  rw [hi]
  intro hf _ tag r
  exact ⟨_, hl tag _, fun s => by rw [unpack_packed r hf]; exact hx s⟩

theorem nop (c : Cmd) : Statement (.nop c) := run (fun _ => opNop c) rfl (fun _ _ => rfl) (fun _ => rfl)
theorem versionRead (c : Cmd) (a : Nat) : Statement (.versionRead c a) := run (fun _ => opVersionRead c a) rfl (fun _ _ => rfl) (fun _ => rfl)
theorem fence (c : Cmd) : Statement (.fence c) := run (fun _ => opFence c) rfl (fun _ _ => rfl) (fun _ => rfl)
theorem flowDefine (c : Cmd) (a : Nat) (img : List Byte) : Statement (.flowDefine c a img) := run (fun _ => opFlowDefine c a []) rfl (fun _ _ => rfl) (fun _ => rfl)
theorem flowStart (c : Cmd) (flow : Nat) : Statement (.flowStart c flow) := run (fun l => opFlowStart c (l.getD 0 0)) rfl (fun _ _ => rfl) (fun _ => rfl)
theorem flowStop (c : Cmd) (flow : Nat) : Statement (.flowStop c flow) := run (fun l => opFlowStop c (l.getD 0 0)) rfl (fun _ _ => rfl) (fun _ => rfl)
theorem flowDelete (c : Cmd) (flow : Nat) : Statement (.flowDelete c flow) := run (fun l => opFlowDelete c (l.getD 0 0)) rfl (fun _ _ => rfl) (fun _ => rfl)
theorem flowRead (c : Cmd) (flow : Nat) (a : Nat) : Statement (.flowRead c flow a) := run (fun l => opFlowRead c (l.getD 0 0) a) rfl (fun _ _ => rfl) (fun _ => rfl)
theorem consistDefine (c : Cmd) (a : Nat) (img : List Byte) : Statement (.consistDefine c a img) := run (fun _ => opConsistDefine c a []) rfl (fun _ _ => rfl) (fun _ => rfl)
theorem consistDelete (c : Cmd) (n : Nat) : Statement (.consistDelete c n) := run (fun l => opConsistDelete c (l.getD 0 0)) rfl (fun _ _ => rfl) (fun _ => rfl)
theorem consistRead (c : Cmd) (n : Nat) (a : Nat) : Statement (.consistRead c n a) := run (fun l => opConsistRead c (l.getD 0 0) a) rfl (fun _ _ => rfl) (fun _ => rfl)
theorem svpPortSet (c : Cmd) (a : Nat) (img : List Byte) : Statement (.svpPortSet c a img) := run (fun _ => opSvpPortSet c a []) rfl (fun _ _ => rfl) (fun _ => rfl)
theorem svpPortRead (c : Cmd) (port : Nat) (dir : Nat) (a : Nat) : Statement (.svpPortRead c port dir a) := run (fun l => opSvpPortRead c (l.getD 0 0) (l.getD 1 0) a) rfl (fun _ _ => rfl) (fun _ => rfl)
theorem nmpStreamSet (c : Cmd) (a : Nat) (img : List Byte) : Statement (.nmpStreamSet c a img) := run (fun _ => opNmpStreamSet c a []) rfl (fun _ _ => rfl) (fun _ => rfl)
theorem nmpStreamRead (c : Cmd) (flow : Nat) (a : Nat) : Statement (.nmpStreamRead c flow a) := run (fun l => opNmpStreamRead c (l.getD 0 0) a) rfl (fun _ _ => rfl) (fun _ => rfl)
theorem nmpGateLoad (c : Cmd) (mac : Nat) (a : Nat) (img : List Byte) : Statement (.nmpGateLoad c mac a img) := run (fun l => opNmpGateLoad c (l.getD 0 0) a []) rfl (fun _ _ => rfl) (fun _ => rfl)
theorem nmpFrameSend (c : Cmd) (mac : Nat) (queue : Nat) (len : Nat) (option_ : Nat) (a : Nat) (img : List Byte) : Statement (.nmpFrameSend c mac queue len option_ a img) := run (fun l => opNmpFrameSend c (l.getD 0 0) (l.getD 1 0) (l.getD 2 0) (l.getD 3 0) a []) rfl (fun _ _ => rfl) (fun _ => rfl)
theorem pageLoad (c : Cmd) (a : Nat) (img : List Byte) : Statement (.pageLoad c a img) := run (fun _ => opPageLoad c a []) rfl (fun _ _ => rfl) (fun _ => rfl)
theorem pageWithdraw (c : Cmd) (page : Nat) : Statement (.pageWithdraw c page) := run (fun l => opPageWithdraw c (l.getD 0 0)) rfl (fun _ _ => rfl) (fun _ => rfl)
theorem pageStatus (c : Cmd) (page : Nat) (a : Nat) : Statement (.pageStatus c page a) := run (fun l => opPageStatus c (l.getD 0 0) a) rfl (fun _ _ => rfl) (fun _ => rfl)
theorem xpDirect (c : Cmd) (word : Nat) (sel : Nat) (src : Nat) : Statement (.xpDirect c word sel src) := run (fun l => opXpDirect c (l.getD 0 0) (l.getD 1 0) (l.getD 2 0)) rfl (fun _ _ => rfl) (fun _ => rfl)
theorem xpRead (c : Cmd) (first : Nat) (count : Nat) (a : Nat) : Statement (.xpRead c first count a) := run (fun l => opXpRead c (l.getD 0 0) (l.getD 1 0) a) rfl (fun _ _ => rfl) (fun _ => rfl)
theorem platformSet (c : Cmd) (flow : Nat) (depth : Nat) : Statement (.platformSet c flow depth) := run (fun l => opPlatformSet c (l.getD 0 0) (l.getD 1 0)) rfl (fun _ _ => rfl) (fun _ => rfl)
theorem cellRowSpare (c : Cmd) (bank : Nat) (row : Nat) (dom : Nat) (fi : Nat) : Statement (.cellRowSpare c bank row dom fi) := run (fun l => opCellRowSpare c (l.getD 0 0) (l.getD 1 0) (l.getD 2 0) (l.getD 3 0)) rfl (fun _ _ => rfl) (fun _ => rfl)
theorem linkStart (c : Cmd) (link : Nat) : Statement (.linkStart c link) := run (fun l => opLinkStart c (l.getD 0 0)) rfl (fun _ _ => rfl) (fun _ => rfl)
theorem linkStop (c : Cmd) (link : Nat) : Statement (.linkStop c link) := run (fun l => opLinkStop c (l.getD 0 0)) rfl (fun _ _ => rfl) (fun _ => rfl)
theorem linkRead (c : Cmd) (first : Nat) (count : Nat) (a : Nat) : Statement (.linkRead c first count a) := run (fun l => opLinkRead c (l.getD 0 0) (l.getD 1 0) a) rfl (fun _ _ => rfl) (fun _ => rfl)
theorem planLoad (c : Cmd) (link : Nat) (a : Nat) (img : List Byte) : Statement (.planLoad c link a img) := run (fun l => opPlanLoad c (l.getD 0 0) a []) rfl (fun _ _ => rfl) (fun _ => rfl)
theorem planSwap (c : Cmd) (cycle : Nat) (a : Nat) (img : List Byte) : Statement (.planSwap c cycle a img) := run (fun l => opPlanSwap c (l.getD 0 0) a []) rfl (fun _ _ => rfl) (fun _ => rfl)
theorem planRead (c : Cmd) (link : Nat) (bank : Nat) (a : Nat) : Statement (.planRead c link bank a) := run (fun l => opPlanRead c (l.getD 0 0) (l.getD 1 0) a) rfl (fun _ _ => rfl) (fun _ => rfl)
theorem routeDefine (c : Cmd) (a : Nat) (img : List Byte) : Statement (.routeDefine c a img) := run (fun _ => opRouteDefine c a []) rfl (fun _ _ => rfl) (fun _ => rfl)
theorem routeDelete (c : Cmd) (feeder : Nat) : Statement (.routeDelete c feeder) := run (fun l => opRouteDelete c (l.getD 0 0)) rfl (fun _ _ => rfl) (fun _ => rfl)
theorem routeVerify (c : Cmd) (feeder : Nat) : Statement (.routeVerify c feeder) := run (fun l => opRouteVerify c (l.getD 0 0)) rfl (fun _ _ => rfl) (fun _ => rfl)
theorem routeStatus (c : Cmd) (feeder : Nat) (a : Nat) : Statement (.routeStatus c feeder a) := run (fun l => opRouteStatus c (l.getD 0 0) a) rfl (fun _ _ => rfl) (fun _ => rfl)
theorem ctrlRouteSet (c : Cmd) (dest : Nat) (a : Nat) (img : List Byte) : Statement (.ctrlRouteSet c dest a img) := run (fun l => opCtrlRouteSet c (l.getD 0 0) a []) rfl (fun _ _ => rfl) (fun _ => rfl)
theorem fwdSet (c : Cmd) (first : Nat) (count : Nat) (a : Nat) (img : List Byte) : Statement (.fwdSet c first count a img) := run (fun l => opFwdSet c (l.getD 0 0) (l.getD 1 0) a []) rfl (fun _ _ => rfl) (fun _ => rfl)
theorem msgSend (c : Cmd) (dest : Nat) (cls : Nat) (len : Nat) (a : Nat) (img : List Byte) : Statement (.msgSend c dest cls len a img) := run (fun l => opMsgSend c (l.getD 0 0) (l.getD 1 0) (l.getD 2 0) a []) rfl (fun _ _ => rfl) (fun _ => rfl)
theorem procSet (c : Cmd) (a : Nat) (img : List Byte) : Statement (.procSet c a img) := run (fun _ => opProcSet c a []) rfl (fun _ _ => rfl) (fun _ => rfl)
theorem procParamLoad (c : Cmd) (pf : Nat) (set : Nat) (a : Nat) (img : List Byte) : Statement (.procParamLoad c pf set a img) := run (fun l => opProcParamLoad c (l.getD 0 0) (l.getD 1 0) a []) rfl (fun _ _ => rfl) (fun _ => rfl)
theorem procRead (c : Cmd) (pf : Nat) (a : Nat) : Statement (.procRead c pf a) := run (fun l => opProcRead c (l.getD 0 0) a) rfl (fun _ _ => rfl) (fun _ => rfl)
theorem engineSpare (c : Cmd) (room : Nat) (slot : Nat) (tile : Nat) (dom : Nat) (fi : Nat) : Statement (.engineSpare c room slot tile dom fi) := run (fun l => opEngineSpare c (l.getD 0 0) (l.getD 1 0) (l.getD 2 0) (l.getD 3 0) (l.getD 4 0)) rfl (fun _ _ => rfl) (fun _ => rfl)
theorem layerStatus (c : Cmd) (pf : Nat) (a : Nat) : Statement (.layerStatus c pf a) := run (fun l => opLayerStatus c (l.getD 0 0) a) rfl (fun _ _ => rfl) (fun _ => rfl)
theorem audPortSet (c : Cmd) (a : Nat) (img : List Byte) : Statement (.audPortSet c a img) := run (fun _ => opAudPortSet c a []) rfl (fun _ _ => rfl) (fun _ => rfl)
theorem audPortRead (c : Cmd) (port : Nat) (a : Nat) : Statement (.audPortRead c port a) := run (fun l => opAudPortRead c (l.getD 0 0) a) rfl (fun _ _ => rfl) (fun _ => rfl)
theorem audPortResume (c : Cmd) (port : Nat) : Statement (.audPortResume c port) := run (fun l => opAudPortResume c (l.getD 0 0)) rfl (fun _ _ => rfl) (fun _ => rfl)
theorem audioXpDirect (c : Cmd) (out : Nat) (inp : Nat) (gain : Nat) (ramp : Nat) : Statement (.audioXpDirect c out inp gain ramp) := run (fun l => opAudioXpDirect c (l.getD 0 0) (l.getD 1 0) (l.getD 2 0) (l.getD 3 0)) rfl (fun _ _ => rfl) (fun _ => rfl)
theorem audioXpRead (c : Cmd) (out : Nat) (a : Nat) : Statement (.audioXpRead c out a) := run (fun l => opAudioXpRead c (l.getD 0 0) a) rfl (fun _ _ => rfl) (fun _ => rfl)
theorem audDelaySet (c : Cmd) (first : Nat) (count : Nat) (store : Nat) (max : Nat) : Statement (.audDelaySet c first count store max) := run (fun l => opAudDelaySet c (l.getD 0 0) (l.getD 1 0) (l.getD 2 0) (l.getD 3 0)) rfl (fun _ _ => rfl) (fun _ => rfl)
theorem audDelayChange (c : Cmd) (first : Nat) (count : Nat) (delay : Nat) (ramp : Nat) (dom : Nat) (fi : Nat) : Statement (.audDelayChange c first count delay ramp dom fi) := run (fun l => opAudDelayChange c (l.getD 0 0) (l.getD 1 0) (l.getD 2 0) (l.getD 3 0) (l.getD 4 0) (l.getD 5 0)) rfl (fun _ _ => rfl) (fun _ => rfl)
theorem audDelayRead (c : Cmd) (first : Nat) (count : Nat) (a : Nat) : Statement (.audDelayRead c first count a) := run (fun l => opAudDelayRead c (l.getD 0 0) (l.getD 1 0) a) rfl (fun _ _ => rfl) (fun _ => rfl)
theorem audCsSet (c : Cmd) (flow : Nat) (a : Nat) (img : List Byte) : Statement (.audCsSet c flow a img) := run (fun l => opAudCsSet c (l.getD 0 0) a []) rfl (fun _ _ => rfl) (fun _ => rfl)
theorem memTrain (c : Cmd) (unit : Nat) : Statement (.memTrain c unit) := run (fun l => opMemTrain c (l.getD 0 0)) rfl (fun _ _ => rfl) (fun _ => rfl)
theorem memFreq (c : Cmd) (pair : Nat) (rate : Nat) : Statement (.memFreq c pair rate) := run (fun l => opMemFreq c (l.getD 0 0) (l.getD 1 0)) rfl (fun _ _ => rfl) (fun _ => rfl)
theorem memWinSet (c : Cmd) (win : Nat) (store : Nat) (base : Nat) (size : Nat) (reserve : Nat) : Statement (.memWinSet c win store base size reserve) := run (fun l => opMemWinSet c (l.getD 0 0) (l.getD 1 0) (l.getD 2 0) (l.getD 3 0) (l.getD 4 0)) rfl (fun _ _ => rfl) (fun _ => rfl)
theorem memMove (c : Cmd) (a : Nat) (img : List Byte) : Statement (.memMove c a img) := run (fun _ => opMemMove c a []) rfl (fun _ _ => rfl) (fun _ => rfl)
theorem memSpare (c : Cmd) (kind : Nat) (loc : Nat) (row : Nat) (col : Nat) (dom : Nat) (fi : Nat) : Statement (.memSpare c kind loc row col dom fi) := run (fun l => opMemSpare c (l.getD 0 0) (l.getD 1 0) (l.getD 2 0) (l.getD 3 0) (l.getD 4 0) (l.getD 5 0)) rfl (fun _ _ => rfl) (fun _ => rfl)
theorem memWearRead (c : Cmd) (ctrl : Nat) (a : Nat) : Statement (.memWearRead c ctrl a) := run (fun l => opMemWearRead c (l.getD 0 0) a) rfl (fun _ _ => rfl) (fun _ => rfl)
theorem laneSpare (c : Cmd) (lane : Nat) (spare : Nat) (dom : Nat) (fi : Nat) : Statement (.laneSpare c lane spare dom fi) := run (fun l => opLaneSpare c (l.getD 0 0) (l.getD 1 0) (l.getD 2 0) (l.getD 3 0)) rfl (fun _ _ => rfl) (fun _ => rfl)
theorem timeStepAccept (c : Cmd) (target : Nat) : Statement (.timeStepAccept c target) := run (fun l => opTimeStepAccept c (l.getD 0 0)) rfl (fun _ _ => rfl) (fun _ => rfl)
theorem holdoverCoefLoad (c : Cmd) (a : Nat) (img : List Byte) : Statement (.holdoverCoefLoad c a img) := run (fun _ => opHoldoverCoefLoad c a []) rfl (fun _ _ => rfl) (fun _ => rfl)
theorem timeSet (c : Cmd) (seconds : Nat) : Statement (.timeSet c seconds) := run (fun l => opTimeSet c (l.getD 0 0)) rfl (fun _ _ => rfl) (fun _ => rfl)
theorem pairStart (c : Cmd) : Statement (.pairStart c) := run (fun _ => opPairStart c) rfl (fun _ _ => rfl) (fun _ => rfl)
theorem pairStop (c : Cmd) : Statement (.pairStop c) := run (fun _ => opPairStop c) rfl (fun _ _ => rfl) (fun _ => rfl)
theorem tabletRequest (c : Cmd) : Statement (.tabletRequest c) := run (fun _ => opTabletRequest c) rfl (fun _ _ => rfl) (fun _ => rfl)
theorem tabletTake (c : Cmd) : Statement (.tabletTake c) := run (fun _ => opTabletTake c) rfl (fun _ _ => rfl) (fun _ => rfl)
theorem pairStatus (c : Cmd) (a : Nat) : Statement (.pairStatus c a) := run (fun _ => opPairStatus c a) rfl (fun _ _ => rfl) (fun _ => rfl)
theorem faultRead (c : Cmd) (first : Nat) (count : Nat) (a : Nat) : Statement (.faultRead c first count a) := run (fun l => opFaultRead c (l.getD 0 0) (l.getD 1 0) a) rfl (fun _ _ => rfl) (fun _ => rfl)
theorem faultClear (c : Cmd) (first : Nat) (count : Nat) : Statement (.faultClear c first count) := run (fun l => opFaultClear c (l.getD 0 0) (l.getD 1 0)) rfl (fun _ _ => rfl) (fun _ => rfl)
theorem aliveResume (c : Cmd) : Statement (.aliveResume c) := run (fun _ => opAliveResume c) rfl (fun _ _ => rfl) (fun _ => rfl)
theorem snapshotRead (c : Cmd) (a : Nat) : Statement (.snapshotRead c a) := run (fun _ => opSnapshotRead c a) rfl (fun _ _ => rfl) (fun _ => rfl)
theorem faultInject (c : Cmd) (src : Nat) : Statement (.faultInject c src) := run (fun l => opFaultInject c (l.getD 0 0)) rfl (fun _ _ => rfl) (fun _ => rfl)
theorem laneEyeScan (c : Cmd) (lane : Nat) (eye : Nat) (hStep : Nat) (vStep : Nat) (dwell : Nat) (a : Nat) : Statement (.laneEyeScan c lane eye hStep vStep dwell a) := run (fun l => opLaneEyeScan c (l.getD 0 0) (l.getD 1 0) (l.getD 2 0) (l.getD 3 0) (l.getD 4 0) a) rfl (fun _ _ => rfl) (fun _ => rfl)
theorem lanePrbs (c : Cmd) (lane : Nat) (rate : Nat) (pattern : Nat) (dir : Nat) (duration : Nat) : Statement (.lanePrbs c lane rate pattern dir duration) := run (fun l => opLanePrbs c (l.getD 0 0) (l.getD 1 0) (l.getD 2 0) (l.getD 3 0) (l.getD 4 0)) rfl (fun _ _ => rfl) (fun _ => rfl)
theorem pwrStateSet (c : Cmd) (target : Nat) : Statement (.pwrStateSet c target) := run (fun l => opPwrStateSet c (l.getD 0 0)) rfl (fun _ _ => rfl) (fun _ => rfl)
theorem thermCoefLoad (c : Cmd) (a : Nat) (img : List Byte) : Statement (.thermCoefLoad c a img) := run (fun _ => opThermCoefLoad c a []) rfl (fun _ _ => rfl) (fun _ => rfl)
theorem identityRead (c : Cmd) (a : Nat) : Statement (.identityRead c a) := run (fun _ => opIdentityRead c a) rfl (fun _ _ => rfl) (fun _ => rfl)
theorem attestQuote (c : Cmd) (nonceAt : Nat) (a : Nat) (nonce : List Byte) : Statement (.attestQuote c nonceAt a nonce) := run (fun _ => opAttestQuote c nonceAt a []) rfl (fun _ _ => rfl) (fun _ => rfl)
theorem updateApply (c : Cmd) (a : Nat) (len : Nat) (img : List Byte) : Statement (.updateApply c a len img) := run (fun l => opUpdateApply c a (l.getD 0 0) []) rfl (fun _ _ => rfl) (fun s => by
  show Host.Outcome.next (settle (opUpdateApply c a len img s)) = .next (settle (opUpdateApply c a len [] (place a img s)))
  simp only [opUpdateApply, place_nil])
theorem updateCommit (c : Cmd) : Statement (.updateCommit c) := run (fun _ => opUpdateCommit c) rfl (fun _ _ => rfl) (fun _ => rfl)
theorem rollbackAdvance (c : Cmd) : Statement (.rollbackAdvance c) := run (fun _ => opRollbackAdvance c) rfl (fun _ _ => rfl) (fun _ => rfl)
theorem lifecycleSet (c : Cmd) (target : Nat) (a : Nat) (img : List Byte) : Statement (.lifecycleSet c target a img) := run (fun l => opLifecycleSet c (l.getD 0 0) a []) rfl (fun _ _ => rfl) (fun _ => rfl)
theorem cosignerFuse (c : Cmd) (a : Nat) (img : List Byte) : Statement (.cosignerFuse c a img) := run (fun _ => opCosignerFuse c a []) rfl (fun _ _ => rfl) (fun _ => rfl)
theorem tokenNonce (c : Cmd) (a : Nat) : Statement (.tokenNonce c a) := run (fun _ => opTokenNonce c a) rfl (fun _ _ => rfl) (fun _ => rfl)

/-- Candidate 31 of REF_FORCE is another row's, so a candidate below it is forced. -/
theorem refForce (c : Cmd) (cand : Nat) : Statement (.refForce c cand) := by
  intro hf hb tag r
  have hc : cand ≠ 31 := by simp [below] at hb; omega
  refine ⟨_, congrArg (fun l => some (if List.getD l 0 0 = 31 then opRefForceRelease c else opRefForce c (List.getD l 0 0)))
    (unpack_packed r hf), fun s => ?_⟩
  simp only [List.map_cons, List.getD_cons_zero, if_neg hc]
  rfl

theorem refForceRelease (c : Cmd) : Statement (.refForceRelease c) :=
  run (fun l => if l.getD 0 0 = 31 then opRefForceRelease c else opRefForce c (l.getD 0 0)) rfl (fun _ _ => rfl) (fun _ => rfl)

/-- A PRBS test of duration 0 is a stop. -/
theorem lanePrbsStop (c : Cmd) (lane : Nat) : Statement (.lanePrbsStop c lane) :=
  run (fun l => opLanePrbs c (l.getD 0 0) (l.getD 1 0) (l.getD 2 0) (l.getD 3 0) (l.getD 4 0)) rfl (fun _ _ => rfl) (fun _ => rfl)

/-- Every host command's parameters fit its entry, and its entry runs it; every other command has no entry. -/
theorem fits_and_runs (i : Instr) : FitsEntry.Statement i ∧ Statement i := by
  cases i with
  | nop c => exact ⟨FitsEntry.nop c, nop c⟩
  | versionRead c a => exact ⟨FitsEntry.versionRead c a, versionRead c a⟩
  | fence c => exact ⟨FitsEntry.fence c, fence c⟩
  | flowDefine c a img => exact ⟨FitsEntry.flowDefine c a img, flowDefine c a img⟩
  | flowStart c flow => exact ⟨FitsEntry.flowStart c flow, flowStart c flow⟩
  | flowStop c flow => exact ⟨FitsEntry.flowStop c flow, flowStop c flow⟩
  | flowDelete c flow => exact ⟨FitsEntry.flowDelete c flow, flowDelete c flow⟩
  | flowRead c flow a => exact ⟨FitsEntry.flowRead c flow a, flowRead c flow a⟩
  | consistDefine c a img => exact ⟨FitsEntry.consistDefine c a img, consistDefine c a img⟩
  | consistDelete c n => exact ⟨FitsEntry.consistDelete c n, consistDelete c n⟩
  | consistRead c n a => exact ⟨FitsEntry.consistRead c n a, consistRead c n a⟩
  | svpPortSet c a img => exact ⟨FitsEntry.svpPortSet c a img, svpPortSet c a img⟩
  | svpPortRead c port dir a => exact ⟨FitsEntry.svpPortRead c port dir a, svpPortRead c port dir a⟩
  | nmpStreamSet c a img => exact ⟨FitsEntry.nmpStreamSet c a img, nmpStreamSet c a img⟩
  | nmpStreamRead c flow a => exact ⟨FitsEntry.nmpStreamRead c flow a, nmpStreamRead c flow a⟩
  | nmpGateLoad c mac a img => exact ⟨FitsEntry.nmpGateLoad c mac a img, nmpGateLoad c mac a img⟩
  | nmpFrameSend c mac queue len option_ a img => exact ⟨FitsEntry.nmpFrameSend c mac queue len option_ a img, nmpFrameSend c mac queue len option_ a img⟩
  | pageLoad c a img => exact ⟨FitsEntry.pageLoad c a img, pageLoad c a img⟩
  | pageWithdraw c page => exact ⟨FitsEntry.pageWithdraw c page, pageWithdraw c page⟩
  | pageStatus c page a => exact ⟨FitsEntry.pageStatus c page a, pageStatus c page a⟩
  | xpDirect c word sel src => exact ⟨FitsEntry.xpDirect c word sel src, xpDirect c word sel src⟩
  | xpRead c first count a => exact ⟨FitsEntry.xpRead c first count a, xpRead c first count a⟩
  | platformSet c flow depth => exact ⟨FitsEntry.platformSet c flow depth, platformSet c flow depth⟩
  | cellRowSpare c bank row dom fi => exact ⟨FitsEntry.cellRowSpare c bank row dom fi, cellRowSpare c bank row dom fi⟩
  | linkStart c link => exact ⟨FitsEntry.linkStart c link, linkStart c link⟩
  | linkStop c link => exact ⟨FitsEntry.linkStop c link, linkStop c link⟩
  | linkRead c first count a => exact ⟨FitsEntry.linkRead c first count a, linkRead c first count a⟩
  | planLoad c link a img => exact ⟨FitsEntry.planLoad c link a img, planLoad c link a img⟩
  | planSwap c cycle a img => exact ⟨FitsEntry.planSwap c cycle a img, planSwap c cycle a img⟩
  | planRead c link bank a => exact ⟨FitsEntry.planRead c link bank a, planRead c link bank a⟩
  | routeDefine c a img => exact ⟨FitsEntry.routeDefine c a img, routeDefine c a img⟩
  | routeDelete c feeder => exact ⟨FitsEntry.routeDelete c feeder, routeDelete c feeder⟩
  | routeVerify c feeder => exact ⟨FitsEntry.routeVerify c feeder, routeVerify c feeder⟩
  | routeStatus c feeder a => exact ⟨FitsEntry.routeStatus c feeder a, routeStatus c feeder a⟩
  | ctrlRouteSet c dest a img => exact ⟨FitsEntry.ctrlRouteSet c dest a img, ctrlRouteSet c dest a img⟩
  | fwdSet c first count a img => exact ⟨FitsEntry.fwdSet c first count a img, fwdSet c first count a img⟩
  | msgSend c dest cls len a img => exact ⟨FitsEntry.msgSend c dest cls len a img, msgSend c dest cls len a img⟩
  | procSet c a img => exact ⟨FitsEntry.procSet c a img, procSet c a img⟩
  | procParamLoad c pf set a img => exact ⟨FitsEntry.procParamLoad c pf set a img, procParamLoad c pf set a img⟩
  | procRead c pf a => exact ⟨FitsEntry.procRead c pf a, procRead c pf a⟩
  | engineSpare c room slot tile dom fi => exact ⟨FitsEntry.engineSpare c room slot tile dom fi, engineSpare c room slot tile dom fi⟩
  | layerStatus c pf a => exact ⟨FitsEntry.layerStatus c pf a, layerStatus c pf a⟩
  | audPortSet c a img => exact ⟨FitsEntry.audPortSet c a img, audPortSet c a img⟩
  | audPortRead c port a => exact ⟨FitsEntry.audPortRead c port a, audPortRead c port a⟩
  | audPortResume c port => exact ⟨FitsEntry.audPortResume c port, audPortResume c port⟩
  | audioXpDirect c out inp gain ramp => exact ⟨FitsEntry.audioXpDirect c out inp gain ramp, audioXpDirect c out inp gain ramp⟩
  | audioXpRead c out a => exact ⟨FitsEntry.audioXpRead c out a, audioXpRead c out a⟩
  | audDelaySet c first count store max => exact ⟨FitsEntry.audDelaySet c first count store max, audDelaySet c first count store max⟩
  | audDelayChange c first count delay ramp dom fi => exact ⟨FitsEntry.audDelayChange c first count delay ramp dom fi, audDelayChange c first count delay ramp dom fi⟩
  | audDelayRead c first count a => exact ⟨FitsEntry.audDelayRead c first count a, audDelayRead c first count a⟩
  | audCsSet c flow a img => exact ⟨FitsEntry.audCsSet c flow a img, audCsSet c flow a img⟩
  | memTrain c unit => exact ⟨FitsEntry.memTrain c unit, memTrain c unit⟩
  | memFreq c pair rate => exact ⟨FitsEntry.memFreq c pair rate, memFreq c pair rate⟩
  | memWinSet c win store base size reserve => exact ⟨FitsEntry.memWinSet c win store base size reserve, memWinSet c win store base size reserve⟩
  | memMove c a img => exact ⟨FitsEntry.memMove c a img, memMove c a img⟩
  | memSpare c kind loc row col dom fi => exact ⟨FitsEntry.memSpare c kind loc row col dom fi, memSpare c kind loc row col dom fi⟩
  | memWearRead c ctrl a => exact ⟨FitsEntry.memWearRead c ctrl a, memWearRead c ctrl a⟩
  | laneSpare c lane spare dom fi => exact ⟨FitsEntry.laneSpare c lane spare dom fi, laneSpare c lane spare dom fi⟩
  | timeStepAccept c target => exact ⟨FitsEntry.timeStepAccept c target, timeStepAccept c target⟩
  | refForce c cand => exact ⟨FitsEntry.refForce c cand, refForce c cand⟩
  | refForceRelease c => exact ⟨FitsEntry.refForceRelease c, refForceRelease c⟩
  | holdoverCoefLoad c a img => exact ⟨FitsEntry.holdoverCoefLoad c a img, holdoverCoefLoad c a img⟩
  | timeSet c seconds => exact ⟨FitsEntry.timeSet c seconds, timeSet c seconds⟩
  | pairStart c => exact ⟨FitsEntry.pairStart c, pairStart c⟩
  | pairStop c => exact ⟨FitsEntry.pairStop c, pairStop c⟩
  | tabletRequest c => exact ⟨FitsEntry.tabletRequest c, tabletRequest c⟩
  | tabletTake c => exact ⟨FitsEntry.tabletTake c, tabletTake c⟩
  | pairStatus c a => exact ⟨FitsEntry.pairStatus c a, pairStatus c a⟩
  | faultRead c first count a => exact ⟨FitsEntry.faultRead c first count a, faultRead c first count a⟩
  | faultClear c first count => exact ⟨FitsEntry.faultClear c first count, faultClear c first count⟩
  | aliveResume c => exact ⟨FitsEntry.aliveResume c, aliveResume c⟩
  | snapshotRead c a => exact ⟨FitsEntry.snapshotRead c a, snapshotRead c a⟩
  | faultInject c src => exact ⟨FitsEntry.faultInject c src, faultInject c src⟩
  | laneEyeScan c lane eye hStep vStep dwell a => exact ⟨FitsEntry.laneEyeScan c lane eye hStep vStep dwell a, laneEyeScan c lane eye hStep vStep dwell a⟩
  | lanePrbs c lane rate pattern dir duration => exact ⟨FitsEntry.lanePrbs c lane rate pattern dir duration, lanePrbs c lane rate pattern dir duration⟩
  | lanePrbsStop c lane => exact ⟨FitsEntry.lanePrbsStop c lane, lanePrbsStop c lane⟩
  | pwrStateSet c target => exact ⟨FitsEntry.pwrStateSet c target, pwrStateSet c target⟩
  | thermCoefLoad c a img => exact ⟨FitsEntry.thermCoefLoad c a img, thermCoefLoad c a img⟩
  | identityRead c a => exact ⟨FitsEntry.identityRead c a, identityRead c a⟩
  | attestQuote c nonceAt a nonce => exact ⟨FitsEntry.attestQuote c nonceAt a nonce, attestQuote c nonceAt a nonce⟩
  | updateApply c a len img => exact ⟨FitsEntry.updateApply c a len img, updateApply c a len img⟩
  | updateCommit c => exact ⟨FitsEntry.updateCommit c, updateCommit c⟩
  | rollbackAdvance c => exact ⟨FitsEntry.rollbackAdvance c, rollbackAdvance c⟩
  | lifecycleSet c target a img => exact ⟨FitsEntry.lifecycleSet c target a img, lifecycleSet c target a img⟩
  | cosignerFuse c a img => exact ⟨FitsEntry.cosignerFuse c a img, cosignerFuse c a img⟩
  | tokenNonce c a => exact ⟨FitsEntry.tokenNonce c a, tokenNonce c a⟩
  | _ => exact ⟨rfl, trivial⟩

end Sys2Proof.Laws.RunsFetched

namespace Sys2Proof.Machine
open Sys2Proof

/-- Settles O4: the entry's fields read back by `parse_entry`, and the table runs the command by `Laws.RunsFetched`. -/
theorem entryRunsItsCommand : Obligations.EntryRunsItsCommand := by
  unfold Obligations.EntryRunsItsCommand
  intro i e hw he
  obtain ⟨hfit, hs⟩ := Laws.RunsFetched.fits_and_runs i
  unfold Laws.RunsFetched.Statement at hs
  unfold Laws.FitsEntry.Statement at hfit
  unfold Instr.wf Form.ok at hw
  unfold entryOf at he
  unfold cmdOf hostWrites
  cases hform : i.form with
  | event ranges => simp [hform] at he
  | cmd c op a0 a1 args img ranges =>
    simp only [hform, Option.some.injEq, Bool.and_eq_true, decide_eq_true_eq] at he hw hs hfit ⊢
    obtain ⟨⟨⟨⟨⟨-, ht⟩, h0⟩, h1⟩, hf⟩, hb⟩ := hw
    subst he
    refine ⟨parse_entry op c.tag a0 a1 _ hfit.1 ht h0 h1 (by simp [padTo]), ?_⟩
    rw [padTo_short _ _ hfit.2]
    exact hs hf hb c.tag _

end Sys2Proof.Machine

/-!
SUPPORT. Every command's meaning is an operation followed by the block resets it decided (R379, R380): what a step does, and how a
claim that a command completes is shown.
-/
namespace Sys2Proof.Machine
open Sys2Proof

/-- A command answers the state that its operation leaves, its block resets carried out. -/
theorem exec_settles (i : Instr) (s : State) : ∃ u, exec i s = .next (settle u) := by
  cases i <;> exact ⟨_, rfl⟩

/-- A command whose operation decides no block reset completes as its operation leaves the state. -/
theorem completes_of {i : Instr} {s v u : State} {P : State → Prop} (hx : exec i s = .next (settle v)) (hv : v = u)
    (hq : u.flt.resetQ = []) (h : P u) : Completes i s P := ⟨u, by rw [hx, hv, settle_of_nil u hq], h⟩

/-- Settles O1: `step` looks at the front of the queue and nothing else. -/
theorem stepRunsFrontCommand : Obligations.StepRunsFrontCommand := by
  unfold Obligations.StepRunsFrontCommand
  intro s c rest h
  unfold step
  rw [h]

/-- At rate 0 the counter gains one nanosecond and its fraction stands. -/
theorem idleTick_untuned (s : State) (h : counterRate s = 0) (hf : s.tim.frac < 2 ^ 32) :
    idleTick s = { s with tim := { s.tim with now := s.tim.now + 1 } } := by
  have hx : ((s.tim.frac + 2 ^ 32 : Nat) + (0 : Int) * 2 ^ 32 / 10 ^ 12).toNat = s.tim.frac + 2 ^ 32 := by simp; omega
  have h1 : (s.tim.frac + 2 ^ 32) / 2 ^ 32 = 1 := by omega
  have h2 : (s.tim.frac + 2 ^ 32) % 2 ^ 32 = s.tim.frac := by omega
  unfold idleTick
  rw [h]
  simp only [hx, h1, h2]

/-- Settles O2: an empty queue is an idle tick. -/
theorem idleStepPassesTime : Obligations.IdleStepPassesTime := by
  unfold Obligations.IdleStepPassesTime
  rintro s x h rfl
  have hs : step s = .next (idleTick s) := by unfold step; rw [h]
  exact ⟨hs, fun hr hf => by rw [hs, idleTick_untuned s hr hf]⟩

/-- Settles O3: every command's meaning answers a next state. -/
theorem noCommandStopsTheBlock : Obligations.NoCommandStopsTheBlock := by
  unfold Obligations.NoCommandStopsTheBlock
  intro s i
  obtain ⟨u, hu⟩ := exec_settles i s
  exact ⟨_, hu⟩

/-- An idle nanosecond decides no block reset. -/
theorem idleTick_resetQ (s : State) : (idleTick s).flt.resetQ = s.flt.resetQ := rfl

/-- Settles O5: a command's resets are carried out by `settle_resetQ`, and an idle nanosecond decides none. -/
theorem everyStepCarriesOutItsResets : Obligations.EveryStepCarriesOutItsResets := by
  unfold Obligations.EveryStepCarriesOutItsResets
  intro s t hs h
  unfold step at h
  split at h
  · cases h
    exact (idleTick_resetQ s).trans hs
  · obtain ⟨u, hu⟩ := exec_settles _ _
    rw [hu] at h
    cases h
    exact settle_resetQ u

/-- Settles O6: the collector starts with nothing queued. -/
theorem resetHasNoResetWaiting : Obligations.ResetHasNoResetWaiting := by
  unfold Obligations.ResetHasNoResetWaiting Settled
  rfl

/-! ## The general commands (R341) -/

/-- A command that writes a record, with its host accesses good. -/
theorem readBack_ok {c : Cmd} (h : c.hostOk = true) (a : Nat) (bytes : State → List Byte) (s : State) :
    readBack c a bytes s = (replyDone, hostWrite a (bytes s) s) := by
  unfold readBack; rw [if_pos h]

/-- A command that writes a record, with its host accesses failing. -/
theorem readBack_bad {c : Cmd} (h : c.hostOk = false) (a : Nat) (bytes : State → List Byte) (s : State) :
    readBack c a bytes s = (addressError a, s) := by
  unfold readBack; rw [h]; rfl

/-- What the host or the device writes to host memory leaves a unit as clear as it was. -/
theorem clear_place {s : State} (h : Clear s) (a : Nat) (l : List Byte) : Clear (place a l s) := by
  obtain ⟨hf, hq, hb⟩ := h
  exact ⟨by rw [place_hif_fences, hf], by rw [place_flt, hq], by rw [← hb]; simp only [barred, place_red]⟩

/-- A command that writes a record at `a` ends DONE with the record there. -/
theorem hostCmd_readBack_done {c : Cmd} (op : Nat) (ch : Bool) (a : Nat) (bytes : State → List Byte) {s : State} (hc : Clear s)
    (h : c.hostOk = true) : EndsDone c op 0 (hostWrite a (bytes s) s) (settle (hostCmd c op ch (readBack c a bytes) s)) := by
  obtain ⟨hf, hq, -⟩ := clear_place hc a (bytes s)
  exact hostCmd_done c op ch _ s (readBack_ok h a _ s) hc hf hq

/-- A command that cannot write its record ends ADDRESS_ERROR. -/
theorem hostCmd_readBack_fails {c : Cmd} (op : Nat) (ch : Bool) (a : Nat) (bytes : State → List Byte) {s : State} (hc : Clear s)
    (h : c.hostOk = false) : Fails c op 0x21 a s (settle (hostCmd c op ch (readBack c a bytes) s)) :=
  hostCmd_fails c op ch _ s (readBack_bad h a _ s) hc

theorem versionRecord_length (s : State) : (versionRecord s).length = 64 := by
  simp [versionRecord, List.range_succ]

/-- A field at the front of a byte string. -/
theorem slice_head {n : Nat} (l r : List Byte) (h : l.length = n) : slice (l ++ r) 0 n = l := by
  subst h; simp [slice]

/-- The record begins with IDENT_ID. -/
theorem versionRecord_ident (s : State) : fieldAt (versionRecord s) 0 4 = 0x1024B000 := by
  unfold versionRecord fieldAt
  simp only [List.append_assoc]
  rw [slice_head _ _ (leBytes_length 4 _)]
  exact leNat_leBytes 4 identWord (by decide)

/-- A FENCE that no other ring holds back completes. -/
theorem opFence_idle {c : Cmd} {s : State} (h : busyRings s c.ring = []) : opFence c s = complete c 0x0003 replyDone s := by
  unfold opFence; rw [h]; rfl

/-- A FENCE that other rings hold back waits for them, and its own ring waits for it. -/
theorem opFence_busy {c : Cmd} {s : State} (h : busyRings s c.ring ≠ []) :
    opFence c s =
      holdRing c { s with hif := { s.hif with fences := s.hif.fences ++ [{ cmd := c, rings := busyRings s c.ring }] } } := by
  unfold opFence
  rw [if_neg (by simpa using h)]

/-- Settles O7: each command by the rule of its ending; a FENCE by `opFence_idle` and `opFence_busy`. -/
theorem generalCommandsComplete : Obligations.GeneralCommandsComplete := by
  unfold Obligations.GeneralCommandsComplete
  intro c a s hc
  obtain ⟨hf, hq, hb⟩ := hc
  refine ⟨⟨_, rfl, ?_⟩, fun hk => ⟨_, rfl, ?_⟩, fun hk => ⟨_, rfl, ?_⟩, versionRecord_length s, versionRecord_ident s,
    fun hr => ?_, fun hr => ?_⟩
  · exact hostCmd_done c 0x0001 false _ s rfl ⟨hf, hq, hb⟩ hf hq
  · exact hostCmd_readBack_done 0x0002 false a _ ⟨hf, hq, hb⟩ hk
  · exact hostCmd_readBack_fails 0x0002 false a _ ⟨hf, hq, hb⟩ hk
  · refine completes_of rfl (opFence_idle hr) ((complete_resetQ _ _ _ _).trans hq) ?_
    exact ⟨complete_frame c _ _ s hf (Or.inl rfl), complete_replied c _ _ s hf⟩
  · refine completes_of rfl (opFence_busy hr) hq ⟨rfl, ?_, ?_⟩
    · show s.hif.fences ++ _ = _
      rw [hf, List.nil_append]
    · simp [holdRing, setCmdRing, cmdRing]

end Sys2Proof.Machine

/-! SUPPORT. Bit fields (R2): what a field reads after a bit is set or cleared, and after a register write merges its bits (R3, R4). -/
namespace Sys2Proof.Machine
open Sys2Proof

/-! ## Bits and fields -/

theorem bit_eq_testBit (n i : Nat) : bit n i = n.testBit i := by
  simp [bit, Nat.testBit_eq_decide_div_mod_eq, beq_eq_decide]

theorem testBit_bits (n hi lo i : Nat) : (bits n hi lo).testBit i = (decide (i < hi + 1 - lo) && n.testBit (lo + i)) := by
  unfold bits
  rw [Nat.testBit_mod_two_pow, Nat.testBit_div_two_pow, Nat.add_comm i lo]

/-- A field is the bits it covers. -/
theorem bits_congr {n m hi lo : Nat} (h : ∀ i, lo ≤ i → i ≤ hi → n.testBit i = m.testBit i) : bits n hi lo = bits m hi lo := by
  apply Nat.eq_of_testBit_eq
  intro i
  rw [testBit_bits, testBit_bits]
  by_cases hi' : i < hi + 1 - lo
  · rw [h (lo + i) (by omega) (by omega)]
  · simp [hi']

theorem testBit_flag (b : Bool) (i j : Nat) : (flag b i).testBit j = (b && decide (i = j)) := by
  unfold flag
  cases b
  · simp
  · simp [Nat.testBit_two_pow]

/-- A bit that is clear is added without a carry. -/
theorem add_two_pow_eq_or {n i : Nat} (h : n.testBit i = false) : n + 2 ^ i = n ||| 2 ^ i := by
  have hr : n % 2 ^ i < 2 ^ i := Nat.mod_lt _ (Nat.two_pow_pos i)
  have hm : n % 2 ^ (i + 1) = n % 2 ^ i := by
    rw [Nat.mod_pow_succ, Nat.mul_comm]
    have : n / 2 ^ i % 2 = 0 := by simpa [Nat.testBit_eq_decide_div_mod_eq] using h
    rw [this, Nat.zero_mul, Nat.add_zero]
  have hd := Nat.div_add_mod n (2 ^ (i + 1))
  rw [hm] at hd
  have hlt : 2 ^ i ||| n % 2 ^ i < 2 ^ (i + 1) := Nat.or_lt_two_pow (by rw [pow_succ]; omega) (by rw [pow_succ]; omega)
  have e1 : 2 ^ i + n % 2 ^ i = 2 ^ i ||| n % 2 ^ i := by
    have := Nat.two_pow_add_eq_or_of_lt hr 1
    simpa using this
  calc n + 2 ^ i = 2 ^ (i + 1) * (n / 2 ^ (i + 1)) + (2 ^ i + n % 2 ^ i) := by omega
    _ = 2 ^ (i + 1) * (n / 2 ^ (i + 1)) ||| (2 ^ i ||| n % 2 ^ i) := by
      rw [e1, Nat.two_pow_add_eq_or_of_lt hlt]
    _ = (2 ^ (i + 1) * (n / 2 ^ (i + 1)) ||| n % 2 ^ i) ||| 2 ^ i := by
      rw [Nat.or_comm (2 ^ i), Nat.or_assoc]
    _ = n ||| 2 ^ i := by
      rw [← Nat.two_pow_add_eq_or_of_lt (show n % 2 ^ i < 2 ^ (i + 1) by rw [pow_succ]; omega), hd]

/-- Clearing a bit, as the exclusive or of what stands there. -/
theorem clrBit_eq_xor (n i : Nat) : clrBit n i = n ^^^ (n &&& 2 ^ i) := by
  unfold clrBit
  have hb := bit_eq_testBit n i
  split
  · next h =>
    rw [hb] at h
    have ha : n &&& 2 ^ i = 2 ^ i := by rw [Nat.and_two_pow, h]; simp
    have hle : 2 ^ i ≤ n := Nat.ge_two_pow_of_testBit h
    rw [ha]
    apply Nat.sub_eq_of_eq_add
    rw [add_two_pow_eq_or (by simp [h])]
    apply Nat.eq_of_testBit_eq
    intro j
    simp only [Nat.testBit_or, Nat.testBit_xor, Nat.testBit_two_pow]
    by_cases hj : i = j
    · subst hj; simp [h]
    · simp [hj]
  · next h =>
    rw [hb] at h
    rw [Nat.and_two_pow]
    simp [h]

theorem testBit_clrBit (n i j : Nat) : (clrBit n i).testBit j = (n.testBit j && decide (i ≠ j)) := by
  rw [clrBit_eq_xor, Nat.testBit_xor, Nat.testBit_and, Nat.testBit_two_pow]
  by_cases h : i = j <;> simp [h]

/-- Setting a bit is the or with it. -/
theorem setBit_eq_or (n i : Nat) : setBit n i = n ||| 2 ^ i := by
  unfold setBit
  have hb := bit_eq_testBit n i
  split
  · next h =>
    rw [hb] at h
    apply Nat.eq_of_testBit_eq
    intro j
    rw [Nat.testBit_or, Nat.testBit_two_pow]
    by_cases hj : i = j
    · subst hj; simp [h]
    · simp [hj]
  · next h =>
    rw [hb] at h
    exact add_two_pow_eq_or (by simpa using h)

theorem testBit_setBit (n i j : Nat) : (setBit n i).testBit j = (n.testBit j || decide (i = j)) := by
  rw [setBit_eq_or, Nat.testBit_or, Nat.testBit_two_pow]

@[simp] theorem bit_setBit_same (n i : Nat) : bit (setBit n i) i = true := by
  rw [bit_eq_testBit, testBit_setBit]; simp

@[simp] theorem bit_clrBit_same (n i : Nat) : bit (clrBit n i) i = false := by
  rw [bit_eq_testBit, testBit_clrBit]; simp

/-- A field that lies clear of the bit cleared keeps its value. -/
theorem bits_clrBit {n i hi lo : Nat} (h : hi < i ∨ i < lo) : bits (clrBit n i) hi lo = bits n hi lo := by
  apply bits_congr
  intro j h1 h2
  rw [testBit_clrBit]
  have : i ≠ j := by omega
  simp [this]

/-- A number below `2 ^ w` and a flag at or above bit `w` do not carry. -/
theorem testBit_clrBit_add_flag (n i j : Nat) (b : Bool) :
    (clrBit n i + flag b i).testBit j = if i = j then b else n.testBit j := by
  have hc : (clrBit n i).testBit i = false := by simp [testBit_clrBit]
  cases b
  · rw [flag, if_neg (by simp), Nat.add_zero, testBit_clrBit]
    by_cases h : i = j <;> simp [h]
  · rw [flag, if_pos rfl, add_two_pow_eq_or hc, Nat.testBit_or, testBit_clrBit, Nat.testBit_two_pow]
    by_cases h : i = j <;> simp [h]

/-! ## Register words -/

theorem rd_lt (s : State) (r : Reg) (i j : Nat) : rd s r i j < 2 ^ 32 := BitVec.isLt _

theorem ofNat_rd (s : State) (r : Reg) (i j : Nat) : BitVec.ofNat 32 (rd s r i j) = tgetD s.regs (regOff r i j) (BitVec.ofNat 32 (regSpec r).reset) := by
  simp [rd]

/-- A merged bit is the one written if a write sets it, else the one that stood. -/
theorem testBit_mergeWord (r : Reg) (old v i : Nat) :
    (mergeWord r old v).testBit i = if (writable r).testBit i then v.testBit i else old.testBit i := by
  unfold mergeWord
  simp only [Nat.testBit_or, Nat.testBit_xor, Nat.testBit_and]
  cases (writable r).testBit i <;> simp

/-- A field all of whose bits a write sets takes the value written. -/
theorem bits_mergeWord {r : Reg} {hi lo : Nat} (old v : Nat) (h : bits (writable r) hi lo = 2 ^ (hi + 1 - lo) - 1) :
    bits (mergeWord r old v) hi lo = bits v hi lo := by
  apply bits_congr
  intro i h1 h2
  have hb := testBit_bits (writable r) hi lo (i - lo)
  rw [h, Nat.testBit_two_pow_sub_one, Nat.add_sub_cancel' h1] at hb
  have hw : (writable r).testBit i = true := by
    have hlt : i - lo < hi + 1 - lo := by omega
    simpa [hlt] using hb.symm
  rw [testBit_mergeWord, if_pos hw]

theorem bit_mergeWord {r : Reg} {i : Nat} (old v : Nat) (h : bit (writable r) i = true) :
    bit (mergeWord r old v) i = bit v i := by
  rw [bit_eq_testBit] at h ⊢
  rw [testBit_mergeWord, if_pos h, bit_eq_testBit]

/-- A register without an EN of a ring stands as it was written. -/
theorem regWord_plain {r : Reg} {s : State} {i : Nat} (h : ringEn s r i = none) (j : Nat) : regWord s r i j = rd s r i j := by
  unfold regWord; rw [h]

/-- A ring's configuration register shows the ring's EN in bit 31 and the bits written in the rest. -/
theorem testBit_regWord_ring {r : Reg} {s : State} {i : Nat} {b : Bool} (h : ringEn s r i = some b) (j k : Nat) :
    (regWord s r i j).testBit k = if 31 = k then b else (rd s r i j).testBit k := by
  unfold regWord; rw [h]
  exact testBit_clrBit_add_flag _ _ _ _

end Sys2Proof.Machine

/-! SUPPORT. Register writes (R324 to R327, R454): the write that is taken, and the one that a chapter's rule turns away. -/
namespace Sys2Proof.Machine
open Sys2Proof

/-- A write to a register that a command names (R324). -/
theorem writeNamed_at {m i : Nat} {r : Reg} {s : State} (v : Word) (hi : i < (regSpec r).count) (hm : masterOk s m = true) :
    writeNamed m r i v s = writeReg m r i 0 v.toNat s := by
  simp [writeNamed, hi, hm]

theorem lockBad_unlocked {s : State} (r : Reg) (old new : Nat) (h : s.hif.lock = false) : lockBad s r old new = false := by
  simp [lockBad, h]

/-- A write that no rule forbids is taken. -/
theorem writeFields_taken {m i j v new : Nat} {r : Reg} {s : State} (hw : writable r ≠ 0) (hs : writeShut s r = false)
    (hn : mergeWord r (regWord s r i j) v = new) (hl : lockBad s r (regWord s r i j) new = false)
    (hr : rangeBad r i new = false) (hu : ruleBad s r i (regWord s r i j) new = false) :
    writeFields m r i j v s = takeWrite r i j (regWord s r i j) new s := by
  simp [writeFields, hw, hs, hn, hl, hr, hu]

/-- A write that the register's own chapter forbids is a violation. -/
theorem writeFields_forbidden {m i j v : Nat} {r : Reg} {s : State} (hw : writable r ≠ 0) (hs : writeShut s r = false)
    (hu : ruleBad s r i (regWord s r i j) (mergeWord r (regWord s r i j) v) = true) :
    writeFields m r i j v s = violation m (regOff r i j) s := by
  simp [writeFields, hw, hs, hu]

/-- An address-log entry raises nothing but ALOG_OVERWRITE. -/
theorem alog_stat (a : Nat) (sp : Space) (o q src : Nat) (s : State) (h : src ≠ 0x24A) :
    tgetD (alog a sp o q s).flt.stat src {} = tgetD s.flt.stat src {} := by
  unfold alog raiseIf
  dsimp only
  split
  · rw [raise_stat]; exact tgetD_tput_ne _ _ _ h
  · rfl

/-- A violation counts SETUP_VIOLATION once more. -/
theorem violation_count (m off : Nat) (s : State) :
    (tgetD (violation m off s).flt.stat 0x009 {}).count = min ((tgetD s.flt.stat 0x009 {}).count + 1) 255 := by
  rw [violation_eq_report]
  show (tgetD (alog _ _ _ _ _).flt.stat 0x009 {}).count = _
  rw [alog_stat _ _ _ _ _ _ (by decide), setupViolation]
  exact (raise_raised _ s rfl).1

/-! ## The registers that hold fields and nothing more -/

/-- Registers whose write does nothing beside setting their fields. -/
def fieldRegs : List Reg :=
  [.hifEvtRoute, .fltCfg, .timStepCfg, .timRefLim, .redCfg, .redCfg2, .swcTtCfg, .aqfDevCfg, .pwrCfg, .pwrThermCfg, .hifRcBaseLo,
    .hifRcBaseHi]

theorem fieldRegs_plain {r : Reg} (h : r ∈ fieldRegs) : r ∉ actingRegs ∧ writable r ≠ 0 := by
  revert r; decide

/-- No chapter's rule bars their write, and it has no effect beside their fields. -/
theorem fieldRegs_free {r : Reg} (h : r ∈ fieldRegs) (s : State) (i old new : Nat) (ran : Bool) :
    writeShut s r = false ∧ ringEn s r i = none ∧ ruleBad s r i old new = false ∧ writeEffect r i old new ran s = s := by
  simp only [fieldRegs, List.mem_cons, List.not_mem_nil, or_false] at h
  rcases h with rfl | rfl | rfl | rfl | rfl | rfl | rfl | rfl | rfl | rfl | rfl | rfl <;> exact ⟨rfl, rfl, rfl, rfl⟩

/-- An unlocked write in range to such a register sets its word. -/
theorem writeReg_field {m i j v : Nat} {r : Reg} {s : State} (h : r ∈ fieldRegs) (hk : s.hif.lock = false)
    (hr : rangeBad r i (mergeWord r (rd s r i j) v) = false) :
    writeReg m r i j v s = wr s r i j (mergeWord r (rd s r i j) v) := by
  obtain ⟨ha, hw⟩ := fieldRegs_plain h
  obtain ⟨hs, he, hu, -⟩ := fieldRegs_free h s i (rd s r i j) (mergeWord r (rd s r i j) v) (auditsRun s)
  have hreg := regWord_plain he j
  rw [writeReg_eq_writeFields m i j v s ha, writeFields_taken hw hs (by rw [hreg]) (lockBad_unlocked r _ _ hk) hr (by rw [hreg]; exact hu)]
  unfold takeWrite
  rw [he]
  exact (fieldRegs_free h _ i _ _ _).2.2.2

/-- Settles O9: the write by `writeReg_field`; LOCK is set by a 1 and left by a 0. -/
theorem plainRegisterWriteTaken : Obligations.PlainRegisterWriteTaken := by
  unfold Obligations.PlainRegisterWriteTaken
  refine ⟨fun s r i j m off v hq hm ha ho hl hk hr hb => ?_, fun s m hq hm => ⟨?_, ?_⟩⟩
  · refine completes_of rfl ((writeBar0_at_register _ hm ha ho hl).trans (writeReg_field hr hk hb)) hq ⟨rd_wr_same _ _ _ _ _, ?_, rfl⟩
    exact fun q k l hne => rd_wr_ne s r q i j k l _ hne
  · exact completes_of rfl (writeNamed_at 1 (by decide) hm) hq rfl
  · have hl : locate 0x100004 = some (.hifSetupLock, 0, 0) := by decide
    exact completes_of rfl (writeBar0_at_register _ hm (by decide) (by decide) hl) hq rfl

end Sys2Proof.Machine

/-! SUPPORT. Rings (R328 to R330): the write that sets or clears a ring's EN, and what a ring then holds. -/
namespace Sys2Proof.Machine
open Sys2Proof

/-! ## The word of a ring's configuration register -/

/-- A field of a register written. -/
theorem fld_wr_same (s : State) (r : Reg) (i n : Nat) {hi : Nat} (lo : Nat) (h : hi < 32) :
    fld (wr s r i 0 n) r i hi lo = bits n hi lo := by
  unfold fld
  rw [rd_wr_same]
  apply bits_congr
  intro k _ h2
  rw [Nat.testBit_mod_two_pow]
  have : k < 32 := by omega
  simp [this]

/-- The field as the ring's register keeps it, its EN bit lying with the ring. -/
theorem fld_wr_ring (s : State) (r : Reg) (i n : Nat) {hi : Nat} (lo : Nat) (h : hi < 31) :
    fld (wr s r i 0 (clrBit n 31)) r i hi lo = bits n hi lo := by
  rw [fld_wr_same _ _ _ _ _ (by omega), bits_clrBit (Or.inl h)]

/-- EN as it reads. -/
theorem bit_regWord_ring {r : Reg} {s : State} {i : Nat} {b : Bool} (h : ringEn s r i = some b) : bit (regWord s r i 0) 31 = b := by
  rw [bit_eq_testBit, testBit_regWord_ring h]; simp

/-- The word written that sets EN and a size below it. -/
theorem enWord_toNat {x : Nat} (h : x < 2 ^ 31) : (BitVec.ofNat 32 (2 ^ 31 + x)).toNat = 2 ^ 31 + x := by
  rw [BitVec.toNat_ofNat]; exact Nat.mod_eq_of_lt (by omega)

theorem bit_enWord {x : Nat} (h : x < 2 ^ 31) : bit (2 ^ 31 + x) 31 = true := by
  unfold bit
  have : (2 ^ 31 + x) / 2 ^ 31 = 1 := by omega
  rw [this]; rfl

theorem bits_enWord_low {x hi lo : Nat} (h : hi < 31) : bits (2 ^ 31 + x) hi lo = bits x hi lo := by
  apply bits_congr
  intro j _ h2
  rw [Nat.testBit_two_pow_add_gt (by omega)]

theorem bits_low {k : Nat} (h : k < 16) (n : Nat) : bits (n * 2 ^ 16 + k) 3 0 = k := by
  unfold bits; omega

theorem bits_high {n : Nat} (h : n < 64) {k : Nat} (hk : k < 16) : bits (n * 2 ^ 16 + k) 21 16 = n := by
  unfold bits; omega

/-- The word after a write that sets EN of a stopped ring: EN is set, and a field that a write sets is the one written. -/
theorem enable_merged {r : Reg} {s : State} {i x : Nat} (he : ringEn s r i = some false) (hw : bit (writable r) 31 = true)
    (hx : x < 2 ^ 31) : sets (regWord s r i 0) (mergeWord r (regWord s r i 0) (2 ^ 31 + x)) 31 = true ∧
      ∀ hi lo, hi < 31 → bits (writable r) hi lo = 2 ^ (hi + 1 - lo) - 1 →
        bits (mergeWord r (regWord s r i 0) (2 ^ 31 + x)) hi lo = bits x hi lo := by
  refine ⟨?_, fun hi lo h hb => ?_⟩
  · unfold sets
    rw [bit_regWord_ring he, bit_mergeWord _ _ hw, bit_enWord hx]; rfl
  · rw [bits_mergeWord _ _ hb, bits_enWord_low h]

/-- An unlocked write to a ring's configuration register that no rule forbids (R330). -/
theorem writeReg_ring {m i v : Nat} {r : Reg} {s : State} {b : Bool} (ha : r ∉ actingRegs) (hw : writable r ≠ 0)
    (hs : writeShut s r = false) (hk : s.hif.lock = false) (he : ringEn s r i = some b)
    (hr : rangeBad r i (mergeWord r (regWord s r i 0) v) = false)
    (hu : ruleBad s r i (regWord s r i 0) (mergeWord r (regWord s r i 0) v) = false) :
    writeReg m r i 0 v s =
      writeEffect r i (regWord s r i 0) (mergeWord r (regWord s r i 0) v) (auditsRun s)
        (wr s r i 0 (clrBit (mergeWord r (regWord s r i 0) v) 31)) := by
  rw [writeReg_eq_writeFields _ _ _ _ _ ha, writeFields_taken hw hs rfl (lockBad_unlocked r _ _ hk) hr hu]
  unfold takeWrite
  simp only [he, Option.isSome_some, if_true]

theorem outside_false {n lo hi : Nat} (h1 : lo ≤ n) (h2 : n ≤ hi) : outside n lo hi = false := by
  simp [outside, h1, h2]

/-! ## Starting a ring -/

/-- A ring whose doorbell line holds a PRODUCER below its size starts empty there (R330). -/
theorem startRing_valid {q : Nat} {s : State} (h : leNat (hostBytes s (doorbell s q) 4) % 65536 < cmdSize s q) :
    startRing q s = setCmdRing q { cmdRing s q with
      head := leNat (hostBytes s (doorbell s q) 4) % 65536, producer := leNat (hostBytes s (doorbell s q) 4) % 65536
      seen := leNat (hostBytes s (doorbell s q) 4) % 65536 } s := by
  unfold startRing
  simp only [h, if_true]

/-- What the host wrote in a line is what the device reads there. -/
theorem hostBytes_place_le {s : State} (a v : Nat) (hw : Memory.wf s.hif.mem = true) (hv : v < 2 ^ 32) :
    leNat (hostBytes (place a (leBytes 4 v) s) a 4) = v := by
  have h := cread_cwrite (leBytes 4 v) s.hif.mem a hw
  rw [leBytes_length] at h
  show leNat (cread (cwrite s.hif.mem a (leBytes 4 v)) a 4) = v
  rw [h]
  exact leNat_leBytes 4 v (by simpa using hv)

/-- A line held or not, the rings stand. -/
theorem holdLine_frame (a : Nat) (s : State) :
    holdLine a s = { s with hif := { s.hif with lines := (holdLine a s).hif.lines } } := by
  unfold holdLine; split <;> rfl

theorem cmdRing_setCmdRing (q : Nat) (r : CmdRing) (s : State) : cmdRing (setCmdRing q r s) q = r := by
  simp [cmdRing, setCmdRing]

theorem cplRing_setCplRing (q : Nat) (r : CplRing) (s : State) : cplRing (setCplRing q r s) q = r := by
  simp [cplRing, setCplRing]

theorem evtRing_setEvtRing (q : Nat) (r : EvtRing) (s : State) : evtRing (setEvtRing q r s) q = r := by
  simp [evtRing, setEvtRing]

/-- The command ring started by a write that sets EN, its doorbell line holding a PRODUCER below its size. -/
theorem cmdWrite_started {q old new line : Nat} {s : State} (h : sets old new 31 = true)
    (hl : leNat (hostBytes s (doorbell s q) 4) % 65536 = line) (hs : line < cmdSize s q) :
    (cmdWrite q old new s).flt = s.flt ∧ (cmdWrite q old new s).regs = s.regs ∧
      cmdRing (cmdWrite q old new s) q =
        { cmdRing s q with en := true, error := false, head := line, producer := line, seen := line } := by
  subst hl
  unfold cmdWrite
  rw [if_pos h, startRing_valid (s := setCmdRing q { cmdRing s q with en := true, error := false } s) hs, cmdRing_setCmdRing]
  dsimp only
  split
  · exact ⟨rfl, rfl, cmdRing_setCmdRing _ _ _⟩
  · rw [holdLine_frame]
    exact ⟨rfl, rfl, cmdRing_setCmdRing _ _ _⟩

/-- Paying nothing owed and writing nothing held, an event ring starts empty. -/
theorem evtWrite_started {n old new : Nat} {s : State} (h : sets old new 31 = true) (hh : s.hif.held = []) (ho : (evtRing s n).owed = 0) :
    evtWrite n old new s = setEvtRing n { evtRing s n with en := true, tail := 0, phase := true, cons := 0, used := 0 } s := by
  unfold evtWrite
  rw [if_pos h]
  have hw : ∀ t : State, writeHeld n [] t = t := fun _ => rfl
  dsimp only
  rw [show (setEvtRing n { evtRing s n with en := true, tail := 0, phase := true, cons := 0, used := 0 } s).hif.held = [] from hh, hw]
  unfold payOverflow
  simp [evtRing_setEvtRing, ho]

/-! ## The five kinds -/

theorem cmdRing_enabled {s : State} {m q n k line : Nat} (hq : Settled s) (hm : masterOk s m = true) (hk : s.hif.lock = false)
    (hq64 : q < 64) (hn64 : n < 64) (h4 : 4 ≤ k) (h12 : k ≤ 12) (he : (cmdRing s q).en = false) (hc : (cplRing s n).en = true)
    (hl : line < 2 ^ k) (hw : Memory.wf s.hif.mem = true) :
    Completes (.cmdRingEnable m q (BitVec.ofNat 32 (2 ^ 31 + n * 2 ^ 16 + k)) (some line)) s (fun t =>
      (cmdRing t q).en = true ∧ (cmdRing t q).error = false ∧ (cmdRing t q).head = line ∧ (cmdRing t q).producer = line ∧
        cplOf t q = n ∧ cmdSize t q = 2 ^ k) := by
  have h2k : 2 ^ k ≤ 2 ^ 12 := Nat.pow_le_pow_right (by decide) h12
  let u := place (doorbell s q) (leBytes 4 line) s
  let new := mergeWord .hifCmdCfg (regWord u .hifCmdCfg q 0) (2 ^ 31 + (n * 2 ^ 16 + k))
  have heu : ringEn u .hifCmdCfg q = some false := congrArg some he
  obtain ⟨hsets, hbits⟩ := enable_merged (r := .hifCmdCfg) (x := n * 2 ^ 16 + k) heu (by decide) (by omega)
  have hsize : bits new 3 0 = k := (hbits 3 0 (by decide) (by decide)).trans (bits_low (by omega) n)
  have hcpl : bits new 21 16 = n := (hbits 21 16 (by decide) (by decide)).trans (bits_high hn64 (by omega))
  have hrule : ruleBad u .hifCmdCfg q (regWord u .hifCmdCfg q 0) new = false := by
    have hen : (cplRing u n).en = true := hc
    simp [ruleBad, bit_regWord_ring heu, hcpl, hen]
  let w := wr u .hifCmdCfg q 0 (clrBit new 31)
  have hwsize : cmdSize w q = 2 ^ k := by unfold cmdSize; rw [fld_wr_ring _ _ _ _ _ (by decide), hsize]
  have hline : leNat (hostBytes w (doorbell w q) 4) % 65536 = line := by
    have hd : doorbell w q = doorbell s q := by
      unfold doorbell rdAddr
      rw [rd_wr_ne _ _ _ _ _ _ _ _ (by simp only [regOff, regSpec]; omega), rd_wr_ne _ _ _ _ _ _ _ _ (by simp only [regOff, regSpec]; omega)]
      rfl
    rw [hd]
    show leNat (hostBytes u (doorbell s q) 4) % 65536 = line
    rw [hostBytes_place_le _ _ hw (by omega)]
    omega
  have hop : opCmdRingEnable m q (BitVec.ofNat 32 (2 ^ 31 + n * 2 ^ 16 + k)) (some line) s = cmdWrite q (regWord u .hifCmdCfg q 0) new w := by
    show writeNamed m .hifCmdCfg q _ u = _
    rw [writeNamed_at (r := .hifCmdCfg) (s := u) _ hq64 hm, Nat.add_assoc, enWord_toNat (by omega)]
    exact writeReg_ring (by decide) (by decide) rfl hk heu (by rw [rangeBad, hsize]; exact outside_false h4 h12) hrule
  obtain ⟨hflt, hregs, hring⟩ := cmdWrite_started (q := q) (s := w) hsets hline (by omega)
  refine completes_of rfl hop (by rw [hflt]; exact hq) ?_
  have hf : ∀ hi lo, fld (cmdWrite q (regWord u .hifCmdCfg q 0) new w) .hifCmdCfg q hi lo = fld w .hifCmdCfg q hi lo := by
    intro hi lo; unfold fld rd; rw [hregs]
  rw [hring]
  refine ⟨rfl, rfl, rfl, rfl, ?_, ?_⟩
  · unfold cplOf; rw [hf, fld_wr_ring _ _ _ _ _ (by decide), hcpl]
  · unfold cmdSize; rw [hf]; exact hwsize

end Sys2Proof.Machine

namespace Sys2Proof.Machine
open Sys2Proof

/-- A size alone, written with EN: its word's size field. -/
theorem bits_size {k : Nat} (h : k ≤ 14) : bits k 3 0 = k := by unfold bits; omega

/-- The word that a ring's register keeps of a write that sets EN. -/
def enabledWord (s : State) (r : Reg) (i x : Nat) : Nat := clrBit (mergeWord r (regWord s r i 0) (2 ^ 31 + x)) 31

theorem cplRing_enabled {s : State} {m n k : Nat} (hq : Settled s) (hm : masterOk s m = true) (hk : s.hif.lock = false)
    (hn : n < 64) (h4 : 4 ≤ k) (h14 : k ≤ 14) (he : (cplRing s n).en = false) :
    Completes (.cplRingEnable m n (BitVec.ofNat 32 (2 ^ 31 + k))) s (fun t =>
      cplRing t n = { en := true, tail := 0, phase := true, cons := 0, used := 0 } ∧ cplSize t n = 2 ^ k) := by
  have her : ringEn s .hifCplCfg n = some false := congrArg some he
  obtain ⟨hsets, hbits⟩ := enable_merged (r := .hifCplCfg) (x := k) her (by decide) (by omega)
  have hsize := (hbits 3 0 (by decide) (by decide)).trans (bits_size h14)
  have hrule : ruleBad s .hifCplCfg n (regWord s .hifCplCfg n 0) (mergeWord .hifCplCfg (regWord s .hifCplCfg n 0) (2 ^ 31 + k)) = false := by
    simp [ruleBad, clears, bit_regWord_ring her]
  refine completes_of (u := setCplRing n { en := true, tail := 0, phase := true, cons := 0, used := 0 } (wr s .hifCplCfg n 0 (enabledWord s .hifCplCfg n k))) rfl ?_ hq
    ⟨cplRing_setCplRing _ _ _, ?_⟩
  · show writeNamed m .hifCplCfg n _ s = _
    rw [writeNamed_at (r := .hifCplCfg) _ hn hm, enWord_toNat (by omega),
      writeReg_ring (by decide) (by decide) rfl hk her (by rw [rangeBad, hsize]; exact outside_false h4 h14) hrule]
    show cplWrite n _ _ _ = _
    exact if_pos hsets
  · exact congrArg (2 ^ ·) ((fld_wr_ring _ _ _ _ _ (by decide)).trans hsize)

theorem evtRing_enabled {s : State} {m e k : Nat} (hq : Settled s) (hm : masterOk s m = true) (hk : s.hif.lock = false)
    (hn : e < 8) (h6 : 6 ≤ k) (h14 : k ≤ 14) (he : (evtRing s e).en = false) (ho : (evtRing s e).owed = 0) (hh : s.hif.held = []) :
    Completes (.evtRingEnable m e (BitVec.ofNat 32 (2 ^ 31 + k))) s (fun t =>
      (evtRing t e).en = true ∧ (evtRing t e).tail = 0 ∧ (evtRing t e).phase = true ∧ (evtRing t e).used = 0 ∧ evtSize t e = 2 ^ k) := by
  have her : ringEn s .hifEvtCfg e = some false := congrArg some he
  obtain ⟨hsets, hbits⟩ := enable_merged (r := .hifEvtCfg) (x := k) her (by decide) (by omega)
  have hsize := (hbits 3 0 (by decide) (by decide)).trans (bits_size h14)
  have hrule : ruleBad s .hifEvtCfg e (regWord s .hifEvtCfg e 0) (mergeWord .hifEvtCfg (regWord s .hifEvtCfg e 0) (2 ^ 31 + k)) = false := by
    simp [ruleBad, bit_regWord_ring her]
  refine completes_of (u := setEvtRing e { evtRing s e with en := true, tail := 0, phase := true, cons := 0, used := 0 }
    (wr s .hifEvtCfg e 0 (enabledWord s .hifEvtCfg e k))) rfl ?_ hq ?_
  · show writeNamed m .hifEvtCfg e _ s = _
    rw [writeNamed_at (r := .hifEvtCfg) _ hn hm, enWord_toNat (by omega),
      writeReg_ring (by decide) (by decide) rfl hk her (by rw [rangeBad, hsize]; exact outside_false h6 h14) hrule]
    exact evtWrite_started hsets hh ho
  · rw [evtRing_setEvtRing]
    exact ⟨rfl, rfl, rfl, rfl, congrArg (2 ^ ·) ((fld_wr_ring _ _ _ _ _ (by decide)).trans hsize)⟩

theorem msgRing_enabled {s : State} {m k : Nat} (hq : Settled s) (hm : masterOk s m = true) (hk : s.hif.lock = false)
    (h4 : 4 ≤ k) (h14 : k ≤ 14) (he : s.aqf.msgEn = false) :
    Completes (.msgRingEnable m (BitVec.ofNat 32 (2 ^ 31 + k))) s (fun t =>
      t.aqf.msgEn = true ∧ t.aqf.msgTail = 0 ∧ t.aqf.msgPhase = true ∧ t.aqf.msgUsed = 0) := by
  have her : ringEn s .aqfMsgCfg 0 = some false := congrArg some he
  obtain ⟨hsets, hbits⟩ := enable_merged (r := .aqfMsgCfg) (x := k) her (by decide) (by omega)
  have hsize := (hbits 3 0 (by decide) (by decide)).trans (bits_size h14)
  refine completes_of (u := { wr s .aqfMsgCfg 0 0 (enabledWord s .aqfMsgCfg 0 k) with
    aqf := { s.aqf with msgEn := true, msgTail := 0, msgPhase := true, msgCons := 0, msgUsed := 0 } }) rfl ?_ hq ⟨rfl, rfl, rfl, rfl⟩
  show writeNamed m .aqfMsgCfg 0 _ s = _
  rw [writeNamed_at (r := .aqfMsgCfg) _ (by decide) hm, enWord_toNat (by omega),
    writeReg_ring (by decide) (by decide) rfl hk her (by rw [rangeBad, hsize]; exact outside_false h4 h14) rfl]
  show msgWrite _ _ _ = _
  exact if_pos hsets

theorem xring_enabled {s : State} {m k : Nat} (hq : Settled s) (hm : masterOk s m = true) (hk : s.hif.lock = false)
    (h4 : 4 ≤ k) (h14 : k ≤ 14) (he : s.nmp.xEn = false) :
    Completes (.xringEnable m (BitVec.ofNat 32 (2 ^ 31 + k))) s (fun t =>
      t.nmp.xEn = true ∧ t.nmp.xTail = 0 ∧ t.nmp.xPhase = true ∧ t.nmp.xUsed = 0) := by
  have her : ringEn s .nmpXringCfg 0 = some false := congrArg some he
  obtain ⟨hsets, hbits⟩ := enable_merged (r := .nmpXringCfg) (x := k) her (by decide) (by omega)
  have hsize := (hbits 3 0 (by decide) (by decide)).trans (bits_size h14)
  refine completes_of (u := { wr s .nmpXringCfg 0 0 (enabledWord s .nmpXringCfg 0 k) with
    nmp := { s.nmp with xEn := true, xTail := 0, xPhase := true, xCons := 0, xUsed := 0 } }) rfl ?_ hq ⟨rfl, rfl, rfl, rfl⟩
  show writeNamed m .nmpXringCfg 0 _ s = _
  rw [writeNamed_at (r := .nmpXringCfg) _ (by decide) hm, enWord_toNat (by omega),
    writeReg_ring (by decide) (by decide) rfl hk her (by rw [rangeBad, hsize]; exact outside_false h4 h14) rfl]
  show xringWrite _ _ _ = _
  exact if_pos hsets

/-- Settles O10: one lemma per kind of ring, each by `writeReg_ring`. -/
theorem ringsStart : Obligations.RingsStart := by
  unfold Obligations.RingsStart
  intro s m q n e k line hq hm hk hq64 hn64 he8
  exact ⟨fun h4 h12 he hc hl hw => cmdRing_enabled hq hm hk hq64 hn64 h4 h12 he hc hl hw,
    fun h4 h14 he => cplRing_enabled hq hm hk hn64 h4 h14 he,
    fun h6 h14 he ho hh => evtRing_enabled hq hm hk he8 h6 h14 he ho hh,
    fun h4 h14 he => msgRing_enabled hq hm hk h4 h14 he, fun h4 h14 he => xring_enabled hq hm hk h4 h14 he⟩

/-- An enabled event ring with an ordinary record queued for it. -/
def queuedRing : State :=
  { State.reset with
    hif := { State.reset.hif with evt := [(0, { en := true })] }
    flt := { State.reset.flt with evq := [{ stamp := 0, src := 0, kind := 0, sev := 0, addr := 0, data := [], tag := 0, signal := false }] } }

/-- Refutes O11: an event ring that is stopped drops the records queued for it and counts them, so its LOST count does not stand. -/
theorem not_ringsStop : ¬ Obligations.RingsStop := by
  unfold Obligations.RingsStop
  intro h
  obtain ⟨-, -, -, hevt⟩ := h queuedRing 0 0 1 0 0 rfl rfl (by decide) (by decide) (by decide) (by decide)
  obtain ⟨t, ht, hring, -⟩ := hevt rfl rfl
  have hlost : (match exec (.evtRingDisable 0 0 (BitVec.ofNat 32 (clrBit (rd queuedRing .hifEvtCfg 0) 31))) queuedRing with
    | .next t => (evtRing t 0).lost
    | _ => 0) = 1 := by decide
  rw [ht] at hlost
  dsimp only at hlost
  rw [hring] at hlost
  exact absurd hlost (by decide)

end Sys2Proof.Machine

/-! SUPPORT. The host interface's events: accesses that no target takes, doorbells and consumer indices, event records, hold-offs,
the CXL link and the command fetch. -/
namespace Sys2Proof.Machine
open Sys2Proof

/-! ## The bus (R324, R344 to R346) -/

/-- A free entry of the address log takes the address, and no raise follows it (R386). -/
theorem alog_free {s : State} (a : Nat) (sp : Space) (o q : Nat) (h : bit s.flt.alogValid s.flt.alogNext = false) :
    alog a sp o q s = { s with flt := { s.flt with
      alog := tput s.flt.alog s.flt.alogNext { addr := a, space := spaceCode sp, origin := o, source := q, stamp := ts32 s.tim.now }
      alogValid := setBit s.flt.alogValid s.flt.alogNext, alogNext := (s.flt.alogNext + 1) % 16 } } := by
  unfold alog raiseIf
  simp only [h]
  rfl

/-- The raise of a bus error: its source, the master, and the address. -/
def busRaise (src m a : Nat) (s : State) : State := raise { src := src, data := [(1, m)], addr := a } s

theorem busRaise_raised (src m a : Nat) (s : State) : Raised src [(1, m)] a s (busRaise src m a s) := raise_raised _ s rfl

theorem busRaise_resetQ (src m a : Nat) (s : State) : (busRaise src m a s).flt.resetQ = s.flt.resetQ := raise_resetQ _ _ rfl

/-- A misread of BAR0 of the wrong size, the log's next entry free. -/
theorem opBar0DefaultAccess_size {s : State} {m a size : Nat} (h : size ≠ 4) :
    opBar0DefaultAccess m a size false s =
      { alog a .bar0 (64 + m) 0x021 (busRaise 0x021 m a s) with
        hif := { (alog a .bar0 (64 + m) 0x021 (busRaise 0x021 m a s)).hif with resp := some .completerAbort } } := by
  simp [opBar0DefaultAccess, h, busRaise]

/-- Settles O12: each answer is a raise with an answer of the bus; the logged address stands in the entry that was next. -/
theorem busErrorsAreReported : Obligations.BusErrorsAreReported := by
  unfold Obligations.BusErrorsAreReported
  intro s m a size w hq
  have hr : ∀ src m, (busRaise src m a s).flt.resetQ = [] := fun src m => (busRaise_resetQ src m a s).trans hq
  refine ⟨completes_of rfl rfl (hr 0x023 m) ⟨rfl, busRaise_raised _ _ _ _⟩,
    completes_of rfl rfl (hr 0x022 m) ⟨rfl, busRaise_raised 0x022 m a s⟩,
    completes_of rfl rfl (hr 0x020 4) ⟨rfl, busRaise_raised 0x020 4 a s⟩, fun hs hv => ?_⟩
  obtain ⟨-, -, -, -, -, -, hvalid, hnext, -⟩ := raise_flt_frame { src := 0x021, data := [(1, m)], addr := a } s
  have hn : (busRaise 0x021 m a s).flt.alogNext = s.flt.alogNext := hnext
  have hv' : bit (busRaise 0x021 m a s).flt.alogValid (busRaise 0x021 m a s).flt.alogNext = false := by
    rw [hn]; exact (congrArg (bit · _) hvalid).trans hv
  have ha := alog_free a .bar0 (64 + m) 0x021 hv'
  refine completes_of rfl (opBar0DefaultAccess_size hs) (by rw [ha]; exact hr 0x021 m) ?_
  rw [ha]
  refine ⟨rfl, busRaise_raised 0x021 m a s, ?_, ?_⟩
  · rw [← hn]
    exact congrArg AlogEntry.addr (tgetD_tput_same _ _ _ _)
  · rw [← hn]
    exact bit_setBit_same _ _

/-! ## Doorbells and consumer indices (R328, R329) -/

theorem takeProducer_valid {q v : Nat} {s : State} (he : (cmdRing s q).en = true) (hv : v < cmdSize s q) (h16 : v < 65536) :
    takeProducer q v s = setCmdRing q { cmdRing s q with producer := v, seen := v } s := by
  simp [takeProducer, he, Nat.mod_eq_of_lt h16, hv]

theorem takeProducer_invalid {q v : Nat} {s : State} (he : (cmdRing s q).en = true) (hv : cmdSize s q ≤ v) (h16 : v < 65536) :
    takeProducer q v s = raiseIf ((cmdRing s q).seen != v) { src := 0x004, data := [(1, q), (2, v)] }
      (setCmdRing q { cmdRing s q with seen := v } s) := by
  simp [takeProducer, he, Nat.mod_eq_of_lt h16, Nat.not_lt.mpr hv]

/-- The state in which a polled doorbell is taken: the next whole microsecond, the line as the host has written it. -/
def polled (q v : Nat) (s : State) : State := place (doorbell s q) (leBytes 4 v) (every .doorbells 1000 s)

/-- A doorbell polled. -/
theorem opDoorbellPoll_one {q v : Nat} {s : State} (h : polling s = true) :
    opDoorbellPoll [(q, v)] s = takeProducer q v (polled q v s) := by
  unfold opDoorbellPoll; rw [if_pos h]; rfl

/-- A consumer index that passes `k` entries of a full ring frees them. -/
theorem consumed_full {size cons v : Nat} (hc : cons < size) (hv : v < size) (hne : v ≠ cons) :
    consumed size size cons v = (v + size - cons) % size ∧ 0 < (v + size - cons) % size := by
  have hm : (v + size - cons) % size < size := Nat.mod_lt _ (by omega)
  refine ⟨by simp [consumed, hv, hm.le], ?_⟩
  rcases Nat.lt_or_ge v cons with h | h
  · rw [Nat.mod_eq_of_lt (by omega)]; omega
  · rw [show v + size - cons = (v - cons) + size by omega, Nat.add_mod_right, Nat.mod_eq_of_lt (by omega)]; omega

/-- An index read for a full completion ring. -/
theorem takeIndex_cpl {n v k : Nat} {s : State} (h16 : v < 65536)
    (hk : consumed (cplSize s n) (cplRing s n).used (cplRing s n).cons v = k) (h0 : k ≠ 0) :
    takeIndex .cpl n v s = setCplRing n { cplRing s n with cons := v, used := (cplRing s n).used - k } s := by
  simp [takeIndex, Nat.mod_eq_of_lt h16, hk, h0]

/-- An instant noted leaves all but the time. -/
theorem apart_frame (a : Periodic) (p : Nat) (s : State) : apart a p s = { s with tim := (apart a p s).tim } := by
  obtain ⟨n, h⟩ := apart_eq a p s
  rw [h]; rfl

/-- The state in which a consumer index is taken: its time, and the index where the host has written it. -/
def indexed (n v : Nat) (s : State) : State :=
  place (consAddr s .cpl n) (leBytes 4 v) (if polling s then apart (.index (64 * ringCode .cpl + n)) 1000 s else s)

theorem indexed_frame (n v : Nat) (s : State) : ∃ tm hm, indexed n v s = { s with tim := tm, hif := { s.hif with mem := hm } } := by
  unfold indexed
  split
  · rw [apart_frame]; exact ⟨_, _, rfl⟩
  · exact ⟨s.tim, _, rfl⟩

theorem holdLine_if (b : Bool) (a : Nat) (s : State) :
    ∃ l, (if b then holdLine a s else s) = { s with hif := { s.hif with lines := l } } := by
  split
  · exact ⟨_, holdLine_frame a s⟩
  · exact ⟨s.hif.lines, rfl⟩

/-- The rest of an index read keeps all but the lines held. -/
theorem opConsumerIndexRead_cpl {n v : Nat} {s : State} (h : needsIndex s .cpl n = true) : ∃ l,
    opConsumerIndexRead .cpl n v s = { takeIndex .cpl n v (indexed n v s) with
      hif := { (takeIndex .cpl n v (indexed n v s)).hif with lines := l } } := by
  unfold opConsumerIndexRead
  rw [if_pos h]
  exact holdLine_if _ _ (takeIndex .cpl n v (indexed n v s))

theorem consumerIndex_frees {s : State} {n v : Nat} (hq : Settled s) (h16 : v < 65536) (he : (cplRing s n).en = true)
    (hu : (cplRing s n).used = cplSize s n) (hc : (cplRing s n).cons < cplSize s n) (hv : v < cplSize s n)
    (hne : v ≠ (cplRing s n).cons) :
    Completes (.consumerIndexRead .cpl n v) s (fun t =>
      (cplRing t n).cons = v ∧ (cplRing t n).used + (v + cplSize s n - (cplRing s n).cons) % cplSize s n = (cplRing s n).used ∧
        t = { (if polling s then apart (.index (64 * ringCode .cpl + n)) 1000 s else s) with hif := t.hif }) := by
  obtain ⟨hk, hpos⟩ := consumed_full hc hv hne
  rw [← hu] at hk
  obtain ⟨tm, hm, hi⟩ := indexed_frame n v s
  have hring : cplRing (indexed n v s) n = cplRing s n := by rw [hi]; rfl
  have hsize : cplSize (indexed n v s) n = cplSize s n := by rw [hi]; rfl
  have hmod : (v + cplSize s n - (cplRing s n).cons) % cplSize s n < cplSize s n := Nat.mod_lt _ (by omega)
  obtain ⟨l, hx⟩ := opConsumerIndexRead_cpl (v := v) (show needsIndex s .cpl n = true by simp [needsIndex, he, hu])
  rw [takeIndex_cpl (k := (v + cplSize s n - (cplRing s n).cons) % cplSize s n) h16 (by rw [hring, hsize, hu]; rwa [hu] at hk) (by omega),
    hring] at hx
  refine completes_of rfl hx (by rw [hi]; exact hq) ⟨?_, ?_, ?_⟩
  · exact congrArg CplRing.cons (cplRing_setCplRing n _ (indexed n v s))
  · refine Eq.trans (congrArg (· + _) (congrArg CplRing.used (cplRing_setCplRing n _ (indexed n v s)))) ?_
    exact Nat.sub_add_cancel (by rw [hu]; exact hmod.le)
  · rfl

/-- Settles O13: `takeProducer` and `takeIndex` on the state in which the line is read. -/
theorem doorbellsAndIndices : Obligations.DoorbellsAndIndices := by
  unfold Obligations.DoorbellsAndIndices
  intro s q n v hq h16
  refine ⟨fun he hp hv => ?_, fun he hp hv hne => ?_, fun he hp hv heq => ?_, fun he hp hl hv => ?_,
    fun he hu hc hv hne => consumerIndex_frees hq h16 he hu hc hv hne⟩
  · refine completes_of rfl ((opDoorbellPoll_one hp).trans (takeProducer_valid (s := polled q v s) he hv h16)) hq ?_
    rw [cmdRing_setCmdRing]
    exact ⟨rfl, rfl, rfl⟩
  · have hx := (opDoorbellPoll_one hp).trans (takeProducer_invalid (s := polled q v s) he hv h16)
    have hb : ((cmdRing (polled q v s) q).seen != v) = true := bne_iff_ne.mpr hne
    rw [hb] at hx
    refine completes_of rfl hx ((raise_resetQ _ _ rfl).trans hq) ?_
    have hr := cmdRing_setCmdRing q { cmdRing (polled q v s) q with seen := v } (polled q v s)
    exact ⟨congrArg (·.producer) hr, congrArg (·.head) hr, congrArg (·.seen) hr, raise_raised _ (setCmdRing q _ (polled q v s)) rfl⟩
  · have hx := (opDoorbellPoll_one hp).trans (takeProducer_invalid (s := polled q v s) he hv h16)
    have hb : ((cmdRing (polled q v s) q).seen != v) = false := bne_eq_false_iff_eq.mpr heq
    rw [hb] at hx
    refine completes_of rfl hx hq ⟨?_, rfl⟩
    refine (cmdRing_setCmdRing q _ (polled q v s)).trans ?_
    subst heq; rfl
  · have hx : opDoorbellSnoop .cmd q v s = takeProducer q v (place (doorbell s q) (leBytes 4 v) s) := by
      have hp' : polling (place (doorbell s q) (leBytes 4 v) s) = false := hp
      have hl' : (place (doorbell s q) (leBytes 4 v) s).hif.lines.contains (doorbell s q) = true := hl
      unfold opDoorbellSnoop
      simp only [consAddr, hp', hl', Bool.not_true, Bool.or_self, takeIndex, beq_self_eq_true, Bool.true_or, if_true]
      rfl
    refine completes_of rfl (hx.trans (takeProducer_valid (s := place (doorbell s q) (leBytes 4 v) s) he hv h16)) hq ?_
    rw [cmdRing_setCmdRing]
    exact ⟨rfl, rfl, rfl⟩

end Sys2Proof.Machine

namespace Sys2Proof.Machine
open Sys2Proof

/-! ## Event records and their rings (R337, R338) -/

/-- The state with a record at the write index of its ring (R337). -/
def recordPlaced (e : Nat) (r : EvRec) (s : State) : State :=
  setEvtRing e
    { evtRing s e with
      tail := (advance (evtSize s e) (evtRing s e).tail (evtRing s e).phase).1
      phase := (advance (evtSize s e) (evtRing s e).tail (evtRing s e).phase).2, used := (evtRing s e).used + 1 }
    (hostWrite (rdAddr s .hifEvtBaseLo .hifEvtBaseHi e + 32 * (evtRing s e).tail) (recordBytes r (evtRing s e).phase) s)

/-- A ring's signal, given or not, leaves all but its vector and the outputs. -/
theorem signalRing_if_frame (b : Bool) (cfg : Nat) (s : State) : ∃ x w,
    (if b then signalRing cfg s else s) = { s with hif := { s.hif with msix := x }, wire := w } := by
  split
  · exact ⟨_, _, signalRing_frame cfg s⟩
  · exact ⟨s.hif.msix, s.wire, rfl⟩

theorem placeRecord_eq (e : Nat) (r : EvRec) (s : State) :
    placeRecord e r true s = if r.signal then signalRing (rd s .hifEvtCfg e) (recordPlaced e r s) else recordPlaced e r s := by
  unfold placeRecord recordPlaced
  simp only [Bool.not_true, Bool.false_eq_true, if_false]
  split <;> simp only [rd, setEvtRing_regs, hostWrite_regs]

/-- A record written to an enabled ring: beside it, the ring's vector and the outputs change if it signals. -/
theorem placeRecord_ok (e : Nat) (r : EvRec) (s : State) : ∃ x w,
    placeRecord e r true s = { recordPlaced e r s with hif := { (recordPlaced e r s).hif with msix := x }, wire := w } := by
  rw [placeRecord_eq]
  generalize recordPlaced e r s = t
  exact signalRing_if_frame _ _ t

/-- Bytes and a ring's state written leave the rest. -/
theorem setEvtRing_hostWrite (e : Nat) (q : EvtRing) (a : Nat) (l : List Byte) (s : State) :
    setEvtRing e q (hostWrite a l s) = { s with hif := { s.hif with mem := cwrite s.hif.mem a l, evt := tput s.hif.evt e q } } := rfl

theorem recordPlaced_frame (e : Nat) (r : EvRec) (s : State) :
    recordPlaced e r s = { s with hif := { s.hif with mem := (recordPlaced e r s).hif.mem, evt := (recordPlaced e r s).hif.evt } } := by
  unfold recordPlaced
  generalize recordBytes r (evtRing s e).phase = l
  rfl

/-- The record placed reads back whole. -/
theorem recordPlaced_reads (e : Nat) (r : EvRec) (s : State) (h : Memory.wf s.hif.mem = true) :
    cread (recordPlaced e r s).hif.mem (rdAddr s .hifEvtBaseLo .hifEvtBaseHi e + 32 * (evtRing s e).tail)
      (recordBytes r (evtRing s e).phase).length = recordBytes r (evtRing s e).phase := by
  unfold recordPlaced
  rw [setEvtRing_hostWrite]
  generalize recordBytes r (evtRing s e).phase = l
  exact cread_cwrite l _ _ h

theorem recordPlaced_used (e : Nat) (r : EvRec) (s : State) : (evtRing (recordPlaced e r s) e).used = (evtRing s e).used + 1 := by
  unfold recordPlaced; rw [evtRing_setEvtRing]

/-- The state with the oldest record taken from the queue. -/
def dequeued (rest : List EvRec) (s : State) : State := { s with flt := { s.flt with evq := rest } }

/-- A ring that owes no OVERFLOW record pays none. -/
theorem payOverflow_none {e : Nat} {s : State} (ok : Bool) (h : (evtRing s e).owed = 0) : payOverflow e ok s = s := by
  simp [payOverflow, h]

/-- A record for an enabled ring that owes nothing and has room. -/
theorem putRecord_room {e : Nat} {s : State} (r : EvRec) (ok : Bool) (he : (evtRing s e).en = true) (ho : (evtRing s e).owed = 0)
    (hu : (evtRing s e).used < evtSize s e) : putRecord e r ok s = placeRecord e r ok s := by
  simp [putRecord, he, payOverflow_none ok ho, hu]

/-- A record for an enabled ring that owes nothing and is full. -/
theorem putRecord_full {e : Nat} {s : State} (r : EvRec) (ok : Bool) (he : (evtRing s e).en = true) (ho : (evtRing s e).owed = 0)
    (hu : evtSize s e ≤ (evtRing s e).used) : putRecord e r ok s = dropRecord e s := by
  simp [putRecord, he, payOverflow_none ok ho, hu]

/-- A FINAL record for a disabled ring is held, the store having room (R323). -/
theorem putRecord_held {e : Nat} {s : State} {r : EvRec} (ok : Bool) (he : (evtRing s e).en = false) (hr : r.kind = 1)
    (hh : s.hif.held.length < 256) : putRecord e r ok s = { s with hif := { s.hif with held := s.hif.held ++ [r] } } := by
  simp [putRecord, he, hr, hh]

/-- The oldest record leaves the queue for its ring. -/
theorem opEventRecordWrite_cons {s : State} {r : EvRec} {rest : List EvRec} (ok : Bool) (h : s.flt.evq = r :: rest) :
    opEventRecordWrite ok s = putRecord (routeOf s r) r ok (dequeued rest s) := by
  unfold opEventRecordWrite dequeued; rw [h]

/-- Settles O14: the oldest record goes to its ring by `putRecord_room` or is dropped by `putRecord_full`. -/
theorem eventRecordsReachTheirRing : Obligations.EventRecordsReachTheirRing := by
  unfold Obligations.EventRecordsReachTheirRing
  intro s r rest hq hr hw
  refine ⟨fun he ho hu => ?_, fun he ho hu => ?_, fun he ho hu => ?_⟩
  · have hx := (opEventRecordWrite_cons true hr).trans (putRecord_room (s := dequeued rest s) r true he ho hu)
    obtain ⟨x, w, hp⟩ := placeRecord_ok (routeOf s r) r (dequeued rest s)
    have hread := recordPlaced_reads (routeOf s r) r (dequeued rest s) hw
    have hused := recordPlaced_used (routeOf s r) r (dequeued rest s)
    have hframe := recordPlaced_frame (routeOf s r) r (dequeued rest s)
    generalize recordPlaced (routeOf s r) r (dequeued rest s) = v at *
    have hflt : v.flt = (dequeued rest s).flt := by rw [hframe]
    exact completes_of rfl (hx.trans hp) (by rw [hflt]; exact hq)
      ⟨by rw [hflt]; rfl, hread, hused, by rw [hframe]; rfl⟩
  · have hx := (opEventRecordWrite_cons true hr).trans (putRecord_full (s := dequeued rest s) r true he ho hu)
    refine completes_of rfl hx hq ⟨rfl, ?_, ?_, rfl, rfl, rfl⟩
    · exact congrArg EvtRing.lost (evtRing_setEvtRing _ _ (dequeued rest s))
    · refine (congrArg EvtRing.owed (evtRing_setEvtRing _ _ (dequeued rest s))).trans ?_
      show satAdd 32 (evtRing s (routeOf s r)).owed 1 = 1
      rw [ho]; rfl
  · have hx := (opEventRecordWrite_cons false hr).trans (putRecord_room (s := dequeued rest s) r false he ho hu)
    refine completes_of rfl hx ((raise_resetQ _ _ rfl).trans hq) ⟨?_, rfl, (raise_raised _ _ rfl).1, rfl⟩
    exact congrArg EvtRing.en (evtRing_setEvtRing _ _ (dequeued rest s))

/-! ## Hold-offs (R342) -/

/-- The end of a hold-off with a deferred write on an unmasked vector. -/
theorem opIrqHoldoffEnd_fires {s : State} {v h : Nat} (hd : (tgetD s.hif.msix v {}).deferred = some h)
    (hb : bit (tgetD s.hif.msix v {}).ctrl.toNat 0 = false) (hm : s.hif.fnMask = false) :
    opIrqHoldoffEnd v s =
      { atLeast (tgetD s.hif.msix v {}).until_ s with
        hif := { s.hif with
          msix := tput (tput s.hif.msix v { (tgetD s.hif.msix v {}) with deferred := none, until_ := 0 }) v
            { (tgetD s.hif.msix v {}) with
              deferred := none, until_ := max s.tim.now (tgetD s.hif.msix v {}).until_ + h * 1000 } }
        wire := s.wire ++ [.msi v] } := by
  unfold opIrqHoldoffEnd
  simp only [hd, signalVector, tgetD_tput_same, hb]
  simp [hm, atLeast]

/-- Settles O15: the deferred write is signalled with the vector's hold-off over, so at once. -/
theorem heldOffVectorFires : Obligations.HeldOffVectorFires := by
  unfold Obligations.HeldOffVectorFires
  intro s v h hq
  refine ⟨fun hd hb hm => ?_, fun hd => ?_⟩
  · have hx := opIrqHoldoffEnd_fires hd hb hm
    refine completes_of rfl hx hq ⟨rfl, ?_, ?_, rfl⟩
    · exact congrArg MsixVec.deferred (tgetD_tput_same _ _ _ _)
    · exact congrArg MsixVec.until_ (tgetD_tput_same _ _ _ _)
  · exact completes_of rfl (by unfold opIrqHoldoffEnd; simp only [hd]) hq rfl

/-! ## The CXL link (R320 to R323) -/

/-- A table with every entry changed holds the changed entry. -/
theorem tget?_tmap {α : Type} (t : Tab α) (f : Nat → α → α) (i : Nat) : tget? (tmap t f) i = (tget? t i).map (f i) := by
  induction t with
  | nil => rfl
  | cons p t ih =>
    obtain ⟨k, v⟩ := p
    show tget? ((k, f k v) :: tmap t f) i = _
    simp only [tget?]
    split
    · next h => subst h; rfl
    · exact ih

/-- Every ring stopped, the link down, and no record waiting (R323). -/
def linkLost (s : State) : State := { s with
  flt := { s.flt with evq := [] }
  hif := { s.hif with
    cmd := tmap s.hif.cmd (fun _ r => { r with en := false, gone := r.busy })
    cpl := tmap s.hif.cpl (fun _ r => { r with en := false })
    evt := tmap s.hif.evt (fun _ r => { r with en := false })
    lines := []
    linkUp := false, cxlIo := false, cxlCache := false, cxlMem := false, width := 0, speed := 0 } }

theorem opCxlLinkDown_eq (cause : Nat) (s : State) : opCxlLinkDown cause s =
    raise { src := 0x006, data := [(1, cause)] }
      (wr (discardRecords s.flt.evq (linkLost s)) .hifCfg 0 0 (clrBit (rd s .hifCfg 0) 2)) := rfl

theorem evtRing_linkLost (s : State) (e : Nat) : (evtRing (linkLost s) e).en = false := by
  unfold evtRing linkLost tgetD
  rw [tget?_tmap]
  cases tget? s.hif.evt e <;> rfl

theorem linkLost_stopped (s : State) :
    (linkLost s).hif.cmd.all (fun x => !x.2.en) = true ∧ (linkLost s).hif.cpl.all (fun x => !x.2.en) = true ∧
      (linkLost s).hif.evt.all (fun x => !x.2.en) = true := by
  refine ⟨?_, ?_, ?_⟩ <;> simp [linkLost, tmap]

/-- Settles O16: the link's loss stops every ring at once; a FINAL record waiting for a stopped ring is held. -/
theorem cxlLinkChanges : Obligations.CxlLinkChanges := by
  unfold Obligations.CxlLinkChanges
  intro s r cause sp w io ca me hq
  refine ⟨fun he => ?_, fun he hk hh => ?_, fun hs hw => ?_⟩
  · have hx : opCxlLinkDown cause s =
        raise { src := 0x006, data := [(1, cause)] } (wr (linkLost s) .hifCfg 0 0 (clrBit (rd s .hifCfg 0) 2)) := by
      rw [opCxlLinkDown_eq, he]; rfl
    refine completes_of rfl hx ((raise_resetQ _ _ rfl).trans hq) ?_
    obtain ⟨hcmd, hcpl, hevt⟩ := linkLost_stopped s
    refine ⟨hcmd, hcpl, hevt, rfl, rfl, rfl, ?_, rfl, rfl, rfl, raise_raised _ _ rfl, rfl⟩
    rw [rd_raise, rd_wr_same, bit_eq_testBit, Nat.testBit_mod_two_pow, testBit_clrBit]
    simp
  · have hx : opCxlLinkDown cause s = raise { src := 0x006, data := [(1, cause)] }
        (wr { linkLost s with hif := { (linkLost s).hif with held := s.hif.held ++ [r] } } .hifCfg 0 0 (clrBit (rd s .hifCfg 0) 2)) := by
      rw [opCxlLinkDown_eq, he]
      unfold discardRecords
      rw [putRecord_held true (evtRing_linkLost s _) hk hh]
      rfl
    exact completes_of rfl hx ((raise_resetQ _ _ rfl).trans hq) rfl
  · have hx : opCxlLinkUp sp w io ca me s = raise { src := 0x005, data := [(1, sp), (1, w)] } { s with hif := { s.hif with
        linkUp := true, cxlIo := io, cxlCache := ca, cxlMem := me, width := w, speed := sp } } := by
      have h1 : ¬ sp < fld s .hifLinkCfg 0 3 0 := Nat.not_lt.mpr hs
      have h2 : ¬ w < fld s .hifLinkCfg 0 7 4 := Nat.not_lt.mpr hw
      unfold opCxlLinkUp raiseIf
      exact if_neg (by simp only [Bool.or_eq_true, decide_eq_true_eq]; exact fun h => h.elim h1 h2)
    exact completes_of rfl hx ((raise_resetQ _ _ rfl).trans hq) ⟨rfl, rfl, rfl, rfl, rfl, rfl, raise_raised _ _ rfl, rfl⟩

/-! ## The command fetch (R331 to R334) -/

/-- The state in which ring `q` is served. -/
def serving (q : Nat) (s : State) : State := { s with hif := { s.hif with served := q }, pwr := { s.pwr with svcIdle := s.tim.now } }

/-- A ring with work is served by a device in RUN or TRIM whose firmware runs. -/
theorem opCommandFetch_serves {s : State} {q : Nat} (hb : s.pwr.boot = .firmware) (hst : s.pwr.st = .run ∨ s.pwr.st = .trim)
    (hn : nextRing s = some q) (fetchOk ok cplOk : Bool) :
    opCommandFetch [] fetchOk ok cplOk s = if fetchOk then runFetched q ok cplOk (serving q s) else fetchError q (serving q s) := by
  have hf : fetching s = true := by rcases hst with h | h <;> simp [fetching, hb, h]
  unfold opCommandFetch
  simp only [List.foldl_nil, hf, hn]
  rfl

/-- A fetched entry whose opcode a table lists runs its operation. -/
theorem runFetched_listed {q : Nat} {ok cplOk : Bool} {s : State} {e : CmdEntry} {c : Cmd} {f : State → State}
    (he : e = parseEntry (hostBytes s (rdAddr s .hifCmdBaseLo .hifCmdBaseHi q + 64 * (cmdRing s q).head) 64))
    (hc : c = { ring := q, tag := e.tag, hostOk := ok, cplOk := cplOk }) (hf : lookupOp e.op c e = some f) :
    runFetched q ok cplOk s = f (setCmdRing q { cmdRing s q with head := ((cmdRing s q).head + 1) % cmdSize s q } s) := by
  subst he hc
  unfold runFetched
  simp only [hf]

/-- A fetched entry whose opcode no table lists ends BAD_OPCODE. -/
theorem runFetched_unlisted {q : Nat} {ok cplOk : Bool} {s : State} {e : CmdEntry} {c : Cmd}
    (he : e = parseEntry (hostBytes s (rdAddr s .hifCmdBaseLo .hifCmdBaseHi q + 64 * (cmdRing s q).head) 64))
    (hc : c = { ring := q, tag := e.tag, hostOk := ok, cplOk := cplOk }) (hf : lookupOp e.op c e = none) :
    runFetched q ok cplOk s =
      complete c e.op badOpcode (setCmdRing q { cmdRing s q with head := ((cmdRing s q).head + 1) % cmdSize s q } s) := by
  subst he hc
  unfold runFetched
  simp only [hf]

/-- Settles O17: the ring served runs the entry at HEAD, and a failed fetch stops it. -/
theorem commandFetchRunsTheRing : Obligations.CommandFetchRunsTheRing := by
  unfold Obligations.CommandFetchRunsTheRing
  intro s q ok cplOk hq hb hst hn
  have hx := opCommandFetch_serves hb hst hn
  refine ⟨?_, ?_⟩
  · rintro e c u rfl rfl rfl
    exact ⟨fun f hf => ⟨_, rfl, congrArg settle ((hx true ok cplOk).trans (runFetched_listed (s := serving q s) rfl rfl hf))⟩,
      fun hf => ⟨_, rfl, congrArg settle ((hx true ok cplOk).trans (runFetched_unlisted (s := serving q s) rfl rfl hf))⟩⟩
  · refine completes_of rfl (hx false ok cplOk) ((raise_resetQ _ _ rfl).trans hq) ?_
    have hr := cmdRing_setCmdRing q { cmdRing (serving q s) q with en := false, error := true } (serving q s)
    exact ⟨congrArg (·.en) hr, congrArg (·.error) hr, congrArg (·.head) hr, raise_raised _ _ rfl, rfl⟩

end Sys2Proof.Machine

/-! SUPPORT. Timing domains and media MACs (R48, R49, R180, R214): set up by a register write, and started. -/
namespace Sys2Proof.Machine
open Sys2Proof

/-! ## Timing domains -/

/-- Audits stopped or resumed change the collector and the suspension alone. -/
theorem auditNote_frame (ran : Bool) (s : State) :
    auditNote ran s = { s with ika := { s.ika with allSuspended := (auditNote ran s).ika.allSuspended }, flt := (auditNote ran s).flt } ∧
      (auditNote ran s).flt.resetQ = s.flt.resetQ := by
  unfold auditNote
  split
  · split
    · exact ⟨rfl, raise_resetQ _ _ rfl⟩
    · exact ⟨rfl, rfl⟩
  · split
    · exact ⟨rfl, raise_resetQ _ _ rfl⟩
    · exact ⟨rfl, rfl⟩

/-- A domain's write taken leaves the registers as the write set them. -/
theorem domWrite_frame (d : Nat) (ran : Bool) (s : State) :
    (domWrite d ran s).regs = s.regs ∧ (domWrite d ran s).flt.resetQ = s.flt.resetQ := by
  unfold domWrite
  obtain ⟨h, hq⟩ := auditNote_frame ran { s with tim := { s.tim with strobed := tdel s.tim.strobed d } }
  exact ⟨by rw [h], hq⟩

theorem rd_congr {s t : State} (h : t.regs = s.regs) (r : Reg) (i j : Nat) : rd t r i j = rd s r i j := by
  unfold rd; rw [h]

theorem domain_enabled {s : State} {m d rate : Nat} (hq : Settled s) (hm : masterOk s m = true) (hd : d < 8) (h1 : 1 ≤ rate)
    (h8 : rate ≤ 8) (hp : domPhase s d < fpFloor rate) (ha : domActive s d = false) (hk : s.hif.lock = false) :
    Completes (.domainCfgWrite m d false (BitVec.ofNat 32 (2 ^ 31 + rate))) s (fun t => domEn t d = true ∧ domRate t d = rate) := by
  let new := mergeWord .timDomCfg (rd s .timDomCfg d) (2 ^ 31 + rate)
  have hrate : bits new 3 0 = rate := by
    rw [bits_mergeWord _ _ (by decide), bits_enWord_low (by decide), bits_size (by omega)]
  have hen : bit new 31 = true := by rw [bit_mergeWord _ _ (by decide), bit_enWord (by omega)]
  have hrule : ruleBad s .timDomCfg d (rd s .timDomCfg d) new = false := by
    show domBad s d (bits new 3 0) (domPhase s d) = false
    rw [hrate]
    simp [domBad, ha, hp]
  have hx : opDomainCfgWrite m d false (BitVec.ofNat 32 (2 ^ 31 + rate)) s =
      domWrite d (auditsRun s) (wr s .timDomCfg d 0 new) := by
    show writeNamed m .timDomCfg d _ s = _
    rw [writeNamed_at (r := .timDomCfg) _ hd hm, enWord_toNat (by omega), writeReg_eq_writeFields _ _ _ _ _ (by decide),
      writeFields_taken (new := new) (by decide) rfl rfl (lockBad_unlocked _ _ _ hk)
        (by rw [rangeBad, hrate]; exact outside_false h1 h8) hrule]
    rfl
  obtain ⟨hregs, hrq⟩ := domWrite_frame d (auditsRun s) (wr s .timDomCfg d 0 new)
  refine completes_of rfl hx (hrq.trans hq) ⟨?_, ?_⟩
  · unfold domEn
    rw [rd_congr hregs, rd_wr_same, bit_eq_testBit, Nat.testBit_mod_two_pow, ← bit_eq_testBit, hen]; rfl
  · unfold domRate fld
    rw [rd_congr hregs]
    exact (fld_wr_same _ _ _ _ _ (by decide)).trans hrate

/-- Records journalled change the redundancy controller alone. -/
theorem journal_frame (type : Nat) (data : List Byte) (s : State) : journal type data s = { s with red := (journal type data s).red } := by
  unfold journal; split <;> rfl

theorem journals_frame (l : List (Nat × List Byte)) (s : State) :
    l.foldl (fun s r => journal r.1 r.2 s) s = { s with red := (l.foldl (fun s r => journal r.1 r.2 s) s).red } := by
  induction l generalizing s with
  | nil => rfl
  | cons r l ih =>
    rw [List.foldl_cons, ih, journal_frame]

theorem journalMark_frame (n : Nat) (s : State) : journalMark n s = { s with red := (journalMark n s).red } := by
  unfold journalMark
  split
  · rfl
  · rw [journals_frame]; rfl

/-- Keys of no entry. -/
theorem tkeys_none {α : Type} (t : Tab α) (f : Nat → α → Bool) (h : ∀ p ∈ t, f p.1 p.2 = false) : tkeys t f = [] := by
  simpa [tkeys, List.filter_eq_nil_iff] using h

/-- A domain's next boundary, none of whose flows runs, on a unit that is not WARM. -/
theorem opDomainBoundary_quiet {s : State} {d : Nat} (hd : d < 8) (he : domEn s d = true) (hf : ∀ p ∈ s.flows, p.2.st ≠ .running)
    (hw : s.red.st ≠ .warm) : ∃ r, opDomainBoundary d s =
      { s with
        tim := { s.tim with now := max s.tim.now (tOf s d (nextBoundary s d)), strobed := tput s.tim.strobed d (nextBoundary s d) }
        red := r } := by
  have hrun : ∀ p ∈ s.flows, (p.2.st == .running) = false := fun p hp => by simpa using hf p hp
  let u : State := { s with
    tim := { s.tim with now := max s.tim.now (tOf s d (nextBoundary s d)), strobed := tput s.tim.strobed d (nextBoundary s d) } }
  have hunfed : unfedInputs u d = [] := tkeys_none s.flows _ fun p hp => by simp [hrun p hp]
  have htx : startTx d u = u := by
    have h0 : tkeys u.flows (fun n f => nsOf n == 1 && f.endpoint == 0 && f.essence == 0 && f.domain == d && f.st == .running) = [] :=
      tkeys_none s.flows _ fun p hp => by simp [hrun p hp]
    unfold startTx
    rw [h0]; rfl
  have hout : streamOutputs u d = [] := tkeys_none s.flows _ fun p hp => by simp [hrun p hp]
  have hj : journalBoundary d (nextBoundary s d) u = { u with red := (journalBoundary d (nextBoundary s d) u).red } := by
    have hw' : (u.red.st == .warm) = false := by simpa using hw
    unfold journalBoundary
    split
    · rw [hw']; exact journalMark_frame _ _
    · rfl
  refine ⟨(journalBoundary d (nextBoundary s d) u).red, ?_⟩
  refine Eq.trans ?_ hj
  have h7 : ¬ 7 < d := by omega
  unfold opDomainBoundary
  simp only [h7, he, decide_false, Bool.not_true, Bool.or_self, Bool.false_eq_true, if_false]
  show journalBoundary d (nextBoundary s d) (if nextBoundary s d = 0 then startTx d (holdFlows (unfedInputs u d) 0xFFFF u)
    else (streamOutputs (startTx d (holdFlows (unfedInputs u d) 0xFFFF u)) d).foldl _ (startTx d (holdFlows (unfedInputs u d) 0xFFFF u))) = _
  rw [hunfed]
  show journalBoundary d (nextBoundary s d) (if nextBoundary s d = 0 then startTx d u else (streamOutputs (startTx d u) d).foldl _ (startTx d u)) = _
  rw [htx, hout]
  split <;> rfl

/-- Settles O19: the write by `domain_enabled`, the ignored one as a violation, the boundary by `opDomainBoundary_quiet`. -/
theorem domainsRunAndBoundariesStrobe : Obligations.DomainsRunAndBoundariesStrobe := by
  unfold Obligations.DomainsRunAndBoundariesStrobe
  intro s m d rate ph hq hm hd
  refine ⟨fun h1 h8 hp ha hk => domain_enabled hq hm hd h1 h8 hp ha hk, fun ha => ?_, fun he hf hw => ?_, fun he => ?_⟩
  · have hx : opDomainCfgWrite m d true (BitVec.ofNat 32 ph) s = violation m (regOff .timDomPhase d 0) s := by
      show writeNamed m .timDomPhase d _ s = _
      rw [writeNamed_at (r := .timDomPhase) _ hd hm, writeReg_eq_writeFields _ _ _ _ _ (by decide)]
      exact writeFields_forbidden (by decide) rfl (by simp [ruleBad, domBad, ha])
    refine completes_of rfl hx ((violation_resetQ _ _ _).trans hq) ⟨?_, violation_count _ _ _⟩
    rw [violation_eq_report]
  · obtain ⟨r, hx⟩ := opDomainBoundary_quiet hd he hf hw
    exact completes_of rfl hx hq ⟨rfl, tget?_tput_same _ _ _, rfl, rfl⟩
  · exact completes_of rfl (by simp [opDomainBoundary, he]) hq rfl

end Sys2Proof.Machine

namespace Sys2Proof.Machine
open Sys2Proof

/-! ## Media MACs -/

/-- The lanes of a MAC started change the lanes alone. -/
theorem startMacLanes_frame (m : Nat) (l : List Nat) (s : State) :
    l.foldl (fun s n => startMacLane m n s) s =
      { s with lnx := { s.lnx with lanes := (l.foldl (fun s n => startMacLane m n s) s).lnx.lanes } } := by
  induction l generalizing s with
  | nil => rfl
  | cons n l ih => rw [List.foldl_cons, ih]; rfl

/-- A MAC that starts negotiates or trains, and leaves the registers and the collector. -/
theorem macStart_starts (m : Nat) (s : State) :
    (mac (macStart m s) m).st = (if macAn (macStart m s) m then .negotiating else .training) ∧
      (macStart m s).regs = s.regs ∧ (macStart m s).flt = s.flt := by
  unfold macStart
  rw [startMacLanes_frame]
  generalize State.lnx _ = x
  refine ⟨?_, rfl, rfl⟩
  exact congrArg Mac.st (tgetD_tput_same _ _ _ _)

/-- The rules of NMP_MAC_CFG for a write that sets EN of a disabled MAC. -/
theorem ruleBad_macCfg {s : State} {k old new : Nat} (ho : bit old 31 = false) (hn : bit new 31 = true) :
    ruleBad s .nmpMacCfg k old new = (!placementOk s k new || (macLanes new).any (fun n => laneSt s n == .prbs)) := by
  simp [ruleBad, sets, clears, ho, hn]

/-- Settles O20: a write that sets EN on lanes placed for the MAC starts it by `macStart`; on others it is a violation. -/
theorem mediaMacStarts : Obligations.MediaMacStarts := by
  unfold Obligations.MediaMacStarts
  intro s m k v hq hm hk hl ho hr hn
  have hname := writeNamed_at (r := .nmpMacCfg) v hk hm
  refine ⟨fun hp hprbs => ?_, fun hp => ?_⟩
  · have hx : opMacEnable m k v s = macStart k (wr s .nmpMacCfg k 0 (mergeWord .nmpMacCfg (rd s .nmpMacCfg k) v.toNat)) := by
      refine hname.trans ?_
      rw [writeReg_eq_writeFields _ _ _ _ _ (by decide),
        writeFields_taken (by decide) rfl rfl (lockBad_unlocked _ _ _ hl) hr (by
          refine (ruleBad_macCfg ho hn).trans ?_
          rw [hp]
          exact hprbs)]
      show macWrite k (rd s .nmpMacCfg k) (mergeWord .nmpMacCfg (rd s .nmpMacCfg k) v.toNat)
        (wr s .nmpMacCfg k 0 (mergeWord .nmpMacCfg (rd s .nmpMacCfg k) v.toNat)) = _
      unfold macWrite
      exact if_pos (by simp [sets, ho, hn])
    obtain ⟨hst, hregs, hflt⟩ := macStart_starts k (wr s .nmpMacCfg k 0 (mergeWord .nmpMacCfg (rd s .nmpMacCfg k) v.toNat))
    refine completes_of rfl hx (by rw [hflt]; exact hq) ⟨hst, ?_⟩
    rw [rd_congr hregs, rd_wr_same]
  · have hx : opMacEnable m k v s = violation m (regOff .nmpMacCfg k 0) s := by
      refine hname.trans ?_
      rw [writeReg_eq_writeFields _ _ _ _ _ (by decide)]
      refine writeFields_forbidden (by decide) rfl ((ruleBad_macCfg ho hn).trans ?_)
      rw [hp]
      rfl
    refine completes_of rfl hx ((violation_resetQ _ _ _).trans hq) ⟨?_, ?_, violation_count _ _ _⟩
    · rw [violation_eq_report]
    · rw [violation_eq_report]

end Sys2Proof.Machine

/-! SUPPORT. The fault collector (R377 to R398): its commands, and the events that clear, latch and time out in it. -/
namespace Sys2Proof.Machine
open Sys2Proof

/-! ## How a host command with checks ends -/

/-- A command whose checks pass and whose act completes DONE. -/
theorem checked_done {c : Cmd} {op : Nat} {ch : Bool} {checks : State → List (Bool × Reply)} {act : State → Reply × State} {s u : State}
    {k : Nat} (hk : firstErr (checks s) = none) (ha : act s = (replyResult k, u)) (hc : Clear s) (hf : u.hif.fences = [])
    (hq : u.flt.resetQ = []) : EndsDone c op k u (settle (hostCmd c op ch (checked checks act) s)) :=
  hostCmd_done c op ch _ s ((checked_ok _ _ _ hk).trans ha) hc hf hq

/-- A command one of whose checks fails. -/
theorem checked_fails {c : Cmd} {op : Nat} {ch : Bool} {checks : State → List (Bool × Reply)} {act : State → Reply × State} {s : State}
    {st err : Nat} (hk : firstErr (checks s) = some { st := st, err := err }) (hc : Clear s) :
    Fails c op st err s (settle (hostCmd c op ch (checked checks act) s)) :=
  hostCmd_fails c op ch _ s (checked_bad _ _ _ _ hk) hc

/-- A completion that was written leaves the collector. -/
theorem EndsDone.flt {c : Cmd} {op k : Nat} {s t : State} (h : EndsDone c op k s t) (hc : c.cplOk = true) : t.flt = s.flt :=
  (h.1.2.1 hc).1

/-- What a completion leaves as it was. -/
theorem CompletionOnly.same {c : Cmd} {s t : State} (h : CompletionOnly c s t) : SameBlock s t := by
  unfold SameBlock; rw [h.1]

/-! ## The commands (R398) -/

theorem rangeChecks_pass (c : Cmd) {first count : Nat} (s : State) (h : first + count ≤ 640) (h0 : 0 < count) :
    firstErr (rangeChecks c first count s) = none := by
  have h1 : ¬ 639 < first := by omega
  have h2 : ¬ 640 < first + count := by omega
  have h3 : count ≠ 0 := by omega
  simp [rangeChecks, firstErr, h1, h2, h3]

theorem rangeChecks_fail (c : Cmd) {first : Nat} (count : Nat) (s : State) (h : 640 ≤ first) :
    firstErr (rangeChecks c first count s) = some { st := 0x11, err := argAt c 24 s } := by
  have h1 : 639 < first := by omega
  simp only [rangeChecks, firstErr, h1, decide_true, if_true]
  rfl

/-- A clear of one source changes its status words alone. -/
theorem clearSrc_frame (src : Nat) (s : State) :
    clearSrc src s = { s with flt := { s.flt with stat := tput s.flt.stat src (statusCleared (tgetD s.flt.stat src {}) s.tim.now) } } := rfl

/-- A range cleared changes status words alone, those of its sources each as one clear would. -/
theorem clearRange_frame (n first : Nat) (s : State) : ∃ st, clearRange first n s = { s with flt := { s.flt with stat := st } } ∧
    (∀ src, first ≤ src → src < first + n → tgetD st src {} = statusCleared (tgetD s.flt.stat src {}) s.tim.now) ∧
    (∀ src, src < first ∨ first + n ≤ src → tgetD st src {} = tgetD s.flt.stat src {}) := by
  induction n generalizing first s with
  | zero => exact ⟨s.flt.stat, rfl, fun src h1 h2 => by omega, fun _ _ => rfl⟩
  | succ n ih =>
    obtain ⟨st, he, hin, hout⟩ := ih (first + 1) (clearSrc first s)
    refine ⟨st, he, fun src h1 h2 => ?_, fun src h => ?_⟩
    · rcases Nat.eq_or_lt_of_le h1 with rfl | h
      · rw [hout first (Or.inl (by omega)), clearSrc_frame]
        exact tgetD_tput_same _ _ _ _
      · rw [hin src h (by omega), clearSrc_frame]
        exact congrArg (statusCleared · _) (tgetD_tput_ne _ _ _ (by omega))
    · rw [hout src (by omega), clearSrc_frame]
      exact tgetD_tput_ne _ _ _ (by omega)

theorem faultClear_clears {c : Cmd} {s : State} {first count src other : Nat} (hc : Clear s) (h : first + count ≤ 640) (h0 : 0 < count)
    (hk : c.cplOk = true) (h1 : first ≤ src) (h2 : src < first + count) (ho : other < first ∨ first + count ≤ other) :
    Completes (.faultClear c first count) s (fun t =>
      Replied c 0x0902 0 0 0 t ∧ tgetD t.flt.stat src {} = statusCleared (tgetD s.flt.stat src {}) s.tim.now ∧
        tgetD t.flt.stat other {} = tgetD s.flt.stat other {} ∧ t = { s with hif := t.hif, flt := t.flt, wire := t.wire }) := by
  obtain ⟨st, he, hin, hout⟩ := clearRange_frame count first s
  have hd : EndsDone c 0x0902 0 { s with flt := { s.flt with stat := st } } (settle (opFaultClear c first count s)) :=
    checked_done (rangeChecks_pass c s h h0) (by rw [he]; rfl) hc hc.1 hc.2.1
  refine ⟨_, rfl, hd.2, ?_, ?_, ?_⟩
  · rw [hd.flt hk]; exact hin src h1 h2
  · rw [hd.flt hk]; exact hout other ho
  · exact hd.1.same

/-- Settles O21: each command by its checks and its act. -/
theorem faultCommandsComplete : Obligations.FaultCommandsComplete := by
  unfold Obligations.FaultCommandsComplete
  intro c s first count src other a hc
  obtain ⟨hf, hq, hb⟩ := hc
  refine ⟨fun h h0 hk => ⟨_, rfl, ?_⟩, fun h h0 hk h1 h2 ho => faultClear_clears ⟨hf, hq, hb⟩ h h0 hk h1 h2 ho,
    fun h => ⟨⟨_, rfl, checked_fails (rangeChecks_fail c count s h) ⟨hf, hq, hb⟩⟩,
      ⟨_, rfl, checked_fails (rangeChecks_fail c count s h) ⟨hf, hq, hb⟩⟩⟩,
    fun h => ⟨_, rfl, ?_⟩, fun h => ⟨_, rfl, ?_⟩, fun h hk => ⟨_, rfl, ?_⟩, fun h => ⟨_, rfl, ?_⟩, fun h => ⟨_, rfl, ?_⟩, fun h => ⟨_, rfl, ?_⟩⟩
  · obtain ⟨hf', hq', -⟩ := clear_place ⟨hf, hq, hb⟩ a ((List.range count).flatMap fun i => faultRecord s (first + i))
    exact checked_done (rangeChecks_pass c s h h0) (readBack_ok hk a _ s) ⟨hf, hq, hb⟩ hf' hq'
  · exact checked_done (k := 0) (by simp [firstErr, h]) rfl ⟨hf, hq, hb⟩ hf hq
  · exact checked_fails (by simp [firstErr, h, denied]) ⟨hf, hq, hb⟩
  · obtain ⟨hf', hq', -⟩ := clear_place ⟨hf, hq, hb⟩ a (snapBytes s)
    refine checked_done (k := 0) ?_ rfl ⟨hf, hq, hb⟩ hf' hq'
    have hs : s.flt.snap.isNone = false := Option.isNone_eq_false_iff.mpr (Option.isSome_iff_ne_none.mpr h)
    simp [firstErr, hs, hk]
  · exact checked_fails (by simp [firstErr, h, denied]) ⟨hf, hq, hb⟩
  · exact checked_done (k := 0) (by simp [firstErr, h]) rfl ⟨hf, hq, hb⟩ hf ((raise_resetQ _ _ rfl).trans hq)
  · exact checked_fails (by simp [firstErr, h, badArg, badField]) ⟨hf, hq, hb⟩

end Sys2Proof.Machine

namespace Sys2Proof.Machine
open Sys2Proof

/-! ## The health word (R382, R385) -/

theorem bit_clrBit_ne {n i j : Nat} (h : i ≠ j) : bit (clrBit n i) j = bit n j := by
  rw [bit_eq_testBit, testBit_clrBit, bit_eq_testBit]
  simp [h]

/-- Bits cleared one after another are clear, and the others stand. -/
theorem bit_foldl_clrBit (l : List Nat) (n j : Nat) : bit (l.foldl (fun m i => clrBit m i) n) j = (bit n j && !l.contains j) := by
  induction l generalizing n with
  | nil => simp
  | cons i l ih =>
    rw [List.foldl_cons, ih, List.contains_cons]
    by_cases h : i = j
    · subst h; simp
    · rw [bit_clrBit_ne h]
      have : (j == i) = false := by simpa using Ne.symm h
      simp [this]

/-- A W1C write clears a bit written, but for one set in the same cycle. -/
theorem bit_clearBits (base w : Nat) (s : State) (n : Nat) {k : Nat} (hk : k < 32) :
    bit (clearBits base w s n) k = (bit n k && !(bit w k && !(tget? s.flt.healthAt (base + k) == some s.tim.now))) := by
  unfold clearBits
  rw [bit_foldl_clrBit]
  congr 2
  rw [Bool.eq_iff_iff]
  simp [hk]

theorem clrBit_le (n i : Nat) : clrBit n i ≤ n := by
  unfold clrBit; split
  · exact Nat.sub_le _ _
  · exact Nat.le_refl _

theorem clearBits_le (base w : Nat) (s : State) (n : Nat) : clearBits base w s n ≤ n := by
  unfold clearBits
  generalize List.filter _ _ = l
  induction l generalizing n with
  | nil => exact Nat.le_refl n
  | cons i l ih => exact (ih _).trans (clrBit_le n i)

theorem bits_lt (n hi lo : Nat) : bits n hi lo < 2 ^ (hi + 1 - lo) := Nat.mod_lt _ (Nat.two_pow_pos _)

/-- A bit of two words, the upper shifted. -/
theorem bit_upper {m r : Nat} (hr : r < 2 ^ 32) (k : Nat) : bit (m * 2 ^ 32 + r) (32 + k) = bit m k := by
  have : (m * 2 ^ 32 + r) / 2 ^ (32 + k) = m / 2 ^ k := by
    rw [Nat.pow_add, ← Nat.div_div_eq_div_mul, Nat.mul_comm, Nat.mul_add_div (by decide), Nat.div_eq_of_lt hr, Nat.add_zero]
  unfold bit; rw [this]

theorem bit_lower (m : Nat) {r k : Nat} (hr : r < 2 ^ 32) (hk : k < 32) : bit (m * 2 ^ 32 + r) k = bit r k := by
  rw [bit_eq_testBit, bit_eq_testBit, Nat.mul_comm, Nat.testBit_two_pow_mul_add _ hr, if_pos hk]

theorem bit_bits {n hi lo k : Nat} (h : k < hi + 1 - lo) : bit (bits n hi lo) k = bit n (lo + k) := by
  rw [bit_eq_testBit, testBit_bits, bit_eq_testBit]
  simp [h]

/-! ## Consequence windows (R383) -/

/-- The least of some numbers is one of them. -/
theorem foldl_min_mem (t : Nat) (ts : List Nat) : ts.foldl min t ∈ t :: ts := by
  induction ts generalizing t with
  | nil => simp
  | cons u ts ih =>
    rw [List.foldl_cons]
    rcases List.mem_cons.mp (ih (min t u)) with h | h
    · rw [h]
      rcases Nat.le_total t u with hle | hle
      · rw [Nat.min_eq_left hle]; simp
      · rw [Nat.min_eq_right hle]; simp
    · exact List.mem_cons_of_mem _ (List.mem_cons_of_mem _ h)

/-- The window that ends first ends no later than the instant the counter has reached, so it closes. -/
theorem opConseqWindowEnd_closes {s : State} (h : s.flt.windows ≠ []) : ∃ n, s.tim.now ≤ n ∧
    opConseqWindowEnd s = { s with
      tim := { s.tim with now := n }
      flt := { s.flt with windows := s.flt.windows.filter (fun w => decide (n < w.until_)) } } ∧
    (s.flt.windows.filter (fun w => decide (n < w.until_))).length < s.flt.windows.length := by
  obtain ⟨w, ws, hw⟩ := List.exists_cons_of_ne_nil h
  let m := (ws.map (fun w => w.until_)).foldl min w.until_
  have hmem : m ∈ s.flt.windows.map (fun w => w.until_) := by rw [hw]; exact foldl_min_mem _ _
  obtain ⟨x, hx, hxm⟩ := List.mem_map.mp hmem
  refine ⟨max s.tim.now m, Nat.le_max_left _ _, ?_, ?_⟩
  · have he : s.flt.windows.map (fun w => w.until_) = w.until_ :: ws.map (fun w => w.until_) := by rw [hw]; rfl
    unfold opConseqWindowEnd
    rw [he]
    rfl
  · refine List.length_filter_lt_length_iff_exists.mpr ⟨x, hx, ?_⟩
    simp [hxm]

/-! ## The roll call (R393) -/

/-- A raise, or none, leaves the counts of the roll call and all but the collector. -/
theorem raise_rcMismatch (e : Ev) (s : State) : (raise e s).flt.rcMismatch = s.flt.rcMismatch := by
  rw [raise_reacted]; rfl

/-- A word that differs from its latch is counted. -/
theorem rollCall_mismatch {d w : Nat} {s : State} (h : rollWord (tgetD s.swc.xp w {}) (tgetD s.swc.live w {}) = 1) :
    ∃ f, rollCall d [w] s = { s with flt := f } ∧ f.rcMismatch = satAdd 32 s.flt.rcMismatch 1 ∧ f.resetQ = s.flt.resetQ := by
  unfold rollCall
  simp only [h]
  split
  · exact ⟨_, rfl, raise_rcMismatch _ _, raise_resetQ _ _ rfl⟩
  · split
    · exact ⟨_, rfl, raise_rcMismatch _ _, raise_resetQ _ _ rfl⟩
    · exact ⟨_, rfl, rfl, rfl⟩

theorem rollWord_differs {x : XpWord} {l : XpLive} (h1 : x.wrote ≤ l.at_) (h2 : x.src ≠ l.src) : rollWord x l = 1 := by
  have h3 : (x.src != l.src) = true := bne_iff_ne.mpr h2
  simp [rollWord, Nat.not_lt.mpr h1, h3]

/-- A roll call that is off, or whose domain is disabled, does nothing. -/
theorem opRollCall_off {s : State} {n : Nat} (h : bit (rd s .fltCfg 0) 31 = false ∨ domEn s n = false) : opRollCall n s = s := by
  unfold opRollCall
  exact if_neg (by rcases h with h | h <;> simp [h])

/-- The state at the boundary of a roll call, its instant noted. -/
def rollInstant (n : Nat) (s : State) : State := noteNow (.roll n) (atLeast (boundaryFrom s n (lastOf (.roll n) s + 1)) s)

theorem opRollCall_on {s : State} {n : Nat} (h : bit (rd s .fltCfg 0) 31 = true) (he : domEn s n = true) :
    opRollCall n s = rollCall n (tkeys s.swc.live (fun w _ => (flowD s (wordFlow w)).domain == n)) (rollInstant n s) := by
  unfold opRollCall
  exact if_pos (by simp [h, he])

/-! ## The events -/

theorem health_cleared {s : State} {v : Word} {k : Nat} (hq : Settled s) (hk : k < 32) (hv : bit v.toNat k = true)
    (hn : tget? s.flt.healthAt (32 + k) ≠ some s.tim.now) :
    Completes (.healthClear 1 v) s (fun t => bit t.flt.health (32 + k) = false ∧ t = { s with flt := { s.flt with health := t.flt.health } }) := by
  refine completes_of rfl rfl hq ⟨?_, rfl⟩
  show bit (clearBits 32 v.toNat s (bits s.flt.health 63 32) * 2 ^ 32 + bits s.flt.health 31 0) (32 + k) = false
  have hne : (tget? s.flt.healthAt (32 + k) == some s.tim.now) = false := by simpa using hn
  rw [bit_upper (bits_lt _ 31 0), bit_clearBits _ _ _ _ hk, hv, hne]
  simp

theorem health_kept {s : State} {v : Word} {k : Nat} (hq : Settled s) (hk : k < 32) (hv : bit v.toNat k = false) :
    Completes (.healthClear 0 v) s (fun t => bit t.flt.health k = bit s.flt.health k) := by
  refine completes_of rfl rfl hq ?_
  show bit (bits s.flt.health 63 32 * 2 ^ 32 + clearBits 0 v.toNat s (bits s.flt.health 31 0)) k = _
  rw [bit_lower _ ((clearBits_le _ _ _ _).trans_lt (bits_lt _ 31 0)) hk, bit_clearBits _ _ _ _ hk, hv, bit_bits hk, Nat.zero_add]
  simp

theorem blockPin_sets {s : State} {n k : Nat} (hq : Settled s) (hn : n ≤ 60) (h45 : n ≠ 45) (hb : bit s.flt.health n = false) :
    Completes (.blockErrorPin n k) s (fun t =>
      bit t.flt.health n = true ∧ Raised 0x240 [(1, n)] 0 s t ∧ t = { s with flt := t.flt }) := by
  let f : Flt := { s.flt with healthAt := tput s.flt.healthAt n s.tim.now, health := setBit s.flt.health n }
  have hx : opBlockErrorPin n k s = raise { src := 0x240, data := [(1, n)] } { s with flt := f } := by
    unfold opBlockErrorPin
    simp only [Nat.not_lt.mpr hn, h45, false_and, if_false, hb, Bool.not_false]
    rfl
  refine completes_of rfl hx ((raise_resetQ _ _ rfl).trans hq) ⟨?_, raise_raised _ _ rfl, rfl⟩
  rw [(raise_flt_frame _ _).1]
  exact bit_setBit_same _ _

theorem alogEntry_read {s : State} {e : Nat} (hq : Settled s) (he : e < 16) : Completes (.alogEntryRead e) s (fun t =>
      tgetD t.flt.alogLatch e {} =
        { hi := bits (tgetD s.flt.alog e {}).addr 63 32, stamp := (tgetD s.flt.alog e {}).stamp
          info := (tgetD s.flt.alog e {}).space * 2 ^ 28 + (tgetD s.flt.alog e {}).origin * 2 ^ 16 + (tgetD s.flt.alog e {}).source } ∧
        bit t.flt.alogValid e = false ∧ t.flt.alog = s.flt.alog ∧
        t.hif.resp = some (.data (BitVec.ofNat 32 (bits (tgetD s.flt.alog e {}).addr 31 0)))) := by
  have h15 : ¬ 15 < e := by omega
  refine completes_of rfl (if_neg h15) hq ⟨tgetD_tput_same _ _ _ _, bit_clrBit_same _ _, rfl, rfl⟩

theorem fwWatchdog_expires {s : State} (hq : Settled s) (hb : s.pwr.boot = .firmware) : Completes .fwWatchdog s (fun t =>
      (tgetD t.flt.stat 0x249 {}).count = min ((tgetD s.flt.stat 0x249 {}).count + 1) 255 ∧
        s.flt.wdogLast + fld s .fltCfg 0 23 16 * 1000000 ≤ t.tim.now ∧ t.flt.wdogLast = t.tim.now ∧ t.flt.wdogAt = s.flt.wdogAt) := by
  let n := max s.tim.now (s.flt.wdogLast + fld s .fltCfg 0 23 16 * 1000000)
  let u : State := { s with tim := { s.tim with now := n }, flt := { s.flt with wdogLast := n } }
  have hx : opFwWatchdog s = raise { src := 0x249, data := [(4, (n - s.flt.wdogAt) / 1000000)] } u := by
    unfold opFwWatchdog
    rw [hb]; rfl
  refine completes_of rfl hx ((raise_resetQ _ _ rfl).trans hq) ⟨(raise_raised _ u rfl).1, Nat.le_max_right _ _, ?_, ?_⟩
  · rw [raise_reacted]; rfl
  · rw [raise_reacted]; rfl

/-- Settles O22: each event by its own lemma above. -/
theorem faultCollectorEvents : Obligations.FaultCollectorEvents := by
  unfold Obligations.FaultCollectorEvents
  intro s src other n e k v bs l hq
  refine ⟨fun h hv ho => ?_, fun h30 h29 => ?_, fun hk _ hv hn => health_cleared hq hk hv hn, fun hk _ hv => health_kept hq hk hv,
    fun hn h45 hb => blockPin_sets hq hn h45 hb, fun he => alogEntry_read hq he, fun hw => ?_, fun hn => ?_, fun hb ha => ?_, fun ha => ?_,
    fun hb => fwWatchdog_expires hq hb, fun h => completes_of rfl (opRollCall_off h) hq rfl, fun h he hl hd hw hs => ?_⟩
  · refine completes_of rfl (if_pos (by rcases hv with hv | hv <;> simp [h, hv])) hq ⟨tgetD_tput_same _ _ _ _, tgetD_tput_ne _ _ _ ho, rfl⟩
  · exact completes_of rfl (if_neg (by simp [h30, h29])) hq rfl
  · obtain ⟨m, hm, hx, hlen⟩ := opConseqWindowEnd_closes hw
    exact completes_of rfl hx hq ⟨rfl, hlen, hm, rfl⟩
  · exact completes_of (u := { s with flt := { s.flt with nmt := none, snap := some { src := src, stamp := n, bytes := padTo 256 bs } } }) rfl
      (by unfold opNmtSnapshotTaken; rw [hn]) hq rfl
  · refine completes_of rfl rfl hq ⟨?_, rfl⟩
    show (if s.pwr.boot == .firmware && !s.flt.aliveStopped then !s.flt.aliveLevel else s.flt.aliveLevel) = _
    rw [hb, ha]; rfl
  · refine completes_of rfl rfl hq ?_
    show (if s.pwr.boot == .firmware && !s.flt.aliveStopped then !s.flt.aliveLevel else s.flt.aliveLevel) = _
    rw [ha, Bool.not_true, Bool.and_false]; rfl
  · have hkeys : tkeys s.swc.live (fun w _ => (flowD s (wordFlow w)).domain == n) = [k] := by simp [hl, tkeys, hd]
    have hlive : tgetD s.swc.live k {} = l := by simp [hl, tgetD, tget?]
    obtain ⟨f, hx, hmis, hrq⟩ := rollCall_mismatch (d := n) (w := k) (s := rollInstant n s)
      (by
        show rollWord (tgetD s.swc.xp k {}) (tgetD s.swc.live k {}) = 1
        rw [hlive]; exact rollWord_differs hw hs)
    rw [← hkeys] at hx
    refine completes_of rfl ((opRollCall_on h he).trans hx) (hrq.trans hq) ⟨hmis, rfl, lastOf_noteNow _ _, rfl⟩

end Sys2Proof.Machine

/-! SUPPORT. The commands of the timing complex (R64 to R67): where a step of the counter reaches. -/
namespace Sys2Proof.Machine
open Sys2Proof

/-- A step of the counter back by 1.5 ms held for acceptance, with the memory mover at work until now. -/
def backwardStep : State :=
  { State.reset with
    tim := { State.reset.tim with now := 2000000, pend := some (-1500000) }
    mem := { State.reset.mem with moverAt := 2000000 } }

/-- The command that accepts it, its completion written. -/
def acceptCmd : Cmd := { ring := 0, tag := 0, hostOk := true, cplOk := true }

/-- Refutes O23: an accepted backward step of the counter also takes back the instant of the memory mover, which the statement
leaves as it was. -/
theorem not_timingCommandsComplete : ¬ Obligations.TimingCommandsComplete := by
  unfold Obligations.TimingCommandsComplete
  intro h
  obtain ⟨-, hstep, -⟩ := h acceptCmd backwardStep 0 0 0 (-1500000) [] ⟨rfl, rfl, rfl⟩
  obtain ⟨t, ht, -, -, -, -, -, -, hframe⟩ := hstep rfl rfl rfl
  have hmover : (match exec (.timeStepAccept acceptCmd 4) backwardStep with | .next t => t.mem.moverAt | _ => 0) = 500000 := by decide
  rw [ht] at hmover
  have hkept : t.mem.moverAt = 2000000 := congrArg (·.mem.moverAt) hframe
  exact absurd (hmover.symm.trans hkept) (by decide)

end Sys2Proof.Machine

/-! SUPPORT. The reference candidates and their selection (R51 to R61), holdover and the oscillator (R67 to R69). -/
namespace Sys2Proof.Machine
open Sys2Proof

/-! ## Raises of other sources -/

/-- The collector `g` is what `f` becomes by raises of sources other than `src`. -/
def OtherRaises (src : Nat) (f g : Flt) : Prop :=
  g.resetQ = f.resetQ ∧ tgetD g.stat src {} = tgetD f.stat src {} ∧ f.evq <+: g.evq

theorem OtherRaises.refl (src : Nat) (f : Flt) : OtherRaises src f f := ⟨rfl, rfl, List.prefix_refl _⟩

theorem OtherRaises.trans {src : Nat} {f g h : Flt} (h1 : OtherRaises src f g) (h2 : OtherRaises src g h) : OtherRaises src f h :=
  ⟨h2.1.trans h1.1, h2.2.1.trans h1.2.1, h1.2.2.trans h2.2.2⟩

theorem otherRaises_raise {src : Nat} (e : Ev) (s : State) (hu : e.unit = none) (hw : e.written = false) (h : src ≠ e.src) :
    OtherRaises src s.flt (raise e s).flt :=
  ⟨raise_resetQ e s hu, by rw [raise_stat]; exact tgetD_tput_ne _ _ _ h, by rw [raise_evq e s hw]; exact List.prefix_append _ _⟩

theorem otherRaises_raiseIf {src : Nat} (b : Bool) (e : Ev) (s : State) (hu : e.unit = none) (hw : e.written = false) (h : src ≠ e.src) :
    OtherRaises src s.flt (raiseIf b e s).flt := by
  unfold raiseIf; split
  · exact otherRaises_raise e s hu hw h
  · exact .refl _ _

/-- A raise after others is a raise. -/
theorem Raised.after {src addr : Nat} {data : List (Nat × Nat)} {s u t : State} (h : Raised src data addr u t)
    (ho : OtherRaises src s.flt u.flt) : Raised src data addr s t := by
  refine ⟨?_, h.2⟩
  rw [h.1, ho.2.1]

/-- The record of a raise stands among those of the raises after it. -/
theorem Raised.among {src addr : Nat} {data : List (Nat × Nat)} {s t u : State} (h : Raised src data addr s t)
    (ho : OtherRaises src t.flt u.flt) (hn : u.tim.now = t.tim.now) : RaisedAmong src data s u := by
  obtain ⟨hc, r, hr, hsrc, hst, -, hd⟩ := h
  exact ⟨(congrArg (·.count) ho.2.1).trans hc, r, ho.2.2.subset (List.mem_of_getLast? hr), hsrc, hst.trans (by rw [hn]), hd⟩

/-! ## Disagreement (R59) -/

theorem raiseDisagree_frame (l : List (Nat × Nat)) (s : State) : ∃ f, raiseDisagree l s = { s with flt := f } ∧
    ∀ src, src ≠ 0x1C5 → OtherRaises src s.flt f := by
  induction l generalizing s with
  | nil => exact ⟨s.flt, rfl, fun _ _ => .refl _ _⟩
  | cons p l ih =>
    obtain ⟨i, j⟩ := p
    obtain ⟨f, he, hf⟩ := ih (raiseIf (!s.tim.disagree.contains (i, j))
      { src := 0x1C5, data := [(1, i), (1, j), (4, absDiff (cand s i).offset (cand s j).offset)] } s)
    refine ⟨f, ?_, fun src h => (otherRaises_raiseIf _ _ _ rfl rfl h).trans (hf src h)⟩
    unfold raiseDisagree
    rw [he, raiseIf_eq]

theorem noteDisagree_frame (s : State) : ∃ f,
    noteDisagree s = { s with flt := f, tim := { s.tim with disagree := disagreeing s } } ∧ ∀ src, src ≠ 0x1C5 → OtherRaises src s.flt f := by
  obtain ⟨f, he, hf⟩ := raiseDisagree_frame (disagreeing s) s
  exact ⟨f, congrArg (fun x : State => { x with tim := { x.tim with disagree := disagreeing s } }) he, hf⟩

/-! ## Signals lost and found (R52, R54) -/

theorem setCand_other {n m : Nat} (h : m ≠ n) (c : Cand) (s : State) : tget? (setCand n c s).tim.cands m = tget? s.tim.cands m :=
  tget?_tput_ne _ _ h

theorem cand_setCand (n : Nat) (c : Cand) (s : State) : cand (setCand n c s) n = c := tgetD_tput_same _ _ _ _

/-- A qualified candidate is disqualified with its raise. -/
theorem disqualify_raises {n cause : Nat} {s : State} (h : (cand s n).qualified = true) :
    disqualify n cause s = raise { src := 0x1C2, data := [(1, n), (1, cause)] }
      { setCand n (histSet 2 s.tim.now { cand s n with qualified := false, cause := cause, okSince := none }) s with
        tim := { s.tim with
          cands := tput s.tim.cands n (histSet 2 s.tim.now { cand s n with qualified := false, cause := cause, okSince := none })
          forced := s.tim.forced && s.tim.sel != n } } := by
  unfold disqualify
  exact if_pos h

theorem bit_histSet (b now : Nat) (c : Cand) : bit (histSet b now c).hist b = true := bit_setBit_same _ _

theorem bit_setBit_ne {n i j : Nat} (h : i ≠ j) : bit (setBit n i) j = bit n j := by
  rw [bit_eq_testBit, testBit_setBit, bit_eq_testBit]; simp [h]

/-- The candidate that has lost its signal. -/
def lostCand (s : State) (n : Nat) : Cand := histSet 0 s.tim.now { cand s n with los := true }

theorem opLossOfSignal_lost {s : State} {n : Nat} (hn : n < 17) (he : candEn s n = true) (hl : (cand s n).los = false) :
    opLossOfSignal n s = disqualify n 1 (raise { src := 0x1C0, data := [(1, n)] } (setCand n (lostCand s n) s)) := by
  unfold opLossOfSignal enterLos
  simp only [hn, he, hl, if_true, Bool.not_false, Bool.and_self]
  rfl

theorem lossOfSignal_disqualifies {s : State} {n m : Nat} (hs : Settled s) (hn : n < 17) (hm : m ≠ n) (he : candEn s n = true)
    (hl : (tgetD s.tim.cands n {}).los = false) (hq : (tgetD s.tim.cands n {}).qualified = true) : Completes (.lossOfSignal n) s (fun t =>
      (tgetD t.tim.cands n {}).los = true ∧ (tgetD t.tim.cands n {}).qualified = false ∧ (tgetD t.tim.cands n {}).cause = 1 ∧
        bit (tgetD t.tim.cands n {}).hist 0 = true ∧ bit (tgetD t.tim.cands n {}).hist 2 = true ∧
        (tgetD t.flt.stat 0x1C0 {}).count = min ((tgetD s.flt.stat 0x1C0 {}).count + 1) 255 ∧ Raised 0x1C2 [(1, n), (1, 1)] 0 s t ∧
        tget? t.tim.cands m = tget? s.tim.cands m ∧
        t = { s with tim := { s.tim with cands := t.tim.cands, forced := s.tim.forced && s.tim.sel != n }, flt := t.flt }) := by
  let u := raise { src := 0x1C0, data := [(1, n)] } (setCand n (lostCand s n) s)
  have hu : cand u n = lostCand s n := cand_setCand _ _ _
  have hd := disqualify_raises (s := u) (n := n) (cause := 1) (by rw [hu]; exact hq)
  rw [hu] at hd
  have hlast := raise_raised { src := 0x1C0, data := [(1, n)] } (setCand n (lostCand s n) s) rfl
  refine completes_of rfl ((opLossOfSignal_lost hn he hl).trans hd) ((raise_resetQ _ _ rfl).trans ((raise_resetQ _ _ rfl).trans hs)) ?_
  let c := histSet 2 u.tim.now { lostCand s n with qualified := false, cause := 1, okSince := none }
  have hc : ∀ d, tgetD (tput u.tim.cands n c) n d = c := tgetD_tput_same _ _ _
  refine ⟨congrArg Cand.los (hc {}), congrArg Cand.qualified (hc {}), congrArg Cand.cause (hc {}), ?_, ?_, ?_, ?_, ?_, ?_⟩
  · refine (congrArg (fun x : Cand => bit x.hist 0) (hc {})).trans ((bit_setBit_ne (by decide)).trans (bit_setBit_same _ _))
  · exact (congrArg (fun x : Cand => bit x.hist 2) (hc {})).trans (bit_setBit_same _ _)
  · rw [raise_stat, tgetD_tput_ne _ _ _ (by simp)]; exact hlast.1
  · exact (raise_raised _ _ rfl).after (otherRaises_raise { src := 0x1C0, data := [(1, n)] } (setCand n (lostCand s n) s) rfl rfl (by simp))
  · exact (tget?_tput_ne _ _ hm).trans (tget?_tput_ne _ _ hm)
  · rfl

theorem candEn_off {s : State} {n : Nat} (he : candEn s n = false) : opLossOfSignal n s = s ∧ opLosClear n s = s := by
  unfold opLossOfSignal opLosClear enterLos leaveLos
  simp [he]

theorem losClear_clears {s : State} {n m : Nat} (hs : Settled s) (hn : n < 17) (hm : m ≠ n) (he : candEn s n = true)
    (hf : n ≠ 16 ∨ timeFed s = true) (hl : (tgetD s.tim.cands n {}).los = true) : Completes (.losClear n) s (fun t =>
      (tgetD t.tim.cands n {}).los = false ∧ tget? t.tim.cands m = tget? s.tim.cands m ∧
        t = { s with tim := { s.tim with cands := t.tim.cands } }) := by
  have h1 : (decide (n < 17) && (n != 16 || timeFed s)) = true := by
    rcases hf with h | h
    · simp [hn, h]
    · simp [hn, h]
  have h2 : (candEn s n && (cand s n).los) = true := by rw [he]; exact hl
  refine completes_of rfl ((if_pos h1).trans (if_pos h2)) hs ⟨?_, setCand_other hm _ _, rfl⟩
  exact congrArg Cand.los (cand_setCand n _ s)

/-! ## Measurements (R53, R54) -/

/-- What a measurement judges of a candidate. -/
def judged (c : Cand) : Bool × Int × Nat × Bool := (c.qualified, c.offset, c.cause, c.freqWarn)

theorem judged_tput {cs : Tab Cand} {n : Nat} {c : Cand} (h : judged c = judged (tgetD cs n {})) (k : Nat) :
    judged (tgetD (tput cs n c) k {}) = judged (tgetD cs k {}) := by
  by_cases hk : k = n
  · rw [hk, tgetD_tput_same, h]
  · rw [tgetD_tput_ne _ _ _ hk]

theorem measurePhase_frame (n : Nat) (s : State) : ∃ cs k,
    measurePhase n s = { s with tim := { s.tim with cands := cs }, free := k } ∧
      ∀ i, judged (tgetD cs i {}) = judged (tgetD s.tim.cands i {}) := by
  unfold measurePhase
  dsimp only
  split
  · exact ⟨s.tim.cands, s.free, rfl, fun _ => rfl⟩
  split
  · exact ⟨_, _, rfl, fun i => by refine judged_tput ?_ i; rfl⟩
  split
  · exact ⟨_, _, rfl, fun i => by refine judged_tput ?_ i; rfl⟩
  · exact ⟨s.tim.cands, s.free, rfl, fun _ => rfl⟩

theorem measurePhases_frame (l : List Nat) (s : State) : ∃ cs k,
    l.foldl (fun s n => measurePhase n s) s = { s with tim := { s.tim with cands := cs }, free := k } ∧
      ∀ i, judged (tgetD cs i {}) = judged (tgetD s.tim.cands i {}) := by
  induction l generalizing s with
  | nil => exact ⟨s.tim.cands, s.free, rfl, fun _ => rfl⟩
  | cons n l ih =>
    obtain ⟨cs, k, h1, hj⟩ := measurePhase_frame n s
    obtain ⟨cs', k', h2, hj'⟩ := ih (measurePhase n s)
    rw [h1] at h2 hj'
    exact ⟨cs', k', by rw [List.foldl_cons, h1, h2], fun i => (hj' i).trans (hj i)⟩

/-- The state whose offsets a gate judges. -/
def atGate (s : State) : State :=
  { s with tim := { s.tim with now := max s.tim.now (nextOf 100000000 s.tim.gateAt), gateAt := max s.tim.now (nextOf 100000000 s.tim.gateAt) } }

/-- What a gate does once its offset is judged: phases, disagreement and a sample of the history. -/
theorem opFreqMeasure_frame {n : Nat} (hn : n < 17) (off : Int) (s : State) : ∃ cs d sm f k,
    opFreqMeasure [(n, off)] s =
        { measure n off (atGate s) with
          tim := { (measure n off (atGate s)).tim with cands := cs, disagree := d, samples := sm }, flt := f, free := k } ∧
      (∀ i, judged (tgetD cs i {}) = judged (tgetD (measure n off (atGate s)).tim.cands i {})) ∧
      ∀ src, src ≠ 0x1C5 → OtherRaises src (measure n off (atGate s)).flt f := by
  have hm : opFreqMeasure [(n, off)] s =
      sampleLocked (noteDisagree ([0, 1, 2, 3].foldl (fun s n => measurePhase n s) (measure n off (atGate s)))) := by
    unfold opFreqMeasure
    simp only [measureAll, hn, if_true]
    rfl
  rw [hm]
  obtain ⟨cs, k, h1, hj⟩ := measurePhases_frame [0, 1, 2, 3] (measure n off (atGate s))
  rw [h1]
  generalize measure n off (atGate s) = u at *
  obtain ⟨f, h2, hf⟩ := noteDisagree_frame { u with tim := { u.tim with cands := cs }, free := k }
  rw [h2]
  unfold sampleLocked
  split
  · exact ⟨_, _, _, _, _, rfl, hj, hf⟩
  · exact ⟨_, _, _, _, _, rfl, hj, hf⟩

/-- The candidate as its new offset leaves it, before it is disqualified or warned of. -/
theorem measure_frame {n : Nat} {off : Int} {s : State} (he : candEn s n = true) : ∃ c f,
    c.qualified = (cand s n).qualified ∧ c.offset = off ∧ c.cause = (cand s n).cause ∧ c.freqWarn = decide (acceptLim s n < off.natAbs) ∧
      (∀ src, src ≠ 0x1C1 → OtherRaises src s.flt f) ∧
      measure n off s =
        if ((cand s n).qualified && decide (rateLim < off.natAbs)) = true then disqualify n 3 { setCand n c s with flt := f }
        else if ((cand s n).qualified && decide (rejectLim s n < off.natAbs)) = true then disqualify n 2 { setCand n c s with flt := f }
        else { setCand n c s with flt := f } := by
  unfold measure
  simp only [he, Bool.not_true, Bool.false_eq_true, if_false]
  rw [raiseIf_eq]
  refine ⟨_, _, ?_, ?_, ?_, ?_, fun src h => ?_, rfl⟩
  · split <;> rfl
  · split <;> rfl
  · split <;> rfl
  · split <;> rfl
  · exact otherRaises_raiseIf _ _ _ rfl rfl h

/-- The limits are the registers', which a gate does not touch. -/
theorem freqMeasure_rejects {s : State} {n m : Nat} {off : Int} (hs : Settled s) (hn : n < 17) (hm : m ≠ n) (he : candEn s n = true)
    (hq : (tgetD s.tim.cands n {}).qualified = true) (hr : rejectLim s n < off.natAbs) : Completes (.freqMeasure [(n, off)]) s (fun t =>
      (tgetD t.tim.cands n {}).qualified = false ∧ (tgetD t.tim.cands n {}).offset = off ∧
        (tgetD t.tim.cands n {}).cause = (if rateLim < off.natAbs then 3 else 2) ∧
        RaisedAmong 0x1C2 [(1, n), (1, if rateLim < off.natAbs then 3 else 2)] s t ∧
        (tgetD t.tim.cands m {}).offset = (tgetD s.tim.cands m {}).offset ∧ (tgetD t.tim.cands m {}).qualified = (tgetD s.tim.cands m {}).qualified ∧
        t.tim.now = max s.tim.now (nextOf 100000000 s.tim.gateAt) ∧
        t = { s with tim := { s.tim with now := t.tim.now, gateAt := t.tim.now, cands := t.tim.cands, disagree := t.tim.disagree, samples := t.tim.samples, forced := s.tim.forced && s.tim.sel != n }, flt := t.flt, free := t.free }) := by
  obtain ⟨c, f, hcq, hco, -, -, hf, hmeas⟩ := measure_frame (n := n) (off := off) (s := atGate s) he
  obtain ⟨cs, d, sm, g, k, hx, hj, hg⟩ := opFreqMeasure_frame hn off s
  let u : State := { setCand n c (atGate s) with flt := f }
  have hqc : (cand u n).qualified = true := by
    show (cand (setCand n c (atGate s)) n).qualified = true
    rw [cand_setCand, hcq]; exact hq
  let cause := if rateLim < off.natAbs then 3 else 2
  have hd : measure n off (atGate s) = disqualify n cause u := by
    rw [hmeas]
    have hq' : (cand (atGate s) n).qualified = true := hq
    have hr' : rejectLim (atGate s) n < off.natAbs := hr
    by_cases hl : rateLim < off.natAbs
    · simp only [hq', hl, cause, decide_true, Bool.and_self, if_true]; rfl
    · simp only [hq', hl, hr', cause, decide_true, decide_false, Bool.and_self, Bool.and_false, Bool.false_eq_true, if_true, if_false]; rfl
  rw [disqualify_raises hqc] at hd
  rw [hd] at hx hj hg
  have hraised := (raise_raised { src := 0x1C2, data := [(1, n), (1, cause)] }
    { setCand n (histSet 2 u.tim.now { cand u n with qualified := false, cause := cause, okSince := none }) u with
        tim := { u.tim with
          cands := tput u.tim.cands n (histSet 2 u.tim.now { cand u n with qualified := false, cause := cause, okSince := none })
          forced := u.tim.forced && u.tim.sel != n } } rfl).after (s := s) (hf 0x1C2 (by decide))
  have hun : cand u n = c := cand_setCand n c (atGate s)
  have hcn := (hj n).trans (congrArg judged (tgetD_tput_same _ _ _ _))
  rw [hun] at hcn
  have hcm := (hj m).trans (congrArg judged ((tgetD_tput_ne _ _ _ hm).trans (tgetD_tput_ne _ _ _ hm)))
  refine completes_of rfl hx ?_ ⟨?_, ?_, ?_, ?_, ?_, ?_, rfl, rfl⟩
  · exact (hg 0 (by decide)).1.trans ((raise_resetQ _ _ rfl).trans ((hf 0 (by decide)).1.trans hs))
  · exact congrArg (·.1) hcn
  · exact (congrArg (·.2.1) hcn).trans hco
  · exact congrArg (·.2.2.1) hcn
  · exact hraised.among (hg 0x1C2 (by decide)) rfl
  · exact congrArg (·.2.1) hcm
  · exact congrArg (·.1) hcm

theorem freqMeasure_accepts {s : State} {n m : Nat} {off : Int} (hs : Settled s) (hn : n < 17) (hm : m ≠ n) (he : candEn s n = true)
    (ha : off.natAbs ≤ acceptLim s n) (hr : off.natAbs ≤ rejectLim s n) (hl : off.natAbs ≤ rateLim) : Completes (.freqMeasure [(n, off)]) s (fun t =>
      (tgetD t.tim.cands n {}).qualified = (tgetD s.tim.cands n {}).qualified ∧ (tgetD t.tim.cands n {}).offset = off ∧
        (tgetD t.tim.cands n {}).freqWarn = false ∧
        (tgetD t.tim.cands m {}).offset = (tgetD s.tim.cands m {}).offset ∧ (tgetD t.tim.cands m {}).qualified = (tgetD s.tim.cands m {}).qualified ∧
        t.tim.now = max s.tim.now (nextOf 100000000 s.tim.gateAt) ∧
        t = { s with tim := { s.tim with now := t.tim.now, gateAt := t.tim.now, cands := t.tim.cands, disagree := t.tim.disagree, samples := t.tim.samples }, flt := t.flt, free := t.free }) := by
  obtain ⟨c, f, hcq, hco, -, hcw, hf, hmeas⟩ := measure_frame (n := n) (off := off) (s := atGate s) he
  obtain ⟨cs, d, sm, g, k, hx, hj, hg⟩ := opFreqMeasure_frame hn off s
  have hr' : ¬ rejectLim (atGate s) n < off.natAbs := Nat.not_lt.mpr hr
  simp only [Nat.not_lt.mpr hl, hr', decide_false, Bool.and_false, Bool.false_eq_true, if_false] at hmeas
  rw [hmeas] at hx hj hg
  have hcn := (hj n).trans (congrArg judged (tgetD_tput_same _ _ _ _))
  have hcm := (hj m).trans (congrArg judged (tgetD_tput_ne _ _ _ hm))
  refine completes_of rfl hx ((hg 0 (by decide)).1.trans ((hf 0 (by decide)).1.trans hs)) ⟨?_, ?_, ?_, ?_, ?_, rfl, rfl⟩
  · exact (congrArg (·.1) hcn).trans hcq
  · exact (congrArg (·.2.1) hcn).trans hco
  · exact (congrArg (·.2.2.2) hcn).trans (hcw.trans (decide_eq_false (Nat.not_lt.mpr ha)))
  · exact congrArg (·.2.1) hcm
  · exact congrArg (·.1) hcm

/-! ## Qualification, selection and history (R54 to R58) -/

theorem opCandidateQualified_since {s : State} {n t0 : Nat} (ho : (cand s n).okSince = some t0) : opCandidateQualified n s =
    if candEn s n && !(cand s n).los && !(cand s n).qualified then
      noteDisagree (setCand n { cand s n with qualified := true } (atLeast (t0 + fld s .timSelCfg 0 15 8 * 1000000000) s))
    else s := by
  unfold opCandidateQualified
  simp only [ho]

theorem candidateQualified_qualifies {s : State} {n m t0 : Nat} (hs : Settled s) (hm : m ≠ n) (he : candEn s n = true)
    (hl : (tgetD s.tim.cands n {}).los = false) (hq : (tgetD s.tim.cands n {}).qualified = false) (ho : (tgetD s.tim.cands n {}).okSince = some t0) :
      Completes (.candidateQualified n) s (fun t =>
        tgetD t.tim.cands n {} = { tgetD s.tim.cands n {} with qualified := true } ∧ tget? t.tim.cands m = tget? s.tim.cands m ∧
          t.tim.now = max s.tim.now (t0 + fld s .timSelCfg 0 15 8 * 1000000000) ∧
          t = { s with tim := { s.tim with cands := t.tim.cands, now := t.tim.now, disagree := disagreeing t }, flt := t.flt }) := by
  let u := setCand n { cand s n with qualified := true } (atLeast (t0 + fld s .timSelCfg 0 15 8 * 1000000000) s)
  have hl' : (cand s n).los = false := hl
  have hq' : (cand s n).qualified = false := hq
  have hx : opCandidateQualified n s = noteDisagree u := (opCandidateQualified_since ho).trans (if_pos (by rw [he, hl', hq']; rfl))
  obtain ⟨f, hd, hf⟩ := noteDisagree_frame u
  exact completes_of rfl (hx.trans hd) ((hf 0 (by decide)).1.trans hs) ⟨tgetD_tput_same _ _ _ _, tget?_tput_ne _ _ hm, rfl, rfl⟩

/-- The state in which the selector chooses: the instant of its tick, the rate moved and the disagreement noted. -/
theorem opSelectorTick_frame (s : State) : ∃ f r, (∀ src, src ≠ 0x1C5 → OtherRaises src s.flt f) ∧ ∀ u,
    u = { s with
      tim := { s.tim with
        now := max s.tim.now (nextOf 100000 s.tim.tickAt), tickAt := max s.tim.now (nextOf 100000 s.tim.tickAt), rate := r
        disagree := disagreeing s }
      flt := f } →
    opSelectorTick s = if bit (rd s .timSelCfg 0) 0 then followTime (choose u) else freeRun u := by
  let v := atLeast (nextOf 100000 s.tim.tickAt) s
  let r := movedRate v (v.tim.now - v.tim.tickAt)
  obtain ⟨f, hd, hf⟩ := noteDisagree_frame { v with tim := { v.tim with tickAt := v.tim.now, rate := r } }
  refine ⟨f, r, hf, fun u hu => ?_⟩
  have hx : opSelectorTick s = (fun w : State => if bit (rd w .timSelCfg 0) 0 then followTime (choose w) else freeRun w)
      (noteDisagree { v with tim := { v.tim with tickAt := v.tim.now, rate := r } }) := rfl
  rw [hx, hd, hu]
  rfl

theorem selectorTick_selects {s : State} {n : Nat} (hs : Settled s) (hb : bit (rd s .timSelCfg 0) 0 = true) (hf : s.tim.forced = false)
    (he : eligible s = [n]) (hn : s.tim.sel ≠ n) : Completes .selectorTick s (fun t =>
      t.tim.sel = n ∧ t.tim.buildOut = true ∧ t.tim.mode = (if s.tim.mode = .locked then .locked else .acquire) ∧
        bit (tgetD t.tim.cands n {}).hist 3 = true ∧ Raised 0x1C3 [(1, n), (1, s.tim.sel)] 0 s t ∧ t.tim.now = max s.tim.now (nextOf 100000 s.tim.tickAt) ∧
        t = { s with tim := t.tim, flt := t.flt, free := t.free }) := by
  obtain ⟨f, r, ho, hx⟩ := opSelectorTick_frame s
  replace hx := (hx _ rfl).trans (if_pos hb)
  generalize hu : ({ s with tim := _, flt := f } : State) = u at hx
  have hut : u.flt = f := by rw [← hu]
  have hel : eligible u = [n] := by rw [← hu]; exact he
  have hsel : u.tim.sel = s.tim.sel := by rw [← hu]
  have hnc : ([n].contains u.tim.sel) = false := by simp [hsel, hn]
  have hch : choose u = select n u := by
    unfold choose
    rw [hel]
    have hfu : u.tim.forced = false := by rw [← hu]; exact hf
    simp only [hfu, hnc, Bool.false_and, Bool.false_eq_true, if_false, bestOf]
  let c := histSet 3 u.tim.now (cand u n)
  let v : State := { setCand n c u with
    free := u.free + 1
    tim := { (setCand n c u).tim with
      sel := n, buildOut := true, phaseOff := Config.freeInt u.free
      mode := if bit (rd u .timSelCfg 0) 0 then (if u.tim.mode = .locked then .locked else .acquire) else .freeRun
      holdSince := none, degraded := false } }
  have hne : u.tim.sel ≠ n := by rw [hsel]; exact hn
  have hsl : select n u = raise { src := 0x1C3, data := [(1, n), (1, u.tim.sel)] } v := if_neg hne
  have hft : followTime (select n u) = select n u := by rw [hsl]; exact if_pos rfl
  rw [hch, hft, hsl] at hx
  subst hu
  refine completes_of rfl hx ((raise_resetQ _ _ rfl).trans ((ho 0 (by decide)).1.trans hs)) ⟨rfl, rfl, if_pos hb, ?_, ?_, rfl, rfl⟩
  · exact (congrArg (fun x : Cand => bit x.hist 3) (tgetD_tput_same _ _ _ _)).trans (bit_setBit_same _ _)
  · exact (raise_raised _ _ rfl).after (ho 0x1C3 (by decide))

/-- With nothing selected the counter follows nothing. -/
theorem followTime_unselected {s : State} (h : s.tim.sel = 31) (hb : s.tim.buildOut = false) :
    followTime s = if s.tim.slew = 0 then s else endSlew s := by
  have hn : candTime s 31 = none := by simp [candTime]
  unfold followTime
  simp only [hb, h, hn, Bool.false_eq_true, if_false]

/-- The timing complex as LOCKED is left for HOLDOVER, and the raise that says so. -/
theorem loseAll_locked {s : State} (h : s.tim.mode = .locked) : ∃ m, loseAll s =
      raise { src := 0x1C4, data := [(1, s.tim.sel), (1, holdQuality s)] } { s with tim := m } ∧
    m.sel = 31 ∧ m.mode = .holdover ∧ m.holdSince = some s.tim.now ∧ m.now = s.tim.now ∧ m.buildOut = false := by
  unfold loseAll
  rw [if_pos (Or.inl h)]
  dsimp only
  split
  · exact ⟨_, rfl, rfl, rfl, rfl, rfl, rfl⟩
  · exact ⟨_, rfl, rfl, rfl, rfl, rfl, rfl⟩

theorem selectorTick_loses {s : State} (hs : Settled s) (hb : bit (rd s .timSelCfg 0) 0 = true) (hf : s.tim.forced = false)
    (he : eligible s = []) (hm : s.tim.mode = .locked) : Completes .selectorTick s (fun t =>
      t.tim.sel = 31 ∧ t.tim.mode = .holdover ∧ t.tim.holdSince = some t.tim.now ∧
        t.tim.now = max s.tim.now (nextOf 100000 s.tim.tickAt) ∧
        Raised 0x1C4 [(1, s.tim.sel), (1, holdQuality { s with tim := { s.tim with now := t.tim.now } })] 0 s t ∧
        t = { s with tim := t.tim, flt := t.flt }) := by
  obtain ⟨f, r, ho, hx⟩ := opSelectorTick_frame s
  replace hx := (hx _ rfl).trans (if_pos hb)
  generalize hu : ({ s with tim := _, flt := f } : State) = u at hx
  have hel : eligible u = [] := by rw [← hu]; exact he
  have hfu : u.tim.forced = false := by rw [← hu]; exact hf
  have hmu : u.tim.mode = .locked := by rw [← hu]; exact hm
  have hch : choose u = loseAll u := by
    unfold choose
    simp only [hel, hfu, hmu, Bool.false_and, Bool.false_eq_true, if_false, bestOf, ne_eq, not_true, and_false]
  obtain ⟨m, hl, hsel, hmode, hhold, hnow, hbo⟩ := loseAll_locked hmu
  rw [hch, hl, followTime_unselected hsel hbo] at hx
  have hq : (raise { src := 0x1C4, data := [(1, u.tim.sel), (1, holdQuality u)] } { u with tim := m }).flt.resetQ = [] := by
    subst hu; exact (raise_resetQ _ _ rfl).trans ((ho 0 (by decide)).1.trans hs)
  have hr : Raised 0x1C4 [(1, u.tim.sel), (1, holdQuality u)] 0 u
      (raise { src := 0x1C4, data := [(1, u.tim.sel), (1, holdQuality u)] } { u with tim := m }) :=
    raise_raised { src := 0x1C4, data := [(1, u.tim.sel), (1, holdQuality u)] } { u with tim := m } rfl
  subst hu
  replace hr := hr.after (s := s) (ho 0x1C4 (by decide))
  split at hx
  · refine completes_of rfl hx hq ⟨hsel, hmode, hhold.trans (congrArg some hnow.symm), hnow, ?_, rfl⟩
    rw [show (raise _ { s with tim := m, flt := f }).tim.now = _ from hnow]
    exact hr
  · refine completes_of rfl hx hq ⟨hsel, hmode, hhold.trans (congrArg some hnow.symm), hnow, ?_, rfl⟩
    rw [show (endSlew (raise _ { s with tim := m, flt := f })).tim.now = _ from hnow]
    exact hr

/-- Bits set one after another are set, and the others stand. -/
theorem bit_foldl_setBit (l : List Nat) (n j : Nat) : bit (l.foldl setBit n) j = (bit n j || l.contains j) := by
  induction l generalizing n with
  | nil => simp
  | cons i l ih =>
    rw [List.foldl_cons, ih, List.contains_cons]
    by_cases h : i = j
    · subst h; simp
    · rw [bit_setBit_ne h]
      simp [beq_false_of_ne (Ne.symm h)]

/-- A history bit written with 1 is clear, unless it was set in this cycle. -/
theorem histClear_clears {v now k : Nat} {c : Cand} (hv : bit v k = true) (hh : tget? c.histAt k ≠ some now) :
    bit (histClear v now c).hist k = false := by
  show bit (List.foldl setBit 0 _) k = false
  rw [bit_foldl_setBit, bit_eq_testBit, Nat.zero_testBit]
  simp [hv, hh]

/-- Settles O24: each event by its own lemma above. -/
theorem referencesQualifyAndAreSelected : Obligations.ReferencesQualifyAndAreSelected := by
  unfold Obligations.ReferencesQualifyAndAreSelected
  intro s n m k t0 off v hs hn hm
  refine ⟨fun he hl hq => lossOfSignal_disqualifies hs hn hm he hl hq,
    fun he => ⟨completes_of rfl (candEn_off he).1 hs rfl, completes_of rfl (candEn_off he).2 hs rfl⟩,
    fun hf => completes_of rfl (if_neg (by simp [hf])) hs rfl, fun he hf hl => losClear_clears hs hn hm he hf hl,
    fun he hq hr => freqMeasure_rejects hs hn hm he hq hr, fun he ha hr hl => freqMeasure_accepts hs hn hm he ha hr hl,
    fun he hl hq ho => candidateQualified_qualifies hs hm he hl hq ho, fun ho => completes_of rfl ?_ hs rfl,
    fun hb hf he hn => selectorTick_selects hs hb hf he hn, fun hb hf he hm => selectorTick_loses hs hb hf he hm, fun hb => ?_, ?_,
    fun _ hv hh => completes_of rfl (if_pos hn) hs ⟨?_, tget?_tput_ne _ _ hm, rfl⟩⟩
  · have ho' : (cand s n).okSince = none := ho
    unfold opCandidateQualified; simp only [ho']
  · obtain ⟨f, r, ho, hx⟩ := opSelectorTick_frame s
    exact completes_of rfl ((hx _ rfl).trans (if_neg (by rw [hb]; decide))) ((ho 0 (by decide)).1.trans hs) ⟨rfl, rfl, rfl, rfl⟩
  · by_cases h : s.tim.mode = .acquire
    · exact completes_of rfl (if_pos h) hs ⟨(if_pos h).symm, rfl, rfl⟩
    · exact completes_of rfl (if_neg h) hs ⟨(if_neg h).symm, rfl, rfl⟩
  · exact (congrArg (fun c : Cand => bit c.hist k) (cand_setCand n _ s)).trans (histClear_clears hv hh)

end Sys2Proof.Machine

namespace Sys2Proof.Machine
open Sys2Proof

/-! ## Holdover (R67, R68) -/

theorem opHoldoverCorrection_from {s : State} {t0 : Nat} (h : s.tim.holdSince = some t0) : opHoldoverCorrection s =
    if shortHistory s then
      { s with tim := { s.tim with now := max s.tim.now (t0 + (s.tim.corrections + 1) * 1000000000), corrections := s.tim.corrections + 1 } }
    else
      { s with tim := { s.tim with
          now := max s.tim.now (t0 + (s.tim.corrections + 1) * 1000000000)
          corrections := s.tim.corrections + 1
          freq := holdFreq s.tim.fAvg s.tim.coef (dieSum s - s.tim.dAvg) ((s.tim.ovenCode : Int) - s.tim.kAvg)
            (((max s.tim.now (t0 + (s.tim.corrections + 1) * 1000000000) / 1000000000 : Nat) : Int) - s.tim.tAvg) } } := by
  have hs : shortHistory (atLeast (t0 + (s.tim.corrections + 1) * 1000000000) s) = shortHistory s := by
    unfold shortHistory atLeast; simp only [h, Option.getD_some]
  unfold opHoldoverCorrection
  split
  · next hn => exact absurd (hn.symm.trans h) nofun
  · next t hn =>
    cases hn.symm.trans h
    simp only [hs]
    rfl

theorem opHoldoverDegraded_from {s : State} {t0 : Nat} (h : s.tim.holdSince = some t0) (hd : s.tim.degraded = false) (hq : holdQuality s ≠ 0) :
    opHoldoverDegraded s =
      raise { src := 0x1C9, data := [(4, (max s.tim.now (t0 + fld s .timSelCfg 0 19 16 * 900000000000) - t0) / 1000000000)] }
        { s with tim := { s.tim with now := max s.tim.now (t0 + fld s .timSelCfg 0 19 16 * 900000000000), degraded := true } } := by
  have hq' : (holdQuality s == 0) = false := beq_false_of_ne hq
  unfold opHoldoverDegraded
  split
  · next hn => exact absurd (hn.symm.trans h) nofun
  · next t hn =>
    cases hn.symm.trans h
    exact if_neg (by rw [hd, hq']; decide)

/-! ## The OCXO (R69) -/

/-- A DAC frame: the code, and its instant. -/
def dacSent (code : Nat) (s : State) : State :=
  { s with
    tim := { s.tim with now := max s.tim.now (nextOf 1000000 s.tim.dacAt), dacAt := max s.tim.now (nextOf 1000000 s.tim.dacAt), dac := code }
    wire := s.wire ++ [.spiDac (code * 2 ^ (24 - fld s .timOcxoCfg 0 28 24))] }

theorem opOcxoDacUpdate_sends (code : Nat) (s : State) : opOcxoDacUpdate code s = dacSent
    (if s.tim.mode = .holdover then (if shortHistory (atLeast (nextOf 1000000 s.tim.dacAt) s) then s.tim.dac else holdCode s)
      else code % 2 ^ fld s .timOcxoCfg 0 28 24) s := rfl

theorem opOcxoDacUpdate_tracking {s : State} {code : Nat} (h : s.tim.mode ≠ .holdover) :
    opOcxoDacUpdate code s = dacSent (code % 2 ^ fld s .timOcxoCfg 0 28 24) s := by
  rw [opOcxoDacUpdate_sends, if_neg h]

theorem opOcxoDacUpdate_holdover {s : State} {code t0 : Nat} (h : s.tim.mode = .holdover) (h0 : s.tim.holdSince = some t0) :
    opOcxoDacUpdate code s = dacSent (if shortHistory s then s.tim.dac else holdCode s) s := by
  have hs : shortHistory (atLeast (nextOf 1000000 s.tim.dacAt) s) = shortHistory s := by
    unfold shortHistory atLeast; simp only [h0, Option.getD_some]
  rw [opOcxoDacUpdate_sends, if_pos h, hs]

/-- A frequency a whole number of LSBs above that at entry moves the code by as many. -/
theorem holdCode_whole {s : State} {x : Nat} (hp : bit (rd s .timOcxoCfg 0) 31 = false) (h0 : 0 < fld s .timOcxoCfg 0 15 0)
    (hf : s.tim.freq = s.tim.rateHold + (fld s .timOcxoCfg 0 15 0 : Int) * x) (hx : s.tim.dacHold + x < 2 ^ fld s .timOcxoCfg 0 28 24) :
    holdCode s = s.tim.dacHold + x := by
  unfold holdCode
  generalize fld s .timOcxoCfg 0 15 0 = slope at *
  generalize 2 ^ fld s .timOcxoCfg 0 28 24 = top at *
  have hm : max 1 slope = slope := Nat.max_eq_right h0
  have hd : s.tim.freq - s.tim.rateHold = (slope : Int) * x := by rw [hf]; omega
  have hne : (slope : Int) ≠ 0 := by omega
  simp only [hm, hd, Int.mul_emod_right, Int.mul_ediv_cancel_left _ hne, ne_eq, not_true, false_and, if_false, hp, Bool.false_eq_true]
  omega

/-- What an oven reading finds: the third stuck reading in a row is out of band. -/
theorem opOvenAdcRead_reads (code : Nat) (s : State) : ∃ since stable,
    opOvenAdcRead code s = raiseIf ((if code = 0 ∨ code = 0xFFFF then s.tim.ovenStuck + 1 else 0) == 3) { src := 0x1CA, data := [(2, code)] }
      { s with tim := { s.tim with
        now := max s.tim.now (nextOf 100000000 s.tim.ovenAt), ovenAt := max s.tim.now (nextOf 100000000 s.tim.ovenAt)
        ovenCode := code, ovenStuck := if code = 0 ∨ code = 0xFFFF then s.tim.ovenStuck + 1 else 0
        ovenSince := since, ovenStable := stable } } ∧
    (3 ≤ (if code = 0 ∨ code = 0xFFFF then s.tim.ovenStuck + 1 else 0) → stable = false) := by
  refine ⟨_, _, rfl, fun h => ?_⟩
  have h' : ¬ (if code = 0 ∨ code = 0xFFFF then (atLeast (nextOf 100000000 s.tim.ovenAt) s).tim.ovenStuck + 1 else 0) < 3 := Nat.not_lt.mpr h
  rw [decide_eq_false h', Bool.and_false, Bool.and_false]

theorem ovenAdcRead_reads {s : State} (code : Nat) (hs : Settled s) : Completes (.ovenAdcRead code) s (fun t =>
      t.tim.ovenCode = code ∧ (code ≠ 0 → code ≠ 0xFFFF → t.tim.ovenStuck = 0 ∧ t.flt = s.flt) ∧
        (code = 0 ∨ code = 0xFFFF → t.tim.ovenStuck = s.tim.ovenStuck + 1 ∧
          (s.tim.ovenStuck = 2 → t.tim.ovenStable = false ∧ Raised 0x1CA [(2, code)] 0 s t)) ∧
        t.tim.now = max s.tim.now (nextOf 100000000 s.tim.ovenAt) ∧
        t = { s with tim := { s.tim with now := t.tim.now, ovenAt := t.tim.now, ovenCode := code, ovenStuck := t.tim.ovenStuck, ovenSince := t.tim.ovenSince, ovenStable := t.tim.ovenStable }, flt := t.flt }) := by
  obtain ⟨since, stable, hx, hst⟩ := opOvenAdcRead_reads code s
  by_cases hc : code = 0 ∨ code = 0xFFFF
  · rw [if_pos hc] at hx hst
    rw [raiseIf_eq] at hx
    refine completes_of rfl hx ((raiseIf_resetQ _ _ _ rfl).trans hs)
      ⟨rfl, fun h0 h1 => absurd hc (by omega), fun _ => ⟨rfl, fun h2 => ⟨hst (by omega), ?_⟩⟩, rfl, rfl⟩
    rw [h2]
    exact raise_raised { src := 0x1CA, data := [(2, code)] } _ rfl
  · rw [if_neg hc] at hx
    exact completes_of rfl hx hs ⟨rfl, fun _ _ => ⟨rfl, rfl⟩, fun h => absurd h hc, rfl, rfl⟩

theorem opOvenStable_from {s : State} {t0 : Nat} (h : s.tim.ovenSince = some t0) (hst : s.tim.ovenStable = false) : opOvenStable s =
    raise { src := 0x1C8, data := [(2, s.tim.ovenCode)] }
      { s with tim := { s.tim with now := max s.tim.now (t0 + fld s .timOvenCfg 0 7 0 * 10000000000), ovenStable := true } } := by
  unfold opOvenStable
  split
  · next hn => exact absurd (hn.symm.trans h) nofun
  · next t hn =>
    cases hn.symm.trans h
    exact if_neg (by rw [hst]; decide)

/-- Settles O25: each event by its own lemma above. -/
theorem holdoverOscillatorAndCounterRead : Obligations.HoldoverOscillatorAndCounterRead := by
  unfold Obligations.HoldoverOscillatorAndCounterRead
  intro s t0 code x c1 c2 c3 c4 ov hs
  refine ⟨fun h hh hc => ?_, fun h hh => ?_, fun h hd hq => ?_, fun h => ⟨completes_of rfl ?_ hs rfl, completes_of rfl ?_ hs rfl⟩,
    fun hm hc => ?_, fun hm h0 hh => ?_, fun hm h0 hh hp hsl hf hd => ?_, ovenAdcRead_reads code hs, fun h hst => ?_,
    fun h => completes_of rfl ?_ hs rfl, ?_, ?_⟩
  · refine completes_of rfl ((opHoldoverCorrection_from h).trans (if_neg (by rw [hh]; decide))) hs ⟨rfl, rfl, ?_, rfl⟩
    show holdFreq _ s.tim.coef _ _ _ = _
    rw [hc]; rfl
  · exact completes_of rfl ((opHoldoverCorrection_from h).trans (if_pos hh)) hs rfl
  · exact completes_of rfl (opHoldoverDegraded_from h hd hq) ((raise_resetQ _ _ rfl).trans hs) ⟨rfl, rfl, raise_raised _ _ rfl, rfl⟩
  · unfold opHoldoverCorrection; rw [h]
  · unfold opHoldoverDegraded; rw [h]
  · exact completes_of (u := dacSent code s) rfl ((opOcxoDacUpdate_tracking hm).trans (by rw [Nat.mod_eq_of_lt hc])) hs ⟨rfl, rfl⟩
  · exact completes_of (u := dacSent s.tim.dac s) rfl ((opOcxoDacUpdate_holdover hm h0).trans (by rw [if_pos hh])) hs rfl
  · exact completes_of (u := dacSent (s.tim.dacHold + x) s) rfl ((opOcxoDacUpdate_holdover hm h0).trans (by rw [if_neg (by rw [hh]; decide), holdCode_whole hp hsl hf hd])) hs rfl
  · exact completes_of rfl (opOvenStable_from h hst) ((raise_resetQ _ _ rfl).trans hs) ⟨rfl, rfl, raise_raised _ _ rfl, rfl⟩
  · unfold opOvenStable; rw [h]
  · exact completes_of rfl rfl ((raise_resetQ _ _ rfl).trans hs) ⟨raise_raised _ _ rfl, rfl⟩
  · refine completes_of (u := { s with tim := { s.tim with hiLatch := bits s.tim.now 63 32 }, hif := { s.hif with resp := some (.data (BitVec.ofNat 32 (bits s.tim.now 31 0))) } })
      rfl rfl hs ?_
    have hl : BitVec.ofNat 32 (bits s.tim.now 31 0) = BitVec.ofNat 32 s.tim.now := by
      apply BitVec.eq_of_toNat_eq; simp [bits]
    rw [hl]; rfl

end Sys2Proof.Machine

/-! SUPPORT. How a host command ends, what it journals, and the flow table (R19 to R27, R361). -/
namespace Sys2Proof.Machine
open Sys2Proof

/-! ## How a host command ends -/

/-- A command that completes: what holds of every state that differs from `u` in its completion, and in which the reply stands,
holds of the outcome. -/
theorem completes_ends {i : Instr} {c : Cmd} {op st k e : Nat} {s v u : State} {P : State → Prop} (hx : exec i s = .next (settle v))
    (he : CompletionOnly c u (settle v) ∧ Replied c op st k e (settle v))
    (hp : ∀ h f w, Replied c op st k e { u with hif := h, flt := f, wire := w } → P { u with hif := h, flt := f, wire := w }) :
    Completes i s P := by
  refine ⟨_, hx, ?_⟩
  have hs := he.1.same
  unfold SameBlock at hs
  have hr := he.2
  generalize settle v = t at hs hr
  rw [hs] at hr ⊢
  exact hp _ _ _ hr

/-- A command one of whose checks fails ends as that check says. -/
theorem checked_refused {c : Cmd} {op : Nat} {ch : Bool} {checks : State → List (Bool × Reply)} {act : State → Reply × State} {s : State}
    {r : Reply} (hk : firstErr (checks s) = some r) (hc : Clear s) :
    SameBlock s (settle (hostCmd c op ch (checked checks act) s)) ∧
      Replied c op r.st r.result r.err (settle (hostCmd c op ch (checked checks act) s)) := by
  rw [hostCmd_eq c op ch _ s (Or.inr hc.2.2), checked_bad _ _ _ _ hk, settle_of_nil _ (by rw [complete_resetQ]; exact hc.2.1)]
  exact ⟨complete_same _ _ _ _, complete_replied _ _ _ _ hc.1⟩

/-- A check that passes leaves the answer to the checks after it. -/
theorem firstErr_pass {b : Bool} {r : Reply} {l : List (Bool × Reply)} (h : b = false) : firstErr ((b, r) :: l) = firstErr l := by
  rw [h]; rfl

/-- A check that fails answers. -/
theorem firstErr_fail {b : Bool} {r : Reply} {l : List (Bool × Reply)} (h : b = true) : firstErr ((b, r) :: l) = some r := by
  rw [h]; rfl

/-! ## The journal (R361) -/

/-- The state with its journal's next number and its records to send changed. -/
def journalled (q : Nat) (o : List JRec) (s : State) : State := { s with red := { s.red with jseq := q, jout := o } }

theorem journal_journalled (type : Nat) (data : List Byte) (s : State) : ∃ q o, journal type data s = journalled q o s := by
  unfold journal
  split
  · exact ⟨_, _, rfl⟩
  · exact ⟨s.red.jseq, s.red.jout, rfl⟩

theorem journalFlow_journalled (n : Nat) (s : State) : ∃ q o, journalFlow n s = journalled q o s := journal_journalled _ _ _

theorem journalParts_journalled (n : Nat) (s : State) : ∃ q o, journalParts n s = journalled q o s := by
  unfold journalParts
  have h1 : ∃ q o, (if nsOf n = 2 then journal 0x40 (if hasProc (proc s (ixOf n)) then procData s (ixOf n) else leBytes 2 n) s else s) =
      journalled q o s := by
    split
    · exact journal_journalled _ _ _
    · exact ⟨s.red.jseq, s.red.jout, rfl⟩
  obtain ⟨q, o, h⟩ := h1
  dsimp only
  rw [h]
  split
  · obtain ⟨q', o', h'⟩ := journal_journalled 0x50 (leBytes 1 2 ++ leBytes 2 n ++ (tget? (journalled q o s).aud.cs n).getD []) (journalled q o s)
    exact ⟨q', o', h'.trans rfl⟩
  · exact ⟨q, o, rfl⟩

/-! ## FLOW_DEFINE (R21, R22) -/

theorem tget?_cons_ne {α : Type} {k i : Nat} (v : α) (t : Tab α) (h : k ≠ i) : tget? ((k, v) :: t) i = tget? t i := if_neg h

theorem tget?_tdel_same {α : Type} (t : Tab α) (i : Nat) : tget? (tdel t i) i = none := by
  induction t with
  | nil => rfl
  | cons p t ih =>
    obtain ⟨k, v⟩ := p
    unfold tdel at *
    by_cases h : k = i
    · rw [List.filter_cons_of_neg (by simp [h])]; exact ih
    · rw [List.filter_cons_of_pos (by simp [h]), tget?_cons_ne v _ h]; exact ih

theorem tget?_tdel_ne {α : Type} (t : Tab α) {i j : Nat} (h : j ≠ i) : tget? (tdel t i) j = tget? t j := by
  induction t with
  | nil => rfl
  | cons p t ih =>
    obtain ⟨k, v⟩ := p
    unfold tdel at *
    by_cases hk : k = i
    · rw [List.filter_cons_of_neg (by simp [hk]), tget?_cons_ne v t (by omega)]; exact ih
    · rw [List.filter_cons_of_pos (by simp [hk])]
      by_cases hj : k = j
      · subst hj; simp [tget?]
      · rw [tget?_cons_ne v _ hj, tget?_cons_ne v _ hj]; exact ih

/-- A flow entered in the table, but for its journal. -/
def flowEntered (n : Nat) (f : Flow) (s : State) : State :=
  { s with
    flows := tput s.flows n f
    nmp := { s.nmp with streams :=
      if f.endpoint = 1 && (flowD s n).endpoint == 1 && legMacs f == legMacs (flowD s n) then s.nmp.streams else tdel s.nmp.streams n }
    ika := { s.ika with
      procs := if nsOf n = 2 && !sameForProc f (flowD s n) then tdel s.ika.procs (ixOf n) else s.ika.procs, marks := tdel s.ika.marks n }
    aud := { s.aud with cs := if nsOf n = 1 && f.essence == 1 then tput s.aud.cs n (withCrcc (leBytes 24 1)) else tdel s.aud.cs n }
    swc := { s.swc with store := tdel s.swc.store n } }

theorem defineFlow_enters (n : Nat) (f : Flow) (s : State) : ∃ q o, defineFlow n f s = journalled q o (flowEntered n f s) := by
  obtain ⟨q, o, h⟩ := journalFlow_journalled n (flowEntered n f s)
  obtain ⟨q', o', h'⟩ := journalParts_journalled n (journalFlow n (flowEntered n f s))
  rw [h] at h'
  exact ⟨q', o', (congrArg (journalParts n) h).trans h'⟩

theorem flowDefine_defines {c : Cmd} {s : State} {a n m : Nat} {img l : List Byte} (hc : Clear s) (hm : m ≠ normFlow n) (hh : c.hostOk = true)
    (hk : firstErr (defineChecks (place a img s) a) = none) (hl : l = hostBytes (place a img s) a 64)
    (hn : normFlow (fieldAt l 0 2) = normFlow n) :
      Completes (.flowDefine c a img) s (fun t => Replied c 0x0101 0 0 0 t ∧
        flow? t (normFlow n) = some (parseFlow a l) ∧ (parseFlow a l).st = .defined ∧ (parseFlow a l).depth = 4 ∧
        (parseFlow a l).essence = fieldAt l 2 1 ∧ (parseFlow a l).endpoint = fieldAt l 4 1 ∧ (parseFlow a l).port = fieldAt l 5 1 ∧
        (parseFlow a l).format = fieldAt l 8 2 ∧ (parseFlow a l).locked = bit (fieldAt l 6 1) 7 ∧ (parseFlow a l).domain = bits (fieldAt l 6 1) 2 0 ∧
        tget? t.swc.store (normFlow n) = none ∧ flow? t m = flow? s m ∧
        t.tim.now = (if nsOf (normFlow n) == 2 && classGated s (fieldAt l 5 1) then s.tim.now + 20000 else s.tim.now) ∧
        t = { s with tim := { s.tim with now := t.tim.now }, flows := t.flows, nmp := { s.nmp with streams := t.nmp.streams }, ika := { s.ika with procs := t.ika.procs, marks := t.ika.marks }, aud := { s.aud with cs := t.aud.cs }, swc := { s.swc with store := t.swc.store }, red := { s.red with jseq := t.red.jseq, jout := t.red.jout }, hif := t.hif, flt := t.flt, wire := t.wire }) := by
  obtain ⟨u, hdef⟩ : ∃ u, u = ungate (nsOf (normFlow n) == 2 && classGated (place a img s) (parseFlow a l).port) 20000 (place a img s) := ⟨_, rfl⟩
  obtain ⟨q, o, hd⟩ := defineFlow_enters (normFlow n) (parseFlow a l) u
  have hu : u = { place a img s with
      tim := { s.tim with now := if nsOf (normFlow n) == 2 && classGated s (fieldAt l 5 1) then s.tim.now + 20000 else s.tim.now } } := by
    rw [hdef, ungate_eq]; rfl
  obtain ⟨hf, hq, hb⟩ := clear_place hc a img
  have hfu : u.hif.fences = [] := by rw [hu]; exact hf
  have hqu : u.flt.resetQ = [] := by rw [hu]; exact hq
  have he : EndsDone c 0x0101 0 (journalled q o (flowEntered (normFlow n) (parseFlow a l) u)) (settle (opFlowDefine c a img s)) :=
    checked_done ((firstErr_pass (by rw [hh]; rfl)).trans hk) (by dsimp only; rw [← hl, hn, ← hdef, hd]; rfl) ⟨hf, hq, hb⟩ hfu hqu
  refine completes_ends rfl he fun h f w hr => ⟨hr, ?_, rfl, rfl, rfl, rfl, rfl, rfl, rfl, rfl, ?_, ?_, ?_, ?_⟩
  · exact tget?_tput_same _ _ _
  · exact tget?_tdel_same _ _
  · rw [hu]; exact tget?_tput_ne _ _ hm
  · rw [hu]; rfl
  · rw [hu]; rfl

/-- A flow taken from the table, but for its journal. -/
def flowRemoved (n : Nat) (s : State) : State :=
  { s with
    flows := tdel s.flows n
    nmp := { s.nmp with streams := tdel s.nmp.streams n }
    ika := { s.ika with procs := if nsOf n = 2 then tdel s.ika.procs (ixOf n) else s.ika.procs, marks := tdel s.ika.marks n }
    aud := { s.aud with cs := tdel s.aud.cs n }
    swc := { s.swc with store := tdel s.swc.store n } }

theorem deleteFlow_removes (n : Nat) (s : State) : ∃ q o, deleteFlow n s = journalled q o (flowRemoved n s) := by
  obtain ⟨q, o, h⟩ := journalFlow_journalled n (flowRemoved n s)
  obtain ⟨q', o', h'⟩ := journalParts_journalled n (journalFlow n (flowRemoved n s))
  rw [h] at h'
  exact ⟨q', o', (congrArg (journalParts n) h).trans h'⟩

theorem flowDelete_removes {c : Cmd} {s : State} {n m : Nat} (hc : Clear s) (hm : m ≠ normFlow n) (hn : flowNumOk n = true)
    (hf : (flow? s (normFlow n)).isSome = true) (ha : active (flowD s (normFlow n)) = false) (hmem : memberOf s (normFlow n) = none) :
      Completes (.flowDelete c n) s (fun t => Replied c 0x0104 0 0 0 t ∧ flow? t (normFlow n) = none ∧ flow? t m = flow? s m ∧
        tget? t.nmp.streams (normFlow n) = none ∧ tget? t.swc.store (normFlow n) = none ∧
        (nsOf (normFlow n) = 2 → tget? t.ika.procs (ixOf (normFlow n)) = none) ∧
        t = { s with flows := t.flows, nmp := { s.nmp with streams := t.nmp.streams }, ika := { s.ika with procs := t.ika.procs, marks := t.ika.marks }, aud := { s.aud with cs := t.aud.cs }, swc := { s.swc with store := t.swc.store }, red := { s.red with jseq := t.red.jseq, jout := t.red.jout }, hif := t.hif, flt := t.flt, wire := t.wire }) := by
  obtain ⟨q, o, hd⟩ := deleteFlow_removes (normFlow n) s
  have hk : firstErr [(!flowNumOk n || (flow? s (normFlow n)).isNone, badArg c 24 s),
      (active (flowD s (normFlow n)) || (memberOf s (normFlow n)).isSome, denied)] = none := by
    simp [firstErr, hn, ha, hmem, Option.isSome_iff_ne_none.mp hf]
  refine completes_ends rfl (checked_done (k := 0) (u := journalled q o (flowRemoved (normFlow n) s)) hk (by rw [hd]; rfl) hc hc.1 hc.2.1)
    fun h f w hr => ⟨hr, tget?_tdel_same _ _, tget?_tdel_ne _ hm, tget?_tdel_same _ _, tget?_tdel_same _ _, fun h2 => ?_, rfl⟩
  exact (congrArg (tget? · (ixOf (normFlow n))) (if_pos h2)).trans (tget?_tdel_same _ _)

/-- Settles O26: FLOW_DEFINE by `defineFlow_enters`, FLOW_DELETE by `deleteFlow_removes`, the refusals by their checks. -/
theorem flowsAreDefinedReadAndDeleted : Obligations.FlowsAreDefinedReadAndDeleted := by
  unfold Obligations.FlowsAreDefinedReadAndDeleted
  intro c s a n m img l r hc hm
  have hcp := clear_place hc a img
  refine ⟨fun hh hk hl hn => flowDefine_defines hc hm hh hk hl hn,
    fun hh hk hst => ⟨_, rfl, checked_refused ((firstErr_pass (by rw [hh]; rfl)).trans hk) hcp⟩,
    fun hh => ⟨_, rfl, checked_fails (firstErr_fail (by rw [hh]; rfl)) hcp⟩, fun hn hf hh => ⟨_, rfl, ?_⟩,
    fun hn hf ha hmem => flowDelete_removes hc hm hn hf ha hmem, fun hn hf ha => ⟨_, rfl, ?_⟩, fun hf => ⟨⟨_, rfl, ?_⟩, ⟨_, rfl, ?_⟩⟩⟩
  · obtain ⟨hf', hq', -⟩ := clear_place hc a (flowBytes s (normFlow n) (flowD s (normFlow n)))
    exact checked_done (by simp [firstErr, hn, Option.isSome_iff_ne_none.mp hf]) (readBack_ok hh a _ s) hc hf' hq'
  · refine checked_fails ?_ hc
    have hbad : (active (flowD s (normFlow n)) || (memberOf s (normFlow n)).isSome) = true := by
      rcases ha with ha | ha <;> simp [ha]
    simp [firstErr, hn, Option.isSome_iff_ne_none.mp hf, hbad, denied]
  · exact checked_fails (by simp [firstErr, hf, badArg, badField]) hc
  · exact checked_fails (by simp [firstErr, hf, badArg, badField]) hc

end Sys2Proof.Machine

namespace Sys2Proof.Machine
open Sys2Proof

/-! ## Flows held and stopped (R22, R26) -/

/-- The state `t` is `s` with its flow table `fl`, and otherwise what raises, journal records and completions change. -/
def Reflowed (fl : Tab Flow) (s t : State) : Prop :=
  ∃ q o h f w, t = { s with flows := fl, red := { s.red with jseq := q, jout := o }, hif := h, flt := f, wire := w } ∧
    (s.hif.fences = [] → h.fences = []) ∧ ∀ src, src ≠ 0x001 → src ≠ 0x07C → OtherRaises src s.flt f

theorem Reflowed.trans {fl fl' : Tab Flow} {s t u : State} (h1 : Reflowed fl s t) (h2 : Reflowed fl' t u) : Reflowed fl' s u := by
  obtain ⟨q, o, h, f, w, rfl, hf, hq⟩ := h1
  obtain ⟨q', o', h', f', w', rfl, hf', hq'⟩ := h2
  exact ⟨q', o', h', f', w', rfl, fun e => hf' (hf e), fun src h1 h2 => (hq src h1 h2).trans (hq' src h1 h2)⟩

theorem Reflowed.fences {fl : Tab Flow} {s t : State} (h : Reflowed fl s t) (e : s.hif.fences = []) : t.hif.fences = [] := by
  obtain ⟨q, o, h, f, w, rfl, hf, -⟩ := h; exact hf e

theorem Reflowed.others {fl : Tab Flow} {s t : State} (h : Reflowed fl s t) {src : Nat} (h1 : src ≠ 0x001) (h2 : src ≠ 0x07C) :
    OtherRaises src s.flt t.flt := by
  obtain ⟨q, o, h, f, w, rfl, -, hq⟩ := h; exact hq src h1 h2

theorem Reflowed.resetQ {fl : Tab Flow} {s t : State} (h : Reflowed fl s t) : t.flt.resetQ = s.flt.resetQ :=
  (h.others (src := 0) (by decide) (by decide)).1

theorem Reflowed.flows {fl : Tab Flow} {s t : State} (h : Reflowed fl s t) : t.flows = fl := by
  obtain ⟨q, o, h, f, w, rfl, -, -⟩ := h; rfl

theorem Reflowed.refl (s : State) : Reflowed s.flows s s :=
  ⟨_, _, _, _, _, rfl, id, fun _ _ _ => .refl _ _⟩

/-- A completion's entry raises CPL_WRITE_ERR at most. -/
theorem writeCpl_others (c : Cmd) (op : Nat) (r : Reply) {s : State} {src : Nat} (h : src ≠ 0x001) :
    OtherRaises src s.flt (writeCpl c op r s).flt := by
  unfold writeCpl; dsimp only; split
  · exact .refl _ _
  · split
    · exact otherRaises_raise { src := 0x001, data := [(1, cplOf s c.ring)], addr := _ } (dropLine _ (setCplRing _ _ s)) rfl rfl h
    · generalize cplEntry c op r _ _ _ = l
      rw [signalRing_flt, entry_frame]
      exact .refl _ _

theorem completeOne_others (c : Cmd) (op : Nat) (s : State) {src : Nat} (h : src ≠ 0x001) :
    OtherRaises src s.flt (completeOne c op replyDone s).flt := by
  have hl : logStatus c replyDone s = s := if_pos (Or.inl rfl)
  show OtherRaises src s.flt (writeCpl c op replyDone (logStatus c replyDone s)).flt
  rw [hl]
  exact writeCpl_others c op replyDone h

theorem releaseFences_others (n q : Nat) (s : State) {src : Nat} (h : src ≠ 0x001) : OtherRaises src s.flt (releaseFences n q s).flt := by
  induction n generalizing q s with
  | zero => exact .refl _ _
  | succ n ih =>
    unfold releaseFences
    dsimp only
    split
    · exact .refl _ _
    · next f hf =>
      exact OtherRaises.trans (completeOne_others f.cmd 0x0003
        { s with hif := { s.hif with fences := (s.hif.fences.map (fencePassed q)).erase f } } h) (ih _ _)

/-- A completion with DONE leaves the flows. -/
theorem complete_reflowed (c : Cmd) (op : Nat) (s : State) : Reflowed s.flows s (complete c op replyDone s) := by
  refine ⟨s.red.jseq, s.red.jout, (complete c op replyDone s).hif, (complete c op replyDone s).flt, (complete c op replyDone s).wire,
    complete_same c op replyDone s, fun hf => ?_, fun src h _ => (completeOne_others c op s h).trans (releaseFences_others _ _ _ h)⟩
  rw [(complete_frame c op replyDone s hf (Or.inl rfl)).1]; exact hf

theorem completes_reflowed (l : List Cmd) (op : Nat) (s : State) :
    Reflowed s.flows s (l.foldl (fun s c => complete c op replyDone s) s) := by
  induction l generalizing s with
  | nil => exact .refl s
  | cons c l ih =>
    have h := complete_reflowed c op s
    have h' := h.trans (ih _)
    rw [h.flows] at h'
    exact h'

/-- A flow as its stop leaves it. -/
def stoppedFlow (f : Flow) : Flow := { f with st := .stopped, stop := none, stopMore := [], restore := none }

theorem stopFlow_reflowed (n : Nat) (s : State) :
    Reflowed (tput s.flows n (stoppedFlow (flowD s n))) s (stopFlow n s) := by
  obtain ⟨q, o, hj⟩ := journalFlow_journalled n (setFlow n (stoppedFlow (flowD s n)) s)
  have h1 : Reflowed (tput s.flows n (stoppedFlow (flowD s n))) s (journalFlow n (setFlow n (stoppedFlow (flowD s n)) s)) := by
    rw [hj]; exact ⟨_, _, _, _, _, rfl, id, fun _ _ _ => .refl _ _⟩
  unfold stopFlow
  dsimp only
  split
  · next c t hs =>
    have h2 := h1.trans (completes_reflowed (c :: (flowD s n).stopMore) 0x0103 _)
    rw [h1.flows] at h2
    exact h2
  · exact h1

/-- A flow as its hold leaves it. -/
def heldFlow (fmt : Nat) (f : Flow) : Flow := { f with st := .held, restore := none, detected := detectedCode f fmt }

/-- What a hold does to a RUNNING flow, and to no other. -/
theorem holdFlow_reflowed (n fmt : Nat) (s : State) : ∃ fl, Reflowed fl s (holdFlow n fmt s) ∧
    (∀ k, k ≠ n ∨ (flowD s k).st ≠ .running → tget? fl k = tget? s.flows k) ∧
    ((flowD s n).st = .running → (flowD s n).stop = none → tget? fl n = some (heldFlow fmt (flowD s n))) := by
  by_cases hr : (flowD s n).st = .running
  · let u := raise { src := 0x07C, data := [(2, n), (2, detectedCode (flowD s n) fmt)] } (setFlow n (heldFlow fmt (flowD s n)) s)
    have hu : Reflowed (tput s.flows n (heldFlow fmt (flowD s n))) s u := ⟨_, _, _, _, _, rfl, id, fun _ _ h => otherRaises_raise _ _ rfl rfl h⟩
    have hx : holdFlow n fmt s = if (flowD s n).stop.isSome then stopFlow n u else journalFlow n u := by
      unfold holdFlow
      rw [if_neg (by rw [hr]; decide)]
      rfl
    rw [hx]
    by_cases hs : (flowD s n).stop = none
    · obtain ⟨q, o, hj⟩ := journalFlow_journalled n u
      rw [hs, if_neg (by decide), hj]
      refine ⟨_, hu.trans ⟨_, _, _, _, _, rfl, id, fun _ _ _ => .refl _ _⟩, fun k hk => ?_, fun _ _ => tget?_tput_same _ _ _⟩
      exact tget?_tput_ne _ _ (by rcases hk with hk | hk; exact hk; exact fun h => hk (h ▸ hr))
    · rw [if_pos (Option.isSome_iff_ne_none.mpr hs)]
      refine ⟨_, hu.trans (stopFlow_reflowed n u), fun k hk => ?_, fun _ h => absurd h hs⟩
      have hkn : k ≠ n := by rcases hk with hk | hk; exact hk; exact fun h => hk (h ▸ hr)
      exact (tget?_tput_ne _ _ hkn).trans (tget?_tput_ne _ _ hkn)
  · have hx : holdFlow n fmt s = s := if_pos (bne_iff_ne.mpr hr)
    rw [hx]
    exact ⟨_, .refl s, fun _ _ => rfl, fun h => absurd h hr⟩

/-- Several holds: a flow that is not RUNNING, or not among them, stands; one RUNNING among them, its stop not armed, is held. -/
theorem holdFlows_reflowed (l : List Nat) (fmt : Nat) (s : State) : ∃ fl, Reflowed fl s (holdFlows l fmt s) ∧
    (∀ k, k ∉ l ∨ (flowD s k).st ≠ .running → tget? fl k = tget? s.flows k) ∧
    (∀ k, k ∈ l → (flowD s k).st = .running → (flowD s k).stop = none → tget? fl k = some (heldFlow fmt (flowD s k))) := by
  induction l generalizing s with
  | nil => exact ⟨_, .refl s, fun _ _ => rfl, nofun⟩
  | cons n l ih =>
    obtain ⟨fl, h1, hk1, hn1⟩ := holdFlow_reflowed n fmt s
    obtain ⟨fl', h2, hk2, hn2⟩ := ih (holdFlow n fmt s)
    have hfl : ∀ k, tget? (holdFlow n fmt s).flows k = tget? fl k := fun k => by rw [h1.flows]
    have hD : ∀ k, tget? fl k = tget? s.flows k → flowD (holdFlow n fmt s) k = flowD s k := fun k h => by
      unfold flowD tgetD; rw [hfl, h]
    refine ⟨fl', h1.trans h2, fun k hk => ?_, fun k hk hr hs => ?_⟩
    · have e1 : tget? fl k = tget? s.flows k := hk1 k (hk.imp_left fun h => fun e => h (e ▸ List.mem_cons_self))
      exact (hk2 k (by rw [hD k e1]; exact hk.imp_left fun h => fun e => h (List.mem_cons_of_mem _ e))).trans ((hfl k).trans e1)
    · by_cases hkn : k = n
      · subst hkn
        have e1 := hn1 hr hs
        have hst : (flowD (holdFlow k fmt s) k).st ≠ .running := by
          unfold flowD tgetD; rw [hfl, e1]; nofun
        exact (hk2 k (Or.inr hst)).trans ((hfl k).trans e1)
      · have e1 := hk1 k (Or.inl hkn)
        have := hn2 k ((List.mem_cons.mp hk).resolve_left hkn) (by rw [hD k e1]; exact hr) (by rw [hD k e1]; exact hs)
        rw [hD k e1] at this
        exact this

end Sys2Proof.Machine

namespace Sys2Proof.Machine
open Sys2Proof

/-! ## FLOW_START (R22, R230, R403) -/

/-- What the beginning of a flow's endpoint or function can change. -/
def Begun (s t : State) : Prop :=
  ∃ so pl fd ik st rx k f, t = { s with
    swc := { s.swc with store := so, plats := pl }, aqf := { s.aqf with feed := fd }, ika := ik
    nmp := { s.nmp with streams := st }, svp := { s.svp with rx := rx }, free := k, flt := f } ∧ f.resetQ = s.flt.resetQ

theorem Begun.refl (s : State) : Begun s s := ⟨_, _, _, _, _, _, _, _, rfl, rfl⟩

theorem Begun.trans {s t u : State} (h1 : Begun s t) (h2 : Begun t u) : Begun s u := by
  obtain ⟨_, _, _, _, _, _, _, _, rfl, hq⟩ := h1
  obtain ⟨_, _, _, _, _, _, _, _, rfl, hq'⟩ := h2
  exact ⟨_, _, _, _, _, _, _, _, rfl, hq'.trans hq⟩

theorem Begun.ite {s t : State} (b : Prop) [Decidable b] (h : Begun s t) : Begun s (if b then t else s) := by
  split
  · exact h
  · exact .refl s

theorem startProc_begun (n : Nat) (s : State) : Begun s (startProc n s) := by
  have h (u : State) (hu : Begun s u) : Begun s (if (auditsRun u || u.ika.allSuspended) = true then u
      else raise { src := 0x126, data := [(1, 0xFF)] } { u with ika := { u.ika with allSuspended := true } }) := by
    split
    · exact hu
    · exact hu.trans ⟨_, _, _, _, _, _, _, _, rfl, raise_resetQ _ _ rfl⟩
  exact h _ ⟨_, _, _, _, _, _, _, _, rfl, rfl⟩

theorem startStream_begun (n : Nat) (s : State) : Begun s (startStream n s) := by
  unfold startStream
  dsimp only
  split
  · exact ⟨_, _, _, _, _, _, _, _, rfl, rfl⟩
  · exact ⟨_, _, _, _, _, _, _, _, rfl, rfl⟩

theorem startCount_begun (n : Nat) (s : State) : Begun s (startCount n s) := by
  unfold startCount
  exact Begun.ite _ ⟨_, _, _, _, _, _, _, _, rfl, rfl⟩

/-- A flow as its start leaves it. -/
def startedFlow (f : Flow) (now : Nat) : Flow :=
  { f with st := .running, stop := none, stopMore := [], restore := none, detected := 0xFFFF, runAt := now }

/-- A start enters the flow as RUNNING, begins its endpoint, journals it, and holds what has no leg up. -/
theorem runFlow_begins (n : Nat) (s : State) : ∃ u q o, Begun (setFlow n (startedFlow (flowD s n) s.tim.now) s) u ∧
    runFlow n s = holdLegless (journalled q o u) := by
  let f := flowD s n
  let s1 := setFlow n (startedFlow f s.tim.now) { s with swc := { s.swc with store := tdel s.swc.store n }, ika := { s.ika with marks := tdel s.ika.marks n } }
  let s2 := if nsOf n = 1 then setFeed (ixOf n) [] { s1 with swc := { s1.swc with plats := tdel s1.swc.plats (ixOf n) } } else s1
  let s3 := if nsOf n = 2 then startProc n s2 else s2
  let s4 := if f.endpoint = 1 && (tget? s3.nmp.streams n).isSome then startStream n s3 else s3
  have h1 : Begun (setFlow n (startedFlow f s.tim.now) s) s1 := ⟨_, _, _, _, _, _, _, _, rfl, rfl⟩
  have h2 : Begun s1 s2 := Begun.ite _ ⟨_, _, _, _, _, _, _, _, rfl, rfl⟩
  have h3 : Begun s2 s3 := Begun.ite _ (startProc_begun _ _)
  have h4 : Begun s3 s4 := Begun.ite _ (startStream_begun _ _)
  obtain ⟨q, o, hj⟩ := journalFlow_journalled n (startCount n s4)
  exact ⟨startCount n s4, q, o, (((h1.trans h2).trans h3).trans h4).trans (startCount_begun _ _), congrArg holdLegless hj⟩

theorem mem_tput {α : Type} (t : Tab α) (i : Nat) (v : α) : (i, v) ∈ tput t i v := by
  induction t with
  | nil => exact List.mem_singleton_self _
  | cons p t ih =>
    obtain ⟨k, w⟩ := p
    unfold tput
    split
    · exact List.mem_cons_self
    · split
      · exact List.mem_cons_self
      · exact List.mem_cons_of_mem _ ih

theorem of_mem_tput {α : Type} {t : Tab α} {i : Nat} {v : α} {p : Nat × α} (h : p ∈ tput t i v) : p = (i, v) ∨ p ∈ t := by
  induction t with
  | nil => exact Or.inl (List.mem_singleton.mp h)
  | cons q t ih =>
    obtain ⟨k, w⟩ := q
    unfold tput at h
    split at h
    · exact (List.mem_cons.mp h)
    · split at h
      · exact (List.mem_cons.mp h).imp id (List.mem_cons_of_mem _)
      · rcases List.mem_cons.mp h with h | h
        · exact Or.inr (h ▸ List.mem_cons_self)
        · exact (ih h).imp id (List.mem_cons_of_mem _)

theorem mem_tkeys {α : Type} {t : Tab α} {f : Nat → α → Bool} {k : Nat} : k ∈ tkeys t f ↔ ∃ v, (k, v) ∈ t ∧ f k v = true := by
  simp [tkeys, List.mem_map, List.mem_filter]

/-- A flow is held for want of a leg that is up. -/
def legless (s : State) (n : Nat) (f : Flow) : Bool :=
  nsOf n == 0 && f.st == .running && f.endpoint == 1 && (legMacs f).all (fun m => !macUp s m)

/-- The legs of the flow started, where no other entry of its number is RUNNING. -/
theorem started_held_iff {s u : State} {n : Nat} (h : Begun (setFlow n (startedFlow (flowD s n) s.tim.now) s) u)
    (hr : ∀ p ∈ s.flows, p.1 = n → p.2.st ≠ .running) :
    n ∈ tkeys u.flows (fun k f => legless u k f) ↔
      (nsOf n = 0 ∧ (flowD s n).endpoint = 1 ∧ (legMacs (flowD s n)).all (fun k => !macUp s k) = true) := by
  obtain ⟨_, _, _, _, _, _, _, _, rfl, -⟩ := h
  have hF : legless s n (startedFlow (flowD s n) s.tim.now) = true ↔
      (nsOf n = 0 ∧ (flowD s n).endpoint = 1 ∧ (legMacs (flowD s n)).all (fun k => !macUp s k) = true) := by
    show (nsOf n == 0 && true && (flowD s n).endpoint == 1 && (legMacs (flowD s n)).all (fun m => !macUp s m)) = true ↔ _
    simp only [Bool.and_true, Bool.and_eq_true, beq_iff_eq, and_assoc]
  rw [mem_tkeys, ← hF]
  constructor
  · rintro ⟨v, hv, hl⟩
    rcases of_mem_tput hv with e | hm
    · cases e; exact hl
    · have hst : v.st = .running := by
        have : (nsOf n == 0 && v.st == .running && v.endpoint == 1 && _) = true := hl
        simp only [Bool.and_eq_true, beq_iff_eq] at this
        exact this.1.1.2
      exact absurd hst (hr _ hm rfl)
  · intro hl
    exact ⟨_, mem_tput _ _ _, hl⟩

end Sys2Proof.Machine

namespace Sys2Proof.Machine
open Sys2Proof

/-- Whether the HBM stacks are gated depends on neither the counter nor what a completion changes. -/
theorem hbmGated_congr (u : State) (x : Tim) (h : Hif) (f : Flt) (w : List Wire) :
    hbmGated { u with tim := x, hif := h, flt := f, wire := w } = hbmGated u := rfl

/-- The flow table, and the rest, as a start leaves them. -/
theorem runFlow_result {s : State} {n m : Nat} (hfen : s.hif.fences = []) (hm : m ≠ n) (hr : ∀ p ∈ s.flows, p.1 = n → p.2.st ≠ .running) :
    ∃ fl u, runFlow n s = u ∧ u.hif.fences = [] ∧ u.flt.resetQ = s.flt.resetQ ∧
      u = { s with
        flows := fl, swc := { s.swc with store := u.swc.store, plats := u.swc.plats }, aqf := { s.aqf with feed := u.aqf.feed }, ika := u.ika
        nmp := { s.nmp with streams := u.nmp.streams }, svp := { s.svp with rx := u.svp.rx }, free := u.free
        red := { s.red with jseq := u.red.jseq, jout := u.red.jout }, hif := u.hif, flt := u.flt, wire := u.wire } ∧
      tgetD fl n {} = (if nsOf n = 0 ∧ (flowD s n).endpoint = 1 ∧ (legMacs (flowD s n)).all (fun k => !macUp s k) = true then
        heldFlow 0xFFFF (startedFlow (flowD s n) s.tim.now) else startedFlow (flowD s n) s.tim.now) ∧
      ((flowD s m).st ≠ .running → tget? fl m = tget? s.flows m) := by
  obtain ⟨u, q, o, hb, hx⟩ := runFlow_begins n s
  have hiff := started_held_iff hb hr
  obtain ⟨so, pl, fd, ik, st, rx, k, f, hu, hq⟩ := hb
  have hfu : (journalled q o u).hif.fences = [] := by rw [hu]; exact hfen
  obtain ⟨fl, hre, hkeep, hheld⟩ := holdFlows_reflowed (tkeys (journalled q o u).flows (fun k f => legless (journalled q o u) k f)) 0xFFFF (journalled q o u)
  have hl : holdLegless (journalled q o u) =
      holdFlows (tkeys (journalled q o u).flows (fun k f => legless (journalled q o u) k f)) 0xFFFF (journalled q o u) := rfl
  rw [← hl, ← hx] at hre
  have hfence := hre.fences hfu
  have hres := hre.resetQ
  have huf : ∀ j, tget? (journalled q o u).flows j = tget? (tput s.flows n (startedFlow (flowD s n) s.tim.now)) j := fun j => by rw [hu]; rfl
  have hn : flowD (journalled q o u) n = startedFlow (flowD s n) s.tim.now := by
    unfold flowD tgetD; rw [huf, tget?_tput_same]; rfl
  refine ⟨fl, runFlow n s, rfl, hfence, hres.trans ?_, ?_, ?_, fun hm' => ?_⟩
  · rw [hu]; exact hq
  · obtain ⟨q', o', h', f', w', hv, -, -⟩ := hre
    rw [hv, hu]
    rfl
  · split
    · next hc =>
      unfold tgetD
      rw [hheld n (hiff.mpr hc) (by rw [hn]; rfl) (by rw [hn]; rfl), hn]; rfl
    · next hc =>
      unfold tgetD
      rw [hkeep n (Or.inl fun h => hc (hiff.mp h)), huf, tget?_tput_same]; rfl
  · have hum : tget? (journalled q o u).flows m = tget? s.flows m := (huf m).trans (tget?_tput_ne _ _ hm)
    refine (hkeep m (Or.inr ?_)).trans hum
    unfold flowD tgetD
    rw [hum]
    exact hm'

theorem flowStart_runs {c : Cmd} {s : State} {n m : Nat} {f : Flow} (hc : Clear s) (hm : m ≠ normFlow n) (hf : f = flowD s (normFlow n))
    (hn : flowNumOk n = true) (hk : firstErr (startChecks c (normFlow n) s ++ startBudgets (normFlow n) s) = none)
    (hr : ∀ p ∈ s.flows, p.1 = normFlow n → p.2.st ≠ .running) :
      Completes (.flowStart c n) s (fun t => Replied c 0x0102 0 0 0 t ∧
        (flowD t (normFlow n)).st = (if nsOf (normFlow n) = 0 ∧ f.endpoint = 1 ∧ (legMacs f).all (fun k => !macUp s k) = true then .held else .running) ∧
        (flowD t (normFlow n)).stop = none ∧ (flowD t (normFlow n)).format = f.format ∧ (flowD t (normFlow n)).depth = f.depth ∧
        ((flowD s m).st ≠ .running → flow? t m = flow? s m) ∧
        t.tim.now = (if hbmGated s && !hbmGated t then s.tim.now + 1000000 else s.tim.now) ∧
        t = { s with tim := { s.tim with now := t.tim.now }, flows := t.flows, swc := { s.swc with store := t.swc.store, plats := t.swc.plats }, aqf := { s.aqf with feed := t.aqf.feed }, ika := t.ika, nmp := { s.nmp with streams := t.nmp.streams }, svp := { s.svp with rx := t.svp.rx }, free := t.free, red := { s.red with jseq := t.red.jseq, jout := t.red.jout }, hif := t.hif, flt := t.flt, wire := t.wire }) := by
  obtain ⟨fl, u, hx, hfence, hres, hu, hfl, hkeep⟩ := runFlow_result hc.1 hm hr
  let v : State := { u with tim := { u.tim with now := if hbmGated s && !hbmGated u then u.tim.now + 1000000 else u.tim.now } }
  have hv : ungateHbm s (runFlow (normFlow n) s) = v := by
    rw [hx]; exact ungate_eq _ _ _
  have hfl' : flowD u (normFlow n) = _ := (congrArg (fun x : State => tgetD x.flows (normFlow n) {}) hu).trans hfl
  have hut : u.tim = s.tim := by rw [hu]
  refine completes_ends rfl (checked_done (k := 0) (u := v) ((firstErr_pass (by rw [hn]; rfl)).trans hk) (by rw [hv]; rfl) hc hfence (hres.trans hc.2.1))
    fun h g w hrep => ⟨hrep, ?_, ?_, ?_, ?_, fun hm' => ?_, ?_, ?_⟩
  · refine (congrArg (·.st) hfl').trans ?_
    rw [hf]; split <;> rfl
  · refine (congrArg (·.stop) hfl').trans ?_
    split <;> rfl
  · refine (congrArg (·.format) hfl').trans ?_
    rw [hf]; split <;> rfl
  · refine (congrArg (·.depth) hfl').trans ?_
    rw [hf]; split <;> rfl
  · exact (congrArg (fun x : State => tget? x.flows m) hu).trans (hkeep hm')
  · show v.tim.now = if hbmGated s && !hbmGated u then s.tim.now + 1000000 else s.tim.now
    rw [← hut]
  · exact congrArg (fun x : State => ({ x with tim := { x.tim with now := v.tim.now }, flows := u.flows, hif := h, flt := g, wire := w } : State)) hu

/-! ## FLOW_STOP (R22) -/

theorem complete_ends (c : Cmd) (op : Nat) {s : State} (hf : s.hif.fences = []) (hq : s.flt.resetQ = []) :
    CompletionOnly c s (settle (complete c op replyDone s)) ∧ Replied c op 0 0 0 (settle (complete c op replyDone s)) := by
  rw [settle_of_nil _ (by rw [complete_resetQ]; exact hq)]
  exact ⟨complete_frame c op replyDone s hf (Or.inl rfl), complete_replied c op replyDone s hf⟩

theorem opFlowStop_taken {c : Cmd} {s : State} {n : Nat} (hb : barred s = false)
    (hk : firstErr ((!flowNumOk n, badArg c 24 s) :: stopChecks c (normFlow n) s) = none) : opFlowStop c n s =
      if ((flowD s (normFlow n)).st == .running && (flowD s (normFlow n)).essence == 0) = true then armStop c (normFlow n) s
      else complete c 0x0103 replyDone (stopNow (normFlow n) s) := by
  unfold opFlowStop
  simp only [hb, hk, Bool.false_eq_true, if_false]

theorem opFlowStop_refused {c : Cmd} {s : State} {n : Nat} {r : Reply} (hb : barred s = false)
    (hk : firstErr ((!flowNumOk n, badArg c 24 s) :: stopChecks c (normFlow n) s) = some r) : opFlowStop c n s = complete c 0x0103 r s := by
  unfold opFlowStop
  simp only [hb, hk, Bool.false_eq_true, if_false]

theorem flowStop_fails {c : Cmd} {s : State} {n st err : Nat} (hc : Clear s)
    (hk : firstErr ((!flowNumOk n, badArg c 24 s) :: stopChecks c (normFlow n) s) = some { st := st, err := err }) :
    Completes (.flowStop c n) s (Fails c 0x0103 st err s) := by
  refine ⟨settle (opFlowStop c n s), rfl, ?_⟩
  rw [opFlowStop_refused hc.2.2 hk, settle_of_nil _ (by rw [complete_resetQ]; exact hc.2.1)]
  exact ⟨complete_same _ _ _ _, complete_replied _ _ _ _ hc.1⟩

theorem flowStop_stops {c : Cmd} {s : State} {n m : Nat} {f : Flow} (hc : Clear s) (hm : m ≠ normFlow n) (hf : f = flowD s (normFlow n))
    (hn : flowNumOk n = true) (hk : firstErr (stopChecks c (normFlow n) s) = none) (hstop : f.stop = none) :
      Completes (.flowStop c n) s (fun t =>
        (f.st = .running → f.essence = 0 → flowD t (normFlow n) = { f with stop := some (c, stopAt s (normFlow n) f) } ∧
          (cmdRing t c.ring).busy = true ∧ t = { s with flows := t.flows, hif := { s.hif with cmd := t.hif.cmd } }) ∧
        (f.st ≠ .running ∨ f.essence ≠ 0 → (flowD t (normFlow n)).st = .stopped ∧ Replied c 0x0103 0 0 0 t ∧
          t = { s with flows := t.flows, aqf := { s.aqf with feed := t.aqf.feed }, red := { s.red with jseq := t.red.jseq, jout := t.red.jout }, hif := t.hif, flt := t.flt, wire := t.wire }) ∧
        flow? t m = flow? s m) := by
  subst hf
  obtain ⟨hfen, hq, hb⟩ := hc
  have hx := opFlowStop_taken hb ((firstErr_pass (by rw [hn]; rfl)).trans hk)
  by_cases hv : (flowD s (normFlow n)).st = .running ∧ (flowD s (normFlow n)).essence = 0
  · have harm : armStop c (normFlow n) s =
        holdRing c (setFlow (normFlow n) { flowD s (normFlow n) with stop := some (c, stopAt s (normFlow n) (flowD s (normFlow n))) } s) :=
      congrArg (fun x => holdRing c (setFlow (normFlow n) x s)) (if_neg (by rw [hstop]; decide))
    rw [if_pos (by simp [hv]), harm] at hx
    refine completes_of rfl hx hq ⟨fun _ _ => ⟨?_, ?_, rfl⟩, fun h => absurd hv (by tauto), tget?_tput_ne _ _ hm⟩
    · exact tgetD_tput_same _ _ _ _
    · exact congrArg CmdRing.busy (tgetD_tput_same _ _ _ _)
  · rw [if_neg (by simpa using hv)] at hx
    obtain ⟨fd, h1⟩ : ∃ fd, (if nsOf (normFlow n) = 1 && (flowD s (normFlow n)).endpoint == 2 then setFeed (ixOf (normFlow n)) [] s else s) =
        { s with aqf := { s.aqf with feed := fd } } := by
      split
      · exact ⟨_, rfl⟩
      · exact ⟨s.aqf.feed, rfl⟩
    have hs := stopFlow_reflowed (normFlow n) { s with aqf := { s.aqf with feed := fd } }
    have hnow : stopNow (normFlow n) s = stopFlow (normFlow n) { s with aqf := { s.aqf with feed := fd } } := congrArg (stopFlow (normFlow n)) h1
    rw [← hnow] at hs
    have he := complete_ends c 0x0103 (hs.fences hfen) (hs.resetQ.trans hq)
    rw [← hx] at he
    obtain ⟨q, o, h, g, w, hu, -, -⟩ := hs
    refine completes_ends rfl he fun h' g' w' hr => ?_
    rw [hu] at hr ⊢
    refine ⟨fun hr he => absurd ⟨hr, he⟩ hv, fun _ => ⟨congrArg Flow.st (tgetD_tput_same _ _ _ _), hr, rfl⟩, tget?_tput_ne _ _ hm⟩

/-- A flow whose stop was armed once reaches its end: it stops, and the command that armed it completes. -/
theorem stopFlow_completes {i : Instr} {d : Cmd} {s : State} {n m t0 now : Nat} (hc : Clear s) (hm : m ≠ n)
    (hs : (flowD s n).stop = some (d, t0)) (hmore : (flowD s n).stopMore = [])
    (hx : exec i s = .next (settle (stopFlow n { s with tim := { s.tim with now := now } }))) :
    Completes i s (fun t => (flowD t n).st = .stopped ∧ (flowD t n).stop = none ∧ Replied d 0x0103 0 0 0 t ∧ flow? t m = flow? s m ∧
        t.tim.now = now ∧
        t = { s with flows := t.flows, tim := { s.tim with now := t.tim.now }, red := { s.red with jseq := t.red.jseq, jout := t.red.jout }, hif := t.hif, flt := t.flt, wire := t.wire }) := by
  let v : State := { s with tim := { s.tim with now := now } }
  have hstop : stopFlow n v = complete d 0x0103 replyDone (journalFlow n (setFlow n (stoppedFlow (flowD s n)) v)) := by
    unfold stopFlow
    dsimp only
    rw [show (flowD v n).stop = some (d, t0) from hs, show (flowD v n).stopMore = [] from hmore]
    rfl
  obtain ⟨q, o, hj⟩ := journalFlow_journalled n (setFlow n (stoppedFlow (flowD s n)) v)
  rw [hj] at hstop
  have he := complete_ends d 0x0103 (s := journalled q o (setFlow n (stoppedFlow (flowD s n)) v)) hc.1 hc.2.1
  rw [← hstop] at he
  exact completes_ends hx he fun h f w hr =>
    ⟨congrArg Flow.st (tgetD_tput_same _ _ _ _), congrArg Flow.stop (tgetD_tput_same _ _ _ _), hr, tget?_tput_ne _ _ hm, rfl, rfl⟩

theorem opFlowStopped_armed {s : State} {n t0 : Nat} {d : Cmd} (hs : (flowD s (normFlow n)).stop = some (d, t0))
    (hr : (flowD s (normFlow n)).st = .running) : opFlowStopped n s =
      stopFlow (normFlow n) { s with tim := { s.tim with now := if nsOf (normFlow n) = 0 then s.tim.now else max s.tim.now t0 } } := by
  have hrun : running s (normFlow n) = true := beq_iff_eq.mpr hr
  unfold opFlowStopped
  simp only [hs, hrun, if_true]
  split <;> rfl

theorem opFlowStopTimeout_armed {s : State} {n t0 : Nat} {d : Cmd} (hs : (flowD s (normFlow n)).stop = some (d, t0))
    (hr : (flowD s (normFlow n)).st = .running) (hn : nsOf (normFlow n) = 0) : opFlowStopTimeout n s =
      stopFlow (normFlow n) { s with tim := { s.tim with now := max s.tim.now t0 } } := by
  have hrun : running s (normFlow n) = true := beq_iff_eq.mpr hr
  have hns : (nsOf (normFlow n) == 0) = true := beq_iff_eq.mpr hn
  unfold opFlowStopTimeout
  simp only [hs, hrun, hns, Bool.and_self, if_true]
  rfl

/-- Settles O27: FLOW_START by `runFlow_result`, FLOW_STOP by `stopFlow_reflowed`, the armed stops by `stopFlow_completes`. -/
theorem flowsRunAndStop : Obligations.FlowsRunAndStop := by
  unfold Obligations.FlowsRunAndStop
  intro c d s n m t0 f r hc hm hf
  obtain ⟨hfen, hq, hb⟩ := hc
  refine ⟨fun hn hk hr => flowStart_runs ⟨hfen, hq, hb⟩ hm hf hn hk hr,
    fun hn hk _ => ⟨_, rfl, checked_refused ((firstErr_pass (by rw [hn]; rfl)).trans hk) ⟨hfen, hq, hb⟩⟩,
    fun hn hfl ha => ?_, fun hn hfl ha hnamed => ?_, fun hfl => ⟨?_, fun hn => ⟨_, rfl, checked_fails ?_ ⟨hfen, hq, hb⟩⟩⟩,
    fun hn hk hs => flowStop_stops ⟨hfen, hq, hb⟩ hm hf hn hk hs, fun hs hmore hr => ?_, fun hs hmore hr hns => ?_, fun hs => ?_⟩
  · have hfl' : flowD s (normFlow n) = f := hf.symm
    have hk : firstErr ((!flowNumOk n, badArg c 24 s) :: stopChecks c (normFlow n) s) = some replyDone := by
      simp [firstErr, stopChecks, hn, hfl, hfl', ha]
    have he := complete_ends c 0x0103 hfen hq
    rw [← opFlowStop_refused hb hk] at he
    exact ⟨_, rfl, he⟩
  · have hfl' : flowD s (normFlow n) = f := hf.symm
    have hden : (!(selecting s (normFlow n)).isEmpty || feedsMatrix s (normFlow n) || flowNamed s (normFlow n) ||
        portStillUsed s (normFlow n) f) = true := by
      rcases hnamed with h | h | h <;> simp [h]
    refine flowStop_fails ⟨hfen, hq, hb⟩ ?_
    unfold stopChecks
    dsimp only
    rw [hfl', firstErr_pass (by rw [hn]; rfl), firstErr_pass (by rw [hfl]; rfl), firstErr_pass (by rw [ha]; rfl), firstErr_fail hden]
    rfl
  · exact flowStop_fails ⟨hfen, hq, hb⟩ (by simp [firstErr, stopChecks, hfl, badArg, badField])
  · simp [firstErr, startChecks, hn, hfl, badArg, badField]
  · subst hf
    exact stopFlow_completes ⟨hfen, hq, hb⟩ hm hs hmore (congrArg (fun u => Host.Outcome.next (settle u)) (opFlowStopped_armed hs hr))
  · subst hf
    exact stopFlow_completes ⟨hfen, hq, hb⟩ hm hs hmore (congrArg (fun u => Host.Outcome.next (settle u)) (opFlowStopTimeout_armed hs hr hns))
  · subst hf
    refine ⟨completes_of rfl ?_ hq rfl, completes_of rfl ?_ hq rfl⟩
    · unfold opFlowStopped; simp only [hs]
    · unfold opFlowStopTimeout; simp only [hs]

end Sys2Proof.Machine

namespace Sys2Proof.Machine
open Sys2Proof

/-! ## Consists (R28 to R32) -/

theorem journalConsist_journalled (k : Nat) (s : State) : ∃ q o, journalConsist k s = journalled q o s := journal_journalled _ _ _

theorem consistDefine_defines {c : Cmd} {s : State} {a k j : Nat} {img l : List Byte} (hc : Clear s) (hj : j ≠ k) (hh : c.hostOk = true)
    (hk : firstErr (consistChecks (place a img s) a) = none) (hl : l = hostBytes (place a img s) a 72) (hn : fieldAt l 0 2 = k) :
      Completes (.consistDefine c a img) s (fun t => Replied c 0x0110 0 0 0 t ∧
        consist? t k = some { kind := fieldAt l 2 1, division := fieldAt l 4 1, members := (parseConsist l).members } ∧
        (parseConsist l).members.length = fieldAt l 3 1 ∧ consist? t j = consist? s j ∧
        t = { s with consists := t.consists, red := { s.red with jseq := t.red.jseq, jout := t.red.jout }, hif := t.hif, flt := t.flt, wire := t.wire }) := by
  obtain ⟨q, o, hd⟩ := journalConsist_journalled k { place a img s with consists := tput s.consists k (parseConsist l) }
  obtain ⟨hf, hq, hb⟩ := clear_place hc a img
  have he : EndsDone c 0x0110 0 (journalled q o { place a img s with consists := tput s.consists k (parseConsist l) })
      (settle (opConsistDefine c a img s)) :=
    checked_done ((firstErr_pass (by rw [hh]; rfl)).trans hk) (by dsimp only; rw [← hl, hn]; exact congrArg (Prod.mk _) hd) ⟨hf, hq, hb⟩ hf hq
  refine completes_ends rfl he fun h f w hr => ⟨hr, tget?_tput_same _ _ _, ?_, tget?_tput_ne _ _ hj, rfl⟩
  exact (List.length_map _).trans List.length_range

/-- Settles O28: the descriptor enters or leaves the table, the refusals by their checks. -/
theorem consistsAreDefinedReadAndDeleted : Obligations.ConsistsAreDefinedReadAndDeleted := by
  unfold Obligations.ConsistsAreDefinedReadAndDeleted
  intro c s a k j img l r hc hj
  refine ⟨fun hh hk hl hn => consistDefine_defines hc hj hh hk hl hn,
    fun hh hk _ => ⟨_, rfl, checked_refused ((firstErr_pass (by rw [hh]; rfl)).trans hk) (clear_place hc a img)⟩,
    fun hk hn => ?_, fun hk hn => ⟨_, rfl, checked_fails ?_ hc⟩, fun hk => ⟨⟨_, rfl, checked_fails ?_ hc⟩, ⟨_, rfl, checked_fails ?_ hc⟩⟩,
    fun hk hh => ⟨_, rfl, ?_⟩⟩
  · obtain ⟨q, o, hd⟩ := journalConsist_journalled k { s with consists := tdel s.consists k }
    have hck : firstErr [((consist? s k).isNone, badArg c 24 s), (consistNamed s k, denied)] = none := by
      simp [firstErr, hn, Option.isSome_iff_ne_none.mp hk]
    exact completes_ends rfl (checked_done (k := 0) hck (congrArg (Prod.mk _) hd) hc hc.1 hc.2.1)
      fun h f w hr => ⟨hr, tget?_tdel_same _ _, tget?_tdel_ne _ hj, rfl⟩
  · simp [firstErr, hn, Option.isSome_iff_ne_none.mp hk, denied]
  · simp [firstErr, hk, badArg, badField]
  · simp [firstErr, hk, badArg, badField]
  · obtain ⟨hf', hq', -⟩ := clear_place hc a (consistBytes k ((consist? s k).getD {}))
    exact checked_done (by simp [firstErr, Option.isSome_iff_ne_none.mp hk]) (readBack_ok hh a _ s) hc hf' hq'

end Sys2Proof.Machine

/-! SUPPORT. The serial video ports (R154 to R177): descriptors, and the receiver's hunt, lock and loss. -/
namespace Sys2Proof.Machine
open Sys2Proof

/-! ## Candidates that lose a receiver's signal (R52, R168) -/

/-- The state `t` is `s` with candidates in LOS and what that raises. -/
def Losing (s t : State) : Prop :=
  ∃ cs fo f, t = { s with tim := { s.tim with cands := cs, forced := fo }, flt := f } ∧
    ∀ src, src ≠ 0x1C0 → src ≠ 0x1C2 → OtherRaises src s.flt f

theorem Losing.refl (s : State) : Losing s s := ⟨s.tim.cands, s.tim.forced, s.flt, rfl, fun _ _ _ => .refl _ _⟩

theorem Losing.trans {s t u : State} (h1 : Losing s t) (h2 : Losing t u) : Losing s u := by
  obtain ⟨_, _, _, rfl, hq⟩ := h1
  obtain ⟨cs, fo, f, rfl, hq'⟩ := h2
  exact ⟨cs, fo, f, rfl, fun src h1 h2 => (hq src h1 h2).trans (hq' src h1 h2)⟩

theorem disqualify_losing (n cause : Nat) (s : State) : Losing s (disqualify n cause s) := by
  by_cases h : (cand s n).qualified = true
  · rw [disqualify_raises h]
    exact ⟨_, _, _, rfl, fun _ _ h2 => otherRaises_raise _ _ rfl rfl h2⟩
  · have hx : disqualify n cause s = setCand n { cand s n with okSince := none } s := if_neg h
    rw [hx]
    exact ⟨_, _, _, rfl, fun _ _ _ => .refl _ _⟩

theorem enterLos_losing (n : Nat) (s : State) : Losing s (enterLos n s) := by
  unfold enterLos
  dsimp only
  split
  · have h1 : Losing s (raise { src := 0x1C0, data := [(1, n)] } (setCand n (lostCand s n) s)) :=
      ⟨_, _, _, rfl, fun _ h1 _ => otherRaises_raise _ _ rfl rfl h1⟩
    exact h1.trans (disqualify_losing n 1 _)
  · exact .refl s

theorem enterLoses_losing (l : List Nat) (s : State) : Losing s (l.foldl (fun s i => enterLos (8 + i) s) s) := by
  induction l generalizing s with
  | nil => exact .refl s
  | cons i l ih => exact (enterLos_losing _ s).trans (ih _)

theorem candsLose_losing (p : Nat) (s : State) : Losing s (candsLose p s) := enterLoses_losing _ _

theorem leaveIdentified_losing (p : Nat) (s : State) : Losing s (leaveIdentified p s) := by
  unfold leaveIdentified
  split
  · exact .refl s
  · exact candsLose_losing p s

theorem leaveIdentified_other {p : Nat} {s : State} (h : (sdiRx s p).st ≠ .identified) : leaveIdentified p s = s :=
  if_pos (bne_iff_ne.mpr h)

/-! ## Descriptors (R160, R161) -/

theorem sdiRx_setRx_same (p : Nat) (x : SdiRx) (s : State) : sdiRx (setRx p x s) p = x := tgetD_tput_same _ _ _ _

theorem sdiRx_setRx_ne {p q : Nat} (x : SdiRx) (s : State) (h : q ≠ p) : sdiRx (setRx p x s) q = sdiRx s q := tgetD_tput_ne _ _ _ h

/-- The receiver a descriptor leaves. -/
theorem applyRx_sets (p : Nat) (l : List Byte) (s : State) : ∃ x, applyRx p l s = setRx p x (leaveIdentified p s) ∧
    x.mode = fieldAt l 2 1 ∧ x.ifRate = fieldAt l 3 1 ∧ x.vpidOpt = fieldAt l 5 1 ∧ x.trsTol = fieldAt l 6 1 ∧
    x.invert = bit (fieldAt l 7 1) 0 ∧ x.st = (if fieldAt l 2 1 = 0 then .disabled else .hunt) ∧
    (fieldAt l 2 1 ≠ 0 → x.rate = if fieldAt l 2 1 = 2 then fieldAt l 3 1 else 7) := by
  by_cases h : fieldAt l 2 1 = 0
  · exact ⟨_, congrArg (fun x => setRx p x (leaveIdentified p s)) (if_pos h), rfl, rfl, rfl, rfl, rfl, (if_pos h).symm, fun h' => absurd h h'⟩
  · exact ⟨_, congrArg (fun x => setRx p x (leaveIdentified p s)) (if_neg h), rfl, rfl, rfl, rfl, rfl, (if_neg h).symm, fun _ => rfl⟩

/-- The state in which a descriptor applies: its image in place, its octet ungated. -/
theorem ungated_place (g : Bool) (a : Nat) (img : List Byte) (s : State) :
    ungate g 50000 (place a img s) = { place a img s with tim := { s.tim with now := if g then s.tim.now + 50000 else s.tim.now } } :=
  ungate_eq _ _ _

theorem svpPortSet_receives {c : Cmd} {s : State} {a p q : Nat} {img l : List Byte} (hc : Clear s) (hp : q ≠ p) (hh : c.hostOk = true)
    (hk : firstErr (sdiChecks (place a img s) a) = none) (hl : l = hostBytes (place a img s) a 16) (h0 : fieldAt l 0 1 = p)
    (h1 : fieldAt l 1 1 = 0) :
      Completes (.svpPortSet c a img) s (fun t => Replied c 0x0120 0 0 0 t ∧
        (sdiRx t p).mode = fieldAt l 2 1 ∧ (sdiRx t p).ifRate = fieldAt l 3 1 ∧ (sdiRx t p).vpidOpt = fieldAt l 5 1 ∧ (sdiRx t p).trsTol = fieldAt l 6 1 ∧
        (sdiRx t p).invert = bit (fieldAt l 7 1) 0 ∧ (sdiRx t p).st = (if fieldAt l 2 1 = 0 then .disabled else .hunt) ∧
        (fieldAt l 2 1 ≠ 0 → (sdiRx t p).rate = if fieldAt l 2 1 = 2 then fieldAt l 3 1 else 7) ∧ sdiRx t q = sdiRx s q ∧ t.svp.tx = s.svp.tx ∧
        t.tim.now = (if octetGated s (p / 8) && fieldAt l 2 1 != 0 then s.tim.now + 50000 else s.tim.now) ∧
        t = { s with svp := { s.svp with rx := t.svp.rx }, tim := { s.tim with now := t.tim.now, cands := t.tim.cands, forced := t.tim.forced }, red := { s.red with jseq := t.red.jseq, jout := t.red.jout }, hif := t.hif, flt := t.flt, wire := t.wire }) := by
  obtain ⟨hf, hq, hb⟩ := clear_place hc a img
  have hung := ungated_place (octetGated (place a img s) (p / 8) && fieldAt l 2 1 != 0) a img s
  generalize hu : ungate (octetGated (place a img s) (p / 8) && fieldAt l 2 1 != 0) 50000 (place a img s) = u at hung
  obtain ⟨x, hx, hmode, hif, hvp, htrs, hinv, hst, hrate⟩ := applyRx_sets p l u
  obtain ⟨cs, fo, f, hlv, hfl⟩ := leaveIdentified_losing p u
  rw [hlv] at hx
  obtain ⟨jq, jo, hj⟩ := journal_journalled 0x12 (leBytes 1 0 ++ rxBytes p (sdiRx (applyRx p l u) p)) (applyRx p l u)
  rw [hx] at hj
  have he : EndsDone c 0x0120 0 (journalled jq jo (setRx p x { u with tim := { u.tim with cands := cs, forced := fo }, flt := f }))
      (settle (opSvpPortSet c a img s)) := by
    refine checked_done ((firstErr_pass (by rw [hh]; rfl)).trans hk) ?_ ⟨hf, hq, hb⟩ ?_ ?_
    · dsimp only
      rw [← hl, h0, h1, hu, if_pos rfl, hx]
      exact congrArg (Prod.mk _) hj
    · rw [hung]; exact hf
    · exact (hfl 0 (by decide) (by decide)).1.trans (by rw [hung]; exact hq)
  have hsame : ∀ d, tgetD (tput u.svp.rx p x) p d = x := tgetD_tput_same _ _ _
  subst hung
  exact completes_ends rfl he fun h g w hr => ⟨hr, (congrArg (·.mode) (hsame {})).trans hmode, (congrArg (·.ifRate) (hsame {})).trans hif,
    (congrArg (·.vpidOpt) (hsame {})).trans hvp, (congrArg (·.trsTol) (hsame {})).trans htrs, (congrArg (·.invert) (hsame {})).trans hinv,
    (congrArg (·.st) (hsame {})).trans hst, fun h => (congrArg (·.rate) (hsame {})).trans (hrate h), tgetD_tput_ne _ _ _ hp, rfl, rfl, rfl⟩

theorem svpPortSet_transmits {c : Cmd} {s : State} {a p q : Nat} {img l : List Byte} (hc : Clear s) (hp : q ≠ p) (hh : c.hostOk = true)
    (hk : firstErr (sdiChecks (place a img s) a) = none) (hl : l = hostBytes (place a img s) a 16) (h0 : fieldAt l 0 1 = p)
    (h1 : fieldAt l 1 1 = 1) :
      Completes (.svpPortSet c a img) s (fun t => Replied c 0x0120 0 0 0 t ∧
        sdiTx t p = { sdiTx s p with mode := fieldAt l 2 1, levelBMap := bit (fieldAt l 4 1) 0, invert := bit (fieldAt l 7 1) 0, txOffset := fieldAt l 8 4 } ∧
        sdiTx t q = sdiTx s q ∧ t.tim.now = (if octetGated s (p / 8) && fieldAt l 2 1 != 0 then s.tim.now + 50000 else s.tim.now) ∧
        t = { s with tim := { s.tim with now := t.tim.now }, svp := { s.svp with tx := t.svp.tx }, red := { s.red with jseq := t.red.jseq, jout := t.red.jout }, hif := t.hif, flt := t.flt, wire := t.wire }) := by
  obtain ⟨hf, hq, hb⟩ := clear_place hc a img
  have hung := ungated_place (octetGated (place a img s) (p / 8) && fieldAt l 2 1 != 0) a img s
  generalize hu : ungate (octetGated (place a img s) (p / 8) && fieldAt l 2 1 != 0) 50000 (place a img s) = u at hung
  obtain ⟨jq, jo, hj⟩ := journal_journalled 0x12 (leBytes 1 0 ++ txBytes p (sdiTx (applyTx p l u) p)) (applyTx p l u)
  have he : EndsDone c 0x0120 0 (journalled jq jo (applyTx p l u)) (settle (opSvpPortSet c a img s)) := by
    refine checked_done ((firstErr_pass (by rw [hh]; rfl)).trans hk) ?_ ⟨hf, hq, hb⟩ ?_ ?_
    · dsimp only
      rw [← hl, h0, h1, hu, if_neg (by decide), if_neg (by decide)]
      exact congrArg (Prod.mk _) hj
    · rw [hung]; exact hf
    · rw [hung]; exact hq
  subst hung
  exact completes_ends rfl he fun h g w hr => ⟨hr, tgetD_tput_same _ _ _ _, tgetD_tput_ne _ _ _ hp, rfl, rfl⟩

end Sys2Proof.Machine

namespace Sys2Proof.Machine
open Sys2Proof

/-! ## Hunting, locking and losing (R161, R164) -/

/-- A receiver that hunts again. -/
theorem rehunt_hunts (p : Nat) (s : State) : ∃ x, rehunt p s = setRx p x (leaveIdentified p s) ∧ x.st = .hunt := ⟨_, rfl, rfl⟩

/-- A loss of signal: what the candidates and the hunt change, the raise, and the flows of the port held. -/
theorem loseSignal_holds {p cause : Nat} {s : State} (hq : Settled s)
    (hb : bit (rd s .fltSrcCfg 0x0E1) 27 = false) : ∃ x u fl, x.st = .hunt ∧ Losing s u ∧
      Reflowed fl (raise { src := 0x0E1, data := [(1, sdiLabel s p), (1, cause)], unit := rxUnit p } (setRx p x u)) (loseSignal p cause s) ∧
      (loseSignal p cause s).flt.resetQ = [] ∧
      (inputsOn s p = [] →
        loseSignal p cause s = raise { src := 0x0E1, data := [(1, sdiLabel s p), (1, cause)], unit := rxUnit p } (setRx p x u)) ∧
      (∀ k, k ∈ inputsOn s p → (flowD s k).st = .running → (flowD s k).stop = none → tget? fl k = some (heldFlow 0xFFFF (flowD s k))) := by
  obtain ⟨x, hx, hst⟩ := rehunt_hunts p (candsLose p s)
  have hl := (candsLose_losing p s).trans (leaveIdentified_losing p (candsLose p s))
  generalize leaveIdentified p (candsLose p s) = u at hx hl
  obtain ⟨cs, fo, f, hu, ho⟩ := hl
  have he : loseSignal p cause s = holdFlows (inputsOn s p) 0xFFFF
      (raise { src := 0x0E1, data := [(1, sdiLabel s p), (1, cause)], unit := rxUnit p } (setRx p x u)) := by
    unfold loseSignal
    rw [hx, hu]
  have hr : (raise { src := 0x0E1, data := [(1, sdiLabel s p), (1, cause)], unit := rxUnit p } (setRx p x u)).flt.resetQ = [] := by
    rw [raise_resetQ' _ _ (Or.inr (by rw [hu]; exact hb)), hu]
    exact (ho 0 (by decide) (by decide)).1.trans hq
  obtain ⟨fl, hre, -, hheld⟩ := holdFlows_reflowed (inputsOn s p) 0xFFFF
    (raise { src := 0x0E1, data := [(1, sdiLabel s p), (1, cause)], unit := rxUnit p } (setRx p x u))
  rw [← he] at hre
  have hflows : ∀ k, flowD (raise { src := 0x0E1, data := [(1, sdiLabel s p), (1, cause)], unit := rxUnit p } (setRx p x u)) k = flowD s k :=
    fun k => by rw [hu]; rfl
  refine ⟨x, u, fl, hst, ⟨cs, fo, f, hu, ho⟩, hre, hre.resetQ.trans hr, fun h => ?_, fun k hk h1 h2 => ?_⟩
  · rw [he, h]; rfl
  · rw [← hflows k]
    exact hheld k hk (by rw [hflows]; exact h1) (by rw [hflows]; exact h2)

/-- A raise that is among others before and after it still counts one. -/
theorem OtherRaises.count {src : Nat} {f g : Flt} {e : Ev} {s : State} (h1 : OtherRaises src f s.flt) (hs : e.src = src)
    (h2 : OtherRaises src (raise e s).flt g) : (tgetD g.stat src {}).count = min ((tgetD f.stat src {}).count + 1) 255 := by
  rw [h2.2.1, ← h1.2.1, raise_stat, hs, tgetD_tput_same]
  rfl

theorem sdiSignalLoss_loses {s : State} {p q n cause : Nat} (hc : Clear s) (hp : q ≠ p)
    (hst : (sdiRx s p).st = .locked ∨ (sdiRx s p).st = .identified) (hb : bit (rd s .fltSrcCfg 0x0E1) 27 = false) :
      Completes (.sdiSignalLoss p cause) s (fun t =>
        (sdiRx t p).st = .hunt ∧ (tgetD t.flt.stat 0x0E1 {}).count = min ((tgetD s.flt.stat 0x0E1 {}).count + 1) 255 ∧
          (inputsOn s p = [] → Raised 0x0E1 [(1, sdiLabel s p), (1, cause)] 0 s t) ∧
          (n ∈ inputsOn s p → (flowD s n).st = .running → (flowD s n).stop = none → (flowD t n).st = .held) ∧ sdiRx t q = sdiRx s q ∧
          t = { s with svp := { s.svp with rx := t.svp.rx }, tim := { s.tim with cands := t.tim.cands, forced := t.tim.forced }, flows := t.flows, red := { s.red with jseq := t.red.jseq, jout := t.red.jout }, hif := t.hif, flt := t.flt, wire := t.wire }) := by
  obtain ⟨x, u, fl, hxs, ⟨cs, fo, f, hu, ho⟩, hre, hq, hnone, hheld⟩ := loseSignal_holds (p := p) (cause := cause) hc.2.1 hb
  have ho' : OtherRaises 0x0E1 s.flt (setRx p x u).flt := by rw [hu]; exact ho 0x0E1 (by decide) (by decide)
  have hcount := ho'.count (e := { src := 0x0E1, data := [(1, sdiLabel s p), (1, cause)], unit := rxUnit p }) rfl
    (hre.others (by decide) (by decide))
  have hraised (h : inputsOn s p = []) : Raised 0x0E1 [(1, sdiLabel s p), (1, cause)] 0 s (loseSignal p cause s) := by
    rw [hnone h]
    exact (raise_raised { src := 0x0E1, data := [(1, sdiLabel s p), (1, cause)], unit := rxUnit p } (setRx p x u) rfl).after ho'
  obtain ⟨jq, jo, h, g, w, hv, -, -⟩ := hre
  refine completes_of rfl (if_pos hst) hq ⟨?_, hcount, hraised, fun h1 h2 h3 => ?_, ?_, ?_⟩
  · rw [hv]; exact (congrArg SdiRx.st (tgetD_tput_same _ _ _ _)).trans hxs
  · rw [hv]; exact congrArg (fun o : Option Flow => (o.getD {}).st) (hheld n h1 h2 h3)
  · rw [hv, hu]; exact tgetD_tput_ne _ _ _ hp
  · rw [hv, hu]; rfl

/-- Settles O29: the descriptors by `applyRx_sets`, the receiver's states by their operations, the loss by `loseSignal_holds`. -/
theorem sdiPortsAreSetAndReceiversHunt : Obligations.SdiPortsAreSetAndReceiversHunt := by
  unfold Obligations.SdiPortsAreSetAndReceiversHunt
  intro c s a p q n cause img l r hc hp
  have hq := hc.2.1
  refine ⟨fun hh hk hl h0 h1 => svpPortSet_receives hc hp hh hk hl h0 h1, fun hh hk hl h0 h1 => svpPortSet_transmits hc hp hh hk hl h0 h1,
    fun hh hk _ => ⟨_, rfl, checked_refused ((firstErr_pass (by rw [hh]; rfl)).trans hk) (clear_place hc a img)⟩,
    fun hpl hh => ⟨⟨_, rfl, ?_⟩, ⟨_, rfl, ?_⟩⟩, fun hpl => ⟨_, rfl, checked_fails ?_ hc⟩, fun hpl hn => ⟨_, rfl, checked_fails ?_ hc⟩,
    fun hst => ⟨?_, ?_⟩, by decide, fun hst => ⟨completes_of rfl (if_pos (bne_iff_ne.mpr hst)) hq rfl, completes_of rfl (if_pos (bne_iff_ne.mpr hst)) hq rfl⟩,
    fun hst => ?_, fun hst hb => sdiSignalLoss_loses hc hp hst hb, fun hst => completes_of rfl (if_neg ?_) hq rfl⟩
  · obtain ⟨hf', hq', -⟩ := clear_place hc a (rxBytes p (sdiRx s p))
    exact checked_done (by simp [firstErr, Nat.not_lt.mpr (Nat.le_of_lt_succ hpl)]) (readBack_ok hh a _ s) hc hf' hq'
  · obtain ⟨hf', hq', -⟩ := clear_place hc a (txBytes p (sdiTx s p))
    exact checked_done (by simp [firstErr, Nat.not_lt.mpr (Nat.le_of_lt_succ hpl)]) (readBack_ok hh a _ s) hc hf' hq'
  · simp [firstErr, hpl, badArg, badField]
  · simp [firstErr, Nat.not_lt.mpr (Nat.le_of_lt_succ hpl), hn, badArg, badField]
  · exact completes_of rfl (if_neg (by rw [hst]; decide)) hq ⟨rfl, tgetD_tput_same _ _ _ _, tgetD_tput_ne _ _ _ hp, rfl⟩
  · refine completes_of rfl (if_neg (by rw [hst]; decide)) hq ⟨?_, ?_, ?_, tgetD_tput_ne _ _ _ hp, rfl⟩
    · exact congrArg SdiRx.st (sdiRx_setRx_same p _ s)
    · exact congrArg SdiRx.lastRate (sdiRx_setRx_same p _ s)
    · rw [sdiRx_setRx_same]
  · let v := atLeast ((sdiRx s p).since + 125125000) s
    have hlv : leaveIdentified p v = v := leaveIdentified_other (by rw [show sdiRx v p = sdiRx s p from rfl, hst]; decide)
    have hre : rehunt p v = setRx p (huntAt (if (sdiRx s p).mode = 2 then (sdiRx s p).ifRate
        else if (sdiRx s p).lastRate = 0 then 7 else (sdiRx s p).lastRate) v.tim.now (sdiRx s p)) v := by
      unfold rehunt
      rw [hlv]
      rfl
    refine completes_of rfl ((if_pos hst).trans hre) hq ⟨rfl, ?_, ?_, tgetD_tput_ne _ _ _ hp, rfl⟩
    · exact congrArg SdiRx.st (tgetD_tput_same _ _ _ _)
    · exact congrArg SdiRx.rate (tgetD_tput_same _ _ _ _)
  · rcases hst with h | h <;> simp [h]

end Sys2Proof.Machine

namespace Sys2Proof.Machine
open Sys2Proof

/-! ## Raises of a unit whose reset is not configured -/

theorem otherRaises_raise_unit {src : Nat} (e : Ev) (s : State) (hu : e.unit = none ∨ bit (rd s .fltSrcCfg e.src) 27 = false)
    (hw : e.written = false) (h : src ≠ e.src) : OtherRaises src s.flt (raise e s).flt :=
  ⟨raise_resetQ' e s hu, by rw [raise_stat]; exact tgetD_tput_ne _ _ _ h, by rw [raise_evq e s hw]; exact List.prefix_append _ _⟩

theorem otherRaises_raiseIf_unit {src : Nat} (b : Bool) (e : Ev) (s : State) (hu : e.unit = none ∨ bit (rd s .fltSrcCfg e.src) 27 = false)
    (hw : e.written = false) (h : src ≠ e.src) : OtherRaises src s.flt (raiseIf b e s).flt := by
  unfold raiseIf; split
  · exact otherRaises_raise_unit e s hu hw h
  · exact .refl _ _

theorem raiseAll_others (l : List Ev) (s : State) : ∃ f, raiseAll l s = { s with flt := f } ∧ ∀ src,
    (∀ e ∈ l, (e.unit = none ∨ bit (rd s .fltSrcCfg e.src) 27 = false) ∧ e.written = false ∧ src ≠ e.src) → OtherRaises src s.flt f := by
  induction l generalizing s with
  | nil => exact ⟨s.flt, rfl, fun _ _ => .refl _ _⟩
  | cons e l ih =>
    obtain ⟨f, hx, hf⟩ := ih (raise e s)
    refine ⟨f, hx.trans rfl, fun src h => ?_⟩
    obtain ⟨hu, hw, hs⟩ := h e List.mem_cons_self
    exact (otherRaises_raise_unit e s hu hw hs).trans (hf src fun e' he' => h e' (List.mem_cons_of_mem _ he'))

theorem raiseOnce_others (inst slot : Nat) (e : Ev) (s : State) : ∃ f, raiseOnce inst slot e s = { s with flt := f } ∧ ∀ src,
    (e.unit = none ∨ bit (rd s .fltSrcCfg e.src) 27 = false) → e.written = false → src ≠ e.src → OtherRaises src s.flt f := by
  unfold raiseOnce
  split
  · exact ⟨s.flt, rfl, fun _ _ _ _ => .refl _ _⟩
  · refine ⟨_, rfl, fun src hu hw h => ?_⟩
    exact otherRaises_raise_unit (src := src) e { s with flt := { s.flt with
      limit := ((e.src, inst), slot) :: s.flt.limit.filter (fun p => !(p.1 == (e.src, inst))) } } hu hw h

/-! ## What a frame of an input begins (R236) -/

/-- The state `t` is `s` with the processing array changed, and what PF_INPUT_HELD and PF_LINE_MISSING raise. -/
def Synced (s t : State) : Prop :=
  ∃ ik f, t = { s with ika := ik, flt := f } ∧ ∀ src, src ≠ 0x120 → src ≠ 0x121 → OtherRaises src s.flt f

theorem Synced.refl (s : State) : Synced s s := ⟨s.ika, s.flt, rfl, fun _ _ _ => .refl _ _⟩

theorem Synced.trans {s t u : State} (h1 : Synced s t) (h2 : Synced t u) : Synced s u := by
  obtain ⟨_, _, rfl, hq⟩ := h1
  obtain ⟨ik, f, rfl, hq'⟩ := h2
  exact ⟨ik, f, rfl, fun src h1 h2 => (hq src h1 h2).trans (hq' src h1 h2)⟩

theorem Synced.ika {s : State} (ik : Ika) : Synced s { s with ika := ik } := ⟨ik, s.flt, rfl, fun _ _ _ => .refl _ _⟩

theorem Synced.setProc {s t : State} (ix : Nat) (p : Proc) (h : Synced s t) : Synced s (Machine.setProc ix p t) := h.trans (.ika _)

theorem inputMissing_synced (ix k line n : Nat) (s : State) : Synced s (inputMissing ix k line n s) := by
  unfold inputMissing
  dsimp only
  split
  · split
    · exact .refl s
    · exact ⟨_, _, rfl, fun _ h _ => otherRaises_raise _ (setProc ix _ s) rfl rfl h⟩
  · split
    · exact .refl s
    · obtain ⟨f, hx, hf⟩ := raiseOnce_others ix n
        { src := 0x121, data := [(2, pfNum ix), (1, k), (2, line), (1, n % 256)] } s
      rw [hx]
      exact ⟨s.ika, f, rfl, fun src _ h => hf src (Or.inl rfl) rfl h⟩

theorem syncStart_synced (ix src n : Nat) (s : State) : Synced s (syncStart ix src n s) := by
  unfold syncStart
  dsimp only
  refine Synced.setProc ix _ ?_
  split
  · split
    · exact inputMissing_synced _ _ _ _ s
    · exact .refl s
  · exact .refl s

theorem syncStarts_synced (l : List Nat) (src n : Nat) (s : State) : Synced s (l.foldl (fun s ix => syncStart ix src n s) s) := by
  induction l generalizing s with
  | nil => exact .refl s
  | cons i l ih => exact (syncStart_synced i src n s).trans (ih _)

theorem frameBegins_synced (src n at_ rtp : Nat) (s : State) : Synced s (frameBegins src n at_ rtp s) :=
  (Synced.ika _).trans (syncStarts_synced _ _ _ _)

theorem framesBegin_synced (l : List Nat) (n at_ rtp : Nat) (s : State) : Synced s (l.foldl (fun s k => frameBegins k n at_ rtp s) s) := by
  induction l generalizing s with
  | nil => exact .refl s
  | cons k l ih => exact (frameBegins_synced k n at_ rtp s).trans (ih _)

/-- The receiver as a frame start leaves it. -/
theorem beginFrame_begins (p n at_ : Nat) (s : State) : ∃ x u, Synced (setRx p x s) u ∧ beginFrame p n at_ s = u ∧
    x.frame = n ∧ x.frameAt = some at_ ∧ x.st = (sdiRx s p).st ∧ x.format = (sdiRx s p).format ∧ x.vpid = (sdiRx s p).vpid ∧
    (∀ k f, videoOn s 0 p = some (k, f) → x.arrival = if lockedVideo s p then some ((at_ : Int) - (tOf s f.domain n : Int)) else none) := by
  refine ⟨_, _, framesBegin_synced _ _ _ _ _, rfl, rfl, rfl, rfl, rfl, rfl, fun k f hv => ?_⟩
  rw [hv]

/-! ## Restored flows (R367) -/

/-- The state `t` is `s` with its flow table and crosspoints changed. -/
def Readied (s t : State) : Prop := ∃ fl xp, t = { s with flows := fl, aud := { s.aud with xps := xp } }

theorem Readied.refl (s : State) : Readied s s := ⟨s.flows, s.aud.xps, rfl⟩

theorem Readied.trans {s t u : State} (h1 : Readied s t) (h2 : Readied t u) : Readied s u := by
  obtain ⟨_, _, rfl⟩ := h1
  obtain ⟨fl, xp, rfl⟩ := h2
  exact ⟨fl, xp, rfl⟩

theorem readyFlow_readied (n : Nat) (s : State) : Readied s (readyFlow n s) := by
  unfold readyFlow
  dsimp only
  split
  · exact ⟨_, _, rfl⟩
  · exact ⟨_, s.aud.xps, rfl⟩

theorem readyFlows_readied (l : List Nat) (s : State) : Readied s (readyFlows l s) := by
  induction l generalizing s with
  | nil => exact .refl s
  | cons n l ih => exact (readyFlow_readied n s).trans (ih _)

theorem readyPort_readied (p : Nat) (x : SdiFrame) (s : State) : Readied s (readyPort p x s) := by
  have h : readyPort p x s = readyFlows (waitingOn s p) s ∨ readyPort p x s = s := ite_eq_or_eq _ _ _
  rcases h with h | h
  · rw [h]; exact readyFlows_readied _ s
  · rw [h]; exact .refl s

theorem readyPort_none {p : Nat} {s : State} (x : SdiFrame) (h : waitingOn s p = []) : readyPort p x s = s := by
  unfold readyPort
  rw [h]
  exact ite_self s

end Sys2Proof.Machine

namespace Sys2Proof.Machine
open Sys2Proof

/-! ## Frame starts (R161 to R164) -/

/-- A frame start of the polarity expected, on a LOCKED receiver. -/
theorem opSdiFrameStart_locked {s : State} {p : Nat} {x : SdiFrame} (h : (sdiRx s p).st = .locked) (hi : x.inverted = (sdiRx s p).invert) :
    opSdiFrameStart p x s = lockedFrame p x (atLeast x.at_ s) := by
  have hi' : (x.inverted != (sdiRx s p).invert) = false := by simp [hi]
  unfold opSdiFrameStart
  simp only [hi', h, Bool.false_eq_true, if_false]

theorem opSdiFrameStart_ignored {s : State} {p : Nat} {x : SdiFrame}
    (h : (sdiRx s p).st = .disabled ∨ (sdiRx s p).st = .hunt ∨ x.inverted ≠ (sdiRx s p).invert) : opSdiFrameStart p x s = atLeast x.at_ s := by
  by_cases hi : x.inverted = (sdiRx s p).invert
  · have hi' : (x.inverted != (sdiRx s p).invert) = false := by simp [hi]
    unfold opSdiFrameStart
    rcases h with h | h | h
    · simp only [hi', h, Bool.false_eq_true, if_false]
    · simp only [hi', h, Bool.false_eq_true, if_false]
    · exact absurd hi h
  · exact if_pos (bne_iff_ne.mpr hi)

/-- The second like frame of a LOCKED receiver identifies it. -/
theorem lockedFrame_identifies {s : State} {p : Nat} {x : SdiFrame} (hq : Settled s) (hfa : (sdiRx s p).frameAt.isSome = true)
    (hg : (sdiRx s p).goodFrames = 1) (hfmt : (sdiRx s p).format / 16 = x.format / 16) (hv : x.vpidHere = true)
    (hr : ifRateOf (x.format / 16 * 16 + 1) ≠ 0) (hb : bit (rd s .fltSrcCfg 0x0E0) 27 = false) :
    ∃ u, lockedFrame p x s = u ∧ u.flt.resetQ = [] ∧ (sdiRx u p).st = .identified ∧ (sdiRx u p).format = x.format ∧
      (sdiRx u p).vpid = x.vpid ∧ (sdiRx u p).frameAt = some x.at_ ∧
      (tgetD u.flt.stat 0x0E0 {}).count = min ((tgetD s.flt.stat 0x0E0 {}).count + 1) 255 ∧
      u = { s with svp := { s.svp with rx := u.svp.rx }, flows := u.flows, ika := u.ika, aud := { s.aud with xps := u.aud.xps },
                   red := { s.red with jseq := u.red.jseq, jout := u.red.jout }, hif := u.hif, flt := u.flt, wire := u.wire } := by
  obtain ⟨fl, hre, -, -⟩ := holdFlows_reflowed (inputsOn s p) 0xFFFF s
  obtain ⟨v, hdef⟩ : ∃ v, holdFlows (inputsOn s p) 0xFFFF s = v := ⟨_, rfl⟩
  rw [hdef] at hre
  have hvq := hre.resetQ.trans hq
  have hvo := hre.others (src := 0x0E0) (by decide) (by decide)
  obtain ⟨jq, jo, h', f', w', rfl, -, -⟩ := hre
  generalize hv' : ({ s with flows := fl, red := _, hif := h', flt := f', wire := w' } : State) = v at *
  let y : SdiRx := { identify x (sdiRx s p) with st := .identified, goodFrames := 0, badLines := 0, since := v.tim.now }
  let e : Ev := { src := 0x0E0, data := [(1, sdiLabel (setRx p y v) p), (1, (sdiRx s p).rate), (2, (identify x (sdiRx s p)).format)], unit := rxUnit p }
  let w := raise e (setRx p y v)
  have hsame : ((sdiRx s p).frameAt.isSome && (sdiRx s p).format / 16 == x.format / 16 && ifRateOf (x.format / 16 * 16 + 1) != 0) = true := by
    rw [hfa, hfmt]
    simp [hr]
  have hx : lockedFrame p x s = beginFrame p (sdiFrameNum w p x.at_) x.at_ (readyPort p x w) := by
    unfold lockedFrame
    simp only [hsame, hg, hdef, if_true]
    exact if_neg (by decide)
  obtain ⟨fl', xp, hrd⟩ := readyPort_readied p x w
  obtain ⟨x', u, ⟨ik, g, hu, hg⟩, hbf, -, hat, hst, hfm, hvp, -⟩ := beginFrame_begins p (sdiFrameNum w p x.at_) x.at_ (readyPort p x w)
  have hw : sdiRx (readyPort p x w) p = y := by rw [hrd]; exact tgetD_tput_same _ _ _ _
  have hux : sdiRx u p = x' := by rw [hu]; exact tgetD_tput_same _ _ _ _
  have hbit : bit (rd (setRx p y v) .fltSrcCfg 0x0E0) 27 = false := by
    rw [← hv']; exact hb
  have ho : ∀ src, src ≠ 0x120 → src ≠ 0x121 → OtherRaises src w.flt u.flt := fun src h1 h2 => by
    have := hg src h1 h2
    rw [hu]; rw [hrd] at this; exact this
  rw [hbf] at hx
  refine ⟨u, hx, ?_, ?_, ?_, ?_, ?_, ?_, ?_⟩
  · rw [(ho 0 (by decide) (by decide)).1, show w.flt.resetQ = _ from raise_resetQ' e _ (Or.inr hbit)]
    exact hvq
  · rw [hux, hst, hw]
  · rw [hux, hfm, hw]; exact if_pos hv
  · rw [hux, hvp, hw]; exact if_pos hv
  · rw [hux, hat]
  · exact OtherRaises.count (e := e) (s := setRx p y v) hvo rfl (ho 0x0E0 (by decide) (by decide))
  · rw [hu, hrd]
    show ({ setRx p x' { raise e (setRx p y v) with flows := fl', aud := { (raise e (setRx p y v)).aud with xps := xp } } with
      ika := ik, flt := g } : State) = _
    clear_value e y
    subst hv'
    rfl

/-- An input frame of a port that carries one video flow, which is locked and RUNNING. -/
theorem inputsOn_single {s : State} {p n : Nat} {f : Flow} (hf : s.flows = [(n, f)]) (ho : onSdi 0 p n f = true) (hst : f.st = .running)
    (hr : f.restore = none) : inputsOn s p = [n] ∧ waitingOn s p = [] := by
  unfold inputsOn waitingOn tkeys
  simp [hf, ho, hst, hr]

theorem videoOn_single {s : State} {p n : Nat} {f : Flow} (hf : s.flows = [(n, f)]) (ho : onSdi 0 p n f = true) (he : f.essence = 0) :
    videoOn s 0 p = some (n, f) := by
  unfold videoOn
  simp [hf, ho, he]

theorem flowD_single {s : State} {n : Nat} {f : Flow} (hf : s.flows = [(n, f)]) : flowD s n = f := by
  unfold flowD; rw [hf]; simp [tgetD, tget?]

theorem nsOf_onSdi {ns p n : Nat} {f : Flow} (h : onSdi ns p n f = true) : nsOf n = ns := by
  unfold onSdi at h
  simp only [Bool.and_eq_true, beq_iff_eq] at h
  exact h.1

/-- With no processed flow an input's frame start is only recorded. -/
theorem frameBegins_unprocessed {s : State} {n : Nat} {f : Flow} (hf : s.flows = [(n, f)]) (hn : nsOf n = 0) (src k at_ rtp : Nat) :
    ∃ ik, frameBegins src k at_ rtp s = { s with ika := ik } := by
  have h : ∀ ik, syncsOf { s with ika := ik } src = [] := fun ik => by
    unfold syncsOf activeProcs
    simp [hf, hn]
  unfold frameBegins
  dsimp only
  rw [h]
  exact ⟨_, rfl⟩

/-- A frame start of an IDENTIFIED receiver with one video flow: judged, then begun. -/
theorem opSdiFrameStart_identified {s : State} {p n : Nat} {f : Flow} {x : SdiFrame} (h : (sdiRx s p).st = .identified)
    (hi : x.inverted = (sdiRx s p).invert) (hf : s.flows = [(n, f)]) (ho : onSdi 0 p n f = true) (he : f.essence = 0)
    (hst : f.st = .running) (hs : f.stop = none) (hr : f.restore = none) :
    opSdiFrameStart p x s = (fun w => beginFrame p (sdiFrameNum w p x.at_) x.at_ (readyPort p x w))
      (judgeFrame p x ((sdiRx s p).frameAt.map (fun t => x.at_ - t)) (setRx p (identify x (sdiRx s p)) (atLeast x.at_ s))) := by
  have hi' : (x.inverted != (sdiRx s p).invert) = false := by simp [hi]
  have hin := (inputsOn_single (s := atLeast x.at_ s) hf ho hst hr).1
  have hD : flowD (atLeast x.at_ s) n = f := flowD_single hf
  have hclose : closeAnc [n] (sdiRx s p).frame (atLeast x.at_ s) = atLeast x.at_ s := by
    unfold closeAnc
    simp only [List.foldl_cons, List.foldl_nil, hD, he]
    rfl
  have hstop : stopAtFrame [n] (atLeast x.at_ s) = atLeast x.at_ s := by
    unfold stopAtFrame
    simp only [List.foldl_cons, List.foldl_nil, hD, hs]
    simp
  unfold opSdiFrameStart
  simp only [hi', h, Bool.false_eq_true, if_false, hin, hclose, hstop]

end Sys2Proof.Machine

namespace Sys2Proof.Machine
open Sys2Proof

theorem sdiFrameStart_fits {s : State} {p n : Nat} {f : Flow} {x : SdiFrame} (hq : Settled s) (h : (sdiRx s p).st = .identified)
    (hi : x.inverted = (sdiRx s p).invert) (hf : s.flows = [(n, f)]) (ho : onSdi 0 p n f = true) (he : f.essence = 0) (hl : f.locked = true)
    (hst : f.st = .running) (hs : f.stop = none) (hr : f.restore = none)
    (hfit : frameFaults (setRx p (identify x (sdiRx s p)) s) p f x ((sdiRx s p).frameAt.map (fun t => x.at_ - t)) = []) :
      Completes (.sdiFrameStart p x) s (fun t =>
        (sdiRx t p).frame = fiAt s f.domain x.at_ ∧ (sdiRx t p).frameAt = some x.at_ ∧
          (sdiRx t p).arrival = some ((x.at_ : Int) - (tOf s f.domain (fiAt s f.domain x.at_) : Int)) ∧ (sdiRx t p).st = .identified ∧ t.flows = s.flows ∧
          t = { s with tim := { s.tim with now := max s.tim.now x.at_ }, svp := { s.svp with rx := t.svp.rx }, ika := t.ika }) := by
  let v := setRx p (identify x (sdiRx s p)) (atLeast x.at_ s)
  have hvid : videoOn v 0 p = some (n, f) := videoOn_single (s := v) hf ho he
  have hjudge : judgeFrame p x ((sdiRx s p).frameAt.map (fun t => x.at_ - t)) v = v := by
    have hfit' : frameFaults v p f x ((sdiRx s p).frameAt.map (fun t => x.at_ - t)) = [] := hfit
    unfold judgeFrame
    simp only [hvid, hfit', List.isEmpty_nil, Bool.or_true, if_true]
  have hx := opSdiFrameStart_identified h hi hf ho he hst hs hr
  rw [show judgeFrame p x _ (setRx p (identify x (sdiRx s p)) (atLeast x.at_ s)) = v from hjudge] at hx
  have hnum : sdiFrameNum v p x.at_ = fiAt s f.domain x.at_ := by
    unfold sdiFrameNum
    simp only [hvid, hl, if_true]
    rfl
  have hin : inputsOn v p = [n] := (inputsOn_single (s := v) hf ho hst hr).1
  have hlv : lockedVideo v p = true := by
    unfold lockedVideo
    simp only [hvid, hl, hst]
    rfl
  let y : SdiRx := { sdiRx v p with
    frame := fiAt s f.domain x.at_, frameAt := some x.at_
    arrival := some ((x.at_ : Int) - (tOf s f.domain (fiAt s f.domain x.at_) : Int)), trsSeen := false, crcSeen := false }
  have hne : ((flowD (setRx p y v) n).essence != 1) = true := by
    rw [flowD_single (s := setRx p y v) hf, he]; rfl
  have hbegin : beginFrame p (fiAt s f.domain x.at_) x.at_ v = frameBegins n (fiAt s f.domain x.at_) x.at_ 0 (setRx p y v) := by
    unfold beginFrame
    simp only [hvid, hlv, if_true]
    show (((inputsOn (setRx p y v) p).filter (fun k => (flowD (setRx p y v) k).essence != 1)).foldl _ (setRx p y v)) = _
    rw [show inputsOn (setRx p y v) p = [n] from hin]
    simp only [List.filter_cons, hne, if_true, List.filter_nil, List.foldl_cons, List.foldl_nil]
  obtain ⟨ik, hik⟩ := frameBegins_unprocessed (s := setRx p y v) hf (nsOf_onSdi ho) n (fiAt s f.domain x.at_) x.at_ 0
  have hx' : opSdiFrameStart p x s = { setRx p y v with ika := ik } := by
    refine hx.trans ?_
    show beginFrame p (sdiFrameNum v p x.at_) x.at_ (readyPort p x v) = _
    rw [readyPort_none x (inputsOn_single (s := v) hf ho hst hr).2, hnum, hbegin, hik]
  have hy : ∀ d, tgetD (tput v.svp.rx p y) p d = y := tgetD_tput_same _ _ _
  have hv : sdiRx v p = identify x (sdiRx s p) := tgetD_tput_same _ _ _ _
  refine completes_of rfl hx' hq ⟨congrArg SdiRx.frame (hy {}), congrArg SdiRx.frameAt (hy {}), congrArg SdiRx.arrival (hy {}), ?_, rfl, ?_⟩
  · refine (congrArg SdiRx.st (hy {})).trans ?_
    show (sdiRx v p).st = _
    rw [hv]; exact h
  · show ({ setRx p y v with ika := ik } : State) = _
    clear_value y
    rfl

theorem eq_of_mem_ite {α : Type} {c : Prop} [Decidable c] {a e : α} (h : e ∈ if c then [a] else []) : e = a := by
  split at h
  · exact List.mem_singleton.mp h
  · exact absurd h List.not_mem_nil

/-- The sources a frame that does not fit is reported by. -/
theorem frameFaults_src {s : State} {p : Nat} {f : Flow} {x : SdiFrame} {t : Option Nat} {e : Ev}
    (he : e ∈ (frameFaults s p f x t).filter realEvent) : (e.src = 0x0E6 ∨ e.src = 0x0E7) ∧ e.written = false := by
  obtain ⟨hm, hr⟩ := List.mem_filter.mp he
  unfold frameFaults at hm
  rcases List.mem_append.mp hm with hm | hm
  · split at hm
    · rw [List.mem_singleton.mp hm]; exact ⟨Or.inl rfl, rfl⟩
    · split at hm
      · rw [List.mem_singleton.mp hm] at hr; exact absurd hr (by decide)
      · exact absurd hm List.not_mem_nil
  · rw [eq_of_mem_ite hm]; exact ⟨Or.inr rfl, rfl⟩

/-- A RUNNING flow whose stop is not armed is held with its event last. -/
theorem holdFlow_running {n fmt : Nat} {s : State} (hr : (flowD s n).st = .running) (hs : (flowD s n).stop = none) :
    holdFlow n fmt s = journalFlow n (raise { src := 0x07C, data := [(2, n), (2, detectedCode (flowD s n) fmt)] }
      (setFlow n (heldFlow fmt (flowD s n)) s)) := by
  unfold holdFlow
  rw [if_neg (by rw [hr]; decide)]
  exact if_neg (by rw [hs]; decide)

theorem sdiFrameStart_misfits {s : State} {p n : Nat} {f : Flow} {x : SdiFrame} (hq : Settled s) (h : (sdiRx s p).st = .identified)
    (hi : x.inverted = (sdiRx s p).invert) (hf : s.flows = [(n, f)]) (ho : onSdi 0 p n f = true) (he : f.essence = 0)
    (hst : f.st = .running) (hs : f.stop = none) (hr : f.restore = none)
    (hfit : frameFaults (setRx p (identify x (sdiRx s p)) s) p f x ((sdiRx s p).frameAt.map (fun t => x.at_ - t)) ≠ [])
    (h6 : bit (rd s .fltSrcCfg 0x0E6) 27 = false) (h7 : bit (rd s .fltSrcCfg 0x0E7) 27 = false) : Completes (.sdiFrameStart p x) s (fun t =>
        (flowD t n).st = .held ∧ (flowD t n).detected = detectedCode f (if x.vpidHere then x.format else x.format / 16 * 16) ∧
          Raised 0x07C [(2, n), (2, detectedCode f (if x.vpidHere then x.format else x.format / 16 * 16))] 0 s t) := by
  let fmt := if x.vpidHere then x.format else x.format / 16 * 16
  let v := setRx p (identify x (sdiRx s p)) (atLeast x.at_ s)
  let l := frameFaults v p f x ((sdiRx s p).frameAt.map (fun t => x.at_ - t))
  have hvid : videoOn v 0 p = some (n, f) := videoOn_single (s := v) hf ho he
  have hin : inputsOn v p = [n] := (inputsOn_single (s := v) hf ho hst hr).1
  have hv : sdiRx v p = identify x (sdiRx s p) := tgetD_tput_same _ _ _ _
  have hdet : detectedOf v p = fmt := by
    unfold detectedOf
    rw [hv]
    exact if_pos h
  obtain ⟨g, hall, hg⟩ := raiseAll_others (l.filter realEvent) v
  let w : State := { v with flt := g }
  have hD : flowD w n = f := flowD_single (s := w) hf
  have hhold := holdFlow_running (n := n) (fmt := fmt) (s := w) (by rw [hD]; exact hst) (by rw [hD]; exact hs)
  rw [hD] at hhold
  obtain ⟨jq, jo, hj⟩ := journalFlow_journalled n (raise { src := 0x07C, data := [(2, n), (2, detectedCode f fmt)] } (setFlow n (heldFlow fmt f) w))
  rw [hj] at hhold
  let r := raise { src := 0x07C, data := [(2, n), (2, detectedCode f fmt)] } (setFlow n (heldFlow fmt f) w)
  have hjudge : judgeFrame p x ((sdiRx s p).frameAt.map (fun t => x.at_ - t)) v = journalled jq jo r := by
    have hne : l.isEmpty = false := List.isEmpty_eq_false_iff.mpr hfit
    unfold judgeFrame
    simp only [hvid]
    rw [hin, hdet, if_neg (by rw [show List.isEmpty (frameFaults v p f x _) = false from hne]; simp)]
    rw [show raiseAll (List.filter realEvent (frameFaults v p f x _)) v = w from hall]
    exact hhold
  have hflows : r.flows = [(n, heldFlow fmt f)] := by
    show tput s.flows n (heldFlow fmt f) = _
    rw [hf]
    simp [tput]
  have hready : waitingOn (journalled jq jo r) p = [] := by
    show tkeys r.flows _ = []
    rw [hflows]
    exact tkeys_none _ _ fun q hm => by rw [List.mem_singleton.mp hm]; simp [heldFlow]
  have hnone (y : SdiRx) : inputsOn (setRx p y (journalled jq jo r)) p = [] := by
    show tkeys r.flows _ = []
    rw [hflows]
    exact tkeys_none _ _ fun q hm => by rw [List.mem_singleton.mp hm]; simp [heldFlow]
  obtain ⟨y, hbegin⟩ : ∃ y, beginFrame p (sdiFrameNum (journalled jq jo r) p x.at_) x.at_ (journalled jq jo r) = setRx p y (journalled jq jo r) := by
    unfold beginFrame
    dsimp only
    rw [hnone]
    exact ⟨_, rfl⟩
  have hx := opSdiFrameStart_identified h hi hf ho he hst hs hr
  have hx' : opSdiFrameStart p x s = setRx p y (journalled jq jo r) := by
    refine hx.trans ?_
    rw [show judgeFrame p x _ (setRx p (identify x (sdiRx s p)) (atLeast x.at_ s)) = _ from hjudge]
    dsimp only
    rw [readyPort_none x hready, hbegin]
  have hothers : ∀ src, src ≠ 0x0E6 → src ≠ 0x0E7 → OtherRaises src s.flt g := fun src n6 n7 => hg src fun e hem => by
    obtain ⟨hsrc, hw⟩ := frameFaults_src hem
    rcases hsrc with hsrc | hsrc
    · exact ⟨Or.inr (by rw [hsrc]; exact h6), hw, by rw [hsrc]; exact n6⟩
    · exact ⟨Or.inr (by rw [hsrc]; exact h7), hw, by rw [hsrc]; exact n7⟩
  have hDt : flowD (setRx p y (journalled jq jo r)) n = heldFlow fmt f := flowD_single (s := setRx p y (journalled jq jo r)) hflows
  have hraised : Raised 0x07C [(2, n), (2, detectedCode f fmt)] 0 s r :=
    (raise_raised { src := 0x07C, data := [(2, n), (2, detectedCode f fmt)] } (setFlow n (heldFlow fmt f) w) rfl).after
      (hothers 0x07C (by decide) (by decide))
  refine completes_of rfl hx' ((raise_resetQ _ _ rfl).trans ((hothers 0 (by decide) (by decide)).1.trans hq)) ⟨?_, ?_, hraised⟩
  · rw [hDt]; rfl
  · rw [hDt]; rfl

end Sys2Proof.Machine

namespace Sys2Proof.Machine
open Sys2Proof

/-! ## Received lines (R161, R165, R166) -/

theorem raises_others {α : Type} (l : List α) (ev : α → Ev) (s : State) (hu : ∀ x, (ev x).unit = none) :
    ∃ f, l.foldl (fun s x => raise (ev x) s) s = { s with flt := f } ∧ f.resetQ = s.flt.resetQ := by
  induction l generalizing s with
  | nil => exact ⟨s.flt, rfl, rfl⟩
  | cons x l ih =>
    obtain ⟨f, hx, hf⟩ := ih (raise (ev x) s)
    exact ⟨f, hx, hf.trans (raise_resetQ _ _ (hu x))⟩

/-- Cells discarded for cancelled windows: none where no window waits. -/
theorem discardLocal_frame (n k : Nat) (s : State) : ∃ pd cn f,
    discardLocal n k s = { s with swc := { s.swc with prefetchDiscard := pd }, tt := { s.tt with cancelled := cn }, flt := f } ∧
      f.resetQ = s.flt.resetQ ∧ (s.tt.cancelled = [] → pd = s.swc.prefetchDiscard ∧ cn = s.tt.cancelled ∧ f = s.flt) := by
  have hsame : ∃ pd cn f, s = { s with swc := { s.swc with prefetchDiscard := pd }, tt := { s.tt with cancelled := cn }, flt := f } ∧
      f.resetQ = s.flt.resetQ ∧ (s.tt.cancelled = [] → pd = s.swc.prefetchDiscard ∧ cn = s.tt.cancelled ∧ f = s.flt) :=
    ⟨s.swc.prefetchDiscard, s.tt.cancelled, s.flt, rfl, rfl, fun _ => ⟨rfl, rfl, rfl⟩⟩
  unfold discardLocal
  split
  · exact hsame
  · unfold discardAhead
    dsimp only
    split
    · exact hsame
    · next h =>
      obtain ⟨f, hx, hf⟩ := raises_others _ (fun x : Nat × RunAhead => ({ src := 0x041, data := [(2, n), (4, x.1)] } : Ev)) _ fun _ => rfl
      rw [hx]
      exact ⟨_, _, f, rfl, hf, fun hc => absurd (by rw [hc]; rfl) h⟩

/-- A line of a flow that no processed flow buffers is stored, and that is all. -/
theorem takeLine_stores {s : State} {n : Nat} {f : Flow} (hf : s.flows = [(n, f)]) (hn : nsOf n = 0) (fi k : Nat) (bytes : List Byte) :
    ∃ st pd cn g, takeLine n fi k bytes s =
        { s with swc := { s.swc with store := st, prefetchDiscard := pd }, tt := { s.tt with cancelled := cn }, flt := g } ∧
      g.resetQ = s.flt.resetQ ∧ (s.tt.cancelled = [] → pd = s.swc.prefetchDiscard ∧ cn = s.tt.cancelled ∧ g = s.flt) ∧
      (tgetD (tgetD st n []) k {}).bytes = bytes ∧ (tgetD (tgetD st n []) k {}).fi = fi ∧ (tgetD (tgetD st n []) k {}).line = k ∧
      (tgetD (tgetD st n []) k {}).complete = true := by
  obtain ⟨pd, cn, g, hd, hg, hc⟩ := discardLocal_frame n (cellsPerLine (flowD s n).format) s
  let x : Stored := { line := k, fi := fi, bytes := bytes, cells := cellsPerLine (flowD s n).format, complete := true, at_ := s.tim.now
                      sig := if (flowD s n).sigEn then some (signature s n k (fi % 256) 0 bytes) else none }
  have hs : storeLine n fi k bytes s = setStored n k x (discardLocal n (cellsPerLine (flowD s n).format) s) := by
    unfold storeLine
    dsimp only
    rw [hd]
    rfl
  rw [hd] at hs
  have hap : activeProcs (storeLine n fi k bytes s) = [] := by
    unfold activeProcs
    rw [show (storeLine n fi k bytes s).flows = [(n, f)] by rw [hs]; exact hf, List.filter_cons, hn]
    rfl
  have hfeed : feeds (storeLine n fi k bytes s) n = [] := by
    unfold feeds
    rw [hap]; rfl
  have ht : takeLine n fi k bytes s = storeLine n fi k bytes s := by
    unfold takeLine arrived
    rw [hfeed]; rfl
  have hx : tgetD (tgetD (tupd s.swc.store n [] (fun t => tput t k x)) n []) k {} = x := by
    unfold tupd
    rw [tgetD_tput_same, tgetD_tput_same]
  exact ⟨tupd s.swc.store n [] (fun t => tput t k x), pd, cn, g, ht.trans hs, hg, hc, congrArg Stored.bytes hx, congrArg Stored.fi hx,
    congrArg Stored.line hx, congrArg Stored.complete hx⟩

/-- A line with no packets and a good CRC is judged by its TRS alone. -/
theorem opSdiLineRx_plain {s : State} {p : Nat} {l : SdiLine} (h : (sdiRx s p).st = .identified) (hc : l.crcBad = none)
    (ha : l.audioBad = []) (hn : l.anc = []) : opSdiLineRx p l s = (fun w : State =>
      if (if (sdiRx w p).trsTol = 0 then 3 else (sdiRx w p).trsTol) ≤ (sdiRx w p).badLines then loseSignal p 2 w else storeSdiLine p l w)
      (setRx p { sdiRx (trsLine p l s) p with bchFixed := (sdiRx (trsLine p l s) p).bchFixed + l.audioFixed } (trsLine p l s)) := by
  have hcrc : crcLine p l s = s := by unfold crcLine; rw [hc]
  have hj (u : State) : judgePackets p l u = setRx p { sdiRx u p with bchFixed := (sdiRx u p).bchFixed + l.audioFixed } u := by
    unfold judgePackets
    rw [hn, ha]
    rfl
  unfold opSdiLineRx
  rw [if_neg (by rw [h]; decide), hcrc, hj]

theorem sdiLineRx_stores {s : State} {p n k : Nat} {f : Flow} {l : SdiLine} (hq : Settled s) (h : (sdiRx s p).st = .identified)
    (hf : s.flows = [(n, f)]) (ho : onSdi 0 p n f = true) (he : f.essence = 0) (hst : f.st = .running) (hr : f.restore = none)
    (hk : activeOf f.format (picLine (sdiRx s p) l) = some k) (hfr : (sdiRx s p).frame < 2 ^ 32 - 1) (ht : l.trsBad = false)
    (hc : l.crcBad = none) (ha : l.audioBad = []) (hn : l.anc = []) : Completes (.sdiLineRx p l) s (fun t =>
        (stored t n k).bytes = l.bytes ∧ (stored t n k).fi = (sdiRx s p).frame ∧ (stored t n k).line = k ∧ (stored t n k).complete = true ∧
          (sdiRx t p).badLines = 0 ∧ t = { s with svp := { s.svp with rx := t.svp.rx }, swc := { s.swc with store := t.swc.store, prefetchDiscard := t.swc.prefetchDiscard }, tt := { s.tt with cancelled := t.tt.cancelled }, ika := t.ika, flt := t.flt } ∧
          (s.tt.cancelled = [] → t.tt = s.tt ∧ t.flt = s.flt ∧ t.swc = { s.swc with store := t.swc.store })) := by
  let y : SdiRx := { sdiRx s p with badLines := 0, flywheel := false, bchFixed := (sdiRx s p).bchFixed + l.audioFixed }
  let s1 := setRx p { sdiRx s p with badLines := 0, flywheel := false } s
  let w := setRx p y s1
  have htrs : trsLine p l s = s1 := if_neg (by rw [ht]; decide)
  have hs1 : sdiRx s1 p = { sdiRx s p with badLines := 0, flywheel := false } := tgetD_tput_same _ _ _ _
  have hw : setRx p { sdiRx s1 p with bchFixed := (sdiRx s1 p).bchFixed + l.audioFixed } s1 = w := by rw [hs1]
  have hwy : sdiRx w p = y := tgetD_tput_same _ _ _ _
  have hx := opSdiLineRx_plain h hc ha hn
  rw [htrs, hw] at hx
  have htol : ¬ (if (sdiRx w p).trsTol = 0 then 3 else (sdiRx w p).trsTol) ≤ (sdiRx w p).badLines := by
    rw [hwy]
    show ¬ (if (sdiRx s p).trsTol = 0 then 3 else (sdiRx s p).trsTol) ≤ 0
    split <;> omega
  replace hx := hx.trans (if_neg htol)
  have hin : inputsOn w p = [n] := (inputsOn_single (s := w) hf ho hst hr).1
  have hD : flowD w n = f := flowD_single (s := w) hf
  obtain ⟨st, pd, cn, g, htake, hg, hcan, hb, hfi, hln, hco⟩ := takeLine_stores (s := w) hf (nsOf_onSdi ho) (sdiRx s p).frame k l.bytes
  have hstore : storeSdiLine p l w = takeLine n (sdiRx s p).frame k l.bytes w := by
    have hk' : activeOf f.format (picLine y l) = some k := hk
    have hfr' : y.frame < 2 ^ 32 - 1 := hfr
    unfold storeSdiLine
    simp only [hin, hD, he, hwy, List.filter_cons, List.filter_nil]
    show (inputsOn w p).foldl _ w = _
    rw [hin]
    simp only [List.foldl_cons, List.foldl_nil, hD, he, hk', hfr', if_true]
    rfl
  rw [hstore, htake] at hx
  have hty : ∀ d, tgetD (tput s1.svp.rx p y) p d = y := tgetD_tput_same _ _ _
  refine completes_of rfl hx (hg.trans hq) ⟨hb, hfi, hln, hco, congrArg SdiRx.badLines (hty {}), rfl, fun hcn => ?_⟩
  obtain ⟨rfl, rfl, rfl⟩ := hcan hcn
  exact ⟨rfl, rfl, rfl⟩

theorem sdiLineRx_loses {s : State} {p : Nat} {l : SdiLine} (hq : Settled s) (h : (sdiRx s p).st = .identified) (ht : l.trsBad = true)
    (hc : l.crcBad = none) (ha : l.audioBad = []) (hn : l.anc = [])
    (htol : (if (sdiRx s p).trsTol = 0 then 3 else (sdiRx s p).trsTol) ≤ (sdiRx s p).badLines + 1)
    (h1 : bit (rd s .fltSrcCfg 0x0E1) 27 = false) (h3 : bit (rd s .fltSrcCfg 0x0E3) 27 = false) :
      Completes (.sdiLineRx p l) s (fun t => (sdiRx t p).st = .hunt ∧
        (tgetD t.flt.stat 0x0E1 {}).count = min ((tgetD s.flt.stat 0x0E1 {}).count + 1) 255 ∧ t.swc = s.swc) := by
  let y : SdiRx := { sdiRx s p with badLines := (sdiRx s p).badLines + 1, flywheel := true, trsSeen := true }
  let e : Ev := { src := 0x0E3, data := [(1, sdiLabel s p), (2, l.ifLine)], unit := rxUnit p }
  have htrs : trsLine p l s = raiseIf (!(sdiRx s p).trsSeen) e (setRx p y s) := if_pos ht
  have heq := raiseIf_eq (!(sdiRx s p).trsSeen) e (setRx p y s)
  have hoth (src : Nat) (hsrc : src ≠ 0x0E3) := otherRaises_raiseIf_unit (src := src) (!(sdiRx s p).trsSeen) e (setRx p y s) (Or.inr h3) rfl hsrc
  generalize hg : (raiseIf (!(sdiRx s p).trsSeen) e (setRx p y s)).flt = g at heq hoth
  have hu : trsLine p l s = { setRx p y s with flt := g } := htrs.trans heq
  have huy : sdiRx (trsLine p l s) p = y := by rw [hu]; exact tgetD_tput_same _ _ _ _
  let z : SdiRx := { y with bchFixed := y.bchFixed + l.audioFixed }
  let w := setRx p z { setRx p y s with flt := g }
  have hx := opSdiLineRx_plain h hc ha hn
  rw [huy, hu] at hx
  have hwz : sdiRx w p = z := tgetD_tput_same _ _ _ _
  replace hx : opSdiLineRx p l s = loseSignal p 2 w := hx.trans (if_pos (by
    show (if (sdiRx w p).trsTol = 0 then 3 else (sdiRx w p).trsTol) ≤ (sdiRx w p).badLines
    rw [hwz]; exact htol))
  obtain ⟨x, u, fl, hxs, ⟨cs, fo, f, hu', ho⟩, hre, hrq, -, -⟩ := loseSignal_holds (s := w) (p := p) (cause := 2)
    ((hoth 0 (by decide)).1.trans hq) h1
  have ho' : OtherRaises 0x0E1 s.flt (setRx p x u).flt := by
    rw [hu']; exact (hoth 0x0E1 (by decide)).trans (ho 0x0E1 (by decide) (by decide))
  have hcount := ho'.count (e := { src := 0x0E1, data := [(1, sdiLabel w p), (1, 2)], unit := rxUnit p }) rfl (hre.others (by decide) (by decide))
  obtain ⟨jq, jo, h', g', w', hv, -, -⟩ := hre
  refine completes_of rfl hx hrq ⟨?_, hcount, ?_⟩
  · rw [hv]; exact (congrArg SdiRx.st (tgetD_tput_same _ _ _ _)).trans hxs
  · rw [hv, hu']; rfl

end Sys2Proof.Machine

namespace Sys2Proof.Machine
open Sys2Proof

/-! ## Operations that a change of the fault collector goes through -/

/-- The operation does to the rest of a state what it does whatever the fault collector holds. -/
def FltBlind (op : State → State) : Prop := ∀ s g, ∃ g', op { s with flt := g } = { op s with flt := g' }

/-- An operation that leaves the fault collector. -/
theorem FltBlind.keeps {op : State → State} (h : ∀ s g, op { s with flt := g } = { op s with flt := g }) : FltBlind op :=
  fun s g => ⟨g, h s g⟩

theorem FltBlind.comp {p q : State → State} (hq : FltBlind q) (hp : FltBlind p) : FltBlind (fun s => q (p s)) := fun s g => by
  obtain ⟨g1, h1⟩ := hp s g
  obtain ⟨g2, h2⟩ := hq (p s) g1
  exact ⟨g2, (congrArg q h1).trans h2⟩

theorem FltBlind.foldl {α : Type} {op : α → State → State} (h : ∀ a, FltBlind (op a)) (l : List α) :
    FltBlind (fun s => l.foldl (fun s a => op a s) s) := by
  induction l with
  | nil => exact .keeps fun _ _ => rfl
  | cons a l ih => exact .comp ih (h a)

theorem FltBlind.ite {c : State → Prop} [∀ s, Decidable (c s)] {p q : State → State} (hc : ∀ s g, c { s with flt := g } ↔ c s)
    (hp : FltBlind p) (hq : FltBlind q) : FltBlind (fun s => if c s then p s else q s) := fun s g => by
  dsimp only
  by_cases h : c s
  · rw [if_pos h, if_pos ((hc s g).mpr h)]; exact hp s g
  · rw [if_neg h, if_neg (mt (hc s g).mp h)]; exact hq s g

/-- An operation chosen by a part of the state that is not the fault collector. -/
theorem FltBlind.bind {α : Type} {v : State → α} {op : α → State → State} (hv : ∀ s g, v { s with flt := g } = v s) (h : ∀ a, FltBlind (op a)) :
    FltBlind (fun s => op (v s) s) := fun s g => by
  dsimp only
  rw [hv]
  exact h (v s) s g

theorem raise_fltBlind (e : Ev) : FltBlind (raise e) := fun _ _ => ⟨_, rfl⟩

theorem journal_fltBlind (type : Nat) (data : List Byte) : FltBlind (journal type data) :=
  .ite (fun _ _ => Iff.rfl) (.keeps fun _ _ => rfl) (.keeps fun _ _ => rfl)

theorem journalFlow_fltBlind (n : Nat) : FltBlind (journalFlow n) :=
  .bind (op := journal 0x10) (v := fun s => flowRecord s n) (fun _ _ => rfl) (journal_fltBlind 0x10)

theorem signalVector_fltBlind (v k : Nat) : FltBlind (signalVector v k) :=
  .ite (fun _ _ => Iff.rfl) (.keeps fun _ _ => rfl) (.ite (fun _ _ => Iff.rfl) (.keeps fun _ _ => rfl) (.keeps fun _ _ => rfl))

theorem signalRing_fltBlind (cfg : Nat) : FltBlind (signalRing cfg) :=
  .ite (fun _ _ => Iff.rfl) (signalVector_fltBlind _ _) (.keeps fun _ _ => rfl)

/-- What a completion's entry reads of the state. -/
structure CplPlace where
  n : Nat
  q : CplRing
  base : Nat
  size : Nat
  head : Nat
  now : Nat
  cfg : Nat

def cplPlace (c : Cmd) (s : State) : CplPlace :=
  { n := cplOf s c.ring, q := cplRing s (cplOf s c.ring), base := rdAddr s .hifCplBaseLo .hifCplBaseHi (cplOf s c.ring)
    size := cplSize s (cplOf s c.ring), head := (cmdRing s c.ring).head, now := s.tim.now, cfg := rd s .hifCplCfg (cplOf s c.ring) }

theorem writeCpl_fltBlind (c : Cmd) (op : Nat) (r : Reply) : FltBlind (writeCpl c op r) := by
  refine .ite (fun _ _ => Iff.rfl) (.keeps fun _ _ => rfl) (.ite (fun _ _ => Iff.rfl) ?_ ?_)
  · exact .bind (v := cplPlace c) (op := fun z s => raise { src := 0x001, data := [(1, z.n)], addr := z.base + 32 * z.q.tail }
      (dropLine (z.base + 32 * z.size) (setCplRing z.n { z.q with en := false } s))) (fun _ _ => rfl) fun z =>
      .comp (raise_fltBlind _) (.keeps fun _ _ => rfl)
  · exact .bind (v := cplPlace c) (op := fun z s => signalRing z.cfg
      (setCplRing z.n { z.q with tail := (advance z.size z.q.tail z.q.phase).1, phase := (advance z.size z.q.tail z.q.phase).2, used := z.q.used + 1 }
        (hostWrite (z.base + 32 * z.q.tail) (cplEntry c op r z.q.phase z.head z.now) s))) (fun _ _ => rfl) fun z =>
      .comp (signalRing_fltBlind _) (.comp (.keeps fun _ _ => rfl) (.keeps fun _ _ => rfl))

theorem alog_fltBlind (a : Nat) (sp : Space) (m n : Nat) : FltBlind (alog a sp m n) := fun s g => by
  obtain ⟨f1, h1⟩ : ∃ f, alog a sp m n s = { s with flt := f } := ⟨_, raiseIf_eq _ _ _⟩
  obtain ⟨f2, h2⟩ : ∃ f, alog a sp m n { s with flt := g } = { s with flt := f } := ⟨_, raiseIf_eq _ _ _⟩
  exact ⟨f2, by rw [h1, h2]⟩

theorem logStatus_fltBlind (c : Cmd) (r : Reply) : FltBlind (logStatus c r) :=
  fun s g => by
    unfold logStatus
    split
    · exact ⟨g, rfl⟩
    · exact alog_fltBlind (if r.err = 0 then entryAddr s c.ring else r.err) .host c.ring 0x3FF s g

theorem completeOne_fltBlind (c : Cmd) (op : Nat) (r : Reply) : FltBlind (completeOne c op r) :=
  .comp (q := fun s => { setCmdRing c.ring { cmdRing s c.ring with busy := false, gone := false } s with hif :=
      { (setCmdRing c.ring { cmdRing s c.ring with busy := false, gone := false } s).hif with
        replied := some { ring := c.ring, tag := c.tag, op := op, st := r.st, result := r.result, err := r.err } } })
    (.keeps fun _ _ => rfl) (.comp (writeCpl_fltBlind c op r) (logStatus_fltBlind c r))

theorem releaseFences_fltBlind (n q : Nat) : FltBlind (releaseFences n q) := by
  induction n generalizing q with
  | zero => exact .keeps fun _ _ => rfl
  | succ n ih =>
    exact .bind (v := fun s => s.hif.fences.map (fencePassed q)) (fun _ _ => rfl)
      (op := fun fs s => match fs.find? (fun f => f.rings.isEmpty) with
        | none => { s with hif := { s.hif with fences := fs } }
        | some f => releaseFences n f.cmd.ring (completeOne f.cmd 0x0003 replyDone { s with hif := { s.hif with fences := fs.erase f } }))
      fun fs => by
        cases hf : fs.find? (fun f => f.rings.isEmpty) with
        | none => exact .keeps fun _ _ => rfl
        | some f => exact .comp (ih _) (.comp (completeOne_fltBlind _ _ _) (.keeps fun _ _ => rfl))

theorem complete_fltBlind (c : Cmd) (op : Nat) (r : Reply) : FltBlind (complete c op r) := fun s g => by
  obtain ⟨g1, h1⟩ := completeOne_fltBlind c op r s g
  obtain ⟨g2, h2⟩ := releaseFences_fltBlind s.hif.fences.length c.ring (completeOne c op r s) g1
  exact ⟨g2, (congrArg (releaseFences s.hif.fences.length c.ring) h1).trans h2⟩

theorem stopFlow_fltBlind (n : Nat) : FltBlind (stopFlow n) :=
  .bind (v := fun s => flowD s n) (fun _ _ => rfl)
    (op := fun f s => match f.stop with
      | some (c, _) => (c :: f.stopMore).foldl (fun s c => complete c 0x0103 replyDone s) (journalFlow n (setFlow n (stoppedFlow f) s))
      | none => journalFlow n (setFlow n (stoppedFlow f) s))
    fun f => by
      have h : FltBlind fun s => journalFlow n (setFlow n (stoppedFlow f) s) := .comp (journalFlow_fltBlind n) (.keeps fun _ _ => rfl)
      cases f.stop with
      | none => exact h
      | some c => exact .comp (.foldl (fun c => complete_fltBlind c 0x0103 replyDone) _) h

theorem advanceTx_fltBlind (p : Nat) (f : Flow) : FltBlind (advanceTx p f) :=
  .bind (v := fun s => sdiTx s p) (fun _ _ => rfl)
    (op := fun x s => if x.line < fmtTotal f.format then setTx p { x with line := x.line + 1 } s
      else (fun u => setTx p { x with line := 1, frame := x.frame + 1, sending := running u x.flow } u)
        (if f.st == .running && f.stop.isSome then stopFlow x.flow s else s))
    fun x => .ite (fun _ _ => Iff.rfl) (.keeps fun _ _ => rfl)
      (.comp (q := fun u => setTx p { x with line := 1, frame := x.frame + 1, sending := running u x.flow } u)
        (p := fun s => if f.st == .running && f.stop.isSome then stopFlow x.flow s else s) (.keeps fun _ _ => rfl) (.ite (fun _ _ => Iff.rfl) (stopFlow_fltBlind _) (.keeps fun _ _ => rfl)))

/-! ## Transmitted lines (R168 to R175) -/

/-- The end of a line leaves the sources of other events as they are. -/
theorem advanceTx_others (p : Nat) (f : Flow) (s : State) {src : Nat} (h1 : src ≠ 0x001) (h2 : src ≠ 0x07C) :
    OtherRaises src s.flt (advanceTx p f s).flt := by
  unfold advanceTx
  dsimp only
  split
  · exact .refl _ _
  · show OtherRaises src s.flt (if f.st == .running && f.stop.isSome then stopFlow (sdiTx s p).flow s else s).flt
    split
    · exact (stopFlow_reflowed _ s).others h1 h2
    · exact .refl _ _

/-- The event of a failed check of the generator of a transmitter's line. -/
def txCheck (p : Nat) : Ev := { src := 0x245, data := [(1, 0), (1, p)] }

/-- A line of a sending transmitter: what is built, what a failed signature and a failed generator check report, and the next line. -/
theorem opSdiTxLine_sends {s : State} {p : Nat} {skew : Int} (hs : (sdiTx s p).sending = true) (hr : sdiRuns s = true)
    (h9 : bit (rd s .fltSrcCfg 0x0E9) 27 = false) (h5 : bit (rd s .fltSrcCfg 0x0E5) 27 = false) :
    ∃ (w : State) (o : SdiOut) (c : Bool → Bool) (k : Nat), c false = false ∧
      (∀ src, src ≠ 0x0E9 → src ≠ 0x0E5 → OtherRaises src s.flt w.flt) ∧
      ∀ fr gb, opSdiTxLine p fr gb skew s = (fun u => advanceTx p (flowD s (sdiTx s p).flow) { u with wire := u.wire ++ [.sdi p o] })
        (checkFail gb (txCheck p) (if c fr.sig then sigFail (sdiTx s p).flow (sdiTx s p).frame
          { src := 0x244, data := [(2, (sdiTx s p).flow), (2, k)] } w else w)) := by
  let x := sdiTx s p
  let f := flowD s x.flow
  let s1 := atLeast (txInstant s x f skew) s
  let y := plat s1 (ixOf x.flow)
  let want := activeOf f.format x.line
  let here := want == some y.line && y.fi == x.frame
  let fill := want.isSome && (!here || y.fill)
  let bytes := if want.isNone then [] else if here then y.bytes else blackLine f.format f.colour
  let s2 := raiseIf (want.isSome && !here) { src := 0x0E9, data := [(1, p), (2, x.line)], unit := some (.sdiTx p) } s1
  let o := buildLine s2 p x f fill bytes
  have h2 (src : Nat) (h : src ≠ 0x0E9) : OtherRaises src s.flt s2.flt :=
    otherRaises_raiseIf_unit _ { src := 0x0E9, data := [(1, p), (2, x.line)], unit := some (.sdiTx p) } s1 (Or.inr h9) rfl h
  have h3 (src : Nat) (h : src ≠ 0x0E5) : OtherRaises src s2.flt (dropAnc p x.frame o.2 s2).flt := by
    have hb : bit (rd s2 .fltSrcCfg 0x0E5) 27 = false := by
      rw [show s2 = _ from raiseIf_eq _ _ _]; exact h5
    unfold dropAnc
    split
    · exact .refl _ _
    · next r l hl =>
      dsimp only
      let z : SdiTx := { sdiTx s2 p with ancDrops := satAdd 16 (sdiTx s2 p).ancDrops o.2.length }
      obtain ⟨g, hg, ho⟩ := raiseOnce_others p x.frame
        { src := 0x0E5, data := [(1, p), (2, fieldAt r 0 2 % 2048), (1, fieldAt r 6 2 % 256)], unit := some (.sdiTx p) } (setTx p z s2)
      rw [hg]
      exact ho src (Or.inr hb) rfl h
  refine ⟨dropAnc p x.frame o.2 s2, o.1, fun b => b && !fill && want.isSome && (flowD (dropAnc p x.frame o.2 s2) y.src).sigEn, want.getD 0,
    rfl, fun src n9 n5 => (h2 src n9).trans (h3 src n5), fun fr gb => if_neg ?_⟩
  rw [hs, hr]; decide

end Sys2Proof.Machine

namespace Sys2Proof.Machine
open Sys2Proof

theorem sigFail_others (inst slot : Nat) (e : Ev) (s : State) : ∃ f, sigFail inst slot e s = { s with flt := f } ∧ ∀ src,
    (e.unit = none ∨ bit (rd s .fltSrcCfg e.src) 27 = false) → e.written = false → src ≠ e.src → OtherRaises src s.flt f := by
  obtain ⟨f, hx, hf⟩ := raiseOnce_others inst slot e (countSig s)
  exact ⟨f, hx, hf⟩

/-- A line with failing checks is the line without them, but for what the fault collector holds. -/
theorem sdiTxLine_checked {s : State} {p : Nat} {skew : Int} {fr : ReadFault} {gb : Bool} (hq : Settled s) (hs : (sdiTx s p).sending = true)
    (hr : sdiRuns s = true) (h9 : bit (rd s .fltSrcCfg 0x0E9) 27 = false) (h5 : bit (rd s .fltSrcCfg 0x0E5) 27 = false) :
    Completes (.sdiTxLine p fr gb skew) s (fun t =>
      Completes (.sdiTxLine p {} false skew) s (fun v => t = { v with flt := t.flt }) ∧ (gb = true → RaisedOnce 0x245 s t)) := by
  obtain ⟨w, o, c, k, hc, how, hop⟩ := opSdiTxLine_sends (p := p) (skew := skew) hs hr h9 h5
  let f := flowD s (sdiTx s p).flow
  let send : State → State := fun u => advanceTx p f { u with wire := u.wire ++ [.sdi p o] }
  have hsend : FltBlind send := .comp (advanceTx_fltBlind p f) (.keeps fun _ _ => rfl)
  obtain ⟨g1, h1, ho1⟩ : ∃ g, (if c fr.sig then sigFail (sdiTx s p).flow (sdiTx s p).frame { src := 0x244, data := [(2, (sdiTx s p).flow), (2, k)] } w else w)
      = { w with flt := g } ∧ ∀ src, src ≠ 0x244 → OtherRaises src w.flt g := by
    split
    · obtain ⟨g, hg, ho⟩ := sigFail_others (sdiTx s p).flow (sdiTx s p).frame { src := 0x244, data := [(2, (sdiTx s p).flow), (2, k)] } w
      exact ⟨g, hg, fun src h => ho src (Or.inl rfl) rfl h⟩
    · exact ⟨w.flt, rfl, fun _ _ => .refl _ _⟩
  obtain ⟨g2, h2, hq2, hgb⟩ : ∃ g, checkFail gb (txCheck p) { w with flt := g1 } = { w with flt := g } ∧ g.resetQ = g1.resetQ ∧
      (gb = true → (tgetD g.stat 0x245 {}).count = min ((tgetD g1.stat 0x245 {}).count + 1) 255) := by
    unfold checkFail
    split
    · exact ⟨_, rfl, raise_resetQ (txCheck p) (countSig { w with flt := g1 }) rfl,
        fun _ => (raise_raised (txCheck p) (countSig { w with flt := g1 }) rfl).1⟩
    · next h => exact ⟨g1, rfl, rfl, fun h' => absurd h' h⟩
  obtain ⟨g3, h3⟩ := hsend w g2
  have hx : opSdiTxLine p fr gb skew s = send { w with flt := g2 } := by rw [hop, h1, h2]
  have hx' : opSdiTxLine p {} false skew s = send w := by
    rw [hop]
    show send (if c false then _ else w) = send w
    rw [hc]; rfl
  have hou (src : Nat) (n1 : src ≠ 0x001) (n2 : src ≠ 0x07C) (u : State) : OtherRaises src u.flt (send u).flt := advanceTx_others p f _ n1 n2
  have hwq : w.flt.resetQ = [] := ((how 0 (by decide) (by decide)).1).trans hq
  refine completes_of rfl hx ?_ ⟨completes_of rfl hx' ?_ ?_, fun hb => ?_⟩
  · exact (hou 0 (by decide) (by decide) _).1.trans (hq2.trans ((ho1 0 (by decide)).1.trans hwq))
  · exact (hou 0 (by decide) (by decide) _).1.trans hwq
  · rw [h3]
  · have ho : OtherRaises 0x245 s.flt g1 := (how 0x245 (by decide) (by decide)).trans (ho1 0x245 (by decide))
    show (tgetD (send { w with flt := g2 }).flt.stat 0x245 {}).count = _
    rw [(hou 0x245 (by decide) (by decide) { w with flt := g2 }).2.1, hgb hb, ho.2.1]

/-- A line of a transmitter that inserts no packets: the line built is what its platform holds, or the fill. -/
theorem opSdiTxLine_plain {s : State} {p k : Nat} {skew : Int} (hs : (sdiTx s p).sending = true) (hr : sdiRuns s = true)
    (hk : activeOf (flowD s (sdiTx s p).flow).format (sdiTx s p).line = some k) (ha : ancOut s p (sdiTx s p).frame = [])
    (hl : (sdiTx s p).line < fmtTotal (flowD s (sdiTx s p).flow).format) (here : Bool)
    (hh : (some k == some (plat s (ixOf (sdiTx s p).flow)).line && (plat s (ixOf (sdiTx s p).flow)).fi == (sdiTx s p).frame) = here) :
    ∃ o, opSdiTxLine p {} false skew s = (fun u : State => setTx p { sdiTx s p with line := (sdiTx s p).line + 1 } { u with wire := u.wire ++ [.sdi p o] })
        (raiseIf (!here) { src := 0x0E9, data := [(1, p), (2, (sdiTx s p).line)], unit := some (.sdiTx p) }
          (atLeast (txInstant s (sdiTx s p) (flowD s (sdiTx s p).flow) skew) s)) ∧
      o.line = (sdiTx s p).line ∧ o.fill = (!here || (plat s (ixOf (sdiTx s p).flow)).fill) ∧
      o.bytes = (if here then (plat s (ixOf (sdiTx s p).flow)).bytes else blackLine (flowD s (sdiTx s p).flow).format (flowD s (sdiTx s p).flow).colour) ∧
      o.anc = [] ∧ o.audio = embedded s p (sdiTx s p).frame (sdiTx s p).line (flowD s (sdiTx s p).flow) ∧
      o.levelB = sendsLevelB (sdiTx s p) (flowD s (sdiTx s p).flow) ∧ o.invert = (sdiTx s p).invert := by
  let x := sdiTx s p
  let f := flowD s x.flow
  let s1 := atLeast (txInstant s x f skew) s
  let y := plat s (ixOf x.flow)
  let s2 := raiseIf (!here) { src := 0x0E9, data := [(1, p), (2, x.line)], unit := some (.sdiTx p) } s1
  let bytes := if here then y.bytes else blackLine f.format f.colour
  let o := buildLine s2 p x f (!here || y.fill) bytes
  have h2 : s2 = { s1 with flt := s2.flt } := raiseIf_eq _ _ _
  have ha2 : ancOut s2 p x.frame = [] := by rw [h2]; exact ha
  have hlost : o.2 = [] := by
    show (buildLine s2 p x f _ _).2 = []
    unfold buildLine
    simp only [ha2, List.filter_nil, List.map_nil, ite_self]
    rfl
  have hanc : o.1.anc = [] := by
    show (buildLine s2 p x f _ _).1.anc = []
    unfold buildLine
    simp only [ha2, List.filter_nil, List.map_nil]
    rfl
  have hx : opSdiTxLine p {} false skew s = advanceTx p f { s2 with wire := s2.wire ++ [.sdi p o.1] } := by
    have hgo : (!x.sending || !sdiRuns s) = false := by rw [hs, hr]; rfl
    unfold opSdiTxLine
    dsimp only
    rw [if_neg (by rw [show (!(sdiTx s p).sending || !sdiRuns s) = false from hgo]; decide)]
    rw [hk]
    simp only [show (some k == some (plat (atLeast (txInstant s (sdiTx s p) (flowD s (sdiTx s p).flow) skew) s) (ixOf (sdiTx s p).flow)).line &&
      (plat (atLeast (txInstant s (sdiTx s p) (flowD s (sdiTx s p).flow) skew) s) (ixOf (sdiTx s p).flow)).fi == (sdiTx s p).frame) = here from hh,
      Option.isSome_some, Option.isNone_some, Bool.true_and, Bool.false_eq_true, if_false, Bool.false_and]
    show advanceTx p f { (dropAnc p x.frame o.2 s2) with wire := (dropAnc p x.frame o.2 s2).wire ++ [.sdi p o.1] } = _
    rw [hlost]
    rfl
  have hadv (u : State) (hu : sdiTx u p = x) : advanceTx p f u = setTx p { x with line := x.line + 1 } u := by
    unfold advanceTx
    rw [hu]
    exact if_pos hl
  refine ⟨o.1, hx.trans (hadv _ (by rw [h2]; rfl)), rfl, rfl, rfl, hanc, ?_, rfl, rfl⟩
  show embedded s2 p x.frame x.line f = _
  rw [h2]; rfl

/-- The instant of a line is its nominal one but for the skew. -/
theorem txInstant_eq (s : State) (x : SdiTx) (f : Flow) (skew : Int) : (txInstant s x f skew : Int) =
    max 0 ((tOf s f.domain x.frame + linesNs f.format (f.depth + x.line - 1) + x.txOffset : Nat) + max (-10) (min 10 skew)) :=
  (Int.toNat_eq_max _).trans (max_comm _ _)

/-- Settles O30: a frame start by the state of its receiver, a received line by its errors, a transmitted line by what its platform holds. -/
theorem sdiFramesLinesAndOutput : Obligations.SdiFramesLinesAndOutput := by
  intro s p n k f x l rx tx skew fr gb hq hrx htx hp
  subst hrx htx
  refine ⟨fun h => completes_of rfl (opSdiFrameStart_ignored h) hq rfl, fun h hi hfa hg hfm hv hr hb => ?_, fun h hi hfa hfl => ?_,
    sdiFrameStart_fits hq, sdiFrameStart_misfits hq, fun h => completes_of rfl (if_pos (bne_iff_ne.mpr h)) hq rfl,
    sdiLineRx_stores hq, sdiLineRx_loses hq, fun h => ?_, sdiTxLine_checked hq, fun hs hr hf hk ha hl => ?_⟩
  · obtain ⟨u, hx, hu, h1, h2, h3, h4, h5, h6⟩ := lockedFrame_identifies (s := atLeast x.at_ s) hq hfa hg hfm hv hr hb
    exact completes_of rfl ((opSdiFrameStart_locked h hi).trans hx) hu ⟨h1, h2, h3, h4, h5, by rw [h6]; rfl, by rw [h6]; rfl⟩
  · have hx : lockedFrame p x (atLeast x.at_ s) =
        setRx p { takeVpid x (sdiRx s p) with goodFrames := 0, frameAt := some x.at_, format := x.format } (atLeast x.at_ s) := by
      have hin : inputsOn (atLeast x.at_ s) p = [] := by
        show tkeys s.flows _ = []
        rw [hfl]; rfl
      have hsame : (sdiRx (atLeast x.at_ s) p).frameAt.isSome = false := by
        rw [show (sdiRx (atLeast x.at_ s) p).frameAt = none from hfa]; rfl
      unfold lockedFrame
      simp only [hsame, Bool.false_and, Bool.false_eq_true, if_false, hin]
      exact if_pos (by decide)
    exact completes_of rfl ((opSdiFrameStart_locked h hi).trans hx) hq ⟨tgetD_tput_same _ _ _ _, rfl⟩
  · refine completes_of rfl (if_pos ?_) hq rfl
    rcases h with h | h <;> simp [h]
  · subst hf
    refine ⟨fun hline hfi => ?_, fun hline h9 => ?_⟩
    · obtain ⟨o, hx, h1, h2, h3, h4, h5, h6, h7⟩ := opSdiTxLine_plain (skew := skew) hs hr hk ha hl true (by simp [hline, hfi])
      exact completes_of rfl hx hq ⟨rfl, txInstant_eq _ _ _ _, ⟨o, rfl, h1, h2, h3, h4, h5, h6, h7⟩, rfl⟩
    · obtain ⟨o, hx, h1, h2, h3, h4, h5, h6, h7⟩ := opSdiTxLine_plain (skew := skew) hs hr hk ha hl false (by simp [Ne.symm hline])
      let e : Ev := { src := 0x0E9, data := [(1, p), (2, (sdiTx s p).line)], unit := some (.sdiTx p) }
      let u := atLeast (txInstant s (sdiTx s p) (flowD s (sdiTx s p).flow) skew) s
      exact completes_of rfl hx ((raise_resetQ' e u (Or.inr h9)).trans hq) ⟨raise_raised e u rfl, ⟨o, rfl, h1, h2, h3, h4, h5, h6, h7⟩, rfl⟩

end Sys2Proof.Machine

namespace Sys2Proof.Machine
open Sys2Proof

/-! ## Commands of the network ports (R178, R189 to R194, R203) -/

/-- An ACCEPTED command whose checks pass. -/
theorem checked_accepted {c : Cmd} {op : Nat} {ch : Bool} {checks : State → List (Bool × Reply)} {act : State → Reply × State} {s u : State}
    (hk : firstErr (checks s) = none) (ha : act s = (accepted, u)) (hc : Clear s) (hf : u.hif.fences = []) (hq : u.flt.resetQ = []) :
    EndsAccepted c op u (settle (hostCmd c op ch (checked checks act) s)) :=
  hostCmd_accepted c op ch _ s ((checked_ok _ _ _ hk).trans ha) hc hf hq

/-- A completion with an error leaves all but the log. -/
theorem complete_fails {c : Cmd} {op st err : Nat} {s : State} (hf : s.hif.fences = []) (hq : s.flt.resetQ = []) :
    Fails c op st err s (settle (complete c op { st := st, err := err } s)) := by
  rw [settle_of_nil _ (by rw [complete_resetQ]; exact hq)]
  exact ⟨complete_same _ _ _ _, complete_replied _ _ _ _ hf⟩

theorem streamSet_sets {c : Cmd} {s : State} {a n q : Nat} {img l : List Byte} (hc : Clear s) (hh : c.hostOk = true)
    (hk : firstErr (streamChecks (place a img s) a) = none) (hl : l = hostBytes (place a img s) a 64) (hn : normFlow (fieldAt l 0 2) = n) :
      Completes (.nmpStreamSet c a img) s (fun t => Replied c 0x0130 0 0 0 t ∧
        (stream t n).ssrc = fieldAt l 4 4 ∧ (stream t n).legs.length = (if fieldAt l 2 1 = 2 then 2 else 1) ∧
        (stream t n).legs.head? = some (parseLeg (slice l 8 28)) ∧ (stream t n).pktsA = 0 ∧ (stream t n).rejects = 0 ∧
        (q ≠ n → stream t q = stream s q) ∧
        t = { s with nmp := { s.nmp with streams := t.nmp.streams }, red := { s.red with jseq := t.red.jseq, jout := t.red.jout }, hif := t.hif, flt := t.flt, wire := t.wire }) := by
  let x : Stream := { ssrc := fieldAt l 4 4, legs := parseLeg (slice l 8 28) :: (if fieldAt l 2 1 = 2 then [parseLeg (slice l 36 28)] else []) }
  obtain ⟨j, o, hd⟩ := journalFlow_journalled n (setStream n x (place a img s))
  have hcp := clear_place hc a img
  have he : EndsDone c 0x0130 0 (journalled j o (setStream n x (place a img s))) (settle (opNmpStreamSet c a img s)) :=
    checked_done ((firstErr_pass (by rw [hh]; rfl)).trans hk) (by dsimp only; rw [← hl, hn]; exact congrArg (Prod.mk _) hd) hcp hcp.1 hcp.2.1
  have hx : ∀ d, tgetD (tput s.nmp.streams n x) n d = x := tgetD_tput_same _ _ _
  refine completes_ends rfl he fun h f w hr => ⟨hr, congrArg Stream.ssrc (hx {}), (congrArg (fun y => y.legs.length) (hx {})).trans ?_,
    congrArg (fun y => y.legs.head?) (hx {}), congrArg Stream.pktsA (hx {}), congrArg Stream.rejects (hx {}), fun hne => tgetD_tput_ne _ _ _ hne, rfl⟩
  show (_ :: ite _ _ _).length = _
  split <;> rfl

theorem gateLoad_loads {c : Cmd} {s : State} {a m k : Nat} {img l : List Byte} (hc : Clear s) (hkm : k ≠ m) (hm : m < 16) (hh : c.hostOk = true)
    (hl : l = hostBytes (place a img s) a 1040) (h1 : 1 ≤ fieldAt l 8 2) (h256 : fieldAt l 8 2 ≤ 256)
    (hn : fieldAt (hostBytes (place a img s) a 16) 8 2 = fieldAt l 8 2)
    (he : ∀ e ∈ parseGates l (fieldAt l 8 2), bit e.1 7 = true ∧ e.2 ≠ 0) (hcy : gateCycle (parseGates l (fieldAt l 8 2)) ≤ 1000000000)
    (hfit : macFits (place a img s) m (some { base := fieldAt l 0 8, entries := parseGates l (fieldAt l 8 2), start := gateStart (fieldAt l 0 8) (max 1 (gateCycle (parseGates l (fieldAt l 8 2)))) s.tim.now, tag := c.tag }) [] = true) :
      Completes (.nmpGateLoad c m a img) s (fun t => Replied c 0x0132 1 0 0 t ∧
        (mac t m).pend = some { base := fieldAt l 0 8, entries := parseGates l (fieldAt l 8 2), start := gateStart (fieldAt l 0 8) (max 1 (gateCycle (parseGates l (fieldAt l 8 2)))) s.tim.now, tag := c.tag } ∧
        (mac t m).oper = (mac s m).oper ∧ mac t k = mac s k ∧
        t = { s with nmp := { s.nmp with macs := t.nmp.macs }, red := { s.red with jseq := t.red.jseq, jout := t.red.jout }, hif := t.hif, flt := t.flt, wire := t.wire }) := by
  let g : GateList := { base := fieldAt l 0 8, entries := parseGates l (fieldAt l 8 2), start := gateStart (fieldAt l 0 8) (max 1 (gateCycle (parseGates l (fieldAt l 8 2)))) s.tim.now, tag := c.tag }
  let x : Mac := { mac s m with pend := some g }
  obtain ⟨j, o, hd⟩ := journal_journalled 0x12 (gateBytes m g) (setMac m x (place a img s))
  have hcp := clear_place hc a img
  have hany : (parseGates l (fieldAt l 8 2)).any (fun e => !bit e.1 7 || e.2 == 0) = false := by
    rw [List.any_eq_false]
    intro e hem
    obtain ⟨hb, hz⟩ := he e hem
    simp [hb, hz]
  have hend : EndsAccepted c 0x0132 (journalled j o (setMac m x (place a img s))) (settle (opNmpGateLoad c m a img s)) := by
    refine checked_accepted ?_ ?_ hcp hcp.1 hcp.2.1
    · simp only [← hl, hn, Nat.min_eq_right h256]
      refine (firstErr_pass ?_).trans ((firstErr_pass ?_).trans ((firstErr_pass ?_).trans ((firstErr_pass ?_).trans (firstErr_pass ?_))))
      · exact decide_eq_false (by omega)
      · rw [hh]; rfl
      · rw [Bool.or_eq_false_iff]; exact ⟨beq_eq_false_iff_ne.mpr (by omega), decide_eq_false (by omega)⟩
      · rw [Bool.or_eq_false_iff]; exact ⟨hany, decide_eq_false (by omega)⟩
      · rw [Bool.not_eq_false']; exact hfit
    · simp only [← hl, Nat.min_eq_right h256]
      exact congrArg (Prod.mk _) hd
  have hx : ∀ d, tgetD (tput s.nmp.macs m x) m d = x := tgetD_tput_same _ _ _
  exact completes_ends rfl hend fun h f w hr => ⟨hr, congrArg Mac.pend (hx {}), (congrArg Mac.oper (hx {})).trans rfl, tgetD_tput_ne _ _ _ hkm, rfl⟩

/-- The checks of NMP_FRAME_SEND but for the last. -/
theorem frameSend_checks {c : Cmd} {s : State} {m q len opt a : Nat} {img : List Byte} (hc : Clear s) (hm : m ≤ 16) (hq : q ≤ 6) (h14 : 14 ≤ len)
    (hlen : len ≤ 9212) (hopt : opt ≤ 1) (hh : c.hostOk = true) :
    firstErr [(barred (place a img s), denied), (decide (16 < m), badArg c 24 (place a img s)), (decide (6 < q), badArg c 25 (place a img s)),
      (decide (len < 14) || decide (9212 < len), badArg c 26 (place a img s)), (decide (1 < opt), badArg c 28 (place a img s)),
      (!c.hostOk, addressError a), (decide (64 ≤ (mac (place a img s) m).frames.length), noResource)] =
    firstErr [(decide (64 ≤ (mac s m).frames.length), noResource)] := by
  rw [firstErr_pass (show barred (place a img s) = false from hc.2.2), firstErr_pass (by simp [hm]), firstErr_pass (by simp [hq]), firstErr_pass (by simp [h14, hlen]),
    firstErr_pass (by simp [hopt]), firstErr_pass (by simp [hh])]
  rfl

/-- Settles O31: the descriptors by their tables, the refusals by their checks. -/
theorem networkCommandsComplete : Obligations.NetworkCommandsComplete := by
  intro c s a n m k q len opt img l r hc hkm
  have hcp := clear_place hc a img
  refine ⟨fun hh hk hl hn => streamSet_sets hc hh hk hl hn, fun hh hk _ => ⟨_, rfl, checked_refused ((firstErr_pass (by rw [hh]; rfl)).trans hk) hcp⟩,
    fun hn hf he hh => ⟨_, rfl, ?_⟩, fun he => ⟨_, rfl, checked_fails ?_ hc⟩, gateLoad_loads hc hkm, fun hm => ⟨_, rfl, checked_fails ?_ hcp⟩,
    fun hm hq h14 hlen hopt hh hfr hup => ?_, fun hm hq h14 hlen hopt hh hfr hup => ?_, fun hm hq h14 hlen hopt hh hfr => ?_⟩
  · obtain ⟨hf', hq', -⟩ := clear_place hc a (streamRecord s (normFlow n))
    exact checked_done (by simp [firstErr, hn, Option.isSome_iff_ne_none.mp hf, he]) (readBack_ok hh a _ s) hc hf' hq'
  · simp [firstErr, he, badArg, badField]
  · simp [firstErr, hm, badArg, badField]; rfl
  all_goals have hk := frameSend_checks (a := a) (img := img) hc hm hq h14 hlen hopt hh
  · have hk' := hk.trans (firstErr_pass (by simp [hfr]))
    have hx : opNmpFrameSend c m q len opt a img s = holdRing c (setMac m { mac s m with
        frames := (mac s m).frames ++ [{ queue := q, bytes := hostBytes (place a img s) a len, csum := opt == 1, cmd := some c, at_ := s.tim.now }] } (place a img s)) := by
      unfold opNmpFrameSend
      dsimp only
      rw [hk']
      exact if_neg (by rw [show macUp (place a img s) m = true from hup]; decide)
    refine completes_of rfl hx hcp.2.1 ⟨congrArg Mac.frames (tgetD_tput_same s.nmp.macs m _ _), ?_, tgetD_tput_ne _ _ _ hkm, rfl⟩
    exact congrArg CmdRing.busy (tgetD_tput_same s.hif.cmd c.ring _ _)
  · have hk' := hk.trans (firstErr_pass (by simp [hfr]))
    have hx : opNmpFrameSend c m q len opt a img s = complete c 0x0133 replyDone (countDown m (place a img s)) := by
      unfold opNmpFrameSend
      dsimp only
      rw [hk']
      exact if_pos (by rw [show macUp (place a img s) m = false from hup]; decide)
    exact completes_of rfl hx ((complete_resetQ _ _ _ _).trans hcp.2.1) ⟨complete_frame _ _ _ _ hcp.1 (Or.inl rfl), complete_replied _ _ _ _ hcp.1⟩
  · have hk' := hk.trans (firstErr_fail (by simp [hfr]))
    have hx : opNmpFrameSend c m q len opt a img s = complete c 0x0133 noResource (place a img s) := by
      unfold opNmpFrameSend
      dsimp only
      rw [hk']
    exact completes_of rfl hx ((complete_resetQ _ _ _ _).trans hcp.2.1) ⟨complete_same _ _ _ _, complete_replied _ _ _ _ hcp.1⟩

end Sys2Proof.Machine

namespace Sys2Proof.Machine
open Sys2Proof

/-! ## Links, gate lists and the management MAC (R180, R199, R208 to R210) -/

theorem signalRing_wire (cfg : Nat) (s : State) : s.wire <+: (signalRing cfg s).wire := by
  unfold signalRing signalVector
  dsimp only
  split
  · split
    · exact List.prefix_rfl
    · split
      · exact List.prefix_rfl
      · exact List.prefix_append _ _
  · exact List.prefix_rfl

/-- A completion sends no more than its vector's message. -/
theorem complete_wire (c : Cmd) (op : Nat) (s : State) (hf : s.hif.fences = []) : s.wire <+: (complete c op replyDone s).wire := by
  have hl : logStatus c replyDone s = s := if_pos (Or.inl rfl)
  unfold complete
  rw [hf]
  show s.wire <+: (writeCpl c op replyDone (logStatus c replyDone s)).wire
  rw [hl]
  unfold writeCpl
  dsimp only
  split
  · exact List.prefix_rfl
  · split
    · exact List.prefix_rfl
    · generalize cplEntry c op replyDone _ _ _ = l
      exact List.IsPrefix.trans (List.prefix_rfl (l := s.wire)) (signalRing_wire _ (setCplRing _ _ (hostWrite _ l s)))

/-- What a completion with DONE leaves, and what it answers. -/
theorem complete_done (c : Cmd) (op : Nat) {s : State} (hf : s.hif.fences = []) :
    CompletionOnly c s (complete c op replyDone s) ∧ Replied c op 0 0 0 (complete c op replyDone s) :=
  ⟨complete_frame c op replyDone s hf (Or.inl rfl), complete_replied c op replyDone s hf⟩

/-- A frame discarded or sent completes its command. -/
theorem frameDone_cmd {h : HostFrame} {d : Cmd} (hd : h.cmd = some d) (s : State) : frameDone h s = complete d 0x0133 replyDone s := by
  unfold frameDone; rw [hd]

theorem nmpLinkDown_falls {s : State} {m k n cause : Nat} {f : Flow} (hq : Settled s) (hkm : k ≠ m) (hm : m < 16) (he : macEn s m = true)
    (hup : (mac s m).st = .up) (hcause : cause < 2) (hfr : (mac s m).frames = []) (hb : bit (rd s .fltSrcCfg 0x101) 27 = false) :
      Completes (.nmpLinkDown m cause) s (fun t =>
        (mac t m).st = (if macAn s m then .negotiating else .training) ∧ (mac t m).fecLock = false ∧ mac t k = mac s k ∧
        (s.flows = [(n, f)] → nsOf n = 0 → f.st = .running → f.endpoint = 1 → legMacs f = [m] → f.stop = none → (flowD t n).st = .held) ∧
        Raised 0x101 [(1, m), (1, cause)] 0 s t ∧
        t = { s with nmp := { s.nmp with macs := t.nmp.macs }, flows := t.flows, red := { s.red with jseq := t.red.jseq, jout := t.red.jout }, hif := t.hif, flt := t.flt, wire := t.wire }) := by
  have hm16 : m ≠ 16 := Nat.ne_of_lt hm
  let x : Mac := { mac s m with st := if macAn s m then .negotiating else .training, fecLock := false }
  let y : Mac := { x with frames := [] }
  let u : State := { s with nmp := { s.nmp with macs := tput (tput s.nmp.macs m x) m y } }
  have hu : discardFrames m (setMac m x s) = u := by
    have hx : mac (setMac m x s) m = x := tgetD_tput_same _ _ _ _
    have hfx : x.frames = [] := hfr
    unfold discardFrames
    rw [hx]
    dsimp only
    rw [hfx, if_neg hm16, if_neg hm16]
    rfl
  have hy : ∀ d, tgetD u.nmp.macs m d = y := tgetD_tput_same _ _ _
  have hdown : macUp u m = false := by
    unfold macUp
    rw [if_neg hm16, show mac u m = y from hy {}]
    show ((if macAn s m then MacSt.negotiating else MacSt.training) == .up || (if macAn s m then MacSt.negotiating else MacSt.training) == .lowPower) = false
    split <;> rfl
  obtain ⟨fl, hre, -, hheld⟩ := holdFlows_reflowed
    (tkeys u.flows (fun n f => nsOf n == 0 && f.st == .running && f.endpoint == 1 && (legMacs f).all (fun m => !macUp u m))) 0xFFFF u
  have hx : opNmpLinkDown m cause s = raise { src := 0x101, data := [(1, m), (1, cause)], unit := some (.mac m) } (holdLegless u) := by
    have h1 : ¬ ((15 < m || !macEn s m) = true) := by rw [he]; simp; omega
    have h2 : (cause < 2 && macUp s m) = true := by
      unfold macUp
      rw [if_neg hm16, hup]
      simp [hcause]
    refine (if_neg h1).trans ((if_neg (by omega)).trans ((if_pos h2).trans ?_))
    exact congrArg (fun v => raise { src := 0x101, data := [(1, m), (1, cause)], unit := some (.mac m) } (holdLegless v)) hu
  have ho := hre.others (src := 0x101) (by decide) (by decide)
  have hrq := hre.resetQ
  unfold holdLegless at hx
  obtain ⟨jq, jo, h', g, w', hv, -, -⟩ := hre
  rw [hv] at ho hrq
  rw [hv] at hx
  let e : Ev := { src := 0x101, data := [(1, m), (1, cause)], unit := some (.mac m) }
  refine completes_of rfl hx ((raise_resetQ' e _ (Or.inr (by exact hb))).trans (hrq.trans hq)) ⟨?_, ?_, ?_, fun hfl hns hst hep hleg hstop => ?_, ?_, rfl⟩
  · exact congrArg Mac.st (hy {})
  · exact congrArg Mac.fecLock (hy {})
  · exact (tgetD_tput_ne _ _ _ hkm).trans (tgetD_tput_ne _ _ _ hkm)
  · have hD : flowD u n = f := flowD_single (s := u) hfl
    have hmem : n ∈ tkeys u.flows (fun n f => nsOf n == 0 && f.st == .running && f.endpoint == 1 && (legMacs f).all (fun m => !macUp u m)) := by
      show n ∈ tkeys s.flows _
      rw [hfl]
      unfold tkeys
      simp [hns, hst, hep, hleg, hdown]
    have := hheld n hmem (by rw [hD]; exact hst) (by rw [hD]; exact hstop)
    show (tgetD fl n {}).st = .held
    unfold tgetD
    rw [this]
    rfl
  · exact (raise_raised e _ rfl).after ho

theorem nmpAnRetry_starts {s : State} {m k t0 : Nat} (hq : Settled s) (hkm : k ≠ m) (hr : (mac s m).retryAt = some t0) :
    Completes (.nmpAnRetry m) s (fun t =>
      (mac t m).st = (if macAn s m then .negotiating else .training) ∧ (mac t m).retryAt = none ∧ t.tim.now = max s.tim.now t0 ∧ mac t k = mac s k ∧
        t = { s with nmp := { s.nmp with macs := t.nmp.macs }, lnx := t.lnx, tim := { s.tim with now := t.tim.now } }) := by
  obtain ⟨x, hx⟩ : ∃ x, (macLanes (rd (atLeast t0 s) .nmpMacCfg m)).foldl (fun s n => startMacLane m n s) (atLeast t0 s) =
      { atLeast t0 s with lnx := x } := ⟨_, startMacLanes_frame m _ _⟩
  have hop : opNmpAnRetry m s = macStart m (atLeast t0 s) := by
    unfold opNmpAnRetry; rw [hr]
  unfold macStart at hop
  rw [hx] at hop
  exact completes_of rfl hop hq ⟨congrArg Mac.st (tgetD_tput_same s.nmp.macs m _ {}), congrArg Mac.retryAt (tgetD_tput_same s.nmp.macs m _ {}), rfl,
    tgetD_tput_ne _ _ _ hkm, rfl⟩

theorem nmpGateStart_starts {s : State} {m k : Nat} {g : GateList} (hq : Settled s) (hkm : k ≠ m) (hp : (mac s m).pend = some g) :
    Completes (.nmpGateStart m) s (fun t =>
      (mac t m).oper = some g ∧ (mac t m).pend = none ∧ (mac t m).gateIx = 0 ∧ (mac t m).gateAt = namedAt s (gatesFrom g) g.start ∧
        (s.tim.jumps = [] → (mac t m).gateAt = g.start) ∧ t.tim.now = max s.tim.now (mac t m).gateAt ∧
        mac t k = mac s k ∧ Final 0x10B g.tag t ∧ Raised 0x10B [(1, m), (4, ts32 (mac t m).gateAt)] 0 s t ∧
        t = { s with nmp := { s.nmp with macs := t.nmp.macs }, tim := { s.tim with now := t.tim.now }, flt := t.flt }) := by
  let i := namedAt s (gatesFrom g) g.start
  let x : Mac := { mac s m with oper := some g, pend := none, gateIx := 0, gateAt := i }
  let e : Ev := { src := 0x10B, data := [(1, m), (4, ts32 i)], fin := some g.tag }
  let u := setMac m x (atLeast i s)
  have hop : opNmpGateStart m s = raise e u := by
    unfold opNmpGateStart
    dsimp only
    split
    · next h => cases h.symm.trans hp
    · next h => cases h.symm.trans hp; rfl
  have hx : ∀ d, tgetD (tput s.nmp.macs m x) m d = x := tgetD_tput_same _ _ _
  have hat : (mac (raise e u) m).gateAt = i := congrArg Mac.gateAt (hx {})
  refine completes_of rfl hop ((raise_resetQ e u rfl).trans hq) ⟨congrArg Mac.oper (hx {}), congrArg Mac.pend (hx {}), congrArg Mac.gateIx (hx {}), hat,
    fun hj => ?_, by rw [hat]; rfl, tgetD_tput_ne _ _ _ hkm, raise_final e u _ rfl rfl, by rw [hat]; exact raise_raised e u rfl, rfl⟩
  rw [hat]
  show namedAt s _ _ = _
  unfold namedAt
  rw [hj]; rfl

theorem nmpGateInterval_next {s : State} {m k : Nat} {g : GateList} (hq : Settled s) (hkm : k ≠ m) (ho : (mac s m).oper = some g)
    (hl : g.entries.length ≠ 0) (hix : (mac s m).gateIx < g.entries.length) : Completes (.nmpGateInterval m) s (fun t =>
      (mac t m).gateIx = ((mac s m).gateIx + 1) % g.entries.length ∧ (mac t m).gateAt = (mac s m).gateAt + (g.entries.getD (mac s m).gateIx (0, 0)).2 ∧
        t.tim.now = max s.tim.now (mac t m).gateAt ∧ mac t k = mac s k ∧
        t = { s with nmp := { s.nmp with macs := t.nmp.macs }, tim := { s.tim with now := t.tim.now } }) := by
  let i := (mac s m).gateAt + (g.entries.getD (mac s m).gateIx (0, 1)).2
  let x : Mac := { mac s m with gateIx := ((mac s m).gateIx + 1) % max 1 g.entries.length, gateAt := i }
  have hop : opNmpGateInterval m s = setMac m x (atLeast i s) := by
    unfold opNmpGateInterval
    dsimp only
    split
    · next h => cases h.symm.trans ho
    · next h => cases h.symm.trans ho; rfl
  have hx : ∀ d, tgetD (tput s.nmp.macs m x) m d = x := tgetD_tput_same _ _ _
  have hat : (mac (setMac m x (atLeast i s)) m).gateAt = i := congrArg Mac.gateAt (hx {})
  refine completes_of rfl hop hq ⟨(congrArg Mac.gateIx (hx {})).trans ?_, hat.trans ?_, by rw [hat]; rfl, tgetD_tput_ne _ _ _ hkm, rfl⟩
  · show ((mac s m).gateIx + 1) % max 1 g.entries.length = _
    rw [max_eq_right (Nat.pos_of_ne_zero hl)]
  · show _ + (g.entries.getD _ _).2 = _
    rw [List.getD_eq_getElem _ _ hix, List.getD_eq_getElem _ _ hix]

theorem nmpFrameSent_completes {s : State} {m k : Nat} {h : HostFrame} {d : Cmd} (hq : Settled s) (hf : s.hif.fences = []) (hkm : k ≠ m)
    (hfr : (mac s m).frames = [h]) (hm : m < 16) (hup : macUp s m = true)
    (hgo : goesNow s m { queue := h.queue, at_ := h.at_, bytes := h.bytes.length } = true) (hd : h.cmd = some d) (hk : d.cplOk = true) :
    Completes (.nmpFrameSent m) s (fun t =>
      Replied d 0x0133 0 0 0 t ∧ (mac t m).frames = [] ∧ mac t k = mac s k ∧
        t.wire.take (s.wire.length + 1) = s.wire ++ [.eth m (withFcs (if h.csum then withChecksums h.bytes else h.bytes))] ∧
        t = { s with nmp := { s.nmp with macs := t.nmp.macs }, hif := t.hif, wire := t.wire }) := by
  have hm16 : (m == 16) = false := beq_eq_false_iff_ne.mpr (Nat.ne_of_lt hm)
  let l := withFcs (if h.csum then withChecksums h.bytes else h.bytes)
  let x : Mac := { mac s m with frames := [] }
  let u : State := { setMac m x s with wire := s.wire ++ [.eth m l] }
  have hop : opNmpFrameSent m s = complete d 0x0133 replyDone u := by
    have hno : (!macUp s m || (m == 16 && s.nmp.backoff.isSome) || !goesNow s m { queue := h.queue, at_ := h.at_, bytes := h.bytes.length }) = false := by
      rw [hup, hm16, hgo]; rfl
    have her : (mac s m).frames.erase h = [] := by rw [hfr]; simp
    unfold opNmpFrameSent
    rw [hfr]
    show (if (!macUp s m || (m == 16 && s.nmp.backoff.isSome) || !goesNow s m _) = true then s else _) = _
    rw [hno, if_neg (by decide), if_neg (Nat.ne_of_lt hm), if_neg (by rw [hd]; exact Bool.false_ne_true), frameDone_cmd hd]
    rw [show [h].erase h = [] by simp]
    rfl
  have hend := complete_done d 0x0133 (s := u) hf
  have hkeep := hend.1.2.1
  have hsame : complete d 0x0133 replyDone u = { u with hif := _, flt := _, wire := _ } := hend.1.same
  have hw : u.wire <+: (complete d 0x0133 replyDone u).wire := complete_wire d 0x0133 u hf
  have hflt := (hkeep hk).1
  have hx : ∀ d, tgetD (tput s.nmp.macs m x) m d = x := tgetD_tput_same _ _ _
  have hrep := hend.2
  have hreset : (complete d 0x0133 replyDone u).flt.resetQ = [] := (complete_resetQ _ _ _ _).trans hq
  generalize hv : complete d 0x0133 replyDone u = v at *
  have hnm : v.nmp.macs = tput s.nmp.macs m x := (congrArg (fun z : State => z.nmp.macs) hsame).trans rfl
  refine completes_of rfl hop hreset ⟨hrep, ?_, ?_, ?_, ?_⟩
  · show (tgetD v.nmp.macs m {}).frames = []
    rw [hnm, hx]
  · show tgetD v.nmp.macs k {} = tgetD s.nmp.macs k {}
    rw [hnm, tgetD_tput_ne _ _ _ hkm]
  · have hlen : u.wire.length = s.wire.length + 1 := by simp [u]
    rw [← hlen]
    exact (List.prefix_iff_eq_take.mp hw).symm
  · rw [hflt] at hsame
    rw [hnm]
    exact hsame

/-- The frame being sent by the management MAC is lost: late, or after sixteen attempts. -/
theorem mgmtCollision_loses {s : State} {sent slots : Nat} {h : HostFrame} {d : Cmd} (hq : Settled s) (hf : s.hif.fences = [])
    (hfr : (mac s 16).frames = [h]) (hhd : halfDuplex s = true) (hbo : s.nmp.backoff = none) (hlate : 512 < sent ∨ 15 ≤ s.nmp.attempts)
    (hd : h.cmd = some d) : Completes (.mgmtMacCollision sent slots) s (fun t =>
      (mac t 16).frames = [] ∧ t.nmp.attempts = 0 ∧ t.nmp.backoff = none ∧ Replied d 0x0133 0 0 0 t ∧
        (d.cplOk = true → Raised 0x10C [(1, if 512 < sent then 0 else 1)] 0 s t) ∧
        t = { s with nmp := { s.nmp with macs := t.nmp.macs, attempts := 0, backoff := none, lateColl := t.nmp.lateColl, excessColl := t.nmp.excessColl }, hif := t.hif, flt := t.flt, wire := t.wire }) := by
  let late : Bool := decide (512 < sent)
  let x : Mac := { mac s 16 with frames := [] }
  let u : State := { s with
    nmp := { s.nmp with
      macs := tput s.nmp.macs 16 x, attempts := 0, backoff := none, lateColl := if late then satAdd 8 s.nmp.lateColl 1 else s.nmp.lateColl
      excessColl := if late then s.nmp.excessColl else satAdd 8 s.nmp.excessColl 1 }
    wire := s.wire ++ [.jam] }
  let e : Ev := { src := 0x10C, data := [(1, if 512 < sent then 0 else 1)] }
  have hlose (b : Bool) (hb : b = late) : loseFrame b h { s with wire := s.wire ++ [.jam] } = raise e (complete d 0x0133 replyDone u) := by
    have hdec : (if late = true then 0 else 1) = (if 512 < sent then 0 else 1) := by simp [late]
    subst hb
    unfold loseFrame
    dsimp only
    rw [frameDone_cmd hd, hdec, show (mac _ 16).frames.erase h = [] by show (mac s 16).frames.erase h = []; rw [hfr]; simp]
    rfl
  have hop : opMgmtMacCollision sent slots s = raise e (complete d 0x0133 replyDone u) := by
    have hno : (!halfDuplex s || s.nmp.backoff.isSome) = false := by rw [hhd, hbo]; rfl
    unfold opMgmtMacCollision
    rw [hfr]
    show (if (!halfDuplex s || s.nmp.backoff.isSome) = true then s else _) = _
    rw [hno, if_neg (by decide)]
    dsimp only
    split
    · next hs => exact hlose true (decide_eq_true hs).symm
    · next hs =>
      have h15 := hlate.resolve_left hs
      rw [if_pos (by omega)]
      exact hlose false (decide_eq_false hs).symm
  have hend := complete_done d 0x0133 (s := u) hf
  have hkeep := hend.1.2.1
  have hsame : complete d 0x0133 replyDone u = { u with hif := _, flt := _, wire := _ } := hend.1.same
  have hx : ∀ d, tgetD (tput s.nmp.macs 16 x) 16 d = x := tgetD_tput_same _ _ _
  have hrep := hend.2
  have hreset : (complete d 0x0133 replyDone u).flt.resetQ = [] := (complete_resetQ _ _ _ _).trans hq
  generalize hv : complete d 0x0133 replyDone u = v at *
  have hnmp : v.nmp = u.nmp := (congrArg State.nmp hsame).trans rfl
  refine completes_of rfl hop ((raise_resetQ e v rfl).trans hreset) ⟨?_, ?_, ?_, hrep, fun hk => ?_, ?_⟩
  · show (tgetD v.nmp.macs 16 {}).frames = []
    rw [hnmp, show u.nmp.macs = _ from rfl, hx]
  · exact congrArg Nmp.attempts hnmp
  · exact congrArg Nmp.backoff hnmp
  · exact (raise_raised e v rfl).after (by rw [(hkeep hk).1]; exact .refl _ _)
  · show _ = { s with nmp := { s.nmp with macs := v.nmp.macs, attempts := 0, backoff := none, lateColl := v.nmp.lateColl, excessColl := v.nmp.excessColl }, hif := v.hif, flt := (raise e v).flt, wire := v.wire }
    rw [hnmp]
    exact congrArg (fun z : State => { z with flt := (raise e v).flt }) hsame

theorem rgmiiDown_discards {s : State} {sp : Nat} {fd : Bool} {h : HostFrame} {d : Cmd} (hq : Settled s) (hf : s.hif.fences = [])
    (hfr : (mac s 16).frames = [h]) (hd : h.cmd = some d) : Completes (.rgmiiInBandStatus false sp fd) s (fun t =>
      t.nmp.mgmtLink = false ∧ (mac t 16).frames = [] ∧ (mac t 16).txDrops = satAdd 16 (mac s 16).txDrops 1 ∧ Replied d 0x0133 0 0 0 t ∧
        t = { s with nmp := t.nmp, hif := t.hif, flt := t.flt, wire := t.wire }) := by
  let x : Mac := { mac s 16 with frames := [] }
  let w := setMac 16 x { s with nmp := { s.nmp with mgmtLink := false, mgmtSpeed := sp, mgmtFull := fd, attempts := 0, backoff := none } }
  have hop : opRgmiiInBandStatus false sp fd s = complete d 0x0133 replyDone (countDown 16 w) := by
    show discardFrames 16 _ = _
    unfold discardFrames
    rw [show (mac { s with nmp := { s.nmp with mgmtLink := false, mgmtSpeed := sp, mgmtFull := fd } } 16).frames = [h] from hfr]
    show frameDone h _ = _
    rw [frameDone_cmd hd]
    rfl
  have hx : mac w 16 = x := tgetD_tput_same _ _ _ _
  let y : Mac := { x with txDrops := satAdd 16 (mac s 16).txDrops 1 }
  have hw : countDown 16 w = setMac 16 y w := by
    unfold countDown; rw [hx]
  rw [hw] at hop
  have hy : ∀ d, tgetD (tput w.nmp.macs 16 y) 16 d = y := tgetD_tput_same _ _ _
  have hend := complete_done d 0x0133 (s := setMac 16 y w) hf
  have hsame := hend.1.same
  unfold SameBlock at hsame
  have hrep := hend.2
  have hreset : (complete d 0x0133 replyDone (setMac 16 y w)).flt.resetQ = [] := (complete_resetQ _ _ _ _).trans hq
  generalize complete d 0x0133 replyDone (setMac 16 y w) = v at *
  have hnmp : v.nmp = (setMac 16 y w).nmp := (congrArg State.nmp hsame).trans rfl
  refine completes_of rfl hop hreset ⟨congrArg Nmp.mgmtLink hnmp, ?_, ?_, hrep, ?_⟩
  · exact (congrArg (fun z : Nmp => (tgetD z.macs 16 {}).frames) hnmp).trans (congrArg Mac.frames (hy {}))
  · exact (congrArg (fun z : Nmp => (tgetD z.macs 16 {}).txDrops) hnmp).trans (congrArg Mac.txDrops (hy {}))
  · rw [hnmp]; exact hsame

/-- Settles O32: each event by the state of its MAC. -/
theorem networkLinksGatesAndManagement : Obligations.NetworkLinksGatesAndManagement := by
  intro s m k n t0 hcd cause sent slots sp f g h d b pos fd hq hf hkm
  refine ⟨fun hm he hst hh => ?_, fun he => ⟨completes_of rfl (if_pos (by rw [he]; simp)) hq rfl, completes_of rfl (if_pos (by rw [he]; simp)) hq rfl⟩,
    fun hm he hup hc hfr hb => nmpLinkDown_falls hq hkm hm he hup hc hfr hb, nmpAnRetry_starts hq hkm, fun hr => ?_,
    nmpGateStart_starts hq hkm, nmpGateInterval_next hq hkm, fun ho => ?_, nmpFrameSent_completes hq hf hkm, fun h0 => ?_, fun hfr hhd hbo hs ha => ?_,
    mgmtCollision_loses hq hf, fun hbo => ?_, completes_of rfl rfl hq rfl, rgmiiDown_discards hq hf, fun hm hup hhd => ?_, fun hup hhd => ?_,
    fun hm hup => ?_⟩
  · let e : Ev := { src := 0x100, data := [(1, m), (1, macMode s m)] }
    let x : Mac := { mac s m with st := .up, fecLock := true, hcd := if macAn s m then hcd else 0, retryAt := none }
    have hgo : ¬ ((15 < m || !macEn s m || !((mac s m).st == .negotiating || (mac s m).st == .training || (mac s m).st == .aligning)) = true) := by
      rcases hst with hst | hst | hst <;> rw [he, hst] <;> simp <;> omega
    have hmode : ¬ ((macAn s m && hcd != macMode s m) = true) := by
      rw [Bool.and_eq_true, bne_iff_ne]
      exact fun h => h.2 (hh h.1)
    have hx : ∀ d, tgetD (tput s.nmp.macs m x) m d = x := tgetD_tput_same _ _ _
    exact completes_of rfl ((if_neg hgo).trans (if_neg hmode)) ((raise_resetQ e (setMac m x s) rfl).trans hq)
      ⟨congrArg Mac.st (hx {}), congrArg Mac.fecLock (hx {}), tgetD_tput_ne _ _ _ hkm, raise_raised e (setMac m x s) rfl, rfl⟩
  · exact completes_of rfl (show opNmpAnRetry m s = s by unfold opNmpAnRetry; rw [hr]) hq rfl
  · exact completes_of rfl (show opNmpGateInterval m s = s by unfold opNmpGateInterval; dsimp only; rw [ho]) hq rfl
  · refine completes_of rfl (show opNmpFrameSent m s = s from ?_) hq rfl
    unfold opNmpFrameSent
    rcases h0 with h0 | h0
    · rw [h0]; rfl
    · split
      · rfl
      · exact if_pos (by rw [h0]; rfl)
  · have hno : (!halfDuplex s || s.nmp.backoff.isSome) = false := by rw [hhd, hbo]; rfl
    refine completes_of rfl (show opMgmtMacCollision sent slots s = { s with nmp := { s.nmp with attempts := s.nmp.attempts + 1, backoff := some (s.tim.now + slots % 2 ^ min (s.nmp.attempts + 1) 10 * slotTime s) }, wire := s.wire ++ [.jam] } from ?_) hq rfl
    unfold opMgmtMacCollision
    rw [hfr]
    show (if (!halfDuplex s || s.nmp.backoff.isSome) = true then s else _) = _
    rw [hno, if_neg (by decide)]
    exact (if_neg (Nat.not_lt.mpr hs)).trans (if_neg (show ¬ 16 ≤ s.nmp.attempts + 1 by omega))
  · refine completes_of rfl (show opMgmtBackoffEnd s = _ from ?_) (by exact hq) rfl
    unfold opMgmtBackoffEnd
    split
    · next h => cases h.symm.trans hbo; rfl
    · next h => cases h.symm.trans hbo
  · have hhd' : ¬ ((m == 16 && halfDuplex s) = true) := by
      rw [Bool.and_eq_true, beq_iff_eq]
      exact fun h => Bool.false_ne_true ((hhd h.1).symm.trans h.2)
    exact completes_of rfl ((if_neg (Nat.not_lt.mpr hm)).trans ((if_neg (by rw [hup]; decide)).trans (if_neg hhd'))) hq rfl
  · exact completes_of rfl ((if_neg (by decide)).trans ((if_neg (by rw [hup]; decide)).trans (if_pos (by rw [hhd]; rfl)))) hq rfl
  · exact completes_of rfl ((if_neg (Nat.not_lt.mpr hm)).trans (if_pos (by rw [hup]; rfl))) hq rfl

end Sys2Proof.Machine

namespace Sys2Proof.Machine
open Sys2Proof

/-! ## Received packets (R184 to R193) -/

theorem storeSamples_frame (p ch : Nat) (l : List Nat) (s : State) : ∃ a, storeSamples p ch l s = { s with aud := a } := by
  induction l generalizing ch s with
  | nil => exact ⟨s.aud, rfl⟩
  | cons w l ih =>
    obtain ⟨a, hx⟩ := ih (ch + 1) (storeSample ch p w s)
    have h1 : ∃ b, storeSample ch p w s = { s with aud := b } := by
      unfold storeSample
      split
      · exact ⟨s.aud, rfl⟩
      · exact ⟨_, rfl⟩
    obtain ⟨b, h1⟩ := h1
    refine ⟨a, hx.trans ?_⟩
    rw [h1]

theorem storePeriods_frame (l : List Nat) (q ch : Nat → Nat) (w : Nat → List Nat) (s : State) :
    ∃ a, l.foldl (fun s i => storeSamples (q i) (ch i) (w i) s) s = { s with aud := a } := by
  induction l generalizing s with
  | nil => exact ⟨s.aud, rfl⟩
  | cons i l ih =>
    obtain ⟨b, h1⟩ := storeSamples_frame (q i) (ch i) (w i) s
    obtain ⟨a, hx⟩ := ih (storeSamples (q i) (ch i) (w i) s)
    refine ⟨a, hx.trans ?_⟩
    rw [h1]

/-- A frame that the host frame ring takes (R207). -/
theorem toHost_writes {s : State} {m reason : Nat} {l : List Byte} (hl : l.length ≤ 2032) (he : s.nmp.xEn = true) (hu : s.nmp.xUsed < xSize s)
    (hw : s.nmp.xWritten < 200000) : ∃ sec n, toHost m reason l s =
      { hostWrite (rdAddr s .nmpXringBaseLo .nmpXringBaseHi 0 + 2048 * s.nmp.xTail) (leBytes 1 m ++ leBytes 1 reason ++ leBytes 2 l.length ++ leBytes 4 (ts32 s.tim.now) ++ leBytes 1 (flag s.nmp.xPhase 0) ++ zeros 7 ++ padTo 2032 l) s with
        nmp := { s.nmp with xUsed := s.nmp.xUsed + 1, xTail := (advance (xSize s) s.nmp.xTail s.nmp.xPhase).1, xPhase := (advance (xSize s) s.nmp.xTail s.nmp.xPhase).2, xSec := sec, xWritten := n } } := by
  have hgo (n : Nat) (hn : n < 200000) : ¬ ((2032 < l.length || !s.nmp.xEn || decide (xSize s ≤ s.nmp.xUsed) || decide (200000 ≤ n)) = true) := by
    rw [he]; simp; omega
  unfold toHost
  by_cases hs : s.nmp.xSec = secOf s
  · rw [if_pos hs]
    exact ⟨_, _, if_neg (hgo s.nmp.xWritten hw)⟩
  · rw [if_neg hs]
    exact ⟨_, _, if_neg (hgo 0 (by decide))⟩

/-- A good frame of a matched leg. -/
theorem opEthFrameRx_leg {s : State} {m n leg : Nat} {l : List Byte} {x : EthFault} (hm : m ≤ 16) (hup : macUp s m = true) (hx : x.fcs = false)
    (hl : l.length + 4 ≤ maxFrame s m) (hp : isPtp l = false) (hi : ipOk l = true) (hu : udpOk l = true) (hmt : matchFrame s m l = .leg n leg) :
    opEthFrameRx m l x s = streamPacket m n leg (parseRtp (slice l (udpOff l + 8) (beAt l (udpOff l + 4) 2 - 8))) x s := by
  unfold opEthFrameRx
  rw [if_neg (by rw [hup]; simp; omega), if_neg (by rw [hx]; simp; omega), if_neg (by rw [hp]; decide), if_neg (by rw [hi]; decide),
    if_neg (by rw [hu]; decide), hmt]

/-- A packet of the right header for a RUNNING flow. -/
theorem streamPacket_merges {s : State} {m n leg : Nat} {r : Rtp} {x : EthFault} (hv : r.version = 2)
    (hs : (stream s n).ssrc = 0 ∨ r.ssrc = (stream s n).ssrc) (hst : (flowD s n).st = .running) (hr : (flowD s n).restore = none)
    (hpt : r.pt = fieldAt (flowD s n).params 2 1) : streamPacket m n leg r x s = (fun u : State =>
      match fateOf (stream s n) (extSeq (stream s n) (flowD s n) r) with
      | .use => usePacket m n r x (useSeq n (extSeq (stream s n) (flowD s n) r) u)
      | .duplicate => setStream n { stream u n with dups := satAdd 32 (stream u n).dups 1 } u
      | .stale => u) (acceptOn n leg r.ts s) := by
  unfold streamPacket
  dsimp only
  have hno : (r.version != 2 || (r.pt != fieldAt (flowD s n).params 2 1) || ((stream s n).ssrc != 0 && r.ssrc != (stream s n).ssrc)) = false := by
    rcases hs with hs | hs <;> simp [hv, hpt, hs]
  rw [hno, if_neg (by decide), if_neg (by rw [hst]; exact Bool.false_ne_true), hr]
  rfl

/-- The stream's record after a packet accepted on a leg. -/
def acceptedStream (leg ts now : Nat) (y : Stream) : Stream :=
  { (if leg = 0 then { y with pktsA := satAdd 32 y.pktsA 1, atA := now } else { y with pktsB := satAdd 32 y.pktsB 1, atB := now }) with
    lastRtp := ts }

theorem acceptOn_unlost {s : State} {n leg ts : Nat} (hl : (stream s n).lost = none) :
    acceptOn n leg ts s = setStream n (acceptedStream leg ts s.tim.now (stream s n)) s := by
  unfold acceptOn acceptedStream
  dsimp only
  by_cases h : leg = 0
  · simp only [h, if_true, hl]
    rfl
  · simp only [h, if_false, hl]
    rfl

theorem ethFrameRx_audio {s : State} {m n leg : Nat} {l : List Byte} {x : EthFault} {r : Rtp} (hq : Settled s)
    (hrx : opEthFrameRx m l x s = streamPacket m n leg r x s) (hpay : x.payload = false) (hv : r.version = 2)
    (hs : (stream s n).ssrc = 0 ∨ r.ssrc = (stream s n).ssrc) (hcar : carriage (flowD s n) = 0) (hst : (flowD s n).st = .running)
    (hr : (flowD s n).restore = none) (hpt : r.pt = fieldAt (flowD s n).params 2 1) (he : (flowD s n).essence = 1)
    (hnew : (stream s n).newest = none) (hlost : (stream s n).lost = none)
    (hlen : r.payload.length = (flowD s n).count * sampleBytes (flowD s n) * packetSamples (flowD s n)) :
        Completes (.ethFrameRx m l x) s (fun t =>
          (stream t n).pktsA = (if leg = 0 then satAdd 32 (stream s n).pktsA 1 else (stream s n).pktsA) ∧ (stream t n).pktsB = (if leg = 0 then (stream s n).pktsB else satAdd 32 (stream s n).pktsB 1) ∧
            (stream t n).newest = some (2 ^ 32 + r.seq) ∧ (stream t n).lastRtp = r.ts ∧ t.flows = s.flows ∧
            t = { s with nmp := { s.nmp with streams := t.nmp.streams }, aud := t.aud }) := by
  let y := stream s n
  let f := flowD s n
  let q := 2 ^ 32 + r.seq
  let a := acceptedStream leg r.ts s.tim.now y
  have ha : acceptOn n leg r.ts s = setStream n a s := acceptOn_unlost hlost
  have hext : extSeq y f r = q := by
    unfold extSeq
    rw [if_neg (by rw [he]; simp), hnew]
  have hfate : fateOf y q = .use := by unfold fateOf; rw [hnew]
  have han : a.newest = none := by
    show (acceptedStream leg r.ts s.tim.now y).newest = none
    unfold acceptedStream
    split <;> exact hnew
  have hb : ∃ b : Stream, useSeq n q (setStream n a s) = setStream n b (setStream n a s) ∧ b.newest = some q ∧ b.pktsA = a.pktsA ∧ b.pktsB = a.pktsB ∧
      b.lastRtp = a.lastRtp := by
    unfold useSeq
    simp only [show stream (setStream n a s) n = a from tgetD_tput_same _ _ _ _, han, Option.getD_none, max_self]
    exact ⟨_, rfl, rfl, rfl, rfl, rfl⟩
  obtain ⟨b, hb, hbn, hba, hbb, hbr⟩ := hb
  let u := setStream n b (setStream n a s)
  have huse : ∃ c w, usePacket m n r x u = setStream n c { u with aud := w } ∧ c.newest = some q ∧ c.pktsA = a.pktsA ∧ c.pktsB = a.pktsB ∧ c.lastRtp = a.lastRtp := by
    have hD : flowD u n = f := rfl
    have hap : usePacket m n r x u = audioPacket n r u := by
      unfold usePacket
      simp only [hD, hpay, Bool.false_and, Bool.false_eq_true, if_false, show f.essence = 1 from he, show carriage f = 0 from hcar]
      rfl
    have hlen' : ¬ (r.payload.length ≠ f.count * sampleBytes f * packetSamples f) := fun h => h hlen
    have hsu : stream u n = b := tgetD_tput_same _ _ _ _
    let z : Stream := { b with arrival := some ((u.tim.now : Int) - (periodStart (audioRate f.format) (extend 32 r.ts (periodAt (audioRate f.format) u.tim.now)) : Int)) }
    obtain ⟨w, hw⟩ := storePeriods_frame (List.range (packetSamples f)) (fun i => extend 32 r.ts (periodAt (audioRate f.format) u.tim.now) + i) (fun _ => f.base)
      (fun i => periodWords f (extend 32 r.ts (periodAt (audioRate f.format) u.tim.now) + i) (slice r.payload (i * (f.count * sampleBytes f)) (f.count * sampleBytes f)))
      (setStream n z u)
    refine ⟨z, w, hap.trans ?_, hbn, hba, hbb, hbr⟩
    unfold audioPacket
    dsimp only
    rw [hD, if_neg hlen', hsu]
    exact hw
  obtain ⟨c, w, huse, hcn, hca, hcb, hcr⟩ := huse
  have hx : opEthFrameRx m l x s = setStream n c { u with aud := w } := by
    rw [hrx, streamPacket_merges hv hs hst hr hpt, ha, hext, hfate]
    dsimp only
    rw [hb]
    exact huse
  have hc : ∀ d, tgetD (tput u.nmp.streams n c) n d = c := tgetD_tput_same _ _ _
  have h1 : a.pktsA = (if leg = 0 then satAdd 32 y.pktsA 1 else y.pktsA) ∧ a.pktsB = (if leg = 0 then y.pktsB else satAdd 32 y.pktsB 1) ∧ a.lastRtp = r.ts := by
    show (acceptedStream leg r.ts s.tim.now y).pktsA = _ ∧ (acceptedStream leg r.ts s.tim.now y).pktsB = _ ∧ (acceptedStream leg r.ts s.tim.now y).lastRtp = _
    unfold acceptedStream
    split <;> exact ⟨rfl, rfl, rfl⟩
  obtain ⟨hA, hB, hT⟩ := h1
  refine completes_of rfl hx hq ⟨?_, ?_, ?_, ?_, rfl, rfl⟩
  · exact (congrArg Stream.pktsA (hc {})).trans (hca.trans hA)
  · exact (congrArg Stream.pktsB (hc {})).trans (hcb.trans hB)
  · exact (congrArg Stream.newest (hc {})).trans hcn
  · exact (congrArg Stream.lastRtp (hc {})).trans (hcr.trans hT)

/-- A mismatch of a RUNNING flow whose stop is not armed (R190). -/
theorem mismatch_holds {s : State} {n row : Nat} (hst : (flowD s n).st = .running) (hs : (flowD s n).stop = none) :
    ∃ q o f, mismatch n row s = { setFlow n (heldFlow 0xFFFF (flowD s n)) s with red := { s.red with jseq := q, jout := o }, flt := f } ∧
      f.resetQ = s.flt.resetQ ∧ Raised 0x10D [(2, n), (1, row)] 0 s { s with flt := f } := by
  let u := setFlow n (heldFlow 0xFFFF (flowD s n)) s
  let e1 : Ev := { src := 0x07C, data := [(2, n), (2, detectedCode (flowD s n) 0xFFFF)] }
  let e2 : Ev := { src := 0x10D, data := [(2, n), (1, row)] }
  obtain ⟨q, o, hj⟩ := journalFlow_journalled n (raise e1 u)
  have hh : holdFlow n 0xFFFF s = journalled q o (raise e1 u) := (holdFlow_running hst hs).trans hj
  have hx : mismatch n row s = raise e2 (journalled q o (raise e1 u)) := by
    unfold mismatch
    rw [if_neg (by rw [hst]; decide), hh]
  refine ⟨q, o, _, hx.trans rfl, (raise_resetQ e2 _ rfl).trans (raise_resetQ e1 u rfl), ?_⟩
  exact (raise_raised e2 (journalled q o (raise e1 u)) rfl).after (otherRaises_raise e1 u rfl rfl (show (0x10D : Nat) ≠ 0x07C by decide))

theorem ethFrameRx_wrongType {s : State} {m n leg : Nat} {l : List Byte} {x : EthFault} {r : Rtp} (hq : Settled s)
    (hrx : opEthFrameRx m l x s = streamPacket m n leg r x s) (hv : r.version = 2) (hst : (flowD s n).st = .running)
    (hpt : r.pt ≠ fieldAt (flowD s n).params 2 1) (hstop : (flowD s n).stop = none) : Completes (.ethFrameRx m l x) s (fun t =>
        (stream t n).rejects = satAdd 32 (stream s n).rejects 1 ∧ (flowD t n).st = .held ∧ Raised 0x10D [(2, n), (1, 2)] 0 s t ∧ t.aud = s.aud ∧ t.swc = s.swc) := by
  let y : Stream := { stream s n with rejects := satAdd 32 (stream s n).rejects 1 }
  let u := setStream n y s
  obtain ⟨q, o, f, hm, hf, hraised⟩ := mismatch_holds (s := u) (n := n) (row := 2) hst hstop
  have hx : streamPacket m n leg r x s = mismatch n 2 u := by
    have hno : (r.version != 2 || (r.pt != fieldAt (flowD s n).params 2 1) || ((stream s n).ssrc != 0 && r.ssrc != (stream s n).ssrc)) = true := by
      simp [hpt]
    have hw : (r.version == 2 && (r.pt != fieldAt (flowD s n).params 2 1)) = true := by simp [hv, hpt]
    unfold streamPacket
    dsimp only
    rw [hno, if_pos rfl, hw, if_pos rfl]
  refine completes_of rfl (hrx.trans (hx.trans hm)) (hf.trans hq) ⟨?_, ?_, hraised, rfl, rfl⟩
  · exact congrArg Stream.rejects (tgetD_tput_same s.nmp.streams n y {})
  · exact congrArg Flow.st (tgetD_tput_same s.flows n (heldFlow 0xFFFF (flowD s n)) {})

theorem ethFrameRx_duplicate {s : State} {m n leg : Nat} {l : List Byte} {x : EthFault} {r : Rtp} (hq : Settled s)
    (hrx : opEthFrameRx m l x s = streamPacket m n leg r x s) (hv : r.version = 2)
    (hs : (stream s n).ssrc = 0 ∨ r.ssrc = (stream s n).ssrc) (hst : (flowD s n).st = .running)
    (hr : (flowD s n).restore = none) (hpt : r.pt = fieldAt (flowD s n).params 2 1) (hlost : (stream s n).lost = none)
    (hd : fateOf (stream s n) (extSeq (stream s n) (flowD s n) r) = .duplicate) : Completes (.ethFrameRx m l x) s (fun t =>
        (stream t n).dups = satAdd 32 (stream s n).dups 1 ∧ t = { s with nmp := { s.nmp with streams := t.nmp.streams } }) := by
  let a := acceptedStream leg r.ts s.tim.now (stream s n)
  let z : Stream := { a with dups := satAdd 32 a.dups 1 }
  have had : a.dups = (stream s n).dups := by
    show (acceptedStream leg r.ts s.tim.now (stream s n)).dups = _
    unfold acceptedStream
    split <;> rfl
  have hx : opEthFrameRx m l x s = setStream n z (setStream n a s) := by
    rw [hrx, streamPacket_merges hv hs hst hr hpt, acceptOn_unlost hlost, hd]
    dsimp only
    rw [show stream (setStream n a s) n = a from tgetD_tput_same _ _ _ _]
  refine completes_of rfl hx hq ⟨?_, rfl⟩
  refine (congrArg Stream.dups (tgetD_tput_same _ _ z {})).trans ?_
  show satAdd 32 a.dups 1 = _
  rw [had]

/-! ## Silence (R190, R192) -/

theorem nmpNoPacket_holds {s : State} {n : Nat} (hq : Settled s) (hn : normFlow n = n) (hns : nsOf n = 0) (hst : (flowD s n).st = .running)
    (he : (flowD s n).endpoint = 1) (hr : (flowD s n).restore = none) (hc : carriage (flowD s n) = 0) (hstop : (flowD s n).stop = none) :
    Completes (.nmpNoPacketTimeout n) s (fun t =>
      (flowD t n).st = .held ∧ (flowD t n).detected = 0xFFFF ∧ Raised 0x10D [(2, n), (1, 1)] 0 s t ∧
        t.tim.now = max s.tim.now (max (flowD s n).runAt (max (stream s n).atA (stream s n).atB) + silenceNs s (flowD s n)) ∧
        t = { s with flows := t.flows, tim := { s.tim with now := t.tim.now }, red := { s.red with jseq := t.red.jseq, jout := t.red.jout }, flt := t.flt }) := by
  let i := max (flowD s n).runAt (max (stream s n).atA (stream s n).atB) + silenceNs s (flowD s n)
  obtain ⟨q, o, f, hm, hf, hraised⟩ := mismatch_holds (s := atLeast i s) (n := n) (row := 1) hst hstop
  have hx : opNmpNoPacketTimeout n s = mismatch n 1 (atLeast i s) := by
    have hown : streamOwner n (flowD s n) = n := by unfold streamOwner; rw [hc]; rfl
    unfold opNmpNoPacketTimeout
    dsimp only
    rw [hn, hown, if_neg (by rw [hns, hst, he, hr]; decide), if_neg (by rw [hc]; simp)]
  have hfl : ∀ d, tgetD (tput s.flows n (heldFlow 0xFFFF (flowD s n))) n d = heldFlow 0xFFFF (flowD s n) := tgetD_tput_same _ _ _
  refine completes_of rfl (hx.trans hm) (hf.trans hq) ⟨congrArg Flow.st (hfl {}), (congrArg Flow.detected (hfl {})).trans ?_, hraised, rfl, rfl⟩
  exact ite_self _

theorem nmpLegLost_loses {s : State} {n leg : Nat} (hq : Settled s) (hn : normFlow n = n) (hns : nsOf n = 0) (ha : active (flowD s n) = true)
    (hl : (stream s n).legs.length = 2) (hleg : leg ≤ 1) (hlost : (stream s n).lost = none)
    (ho : (if leg = 0 then (stream s n).atB else (stream s n).atA) ≠ 0)
    (hlt : max s.tim.now (max (flowD s n).runAt (if leg = 0 then (stream s n).atA else (stream s n).atB) + 10000000) < (if leg = 0 then (stream s n).atB else (stream s n).atA) + 10000000) :
      Completes (.nmpLegLost n leg) s (fun t =>
      stream t n = { stream s n with lost := some leg } ∧ t.tim.now = max s.tim.now (max (flowD s n).runAt (if leg = 0 then (stream s n).atA else (stream s n).atB) + 10000000) ∧ Raised 0x107 [(2, n), (1, leg)] 0 s t ∧
        t = { s with nmp := { s.nmp with streams := t.nmp.streams }, tim := { s.tim with now := t.tim.now }, flt := t.flt }) := by
  let u := atLeast (max (flowD s n).runAt (if leg = 0 then (stream s n).atA else (stream s n).atB) + 10000000) s
  let e : Ev := { src := 0x107, data := [(2, n), (1, leg)] }
  let v := setStream n { stream s n with lost := some leg } u
  have hx : opNmpLegLost n leg s = raise e v := by
    unfold opNmpLegLost
    dsimp only
    rw [hn]
    refine if_neg ?_
    have h1 : ¬ ((if leg = 0 then (stream s n).atB else (stream s n).atA) + 10000000 ≤ u.tim.now) := Nat.not_le.mpr hlt
    have h2 : ((if leg = 0 then (stream s n).atB else (stream s n).atA) == 0) = false := beq_eq_false_iff_ne.mpr ho
    have h3 : decide (1 < leg) = false := decide_eq_false (by omega)
    rw [hns, ha, hl, h3, hlost, h2, decide_eq_false h1]
    decide
  exact completes_of rfl hx ((raise_resetQ e v rfl).trans hq) ⟨tgetD_tput_same _ _ _ _, rfl, raise_raised e v rfl, rfl⟩

end Sys2Proof.Machine

namespace Sys2Proof.Machine
open Sys2Proof

/-! ## Sent packets (R180, R193 to R202) -/

/-- What a sending flow's packet does on a link that is UP, and on one that is DOWN. -/
theorem opNmpPacketSend_sends {s u : State} {n leg : Nat} {p : TxPos} (fr : ReadFault) (gb : Bool) (hn : normFlow n = n) (hs : sends s n leg = true)
    (he : (flowD s n).essence ≠ 3) (hp : p = txPos s n leg) (hk : packetsHere s n (flowD s n) p ≠ 0) (hu : u = atLeast (releaseAt s n (flowD s n) p) s) :
    ∃ (c : Bool → Bool) (slot k : Nat), c false = false ∧ opNmpPacketSend n leg fr gb s =
      if !macUp s (legMac (flowD s n) leg) then
        countDown (legMac (flowD s n) leg) (setPos n leg (nextPos u n (flowD s n) (packetOf u n (flowD s n) p u.tim.now) p) u)
      else if !goesNow u (legMac (flowD s n) leg) { queue := (legOf s n leg).queue, at_ := releaseAt s n (flowD s n) p, bytes := (mediaFrame u n leg (flowD s n) (packetOf u n (flowD s n) p u.tim.now) p.seq).length } then u
      else sendEth (legMac (flowD s n) leg) (mediaFrame u n leg (flowD s n) (packetOf u n (flowD s n) p u.tim.now) p.seq)
        (checkFail gb { src := 0x245, data := [(1, 1), (1, legMac (flowD s n) leg)] }
          ((fun w => if c fr.sig then sigFail n slot { src := 0x244, data := [(2, n), (2, k)] } w else w)
            (setPos n leg (nextPos u n (flowD s n) (packetOf u n (flowD s n) p u.tim.now) p) u))) := by
  subst hp hu
  let f := flowD s n
  let p := txPos s n leg
  let u := atLeast (releaseAt s n f p) s
  let k := packetOf u n f p u.tim.now
  refine ⟨fun b => b && !k.fill && f.essence ≤ 1 && (if f.essence = 0 then (flowD u (plat u (ixOf n)).src).sigEn else f.sigEn),
    if f.essence = 1 then secOf u else p.frame, k.line, rfl, ?_⟩
  unfold opNmpPacketSend
  dsimp only
  rw [hn, hs, if_neg (by decide), if_neg he, if_neg hk]
  rfl

/-- Failing checks of a sent packet show in the fault collector alone. -/
theorem sigAndCheck_frame (c gb : Bool) (inst slot k a b : Nat) (s : State) : ∃ g,
    checkFail gb { src := 0x245, data := [(1, a), (1, b)] } (if c then sigFail inst slot { src := 0x244, data := [(2, inst), (2, k)] } s else s) =
      { s with flt := g } ∧ g.resetQ = s.flt.resetQ ∧ (gb = true → RaisedOnce 0x245 s { s with flt := g }) := by
  obtain ⟨g1, h1, ho⟩ : ∃ g, (if c then sigFail inst slot { src := 0x244, data := [(2, inst), (2, k)] } s else s) = { s with flt := g } ∧
      ∀ src, src ≠ 0x244 → OtherRaises src s.flt g := by
    split
    · obtain ⟨g, hg, ho⟩ := sigFail_others inst slot { src := 0x244, data := [(2, inst), (2, k)] } s
      exact ⟨g, hg, fun src h => ho src (Or.inl rfl) rfl h⟩
    · exact ⟨s.flt, rfl, fun _ _ => .refl _ _⟩
  rw [h1]
  unfold checkFail
  split
  · let e : Ev := { src := 0x245, data := [(1, a), (1, b)] }
    let w := countSig { s with flt := g1 }
    exact ⟨(raise e w).flt, rfl, (raise_resetQ e w rfl).trans (ho 0 (by decide)).1,
      fun _ => OtherRaises.count (e := e) (s := w) (ho 0x245 (by decide)) rfl (.refl _ _)⟩
  · next h => exact ⟨g1, rfl, (ho 0 (by decide)).1, fun h' => absurd h' h⟩

/-- A packet that goes: with its checks failing it is the packet without, but for what the fault collector holds. -/
theorem nmpPacketSend_goes {s u : State} {n leg : Nat} {p : TxPos} {fr : ReadFault} {gb : Bool} (hq : Settled s) (hn : normFlow n = n)
    (hs : sends s n leg = true) (he : (flowD s n).essence ≠ 3) (hp : p = txPos s n leg) (hk : packetsHere s n (flowD s n) p ≠ 0)
    (hu : u = atLeast (releaseAt s n (flowD s n) p) s) (hup : macUp s (legMac (flowD s n) leg) = true)
    (hgo : goesNow u (legMac (flowD s n) leg) { queue := (legOf s n leg).queue, at_ := releaseAt s n (flowD s n) p, bytes := (mediaFrame u n leg (flowD s n) (packetOf u n (flowD s n) p u.tim.now) p.seq).length } = true) :
    Completes (.nmpPacketSend n leg fr gb) s (fun t => Completes (.nmpPacketSend n leg {} false) s (fun v => t = { v with flt := t.flt }) ∧
          (gb = true → RaisedOnce 0x245 s t)) ∧ Completes (.nmpPacketSend n leg {} false) s (fun t =>
          t = { setPos n leg (nextPos u n (flowD s n) (packetOf u n (flowD s n) p u.tim.now) p) u with wire := s.wire ++ [.eth (legMac (flowD s n) leg) (withFcs (mediaFrame u n leg (flowD s n) (packetOf u n (flowD s n) p u.tim.now) p.seq))] }) := by
  let m := legMac (flowD s n) leg
  let b := mediaFrame u n leg (flowD s n) (packetOf u n (flowD s n) p u.tim.now) p.seq
  let w := setPos n leg (nextPos u n (flowD s n) (packetOf u n (flowD s n) p u.tim.now) p) u
  have hw : w = { s with tim := w.tim, nmp := w.nmp } := by subst hu; rfl
  have hx (fr : ReadFault) (gb : Bool) : ∃ g, opNmpPacketSend n leg fr gb s = sendEth m b { w with flt := g } ∧ g.resetQ = w.flt.resetQ ∧
      (gb = true → RaisedOnce 0x245 w { w with flt := g }) ∧ (fr.sig = false → gb = false → g = w.flt) := by
    obtain ⟨c, slot, k, hc, hx⟩ := opNmpPacketSend_sends fr gb hn hs he hp hk hu
    obtain ⟨g, hg, hgq, hgb⟩ := sigAndCheck_frame (c fr.sig) gb n slot k 1 m w
    refine ⟨g, ?_, hgq, hgb, fun h1 h2 => ?_⟩
    · rw [hx, hup, hgo, if_neg (by decide), if_neg (by decide)]
      exact congrArg (sendEth m b) hg
    · rw [h1, hc, h2] at hg
      exact (congrArg State.flt hg).symm
  obtain ⟨g, hg, hgq, hgb, -⟩ := hx fr gb
  obtain ⟨g', hg', -, -, h0⟩ := hx {} false
  rw [h0 rfl rfl] at hg'
  have hwq : w.flt.resetQ = [] := by rw [hw]; exact hq
  have hww : w.wire = s.wire := by rw [hw]
  refine ⟨completes_of rfl hg (hgq.trans hwq) ⟨completes_of rfl hg' hwq rfl, fun h => ?_⟩, completes_of rfl hg' hwq ?_⟩
  · have hws : w.flt = s.flt := by rw [hw]
    have := hgb h
    unfold RaisedOnce at this ⊢
    rw [hws] at this
    exact this
  · show ({ w with wire := w.wire ++ [.eth m (withFcs b)] } : State) = _
    rw [hww]

theorem nmpPacketSend_down {s u : State} {n leg : Nat} {p : TxPos} {fr : ReadFault} {gb : Bool} (hq : Settled s) (hn : normFlow n = n)
    (hs : sends s n leg = true) (he : (flowD s n).essence ≠ 3) (hp : p = txPos s n leg) (hk : packetsHere s n (flowD s n) p ≠ 0)
    (hu : u = atLeast (releaseAt s n (flowD s n) p) s) (hdn : macUp s (legMac (flowD s n) leg) = false) :
    Completes (.nmpPacketSend n leg fr gb) s (fun t =>
        mac t (legMac (flowD s n) leg) = { mac s (legMac (flowD s n) leg) with txDrops := satAdd 16 (mac s (legMac (flowD s n) leg)).txDrops 1 } ∧ t.wire = s.wire ∧
          txPos t n leg = nextPos u n (flowD s n) (packetOf u n (flowD s n) p u.tim.now) p ∧ t = { u with nmp := t.nmp }) := by
  obtain ⟨c, slot, k, -, hx⟩ := opNmpPacketSend_sends fr gb hn hs he hp hk hu
  rw [hdn] at hx
  replace hx := hx.trans (if_pos rfl)
  subst hu
  generalize nextPos _ n (flowD s n) _ p = z at *
  refine completes_of rfl hx hq ⟨tgetD_tput_same _ _ _ _, rfl, ?_, rfl⟩
  show tgetD (tgetD (tput s.nmp.streams n { stream s n with tx := tput (stream s n).tx leg z }) n {}).tx leg {} = z
  rw [tgetD_tput_same]
  exact tgetD_tput_same _ _ _ _

theorem nmpTxLate_counts {s : State} {n leg : Nat} {p : TxPos} (hq : Settled s) (hn : normFlow n = n) (hs : sends s n leg = true) (hp : p = txPos s n leg) :
    Completes (.nmpTxLate n leg) s (fun t =>
      (stream t n).txLate = satAdd 32 (stream s n).txLate 1 ∧ releaseAt s n (flowD s n) p ≤ t.tim.now ∧ t.wire = s.wire ∧
        t = { s with nmp := { s.nmp with streams := t.nmp.streams }, tim := { s.tim with now := t.tim.now }, flt := t.flt }) := by
  subst hp
  let p := txPos s n leg
  let f := flowD s n
  let r := releaseAt s n f p
  let x : Stream := { stream s n with txLate := satAdd 32 (stream s n).txLate 1 }
  let u := setStream n x (atLeast (r + lateNs s n f p) s)
  let e : Ev := { src := 0x109, data := [(2, n), (1, leg)] }
  have hx : opNmpTxLate n leg s = raiseOnce (2 * n + leg) (fiAt u f.domain r) e (setPos n leg (nextPos u n f (packetOf u n f p r) p) u) := by
    unfold opNmpTxLate
    dsimp only
    rw [hn]
    exact if_neg (by rw [hs]; decide)
  generalize nextPos u n f _ p = z at hx
  have hsu : stream u n = x := tgetD_tput_same _ _ _ _
  have hpos : setPos n leg z u = setStream n { x with tx := tput x.tx leg z } u := by
    unfold setPos
    rw [hsu]
  rw [hpos] at hx
  obtain ⟨g, hg, ho⟩ := raiseOnce_others (2 * n + leg) (fiAt u f.domain r) e (setStream n { x with tx := tput x.tx leg z } u)
  refine completes_of rfl (hx.trans hg) ((ho 0 (Or.inl rfl) rfl (show 0 ≠ 0x109 by decide)).1.trans hq) ⟨?_, ?_, rfl, rfl⟩
  · exact congrArg Stream.txLate (tgetD_tput_same u.nmp.streams n { x with tx := tput x.tx leg z } {})
  · exact Nat.le_trans (Nat.le_add_right r _) (Nat.le_max_right _ _)

/-- Settles O33: each event by what its stream, its MAC and its flow hold. -/
theorem packetsReceivedAndSent : Obligations.PacketsReceivedAndSent := by
  intro s m n leg l x f y r p w u fr gb hq hn hf hy
  subst hf hy
  refine ⟨fun hup => completes_of rfl (if_pos (by rw [hup]; simp)) hq rfl, fun hm hup hx hb => ?_, fun hm hup hx hl h2032 hp hi he hu hw => ?_,
    fun hm hup hx hpay hl hp hi hu hmt hr hv hs hc hst hre hleg => ?_, nmpNoPacket_holds hq hn, fun hst => ?_, nmpLegLost_loses hq hn, fun ho => ?_,
    fun hs => ?_, fun hs he hp hk hu => ⟨fun hup hw => ?_, nmpPacketSend_down hq hn hs he hp hk hu⟩, nmpTxLate_counts hq hn⟩
  · let e : Ev := { src := 0x102, data := [(1, m)], unit := if m < 16 then some (.mac m) else none }
    let v := setMac m { mac s m with fcs := satAdd 32 (mac s m).fcs 1 } s
    obtain ⟨g, hg, ho⟩ := raiseOnce_others m (secOf s) e v
    have hop : opEthFrameRx m l x s = raiseOnce m (secOf s) e v :=
      (if_neg (by rw [hup]; simp; omega)).trans (if_pos (by rw [hx]; rfl))
    exact completes_of rfl (hop.trans hg) ((ho 0 (Or.inr hb) rfl (show 0 ≠ 0x102 by decide)).1.trans hq) ⟨tgetD_tput_same _ _ _ _, rfl⟩
  · obtain ⟨sec, k, hth⟩ := toHost_writes (m := m) (reason := 1) h2032 he hu hw
    have hop : opEthFrameRx m l x s = toHost m 1 l s :=
      (if_neg (by rw [hup]; simp; omega)).trans ((if_neg (by rw [hx]; simp; omega)).trans ((if_neg (by rw [hp]; decide)).trans (if_pos (by rw [hi]; rfl))))
    generalize leBytes 1 m ++ leBytes 1 1 ++ leBytes 2 l.length ++ leBytes 4 (ts32 s.tim.now) ++ leBytes 1 (flag s.nmp.xPhase 0) ++ zeros 7 ++ padTo 2032 l = b at *
    exact completes_of rfl (hop.trans hth) hq ⟨rfl, rfl, rfl⟩
  · have hrx := opEthFrameRx_leg hm hup hx hl hp hi hu hmt
    rw [← hr] at hrx
    exact ⟨fun hpt he hnew hlost hlen => ethFrameRx_audio hq hrx hpay hv hs hc hst hre hpt he hnew hlost hlen,
      fun hpt hstop => ethFrameRx_wrongType hq hrx hv hst hpt hstop, fun hpt hlost hd => ethFrameRx_duplicate hq hrx hv hs hst hre hpt hlost hd⟩
  · refine completes_of rfl (show opNmpNoPacketTimeout n s = s from ?_) hq rfl
    unfold opNmpNoPacketTimeout
    dsimp only
    rw [hn]
    exact if_pos (by simp [hst])
  · refine completes_of rfl (show opNmpLegLost n leg s = s from ?_) hq rfl
    unfold opNmpLegLost
    dsimp only
    rw [hn]
    exact if_pos (by rw [ho]; simp)
  · refine ⟨completes_of rfl (show opNmpPacketSend n leg fr gb s = s from ?_) hq rfl, completes_of rfl (show opNmpTxLate n leg s = s from ?_) hq rfl⟩
    · unfold opNmpPacketSend
      dsimp only
      rw [hn]
      exact if_pos (by rw [hs]; rfl)
    · unfold opNmpTxLate
      dsimp only
      rw [hn]
      exact if_pos (by rw [hs]; rfl)
  · subst hw
    refine ⟨nmpPacketSend_goes hq hn hs he hp hk hu hup, fun hgo => ?_⟩
    obtain ⟨c, slot, k, -, hx⟩ := opNmpPacketSend_sends fr gb hn hs he hp hk hu
    rw [hup, hgo] at hx
    exact completes_of rfl (hx.trans ((if_neg (by decide)).trans (if_pos rfl))) (by rw [hu]; exact hq) rfl

end Sys2Proof.Machine

/-! SUPPORT. What control cells (R121 to R124) and the operations on a timetable page (R96 to R103) leave as it was. -/
namespace Sys2Proof.Machine
open Sys2Proof

/-! ## Control cells sent -/

/-- The state `t` is `s` with the fabric's queues changed, and what CTRL_OVERFLOW raises. -/
def Sent (s t : State) : Prop := ∃ a f, t = { s with aqf := a, flt := f } ∧ ∀ src, src ≠ 0x091 → OtherRaises src s.flt f

theorem Sent.refl (s : State) : Sent s s := ⟨s.aqf, s.flt, rfl, fun _ _ => .refl _ _⟩

theorem Sent.aqf (s : State) (a : Aqf) : Sent s { s with aqf := a } := ⟨a, s.flt, rfl, fun _ _ => .refl _ _⟩

theorem Sent.trans {s t u : State} (h1 : Sent s t) (h2 : Sent t u) : Sent s u := by
  obtain ⟨_, _, rfl, hf⟩ := h1
  obtain ⟨a, f, rfl, hf'⟩ := h2
  exact ⟨a, f, rfl, fun src h => (hf src h).trans (hf' src h)⟩

theorem Sent.others {s t : State} (h : Sent s t) {src : Nat} (hs : src ≠ 0x091) : OtherRaises src s.flt t.flt := by
  obtain ⟨a, f, rfl, hf⟩ := h; exact hf src hs

theorem Sent.foldl {α : Type} {op : State → α → State} (h : ∀ s x, Sent s (op s x)) (l : List α) (s : State) : Sent s (l.foldl op s) := by
  induction l generalizing s with
  | nil => exact .refl s
  | cons x l ih => exact (h s x).trans (ih _)

theorem sendCtrl_sent (n : Nat) (c : CtrlCell) (s : State) : Sent s (sendCtrl n c s) := by
  unfold sendCtrl
  dsimp only
  split
  · exact .aqf s _
  · exact ⟨s.aqf, _, rfl, fun src h => otherRaises_raise { src := 0x091, data := [(1, n)] } s rfl rfl h⟩

theorem sendOn_sent (n : Nat) (c : CtrlCell) (s : State) : Sent s (sendOn n c s) := by
  unfold sendOn
  split
  · split
    · exact sendCtrl_sent _ _ s
    · exact .aqf s _
  · exact .aqf s _

theorem sendRouted_sent (dest ctype : Nat) (visit : Bool) (route : List Nat) (msg : List Byte) (s : State) :
    Sent s (sendRouted dest ctype visit route msg s) := by
  unfold sendRouted
  split
  · exact .refl s
  · split
    · exact .refl s
    · exact (sendOn_sent _ _ s).trans (.aqf _ _)

theorem sendToDevice_sent (dest ctype : Nat) (msg : List Byte) (s : State) : Sent s (sendToDevice dest ctype msg s) := by
  refine Sent.foldl (fun s r => ?_) _ s
  split
  · exact .refl s
  · split
    · split
      · exact sendRouted_sent _ _ _ _ _ s
      · exact .refl s
    · exact .refl s

theorem sendAll_sent (l : List Nat) (m : CommitMsg) (s : State) : Sent s (sendAll l m s) :=
  Sent.foldl (fun s d => sendToDevice_sent d 8 (commitBytes m) s) l s

theorem sendRunAhead_sent (kind : Nat) (p : Page) (feeder : Nat) (s : State) : Sent s (sendRunAhead kind p feeder s) := by
  unfold sendRunAhead
  split
  · exact .refl s
  · exact sendRouted_sent _ _ _ _ _ s

/-! ## Steps of one page -/

/-- What a page keeps from its admission on. -/
def SamePage (p q : Page) : Prop :=
  q.id = p.id ∧ q.actFi = p.actFi ∧ q.actN = p.actN ∧ q.dom = p.dom ∧ q.lead = p.lead ∧ q.localOnly = p.localOnly ∧ q.tag = p.tag ∧
    q.changes = p.changes ∧ q.part = p.part ∧ q.coordHere = p.coordHere

theorem SamePage.refl (p : Page) : SamePage p p := ⟨rfl, rfl, rfl, rfl, rfl, rfl, rfl, rfl, rfl, rfl⟩

theorem SamePage.trans {p q r : Page} (h1 : SamePage p q) (h2 : SamePage q r) : SamePage p r := by
  obtain ⟨a1, a2, a3, a4, a5, a6, a7, a8, a9, a10⟩ := h1
  obtain ⟨b1, b2, b3, b4, b5, b6, b7, b8, b9, b10⟩ := h2
  exact ⟨b1.trans a1, b2.trans a2, b3.trans a3, b4.trans a4, b5.trans a5, b6.trans a6, b7.trans a7, b8.trans a8, b9.trans a9, b10.trans a10⟩

/-- The state `t` is `s` with the page of one slot moved on: the engine's other tables, the fabric's queues and the journal change with
it, and no sources are raised but those of `l`. -/
def PageMoved (l : List Nat) (k : Nat) (s t : State) : Prop :=
  ∃ tt a f q o h, t = { s with tt := tt, aqf := a, flt := f, red := { s.red with jseq := q, jout := o, heldMsgs := h } } ∧
    SamePage (tgetD s.tt.slots k {}) (tgetD tt.slots k {}) ∧ (∀ m, m ≠ k → tgetD tt.slots m {} = tgetD s.tt.slots m {}) ∧
    ∀ src, src ∉ l → OtherRaises src s.flt f

section
variable {l : List Nat} {k : Nat} {s t u : State}

theorem PageMoved.refl : PageMoved l k s s :=
  ⟨s.tt, s.aqf, s.flt, s.red.jseq, s.red.jout, s.red.heldMsgs, rfl, .refl _, fun _ _ => rfl, fun _ _ => .refl _ _⟩

theorem PageMoved.trans (h1 : PageMoved l k s t) (h2 : PageMoved l k t u) : PageMoved l k s u := by
  obtain ⟨_, _, _, _, _, _, rfl, hp, hm, hf⟩ := h1
  obtain ⟨tt, a, f, q, o, h, rfl, hp', hm', hf'⟩ := h2
  exact ⟨tt, a, f, q, o, h, rfl, hp.trans hp', fun m hk => (hm' m hk).trans (hm m hk), fun src hs => (hf src hs).trans (hf' src hs)⟩

theorem PageMoved.mono {l' : List Nat} (h : PageMoved l k s t) (hl : l ⊆ l') : PageMoved l' k s t := by
  obtain ⟨tt, a, f, q, o, h, rfl, hp, hm, hf⟩ := h
  exact ⟨tt, a, f, q, o, h, rfl, hp, hm, fun src hs => hf src fun hx => hs (hl hx)⟩

theorem PageMoved.same (h : PageMoved l k s t) : SamePage (page s k) (page t k) := by
  obtain ⟨_, _, _, _, _, _, rfl, hp, -, -⟩ := h; exact hp

theorem PageMoved.page_ne {m : Nat} (h : PageMoved l k s t) (hm : m ≠ k) : page t m = page s m := by
  obtain ⟨_, _, _, _, _, _, rfl, -, hk, -⟩ := h; exact hk m hm

theorem PageMoved.others {src : Nat} (h : PageMoved l k s t) (hs : src ∉ l) : OtherRaises src s.flt t.flt := by
  obtain ⟨_, _, _, _, _, _, rfl, -, -, hf⟩ := h; exact hf src hs

theorem PageMoved.hif (h : PageMoved l k s t) : t.hif = s.hif := by
  obtain ⟨_, _, _, _, _, _, rfl, -, -, -⟩ := h; rfl

theorem PageMoved.tim (h : PageMoved l k s t) : t.tim = s.tim := by
  obtain ⟨_, _, _, _, _, _, rfl, -, -, -⟩ := h; rfl

/-- A page put in place of one that differs in its progress alone. -/
theorem PageMoved.setPage {p : Page} (h : PageMoved l k s t) (hp : SamePage (page s k) p) : PageMoved l k s (Machine.setPage k p t) := by
  obtain ⟨tt, a, f, q, o, hm, rfl, -, hk, hf⟩ := h
  exact ⟨{ tt with slots := tput tt.slots k p }, a, f, q, o, hm, rfl, by rw [tgetD_tput_same]; exact hp,
    fun m hm => (tgetD_tput_ne _ _ _ hm).trans (hk m hm), hf⟩

/-- An event of the list. -/
theorem PageMoved.raise {e : Ev} (h : PageMoved l k s t) (hu : e.unit = none) (hw : e.written = false) (he : e.src ∈ l) :
    PageMoved l k s (Machine.raise e t) := by
  obtain ⟨tt, a, f, q, o, hm, rfl, hp, hk, hf⟩ := h
  exact ⟨tt, a, _, q, o, hm, rfl, hp, hk, fun src hs => (hf src hs).trans (otherRaises_raise e _ hu hw fun h => hs (h ▸ he))⟩

theorem PageMoved.journal (type : Nat) (data : List Byte) (h : PageMoved l k s t) : PageMoved l k s (Machine.journal type data t) := by
  obtain ⟨q, o, hj⟩ := journal_journalled type data t
  obtain ⟨tt, a, f, q', o', hm, rfl, hp, hk, hf⟩ := h
  rw [hj]
  exact ⟨tt, a, f, q, o, hm, rfl, hp, hk, hf⟩

theorem PageMoved.sent (h : PageMoved l k s t) (hl : 0x091 ∈ l) (hs : Sent t u) : PageMoved l k s u := by
  obtain ⟨tt, a, f, q, o, hm, rfl, hp, hk, hf⟩ := h
  obtain ⟨a', f', rfl, hf'⟩ := hs
  exact ⟨tt, a', f', q, o, hm, rfl, hp, hk, fun src hx => (hf src hx).trans (hf' src fun h => hx (h ▸ hl))⟩

/-- A change of the engine's other tables. -/
theorem PageMoved.tables (h : PageMoved l k s t) (tt : Tt) (ht : tt.slots = t.tt.slots) : PageMoved l k s { t with tt := tt } := by
  obtain ⟨_, a, f, q, o, hm, rfl, hp, hk, hf⟩ := h
  exact ⟨tt, a, f, q, o, hm, rfl, by rw [ht]; exact hp, fun m hx => by rw [ht]; exact hk m hx, hf⟩

end

theorem page_setPage_same (k : Nat) (p : Page) (s : State) : page (setPage k p s) k = p := tgetD_tput_same _ _ _ _

theorem Sent.page {s t : State} (h : Sent s t) (k : Nat) : page t k = page s k := by
  obtain ⟨a, f, rfl, -⟩ := h; rfl

theorem page_journal (type : Nat) (data : List Byte) (s : State) (k : Nat) : page (journal type data s) k = page s k := by
  obtain ⟨q, o, hj⟩ := journal_journalled type data s
  rw [hj]; rfl

end Sys2Proof.Machine

namespace Sys2Proof.Machine
open Sys2Proof

/-! ## The operations on a page (R96 to R103) -/

/-- The page as the end of its run-ahead leaves it. -/
def cancelledPage (p : Page) : Page :=
  { p with windows := p.windows.map (fun w => { w with cancelled := true }), opened := [], asked := [] }

theorem cancelPage_moves (k : Nat) (s : State) : PageMoved [0x091] k s (cancelPage k s) ∧ page (cancelPage k s) k = cancelledPage (page s k) := by
  let v := closeEarly (page s k).opened ((page s k).asked.foldl (fun s' f => sendRunAhead 7 (page s k) f s') s)
  have h1 : Sent s v := (Sent.foldl (fun s' f => sendRunAhead_sent 7 (page s k) f s') _ s).trans (.aqf _ _)
  let w : State := { v with tt := { v.tt with
        cancelled := v.tt.cancelled ++ (page s k).windows.map (fun w => ((page s k).id, { w with cancelled := true, discarded := false })) } }
  have heq : cancelPage k s = setPage k (cancelledPage (page s k)) w := rfl
  rw [heq]
  exact ⟨((PageMoved.refl.sent (List.mem_singleton_self _) h1).tables w.tt rfl).setPage ⟨rfl, rfl, rfl, rfl, rfl, rfl, rfl, rfl, rfl, rfl⟩,
    page_setPage_same _ _ _⟩

/-- The page as its withdrawal at the coordinator leaves it. -/
def withdrawnPage (reason now : Nat) (p : Page) : Page :=
  { p with pst := if p.part then .withdrawn else p.pst, cst := .withdrawn, reason := reason, resendW := true, resendAt := now }

/-- A withdrawal at the coordinator: the state before its event, and the page it leaves. -/
theorem withdrawCoord_moves (k reason : Nat) (s : State) : ∃ v q o, PageMoved [0x091] k s v ∧
    withdrawCoord k reason s = journalled q o (raise { src := 0x0A3, data := [(4, (page s k).id), (1, reason)], fin := (page s k).tag } v) ∧
    (page v k).cst = .withdrawn ∧ (page v k).reason = reason ∧ ((page s k).part = true → (page v k).pst = .withdrawn) := by
  let s1 := if partLive (page s k) then cancelPage k s else s
  obtain ⟨h1, hp⟩ : PageMoved [0x091] k s s1 ∧ SamePage (page s k) (page s1 k) := by
    show PageMoved [0x091] k s (if partLive (page s k) then cancelPage k s else s) ∧ _
    by_cases h : partLive (page s k) = true
    · rw [show s1 = cancelPage k s from if_pos h, if_pos h]
      exact ⟨(cancelPage_moves k s).1, (cancelPage_moves k s).1.same⟩
    · rw [show s1 = s from if_neg h, if_neg h]
      exact ⟨.refl, .refl _⟩
  let s2 := setPage k (withdrawnPage reason s1.tim.now (page s1 k)) s1
  let v := sendAll ((page s1 k).parts.filter (fun d => d != devId s2)) (pageMsg s2 5 (page s1 k).id (page s1 k).actFi (page s1 k).dom) s2
  have h2 : PageMoved [0x091] k s s2 := h1.setPage (hp.trans ⟨rfl, rfl, rfl, rfl, rfl, rfl, rfl, rfl, rfl, rfl⟩)
  have hv : PageMoved [0x091] k s v := h2.sent (List.mem_singleton_self _) (sendAll_sent _ _ s2)
  have hpv : page v k = withdrawnPage reason s1.tim.now (page s1 k) := ((sendAll_sent _ _ s2).page k).trans (page_setPage_same _ _ _)
  obtain ⟨q, o, hj⟩ := journal_journalled 0x22 (pageStateBytes (page v k)) (raise { src := 0x0A3, data := [(4, (page s1 k).id), (1, reason)], fin := (page s1 k).tag } v)
  obtain ⟨hid, -, -, -, -, -, htag, -, hpart, -⟩ := hp
  refine ⟨v, q, o, hv, ?_, by rw [hpv]; rfl, by rw [hpv]; rfl, fun h => by rw [hpv]; exact if_pos (hpart.trans h)⟩
  rw [← hid, ← htag]
  exact hj

theorem withdrawCoord_moved (k reason : Nat) (s : State) : PageMoved [0x091, 0x0A3] k s (withdrawCoord k reason s) := by
  obtain ⟨v, q, o, hv, hx, -⟩ := withdrawCoord_moves k reason s
  rw [hx]
  obtain ⟨tt, a, f, q', o', hm, hr, hp, hk, hf⟩ := (hv.mono (l' := [0x091, 0x0A3]) (by simp)).raise
    (e := { src := 0x0A3, data := [(4, (page s k).id), (1, reason)], fin := (page s k).tag }) rfl rfl (by simp)
  rw [hr]
  exact ⟨tt, a, f, q, o, hm, rfl, hp, hk, hf⟩

/-- The sources that a page's arming and commit raise. -/
def pageSrcs : List Nat := [0x091, 0x0A0, 0x0A1, 0x0A2, 0x0A3]

theorem commitPart_moves (k stamp : Nat) (s : State) : PageMoved [0x0A2] k s (commitPart k stamp s) ∧
    page (commitPart k stamp s) k = { page s k with pst := .committed, commitTs := stamp } := by
  have h1 : PageMoved [0x0A2] k s (setPage k { page s k with pst := .committed, commitTs := stamp } s) :=
    PageMoved.refl.setPage ⟨rfl, rfl, rfl, rfl, rfl, rfl, rfl, rfl, rfl, rfl⟩
  have h2 := h1.raise (e := { src := 0x0A2, data := [(4, (page s k).id), (4, stamp)] }) rfl rfl (List.mem_singleton_self _)
  exact ⟨h2.tables _ rfl, page_setPage_same _ _ _⟩

theorem tryCommit_moves (k : Nat) (s : State) : PageMoved pageSrcs k s (tryCommit k s) := by
  unfold tryCommit
  dsimp only
  split
  · exact .refl
  · split
    · exact (withdrawCoord_moved k 6 s).mono (by simp [pageSrcs])
    · let p := page s k
      let s1 := setPage k { p with cst := .commitSent, commitTs := ts32 s.tim.now, resendAt := s.tim.now } s
      let s2 := raise { src := 0x0A1, data := [(4, p.id)] } s1
      let s3 := sendAll (p.parts.filter (fun d => d != devId s)) (pageMsg s2 3 p.id p.actFi p.dom) s2
      have h1 : PageMoved pageSrcs k s s1 := PageMoved.refl.setPage ⟨rfl, rfl, rfl, rfl, rfl, rfl, rfl, rfl, rfl, rfl⟩
      have h3 : PageMoved pageSrcs k s s3 := (h1.raise rfl rfl (by simp [pageSrcs])).sent (by simp [pageSrcs]) (sendAll_sent _ _ s2)
      refine PageMoved.journal _ _ ?_
      show PageMoved pageSrcs k s (if p.part && p.pst == .armed then
          commitPart k (ts32 s.tim.now) (setPage k { page s3 k with acks := (devId s3, false) :: p.acks } s3) else s3)
      split
      · have h4 := h3.setPage (p := { page s3 k with acks := (devId s3, false) :: p.acks })
          (h3.same.trans ⟨rfl, rfl, rfl, rfl, rfl, rfl, rfl, rfl, rfl, rfl⟩)
        exact h4.trans ((commitPart_moves k _ _).1.mono (by simp [pageSrcs]))
      · exact h3

theorem countArmed_moves (k dev : Nat) (s : State) : PageMoved pageSrcs k s (countArmed k dev s) := by
  unfold countArmed
  dsimp only
  split
  · exact .refl
  · split
    · exact tryCommit_moves k s
    · refine PageMoved.trans (PageMoved.journal _ _ (PageMoved.refl.setPage ?_)) (tryCommit_moves k _)
      exact ⟨rfl, rfl, rfl, rfl, rfl, rfl, rfl, rfl, rfl, rfl⟩

theorem sendGated_moves (k dest : Nat) (m : CommitMsg) (s : State) : PageMoved [0x091] k s (sendGated dest m s) ∧ page (sendGated dest m s) k = page s k := by
  unfold sendGated
  split
  · exact ⟨⟨s.tt, s.aqf, s.flt, s.red.jseq, s.red.jout, _, rfl, .refl _, fun _ _ => rfl, fun _ _ => .refl _ _⟩, rfl⟩
  · have h := sendToDevice_sent dest 8 (commitBytes m) s
    exact ⟨PageMoved.refl.sent (List.mem_singleton_self _) h, h.page k⟩

/-- An arming page: where it leads, its state at this device, and the event. -/
theorem armPage_moves (k : Nat) (s : State) : PageMoved pageSrcs k s (armPage k s) ∧
    ((page s k).localOnly = true → (page (armPage k s) k).pst = .committed) ∧
    ((page s k).localOnly = false → (page s k).coordHere = false → (page (armPage k s) k).pst = .armed ∧
      (page (armPage k s) k).armedTs = ts32 s.tim.now ∧ RaisedOnce 0x0A0 s (armPage k s)) := by
  let p := page s k
  let q : Page := { p with pst := .armed, armedTs := ts32 s.tim.now }
  let e : Ev := { src := 0x0A0, data := [(4, p.id)] }
  let w := raise e (setPage k q s)
  have hw : PageMoved pageSrcs k s w := (PageMoved.refl.setPage (p := q) ⟨rfl, rfl, rfl, rfl, rfl, rfl, rfl, rfl, rfl, rfl⟩).raise (e := e) rfl rfl
    (show 0x0A0 ∈ pageSrcs by decide)
  have hpw : page w k = q := page_setPage_same _ _ _
  have heq : armPage k s = if p.localOnly then journalState k (commitPart k (ts32 s.tim.now) w)
      else if p.coordHere then countArmed k (devId w) (journalState k w)
      else sendGated p.coord (pageMsg w 1 p.id p.actFi p.dom) (journalState k w) := rfl
  cases hl : p.localOnly with
  | true =>
    obtain ⟨hc, hpc⟩ := commitPart_moves k (ts32 s.tim.now) w
    rw [heq, hl, if_pos rfl]
    refine ⟨PageMoved.journal _ _ (hw.trans (hc.mono (by simp [pageSrcs]))), fun _ => ?_, fun h => Bool.noConfusion h⟩
    rw [journalState, page_journal, hpc]
  | false =>
    have hj : PageMoved pageSrcs k s (journalState k w) := PageMoved.journal _ _ hw
    rw [heq, hl, if_neg (by decide)]
    cases hc : p.coordHere with
    | true =>
      rw [if_pos rfl]
      exact ⟨hj.trans (countArmed_moves k _ _), fun h => Bool.noConfusion h, fun _ h => Bool.noConfusion h⟩
    | false =>
      rw [if_neg (by decide)]
      obtain ⟨hs, hps⟩ := sendGated_moves k p.coord (pageMsg w 1 p.id p.actFi p.dom) (journalState k w)
      refine ⟨hj.trans (hs.mono (by simp [pageSrcs])), fun h => Bool.noConfusion h, fun _ _ => ?_⟩
      have hpj : page (journalState k w) k = q := (page_journal _ _ _ _).trans hpw
      rw [hps, hpj]
      refine ⟨rfl, rfl, ?_⟩
      have hjf : (journal 0x22 (pageStateBytes (page w k)) w).flt = w.flt := by
        obtain ⟨j, o, hjj⟩ := journal_journalled 0x22 (pageStateBytes (page w k)) w
        rw [hjj]; rfl
      have ho : OtherRaises 0x0A0 w.flt (sendGated p.coord (pageMsg w 1 p.id p.actFi p.dom) (journal 0x22 (pageStateBytes (page w k)) w)).flt := by
        rw [← hjf]; exact hs.others (by decide)
      exact OtherRaises.count (e := e) (s := setPage k q s) (.refl _ _) rfl ho

theorem tryArm_arms {k : Nat} {s : State} (hp : (page s k).part = true) (hst : (page s k).pst = .loaded)
    (hw : (page s k).windows.all (fun w => w.filled) = true)
    (hd : s.tim.now ≤ if (page s k).localOnly then guardOf s (page s k) else deadlineOf s (page s k)) : tryArm k s = armPage k s :=
  if_pos (by rw [hp, hst, hw, decide_eq_true hd]; rfl)

theorem tryArm_moves (k : Nat) (s : State) : PageMoved pageSrcs k s (tryArm k s) := by
  unfold tryArm
  dsimp only
  generalize decide (s.tim.now ≤ _) = b
  split
  · exact (armPage_moves k s).1
  · exact .refl

/-- A request served opens groups for the page, and changes nothing else of it. -/
theorem openEarly_moves (k feeder : Nat) (s : State) : PageMoved [0x091] k s (openEarly k feeder s) ∧
    ∃ o, page (openEarly k feeder s) k = { page s k with opened := o } := by
  have h : Sent s { s with aqf := { s.aqf with opening := s.aqf.opening ++ requested s (page s k) feeder } } := .aqf _ _
  exact ⟨(PageMoved.refl.sent (List.mem_singleton_self _) h).setPage ⟨rfl, rfl, rfl, rfl, rfl, rfl, rfl, rfl, rfl, rfl⟩, _, page_setPage_same _ _ _⟩

theorem openEarlies_moves (k : Nat) (l : List RaRequest) (s : State) :
    PageMoved [0x091] k s (l.foldl (fun s q => if s.tim.now ≤ q.guard_ then openEarly k q.flow s else s) s) ∧
    ∃ o, page (l.foldl (fun s q => if s.tim.now ≤ q.guard_ then openEarly k q.flow s else s) s) k = { page s k with opened := o } := by
  induction l generalizing s with
  | nil => exact ⟨.refl, _, rfl⟩
  | cons q l ih =>
    rw [List.foldl_cons]
    by_cases h : s.tim.now ≤ q.guard_
    · rw [if_pos h]
      obtain ⟨h1, o, hp⟩ := openEarly_moves k q.flow s
      obtain ⟨h2, o', hp'⟩ := ih (openEarly k q.flow s)
      exact ⟨h1.trans h2, o', by rw [hp', hp]⟩
    · rw [if_neg h]; exact ih s

theorem serveRequests_moves (k : Nat) (s : State) : PageMoved [0x091] k s (serveRequests k s) ∧
    ∃ o, page (serveRequests k s) k = { page s k with opened := o } := by
  let w : State := { s with tt := { s.tt with requests := s.tt.requests.filter (fun q => q.page != (page s k).id) } }
  have hw : PageMoved [0x091] k s w := PageMoved.refl.tables w.tt rfl
  obtain ⟨h, o, hp⟩ := openEarlies_moves k (s.tt.requests.filter (fun q => q.page == (page s k).id)) w
  exact ⟨hw.trans h, o, hp⟩

theorem guardOf_setPage (k : Nat) (p q : Page) (s : State) : guardOf (setPage k p s) q = guardOf s q := rfl

/-- The guard of a page stands while the page moves on. -/
theorem PageMoved.guardOf {l : List Nat} {k : Nat} {s t : State} (h : PageMoved l k s t) {p q : Page} (hp : SamePage p q) :
    Machine.guardOf t q = Machine.guardOf s p := by
  obtain ⟨-, -, hn, hd, -⟩ := hp
  obtain ⟨tt, a, f, j, o, m, rfl, -, -, -⟩ := h
  unfold Machine.guardOf pageT
  rw [hn, hd]; rfl

/-- A page entered in a slot, which is free: the page put there, moved on. -/
theorem enterPage_moves (k : Nat) (p : Page) (s : State) : ∃ q, SamePage p q ∧ PageMoved pageSrcs k (setPage k q s) (enterPage k p s) ∧
    (p.part = true → p.pst = .loaded → p.localOnly = true → p.changes = [] → s.tim.now ≤ guardOf s p → (page (enterPage k p s) k).pst = .committed) := by
  let ws := p.changes.filterMap (windowOf s)
  let q : Page := { p with power := pagePower p s, windows := ws, asked := feedersOf s p ws }
  let u := journalPage k (setPage k q s)
  have hu : PageMoved pageSrcs k (setPage k q s) u := PageMoved.journal _ _ .refl
  have hpu : page u k = q := (page_journal _ _ _ _).trans (page_setPage_same _ _ _)
  let v := q.asked.foldl (fun s f => sendRunAhead 6 q f s) u
  have hv : Sent u v := Sent.foldl (fun s f => sendRunAhead_sent 6 q f s) q.asked u
  obtain ⟨hw, o, hpw⟩ := serveRequests_moves k v
  have heq : enterPage k p s = if p.part then tryArm k (serveRequests k v) else tryCommit k u := rfl
  refine ⟨q, ⟨rfl, rfl, rfl, rfl, rfl, rfl, rfl, rfl, rfl, rfl⟩, ?_, fun hpart hpst hloc hch hnow => ?_⟩
  · rw [heq]
    split
    · exact ((hu.sent (by simp [pageSrcs]) hv).trans (hw.mono (by simp [pageSrcs]))).trans (tryArm_moves k _)
    · exact hu.trans (tryCommit_moves k u)
  · rw [heq, hpart, if_pos rfl]
    have hq : page (serveRequests k v) k = { q with opened := o } := by rw [hpw, hv.page k, hpu]
    have hwin : q.windows = [] := by show p.changes.filterMap (windowOf s) = []; rw [hch]; rfl
    have hall := (hu.sent (by simp [pageSrcs]) hv).trans (hw.mono (l' := pageSrcs) (by simp [pageSrcs]))
    have hg : guardOf (serveRequests k v) { q with opened := o } = guardOf s p := by
      exact (hall.guardOf (p := p) (q := { q with opened := o }) ⟨rfl, rfl, rfl, rfl, rfl, rfl, rfl, rfl, rfl, rfl⟩).trans (guardOf_setPage _ _ _ _)
    have harm : tryArm k (serveRequests k v) = armPage k (serveRequests k v) := by
      refine tryArm_arms (by rw [hq]; exact hpart) (by rw [hq]; exact hpst) (by rw [hq]; exact (congrArg (fun l : List RunAhead => l.all fun w => w.filled) hwin).trans rfl) ?_
      rw [hq, hg, if_pos hloc, show (serveRequests k v).tim = s.tim from hall.tim]
      exact hnow
    rw [harm]
    exact (armPage_moves k _).2.1 (by rw [hq]; exact hloc)

end Sys2Proof.Machine

namespace Sys2Proof.Machine
open Sys2Proof

/-! ## PAGE_LOAD and PAGE_WITHDRAW (R88 to R91, R99) -/

/-- What a page's move leaves is what its command may change, whatever its completion does. -/
theorem PageMoved.reply {l : List Nat} {k : Nat} {s t : State} (h : PageMoved l k s t) (hi : Hif) (f : Flt) (w : List Wire) :
    PageReply s { t with hif := hi, flt := f, wire := w } := by
  obtain ⟨tt, a, g, q, o, m, rfl, -, -, -⟩ := h
  rfl

theorem PageMoved.only {l : List Nat} {k : Nat} {s t : State} (h : PageMoved l k s t) : PageOnly s t := by
  obtain ⟨tt, a, g, q, o, m, rfl, -, -, -⟩ := h
  rfl

/-- A check list fails by its first part, or else by its second. -/
theorem firstErr_append (l m : List (Bool × Reply)) : firstErr (l ++ m) = (firstErr l).or (firstErr m) := by
  induction l with
  | nil => rfl
  | cons x l ih =>
    obtain ⟨b, r⟩ := x
    cases b with
    | true => rfl
    | false => exact ih

/-- A check list whose every answer has a property answers with it. -/
theorem firstErr_mem {l : List (Bool × Reply)} {r : Reply} (h : firstErr l = some r) : (true, r) ∈ l := by
  induction l with
  | nil => exact absurd h nofun
  | cons x l ih =>
    obtain ⟨b, r'⟩ := x
    cases b with
    | true => exact (Option.some.inj h) ▸ List.mem_cons_self
    | false => exact List.mem_cons_of_mem _ (ih h)

theorem pageLoad_enters {c : Cmd} {s u : State} {a k m : Nat} {img : List Byte} {p : Page} (hc : Clear s) (hu : u = place a img s)
    (hp : p = ownPage c u a) (he : ttEn u = true) (hh : c.hostOk = true)
    (hk : firstErr (headerChecks a p u ++ bodyChecks a p u ++ admitChecks a p u) = none) (hs : k = (freeSlot u).getD 0) (hm : m ≠ k) :
      Completes (.pageLoad c a img) s (fun t => Replied c 0x0201 1 0 0 t ∧ (page t k).id = p.id ∧ (page t k).actN = p.actN ∧ (page t k).changes = p.changes ∧
        (page t k).tag = some c.tag ∧ (page t k).part = p.part ∧ (page t k).coordHere = p.coordHere ∧ page t m = page s m ∧
        (p.localOnly = true → p.changes = [] → s.tim.now ≤ guardOf u p → (page t k).pst = .committed) ∧ PageReply s t) := by
  have hcu : Clear u := hu ▸ clear_place hc a img
  obtain ⟨q, hpq, hmv, hcom⟩ := enterPage_moves k p u
  have hsame : SamePage p (page (enterPage k p u) k) := hpq.trans (by have := hmv.same; rwa [page_setPage_same] at this)
  have htag : p.tag = some c.tag := by rw [hp]; rfl
  have hbody : opPageLoad c a img s = hostCmd c 0x0201 true (fun s =>
      let p := ownPage c s a
      match firstErr [(!ttEn s, denied), (!c.hostOk, addressError a)] with
      | some r => (r, s)
      | none =>
        match firstErr (headerChecks a p s ++ bodyChecks a p s ++ admitChecks a p s) with
        | some r => (r, tellRefused p (if r.st = 0x13 then recordRefused p s else s))
        | none => (accepted, enterPage ((freeSlot s).getD 0) p s)) u := by rw [hu]; rfl
  have hend : EndsAccepted c 0x0201 (enterPage k p u) (settle (opPageLoad c a img s)) := by
    rw [hbody]
    refine hostCmd_accepted c 0x0201 true _ u ?_ hcu (by rw [hmv.hif]; exact hcu.1) ((hmv.others (src := 0) (by decide)).1.trans hcu.2.1)
    dsimp only
    rw [he, hh, ← hp, hk, ← hs]
    rfl
  have hne : page (enterPage k p u) m = page s m := (hmv.page_ne hm).trans ((tgetD_tput_ne _ _ _ hm).trans (by rw [hu]; rfl))
  have hsu : PageReply s (enterPage k p u) := by
    obtain ⟨tt, a', g, q', o, h', hx, -, -, -⟩ := hmv
    rw [hx, hu]
    rfl
  obtain ⟨hid, -, hn, -, -, -, ht, hch, hpart, hco⟩ := hsame
  generalize hv : enterPage k p u = v at *
  refine completes_ends rfl hend fun h f w hr => ⟨hr, hid, hn, hch, ht.trans htag, hpart, hco, hne, fun h1 h2 h3 => ?_, ?_⟩
  · have hpp : p.part = true := by
      rw [hp] at h1 ⊢
      exact (Bool.or_eq_true _ _).mpr (Or.inl h1)
    have hps : p.pst = .loaded := by
      rw [hp] at hpp ⊢
      exact if_pos hpp
    have htim : u.tim = s.tim := by rw [hu]; rfl
    exact hcom hpp hps h1 h2 (by rw [htim]; exact h3)
  · unfold PageReply at hsu ⊢
    rw [hsu]

/-- Only the last check of PAGE_LOAD, its admission, answers ADMISSION_REFUSED. -/
theorem pageChecks_refused {a : Nat} {p : Page} {u : State} {r : Reply}
    (h : firstErr (headerChecks a p u ++ bodyChecks a p u ++ admitChecks a p u) = some r) (hr : r.st = 0x13) :
    (freeSlot u).isSome = true ∧ (firstRefused u p.dom p.actN 0 [] p.entries).isSome = true := by
  have hhead : ∀ x ∈ headerChecks a p u ++ bodyChecks a p u, x.2.st = 0x11 := by
    have hcons {b : Bool} {k : Nat} {l : List (Bool × Reply)} (h : ∀ x ∈ l, x.2.st = 0x11) : ∀ x ∈ (b, badField k) :: l, x.2.st = 0x11 :=
      List.forall_mem_cons.mpr ⟨rfl, h⟩
    refine List.forall_mem_append.mpr ⟨hcons (hcons (hcons (hcons nofun))), ?_⟩
    refine List.forall_mem_append.mpr ⟨List.forall_mem_append.mpr ⟨hcons (hcons (hcons nofun)), fun x hx => ?_⟩, hcons nofun⟩
    obtain ⟨e, -, rfl⟩ := List.mem_map.mp hx
    rfl
  have hno : firstErr (headerChecks a p u ++ bodyChecks a p u) = none := by
    cases hx : firstErr (headerChecks a p u ++ bodyChecks a p u) with
    | none => rfl
    | some x =>
      rw [firstErr_append, hx] at h
      have := hhead _ (firstErr_mem hx)
      cases h
      rw [hr] at this
      exact absurd this (by decide)
  rw [firstErr_append, hno, Option.none_or] at h
  unfold admitChecks at h
  by_cases h1 : decide (deadlineOf u p < u.tim.now) = true
  · rw [firstErr_fail h1] at h
    cases h
    exact absurd hr (by decide)
  · by_cases h2 : (freeSlot u).isNone = true
    · rw [firstErr_pass ((Bool.not_eq_true _).mp h1), firstErr_fail h2] at h
      cases h
      exact absurd hr (by decide)
    · rw [firstErr_pass ((Bool.not_eq_true _).mp h1), firstErr_pass ((Bool.not_eq_true _).mp h2)] at h
      refine ⟨Option.isSome_iff_ne_none.mpr fun h => h2 (by rw [h]; rfl), ?_⟩
      by_contra h3
      rw [firstErr_pass ((Bool.not_eq_true _).mp h3)] at h
      exact absurd h nofun

/-- A local page that fails a check tells no other device. -/
theorem pageLoad_refuses {c : Cmd} {s u : State} {a : Nat} {img : List Byte} {p : Page} {r : Reply} (hc : Clear s) (hu : u = place a img s)
    (hp : p = ownPage c u a) (he : ttEn u = true) (hh : c.hostOk = true) (hl : p.localOnly = true)
    (hk : firstErr (headerChecks a p u ++ bodyChecks a p u ++ admitChecks a p u) = some r) :
    opPageLoad c a img s = complete c 0x0201 r (if r.st = 0x13 then recordRefused p u else u) := by
  have hcu : Clear u := hu ▸ clear_place hc a img
  unfold opPageLoad
  rw [← hu, hostCmd_eq c 0x0201 true _ u (Or.inr hcu.2.2)]
  dsimp only
  rw [he, hh, ← hp, hk]
  dsimp only
  have ht (v : State) : tellRefused p v = v := if_neg (by rw [hl]; simp)
  rw [show firstErr [(!true, denied), (!true, addressError a)] = none from rfl]
  dsimp only
  rw [ht]

/-- A withdrawal by the coordinator's host. -/
theorem pageWithdraw_coord {c : Cmd} {s : State} {n m id : Nat} (hc : Clear s) (hs : pageSlot s id = some n) (hm : m ≠ n)
    (hco : (page s n).coordHere = true) (hcs : (page s n).cst = .collecting) : Completes (.pageWithdraw c id) s (fun t =>
      Replied c 0x0202 0 0 0 t ∧ (page t n).cst = .withdrawn ∧ (page t n).reason = 5 ∧ ((page s n).part = true → (page t n).pst = .withdrawn) ∧
        RaisedOnce 0x0A3 s t ∧ page t m = page s m ∧ PageReply s t) := by
  obtain ⟨v, q, o, hv, hx, h1, h2, h3⟩ := withdrawCoord_moves n 5 s
  let e : Ev := { src := 0x0A3, data := [(4, (page s n).id), (1, 5)], fin := (page s n).tag }
  let w := journalled q o (raise e v)
  have hmw : PageMoved [0x091, 0x0A3] n s (withdrawCoord n 5 s) := withdrawCoord_moved n 5 s
  have hchecks : firstErr [((pageSlot s id).isNone, badArg c 24 s),
      (!(match pageSlot s id with
        | some n =>
          let p := page s n
          (p.coordHere && p.cst == .collecting) || (p.localOnly && (p.pst == .loaded || p.pst == .armed))
        | none => false), denied)] = none := by
    rw [hs]
    dsimp only
    rw [hco, hcs]
    rfl
  have hop : opPageWithdraw c id s = complete c 0x0202 replyDone w := by
    unfold opPageWithdraw
    rw [hostCmd_eq c 0x0202 true _ s (Or.inr hc.2.2), checked_ok _ _ _ hchecks]
    dsimp only
    rw [hs]
    show complete c 0x0202 (if (page s n).coordHere then (replyDone, withdrawCoord n 5 s) else _).1 (if (page s n).coordHere then (replyDone, withdrawCoord n 5 s) else _).2 = _
    rw [hco, if_pos rfl]
    exact congrArg (complete c 0x0202 replyDone) hx
  have hf : w.hif.fences = [] := by rw [← show withdrawCoord n 5 s = w from hx, hmw.hif]; exact hc.1
  have hend := complete_done c 0x0202 (s := w) hf
  have hwq : w.flt.resetQ = [] := by
    rw [← show withdrawCoord n 5 s = w from hx, (hmw.others (src := 0) (by decide)).1]; exact hc.2.1
  have hone : RaisedOnce 0x0A3 s (complete c 0x0202 replyDone w) := by
    have ho : OtherRaises 0x0A3 (raise e v).flt (complete c 0x0202 replyDone w).flt := (complete_reflowed c 0x0202 w).others (by decide) (by decide)
    exact OtherRaises.count (e := e) (s := v) (hv.others (by decide)) rfl ho
  have hsame := hend.1.same
  unfold SameBlock at hsame
  have hreset : (complete c 0x0202 replyDone w).flt.resetQ = [] := (complete_resetQ _ _ _ _).trans hwq
  have hrep := hend.2
  have hwr := hmw.reply
  rw [show withdrawCoord n 5 s = w from hx] at hwr
  have hpm : page w m = page s m := hv.page_ne hm
  generalize complete c 0x0202 replyDone w = t at *
  have hpt (k : Nat) : page t k = page w k := by rw [hsame]; rfl
  refine completes_of rfl hop hreset ⟨hrep, ?_, ?_, fun h => ?_, hone, (hpt m).trans hpm, ?_⟩
  · rw [hpt]; exact h1
  · rw [hpt]; exact h2
  · rw [hpt]; exact h3 h
  · rw [hsame]; exact hwr _ _ _

end Sys2Proof.Machine

namespace Sys2Proof.Machine
open Sys2Proof

/-- A page taken off its course: its run-ahead ended, its new state noted, its event raised and its state journalled. -/
theorem pageEnds {n : Nat} {s : State} {e : Ev} {x : Page} (hu : e.unit = none) (hw : e.written = false)
    (hx : SamePage (page s n) x) : ∃ v q o,
      journalState n (raise e (setPage n x (cancelPage n s))) = journalled q o (raise e v) ∧ PageMoved [0x091] n s v ∧ page v n = x ∧
      PageMoved [0x091, e.src] n s (journalled q o (raise e v)) := by
  have h1 : PageMoved [0x091] n s (setPage n x (cancelPage n s)) := (cancelPage_moves n s).1.setPage hx
  obtain ⟨q, o, hj⟩ := journal_journalled 0x22 (pageStateBytes (page (raise e (setPage n x (cancelPage n s))) n)) (raise e (setPage n x (cancelPage n s)))
  refine ⟨setPage n x (cancelPage n s), q, o, hj, h1, page_setPage_same _ _ _, ?_⟩
  rw [← hj]
  exact PageMoved.journal _ _ ((h1.mono (by simp)).raise hu hw (by simp))

theorem pageWithdraw_local {c : Cmd} {s : State} {n m id : Nat} (hc : Clear s) (hs : pageSlot s id = some n) (hm : m ≠ n)
    (hco : (page s n).coordHere = false) (hl : (page s n).localOnly = true) (hst : (page s n).pst = .loaded ∨ (page s n).pst = .armed) :
    Completes (.pageWithdraw c id) s (fun t =>
      Replied c 0x0202 0 0 0 t ∧ (page t n).pst = .withdrawn ∧ (page t n).reason = 5 ∧ (c.cplOk = true → Raised 0x0A3 [(4, id), (1, 5)] 0 s t) ∧
        page t m = page s m ∧ PageReply s t) := by
  let e : Ev := { src := 0x0A3, data := [(4, id), (1, 5)], fin := (page s n).tag }
  let x : Page := { page (cancelPage n s) n with pst := .withdrawn, reason := 5 }
  obtain ⟨v, q, o, hx, hv, hpv, hw⟩ := pageEnds (n := n) (s := s) (e := e) (x := x) rfl rfl
    ((cancelPage_moves n s).1.same.trans ⟨rfl, rfl, rfl, rfl, rfl, rfl, rfl, rfl, rfl, rfl⟩)
  let w := journalled q o (raise e v)
  have hchecks : firstErr [((pageSlot s id).isNone, badArg c 24 s),
      (!(match pageSlot s id with
        | some n =>
          let p := page s n
          (p.coordHere && p.cst == .collecting) || (p.localOnly && (p.pst == .loaded || p.pst == .armed))
        | none => false), denied)] = none := by
    rw [hs]
    dsimp only
    rw [hco, hl]
    rcases hst with hst | hst <;> rw [hst] <;> rfl
  have hf : w.hif.fences = [] := by rw [show w.hif = s.hif from hw.hif]; exact hc.1
  have hwq : w.flt.resetQ = [] := (hw.others (src := 0) (by decide : (0 : Nat) ∉ [0x091, 0x0A3])).1.trans hc.2.1
  have hend : EndsDone c 0x0202 0 w (settle (opPageWithdraw c id s)) := by
    refine checked_done (k := 0) hchecks ?_ hc hf hwq
    dsimp only
    rw [hs]
    show (if (page s n).coordHere then (replyDone, withdrawCoord n 5 s) else _) = _
    rw [hco, if_neg (by decide)]
    exact congrArg (Prod.mk replyDone) hx
  have hkeep := hend.1.2.1
  have hsame := hend.1.same
  unfold SameBlock at hsame
  have hwr := hw.reply
  refine ⟨_, rfl, hend.2, ?_, ?_, fun hk => ?_, ?_, ?_⟩
  all_goals generalize settle (opPageWithdraw c id s) = t at *
  · exact (congrArg (fun z : State => (page z n).pst) hsame).trans ((congrArg Page.pst hpv).trans rfl)
  · exact (congrArg (fun z : State => (page z n).reason) hsame).trans ((congrArg Page.reason hpv).trans rfl)
  · have hr : Raised 0x0A3 [(4, id), (1, 5)] 0 s (raise e v) := (raise_raised e v rfl).after (hv.others (show 0x0A3 ∉ [0x091] by decide))
    have htim : t.tim = (raise e v).tim := (congrArg State.tim hsame).trans rfl
    unfold Raised at hr ⊢
    rw [htim, show t.flt = (raise e v).flt from (hkeep hk).1]
    exact hr
  · exact (congrArg (fun z : State => page z m) hsame).trans (hv.page_ne hm)
  · rw [hsame]; exact hwr _ _ _

theorem pageGuard_late {s : State} {n m id : Nat} (hc : Settled s) (hs : pageSlot s id = some n) (hm : m ≠ n) (hp : (page s n).part = true)
    (hst : (page s n).pst = .loaded ∨ (page s n).pst = .armed) : Completes (.pageGuard id) s (fun t =>
      (page t n).pst = .late ∧ t.tim.now = max s.tim.now (guardOf s (page s n) + 1) ∧ Raised 0x0A4 [(4, id)] 0 s t ∧ page t m = page s m ∧ PageOnly s t) := by
  let e : Ev := { src := 0x0A4, data := [(4, id)], fin := partTag (page s n) }
  let s1 := atLeast (guardOf s (page s n) + 1) s
  let x : Page := { page (cancelPage n s1) n with pst := .late, reason := if (page s n).pst == .loaded then 2 else (page s n).reason }
  obtain ⟨v, q, o, hx, hv, hpv, hw⟩ := pageEnds (n := n) (s := s1) (e := e) (x := x) rfl rfl
    ((cancelPage_moves n s1).1.same.trans ⟨rfl, rfl, rfl, rfl, rfl, rfl, rfl, rfl, rfl, rfl⟩)
  have hop : opPageGuard id s = journalled q o (raise e v) := by
    have hgo : ((page s n).part && ((page s n).pst == .loaded || (page s n).pst == .armed)) = true := by
      rw [hp]
      rcases hst with hst | hst <;> rw [hst] <;> rfl
    unfold opPageGuard
    rw [hs]
    exact (if_pos hgo).trans hx
  have hr : Raised 0x0A4 [(4, id)] 0 s (raise e v) := (raise_raised e v rfl).after (hv.others (show 0x0A4 ∉ [0x091] by decide))
  have htim : (journalled q o (raise e v)).tim = s1.tim := hw.tim
  refine completes_of rfl hop ((hw.others (src := 0) (by decide : (0 : Nat) ∉ [0x091, 0x0A4])).1.trans hc) ⟨?_, ?_, hr, ?_, ?_⟩
  · exact (congrArg Page.pst hpv).trans rfl
  · rw [htim]; rfl
  · exact hv.page_ne hm
  · have ho := hw.only
    unfold PageOnly at ho ⊢
    exact ho

theorem armDeadline_withdraws {s : State} {n m id : Nat} (hc : Settled s) (hs : pageSlot s id = some n) (hm : m ≠ n)
    (hco : (page s n).coordHere = true) (hcs : (page s n).cst = .collecting) : Completes (.armDeadline id) s (fun t =>
      (page t n).cst = .withdrawn ∧ (page t n).reason = 4 ∧ t.tim.now = max s.tim.now (deadlineOf s (page s n) + 1) ∧ Raised 0x0A3 [(4, (page s n).id), (1, 4)] 0 s t ∧
        ((page s n).tag = some id → Final 0x0A3 id t) ∧ page t m = page s m ∧ PageOnly s t) := by
  let s1 := atLeast (deadlineOf s (page s n) + 1) s
  obtain ⟨v, q, o, hv, hx, h1, h2, h3⟩ := withdrawCoord_moves n 4 s1
  have hw := withdrawCoord_moved n 4 s1
  rw [hx] at hw
  let e : Ev := { src := 0x0A3, data := [(4, (page s n).id), (1, 4)], fin := (page s n).tag }
  have hop : opArmDeadline id s = journalled q o (raise e v) := by
    unfold opArmDeadline
    rw [hs]
    exact (if_pos (by rw [hco, hcs]; rfl)).trans hx
  have hr : Raised 0x0A3 [(4, (page s n).id), (1, 4)] 0 s (raise e v) := (raise_raised e v rfl).after (hv.others (show 0x0A3 ∉ [0x091] by decide))
  refine completes_of rfl hop ((hw.others (src := 0) (by decide)).1.trans hc) ⟨h1, h2, ?_, hr, fun ht => raise_final e v _ rfl ht, hv.page_ne hm, ?_⟩
  · exact (congrArg Tim.now hw.tim).trans rfl
  · have ho := hw.only
    unfold PageOnly at ho ⊢
    exact ho

/-- A page that admission refuses leaves its name in the slot that it would have taken. -/
theorem recordRefused_notes {p : Page} {u : State} {k : Nat} (hk : k = (freeSlot u).getD 0) (hf : (freeSlot u).isSome = true)
    (hr : (firstRefused u p.dom p.actN 0 [] p.entries).isSome = true) (hw : (page u k).resendW = false) :
    ∃ x : Page, recordRefused p u = setPage k x u ∧ x.id = p.id ∧ x.pst = .free ∧ x.reason = 1 := by
  obtain ⟨j, hj⟩ := Option.isSome_iff_exists.mp hf
  obtain ⟨⟨i, b⟩, hi⟩ := Option.isSome_iff_exists.mp hr
  have hkj : k = j := by rw [hk, hj]; rfl
  unfold recordRefused
  rw [hj, hi, ← hkj]
  dsimp only
  rw [hw]
  exact ⟨_, rfl, rfl, rfl, rfl⟩

/-- A page that is not filled, or past its arm deadline, does not arm. -/
theorem tryArm_waits {n : Nat} {s : State} (h : (page s n).windows.all (fun w => w.filled) = false ∨
    ((page s n).localOnly = false ∧ deadlineOf s (page s n) < s.tim.now)) : tryArm n s = s := by
  unfold tryArm
  dsimp only
  rcases h with h | ⟨hl, h⟩
  · rw [h]
    simp
  · rw [hl, if_neg Bool.false_ne_true, decide_eq_false (Nat.not_le.mpr h)]
    simp

/-- Settles O34: the commands by their checks, and the operations on a page by what they leave of it. -/
theorem pagesLoadWithdrawAndWait : Obligations.PagesLoadWithdrawAndWait := by
  intro c s u a n k m id img p q r hc hu hq
  subst hq
  have hcu : Clear u := hu ▸ clear_place hc a img
  obtain ⟨hfen, hset, hbar⟩ := hc
  have hc : Clear s := ⟨hfen, hset, hbar⟩
  refine ⟨fun hp he hh hk hs hm => pageLoad_enters hc hu hp he hh hk hs hm, fun hk => ⟨_, rfl, ?_⟩,
    fun hp he hh hl hs hm hk => ⟨fun hr => ?_, fun hr hw => ?_⟩, fun hs hm hco hcs => pageWithdraw_coord hc hs hm hco hcs,
    fun hs hm hco hl hst => pageWithdraw_local hc hs hm hco hl hst, fun hs hco hl => ⟨_, rfl, checked_fails ?_ hc⟩,
    fun hs => ⟨_, rfl, checked_fails ?_ hc⟩, fun hs hh => ⟨_, rfl, ?_⟩, fun hs => ⟨_, rfl, checked_fails ?_ hc⟩,
    fun hs hm hp hst hw hl hco hd => ?_, fun hs h => ?_, fun hs hm hco hcs => armDeadline_withdraws hset hs hm hco hcs,
    fun hs hm hp hst => pageGuard_late hset hs hm hp hst, fun hs hst => ?_, fun hs => ⟨?_, ?_, ?_⟩⟩
  · unfold opPageLoad
    rw [← hu, hostCmd_eq c 0x0201 true _ u (Or.inr hcu.2.2)]
    dsimp only
    rw [hk]
    rw [settle_of_nil _ ((complete_resetQ _ _ _ _).trans hcu.2.1)]
    exact ⟨complete_same _ _ _ _, complete_replied _ _ _ _ hcu.1⟩
  · have hx := pageLoad_refuses hc hu hp he hh hl hk
    rw [if_neg hr] at hx
    exact completes_of rfl hx ((complete_resetQ _ _ _ _).trans hcu.2.1) ⟨complete_same _ _ _ _, complete_replied _ _ _ _ hcu.1⟩
  · have hx := pageLoad_refuses hc hu hp he hh hl hk
    obtain ⟨hf, hf'⟩ := pageChecks_refused hk hr
    obtain ⟨x, hrec, hid, hpst, hre⟩ := recordRefused_notes hs hf hf' hw
    rw [if_pos hr, hrec] at hx
    have hsame := complete_same c 0x0201 r (setPage k x u)
    have hrep := complete_replied c 0x0201 r (setPage k x u) hcu.1
    have hreset : (complete c 0x0201 r (setPage k x u)).flt.resetQ = [] := (complete_resetQ _ _ _ _).trans hcu.2.1
    unfold SameBlock at hsame
    rw [hr] at hrep
    generalize complete c 0x0201 r (setPage k x u) = t at *
    have hpk : page t k = x := (congrArg (fun z : State => page z k) hsame).trans (page_setPage_same _ _ _)
    have hpm : page t m = page s m := (congrArg (fun z : State => page z m) hsame).trans ((tgetD_tput_ne _ _ _ hm).trans (by rw [hu]; rfl))
    refine completes_of rfl hx hreset ⟨hrep, ?_, ?_, ?_, hpm, ?_⟩
    · rw [hpk, hid]
    · rw [hpk, hpst]
    · rw [hpk, hre]
    · rw [hu] at hsame
      unfold PageReply
      rw [hsame]
      rfl
  · rw [hs]
    dsimp only
    have h1 : ((page s n).coordHere && (page s n).cst == .collecting) = false := by
      rcases hco with h | h <;> simp [h]
    have h2 : ((page s n).localOnly && ((page s n).pst == .loaded || (page s n).pst == .armed)) = false := by
      rcases hl with h | ⟨h, h'⟩
      · simp [h]
      · simp [h, h']
    rw [h1, h2]
    rfl
  · rw [hs]; rfl
  · obtain ⟨hf', hq', -⟩ := clear_place hc a (pageStatusBytes s k (page s k))
    refine checked_done (by rw [hs]; rfl) ?_ hc hf' hq'
    refine (readBack_ok hh a _ s).trans ?_
    rw [hs]
    rfl
  · rw [hs]; rfl
  · have harm : tryArm n s = armPage n s := tryArm_arms hp hst hw (by rw [hl, if_neg Bool.false_ne_true]; exact hd)
    obtain ⟨hmv, -, h⟩ := armPage_moves n s
    obtain ⟨h1, h2, h3⟩ := h hl hco
    have hop : opRunAheadFilled id s = armPage n s := by
      unfold opRunAheadFilled
      rw [hs]
      exact harm
    exact completes_of rfl hop ((hmv.others (src := 0) (by decide)).1.trans hset) ⟨h1, h2, h3, hmv.page_ne hm, hmv.only⟩
  · refine completes_of rfl (show opRunAheadFilled id s = s from ?_) hset rfl
    unfold opRunAheadFilled
    rw [hs]
    exact tryArm_waits h
  · refine completes_of rfl (show opPageGuard id s = s from ?_) hset rfl
    unfold opPageGuard
    rw [hs]
    exact if_neg (by rw [hst]; simp)
  · exact completes_of rfl (show opPageGuard id s = s by unfold opPageGuard; rw [hs]) hset rfl
  · exact completes_of rfl (show opArmDeadline id s = s by unfold opArmDeadline; rw [hs]) hset rfl
  · exact completes_of rfl (show opRunAheadFilled id s = s by unfold opRunAheadFilled; rw [hs]) hset rfl

end Sys2Proof.Machine

namespace Sys2Proof.Machine
open Sys2Proof

/-! ## The timetable's writes and latches (R79 to R81, R105, R108) -/

theorem xp_setXp_same (w : Nat) (x : XpWord) (s : State) : xp (setXp w x s) w = x := tgetD_tput_same _ _ _ _

theorem xp_setXp_ne {w v : Nat} (x : XpWord) (s : State) (h : v ≠ w) : xp (setXp w x s) v = xp s v := tgetD_tput_ne _ _ _ h

theorem journalXp_journalled (w : Nat) (s : State) : ∃ q o, journalXp w s = journalled q o s := journal_journalled _ _ _

/-- The state `t` is `s` with its pages and journal changed, and what PAGE_APPLIED raises. -/
def Finished (s t : State) : Prop := ∃ tt f q o, t = { s with tt := tt, flt := f, red := { s.red with jseq := q, jout := o } } ∧
  ∀ src, src ≠ 0x040 → OtherRaises src s.flt f

theorem Finished.refl (s : State) : Finished s s := ⟨s.tt, s.flt, s.red.jseq, s.red.jout, rfl, fun _ _ => .refl _ _⟩

theorem Finished.trans {s t u : State} (h1 : Finished s t) (h2 : Finished t u) : Finished s u := by
  obtain ⟨_, _, _, _, rfl, hf⟩ := h1
  obtain ⟨tt, f, q, o, rfl, hf'⟩ := h2
  exact ⟨tt, f, q, o, rfl, fun src h => (hf src h).trans (hf' src h)⟩

theorem finishPage_finished (n : Nat) (s : State) : Finished s (finishPage n s) := by
  unfold finishPage
  dsimp only
  split
  · let u := setPage n { page s n with pst := .applied, appliedTs := ts32 s.tim.now } s
    let e : Ev := { src := 0x040, data := [(4, (page s n).id), (4, ts32 s.tim.now)], fin := partTag (page s n) }
    obtain ⟨q, o, hj⟩ := journal_journalled 0x22 (pageStateBytes (page (raise e u) n)) (raise e u)
    refine ⟨_, _, q, o, hj, fun src h => otherRaises_raise e u rfl rfl h⟩
  · exact .refl s

theorem strikeWord_finished (w : Nat) (s : State) : Finished s (strikeWord w s) := by
  have h (l : List Nat) (s : State) : Finished s (l.foldl
      (fun s n => finishPage n (setPage n { page s n with unlatched := (page s n).unlatched.filter (fun x => x != w) } s)) s) := by
    induction l generalizing s with
    | nil => exact .refl s
    | cons n l ih =>
      let u := setPage n { page s n with unlatched := (page s n).unlatched.filter (fun x => x != w) } s
      have hu : Finished s u := ⟨u.tt, s.flt, s.red.jseq, s.red.jout, rfl, fun _ _ => .refl _ _⟩
      exact (hu.trans (finishPage_finished n u)).trans (ih _)
  exact h _ s

theorem pageActivation_writes {s : State} {n m id w v src : Nat} (hq : Settled s) (hm : m ≠ n) (hv : v ≠ w) (hs : pageSlot s id = some n)
    (hp : (page s n).part = true) (hst : (page s n).pst = .committed) (hch : (page s n).changes = [.word w true src]) :
    Completes (.pageActivation id) s (fun t =>
      (page t n).pst = .applying ∧ (page t n).unlatched = [w] ∧ t.tim.now = max s.tim.now (pageT s (page s n)) ∧ (xp t w).sel = true ∧ (xp t w).src = src ∧
        (xp t w).pend = true ∧ (xp t w).mgmt = false ∧ (xp t w).page = n ∧ xp t v = xp s v ∧ page t m = page s m ∧ t.swc.live = s.swc.live ∧
        t = { s with tim := { s.tim with now := t.tim.now }, tt := t.tt, swc := { s.swc with xp := t.swc.xp }, flt := t.flt, red := { s.red with jseq := t.red.jseq, jout := t.red.jout } }) := by
  let s1 := atLeast (pageT s (page s n)) s
  let p : Page := { page s n with pst := .applying, unlatched := changeWords (page s n).changes }
  let s2 := setPage n p s1
  let y : XpWord := { xp s2 w with sel := true, src := src, pend := true, mgmt := false, page := n, wrote := s2.tim.now, ttAt := some s2.tim.now, bad := false }
  obtain ⟨q, o, hj⟩ := journalXp_journalled w (setXp w y s2)
  obtain ⟨q', o', hj'⟩ := journal_journalled 0x22 (pageStateBytes (page (journalled q o (setXp w y s2)) n)) (journalled q o (setXp w y s2))
  let t := journalled q' o' (journalled q o (setXp w y s2))
  have hpt : page t n = p := tgetD_tput_same _ _ _ _
  have hfin : finishPage n t = t := by
    unfold finishPage
    rw [hpt]
    exact if_neg (by simp [p, hch, changeWords])
  have hfin' : finishPage n (journalState n (journalled q o (setXp w y s2))) = t := (congrArg (finishPage n) hj').trans hfin
  have hop : opPageActivation id s = t := by
    have hgo : (!((page s n).part && (page s n).pst == .committed)) = false := by rw [hp, hst]; rfl
    unfold opPageActivation
    rw [hs]
    dsimp only
    rw [hgo, if_neg (by decide)]
    refine Eq.trans (congrArg (fun u => finishPage n (journalState n u)) ?_) hfin'
    rw [show (page s n).changes.foldl (fun s' c => writeChange n (page s n) c s') s2 = writeChange n (page s n) (.word w true src) s2 by rw [hch]; rfl]
    exact hj
  have hxp : xp t w = y := tgetD_tput_same _ _ _ _
  exact completes_of rfl hop hq ⟨congrArg Page.pst hpt, (congrArg Page.unlatched hpt).trans (by simp [p, hch, changeWords]), rfl, congrArg XpWord.sel hxp, congrArg XpWord.src hxp,
    congrArg XpWord.pend hxp, congrArg XpWord.mgmt hxp, congrArg XpWord.page hxp, tgetD_tput_ne _ _ _ hv, tgetD_tput_ne _ _ _ hm, rfl, rfl⟩

theorem pageActivation_applies {s : State} {n m id : Nat} (hq : Settled s) (hm : m ≠ n) (hs : pageSlot s id = some n)
    (hp : (page s n).part = true) (hst : (page s n).pst = .committed) (hch : (page s n).changes = []) : Completes (.pageActivation id) s (fun t =>
      (page t n).pst = .applied ∧ t.tim.now = max s.tim.now (pageT s (page s n)) ∧ Raised 0x040 [(4, (page s n).id), (4, ts32 t.tim.now)] 0 s t ∧ page t m = page s m ∧ t.swc = s.swc) := by
  let s1 := atLeast (pageT s (page s n)) s
  let p : Page := { page s n with pst := .applying, unlatched := changeWords (page s n).changes }
  obtain ⟨q, o, hj⟩ := journal_journalled 0x22 (pageStateBytes (page (setPage n p s1) n)) (setPage n p s1)
  let s2 := journalled q o (setPage n p s1)
  have hps : page s2 n = p := tgetD_tput_same _ _ _ _
  let u := setPage n { p with pst := .applied, appliedTs := ts32 s2.tim.now } s2
  let e : Ev := { src := 0x040, data := [(4, (page s n).id), (4, ts32 s2.tim.now)], fin := partTag (page s n) }
  obtain ⟨q', o', hj'⟩ := journal_journalled 0x22 (pageStateBytes (page (raise e u) n)) (raise e u)
  have hfin : finishPage n s2 = journalled q' o' (raise e u) := by
    unfold finishPage
    rw [hps]
    exact (if_pos (by simp [p, hch, changeWords])).trans hj'
  have hop : opPageActivation id s = journalled q' o' (raise e u) := by
    have hgo : (!((page s n).part && (page s n).pst == .committed)) = false := by rw [hp, hst]; rfl
    unfold opPageActivation
    rw [hs]
    dsimp only
    rw [hgo, if_neg (by decide)]
    refine Eq.trans (congrArg (fun u => finishPage n (journalState n u)) ?_) ((congrArg (finishPage n) hj).trans hfin)
    show (page s n).changes.foldl (fun s' c => writeChange n (page s n) c s') (setPage n p s1) = _
    generalize setPage n p s1 = u
    rw [hch]; rfl
  refine completes_of rfl hop ((raise_resetQ e u rfl).trans hq) ⟨congrArg Page.pst (tgetD_tput_same s2.tt.slots n _ {}), rfl, raise_raised e u rfl, ?_, rfl⟩
  exact (tgetD_tput_ne _ _ _ hm).trans (tgetD_tput_ne _ _ _ hm)

end Sys2Proof.Machine

namespace Sys2Proof.Machine
open Sys2Proof

/-- The latch of an output's word: what is latched, the word after it, and what is struck from the pages that wait. -/
theorem opCrosspointLatch_latches {s : State} {w : Nat} {f : Flow} (bad : Bool) (hw : w < 1024) (hf : flow? s (wordFlow w) = some f)
    (hd : domEn s f.domain = true) : ∃ (y : XpLive) (u : State),
      y = (if bad || (xp s w).bad then { latched s w with fi := latchFrame s w f.domain, at_ := max s.tim.now (tOf s f.domain (latchFrame s w f.domain) + takeOffset f), kept := true, was := y.was }
        else { sel := (xp s w).sel, src := (xp s w).src, fi := latchFrame s w f.domain, at_ := max s.tim.now (tOf s f.domain (latchFrame s w f.domain) + takeOffset f), kept := false, was := y.was }) ∧
      Finished (setXp w { xp s w with pend := false, bad := bad || (xp s w).bad, direct := [] }
        { atLeast (tOf s f.domain (latchFrame s w f.domain) + takeOffset f) s with swc := { s.swc with live := tput s.swc.live w y } }) u ∧
      opCrosspointLatch w bad s = directApplied w (xp s w).direct (raiseIf (bad || (xp s w).bad) { src := 0x044, data := [(2, w)] } u) := by
  let m := latchFrame s w f.domain
  let s1 := atLeast (tOf s f.domain m + takeOffset f) s
  let l := latched s w
  let was := if l.fi < m then (if l.sel then some l.src else none) else l.was
  let lost := bad || (xp s w).bad
  let y : XpLive := if lost then { l with fi := m, at_ := s1.tim.now, kept := true, was := was }
                    else { sel := (xp s w).sel, src := (xp s w).src, fi := m, at_ := s1.tim.now, kept := false, was := was }
  let u := setXp w { xp s w with pend := false, bad := lost, direct := [] } { s1 with swc := { s1.swc with live := tput s1.swc.live w y } }
  have hwas : y.was = was := by
    show (if lost then ({ l with fi := m, at_ := s1.tim.now, kept := true, was := was } : XpLive)
                    else { sel := (xp s w).sel, src := (xp s w).src, fi := m, at_ := s1.tim.now, kept := false, was := was }).was = was
    split <;> rfl
  refine ⟨y, strikeWord w u, by rw [hwas]; rfl, strikeWord_finished w u, ?_⟩
  have hgo : (!domEn s f.domain || !decide (w < 9216)) = false := by
    rw [hd, decide_eq_true (by omega : w < 9216)]; rfl
  have he (c : Bool) (v : State) : engineLatch w m c v = v := if_pos hw
  unfold opCrosspointLatch
  rw [hf]
  dsimp only
  rw [hgo, if_neg (by decide)]
  exact congrArg (fun v => directApplied w (xp s w).direct (raiseIf lost { src := 0x044, data := [(2, w)] } (strikeWord w v))) (he _ u)

theorem crosspointLatch_takes {s : State} {w v fr : Nat} {f : Flow} (hq : Settled s) (hv : v ≠ w) (hw : w < 1024) (hf : flow? s (wordFlow w) = some f)
    (hd : domEn s f.domain = true) (hb : (xp s w).bad = false) (hdir : (xp s w).direct = []) (hfr : fr = latchFrame s w f.domain) :
    Completes (.crosspointLatch w false) s (fun t =>
      (latched t w).sel = (xp s w).sel ∧ (latched t w).src = (xp s w).src ∧ (latched t w).fi = fr ∧ (latched t w).kept = false ∧
        t.tim.now = max s.tim.now (tOf s f.domain fr + takeOffset f) ∧ xp t w = { xp s w with pend := false } ∧ xp t v = xp s v ∧ latched t v = latched s v ∧
        t = { s with tim := { s.tim with now := t.tim.now }, tt := t.tt, swc := { s.swc with xp := t.swc.xp, live := t.swc.live }, flt := t.flt, red := { s.red with jseq := t.red.jseq, jout := t.red.jout } }) := by
  subst hfr
  obtain ⟨y, u, hy, ⟨tt, g, q, o, hu, hg⟩, hx⟩ := opCrosspointLatch_latches false hw hf hd
  rw [hb, Bool.or_false, if_neg (by decide)] at hy
  rw [hdir, hb, Bool.or_false] at hx
  have hop : opCrosspointLatch w false s = u := hx
  have hlt : ∀ d, tgetD (tput s.swc.live w y) w d = y := tgetD_tput_same _ _ _
  subst hu
  refine completes_of rfl hop ((hg 0 (by decide)).1.trans hq) ⟨?_, ?_, ?_, ?_, rfl, ?_, tgetD_tput_ne _ _ _ hv, tgetD_tput_ne _ _ _ hv, rfl⟩
  · exact (congrArg XpLive.sel (hlt {})).trans (by rw [hy])
  · exact (congrArg XpLive.src (hlt {})).trans (by rw [hy])
  · exact (congrArg XpLive.fi (hlt {})).trans (by rw [hy])
  · exact (congrArg XpLive.kept (hlt {})).trans (by rw [hy])
  · refine (xp_setXp_same _ _ _).trans ?_
    rw [Bool.false_or]
    generalize xp s w = x at *
    obtain ⟨⟩ := x
    cases hb; cases hdir
    rfl

theorem crosspointLatch_direct {s : State} {w id src : Nat} {f : Flow} (hq : Settled s) (hw : w < 1024) (hf : flow? s (wordFlow w) = some f)
    (hd : domEn s f.domain = true) (hb : (xp s w).bad = false) (hdir : (xp s w).direct = [(id, src)]) :
    Completes (.crosspointLatch w false) s (fun t => Final 0x045 id t ∧ Raised 0x045 [(2, w), (2, src)] 0 s t ∧ (xp t w).direct = []) := by
  obtain ⟨y, u, -, ⟨tt, g, q, o, hu, hg⟩, hx⟩ := opCrosspointLatch_latches false hw hf hd
  rw [hdir, hb, Bool.or_false] at hx
  let e : Ev := { src := 0x045, data := [(2, w), (2, src)], fin := some id }
  have hop : opCrosspointLatch w false s = raise e u := hx
  subst hu
  refine completes_of rfl hop ((raise_resetQ e _ rfl).trans ((hg 0 (by decide)).1.trans hq)) ⟨raise_final e _ _ rfl rfl, ?_, ?_⟩
  · exact (raise_raised e _ rfl).after (hg 0x045 (by decide))
  · exact congrArg XpWord.direct (xp_setXp_same w _ _)

theorem crosspointLatch_keeps {s : State} {w v : Nat} {f : Flow} (hq : Settled s) (hv : v ≠ w) (hw : w < 1024) (hf : flow? s (wordFlow w) = some f)
    (hd : domEn s f.domain = true) (hdir : (xp s w).direct = []) : Completes (.crosspointLatch w true) s (fun t =>
      (latched t w).sel = (latched s w).sel ∧ (latched t w).src = (latched s w).src ∧ (latched t w).kept = true ∧ Raised 0x044 [(2, w)] 0 s t ∧ xp t v = xp s v) := by
  obtain ⟨y, u, hy, ⟨tt, g, q, o, hu, hg⟩, hx⟩ := opCrosspointLatch_latches true hw hf hd
  rw [Bool.true_or, if_pos rfl] at hy
  rw [hdir, Bool.true_or] at hx
  let e : Ev := { src := 0x044, data := [(2, w)] }
  have hop : opCrosspointLatch w true s = raise e u := hx
  have hlt : ∀ d, tgetD (tput s.swc.live w y) w d = y := tgetD_tput_same _ _ _
  subst hu
  refine completes_of rfl hop ((raise_resetQ e _ rfl).trans ((hg 0 (by decide)).1.trans hq)) ⟨?_, ?_, ?_, ?_, tgetD_tput_ne _ _ _ hv⟩
  · exact (congrArg XpLive.sel (hlt {})).trans (by rw [hy])
  · exact (congrArg XpLive.src (hlt {})).trans (by rw [hy])
  · exact (congrArg XpLive.kept (hlt {})).trans (by rw [hy])
  · exact (raise_raised e _ rfl).after (hg 0x044 (by decide))

/-! ## XP_DIRECT (R80, R108) -/

/-- The checks of XP_DIRECT that its conditions pass. -/
theorem xpDirect_taken {c : Cmd} {s : State} {w sel src : Nat} (hc : Clear s) (hw : w ≤ 9215) (hn : wordNameable s w = true) (hsel : sel ≤ 1)
    (ht : ttEn s = true) (hd : inDestConsist s (wordFlow w) = false)
    (hsrc : if sel = 0 then src = 0 else flowNumOk src = true ∧ (nsOf src = 0 ∨ nsOf src = 2) ∧ selOk s w (normFlow src) = true ∧ slotsClosed s (normFlow src) = false)
    (hfit : changesFit s (flowD s (wordFlow w)).domain (fiNow s (flowD s (wordFlow w)).domain + 1) [directChange w sel src] = true) :
    opXpDirect c w sel src s = (fun b : Reply × State => complete c 0x0210 b.1 b.2)
      (if (xp s w).ttAt = some s.tim.now then collide c w 0 s
      else if (xp s w).pend then collide c w 1 s
      else if wordNamed s w then (denied, s)
      else
        (accepted, journalXp w (setXp w { xp s w with
          sel := sel == 1, src := if sel = 1 then normFlow src else 0, mgmt := true, page := 0, wrote := s.tim.now, bad := false
          direct := (xp s w).direct ++ [(c.tag, if sel = 1 then normFlow src else 0)] } s))) := by
  have hbad : (if sel = 0 then src != 0 else !(flowNumOk src && (nsOf src == 0 || nsOf src == 2))) = false := by
    by_cases h : sel = 0
    · rw [if_pos h] at hsrc ⊢
      simp [hsrc]
    · rw [if_neg h] at hsrc ⊢
      obtain ⟨h1, h2, -⟩ := hsrc
      rcases h2 with h2 | h2 <;> simp [h1, h2]
  have hso : (sel == 1 && (!selOk s w (normFlow src) || slotsClosed s (normFlow src))) = false := by
    by_cases h : sel = 0
    · simp [h]
    · rw [if_neg h] at hsrc
      obtain ⟨-, -, h3, h4⟩ := hsrc
      simp [h3, h4]
  have hk : firstErr [
      (decide (9215 < w) || !wordNameable s w, badArg c 24 s), (decide (1 < sel), badArg c 26 s),
      ((if sel = 0 then src != 0 else !(flowNumOk src && (nsOf src == 0 || nsOf src == 2))), badArg c 28 s),
      (!ttEn s, denied), (inDestConsist s (wordFlow w), refusedAt (argAt c 24 s)),
      (sel == 1 && (!selOk s w (normFlow src) || slotsClosed s (normFlow src)), refusedAt (argAt c 28 s)),
      (!changesFit s (flowD s (wordFlow w)).domain (fiNow s (flowD s (wordFlow w)).domain + 1) [directChange w sel src], refusedAt (argAt c 24 s))] = none := by
    rw [hbad, hso, hn, ht, hd, hfit, decide_eq_false (Nat.not_lt.mpr hw), decide_eq_false (Nat.not_lt.mpr hsel)]
    rfl
  unfold opXpDirect
  rw [hostCmd_eq c 0x0210 true _ s (Or.inr hc.2.2)]
  dsimp only
  rw [hk]

theorem alog_otherRaises {src : Nat} (a : Nat) (sp : Space) (m n : Nat) (s : State) (h : src ≠ 0x24A) : OtherRaises src s.flt (alog a sp m n s).flt := by
  let u : State := { s with flt := { s.flt with
        alog := tput s.flt.alog s.flt.alogNext { addr := a, space := spaceCode sp, origin := m, source := n, stamp := ts32 s.tim.now }
        alogValid := setBit s.flt.alogValid s.flt.alogNext, alogNext := (s.flt.alogNext + 1) % 16
        alogLost := if bit s.flt.alogValid s.flt.alogNext then satAdd 8 s.flt.alogLost 1 else s.flt.alogLost } }
  have h1 : OtherRaises src s.flt u.flt := ⟨rfl, rfl, List.prefix_rfl⟩
  exact h1.trans (otherRaises_raiseIf_unit _ _ u (Or.inl rfl) rfl h)

/-- A completion of any status raises CPL_WRITE_ERR and ALOG_LOST at most. -/
theorem completeAny_others {src : Nat} (c : Cmd) (op : Nat) (r : Reply) (s : State) (hf : s.hif.fences = []) (h1 : src ≠ 0x001) (h2 : src ≠ 0x24A) :
    OtherRaises src s.flt (complete c op r s).flt := by
  have hl : OtherRaises src s.flt (logStatus c r s).flt := by
    unfold logStatus
    split
    · exact .refl _ _
    · exact alog_otherRaises _ _ _ _ s h2
  unfold complete
  rw [hf]
  exact hl.trans (writeCpl_others c op r (s := logStatus c r s) h1)

theorem xpDirect_writes {c : Cmd} {s : State} {w v sel src : Nat} (hc : Clear s) (hv : v ≠ w)
    (hop : opXpDirect c w sel src s = (fun b : Reply × State => complete c 0x0210 b.1 b.2)
      (if (xp s w).ttAt = some s.tim.now then collide c w 0 s
      else if (xp s w).pend then collide c w 1 s
      else if wordNamed s w then (denied, s)
      else
        (accepted, journalXp w (setXp w { xp s w with
          sel := sel == 1, src := if sel = 1 then normFlow src else 0, mgmt := true, page := 0, wrote := s.tim.now, bad := false
          direct := (xp s w).direct ++ [(c.tag, if sel = 1 then normFlow src else 0)] } s))))
    (ht : (xp s w).ttAt ≠ some s.tim.now) (hp : (xp s w).pend = false) (hn : wordNamed s w = false) :
    Completes (.xpDirect c w sel src) s (fun t => Replied c 0x0210 1 0 0 t ∧
        (xp t w).sel = (sel == 1) ∧ (xp t w).src = (if sel = 1 then normFlow src else 0) ∧ (xp t w).mgmt = true ∧
        (xp t w).direct = (xp s w).direct ++ [(c.tag, if sel = 1 then normFlow src else 0)] ∧ xp t v = xp s v ∧
        t = { s with swc := { s.swc with xp := t.swc.xp }, hif := t.hif, flt := t.flt, wire := t.wire, red := { s.red with jseq := t.red.jseq, jout := t.red.jout } }) := by
  let y : XpWord := { xp s w with
          sel := sel == 1, src := if sel = 1 then normFlow src else 0, mgmt := true, page := 0, wrote := s.tim.now, bad := false
          direct := (xp s w).direct ++ [(c.tag, if sel = 1 then normFlow src else 0)] }
  obtain ⟨q, o, hj⟩ := journalXp_journalled w (setXp w y s)
  let u := journalled q o (setXp w y s)
  have hx : opXpDirect c w sel src s = complete c 0x0210 accepted u := by
    rw [hop, if_neg ht, hp, if_neg (by decide), hn, if_neg (by decide)]
    exact congrArg (complete c 0x0210 accepted) hj
  have hy : ∀ d, tgetD (tput s.swc.xp w y) w d = y := tgetD_tput_same _ _ _
  have hend : CompletionOnly c u (complete c 0x0210 accepted u) ∧ Replied c 0x0210 1 0 0 (complete c 0x0210 accepted u) :=
    ⟨complete_frame c 0x0210 accepted u hc.1 (Or.inr rfl), complete_replied c 0x0210 accepted u hc.1⟩
  have hq : (complete c 0x0210 accepted u).flt.resetQ = [] := (complete_resetQ _ _ _ _).trans hc.2.1
  have hs : settle (complete c 0x0210 accepted u) = complete c 0x0210 accepted u := settle_of_nil _ hq
  refine completes_ends (u := u) (v := complete c 0x0210 accepted u) (congrArg (fun z => Host.Outcome.next (settle z)) hx) (by rw [hs]; exact hend) fun h f z hr =>
    ⟨hr, congrArg XpWord.sel (hy {}), congrArg XpWord.src (hy {}), congrArg XpWord.mgmt (hy {}), congrArg XpWord.direct (hy {}), tgetD_tput_ne _ _ _ hv, rfl⟩

theorem xpDirect_collides {c : Cmd} {s : State} {w sel src : Nat} {x : Reply × State} (hc : Clear s)
    (hop : opXpDirect c w sel src s = (fun b : Reply × State => complete c 0x0210 b.1 b.2)
      (if (xp s w).ttAt = some s.tim.now then collide c w 0 s
      else if (xp s w).pend then collide c w 1 s else x))
    (ht : (xp s w).ttAt ≠ some s.tim.now) (hp : (xp s w).pend = true) :
    Completes (.xpDirect c w sel src) s (fun t => Replied c 0x0210 0x20 0 0 t ∧
        t.swc = { s.swc with xpCollision := satAdd 16 s.swc.xpCollision 1 } ∧ RaisedOnce 0x043 s t ∧ t = { s with swc := t.swc, hif := t.hif, flt := t.flt, wire := t.wire }) := by
  let s1 : State := { s with swc := { s.swc with xpCollision := satAdd 16 s.swc.xpCollision 1 } }
  let e : Ev := { src := 0x043, data := [(2, w), (1, 1)] }
  let u := alog w .ram c.ring 0x043 (raise e s1)
  obtain ⟨g, hg⟩ : ∃ g, u = { s1 with flt := g } := ⟨_, raiseIf_eq _ _ _⟩
  have hx : opXpDirect c w sel src s = complete c 0x0210 denied u := by
    rw [hop, if_neg ht, hp]
    rfl
  have huf : u.hif.fences = [] := by rw [hg]; exact hc.1
  have huq : u.flt.resetQ = [] := (alog_otherRaises (src := 0) w .ram c.ring 0x043 (raise e s1) (by decide)).1.trans ((raise_resetQ e s1 rfl).trans hc.2.1)
  have hone : RaisedOnce 0x043 s (complete c 0x0210 denied u) := by
    have ho := (alog_otherRaises (src := 0x043) w .ram c.ring 0x043 (raise e s1) (by decide)).trans
      (completeAny_others c 0x0210 denied u huf (by decide) (by decide))
    exact OtherRaises.count (e := e) (s := s1) (.refl _ _) rfl ho
  have hsame := complete_same c 0x0210 denied u
  have hrep := complete_replied c 0x0210 denied u huf
  have hreset : (complete c 0x0210 denied u).flt.resetQ = [] := (complete_resetQ _ _ _ _).trans huq
  unfold SameBlock at hsame
  generalize complete c 0x0210 denied u = t at *
  rw [hg] at hsame
  refine completes_of rfl hx hreset ⟨hrep, (congrArg State.swc hsame).trans rfl, hone, ?_⟩
  rw [hsame]

/-- Settles O36: the writes and latches of words, pages and rows by what each leaves. -/
theorem crosspointsLatchAndAreWritten : Obligations.CrosspointsLatchAndAreWritten := by
  intro c s n m id w v src sel first count a fl d bank row dom fi fr q f x l r hc hq hm hv hx hl
  subst hq hx hl
  obtain ⟨hfen, hset, hbar⟩ := hc
  have hc : Clear s := ⟨hfen, hset, hbar⟩
  refine ⟨fun hs hp hst hch => pageActivation_writes hset hm hv hs hp hst hch, fun hs hp hst hch => pageActivation_applies hset hm hs hp hst hch,
    fun hs hst => ?_, fun hw hf hd hb hdir hfr => crosspointLatch_takes hset hv hw hf hd hb hdir hfr,
    fun hw hf hd hb hdir => crosspointLatch_direct hset hw hf hd hb hdir, fun hw hf hd hdir => crosspointLatch_keeps hset hv hw hf hd hdir,
    fun hf => ?_, fun hw hn hsel ht hd hsrc hfit => ⟨fun h1 h2 h3 => ?_, fun h1 h2 => ?_⟩, fun hw => ?_, fun h1 h2 h3 hh => ⟨_, rfl, ?_⟩,
    fun h1 h2 => ⟨_, rfl, checked_fails ?_ hc⟩, fun h1 hf he h2 h8 => ⟨fun ha => ?_, fun ha => ⟨_, rfl, checked_fails ?_ hc⟩⟩,
    fun hb hr hd he h1 h2 h3 => ⟨_, rfl, checked_accepted ?_ rfl hc hc.1 hc.2.1⟩, fun hb hr hd he h1 => ⟨_, rfl, checked_fails ?_ hc⟩,
    fun hr => ?_, fun hr h1 h2 => ?_, fun hr => ?_⟩
  · refine completes_of rfl (show opPageActivation id s = s from ?_) hset rfl
    unfold opPageActivation
    rw [hs]
    exact if_pos (by simp [hst])
  · refine completes_of rfl (show opCrosspointLatch w false s = s from ?_) hset rfl
    unfold opCrosspointLatch
    rw [hf]
  · exact xpDirect_writes hc hv (xpDirect_taken hc hw hn hsel ht hd hsrc hfit) h1 h2 h3
  · exact xpDirect_collides hc (xpDirect_taken hc hw hn hsel ht hd hsrc hfit) h1 h2
  · refine ⟨_, rfl, hostCmd_fails c 0x0210 true _ s ?_ hc⟩
    dsimp only
    rw [firstErr_fail (by rw [decide_eq_true hw]; rfl)]
    rfl
  · obtain ⟨hf', hq', -⟩ := clear_place hc a ((List.range count).flatMap (fun i => leBytes 4 (xpWordBits (xp s (first + i))) ++ leBytes 4 (xpLiveBits (latched s (first + i)))))
    refine checked_done ?_ (readBack_ok hh a _ s) hc hf' hq'
    exact (firstErr_pass (decide_eq_false (Nat.not_lt.mpr h3))).trans (firstErr_pass (by simp; omega))
  · exact (firstErr_pass (decide_eq_false (Nat.not_lt.mpr h2))).trans (firstErr_fail (by simp; omega))
  · have hD : flowD s (normFlow fl) = f := by unfold flowD tgetD; rw [show tget? s.flows (normFlow fl) = some f from hf]; rfl
    obtain ⟨j, o, hj⟩ := journal_journalled 0x60 (leBytes 1 0 ++ leBytes 2 (normFlow fl) ++ leBytes 1 d) (setFlow (normFlow fl) { f with depth := d } s)
    have hend : EndsDone c 0x0220 0 (journalled j o (setFlow (normFlow fl) { f with depth := d } s)) (settle (opPlatformSet c fl d s)) := by
      refine checked_done (k := 0) ?_ ?_ hc hc.1 hc.2.1
      · rw [hD]
        refine (firstErr_pass (by rw [h1, hf, he]; rfl)).trans ((firstErr_pass ?_).trans (firstErr_pass ha))
        rw [decide_eq_false (Nat.not_lt.mpr h2), decide_eq_false (Nat.not_lt.mpr h8)]; rfl
      · dsimp only
        rw [hD]
        exact congrArg (Prod.mk replyDone) hj
    exact completes_ends rfl hend fun h g z hr => ⟨hr, tgetD_tput_same _ _ _ _, rfl⟩
  · have hD : flowD s (normFlow fl) = f := by unfold flowD tgetD; rw [show tget? s.flows (normFlow fl) = some f from hf]; rfl
    rw [hD]
    refine (firstErr_pass (by rw [h1, hf, he]; rfl)).trans ((firstErr_pass ?_).trans (firstErr_fail ha))
    rw [decide_eq_false (Nat.not_lt.mpr h2), decide_eq_false (Nat.not_lt.mpr h8)]; rfl
  · refine (firstErr_pass (decide_eq_false (by omega))).trans ((firstErr_pass (decide_eq_false (by omega))).trans ((firstErr_pass ?_).trans
      ((firstErr_pass h1).trans ((firstErr_pass (decide_eq_false (by omega))).trans (firstErr_pass (decide_eq_false (by omega)))))))
    rw [he, decide_eq_false (by omega : ¬ 7 < dom)]; rfl
  · refine (firstErr_pass (decide_eq_false (by omega))).trans ((firstErr_pass (decide_eq_false (by omega))).trans ((firstErr_pass ?_).trans (firstErr_fail h1)))
    rw [he, decide_eq_false (by omega : ¬ 7 < dom)]; rfl
  · refine completes_of rfl rfl (by exact hset) ?_
    show ({ s with swc := { s.swc with rows := s.swc.rows.map _ } } : State) = _
    rw [hr]
    simp
  · let e : Ev := { src := 0x048, data := [(4, locCode 0 5 r.bank (256 + r.spare) 0xFF)], fin := some r.tag }
    let u : State := { atLeast (namedFrame s r.dom r.fi) s with swc := { s.swc with rows := [{ r with swapped := true }] } }
    have hop : opCellRowSpareSwap r.bank r.row s = raise e u := by
      have hrow : setRow r.bank r.row (fun x => { x with swapped := true }) (atLeast (namedFrame s r.dom r.fi) s) = u := by
        unfold setRow
        rw [show (atLeast (namedFrame s r.dom r.fi) s).swc.rows = [r] from hr]
        simp
        rfl
      unfold opCellRowSpareSwap
      rw [hr]
      simp only [List.find?_cons, beq_self_eq_true, h1, h2, Bool.not_false, Bool.and_self]
      exact congrArg (raise e) hrow
    exact completes_of rfl hop ((raise_resetQ e u rfl).trans hset) ⟨rfl, rfl, raise_final e u _ rfl rfl, raise_raised e u rfl, rfl⟩
  · refine completes_of rfl (show opCellRowSpareSwap bank row s = s from ?_) hset rfl
    unfold opCellRowSpareSwap
    rw [hr]
    rfl

end Sys2Proof.Machine

/-! SUPPORT. The fabric links (R126): the role that a HELLO carries (R353) at its own instant. -/
namespace Sys2Proof.Machine
open Sys2Proof

/-- A holder that has just taken the tablet, 1 ns before its HELLOs take the holder's role, with link 0 UP. -/
def beforeFabric : State :=
  { State.reset with
    aqf := { State.reset.aqf with links := [(0, { st := .up })] }
    red := { State.reset.red with st := .sole, fabricAt := 1 } }

/-- The role in the HELLO at the front of a link's control queue. -/
def helloRole (s : State) (n : Nat) : Nat := fieldAt ((link s n).ctrlQ.headD {}).msg 3 1

/-- A command of no consequence here. -/
def anyCmd : Cmd := { ring := 0, tag := 0, hostOk := true, cplOk := true }

/-- Refutes O37: a HELLO carries the role of the instant at which it is sent, and the statement says that of the state before it. -/
theorem not_linksComeUpAndGoDown : ¬ Obligations.LinksComeUpAndGoDown := by
  unfold Obligations.LinksComeUpAndGoDown
  intro h
  obtain ⟨-, -, -, -, -, -, hhello, -⟩ := h anyCmd beforeFabric 0 1 0 { st := .up } {} {} {} [] ⟨rfl, rfl, rfl⟩ (by decide) (by decide) (by decide)
    (by decide) (by decide) (by decide) (by decide) (by decide) (by decide)
  obtain ⟨t, ht, hq, -⟩ := hhello rfl (by decide)
  have hrole : (match exec (.helloSend 0) beforeFabric with | .next t => helloRole t 0 | _ => 0) = 1 := by decide
  rw [ht] at hrole
  have hclaim : helloRole t 0 = 2 := by
    unfold helloRole
    rw [hq]
    decide
  exact absurd (hrole.symm.trans hclaim) (by decide)

end Sys2Proof.Machine

namespace Sys2Proof.Machine
open Sys2Proof

/-! ## The tables of the fabric and its messages (R124, R144 to R149, R131 to R134) -/

/-- Checks none of which fails answer nothing. -/
theorem firstErr_none {l : List (Bool × Reply)} (h : ∀ p ∈ l, p.1 = false) : firstErr l = none := by
  match hr : firstErr l with
  | none => rfl
  | some r => exact Bool.noConfusion (h _ (firstErr_mem hr))

theorem linkRead_reads {c : Cmd} {s : State} {first count a : Nat} (hc : Clear s) (hf : first ≤ 143) (h0 : 0 < count) (hfc : first + count ≤ 144)
    (hh : c.hostOk = true) : Completes (.linkRead c first count a) s (EndsDone c 0x0303 0
      (hostWrite a ((List.range count).flatMap (fun i => linkRecord s (first + i))) s)) := by
  have hcp := clear_place hc a ((List.range count).flatMap (fun i => linkRecord s (first + i)))
  refine ⟨_, rfl, checked_done ((firstErr_pass ?_).trans (firstErr_pass ?_)) (readBack_ok hh a _ s) hc hcp.1 hcp.2.1⟩
  · exact decide_eq_false (by omega)
  · rw [Bool.or_eq_false_iff]; exact ⟨beq_eq_false_iff_ne.mpr (by omega), decide_eq_false (by omega)⟩

/-- The control routes of one destination set. -/
theorem ctrlRouteSet_sets {c : Cmd} {s u : State} {n dest a : Nat} {img : List Byte} (hc : Clear s) (hu : u = place a img s) (hd : dest ≤ 1023)
    (hh : c.hostOk = true) (hk : (List.range 4).all (fun i => decide (fieldAt (hostBytes u (a + 64 * i) 64) 0 1 ≤ 15) &&
        ctrlRouteOk u dest (parseCtrlRoute (hostBytes u (a + 64 * i) 64))) = true) : Completes (.ctrlRouteSet c dest a img) s (fun t => Replied c 0x0330 0 0 0 t ∧
        ctrlRoutes t dest = ((List.range 4).map (fun i => parseCtrlRoute (hostBytes u (a + 64 * i) 64))).filter (fun r => !r.isEmpty) ∧
        (n ≠ dest → ctrlRoutes t n = ctrlRoutes s n) ∧
        t = { s with aqf := { s.aqf with ctrlRoutes := t.aqf.ctrlRoutes }, hif := t.hif, flt := t.flt, wire := t.wire, red := { s.red with jseq := t.red.jseq, jout := t.red.jout } }) := by
  subst hu
  obtain ⟨l, hl⟩ : ∃ l, l = ((List.range 4).map (fun i => parseCtrlRoute (hostBytes (place a img s) (a + 64 * i) 64))).filter (fun r => !r.isEmpty) := ⟨_, rfl⟩
  obtain ⟨v, hv⟩ : ∃ v, v = { place a img s with aqf := { s.aqf with ctrlRoutes := tput s.aqf.ctrlRoutes dest l } } := ⟨_, rfl⟩
  obtain ⟨q, o, hj⟩ := journal_journalled 0x32 (forwardRecord v dest) v
  have hcp := clear_place hc a img
  have he : EndsDone c 0x0330 0 (journalled q o v) (settle (opCtrlRouteSet c dest a img s)) := by
    refine checked_done ?_ ?_ hcp (by rw [hv]; exact hcp.1) (by rw [hv]; exact hcp.2.1)
    · refine (firstErr_pass (decide_eq_false (by omega))).trans ((firstErr_pass (by rw [hh]; rfl)).trans (firstErr_none ?_))
      rintro p hp
      obtain ⟨i, hi, rfl⟩ := List.mem_map.mp hp
      have hik := List.all_eq_true.mp hk i hi
      rw [Bool.and_eq_true, decide_eq_true_iff] at hik
      rw [List.mem_range] at hi
      dsimp only
      rw [List.getD_eq_getElem _ _ (by simpa using hi), List.getElem_map, List.getElem_range, hik.2, Bool.or_eq_false_iff]
      exact ⟨decide_eq_false (by omega), rfl⟩
    · dsimp only
      rw [← hl]
      exact congrArg (Prod.mk _) (by rw [← hj, hv]; rfl)
  refine completes_ends rfl he fun h f w hr => ⟨hr, ?_, fun hne => ?_, ?_⟩
  · rw [← hl, hv]; exact tgetD_tput_same _ _ _ _
  · rw [hv]; exact tgetD_tput_ne _ _ _ hne
  · rw [hv]; rfl

/-- What a run of forwarding entries set leaves: each destination of the run its own, the others theirs. -/
theorem setFwds_sets (ws : List Nat) (first : Nat) (s : State) : ∃ f q o, setFwds first ws s = journalled q o { s with aqf := { s.aqf with fwd := f } } ∧
    (∀ n, n < ws.length → tgetD f (first + n) {} = parseFwd (ws.getD n 0)) ∧
    ∀ n, n < first ∨ first + ws.length ≤ n → tget? f n = tget? s.aqf.fwd n := by
  induction ws generalizing first s with
  | nil => exact ⟨s.aqf.fwd, s.red.jseq, s.red.jout, rfl, fun n h => absurd h (Nat.not_lt_zero n), fun _ _ => rfl⟩
  | cons w ws ih =>
    obtain ⟨v, hv⟩ : ∃ v, v = { s with aqf := { s.aqf with fwd := tput s.aqf.fwd first (parseFwd w) } } := ⟨_, rfl⟩
    obtain ⟨q, o, hj⟩ := journal_journalled 0x32 (forwardRecord v first) v
    obtain ⟨f, q', o', he, hin, hout⟩ := ih (first + 1) (journalled q o v)
    have hfv : (journalled q o v).aqf.fwd = tput s.aqf.fwd first (parseFwd w) := by rw [hv]; rfl
    rw [hfv] at hout
    refine ⟨f, q', o', ?_, fun n hn => ?_, fun n hn => ?_⟩
    · unfold setFwds
      dsimp only
      rw [← hv, hj, he, hv]
      rfl
    · match n with
      | 0 =>
        have h0 : tget? f first = some (parseFwd w) := by rw [hout first (Or.inl (by omega)), tget?_tput_same]
        show (tget? f first).getD {} = _
        rw [h0]; rfl
      | m + 1 =>
        have hm := hin m (by simpa using hn)
        rw [show first + 1 + m = first + (m + 1) by omega] at hm
        rw [hm]; rfl
    · rw [List.length_cons] at hn
      rw [hout n (by omega), tget?_tput_ne _ _ (by omega)]

/-- The forwarding entries of a run of destinations set. -/
theorem fwdSet_sets {c : Cmd} {s u : State} {n first count a : Nat} {img : List Byte} (hc : Clear s) (hu : u = place a img s)
    (hfc : first + count ≤ 1024) (h0 : 0 < count) (hh : c.hostOk = true)
    (hk : (List.range count).all (fun i => fwdOk (parseFwd (fieldAt (hostBytes u (a + 4 * i) 4) 0 4))) = true) :
      Completes (.fwdSet c first count a img) s (fun t => Replied c 0x0331 0 0 0 t ∧
        (n < count → tgetD t.aqf.fwd (first + n) {} = parseFwd (fieldAt (hostBytes u (a + 4 * n) 4) 0 4)) ∧
        (n < first ∨ first + count ≤ n → tget? t.aqf.fwd n = tget? s.aqf.fwd n) ∧
        t = { s with aqf := { s.aqf with fwd := t.aqf.fwd }, hif := t.hif, flt := t.flt, wire := t.wire, red := { s.red with jseq := t.red.jseq, jout := t.red.jout } }) := by
  subst hu
  obtain ⟨ws, hws⟩ : ∃ ws, ws = (List.range count).map (fun i => fieldAt (hostBytes (place a img s) (a + 4 * i) 4) 0 4) := ⟨_, rfl⟩
  have hlen : ws.length = count := by rw [hws, List.length_map, List.length_range]
  have hget : ∀ i, i < count → ws.getD i 0 = fieldAt (hostBytes (place a img s) (a + 4 * i) 4) 0 4 := by
    intro i hi
    rw [List.getD_eq_getElem _ _ (by omega)]
    simp only [hws, List.getElem_map, List.getElem_range]
  obtain ⟨f, q, o, he, hin, hout⟩ := setFwds_sets ws first (place a img s)
  have hcp := clear_place hc a img
  have hend : EndsDone c 0x0331 0 (journalled q o { place a img s with aqf := { s.aqf with fwd := f } }) (settle (opFwdSet c first count a img s)) := by
    refine checked_done ?_ ?_ hcp hcp.1 hcp.2.1
    · refine (firstErr_pass (decide_eq_false (by omega))).trans ((firstErr_pass ?_).trans ((firstErr_pass (by rw [hh]; rfl)).trans (firstErr_none ?_)))
      · rw [Bool.or_eq_false_iff]; exact ⟨beq_eq_false_iff_ne.mpr (by omega), decide_eq_false (by omega)⟩
      · rintro p hp
        obtain ⟨i, hi, rfl⟩ := List.mem_map.mp hp
        dsimp only
        rw [← hws, hget i (List.mem_range.mp hi), Bool.not_eq_false']
        exact List.all_eq_true.mp hk i hi
    · dsimp only
      rw [← hws, he]
      rfl
  refine completes_ends rfl hend fun h g w hr => ⟨hr, fun hn => ?_, fun hn => ?_, rfl⟩
  · rw [← hget n hn]; exact hin n (by omega)
  · exact hout n (by omega)

/-- The checks of MSG_SEND but for the last. -/
theorem msgSend_checks {c : Cmd} {s : State} {dest cls len a : Nat} {r : Reply} {b : Bool} (hd : dest ≤ 1023) (hcl : cls ≤ 29) (h0 : 0 < len) (hl : len ≤ 240)
    (hh : c.hostOk = true) :
    firstErr [(decide (1023 < dest), badArg c 24 s), (decide (29 < cls), badArg c 26 s),
      (len == 0 || decide (240 < len), badArg c 27 s), (!c.hostOk, addressError a), (b, r)] = firstErr [(b, r)] := by
  rw [firstErr_pass (decide_eq_false (by omega)), firstErr_pass (decide_eq_false (by omega)), firstErr_pass, firstErr_pass (by rw [hh]; rfl)]
  rw [Bool.or_eq_false_iff]
  exact ⟨beq_eq_false_iff_ne.mpr (by omega), decide_eq_false (by omega)⟩

/-- A message of the host queued for its destination and class. -/
theorem msgSend_queues {c : Cmd} {s u : State} {dest cls len a : Nat} {img : List Byte} (hc : Clear s) (hu : u = place a img s) (hd : dest ≤ 1023)
    (hcl : cls ≤ 29) (h0 : 0 < len) (hl : len ≤ 240) (hh : c.hostOk = true) (hroom : localRoom s dest cls = true) :
    Completes (.msgSend c dest cls len a img) s (fun t =>
      Replied c 0x0340 0 0 0 t ∧
        voq t dest cls = voq s dest cls ++ [{ dest := dest, src := devId s, cls := cls, ttl := 15, len := len, seq := tgetD s.aqf.seqTx (32 * dest + cls) 0, data := hostBytes u a len }] ∧
        tgetD t.aqf.seqTx (32 * dest + cls) 0 = (tgetD s.aqf.seqTx (32 * dest + cls) 0 + 1) % 512 ∧
        t = { s with aqf := { s.aqf with voqs := t.aqf.voqs, seqTx := t.aqf.seqTx }, hif := t.hif, flt := t.flt, wire := t.wire }) := by
  subst hu
  have hcp := clear_place hc a img
  have hend : EndsDone c 0x0340 0 (originate dest cls (hostBytes (place a img s) a len) (place a img s)) (settle (opMsgSend c dest cls len a img s)) :=
    checked_done ((msgSend_checks hd hcl h0 hl hh).trans (firstErr_pass (by rw [Bool.not_eq_false']; exact hroom))) rfl hcp hcp.1 hcp.2.1
  have hdl : (hostBytes (place a img s) a len).length = len := by unfold hostBytes cread; rw [List.length_map, List.length_range]
  refine completes_ends rfl hend fun h g w hr => ⟨hr, ?_, tgetD_tput_same _ _ _ _, rfl⟩
  refine (tgetD_tput_same _ _ _ _).trans ?_
  rw [hdl]
  rfl

/-- The banks of a link given a shadow. -/
theorem setShadow_banks (l : Link) (b : PlanBank) : bankOf (setShadow l b) (if l.active = 0 then 1 else 0) = b ∧ (setShadow l b).active = l.active ∧
    bankOf (setShadow l b) (if l.active = 0 then 0 else 1) = bankOf l (if l.active = 0 then 0 else 1) := by
  unfold setShadow
  split <;> exact ⟨rfl, rfl, rfl⟩

/-- A plan that passes its checks becomes the shadow bank of its link. -/
theorem planLoad_loads {c : Cmd} {s u : State} {n d a : Nat} {b : PlanBank} {img : List Byte} (hc : Clear s) (hu : u = place a img s) (hn : n ≤ 143)
    (hh : c.hostOk = true) (hsw : swapPending s n = false) (hb : b = planBank (hostBytes u a 32768)) (hkd : (tgetD b.tx 0 {}).kind = 1)
    (hco : controlOk b.tx = true) (hl1 : labelClash b.tx = none) (hl2 : labelClash b.rx = none) (hr1 : badRef u 1 b.tx = none) (hr2 : badRef u 0 b.rx = none)
    (ho1 : overLabel b.tx = none) (ho2 : overLabel b.rx = none) (hbc : badChange u n b.tx = none) (htf : transitFits (loadShadow n b u) = true) :
      Completes (.planLoad c n a img) s (fun t => Replied c 0x0310 0 0 0 t ∧
        bankOf (link t n) (if (link s n).active = 0 then 1 else 0) = b ∧ (link t n).active = (link s n).active ∧
        bankOf (link t n) (if (link s n).active = 0 then 0 else 1) = bankOf (link s n) (if (link s n).active = 0 then 0 else 1) ∧ (d ≠ n → link t d = link s d) ∧
        t = { s with aqf := { s.aqf with links := t.aqf.links }, hif := t.hif, flt := t.flt, wire := t.wire, red := { s.red with jseq := t.red.jseq, jout := t.red.jout } }) := by
  subst hu
  obtain ⟨v, hv⟩ : ∃ v, v = loadShadow n b (place a img s) := ⟨_, rfl⟩
  obtain ⟨q, o, hj⟩ := journal_journalled 0x30 (planRecord v n (1 - (link v n).active)) v
  have hcp := clear_place hc a img
  have hend : EndsDone c 0x0310 0 (journalled q o v) (settle (opPlanLoad c n a img s)) := by
    refine checked_done ?_ ?_ hcp (by rw [hv]; exact hcp.1) (by rw [hv]; exact hcp.2.1)
    · dsimp only
      rw [← hb, hkd, hco, hl1, hl2, hr1, hr2, ho1, ho2, hbc, htf, hh, show swapPending (place a img s) n = false from hsw,
        firstErr_pass (decide_eq_false (by omega))]
      rfl
    · dsimp only
      rw [← hb, ← hv, hj]
      rfl
  have hlk : ∀ h f w, link { journalled q o v with hif := h, flt := f, wire := w } n = setShadow (link s n) b := by
    intro h f w; rw [hv]; exact tgetD_tput_same _ _ _ _
  obtain ⟨h1, h2, h3⟩ := setShadow_banks (link s n) b
  refine completes_ends rfl hend fun h f w hr => ⟨hr, by rw [hlk]; exact h1, by rw [hlk]; exact h2, by rw [hlk]; exact h3, fun hne => ?_, ?_⟩
  · rw [hv]; exact tgetD_tput_ne _ _ _ hne
  · rw [hv]; rfl

/-- The notice that a swap gives. -/
def swapNotice (cyc : Nat) (s : State) : Nat := (cyc % 2 ^ 32 + 2 ^ 32 - cycleNow s % 2 ^ 32) % 2 ^ 32

/-- A swap of loaded links, far enough ahead, waits for its cycle. -/
theorem planSwap_waits {c : Cmd} {s u : State} {cyc d a : Nat} {ls : List Nat} {img : List Byte} (hc : Clear s) (hu : u = place a img s)
    (hd : d = swapNotice cyc s) (hh : c.hostOk = true) (hls : ls = maskLinks (hostBytes u a 32)) (h2 : 2 ≤ d) (h24 : d ≤ 2 ^ 24) (hne : ls ≠ [])
    (hall : ls.all (fun k => decide (k ≤ 143) && (shadowBank (link s k)).ok && !swapPending s k) = true) : Completes (.planSwap c cyc a img) s
        (EndsAccepted c 0x0311 { u with aqf := { s.aqf with swaps := s.aqf.swaps ++ [{ cycle := cycleNow s + d, links := ls, tag := c.tag }] } }) := by
  subst hu
  have hcp := clear_place hc a img
  have hsw : swapNotice cyc (place a img s) = d := hd.symm
  have hks : ∀ k ∈ ls, k ≤ 143 ∧ (shadowBank (link s k)).ok = true ∧ swapPending s k = false := by
    intro k hk
    have := List.all_eq_true.mp hall k hk
    rw [Bool.and_eq_true, Bool.and_eq_true, decide_eq_true_iff, Bool.not_eq_true'] at this
    exact ⟨this.1.1, this.1.2, this.2⟩
  refine ⟨_, rfl, checked_accepted ?_ ?_ hcp hcp.1 hcp.2.1⟩
  · dsimp only
    rw [← hls]
    refine (firstErr_pass ?_).trans ((firstErr_pass ?_).trans ((firstErr_pass (by rw [hh]; rfl)).trans ((firstErr_pass ?_).trans (firstErr_pass ?_))))
    · show (decide (swapNotice cyc (place a img s) < 2) || decide (2 ^ 31 ≤ swapNotice cyc (place a img s))) = false
      rw [hsw, Bool.or_eq_false_iff]
      exact ⟨decide_eq_false (by omega), decide_eq_false (by omega)⟩
    · show decide (2 ^ 24 < swapNotice cyc (place a img s)) = false
      rw [hsw]
      exact decide_eq_false (by omega)
    · rw [Bool.or_eq_false_iff, List.any_eq_false]
      refine ⟨by simpa using hne, fun k hk => ?_⟩
      obtain ⟨h143, hok, -⟩ := hks k hk
      rw [show (shadowBank (link (place a img s) k)).ok = true from hok, decide_eq_false (by omega)]
      exact Bool.false_ne_true
    · rw [List.any_eq_false]
      intro k hk
      rw [show swapPending (place a img s) k = false from (hks k hk).2.2]
      exact Bool.false_ne_true
  · dsimp only
    rw [← hls]
    exact congrArg (fun x => (accepted, ({ place a img s with aqf := { s.aqf with swaps := s.aqf.swaps ++ [{ cycle := cycleNow s + x, links := ls, tag := c.tag }] } } : State))) hsw

/-- Settles O38: each table by what its command writes to it, the refusals by the check that fails. -/
theorem fabricTablesAndMessages : Obligations.FabricTablesAndMessages := by
  intro c s u first count n dest cls len a bank cyc d img ls b hc hu
  have hcp : Clear u := by rw [hu]; exact clear_place hc a img
  refine ⟨fun hf h0 hfc hh => linkRead_reads hc hf h0 hfc hh, fun hf => ⟨_, rfl, checked_fails (firstErr_fail (decide_eq_true hf)) hc⟩,
    fun hd hh hk => ctrlRouteSet_sets hc hu hd hh hk, fun hd => ⟨⟨_, rfl, ?_⟩, ⟨_, rfl, ?_⟩⟩, fun hfc h0 hh hk => fwdSet_sets hc hu hfc h0 hh hk,
    fun hd hcl h0 hl hh hroom => msgSend_queues hc hu hd hcl h0 hl hh hroom, fun hd hcl h0 hl hh hroom => ⟨_, rfl, ?_⟩,
    planLoad_loads hc hu, fun hn hh hsw => ⟨_, rfl, ?_⟩, fun hn hh hsw hb hkd => ⟨_, rfl, ?_⟩,
    fun hd hh hls => ⟨planSwap_waits hc hu hd hh hls, fun h2 => ⟨_, rfl, ?_⟩, fun h24 h31 => ⟨_, rfl, ?_⟩⟩, fun hn hb hh => ⟨_, rfl, ?_⟩, fun hn hb => ⟨_, rfl, ?_⟩⟩
  · subst hu; exact checked_fails (firstErr_fail (decide_eq_true hd)) hcp
  · subst hu; exact checked_fails (firstErr_fail (decide_eq_true hd)) hcp
  · subst hu
    exact checked_fails ((msgSend_checks hd hcl h0 hl hh).trans (firstErr_fail (by rw [Bool.not_eq_true']; exact hroom))) hcp
  · subst hu
    exact checked_fails ((firstErr_pass (decide_eq_false (by omega))).trans ((firstErr_pass (by rw [hh]; rfl)).trans (firstErr_fail hsw))) hcp
  · subst hu
    refine checked_fails ((firstErr_pass (decide_eq_false (by omega))).trans ((firstErr_pass (by rw [hh]; rfl)).trans ((firstErr_pass hsw).trans (firstErr_fail ?_)))) hcp
    rw [← hb]; exact bne_iff_ne.mpr hkd
  · subst hu
    have hsw : swapNotice cyc (place a img s) = d := hd.symm
    refine checked_fails (firstErr_fail ?_) hcp
    show (decide (swapNotice cyc (place a img s) < 2) || decide (2 ^ 31 ≤ swapNotice cyc (place a img s))) = true
    rw [hsw, decide_eq_true h2]; rfl
  · subst hu
    have hsw : swapNotice cyc (place a img s) = d := hd.symm
    refine checked_fails ((firstErr_pass ?_).trans (firstErr_fail ?_)) hcp
    · show (decide (swapNotice cyc (place a img s) < 2) || decide (2 ^ 31 ≤ swapNotice cyc (place a img s))) = false
      rw [hsw, Bool.or_eq_false_iff]
      exact ⟨decide_eq_false (by omega), decide_eq_false (by omega)⟩
    · show decide (2 ^ 24 < swapNotice cyc (place a img s)) = true
      rw [hsw]; exact decide_eq_true h24
  · have hcw := clear_place hc a (bankBytes (bankOf (link s n) bank))
    exact checked_done ((firstErr_pass (decide_eq_false (by omega))).trans (firstErr_pass (decide_eq_false (by omega)))) (readBack_ok hh a _ s) hc hcw.1 hcw.2.1
  · exact checked_fails ((firstErr_pass (decide_eq_false (by omega))).trans (firstErr_fail (decide_eq_true hb))) hc

end Sys2Proof.Machine

namespace Sys2Proof.Machine
open Sys2Proof

/-! ## Routes (R136 to R143, R152) -/

theorem keepRoute_journalled (fd : Nat) (r : Route) (s : State) : ∃ q o, keepRoute fd r s = journalled q o (setRoute fd r s) :=
  journal_journalled _ _ _

theorem sendCtrl_routes (n : Nat) (c : CtrlCell) (s : State) : (sendCtrl n c s).aqf.routes = s.aqf.routes := by
  unfold sendCtrl
  dsimp only
  split <;> rfl

theorem sendOn_routes (n : Nat) (c : CtrlCell) (s : State) : (sendOn n c s).aqf.routes = s.aqf.routes := by
  unfold sendOn
  split
  · split
    · exact sendCtrl_routes _ _ s
    · rfl
  · rfl

theorem sendRouted_routes (dest ctype : Nat) (visit : Bool) (route : List Nat) (msg : List Byte) (s : State) :
    (sendRouted dest ctype visit route msg s).aqf.routes = s.aqf.routes := by
  unfold sendRouted
  split
  · rfl
  · split
    · rfl
    · exact sendOn_routes _ _ s

/-- From `s` to `t` the fabric, the collector and the journal alone have changed; of the routes, `fd` alone, which is now `r`, and
no block reset was decided. -/
def RouteKept (fd : Nat) (r : Route) (s t : State) : Prop :=
  route? t fd = some r ∧ (∀ k, k ≠ fd → route? t k = route? s k) ∧ t.flt.resetQ = s.flt.resetQ ∧
    t = { s with aqf := t.aqf, flt := t.flt, red := { s.red with jseq := t.red.jseq, jout := t.red.jout } }

theorem keepRoute_kept (fd : Nat) (r : Route) (s : State) : RouteKept fd r s (keepRoute fd r s) := by
  obtain ⟨q, o, h⟩ := keepRoute_journalled fd r s
  rw [h]
  exact ⟨tget?_tput_same _ _ _, fun k hk => tget?_tput_ne _ _ hk, rfl, rfl⟩

/-- Control cells sent after a route was kept. -/
theorem RouteKept.sent {fd : Nat} {r : Route} {s t u : State} (h : RouteKept fd r s t) (hs : Sent t u) (hr : u.aqf.routes = t.aqf.routes) :
    RouteKept fd r s u := by
  obtain ⟨h1, h2, h3, h4⟩ := h
  have h3' : u.flt.resetQ = t.flt.resetQ := (hs.others (src := 0) (by decide)).1
  obtain ⟨a, f, rfl, -⟩ := hs
  refine ⟨?_, fun k hk => ?_, h3'.trans h3, ?_⟩
  · exact (congrArg (fun x => tget? x fd) hr).trans h1
  · exact (congrArg (fun x => tget? x k) hr).trans (h2 k hk)
  · rw [h4]

/-- A source with no unit raised after a route was kept. -/
theorem RouteKept.raise {fd : Nat} {r : Route} {s t : State} (h : RouteKept fd r s t) (e : Ev) (hu : e.unit = none) :
    RouteKept fd r s (Machine.raise e t) := by
  obtain ⟨h1, h2, h3, h4⟩ := h
  exact ⟨h1, h2, (raise_resetQ e t hu).trans h3, by rw [h4]; rfl⟩

/-- The route of a kept state. -/
theorem RouteKept.get {fd : Nat} {r : Route} {s t : State} (h : RouteKept fd r s t) : (route? t fd).getD {} = r := by rw [h.1]; rfl

theorem refuseAt_kept (i why : Nat) (r : Route) (m : RouteMsg) (s : State) :
    RouteKept m.feeder { { r with b := m.b, srcTerm := m.srcTerm } with
      st := .refused, reason := why, refHop := i + 1, reserve := 0, tentative := none, verify := none, verifyTs := ts32 s.tim.now } s (refuseAt i why r m s) :=
  (keepRoute_kept _ _ _).sent (sendRouted_sent _ _ _ _ _ _) (sendRouted_routes _ _ _ _ _ _)

/-! ### Defining and deleting a route -/

/-- A record that names a chain of hops over this device becomes a DEFINED route. -/
theorem routeDefine_checks {c : Cmd} {u : State} {a fd : Nat} {h : List Hop}
    (hh : c.hostOk = true) (hf : refNs (fieldAt (hostBytes u a 4) 0 4) = 1) (hd : refNs (fieldAt (hostBytes u (a + 4) 4) 0 4) = 0) (hl : h = recordHops u a)
    (hne : h ≠ []) (h15 : h.length ≤ 15) (hbad : badHop (fieldAt (hostBytes u a 4) 0 4) h = none)
    (hon : h.any (fun y => y.dev == devId u) = true ∨ refDev (fieldAt (hostBytes u (a + 4) 4) 0 4) = devId u)
    (hfd : fd = flowRef 1 (refDev (fieldAt (hostBytes u a 4) 0 4)) (refIx (fieldAt (hostBytes u a 4) 0 4))) :
    firstErr [
      (!c.hostOk, addressError a), (refNs (fieldAt (hostBytes u a 4) 0 4) != 1, badField a), (refNs (fieldAt (hostBytes u (a + 4) 4) 0 4) != 0, badField (a + 4)),
      ((recordHops u a).isEmpty || decide (15 < (recordHops u a).length), badField (a + 8)),
      ((badHop (fieldAt (hostBytes u a 4) 0 4) (recordHops u a)).isSome, badField (a + 16 + 8 * (badHop (fieldAt (hostBytes u a 4) 0 4) (recordHops u a)).getD 0)),
      (!(recordHops u a).any (fun h => h.dev == devId u) && refDev (fieldAt (hostBytes u (a + 4) 4) 0 4) != devId u, badField (a + 16)),
      ((route? u (flowRef 1 (refDev (fieldAt (hostBytes u a 4) 0 4)) (refIx (fieldAt (hostBytes u a 4) 0 4)))).isSome, denied),
      (decide (2048 ≤ u.aqf.routes.length), noResource)] =
    firstErr [((route? u fd).isSome, denied), (decide (2048 ≤ u.aqf.routes.length), noResource)] := by
  rw [← hl, ← hfd, hh, hf, hd, hbad]
  refine (firstErr_pass rfl).trans ((firstErr_pass rfl).trans ((firstErr_pass rfl).trans ((firstErr_pass ?_).trans ((firstErr_pass rfl).trans (firstErr_pass ?_)))))
  · rw [Bool.or_eq_false_iff]; exact ⟨by simpa using hne, decide_eq_false (by omega)⟩
  · rcases hon with h1 | h1
    · rw [h1]; rfl
    · rw [Bool.and_eq_false_iff]; exact Or.inr (bne_eq_false_iff_eq.mpr h1)

/-- A state with a route entered, seen after its completion. -/
theorem routeDefine_enters {c : Cmd} {s u : State} {a fd k : Nat} {img : List Byte} {h : List Hop} (hc : Clear s) (hu : u = place a img s) (hk : k ≠ fd)
    (hchk : firstErr ((fun s : State => [
      (!c.hostOk, addressError a), (refNs (fieldAt (hostBytes s a 4) 0 4) != 1, badField a), (refNs (fieldAt (hostBytes s (a + 4) 4) 0 4) != 0, badField (a + 4)),
      ((recordHops s a).isEmpty || decide (15 < (recordHops s a).length), badField (a + 8)),
      ((badHop (fieldAt (hostBytes s a 4) 0 4) (recordHops s a)).isSome, badField (a + 16 + 8 * (badHop (fieldAt (hostBytes s a 4) 0 4) (recordHops s a)).getD 0)),
      (!(recordHops s a).any (fun h => h.dev == devId s) && refDev (fieldAt (hostBytes s (a + 4) 4) 0 4) != devId s, badField (a + 16)),
      ((route? s (flowRef 1 (refDev (fieldAt (hostBytes s a 4) 0 4)) (refIx (fieldAt (hostBytes s a 4) 0 4)))).isSome, denied),
      (decide (2048 ≤ s.aqf.routes.length), noResource)]) u) = none) (hl : h = recordHops u a)
    (hfd : fd = flowRef 1 (refDev (fieldAt (hostBytes u a 4) 0 4)) (refIx (fieldAt (hostBytes u a 4) 0 4))) :
    Completes (.routeDefine c a img) s (fun t => Replied c 0x0320 0 0 0 t ∧
        route? t fd = some { dest := flowRef 0 (refDev (fieldAt (hostBytes u (a + 4) 4) 0 4)) (refIx (fieldAt (hostBytes u (a + 4) 4) 0 4)), hops := h } ∧
        route? t k = route? s k ∧
        t = { s with aqf := { s.aqf with routes := t.aqf.routes }, hif := t.hif, flt := t.flt, wire := t.wire, red := { s.red with jseq := t.red.jseq, jout := t.red.jout } }) := by
  subst hu
  obtain ⟨r, hr⟩ : ∃ r : Route, r = { dest := flowRef 0 (refDev (fieldAt (hostBytes (place a img s) (a + 4) 4) 0 4)) (refIx (fieldAt (hostBytes (place a img s) (a + 4) 4) 0 4)), hops := h } := ⟨_, rfl⟩
  obtain ⟨q, o, hj⟩ := keepRoute_journalled fd r (place a img s)
  have hcp := clear_place hc a img
  have he : EndsDone c 0x0320 0 (journalled q o (setRoute fd r (place a img s))) (settle (opRouteDefine c a img s)) := by
    refine checked_done hchk ?_ hcp hcp.1 hcp.2.1
    dsimp only
    rw [← hl, ← hfd, ← hr, hj]
    rfl
  exact completes_ends rfl he fun h f w hrep => ⟨hrep, (tget?_tput_same _ _ _).trans (congrArg some hr), tget?_tput_ne _ _ hk, rfl⟩

/-- A route no group carries is removed. -/
theorem routeDelete_removes {c : Cmd} {s : State} {fd k : Nat} {r : Route} (hc : Clear s) (hk : k ≠ fd) (hr : route? s fd = some r)
    (hu : routeInUse s r = false) : Completes (.routeDelete c fd) s (fun t => Replied c 0x0321 0 0 0 t ∧ route? t fd = none ∧ route? t k = route? s k ∧
      t = { s with aqf := { s.aqf with routes := t.aqf.routes }, hif := t.hif, flt := t.flt, wire := t.wire, red := { s.red with jseq := t.red.jseq, jout := t.red.jout } }) := by
  obtain ⟨q, o, hj⟩ := journal_journalled 0x31 (leBytes 4 fd) { s with aqf := { s.aqf with routes := tdel s.aqf.routes fd } }
  have he : EndsDone c 0x0321 0 (journalled q o { s with aqf := { s.aqf with routes := tdel s.aqf.routes fd } }) (settle (opRouteDelete c fd s)) := by
    refine checked_done ?_ (congrArg (Prod.mk _) hj) hc hc.1 hc.2.1
    rw [hr]
    exact (firstErr_pass rfl).trans (firstErr_pass hu)
  exact completes_ends rfl he fun h f w hrep => ⟨hrep, tget?_tdel_same _ _, tget?_tdel_ne _ hk, rfl⟩

/-! ### Verifying a route -/

/-- The checks of ROUTE_VERIFY pass at the feeder of a route that is not VERIFYING. -/
theorem routeVerify_checks {c : Cmd} {s : State} {fd : Nat} {r : Route} (hr : route? s fd = some r) (hd : refDev fd = devId s) (hv : r.st ≠ .verifying) :
    firstErr [((route? s fd).isNone, badArg c 24 s),
      (refDev fd != devId s || (match route? s fd with | some r => r.st == .verifying | none => false), denied)] = none := by
  rw [hr]
  refine (firstErr_pass rfl).trans (firstErr_pass ?_)
  rw [Bool.or_eq_false_iff]
  exact ⟨bne_eq_false_iff_eq.mpr hd, beq_eq_false_iff_ne.mpr hv⟩

theorem routeVerify_refused {c : Cmd} {s : State} {fd k why : Nat} {r : Route} (hc : Clear s) (hk : k ≠ fd) (hr : route? s fd = some r)
    (hd : refDev fd = devId s) (hv : r.st ≠ .verifying) (hok : c.cplOk = true) (hw : feederReason s fd r = some why) :
    Completes (.routeVerify c fd) s (fun t => Replied c 0x0322 1 0 0 t ∧ ((route? t fd).getD {}).st = .refused ∧
        ((route? t fd).getD {}).reason = why ∧ Final 0x08A c.tag t ∧ Raised 0x08A [(4, fd), (1, why), (1, 0)] 0 s t ∧ route? t k = route? s k) := by
  obtain ⟨v, hv'⟩ : ∃ v, v = refuseRoute fd why 0 r s := ⟨_, rfl⟩
  obtain ⟨e, he⟩ : ∃ e : Ev, e = { src := 0x08A, data := [(4, fd), (1, why), (1, 0)], fin := some c.tag } := ⟨_, rfl⟩
  have hkept : RouteKept fd { r with st := .refused, reason := why, refHop := 0, reserve := 0, tentative := none, verify := none, verifyTs := ts32 s.tim.now } s v := by
    rw [hv']; exact keepRoute_kept _ _ _
  have hkr := hkept.raise e (by rw [he])
  have hvs : v.flt = s.flt ∧ v.tim = s.tim ∧ v.hif = s.hif := by
    obtain ⟨q, o, hj⟩ := keepRoute_journalled fd { r with st := .refused, reason := why, refHop := 0, reserve := 0, tentative := none, verify := none, verifyTs := ts32 s.tim.now } s
    rw [hv', show refuseRoute fd why 0 r s = _ from hj]
    exact ⟨rfl, rfl, rfl⟩
  obtain ⟨hf, ht, hh⟩ := hvs
  have hend : EndsAccepted c 0x0322 (raise e v) (settle (opRouteVerify c fd s)) := by
    refine checked_accepted (routeVerify_checks hr hd hv) ?_ hc (by rw [raise_hif, hh]; exact hc.1) (hkr.2.2.1.trans hc.2.1)
    dsimp only
    rw [hr, Option.getD_some, hw, he, hv']
  refine ⟨_, rfl, ?_⟩
  have hrep := hend.2
  have hflt := hend.1.2.1 hok
  have hsame := hend.1.same
  unfold SameBlock at hsame
  generalize settle (opRouteVerify c fd s) = t at *
  have hrt : ∀ j, route? t j = route? (raise e v) j := fun j => (congrArg (fun z : State => route? z j) hsame).trans rfl
  have htim : t.tim.now = s.tim.now := by rw [← ht]; exact (congrArg (fun z : State => z.tim.now) hsame).trans rfl
  have hrs : Raised 0x08A [(4, fd), (1, why), (1, 0)] 0 v (raise e v) := by rw [he]; exact raise_raised _ v rfl
  have hfin : Final 0x08A c.tag (raise e v) := by rw [he]; exact raise_final _ v _ rfl rfl
  refine ⟨hrep, ?_, ?_, ?_, ?_, ?_⟩
  · rw [hrt, hkr.get]
  · rw [hrt, hkr.get]
  · unfold Final at *; rw [hflt.1]; exact hfin
  · unfold Raised at *
    rw [hflt.1, ← hf, htim, ← ht]
    exact hrs
  · rw [hrt]; exact hkr.2.1 k hk

theorem routeVerify_begins {c : Cmd} {s : State} {fd k : Nat} {r : Route} (hc : Clear s) (hk : k ≠ fd) (hr : route? s fd = some r)
    (hd : refDev fd = devId s) (hv : r.st ≠ .verifying) (hw : feederReason s fd r = none) :
    Completes (.routeVerify c fd) s (fun t => Replied c 0x0322 1 0 0 t ∧ ((route? t fd).getD {}).st = .verifying ∧
        ((route? t fd).getD {}).verify = some (c.tag, s.tim.now) ∧ route? t k = route? s k ∧
        t = { s with aqf := t.aqf, hif := t.hif, flt := t.flt, wire := t.wire, red := { s.red with jseq := t.red.jseq, jout := t.red.jout } }) := by
  obtain ⟨m, hm⟩ : ∃ m, m = firstCheck s fd r := ⟨_, rfl⟩
  obtain ⟨r', hr'⟩ : ∃ r' : Route, r' = { r with st := .verifying, reason := 0, refHop := 0xFF, verify := some (c.tag, s.tim.now), n := m.n, srcTerm := m.srcTerm } := ⟨_, rfl⟩
  obtain ⟨v, hv'⟩ : ∃ v, v = sendRouted (refDev r.dest) 10 true (forwardLinks r) (routeMsgBytes m) (keepRoute fd r' s) := ⟨_, rfl⟩
  have hkept : RouteKept fd r' s v := by
    rw [hv']; exact (keepRoute_kept _ _ _).sent (sendRouted_sent _ _ _ _ _ _) (sendRouted_routes _ _ _ _ _ _)
  obtain ⟨h1, h2, h3, h4⟩ := hkept
  have hend : EndsAccepted c 0x0322 v (settle (opRouteVerify c fd s)) := by
    refine checked_accepted (routeVerify_checks hr hd hv) ?_ hc (by rw [h4]; exact hc.1) (h3.trans hc.2.1)
    dsimp only
    rw [hr, Option.getD_some, hw, ← hm, ← hr', ← hv']
  have hg : (route? v fd).getD {} = r' := by rw [h1]; rfl
  refine completes_ends rfl hend fun h f w hrep => ⟨hrep, ?_, ?_, h2 k hk, ?_⟩
  · exact (congrArg Route.st hg).trans (by rw [hr'])
  · exact (congrArg Route.verify hg).trans (by rw [hr'])
  · rw [h4]

/-! ### Checks and results received -/

theorem routeCheckRx_transit {s : State} {lk fd i k : Nat} {r : Route} {m : RouteMsg} {x : Nat × Nat} (hc : Clear s) (hk : k ≠ fd) (hm : m.feeder = fd)
    (hr : route? s fd = some r) (hi : i = m.hop) (hlt : i + 1 < r.hops.length) (hx : transitCheck s i r m = .inr x) :
    Completes (.routeCheckRx lk m) s (fun t => ((route? t fd).getD {}).st = .verifying ∧ ((route? t fd).getD {}).b = m.b + x.1 ∧
        ((route? t fd).getD {}).reserve = transitReserve m.n x.1 ∧ ((route? t fd).getD {}).tentative = some (s.tim.now + 20000000) ∧ route? t k = route? s k ∧
        t = { s with aqf := t.aqf, flt := t.flt, red := { s.red with jseq := t.red.jseq, jout := t.red.jout } }) := by
  subst hi
  subst hm
  obtain ⟨r', hr', u, hkept, hop⟩ : ∃ r' : Route, (r'.st = .verifying ∧ r'.b = m.b + x.1 ∧ r'.reserve = transitReserve m.n x.1 ∧ r'.tentative = some (s.tim.now + 20000000)) ∧
      ∃ u, RouteKept m.feeder r' s u ∧ opRouteCheckRx lk m s = u := by
    unfold opRouteCheckRx routeCheckAt
    dsimp only
    rw [hr]
    dsimp only
    rw [if_pos hlt, hx]
    exact ⟨_, ⟨rfl, rfl, rfl, rfl⟩, _, (keepRoute_kept _ _ _).sent (sendOn_sent _ _ _) (sendOn_routes _ _ _), rfl⟩
  obtain ⟨h1, h2, h3, h4⟩ := hr'
  exact completes_of rfl hop (hkept.2.2.1.trans hc.2.1)
    ⟨by rw [hkept.get]; exact h1, by rw [hkept.get]; exact h2, by rw [hkept.get]; exact h3, by rw [hkept.get]; exact h4, hkept.2.1 k hk, hkept.2.2.2⟩

theorem routeCheckRx_refused {s : State} {lk fd i k why : Nat} {r : Route} {m : RouteMsg} (hc : Clear s) (hk : k ≠ fd) (hm : m.feeder = fd)
    (hr : route? s fd = some r) (hi : i = m.hop) (hlt : i + 1 < r.hops.length) (hx : transitCheck s i r m = .inl why) :
    Completes (.routeCheckRx lk m) s (fun t => ((route? t fd).getD {}).st = .refused ∧ ((route? t fd).getD {}).reason = why ∧
        ((route? t fd).getD {}).refHop = i + 1 ∧ ((route? t fd).getD {}).reserve = 0 ∧ route? t k = route? s k ∧
        t = { s with aqf := t.aqf, flt := t.flt, red := { s.red with jseq := t.red.jseq, jout := t.red.jout } }) := by
  subst hi
  subst hm
  have hop : opRouteCheckRx lk m s = refuseAt m.hop why r m s := by
    unfold opRouteCheckRx routeCheckAt
    dsimp only
    rw [hr]
    dsimp only
    rw [if_pos hlt, hx]
  have hkept := refuseAt_kept m.hop why r m s
  exact completes_of rfl hop (hkept.2.2.1.trans hc.2.1)
    ⟨by rw [hkept.get], by rw [hkept.get], by rw [hkept.get], by rw [hkept.get], hkept.2.1 k hk, hkept.2.2.2⟩

theorem routeCheckRx_verified {s : State} {lk fd i k : Nat} {r : Route} {m : RouteMsg} (hc : Clear s) (hk : k ≠ fd) (hm : m.feeder = fd)
    (hr : route? s fd = some r) (hi : i = m.hop) (hle : r.hops.length ≤ i + 1)
    (hx : destReason s i r m (m.b + (600 + (link s ((r.hops.getD i {}).rx)).flight).toNat) = none) : Completes (.routeCheckRx lk m) s (fun t =>
        ((route? t fd).getD {}).st = .verified ∧ ((route? t fd).getD {}).b = m.b + (600 + (link s ((r.hops.getD i {}).rx)).flight).toNat ∧
        ((route? t fd).getD {}).verifyTs = ts32 s.tim.now ∧ route? t k = route? s k ∧
        t = { s with aqf := t.aqf, flt := t.flt, red := { s.red with jseq := t.red.jseq, jout := t.red.jout } }) := by
  subst hi
  subst hm
  obtain ⟨r', hr', u, hkept, hop⟩ : ∃ r' : Route, (r'.st = .verified ∧ r'.b = m.b + (600 + (link s ((r.hops.getD m.hop {}).rx)).flight).toNat ∧ r'.verifyTs = ts32 s.tim.now) ∧
      ∃ u, RouteKept m.feeder r' s u ∧ opRouteCheckRx lk m s = u := by
    unfold opRouteCheckRx routeCheckAt
    dsimp only
    rw [hr]
    dsimp only
    rw [if_neg (by omega), hx]
    exact ⟨_, ⟨rfl, rfl, rfl⟩, _, (keepRoute_kept _ _ _).sent (sendRouted_sent _ _ _ _ _ _) (sendRouted_routes _ _ _ _ _ _), rfl⟩
  obtain ⟨h1, h2, h3⟩ := hr'
  exact completes_of rfl hop (hkept.2.2.1.trans hc.2.1)
    ⟨by rw [hkept.get]; exact h1, by rw [hkept.get]; exact h2, by rw [hkept.get]; exact h3, hkept.2.1 k hk, hkept.2.2.2⟩

/-- A route kept and the event that ends its command raised: what the completion of that command shows. -/
theorem keepRoute_raised {fd k tag src t0 : Nat} {r : Route} {data : List (Nat × Nat)} {s : State} (hk : k ≠ fd) :
    RouteKept fd r (atLeast t0 s) (raise { src := src, data := data, fin := some tag } (keepRoute fd r (atLeast t0 s))) ∧
    Final src tag (raise { src := src, data := data, fin := some tag } (keepRoute fd r (atLeast t0 s))) ∧
    route? (raise { src := src, data := data, fin := some tag } (keepRoute fd r (atLeast t0 s))) k = route? s k := by
  have hkept := (keepRoute_kept fd r (atLeast t0 s)).raise { src := src, data := data, fin := some tag } rfl
  exact ⟨hkept, raise_final _ _ _ rfl rfl, hkept.2.1 k hk⟩

theorem keepRoute_raises {fd tag src : Nat} {r : Route} {data : List (Nat × Nat)} {s : State} :
    Raised src data 0 s (raise { src := src, data := data, fin := some tag } (keepRoute fd r s)) := by
  obtain ⟨q, o, hj⟩ := keepRoute_journalled fd r s
  rw [hj]
  exact raise_raised { src := src, data := data, fin := some tag } (journalled q o (setRoute fd r s)) rfl

/-- The result of a verification at its feeder. -/
theorem routeResultRx_feeder {s : State} {lk fd k tag t0 : Nat} {r : Route} {m : RouteMsg} (hc : Clear s) (hk : k ≠ fd) (hm : m.feeder = fd)
    (hr : route? s fd = some r) (hd : refDev fd = devId s) (hv : r.verify = some (tag, t0)) :
      (m.essence = 0 → Completes (.routeResultRx lk m) s (fun t => ((route? t fd).getD {}).st = .verified ∧ ((route? t fd).getD {}).verify = none ∧ ((route? t fd).getD {}).b = m.b ∧
        Final 0x089 tag t ∧ Raised 0x089 [(4, fd), (4, m.b)] 0 s t ∧ route? t k = route? s k)) ∧
      (m.essence ≠ 0 → Completes (.routeResultRx lk m) s (fun t => ((route? t fd).getD {}).st = .refused ∧ ((route? t fd).getD {}).verify = none ∧
        Final 0x08A tag t ∧ Raised 0x08A [(4, fd), (1, m.format % 256), (1, m.format / 256)] 0 s t ∧ route? t k = route? s k)) := by
  subst hm
  have htake : ∀ v, takeResult m s = v → devId v = devId s → opRouteResultRx lk m s = v := by
    intro v hv hdv
    unfold opRouteResultRx
    rw [hr]
    dsimp only
    rw [hv]
    exact if_pos (hd.trans hdv.symm)
  obtain ⟨r', hr'⟩ : ∃ r' : Route, r' = { r with b := m.b, srcTerm := m.srcTerm, terms := m.terms, verifyTs := ts32 s.tim.now } := ⟨_, rfl⟩
  refine ⟨fun he => ?_, fun he => ?_⟩
  · have hop : takeResult m s = raise { src := 0x089, data := [(4, m.feeder), (4, m.b)], fin := some tag }
        (keepRoute m.feeder { r' with st := .verified, reason := 0, refHop := 0xFF, verify := none } s) := by
      unfold takeResult
      rw [hr, hr']
      dsimp only
      rw [if_pos hd, hv]
      exact if_pos (beq_iff_eq.mpr he)
    have hkept := (keepRoute_kept m.feeder { r' with st := .verified, reason := 0, refHop := 0xFF, verify := none } s).raise
      { src := 0x089, data := [(4, m.feeder), (4, m.b)], fin := some tag } rfl
    refine completes_of rfl (htake _ hop ((congrArg devId hkept.2.2.2).trans rfl)) (hkept.2.2.1.trans hc.2.1) ⟨by rw [hkept.get], by rw [hkept.get], by rw [hkept.get, hr'],
      raise_final _ _ _ rfl rfl, keepRoute_raises, hkept.2.1 k hk⟩
  · have hop : takeResult m s = raise { src := 0x08A, data := [(4, m.feeder), (1, m.format % 256), (1, m.format / 256)], fin := some tag }
        (refuseRoute m.feeder (m.format % 256) (m.format / 256) r' s) := by
      unfold takeResult
      rw [hr, hr']
      dsimp only
      rw [if_pos hd, hv]
      exact if_neg (by rw [beq_eq_false_iff_ne.mpr he]; exact Bool.false_ne_true)
    have hkept := (keepRoute_kept m.feeder { r' with st := .refused, reason := m.format % 256, refHop := m.format / 256, reserve := 0, tentative := none, verify := none, verifyTs := ts32 s.tim.now } s).raise
      { src := 0x08A, data := [(4, m.feeder), (1, m.format % 256), (1, m.format / 256)], fin := some tag } rfl
    refine completes_of rfl (htake _ hop ((congrArg devId hkept.2.2.2).trans rfl)) (hkept.2.2.1.trans hc.2.1) ⟨by unfold refuseRoute; rw [hkept.get], by unfold refuseRoute; rw [hkept.get],
      raise_final _ _ _ rfl rfl, keepRoute_raises, hkept.2.1 k hk⟩

/-- A verification that no result ended in time is refused. -/
theorem routeVerifyTimeout_refuses {s : State} {fd k tag t0 : Nat} {r : Route} (hc : Clear s) (hk : k ≠ fd) (hr : route? s fd = some r)
    (hv : r.verify = some (tag, t0)) : Completes (.routeVerifyTimeout fd) s (fun t => ((route? t fd).getD {}).st = .refused ∧ ((route? t fd).getD {}).reason = 8 ∧
      t.tim.now = max s.tim.now (t0 + 10000000) ∧ Final 0x08A tag t ∧ route? t k = route? s k) := by
  obtain ⟨hkept, hfin, hne⟩ := keepRoute_raised (fd := fd) (k := k) (tag := tag) (src := 0x08A) (t0 := t0 + 10000000) (data := [(4, fd), (1, 8), (1, 0xFF)]) (s := s)
    (r := { r with st := .refused, reason := 8, refHop := 0xFF, reserve := 0, tentative := none, verify := none, verifyTs := ts32 (atLeast (t0 + 10000000) s).tim.now }) hk
  have hop : opRouteVerifyTimeout fd s = raise { src := 0x08A, data := [(4, fd), (1, 8), (1, 0xFF)], fin := some tag }
      (refuseRoute fd 8 0xFF r (atLeast (t0 + 10000000) s)) := by
    unfold opRouteVerifyTimeout
    rw [hr]
    dsimp only
    rw [hv]
  refine completes_of rfl hop (hkept.2.2.1.trans hc.2.1) ⟨by unfold refuseRoute; rw [hkept.get], by unfold refuseRoute; rw [hkept.get], ?_, hfin, hne⟩
  exact (congrArg (fun z : State => z.tim.now) hkept.2.2.2).trans rfl

/-- Settles O39: the routes kept by `RouteKept`, the refusals by the check that fails. -/
theorem routesAreDefinedAndVerified : Obligations.RoutesAreDefinedAndVerified := by
  intro c s u a fd k lk i tag t0 why img h r m x hc hu hk
  have hcp : Clear u := by rw [hu]; exact clear_place hc a img
  refine ⟨fun hh hf hd hl hne h15 hbad hon hfd => ⟨fun hnone h2048 => ?_, fun hsome => ⟨_, rfl, ?_⟩⟩, fun hh hf => ⟨_, rfl, ?_⟩,
    fun hr huse => routeDelete_removes hc hk hr huse, fun hr huse => ⟨_, rfl, checked_fails ?_ hc⟩,
    fun hnone => ⟨⟨_, rfl, checked_fails ?_ hc⟩, ⟨_, rfl, checked_fails ?_ hc⟩, ⟨_, rfl, checked_fails ?_ hc⟩⟩, fun hr hh => ⟨_, rfl, ?_⟩,
    fun hr hd hv hok => ⟨fun hw => routeVerify_refused hc hk hr hd hv hok hw, fun hw => routeVerify_begins hc hk hr hd hv hw⟩,
    fun hr hbad => ⟨_, rfl, checked_fails ?_ hc⟩,
    fun hm hr hi hlt => ⟨fun hx => routeCheckRx_transit hc hk hm hr hi hlt hx, fun hx => routeCheckRx_refused hc hk hm hr hi hlt hx⟩,
    fun hm hr hi hle hx => routeCheckRx_verified hc hk hm hr hi hle hx, fun hm hnone => ⟨completes_of (u := discard lk s) rfl ?_ hc.2.1 rfl, completes_of (u := discard lk s) rfl ?_ hc.2.1 rfl⟩,
    fun hm hr hd hv => routeResultRx_feeder hc hk hm hr hd hv, fun hr hv => routeVerifyTimeout_refuses hc hk hr hv,
    fun hr hv => completes_of rfl ?_ hc.2.1 rfl, fun hr ht => ?_, fun hr ht => completes_of rfl ?_ hc.2.1 rfl⟩
  · refine routeDefine_enters hc hu hk ((routeDefine_checks hh hf hd hl hne h15 hbad (by subst hu; exact hon) hfd).trans ?_) hl hfd
    rw [hu]
    exact (firstErr_pass (show (route? s fd).isSome = false by rw [hnone]; rfl)).trans (firstErr_pass (decide_eq_false (by exact Nat.not_le.mpr h2048)))
  · subst hu
    exact checked_fails ((routeDefine_checks hh hf hd hl hne h15 hbad hon hfd).trans (firstErr_fail hsome)) hcp
  · subst hu
    exact checked_fails ((firstErr_pass (by rw [hh]; rfl)).trans (firstErr_fail (bne_iff_ne.mpr hf))) hcp
  · rw [hr]; exact (firstErr_pass rfl).trans (firstErr_fail huse)
  · rw [hnone]; exact firstErr_fail rfl
  · rw [hnone]; exact firstErr_fail rfl
  · rw [hnone]; exact firstErr_fail rfl
  · have hcw := clear_place hc a (routeStatus fd r)
    refine checked_done ?_ ((readBack_ok hh a _ s).trans (by rw [hr]; rfl)) hc hcw.1 hcw.2.1
    rw [hr]; exact firstErr_pass rfl
  · rw [hr]
    refine (firstErr_pass rfl).trans (firstErr_fail ?_)
    rw [Bool.or_eq_true]
    exact hbad.imp bne_iff_ne.mpr beq_iff_eq.mpr
  · unfold opRouteCheckRx routeCheckAt; rw [hm, hnone]
  · unfold opRouteResultRx; rw [hm, hnone]
  · unfold opRouteVerifyTimeout; rw [hr]; dsimp only; rw [hv]
  · have hkept := keepRoute_kept fd { r with st := .defined, reserve := 0, tentative := none } (atLeast t0 s)
    refine completes_of rfl (show opRouteReservationExpiry fd s = _ by unfold opRouteReservationExpiry; rw [hr]; dsimp only; rw [ht]) (hkept.2.2.1.trans hc.2.1) ⟨hkept.1, ?_, hkept.2.1 k hk⟩
    exact (congrArg (fun z : State => z.tim.now) hkept.2.2.2).trans rfl
  · unfold opRouteReservationExpiry; rw [hr]; dsimp only; rw [ht]

end Sys2Proof.Machine

/-! SUPPORT. A function descriptor (R230): its reserved bytes are not kept. -/
namespace Sys2Proof.Machine
open Sys2Proof

/-- A unit with a processed audio flow defined, the function SRC in its catalogue, and in host memory at address 0 a descriptor of
SRC for the flow whose reserved byte 10 is 1. -/
def srcDescribed : State :=
  { State.reset with
    regs := (wr State.reset .ikaClassCfg 0 0 (2 ^ 31)).regs
    flows := [(flowNum 2 0, { essence := 1, endpoint := 0, port := 0, format := 1 })]
    ika := { State.reset.ika with cat := [(6, 6 * 2 ^ 24)] }
    hif := { State.reset.hif with mem := [(1, 0x80), (2, 6), (4, 1), (10, 1)] } }

/-- The descriptor as the host wrote it. -/
def srcDescriptor : List Byte := hostBytes srcDescribed 0 256

/-- Refutes O40: a descriptor is kept with its reserved bytes 0 (R3), and the statement says that it is kept as written. -/
theorem not_functionsAreDescribedLoadedAndRead : ¬ Obligations.FunctionsAreDescribedLoadedAndRead := by
  unfold Obligations.FunctionsAreDescribedLoadedAndRead
  intro h
  obtain ⟨hset, -⟩ := h anyCmd srcDescribed srcDescribed 0 0 (flowNum 2 0) 0 0 0 0 [] srcDescriptor []
    { essence := 1, endpoint := 0, port := 0, format := 1 } { desc := srcDescriptor, addr := 0 } (proc srcDescribed 0) {} ⟨rfl, rfl, rfl⟩ rfl rfl
  obtain ⟨t, ht, -, hp, -⟩ := (hset rfl rfl (by decide) (by decide) (by decide) (by decide) (by decide) rfl).1 (by decide)
  have hkept : (match exec (.procSet anyCmd 0 []) srcDescribed with | .next t => (proc t 0).desc.getD 10 0 | _ => 0) = 0 := by decide
  rw [ht] at hkept
  have hclaim : (proc t 0).desc.getD 10 0 = 1 := by
    rw [hp]
    decide
  exact absurd (hkept.symm.trans hclaim) (by decide)

end Sys2Proof.Machine

namespace Sys2Proof.Machine
open Sys2Proof

/-! ## Audits and spares of classrooms (R14, R249, R251) -/

theorem room_setRoom_same (rm : Nat) (r : Classroom) (s : State) : room (setRoom rm r s) rm = r := tgetD_tput_same _ _ _ _

theorem room_setRoom_ne {m rm : Nat} (r : Classroom) (s : State) (h : m ≠ rm) : room (setRoom rm r s) m = room s m := tgetD_tput_ne _ _ _ h

/-- A failed audit changes the collector alone, and decides no block reset where its reaction is masked. -/
theorem auditFail_raises (rm slot pf v : Nat) (s : State) (hb : bit (rd s .fltSrcCfg 0x125) 27 = false) :
    ∃ f, auditFail rm slot pf v s = { s with flt := f } ∧ f.resetQ = s.flt.resetQ ∧
      Raised 0x125 [(4, tileLoc rm (tileOf (room s rm) slot) 0xFF), (2, pf), (1, v)] 0 s { s with flt := f } :=
  ⟨_, rfl, raise_resetQ' { src := 0x125, data := [(4, tileLoc rm (tileOf (room s rm) slot) 0xFF), (2, pf), (1, v)], unit := some (.tile rm (tileOf (room s rm) slot)) } s (Or.inr hb),
    raise_raised { src := 0x125, data := [(4, tileLoc rm (tileOf (room s rm) slot) 0xFF), (2, pf), (1, v)], unit := some (.tile rm (tileOf (room s rm) slot)) } s rfl⟩

/-- A tick that takes place: the counter moves to it, and the slot after the one due is next. -/
theorem auditTick_idle {s : State} {rm crc : Nat} (hr : auditsRun s = true) (he : roomEn s rm = true) (ha : (auditorOf (room s rm)).isSome = true)
    (ho : (room s rm).opinion = none) (hs : (room s rm).sampled = none) :
    opEngineAuditTick rm crc s = setRoom rm { room s rm with auditNext := ((room s rm).auditNext + 1) % 32, auditAt := max s.tim.now (auditTick s (room s rm).auditAt), idle := (room s rm).idle + 1 }
      (atLeast (auditTick s (room s rm).auditAt) s) := by
  unfold opEngineAuditTick
  dsimp only
  rw [hr, he, Option.isNone_eq_false_iff.mpr ha, if_neg (by decide)]
  generalize hrm : room s rm = r at *
  obtain ⟨t, ht⟩ : ∃ t, t = auditTick s r.auditAt := ⟨_, rfl⟩
  rw [← ht, ho]
  dsimp only
  rw [show (room (atLeast t s) rm).sampled = none from (congrArg Classroom.sampled hrm).trans hs]
  exact congrArg (fun x => setRoom rm x (atLeast t s)) (by cases r; cases ho; cases hs; rfl)

theorem auditTick_sampled {s : State} {rm crc : Nat} {y : AuditItem} (hr : auditsRun s = true) (he : roomEn s rm = true) (ha : (auditorOf (room s rm)).isSome = true)
    (ho : (room s rm).opinion = none) (hs : (room s rm).sampled = some y) :
    opEngineAuditTick rm crc s =
      (if y.crc = crc then setRoom rm { room s rm with auditNext := ((room s rm).auditNext + 1) % 32, auditAt := max s.tim.now (auditTick s (room s rm).auditAt), passes := satAdd 16 (room s rm).passes 1, sampled := none }
        (atLeast (auditTick s (room s rm).auditAt) s)
      else if otherFree (room s rm) then setRoom rm { room s rm with auditNext := ((room s rm).auditNext + 1) % 32, auditAt := max s.tim.now (auditTick s (room s rm).auditAt), fails := satAdd 16 (room s rm).fails 1, sampled := none, opinion := some { slot := (room s rm).auditNext, pf := y.pf, tick := max s.tim.now (auditTick s (room s rm).auditAt), crc := y.crc } }
        (atLeast (auditTick s (room s rm).auditAt) s)
      else auditFail rm (room s rm).auditNext y.pf 2 (setRoom rm { room s rm with auditNext := ((room s rm).auditNext + 1) % 32, auditAt := max s.tim.now (auditTick s (room s rm).auditAt), fails := satAdd 16 (room s rm).fails 1, sampled := none }
        (atLeast (auditTick s (room s rm).auditAt) s))) := by
  unfold opEngineAuditTick
  dsimp only
  rw [hr, he, Option.isNone_eq_false_iff.mpr ha, if_neg (by decide)]
  generalize hrm : room s rm = r at *
  obtain ⟨t, ht⟩ : ∃ t, t = auditTick s r.auditAt := ⟨_, rfl⟩
  rw [← ht, ho]
  dsimp only
  rw [show (room (atLeast t s) rm).sampled = some y from (congrArg Classroom.sampled hrm).trans hs]
  obtain ⟨s32, s33, sw, sv, au, nx, ps, fl, id, su, op, sm, at_⟩ := r
  cases ho
  rfl

theorem auditTick_off {s : State} {rm crc : Nat} (h : auditsRun s = false ∨ auditorOf (room s rm) = none ∨ roomEn s rm = false) :
    opEngineAuditTick rm crc s = s := by
  unfold opEngineAuditTick
  refine if_pos ?_
  rcases h with h | h | h <;> simp [h]

/-! ### The swap of a spare (R251) -/

/-- A classroom whose swap `w` has taken place. -/
def swapped (w : EngineSwap) (r : Classroom) : Classroom :=
  let r := if tileOf r w.slot = 65 - w.tile then setSpare (65 - w.tile) { st := .retired, slot := 0 } r else r
  let r := setSpare w.tile { st := .inService, slot := w.slot } r
  { r with swap := none, serving := tput r.serving w.slot w.tile, auditor := if auditorOf r = some 33 then 1 else 0 }

/-- The classroom in which spare 32 has been swapped in. -/
theorem swapped_32 {w : EngineSwap} (r : Classroom) (hw : w.tile = 32) :
    ∃ x a, swapped w r = { r with s32 := { st := .inService, slot := w.slot }, s33 := x, swap := none, serving := tput r.serving w.slot 32, auditor := a } ∧
      (tileOf r w.slot = 33 → x.st = .retired) ∧ (tileOf r w.slot ≠ 33 → x = r.s33) ∧ (x.st = .free → a = 1) := by
  unfold swapped
  rw [hw]
  by_cases h : tileOf r w.slot = 33
  · rw [if_pos h]
    exact ⟨{ st := .retired, slot := 0 }, _, rfl, fun _ => rfl, fun h' => absurd h h', nofun⟩
  · rw [if_neg h]
    refine ⟨r.s33, _, rfl, fun h' => absurd h' h, fun _ => rfl, fun hx => ?_⟩
    refine if_pos ?_
    unfold auditorOf
    exact (if_neg (by rintro (h1 | h1) <;> cases h1)).trans (if_pos (Or.inl hx))

/-- Where an auditor stays or the audits were suspended before, nothing more stops. -/
theorem auditStop_keeps {rm : Nat} {s : State} (h : (auditorOf (room s rm)).isSome = true ∨ (room s rm).suspended = true) : auditStop rm s = s := by
  unfold auditStop
  refine if_pos ?_
  rw [Bool.or_eq_true]
  exact h

theorem auditStop_stops {rm : Nat} {s : State} (h : auditorOf (room s rm) = none) (hs : (room s rm).suspended = false) :
    auditStop rm s = raise { src := 0x126, data := [(1, rm)] } (setRoom rm { room s rm with suspended := true } s) := by
  unfold auditStop
  refine if_neg ?_
  rw [h, hs]
  exact Bool.false_ne_true

/-- Stopping the audits of a classroom changes its own mark alone. -/
theorem auditStop_frame (rm : Nat) (s : State) : ∃ b f, room (auditStop rm s) rm = { room s rm with suspended := b } ∧ (∀ m, m ≠ rm → room (auditStop rm s) m = room s m) ∧
    auditStop rm s = { s with ika := { s.ika with rooms := (auditStop rm s).ika.rooms }, flt := f } ∧ ∀ src, src ≠ 0x126 → OtherRaises src s.flt f := by
  cases h : (auditorOf (room s rm)).isSome || (room s rm).suspended with
  | true =>
    rw [auditStop_keeps (by rwa [Bool.or_eq_true] at h)]
    exact ⟨(room s rm).suspended, s.flt, rfl, fun _ _ => rfl, rfl, fun _ _ => .refl _ _⟩
  | false =>
    rw [Bool.or_eq_false_iff] at h
    rw [auditStop_stops (Option.not_isSome_iff_eq_none.mp (by rw [h.1]; exact Bool.false_ne_true)) h.2]
    exact ⟨true, _, room_setRoom_same _ _ _, fun m hm => room_setRoom_ne _ _ hm, rfl,
      fun src hne => otherRaises_raise { src := 0x126, data := [(1, rm)] } (setRoom rm { room s rm with suspended := true } s) rfl rfl hne⟩

theorem engineSpareSwap_swaps {s : State} {rm m slot : Nat} {r : Classroom} {w : EngineSwap} (hc : Clear s) (hm : m ≠ rm) (hr : r = room s rm)
    (hs : r.swap = some w) (hw : w.tile = 32) : Completes (.engineSpareSwap rm) s (fun t => t.tim.now = max s.tim.now (namedFrame s w.dom w.fi) ∧ (room t rm).swap = none ∧
      tileOf (room t rm) w.slot = 32 ∧ (room t rm).s32 = { st := .inService, slot := w.slot } ∧ (w.slot ≠ slot → tileOf (room t rm) slot = tileOf r slot) ∧
      (tileOf r w.slot = 33 → (room t rm).s33.st = .retired) ∧ (tileOf r w.slot ≠ 33 → (room t rm).s33 = r.s33) ∧ RaisedOnce 0x128 s t ∧
      (r.s33.st = .free → tileOf r w.slot ≠ 33 → Final 0x128 w.tag t ∧ Raised 0x128 [(1, rm), (1, w.slot), (4, tileLoc rm 32 0xFF)] 0 s t ∧ (room t rm).auditor = 1) ∧
      (tileOf r w.slot = 33 → r.suspended = false → (room t rm).suspended = true ∧ Raised 0x126 [(1, rm)] 0 s t) ∧
      room t m = room s m ∧ t = { s with tim := { s.tim with now := t.tim.now }, ika := { s.ika with rooms := t.ika.rooms }, flt := t.flt }) := by
  obtain ⟨x, a, hsw, hret, hkeep, haud⟩ := swapped_32 r hw
  obtain ⟨e, he⟩ : ∃ e : Ev, e = { src := 0x128, data := [(1, rm), (1, w.slot), (4, tileLoc rm 32 0xFF)], fin := some w.tag } := ⟨_, rfl⟩
  obtain ⟨u, hu⟩ : ∃ u, u = setRoom rm (swapped w r) (atLeast (namedFrame s w.dom w.fi) s) := ⟨_, rfl⟩
  obtain ⟨v, hv⟩ : ∃ v, v = raise e u := ⟨_, rfl⟩
  have hop : opEngineSpareSwap rm s = auditStop rm v := by
    unfold opEngineSpareSwap
    dsimp only
    rw [← hr, hs]
    rw [hv, he, hu, ← hw]
    rfl
  have hroom : room v rm = swapped w r := by rw [hv, hu]; exact room_setRoom_same _ _ _
  have hroomne : room v m = room s m := by rw [hv, hu]; exact room_setRoom_ne _ _ hm
  have hrv : Raised 0x128 [(1, rm), (1, w.slot), (4, tileLoc rm 32 0xFF)] 0 s v := by
    rw [hv, he]
    refine (raise_raised _ u rfl).after ?_
    rw [hu]; exact .refl _ _
  have hfv : Final 0x128 w.tag v := by rw [hv, he]; exact raise_final _ u _ rfl rfl
  have hov : ∀ src, src ≠ 0x128 → OtherRaises src s.flt v.flt := by
    intro src hne
    have h1 : OtherRaises src u.flt (raise e u).flt := by rw [he]; exact otherRaises_raise _ u rfl rfl hne
    rw [hv]
    have hflt : u.flt = s.flt := by rw [hu]; rfl
    rwa [hflt] at h1
  have hvs : v = { s with tim := { s.tim with now := max s.tim.now (namedFrame s w.dom w.fi) }, ika := { s.ika with rooms := v.ika.rooms }, flt := v.flt } := by
    rw [hv, hu]; rfl
  obtain ⟨b, f, hb, hne, hframe, hoth⟩ := auditStop_frame rm v
  rw [hroom, hsw] at hb
  have hq : (auditStop rm v).flt.resetQ = [] := by rw [hframe]; exact ((hoth 0 (by decide)).1.trans (hov 0 (by decide)).1).trans hc.2.1
  refine completes_of rfl hop hq ⟨?_, by rw [hb], by rw [hb]; exact tgetD_tput_same _ _ _ _, by rw [hb], fun h => ?_, fun h => ?_, fun h => ?_, ?_, fun hfree h33 => ?_, fun h33 hsus => ?_,
    (hne m hm).trans hroomne, ?_⟩
  · rw [hframe, hvs]
  · rw [hb]; exact tgetD_tput_ne _ _ _ (Ne.symm h)
  · rw [hb]; exact hret h
  · rw [hb]; exact hkeep h
  · unfold RaisedOnce
    rw [hframe]
    exact (congrArg SrcStat.count (hoth 0x128 (by decide)).2.1).trans hrv.1
  · have hx : x.st = .free := by rw [hkeep h33]; exact hfree
    have hauditor : (auditorOf (room v rm)).isSome = true := by
      rw [hroom, hsw]
      unfold auditorOf
      rw [if_neg (by rintro (h1 | h1) <;> cases h1), if_pos (Or.inl hx)]
      rfl
    rw [auditStop_keeps (Or.inl hauditor)]
    exact ⟨hfv, hrv, by rw [hroom, hsw]; exact haud hx⟩
  · have hnone : auditorOf (room v rm) = none := by
      rw [hroom, hsw]
      unfold auditorOf
      rw [if_neg (by rintro (h1 | h1) <;> cases h1), if_neg]
      rintro (h1 | h1) <;> exact TileSt.noConfusion (h1.symm.trans (hret h33))
    rw [auditStop_stops hnone (by rw [hroom, hsw]; exact hsus)]
    refine ⟨congrArg Classroom.suspended (room_setRoom_same _ _ _), ?_⟩
    exact (raise_raised { src := 0x126, data := [(1, rm)] } (setRoom rm { room v rm with suspended := true } v) rfl).after (hov 0x126 (by decide))
  · generalize auditStop rm v = t at hframe
    rw [hframe, hvs]

/-! ### ENGINE_SPARE -/

/-- The checks of ENGINE_SPARE after those of its arguments. -/
theorem engineSpare_checks {c : Cmd} {s : State} {rm slot tile dom : Nat} {l : List (Bool × Reply)} (hrm : rm ≤ 31) (hslot : slot ≤ 31) (ht : tile = 32 ∨ tile = 33) (hd : dom ≤ 7)
    (hen : domEn s dom = true) : firstErr ((decide (31 < rm), badArg c 24 s) :: (decide (31 < slot), badArg c 25 s) :: (tile != 32 && tile != 33, badArg c 26 s) ::
        (decide (7 < dom) || !domEn s dom, badArg c 27 s) :: l) = firstErr l := by
  refine (firstErr_pass (decide_eq_false (by omega))).trans ((firstErr_pass (decide_eq_false (by omega))).trans ((firstErr_pass ?_).trans (firstErr_pass ?_)))
  · rcases ht with rfl | rfl <;> rfl
  · rw [hen, decide_eq_false (by omega)]; rfl

theorem engineSpare_waits {c : Cmd} {s : State} {rm m slot dom fi : Nat} {r : Classroom} (hc : Clear s) (hm : m ≠ rm) (hr : r = room s rm) (hrm : rm ≤ 31) (hslot : slot ≤ 31)
    (hd : dom ≤ 7) (hen : domEn s dom = true) (hfree : (spareOf r 32).st = .free) (hsw : r.swap = none) :
      (s.tim.now + framesNs s dom 2 ≤ tOf s dom (fullFi s dom fi) → Completes (.engineSpare c rm slot 32 dom fi) s (fun t => Replied c 0x0410 1 0 0 t ∧
        room t rm = { r with s32 := { st := .pending, slot := slot }, swap := some { slot := slot, tile := 32, dom := dom, fi := fullFi s dom fi, tag := c.tag } } ∧
        room t m = room s m ∧ t = { s with ika := { s.ika with rooms := t.ika.rooms }, hif := t.hif, flt := t.flt, wire := t.wire })) ∧
      (tOf s dom (fullFi s dom fi) < s.tim.now + framesNs s dom 2 → Completes (.engineSpare c rm slot 32 dom fi) s (Fails c 0x0410 0x31 0 s)) := by
  have hk : ∀ l, firstErr ((decide (31 < rm), badArg c 24 s) :: (decide (31 < slot), badArg c 25 s) :: (32 != 32 && 32 != 33, badArg c 26 s) ::
      (decide (7 < dom) || !domEn s dom, badArg c 27 s) :: ((spareOf (room s rm) 32).st != .free, noResource) :: ((room s rm).swap.isSome, denied) :: l) = firstErr l := by
    intro l
    rw [engineSpare_checks hrm hslot (Or.inl rfl) hd hen, ← hr, hfree, hsw]
    rfl
  refine ⟨fun hle => ?_, fun hlt => ⟨_, rfl, checked_fails ((hk _).trans (firstErr_fail (decide_eq_true hlt))) hc⟩⟩
  have hend : EndsAccepted c 0x0410 (setRoom rm { r with s32 := { st := .pending, slot := slot }, swap := some { slot := slot, tile := 32, dom := dom, fi := fullFi s dom fi, tag := c.tag } } s)
      (settle (opEngineSpare c rm slot 32 dom fi s)) :=
    checked_accepted ((hk _).trans (firstErr_pass (decide_eq_false (by omega)))) (by rw [hr]; rfl) hc hc.1 hc.2.1
  exact completes_ends rfl hend fun h f w hrep => ⟨hrep, room_setRoom_same _ _ _, room_setRoom_ne _ _ hm, rfl⟩

/-- Settles O41: the ticks by `auditTick_idle` and `auditTick_sampled`, the swap by `engineSpareSwap_swaps`. -/
theorem auditsAndSparesOfClassrooms : Obligations.AuditsAndSparesOfClassrooms := by
  intro c s rm m slot dom fi crc v until_ y r o w hc hm hr hb
  have hset : ∀ x : Classroom, room (setRoom rm x (atLeast (auditTick s r.auditAt) s)) rm = x := fun x => room_setRoom_same _ _ _
  have hne : ∀ x : Classroom, room (setRoom rm x (atLeast (auditTick s r.auditAt) s)) m = room s m := fun x => room_setRoom_ne _ _ hm
  refine ⟨fun hrun hen hau ho => ⟨fun hs => ?_, fun hs hcrc => ?_, fun hs hcrc hf => ?_, fun hs hcrc hf => ?_⟩, fun h => ?_, fun ho => ?_, fun ho => ?_,
    fun hrm hslot hd hen hfree hsw => engineSpare_waits hc hm hr hrm hslot hd hen hfree hsw, fun hrm hslot hd hen hfree => ⟨_, rfl, checked_fails ?_ hc⟩,
    fun hrm hslot hd hen hfree hsw => ⟨_, rfl, checked_fails ?_ hc⟩, fun hrm => ⟨_, rfl, checked_fails (firstErr_fail (decide_eq_true hrm)) hc⟩,
    fun hrm hslot => ⟨_, rfl, checked_fails ?_ hc⟩, fun hsw => completes_of rfl ?_ hc.2.1 rfl, fun hsw hw => engineSpareSwap_swaps hc hm hr hsw hw, fun hh => ?_,
    fun hh => completes_of rfl ?_ hc.2.1 rfl⟩
  · subst hr
    exact completes_of rfl (auditTick_idle hrun hen hau ho hs) hc.2.1 ⟨hset _, rfl, hne _, rfl⟩
  · subst hr
    exact completes_of rfl ((auditTick_sampled hrun hen hau ho hs).trans (if_pos hcrc)) hc.2.1 ⟨hset _, rfl, hne _, rfl⟩
  · subst hr
    exact completes_of rfl ((auditTick_sampled hrun hen hau ho hs).trans ((if_neg hcrc).trans (if_pos hf))) hc.2.1 ⟨hset _, rfl, hne _, rfl⟩
  · subst hr
    obtain ⟨f, hf', hq, hra⟩ := auditFail_raises rm (room s rm).auditNext y.pf 2 (setRoom rm { room s rm with auditNext := ((room s rm).auditNext + 1) % 32, auditAt := max s.tim.now (auditTick s (room s rm).auditAt), fails := satAdd 16 (room s rm).fails 1, sampled := none }
        (atLeast (auditTick s (room s rm).auditAt) s)) hb
    rw [room_setRoom_same] at hra
    exact completes_of rfl ((auditTick_sampled hrun hen hau ho hs).trans ((if_neg hcrc).trans ((if_neg (by rw [hf]; exact Bool.false_ne_true)).trans hf'))) (hq.trans hc.2.1)
      ⟨hset _, hra, rfl, hne _, rfl⟩
  · subst hr
    exact completes_of rfl (auditTick_off h) hc.2.1 rfl
  · subst hr
    obtain ⟨f, hf', hq, hra⟩ := auditFail_raises rm o.slot o.pf (if crc = o.crc then 1 else 0) (setRoom rm { room s rm with opinion := none } s) hb
    rw [room_setRoom_same] at hra
    have hop : opEngineAuditThirdOpinion rm crc s = { setRoom rm { room s rm with opinion := none } s with flt := f } := by
      unfold opEngineAuditThirdOpinion; rw [ho]; exact hf'
    exact completes_of rfl hop (hq.trans hc.2.1) ⟨room_setRoom_same _ _ _, hra, room_setRoom_ne _ _ hm, rfl⟩
  · subst hr
    exact completes_of rfl (show opEngineAuditThirdOpinion rm crc s = s by unfold opEngineAuditThirdOpinion; rw [ho]) hc.2.1 rfl
  · rw [engineSpare_checks hrm hslot (Or.inr rfl) hd hen, ← hr]
    exact firstErr_fail (bne_iff_ne.mpr hfree)
  · rw [engineSpare_checks hrm hslot (Or.inr rfl) hd hen, ← hr, hfree]
    exact (firstErr_pass rfl).trans (firstErr_fail hsw)
  · exact (firstErr_pass (decide_eq_false (by omega))).trans ((firstErr_pass (decide_eq_false (by omega))).trans (firstErr_fail rfl))
  · unfold opEngineSpareSwap; dsimp only; rw [← hr, hsw]
  · have hop : opEngineTileResetRelease rm slot s =
        { atLeast until_ s with ika := { s.ika with heldTiles := tdel s.ika.heldTiles (64 * rm + slot) } } := by
      unfold opEngineTileResetRelease; rw [hh]; rfl
    exact completes_of rfl hop hc.2.1 ⟨rfl, tget?_tdel_same _ _, fun hv => tget?_tdel_ne _ (Ne.symm hv), rfl⟩
  · unfold opEngineTileResetRelease; rw [hh]

end Sys2Proof.Machine

/-! SUPPORT. What a work item writes (R228 to R243): the line stored, what takes it, and what the collector hears of it. -/
namespace Sys2Proof.Machine
open Sys2Proof

/-! ## Lines drawn -/

/-- The state `t` is `s` with lines stored, the processing array changed, and what the sources of missing input and of discarded
cells raise. -/
def Drew (s t : State) : Prop :=
  ∃ st pd cn ik f, t = { s with swc := { s.swc with store := st, prefetchDiscard := pd }, tt := { s.tt with cancelled := cn }, ika := ik, flt := f } ∧
    ∀ src, src ∉ [0x041, 0x120, 0x121] → OtherRaises src s.flt f

theorem Drew.refl (s : State) : Drew s s := ⟨s.swc.store, s.swc.prefetchDiscard, s.tt.cancelled, s.ika, s.flt, rfl, fun _ _ => .refl _ _⟩

theorem Drew.trans {s t u : State} (h1 : Drew s t) (h2 : Drew t u) : Drew s u := by
  obtain ⟨_, _, _, _, _, rfl, ho⟩ := h1
  obtain ⟨st, pd, cn, ik, f, rfl, ho'⟩ := h2
  exact ⟨st, pd, cn, ik, f, rfl, fun src h => (ho src h).trans (ho' src h)⟩

theorem Synced.drew {s t : State} (h : Synced s t) : Drew s t := by
  obtain ⟨ik, f, rfl, ho⟩ := h
  refine ⟨s.swc.store, s.swc.prefetchDiscard, s.tt.cancelled, ik, f, rfl, fun src hs => ?_⟩
  simp only [List.mem_cons, List.not_mem_nil, or_false, not_or] at hs
  exact ho src hs.2.1 hs.2.2

theorem Drew.others {s t : State} (h : Drew s t) {src : Nat} (hs : src ∉ [0x041, 0x120, 0x121]) : OtherRaises src s.flt t.flt := by
  obtain ⟨_, _, _, _, _, rfl, ho⟩ := h
  exact ho src hs

/-- A run of raises leaves the other sources. -/
theorem raises_otherRaises {α : Type} (l : List α) (ev : α → Ev) (s : State) {src : Nat} (h : ∀ x, (ev x).unit = none ∧ (ev x).written = false ∧ src ≠ (ev x).src) :
    OtherRaises src s.flt (l.foldl (fun s x => raise (ev x) s) s).flt := by
  induction l generalizing s with
  | nil => exact .refl _ _
  | cons x l ih => exact (otherRaises_raise (ev x) s (h x).1 (h x).2.1 (h x).2.2).trans (ih (raise (ev x) s))

theorem discardLocal_others (n k : Nat) (s : State) {src : Nat} (h : src ≠ 0x041) : OtherRaises src s.flt (discardLocal n k s).flt := by
  unfold discardLocal
  split
  · exact .refl _ _
  · unfold discardAhead
    dsimp only
    split
    · exact .refl _ _
    · exact raises_otherRaises _ (fun x : Nat × RunAhead => ({ src := 0x041, data := [(2, n), (4, x.1)] } : Ev)) _ fun _ => ⟨rfl, rfl, h⟩

theorem discardLocal_drew (n k : Nat) (s : State) : Drew s (discardLocal n k s) := by
  obtain ⟨pd, cn, f, h, -, -⟩ := discardLocal_frame n k s
  refine ⟨s.swc.store, pd, cn, s.ika, f, h, fun src hs => ?_⟩
  have := discardLocal_others n k s (src := src) (fun e => hs (by rw [e]; exact List.mem_cons_self))
  rwa [h] at this

theorem Drew.setStored {s t : State} (h : Drew s t) (n k : Nat) (x : Stored) : Drew s (Machine.setStored n k x t) := by
  obtain ⟨_, _, _, _, _, rfl, ho⟩ := h
  exact ⟨_, _, _, _, _, rfl, ho⟩

theorem storeLine_drew (n fi k : Nat) (b : List Byte) (s : State) : Drew s (storeLine n fi k b s) :=
  (discardLocal_drew n (cellsPerLine (flowD s n).format) s).setStored _ _ _

theorem storeStream_drew (n fi : Nat) (b : List Byte) (ends : Bool) (s : State) : Drew s (storeStream n fi b ends s) :=
  (discardLocal_drew n _ s).setStored _ _ _

theorem feedInput_synced (ix k src n line : Nat) (b : List Byte) (last : Bool) (s : State) : Synced s (feedInput ix k src n line b last s) := by
  unfold feedInput
  dsimp only
  split
  · exact .refl s
  · refine Synced.setProc ix _ ?_
    split
    · split
      · exact .refl s
      · exact syncStart_synced _ _ _ s
    · exact .refl s

theorem Synced.foldl {α : Type} {op : State → α → State} (h : ∀ s x, Synced s (op s x)) (l : List α) (s : State) : Synced s (l.foldl op s) := by
  induction l generalizing s with
  | nil => exact .refl s
  | cons x l ih => exact (h s x).trans (ih _)

theorem arrived_synced (src n line : Nat) (b : List Byte) (last : Bool) (s : State) : Synced s (arrived src n line b last s) :=
  Synced.foldl (op := fun s (x : Nat × Nat) => feedInput x.1 x.2 src n line b last s) (fun s x => feedInput_synced x.1 x.2 src n line b last s) _ s

theorem Synced.stored {s t : State} (h : Synced s t) (n k : Nat) : stored t n k = stored s n k := by
  obtain ⟨_, _, rfl, -⟩ := h; rfl

theorem Synced.now {s t : State} (h : Synced s t) : t.tim.now = s.tim.now := by
  obtain ⟨_, _, rfl, -⟩ := h; rfl

theorem Synced.flowD {s t : State} (h : Synced s t) (n : Nat) : flowD t n = flowD s n := by
  obtain ⟨_, _, rfl, -⟩ := h; rfl

theorem stored_setStored_same (n k : Nat) (x : Stored) (s : State) : stored (setStored n k x s) n k = x := by
  unfold stored setStored tupd
  rw [tgetD_tput_same, tgetD_tput_same]

theorem stored_setStored_ne {i k : Nat} (n : Nat) (x : Stored) (s : State) (h : i ≠ k) : stored (setStored n k x s) n i = stored s n i := by
  unfold stored setStored tupd
  rw [tgetD_tput_same, tgetD_tput_ne _ _ _ h]

/-- From `s` to `t` line `k` of frame `n` of flow `o` was written whole with bytes `b`, and no other line of the flow. -/
def DrewLine (o n k : Nat) (b : List Byte) (s t : State) : Prop :=
  Drew s t ∧ (stored t o k).line = k ∧ (stored t o k).fi = n ∧ (stored t o k).complete = true ∧ (stored t o k).at_ = s.tim.now ∧
    (stored t o k).bytes = b ∧ ∀ i, i ≠ k → stored t o i = stored s o i

theorem DrewLine.after {o n k : Nat} {b : List Byte} {s u t : State} (h : DrewLine o n k b u t) (hs : Synced s u) : DrewLine o n k b s t := by
  obtain ⟨hd, h1, h2, h3, h4, h5, h6⟩ := h
  exact ⟨hs.drew.trans hd, h1, h2, h3, h4.trans hs.now, h5, fun i hi => (h6 i hi).trans (hs.stored o i)⟩

theorem DrewLine.before {o n k : Nat} {b : List Byte} {s u t : State} (h : DrewLine o n k b s u) (hs : Synced u t) : DrewLine o n k b s t := by
  obtain ⟨hd, h1, h2, h3, h4, h5, h6⟩ := h
  have hk := hs.stored o k
  exact ⟨hd.trans hs.drew, by rw [hk, h1], by rw [hk, h2], by rw [hk, h3], by rw [hk, h4], by rw [hk, h5], fun i hi => (hs.stored o i).trans (h6 i hi)⟩

theorem takeLine_drewLine (o n k : Nat) (b : List Byte) (s : State) : DrewLine o n k b s (takeLine o n k b s) := by
  refine DrewLine.before (u := storeLine o n k b s) ?_ (arrived_synced _ _ _ _ _ _)
  obtain ⟨pd, cn, f, hd, -, -⟩ := discardLocal_frame o (cellsPerLine (Machine.flowD s o).format) s
  have hnow : (discardLocal o (cellsPerLine (Machine.flowD s o).format) s).tim.now = s.tim.now := by rw [hd]
  have hst : ∀ i, stored (discardLocal o (cellsPerLine (Machine.flowD s o).format) s) o i = stored s o i := by intro i; rw [hd]; rfl
  refine ⟨storeLine_drew o n k b s, ?_⟩
  unfold storeLine
  dsimp only
  rw [stored_setStored_same]
  exact ⟨rfl, rfl, rfl, hnow, rfl, fun i hi => (stored_setStored_ne _ _ _ hi).trans (hst i)⟩

/-- The line that a fill line is stored as. -/
def fillStored (o n k : Nat) (s : State) : Stored :=
  { line := k, fi := n, bytes := blackLine (flowD s o).format (flowD s o).colour, cells := cellsPerLine (flowD s o).format, complete := true, at_ := s.tim.now }

theorem writeFill_stored (o n k : Nat) (s : State) : stored (writeFill o n k s) o k = fillStored o n k s :=
  ((arrived_synced _ _ _ _ _ _).stored o k).trans (stored_setStored_same _ _ _ _)

theorem writeFill_drewLine (o n k : Nat) (s : State) :
    DrewLine o n k (blackLine (flowD s o).format (flowD s o).colour) s (writeFill o n k s) := by
  refine DrewLine.before (u := setStored o k (fillStored o n k s) s) ?_ (arrived_synced _ _ _ _ _ _)
  refine ⟨(Drew.refl s).setStored _ _ _, ?_⟩
  rw [stored_setStored_same]
  exact ⟨rfl, rfl, rfl, rfl, rfl, fun i hi => stored_setStored_ne _ _ _ hi⟩

/-- A line that nothing buffers, with no window waiting, tells the collector nothing. -/
theorem takeLine_quiet {o n k : Nat} {b : List Byte} {s : State} (hf : feeds s o = []) (hc : s.tt.cancelled = []) : (takeLine o n k b s).flt = s.flt := by
  obtain ⟨pd, cn, f, hd, -, hq⟩ := discardLocal_frame o (cellsPerLine (Machine.flowD s o).format) s
  obtain ⟨-, -, rfl⟩ := hq hc
  have hfeed : feeds (storeLine o n k b s) o = [] := by
    unfold storeLine
    dsimp only
    rw [hd]
    exact hf
  unfold takeLine arrived
  rw [hfeed]
  unfold storeLine
  dsimp only
  rw [hd]
  rfl

theorem writeFill_quiet {o n k : Nat} {s : State} (hf : feeds s o = []) : (writeFill o n k s).flt = s.flt := by
  have hfeed : feeds (setStored o k (fillStored o n k s) s) o = [] := hf
  unfold fillStored at hfeed
  unfold writeFill arrived
  dsimp only
  rw [hfeed]
  rfl

/-! ## The checks of an item's read (R389) -/

theorem countSig_eq (s : State) : countSig s = { s with flt := { s.flt with sigCount := satAdd 32 s.flt.sigCount 1 } } := rfl

theorem sigFail_frame (inst slot : Nat) (e : Ev) (s : State) (hu : e.unit = none) (hw : e.written = false) : ∃ f, sigFail inst slot e s = { s with flt := f } ∧
    ∀ src, src ≠ e.src → OtherRaises src s.flt f := by
  obtain ⟨f, hf, ho⟩ := sigFail_others inst slot e s
  exact ⟨f, hf, fun src h => ho src (Or.inl hu) hw h⟩

/-- What an item's read meets shows in the collector alone. -/
theorem readChecks_frame (ix k line n : Nat) (f : ReadFault) (s : State) : ∃ g, readChecks ix k line n f s = { s with flt := g } ∧
    ∀ src, src ∉ [0x046, 0x047, 0x243, 0x248] → OtherRaises src s.flt g := by
  obtain ⟨v, hv⟩ : ∃ v, v = raiseIf f.ecc { src := 0x047, data := [(1, f.bank), (1, f.row)] } (raiseIf f.corrected { src := 0x046, data := [(1, f.bank), (1, f.row)] } s) := ⟨_, rfl⟩
  have hvs : v = { s with flt := v.flt } := by
    rw [hv]
    exact (raiseIf_eq _ _ _).trans (by rw [raiseIf_eq])
  have hvo : ∀ src, src ∉ [0x046, 0x047, 0x243, 0x248] → OtherRaises src s.flt v.flt := by
    intro src h
    simp only [List.mem_cons, List.not_mem_nil, or_false, not_or] at h
    rw [hv]
    exact (otherRaises_raiseIf _ _ s rfl rfl h.1).trans (otherRaises_raiseIf _ _ _ rfl rfl h.2.1)
  obtain ⟨w, hw, hws, hwo⟩ : ∃ w, (if f.sig && (flowD v (latched s (pfWord ix k)).src).sigEn then
      sigFail (1024 + ix) n { src := 0x243, data := [(2, pfNum ix), (1, k), (2, (latched s (pfWord ix k)).src), (2, line)] } v else v) = w ∧
      w = { s with flt := w.flt } ∧ ∀ src, src ∉ [0x046, 0x047, 0x243, 0x248] → OtherRaises src s.flt w.flt := by
    refine ⟨_, rfl, ?_⟩
    split
    · obtain ⟨g, hg, ho⟩ := sigFail_frame (1024 + ix) n { src := 0x243, data := [(2, pfNum ix), (1, k), (2, (latched s (pfWord ix k)).src), (2, line)] } v rfl rfl
      rw [hg]
      refine ⟨by rw [hvs], fun src h => (hvo src h).trans (ho src fun e => ?_)⟩
      rw [e] at h
      exact h (show 0x243 ∈ [0x046, 0x047, 0x243, 0x248] by decide)
    · exact ⟨hvs, hvo⟩
  have hop : readChecks ix k line n f s = checkFail f.crc { src := 0x248, data := [(1, f.bank), (1, f.row), (1, 1)] } w := by
    rw [← hw, hv]; rfl
  rw [hop]
  unfold checkFail
  split
  · refine ⟨_, by rw [hws]; rfl, fun src h => (hwo src h).trans ?_⟩
    simp only [List.mem_cons, List.not_mem_nil, or_false, not_or] at h
    have := otherRaises_raise { src := 0x248, data := [(1, f.bank), (1, f.row), (1, 1)] } (countSig w) rfl rfl h.2.2.2
    rw [hws] at this
    rw [hws]
    exact OtherRaises.trans ⟨rfl, rfl, List.prefix_refl _⟩ this
  · exact ⟨w.flt, hws, hwo⟩

/-- A read that meets nothing. -/
theorem readChecks_none (ix k line n : Nat) (s : State) : readChecks ix k line n {} s = s := rfl

end Sys2Proof.Machine

namespace Sys2Proof.Machine
open Sys2Proof

/-! ## Video items (R233, R236, R238, R240, R241) -/

/-- A source line missing changes no buffer of any flow. -/
theorem inputMissing_bufs (ix k line n i : Nat) (s : State) : (proc (inputMissing ix k line n s) i).bufs = (proc s i).bufs := by
  unfold inputMissing
  dsimp only
  split
  · split
    · rfl
    · by_cases h : i = ix
      · subst h
        show Proc.bufs (tgetD (tput s.ika.procs i _) i {}) = _
        rw [tgetD_tput_same]
      · exact congrArg Proc.bufs (tgetD_tput_ne s.ika.procs _ {} h)
  · split
    · rfl
    · obtain ⟨f, hf, -⟩ := raiseOnce_others ix n { src := 0x121, data := [(2, pfNum ix), (1, k), (2, line), (1, n % 256)] } s
      rw [hf]
      rfl

theorem setBufs_synced (ix k : Nat) (l : List FrameBuf) (s : State) : Synced s (setBufs ix k l s) := .ika _

theorem delayIntake_synced (ix n k : Nat) (fill : List Byte) (f : ReadFault) (s : State) : Synced s (delayIntake ix n k fill f s) := by
  unfold delayIntake
  dsimp only
  split
  · exact .refl s
  · exact (inputMissing_synced _ _ _ _ s).trans (setBufs_synced _ _ _ _)

theorem reportMissing_synced (ix n : Nat) (js : List Nat) (f : ReadFault) (s : State) : Synced s (reportMissing ix n js f s) := by
  unfold reportMissing
  split
  · exact inputMissing_synced _ _ _ _ s
  · exact .refl s

theorem sampleItem_synced (c slot ix item : Nat) (f : ReadFault) (b s : State) : Synced s (sampleItem c slot ix item f b s) := by
  unfold sampleItem
  dsimp only
  split
  · exact .ika _
  · exact .refl s

theorem sampleItem_flt (c slot ix item : Nat) (f : ReadFault) (b s : State) : (sampleItem c slot ix item f b s).flt = s.flt := by
  unfold sampleItem
  dsimp only
  split <;> rfl

/-- What the search of a frame finds where the buffers of one frame were given a line. -/
theorem find_given (l : List FrameBuf) (m n k : Nat) (fill : List Byte) :
    (l.map (fun b => if b.n = n then { b with lines := tput b.lines k fill } else b)).find? (fun b => b.n == m) =
      (l.find? (fun b => b.n == m)).map (fun b => if b.n = n then { b with lines := tput b.lines k fill } else b) := by
  rw [List.find?_map]
  congr 2
  funext b
  simp only [Function.comp_apply]
  split <;> rfl

/-- A DELAY reads a frame as it was taken in: where the line is not there, the frame being taken in gives the fill line. -/
theorem delayIntake_line (ix n k m : Nat) (fill : List Byte) (f : ReadFault) (s : State) :
    (bufferLine (proc (delayIntake ix n k fill f s) ix) 0 m k).getD fill =
      (if m = n ∧ (spoils f && f.inp == 0 && f.line == k) = true then none else bufferLine (proc s ix) 0 m k).getD fill := by
  unfold delayIntake
  dsimp only
  split
  · next h =>
    rw [Bool.and_eq_true, Bool.not_eq_true'] at h
    rw [if_neg (by rw [h.1]; exact fun h' => Bool.false_ne_true h'.2)]
  · next h =>
    have hb : bufsOf (proc (inputMissing ix 0 k n s) ix) 0 = bufsOf (proc s ix) 0 := congrArg (fun x => tgetD x 0 []) (inputMissing_bufs ix 0 k n ix s)
    have hl : ∀ l, bufsOf (proc (setBufs ix 0 l (inputMissing ix 0 k n s)) ix) 0 = l := by
      intro l
      refine (congrArg (fun p => bufsOf p 0) (tgetD_tput_same (inputMissing ix 0 k n s).ika.procs ix _ {})).trans ?_
      exact tgetD_tput_same _ _ _ _
    unfold bufferLine frameOf
    rw [hl, hb, find_given]
    cases hf : (bufsOf (proc s ix) 0).find? (fun b => b.n == m) with
    | none => split <;> rfl
    | some b =>
      have hbm : b.n = m := by simpa using List.find?_some hf
      by_cases hmn : m = n
      · have hline : tget? (tput b.lines k fill) k = some fill := tget?_tput_same _ _ _
        simp only [Option.map_some, Option.bind_some, hbm, hmn, if_true, true_and, hline, Option.getD_some]
        split
        · rfl
        · next hs =>
          have hnone : bufferLine (proc s ix) 0 n k = none := by
            rw [Bool.and_eq_true, Bool.not_eq_true', Bool.eq_false_of_not_eq_true hs] at h
            exact Option.not_isSome_iff_eq_none.mp fun h' => h ⟨rfl, h'⟩
          unfold bufferLine frameOf at hnone
          rw [hmn] at hf
          rw [hf] at hnone
          rw [show tget? b.lines k = none from hnone]
          rfl
      · simp only [Option.map_some, Option.bind_some, hbm, hmn, if_false, false_and]

/-- The bytes that an item of line `k` of frame `n` writes. -/
def videoBytes (ix n k : Nat) (f : ReadFault) (s : State) : List Byte :=
  let p := proc s ix
  let black := blackLine (flowD s (pfNum ix)).format (flowD s (pfNum ix)).colour
  if pFunc p = 1 then (if spoils f then none else (readBuf p).bind (fun b => tget? b.lines k)).getD black
  else if pFunc p = 7 then
    ((carried p n).bind (fun m => if m = n ∧ (spoils f && f.inp == 0 && f.line == k) = true then none else bufferLine p 0 m k)).getD black
  else itemBytes s ix n k f

theorem videoItem_draws (ix n k : Nat) (f : ReadFault) (s : State) :
    DrewLine (pfNum ix) n k (videoBytes ix n k f s) s (videoItem ix n k f s) := by
  have hfill : ∀ u, Synced s u → DrewLine (pfNum ix) n k (blackLine (flowD s (pfNum ix)).format (flowD s (pfNum ix)).colour) s (writeFill (pfNum ix) n k u) := by
    intro u hu
    have := (writeFill_drewLine (pfNum ix) n k u).after hu
    rwa [hu.flowD] at this
  have h1 : pFunc (proc s ix) = 1 → videoBytes ix n k f s = (if spoils f then none else (readBuf (proc s ix)).bind (fun b => tget? b.lines k)).getD
      (blackLine (flowD s (pfNum ix)).format (flowD s (pfNum ix)).colour) := fun h => if_pos h
  have hitem : pFunc (proc s ix) ≠ 1 → pFunc (proc s ix) ≠ 7 → videoBytes ix n k f s = itemBytes s ix n k f :=
    fun h h' => (if_neg h).trans (if_neg h')
  unfold videoItem
  dsimp only
  split
  · next h =>
    rw [h1 h]
    cases hb : (readBuf (proc s ix)).bind (fun b => tget? b.lines k) with
    | none =>
      rw [ite_self]
      exact hfill s (.refl s)
    | some b =>
      dsimp only
      split
      · exact hfill _ (inputMissing_synced _ _ _ _ s)
      · exact takeLine_drewLine _ _ _ _ _
  · next h7 =>
    have hsy := delayIntake_synced ix n k (blackLine (flowD s (pfNum ix)).format (flowD s (pfNum ix)).colour) f s
    have hline : ((carried (proc s ix) n).bind (fun m => bufferLine (proc (delayIntake ix n k (blackLine (flowD s (pfNum ix)).format (flowD s (pfNum ix)).colour) f s) ix) 0 m k)).getD
          (blackLine (flowD s (pfNum ix)).format (flowD s (pfNum ix)).colour) =
        ((carried (proc s ix) n).bind (fun m => if m = n ∧ (spoils f && f.inp == 0 && f.line == k) = true then none else bufferLine (proc s ix) 0 m k)).getD
          (blackLine (flowD s (pfNum ix)).format (flowD s (pfNum ix)).colour) := by
      cases carried (proc s ix) n with
      | none => rfl
      | some m => exact delayIntake_line ix n k m _ f s
    have hb7 : videoBytes ix n k f s = _ := (if_neg (by rw [h7]; decide)).trans (if_pos h7)
    rw [hb7, ← hline]
    split
    · next b hb =>
      rw [hb]
      exact (takeLine_drewLine _ _ _ _ _).after hsy
    · next hb =>
      rw [hb]
      exact hfill _ hsy
  · next h4 =>
    rw [hitem (by rw [h4]; decide) (by rw [h4]; decide)]
    refine (takeLine_drewLine _ _ _ _ _).after ?_
    split
    · exact inputMissing_synced _ _ _ _ s
    · exact .refl s
  · next hn1 hn7 _ =>
    rw [hitem hn1 hn7]
    exact (takeLine_drewLine _ _ _ _ _).after (reportMissing_synced _ _ _ _ s)

/-- An item whose input is all there, of a flow that nothing buffers, with no window waiting, tells the collector nothing. -/
theorem videoItem_quiet {ix n k : Nat} {s : State} (hf : feeds s (pfNum ix) = []) (hc : s.tt.cancelled = [])
    (h7 : pFunc (proc s ix) = 7 → (bufferLine (proc s ix) 0 n k).isSome = true)
    (ho : pFunc (proc s ix) ≠ 1 → pFunc (proc s ix) ≠ 7 → pFunc (proc s ix) ≠ 4 →
      ∀ j ∈ (if pFunc (proc s ix) = 2 then scaleLines (proc s ix) (flowD s (pfNum ix)) k else [k]), (itemLine s ix n j {}).isSome = true) :
    (videoItem ix n k {} s).flt = s.flt := by
  unfold videoItem
  dsimp only
  split
  · split
    · exact takeLine_quiet hf hc
    · exact writeFill_quiet hf
  · next h =>
    have hin : delayIntake ix n k (blackLine (flowD s (pfNum ix)).format (flowD s (pfNum ix)).colour) {} s = s := by
      unfold delayIntake
      dsimp only
      rw [h7 h]
      rfl
    rw [hin]
    split
    · exact takeLine_quiet hf hc
    · exact writeFill_quiet hf
  · exact takeLine_quiet hf hc
  · next h1 h7' h4 =>
    have hnone : reportMissing ix n (if pFunc (proc s ix) = 2 then scaleLines (proc s ix) (flowD s (pfNum ix)) k else [k]) {} s = s := by
      unfold reportMissing
      rw [List.find?_eq_none.mpr]
      intro j hj
      rw [Option.isNone_iff_eq_none, ← ne_eq, ← Option.isSome_iff_ne_none]
      exact ho h1 h7' h4 j hj
    rw [hnone]
    exact takeLine_quiet hf hc

/-! ## The item of a running flow on an active slot -/

theorem commitSet_none {ix n : Nat} {s : State} (h : (proc s ix).next = none) : commitSet ix n s = s := by
  unfold commitSet
  dsimp only
  rw [h]

/-- What of a read's faults the item meets: a COMPOSE meets nothing where it reads nothing (R265). -/
def metFault (p : Proc) (k : Nat) (f : ReadFault) : ReadFault := if pFunc p = 4 ∧ composeReads p f.inp k f.line = false then {} else f

theorem metFault_other {p : Proc} {k : Nat} {f : ReadFault} (h : pFunc p ≠ 4) : metFault p k f = f := if_neg fun h' => h h'.1

theorem metFault_none (p : Proc) (k : Nat) : metFault p k {} = {} := by unfold metFault; split <;> rfl

theorem metFault_spoils {p : Proc} {k : Nat} {f : ReadFault} (h : spoils f = false) : spoils (metFault p k f) = false := by
  unfold metFault
  split
  · rfl
  · exact h

section
variable {s : State} {pf ix slot k : Nat} {x : Flow} {p : Proc} (hix : ix = ixOf pf) (hx : x = flowD s (pfNum ix)) (hp : p = proc s ix)
  (hr : x.st = .running) (hh : hasProc p = true) (hs : slot < 32) (ht : tileHeld s x.port (tileOf (room s x.port) slot) = false)
include hix hx hp hr hh hs ht

/-- An item without a parity error. -/
theorem workItem_good (fr : ReadFault) (z : Int) : opEngineWorkItem pf slot k fr false z s = sampleItem x.port slot ix k (metFault p k fr) s
      (if x.essence = 0 then videoWork ix k (metFault p k fr) false s
       else if x.essence = 1 then audioWork ix k (metFault p k fr) false z s
       else ancWork ix (metFault p k fr) false s) := by
  subst hix hx hp
  unfold opEngineWorkItem
  dsimp only
  rw [if_neg (by rw [hr, hh, decide_eq_true hs]; decide), ht]
  rfl

/-- The parity error of an item. -/
def parityEv (x : Flow) (t ix : Nat) : Ev := { src := 0x129, data := [(4, tileLoc x.port t 1), (2, pfNum ix)], unit := some (.tile x.port t) }

/-- An item with a parity error. -/
theorem workItem_parity (z : Int) : ∃ v, v = raise (parityEv x (tileOf (room s x.port) slot) ix) s ∧ opEngineWorkItem pf slot k {} true z s = sampleItem x.port slot ix k {} v
      (if x.essence = 0 then videoWork ix k {} true v else if x.essence = 1 then audioWork ix k {} true z v else ancWork ix {} true v) := by
  subst hix hx hp
  refine ⟨_, rfl, ?_⟩
  unfold opEngineWorkItem
  dsimp only
  rw [if_neg (by rw [hr, hh, decide_eq_true hs]; decide), ht]
  have hf : (if pFunc (proc s (ixOf pf)) = 4 ∧ composeReads (proc s (ixOf pf)) ({} : ReadFault).inp k ({} : ReadFault).line = false then {} else ({} : ReadFault)) = {} := by
    split <;> rfl
  rw [hf]
  rfl

end

/-- A video item of a line of the picture. -/
theorem videoWork_draws {s : State} {ix k n : Nat} (hn : (proc s ix).next = none) (hk : k < fmtLines (flowD s (pfNum ix)).format) (hi : n = itemFrame s ix k) (f : ReadFault) :
    videoWork ix k f false s = videoItem ix n k f (readChecks ix f.inp k n f (atLeast (itemStart s ix k n) s)) ∧
    videoWork ix k f true s = writeFill (pfNum ix) n k (atLeast (itemStart s ix k n) s) := by
  subst hi
  have hc : commitSet ix (itemFrame s ix k) (atLeast (itemStart s ix k (itemFrame s ix k)) s) = atLeast (itemStart s ix k (itemFrame s ix k)) s := commitSet_none hn
  unfold videoWork
  dsimp only
  rw [hc, decide_eq_true hk]
  exact ⟨rfl, rfl⟩

/-- What every drawn line of a work item leaves. -/
theorem DrewLine.outcome {o n k b0 : Nat} {b : List Byte} {s w t : State} (h : DrewLine o n k b w t) {g : Flt} (hw : w = { atLeast b0 s with flt := g }) :
    (stored t o k).line = k ∧ (stored t o k).fi = n ∧ (stored t o k).complete = true ∧ (stored t o k).at_ = t.tim.now ∧ (stored t o k).bytes = b ∧
      (∀ i, i ≠ k → stored t o i = stored s o i) ∧ t.tim.now = max s.tim.now b0 ∧
      t = { s with tim := { s.tim with now := t.tim.now }, swc := { s.swc with store := t.swc.store, prefetchDiscard := t.swc.prefetchDiscard }, tt := { s.tt with cancelled := t.tt.cancelled }, ika := t.ika, flt := t.flt } ∧
      ∀ src, src ∉ [0x041, 0x120, 0x121] → OtherRaises src g t.flt := by
  obtain ⟨hd, h1, h2, h3, h4, h5, h6⟩ := h
  obtain ⟨st, pd, cn, ik, f, ht, ho⟩ := hd
  have hnow : t.tim.now = w.tim.now := by rw [ht]
  refine ⟨h1, h2, h3, by rw [h4, hnow], h5, fun i hi => by rw [h6 i hi, hw]; rfl, by rw [hnow, hw]; rfl, ?_, fun src hs => ?_⟩
  · rw [ht, hw]; rfl
  · have := ho src hs
    rw [hw] at this
    rw [ht]
    exact this

end Sys2Proof.Machine

namespace Sys2Proof.Machine
open Sys2Proof

/-! ## Work items go through a change of the fault collector -/

/-- A state without what its fault collector holds. -/
def stripFlt (s : State) : State := { s with flt := {} }

theorem raiseOnce_fltBlind (inst slot : Nat) (e : Ev) : FltBlind (raiseOnce inst slot e) := fun s g => by
  obtain ⟨f1, h1, -⟩ := raiseOnce_others inst slot e s
  obtain ⟨f2, h2, -⟩ := raiseOnce_others inst slot e { s with flt := g }
  exact ⟨f2, by rw [h1, h2]⟩

/-- An operation made of an update chosen by the rest of the state. -/
theorem FltBlind.strip {op : State → State} (f : State → State → State) (he : ∀ s, op s = f (stripFlt s) s) (h : ∀ z, FltBlind (f z)) : FltBlind op := fun s g => by
  rw [he, he]
  exact h (stripFlt s) s g

theorem inputMissing_fltBlind (ix k line n : Nat) : FltBlind (inputMissing ix k line n) := by
  refine .ite (c := fun s => inputHeld s ix k = true) (fun _ _ => Iff.rfl) (.ite (c := fun s => (proc s ix).heldSeen.contains k = true) (fun _ _ => Iff.rfl) (.keeps fun _ _ => rfl) ?_)
    (.ite (c := fun s => (flowD s (latched s (pfWord ix k)).src).restore.isSome = true) (fun _ _ => Iff.rfl) (.keeps fun _ _ => rfl) (raiseOnce_fltBlind _ _ _))
  exact .strip (fun z s => raise { src := 0x120, data := [(2, pfNum ix), (1, k), (2, (latched z (pfWord ix k)).src)] }
    (setProc ix { proc z ix with heldSeen := k :: (proc z ix).heldSeen } s)) (fun _ => rfl) fun z => .comp (raise_fltBlind _) (.keeps fun _ _ => rfl)

theorem setBufs_fltBlind (ix k : Nat) (l : List FrameBuf) : FltBlind (setBufs ix k l) := .keeps fun _ _ => rfl

/-- Cells counted as discarded, the windows of `hit` reported. -/
def cellsDiscarded (n pd : Nat) (cn hit : List (Nat × RunAhead)) (s : State) : State :=
  hit.foldl (fun s x => raise { src := 0x041, data := [(2, n), (4, x.1)] } s)
    { s with swc := { s.swc with prefetchDiscard := pd }, tt := { s.tt with cancelled := cn } }

theorem cellsDiscarded_fltBlind (n pd : Nat) (cn hit : List (Nat × RunAhead)) : FltBlind (cellsDiscarded n pd cn hit) := by
  have hq : FltBlind (fun s => hit.foldl (fun s x => raise { src := 0x041, data := [(2, n), (4, x.1)] } s) s) :=
    .foldl (op := fun (x : Nat × RunAhead) => raise { src := 0x041, data := [(2, n), (4, x.1)] }) (fun x => raise_fltBlind _) hit
  have hp : FltBlind (fun s => { s with swc := { s.swc with prefetchDiscard := pd }, tt := { s.tt with cancelled := cn } }) := .keeps fun _ _ => rfl
  exact fun s g => hq.comp hp s g

/-- The cancelled windows that still wait, and those of a source. -/
def stillWaiting (s : State) : List (Nat × RunAhead) := s.tt.cancelled.filter (fun x => stillCancelled s x.2)
def waitingOf (n : Nat) (s : State) : List (Nat × RunAhead) := (stillWaiting s).filter (fun x => x.2.src == n)

theorem discardAhead_eq (n k : Nat) (s : State) : discardAhead n k s =
    if (waitingOf n s).isEmpty then s
    else cellsDiscarded n (satAdd 32 s.swc.prefetchDiscard (k * (waitingOf n s).length)) ((stillWaiting s).map (fun x => if x.2.src = n then (x.1, { x.2 with discarded := true }) else x))
      ((waitingOf n s).filter (fun x => !x.2.discarded)) s := rfl

theorem discardAhead_fltBlind (n k : Nat) : FltBlind (discardAhead n k) := fun s g => by
  rw [discardAhead_eq, discardAhead_eq]
  by_cases h : (waitingOf n s).isEmpty = true
  · rw [if_pos h, if_pos (show (waitingOf n { s with flt := g }).isEmpty = true from h)]
    exact ⟨g, rfl⟩
  · rw [if_neg h, if_neg (show ¬ (waitingOf n { s with flt := g }).isEmpty = true from h)]
    exact cellsDiscarded_fltBlind n _ _ _ s g

theorem discardLocal_fltBlind (n k : Nat) : FltBlind (discardLocal n k) :=
  .ite (c := fun s => nsOf n = 0 ∧ (flowD s n).endpoint = 2) (fun _ _ => Iff.rfl) (.keeps fun _ _ => rfl) (discardAhead_fltBlind n k)

theorem setStored_fltBlind (n k : Nat) (x : Stored) : FltBlind (setStored n k x) := .keeps fun _ _ => rfl

/-- The first line that the frame being written lacks reports it. -/
def syncLacks (ix : Nat) (s : State) : State :=
  match (bufsOf (proc s ix) 0).head? with
  | some b =>
    (match b.done, lacking (proc s ix) (flowD s (pfNum ix)) b with
     | none, some k => inputMissing ix 0 k b.n s
     | _, _ => s)
  | none => s

/-- The frame being written is closed, and the one that begins opened if it starts after the take of its source. -/
def syncOpens (ix src n : Nat) (s : State) : State :=
  let p := closeFrames (proc s ix) s.tim.now
  let b : FrameBuf := { n := n, src := src, start := startOf s src n }
  setProc ix (if decide (tgetD p.since 0 0 < startOf s src n) then { p with bufs := tput p.bufs 0 (b :: bufsOf p 0) } else p) s

theorem syncStart_eq (ix src n : Nat) (s : State) : syncStart ix src n s = syncOpens ix src n (syncLacks ix s) := by
  unfold syncStart syncOpens syncLacks
  rfl

theorem syncLacks_fltBlind (ix : Nat) : FltBlind (syncLacks ix) := by
  refine .strip (fun z s => match (bufsOf (proc z ix) 0).head? with
      | some b => (match b.done, lacking (proc z ix) (flowD z (pfNum ix)) b with
         | none, some k => inputMissing ix 0 k b.n s
         | _, _ => s)
      | none => s) (fun _ => rfl) fun z => ?_
  cases (bufsOf (proc z ix) 0).head? with
  | none => exact .keeps fun _ _ => rfl
  | some b =>
    dsimp only
    split
    · exact inputMissing_fltBlind _ _ _ _
    · exact .keeps fun _ _ => rfl

theorem syncOpens_fltBlind (ix src n : Nat) : FltBlind (syncOpens ix src n) := .keeps fun _ _ => rfl

theorem syncStart_fltBlind (ix src n : Nat) : FltBlind (syncStart ix src n) := fun s g => by
  rw [syncStart_eq, syncStart_eq]
  exact FltBlind.comp (syncOpens_fltBlind ix src n) (syncLacks_fltBlind ix) s g

theorem feedInput_fltBlind (ix k src n line : Nat) (b : List Byte) (last : Bool) : FltBlind (feedInput ix k src n line b last) := by
  refine .ite (c := fun s => inputDead s ix k = true) (fun _ _ => Iff.rfl) (.keeps fun _ _ => rfl) ?_
  refine .comp (q := fun s => setBufs ix k ((bufsOf (proc s ix) k).map (fun x =>
    if x.src = src ∧ x.n = n ∧ x.void_ = false ∧ x.done = none then putLine line b s.tim.now last x else x)) s) (.keeps fun _ _ => rfl)
    (p := fun s => if pFunc (proc s ix) = 1 && !(bufsOf (proc s ix) k).any (fun b => b.src == src && b.n == n) then
      (if ((bufsOf (proc s ix) k).head?.map (fun b => b.src == src && decide (n < b.n))) == some true then s else syncStart ix src n s)
    else s) ?_
  exact .ite (fun _ _ => Iff.rfl) (.ite (fun _ _ => Iff.rfl) (.keeps fun _ _ => rfl) (syncStart_fltBlind _ _ _)) (.keeps fun _ _ => rfl)

theorem arrived_fltBlind (src n line : Nat) (b : List Byte) (last : Bool) : FltBlind (arrived src n line b last) :=
  .strip (fun z s => (feeds z src).foldl (fun s x => feedInput x.1 x.2 src n line b last s) s) (fun _ => rfl)
    fun _ => .foldl (op := fun (x : Nat × Nat) s => feedInput x.1 x.2 src n line b last s) (fun _ => feedInput_fltBlind _ _ _ _ _ _ _) _

theorem storeLine_fltBlind (n fi line : Nat) (b : List Byte) : FltBlind (storeLine n fi line b) := by
  refine .strip (fun z s => (fun u => setStored n line { line := line, fi := fi, bytes := b, cells := cellsPerLine (flowD z n).format, complete := true, at_ := u.tim.now, sig := if (flowD z n).sigEn then some (signature u n line (fi % 256) 0 b) else none } u)
    (discardLocal n (cellsPerLine (flowD z n).format) s)) (fun _ => rfl) fun z => ?_
  exact .comp (q := fun u => setStored n line { line := line, fi := fi, bytes := b, cells := cellsPerLine (flowD z n).format, complete := true, at_ := u.tim.now, sig := if (flowD z n).sigEn then some (signature u n line (fi % 256) 0 b) else none } u) (.keeps fun _ _ => rfl) (discardLocal_fltBlind _ _)

theorem takeLine_fltBlind (n fi line : Nat) (b : List Byte) : FltBlind (takeLine n fi line b) :=
  .strip (fun z s => arrived n fi line b (line + 1 == fmtLines (flowD z n).format) (storeLine n fi line b s)) (fun _ => rfl)
    fun _ => .comp (arrived_fltBlind _ _ _ _ _) (storeLine_fltBlind _ _ _ _)

theorem writeFill_fltBlind (n fi k : Nat) : FltBlind (writeFill n fi k) :=
  .strip (fun z s => arrived n fi k (blackLine (flowD z n).format (flowD z n).colour) (k + 1 == fmtLines (flowD z n).format)
      (setStored n k { line := k, fi := fi, bytes := blackLine (flowD z n).format (flowD z n).colour, cells := cellsPerLine (flowD z n).format, complete := true, at_ := z.tim.now } s)) (fun _ => rfl)
    fun _ => .comp (arrived_fltBlind _ _ _ _ _) (setStored_fltBlind _ _ _)

/-- The stored stream that bytes are added to. -/
def streamBase (s : State) (n fi : Nat) : Stored := if (stored s n (fi % 8)).fi = fi then stored s n (fi % 8) else { fi := fi }

theorem storeStream_fltBlind (n fi : Nat) (b : List Byte) (ends : Bool) : FltBlind (storeStream n fi b ends) := by
  refine .strip (fun z s => (fun u => setStored n (fi % 8) { streamBase z n fi with
    bytes := (streamBase z n fi).bytes ++ b, cells := ceilDiv ((streamBase z n fi).bytes.length + b.length) 240, complete := (streamBase z n fi).complete || ends, at_ := u.tim.now } u)
    (discardLocal n (ceilDiv ((streamBase z n fi).bytes.length + b.length) 240 - ceilDiv (streamBase z n fi).bytes.length 240) s)) (fun _ => rfl) fun z => ?_
  exact .comp (q := fun u => setStored n (fi % 8) { streamBase z n fi with
    bytes := (streamBase z n fi).bytes ++ b, cells := ceilDiv ((streamBase z n fi).bytes.length + b.length) 240, complete := (streamBase z n fi).complete || ends, at_ := u.tim.now } u)
    (.keeps fun _ _ => rfl) (discardLocal_fltBlind _ _)

theorem takeStream_fltBlind (n fi : Nat) (b : List Byte) (ends : Bool) : FltBlind (takeStream n fi b ends) :=
  .comp (q := fun s => arrived n fi 0 (streamOf s n fi) ends s) (.bind (v := fun s => streamOf s n fi) (op := fun l s => arrived n fi 0 l ends s) (fun _ _ => rfl) fun _ => arrived_fltBlind _ _ _ _ _)
    (storeStream_fltBlind _ _ _ _)

theorem reportMissing_fltBlind (ix n : Nat) (js : List Nat) : FltBlind (reportMissing ix n js {}) := by
  refine .strip (fun z s => match js.find? (fun j => (itemLine z ix n j {}).isNone) with
    | some j => inputMissing ix 0 j n s
    | none => s) (fun _ => rfl) fun z => ?_
  cases js.find? (fun j => (itemLine z ix n j {}).isNone) with
  | none => exact .keeps fun _ _ => rfl
  | some j => exact inputMissing_fltBlind _ _ _ _

theorem delayIntake_fltBlind (ix n k : Nat) (fill : List Byte) (f : ReadFault) : FltBlind (delayIntake ix n k fill f) := by
  refine .ite (c := fun s => (!(spoils f && f.inp == 0 && f.line == k) && (bufferLine (proc s ix) 0 n k).isSome) = true) (fun _ _ => Iff.rfl) (.keeps fun _ _ => rfl) ?_
  exact .comp (q := fun s => setBufs ix 0 ((bufsOf (proc s ix) 0).map (fun b => if b.n = n then { b with lines := tput b.lines k fill } else b)) s)
    (.keeps fun _ _ => rfl) (inputMissing_fltBlind _ _ _ _)

/-! ### Items without a spoiled read -/

theorem videoItem_fltBlind (ix n k : Nat) : FltBlind (videoItem ix n k {}) := by
  refine .strip (fun z s =>
    match pFunc (proc z ix) with
    | 1 =>
      match (readBuf (proc z ix)).bind (fun b => tget? b.lines k) with
      | some b => if spoils {} then writeFill (pfNum ix) n k (inputMissing ix 0 k n s) else takeLine (pfNum ix) n k b s
      | none => writeFill (pfNum ix) n k s
    | 7 => (fun u => match (carried (proc z ix) n).bind (fun m => bufferLine (proc u ix) 0 m k) with
        | some b => takeLine (pfNum ix) n k b u
        | none => writeFill (pfNum ix) n k u) (delayIntake ix n k (blackLine (flowD z (pfNum ix)).format (flowD z (pfNum ix)).colour) {} s)
    | 4 => takeLine (pfNum ix) n k (itemBytes z ix n k {}) (if spoils {} then inputMissing ix 0 0 n s else s)
    | fn => takeLine (pfNum ix) n k (itemBytes z ix n k {}) (reportMissing ix n (if fn = 2 then scaleLines (proc z ix) (flowD z (pfNum ix)) k else [k]) {} s))
    (fun _ => rfl) fun z => ?_
  split
  · split
    · exact takeLine_fltBlind _ _ _ _
    · exact writeFill_fltBlind _ _ _
  · refine .comp (q := fun u => match (carried (proc z ix) n).bind (fun m => bufferLine (proc u ix) 0 m k) with
        | some b => takeLine (pfNum ix) n k b u
        | none => writeFill (pfNum ix) n k u) ?_ (delayIntake_fltBlind _ _ _ _ _)
    refine .bind (v := fun u => (carried (proc z ix) n).bind (fun m => bufferLine (proc u ix) 0 m k)) (op := fun b u => match b with
        | some b => takeLine (pfNum ix) n k b u
        | none => writeFill (pfNum ix) n k u) (fun _ _ => rfl) fun b => ?_
    cases b with
    | none => exact writeFill_fltBlind _ _ _
    | some b => exact takeLine_fltBlind _ _ _ _
  · exact takeLine_fltBlind _ _ _ _
  · exact .comp (takeLine_fltBlind _ _ _ _) (reportMissing_fltBlind _ _ _)

theorem itemLine_unspoiled {f : ReadFault} (h : spoils f = false) (s : State) (ix n j : Nat) : itemLine s ix n j f = itemLine s ix n j {} := by
  unfold itemLine
  rw [h]
  rfl

theorem itemBytes_unspoiled {f : ReadFault} (h : spoils f = false) (s : State) (ix n k : Nat) : itemBytes s ix n k f = itemBytes s ix n k {} := by
  unfold itemBytes layersRead
  dsimp only
  rw [h]
  simp only [itemLine_unspoiled h]
  rfl

theorem delayIntake_unspoiled {f : ReadFault} (h : spoils f = false) (ix n k : Nat) (fill : List Byte) (s : State) :
    delayIntake ix n k fill f s = delayIntake ix n k fill {} s := by
  unfold delayIntake
  rw [h]
  rfl

theorem reportMissing_unspoiled {f : ReadFault} (h : spoils f = false) (ix n : Nat) (js : List Nat) (s : State) :
    reportMissing ix n js f s = reportMissing ix n js {} s := by
  unfold reportMissing
  simp only [itemLine_unspoiled h]

theorem videoItem_unspoiled {f : ReadFault} (h : spoils f = false) (ix n k : Nat) (s : State) : videoItem ix n k f s = videoItem ix n k {} s := by
  unfold videoItem
  simp only [h, delayIntake_unspoiled h, itemBytes_unspoiled h, reportMissing_unspoiled h]
  rfl

theorem itemInputs_unspoiled {f : ReadFault} (h : spoils f = false) (s : State) (ix k : Nat) : itemInputs s ix k f = itemInputs s ix k {} := by
  unfold itemInputs
  simp only [itemLine_unspoiled h]

theorem sampleItem_unspoiled {f : ReadFault} (h : spoils f = false) (c slot ix k : Nat) (b s : State) :
    sampleItem c slot ix k f b s = sampleItem c slot ix k {} b s := by
  unfold sampleItem
  rw [itemInputs_unspoiled h]

theorem sampleItem_fltBlind (c slot ix k : Nat) (f : ReadFault) (b : State) : FltBlind (sampleItem c slot ix k f b) :=
  .ite (c := fun s => (room s c).auditNext = slot ∧ (room s c).sampled = none) (fun _ _ => Iff.rfl) (.keeps fun _ _ => rfl) (.keeps fun _ _ => rfl)

/-- Checks that meet something, then an operation blind to the collector: as when they meet nothing. -/
theorem FltBlind.checked {op : State → State} (h : FltBlind op) (ix k line n : Nat) (f : ReadFault) (s : State) :
    ∃ g, op (readChecks ix k line n f s) = { op s with flt := g } := by
  obtain ⟨g, hg, -⟩ := readChecks_frame ix k line n f s
  obtain ⟨g', h'⟩ := h s g
  exact ⟨g', by rw [hg, h']⟩

/-! ### Streams and audio blocks -/

theorem ancIntake_fltBlind (ix n : Nat) : FltBlind (ancIntake ix n) :=
  .ite (c := fun s => (pFunc (proc s ix) != 7 || ((frameOf (proc s ix) 0 n).map (fun x => x.done.isSome)).getD true) = true) (fun _ _ => Iff.rfl) (.keeps fun _ _ => rfl) (delayIntake_fltBlind _ _ _ _ _)

/-- What an ANC item emits: the stream of the frame that its function reads. -/
def ancBytes (p : Proc) (n : Nat) : Option (List Byte) :=
  if pFunc p = 1 then (readBuf p).bind (fun b => tget? b.lines 0) else (carried p n).bind (fun m => bufferLine p 0 m 0)

theorem audioMissing_fltBlind (bad : Option Nat) (ix b : Nat) : FltBlind (audioMissing bad ix b) := by
  refine .strip (fun z s => (usedInputs (proc z ix) (flowD z (pfNum ix))).foldl (fun s k =>
    if (itemWord? bad s ix k 0 (if pFunc (proc z ix) = 6 then (srcPoint (proc z ix) (6 * b) / ((1000000 * audioRate (flowD z (pfNum ix)).format : Nat) : Int)).toNat else 6 * b - 6)).isSome then s
    else inputMissing ix k (b % 4096) (fiNow s (flowD z (pfNum ix)).domain) s) s) (fun _ => rfl) fun z => ?_
  refine .foldl (op := fun k s =>
    if (itemWord? bad s ix k 0 (if pFunc (proc z ix) = 6 then (srcPoint (proc z ix) (6 * b) / ((1000000 * audioRate (flowD z (pfNum ix)).format : Nat) : Int)).toNat else 6 * b - 6)).isSome then s
    else inputMissing ix k (b % 4096) (fiNow s (flowD z (pfNum ix)).domain) s) (fun k => ?_) _
  refine .ite (fun s g => ?_) (.keeps fun _ _ => rfl) (.bind (v := fun s => fiNow s (flowD z (pfNum ix)).domain) (op := fun n s => inputMissing ix k (b % 4096) n s) (fun _ _ => rfl) fun _ => inputMissing_fltBlind _ _ _ _)
  unfold itemWord?
  split
  · exact Iff.rfl
  · exact Iff.rfl

theorem storeSamples_fltBlind (q ch : Nat) (l : List Nat) : FltBlind (storeSamples q ch l) := by
  induction l generalizing ch with
  | nil => exact .keeps fun _ _ => rfl
  | cons w l ih =>
    exact .comp (q := storeSamples q (ch + 1) l) (p := storeSample ch q w) (ih (ch + 1)) (.ite (c := fun s => rateIn s ch = matrixRate s ∧ q + matrixDelay s < s.aud.period + 3) (fun _ _ => Iff.rfl) (.keeps fun _ _ => rfl) (.keeps fun _ _ => rfl))

end Sys2Proof.Machine

namespace Sys2Proof.Machine
open Sys2Proof

/-! ## Audio items (R235, R241 to R243) -/

theorem journalProc_fltBlind (ix : Nat) : FltBlind (journalProc ix) :=
  .bind (op := journal 0x40) (v := fun s => procData s ix) (fun _ _ => rfl) (journal_fltBlind 0x40)

theorem commitSet_fltBlind (ix n : Nat) : FltBlind (commitSet ix n) := fun s g => by
  unfold commitSet
  dsimp only
  rw [show proc { s with flt := g } ix = proc s ix from rfl]
  split
  · exact ⟨g, rfl⟩
  · split
    · exact ⟨g, rfl⟩
    · exact journalProc_fltBlind ix (setProc ix _ s) g

theorem srcMeasure_fltBlind (ix : Nat) (z : Int) : FltBlind (srcMeasure ix z) :=
  .ite (c := fun s => (pFunc (proc s ix) != 6) = true) (fun _ _ => Iff.rfl) (.keeps fun _ _ => rfl) (.keeps fun _ _ => rfl)

/-- The level that an output period leaves in the buffer of an SRC. -/
def srcNext (p : Proc) : Int := p.srcLevel + (p.srcPpm - srcRatio p) * (audioRate (pInFormat p) : Int)

/-- What SRC_RANGE carries. -/
def srcRangeEv (p : Proc) (ix : Nat) : Ev := { src := 0x12A, data := [(2, pfNum ix), (4, ofSigned 32 p.srcPpm)] }

theorem srcStep_eq (ix q : Nat) (s : State) : srcStep ix q s =
    if srcNext (proc s ix) ≤ 0 ∨ 2 * srcStart (proc s ix) (flowD s (pfNum ix)) < srcNext (proc s ix) then
      raiseIf (proc s ix).srcDown.isNone (srcRangeEv (proc s ix) ix)
        (setProc ix { proc s ix with srcLevel := srcStart (proc s ix) (flowD s (pfNum ix)), srcDown := some ((proc s ix).srcDown.getD q), srcUp := none } s)
    else setProc ix { proc s ix with srcLevel := srcNext (proc s ix) } s := rfl

theorem raiseIf_fltBlind (b : Bool) (e : Ev) : FltBlind (raiseIf b e) := by
  cases b with
  | true => exact raise_fltBlind e
  | false => exact .keeps fun _ _ => rfl

theorem srcStep_fltBlind (ix q : Nat) : FltBlind (srcStep ix q) := fun s g => by
  rw [srcStep_eq, srcStep_eq, show proc { s with flt := g } ix = proc s ix from rfl, show flowD { s with flt := g } (pfNum ix) = flowD s (pfNum ix) from rfl]
  split
  · exact raiseIf_fltBlind _ _ (setProc ix _ s) g
  · exact ⟨g, rfl⟩

/-- An output period of a flow of function `fn`, its set in force. -/
def periodOf (f : Flow) (fn : Nat) (bad : Option Nat) (ix q : Nat) (v : Bool) (s : State) : State :=
  let s := if fn = 7 && !v then recordHist bad ix q s else s
  let s := if fn = 6 && !v then srcStep ix q s else s
  storeSamples q f.base ((List.range f.count).map (fun c => if v then 0 else audioOut bad s ix c q)) s

theorem audioPeriod_eq (bad : Option Nat) (ix q : Nat) (v : Bool) (s : State) : audioPeriod bad ix q v s =
    periodOf (flowD s (pfNum ix)) (pFunc (proc (commitSet ix q s) ix)) bad ix q v (commitSet ix q s) := rfl

theorem storePeriod_fltBlind (f : Flow) (bad : Option Nat) (ix q : Nat) (v : Bool) :
    FltBlind (fun s => storeSamples q f.base ((List.range f.count).map (fun c => if v then 0 else audioOut bad s ix c q)) s) :=
  .bind (v := fun s => (List.range f.count).map (fun c => if v then 0 else audioOut bad s ix c q)) (op := storeSamples q f.base) (fun _ _ => rfl)
    fun _ => storeSamples_fltBlind _ _ _

theorem periodOf_fltBlind (f : Flow) (fn : Nat) (bad : Option Nat) (ix q : Nat) (v : Bool) : FltBlind (periodOf f fn bad ix q v) := by
  have hsrc : FltBlind (fun s => if (fn = 6 && !v) = true then srcStep ix q s else s) := .ite (fun _ _ => Iff.rfl) (srcStep_fltBlind ix q) (.keeps fun _ _ => rfl)
  have hhist : FltBlind (fun s => if (fn = 7 && !v) = true then recordHist bad ix q s else s) := .ite (fun _ _ => Iff.rfl) (.keeps fun _ _ => rfl) (.keeps fun _ _ => rfl)
  exact fun s g => (storePeriod_fltBlind f bad ix q v).comp (hsrc.comp hhist) s g

theorem audioPeriod_fltBlind (bad : Option Nat) (ix q : Nat) (v : Bool) : FltBlind (audioPeriod bad ix q v) := fun s g => by
  obtain ⟨g1, h1⟩ := commitSet_fltBlind ix q s g
  obtain ⟨g2, h2⟩ := periodOf_fltBlind (flowD s (pfNum ix)) (pFunc (proc (commitSet ix q s) ix)) bad ix q v (commitSet ix q s) g1
  refine ⟨g2, ?_⟩
  rw [audioPeriod_eq, audioPeriod_eq, h1]
  exact h2

/-- A block whose read was not spoiled: as one whose read met nothing, but for the collector. -/
theorem audioWork_unspoiled {f : ReadFault} (h : spoils f = false) (ix b : Nat) (z : Int) (s : State) :
    ∃ g, audioWork ix b f false z s = { audioWork ix b {} false z s with flt := g } := by
  have hop : FltBlind (fun s => (List.range 6).foldl (fun s i => audioPeriod none ix (6 * b + i) false s) (audioMissing none ix b s)) :=
    .comp (q := fun s => (List.range 6).foldl (fun s i => audioPeriod none ix (6 * b + i) false s) s)
      (.foldl (op := fun i s => audioPeriod none ix (6 * b + i) false s) (fun i => audioPeriod_fltBlind none ix (6 * b + i) false) _) (audioMissing_fltBlind none ix b)
  obtain ⟨g, hg⟩ := hop.checked ix f.inp (b % 4096) (secOf (srcMeasure ix z s)) f (srcMeasure ix z s)
  have hsec : secOf s = secOf (srcMeasure ix z s) := by unfold srcMeasure; dsimp only; split <;> rfl
  refine ⟨g, ?_⟩
  unfold audioWork
  rw [h]
  rw [hsec]
  exact hg

/-- An ANC item whose read was not spoiled emits the stream of the frame that its function reads. -/
theorem ancWork_reads {f : ReadFault} (h : spoils f = false) {ix n : Nat} {s : State} (hnn : n = fiNow s (flowD s (pfNum ix)).domain) (hn : (proc s ix).next = none) :
    ancWork ix f false s = (fun u => takeStream (pfNum ix) n ((ancBytes (proc u ix) n).getD (zeros 6)) true u) (ancIntake ix (n - 1) (readChecks ix 0 0 n f s)) := by
  unfold ancWork
  dsimp only
  rw [← hnn, commitSet_none hn, if_neg Bool.false_ne_true]
  unfold ancBytes
  split
  · next b hb => rw [hb, h]; rfl
  · next hb => rw [hb]; rfl

/-- An ANC item whose read was not spoiled is the item whose read met nothing, but for the collector. -/
theorem ancWork_unspoiled {f : ReadFault} (h : spoils f = false) {ix : Nat} (s : State) (hn : (proc s ix).next = none) :
    ∃ g, ancWork ix f false s = { ancWork ix {} false s with flt := g } := by
  obtain ⟨n, hnn⟩ : ∃ n, n = fiNow s (flowD s (pfNum ix)).domain := ⟨_, rfl⟩
  have hop : FltBlind (fun s => (fun u => takeStream (pfNum ix) n ((ancBytes (proc u ix) n).getD (zeros 6)) true u) (ancIntake ix (n - 1) s)) := by
    refine .comp (q := fun u => takeStream (pfNum ix) n ((ancBytes (proc u ix) n).getD (zeros 6)) true u) ?_ (ancIntake_fltBlind ix (n - 1))
    exact .bind (v := fun u => (ancBytes (proc u ix) n).getD (zeros 6)) (op := fun l u => takeStream (pfNum ix) n l true u) (fun _ _ => rfl) fun _ => takeStream_fltBlind _ _ _ _
  obtain ⟨g, hg⟩ := hop.checked ix 0 0 n f s
  exact ⟨g, by rw [ancWork_reads h hnn hn, ancWork_reads (f := {}) rfl hnn hn]; exact hg⟩

theorem videoWork_unspoiled {f : ReadFault} (h : spoils f = false) {ix k : Nat} (s : State) (hn : (proc s ix).next = none) :
    ∃ g, videoWork ix k f false s = { videoWork ix k {} false s with flt := g } := by
  by_cases hk : k < fmtLines (flowD s (pfNum ix)).format
  · rw [(videoWork_draws hn hk rfl f).1, (videoWork_draws hn hk rfl {}).1, videoItem_unspoiled h]
    exact (videoItem_fltBlind ix (itemFrame s ix k) k).checked ix f.inp k (itemFrame s ix k) f _
  · have hs : ∀ f, videoWork ix k f false s = s := by
      intro f
      unfold videoWork
      dsimp only
      rw [decide_eq_false hk]
      rfl
    exact ⟨s.flt, by rw [hs, hs]⟩

end Sys2Proof.Machine

namespace Sys2Proof.Machine
open Sys2Proof

/-! ## What an audio block writes -/

/-- The state `t` is `s` with input words of the matrix written and the processing array changed, what the sources of missing input
and of SRC_RANGE raise, and no set of flow `ix` newly waiting. -/
def Played (ix : Nat) (s t : State) : Prop :=
  (∃ a ik f, t = { s with aud := { s.aud with inp := a }, ika := ik, flt := f } ∧ ∀ src, src ∉ [0x120, 0x121, 0x12A] → OtherRaises src s.flt f) ∧
    (proc t ix).next = (proc s ix).next

theorem Played.refl (ix : Nat) (s : State) : Played ix s s := ⟨⟨s.aud.inp, s.ika, s.flt, rfl, fun _ _ => .refl _ _⟩, rfl⟩

theorem Played.trans {ix : Nat} {s t u : State} (h1 : Played ix s t) (h2 : Played ix t u) : Played ix s u := by
  obtain ⟨⟨_, _, _, rfl, ho⟩, hn⟩ := h1
  obtain ⟨⟨a, ik, f, rfl, ho'⟩, hn'⟩ := h2
  exact ⟨⟨a, ik, f, rfl, fun src h => (ho src h).trans (ho' src h)⟩, hn'.trans hn⟩

theorem Played.others {ix : Nat} {s t : State} (h : Played ix s t) {src : Nat} (hs : src ∉ [0x120, 0x121, 0x12A]) : OtherRaises src s.flt t.flt := by
  obtain ⟨⟨_, _, _, rfl, ho⟩, -⟩ := h
  exact ho src hs

theorem Played.flows {ix : Nat} {s t : State} (h : Played ix s t) : t.flows = s.flows := by
  obtain ⟨⟨_, _, _, rfl, -⟩, -⟩ := h; rfl

theorem Synced.played {ix : Nat} {s t : State} (h : Synced s t) (hn : (proc t ix).next = (proc s ix).next) : Played ix s t := by
  obtain ⟨ik, f, rfl, ho⟩ := h
  refine ⟨⟨s.aud.inp, ik, f, rfl, fun src hs => ?_⟩, hn⟩
  simp only [List.mem_cons, List.not_mem_nil, or_false, not_or] at hs
  exact ho src hs.1 hs.2.1

theorem proc_setProc_same (ix : Nat) (p : Proc) (s : State) : proc (setProc ix p s) ix = p := tgetD_tput_same _ _ _ _

theorem proc_setProc_ne {m ix : Nat} (p : Proc) (s : State) (h : m ≠ ix) : proc (setProc ix p s) m = proc s m := tgetD_tput_ne _ _ _ h

theorem setProc_played (ix : Nat) (p : Proc) (s : State) (hn : p.next = (proc s ix).next) : Played ix s (setProc ix p s) :=
  (Synced.setProc ix p (.refl s)).played (by rw [proc_setProc_same, hn])

/-! ### Words stored (R275) -/

theorem storeSamples_inp (q ch : Nat) (l : List Nat) (s : State) : ∃ a, storeSamples q ch l s = { s with aud := { s.aud with inp := a } } ∧
    (∀ c q', q' ≠ q → tget? (tgetD a c []) q' = tget? (tgetD s.aud.inp c []) q') ∧
    (∀ c, c < ch → tget? (tgetD a c []) q = tget? (tgetD s.aud.inp c []) q) ∧
    ∀ j, j < l.length → (rateIn s (ch + j) ≠ matrixRate s ∨ s.aud.period + 3 ≤ q + matrixDelay s) → tget? (tgetD a (ch + j) []) q = some (l.getD j 0) := by
  induction l generalizing ch s with
  | nil => exact ⟨s.aud.inp, rfl, fun _ _ _ => rfl, fun _ _ => rfl, fun j h => absurd h (Nat.not_lt_zero j)⟩
  | cons w l ih =>
    obtain ⟨b, hb, hne, hlt, hat⟩ : ∃ b, storeSample ch q w s = { s with aud := { s.aud with inp := b } } ∧
        (∀ c q', q' ≠ q → tget? (tgetD b c []) q' = tget? (tgetD s.aud.inp c []) q') ∧ (∀ c, c < ch → tgetD b c [] = tgetD s.aud.inp c []) ∧
        ((rateIn s ch ≠ matrixRate s ∨ s.aud.period + 3 ≤ q + matrixDelay s) → tget? (tgetD b ch []) q = some w) := by
      unfold storeSample
      split
      · next h => exact ⟨s.aud.inp, rfl, fun _ _ _ => rfl, fun _ _ => rfl, fun h' => absurd h (by rintro ⟨h1, h2⟩; rcases h' with h' | h'; exact h' h1; omega)⟩
      · refine ⟨tupd s.aud.inp ch [] (fun t => tput t q w), rfl, fun c q' hq => ?_, fun c hc => ?_, fun _ => ?_⟩
        · unfold tupd
          by_cases h : c = ch
          · subst h; rw [tgetD_tput_same, tget?_tput_ne _ _ hq]
          · rw [tgetD_tput_ne _ _ _ h]
        · unfold tupd; rw [tgetD_tput_ne _ _ _ (Nat.ne_of_lt hc)]
        · unfold tupd; rw [tgetD_tput_same, tget?_tput_same]
    obtain ⟨a, ha, hne', hlt', hat'⟩ := ih (ch + 1) { s with aud := { s.aud with inp := b } }
    refine ⟨a, ?_, fun c q' hq => (hne' c q' hq).trans (hne c q' hq), fun c hc => (hlt' c (by omega)).trans (by rw [← hlt c hc]), fun j hj hr => ?_⟩
    · show storeSamples q (ch + 1) l (storeSample ch q w s) = _
      rw [hb]
      exact ha
    · match j with
      | 0 => exact (hlt' ch (by omega)).trans (hat hr)
      | m + 1 =>
        have := hat' m (by simpa using hj)
        rw [show ch + 1 + m = ch + (m + 1) by omega] at this
        exact this hr

theorem storeSamples_played (ix q ch : Nat) (l : List Nat) (s : State) : Played ix s (storeSamples q ch l s) := by
  obtain ⟨a, ha, -⟩ := storeSamples_inp q ch l s
  rw [ha]
  exact ⟨⟨a, s.ika, s.flt, rfl, fun _ _ => .refl _ _⟩, rfl⟩

theorem srcStep_played (ix q : Nat) (s : State) : Played ix s (srcStep ix q s) := by
  rw [srcStep_eq]
  split
  · obtain ⟨p, hp⟩ : ∃ p : Proc, p = { proc s ix with srcLevel := srcStart (proc s ix) (flowD s (pfNum ix)), srcDown := some ((proc s ix).srcDown.getD q), srcUp := none } := ⟨_, rfl⟩
    rw [← hp]
    refine (setProc_played ix p s (by rw [hp])).trans ?_
    unfold raiseIf
    split
    · exact ⟨⟨_, _, _, rfl, fun src hs => otherRaises_raise _ (setProc ix p s) rfl rfl (fun e => hs (by rw [e]; exact List.mem_cons_of_mem _ (List.mem_cons_of_mem _ List.mem_cons_self)))⟩, rfl⟩
    · exact .refl _ _
  · exact setProc_played _ _ _ rfl

/-- What an output period of a flow with no set waiting leaves. -/
theorem audioPeriod_played {bad : Option Nat} {ix q : Nat} {v : Bool} {s : State} (hn : (proc s ix).next = none) : Played ix s (audioPeriod bad ix q v s) ∧
    ∀ c q', q' ≠ q → tget? (tgetD (audioPeriod bad ix q v s).aud.inp c []) q' = tget? (tgetD s.aud.inp c []) q' := by
  rw [audioPeriod_eq, commitSet_none hn]
  obtain ⟨u, hu⟩ : ∃ u, u = (if pFunc (proc s ix) = 7 && !v then recordHist bad ix q s else s) := ⟨_, rfl⟩
  obtain ⟨w, hw⟩ : ∃ w, w = (if pFunc (proc s ix) = 6 && !v then srcStep ix q u else u) := ⟨_, rfl⟩
  have hpu : Played ix s u := by
    rw [hu]
    split
    · exact setProc_played _ _ _ rfl
    · exact .refl _ _
  have hau : u.aud = s.aud := by
    rw [hu]
    split <;> rfl
  have hpw : Played ix u w := by
    rw [hw]
    split
    · exact srcStep_played _ _ _
    · exact .refl _ _
  have haw : w.aud = u.aud := by
    rw [hw]
    split
    · rw [srcStep_eq]
      split
      · rw [raiseIf_eq]; rfl
      · rfl
    · rfl
  have hop : periodOf (flowD s (pfNum ix)) (pFunc (proc s ix)) bad ix q v s =
      storeSamples q (flowD s (pfNum ix)).base ((List.range (flowD s (pfNum ix)).count).map (fun c => if v then 0 else audioOut bad w ix c q)) w := by
    rw [hw, hu]; rfl
  rw [hop]
  refine ⟨(hpu.trans hpw).trans (storeSamples_played _ _ _ _ _), fun c q' hq => ?_⟩
  obtain ⟨a, ha, hne, -⟩ := storeSamples_inp q (flowD s (pfNum ix)).base ((List.range (flowD s (pfNum ix)).count).map (fun c => if v then 0 else audioOut bad w ix c q)) w
  rw [ha]
  exact (hne c q' hq).trans (by rw [haw, hau])

theorem audioPeriods_played {bad : Option Nat} {ix b : Nat} {v : Bool} (l : List Nat) {s : State} (hn : (proc s ix).next = none) :
    Played ix s (l.foldl (fun s i => audioPeriod bad ix (6 * b + i) v s) s) ∧
    ∀ c q', (∀ i ∈ l, q' ≠ 6 * b + i) → tget? (tgetD (l.foldl (fun s i => audioPeriod bad ix (6 * b + i) v s) s).aud.inp c []) q' = tget? (tgetD s.aud.inp c []) q' := by
  induction l generalizing s with
  | nil => exact ⟨.refl _ _, fun _ _ _ => rfl⟩
  | cons i l ih =>
    obtain ⟨hp, hq⟩ := audioPeriod_played (bad := bad) (q := 6 * b + i) (v := v) hn
    obtain ⟨hp', hq'⟩ := ih (s := audioPeriod bad ix (6 * b + i) v s) (hp.2.trans hn)
    exact ⟨hp.trans hp', fun c q' h => (hq' c q' fun j hj => h j (List.mem_cons_of_mem _ hj)).trans (hq c q' (h i List.mem_cons_self))⟩

/-- The word that a period writes on a channel the matrix has not passed. -/
theorem audioPeriod_word {bad : Option Nat} {ix q ch : Nat} {v : Bool} {s : State} (hn : (proc s ix).next = none) (hv : v = true ∨ pFunc (proc s ix) = 5)
    (hch : ch < (flowD s (pfNum ix)).count) (hr : rateIn s ((flowD s (pfNum ix)).base + ch) ≠ matrixRate s ∨ s.aud.period + 3 ≤ q + matrixDelay s) :
    tget? (tgetD (audioPeriod bad ix q v s).aud.inp ((flowD s (pfNum ix)).base + ch) []) q = some (if v then 0 else audioOut bad s ix ch q) := by
  have h6 : ∀ fn, fn = 6 ∨ fn = 7 → (decide (pFunc (proc s ix) = fn) && !v) = false := by
    rintro fn hfn
    rcases hv with rfl | h5
    · simp
    · rw [h5]; rcases hfn with rfl | rfl <;> rfl
  have hop : audioPeriod bad ix q v s =
      storeSamples q (flowD s (pfNum ix)).base ((List.range (flowD s (pfNum ix)).count).map (fun c => if v then 0 else audioOut bad s ix c q)) s := by
    rw [audioPeriod_eq, commitSet_none hn]
    unfold periodOf
    dsimp only
    rw [h6 7 (Or.inr rfl), h6 6 (Or.inl rfl)]
    rfl
  obtain ⟨a, ha, -, -, hat⟩ := storeSamples_inp q (flowD s (pfNum ix)).base ((List.range (flowD s (pfNum ix)).count).map (fun c => if v then 0 else audioOut bad s ix c q)) s
  rw [hop, ha]
  refine (hat ch (by rw [List.length_map, List.length_range]; exact hch) hr).trans ?_
  rw [List.getD_eq_getElem _ _ (by rw [List.length_map, List.length_range]; exact hch), List.getElem_map, List.getElem_range]

/-- The words of a voided block are zero. -/
theorem voidBlock_zero {ix b ch : Nat} {bad : Option Nat} (l : List Nat) (hl : l.Nodup) {s : State} (hn : (proc s ix).next = none) (hch : ch < (flowD s (pfNum ix)).count)
    (hr : rateIn s ((flowD s (pfNum ix)).base + ch) ≠ matrixRate s ∨ s.aud.period + 3 ≤ 6 * b + matrixDelay s) {i : Nat} (hi : i ∈ l) :
    tget? (tgetD (l.foldl (fun s i => audioPeriod bad ix (6 * b + i) true s) s).aud.inp ((flowD s (pfNum ix)).base + ch) []) (6 * b + i) = some 0 := by
  induction l generalizing s with
  | nil => exact absurd hi List.not_mem_nil
  | cons j l ih =>
    obtain ⟨hp, -⟩ := audioPeriod_played (bad := bad) (q := 6 * b + j) (v := true) hn
    have hnl := (List.nodup_cons.mp hl)
    rcases List.mem_cons.mp hi with rfl | hi'
    · refine ((audioPeriods_played (v := true) l (hp.2.trans hn)).2 _ _ fun m hm e => hnl.1 (by rwa [show i = m by omega])).trans ?_
      exact audioPeriod_word hn (Or.inl rfl) hch (hr.imp id fun h => by omega)
    · obtain ⟨⟨a, ik, f, he, -⟩, hnx⟩ := hp
      have hstep := ih hnl.2 (s := audioPeriod bad ix (6 * b + j) true s) (hnx.trans hn)
      rw [he] at hstep
      rw [List.foldl_cons, he]
      exact hstep hch hr hi'

theorem audioMissing_synced (bad : Option Nat) (ix b : Nat) (s : State) : Synced s (audioMissing bad ix b s) := by
  unfold audioMissing
  dsimp only
  generalize (if pFunc (proc s ix) = 6 then _ else _ : Nat) = i
  refine Synced.foldl (fun s k => ?_) _ s
  split
  · exact .refl s
  · exact inputMissing_synced _ _ _ _ s

/-- A missing input changes only the episodes of its flow. -/
theorem inputMissing_proc (ix k line n : Nat) (s : State) : ∃ h, proc (inputMissing ix k line n s) ix = { proc s ix with heldSeen := h } ∧
    ∀ m, m ≠ ix → proc (inputMissing ix k line n s) m = proc s m := by
  unfold inputMissing
  dsimp only
  split
  · split
    · exact ⟨_, rfl, fun _ _ => rfl⟩
    · exact ⟨_, proc_setProc_same _ _ _, fun m hm => proc_setProc_ne _ _ hm⟩
  · split
    · exact ⟨_, rfl, fun _ _ => rfl⟩
    · obtain ⟨f, hf, -⟩ := raiseOnce_others ix n { src := 0x121, data := [(2, pfNum ix), (1, k), (2, line), (1, n % 256)] } s
      rw [hf]
      exact ⟨_, rfl, fun _ _ => rfl⟩

theorem audioMissing_proc (bad : Option Nat) (ix b : Nat) (s : State) : ∃ h, proc (audioMissing bad ix b s) ix = { proc s ix with heldSeen := h } := by
  unfold audioMissing
  dsimp only
  generalize usedInputs (proc s ix) (flowD s (pfNum ix)) = l
  generalize (if pFunc (proc s ix) = 6 then _ else _ : Nat) = i
  generalize (flowD s (pfNum ix)).domain = d
  induction l generalizing s with
  | nil => exact ⟨_, rfl⟩
  | cons k l ih =>
    rw [List.foldl_cons]
    split
    · exact ih s
    · obtain ⟨h1, he, -⟩ := inputMissing_proc ix k (b % 4096) (fiNow s d) s
      obtain ⟨h2, he'⟩ := ih (inputMissing ix k (b % 4096) (fiNow s d) s)
      exact ⟨h2, by rw [he', he]⟩

/-- Inputs that are all there report nothing. -/
theorem audioMissing_none {bad : Option Nat} {ix b : Nat} {s : State} (h5 : pFunc (proc s ix) = 5)
    (h : ∀ j ∈ usedInputs (proc s ix) (flowD s (pfNum ix)), (itemWord? bad s ix j 0 (6 * b - 6)).isSome = true) : audioMissing bad ix b s = s := by
  unfold audioMissing
  dsimp only
  rw [h5, if_neg (by decide)]
  generalize usedInputs (proc s ix) (flowD s (pfNum ix)) = l at h
  induction l with
  | nil => rfl
  | cons k l ih =>
    rw [List.foldl_cons, h k List.mem_cons_self]
    exact ih fun j hj => h j (List.mem_cons_of_mem _ hj)

/-! ### SRC out of range (R242) -/

/-- A SRC whose output ramps down since period `d`, its input's rate measured as `z`. -/
def RampingDown (d : Nat) (z : Int) (p : Proc) : Prop := p.srcDown = some d ∧ p.srcUp = none ∧ p.srcPpm = z

/-- A period of a SRC that ramps down raises nothing. -/
theorem srcStep_ramping {ix q d : Nat} {z : Int} {s : State} (h : RampingDown d z (proc s ix)) :
    ∃ p, srcStep ix q s = setProc ix p s ∧ RampingDown d z p ∧ p.next = (proc s ix).next ∧ p.desc = (proc s ix).desc := by
  obtain ⟨hd, hu, hz⟩ := h
  rw [srcStep_eq]
  split
  · rw [hd]
    exact ⟨_, rfl, ⟨rfl, rfl, hz⟩, rfl, rfl⟩
  · exact ⟨_, rfl, ⟨hd, hu, hz⟩, rfl, rfl⟩

/-- A period out of range raises SRC_RANGE, and the output ramps down from it. -/
theorem srcStep_range {ix q : Nat} {s : State} (hd : (proc s ix).srcDown = none)
    (hx : 2 * srcStart (proc s ix) (flowD s (pfNum ix)) < srcNext (proc s ix)) : ∃ p f,
    srcStep ix q s = { setProc ix p s with flt := f } ∧ RampingDown q (proc s ix).srcPpm p ∧ p.next = (proc s ix).next ∧ p.desc = (proc s ix).desc ∧
      RaisedOnce 0x12A s { s with flt := f } := by
  obtain ⟨p, hp⟩ : ∃ p : Proc, p = { proc s ix with srcLevel := srcStart (proc s ix) (flowD s (pfNum ix)), srcDown := some ((proc s ix).srcDown.getD q), srcUp := none } := ⟨_, rfl⟩
  refine ⟨p, (raise (srcRangeEv (proc s ix) ix) (setProc ix p s)).flt, ?_, by rw [hp, hd]; exact ⟨rfl, rfl, rfl⟩, by rw [hp], by rw [hp],
    (raise_raised (srcRangeEv (proc s ix) ix) (setProc ix p s) rfl).1⟩
  rw [srcStep_eq, if_pos (Or.inr hx), ← hp]
  unfold raiseIf
  rw [hd]
  rfl

/-- A period of a SRC, its set in force: the buffer steps, and the words are stored. -/
theorem audioPeriod_src {bad : Option Nat} {ix q : Nat} {s : State} (hn : (proc s ix).next = none) (h6 : pFunc (proc s ix) = 6) :
    ∃ a, audioPeriod bad ix q false s = { srcStep ix q s with aud := { s.aud with inp := a } } := by
  have hop : audioPeriod bad ix q false s = storeSamples q (flowD s (pfNum ix)).base ((List.range (flowD s (pfNum ix)).count).map (fun c => audioOut bad (srcStep ix q s) ix c q)) (srcStep ix q s) := by
    rw [audioPeriod_eq, commitSet_none hn]
    unfold periodOf
    rw [h6]
    rfl
  have haud : (srcStep ix q s).aud = s.aud := by
    rw [srcStep_eq]
    split
    · rw [raiseIf_eq]; rfl
    · rfl
  obtain ⟨a, ha, -⟩ := storeSamples_inp q (flowD s (pfNum ix)).base ((List.range (flowD s (pfNum ix)).count).map (fun c => audioOut bad (srcStep ix q s) ix c q)) (srcStep ix q s)
  exact ⟨a, by rw [hop, ha, haud]⟩

theorem pFunc_desc {p q : Proc} (h : p.desc = q.desc) : pFunc p = pFunc q := congrArg (fun l => fieldAt l 2 1) h

/-- Periods of a SRC that ramps down: it goes on to, and nothing is raised. -/
theorem audioPeriods_ramping {bad : Option Nat} {ix b d : Nat} {z : Int} (l : List Nat) {s : State} (hn : (proc s ix).next = none) (h6 : pFunc (proc s ix) = 6) (h : RampingDown d z (proc s ix)) :
    ∃ t, l.foldl (fun s i => audioPeriod bad ix (6 * b + i) false s) s = t ∧ RampingDown d z (proc t ix) ∧ t.flt = s.flt := by
  induction l generalizing s with
  | nil => exact ⟨s, rfl, h, rfl⟩
  | cons i l ih =>
    obtain ⟨p, hp, hr, hpn, hpd⟩ := srcStep_ramping (q := 6 * b + i) h
    obtain ⟨a, ha⟩ := audioPeriod_src (bad := bad) (q := 6 * b + i) hn h6
    rw [hp] at ha
    have hproc : proc (audioPeriod bad ix (6 * b + i) false s) ix = p := by rw [ha]; exact proc_setProc_same _ _ _
    obtain ⟨t, ht, hrt, hft⟩ := ih (s := audioPeriod bad ix (6 * b + i) false s) (by rw [hproc, hpn, hn]) (by rw [hproc, pFunc_desc hpd, h6]) (by rw [hproc]; exact hr)
    exact ⟨t, ht, hrt, hft.trans (by rw [ha]; rfl)⟩

end Sys2Proof.Machine

namespace Sys2Proof.Machine
open Sys2Proof

/-! ## Decisions of frame synchronisers and layers (R236, R266 to R268) -/

/-- From `s` to `t` the processed flow `ix` and the collector alone have changed, and no block reset was decided. -/
def Decides (ix : Nat) (s t : State) : Prop :=
  (∃ ps f, t = { s with ika := { s.ika with procs := ps }, flt := f } ∧ f.resetQ = s.flt.resetQ) ∧ ∀ m, m ≠ ix → proc t m = proc s m

theorem Decides.refl (ix : Nat) (s : State) : Decides ix s s := ⟨⟨s.ika.procs, s.flt, rfl, rfl⟩, fun _ _ => rfl⟩

theorem Decides.trans {ix : Nat} {s t u : State} (h1 : Decides ix s t) (h2 : Decides ix t u) : Decides ix s u := by
  obtain ⟨⟨_, _, rfl, hq⟩, hm⟩ := h1
  obtain ⟨⟨ps, f, rfl, hq'⟩, hm'⟩ := h2
  exact ⟨⟨ps, f, rfl, hq'.trans hq⟩, fun m h => (hm' m h).trans (hm m h)⟩

theorem Decides.resetQ {ix : Nat} {s t : State} (h : Decides ix s t) : t.flt.resetQ = s.flt.resetQ := by
  obtain ⟨⟨_, _, rfl, hq⟩, -⟩ := h
  exact hq

theorem setProc_decides (ix : Nat) (p : Proc) (s : State) : Decides ix s (setProc ix p s) :=
  ⟨⟨tput s.ika.procs ix p, s.flt, rfl, rfl⟩, fun _ h => proc_setProc_ne p s h⟩

theorem flt_decides (ix : Nat) (s : State) (f : Flt) (h : f.resetQ = s.flt.resetQ) : Decides ix s { s with flt := f } :=
  ⟨⟨s.ika.procs, f, rfl, h⟩, fun _ _ => rfl⟩

theorem raiseIf_decides (ix : Nat) (b : Bool) (e : Ev) (s : State) (h : e.unit = none) : Decides ix s (raiseIf b e s) := by
  unfold raiseIf
  split
  · exact flt_decides ix s _ (raise_resetQ e s h)
  · exact .refl ix s

theorem inputMissing_decides (ix k line n : Nat) (s : State) : Decides ix s (inputMissing ix k line n s) := by
  unfold inputMissing
  dsimp only
  split
  · split
    · exact .refl ix s
    · exact (setProc_decides ix _ s).trans (flt_decides ix _ _ (raise_resetQ { src := 0x120, data := [(2, pfNum ix), (1, k), (2, (latched s (pfWord ix k)).src)] } _ rfl))
  · split
    · exact .refl ix s
    · obtain ⟨f, hf, ho⟩ := raiseOnce_others ix n { src := 0x121, data := [(2, pfNum ix), (1, k), (2, line), (1, n % 256)] } s
      rw [hf]
      exact flt_decides ix s f (ho 0 (Or.inl rfl) rfl (show 0 ≠ 0x121 by decide)).1

theorem reportHeld_decides (ix n : Nat) (s : State) : Decides ix s (reportHeld ix n s) := by
  unfold reportHeld
  split
  · exact inputMissing_decides _ _ _ _ s
  · exact .refl ix s

theorem reportHeld_proc (ix n : Nat) (s : State) : ∃ h, proc (reportHeld ix n s) ix = { proc s ix with heldSeen := h } := by
  unfold reportHeld
  split
  · obtain ⟨h, he, -⟩ := inputMissing_proc ix 0 0 n s
    exact ⟨h, he⟩
  · exact ⟨_, rfl⟩

theorem reportHeld_synced (ix n : Nat) (s : State) : Synced s (reportHeld ix n s) := by
  unfold reportHeld
  split
  · exact inputMissing_synced _ _ _ _ s
  · exact .refl s

/-! ### The frame synchroniser (R236) -/

/-- A buffer complete by `t`. -/
def syncDone (t : Nat) (b : FrameBuf) : Bool := match b.done with | some d => decide (d ≤ t) | none => false

theorem syncDone_eq (t : Nat) : (fun w : FrameBuf => (w.done.map (fun q => decide (q ≤ t))).getD false) = syncDone t := by
  funext b
  unfold syncDone
  cases b.done <;> rfl

theorem syncDecide_none {p : Proc} {t : Nat} {held : Bool} (h : (bufsOf p 0).find? (syncDone t) = none) : syncDecide p t held = (p, {}) := by
  have hd : syncDecide p t held = match (bufsOf p 0).find? (syncDone t) with
    | none => (p, {})
    | some b =>
      if p.reading = some (b.src, b.n) then
        if held && decide (pBody p 0 1 ≤ p.repeats) then
          ({ p with reading := none, bufs := tput p.bufs 0 ((bufsOf p 0).filter (fun x => !syncDone t x)), repeats := 0, unread := 0 },
            { drops := p.unread, expires := true })
        else ({ p with repeats := p.repeats + 1, unread := 0 }, { drops := p.unread, repeats := true })
      else
        ({ p with
            reading := some (b.src, b.n), repeats := 0, unread := 0
            bufs := tput p.bufs 0 ((bufsOf p 0).filter (fun x => !syncDone t x || x == b)) },
          { drops := p.unread + ((bufsOf p 0).filter (fun x => syncDone t x && x != b && p.reading != some (x.src, x.n))).length }) := rfl
  rw [hd, h]

theorem syncDecide_some {p : Proc} {t : Nat} {held : Bool} {b : FrameBuf} (h : (bufsOf p 0).find? (syncDone t) = some b) :
    syncDecide p t held =
      if p.reading = some (b.src, b.n) then
        if held && decide (pBody p 0 1 ≤ p.repeats) then
          ({ p with reading := none, bufs := tput p.bufs 0 ((bufsOf p 0).filter (fun x => !syncDone t x)), repeats := 0, unread := 0 },
            { drops := p.unread, expires := true })
        else ({ p with repeats := p.repeats + 1, unread := 0 }, { drops := p.unread, repeats := true })
      else
        ({ p with
            reading := some (b.src, b.n), repeats := 0, unread := 0
            bufs := tput p.bufs 0 ((bufsOf p 0).filter (fun x => !syncDone t x || x == b)) },
          { drops := p.unread + ((bufsOf p 0).filter (fun x => syncDone t x && x != b && p.reading != some (x.src, x.n))).length }) := by
  have hd : syncDecide p t held = match (bufsOf p 0).find? (syncDone t) with
    | none => (p, {})
    | some b =>
      if p.reading = some (b.src, b.n) then
        if held && decide (pBody p 0 1 ≤ p.repeats) then
          ({ p with reading := none, bufs := tput p.bufs 0 ((bufsOf p 0).filter (fun x => !syncDone t x)), repeats := 0, unread := 0 },
            { drops := p.unread, expires := true })
        else ({ p with repeats := p.repeats + 1, unread := 0 }, { drops := p.unread, repeats := true })
      else
        ({ p with
            reading := some (b.src, b.n), repeats := 0, unread := 0
            bufs := tput p.bufs 0 ((bufsOf p 0).filter (fun x => !syncDone t x || x == b)) },
          { drops := p.unread + ((bufsOf p 0).filter (fun x => syncDone t x && x != b && p.reading != some (x.src, x.n))).length }) := rfl
  rw [hd, h]

/-- The counts of a flow after a decision. -/
def syncCounted (p : Proc) (o : SyncOutcome) : Proc :=
  { p with fsDrop := satAdd 32 p.fsDrop o.drops, fsRepeat := satAdd 32 p.fsRepeat (if o.repeats then 1 else 0) }

/-- What a decision counts and raises. -/
theorem syncEvents_counts (ix n : Nat) (o : SyncOutcome) (s : State) : ∃ f, syncEvents ix n o s = { setProc ix (syncCounted (proc s ix) o) s with flt := f } ∧
    f.resetQ = s.flt.resetQ ∧ (o.repeats = true → RaisedOnce 0x122 s { s with flt := f }) ∧ (o.expires = true → Raised 0x124 [(2, pfNum ix)] 0 s { s with flt := f }) := by
  obtain ⟨u, hu⟩ : ∃ u, u = setProc ix (syncCounted (proc s ix) o) s := ⟨_, rfl⟩
  obtain ⟨v, hv⟩ : ∃ v, v = raiseIf o.repeats { src := 0x122, data := [(2, pfNum ix), (1, n % 256)] } u := ⟨_, rfl⟩
  obtain ⟨w, hw⟩ : ∃ w, w = (List.range o.drops).foldl (fun s _ => raise { src := 0x123, data := [(2, pfNum ix), (1, n % 256)] } s) v := ⟨_, rfl⟩
  have hop : syncEvents ix n o s = raiseIf o.expires { src := 0x124, data := [(2, pfNum ix)] } w := by rw [hw, hv, hu]; rfl
  have hvf : v = { u with flt := v.flt } := by rw [hv, raiseIf_eq]
  obtain ⟨g, hg, -⟩ := raises_others (List.range o.drops) (fun _ => ({ src := 0x123, data := [(2, pfNum ix), (1, n % 256)] } : Ev)) v fun _ => rfl
  have hwf : w = { u with flt := w.flt } := by
    have : w = { v with flt := g } := hw.trans hg
    rw [this, hvf]
  have hv2 : ∀ src, src ≠ 0x122 → OtherRaises src s.flt v.flt := by
    intro src h
    have := otherRaises_raiseIf (src := src) o.repeats { src := 0x122, data := [(2, pfNum ix), (1, n % 256)] } u rfl rfl h
    rw [← hv] at this
    rwa [show u.flt = s.flt by rw [hu]; rfl] at this
  have hw2 : ∀ src, src ≠ 0x123 → OtherRaises src v.flt w.flt := by
    intro src h
    rw [hw]
    exact raises_otherRaises _ (fun _ => ({ src := 0x123, data := [(2, pfNum ix), (1, n % 256)] } : Ev)) v fun _ => ⟨rfl, rfl, h⟩
  have hx2 : ∀ src, src ≠ 0x124 → OtherRaises src w.flt (syncEvents ix n o s).flt := by
    intro src h
    rw [hop]
    exact otherRaises_raiseIf _ _ w rfl rfl h
  have hxf : syncEvents ix n o s = { u with flt := (syncEvents ix n o s).flt } := by
    have : syncEvents ix n o s = { w with flt := (syncEvents ix n o s).flt } := by rw [hop, raiseIf_eq]
    rw [this, hwf]
  refine ⟨(syncEvents ix n o s).flt, by rw [← hu]; exact hxf, (((hv2 0 (by decide)).trans (hw2 0 (by decide))).trans (hx2 0 (by decide))).1, fun hr => ?_, fun he => ?_⟩
  · have h1 : RaisedOnce 0x122 s v := by
      rw [hv, hr, hu]
      exact (raise_raised { src := 0x122, data := [(2, pfNum ix), (1, n % 256)] } (setProc ix (syncCounted (proc s ix) o) s) rfl).1
    unfold RaisedOnce at h1 ⊢
    exact (congrArg SrcStat.count ((hw2 0x122 (by decide)).trans (hx2 0x122 (by decide))).2.1).trans h1
  · have h1 : Raised 0x124 [(2, pfNum ix)] 0 w (raise { src := 0x124, data := [(2, pfNum ix)] } w) := raise_raised { src := 0x124, data := [(2, pfNum ix)] } w rfl
    have h2 := h1.after ((hv2 0x124 (by decide)).trans (hw2 0x124 (by decide)))
    have h3 : syncEvents ix n o s = raise { src := 0x124, data := [(2, pfNum ix)] } w := by rw [hop, he]; rfl
    have hnow : w.tim = s.tim := by rw [hwf, hu]; rfl
    unfold Raised at h2 ⊢
    rw [h3]
    rw [show (raise { src := 0x124, data := [(2, pfNum ix)] } w).tim = s.tim from hnow] at h2
    exact h2

theorem followers_congr {s t : State} (n : Nat) (hf : t.flows = s.flows) (h : ∀ i, (proc t i).desc = (proc s i).desc) : followers t n = followers s n := by
  unfold followers activeProcs pFunc pBody
  simp only [hf, h]

/-- A decision of a synchroniser that nothing follows: the flow as its outcome leaves it, and the events of that outcome. -/
theorem frameSync_decides {s : State} {pf ix n : Nat} {x : Flow} {p r : Proc} {o : SyncOutcome} {held : Bool} (hix : ix = ixOf pf) (hx : x = flowD s (pfNum ix)) (hp : p = proc s ix)
    (hr : x.st = .running) (he : x.essence = 0) (h1 : pFunc p = 1) (hfo : followers s (pfNum ix) = []) (hn : n = dueFrame s ix) (hh : held = inputHeld s ix 0)
    (ho : syncDecide { p with decided := some n } (tOf s x.domain n) held = (r, o)) (hd : r.desc = p.desc) : ∃ t hs,
    opFrameSyncDecision pf s = t ∧ (∀ m, m ≠ ix → proc t m = proc s m) ∧ proc t ix = syncCounted { r with heldSeen := hs } o ∧
      t.tim.now = max s.tim.now (tOf s x.domain n) ∧
      t = { s with tim := { s.tim with now := t.tim.now }, ika := { s.ika with procs := t.ika.procs }, flt := t.flt } ∧ t.flt.resetQ = s.flt.resetQ ∧
      (o.repeats = true → RaisedOnce 0x122 s t) ∧ (o.expires = true → Raised 0x124 [(2, pfNum ix)] 0 s t) := by
  subst hix hx hp hh
  obtain ⟨u, hu⟩ : ∃ u, u = decided (ixOf pf) n (atLeast (tOf s (flowD s (pfNum (ixOf pf))).domain n) s) := ⟨_, rfl⟩
  have hpu : proc u (ixOf pf) = { proc s (ixOf pf) with decided := some n } := by rw [hu]; exact proc_setProc_same _ _ _
  obtain ⟨v, hv⟩ : ∃ v, v = (if o.repeats || r.reading.isNone then reportHeld (ixOf pf) n (setProc (ixOf pf) r u) else setProc (ixOf pf) r u) := ⟨_, rfl⟩
  have hdv : Decides (ixOf pf) u v := by
    rw [hv]
    split
    · exact (setProc_decides _ _ _).trans (reportHeld_decides _ _ _)
    · exact setProc_decides _ _ _
  obtain ⟨hs, hpv⟩ : ∃ h, proc v (ixOf pf) = { r with heldSeen := h } := by
    rw [hv]
    split
    · obtain ⟨h, hph⟩ := reportHeld_proc (ixOf pf) n (setProc (ixOf pf) r u)
      exact ⟨h, by rw [hph, proc_setProc_same]⟩
    · exact ⟨r.heldSeen, proc_setProc_same _ _ _⟩
  have hsv : Synced u v := by
    rw [hv]
    split
    · exact (Synced.setProc (ixOf pf) r (.refl u)).trans (reportHeld_synced _ _ _)
    · exact .setProc _ _ (.refl u)
  obtain ⟨f, hw, hq, hrep, hexp⟩ := syncEvents_counts (ixOf pf) n o v
  rw [hpv] at hw
  obtain ⟨t, ht⟩ : ∃ t, t = syncEvents (ixOf pf) n o v := ⟨_, rfl⟩
  rw [← ht] at hw
  have hdt : Decides (ixOf pf) v t := by
    rw [hw]
    exact (setProc_decides (ixOf pf) _ v).trans (flt_decides _ _ f hq)
  have hpt : proc t (ixOf pf) = syncCounted { r with heldSeen := hs } o := by rw [hw]; exact proc_setProc_same _ _ _
  have hus : ∀ m, m ≠ ixOf pf → proc u m = proc s m := fun m hm => by rw [hu]; exact proc_setProc_ne _ _ hm
  have hfol : followers t (pfNum (ixOf pf)) = [] := by
    refine (followers_congr _ ?_ fun i => ?_).trans hfo
    · obtain ⟨⟨_, _, h, -⟩, -⟩ := hdt
      obtain ⟨⟨_, _, h', -⟩, -⟩ := hdv
      rw [h, h', hu]; rfl
    · by_cases hi : i = ixOf pf
      · rw [hi, hpt]; exact hd
      · rw [hdt.2 i hi, hdv.2 i hi, hus i hi]
  have hop : opFrameSyncDecision pf s = t := by
    unfold opFrameSyncDecision
    dsimp only
    rw [hr, he, h1, if_neg (by decide), ← hn, ← hu, hpu, show tOf u (flowD s (pfNum (ixOf pf))).domain n = tOf s (flowD s (pfNum (ixOf pf))).domain n by rw [hu]; rfl,
      show inputHeld u (ixOf pf) 0 = inputHeld s (ixOf pf) 0 by rw [hu]; rfl, ho]
    dsimp only
    rw [← hv, ← ht, hfol]
    rfl
  have hframe : ∃ ps g, t = { s with tim := { s.tim with now := max s.tim.now (tOf s (flowD s (pfNum (ixOf pf))).domain n) }, ika := { s.ika with procs := ps }, flt := g } := by
    obtain ⟨⟨ps, g, h, -⟩, -⟩ := hdt
    obtain ⟨⟨_, _, h', -⟩, -⟩ := hdv
    exact ⟨ps, g, by rw [h, h', hu]; rfl⟩
  have hsf : u.flt = s.flt := by rw [hu]; rfl
  have htim : t.tim = v.tim := by rw [hw]; rfl
  refine ⟨t, hs, hop, fun m hm => (hdt.2 m hm).trans ((hdv.2 m hm).trans (hus m hm)), hpt, ?_, ?_, hdt.resetQ.trans (hdv.resetQ.trans (by rw [hsf])), fun hrp => ?_, fun hex => ?_⟩
  · obtain ⟨ps, g, h⟩ := hframe; rw [h]
  · obtain ⟨ps, g, h⟩ := hframe; rw [h]
  · obtain ⟨ik, g, h, ho'⟩ := hsv
    have h2 := (ho' 0x122 (by decide) (by decide)).2.1
    have h3 := hrep hrp
    unfold RaisedOnce at h3 ⊢
    rw [hw]
    refine h3.trans ?_
    rw [h, ← hsf, ← h2]
  · obtain ⟨ik, g, h, ho'⟩ := hsv
    have h2 := (ho' 0x124 (by decide) (by decide))
    rw [hsf] at h2
    have h3 := hexp hex
    have h4 : Raised 0x124 [(2, pfNum (ixOf pf))] 0 v t := by
      unfold Raised at h3 ⊢
      rw [htim]
      rw [show t.flt = f by rw [hw]]
      exact h3
    exact h4.after (by rw [h]; exact h2)

/-! ### Layers (R266 to R268) -/

/-- What a decision makes of a layer: `mf` the misfit of its source, `cl` the class of its frame. -/
def nextLayer (x : Layer) (mf : Option Nat) (cl : Ready) (freeze now n : Nat) : Layer :=
  let x := { x with misfit := x.misfit && mf.isSome }
  match mf with
  | some _ => if x.misfit then toState x .fill x.count none now else { toState x .fill x.count none now with misfit := true }
  | none =>
    match cl with
    | .void_ => toState x .empty 0 none now
    | .ready => toState x .showing 0 (some (n - 1)) now
    | .notReady =>
      match x.st with
      | .showing => { toState x .repeating 1 x.shown now with episodes := satAdd 32 x.episodes 1 }
      | .repeating => if x.count < freeze then { x with count := x.count + 1 } else toState x .fill x.count none now
      | _ => x

theorem decideLayer_next (s : State) (ix i n : Nat) : (decideLayer s ix i n).next =
      nextLayer (layer (proc s ix) i) (misfit s ix (layerDef (proc s ix) i)) (classify (proc s ix) (layerDef (proc s ix) i) (n - 1)) (layerSet (setNow (proc s ix)) i).freeze s.tim.now n ∧
    ∀ e, (decideLayer s ix i n).ev = some e → e.unit = none := by
  unfold decideLayer nextLayer
  dsimp only
  cases misfit s ix (layerDef (proc s ix) i) with
  | some f =>
    dsimp only
    split
    · exact ⟨rfl, nofun⟩
    · exact ⟨rfl, fun e h => by cases h; rfl⟩
  | none =>
    dsimp only
    cases classify (proc s ix) (layerDef (proc s ix) i) (n - 1) with
    | void_ => exact ⟨rfl, nofun⟩
    | ready =>
      dsimp only
      refine ⟨rfl, fun e h => ?_⟩
      split at h
      · cases h; rfl
      · cases h
    | notReady =>
      dsimp only
      cases (layer (proc s ix) i).st with
      | showing => exact ⟨rfl, fun e h => by cases h; rfl⟩
      | repeating =>
        dsimp only
        split
        · exact ⟨rfl, nofun⟩
        · exact ⟨rfl, fun e h => by cases h; rfl⟩
      | empty => exact ⟨rfl, nofun⟩
      | fill => exact ⟨rfl, nofun⟩

/-- The layer as its decision leaves it, opaque or not for the frame. -/
def decidedLayer (s : State) (ix i n : Nat) : Layer :=
  { (decideLayer s ix i n).next with opaque_ := opaqueNow (layerDef (proc s ix) i) (layerSet (setNow (proc s ix)) i) (decideLayer s ix i n).next }

theorem decideOne_decides (ix n i : Nat) (s : State) : Decides ix s (decideOne ix n i s) ∧
    proc (decideOne ix n i s) ix = { proc s ix with layers := tput (proc s ix).layers i (decidedLayer s ix i n) } ∧ (decideOne ix n i s).tim = s.tim := by
  obtain ⟨-, hev⟩ := decideLayer_next s ix i n
  obtain ⟨u, hu⟩ : ∃ u, u = setProc ix { proc s ix with layers := tput (proc s ix).layers i (decidedLayer s ix i n) } s := ⟨_, rfl⟩
  have hop : decideOne ix n i s = match (decideLayer s ix i n).ev with
    | some e => raise e u
    | none => u := by rw [hu]; rfl
  have hpu : proc u ix = { proc s ix with layers := tput (proc s ix).layers i (decidedLayer s ix i n) } := by rw [hu]; exact proc_setProc_same _ _ _
  have hdu : Decides ix s u := by rw [hu]; exact setProc_decides _ _ _
  have htu : u.tim = s.tim := by rw [hu]; rfl
  rw [hop]
  cases he : (decideLayer s ix i n).ev with
  | some e => exact ⟨hdu.trans (flt_decides ix u _ (raise_resetQ e u (hev e he))), hpu, htu⟩
  | none => exact ⟨hdu, hpu, htu⟩

/-- Two states alike in all that the decision of layer `i` looks at. -/
def LayerLike (ix i : Nat) (s t : State) : Prop :=
  Decides ix s t ∧ layer (proc t ix) i = layer (proc s ix) i ∧ ∃ h l, proc t ix = { proc s ix with heldSeen := h, layers := l }

theorem LayerLike.decided {ix i n : Nat} {s t : State} (h : LayerLike ix i s t) : decidedLayer t ix i n = decidedLayer s ix i n := by
  obtain ⟨⟨⟨ps, f, ht, -⟩, -⟩, hl, hs, l, hp⟩ := h
  have hnext : (decideLayer t ix i n).next = (decideLayer s ix i n).next := by
    rw [(decideLayer_next t ix i n).1, (decideLayer_next s ix i n).1, hl, hp, show misfit t ix = misfit s ix by rw [ht]; rfl, show t.tim = s.tim by rw [ht]]
    rfl
  unfold decidedLayer
  rw [hnext, hp]
  rfl

theorem LayerLike.refl (ix i : Nat) (s : State) : LayerLike ix i s s := ⟨.refl ix s, rfl, _, _, rfl⟩

theorem LayerLike.trans {ix i : Nat} {s t u : State} (h1 : LayerLike ix i s t) (h2 : LayerLike ix i t u) : LayerLike ix i s u := by
  obtain ⟨hd, hl, h, l, hp⟩ := h1
  obtain ⟨hd', hl', h', l', hp'⟩ := h2
  exact ⟨hd.trans hd', hl'.trans hl, h', l', by rw [hp', hp]⟩

theorem decideOne_other {ix n i j : Nat} (s : State) (h : j ≠ i) : LayerLike ix i s (decideOne ix n j s) := by
  obtain ⟨hd, hp, -⟩ := decideOne_decides ix n j s
  refine ⟨hd, ?_, (proc s ix).heldSeen, _, hp⟩
  rw [hp]
  exact tgetD_tput_ne _ _ _ (Ne.symm h)

/-- Each layer is decided once. -/
theorem layersDecided {ix n i : Nat} (l : List Nat) (hl : l.Nodup) (s : State) : Decides ix s (l.foldl (fun s j => decideOne ix n j s) s) ∧
    (l.foldl (fun s j => decideOne ix n j s) s).tim = s.tim ∧
    (i ∈ l → layer (proc (l.foldl (fun s j => decideOne ix n j s) s) ix) i = decidedLayer s ix i n) ∧
    (i ∉ l → layer (proc (l.foldl (fun s j => decideOne ix n j s) s) ix) i = layer (proc s ix) i) ∧
    ∃ ls, proc (l.foldl (fun s j => decideOne ix n j s) s) ix = { proc s ix with layers := ls } := by
  induction l generalizing s with
  | nil => exact ⟨.refl ix s, rfl, fun h => absurd h List.not_mem_nil, fun _ => rfl, _, rfl⟩
  | cons j l ih =>
    obtain ⟨hj, hl'⟩ := List.nodup_cons.mp hl
    obtain ⟨hd, ht, hin, hout, ls, hp⟩ := ih hl' (decideOne ix n j s)
    obtain ⟨hd0, hp0, ht0⟩ := decideOne_decides ix n j s
    refine ⟨hd0.trans hd, ht.trans ht0, fun h => ?_, fun h => ?_, ls, by rw [List.foldl_cons, hp, hp0]⟩
    · rcases List.mem_cons.mp h with rfl | h'
      · rw [List.foldl_cons, hout hj, hp0]
        exact tgetD_tput_same _ _ _ _
      · have hne : j ≠ i := fun e => hj (e ▸ h')
        rw [List.foldl_cons, hin h', (decideOne_other s hne).decided]
    · rw [List.foldl_cons, hout (fun h' => h (List.mem_cons_of_mem _ h')), hp0]
      exact tgetD_tput_ne _ _ _ (fun e => h (e ▸ List.mem_cons_self))

theorem missingInputs_like (ix n i : Nat) (s : State) : LayerLike ix i s (missingInputs ix n s) := by
  unfold missingInputs
  generalize composeInputs (proc s ix) = l
  induction l generalizing s with
  | nil => exact .refl ix i s
  | cons x l ih =>
    rw [List.foldl_cons]
    refine LayerLike.trans ?_ (ih _)
    dsimp only
    split
    · next k hk =>
      obtain ⟨h, hp, -⟩ := inputMissing_proc ix x.1 k n s
      exact ⟨inputMissing_decides _ _ _ _ s, by rw [hp]; rfl, h, (proc s ix).layers, hp⟩
    · exact .refl ix i s

end Sys2Proof.Machine

namespace Sys2Proof.Machine
open Sys2Proof

/-! ## A layer's decision, and ANC items -/

/-- A layer's decision: the layer as `nextLayer` makes it, and nothing but its flow and the collector changed. -/
theorem layerDecision_decides {s : State} {pf ix i n : Nat} {x : Flow} {p : Proc} (hix : ix = ixOf pf) (hx : x = flowD s (pfNum ix)) (hp : p = proc s ix)
    (hr : x.st = .running) (h4 : pFunc p = 4) (hnx : p.next = none) (hi : i < pBody p 0 1) (hn : n = dueFrame s ix) : ∃ t nx,
    opLayerDecision pf s = t ∧ layer (proc t ix) i = { nx with opaque_ := opaqueNow (layerDef p i) (layerSet (setNow p) i) nx } ∧
      nx = nextLayer (layer p i) (misfit s ix (layerDef p i)) (classify p (layerDef p i) (n - 1)) (layerSet (setNow p) i).freeze (max s.tim.now (tOf s x.domain n + lineOffset x.format 0 2)) n ∧
      (∀ m, m ≠ ix → proc t m = proc s m) ∧ (proc t ix).decided = some n ∧ t.tim.now = max s.tim.now (tOf s x.domain n + lineOffset x.format 0 2) ∧
      t = { s with tim := { s.tim with now := t.tim.now }, ika := { s.ika with procs := t.ika.procs }, flt := t.flt } ∧ t.flt.resetQ = s.flt.resetQ := by
  subst hix hx hp
  obtain ⟨u, hu⟩ : ∃ u, u = decided (ixOf pf) n (atLeast (tOf s (flowD s (pfNum (ixOf pf))).domain n + lineOffset (flowD s (pfNum (ixOf pf))).format 0 2) s) := ⟨_, rfl⟩
  have hpu : proc u (ixOf pf) = { proc s (ixOf pf) with decided := some n } := by rw [hu]; exact proc_setProc_same _ _ _
  obtain ⟨v, hv⟩ : ∃ v, v = missingInputs (ixOf pf) (n - 1) u := ⟨_, rfl⟩
  have hlike : LayerLike (ixOf pf) i u v := by rw [hv]; exact missingInputs_like _ _ _ _
  obtain ⟨hdv, hlv, hs, lv, hpv⟩ := hlike
  have hbody : pBody (proc v (ixOf pf)) 0 1 = pBody (proc s (ixOf pf)) 0 1 := by rw [hpv, hpu]; rfl
  obtain ⟨t, ht⟩ : ∃ t, t = (List.range (pBody (proc s (ixOf pf)) 0 1)).foldl (fun s j => decideOne (ixOf pf) n j s) v := ⟨_, rfl⟩
  obtain ⟨hdt, htim, hin, -, ls, hpt⟩ := layersDecided (ix := ixOf pf) (n := n) (i := i) (List.range (pBody (proc s (ixOf pf)) 0 1)) List.nodup_range v
  rw [← ht] at hdt htim hin hpt
  have hop : opLayerDecision pf s = t := by
    unfold opLayerDecision
    dsimp only
    rw [hr, h4, if_neg (by decide), ← hn, ← hu, commitSet_none (by rw [hpu]; exact hnx), ← hv, hbody]
    exact ht.symm
  have hnext : (decideLayer u (ixOf pf) i n).next = nextLayer (layer (proc s (ixOf pf)) i) (misfit s (ixOf pf) (layerDef (proc s (ixOf pf)) i))
      (classify (proc s (ixOf pf)) (layerDef (proc s (ixOf pf)) i) (n - 1)) (layerSet (setNow (proc s (ixOf pf))) i).freeze
      (max s.tim.now (tOf s (flowD s (pfNum (ixOf pf))).domain n + lineOffset (flowD s (pfNum (ixOf pf))).format 0 2)) n := by
    rw [(decideLayer_next u (ixOf pf) i n).1, hpu, hu]
    rfl
  have hlayer : layer (proc t (ixOf pf)) i = decidedLayer u (ixOf pf) i n := (hin (List.mem_range.mpr hi)).trans (LayerLike.decided ⟨hdv, hlv, hs, lv, hpv⟩)
  have hframe : ∃ ps g, t = { s with tim := { s.tim with now := max s.tim.now (tOf s (flowD s (pfNum (ixOf pf))).domain n + lineOffset (flowD s (pfNum (ixOf pf))).format 0 2) }, ika := { s.ika with procs := ps }, flt := g } := by
    obtain ⟨⟨ps, g, h, -⟩, -⟩ := hdt
    obtain ⟨⟨_, _, h', -⟩, -⟩ := hdv
    exact ⟨ps, g, by rw [h, h', hu]; rfl⟩
  refine ⟨t, (decideLayer u (ixOf pf) i n).next, hop, ?_, hnext, fun m hm => (hdt.2 m hm).trans ((hdv.2 m hm).trans ?_), ?_, ?_, ?_, hdt.resetQ.trans (hdv.resetQ.trans ?_)⟩
  · rw [hlayer]
    unfold decidedLayer
    rw [hpu]
    rfl
  · rw [hu]; exact proc_setProc_ne _ _ hm
  · rw [hpt, hpv, hpu]
  · obtain ⟨ps, g, h⟩ := hframe; rw [h]
  · obtain ⟨ps, g, h⟩ := hframe; rw [h]
  · rw [hu]; rfl

/-! ### Streams (R236, R241) -/

/-- A stream taken for a frame that had none. -/
theorem takeStream_draws {o n : Nat} {l : List Byte} {s : State} (hf : (stored s o (n % 8)).fi ≠ n) :
    Drew s (takeStream o n l true s) ∧ streamOf (takeStream o n l true s) o n = l := by
  have hsy := arrived_synced o n 0 (streamOf (storeStream o n l true s) o n) true (storeStream o n l true s)
  refine ⟨(storeStream_drew o n l true s).trans hsy.drew, ?_⟩
  have hst : ∃ x : Stored, stored (storeStream o n l true s) o (n % 8) = x ∧ x.fi = n ∧ x.bytes = l := by
    unfold storeStream
    dsimp only
    rw [if_neg hf, stored_setStored_same]
    exact ⟨_, rfl, rfl, rfl⟩
  obtain ⟨x, hx, hfi, hb⟩ := hst
  unfold streamOf
  dsimp only
  rw [show stored (takeStream o n l true s) o (n % 8) = x from (hsy.stored o (n % 8)).trans hx, if_pos hfi, hb]

theorem delayIntake_proc (ix n k : Nat) (fill : List Byte) (f : ReadFault) (s : State) : ∃ h b, proc (delayIntake ix n k fill f s) ix = { proc s ix with heldSeen := h, bufs := b } := by
  unfold delayIntake
  dsimp only
  split
  · exact ⟨_, _, rfl⟩
  · obtain ⟨h, hp, -⟩ := inputMissing_proc ix 0 k n s
    obtain ⟨b, hb⟩ : ∃ b, proc (setBufs ix 0 ((bufsOf (proc (inputMissing ix 0 k n s) ix) 0).map (fun b => if b.n = n then { b with lines := tput b.lines k fill } else b)) (inputMissing ix 0 k n s)) ix =
        { proc (inputMissing ix 0 k n s) ix with bufs := b } := ⟨_, proc_setProc_same _ _ _⟩
    exact ⟨h, b, by rw [hb, hp]⟩

/-- An ANC DELAY's frame before the one due is taken in without touching the frame that it reads. -/
theorem ancIntake_reads {ix n m : Nat} {b : List Byte} {s : State} (h7 : pFunc (proc s ix) = 7) (hm : m ≠ n - 1) (hc : carried (proc s ix) n = some m)
    (hb : bufferLine (proc s ix) 0 m 0 = some b) : (ancBytes (proc (ancIntake ix (n - 1) s) ix) n).getD (zeros 6) = b := by
  have hbytes : ∀ q : Proc, pFunc q = 7 → carried q n = some m → (ancBytes q n).getD (zeros 6) = (bufferLine q 0 m 0).getD (zeros 6) := by
    intro q hq hcq
    unfold ancBytes
    rw [hq, if_neg (by decide), hcq]
    rfl
  unfold ancIntake
  dsimp only
  split
  · rw [hbytes _ h7 hc, hb]; rfl
  · obtain ⟨h, l, hp⟩ := delayIntake_proc ix (n - 1) 0 (zeros 6) { ecc := true } s
    have h7' : pFunc (proc (delayIntake ix (n - 1) 0 (zeros 6) { ecc := true } s) ix) = 7 := by rw [hp]; exact h7
    have hc' : carried (proc (delayIntake ix (n - 1) 0 (zeros 6) { ecc := true } s) ix) n = some m := by
      rw [hp]; exact hc
    rw [hbytes _ h7' hc', delayIntake_line, if_neg (fun h' => hm h'.1), hb]
    rfl

theorem ancIntake_synced (ix n : Nat) (s : State) : Synced s (ancIntake ix n s) := by
  unfold ancIntake
  dsimp only
  split
  · exact .refl s
  · exact delayIntake_synced _ _ _ _ _ s

end Sys2Proof.Machine

namespace Sys2Proof.Machine
open Sys2Proof

/-! ## Work items settled -/

/-- A flow that does not run does no work and decides nothing. -/
theorem workItem_idle {s : State} {pf slot k : Nat} {fr : ReadFault} {z : Int} (h : (flowD s (pfNum (ixOf pf))).st ≠ .running) :
    opEngineWorkItem pf slot k fr false z s = s ∧ opFrameSyncDecision pf s = s ∧ opLayerDecision pf s = s := by
  have hb : ((flowD s (pfNum (ixOf pf))).st != .running) = true := bne_iff_ne.mpr h
  refine ⟨?_, ?_, ?_⟩
  · unfold opEngineWorkItem; dsimp only; rw [hb]; rfl
  · unfold opFrameSyncDecision; dsimp only; rw [hb]; rfl
  · unfold opLayerDecision; dsimp only; rw [hb]; rfl

/-- The output periods `l` of block `b`. -/
def audioBlock (bad : Option Nat) (ix b : Nat) (v : Bool) (l : List Nat) (s : State) : State := l.foldl (fun s i => audioPeriod bad ix (6 * b + i) v s) s

theorem audioBlock_cons (bad : Option Nat) (ix b : Nat) (v : Bool) (i : Nat) (l : List Nat) (s : State) :
    audioBlock bad ix b v (i :: l) s = audioBlock bad ix b v l (audioPeriod bad ix (6 * b + i) v s) := rfl

/-- The periods of a block write no others. -/
theorem audioBlock_keeps {bad : Option Nat} {ix b : Nat} {v : Bool} (l : List Nat) {s : State} (hn : (proc s ix).next = none) (c : Nat) {q : Nat} (h : ∀ i ∈ l, q ≠ 6 * b + i) :
    tget? (tgetD (audioBlock bad ix b v l s).aud.inp c []) q = tget? (tgetD s.aud.inp c []) q := (audioPeriods_played l hn).2 c q h

/-- A block has six periods. -/
theorem audioWork_periods (ix b : Nat) (z : Int) (s : State) : ∃ l, l = List.range 6 ∧ audioWork ix b {} true z s = audioBlock none ix b true l s ∧
    audioWork ix b {} false z s = audioBlock none ix b false l (audioMissing none ix b (srcMeasure ix z s)) := ⟨_, rfl, rfl, rfl⟩

section
variable {s : State} {pf ix slot k n i : Nat} {x : Flow} {p : Proc} {z : Int} (hq : Settled s) (hix : ix = ixOf pf) (hx : x = flowD s (pfNum ix)) (hp : p = proc s ix)
  (hr : x.st = .running) (hh : hasProc p = true) (hs : slot < 32) (hnx : p.next = none) (ht : tileHeld s x.port (tileOf (room s x.port) slot) = false)
include hq hix hx hp hr hh hs hnx ht

/-- A video item: its line as `videoBytes` makes it. -/
theorem workItem_video (he : x.essence = 0) (hk : k < fmtLines x.format) (hn : n = itemFrame s ix k) (fr : ReadFault) : ∃ t,
    exec (.engineWorkItem pf slot k fr false z) s = .next t ∧ (stored t (pfNum ix) k).line = k ∧ (stored t (pfNum ix) k).fi = n ∧
      (stored t (pfNum ix) k).complete = true ∧ (stored t (pfNum ix) k).at_ = t.tim.now ∧ (stored t (pfNum ix) k).bytes = videoBytes ix n k (metFault p k fr) s ∧
      (∀ i, i ≠ k → stored t (pfNum ix) i = stored s (pfNum ix) i) ∧ t.tim.now = max s.tim.now (itemStart s ix k n) ∧
      t = { s with tim := { s.tim with now := t.tim.now }, swc := { s.swc with store := t.swc.store, prefetchDiscard := t.swc.prefetchDiscard }, tt := { s.tt with cancelled := t.tt.cancelled }, ika := t.ika, flt := t.flt } ∧
      (metFault p k fr = {} → t.flt = (videoItem ix n k {} (atLeast (itemStart s ix k n) s)).flt) := by
  obtain ⟨w, hw⟩ : ∃ w, w = readChecks ix (metFault p k fr).inp k n (metFault p k fr) (atLeast (itemStart s ix k n) s) := ⟨_, rfl⟩
  obtain ⟨g, hg, ho⟩ := readChecks_frame ix (metFault p k fr).inp k n (metFault p k fr) (atLeast (itemStart s ix k n) s)
  have hop : opEngineWorkItem pf slot k fr false z s = sampleItem x.port slot ix k (metFault p k fr) s (videoItem ix n k (metFault p k fr) w) := by
    rw [workItem_good hix hx hp hr hh hs ht, if_pos he, hw]
    rw [(videoWork_draws (by rw [← hp]; exact hnx) (by rw [← hx]; exact hk) hn (metFault p k fr)).1]
  have hl := (videoItem_draws ix n k (metFault p k fr) w).before (sampleItem_synced x.port slot ix k (metFault p k fr) s (videoItem ix n k (metFault p k fr) w))
  rw [← hop] at hl
  obtain ⟨h1, h2, h3, h4, h5, h6, h7, h8, h9⟩ := hl.outcome (hw.trans hg)
  have hres : (opEngineWorkItem pf slot k fr false z s).flt.resetQ = [] := ((h9 0 (by decide)).1.trans (ho 0 (by decide)).1).trans hq
  have hflt : metFault p k fr = {} → (opEngineWorkItem pf slot k fr false z s).flt = (videoItem ix n k {} (atLeast (itemStart s ix k n) s)).flt := by
    intro hm
    rw [hop, sampleItem_flt, hw, hm, readChecks_none]
  exact ⟨_, congrArg Host.Outcome.next (settle_of_nil _ hres), h1, h2, h3, h4, by rw [h5, hw, hg]; rfl, h6, h7, h8, hflt⟩

/-- A video item with a parity error. -/
theorem workItem_videoParity (hb : bit (rd s .fltSrcCfg 0x129) 27 = false) (he : x.essence = 0) (hk : k < fmtLines x.format) (hn : n = itemFrame s ix k) :
    Completes (.engineWorkItem pf slot k {} true z) s (fun t => RaisedOnce 0x129 s t ∧
          stored t (pfNum ix) k = { line := k, fi := n, bytes := blackLine x.format x.colour, cells := cellsPerLine x.format, complete := true, at_ := t.tim.now } ∧
          (i ≠ k → stored t (pfNum ix) i = stored s (pfNum ix) i) ∧ t.tim.now = max s.tim.now (itemStart s ix k n) ∧ t = { s with tim := { s.tim with now := t.tim.now }, swc := { s.swc with store := t.swc.store, prefetchDiscard := t.swc.prefetchDiscard }, tt := { s.tt with cancelled := t.tt.cancelled }, ika := t.ika, flt := t.flt }) := by
  obtain ⟨v, hv, hop⟩ := workItem_parity (k := k) hix hx hp hr hh hs ht z
  obtain ⟨e, hee⟩ : ∃ e, e = parityEv x (tileOf (room s x.port) slot) ix := ⟨_, rfl⟩
  rw [← hee] at hv
  have hvq : v.flt.resetQ = s.flt.resetQ := by rw [hv]; exact raise_resetQ' e s (Or.inr (by rw [hee]; exact hb))
  have hvr : RaisedOnce 0x129 s v := by rw [hv, hee]; exact (raise_raised (parityEv x (tileOf (room s x.port) slot) ix) s rfl).1
  have hvf : v = { s with flt := v.flt } := by rw [hv]; rfl
  have hw : videoWork ix k {} true v = writeFill (pfNum ix) n k (atLeast (itemStart s ix k n) v) := by
    rw [hvf]
    exact (videoWork_draws (s := { s with flt := v.flt }) (n := n) (by rw [hp] at hnx; exact hnx) (by rw [hx] at hk; exact hk) hn {}).2
  rw [if_pos he, hw] at hop
  have hl := (writeFill_drewLine (pfNum ix) n k (atLeast (itemStart s ix k n) v)).before (sampleItem_synced x.port slot ix k {} v _)
  have hst : stored (opEngineWorkItem pf slot k {} true z s) (pfNum ix) k = fillStored (pfNum ix) n k (atLeast (itemStart s ix k n) v) := by
    rw [hop]
    exact ((sampleItem_synced x.port slot ix k {} v _).stored (pfNum ix) k).trans (writeFill_stored _ _ _ _)
  rw [← hop] at hl
  obtain ⟨-, -, -, -, -, h6, h7, h8, h9⟩ := hl.outcome (s := s) (b0 := itemStart s ix k n) (g := v.flt) (by rw [hvf]; rfl)
  refine completes_of rfl rfl (((h9 0 (by decide)).1.trans hvq).trans hq) ⟨?_, ?_, fun hi => h6 i hi, h7, h8⟩
  · unfold RaisedOnce at hvr ⊢
    exact (congrArg SrcStat.count (h9 0x129 (by decide)).2.1).trans hvr
  · rw [hst, h7, hx]
    rw [hvf]
    rfl

/-- An ANC item with a parity error. -/
theorem workItem_ancParity (hb : bit (rd s .fltSrcCfg 0x129) 27 = false) (he : x.essence = 2) (hn : n = fiNow s x.domain) (hf : (stored s (pfNum ix) (n % 8)).fi ≠ n) :
    Completes (.engineWorkItem pf slot k {} true z) s (fun t => RaisedOnce 0x129 s t ∧ streamOf t (pfNum ix) n = zeros 6 ∧
          t = { s with tim := { s.tim with now := t.tim.now }, swc := { s.swc with store := t.swc.store, prefetchDiscard := t.swc.prefetchDiscard }, tt := { s.tt with cancelled := t.tt.cancelled }, ika := t.ika, flt := t.flt }) := by
  obtain ⟨v, hv, hop⟩ := workItem_parity (k := k) hix hx hp hr hh hs ht z
  obtain ⟨e, hee⟩ : ∃ e, e = parityEv x (tileOf (room s x.port) slot) ix := ⟨_, rfl⟩
  rw [← hee] at hv
  have hvq : v.flt.resetQ = s.flt.resetQ := by rw [hv]; exact raise_resetQ' e s (Or.inr (by rw [hee]; exact hb))
  have hvr : RaisedOnce 0x129 s v := by rw [hv, hee]; exact (raise_raised (parityEv x (tileOf (room s x.port) slot) ix) s rfl).1
  have hvf : v = { s with flt := v.flt } := by rw [hv]; rfl
  have hw : ancWork ix {} true v = takeStream (pfNum ix) n (zeros 6) true v := by
    unfold ancWork
    dsimp only
    rw [show fiNow v (flowD v (pfNum ix)).domain = n by rw [hn, hx, hvf]; rfl, commitSet_none (by rw [hvf]; rw [hp] at hnx; exact hnx)]
    rfl
  rw [if_neg (by rw [he]; decide), if_neg (by rw [he]; decide), hw] at hop
  obtain ⟨hd, hst⟩ := takeStream_draws (o := pfNum ix) (l := zeros 6) (show (stored v (pfNum ix) (n % 8)).fi ≠ n by rw [hvf]; exact hf)
  have hsy := sampleItem_synced x.port slot ix k {} v (takeStream (pfNum ix) n (zeros 6) true v)
  have hdt := hd.trans hsy.drew
  have hstt : streamOf (opEngineWorkItem pf slot k {} true z s) (pfNum ix) n = zeros 6 := by
    rw [hop]
    unfold streamOf at hst ⊢
    rw [hsy.stored]
    exact hst
  rw [← hop] at hdt
  refine completes_of rfl rfl (((hdt.others (src := 0) (by decide)).1.trans hvq).trans hq) ⟨?_, hstt, ?_⟩
  · unfold RaisedOnce at hvr ⊢
    exact (congrArg SrcStat.count (hdt.others (src := 0x129) (by decide)).2.1).trans hvr
  · obtain ⟨st, pd, cn, ik, f, h, -⟩ := hdt
    rw [h, hvf]

/-- An ANC item: the stream of the frame that its function reads. -/
theorem workItem_anc {b : List Byte} (he : x.essence = 2) (hn : n = fiNow s x.domain) (hf : (stored s (pfNum ix) (n % 8)).fi ≠ n)
    (hb : (ancBytes (proc (ancIntake ix (n - 1) s) ix) n).getD (zeros 6) = b) :
    Completes (.engineWorkItem pf slot k {} false z) s (fun t => streamOf t (pfNum ix) n = b ∧
          t = { s with tim := { s.tim with now := t.tim.now }, swc := { s.swc with store := t.swc.store, prefetchDiscard := t.swc.prefetchDiscard }, tt := { s.tt with cancelled := t.tt.cancelled }, ika := t.ika, flt := t.flt }) := by
  have hop := workItem_good (k := k) hix hx hp hr hh hs ht {} z
  rw [metFault_none, if_neg (by rw [he]; decide), if_neg (by rw [he]; decide), ancWork_reads (f := {}) (n := n) rfl (by rw [hn, hx]) (by rw [← hp]; exact hnx), readChecks_none] at hop
  have hsi := ancIntake_synced ix (n - 1) s
  obtain ⟨hd, hst⟩ := takeStream_draws (o := pfNum ix) (l := (ancBytes (proc (ancIntake ix (n - 1) s) ix) n).getD (zeros 6)) (s := ancIntake ix (n - 1) s)
    (show (stored (ancIntake ix (n - 1) s) (pfNum ix) (n % 8)).fi ≠ n by rw [hsi.stored]; exact hf)
  have hsy := sampleItem_synced x.port slot ix k {} s (takeStream (pfNum ix) n ((ancBytes (proc (ancIntake ix (n - 1) s) ix) n).getD (zeros 6)) true (ancIntake ix (n - 1) s))
  have hdt := (hsi.drew.trans hd).trans hsy.drew
  have hstt : streamOf (opEngineWorkItem pf slot k {} false z s) (pfNum ix) n = b := by
    rw [hop, ← hb]
    unfold streamOf at hst ⊢
    rw [hsy.stored]
    exact hst
  rw [← hop] at hdt
  refine completes_of rfl rfl ((hdt.others (src := 0) (by decide)).1.trans hq) ⟨hstt, ?_⟩
  obtain ⟨st, pd, cn, ik, f, h, -⟩ := hdt
  rw [h]

/-- An audio item with a parity error writes zero words. -/
theorem workItem_audioParity {ch : Nat} (hb : bit (rd s .fltSrcCfg 0x129) 27 = false) (he : x.essence = 1) (hch : ch < x.count)
    (hrt : rateIn s (x.base + ch) ≠ matrixRate s ∨ s.aud.period + 3 ≤ 6 * k + matrixDelay s) :
    Completes (.engineWorkItem pf slot k {} true z) s (fun t => RaisedOnce 0x129 s t ∧ (i < 6 → tget? (tgetD t.aud.inp (x.base + ch) []) (6 * k + i) = some 0) ∧
          t = { s with aud := { s.aud with inp := t.aud.inp }, ika := t.ika, flt := t.flt }) := by
  obtain ⟨v, hv, hop⟩ := workItem_parity (k := k) hix hx hp hr hh hs ht z
  obtain ⟨e, hee⟩ : ∃ e, e = parityEv x (tileOf (room s x.port) slot) ix := ⟨_, rfl⟩
  rw [← hee] at hv
  have hvq : v.flt.resetQ = s.flt.resetQ := by rw [hv]; exact raise_resetQ' e s (Or.inr (by rw [hee]; exact hb))
  have hvr : RaisedOnce 0x129 s v := by rw [hv, hee]; exact (raise_raised (parityEv x (tileOf (room s x.port) slot) ix) s rfl).1
  have hvf : v = { s with flt := v.flt } := by rw [hv]; rfl
  have hvn : (proc v ix).next = none := by rw [hvf]; rw [hp] at hnx; exact hnx
  obtain ⟨l, hl6, hw, -⟩ := audioWork_periods ix k z v
  rw [if_neg (by rw [he]; decide), if_pos he, hw] at hop
  have hpl : Played ix v (audioBlock none ix k true l v) := (audioPeriods_played (bad := none) (b := k) (v := true) l hvn).1
  have hsy := sampleItem_synced x.port slot ix k {} v (audioBlock none ix k true l v)
  have hz : i < 6 → tget? (tgetD (opEngineWorkItem pf slot k {} true z s).aud.inp (x.base + ch) []) (6 * k + i) = some 0 := by
    intro hi
    have hvx : flowD v (pfNum ix) = x := by rw [hvf, hx]; rfl
    have := voidBlock_zero (bad := none) (b := k) (ch := ch) l (by rw [hl6]; exact List.nodup_range) hvn (by rw [hvx]; exact hch) (by rw [hvx, hvf]; exact hrt) (i := i) (by rw [hl6]; exact List.mem_range.mpr hi)
    rw [hvx] at this
    obtain ⟨_, _, h, -⟩ := hsy
    rw [hop, h]
    exact this
  obtain ⟨⟨a, ik, f, hpe, hpo⟩, -⟩ := hpl
  obtain ⟨ik', f', hse, hso⟩ := hsy
  rw [hpe] at hse hso
  have ht' : opEngineWorkItem pf slot k {} true z s = { s with aud := { s.aud with inp := a }, ika := ik', flt := f' } := by
    rw [hop, hpe, hse, hvf]
  have hothers : ∀ src, src ∉ [0x120, 0x121, 0x12A] → OtherRaises src v.flt f' := by
    intro src h
    have h' := h
    simp only [List.mem_cons, List.not_mem_nil, or_false, not_or] at h'
    exact (hpo src h).trans (hso src h'.1 h'.2.1)
  refine completes_of rfl rfl ?_ ⟨?_, hz, by rw [ht']⟩
  · rw [ht']; exact ((hothers 0 (by decide)).1.trans hvq).trans hq
  · unfold RaisedOnce at hvr ⊢
    rw [ht']
    exact (congrArg SrcStat.count (hothers 0x129 (by decide)).2.1).trans hvr

omit hq in
/-- An audio item without a parity error: what its missing inputs and periods leave. -/
theorem workItem_audio (he : x.essence = 1) : ∃ u l, l = List.range 6 ∧ u = audioMissing none ix k (srcMeasure ix z s) ∧ (proc u ix).next = none ∧
    Synced s u ∧ ∃ ik, opEngineWorkItem pf slot k {} false z s = { audioBlock none ix k false l u with ika := ik } ∧
      ∀ m, tgetD ik.procs m {} = proc (audioBlock none ix k false l u) m := by
  obtain ⟨u, hu⟩ : ∃ u, u = audioMissing none ix k (srcMeasure ix z s) := ⟨_, rfl⟩
  obtain ⟨l, hl6, -, hw⟩ := audioWork_periods ix k z s
  rw [← hu] at hw
  have hsm : Synced s (srcMeasure ix z s) ∧ (proc (srcMeasure ix z s) ix).next = none := by
    unfold srcMeasure
    dsimp only
    split
    · exact ⟨.refl s, by rw [← hp]; exact hnx⟩
    · exact ⟨.setProc _ _ (.refl s), by rw [proc_setProc_same, ← hp]; exact hnx⟩
  obtain ⟨h, hpr⟩ := audioMissing_proc none ix k (srcMeasure ix z s)
  refine ⟨u, l, hl6, hu, by rw [hu, hpr]; exact hsm.2, by rw [hu]; exact hsm.1.trans (audioMissing_synced _ _ _ _), ?_⟩
  have hop := workItem_good (k := k) hix hx hp hr hh hs ht {} z
  rw [metFault_none, if_neg (by rw [he]; decide), if_pos he, hw] at hop
  rw [hop]
  generalize audioBlock none ix k false l u = w
  unfold sampleItem
  dsimp only
  split
  · exact ⟨_, rfl, fun _ => rfl⟩
  · exact ⟨w.ika, rfl, fun _ => rfl⟩

/-- The frame of an audio item. -/
theorem workItem_audioFrame (he : x.essence = 1) : ∃ a ik f, opEngineWorkItem pf slot k {} false z s = { s with aud := { s.aud with inp := a }, ika := ik, flt := f } ∧
    f.resetQ = [] := by
  obtain ⟨u, l, -, -, hun, hsu, ik, hop, -⟩ := workItem_audio (k := k) (z := z) hix hx hp hr hh hs hnx ht he
  have hpl : Played ix u (audioBlock none ix k false l u) := (audioPeriods_played (bad := none) (b := k) (v := false) l hun).1
  obtain ⟨⟨a, ik', f, hpe, hpo⟩, -⟩ := hpl
  obtain ⟨ik2, f2, hse, hso⟩ := hsu
  refine ⟨a, ik, f, ?_, ((hpo 0 (by decide)).1.trans ?_).trans hq⟩
  · rw [hop, hpe, hse]
  · rw [hse]; exact (hso 0 (by decide) (by decide)).1

/-- The first period of an AUDIO_MIX block is the mix. -/
theorem workItem_mix {ch : Nat} (he : x.essence = 1) (hch : ch < x.count) (hrt : rateIn s (x.base + ch) ≠ matrixRate s ∨ s.aud.period + 3 ≤ 6 * k + matrixDelay s)
    (h5 : pFunc p = 5) (hin : ∀ j ∈ usedInputs p x, (inWord? s ix j 0 (6 * k - 6)).isSome = true) :
    Completes (.engineWorkItem pf slot k {} false z) s (fun t => tget? (tgetD t.aud.inp (x.base + ch) []) (6 * k) = some (mixOut none s ix ch (6 * k)) ∧
          t = { s with aud := { s.aud with inp := t.aud.inp }, ika := t.ika, flt := t.flt }) := by
  obtain ⟨u, l, hl6, hu, hun, -, ik, hop, -⟩ := workItem_audio (k := k) (z := z) hix hx hp hr hh hs hnx ht he
  have h5s : pFunc (proc s ix) = 5 := by rw [← hp]; exact h5
  have hus : u = s := by
    have hm : srcMeasure ix z s = s := by
      unfold srcMeasure
      dsimp only
      rw [h5s]
      rfl
    rw [hu, hm]
    exact audioMissing_none h5s (fun j hj => by rw [← hp, ← hx] at hj; exact hin j hj)
  rw [hus] at hop hun
  obtain ⟨rest, hl, hrest⟩ : ∃ rest, l = 0 :: rest ∧ ∀ i ∈ rest, 6 * k ≠ 6 * k + i :=
    ⟨[1, 2, 3, 4, 5], hl6, fun i hi => by simp only [List.mem_cons, List.not_mem_nil, or_false] at hi; omega⟩
  rw [hl, audioBlock_cons, Nat.add_zero] at hop
  have hword : tget? (tgetD (opEngineWorkItem pf slot k {} false z s).aud.inp (x.base + ch) []) (6 * k) = some (mixOut none s ix ch (6 * k)) := by
    have h0 := audioPeriod_word (bad := none) (q := 6 * k) (v := false) (ch := ch) hun (Or.inr h5s) (by rw [← hx]; exact hch) (by rw [← hx]; exact hrt)
    have hp0 := (audioPeriod_played (bad := none) (q := 6 * k) (v := false) hun).1
    rw [hop]
    refine (audioBlock_keeps rest (hp0.2.trans hun) (x.base + ch) hrest).trans ?_
    rw [← hx] at h0
    refine h0.trans ?_
    unfold audioOut
    rw [h5s]
    rfl
  obtain ⟨a, ik', f, hfr, hfq⟩ := workItem_audioFrame (k := k) (z := z) hq hix hx hp hr hh hs hnx ht he
  refine completes_of rfl rfl (by rw [hfr]; exact hfq) ⟨hword, by rw [hfr]⟩

/-- A SRC whose input runs out of range ramps its output down. -/
theorem workItem_srcRange (he : x.essence = 1) (h6 : pFunc p = 6) (hd : p.srcDown = none) (hz : 1000 < z) (hra : 0 < audioRate (pInFormat p))
    (hl : 2 * srcStart p x ≤ p.srcLevel) :
    Completes (.engineWorkItem pf slot k {} false z) s (fun t => (proc t ix).srcDown = some (6 * k) ∧ (proc t ix).srcUp = none ∧ (proc t ix).srcPpm = z ∧
          RaisedOnce 0x12A s t ∧ t = { s with aud := { s.aud with inp := t.aud.inp }, ika := t.ika, flt := t.flt }) := by
  obtain ⟨u, l, hl6, hu, hun, hsu, ik, hop, hprocs⟩ := workItem_audio (k := k) (z := z) hix hx hp hr hh hs hnx ht he
  obtain ⟨hseen, hpr⟩ := audioMissing_proc none ix k (srcMeasure ix z s)
  have hpm : proc (srcMeasure ix z s) ix = { p with srcPpm := z, srcOk := if -1000 ≤ z ∧ z ≤ 1000 then some (p.srcOk.getD s.tim.now) else none } := by
    unfold srcMeasure
    dsimp only
    rw [← hp, h6]
    exact proc_setProc_same _ _ _
  rw [← hu, hpm] at hpr
  have hrange : 2 * srcStart (proc u ix) (flowD u (pfNum ix)) < srcNext (proc u ix) := by
    rw [hsu.flowD, ← hx, hpr]
    have h1 : srcNext { p with srcPpm := z, srcOk := if -1000 ≤ z ∧ z ≤ 1000 then some (p.srcOk.getD s.tim.now) else none, heldSeen := hseen } =
        p.srcLevel + (z - max (-1000) (min 1000 z)) * (audioRate (pInFormat p) : Int) := rfl
    have h2 : 0 < (z - max (-1000) (min 1000 z)) * (audioRate (pInFormat p) : Int) := Int.mul_pos (by omega) (by exact_mod_cast hra)
    rw [h1]
    have h3 : srcStart { p with srcPpm := z, srcOk := if -1000 ≤ z ∧ z ≤ 1000 then some (p.srcOk.getD s.tim.now) else none, heldSeen := hseen } x = srcStart p x := rfl
    rw [h3]
    omega
  obtain ⟨q, f, hst, hrp, hqn, hqd, hone⟩ := srcStep_range (q := 6 * k) (show (proc u ix).srcDown = none by rw [hpr]; exact hd) hrange
  have h6u : pFunc (proc u ix) = 6 := by rw [hpr]; exact h6
  obtain ⟨a, ha⟩ := audioPeriod_src (bad := none) (q := 6 * k) hun h6u
  rw [hst] at ha
  have hq0 : proc (audioPeriod none ix (6 * k) false u) ix = q := by rw [ha]; exact proc_setProc_same _ _ _
  have hzz : (proc u ix).srcPpm = z := by rw [hpr]
  rw [hzz] at hrp
  obtain ⟨t5, ht5, hr5, hf5⟩ := audioPeriods_ramping (bad := none) (b := k) [1, 2, 3, 4, 5] (s := audioPeriod none ix (6 * k) false u)
    (by rw [hq0, hqn, hun]) (by rw [hq0, pFunc_desc hqd, h6u]) (by rw [hq0]; exact hrp)
  have hfold : audioBlock none ix k false l u = t5 := by rw [show l = 0 :: [1, 2, 3, 4, 5] from hl6, audioBlock_cons]; exact ht5
  rw [hfold] at hop hprocs
  have hpt : proc (opEngineWorkItem pf slot k {} false z s) ix = proc t5 ix := by rw [hop]; exact hprocs ix
  obtain ⟨a', ik', f', hfr, hfq⟩ := workItem_audioFrame (k := k) (z := z) hq hix hx hp hr hh hs hnx ht he
  obtain ⟨hsd, hsup, hsz⟩ := hr5
  refine completes_of rfl rfl (by rw [hfr]; exact hfq) ⟨by rw [hpt]; exact hsd, by rw [hpt]; exact hsup, by rw [hpt]; exact hsz, ?_, by rw [hfr]⟩
  have hsu2 : (tgetD u.flt.stat 0x12A {}).count = (tgetD s.flt.stat 0x12A {}).count := by
    obtain ⟨_, _, hse, hso⟩ := hsu
    rw [hse]
    exact congrArg SrcStat.count (hso 0x12A (by decide) (by decide)).2.1
  unfold RaisedOnce at hone ⊢
  rw [hop, ← hsu2]
  show (tgetD t5.flt.stat 0x12A {}).count = _
  rw [hf5, ha]
  exact hone

end

end Sys2Proof.Machine

namespace Sys2Proof.Machine
open Sys2Proof

/-! ## Every item, its read not spoiled -/

theorem takeStream_drew (o n : Nat) (l : List Byte) (ends : Bool) (s : State) : Drew s (takeStream o n l ends s) :=
  (storeStream_drew o n l ends s).trans (arrived_synced _ _ _ _ _ _).drew

theorem srcMeasure_flt (ix : Nat) (z : Int) (s : State) : (srcMeasure ix z s).flt = s.flt ∧ (proc (srcMeasure ix z s) ix).next = (proc s ix).next := by
  unfold srcMeasure
  dsimp only
  split
  · exact ⟨rfl, rfl⟩
  · exact ⟨rfl, by rw [proc_setProc_same]⟩

/-- The three kinds of work decide no block reset. -/
theorem work_resetQ {s : State} {ix k : Nat} {f : ReadFault} {z : Int} (hn : (proc s ix).next = none) (hf : spoils f = false) :
    (videoWork ix k f false s).flt.resetQ = s.flt.resetQ ∧ (audioWork ix k f false z s).flt.resetQ = s.flt.resetQ ∧ (ancWork ix f false s).flt.resetQ = s.flt.resetQ := by
  refine ⟨?_, ?_, ?_⟩
  · by_cases hk : k < fmtLines (flowD s (pfNum ix)).format
    · rw [(videoWork_draws hn hk rfl f).1]
      obtain ⟨g, hg, ho⟩ := readChecks_frame ix f.inp k (itemFrame s ix k) f (atLeast (itemStart s ix k (itemFrame s ix k)) s)
      have hd := (videoItem_draws ix (itemFrame s ix k) k f (readChecks ix f.inp k (itemFrame s ix k) f (atLeast (itemStart s ix k (itemFrame s ix k)) s))).1
      refine (hd.others (src := 0) (by decide)).1.trans ?_
      rw [hg]
      exact (ho 0 (by decide)).1
    · unfold videoWork
      dsimp only
      rw [decide_eq_false hk]
      rfl
  · obtain ⟨hm, hmn⟩ := srcMeasure_flt ix z s
    obtain ⟨g, hg, ho⟩ := readChecks_frame ix f.inp (k % 4096) (secOf s) f (srcMeasure ix z s)
    obtain ⟨u, hu⟩ : ∃ u, u = audioMissing none ix k (readChecks ix f.inp (k % 4096) (secOf s) f (srcMeasure ix z s)) := ⟨_, rfl⟩
    have hun : (proc u ix).next = none := by
      obtain ⟨h, hp⟩ := audioMissing_proc none ix k (readChecks ix f.inp (k % 4096) (secOf s) f (srcMeasure ix z s))
      rw [hu, hp, hg]
      exact hmn.trans hn
    have hop : audioWork ix k f false z s = audioBlock none ix k false (List.range 6) u := by
      rw [hu]
      unfold audioWork
      rw [hf]
      rfl
    have hpl : Played ix u (audioBlock none ix k false (List.range 6) u) := (audioPeriods_played (bad := none) (b := k) (v := false) (List.range 6) hun).1
    have hsu : Synced (readChecks ix f.inp (k % 4096) (secOf s) f (srcMeasure ix z s)) u := by rw [hu]; exact audioMissing_synced _ _ _ _
    rw [hop]
    refine (hpl.others (src := 0) (by decide)).1.trans ((hsu.drew.others (src := 0) (by decide)).1.trans ?_)
    rw [hg, ← hm]
    exact (ho 0 (by decide)).1
  · rw [ancWork_reads hf rfl hn]
    obtain ⟨g, hg, ho⟩ := readChecks_frame ix 0 0 (fiNow s (flowD s (pfNum ix)).domain) f s
    refine ((takeStream_drew _ _ _ _ _).others (src := 0) (by decide)).1.trans (((ancIntake_synced _ _ _).drew.others (src := 0) (by decide)).1.trans ?_)
    rw [hg]
    exact (ho 0 (by decide)).1

section
variable {s : State} {pf ix slot k n i : Nat} {x : Flow} {p : Proc} {z : Int} (hq : Settled s) (hix : ix = ixOf pf) (hx : x = flowD s (pfNum ix)) (hp : p = proc s ix)
  (hr : x.st = .running) (hh : hasProc p = true) (hs : slot < 32) (hnx : p.next = none) (ht : tileHeld s x.port (tileOf (room s x.port) slot) = false)
include hq hix hx hp hr hh hs hnx ht

theorem workItem_resetQ {f : ReadFault} (hf : spoils f = false) : (opEngineWorkItem pf slot k f false z s).flt.resetQ = [] := by
  rw [workItem_good hix hx hp hr hh hs ht, sampleItem_flt]
  obtain ⟨h0, h1, h2⟩ := work_resetQ (k := k) (f := metFault p k f) (z := z) (by rw [← hp]; exact hnx) (metFault_spoils hf)
  split
  · exact h0.trans hq
  · split
    · exact h1.trans hq
    · exact h2.trans hq

/-- An item whose read was not spoiled is the item whose read met nothing, but for the collector. -/
theorem workItem_unspoiled {f : ReadFault} (hf : spoils f = false) :
    Completes (.engineWorkItem pf slot k f false z) s (fun t => Completes (.engineWorkItem pf slot k {} false z) s (fun v => t = { v with flt := t.flt })) := by
  have hmf := metFault_spoils (p := p) (k := k) hf
  have hn : (proc s ix).next = none := by rw [← hp]; exact hnx
  obtain ⟨g, hg⟩ : ∃ g, opEngineWorkItem pf slot k f false z s = { opEngineWorkItem pf slot k {} false z s with flt := g } := by
    rw [workItem_good hix hx hp hr hh hs ht, workItem_good hix hx hp hr hh hs ht, metFault_none, sampleItem_unspoiled hmf]
    split
    · obtain ⟨g, hg⟩ := videoWork_unspoiled hmf (k := k) s hn
      rw [hg]
      exact sampleItem_fltBlind x.port slot ix k {} s _ g
    · split
      · obtain ⟨g, hg⟩ := audioWork_unspoiled hmf ix k z s
        rw [hg]
        exact sampleItem_fltBlind x.port slot ix k {} s _ g
      · obtain ⟨g, hg⟩ := ancWork_unspoiled hmf s hn
        rw [hg]
        exact sampleItem_fltBlind x.port slot ix k {} s _ g
  refine completes_of rfl rfl (workItem_resetQ hq hix hx hp hr hh hs hnx ht hf) (completes_of rfl rfl (workItem_resetQ hq hix hx hp hr hh hs hnx ht rfl) ?_)
  rw [hg]

/-- A video item whose read was spoiled. -/
theorem workItem_spoiled {fr : ReadFault} (he : x.essence = 0) (hk : k < fmtLines x.format) (hn : n = itemFrame s ix k) (hf : spoils fr = true) :
    Completes (.engineWorkItem pf slot k fr false z) s (fun t => (stored t (pfNum ix) k).complete = true ∧ (i ≠ k → stored t (pfNum ix) i = stored s (pfNum ix) i) ∧
          (pFunc p = 1 → (stored t (pfNum ix) k).bytes = blackLine x.format x.colour) ∧
          (pFunc p = 2 → (stored t (pfNum ix) k).bytes = scaleLine p x k (fun j => (itemLine s ix n j fr).getD (blackLine (pInFormat p) (pInColour p)))) ∧
          (pFunc p = 3 → fr.inp = 0 → fr.line = k → (stored t (pfNum ix) k).bytes = colourLine p x (blackLine (pInFormat p) (pInColour p)))) := by
  obtain ⟨t, hex, -, -, hc, -, hby, hst, -, -, -⟩ := workItem_video (z := z) hq hix hx hp hr hh hs hnx ht he hk hn fr
  have hitem : pFunc p ≠ 1 → pFunc p ≠ 7 → pFunc p ≠ 4 → (stored t (pfNum ix) k).bytes = itemBytes s ix n k fr := by
    intro h1 h7 h4
    rw [hby, metFault_other h4]
    unfold videoBytes
    dsimp only
    rw [← hp, if_neg h1, if_neg h7]
  refine ⟨t, hex, hc, hst i, fun h1 => ?_, fun h2 => ?_, fun h3 hi hl => ?_⟩
  · rw [hby, metFault_other (by rw [h1]; decide)]
    unfold videoBytes
    dsimp only
    rw [← hp, if_pos h1, hf, hx]
    rfl
  · rw [hitem (by rw [h2]; decide) (by rw [h2]; decide) (by rw [h2]; decide)]
    unfold itemBytes
    dsimp only
    rw [← hp, h2, hx]
    rfl
  · rw [hitem (by rw [h3]; decide) (by rw [h3]; decide) (by rw [h3]; decide)]
    have hnone : itemLine s ix n k fr = none := by
      unfold itemLine
      rw [hf, hi, hl]
      simp
    unfold itemBytes
    dsimp only
    rw [hnone, ← hp, h3, hx]
    rfl

/-- A video item whose read met nothing, function by function. -/
theorem workItem_line {m : Nat} {b : List Byte} (he : x.essence = 0) (hk : k < fmtLines x.format) (hn : n = itemFrame s ix k) :
    Completes (.engineWorkItem pf slot k {} false z) s (fun t => (stored t (pfNum ix) k).line = k ∧ (stored t (pfNum ix) k).fi = n ∧
          (stored t (pfNum ix) k).complete = true ∧ (stored t (pfNum ix) k).at_ = t.tim.now ∧
          (pFunc p = 4 → (stored t (pfNum ix) k).bytes = composeLine p x k ∧ (feeds s (pfNum ix) = [] → s.tt.cancelled = [] → t.flt = s.flt)) ∧
          (pFunc p = 1 → (readBuf p).bind (fun f => tget? f.lines k) = some b → (stored t (pfNum ix) k).bytes = b ∧ (feeds s (pfNum ix) = [] → s.tt.cancelled = [] → t.flt = s.flt)) ∧
          (pFunc p = 7 → carried p n = some m → bufferLine p 0 m k = some b → (stored t (pfNum ix) k).bytes = b ∧ ((bufferLine p 0 n k).isSome = true → feeds s (pfNum ix) = [] → s.tt.cancelled = [] → t.flt = s.flt)) ∧
          (pFunc p = 1 → p.reading = none → (stored t (pfNum ix) k).bytes = blackLine x.format x.colour ∧ (feeds s (pfNum ix) = [] → s.tt.cancelled = [] → t.flt = s.flt)) ∧
          (pFunc p = 3 → directLine s ix 0 n k = some b → (stored t (pfNum ix) k).bytes = colourLine p x b ∧ (feeds s (pfNum ix) = [] → s.tt.cancelled = [] → t.flt = s.flt)) ∧
          (pFunc p = 2 → (stored t (pfNum ix) k).bytes = scaleLine p x k (fun j => (itemLine s ix n j {}).getD (blackLine (pInFormat p) (pInColour p)))) ∧
          (i ≠ k → stored t (pfNum ix) i = stored s (pfNum ix) i) ∧ t.tim.now = max s.tim.now (itemStart s ix k n) ∧ t = { s with tim := { s.tim with now := t.tim.now }, swc := { s.swc with store := t.swc.store, prefetchDiscard := t.swc.prefetchDiscard }, tt := { s.tt with cancelled := t.tt.cancelled }, ika := t.ika, flt := t.flt }) := by
  obtain ⟨t, hex, h1, h2, h3, h4, hby, hst, hnow, hfr, hfl⟩ := workItem_video (z := z) hq hix hx hp hr hh hs hnx ht he hk hn {}
  rw [metFault_none] at hby
  have hfl' := hfl (metFault_none p k)
  obtain ⟨u, hu⟩ : ∃ u, u = atLeast (itemStart s ix k n) s := ⟨_, rfl⟩
  have hquiet : (pFunc p = 7 → (bufferLine p 0 n k).isSome = true) →
      (pFunc p ≠ 1 → pFunc p ≠ 7 → pFunc p ≠ 4 → ∀ j ∈ (if pFunc p = 2 then scaleLines p x k else [k]), (itemLine s ix n j {}).isSome = true) →
      feeds s (pfNum ix) = [] → s.tt.cancelled = [] → t.flt = s.flt := by
    intro h7 ho hfe hca
    rw [hfl']
    rw [hp] at h7
    rw [hp, hx] at ho
    exact videoItem_quiet (s := atLeast (itemStart s ix k n) s) hfe hca h7 ho
  have hv1 : pFunc p = 1 → (stored t (pfNum ix) k).bytes = ((readBuf p).bind (fun b => tget? b.lines k)).getD (blackLine x.format x.colour) := by
    intro h
    rw [hby]
    unfold videoBytes
    dsimp only
    rw [← hp, if_pos h, ← hx]
    rfl
  have hitem : pFunc p ≠ 1 → pFunc p ≠ 7 → (stored t (pfNum ix) k).bytes = itemBytes s ix n k {} := by
    intro h1 h7
    rw [hby]
    unfold videoBytes
    dsimp only
    rw [← hp, if_neg h1, if_neg h7]
  refine ⟨t, hex, h1, h2, h3, h4, fun h => ⟨?_, hquiet (fun h' => by rw [h] at h'; cases h') (fun _ _ h' => absurd h h')⟩,
    fun h hb => ⟨by rw [hv1 h, hb]; rfl, hquiet (fun h' => by rw [h] at h'; cases h') (fun h' => absurd h h')⟩,
    fun h hc hb => ⟨?_, fun hh' => hquiet (fun _ => hh') (fun _ h' => absurd h h')⟩,
    fun h hb => ⟨by rw [hv1 h]; unfold readBuf; rw [hb]; rfl, hquiet (fun h' => by rw [h] at h'; cases h') (fun h' => absurd h h')⟩,
    fun h hb => ?_, fun h => ?_, hst i, hnow, hfr⟩
  · rw [hitem (by rw [h]; decide) (by rw [h]; decide)]
    unfold itemBytes
    dsimp only
    rw [← hp, h, ← hx]
    rfl
  · rw [hby]
    unfold videoBytes
    dsimp only
    rw [← hp, if_neg (by rw [h]; decide), if_pos h, hc]
    show (if m = n ∧ _ then none else bufferLine p 0 m k).getD _ = b
    rw [if_neg (fun h' => Bool.false_ne_true h'.2), hb]
    rfl
  · have hline : itemLine s ix n k {} = some b := by
      unfold itemLine
      dsimp only
      rw [show (spoils {} && 0 == 0 && 0 == k) = false from rfl, if_neg Bool.false_ne_true, ← hp]
      have hbuf : buffers p = false := by unfold buffers; rw [h]; rfl
      rw [hbuf]
      exact hb
    refine ⟨?_, hquiet (fun h' => by rw [h] at h'; cases h') (fun _ _ _ j hj => ?_)⟩
    · rw [hitem (by rw [h]; decide) (by rw [h]; decide)]
      unfold itemBytes
      dsimp only
      rw [hline, ← hp, h, ← hx]
      rfl
    · rw [if_neg (by rw [h]; decide), List.mem_singleton] at hj
      rw [hj, hline]
      rfl
  · rw [hitem (by rw [h]; decide) (by rw [h]; decide)]
    unfold itemBytes
    dsimp only
    rw [← hp, h, ← hx]
    rfl

omit hnx in
/-- An item past the picture's lines is passed over. -/
theorem workItem_beyond (he : x.essence = 0) (hk : fmtLines x.format ≤ k) :
    Completes (.engineWorkItem pf slot k {} false z) s (fun t => t = { s with ika := { s.ika with rooms := t.ika.rooms } }) := by
  have hop : opEngineWorkItem pf slot k {} false z s = sampleItem x.port slot ix k {} s s := by
    rw [workItem_good hix hx hp hr hh hs ht, metFault_none, if_pos he]
    have hv : videoWork ix k {} false s = s := by
      unfold videoWork
      dsimp only
      rw [decide_eq_false (by rw [← hx]; omega)]
      rfl
    rw [hv]
  refine completes_of rfl hop ((congrArg Flt.resetQ (sampleItem_flt _ _ _ _ _ _ _)).trans hq) ?_
  unfold sampleItem
  dsimp only
  split <;> rfl

end

/-! ## O42 -/

/-- A recovered SRC ramps up from the period after its recovery. -/
theorem srcRecover_ramps {s : State} {pf ix m d0 d1 : Nat} {x : Flow} {p : Proc} (hq : Settled s) (hix : ix = ixOf pf) (hx : x = flowD s (pfNum ix)) (hp : p = proc s ix) :
    (p.srcDown = some d0 → p.srcOk = some d1 → Completes (.srcRecover pf) s (fun t => t.tim.now = max s.tim.now (d1 + 100000000) ∧
      proc t ix = { p with srcDown := none, srcUp := some (periodAt (audioRate x.format) t.tim.now + 1) } ∧
      (m ≠ ix → proc t m = proc s m) ∧ t = { s with tim := { s.tim with now := t.tim.now }, ika := { s.ika with procs := t.ika.procs } })) ∧
    (p.srcDown = none ∨ p.srcOk = none → Completes (.srcRecover pf) s (fun t => t = s)) := by
  subst hix hx hp
  refine ⟨fun hd hok => ?_, fun h => ?_⟩
  · have hop : opSrcRecover pf s = setProc (ixOf pf) { proc s (ixOf pf) with srcDown := none, srcUp := some (periodAt (audioRate (flowD s (pfNum (ixOf pf))).format) (max s.tim.now (d1 + 100000000)) + 1) }
        (atLeast (d1 + 100000000) s) := by
      unfold opSrcRecover
      dsimp only
      rw [hd, hok]
      rfl
    exact completes_of rfl hop hq ⟨rfl, proc_setProc_same _ _ _, fun hm => proc_setProc_ne _ _ hm, rfl⟩
  · have hop : opSrcRecover pf s = s := by
      unfold opSrcRecover
      dsimp only
      rcases h with h | h
      · rw [h]
      · rw [h]
        cases (proc s (ixOf pf)).srcDown <;> rfl
    exact completes_of rfl hop hq rfl

/-- Settles O42: the lines by `workItem_line` and `workItem_spoiled`, the blocks by `workItem_mix` and `workItem_srcRange`, the
decisions by `frameSync_decides` and `layerDecision_decides`. -/
theorem workItemsAndFrameDecisions : Obligations.WorkItemsAndFrameDecisions := by
  intro s pf ix slot k n m i ch d0 d1 y x p b z g e fr hq hix hx hp hy hb
  obtain ⟨hrec, hrec'⟩ := srcRecover_ramps (m := m) (d0 := d0) (d1 := d1) hq hix hx hp
  refine ⟨fun hst => ?_, fun hr hh hs hnx ht => ⟨fun hf => workItem_unspoiled hq hix hx hp hr hh hs hnx ht hf,
      fun he hk hn => ⟨fun hf => workItem_spoiled hq hix hx hp hr hh hs hnx ht he hk hn hf, workItem_videoParity hq hix hx hp hr hh hs hnx ht hb he hk hn,
        workItem_line hq hix hx hp hr hh hs hnx ht he hk hn⟩,
      fun he hk => workItem_beyond hq hix hx hp hr hh hs ht he hk,
      fun he hn hf => ⟨workItem_ancParity hq hix hx hp hr hh hs hnx ht hb he hn hf, fun h1 hbuf => ?_, fun h7 hm hca hbuf => ?_⟩,
      fun he hch hrt => ⟨workItem_audioParity hq hix hx hp hr hh hs hnx ht hb he hch hrt, fun h5 hin => workItem_mix hq hix hx hp hr hh hs hnx ht he hch hrt h5 hin,
        fun h6 hd hz hra hl => workItem_srcRange hq hix hx hp hr hh hs hnx ht he h6 hd hz hra hl⟩⟩, hrec, hrec', fun hr he h1 hfo hn => ?_, fun hr h4 hnx hi hn hle => ?_⟩
  · rw [hx, hix] at hst
    obtain ⟨h1, h2, h3⟩ := workItem_idle (s := s) (slot := slot) (k := k) (fr := fr) (z := z) hst
    exact ⟨completes_of rfl h1 hq rfl, completes_of rfl h2 hq rfl, completes_of rfl h3 hq rfl⟩
  · refine workItem_anc hq hix hx hp hr hh hs hnx ht he hn hf ?_
    have hin : ancIntake ix (n - 1) s = s := by
      unfold ancIntake
      dsimp only
      rw [← hp, h1]
      rfl
    rw [hin, ← hp]
    unfold ancBytes
    rw [if_pos h1, hbuf]
    rfl
  · rw [hp] at h7 hca hbuf
    exact workItem_anc hq hix hx hp hr hh hs hnx ht he hn hf (ancIntake_reads h7 hm hca hbuf)
  · rw [syncDone_eq]
    have hbufs : bufsOf { p with decided := some n } 0 = bufsOf p 0 := rfl
    refine ⟨fun hfind => ?_, fun hfind hne => ?_, fun hfind hrd => ⟨fun hheld => ?_, fun hheld hle => ?_⟩⟩
    · obtain ⟨t, hs, hop, hm, hpt, hnow, hfr, hrq, -⟩ := frameSync_decides hix hx hp hr he h1 hfo hn rfl (syncDecide_none (p := { p with decided := some n }) hfind) rfl
      exact completes_of rfl hop (hrq.trans hq) ⟨by rw [hpt]; rfl, by rw [hpt]; rfl, by rw [hpt]; rfl, hm m, by rw [hpt]; rfl, hnow, hfr⟩
    · obtain ⟨t, hs, hop, hm, hpt, hnow, hfr, hrq, -⟩ := frameSync_decides hix hx hp hr he h1 hfo hn rfl ((syncDecide_some (p := { p with decided := some n }) hfind).trans (if_neg hne)) rfl
      exact completes_of rfl hop (hrq.trans hq) ⟨by rw [hpt]; rfl, by rw [hpt]; rfl, by rw [hpt]; rfl, hm m, by rw [hpt]; rfl, hnow, hfr⟩
    · have hc : ¬ (inputHeld s ix 0 && decide (pBody { p with decided := some n } 0 1 ≤ p.repeats)) = true := by
        rw [Bool.and_eq_true, decide_eq_true_iff]
        rintro ⟨h1, h2⟩
        rcases hheld with h | h
        · exact Bool.false_ne_true (h.symm.trans h1)
        · exact absurd h2 (Nat.not_le.mpr h)
      obtain ⟨t, hs, hop, hm, hpt, hnow, hfr, hrq, hone, -⟩ := frameSync_decides hix hx hp hr he h1 hfo hn rfl ((syncDecide_some (p := { p with decided := some n }) hfind).trans ((if_pos hrd).trans (if_neg hc))) rfl
      exact completes_of rfl hop (hrq.trans hq) ⟨by rw [hpt]; rfl, by rw [hpt]; rfl, by rw [hpt]; rfl, by rw [hpt]; rfl, hone rfl, hm m, by rw [hpt]; rfl, hnow, hfr⟩
    · have hc : (inputHeld s ix 0 && decide (pBody { p with decided := some n } 0 1 ≤ p.repeats)) = true := by
        rw [hheld, decide_eq_true (show pBody { p with decided := some n } 0 1 ≤ p.repeats from hle)]
        rfl
      obtain ⟨t, hs, hop, hm, hpt, hnow, hfr, hrq, -, hex⟩ := frameSync_decides hix hx hp hr he h1 hfo hn rfl ((syncDecide_some (p := { p with decided := some n }) hfind).trans ((if_pos hrd).trans (if_pos hc))) rfl
      exact completes_of rfl hop (hrq.trans hq) ⟨by rw [hpt]; rfl, by rw [hpt]; rfl, hex rfl, hm m, by rw [hpt]; rfl, hnow, hfr⟩
  · obtain ⟨t, nx, hop, hlay, hnext, hm, hdec, hnow, hfr, hrq⟩ := layerDecision_decides hix hx hp hr h4 hnx hi hn
    refine completes_of rfl hop (hrq.trans hq) ⟨fun hmf hcl => ?_, fun hmf hcl => ?_, fun hmf hcl hst => ?_, fun hmf hcl hst hlt => ?_, fun hmf hcl hst hge => ?_, fun hmf => ?_, ?_, hm m, hdec, hnow, hfr⟩
    · rw [hlay, hnext, hmf, hcl]; exact ⟨rfl, rfl, rfl⟩
    · rw [hlay, hnext, hmf, hcl]; exact ⟨rfl, rfl⟩
    · rw [hlay, hnext, hmf, hcl]
      rw [hle] at hst ⊢
      unfold nextLayer
      dsimp only
      rw [hst]
      exact ⟨rfl, rfl, rfl, rfl⟩
    · rw [hlay, hnext, hmf, hcl]
      rw [hle] at hst hlt ⊢
      unfold nextLayer
      dsimp only
      rw [hst]
      dsimp only
      rw [if_pos hlt]
      exact ⟨rfl, rfl, rfl⟩
    · rw [hlay, hnext, hmf, hcl]
      rw [hle] at hst hge
      unfold nextLayer
      dsimp only
      rw [hst]
      dsimp only
      rw [if_neg (Nat.not_lt.mpr hge)]
      exact ⟨rfl, rfl⟩
    · obtain ⟨f, hmf'⟩ := Option.isSome_iff_exists.mp hmf
      rw [hlay, hnext, hmf']
      unfold nextLayer
      dsimp only
      split
      · next hmis => exact ⟨rfl, hmis, rfl⟩
      · exact ⟨rfl, rfl, rfl⟩
    · rw [hlay]; rfl

end Sys2Proof.Machine

namespace Sys2Proof.Machine
open Sys2Proof

/-! ## Operations that a change of the audio ports goes through -/

/-- The state with its table of audio ports replaced. -/
def onPorts (ps : Tab AudPort) (s : State) : State := { s with aud := { s.aud with ports := ps } }

/-- The operation does to the rest of a state what it does whatever the audio ports hold, and leaves them. -/
def PortsBlind (op : State → State) : Prop := ∀ ps s, op (onPorts ps s) = onPorts ps (op s)

theorem PortsBlind.comp {p q : State → State} (hq : PortsBlind q) (hp : PortsBlind p) : PortsBlind (fun s => q (p s)) :=
  fun ps s => (congrArg q (hp ps s)).trans (hq ps (p s))

theorem PortsBlind.foldl {α : Type} {op : α → State → State} (h : ∀ a, PortsBlind (op a)) (l : List α) :
    PortsBlind (fun s => l.foldl (fun s a => op a s) s) := by
  induction l with
  | nil => exact fun _ _ => rfl
  | cons a l ih => exact .comp ih (h a)

theorem PortsBlind.ite {c : State → Prop} [∀ s, Decidable (c s)] {p q : State → State} (hc : ∀ ps s, c (onPorts ps s) ↔ c s)
    (hp : PortsBlind p) (hq : PortsBlind q) : PortsBlind (fun s => if c s then p s else q s) := fun ps s => by
  dsimp only
  by_cases h : c s
  · rw [if_pos h, if_pos ((hc ps s).mpr h)]; exact hp ps s
  · rw [if_neg h, if_neg (mt (hc ps s).mp h)]; exact hq ps s

theorem journal_portsBlind (type : Nat) (data : List Byte) : PortsBlind (journal type data) :=
  .ite (fun _ _ => Iff.rfl) (fun _ _ => rfl) (fun _ _ => rfl)

theorem journalFlow_portsBlind (n : Nat) : PortsBlind (journalFlow n) := fun ps s => journal_portsBlind 0x10 (flowRecord s n) ps s

theorem signalRing_portsBlind (cfg : Nat) : PortsBlind (signalRing cfg) :=
  .ite (fun _ _ => Iff.rfl) (.ite (fun _ _ => Iff.rfl) (fun _ _ => rfl) (.ite (fun _ _ => Iff.rfl) (fun _ _ => rfl) (fun _ _ => rfl))) (fun _ _ => rfl)

/-- An operation chosen by a part of the state that is not the ports. -/
theorem PortsBlind.bind {α : Type} {v : State → α} {op : α → State → State} (hv : ∀ ps s, v (onPorts ps s) = v s) (h : ∀ a, PortsBlind (op a)) :
    PortsBlind (fun s => op (v s) s) := fun ps s => by
  dsimp only
  rw [hv]
  exact h (v s) ps s

theorem writeCpl_portsBlind (c : Cmd) (op : Nat) (r : Reply) : PortsBlind (writeCpl c op r) := by
  refine .ite (fun _ _ => Iff.rfl) (fun _ _ => rfl) (.ite (fun _ _ => Iff.rfl) ?_ ?_)
  · exact fun _ _ => rfl
  · exact .bind (v := cplPlace c) (op := fun z s => signalRing z.cfg
      (setCplRing z.n { z.q with tail := (advance z.size z.q.tail z.q.phase).1, phase := (advance z.size z.q.tail z.q.phase).2, used := z.q.used + 1 }
        (hostWrite (z.base + 32 * z.q.tail) (cplEntry c op r z.q.phase z.head z.now) s))) (fun _ _ => rfl) fun z =>
      .comp (signalRing_portsBlind _) fun _ _ => rfl

theorem logStatus_portsBlind (c : Cmd) (r : Reply) : PortsBlind (logStatus c r) :=
  .ite (fun _ _ => Iff.rfl) (fun _ _ => rfl) (.ite (fun _ _ => Iff.rfl) (fun _ _ => rfl) (fun _ _ => rfl))

/-- What the last step of a completion notes of its command. -/
def noteReplied (c : Cmd) (op : Nat) (r : Reply) (s : State) : State :=
  { setCmdRing c.ring { cmdRing s c.ring with busy := false, gone := false } s with hif :=
    { (setCmdRing c.ring { cmdRing s c.ring with busy := false, gone := false } s).hif with
      replied := some { ring := c.ring, tag := c.tag, op := op, st := r.st, result := r.result, err := r.err } } }

theorem completeOne_portsBlind (c : Cmd) (op : Nat) (r : Reply) : PortsBlind (completeOne c op r) :=
  .comp (q := noteReplied c op r) (fun _ _ => rfl) (.comp (writeCpl_portsBlind c op r) (logStatus_portsBlind c r))

theorem releaseFences_portsBlind (n q : Nat) : PortsBlind (releaseFences n q) := fun ps s => by
  induction n generalizing q s with
  | zero => rfl
  | succ n ih =>
    unfold releaseFences
    rw [show (onPorts ps s).hif = s.hif from rfl]
    dsimp only
    split
    · rfl
    · next f _ =>
      exact (congrArg (releaseFences n f.cmd.ring) (completeOne_portsBlind f.cmd 0x0003 replyDone ps
        { s with hif := { s.hif with fences := (s.hif.fences.map (fencePassed q)).erase f } })).trans (ih _ _)

theorem complete_portsBlind (c : Cmd) (op : Nat) (r : Reply) : PortsBlind (complete c op r) := fun ps s =>
  (congrArg (releaseFences s.hif.fences.length c.ring) (completeOne_portsBlind c op r ps s)).trans
    (releaseFences_portsBlind s.hif.fences.length c.ring ps _)

theorem stopFlow_portsBlind (n : Nat) : PortsBlind (stopFlow n) := fun ps s => by
  have hj := journalFlow_portsBlind n ps (setFlow n (stoppedFlow (flowD s n)) s)
  unfold stopFlow
  rw [show flowD (onPorts ps s) n = flowD s n from rfl]
  dsimp only
  cases (flowD s n).stop with
  | none => exact hj
  | some c =>
    exact (congrArg (fun z => (c.1 :: (flowD s n).stopMore).foldl (fun s c => complete c 0x0103 replyDone s) z) hj).trans
      (PortsBlind.foldl (fun c => complete_portsBlind c 0x0103 replyDone) (c.1 :: (flowD s n).stopMore) ps _)

/-- A RUNNING flow as its hold records it. -/
def noteHeld (n fmt : Nat) (s : State) : State :=
  raise { src := 0x07C, data := [(2, n), (2, detectedCode (flowD s n) fmt)] } (setFlow n (heldFlow fmt (flowD s n)) s)

theorem holdFlow_portsBlind (n fmt : Nat) : PortsBlind (holdFlow n fmt) :=
  .ite (fun _ _ => Iff.rfl) (fun _ _ => rfl) (.ite (c := fun s => (flowD s n).stop.isSome = true) (fun _ _ => Iff.rfl)
    (.comp (p := noteHeld n fmt) (stopFlow_portsBlind n) fun _ _ => rfl) (.comp (p := noteHeld n fmt) (journalFlow_portsBlind n) fun _ _ => rfl))

theorem noteHeld_fltBlind (n fmt : Nat) : FltBlind (noteHeld n fmt) := fun _ _ => ⟨_, rfl⟩

theorem holdFlow_fltBlind (n fmt : Nat) : FltBlind (holdFlow n fmt) :=
  .ite (fun _ _ => Iff.rfl) (.keeps fun _ _ => rfl) (.ite (c := fun s => (flowD s n).stop.isSome = true) (fun _ _ => Iff.rfl)
    (.comp (p := noteHeld n fmt) (stopFlow_fltBlind n) (noteHeld_fltBlind n fmt)) (.comp (p := noteHeld n fmt) (journalFlow_fltBlind n) (noteHeld_fltBlind n fmt)))

theorem storeSamples_portsBlind (q ch : Nat) (l : List Nat) : PortsBlind (storeSamples q ch l) := by
  induction l generalizing ch with
  | nil => exact fun _ _ => rfl
  | cons w l ih => exact .comp (q := storeSamples q (ch + 1) l) (p := storeSample ch q w) (ih (ch + 1)) (.ite (fun _ _ => Iff.rfl) (fun _ _ => rfl) (fun _ _ => rfl))

/-! ## What an audio port writes of its guarded samples (R290) -/

/-- The words of one flow of a port. -/
def portWrite (n : Nat) (words : List Nat) (fade : Bool → Nat → Nat) (f : Flow) (s : State) : State :=
  storeSamples n f.base ((List.range f.count).map (fun i => fade (f.format == 0x10) (words.getD (fieldAt f.params 0 1 + i) 0))) s

theorem writePort_eq (p n : Nat) (words : List Nat) (fade : Bool → Nat → Nat) (s : State) : writePort p n words fade s =
    (portFlows s 0 4 p (fun f => f.st == .running)).foldl (fun s k => portWrite n words fade (flowD s k) s) s := rfl

theorem portWrite_inp (n : Nat) (words : List Nat) (fade : Bool → Nat → Nat) (f : Flow) (s : State) :
    ∃ a, portWrite n words fade f s = { s with aud := { s.aud with inp := a } } := by
  obtain ⟨a, h, -⟩ := storeSamples_inp n f.base ((List.range f.count).map (fun i => fade (f.format == 0x10) (words.getD (fieldAt f.params 0 1 + i) 0))) s
  exact ⟨a, h⟩

/-- Updates that write samples alone write samples alone. -/
theorem foldl_inp {α : Type} {op : State → α → State} (h : ∀ s a, ∃ b, op s a = { s with aud := { s.aud with inp := b } }) (l : List α) (s : State) :
    ∃ b, l.foldl op s = { s with aud := { s.aud with inp := b } } := by
  induction l generalizing s with
  | nil => exact ⟨s.aud.inp, rfl⟩
  | cons a l ih =>
    obtain ⟨b, hb⟩ := h s a
    obtain ⟨b', hb'⟩ := ih (op s a)
    exact ⟨b', by rw [List.foldl_cons, hb', hb]⟩

theorem writePort_inp (p n : Nat) (words : List Nat) (fade : Bool → Nat → Nat) (s : State) :
    ∃ a, writePort p n words fade s = { s with aud := { s.aud with inp := a } } :=
  foldl_inp (fun s k => portWrite_inp n words fade (flowD s k) s) _ s

theorem portWrite_portsBlind (n k : Nat) (words : List Nat) (fade : Bool → Nat → Nat) : PortsBlind (fun s => portWrite n words fade (flowD s k) s) :=
  fun ps s => storeSamples_portsBlind n _ _ ps s

theorem portWrite_fltBlind (n k : Nat) (words : List Nat) (fade : Bool → Nat → Nat) : FltBlind (fun s => portWrite n words fade (flowD s k) s) :=
  fun s g => storeSamples_fltBlind n (flowD s k).base ((List.range (flowD s k).count).map (fun i => fade ((flowD s k).format == 0x10) (words.getD (fieldAt (flowD s k).params 0 1 + i) 0))) s g

theorem writePort_portsBlind (p n : Nat) (words : List Nat) (fade : Bool → Nat → Nat) : PortsBlind (writePort p n words fade) :=
  fun ps s => PortsBlind.foldl (fun k => portWrite_portsBlind n k words fade) (portFlows s 0 4 p (fun f => f.st == .running)) ps s

theorem writePort_fltBlind (p n : Nat) (words : List Nat) (fade : Bool → Nat → Nat) : FltBlind (writePort p n words fade) :=
  fun s g => FltBlind.foldl (fun k => portWrite_fltBlind n k words fade) (portFlows s 0 4 p (fun f => f.st == .running)) s g

/-- One guarded period of `len` written ramped to zero. -/
def rampStep (p len : Nat) (e : (Nat × List Nat) × Nat) : State → State := writePort p e.1.1 e.1.2 (fun raw w => fadeWord false raw e.2 len w)

/-- The guarded samples of a port ramped to zero. -/
def rampOut (p : Nat) (g : List (Nat × List Nat)) (s : State) : State := g.zipIdx.foldl (fun s e => rampStep p g.length e s) s

theorem flushPort_eq (p : Nat) (s : State) : flushPort p s =
    setAudPort p { audPort (rampOut p (audPort s p).guard_ s) p with guard_ := [] } (rampOut p (audPort s p).guard_ s) := rfl

theorem rampOut_inp (p : Nat) (g : List (Nat × List Nat)) (s : State) : ∃ a, rampOut p g s = { s with aud := { s.aud with inp := a } } :=
  foldl_inp (op := fun s e => rampStep p g.length e s) (fun s e => writePort_inp p e.1.1 e.1.2 (fun raw w => fadeWord false raw e.2 g.length w) s) g.zipIdx s

theorem rampOut_portsBlind (p : Nat) (g : List (Nat × List Nat)) : PortsBlind (rampOut p g) :=
  .foldl (op := rampStep p g.length) (fun e => writePort_portsBlind p e.1.1 e.1.2 _) g.zipIdx

theorem rampOut_fltBlind (p : Nat) (g : List (Nat × List Nat)) : FltBlind (rampOut p g) :=
  .foldl (op := rampStep p g.length) (fun e => writePort_fltBlind p e.1.1 e.1.2 _) g.zipIdx

/-- A guarded word written after a lock: ramped from silence for 240 periods. -/
def rampIn (up : Option Nat) (n : Nat) (raw : Bool) (w : Nat) : Nat :=
  match up with
  | some u => if n < u + 240 then fadeWord true raw (n - u) 240 w else w
  | none => w

/-- Guarded periods written after a lock. -/
def dueStep (p : Nat) (up : Option Nat) (e : Nat × List Nat) : State → State := writePort p e.1 e.2 (rampIn up e.1)
def writeDue (p : Nat) (up : Option Nat) (due : List (Nat × List Nat)) (s : State) : State := due.foldl (fun s e => dueStep p up e s) s

/-- The periods that port `x` holds once it has taken the frame of period `n`. -/
def guarded (p : Nat) (x : AudPort) (n : Nat) (words : List Nat) : List (Nat × List Nat) := x.guard_ ++ [(n, words.map (portWord p x n))]

theorem takeFrame_eq (p n : Nat) (words : List Nat) (s : State) : takeFrame p n words s =
    (fun u => setAudPort p { audPort u p with guard_ := (guarded p (audPort s p) n words).filter (fun e => !decide (e.1 + 24 ≤ n)) } u)
      (writeDue p (audPort s p).rampUp ((guarded p (audPort s p) n words).filter (fun e => decide (e.1 + 24 ≤ n))) s) := rfl

theorem writeDue_inp (p : Nat) (up : Option Nat) (due : List (Nat × List Nat)) (s : State) : ∃ a, writeDue p up due s = { s with aud := { s.aud with inp := a } } :=
  foldl_inp (op := fun s e => dueStep p up e s) (fun s e => writePort_inp p e.1 e.2 (rampIn up e.1) s) due s

theorem writeDue_portsBlind (p : Nat) (up : Option Nat) (due : List (Nat × List Nat)) : PortsBlind (writeDue p up due) :=
  .foldl (op := dueStep p up) (fun e => writePort_portsBlind p e.1 e.2 _) due

theorem writeDue_fltBlind (p : Nat) (up : Option Nat) (due : List (Nat × List Nat)) : FltBlind (writeDue p up due) :=
  .foldl (op := dueStep p up) (fun e => writePort_fltBlind p e.1 e.2 _) due

end Sys2Proof.Machine

namespace Sys2Proof.Machine
open Sys2Proof

/-! ## Frames received on an audio port (R286 to R291) -/

theorem mem_of_tget? {α : Type} {t : Tab α} {k : Nat} {v : α} (h : tget? t k = some v) : (k, v) ∈ t := by
  induction t with
  | nil => exact absurd h nofun
  | cons e t ih =>
    obtain ⟨i, w⟩ := e
    unfold tget? at h
    split at h
    · next hk => cases h; subst hk; exact List.mem_cons_self
    · exact List.mem_cons_of_mem _ (ih h)

theorem mem_portFlows {s : State} {ns e p k : Nat} {ok : Flow → Bool} (hk : (flow? s k).isSome = true) (hn : nsOf k = ns) (he : (flowD s k).endpoint = e)
    (hp : (flowD s k).port = p) (ho : ok (flowD s k) = true) : k ∈ portFlows s ns e p ok := by
  obtain ⟨f, hf⟩ := Option.isSome_iff_exists.mp hk
  have hD : flowD s k = f := congrArg (·.getD {}) hf
  rw [hD] at he hp ho
  exact mem_tkeys.mpr ⟨f, mem_of_tget? hf, by simp [hn, he, hp, ho]⟩

theorem audPort_set_same (p : Nat) (x : AudPort) (s : State) : audPort (setAudPort p x s) p = x := tgetD_tput_same _ _ _ _
theorem audPort_set_ne {p m : Nat} (h : m ≠ p) (x : AudPort) (s : State) : audPort (setAudPort p x s) m = audPort s m := tgetD_tput_ne _ _ _ h

/-- A port in ACQUIRE after a frame of phase `phi`: one more steady frame, or the first. -/
def steadied (x : AudPort) (phi : Int) : AudPort :=
  if x.steady != 0 && decide (8 * (max x.phiHi phi - min x.phiLo phi) * (audRate x : Int) ≤ 1000000000) then
    { x with steady := x.steady + 1, phiLo := min x.phiLo phi, phiHi := max x.phiHi phi }
  else { x with steady := 1, phiLo := phi, phiHi := phi }

/-- A port as the 48th steady frame locks it. -/
def lockedPort (now : Nat) (phi : Int) (x : AudPort) : AudPort :=
  { x with st := .locked, clockHere := true, phi0 := phi, phi := phi, guard_ := [], rampUp := some (periodAt (audRate x) now + 1) }

/-- The lock reported. -/
def lockEvent (p : Nat) (phi : Int) : Ev := { src := 0x162, data := [(1, p), (4, ofSigned 32 phi)] }

/-- A slipped port: its guarded samples out, its flows held, then the slip noted. -/
def slipFlows (p : Nat) (s : State) : State := holdFlows (portFlows s 0 4 p (fun f => f.st == .running)) 0xFFFF s
def slipEvent (p dir : Nat) (d : Int) : Ev := { src := 0x161, data := [(1, p), (1, dir), (4, ofSigned 32 d)] }
def noteSlip (p dir : Nat) (d : Int) (s : State) : State :=
  raise (slipEvent p dir d) (setAudPort p { audPort s p with st := .slipped, rampDown := some 0 } s)

/-- The phase of a locked port's reference instant. -/
def phiNow (x : AudPort) (t : Int) : Int := x.phi0 + phaseOf (audRate x) (t - x.phi0)

theorem judgePort_acquire {p dir : Nat} {t : Int} {s : State} (h : (audPort s p).st = .acquire) : judgePort p dir t s =
    if (steadied (audPort s p) (phaseOf (audRate (audPort s p)) t)).steady < 48 then
      setAudPort p { steadied (audPort s p) (phaseOf (audRate (audPort s p)) t) with clockHere := true } s
    else raise (lockEvent p (phaseOf (audRate (audPort s p)) t))
      (setAudPort p (lockedPort s.tim.now (phaseOf (audRate (audPort s p)) t) (steadied (audPort s p) (phaseOf (audRate (audPort s p)) t))) s) := by
  unfold judgePort
  dsimp only
  split
  · rfl
  · next e => rw [h] at e; cases e
  · next e _ => exact absurd h e

theorem judgePort_locked {p dir : Nat} {t : Int} {s : State} (h : (audPort s p).st = .locked) : judgePort p dir t s =
    if 1000000000 < 4 * (phiNow (audPort s p) t - (audPort s p).phi0).natAbs * audRate (audPort s p) then
      noteSlip p dir (phiNow (audPort s p) t - (audPort s p).phi0) (slipFlows p (flushPort p (setAudPort p { audPort s p with phi := phiNow (audPort s p) t } s)))
    else setAudPort p { audPort s p with phi := phiNow (audPort s p) t, clockHere := true } s := by
  unfold judgePort
  dsimp only
  split
  · next e => rw [h] at e; cases e
  · rfl
  · next e => exact absurd h e

theorem judgePort_idle {p dir : Nat} {t : Int} {s : State} (h : (audPort s p).st ≠ .acquire) (h' : (audPort s p).st ≠ .locked) :
    judgePort p dir t s = setAudPort p { audPort s p with clockHere := true } s := by
  unfold judgePort
  dsimp only
  split
  · next e => exact absurd e h
  · next e => exact absurd e h'
  · rfl

/-- The flow carries one of the channels found inactive. -/
def carries (inactive : List Nat) (f : Flow) : Bool :=
  inactive.any (fun ch => decide (fieldAt f.params 0 1 ≤ ch) && decide (ch < fieldAt f.params 0 1 + f.count))

/-- What a port that is locked does with a frame it has judged. -/
def hearFrame (p stamp : Nat) (words inactive : List Nat) (rate : Nat) (s : State) : State :=
  if (audPort s p).st != .locked then s
  else if rate != (audPort s p).rate then slipFlows p s
  else takeFrame p (nearPeriod (audRate (audPort s p)) ((stamp : Int) - (audPort s p).rxOffset - (audPort s p).phi0)).toNat words
    (holdFlows (portFlows s 0 4 p (fun f => f.st == .running && carries inactive f)) 0xFFFF s)

/-- A frame judged and heard. -/
def hears (p stamp : Nat) (words inactive : List Nat) (rate : Nat) (off : Int) (s : State) : State :=
  hearFrame p stamp words inactive rate (judgePort p 0 ((stamp : Int) - off) s)

theorem opAudPortFrameRx_hears {p stamp rate ce cc : Nat} {words inactive : List Nat} {s : State} (hp : p ≤ 39) (hst : (audPort s p).st ≠ .disabled)
    (hd : bit (audPort s p).dirs 0 = true) (hb : bit (rd s .audCfg 0) 31 = true) : opAudPortFrameRx p stamp words inactive rate ce cc s =
    hears p stamp words inactive rate (audPort s p).rxOffset (codingErrors p ce cc s) := by
  unfold opAudPortFrameRx
  dsimp only
  rw [if_neg (by simp [hst, hd, hb, Nat.not_lt.mpr hp])]
  rfl

theorem takeFrame_guards {p n : Nat} {words : List Nat} {s : State} (h : (audPort s p).guard_ = []) : takeFrame p n words s =
    setAudPort p { audPort s p with guard_ := [(n, words.map (portWord p (audPort s p) n))] } s := by
  have hg : guarded p (audPort s p) n words = [(n, words.map (portWord p (audPort s p) n))] := by unfold guarded; rw [h]; rfl
  have hd : [(n, words.map (portWord p (audPort s p) n))].filter (fun e => decide (e.1 + 24 ≤ n)) = [] := by
    rw [List.filter_eq_nil_iff]; simp
  have hk : [(n, words.map (portWord p (audPort s p) n))].filter (fun e => !decide (e.1 + 24 ≤ n)) = [(n, words.map (portWord p (audPort s p) n))] := by
    rw [List.filter_eq_self]; simp
  rw [takeFrame_eq, hg, hd, hk]
  rfl

/-- With no channel inactive a frame holds no flow. -/
theorem portFlows_none (p : Nat) (s : State) : portFlows s 0 4 p (fun f => f.st == .running && carries [] f) = [] :=
  tkeys_none _ _ fun f _ => by simp [carries]

theorem holdFlows_none (p fmt : Nat) (u s : State) : holdFlows (portFlows u 0 4 p (fun f => f.st == .running && carries [] f)) fmt s = s := by
  rw [portFlows_none]; rfl

section
variable {p stamp rate : Nat} {words inactive : List Nat} {off : Int} {s : State}

theorem hears_steadies {x y : AudPort} (hx : audPort s p = x) (h : x.st = .acquire) (hy : steadied x (phaseOf (audRate x) ((stamp : Int) - off)) = y)
    (hs : y.steady < 48) : hears p stamp words inactive rate off s = setAudPort p { y with clockHere := true } s := by
  subst hx
  have hst : y.st ≠ .locked := by
    rw [← hy]; unfold steadied; split
    · exact fun e => by rw [h] at e; cases e
    · exact fun e => by rw [h] at e; cases e
  have hj : judgePort p 0 ((stamp : Int) - off) s = setAudPort p { y with clockHere := true } s := by rw [judgePort_acquire h, hy, if_pos hs]
  unfold hears
  rw [hj]
  exact if_pos (by rw [audPort_set_same]; exact bne_iff_ne.mpr hst)

theorem hears_locks {x y : AudPort} {phi : Int} (hx : audPort s p = x) (h : x.st = .acquire) (hphi : phi = phaseOf (audRate x) ((stamp : Int) - off))
    (hy : steadied x phi = y) (hs : ¬ y.steady < 48) (hr : rate = y.rate) : ∃ g, hears p stamp words [] rate off s =
      setAudPort p { lockedPort s.tim.now phi y with guard_ := g } (raise (lockEvent p phi) (setAudPort p (lockedPort s.tim.now phi y) s)) := by
  subst hx
  have hj : judgePort p 0 ((stamp : Int) - off) s = raise (lockEvent p phi) (setAudPort p (lockedPort s.tim.now phi y) s) := by
    rw [judgePort_acquire h, ← hphi, hy, if_neg hs]
  unfold hears
  rw [hj]
  have hx : audPort (raise (lockEvent p phi) (setAudPort p (lockedPort s.tim.now phi y) s)) p = lockedPort s.tim.now phi y := audPort_set_same _ _ _
  generalize raise (lockEvent p phi) (setAudPort p (lockedPort s.tim.now phi y) s) = u at hx
  unfold hearFrame
  rw [if_neg (by rw [hx]; exact Bool.false_ne_true), if_neg (by rw [hx]; simp [lockedPort, hr]), holdFlows_none, takeFrame_guards (by rw [hx]; rfl), hx]
  exact ⟨_, rfl⟩

/-- A frame of a locked port within a quarter period of its phase. -/
theorem judgePort_keeps (h : (audPort s p).st = .locked) {phi : Int} (hphi : phi = phaseOf (audRate (audPort s p)) ((stamp : Int) - off - (audPort s p).phi0))
    (hs : 4 * phi.natAbs * audRate (audPort s p) ≤ 1000000000) : judgePort p 0 ((stamp : Int) - off) s =
      setAudPort p { audPort s p with phi := (audPort s p).phi0 + phi, clockHere := true } s := by
  have hp : phiNow (audPort s p) ((stamp : Int) - off) = (audPort s p).phi0 + phi := by rw [hphi]; rfl
  rw [judgePort_locked h, hp, add_sub_cancel_left, if_neg (Nat.not_lt.mpr hs)]

theorem hears_mistimed (h : (audPort s p).st = .locked) {phi : Int} (hphi : phi = phaseOf (audRate (audPort s p)) ((stamp : Int) - off - (audPort s p).phi0))
    (hs : 4 * phi.natAbs * audRate (audPort s p) ≤ 1000000000) (hr : rate ≠ (audPort s p).rate) : hears p stamp words inactive rate off s =
      slipFlows p (setAudPort p { audPort s p with phi := (audPort s p).phi0 + phi, clockHere := true } s) := by
  unfold hears
  rw [judgePort_keeps h hphi hs]
  unfold hearFrame
  rw [audPort_set_same]
  exact (if_neg (by rw [h]; exact Bool.false_ne_true)).trans (if_pos (bne_iff_ne.mpr hr))

theorem hears_inStep (h : (audPort s p).st = .locked) {phi : Int} (hphi : phi = phaseOf (audRate (audPort s p)) ((stamp : Int) - off - (audPort s p).phi0))
    (hs : 4 * phi.natAbs * audRate (audPort s p) ≤ 1000000000) (hr : rate = (audPort s p).rate) :
    ∃ n, n = (nearPeriod (audRate (audPort s p)) ((stamp : Int) - (audPort s p).rxOffset - (audPort s p).phi0)).toNat ∧ hears p stamp words inactive rate off s =
      takeFrame p n words (holdFlows (portFlows s 0 4 p (fun f => f.st == .running && carries inactive f)) 0xFFFF
        (setAudPort p { audPort s p with phi := (audPort s p).phi0 + phi, clockHere := true } s)) := by
  refine ⟨_, rfl, ?_⟩
  unfold hears
  rw [judgePort_keeps h hphi hs]
  unfold hearFrame
  rw [audPort_set_same]
  exact (if_neg (by rw [h]; exact Bool.false_ne_true)).trans (if_neg (by rw [hr]; simp))

theorem hears_slips (h : (audPort s p).st = .locked) {phi : Int} (hphi : phi = phaseOf (audRate (audPort s p)) ((stamp : Int) - off - (audPort s p).phi0))
    (hs : 1000000000 < 4 * phi.natAbs * audRate (audPort s p)) : hears p stamp words inactive rate off s =
      noteSlip p 0 phi (slipFlows p (flushPort p (setAudPort p { audPort s p with phi := (audPort s p).phi0 + phi } s))) := by
  have hp : phiNow (audPort s p) ((stamp : Int) - off) = (audPort s p).phi0 + phi := by rw [hphi]; rfl
  unfold hears
  rw [judgePort_locked h, hp, add_sub_cancel_left, if_pos hs]
  exact if_pos (by rw [show (audPort (noteSlip p 0 phi (slipFlows p (flushPort p (setAudPort p { audPort s p with phi := (audPort s p).phi0 + phi } s)))) p).st
    = .slipped from congrArg AudPort.st (audPort_set_same _ _ _)]; rfl)

end

/-- What a port's flush leaves: its guard, and samples written. -/
theorem flushPort_flushes (p : Nat) (s : State) : ∃ a, flushPort p s =
    setAudPort p { audPort s p with guard_ := [] } { s with aud := { s.aud with inp := a } } := by
  obtain ⟨a, h⟩ := rampOut_inp p (audPort s p).guard_ s
  exact ⟨a, by rw [flushPort_eq, h]; rfl⟩

/-- The flows of a port held, and no other part than a hold changes. -/
theorem slipFlows_holds (p : Nat) (s : State) : ∃ fl, Reflowed fl s (slipFlows p s) ∧
    ∀ k, nsOf k = 0 → (flow? s k).isSome = true → (flowD s k).endpoint = 4 → (flowD s k).port = p → (flowD s k).st = .running → (flowD s k).stop = none →
      (flowD (slipFlows p s) k).st = .held := by
  obtain ⟨fl, h, -, hh⟩ := holdFlows_reflowed (portFlows s 0 4 p (fun f => f.st == .running)) 0xFFFF s
  refine ⟨fl, h, fun k hn hk he hp hr hs => ?_⟩
  have hm := hh k (mem_portFlows hk hn he hp (by rw [hr]; rfl)) hr hs
  show ((tget? (holdFlows _ 0xFFFF s).flows k).getD {}).st = _
  rw [h.flows, hm]
  rfl

theorem codingErrors_none (p : Nat) (s : State) : ∃ l, codingErrors p 0 0 s =
    setAudPort p { audPort s p with coding := satAdd 16 (audPort s p).coding 0, crcc := satAdd 16 (audPort s p).crcc 0, codingAt := l } s := ⟨_, rfl⟩

end Sys2Proof.Machine

namespace Sys2Proof.Machine
open Sys2Proof

/-! ## The error counts of an audio port go through its frames (R286) -/

/-- A port with its error counts set. -/
def counted (c r : Nat) (l : List (Nat × Nat)) (x : AudPort) : AudPort := { x with coding := c, crcc := r, codingAt := l }

/-- The state `A` is `B` but for the error counts of port `p` and the fault collector. -/
def Marked (p c r : Nat) (l : List (Nat × Nat)) (A B : State) : Prop :=
  ∃ ps g, A = onPorts ps { B with flt := g } ∧ tgetD ps p {} = counted c r l (audPort B p) ∧ ∀ m, m ≠ p → tgetD ps m {} = audPort B m

section
variable {p c r : Nat} {l : List (Nat × Nat)} {A B : State}

theorem Marked.port (h : Marked p c r l A B) : audPort A p = counted c r l (audPort B p) := by
  obtain ⟨ps, g, rfl, hp, -⟩ := h
  exact hp

theorem Marked.other (h : Marked p c r l A B) {m : Nat} (hm : m ≠ p) : audPort A m = audPort B m := by
  obtain ⟨ps, g, rfl, -, ho⟩ := h
  exact ho m hm

theorem Marked.op (h : Marked p c r l A B) {op : State → State} (hp : PortsBlind op) (hf : FltBlind op) (hk : (op B).aud.ports = B.aud.ports) :
    Marked p c r l (op A) (op B) := by
  obtain ⟨ps, g, rfl, hx, ho⟩ := h
  obtain ⟨g', hg⟩ := hf B g
  have hk' : ∀ m, audPort (op B) m = audPort B m := fun m => congrArg (fun ps : Tab AudPort => tgetD ps m {}) hk
  exact ⟨ps, g', by rw [hp, hg], by rw [hk']; exact hx, fun m hm => by rw [hk']; exact ho m hm⟩

theorem Marked.set (h : Marked p c r l A B) (y : AudPort) : Marked p c r l (setAudPort p (counted c r l y) A) (setAudPort p y B) := by
  obtain ⟨ps, g, rfl, -, ho⟩ := h
  refine ⟨tput ps p (counted c r l y), g, rfl, ?_, fun m hm => ?_⟩
  · rw [audPort_set_same]; exact tgetD_tput_same _ _ _ _
  · rw [audPort_set_ne hm]; exact (tgetD_tput_ne _ _ _ hm).trans (ho m hm)

theorem Marked.update (h : Marked p c r l A B) {f : AudPort → AudPort} (hf : ∀ x, f (counted c r l x) = counted c r l (f x)) :
    Marked p c r l (setAudPort p (f (audPort A p)) A) (setAudPort p (f (audPort B p)) B) := by
  rw [h.port, hf]
  exact h.set _

theorem Marked.raise (h : Marked p c r l A B) (e : Ev) : Marked p c r l (raise e A) (raise e B) :=
  h.op (fun _ _ => rfl) (raise_fltBlind e) rfl

end

/-- The coding errors of the last second, with those of a frame received now. -/
def recentErrors (p ce : Nat) (s : State) : List (Nat × Nat) :=
  (audPort s p).codingAt.filter (fun e => decide (s.tim.now < e.1 + 1000000000)) ++ (if ce = 0 then [] else [(s.tim.now, ce)])

/-- A frame's errors counted on its port. -/
def countErrors (p ce cc : Nat) (s : State) : State :=
  setAudPort p (counted (satAdd 16 (audPort s p).coding ce) (satAdd 16 (audPort s p).crcc cc) (recentErrors p ce s) (audPort s p)) s

theorem codingErrors_eq (p ce cc : Nat) (s : State) : codingErrors p ce cc s =
    if ce = 0 then countErrors p ce cc s
    else raiseOnce p (secOf s) { src := 0x165, data := [(1, p), (4, sumBy (recentErrors p ce s) Prod.snd)] } (countErrors p ce cc s) := rfl

theorem countErrors_marked (p ce cc : Nat) (s : State) :
    Marked p (satAdd 16 (audPort s p).coding ce) (satAdd 16 (audPort s p).crcc cc) (recentErrors p ce s) (countErrors p ce cc s) s :=
  ⟨_, s.flt, rfl, tgetD_tput_same _ _ _ _, fun _ hm => tgetD_tput_ne _ _ _ hm⟩

theorem codingErrors_marked (p ce cc : Nat) (s : State) :
    Marked p (satAdd 16 (audPort s p).coding ce) (satAdd 16 (audPort s p).crcc cc) (recentErrors p ce s) (codingErrors p ce cc s) s := by
  rw [codingErrors_eq]
  split
  · exact countErrors_marked p ce cc s
  · obtain ⟨f, hf, -⟩ := raiseOnce_others p (secOf s) { src := 0x165, data := [(1, p), (4, sumBy (recentErrors p ce s) Prod.snd)] } (countErrors p ce cc s)
    rw [hf]
    obtain ⟨ps, g, e, hx, ho⟩ := countErrors_marked p ce cc s
    exact ⟨ps, f, by rw [e]; rfl, hx, ho⟩

theorem codingErrors_resetQ (p ce cc : Nat) (s : State) : (codingErrors p ce cc s).flt.resetQ = s.flt.resetQ := by
  rw [codingErrors_eq]
  split
  · rfl
  · obtain ⟨f, hf, ho⟩ := raiseOnce_others p (secOf s) { src := 0x165, data := [(1, p), (4, sumBy (recentErrors p ce s) Prod.snd)] } (countErrors p ce cc s)
    rw [hf]
    exact (ho 0 (Or.inl rfl) rfl (show 0 ≠ 0x165 by decide)).1

theorem steadied_counted (c r : Nat) (l : List (Nat × Nat)) (x : AudPort) (phi : Int) : steadied (counted c r l x) phi = counted c r l (steadied x phi) := by
  unfold steadied
  rw [apply_ite (counted c r l)]
  rfl

theorem holdFlow_ports (n fmt : Nat) (s : State) : (holdFlow n fmt s).aud = s.aud := by
  obtain ⟨fl, ⟨q, o, h, f, w, e, -⟩, -⟩ := holdFlow_reflowed n fmt s
  rw [e]

theorem holdFlows_aud (l : List Nat) (fmt : Nat) (s : State) : (holdFlows l fmt s).aud = s.aud := by
  obtain ⟨fl, ⟨q, o, h, f, w, e, -⟩, -⟩ := holdFlows_reflowed l fmt s
  rw [e]

section
variable {p c r : Nat} {l : List (Nat × Nat)} {A B : State}

theorem Marked.holds (h : Marked p c r l A B) (ok : Flow → Bool) :
    Marked p c r l (holdFlows (portFlows A 0 4 p ok) 0xFFFF A) (holdFlows (portFlows B 0 4 p ok) 0xFFFF B) := by
  have he : portFlows A 0 4 p ok = portFlows B 0 4 p ok := by obtain ⟨ps, g, rfl, -⟩ := h; rfl
  rw [he]
  exact h.op (op := holdFlows (portFlows B 0 4 p ok) 0xFFFF) (.foldl (fun n => holdFlow_portsBlind n 0xFFFF) _) (.foldl (fun n => holdFlow_fltBlind n 0xFFFF) _)
    (congrArg Aud.ports (holdFlows_aud _ _ B))

theorem Marked.flush (h : Marked p c r l A B) : Marked p c r l (flushPort p A) (flushPort p B) := by
  have hr : Marked p c r l (rampOut p (audPort B p).guard_ A) (rampOut p (audPort B p).guard_ B) :=
    h.op (rampOut_portsBlind p _) (rampOut_fltBlind p _) (by obtain ⟨a, e⟩ := rampOut_inp p (audPort B p).guard_ B; rw [e])
  rw [flushPort_eq, flushPort_eq, show (audPort A p).guard_ = (audPort B p).guard_ by rw [h.port]; rfl, hr.port]
  exact hr.set { audPort (rampOut p (audPort B p).guard_ B) p with guard_ := [] }

theorem Marked.take (h : Marked p c r l A B) (n : Nat) (words : List Nat) : Marked p c r l (takeFrame p n words A) (takeFrame p n words B) := by
  have hw (up : Option Nat) (due : List (Nat × List Nat)) : Marked p c r l (writeDue p up due A) (writeDue p up due B) :=
    h.op (writeDue_portsBlind p up due) (writeDue_fltBlind p up due) (by obtain ⟨a, e⟩ := writeDue_inp p up due B; rw [e])
  have hg : guarded p (audPort A p) n words = guarded p (audPort B p) n words := by rw [h.port]; rfl
  have hu : (audPort A p).rampUp = (audPort B p).rampUp := by rw [h.port]; rfl
  rw [takeFrame_eq, takeFrame_eq, hg, hu]
  exact (hw _ _).update (f := fun x => { x with guard_ := (guarded p (audPort B p) n words).filter (fun e => !decide (e.1 + 24 ≤ n)) }) fun _ => rfl

theorem Marked.judge (h : Marked p c r l A B) (dir : Nat) (t : Int) : Marked p c r l (judgePort p dir t A) (judgePort p dir t B) := by
  have hp := h.port
  have hst : (audPort A p).st = (audPort B p).st := by rw [hp]; rfl
  have hnow : A.tim.now = B.tim.now := by obtain ⟨ps, g, rfl, -⟩ := h; rfl
  by_cases ha : (audPort B p).st = .acquire
  · rw [judgePort_acquire ha, judgePort_acquire (hst.trans ha), hp, hnow,
      show audRate (counted c r l (audPort B p)) = audRate (audPort B p) from rfl, steadied_counted]
    generalize steadied (audPort B p) (phaseOf (audRate (audPort B p)) t) = y
    split
    · next hs => rw [if_pos (show y.steady < 48 from hs)]; exact h.set { y with clockHere := true }
    · next hs => rw [if_neg (show ¬ y.steady < 48 from hs)]; exact (h.set (lockedPort B.tim.now (phaseOf (audRate (audPort B p)) t) y)).raise _
  · by_cases hl : (audPort B p).st = .locked
    · have hphi : phiNow (audPort A p) t = phiNow (audPort B p) t := by rw [hp]; rfl
      have h0 : (audPort A p).phi0 = (audPort B p).phi0 := by rw [hp]; rfl
      have hrt : audRate (audPort A p) = audRate (audPort B p) := by rw [hp]; rfl
      rw [judgePort_locked hl, judgePort_locked (hst.trans hl), hphi, h0, hrt, hp]
      split
      · have hf := ((h.set { audPort B p with phi := phiNow (audPort B p) t }).flush).holds (fun f => f.st == .running)
        refine Marked.raise ?_ (slipEvent p dir (phiNow (audPort B p) t - (audPort B p).phi0))
        exact hf.update (f := fun x => { x with st := .slipped, rampDown := some 0 }) fun _ => rfl
      · exact h.set { audPort B p with phi := phiNow (audPort B p) t, clockHere := true }
    · rw [judgePort_idle ha hl, judgePort_idle (hst ▸ ha) (hst ▸ hl), hp]
      exact h.set { audPort B p with clockHere := true }

theorem Marked.hear (h : Marked p c r l A B) (stamp : Nat) (words inactive : List Nat) (rate : Nat) :
    Marked p c r l (hearFrame p stamp words inactive rate A) (hearFrame p stamp words inactive rate B) := by
  have hp := h.port
  unfold hearFrame
  rw [hp]
  by_cases hl : ((audPort B p).st != .locked) = true
  · rw [if_pos hl, if_pos (show ((counted c r l (audPort B p)).st != .locked) = true from hl)]; exact h
  · rw [if_neg hl, if_neg (show ¬ ((counted c r l (audPort B p)).st != .locked) = true from hl)]
    by_cases hr : (rate != (audPort B p).rate) = true
    · rw [if_pos hr, if_pos (show (rate != (counted c r l (audPort B p)).rate) = true from hr)]; exact h.holds _
    · rw [if_neg hr, if_neg (show ¬ (rate != (counted c r l (audPort B p)).rate) = true from hr)]
      exact (h.holds (fun f => f.st == .running && carries inactive f)).take _ words

end

/-! ## What else a frame raises -/

theorem holdFlows_others (l : List Nat) (fmt : Nat) (s : State) {src : Nat} (h1 : src ≠ 0x001) (h2 : src ≠ 0x07C) :
    OtherRaises src s.flt (holdFlows l fmt s).flt := by
  obtain ⟨fl, h, -⟩ := holdFlows_reflowed l fmt s
  exact h.others h1 h2

theorem flushPort_flt (p : Nat) (s : State) : (flushPort p s).flt = s.flt := by
  obtain ⟨a, h⟩ := flushPort_flushes p s
  rw [h]; rfl

theorem judgePort_others (p dir : Nat) (t : Int) (s : State) {src : Nat} (h1 : src ≠ 0x001) (h2 : src ≠ 0x07C) (h3 : src ≠ 0x162) (h4 : src ≠ 0x161) :
    OtherRaises src s.flt (judgePort p dir t s).flt := by
  by_cases ha : (audPort s p).st = .acquire
  · rw [judgePort_acquire ha]
    split
    · exact .refl _ _
    · exact otherRaises_raise (lockEvent _ _) (setAudPort _ _ s) rfl rfl h3
  · by_cases hl : (audPort s p).st = .locked
    · rw [judgePort_locked hl]
      split
      · refine OtherRaises.trans ?_ (otherRaises_raise (slipEvent p dir (phiNow (audPort s p) t - (audPort s p).phi0)) (setAudPort p _ _) rfl rfl h4)
        have h := holdFlows_others (portFlows (flushPort p (setAudPort p { audPort s p with phi := phiNow (audPort s p) t } s)) 0 4 p (fun f => f.st == .running)) 0xFFFF
          (flushPort p (setAudPort p { audPort s p with phi := phiNow (audPort s p) t } s)) h1 h2
        rw [flushPort_flt] at h
        exact h
      · exact .refl _ _
    · rw [judgePort_idle ha hl]; exact .refl _ _

theorem hearFrame_others (p stamp : Nat) (words inactive : List Nat) (rate : Nat) (s : State) {src : Nat} (h1 : src ≠ 0x001) (h2 : src ≠ 0x07C) :
    OtherRaises src s.flt (hearFrame p stamp words inactive rate s).flt := by
  unfold hearFrame
  split
  · exact .refl _ _
  · split
    · exact holdFlows_others _ _ s h1 h2
    · rw [takeFrame_eq]
      have h := holdFlows_others (portFlows s 0 4 p (fun f => f.st == .running && carries inactive f)) 0xFFFF s h1 h2
      generalize holdFlows (portFlows s 0 4 p (fun f => f.st == .running && carries inactive f)) 0xFFFF s = u at h
      obtain ⟨a, e⟩ := writeDue_inp p (audPort u p).rampUp ((guarded p (audPort u p) (nearPeriod (audRate (audPort s p)) ((stamp : Int) - (audPort s p).rxOffset - (audPort s p).phi0)).toNat words).filter
        (fun e => decide (e.1 + 24 ≤ (nearPeriod (audRate (audPort s p)) ((stamp : Int) - (audPort s p).rxOffset - (audPort s p).phi0)).toNat))) u
      rw [e]
      exact h

theorem hears_others (p stamp : Nat) (words inactive : List Nat) (rate : Nat) (off : Int) (s : State) {src : Nat} (h1 : src ≠ 0x001) (h2 : src ≠ 0x07C)
    (h3 : src ≠ 0x162) (h4 : src ≠ 0x161) : OtherRaises src s.flt (hears p stamp words inactive rate off s).flt :=
  (judgePort_others p 0 _ s h1 h2 h3 h4).trans (hearFrame_others p stamp words inactive rate _ h1 h2)

end Sys2Proof.Machine

namespace Sys2Proof.Machine
open Sys2Proof

/-! ## The commands of the audio ports (R285, R290, R291) -/

/-- A port as its descriptor sets it. -/
def describedPort (l : List Byte) (x : AudPort) : AudPort :=
  { x with mode := fieldAt l 1 1, clock := fieldAt l 2 1, justify := fieldAt l 3 1, rate := fieldAt l 4 1, dirs := fieldAt l 5 1 % 4, rxOffset := toSigned 32 (fieldAt l 8 4), txOffset := fieldAt l 12 4, st := if fieldAt l 1 1 = 0 then .disabled else .acquire, steady := 0, guard_ := [], rampUp := none, rampDown := none, txNext := 0 }

section
variable {c : Cmd} {s : State} {a p m : Nat} {img l : List Byte} {r : Reply}

theorem audPortSet_sets (hc : Clear s) (hm : m ≠ p) (hh : c.hostOk = true) (hl : l = hostBytes (place a img s) a 16) (hp : p = fieldAt l 0 1)
    (hk : firstErr (portChecks l a) = none) (hb : audPortBusy s p = false) : Completes (.audPortSet c a img) s (fun t => Replied c 0x0501 0 0 0 t ∧
      audPort t p = describedPort l (audPort s p) ∧ audPort t m = audPort s m ∧
      t = { s with aud := { s.aud with ports := t.aud.ports }, hif := t.hif, flt := t.flt, wire := t.wire, red := { s.red with jseq := t.red.jseq, jout := t.red.jout } }) := by
  obtain ⟨hf, hq, -⟩ := clear_place hc a img
  obtain ⟨q, o, hj⟩ := journal_journalled 0x12 (leBytes 1 1 ++ portBytes p (describedPort l (audPort s p))) (setAudPort p (describedPort l (audPort s p)) (place a img s))
  have hcp := clear_place hc a img
  subst hl hp
  refine completes_ends (c := c) (op := 0x0501) (st := 0) (k := 0) (e := 0)
    (u := journalled q o (setAudPort _ (describedPort _ (audPort s _)) (place a img s))) rfl
    (checked_done ?_ (congrArg (Prod.mk replyDone) hj) hcp hf hq) fun h f w hr => ⟨hr, tgetD_tput_same _ _ _ _, tgetD_tput_ne _ _ _ hm, rfl⟩
  refine (firstErr_append _ _).trans ?_
  rw [firstErr_pass (by rw [hh]; rfl), hk]
  exact firstErr_pass hb

theorem audPortSet_busy (hc : Clear s) (hh : c.hostOk = true) (hl : l = hostBytes (place a img s) a 16) (hp : p = fieldAt l 0 1)
    (hk : firstErr (portChecks l a) = none) (hb : audPortBusy s p = true) : Completes (.audPortSet c a img) s (Fails c 0x0501 0x20 0 (place a img s)) := by
  subst hl hp
  refine ⟨_, rfl, checked_fails ?_ (clear_place hc a img)⟩
  refine (firstErr_append _ _).trans ?_
  rw [firstErr_pass (by rw [hh]; rfl), hk]
  exact firstErr_fail hb

theorem audPortSet_refused (hc : Clear s) (hh : c.hostOk = true) (hl : l = hostBytes (place a img s) a 16)
    (hk : firstErr (portChecks l a) = some r) : Completes (.audPortSet c a img) s (fun t => SameBlock (place a img s) t ∧ Replied c 0x0501 r.st r.result r.err t) := by
  subst hl
  refine ⟨_, rfl, checked_refused ?_ (clear_place hc a img)⟩
  refine (firstErr_append _ _).trans ?_
  rw [firstErr_pass (by rw [hh]; rfl), hk]
  rfl

theorem audPortRead_reads (hc : Clear s) (hp : p ≤ 39) (hh : c.hostOk = true) :
    Completes (.audPortRead c p a) s (EndsDone c 0x0502 0 (hostWrite a (portBytes p (audPort s p)) s)) := by
  obtain ⟨hf, hq, -⟩ := clear_place hc a (portBytes p (audPort s p))
  exact ⟨_, rfl, checked_done (firstErr_pass (decide_eq_false (Nat.not_lt.mpr hp))) (readBack_ok hh a _ s) hc hf hq⟩

theorem audPortResume_resumes (hc : Clear s) (hm : m ≠ p) (hp : p ≤ 39) (hst : (audPort s p).st = .lost ∨ (audPort s p).st = .slipped) :
    Completes (.audPortResume c p) s (fun t => Replied c 0x0503 0 0 0 t ∧
      audPort t p = { audPort s p with st := .acquire, steady := 0, guard_ := [], rampDown := none } ∧ audPort t m = audPort s m ∧
      t = { s with aud := { s.aud with ports := t.aud.ports }, hif := t.hif, flt := t.flt, wire := t.wire }) := by
  refine completes_ends (c := c) (op := 0x0503) (st := 0) (k := 0) (e := 0) rfl
    (checked_done (u := setAudPort p { audPort s p with st := .acquire, steady := 0, guard_ := [], rampDown := none } s)
      ((firstErr_pass (decide_eq_false (Nat.not_lt.mpr hp))).trans (firstErr_pass ?_)) rfl hc hc.1 hc.2.1)
    fun h f w hr => ⟨hr, tgetD_tput_same _ _ _ _, tgetD_tput_ne _ _ _ hm, rfl⟩
  rcases hst with h | h
  · rw [h]; rfl
  · rw [h]; rfl

theorem audPortResume_denied (hc : Clear s) (hp : p ≤ 39) (hst : (audPort s p).st = .disabled ∨ (audPort s p).st = .acquire ∨ (audPort s p).st = .locked) :
    Completes (.audPortResume c p) s (Fails c 0x0503 0x20 0 s) := by
  refine ⟨_, rfl, checked_fails ((firstErr_pass (decide_eq_false (Nat.not_lt.mpr hp))).trans (firstErr_fail ?_)) hc⟩
  rcases hst with h | h | h
  · rw [h]; rfl
  · rw [h]; rfl
  · rw [h]; rfl

end

/-! ## Loss of a port's clock (R290) -/

section
variable {s : State} {p m : Nat}

theorem opAudClockLoss_locked (hp : p ≤ 39) (ho : ownClock p (audPort s p) = false) (h : (audPort s p).st = .locked) :
    opAudClockLoss p s = raise { src := 0x160, data := [(1, p)] }
      (setAudPort p { audPort (flushPort p s) p with st := .lost, clockHere := false } (flushPort p s)) := by
  unfold opAudClockLoss
  dsimp only
  rw [if_neg (by simp [ho, h, Nat.not_lt.mpr hp])]
  split
  · rfl
  · next e => rw [h] at e; cases e
  · next e _ => exact absurd h e

theorem audClockLoss_loses (hc : Clear s) (hm : m ≠ p) (hp : p ≤ 39) (ho : ownClock p (audPort s p) = false) (h : (audPort s p).st = .locked) :
    Completes (.audClockLoss p) s (fun t => (audPort t p).st = .lost ∧ (audPort t p).clockHere = false ∧
      (audPort t p).guard_ = [] ∧ Raised 0x160 [(1, p)] 0 s t ∧ audPort t m = audPort s m ∧
      t = { s with aud := { s.aud with ports := t.aud.ports, inp := t.aud.inp }, flt := t.flt }) := by
  obtain ⟨b, hb⟩ := flushPort_flushes p s
  have hv := opAudClockLoss_locked hp ho h
  rw [hb, audPort_set_same] at hv
  let u := setAudPort p { audPort s p with guard_ := [], st := .lost, clockHere := false }
    (setAudPort p { audPort s p with guard_ := [] } { s with aud := { s.aud with inp := b } })
  have hx : audPort u p = { audPort s p with guard_ := [], st := .lost, clockHere := false } := audPort_set_same _ _ _
  have hr : Raised 0x160 [(1, p)] 0 s (raise { src := 0x160, data := [(1, p)] } u) := raise_raised { src := 0x160, data := [(1, p)] } u rfl
  refine completes_of rfl hv ((raise_resetQ { src := 0x160, data := [(1, p)] } u rfl).trans hc.2.1) ⟨?_, ?_, ?_, hr, ?_, rfl⟩
  · exact congrArg AudPort.st hx
  · exact congrArg AudPort.clockHere hx
  · exact congrArg AudPort.guard_ hx
  · exact (audPort_set_ne hm _ _).trans (audPort_set_ne hm _ _)

theorem audClockLoss_acquire (hc : Clear s) (hm : m ≠ p) (hp : p ≤ 39) (ho : ownClock p (audPort s p) = false) (h : (audPort s p).st = .acquire) :
    Completes (.audClockLoss p) s (fun t => audPort t p = { audPort s p with clockHere := false, steady := 0 } ∧ audPort t m = audPort s m ∧
      t = { s with aud := { s.aud with ports := t.aud.ports } }) := by
  have hv : opAudClockLoss p s = setAudPort p { audPort s p with clockHere := false, steady := 0 } s := by
    unfold opAudClockLoss
    dsimp only
    rw [if_neg (by simp [ho, h, Nat.not_lt.mpr hp])]
    split
    · next e => rw [h] at e; cases e
    · rfl
    · next e => exact absurd h e
  exact completes_of rfl hv hc.2.1 ⟨audPort_set_same _ _ _, audPort_set_ne hm _ _, rfl⟩

end

/-! ## Frames sent by an audio port (R287, R288, R290, R291) -/

/-- A frame of period `n` sent by port `p`, whose port is `x`. -/
def sendFrame (p n : Nat) (x : AudPort) (s : State) : State :=
  setAudPort p { x with txNext := n + 1, rampDown := x.rampDown.map (fun q => q + 1) }
    { s with wire := s.wire ++ [.audio p n ((List.range (audChannels p x)).map (portSends s p n))
      (if p < 32 then [] else (List.range (audChannels p x)).filter (fun q => (txFlow s p q).isNone))] }

/-- The word-select edge of a slave that only sends, judged for lock and slip. -/
def judgedEdge (p : Nat) (t : Int) (s : State) : State :=
  if wsSlave p (audPort s p) && !bit (audPort s p).dirs 0 && (audPort s p).st != .disabled then judgePort p 1 t s else s

/-- The period that port `x` sends next: after its last one, or, for a slave, the one its edge at `t` is nearest to. -/
def nextPeriod (slave : Bool) (t : Int) (x : AudPort) (now : Nat) : Nat :=
  if slave then (nearPeriod (audRate x) t - 2).toNat else max x.txNext (nearPeriod (audRate x) ((now : Int) - (x.txOffset : Int)) - 2).toNat

/-- The next period sent, where the port sends. -/
def sendNext (p : Nat) (slave : Bool) (t : Int) (s : State) : State :=
  if 39 < p || (audPort s p).st == .disabled || !bit (audPort s p).dirs 1 || !bit (rd s .audCfg 0) 31 || (slave && (audPort s p).st == .lost && !(audPort s p).clockHere) || !drives s then s
  else sendFrame p (nextPeriod slave t (audPort s p) s.tim.now) (audPort s p)
    (if slave then s else atLeast (periodStart (audRate (audPort s p)) (nextPeriod slave t (audPort s p) s.tim.now + 2) + (audPort s p).txOffset) s)

theorem opAudPortFrameTx_eq (p stamp : Nat) (s : State) (h : wsSlave p (audPort s p) = false ∨ bit (audPort s p).dirs 0 = true) :
    opAudPortFrameTx p stamp s = sendNext p (wsSlave p (audPort s p)) ((stamp : Int) - ((audPort s p).txOffset : Int)) s := by
  have hj : judgedEdge p ((stamp : Int) - ((audPort s p).txOffset : Int)) s = s := if_neg (by rcases h with h | h <;> simp [h])
  have he : opAudPortFrameTx p stamp s = sendNext p (wsSlave p (audPort s p)) ((stamp : Int) - ((audPort s p).txOffset : Int))
      (judgedEdge p ((stamp : Int) - ((audPort s p).txOffset : Int)) s) := rfl
  rw [he, hj]

section
variable {s : State} {p m n stamp : Nat}

theorem audPortFrameTx_paces (hc : Clear s) (hm : m ≠ p) (hp : p ≤ 39) (hd : bit (audPort s p).dirs 1 = true) (hb : bit (rd s .audCfg 0) 31 = true)
    (hdr : drives s = true) (hst : (audPort s p).st ≠ .disabled) (hw : wsSlave p (audPort s p) = false)
    (hn : n = max (audPort s p).txNext (nearPeriod (audRate (audPort s p)) ((s.tim.now : Int) - ((audPort s p).txOffset : Int)) - 2).toNat) :
    Completes (.audPortFrameTx p stamp) s (fun t => t.tim.now = max s.tim.now (periodStart (audRate (audPort s p)) (n + 2) + (audPort s p).txOffset) ∧
      audPort t p = { audPort s p with txNext := n + 1, rampDown := (audPort s p).rampDown.map (fun q => q + 1) } ∧ audPort t m = audPort s m ∧
      t = { s with tim := { s.tim with now := t.tim.now }, aud := { s.aud with ports := t.aud.ports }, wire := s.wire ++ [.audio p n ((List.range (audChannels p (audPort s p))).map (portSends s p n)) (if p < 32 then [] else (List.range (audChannels p (audPort s p))).filter (fun q => (txFlow s p q).isNone))] }) := by
  have hv : opAudPortFrameTx p stamp s = sendFrame p n (audPort s p) (atLeast (periodStart (audRate (audPort s p)) (n + 2) + (audPort s p).txOffset) s) := by
    rw [opAudPortFrameTx_eq p stamp s (Or.inl hw), hw, hn]
    exact if_neg (by simp [Nat.not_lt.mpr hp, hst, hd, hb, hdr])
  exact completes_of rfl hv hc.2.1 ⟨rfl, audPort_set_same _ _ _, audPort_set_ne hm _ _, rfl⟩

theorem audPortFrameTx_follows (hc : Clear s) (hp : p ≤ 39) (hd : bit (audPort s p).dirs 1 = true) (hb : bit (rd s .audCfg 0) 31 = true)
    (hdr : drives s = true) (hw : wsSlave p (audPort s p) = true) (h0 : bit (audPort s p).dirs 0 = true) (hst : (audPort s p).st = .locked)
    (hn : n = (nearPeriod (audRate (audPort s p)) ((stamp : Int) - ((audPort s p).txOffset : Int)) - 2).toNat) :
    Completes (.audPortFrameTx p stamp) s (fun t => t.tim.now = s.tim.now ∧ t.wire = s.wire ++ [.audio p n ((List.range (audChannels p (audPort s p))).map (portSends s p n))
      (if p < 32 then [] else (List.range (audChannels p (audPort s p))).filter (fun q => (txFlow s p q).isNone))]) := by
  have hv : opAudPortFrameTx p stamp s = sendFrame p n (audPort s p) s := by
    rw [opAudPortFrameTx_eq p stamp s (Or.inr h0), hw, hn]
    exact if_neg (by simp [Nat.not_lt.mpr hp, hst, hd, hb, hdr])
  exact completes_of rfl hv hc.2.1 ⟨rfl, rfl⟩

theorem audPortFrameTx_clockless (hc : Clear s) (hw : wsSlave p (audPort s p) = true) (h0 : bit (audPort s p).dirs 0 = true)
    (hst : (audPort s p).st = .lost) (hk : (audPort s p).clockHere = false) : Completes (.audPortFrameTx p stamp) s (fun t => t = s) := by
  have hv : opAudPortFrameTx p stamp s = s := by
    rw [opAudPortFrameTx_eq p stamp s (Or.inr h0), hw]
    exact if_pos (by simp [hst, hk])
  exact completes_of rfl hv hc.2.1 rfl

theorem audPortFrameTx_silent (hc : Clear s) (hw : wsSlave p (audPort s p) = false) (h : drives s = false ∨ (audPort s p).st = .disabled) :
    Completes (.audPortFrameTx p stamp) s (fun t => t = s) := by
  have hv : opAudPortFrameTx p stamp s = s := by
    rw [opAudPortFrameTx_eq p stamp s (Or.inl hw)]
    exact if_pos (by rcases h with h | h <;> simp [h])
  exact completes_of rfl hv hc.2.1 rfl

theorem portSends_locked {k : Nat} (h : (audPort s p).st = .locked) (hu : (audPort s p).rampUp = none) : portSends s p n k = txWord s p n k := by
  unfold portSends
  dsimp only
  rw [h, hu]

theorem portSends_acquire {k : Nat} (h : (audPort s p).st = .acquire) (hd : bit (audPort s p).dirs 0 = true) : portSends s p n k = 0 := by
  unfold portSends
  dsimp only
  rw [h, hd]
  rfl

theorem portSends_lost {k : Nat} (h : (audPort s p).st = .lost) : portSends s p n k = 0 := by
  unfold portSends
  dsimp only
  rw [h]

end

end Sys2Proof.Machine

namespace Sys2Proof.Machine
open Sys2Proof

/-! ## What a received frame does to its port (R286 to R291) -/

theorem steadied_first {x : AudPort} (h : x.steady = 0) (phi : Int) : steadied x phi = { x with steady := 1, phiLo := phi, phiHi := phi } :=
  if_neg (by simp [h])

theorem steadied_next {x : AudPort} {phi : Int} (h : x.steady ≠ 0) (hf : 8 * (max x.phiHi phi - min x.phiLo phi) * (audRate x : Int) ≤ 1000000000) :
    steadied x phi = { x with steady := x.steady + 1, phiLo := min x.phiLo phi, phiHi := max x.phiHi phi } :=
  if_pos (by simp [h, hf])

section
variable {s : State} {p m k n stamp rate a ce cc : Nat} {words inactive : List Nat} {phi : Int}

theorem audPortFrameRx_off (hc : Clear s) (h : 39 < p ∨ (audPort s p).st = .disabled ∨ bit (audPort s p).dirs 0 = false ∨ bit (rd s .audCfg 0) 31 = false) :
    Completes (.audPortFrameRx p stamp words [] rate 0 0) s (fun t => t = s) :=
  completes_of rfl (if_pos (by rcases h with h | h | h | h <;> simp [h])) hc.2.1 rfl

/-- The port as a frame without errors leaves its counts. -/
theorem audPort_countErrors (p ce cc : Nat) (s : State) : audPort (countErrors p ce cc s) p =
    counted (satAdd 16 (audPort s p).coding ce) (satAdd 16 (audPort s p).crcc cc) (recentErrors p ce s) (audPort s p) := audPort_set_same _ _ _

theorem audPort_countErrors_ne (hm : m ≠ p) : audPort (countErrors p ce cc s) m = audPort s m := audPort_set_ne hm _ _

variable (hc : Clear s) (hm : m ≠ p) (hp : p ≤ 39) (hd : bit (audPort s p).dirs 0 = true) (hb : bit (rd s .audCfg 0) 31 = true)
include hp hd hb

theorem opAudPortFrameRx_counts (hst : (audPort s p).st ≠ .disabled) : opAudPortFrameRx p stamp words inactive rate 0 0 s =
    hears p stamp words inactive rate (audPort s p).rxOffset (countErrors p 0 0 s) := opAudPortFrameRx_hears hp hst hd hb

include hc hm

theorem audPortFrameRx_begins (hst : (audPort s p).st = .acquire) (hphi : phi = phaseOf (audRate (audPort s p)) ((stamp : Int) - (audPort s p).rxOffset))
    (h0 : (audPort s p).steady = 0) : Completes (.audPortFrameRx p stamp words [] rate 0 0) s (fun t => (audPort t p).st = .acquire ∧ (audPort t p).steady = 1 ∧
      (audPort t p).phiLo = phi ∧ (audPort t p).phiHi = phi ∧ audPort t m = audPort s m ∧ t = { s with aud := { s.aud with ports := t.aud.ports } }) := by
  have hx := audPort_countErrors p 0 0 s
  generalize hxe : counted _ _ _ (audPort s p) = x at hx
  have hst' : x.st = .acquire := by rw [← hxe]; exact hst
  have hphi' : phi = phaseOf (audRate x) ((stamp : Int) - (audPort s p).rxOffset) := by rw [← hxe]; exact hphi
  have hy := steadied_first (x := x) (by rw [← hxe]; exact h0) phi
  have hv := (opAudPortFrameRx_counts (stamp := stamp) (words := words) (inactive := []) (rate := rate) hp hd hb (by rw [hst]; nofun)).trans
    (hears_steadies hx hst' (hphi' ▸ hy) (show 1 < 48 by decide))
  refine completes_of rfl hv hc.2.1 ⟨?_, ?_, ?_, ?_, (audPort_set_ne hm _ _).trans (audPort_countErrors_ne hm), rfl⟩
  · exact (congrArg AudPort.st (audPort_set_same _ _ _)).trans hst'
  · exact congrArg AudPort.steady (audPort_set_same _ _ _)
  · exact (congrArg AudPort.phiLo (audPort_set_same _ _ _)).trans hphi'.symm
  · exact (congrArg AudPort.phiHi (audPort_set_same _ _ _)).trans hphi'.symm

theorem audPortFrameRx_extends (hst : (audPort s p).st = .acquire) (hphi : phi = phaseOf (audRate (audPort s p)) ((stamp : Int) - (audPort s p).rxOffset))
    (h0 : (audPort s p).steady ≠ 0) (hf : 8 * (max (audPort s p).phiHi phi - min (audPort s p).phiLo phi) * (audRate (audPort s p) : Int) ≤ 1000000000)
    (h47 : (audPort s p).steady < 47) : Completes (.audPortFrameRx p stamp words [] rate 0 0) s (fun t => (audPort t p).st = .acquire ∧
      (audPort t p).steady = (audPort s p).steady + 1 ∧ audPort t m = audPort s m ∧ t = { s with aud := { s.aud with ports := t.aud.ports } }) := by
  have hx := audPort_countErrors p 0 0 s
  generalize hxe : counted _ _ _ (audPort s p) = x at hx
  have hst' : x.st = .acquire := by rw [← hxe]; exact hst
  have hphi' : phi = phaseOf (audRate x) ((stamp : Int) - (audPort s p).rxOffset) := by rw [← hxe]; exact hphi
  have hsteady : x.steady = (audPort s p).steady := by rw [← hxe]; rfl
  have hy := steadied_next (x := x) (phi := phi) (by rw [hsteady]; exact h0) (by rw [← hxe]; exact hf)
  have hv := (opAudPortFrameRx_counts (stamp := stamp) (words := words) (inactive := []) (rate := rate) hp hd hb (by rw [hst]; nofun)).trans
    (hears_steadies hx hst' (hphi' ▸ hy) (show x.steady + 1 < 48 by omega))
  refine completes_of rfl hv hc.2.1 ⟨?_, ?_, (audPort_set_ne hm _ _).trans (audPort_countErrors_ne hm), rfl⟩
  · exact (congrArg AudPort.st (audPort_set_same _ _ _)).trans hst'
  · exact (congrArg AudPort.steady (audPort_set_same _ _ _)).trans (congrArg (· + 1) hsteady)

theorem audPortFrameRx_locks (hst : (audPort s p).st = .acquire) (hphi : phi = phaseOf (audRate (audPort s p)) ((stamp : Int) - (audPort s p).rxOffset))
    (h0 : (audPort s p).steady ≠ 0) (hf : 8 * (max (audPort s p).phiHi phi - min (audPort s p).phiLo phi) * (audRate (audPort s p) : Int) ≤ 1000000000)
    (h47 : 47 ≤ (audPort s p).steady) (hr : rate = (audPort s p).rate) : Completes (.audPortFrameRx p stamp words [] rate 0 0) s (fun t =>
      (audPort t p).st = .locked ∧ (audPort t p).phi0 = phi ∧ (audPort t p).rampUp = some (periodAt (audRate (audPort s p)) s.tim.now + 1) ∧
      Raised 0x162 [(1, p), (4, ofSigned 32 phi)] 0 s t ∧ audPort t m = audPort s m ∧ t = { s with aud := { s.aud with ports := t.aud.ports }, flt := t.flt }) := by
  have hx := audPort_countErrors p 0 0 s
  generalize hxe : counted _ _ _ (audPort s p) = x at hx
  have hst' : x.st = .acquire := by rw [← hxe]; exact hst
  have hphi' : phi = phaseOf (audRate x) ((stamp : Int) - (audPort s p).rxOffset) := by rw [← hxe]; exact hphi
  have hsteady : x.steady = (audPort s p).steady := by rw [← hxe]; rfl
  have hrate : audRate x = audRate (audPort s p) := by rw [← hxe]; rfl
  have hy := steadied_next (x := x) (phi := phi) (by rw [hsteady]; exact h0) (by rw [← hxe]; exact hf)
  obtain ⟨g, hg⟩ := hears_locks (s := countErrors p 0 0 s) (words := words) (stamp := stamp) (off := (audPort s p).rxOffset) hx hst' hphi' hy
    (show ¬ x.steady + 1 < 48 by omega) (show rate = x.rate by rw [← hxe]; exact hr)
  have hv := (opAudPortFrameRx_counts (stamp := stamp) (words := words) (inactive := []) (rate := rate) hp hd hb (by rw [hst]; nofun)).trans hg
  generalize hpo : lockedPort (countErrors p 0 0 s).tim.now phi _ = y at hv
  have hq : (raise (lockEvent p phi) (setAudPort p y (countErrors p 0 0 s))).flt.resetQ = [] :=
    (raise_resetQ (lockEvent p phi) (setAudPort p y (countErrors p 0 0 s)) rfl).trans hc.2.1
  have hra : Raised 0x162 [(1, p), (4, ofSigned 32 phi)] 0 s (raise (lockEvent p phi) (setAudPort p y (countErrors p 0 0 s))) :=
    raise_raised (lockEvent p phi) (setAudPort p y (countErrors p 0 0 s)) rfl
  refine completes_of rfl hv hq ⟨?_, ?_, ?_, hra, ?_, rfl⟩
  · exact (congrArg AudPort.st (audPort_set_same _ _ _)).trans (by rw [← hpo]; rfl)
  · exact (congrArg AudPort.phi0 (audPort_set_same _ _ _)).trans (by rw [← hpo]; rfl)
  · exact (congrArg AudPort.rampUp (audPort_set_same _ _ _)).trans (by rw [← hpo, ← hrate]; rfl)
  · exact ((audPort_set_ne hm _ _).trans (audPort_set_ne hm _ _)).trans (audPort_countErrors_ne hm)

theorem audPortFrameRx_slips (hst : (audPort s p).st = .locked) (hphi : phi = phaseOf (audRate (audPort s p)) ((stamp : Int) - (audPort s p).rxOffset - (audPort s p).phi0))
    (hs : 1000000000 < 4 * phi.natAbs * audRate (audPort s p)) : Completes (.audPortFrameRx p stamp words [] rate 0 0) s (fun t =>
      (audPort t p).st = .slipped ∧ (audPort t p).rampDown = some 0 ∧ Raised 0x161 [(1, p), (1, 0), (4, ofSigned 32 phi)] 0 s t ∧
      (nsOf k = 0 → (flow? s k).isSome = true → (flowD s k).endpoint = 4 → (flowD s k).port = p → (flowD s k).st = .running → (flowD s k).stop = none → (flowD t k).st = .held) ∧
      audPort t m = audPort s m ∧ t = { s with aud := { s.aud with ports := t.aud.ports, inp := t.aud.inp }, flows := t.flows, hif := t.hif, flt := t.flt, wire := t.wire, red := { s.red with jseq := t.red.jseq, jout := t.red.jout } }) := by
  have hx := audPort_countErrors p 0 0 s
  have hv := (opAudPortFrameRx_counts (stamp := stamp) (words := words) (inactive := []) (rate := rate) hp hd hb (by rw [hst]; nofun)).trans
    (hears_slips (by rw [hx]; exact hst) (phi := phi) (by rw [hx]; exact hphi) (by rw [hx]; exact hs))
  generalize hw : setAudPort p _ (countErrors p 0 0 s) = w at hv
  obtain ⟨b, hfl⟩ := flushPort_flushes p w
  obtain ⟨fl, hre, hheld⟩ := slipFlows_holds p (flushPort p w)
  have hout : OtherRaises 0x161 s.flt (slipFlows p (flushPort p w)).flt := by
    have h := hre.others (src := 0x161) (by decide) (by decide)
    rw [flushPort_flt, ← hw] at h
    rw [← hw]; exact h
  have hflow : ∀ j, flow? (flushPort p w) j = flow? s j := fun j => by rw [hfl, ← hw]; rfl
  have hflowD : ∀ j, flowD (flushPort p w) j = flowD s j := fun j => by rw [hfl, ← hw]; rfl
  have hmm : audPort (flushPort p w) m = audPort s m := by
    rw [hfl, audPort_set_ne hm, ← hw]; exact (audPort_set_ne hm _ _).trans (audPort_countErrors_ne hm)
  obtain ⟨q, o, hh, f, wi, he, -, -⟩ := hre
  have hra : Raised 0x161 [(1, p), (1, 0), (4, ofSigned 32 phi)] 0 s (noteSlip p 0 phi (slipFlows p (flushPort p w))) :=
    (raise_raised (slipEvent p 0 phi) (setAudPort p { audPort (slipFlows p (flushPort p w)) p with st := .slipped, rampDown := some 0 } (slipFlows p (flushPort p w))) rfl).after hout
  have hq : (noteSlip p 0 phi (slipFlows p (flushPort p w))).flt.resetQ = [] :=
    (raise_resetQ (slipEvent p 0 phi) (setAudPort p { audPort (slipFlows p (flushPort p w)) p with st := .slipped, rampDown := some 0 } (slipFlows p (flushPort p w))) rfl).trans
      (hout.1.trans hc.2.1)
  refine completes_of rfl hv hq ⟨?_, ?_, hra, fun hn hk he' hpo hr hs' => ?_, ?_, ?_⟩
  · exact congrArg AudPort.st (audPort_set_same _ _ _)
  · exact congrArg AudPort.rampDown (audPort_set_same _ _ _)
  · exact hheld k hn ((hflow k).symm ▸ hk) (by rw [hflowD]; exact he') (by rw [hflowD]; exact hpo) (by rw [hflowD]; exact hr) (by rw [hflowD]; exact hs')
  · refine (audPort_set_ne hm _ _).trans ?_
    rw [he]; exact hmm
  · rw [he, hfl, ← hw]; rfl

theorem audPortFrameRx_mistimed (hst : (audPort s p).st = .locked) (hphi : phi = phaseOf (audRate (audPort s p)) ((stamp : Int) - (audPort s p).rxOffset - (audPort s p).phi0))
    (hs : 4 * phi.natAbs * audRate (audPort s p) ≤ 1000000000) (hr : rate ≠ (audPort s p).rate) : Completes (.audPortFrameRx p stamp words [] rate 0 0) s (fun t =>
      (audPort t p).st = .locked ∧
      (nsOf k = 0 → (flow? s k).isSome = true → (flowD s k).endpoint = 4 → (flowD s k).port = p → (flowD s k).st = .running → (flowD s k).stop = none → (flowD t k).st = .held) ∧
      audPort t m = audPort s m ∧ t = { s with aud := { s.aud with ports := t.aud.ports }, flows := t.flows, hif := t.hif, flt := t.flt, wire := t.wire, red := { s.red with jseq := t.red.jseq, jout := t.red.jout } }) := by
  have hx := audPort_countErrors p 0 0 s
  have hv := (opAudPortFrameRx_counts (stamp := stamp) (words := words) (inactive := []) (rate := rate) hp hd hb (by rw [hst]; nofun)).trans
    (hears_mistimed (by rw [hx]; exact hst) (phi := phi) (by rw [hx]; exact hphi) (by rw [hx]; exact hs) (by rw [hx]; exact hr))
  obtain ⟨y, hy, hys⟩ : ∃ y, { audPort (countErrors p 0 0 s) p with phi := (audPort (countErrors p 0 0 s) p).phi0 + phi, clockHere := true } = y ∧ y.st = .locked :=
    ⟨_, rfl, by rw [hx]; exact hst⟩
  rw [hy] at hv
  obtain ⟨fl, hre, hheld⟩ := slipFlows_holds p (setAudPort p y (countErrors p 0 0 s))
  have hq : (slipFlows p (setAudPort p y (countErrors p 0 0 s))).flt.resetQ = [] := hre.resetQ.trans hc.2.1
  obtain ⟨q, o, hh, f, wi, he, -, -⟩ := hre
  refine completes_of rfl hv hq ⟨?_, hheld k, ?_, ?_⟩
  · rw [he]; exact (congrArg AudPort.st (audPort_set_same _ _ _)).trans hys
  · rw [he]; exact (audPort_set_ne hm _ _).trans (audPort_countErrors_ne hm)
  · rw [he]; rfl

theorem audPortFrameRx_guards (hst : (audPort s p).st = .locked) (hphi : phi = phaseOf (audRate (audPort s p)) ((stamp : Int) - (audPort s p).rxOffset - (audPort s p).phi0))
    (hs : 4 * phi.natAbs * audRate (audPort s p) ≤ 1000000000) (hr : rate = (audPort s p).rate) (hg : (audPort s p).guard_ = [])
    (hn : n = ((2 * ((stamp : Int) - (audPort s p).rxOffset - (audPort s p).phi0) * (audRate (audPort s p) : Int) + 1000000000) / 2000000000).toNat) :
    Completes (.audPortFrameRx p stamp words [] rate 0 0) s (fun t => (audPort t p).st = .locked ∧ (audPort t p).phi = (audPort s p).phi0 + phi ∧
      (audPort t p).guard_ = [(n, words.map (portWord p (audPort s p) n))] ∧ audPort t m = audPort s m ∧ t = { s with aud := { s.aud with ports := t.aud.ports } }) := by
  have hx := audPort_countErrors p 0 0 s
  obtain ⟨n', hn', hin⟩ := hears_inStep (s := countErrors p 0 0 s) (stamp := stamp) (words := words) (inactive := []) (rate := rate) (off := (audPort s p).rxOffset)
    (by rw [hx]; exact hst) (phi := phi) (by rw [hx]; exact hphi) (by rw [hx]; exact hs) (by rw [hx]; exact hr)
  have hnn : n' = n := by rw [hn', hn, hx]; rfl
  subst hnn
  rw [holdFlows_none, takeFrame_guards (by rw [audPort_set_same, hx]; exact hg), audPort_set_same, hx] at hin
  have hv := (opAudPortFrameRx_counts (stamp := stamp) (words := words) (inactive := []) (rate := rate) hp hd hb (by rw [hst]; nofun)).trans hin
  refine completes_of rfl hv hc.2.1 ⟨?_, ?_, ?_, ?_, rfl⟩
  · exact (congrArg AudPort.st (audPort_set_same _ _ _)).trans hst
  · exact congrArg AudPort.phi (audPort_set_same _ _ _)
  · exact congrArg AudPort.guard_ (audPort_set_same _ _ _)
  · exact ((audPort_set_ne hm _ _).trans (audPort_set_ne hm _ _)).trans (audPort_countErrors_ne hm)

theorem audPortFrameRx_errors (hst : (audPort s p).st ≠ .disabled) : Completes (.audPortFrameRx p stamp words [] rate ce cc) s (fun t =>
      Completes (.audPortFrameRx p stamp words [] rate 0 0) s (fun v => t = { v with aud := { v.aud with ports := t.aud.ports }, flt := t.flt } ∧
        audPort t p = { audPort v p with coding := min ((audPort s p).coding + ce) 65535, crcc := min ((audPort s p).crcc + cc) 65535, codingAt := (audPort t p).codingAt } ∧ audPort t m = audPort v m) ∧
      (ce ≠ 0 → s.flt.limit = [] → RaisedOnce 0x165 s t)) := by
  have hmark (ce cc : Nat) := ((codingErrors_marked p ce cc s).judge 0 ((stamp : Int) - (audPort s p).rxOffset)).hear stamp words [] rate
  have hres (ce cc : Nat) : (hears p stamp words [] rate (audPort s p).rxOffset (codingErrors p ce cc s)).flt.resetQ = [] :=
    ((hears_others p stamp words [] rate _ _ (src := 0) (by decide) (by decide) (by decide) (by decide)).1.trans (codingErrors_resetQ p ce cc s)).trans hc.2.1
  refine completes_of rfl (opAudPortFrameRx_hears hp hst hd hb) (hres ce cc) ⟨completes_of rfl (opAudPortFrameRx_hears hp hst hd hb) (hres 0 0) ⟨?_, ?_, ?_⟩, fun h0 hl => ?_⟩
  · obtain ⟨ps, g, h1, -⟩ := hmark ce cc
    obtain ⟨ps', g', h2, -⟩ := hmark 0 0
    unfold hears
    rw [h1, h2]; rfl
  · have h1 := (hmark ce cc).port
    have h2 := (hmark 0 0).port
    unfold hears
    rw [h1, h2]; rfl
  · exact ((hmark ce cc).other hm).trans ((hmark 0 0).other hm).symm
  · have hr := hears_others p stamp words [] rate (audPort s p).rxOffset (codingErrors p ce cc s) (src := 0x165) (by decide) (by decide) (by decide) (by decide)
    obtain ⟨u, he, hu⟩ : ∃ u, codingErrors p ce cc s = raise { src := 0x165, data := [(1, p), (4, sumBy (recentErrors p ce s) Prod.snd)] } u ∧ OtherRaises 0x165 s.flt u.flt :=
      ⟨_, ((codingErrors_eq p ce cc s).trans (if_neg h0)).trans (if_neg (by rw [show (countErrors p ce cc s).flt.limit = [] from hl]; exact Bool.false_ne_true)),
        rfl, rfl, List.prefix_refl _⟩
    rw [he] at hr ⊢
    exact hu.count rfl hr

omit hm in
theorem audPortFrameRx_inactive (hst : (audPort s p).st = .locked)
    (hs : 4 * (phaseOf (audRate (audPort s p)) ((stamp : Int) - (audPort s p).rxOffset - (audPort s p).phi0)).natAbs * audRate (audPort s p) ≤ 1000000000)
    (hr : rate = (audPort s p).rate) (hn : nsOf k = 0) (hk : (flow? s k).isSome = true) (he : (flowD s k).endpoint = 4) (hpo : (flowD s k).port = p)
    (hrun : (flowD s k).st = .running) (hstop : (flowD s k).stop = none) (h1 : fieldAt (flowD s k).params 0 1 ≤ a)
    (h2 : a < fieldAt (flowD s k).params 0 1 + (flowD s k).count) :
    Completes (.audPortFrameRx p stamp words [a] rate ce cc) s (fun t => (audPort t p).st = .locked ∧ (flowD t k).st = .held) := by
  have hA := codingErrors_marked p ce cc s
  have hx := hA.port
  obtain ⟨n', -, hin⟩ := hears_inStep (s := codingErrors p ce cc s) (stamp := stamp) (words := words) (inactive := [a]) (rate := rate) (off := (audPort s p).rxOffset)
    (by rw [hx]; exact hst) (phi := phaseOf (audRate (audPort s p)) ((stamp : Int) - (audPort s p).rxOffset - (audPort s p).phi0)) (by rw [hx]; rfl) (by rw [hx]; exact hs) (by rw [hx]; exact hr)
  have hres : (hears p stamp words [a] rate (audPort s p).rxOffset (codingErrors p ce cc s)).flt.resetQ = [] :=
    ((hears_others p stamp words [a] rate _ _ (src := 0) (by decide) (by decide) (by decide) (by decide)).1.trans (codingErrors_resetQ p ce cc s)).trans hc.2.1
  have hv := (opAudPortFrameRx_hears (stamp := stamp) (words := words) (inactive := [a]) (rate := rate) (ce := ce) (cc := cc) hp (by rw [hst]; nofun) hd hb)
  refine completes_of rfl hv hres ?_
  rw [hin]
  obtain ⟨y, hy, hys⟩ : ∃ y, { audPort (codingErrors p ce cc s) p with
      phi := (audPort (codingErrors p ce cc s) p).phi0 + phaseOf (audRate (audPort s p)) ((stamp : Int) - (audPort s p).rxOffset - (audPort s p).phi0)
      clockHere := true } = y ∧ y.st = .locked :=
    ⟨_, rfl, by rw [hx]; exact hst⟩
  rw [hy]
  have hflows : (codingErrors p ce cc s).flows = s.flows := by obtain ⟨ps, g, e, -⟩ := hA; rw [e]; rfl
  have hD : flowD (setAudPort p y (codingErrors p ce cc s)) k = flowD s k := congrArg (fun fl : Tab Flow => tgetD fl k {}) hflows
  have hlist : portFlows (codingErrors p ce cc s) 0 4 p (fun f => f.st == .running && carries [a] f) = portFlows s 0 4 p (fun f => f.st == .running && carries [a] f) := by
    unfold portFlows; rw [hflows]
  rw [hlist]
  have hmem : k ∈ portFlows s 0 4 p (fun f => f.st == .running && carries [a] f) :=
    mem_portFlows hk hn he hpo (by simp [hrun, carries, h1, h2])
  obtain ⟨fl, hre, -, hh⟩ := holdFlows_reflowed (portFlows s 0 4 p (fun f => f.st == .running && carries [a] f)) 0xFFFF (setAudPort p y (codingErrors p ce cc s))
  have hheld := hh k hmem (by rw [hD]; exact hrun) (by rw [hD]; exact hstop)
  have hfl := hre.flows
  have hport : audPort (holdFlows (portFlows s 0 4 p (fun f => f.st == .running && carries [a] f)) 0xFFFF (setAudPort p y (codingErrors p ce cc s))) p = y :=
    (congrArg (fun au : Aud => tgetD au.ports p {}) (holdFlows_aud _ _ _)).trans (audPort_set_same _ _ _)
  generalize holdFlows (portFlows s 0 4 p (fun f => f.st == .running && carries [a] f)) 0xFFFF (setAudPort p y (codingErrors p ce cc s)) = u at hfl hport
  rw [takeFrame_eq]
  obtain ⟨b, hb'⟩ := writeDue_inp p (audPort u p).rampUp ((guarded p (audPort u p) n' words).filter (fun e => decide (e.1 + 24 ≤ n'))) u
  rw [hb']
  refine ⟨(congrArg AudPort.st (audPort_set_same _ _ _)).trans ?_, ?_⟩
  · exact (congrArg AudPort.st hport).trans hys
  · show ((tget? u.flows k).getD {}).st = _
    rw [hfl, hheld]; rfl

end

/-- Settles O43: the commands by their checks, a received frame by what it does in each state of its port, and its error counts by
`Marked`, which goes through all of it. -/
theorem audioPortsLockSlipAndSend : Obligations.AudioPortsLockSlipAndSend := by
  unfold Obligations.AudioPortsLockSlipAndSend
  intro c s u a p m k n rate stamp phi words img l x r ce cc hc hu hx hm
  subst hu hx
  refine ⟨fun hh hl hp => ⟨audPortSet_sets hc hm hh hl hp, audPortSet_busy hc hh hl hp, fun hk _ => audPortSet_refused hc hh hl hk⟩,
    fun h => firstErr_fail (decide_eq_true h), audPortRead_reads hc,
    fun h => ⟨⟨_, rfl, checked_fails (firstErr_fail (decide_eq_true h)) hc⟩, ⟨_, rfl, checked_fails (firstErr_fail (decide_eq_true h)) hc⟩,
      completes_of rfl (if_pos (by simp [h])) hc.2.1 rfl, audPortFrameRx_off hc (.inl h)⟩,
    audPortResume_resumes hc hm, audPortResume_denied hc, audClockLoss_loses hc hm, audClockLoss_acquire hc hm,
    fun h => audPortFrameRx_off hc (.inr h),
    fun hp hd hb hst hphi => ⟨audPortFrameRx_begins hc hm hp hd hb hst hphi, fun h0 hf => ⟨audPortFrameRx_extends hc hm hp hd hb hst hphi h0 hf,
      audPortFrameRx_locks hc hm hp hd hb hst hphi h0 hf⟩⟩,
    fun hp hd hb hst hphi => ⟨audPortFrameRx_slips hc hm hp hd hb hst hphi, audPortFrameRx_mistimed hc hm hp hd hb hst hphi, audPortFrameRx_guards hc hm hp hd hb hst hphi⟩,
    fun hst hp hd hb => audPortFrameRx_errors hc hm hp hd hb hst,
    fun hp hd hb hst hs hr hn hk he hpo hrun hstop h1 h2 => audPortFrameRx_inactive hc hp hd hb hst hs hr hn hk he hpo hrun hstop h1 h2,
    fun hp hd hb hdr hst => ⟨audPortFrameTx_paces hc hm hp hd hb hdr hst, fun hw h0 hl => audPortFrameTx_follows hc hp hd hb hdr hw h0 hl,
      fun hw h0 hl hk => audPortFrameTx_clockless hc hw h0 hl hk, portSends_locked, portSends_acquire, portSends_lost⟩,
    audPortFrameTx_silent hc⟩

end Sys2Proof.Machine

/-! SUPPORT. The event of a denied AUD_DELAY_SET is not the last one queued when the address log is full (R340). -/
namespace Sys2Proof.Machine
open Sys2Proof

/-- A unit whose output channel 0 has a delay line with a delay in force, and whose address log holds an unread entry in the place
that it writes next. -/
def delayedLogFull : State :=
  { State.reset with
    aud := { State.reset.aud with delays := [(0, { store := 1, max := 100, cur := 1 })] }
    flt := { State.reset.flt with alogValid := 1 } }

/-- Refutes O44: AUD_DELAY_REFUSED is raised, but the log entry of the ACCESS_DENIED that follows overwrites an unread one, whose
own event (R340) is then the last record, and the statement says that AUD_DELAY_REFUSED is. -/
theorem not_audioDelayAndChannelStatus : ¬ Obligations.AudioDelayAndChannelStatus := by
  unfold Obligations.AudioDelayAndChannelStatus
  intro h
  obtain ⟨-, -, hdeny, -⟩ := h anyCmd delayedLogFull delayedLogFull 0 0 1 0 0 0 0 0 0 0 0 0 [] (0, 3)
    { new := 0, ramp := 0, dom := 0, fi := 0, s0 := 0, first := 0, count := 0, tag := 0 } {} {} {} ⟨rfl, rfl, rfl⟩ rfl rfl
  obtain ⟨t, ht, -, -, -, r, hr, hs, -⟩ := hdeny (by decide) (by decide) (by decide) (by decide)
  have hlast : (match exec (.audDelaySet anyCmd 0 1 0 0) delayedLogFull with | .next t => t.flt.evq.getLast?.map (·.src) | _ => none) = some 0x24A := by decide
  rw [ht] at hlast
  have hlast' : t.flt.evq.getLast?.map (·.src) = some 0x24A := hlast
  rw [hr] at hlast'
  exact absurd ((Option.some.inj hlast').symm.trans hs) (by decide)

end Sys2Proof.Machine

/-! SUPPORT. The event of a collided AUDIO_XP_DIRECT is not the last one queued when the address log is full (R340). -/
namespace Sys2Proof.Machine
open Sys2Proof

/-- An audio flow on channel 0. -/
def channelZero : Flow := { essence := 1, endpoint := 4, port := 0, format := 1, base := 0, count := 1 }

/-- A unit with an input and an output flow on channel 0, whose crosspoint a timetable write changes in this cycle, and whose
address log holds an unread entry in the place that it writes next. -/
def collidedLogFull : State :=
  { State.reset with
    flows := [(0, channelZero), (flowNum 1 0, channelZero)]
    aud := { State.reset.aud with xps := [(0, [{ inp := 0, gain := 0, ttAt := some 0 }])] }
    flt := { State.reset.flt with alogValid := 1 } }

/-- Refutes O45: AUD_COLLISION is raised, but the log entry of the ACCESS_DENIED that follows overwrites an unread one, whose own
event (R340) is then the last record, and the statement says that AUD_COLLISION is. -/
theorem not_audioCrosspointsAndTheMatrix : ¬ Obligations.AudioCrosspointsAndTheMatrix := by
  unfold Obligations.AudioCrosspointsAndTheMatrix
  intro h
  obtain ⟨hdirect, -⟩ := h anyCmd collidedLogFull 0 0 0 0 0 1 1 0 0 0 0 [{ inp := 0, gain := 0, ttAt := some 0 }] { inp := 0, gain := 0 } channelZero [] none {}
    ⟨rfl, rfl, rfl⟩ rfl (by decide) (by decide) rfl
  obtain ⟨-, -, hcollide⟩ := hdirect (by decide) (by decide) (by decide) (by decide) (by decide)
  obtain ⟨t, ht, -, ⟨-, r, hr, hs, -⟩, -⟩ := hcollide (by decide) (by decide) (by decide)
  have hlast : (match exec (.audioXpDirect anyCmd 0 0 0 0) collidedLogFull with | .next t => t.flt.evq.getLast?.map (·.src) | _ => none) = some 0x24A := by decide
  rw [ht] at hlast
  have hlast' : t.flt.evq.getLast?.map (·.src) = some 0x24A := hlast
  rw [hr] at hlast'
  exact absurd ((Option.some.inj hlast').symm.trans hs) (by decide)

end Sys2Proof.Machine

/-! SUPPORT. A write of a whole line that is queued patches the entry (R306): what the entry holds beyond 64 bytes stays. -/
namespace Sys2Proof.Machine
open Sys2Proof

/-- A unit whose first HBM stack is TRAINED and holds a queued write of line 0 with 65 bytes. -/
def longEntryQueued : State :=
  { State.reset with mem := { State.reset.mem with ctrls := [(8, { st := .trained, wq := [{ line := 0, data := zeros 65 }] })] } }

/-- Refutes O46: a whole line written over a queued entry of 65 bytes leaves 65 bytes in the entry, and the statement says that the
line then reads as the 64 bytes written. It asks of the state only that no reset waits in it, so it speaks of such an entry too. -/
theorem not_storesAreReadWrittenAndKept : ¬ Obligations.StoresAreReadWrittenAndKept := by
  unfold Obligations.StoresAreReadWrittenAndKept
  intro h
  obtain ⟨-, -, hwrite, -⟩ := h longEntryQueued 0 0 0 0 1 0 0 0 0 0 0 0 0 (zeros 64) { line := 0, data := [] } [] _ _ _ [] rfl rfl rfl rfl (by decide)
  obtain ⟨t, ht, hb, -⟩ := hwrite (by decide) (by decide) (.inl (by decide))
  have hlong : (match exec (.memWrite 5 0 0 (zeros 64) false) longEntryQueued with | .next t => (lineBytesAt t 0 0).length | _ => 0) = 65 := by decide
  rw [show 64 * 0 = 0 from rfl] at ht
  rw [ht] at hlong
  exact absurd (hlong.symm.trans (congrArg List.length hb)) (by decide)

end Sys2Proof.Machine

/-! SUPPORT. A swap boundary that a forward step of the counter skips takes place later (R455). -/
namespace Sys2Proof.Machine
open Sys2Proof

/-- A repair of an HBM row that has been copied, to be in force at the second frame of domain 0. -/
def copiedRepair : Repair := { kind := 3, loc := 0, row := 0, col := 0, dom := 0, fi := 1, tag := 0, phase := 1 }

/-- A unit whose first HBM stack is TRAINED and has a copied repair, and whose counter has stepped forward from 0 to 2 s. -/
def boundarySkipped : State :=
  { State.reset with
    tim := { State.reset.tim with jumps := [(0, 2000000000)] }
    mem := { State.reset.mem with ctrls := [(8, { st := .trained, repairs := [copiedRepair] })] } }

/-- Refutes O47: a boundary that a forward step skips is the first one after the step (R455), and the statement says that the
counter is no further than the boundary named. -/
theorem not_controllersTrainAndSpareRows : ¬ Obligations.ControllersTrainAndSpareRows := by
  unfold Obligations.ControllersTrainAndSpareRows
  intro h
  obtain ⟨-, -, -, -, -, -, -, -, -, -, -, hswap, -⟩ := h anyCmd boundarySkipped 0 8 0 0 0 0 0 0 0 0 0 0 0 0 0 0 _ copiedRepair [] ⟨rfl, rfl, rfl⟩ rfl (by decide) rfl
  obtain ⟨-, hbound, -⟩ := hswap rfl rfl (by decide)
  obtain ⟨t, ht, hn, -⟩ := hbound (by decide) rfl
  have hlate : (match exec (.memSpareBoundary 8) boundarySkipped with | .next t => t.tim.now | _ => 0) = 2000000000 := by decide
  rw [ht] at hlate
  exact absurd (hlate.symm.trans hn) (by decide)

end Sys2Proof.Machine

/-! SUPPORT. A line that a move writes over a queued entry longer than a line (R301, R306). -/
namespace Sys2Proof.Machine
open Sys2Proof

/-- A move of 64 bytes from host memory to window 0. -/
def moveToWindow : Move := { src := 0, dst := 0, len := 64, srcWin := none, dstWin := some 0, tag := 0, hostOk := true }

/-- A unit with one HBM stack, TRAINED, a window at its start, a move to that window, and a queued write of line 0 with 65 bytes. -/
def movingOverLongEntry : State :=
  { State.reset with
    regs := (wr State.reset .memDdrCfg 0 0 1).regs
    mem := { State.reset.mem with
      ctrls := [(8, { st := .trained, wq := [{ line := 0, data := zeros 65 }] })]
      wins := [(0, { opened := true, store := 0, base := 0, size := 1, reserve := 1 })]
      moves := [moveToWindow] } }

/-- Refutes O48: a move that writes a line whose queued entry holds 65 bytes leaves 65 bytes in the entry, and the statement says
that the line then reads as the 64 bytes moved. It asks of the state only that nothing waits in it, so it speaks of such an entry too. -/
theorem not_windowsAndTheMemoryMover : ¬ Obligations.WindowsAndTheMemoryMover := by
  unfold Obligations.WindowsAndTheMemoryMover
  intro h
  obtain ⟨-, -, -, -, -, -, -, -, -, -, -, hmove, -⟩ := h anyCmd movingOverLongEntry movingOverLongEntry movingOverLongEntry _ 0 1 0 0 0 0 0 0 0 0 0 0 0 .pwrCfg [] moveToWindow []
    _ ⟨rfl, rfl, rfl⟩ rfl rfl (by decide) (by decide)
  obtain ⟨t, ht, -, hb, -⟩ := hmove rfl (by decide) rfl rfl rfl rfl (by decide) (by decide) (.inl (by decide))
  have hlong : (match exec (.memMoveDone true) movingOverLongEntry with | .next t => (lineBytesAt t 0 0).length | _ => 0) = 65 := by decide
  rw [ht] at hlong
  exact absurd (hlong.symm.trans (congrArg List.length hb)) (by decide)

end Sys2Proof.Machine

/-! SUPPORT. The lane complex (R213 to R219): steps, time-outs, retries, the loss of lock and margins. -/
namespace Sys2Proof.Machine
open Sys2Proof

/-! ## Lanes and links written and read -/

theorem lane_setLane_same (n : Nat) (l : Lane) (s : State) : lane (setLane n l s) n = l := tgetD_tput_same _ _ _ _
theorem lane_setLane_ne {n k : Nat} (h : k ≠ n) (l : Lane) (s : State) : lane (setLane n l s) k = lane s k := tgetD_tput_ne _ _ _ h
theorem link_setLink_same (n : Nat) (l : Link) (s : State) : link (setLink n l s) n = l := tgetD_tput_same _ _ _ _
theorem link_setLink_ne {n k : Nat} (h : k ≠ n) (l : Link) (s : State) : link (setLink n l s) k = link s k := tgetD_tput_ne _ _ _ h
theorem mac_setMac_same (m : Nat) (x : Mac) (s : State) : mac (setMac m x s) m = x := tgetD_tput_same _ _ _ _

/-- A raise about a lane, whose source's reaction is no reset, on a unit in which no reset waits. -/
theorem raise_settled (e : Ev) {s : State} (hq : Settled s) (hb : bit (rd s .fltSrcCfg e.src) 27 = false) : (raise e s).flt.resetQ = [] :=
  (raise_resetQ' e s (Or.inr hb)).trans hq

theorem laneSt_training {s : State} {n : Nat} (h : laneSt s n = .base ∨ laneSt s n = .step) : (lane s n).st = laneSt s n := by
  unfold laneSt at h ⊢
  dsimp only at h ⊢
  split
  · next h0 => rw [if_pos h0] at h; exact absurd h (by decide)
  · next h0 =>
    rw [if_neg h0] at h
    split
    · next h1 => rw [if_pos h1] at h; exact absurd h (by decide)
    · rfl

/-! ## Fabric lanes (R215) -/

/-- The lane's report of its failure. -/
def failEvent (s : State) (n : Nat) : Ev :=
  { src := 0x0C1, data := [(1, laneName s n), (2, (lane s n).best), (1, (lane s n).step)], unit := some (.lane (laneName s n)) }

/-- A lane that has failed. -/
def failedLane (s : State) (n : Nat) (due : Bool) : Lane :=
  { lane s n with st := .failed, rate := 0, since := s.tim.now, failAt := if due then some s.tim.now else (lane s n).failAt }

theorem failLane_eq (n : Nat) (due : Bool) (s : State) : failLane n due s = raiseIf due (failEvent s n) (setLane n (failedLane s n due) s) := rfl

theorem failFabric_first {n : Nat} {s : State} (h : (lane s n).failAt = none) :
    failFabric n s = raise (failEvent s n) (setLane n (failedLane s n true) s) := by
  unfold failFabric
  rw [h]
  rfl

theorem failFabric_again {n t : Nat} {s : State} (h : (lane s n).failAt = some t) (hn : s.tim.now < t + 60000000000) :
    failFabric n s = setLane n (failedLane s n false) s := by
  unfold failFabric
  rw [h]
  dsimp only
  rw [decide_eq_false (Nat.not_le.mpr hn)]
  rfl

/-- The lane's report of its training, and what its last step leaves. -/
def trainedEvent (s : State) (n rate : Nat) : Ev := { src := 0x0C0, data := [(1, laneName s n), (2, rate)], unit := some (.lane (laneName s n)) }
def laneUp (s : State) (n rate : Nat) : Lane :=
  { lane s n with st := .trained, rate := rate, best := max (lane s n).best rate, failAt := none, marginAt := s.tim.now }

theorem trainedLane_logical {n : Nat} (h : n ≤ 143) (rate : Nat) (s : State) :
    trainedLane n rate s = raise (trainedEvent s n rate) (setLane n (laneUp s n rate) s) := by
  unfold trainedLane
  dsimp only
  rw [if_neg (by omega)]
  rfl

theorem trainedLane_shadow {n : Nat} (h : 144 ≤ n) (rate : Nat) (s : State) :
    trainedLane n rate s = raise (trainedEvent s n rate) (setLink n { st := .timing } (setLane n (laneUp s n rate) s)) := by
  unfold trainedLane
  dsimp only
  rw [if_pos h]
  rfl

theorem laneName_logical {s : State} {n : Nat} (h : n ≤ 143) : laneName s n = n := if_pos (by omega)

section
variable {s : State} {n k m h : Nat} {r : StepResult} {f : Capability}

theorem opLaneStepDone_fabric (hu : laneUse s n = 2) (ho : stepOpen s n = true) :
    opLaneStepDone n r s = fabricStep n r (if (lane s n).step = 0 then s else atLeast ((lane s n).since + 10000000) s) := by
  unfold opLaneStepDone
  rw [if_neg (by rw [ho]; exact Bool.false_ne_true), if_pos hu]

theorem laneStepDone_base (hq : Settled s) (hk : k ≠ n) (hu : laneUse s n = 2) (ho : stepOpen s n = true) (h0 : (lane s n).step = 0) (hr : 425 ≤ r.far.rate) :
    Completes (.laneStepDone ⟨n, r⟩) s (fun t => lane t n = { lane s n with far := r.far, st := .step, step := 1, rate := stepRate 1, best := max (lane s n).best (stepRate 1), since := s.tim.now } ∧
      lane t k = lane s k ∧ t = { s with lnx := { s.lnx with lanes := t.lnx.lanes } }) := by
  have hv : opLaneStepDone n r s = setLane n { lane s n with far := r.far, st := .step, step := 1, rate := stepRate 1, best := max (lane s n).best (stepRate 1), since := s.tim.now } s := by
    rw [opLaneStepDone_fabric hu ho, if_pos h0]
    unfold fabricStep
    dsimp only
    rw [if_neg (fun e => absurd hr (Nat.not_le.mpr e.2)), if_neg (by rw [h0]; decide), if_pos h0, h0]
  exact completes_of rfl hv hq ⟨lane_setLane_same _ _ _, lane_setLane_ne hk _ _, rfl⟩

theorem laneStepDone_short (hq : Settled s) (hk : k ≠ n) (hb : bit (rd s .fltSrcCfg 0x0C1) 27 = false) (hu : laneUse s n = 2) (ho : stepOpen s n = true)
    (h0 : (lane s n).step = 0) (hr : r.far.rate < 425) (hf : (lane s n).failAt = none) :
    Completes (.laneStepDone ⟨n, r⟩) s (fun t => lane t n = { lane s n with far := r.far, st := .failed, rate := 0, since := s.tim.now, failAt := some s.tim.now } ∧
      Raised 0x0C1 [(1, laneName s n), (2, (lane s n).best), (1, 0)] 0 s t ∧ lane t k = lane s k ∧ t = { s with lnx := { s.lnx with lanes := t.lnx.lanes }, flt := t.flt }) := by
  let w := setLane n { lane s n with far := r.far } s
  have hw : lane w n = { lane s n with far := r.far } := lane_setLane_same _ _ _
  let e : Ev := { src := 0x0C1, data := [(1, laneName s n), (2, (lane s n).best), (1, (lane s n).step)], unit := some (.lane (laneName s n)) }
  let u := setLane n { lane s n with far := r.far, st := .failed, rate := 0, since := s.tim.now, failAt := some s.tim.now } w
  have hv : opLaneStepDone n r s = raise e u := by
    rw [opLaneStepDone_fabric hu ho, if_pos h0]
    unfold fabricStep
    dsimp only
    rw [if_pos ⟨h0, hr⟩, failFabric_first (by rw [hw]; exact hf)]
    unfold failEvent failedLane
    rw [hw]
    rfl
  have hra : Raised 0x0C1 [(1, laneName s n), (2, (lane s n).best), (1, (lane s n).step)] 0 s (raise e u) := raise_raised e u rfl
  rw [h0] at hra
  refine completes_of rfl hv (raise_settled e (s := u) hq hb) ⟨lane_setLane_same _ _ _, hra, ?_, rfl⟩
  exact (lane_setLane_ne hk _ _).trans (lane_setLane_ne hk _ _)

theorem laneStepDone_next (hq : Settled s) (hk : k ≠ n) (hu : laneUse s n = 2) (ho : stepOpen s n = true) (h0 : 0 < (lane s n).step) (h3 : (lane s n).step < 3) :
    Completes (.laneStepDone ⟨n, r⟩) s (fun t => t.tim.now = max s.tim.now ((lane s n).since + 10000000) ∧
      lane t n = { lane s n with tx := r.tx, rx := r.rx, adaptAt := t.tim.now, st := .step, step := (lane s n).step + 1, rate := stepRate ((lane s n).step + 1), best := max (lane s n).best (stepRate ((lane s n).step + 1)), since := t.tim.now } ∧
      lane t k = lane s k ∧ t = { s with tim := { s.tim with now := t.tim.now }, lnx := { s.lnx with lanes := t.lnx.lanes } }) := by
  have hn : (lane s n).step ≠ 0 := Nat.pos_iff_ne_zero.mp h0
  have hv : opLaneStepDone n r s = setLane n { lane s n with tx := r.tx, rx := r.rx, adaptAt := max s.tim.now ((lane s n).since + 10000000), st := .step, step := (lane s n).step + 1, rate := stepRate ((lane s n).step + 1), best := max (lane s n).best (stepRate ((lane s n).step + 1)), since := max s.tim.now ((lane s n).since + 10000000) }
      (atLeast ((lane s n).since + 10000000) s) := by
    rw [opLaneStepDone_fabric hu ho, if_neg hn]
    unfold fabricStep
    dsimp only
    rw [show lane (atLeast ((lane s n).since + 10000000) s) n = lane s n from rfl, if_neg (fun e => hn e.1), if_neg (Nat.not_le.mpr h3), if_neg hn]
    rfl
  exact completes_of rfl hv hq ⟨rfl, lane_setLane_same _ _ _, lane_setLane_ne hk _ _, rfl⟩

/-- The last step of a fabric lane, before its link frames. -/
theorem opLaneStepDone_last (hu : laneUse s n = 2) (ho : stepOpen s n = true) (h3 : 3 ≤ (lane s n).step) :
    opLaneStepDone n r s = startFraming n (trainedLane n 425 (setLane n (tuned r (max s.tim.now ((lane s n).since + 10000000)) (lane s n)) (atLeast ((lane s n).since + 10000000) s))) := by
  have hn : (lane s n).step ≠ 0 := by omega
  rw [opLaneStepDone_fabric hu ho, if_neg hn]
  unfold fabricStep
  dsimp only
  rw [show lane (atLeast ((lane s n).since + 10000000) s) n = lane s n from rfl, if_neg (fun e => hn e.1), if_pos h3]
  rfl

theorem startFraming_frames (h1 : (link s n).started = true) (h2 : (link s n).st = .down) :
    ∃ x, startFraming n s = setLink n x (setLink n { link s n with goodRun := 0, badRun := 0 } s) ∧ x.st = .framing := by
  unfold startFraming
  dsimp only
  rw [if_pos (by rw [h1, h2]; rfl)]
  unfold moveLink
  dsimp only
  have hst : (link (setLink n { link s n with goodRun := 0, badRun := 0 } s) n).st = .down := (congrArg Link.st (link_setLink_same _ _ _)).trans h2
  rw [if_neg (show ¬ LinkSt.framing = .down by decide), if_neg (by rw [hst]; decide)]
  exact ⟨_, rfl, rfl⟩

theorem startFraming_stopped (h : (link s n).started = false) : startFraming n s = s := by
  unfold startFraming
  dsimp only
  rw [if_neg (by rw [h]; exact Bool.false_ne_true)]

theorem laneStepDone_trains (hq : Settled s) (hk : k ≠ n) (hb : bit (rd s .fltSrcCfg 0x0C0) 27 = false) (hu : laneUse s n = 2) (ho : stepOpen s n = true)
    (h3 : 3 ≤ (lane s n).step) (hn : n ≤ 143) (hl : (link s n).started = false ∨ (link s n).st = .down) :
    Completes (.laneStepDone ⟨n, r⟩) s (fun t => t.tim.now = max s.tim.now ((lane s n).since + 10000000) ∧
      lane t n = { lane s n with tx := r.tx, rx := r.rx, adaptAt := t.tim.now, st := .trained, rate := 425, best := max (lane s n).best 425, failAt := none, marginAt := t.tim.now } ∧
      Raised 0x0C0 [(1, n), (2, 425)] 0 s t ∧ ((link s n).started = false → t.aqf = s.aqf) ∧ ((link s n).started = true → (link t n).st = .framing) ∧ (link t k = link s k) ∧ lane t k = lane s k ∧
      t = { s with tim := { s.tim with now := t.tim.now }, lnx := { s.lnx with lanes := t.lnx.lanes }, aqf := { s.aqf with links := t.aqf.links }, flt := t.flt }) := by
  let w := setLane n (tuned r (max s.tim.now ((lane s n).since + 10000000)) (lane s n)) (atLeast ((lane s n).since + 10000000) s)
  have hw : lane w n = tuned r (max s.tim.now ((lane s n).since + 10000000)) (lane s n) := lane_setLane_same _ _ _
  let e : Ev := { src := 0x0C0, data := [(1, n), (2, 425)], unit := some (.lane n) }
  let y : Lane := { lane s n with tx := r.tx, rx := r.rx, adaptAt := max s.tim.now ((lane s n).since + 10000000), st := .trained, rate := 425, best := max (lane s n).best 425, failAt := none, marginAt := max s.tim.now ((lane s n).since + 10000000) }
  have htr : trainedLane n 425 w = raise e (setLane n y w) := by
    rw [trainedLane_logical hn]
    unfold trainedEvent laneUp
    rw [hw, laneName_logical hn]
    rfl
  have hop : opLaneStepDone n r s = startFraming n (raise e (setLane n y w)) := (opLaneStepDone_last hu ho h3).trans (congrArg (startFraming n) htr)
  have hlk (j : Nat) : link (raise e (setLane n y w)) j = link s j := rfl
  have hset : (raise e (setLane n y w)).flt.resetQ = [] := raise_settled e (s := setLane n y w) hq hb
  have hra : Raised 0x0C0 [(1, n), (2, 425)] 0 s (raise e (setLane n y w)) := raise_raised e (setLane n y w) rfl
  cases hs : (link s n).started with
  | false =>
    rw [startFraming_stopped ((congrArg Link.started (hlk n)).trans hs)] at hop
    exact completes_of rfl hop hset ⟨rfl, lane_setLane_same _ _ _, hra, fun _ => rfl, nofun, rfl, (lane_setLane_ne hk _ _).trans (lane_setLane_ne hk _ _), rfl⟩
  | true =>
    have hd : (link s n).st = .down := hl.resolve_left (by rw [hs]; exact Bool.noConfusion)
    obtain ⟨x, hx, hxs⟩ := startFraming_frames (s := raise e (setLane n y w)) ((congrArg Link.started (hlk n)).trans hs) ((congrArg Link.st (hlk n)).trans hd)
    refine completes_of rfl (hop.trans hx) hset ⟨rfl, lane_setLane_same _ _ _, hra, fun h => Bool.noConfusion h, fun _ => ?_, ?_, (lane_setLane_ne hk _ _).trans (lane_setLane_ne hk _ _), rfl⟩
    · exact (congrArg Link.st (link_setLink_same _ _ _)).trans hxs
    · exact (link_setLink_ne hk _ _).trans ((link_setLink_ne hk _ _).trans (hlk k))

theorem laneStepDone_shadow (hq : Settled s) (hk : k ≠ n) (hb : bit (rd s .fltSrcCfg 0x0C0) 27 = false) (hu : laneUse s n = 2) (ho : stepOpen s n = true)
    (h3 : 3 ≤ (lane s n).step) (hn : 144 ≤ n) : Completes (.laneStepDone ⟨n, r⟩) s (fun t => (lane t n).st = .trained ∧ (lane t n).rate = 425 ∧ link t n = { st := .timing } ∧
      Raised 0x0C0 [(1, laneName s n), (2, 425)] 0 s t ∧ lane t k = lane s k ∧ t = { s with tim := { s.tim with now := t.tim.now }, lnx := { s.lnx with lanes := t.lnx.lanes }, aqf := { s.aqf with links := t.aqf.links }, flt := t.flt }) := by
  let w := setLane n (tuned r (max s.tim.now ((lane s n).since + 10000000)) (lane s n)) (atLeast ((lane s n).since + 10000000) s)
  let e : Ev := { src := 0x0C0, data := [(1, laneName s n), (2, 425)], unit := some (.lane (laneName s n)) }
  let u := setLink n { st := .timing } (setLane n (laneUp w n 425) w)
  have hlk : link (raise e u) n = { st := .timing } := link_setLink_same _ _ _
  have hop : opLaneStepDone n r s = raise e u :=
    ((opLaneStepDone_last hu ho h3).trans (congrArg (startFraming n) (trainedLane_shadow hn 425 w))).trans
      (startFraming_stopped (s := raise e u) (by rw [hlk]))
  have hln : lane (raise e u) n = laneUp w n 425 := lane_setLane_same n (laneUp w n 425) w
  refine completes_of rfl hop (raise_settled e (s := u) hq hb) ⟨?_, ?_, hlk, raise_raised e u rfl, (lane_setLane_ne hk _ w).trans (lane_setLane_ne hk _ _), rfl⟩
  · rw [hln]; rfl
  · rw [hln]; rfl

/-! ## Time-outs and retries of fabric lanes (R215) -/

theorem opLaneStepTimeout_fabric (hu : laneUse s n = 2) (hst : laneSt s n = .base ∨ laneSt s n = .step) (hm : m = (if (lane s n).step = 0 then 10000000 else 100000000)) :
    opLaneStepTimeout n none s = failFabric n (atLeast ((lane s n).since + m) s) ∧
      ((lane s n).step = 0 → f.rate < 425 → opLaneStepTimeout n (some f) s = failFabric n (setLane n { lane s n with far := f } s)) := by
  have hlim : stepLimit s n = some m := by unfold stepLimit; rw [if_neg (by rw [hu]; decide), hm]
  have hgo : ¬ ((!(laneSt s n == .base || laneSt s n == .step)) = true) := by rcases hst with h | h <;> rw [h] <;> decide
  constructor
  · unfold opLaneStepTimeout
    rw [hlim]
    dsimp only
    rw [if_neg hgo, if_pos hu]
  · intro h0 hf
    unfold opLaneStepTimeout
    rw [hlim]
    dsimp only
    rw [if_neg hgo, if_pos hu, if_pos ⟨h0, hf⟩]

theorem laneStepTimeout_fails (hq : Settled s) (hk : k ≠ n) (hb : bit (rd s .fltSrcCfg 0x0C1) 27 = false) (hu : laneUse s n = 2) (hst : laneSt s n = .base ∨ laneSt s n = .step)
    (hm : m = (if (lane s n).step = 0 then 10000000 else 100000000)) :
      ((lane s n).failAt = none → Completes (.laneStepTimeout ⟨n, none⟩) s (fun t => t.tim.now = max s.tim.now ((lane s n).since + m) ∧
        lane t n = { lane s n with st := .failed, rate := 0, since := t.tim.now, failAt := some t.tim.now } ∧ Raised 0x0C1 [(1, laneName s n), (2, (lane s n).best), (1, (lane s n).step)] 0 s t ∧ lane t k = lane s k ∧
        t = { s with tim := { s.tim with now := t.tim.now }, lnx := { s.lnx with lanes := t.lnx.lanes }, flt := t.flt })) ∧
      ((lane s n).failAt = some h → max s.tim.now ((lane s n).since + m) < h + 60000000000 → Completes (.laneStepTimeout ⟨n, none⟩) s (fun t => t.tim.now = max s.tim.now ((lane s n).since + m) ∧
        lane t n = { lane s n with st := .failed, rate := 0, since := t.tim.now } ∧ lane t k = lane s k ∧ t = { s with tim := { s.tim with now := t.tim.now }, lnx := { s.lnx with lanes := t.lnx.lanes } })) ∧
      ((lane s n).step = 0 → f.rate < 425 → (lane s n).failAt = none → Completes (.laneStepTimeout ⟨n, some f⟩) s (fun t => lane t n = { lane s n with far := f, st := .failed, rate := 0, since := s.tim.now, failAt := some s.tim.now } ∧
        Raised 0x0C1 [(1, laneName s n), (2, (lane s n).best), (1, 0)] 0 s t ∧ lane t k = lane s k ∧ t = { s with lnx := { s.lnx with lanes := t.lnx.lanes }, flt := t.flt })) := by
  obtain ⟨hnone, hsome⟩ := opLaneStepTimeout_fabric (f := f) hu hst hm
  let w := atLeast ((lane s n).since + m) s
  refine ⟨fun hf => ?_, fun hf hlate => ?_, fun h0 hr hf => ?_⟩
  · have hv := hnone.trans (failFabric_first (s := w) hf)
    exact completes_of rfl hv (raise_settled (failEvent w n) (s := setLane n (failedLane w n true) w) hq hb)
      ⟨rfl, lane_setLane_same _ _ _, raise_raised (failEvent w n) (setLane n (failedLane w n true) w) rfl, lane_setLane_ne hk _ _, rfl⟩
  · have hv := hnone.trans (failFabric_again (s := w) hf hlate)
    exact completes_of rfl hv hq ⟨rfl, lane_setLane_same _ _ _, lane_setLane_ne hk _ _, rfl⟩
  · let z := setLane n { lane s n with far := f } s
    have hz : lane z n = { lane s n with far := f } := lane_setLane_same _ _ _
    let e : Ev := { src := 0x0C1, data := [(1, laneName s n), (2, (lane s n).best), (1, (lane s n).step)], unit := some (.lane (laneName s n)) }
    let u := setLane n { lane s n with far := f, st := .failed, rate := 0, since := s.tim.now, failAt := some s.tim.now } z
    have hv : opLaneStepTimeout n (some f) s = raise e u := by
      rw [hsome h0 hr, failFabric_first (by rw [hz]; exact hf)]
      unfold failEvent failedLane
      rw [hz]
      rfl
    have hra : Raised 0x0C1 [(1, laneName s n), (2, (lane s n).best), (1, (lane s n).step)] 0 s (raise e u) := raise_raised e u rfl
    rw [h0] at hra
    exact completes_of rfl hv (raise_settled e (s := u) hq hb) ⟨lane_setLane_same _ _ _, hra, (lane_setLane_ne hk _ _).trans (lane_setLane_ne hk _ _), rfl⟩

theorem endScan_none {l : Lane} (h : l.scan = none) : endScan l = l := by
  cases l
  cases h
  rfl

theorem laneRetry_starts (hq : Settled s) (hk : k ≠ n) (hu : laneUse s n = 2) (hst : laneSt s n = .failed) (hs : (lane s n).scan = none) :
    Completes (.laneRetry n) s (fun t => t.tim.now = max s.tim.now ((lane s n).since + 1000000000) ∧
      lane t n = { lane s n with st := .base, step := 0, rate := 5, best := 5, since := t.tim.now } ∧ lane t k = lane s k ∧
      t = { s with tim := { s.tim with now := t.tim.now }, lnx := { s.lnx with lanes := t.lnx.lanes }, wire := s.wire ++ [.capability n { presets := Config.presets, spare := decide (144 ≤ n) }] }) := by
  have hv : opLaneRetry n s = startLane n (atLeast ((lane s n).since + 1000000000) s) := if_pos (by rw [hst, hu]; rfl)
  refine completes_of rfl hv hq ⟨rfl, (lane_setLane_same _ _ _).trans ?_, lane_setLane_ne hk _ _, rfl⟩
  rw [show endScan (lane (atLeast ((lane s n).since + 1000000000) s) n) = lane s n from endScan_none hs]
  rfl

theorem laneRetry_other (hq : Settled s) (h : laneSt s n ≠ .failed ∨ laneUse s n ≠ 2) : Completes (.laneRetry n) s (fun t => t = s) := by
  refine completes_of rfl (if_neg ?_) hq rfl
  rcases h with h | h
  · simp [h]
  · simp [h]

end

end Sys2Proof.Machine

namespace Sys2Proof.Machine
open Sys2Proof

/-! ## Lanes of a media MAC (R180, R216) -/

/-- A lane as the end of its MAC's negotiation takes it to the mode's rate. -/
def modeLane (rate now : Nat) (l : Lane) : Lane := { endScan l with st := .step, step := 1, rate := rate, best := rate, since := now }

theorem modeLanes_step (rate : Nat) (ns : List Nat) (s : State) : ∃ ls,
    ns.foldl (fun s n => setLane n (modeLane rate s.tim.now (lane s n)) s) s = { s with lnx := { s.lnx with lanes := ls } } ∧ ∀ h,
      (h ∉ ns → tgetD ls h {} = lane s h) ∧ (h ∈ ns → (tgetD ls h {}).st = .step ∧ (tgetD ls h {}).step = 1 ∧ (tgetD ls h {}).rate = rate ∧ (tgetD ls h {}).since = s.tim.now) := by
  induction ns generalizing s with
  | nil => exact ⟨s.lnx.lanes, rfl, fun _ => ⟨fun _ => rfl, nofun⟩⟩
  | cons n ns ih =>
    obtain ⟨ls, he, hl⟩ := ih (setLane n (modeLane rate s.tim.now (lane s n)) s)
    refine ⟨ls, he, fun h => ⟨fun hn => ?_, fun hn => ?_⟩⟩
    · exact ((hl h).1 fun e => hn (List.mem_cons_of_mem _ e)).trans (lane_setLane_ne (fun e => hn (by rw [e]; exact List.mem_cons_self)) _ _)
    · by_cases hm : h ∈ ns
      · exact (hl h).2 hm
      · have hh : h = n := (List.mem_cons.mp hn).resolve_right hm
        have hv := (hl h).1 hm
        rw [hh, lane_setLane_same] at hv
        rw [hh, hv]
        exact ⟨rfl, rfl, rfl, rfl⟩

/-- What the frames of a MAC that are discarded leave of it. -/
def macCore (x : Mac) : MacSt × Nat × Option Nat := (x.st, x.hcd, x.retryAt)

theorem dropFrames_drops (m : Nat) (l : List HostFrame) (s : State) : ∃ ms h f w,
    dropFrames m l s = { s with nmp := { s.nmp with macs := ms }, hif := h, flt := f, wire := w } ∧ macCore (tgetD ms m {}) = macCore (mac s m) ∧
      ∀ src, src ≠ 0x001 → src ≠ 0x07C → OtherRaises src s.flt f := by
  induction l generalizing s with
  | nil => exact ⟨_, _, _, _, rfl, rfl, fun _ _ _ => .refl _ _⟩
  | cons x l ih =>
    have hcount : macCore (mac (countDown m s) m) = macCore (mac s m) := (congrArg macCore (mac_setMac_same m _ s)).trans rfl
    obtain ⟨h1, f1, w1, hd, ho1⟩ : ∃ h1 f1 w1, frameDone x (countDown m s) = { countDown m s with hif := h1, flt := f1, wire := w1 } ∧
        ∀ src, src ≠ 0x001 → src ≠ 0x07C → OtherRaises src s.flt f1 := by
      unfold frameDone
      cases x.cmd with
      | none => exact ⟨_, _, _, rfl, fun _ _ _ => .refl _ _⟩
      | some c => exact ⟨_, _, _, complete_same c 0x0133 replyDone (countDown m s), fun src h h' => (complete_reflowed c 0x0133 (countDown m s)).others h h'⟩
    obtain ⟨ms, h, f, w, he, hcore, ho⟩ := ih (frameDone x (countDown m s))
    rw [hd] at hcore ho
    exact ⟨ms, h, f, w, by show dropFrames m l (frameDone x (countDown m s)) = _; rw [he, hd]; rfl, hcore.trans hcount, fun src h h' => (ho1 src h h').trans (ho src h h')⟩

theorem discardFrames_drops {m : Nat} (hm : m ≠ 16) (s : State) : ∃ ms h f w,
    discardFrames m s = { s with nmp := { s.nmp with macs := ms }, hif := h, flt := f, wire := w } ∧ macCore (tgetD ms m {}) = macCore (mac s m) ∧
      ∀ src, src ≠ 0x001 → src ≠ 0x07C → OtherRaises src s.flt f := by
  obtain ⟨ms, h, f, w, he, hcore, ho⟩ := dropFrames_drops m (mac s m).frames (setMac m { mac s m with frames := [] } s)
  refine ⟨ms, h, f, w, ?_, hcore.trans ((congrArg macCore (mac_setMac_same m _ s)).trans rfl), ho⟩
  unfold discardFrames
  dsimp only
  rw [if_neg hm, if_neg hm]
  exact he

/-- A MAC that goes down: the rest of it, its lanes and what is raised besides. -/
theorem macDown_falls {m cause : Nat} {x : Mac} {s : State} (hm : m ≠ 16) : ∃ v, macDown m cause x s = raise { src := 0x101, data := [(1, m), (1, cause)], unit := some (.mac m) } v ∧
    macCore (mac v m) = macCore x ∧ v.lnx = s.lnx ∧ v.regs = s.regs ∧ OtherRaises 0x101 s.flt v.flt := by
  obtain ⟨ms, h, f, w, he, hcore, ho⟩ := discardFrames_drops hm (setMac m { x with fecLock := false } s)
  obtain ⟨u, hu⟩ : ∃ u, u = discardFrames m (setMac m { x with fecLock := false } s) := ⟨_, rfl⟩
  rw [← hu] at he
  obtain ⟨fl, hre, -⟩ := holdFlows_reflowed (tkeys u.flows (fun n f =>
    nsOf n == 0 && f.st == .running && f.endpoint == 1 && (legMacs f).all (fun k => !macUp u k))) 0xFFFF u
  have hr : OtherRaises 0x101 u.flt (holdLegless u).flt := hre.others (by decide) (by decide)
  obtain ⟨q, o, h', f', w', hv, -, -⟩ := hre
  have hl : holdLegless u = { u with flows := fl, red := { u.red with jseq := q, jout := o }, hif := h', flt := f', wire := w' } := hv
  rw [hl] at hr
  refine ⟨holdLegless u, by rw [hu]; rfl, ?_, ?_, ?_, ?_⟩
  · rw [hl, he]; exact hcore.trans ((congrArg macCore (mac_setMac_same m _ s)).trans rfl)
  · rw [hl, he]; rfl
  · rw [hl, he]; rfl
  · rw [hl]
    rw [he] at hr
    exact (ho 0x101 (by decide) (by decide)).trans hr

end Sys2Proof.Machine

namespace Sys2Proof.Machine
open Sys2Proof

/-! ## Steps of a media MAC's lanes (R180, R216) -/

section
variable {s : State} {n k m h : Nat} {r : StepResult}

theorem stepOpen_negotiating (hu : laneUse s n = 1) (hst : laneSt s n = .base) : stepOpen s n = true := by
  have hl := laneSt_training (Or.inl hst)
  have hlim : stepLimit s n = none := by unfold stepLimit; rw [if_pos hu, if_pos (hl.trans hst)]
  unfold stepOpen
  rw [hlim, hst]
  rfl

theorem opLaneStepDone_mac (hu : laneUse s n = 1) (hm : macOf s n = some m) (ho : stepOpen s n = true) : opLaneStepDone n r s = macStep m n r s := by
  unfold opLaneStepDone
  rw [if_neg (by rw [ho]; exact Bool.false_ne_true), if_neg (by rw [hu]; decide), hm]

theorem macOf_mem (hm : macOf s n = some m) : m < 16 ∧ n ∈ macLanes (rd s .nmpMacCfg m) := by
  unfold macOf at hm
  have hmem := List.mem_range.mp (List.mem_of_find?_eq_some hm)
  have hp := List.find?_some hm
  rw [Bool.and_eq_true] at hp
  exact ⟨hmem, List.contains_iff_mem.mp hp.2⟩

theorem laneUse_mac (hu : laneUse s n = 1) : n ≤ 143 := by
  unfold laneUse at hu
  split at hu
  · exact absurd hu (by decide)
  · omega

theorem opLaneStepDone_negotiated (hu : laneUse s n = 1) (hm : macOf s n = some m) (hst : laneSt s n = .base) : opLaneStepDone n r s =
    if r.hcd = macMode s m then macSteps m r.hcd s else opNmpLinkDown m 2 (setMac m { mac s m with hcd := r.hcd } s) := by
  rw [opLaneStepDone_mac hu hm (stepOpen_negotiating hu hst)]
  exact if_pos ((laneSt_training (Or.inl hst)).trans hst)

theorem laneStepDone_agrees (hq : Settled s) (hu : laneUse s n = 1) (hm : macOf s n = some m) (hst : laneSt s n = .base) (hr : r.hcd = macMode s m) :
    Completes (.laneStepDone ⟨n, r⟩) s (fun t =>
      (h ∈ macLanes (rd s .nmpMacCfg m) → (lane t h).st = .step ∧ (lane t h).step = 1 ∧ (lane t h).rate = modeLaneRate (macMode s m) ∧ (lane t h).since = s.tim.now) ∧
      (h ∉ macLanes (rd s .nmpMacCfg m) → lane t h = lane s h) ∧ ((mac s m).st = .negotiating → (mac t m).st = .training) ∧ (mac t m).hcd = r.hcd ∧
      t = { s with lnx := { s.lnx with lanes := t.lnx.lanes }, nmp := { s.nmp with macs := t.nmp.macs } }) := by
  obtain ⟨ls, he, hl⟩ := modeLanes_step (modeLaneRate (macMode s m)) (macLanes (rd s .nmpMacCfg m)) s
  obtain ⟨hout, hin⟩ := hl h
  have hv : opLaneStepDone n r s = (fun u => setMac m { mac u m with hcd := r.hcd, st := if (mac u m).st == .negotiating then .training else (mac u m).st } u)
      { s with lnx := { s.lnx with lanes := ls } } := by
    rw [opLaneStepDone_negotiated hu hm hst, if_pos hr, ← he]
    rfl
  refine completes_of rfl hv hq ⟨hin, hout, fun hn => ?_, ?_, rfl⟩
  · exact (congrArg Mac.st (mac_setMac_same m _ _)).trans (if_pos (beq_iff_eq.mpr hn))
  · exact congrArg Mac.hcd (mac_setMac_same m _ _)

theorem laneStepDone_disagrees (hq : Settled s) (hu : laneUse s n = 1) (hm : macOf s n = some m) (hst : laneSt s n = .base) (hr : r.hcd ≠ macMode s m)
    (hn : (mac s m).st ≠ .negotiating) : Completes (.laneStepDone ⟨n, r⟩) s (fun t => mac t m = { mac s m with hcd := r.hcd } ∧ t = { s with nmp := { s.nmp with macs := t.nmp.macs } }) := by
  let w := setMac m { mac s m with hcd := r.hcd } s
  have hw : mac w m = { mac s m with hcd := r.hcd } := mac_setMac_same _ _ _
  have hd : opNmpLinkDown m 2 w = w := by
    unfold opNmpLinkDown
    dsimp only
    split
    · rfl
    · rw [if_pos rfl, if_neg (by rw [hw]; exact hn)]
  have hv : opLaneStepDone n r s = w := by rw [opLaneStepDone_negotiated hu hm hst, if_neg hr]; exact hd
  exact completes_of rfl hv hq ⟨hw, rfl⟩

theorem laneStepDone_renegotiates (hq : Settled s) (hu : laneUse s n = 1) (hm : macOf s n = some m) (hst : laneSt s n = .base) (hr : r.hcd ≠ macMode s m)
    (h15 : m ≤ 15) (he : macEn s m = true) (hn : (mac s m).st = .negotiating) (hb : bit (rd s .fltSrcCfg 0x101) 27 = false) : Completes (.laneStepDone ⟨n, r⟩) s (fun t =>
      (mac t m).hcd = r.hcd ∧ (mac t m).st = .negotiating ∧ (mac t m).retryAt = some (s.tim.now + 500000000) ∧ RaisedOnce 0x101 s t ∧ lane t h = lane s h) := by
  let w := setMac m { mac s m with hcd := r.hcd } s
  have hw : mac w m = { mac s m with hcd := r.hcd } := mac_setMac_same _ _ _
  have hd : opNmpLinkDown m 2 w = macDown m 2 { mac s m with hcd := r.hcd, retryAt := some (s.tim.now + 500000000) } w := by
    unfold opNmpLinkDown
    dsimp only
    rw [if_neg (by rw [show macEn w m = true from he]; simp; omega), if_pos rfl, hw, if_pos hn]
    rfl
  obtain ⟨v, hv, hcore, hl, hregs, ho⟩ := macDown_falls (m := m) (cause := 2) (x := { mac s m with hcd := r.hcd, retryAt := some (s.tim.now + 500000000) }) (s := w) (by omega)
  let e : Ev := { src := 0x101, data := [(1, m), (1, 2)], unit := some (.mac m) }
  have hop : opLaneStepDone n r s = raise e v := by rw [opLaneStepDone_negotiated hu hm hst, if_neg hr]; exact hd.trans hv
  have hbv : bit (rd v .fltSrcCfg 0x101) 27 = false := by unfold rd at hb ⊢; rw [hregs]; exact hb
  have h1 : (mac v m).st = (mac s m).st := congrArg Prod.fst hcore
  have h2 : (mac v m).hcd = r.hcd := congrArg (fun z => z.2.1) hcore
  have h3 : (mac v m).retryAt = some (s.tim.now + 500000000) := congrArg (fun z => z.2.2) hcore
  exact completes_of rfl hop (raise_settled e (ho.1.trans hq) hbv) ⟨h2, h1.trans hn, h3, OtherRaises.count (e := e) ho rfl (.refl _ _), congrArg (fun z : Lnx => tgetD z.lanes h {}) hl⟩

theorem laneStepDone_macTrained (hq : Settled s) (hk : k ≠ n) (hb : bit (rd s .fltSrcCfg 0x0C0) 27 = false) (hu : laneUse s n = 1) (hm : macOf s n = some m)
    (hst : laneSt s n = .step) (ho : stepOpen s n = true) : Completes (.laneStepDone ⟨n, r⟩) s (fun t =>
      lane t n = { lane s n with tx := r.tx, rx := r.rx, adaptAt := s.tim.now, st := .trained, rate := modeLaneRate (macMode s m), best := max (lane s n).best (modeLaneRate (macMode s m)), failAt := none, marginAt := s.tim.now } ∧
      Raised 0x0C0 [(1, n), (2, modeLaneRate (macMode s m))] 0 s t ∧ (macLanes (rd s .nmpMacCfg m) = [n] → (mac s m).st = .training → (mac t m).st = .aligning) ∧ lane t k = lane s k ∧
      t = { s with lnx := { s.lnx with lanes := t.lnx.lanes }, nmp := { s.nmp with macs := t.nmp.macs }, flt := t.flt }) := by
  have hn := laneUse_mac hu
  let w := setLane n (tuned r s.tim.now (lane s n)) s
  have hw : lane w n = tuned r s.tim.now (lane s n) := lane_setLane_same _ _ _
  let y : Lane := { lane s n with tx := r.tx, rx := r.rx, adaptAt := s.tim.now, st := .trained, rate := modeLaneRate (macMode s m), best := max (lane s n).best (modeLaneRate (macMode s m)), failAt := none, marginAt := s.tim.now }
  let e : Ev := { src := 0x0C0, data := [(1, n), (2, modeLaneRate (macMode s m))], unit := some (.lane n) }
  let u := setLane n y w
  have htr : trainedLane n (modeLaneRate (macMode s m)) w = raise e u := by
    rw [trainedLane_logical hn]
    unfold trainedEvent laneUp
    rw [hw, laneName_logical hn]
    rfl
  have hop : opLaneStepDone n r s = if (macLanes (rd (raise e u) .nmpMacCfg m)).all (fun j => (lane (raise e u) j).st == .trained) && (mac (raise e u) m).st == .training then
      setMac m { mac (raise e u) m with st := .aligning } (raise e u) else raise e u := by
    rw [opLaneStepDone_mac hu hm ho, ← htr]
    unfold macStep
    rw [if_neg (by rw [laneSt_training (Or.inr hst), hst]; decide)]
  have hy : lane u n = y := lane_setLane_same _ _ _
  have hkk : lane u k = lane s k := (lane_setLane_ne hk _ _).trans (lane_setLane_ne hk _ _)
  have hset := raise_settled e (s := u) hq hb
  have hra : Raised 0x0C0 [(1, n), (2, modeLaneRate (macMode s m))] 0 s (raise e u) := raise_raised e u rfl
  split at hop
  · exact completes_of rfl hop hset ⟨hy, hra, fun _ _ => congrArg Mac.st (mac_setMac_same m _ _), hkk, rfl⟩
  · next hno =>
    refine completes_of rfl hop hset ⟨hy, hra, fun h1 h2 => absurd ?_ hno, hkk, rfl⟩
    rw [show rd (raise e u) .nmpMacCfg m = rd s .nmpMacCfg m from rfl, h1, show (mac (raise e u) m).st = (mac s m).st from rfl, h2,
      List.all_cons, List.all_nil, show lane (raise e u) n = y from hy]
    rfl

theorem laneStepTimeout_mac (hq : Settled s) (hk : k ≠ n) (hb : bit (rd s .fltSrcCfg 0x0C1) 27 = false) (hu : laneUse s n = 1) (hm : macOf s n = some m) (hst : laneSt s n = .step) :
    Completes (.laneStepTimeout ⟨n, none⟩) s (fun t => t.tim.now = max s.tim.now ((lane s n).since + 500000000) ∧ (lane t n).st = .failed ∧
      (mac t m).retryAt = some (t.tim.now + 500000000) ∧ RaisedOnce 0x0C1 s t ∧ lane t k = lane s k ∧ t = { s with tim := { s.tim with now := t.tim.now }, lnx := { s.lnx with lanes := t.lnx.lanes }, nmp := { s.nmp with macs := t.nmp.macs }, flt := t.flt }) := by
  let w := atLeast ((lane s n).since + 500000000) s
  have hlim : stepLimit s n = some 500000000 := by
    unfold stepLimit; rw [if_pos hu, if_neg (by rw [laneSt_training (Or.inr hst), hst]; decide)]
  let u := setLane n (failedLane w n true) w
  have hop : opLaneStepTimeout n none s = setMac m { mac (raise (failEvent w n) u) m with retryAt := some (w.tim.now + 500000000) } (raise (failEvent w n) u) := by
    unfold opLaneStepTimeout
    rw [hlim]
    dsimp only
    rw [if_neg (by rw [hst]; decide), if_neg (by rw [hu]; decide), failLane_eq, show macOf (raiseIf true (failEvent w n) u) n = some m from hm]
    rfl
  have hs : (lane u n).st = .failed := congrArg Lane.st (lane_setLane_same n (failedLane w n true) w)
  exact completes_of rfl hop (raise_settled (failEvent w n) (s := u) hq hb) ⟨rfl, hs, congrArg Mac.retryAt (mac_setMac_same m _ _),
    OtherRaises.count (e := failEvent w n) (s := u) (.refl _ _) rfl (.refl _ _), lane_setLane_ne hk _ _, rfl⟩

theorem laneStepTimeout_none (hq : Settled s) (hu : laneUse s n = 1) (hst : (lane s n).st = .base) : Completes (.laneStepTimeout ⟨n, none⟩) s (fun t => t = s) := by
  have hlim : stepLimit s n = none := by unfold stepLimit; rw [if_pos hu, if_pos hst]
  have hop : opLaneStepTimeout n none s = s := by unfold opLaneStepTimeout; rw [hlim]
  exact completes_of rfl hop hq rfl

theorem laneStep_idle (hq : Settled s) (h1 : laneSt s n ≠ .base) (h2 : laneSt s n ≠ .step) :
    Completes (.laneStepDone ⟨n, r⟩) s (fun t => t = s) ∧ Completes (.laneStepTimeout ⟨n, none⟩) s (fun t => t = s) := by
  have ho : stepOpen s n = false := by unfold stepOpen; simp [h1, h2]
  refine ⟨completes_of rfl (if_pos (by rw [ho]; rfl)) hq rfl, ?_⟩
  have hop : opLaneStepTimeout n none s = s := by
    unfold opLaneStepTimeout
    split
    · rfl
    · exact if_pos (by simp [h1, h2])
  exact completes_of rfl hop hq rfl

end

end Sys2Proof.Machine

namespace Sys2Proof.Machine
open Sys2Proof

/-! ## Notices and a link that goes DOWN (R123, R125, R126) -/

/-- The state `t` is `s` with control cells queued on links, none of them link `n`. -/
def Notified (n : Nat) (s t : State) : Prop :=
  ∃ ls q f, t = { s with aqf := { s.aqf with links := ls, ctrlSeq := q }, flt := f } ∧ tgetD ls n {} = link s n ∧ ∀ src, src ≠ 0x091 → OtherRaises src s.flt f

theorem Notified.refl (n : Nat) (s : State) : Notified n s s := ⟨_, _, _, rfl, rfl, fun _ _ => .refl _ _⟩

theorem Notified.trans {n : Nat} {s t u : State} (h1 : Notified n s t) (h2 : Notified n t u) : Notified n s u := by
  obtain ⟨_, _, _, rfl, hl, ho⟩ := h1
  obtain ⟨ls, q, f, rfl, hl', ho'⟩ := h2
  exact ⟨ls, q, f, rfl, hl'.trans hl, fun src h => (ho src h).trans (ho' src h)⟩

theorem sendLocal_notified {n k : Nat} (hk : k ≠ n) (ctype : Nat) (msg : List Byte) (s : State) : Notified n s (sendLocal k ctype msg s) := by
  unfold sendLocal sendCtrl
  dsimp only
  split
  · exact ⟨_, _, _, rfl, tgetD_tput_ne _ _ _ hk.symm, fun _ _ => .refl _ _⟩
  · exact ⟨_, _, _, rfl, rfl, fun src h => otherRaises_raise { src := 0x091, data := [(1, k)] } s rfl rfl h⟩

theorem flood_notified (m : Notice) (n : Nat) (s : State) : Notified n s (flood m n s) := by
  unfold flood
  have hne : ∀ k ∈ (outLinks s).filter (fun k => k != n), k ≠ n := fun k hk => bne_iff_ne.mp (List.mem_filter.mp hk).2
  generalize (outLinks s).filter (fun k => k != n) = l at hne
  generalize noticeBytes m = b
  induction l generalizing s with
  | nil => exact .refl n s
  | cons k l ih =>
    exact (sendLocal_notified (hne k List.mem_cons_self) 4 b s).trans (ih _ fun j hj => hne j (List.mem_cons_of_mem _ hj))

/-- A link's DOWN as it is reported. -/
def downEvent (n cause : Nat) : Ev := { src := 0x081, data := [(1, n), (1, cause)], unit := some (.link n) }

theorem leaveUp_losing (n : Nat) (s : State) : ∃ x, x.st = (link s n).st ∧ Losing (setLink n x s) (leaveUp n s) := by
  refine ⟨{ link s n with credits := 0, needCredit := true, badTheta := 0, okTheta := 0, alignErr := false }, rfl, ?_⟩
  unfold leaveUp
  dsimp only
  split
  · exact enterLos_losing 16 _
  · exact .refl _

/-- An UP link, on whose lane no swap waits, goes DOWN: its own state, and what is raised besides. -/
theorem linkDown_falls {n cause : Nat} {s : State} (hup : (link s n).st = .up) (hsp : pendingSpares s n = []) :
    ∃ v ls q nq f, OtherRaises 0x081 s.flt v.flt ∧ OtherRaises 0x0C2 s.flt v.flt ∧ v.regs = s.regs ∧
      linkDown n cause [] s = { raise (downEvent n cause) v with aqf := { s.aqf with links := ls, ctrlSeq := q, nseq := nq }, flt := f } ∧
      (tgetD ls n {}).st = .down ∧ (∀ src, src ≠ 0x091 → OtherRaises src (raise (downEvent n cause) v).flt f) ∧
      v = { s with tim := { s.tim with cands := v.tim.cands, forced := v.tim.forced }, aqf := { s.aqf with links := v.aqf.links }, flt := v.flt } := by
  obtain ⟨x, hx, cs, fo, f, hv, ho⟩ := leaveUp_losing n s
  obtain ⟨v, hve⟩ : ∃ v, v = leaveUp n s := ⟨_, rfl⟩
  rw [← hve] at hv
  have hlv : (link v n).st = .up := by
    rw [hv]; exact (congrArg Link.st (link_setLink_same n x s)).trans (hx.trans hup)
  obtain ⟨y, hy⟩ : ∃ y : Link, y = { link v n with goodRun := 0, badRun := 0, exchanges := 0, flights := [], swapped := none, skew := [] } := ⟨_, rfl⟩
  obtain ⟨u, hu⟩ : ∃ u, u = setLink n y (raise (downEvent n cause) v) := ⟨_, rfl⟩
  have hlu : link u n = y := by rw [hu]; exact link_setLink_same _ _ _
  have huu : (link u n).st = .up := by rw [hlu, hy]; exact hlv
  have hpu : pendingSpares u n = [] := by rw [hu, hv]; exact hsp
  obtain ⟨w, hw⟩ : ∃ w, w = setLink n { link u n with st := .down, changed := ts32 u.tim.now } u := ⟨_, rfl⟩
  obtain ⟨ls, q, g, he, hls, hg⟩ := flood_notified (ownNotice w n) n w
  have hmove : moveLink n .down u = notify n w := by
    unfold moveLink
    dsimp only
    rw [if_pos rfl, hpu, huu, List.foldl_nil, ← hw]
    rfl
  have hop : linkDown n cause [] s = moveLink n .down u := by
    unfold linkDown
    dsimp only
    rw [hup, ← hve, hu, hy]
    rfl
  have hnote : notify n w = { raise (downEvent n cause) v with aqf := { s.aqf with links := ls, ctrlSeq := q, nseq := (s.aqf.nseq + 1) % 2 ^ 32 }, flt := g } := by
    unfold notify
    dsimp only
    rw [he, hw, hu, hv]
    rfl
  refine ⟨v, ls, q, (s.aqf.nseq + 1) % 2 ^ 32, g, ?_, ?_, ?_, hop.trans (hmove.trans hnote), ?_, ?_, ?_⟩
  · rw [hv]; exact ho 0x081 (by decide) (by decide)
  · rw [hv]; exact ho 0x0C2 (by decide) (by decide)
  · rw [hv]; rfl
  · rw [hls, hw]; exact congrArg Link.st (link_setLink_same _ _ _)
  · rw [hw, hu] at hg; exact hg
  · rw [hv]; rfl

/-! ## The loss of lock (R217) -/

/-- The loss of lock as it is reported. -/
def lockLostEvent (s : State) (n : Nat) : Ev := { src := 0x0C2, data := [(1, laneName s n)], unit := some (.lane (laneName s n)) }

section
variable {s : State} {n k m h v : Nat}

theorem opLaneLockLost_fabric (hu : laneUse s n = 2) (hn : n ≤ 143) (hst : laneSt s n = .trained) :
    opLaneLockLost n s = linkLockLost n (atLeast (s.tim.now + 1) (startLane n (raise (lockLostEvent s n) s))) := by
  unfold opLaneLockLost
  rw [if_pos (by rw [hst]; rfl)]
  dsimp only
  rw [if_neg (by omega)]
  unfold restartLane
  rw [show laneUse (raise { src := 0x0C2, data := [(1, laneName s n)], unit := some (.lane (laneName s n)) } s) n = 2 from hu, if_pos rfl]
  exact if_pos hu

/-- The lane that has lost lock, its link not yet told. -/
def lockLost (n : Nat) (s : State) : State := atLeast (s.tim.now + 1) (startLane n (raise (lockLostEvent s n) s))

theorem lockLost_lane (n : Nat) (s : State) : (lane (lockLost n s) n).st = .base ∧ (lane (lockLost n s) n).rate = 5 ∧ (lockLost n s).tim.now = s.tim.now + 1 := by
  have hl : lane (lockLost n s) n = { endScan (lane s n) with st := .base, step := 0, rate := 5, best := 5, since := s.tim.now } := lane_setLane_same n _ s
  refine ⟨congrArg Lane.st hl, congrArg Lane.rate hl, max_eq_right (Nat.le_succ _)⟩

theorem laneLockLost_linkless (hq : Settled s) (hk : k ≠ n) (hb : bit (rd s .fltSrcCfg 0x0C2) 27 = false) (hu : laneUse s n = 2) (hn : n ≤ 143)
    (hst : laneSt s n = .trained) (hd : (link s n).st = .down) : Completes (.laneLockLost n) s (fun t => (lane t n).st = .base ∧ (lane t n).rate = 5 ∧ RaisedOnce 0x0C2 s t ∧
      t.tim.now = s.tim.now + 1 ∧ lane t k = lane s k ∧
      t = { s with tim := { s.tim with now := t.tim.now }, lnx := { s.lnx with lanes := t.lnx.lanes }, flt := t.flt, wire := s.wire ++ [.capability n { presets := Config.presets, spare := false }] }) := by
  have hop : opLaneLockLost n s = lockLost n s := by
    rw [opLaneLockLost_fabric hu hn hst]
    unfold linkLockLost
    exact if_pos (by rw [show link (atLeast (s.tim.now + 1) (startLane n (raise (lockLostEvent s n) s))) n = link s n from rfl, hd]; rfl)
  obtain ⟨h1, h2, h3⟩ := lockLost_lane n s
  have hsp : decide (144 ≤ n) = false := decide_eq_false (by omega)
  refine completes_of rfl hop (raise_settled (lockLostEvent s n) hq hb) ⟨h1, h2, OtherRaises.count (e := lockLostEvent s n) (s := s) (.refl _ _) rfl (.refl _ _), h3, lane_setLane_ne hk _ _, ?_⟩
  unfold lockLost startLane
  rw [hsp]
  rfl

theorem laneLockLost_linked (hq : Settled s) (hk : k ≠ n) (hb : bit (rd s .fltSrcCfg 0x0C2) 27 = false) (hb' : bit (rd s .fltSrcCfg 0x081) 27 = false) (hu : laneUse s n = 2) (hn : n ≤ 143)
    (hst : laneSt s n = .trained) (hup : (link s n).st = .up) (hsp : pendingSpares s n = []) : Completes (.laneLockLost n) s (fun t => (lane t n).st = .base ∧ (link t n).st = .down ∧
      RaisedOnce 0x0C2 s t ∧ RaisedOnce 0x081 s t ∧ lane t k = lane s k ∧
      t = { s with tim := t.tim, lnx := { s.lnx with lanes := t.lnx.lanes }, aqf := t.aqf, flt := t.flt, wire := s.wire ++ [.capability n { presets := Config.presets, spare := false }] }) := by
  obtain ⟨v, ls, q, nq, f, h81, hc2, hregs, he, hdown, ho, hv⟩ := linkDown_falls (n := n) (cause := 0) (s := lockLost n s) hup hsp
  have hop : opLaneLockLost n s = linkDown n 0 [] (lockLost n s) := by
    rw [opLaneLockLost_fabric hu hn hst]
    unfold linkLockLost
    exact if_neg (by rw [show link (atLeast (s.tim.now + 1) (startLane n (raise (lockLostEvent s n) s))) n = link s n from rfl, hup]; decide)
  have hsp' : decide (144 ≤ n) = false := decide_eq_false (by omega)
  have hbv : bit (rd v .fltSrcCfg 0x081) 27 = false := by unfold rd at hb' ⊢; rw [hregs]; exact hb'
  have hvq : v.flt.resetQ = [] := hc2.1.trans (raise_settled (lockLostEvent s n) hq hb)
  have hset : f.resetQ = [] := (ho 0 (by decide)).1.trans (raise_settled (downEvent n 0) (s := v) hvq hbv)
  have hlost : OtherRaises 0x081 s.flt (lockLost n s).flt := otherRaises_raise_unit (lockLostEvent s n) s (Or.inr hb) rfl (show 0x081 ≠ 0x0C2 by decide)
  have hdn : OtherRaises 0x0C2 v.flt (raise (downEvent n 0) v).flt := otherRaises_raise_unit (downEvent n 0) v (Or.inr hbv) rfl (show 0x0C2 ≠ 0x081 by decide)
  have hr2 : RaisedOnce 0x0C2 s (linkDown n 0 [] (lockLost n s)) := by
    rw [he]
    exact OtherRaises.count (e := lockLostEvent s n) (s := s) (.refl _ _) rfl ((hc2.trans hdn).trans (ho 0x0C2 (by decide)))
  have hr1 : RaisedOnce 0x081 s (linkDown n 0 [] (lockLost n s)) := by
    rw [he]
    exact OtherRaises.count (e := downEvent n 0) (s := v) (hlost.trans h81) rfl (ho 0x081 (by decide))
  obtain ⟨h1, -, -⟩ := lockLost_lane n s
  refine completes_of rfl hop (by rw [he]; exact hset) ⟨?_, ?_, hr2, hr1, ?_, ?_⟩
  · rw [he, hv]; exact h1
  · rw [he]; exact hdown
  · rw [he, hv]; exact lane_setLane_ne hk _ _
  · rw [he, hv]
    unfold lockLost startLane
    rw [hsp']
    rfl

theorem laneLockLost_shadow (hq : Settled s) (hk : k ≠ n) (hb : bit (rd s .fltSrcCfg 0x0C2) 27 = false) (hn : 144 ≤ n) (hst : laneSt s n = .trained) :
    Completes (.laneLockLost n) s (fun t => (lane t n).st = .base ∧ (spareLane t (n - 144)).st = .shadow ∧ tget? t.aqf.links n = none ∧ RaisedOnce 0x0C2 s t ∧ lane t k = lane s k ∧
      t = { s with lnx := t.lnx, aqf := { s.aqf with links := t.aqf.links }, flt := t.flt, wire := t.wire }) := by
  have hnn : 144 + (n - 144) = n := by omega
  have hop : opLaneLockLost n s = shadowLost (n - 144) (raise (lockLostEvent s n) s) := by
    unfold opLaneLockLost
    rw [if_pos (by rw [hst]; rfl)]
    exact if_pos hn
  have hlane : ∀ j, lane (shadowLost (n - 144) (raise (lockLostEvent s n) s)) j = tgetD (tput s.lnx.lanes (144 + (n - 144))
      { endScan (lane s (144 + (n - 144))) with st := .base, step := 0, rate := 5, best := 5, since := s.tim.now }) j {} := fun _ => rfl
  rw [hnn] at hlane
  refine completes_of rfl hop (raise_settled (lockLostEvent s n) hq hb) ⟨?_, ?_, ?_, OtherRaises.count (e := lockLostEvent s n) (s := s) (.refl _ _) rfl (.refl _ _), ?_, rfl⟩
  · rw [hlane, tgetD_tput_same]
  · exact congrArg SpareLane.st (tgetD_tput_same s.lnx.spares (n - 144) _ {})
  · show tget? (tdel s.aqf.links (144 + (n - 144))) n = none
    rw [hnn]; exact tget?_tdel_same _ _
  · rw [hlane, tgetD_tput_ne _ _ _ hk]; rfl

/-! ## Margins (R219) -/

/-- The margins that a measurement at `now` finds, and whether each is to be reported. -/
def foundH (s : State) (n h now : Nat) : Bool × Margin := measured h (fld s .lnxMarginCfg 0 23 16) (marginNs s) now (lane s n).marginH
def foundV (s : State) (n v now : Nat) : Bool × Margin := measured v (fld s .lnxMarginCfg 0 15 8) (marginNs s) now (lane s n).marginV

/-- A lane as a measurement leaves it. -/
def marginLane (s : State) (n h v now : Nat) : Lane := { lane s n with marginH := (foundH s n h now).2, marginV := (foundV s n v now).2, marginAt := now }

theorem opLaneMarginMeasure_eq (hst : laneSt s n = .trained) (hs : (lane s n).scan = none) (hm : m = nextOf (marginNs s) (lane s n).marginAt) :
    opLaneMarginMeasure n h v s = raiseIf ((foundH s n h (max s.tim.now m)).1 || (foundV s n v (max s.tim.now m)).1) { src := 0x0C3, data := [(1, n), (1, h), (1, v)], unit := some (.lane n) }
      (setLane n (marginLane s n h v (max s.tim.now m)) (atLeast m s)) := by
  rw [hm]
  exact if_pos (by rw [hst, hs]; rfl)

theorem measured_low {value least period now : Nat} {x : Margin} (h : value < least) : (measured value least period now x).2 = { value := value, low := true, good := none } :=
  congrArg Prod.snd (if_pos h)

theorem measured_due {value least period now : Nat} {x : Margin} (h : value < least) (hd : x.low = false ∨ (x.good.map (fun q => decide (q + period ≤ now))) = some true) :
    (measured value least period now x).1 = true := by
  refine (congrArg Prod.fst (if_pos h)).trans ?_
  rcases hd with hd | hd
  · simp [hd]
  · cases hg : x.good with
    | none => rw [hg] at hd; cases hd
    | some q => rw [hg] at hd; simp [Option.some.inj hd]

theorem measured_quiet {value least period now : Nat} {x : Margin} (hd : least ≤ value ∨ (x.low = true ∧ x.good = none)) : (measured value least period now x).1 = false := by
  unfold measured
  split
  · next h =>
    obtain ⟨h1, h2⟩ := hd.resolve_left (Nat.not_le.mpr h)
    simp [h1, h2]
  · rfl

theorem measured_value (value least period now : Nat) (x : Margin) : (measured value least period now x).2.value = value := by
  unfold measured
  split
  · rfl
  · rfl

theorem measured_good {value least period now : Nat} {x : Margin} (h : least ≤ value) : (measured value least period now x).2.good = some (x.good.getD now) :=
  congrArg (fun z : Bool × Margin => z.2.good) (if_neg (Nat.not_lt.mpr h))

theorem laneMargins_measured (hq : Settled s) (hk : k ≠ n) (hb : bit (rd s .fltSrcCfg 0x0C3) 27 = false) (hst : laneSt s n = .trained) (hs : (lane s n).scan = none)
    (hm : m = nextOf (marginNs s) (lane s n).marginAt) :
      (h < fld s .lnxMarginCfg 0 23 16 → (lane s n).marginH.low = false ∨ ((lane s n).marginH.good.map (fun q => decide (q + marginNs s ≤ max s.tim.now m))) = some true → Completes (.laneMarginMeasure n h v) s (fun t =>
        (lane t n).marginH = { value := h, low := true, good := none } ∧ (lane t n).marginV.value = v ∧ (lane t n).marginAt = t.tim.now ∧ t.tim.now = max s.tim.now m ∧
        Raised 0x0C3 [(1, n), (1, h), (1, v)] 0 s t ∧ lane t k = lane s k ∧ t = { s with tim := { s.tim with now := t.tim.now }, lnx := { s.lnx with lanes := t.lnx.lanes }, flt := t.flt })) ∧
      (h < fld s .lnxMarginCfg 0 23 16 → (lane s n).marginH.low = true → (lane s n).marginH.good = none → fld s .lnxMarginCfg 0 15 8 ≤ v → Completes (.laneMarginMeasure n h v) s (fun t =>
        (lane t n).marginH = { value := h, low := true, good := none } ∧ t.flt = s.flt ∧ t = { s with tim := { s.tim with now := t.tim.now }, lnx := { s.lnx with lanes := t.lnx.lanes } })) ∧
      (v < fld s .lnxMarginCfg 0 15 8 → (lane s n).marginV.low = false → Completes (.laneMarginMeasure n h v) s (fun t => (lane t n).marginV = { value := v, low := true, good := none } ∧ RaisedOnce 0x0C3 s t)) ∧
      (fld s .lnxMarginCfg 0 23 16 ≤ h → fld s .lnxMarginCfg 0 15 8 ≤ v → Completes (.laneMarginMeasure n h v) s (fun t => (lane t n).marginH.value = h ∧ (lane t n).marginV.value = v ∧
        (lane t n).marginH.good = some ((lane s n).marginH.good.getD t.tim.now) ∧ t.tim.now = max s.tim.now m ∧ lane t k = lane s k ∧ t = { s with tim := { s.tim with now := t.tim.now }, lnx := { s.lnx with lanes := t.lnx.lanes } })) := by
  have hop := opLaneMarginMeasure_eq (h := h) (v := v) hst hs hm
  let e : Ev := { src := 0x0C3, data := [(1, n), (1, h), (1, v)], unit := some (.lane n) }
  obtain ⟨y, hy⟩ : ∃ y, y = marginLane s n h v (max s.tim.now m) := ⟨_, rfl⟩
  have hH : y.marginH = (foundH s n h (max s.tim.now m)).2 := by rw [hy]; rfl
  have hV : y.marginV = (foundV s n v (max s.tim.now m)).2 := by rw [hy]; rfl
  have hat : y.marginAt = max s.tim.now m := by rw [hy]; rfl
  rw [← hy] at hop
  let u := setLane n y (atLeast m s)
  have hu : lane u n = y := lane_setLane_same _ _ _
  have hkk : lane u k = lane s k := lane_setLane_ne hk _ _
  refine ⟨fun hl hd => ?_, fun hl h1 h2 hvl => ?_, fun hvl hlow => ?_, fun hh hv => ?_⟩
  · rw [show (foundH s n h (max s.tim.now m)).1 = true from measured_due hl hd] at hop
    refine completes_of rfl (hop.trans rfl) (raise_settled e (s := u) hq hb) ⟨?_, ?_, ?_, rfl, raise_raised e u rfl, hkk, rfl⟩
    · exact (congrArg Lane.marginH hu).trans (hH.trans (measured_low hl))
    · exact (congrArg (fun z : Lane => z.marginV.value) hu).trans ((congrArg Margin.value hV).trans (measured_value _ _ _ _ _))
    · exact (congrArg Lane.marginAt hu).trans hat
  · rw [show (foundH s n h (max s.tim.now m)).1 = false from measured_quiet (.inr ⟨h1, h2⟩), show (foundV s n v (max s.tim.now m)).1 = false from measured_quiet (.inl hvl)] at hop
    exact completes_of rfl (hop.trans rfl) hq ⟨(congrArg Lane.marginH hu).trans (hH.trans (measured_low hl)), rfl, rfl⟩
  · rw [show (foundV s n v (max s.tim.now m)).1 = true from measured_due hvl (.inl hlow), Bool.or_true] at hop
    exact completes_of rfl (hop.trans rfl) (raise_settled e (s := u) hq hb) ⟨(congrArg Lane.marginV hu).trans (hV.trans (measured_low hvl)), OtherRaises.count (e := e) (s := u) (.refl _ _) rfl (.refl _ _)⟩
  · rw [show (foundH s n h (max s.tim.now m)).1 = false from measured_quiet (.inl hh), show (foundV s n v (max s.tim.now m)).1 = false from measured_quiet (.inl hv)] at hop
    refine completes_of rfl (hop.trans rfl) hq ⟨?_, ?_, ?_, rfl, hkk, rfl⟩
    · exact (congrArg (fun z : Lane => z.marginH.value) hu).trans ((congrArg Margin.value hH).trans (measured_value _ _ _ _ _))
    · exact (congrArg (fun z : Lane => z.marginV.value) hu).trans ((congrArg Margin.value hV).trans (measured_value _ _ _ _ _))
    · exact (congrArg (fun z : Lane => z.marginH.good) hu).trans ((congrArg Margin.good hH).trans (measured_good hh))

theorem lane_untrained (hq : Settled s) (hst : laneSt s n ≠ .trained) : Completes (.laneLockLost n) s (fun t => t = s) ∧ Completes (.laneMarginMeasure n h v) s (fun t => t = s) :=
  ⟨completes_of rfl (if_neg (by simp [hst])) hq rfl, completes_of rfl (if_neg (by simp [hst])) hq rfl⟩

end

/-- Settles O49: fabric lanes by `fabricStep` and `failFabric`, media lanes by `macStep`, the loss of lock by `linkDown_falls`, and the
margins by `measured`. -/
theorem lanesTrainFailAndRestart : Obligations.LanesTrainFailAndRestart := by
  unfold Obligations.LanesTrainFailAndRestart
  intro s n k m h v l r f hq hl hk b0 b1 b2 b3 bd
  subst hl
  exact ⟨fun hu ho => ⟨laneStepDone_base hq hk hu ho, laneStepDone_short hq hk b1 hu ho, laneStepDone_next hq hk hu ho, laneStepDone_trains hq hk b0 hu ho, laneStepDone_shadow hq hk b0 hu ho⟩,
    fun hu hst hm => laneStepTimeout_fails hq hk b1 hu hst hm,
    fun hu hm => ⟨laneStepDone_agrees hq hu hm, laneStepDone_disagrees hq hu hm, laneStepDone_renegotiates hq hu hm, laneStepDone_macTrained hq hk b0 hu hm,
      laneStepTimeout_mac hq hk b1 hu hm, fun _ hst => laneStepTimeout_none hq hu hst⟩,
    laneStep_idle hq, laneRetry_starts hq hk, laneRetry_other hq,
    fun hu hn hst => ⟨laneLockLost_linkless hq hk b2 hu hn hst, laneLockLost_linked hq hk b2 bd hu hn hst⟩,
    laneLockLost_shadow hq hk b2, lane_untrained hq, laneMargins_measured hq hk b3⟩

end Sys2Proof.Machine

namespace Sys2Proof.Machine
open Sys2Proof

/-! ## Eye scans and PRBS tests (R220, R221) -/

theorem ungateQuad_frame (n : Nat) (s : State) : ungateQuad n s = { s with tim := { s.tim with now := (ungateQuad n s).tim.now } } := by
  unfold ungateQuad ungate
  split
  · rfl
  · rfl

section
variable {c : Cmd} {s w : State} {n k j eye hs vs dw a rate pat dir ms : Nat} {counts : List Nat} {e : EyeScan} {p : Prbs}

/-- The checks of LANE_EYE_SCAN. -/
def eyeChecks (c : Cmd) (n eye hStep vStep dwell a : Nat) (s : State) : List (Bool × Reply) := [
  (decide (143 < n), badArg c 24 s),
  (decide (2 < eye) || (laneSt s n == .trained && (lane s n).rate == 103 && eye != 0), badArg c 25 s),
  (!scanStepOk hStep, badArg c 26 s), (!scanStepOk vStep, badArg c 27 s),
  (decide (dwell < 5) || decide (10 < dwell), badArg c 28 s),
  (laneSt s n != .trained || (lane s n).scan.isSome, denied),
  (!c.hostOk, addressError a)]

/-- With its parameters in range LANE_EYE_SCAN turns on the lane, and then on host memory. -/
theorem eyeChecks_range (hn : n ≤ 143) (he : eye ≤ 2) (h103 : (lane s n).rate = 103 → eye = 0) (h1 : scanStepOk hs = true) (h2 : scanStepOk vs = true) (h3 : 5 ≤ dw) (h4 : dw ≤ 10) :
    firstErr (eyeChecks c n eye hs vs dw a s) = firstErr [(laneSt s n != .trained || (lane s n).scan.isSome, denied), (!c.hostOk, addressError a)] := by
  unfold eyeChecks
  refine (firstErr_pass ?_).trans ((firstErr_pass ?_).trans ((firstErr_pass ?_).trans ((firstErr_pass ?_).trans (firstErr_pass ?_))))
  · exact decide_eq_false (by omega)
  · rw [decide_eq_false (by omega : ¬ 2 < eye), Bool.false_or]
    by_cases h : (lane s n).rate = 103
    · simp [h103 h]
    · simp [h]
  · rw [h1]; rfl
  · rw [h2]; rfl
  · rw [decide_eq_false (by omega : ¬ dw < 5), decide_eq_false (by omega : ¬ 10 < dw)]; rfl

theorem laneEyeScan_begins (hc : Clear s) (hn : n ≤ 143) (he : eye ≤ 2) (h103 : (lane s n).rate = 103 → eye = 0) (h1 : scanStepOk hs = true) (h2 : scanStepOk vs = true) (h3 : 5 ≤ dw) (h4 : dw ≤ 10) :
      (laneSt s n = .trained → (lane s n).scan = none → c.hostOk = true → Completes (.laneEyeScan c n eye hs vs dw a) s (EndsAccepted c 0x0910
        (setLane n { lane s n with scan := some { eye := eye, hStep := hs, vStep := vs, dwell := dw, rate := (lane s n).rate, start := s.tim.now, addr := a, cmd := c } } s))) ∧
      (laneSt s n ≠ .trained ∨ (lane s n).scan.isSome = true → Completes (.laneEyeScan c n eye hs vs dw a) s (Fails c 0x0910 0x20 0 s)) := by
  have hk := eyeChecks_range (c := c) (s := s) (a := a) hn he h103 h1 h2 h3 h4
  refine ⟨fun hst hsc hh => ⟨_, rfl, checked_accepted (hk.trans ?_) rfl hc hc.1 hc.2.1⟩, fun h => ⟨_, rfl, checked_fails (hk.trans (firstErr_fail ?_)) hc⟩⟩
  · rw [hst, hsc, hh]; rfl
  · rcases h with h | h
    · simp [h]
    · simp [h]

theorem laneCommands_beyond {spare dom fi : Nat} (hc : Clear s) (hn : 143 < n) : Completes (.laneEyeScan c n eye hs vs dw a) s (Fails c 0x0910 0x11 (argAt c 24 s) s) ∧
    Completes (.lanePrbsStop c n) s (Fails c 0x0911 0x11 (argAt c 24 s) s) ∧ Completes (.laneSpare c n spare dom fi) s (Fails c 0x0640 0x11 (argAt c 24 s) s) :=
  ⟨⟨_, rfl, checked_fails (firstErr_fail (decide_eq_true hn)) hc⟩, ⟨_, rfl, checked_fails (firstErr_fail (decide_eq_true hn)) hc⟩,
    ⟨_, rfl, checked_fails (firstErr_fail (decide_eq_true hn)) hc⟩⟩

/-- The end of an eye scan whose record is `b`. -/
def scanDone (n : Nat) (e : EyeScan) (b : List Byte) (s : State) : State :=
  raise { src := 0x0C4, data := [(1, n), (1, if e.early then 1 else 0)], fin := some e.cmd.tag, unit := some (.lane n) }
    (setLane n { lane s n with scan := none } (hostWrite e.addr b s))

theorem opLaneEyeDone_some (hs : (lane s n).scan = some e) : opLaneEyeDone n counts s = scanDone n e (eyeRecord n s.tim.now e counts) s := by
  unfold opLaneEyeDone scanDone
  dsimp only
  rw [hs]

/-- What the end of an eye scan with the record `b` leaves. -/
def ScanEnded (n k : Nat) (e : EyeScan) (b : List Byte) (s t : State) : Prop :=
  lane t n = { lane s n with scan := none } ∧ lane t k = lane s k ∧ (Memory.wf s.hif.mem = true → hostBytes t e.addr b.length = b) ∧ Final 0x0C4 e.cmd.tag t ∧
    Raised 0x0C4 [(1, n), (1, if e.early then 1 else 0)] 0 s t ∧ t = { s with lnx := { s.lnx with lanes := t.lnx.lanes }, hif := { s.hif with mem := t.hif.mem }, flt := t.flt }

theorem scanDone_ended {b : List Byte} (hk : k ≠ n) : ScanEnded n k e b s (scanDone n e b s) :=
  ⟨lane_setLane_same _ _ _, lane_setLane_ne hk _ _, fun hw => cread_cwrite b _ _ hw, raise_final _ _ e.cmd.tag rfl rfl, raise_raised _ _ rfl, rfl⟩

theorem scanDone_settled {b : List Byte} (hq : Settled s) (hb : bit (rd s .fltSrcCfg 0x0C4) 27 = false) : Settled (scanDone n e b s) :=
  raise_settled _ hq hb

theorem laneEyeDone_records (hq : Settled s) (hk : k ≠ n) (hb : bit (rd s .fltSrcCfg 0x0C4) 27 = false) (hs : (lane s n).scan = some e) :
    Completes (.laneEyeDone n counts) s (ScanEnded n k e (eyeRecord n s.tim.now e counts) s) :=
  completes_of rfl (opLaneEyeDone_some hs) (scanDone_settled hq hb) (scanDone_ended hk)

theorem laneEyeDone_none (hq : Settled s) (hs : (lane s n).scan = none) : Completes (.laneEyeDone n counts) s (fun t => t = s) := by
  have hop : opLaneEyeDone n counts s = s := by
    unfold opLaneEyeDone
    dsimp only
    rw [hs]
  exact completes_of rfl hop hq rfl

/-- The checks of LANE_PRBS. -/
def prbsChecks (c : Cmd) (n rate pattern dir ms : Nat) (s : State) : List (Bool × Reply) := [
  (decide (143 < n), badArg c 24 s),
  (decide (3 < rate) || (dir == 0 && rate != 0), badArg c 25 s),
  (decide (6 < pattern) || (dir == 0 && pattern != 0) || (dir != 0 && (decide (2 ≤ rate) != decide (5 ≤ pattern))), badArg c 26 s),
  (decide (3 < dir), badArg c 27 s),
  (dir == 0 && ms != 0, badArg c 28 s),
  (laneSt s n != .idle, denied)]

/-- A test as LANE_PRBS begins it. -/
def prbsTest (c : Cmd) (rate pattern dir ms now : Nat) : Prbs :=
  { rate := rate, pattern := pattern, dir := dir, tag := c.tag, start := now, stopAt := if ms = 0 then none else some (now + ms * 1000000) }

/-- What LANE_PRBS does once its checks pass. -/
def beginPrbs (c : Cmd) (n rate pattern dir ms : Nat) (s : State) : Reply × State :=
  (accepted, setLane n { lane (ungateQuad n s) n with st := .prbs, rate := stepRate rate, prbs := some (prbsTest c rate pattern dir ms (ungateQuad n s).tim.now), prbsErr := 0 } (ungateQuad n s))

theorem opLanePrbs_eq (hd : 1 ≤ dir) : opLanePrbs c n rate pat dir ms s =
    hostCmd c 0x0911 false (checked (prbsChecks c n rate pat dir ms) (beginPrbs c n rate pat dir ms)) s :=
  if_neg fun h => absurd h.1 (by omega)

theorem lanePrbs_begins (hc : Clear s) (hw : w = ungateQuad n s) (hn : n ≤ 143) (hr : rate ≤ 1) (hp : pat ≤ 4) (hd : 1 ≤ dir) (hd' : dir ≤ 3) :
      (laneSt s n = .idle → Completes (.lanePrbs c n rate pat dir ms) s (EndsAccepted c 0x0911
        (setLane n { lane s n with st := .prbs, rate := stepRate rate, prbsErr := 0, prbs := some { rate := rate, pattern := pat, dir := dir, tag := c.tag, start := w.tim.now, stopAt := if ms = 0 then none else some (w.tim.now + ms * 1000000) } } w))) ∧
      (laneSt s n ≠ .idle → Completes (.lanePrbs c n rate pat dir ms) s (Fails c 0x0911 0x20 0 s)) ∧
      Completes (.lanePrbs c n rate 5 dir ms) s (Fails c 0x0911 0x11 (argAt c 26 s) s) := by
  have hexec (pat : Nat) : exec (.lanePrbs c n rate pat dir ms) s = .next (settle (hostCmd c 0x0911 false (checked (prbsChecks c n rate pat dir ms) (beginPrbs c n rate pat dir ms)) s)) :=
    congrArg (fun z => Host.Outcome.next (settle z)) (opLanePrbs_eq hd)
  have h0 : (dir == 0) = false := by simp; omega
  have hrange : firstErr (prbsChecks c n rate pat dir ms s) = firstErr [(laneSt s n != .idle, denied)] := by
    unfold prbsChecks
    refine (firstErr_pass ?_).trans ((firstErr_pass ?_).trans ((firstErr_pass ?_).trans ((firstErr_pass ?_).trans (firstErr_pass ?_))))
    · exact decide_eq_false (by omega)
    · rw [h0, decide_eq_false (by omega : ¬ 3 < rate)]; rfl
    · rw [h0, decide_eq_false (by omega : ¬ 6 < pat), decide_eq_false (by omega : ¬ 2 ≤ rate), decide_eq_false (by omega : ¬ 5 ≤ pat)]
      simp
    · exact decide_eq_false (by omega)
    · rw [h0]; rfl
  refine ⟨fun hst => ⟨_, hexec pat, ?_⟩, fun hst => ⟨_, hexec pat, checked_fails (hrange.trans (firstErr_fail (bne_iff_ne.mpr hst))) hc⟩,
    ⟨_, hexec 5, checked_fails ?_ hc⟩⟩
  · have hwf := ungateQuad_frame n s
    rw [← hw] at hwf
    refine checked_accepted (hrange.trans (firstErr_pass (by rw [hst]; rfl))) ?_ hc ?_ ?_
    · show beginPrbs c n rate pat dir ms s = _
      unfold beginPrbs
      rw [← hw, show lane w n = lane s n by rw [hwf]; rfl]
      rfl
    · rw [hwf]; exact hc.1
    · rw [hwf]; exact hc.2.1
  · unfold prbsChecks
    refine (firstErr_pass ?_).trans ((firstErr_pass ?_).trans (firstErr_fail ?_))
    · exact decide_eq_false (by omega)
    · rw [h0, decide_eq_false (by omega : ¬ 3 < rate)]; rfl
    · rw [decide_eq_false (by omega : ¬ 2 ≤ rate)]
      simp
      omega

theorem lanePrbs_stops (hc : Clear s) (hn : n ≤ 143) (hst : laneSt s n = .prbs) (hp : (lane s n).prbs = some p) :
    Completes (.lanePrbsStop c n) s (EndsDone c 0x0911 0 (setLane n { lane s n with prbs := some { p with stopAt := some s.tim.now } } s)) ∧
      Completes (.lanePrbs c n 0 0 0 0) s (EndsDone c 0x0911 0 (setLane n { lane s n with prbs := some { p with stopAt := some s.tim.now } } s)) := by
  have hd : EndsDone c 0x0911 0 (setLane n { lane s n with prbs := some { p with stopAt := some s.tim.now } } s) (settle (opLanePrbsStop c n s)) := by
    refine checked_done ((firstErr_pass (decide_eq_false (by omega))).trans (firstErr_pass (by rw [hst]; rfl))) ?_ hc hc.1 hc.2.1
    dsimp only
    rw [hp]
    rfl
  exact ⟨⟨_, rfl, hd⟩, ⟨_, rfl, hd⟩⟩

theorem lanePrbsStop_denied (hc : Clear s) (hn : n ≤ 143) (hst : laneSt s n ≠ .prbs) : Completes (.lanePrbsStop c n) s (Fails c 0x0911 0x20 0 s) :=
  ⟨_, rfl, checked_fails ((firstErr_pass (decide_eq_false (by omega))).trans (firstErr_fail (bne_iff_ne.mpr hst))) hc⟩

theorem lanePrbsDone_ends (hq : Settled s) (hk : k ≠ n) (hb : bit (rd s .fltSrcCfg 0x0C5) 27 = false) (hp : (lane s n).prbs = some p) (ha : p.stopAt = some a) :
    Completes (.lanePrbsDone n k) s (fun t => t.tim.now = max s.tim.now a ∧
      lane t n = { lane s n with st := .idle, rate := 0, prbs := none, prbsErr := if p.dir = 1 then 0 else min (max (min (Config.prbsErrors n p.start t.tim.now) (2 ^ 32 - 1)) k) (2 ^ 32 - 1) } ∧ lane t k = lane s k ∧ Final 0x0C5 p.tag t ∧
      Raised 0x0C5 [(1, n), (4, (lane t n).prbsErr)] 0 s t ∧
      t = { s with tim := { s.tim with now := t.tim.now }, lnx := { s.lnx with lanes := t.lnx.lanes }, flt := t.flt }) := by
  obtain ⟨z, hz⟩ : ∃ z, z = if p.dir = 1 then 0 else min (max (min (Config.prbsErrors n p.start (max s.tim.now a)) (2 ^ 32 - 1)) k) (2 ^ 32 - 1) := ⟨_, rfl⟩
  let v : Ev := { src := 0x0C5, data := [(1, n), (4, z)], fin := some p.tag, unit := some (.lane n) }
  let u := setLane n { lane s n with st := .idle, rate := 0, prbs := none, prbsErr := z } (atLeast a s)
  have hcount : (if p.dir = 1 then 0 else min (max (prbsCount (atLeast a s) n) k) (2 ^ 32 - 1)) = z := by
    rw [hz]
    split
    · rfl
    · next h =>
      have hpc : prbsCount (atLeast a s) n = min (Config.prbsErrors n p.start (max s.tim.now a)) (2 ^ 32 - 1) := by
        unfold prbsCount
        rw [show (lane (atLeast a s) n).prbs = some p from hp]
        exact if_neg h
      rw [hpc]
  have hop : opLanePrbsDone n k s = raise v u := by
    unfold opLanePrbsDone
    dsimp only
    rw [hp]
    dsimp only
    rw [ha]
    dsimp only
    rw [hcount]
  have hu : lane u n = { lane s n with st := .idle, rate := 0, prbs := none, prbsErr := z } := lane_setLane_same _ _ _
  refine completes_of rfl hop (raise_settled v (s := u) hq hb) ⟨rfl, ?_, lane_setLane_ne hk _ _, raise_final v u p.tag rfl rfl, ?_, rfl⟩
  · refine Eq.trans hu ?_
    rw [hz]
    rfl
  · rw [show (lane (raise v u) n).prbsErr = z from congrArg Lane.prbsErr hu]
    exact raise_raised v u rfl

theorem lanePrbsDone_none (hq : Settled s) (hp : (lane s n).prbs = none) : Completes (.lanePrbsDone n k) s (fun t => t = s) := by
  have hop : opLanePrbsDone n k s = s := by
    unfold opLanePrbsDone
    dsimp only
    rw [hp]
  exact completes_of rfl hop hq rfl

end

end Sys2Proof.Machine

namespace Sys2Proof.Machine
open Sys2Proof

/-! ## The sparing of a lane (R222 to R225) -/

theorem spareLane_set_same (k : Nat) (x : SpareLane) (s : State) : spareLane (setSpareLane k x s) k = x := tgetD_tput_same _ _ _ _
theorem spareLane_set_ne {k j : Nat} (h : j ≠ k) (x : SpareLane) (s : State) : spareLane (setSpareLane k x s) j = spareLane s j := tgetD_tput_ne _ _ _ h
theorem lane_dropShadow_ne {k n : Nat} (h : n ≠ 144 + k) (s : State) : lane (dropShadow k s) n = lane s n :=
  congrArg (fun z => Option.getD z ({} : Lane)) (tget?_tdel_ne s.lnx.lanes h)
theorem link_dropShadow_ne {k n : Nat} (h : n ≠ 144 + k) (s : State) : link (dropShadow k s) n = link s n :=
  congrArg (fun z => Option.getD z ({} : Link)) (tget?_tdel_ne s.aqf.links h)

/-- The settings of a lane that a spare takes the place of. -/
def tunedLane (k : Nat) (s : State) : Lane :=
  if (lane s (144 + k)).st == .trained then
    { lane s (spareLane s k).lane with far := (lane s (144 + k)).far, tx := (lane s (144 + k)).tx, rx := adaptedRx s (144 + k), adaptAt := s.tim.now }
  else lane s (spareLane s k).lane

/-- The spare that a lane has been served by is retired. -/
def retireOld (n : Nat) (old : Option Nat) (s : State) : State :=
  match old with
  | some j => setSpareLane (spareIx n j) { st := .retired } s
  | none => s

/-- Spare `k` in the place of its lane, before the event. -/
def spareMapped (k : Nat) (s : State) : State :=
  setSpareLane k { spareLane s k with st := .inService } (setLane (spareLane s k).lane { endScan (tunedLane k s) with spare := some (k % 4) }
    (retireOld (spareLane s k).lane (tunedLane k s).spare (dropShadow k s)))

def mapEvent (k tag : Nat) (s : State) : Ev :=
  { src := 0x0C6, data := [(1, (spareLane s k).lane), (4, spareLoc k)], fin := some tag, unit := some (.lane (spareLane s k).lane) }

theorem mapSpare_eq (k tag : Nat) (s : State) : mapSpare k tag s = raise (mapEvent k tag s) (spareMapped k s) := rfl

theorem retireOld_spares (n : Nat) (old : Option Nat) (s : State) : ∃ sp, retireOld n old s = { s with lnx := { s.lnx with spares := sp } } := by
  cases old with
  | none => exact ⟨_, rfl⟩
  | some j => exact ⟨_, rfl⟩

/-- What the place of spare `k` leaves: its lane and its own entry, and the links but for its shadow. -/
theorem spareMapped_frame (k : Nat) (s : State) : spareLane (spareMapped k s) k = { spareLane s k with st := .inService } ∧
    (lane (spareMapped k s) (spareLane s k).lane).spare = some (k % 4) ∧
    (∀ j, j ≠ (spareLane s k).lane → j ≠ 144 + k → lane (spareMapped k s) j = lane s j) ∧
    (∀ j, j ≠ 144 + k → link (spareMapped k s) j = link s j) ∧
    spareMapped k s = { s with lnx := (spareMapped k s).lnx, aqf := { s.aqf with links := (spareMapped k s).aqf.links } } := by
  obtain ⟨sp, hr⟩ := retireOld_spares (spareLane s k).lane (tunedLane k s).spare (dropShadow k s)
  unfold spareMapped
  rw [hr]
  refine ⟨spareLane_set_same _ _ _, congrArg Lane.spare (lane_setLane_same _ _ _), fun j hj hj' => (lane_setLane_ne hj _ _).trans (lane_dropShadow_ne hj' s), fun j hj => link_dropShadow_ne hj s, rfl⟩

/-- A pending swap that is given up. -/
def spareGone (k : Nat) (s : State) : State := dropShadow k (setSpareLane k {} s)
def goneEvent (k reason : Nat) (s : State) : Ev :=
  { src := 0x0C7, data := [(1, (spareLane s k).lane), (1, reason)], fin := some (spareLane s k).tag, unit := some (.lane (spareLane s k).lane) }

theorem abandonSpare_eq (k reason : Nat) (s : State) : abandonSpare k reason s = raise (goneEvent k reason s) (spareGone k s) := rfl

/-- The routes that a longer flight makes STALE change no more than routes, and raise ROUTE_STALE. -/
theorem staleRoutes_frame (n : Nat) (f : Int) (l : List (Nat × Route)) (s : State) (hb : bit (rd s .fltSrcCfg 0x087) 27 = false) :
    ∃ r g, staleRoutes n f l s = { s with aqf := { s.aqf with routes := r }, flt := g } ∧ ∀ src, src ≠ 0x087 → OtherRaises src s.flt g := by
  induction l generalizing s with
  | nil => exact ⟨_, _, rfl, fun _ _ => .refl _ _⟩
  | cons p l ih =>
    obtain ⟨k, r⟩ := p
    unfold staleRoutes
    dsimp only
    split
    · generalize hu : ({ s with aqf := { s.aqf with routes := tput s.aqf.routes k { r with st := .stale } } } : State) = u
      generalize he : ({ src := 0x087, data := [(1, n), (4, ofSigned 32 r.usedFlight), (4, ofSigned 32 f)], unit := some (.link n) } : Ev) = e
      have hsrc : e.src = 0x087 := by rw [← he]
      have hbu : bit (rd u .fltSrcCfg e.src) 27 = false := by
        rw [hsrc, ← hu]
        exact hb
      obtain ⟨r', g, hx, hg⟩ := ih (raise e u) (by rw [← hu]; exact hb)
      refine ⟨r', g, hx.trans (by rw [← hu]; rfl), fun src h => ?_⟩
      have h1 : OtherRaises src s.flt (raise e u).flt := by
        have := otherRaises_raise_unit (src := src) e u (.inr hbu) (by rw [← he]) (by rw [hsrc]; exact h)
        rw [← hu] at this ⊢
        exact this
      exact h1.trans (hg src h)
    · exact ih s hb

section
variable {c : Cmd} {s w : State} {n k j spare dom fi die q : Nat} {x : SpareLane}

/-- The checks of LANE_SPARE. -/
def spareChecks (c : Cmd) (n spare dom fi : Nat) (s : State) : List (Bool × Reply) := [
  (decide (143 < n), badArg c 24 s), (decide (3 < spare), badArg c 25 s),
  (if dom = 0xFF then !laneQuiet s n else decide (7 < dom) || !domEn s dom, badArg c 26 s),
  ((spareLane s (spareIx n spare)).st != .free, noResource),
  (laneSt s n == .prbs || (macOf s n).isSome || !(pendingSpares s n).isEmpty, denied),
  (dom != 0xFF && decide (tOf s dom (fullFi s dom fi) < s.tim.now + 1000000000), replyLate)]

/-- The spare as LANE_SPARE takes it for a swap at a boundary. -/
def namedSpare (s : State) (n dom fi tag : Nat) : SpareLane :=
  { st := if laneQuiet s n then .ready else .shadow, lane := n, dom := dom, fi := fullFi s dom fi, cycle := ceilDiv (tOf s dom (fullFi s dom fi)) 81920
    tag := tag, flight := (link s n).flight }

/-- What LANE_SPARE does once its checks pass. -/
def takeSpare (c : Cmd) (n spare dom fi : Nat) (s : State) : Reply × State :=
  if dom = 0xFF then (accepted, mapSpare (spareIx n spare) c.tag (setSpareLane (spareIx n spare) { lane := n, tag := c.tag } (ungateQuad n s)))
  else (accepted, if laneQuiet (ungateQuad n s) n then setSpareLane (spareIx n spare) (namedSpare (ungateQuad n s) n dom fi c.tag) (ungateQuad n s)
    else startLane (144 + spareIx n spare) (setSpareLane (spareIx n spare) (namedSpare (ungateQuad n s) n dom fi c.tag) (ungateQuad n s)))

theorem opLaneSpare_eq : opLaneSpare c n spare dom fi s = hostCmd c 0x0640 true (checked (spareChecks c n spare dom fi) (takeSpare c n spare dom fi)) s := rfl

/-- LANE_SPARE of a lane, a spare and a domain that exist turns on the spare, the lane, and the time left. -/
theorem spareChecks_named (hn : n ≤ 143) (hs : spare ≤ 3) (hd : dom ≤ 7) (he : domEn s dom = true) (hdie : die = laneDie n) (hq : q = 4 * die + spare) :
    firstErr (spareChecks c n spare dom fi s) = firstErr [((spareLane s q).st != .free, noResource),
      (laneSt s n == .prbs || (macOf s n).isSome || !(pendingSpares s n).isEmpty, denied),
      (dom != 0xFF && decide (tOf s dom (fullFi s dom fi) < s.tim.now + 1000000000), replyLate)] := by
  subst hdie hq
  refine (firstErr_pass (decide_eq_false (by omega))).trans ((firstErr_pass (decide_eq_false (by omega))).trans (firstErr_pass ?_))
  rw [if_neg (by omega), he, decide_eq_false (by omega : ¬ 7 < dom)]
  rfl

theorem laneSpare_taken (hc : Clear s) (hn : n ≤ 143) (hs : spare ≤ 3) (hd : dom ≤ 7) (he : domEn s dom = true) (hdie : die = laneDie n) (hq : q = 4 * die + spare)
    (hx : (spareLane s q).st ≠ .free) : Completes (.laneSpare c n spare dom fi) s (Fails c 0x0640 0x12 0 s) :=
  ⟨_, rfl, checked_fails ((spareChecks_named hn hs hd he hdie hq).trans (firstErr_fail (bne_iff_ne.mpr hx))) hc⟩

theorem laneSpare_named (hc : Clear s) (hw : w = ungateQuad n s) (hn : n ≤ 143) (hs : spare ≤ 3) (hd : dom ≤ 7) (he : domEn s dom = true) (hdie : die = laneDie n) (hq : q = 4 * die + spare)
    (hx : (spareLane s q).st = .free) (hp : laneSt s n ≠ .prbs) (hm : macOf s n = none) (hpend : pendingSpares s n = []) :
      (s.tim.now + 1000000000 ≤ tOf s dom (fullFi s dom fi) → Completes (.laneSpare c n spare dom fi) s (EndsAccepted c 0x0640
        (if laneQuiet s n then setSpareLane q { st := .ready, lane := n, dom := dom, fi := fullFi w dom fi, cycle := ceilDiv (tOf s dom (fullFi w dom fi)) 81920, tag := c.tag, flight := (link s n).flight } w
         else startLane (144 + q) (setSpareLane q { st := .shadow, lane := n, dom := dom, fi := fullFi w dom fi, cycle := ceilDiv (tOf s dom (fullFi w dom fi)) 81920, tag := c.tag, flight := (link s n).flight } w)))) ∧
      (tOf s dom (fullFi s dom fi) < s.tim.now + 1000000000 → Completes (.laneSpare c n spare dom fi) s (Fails c 0x0640 0x31 0 s)) := by
  have hlane : (laneSt s n == .prbs || (macOf s n).isSome || !(pendingSpares s n).isEmpty) = false := by
    rw [hm, hpend, beq_eq_false_iff_ne.mpr hp]
    rfl
  have hdom : (dom != 0xFF) = true := bne_iff_ne.mpr (by omega)
  have hk := (spareChecks_named (c := c) (fi := fi) hn hs hd he hdie hq).trans ((firstErr_pass (by rw [hx]; rfl)).trans (firstErr_pass hlane))
  have hwf := ungateQuad_frame n s
  rw [← hw] at hwf
  refine ⟨fun ht => ⟨_, rfl, ?_⟩, fun ht => ⟨_, rfl, checked_fails (hk.trans (firstErr_fail (by rw [hdom, decide_eq_true ht]; rfl))) hc⟩⟩
  have hquiet : laneQuiet w n = laneQuiet s n := by rw [hwf]; rfl
  have hnamed : namedSpare w n dom fi c.tag = { st := if laneQuiet s n then .ready else .shadow, lane := n, dom := dom, fi := fullFi w dom fi, cycle := ceilDiv (tOf s dom (fullFi w dom fi)) 81920, tag := c.tag, flight := (link s n).flight } := by
    unfold namedSpare
    rw [hquiet, show link w n = link s n by rw [hwf]; rfl, show tOf w dom (fullFi w dom fi) = tOf s dom (fullFi w dom fi) by
      generalize fullFi w dom fi = m
      rw [hwf]; rfl]
  refine checked_accepted (hk.trans (firstErr_pass (by rw [decide_eq_false (by omega : ¬ _ < s.tim.now + 1000000000), Bool.and_false]))) (u := if laneQuiet s n then _ else _) ?_ hc ?_ ?_
  · refine (if_neg (by omega)).trans (congrArg (Prod.mk accepted) ?_)
    show (if laneQuiet (ungateQuad n s) n then setSpareLane (spareIx n spare) (namedSpare (ungateQuad n s) n dom fi c.tag) (ungateQuad n s)
      else startLane (144 + spareIx n spare) (setSpareLane (spareIx n spare) (namedSpare (ungateQuad n s) n dom fi c.tag) (ungateQuad n s))) = _
    rw [← hw, hquiet, hnamed, show spareIx n spare = q by rw [hq, hdie]; rfl]
    cases laneQuiet s n with
    | true => rfl
    | false => rfl
  · cases laneQuiet s n with
    | true => rw [hwf]; exact hc.1
    | false => rw [hwf]; exact hc.1
  · cases laneQuiet s n with
    | true => rw [hwf]; exact hc.2.1
    | false => rw [hwf]; exact hc.2.1

theorem laneSpare_now (hc : Clear s) (hw : w = ungateQuad n s) (hkn : k ≠ n) (hkq : k ≠ 144 + q) (hb : bit (rd s .fltSrcCfg 0x0C6) 27 = false)
    (hn : n ≤ 143) (hs : spare ≤ 3) (hquiet : laneQuiet s n = true) (hdie : die = laneDie n) (hq : q = 4 * die + spare)
    (hx : (spareLane s q).st = .free) (hm : macOf s n = none) (hpend : pendingSpares s n = []) : Completes (.laneSpare c n spare 0xFF fi) s (fun t =>
      Replied c 0x0640 1 0 0 t ∧ (lane t n).spare = some spare ∧ (spareLane t q).st = .inService ∧ (spareLane t q).lane = n ∧ lane t k = lane s k ∧ RaisedOnce 0x0C6 s t ∧
      t.tim.now = w.tim.now ∧ t = { s with tim := { s.tim with now := t.tim.now }, lnx := t.lnx, aqf := { s.aqf with links := t.aqf.links }, hif := t.hif, flt := t.flt, wire := t.wire }) := by
  have hix : spareIx n spare = q := by rw [hq, hdie]; rfl
  have hmod : q % 4 = spare := by omega
  have hp : laneSt s n ≠ .prbs := fun h => by
    unfold laneQuiet at hquiet
    rw [h] at hquiet
    exact Bool.noConfusion hquiet
  have hlane : (laneSt s n == .prbs || (macOf s n).isSome || !(pendingSpares s n).isEmpty) = false := by
    rw [hm, hpend, beq_eq_false_iff_ne.mpr hp]
    rfl
  have hk : firstErr (spareChecks c n spare 0xFF fi s) = none := by
    refine (firstErr_pass (decide_eq_false (by omega))).trans ((firstErr_pass (decide_eq_false (by omega))).trans ((firstErr_pass ?_).trans ((firstErr_pass ?_).trans ((firstErr_pass hlane).trans (firstErr_pass rfl)))))
    · rw [if_pos rfl, hquiet]; rfl
    · rw [hix, hx]; rfl
  have hwf := ungateQuad_frame n s
  rw [← hw] at hwf
  generalize hu0 : setSpareLane q { lane := n, tag := c.tag } w = u0
  have hx0 : spareLane u0 q = { lane := n, tag := c.tag } := by rw [← hu0]; exact spareLane_set_same _ _ _
  obtain ⟨hsp, hln, hlanes, -, hfr⟩ := spareMapped_frame q u0
  have hu0w : u0 = { s with tim := { s.tim with now := w.tim.now }, lnx := u0.lnx } := by
    rw [← hu0, hwf]
    rfl
  generalize hm0 : spareMapped q u0 = m at hsp hln hlanes hfr
  rw [hx0] at hsp hln hlanes
  have hact : takeSpare c n spare 0xFF fi s = (accepted, raise (mapEvent q c.tag u0) m) := by
    refine (if_pos rfl).trans ?_
    rw [hix, ← hw, hu0, mapSpare_eq, hm0]
  have hmf : m = { s with tim := { s.tim with now := w.tim.now }, lnx := m.lnx, aqf := { s.aqf with links := m.aqf.links } } := by
    rw [hfr, hu0w]
  have hreg : bit (rd m .fltSrcCfg 0x0C6) 27 = false := by rw [hmf]; exact hb
  have hrq : (raise (mapEvent q c.tag u0) m).flt.resetQ = [] := raise_settled _ (by rw [hmf]; exact hc.2.1) hreg
  have hcount : RaisedOnce 0x0C6 s (raise (mapEvent q c.tag u0) m) :=
    (raise_raised (mapEvent q c.tag u0) m rfl).1.trans (by rw [show m.flt = s.flt by rw [hmf]]; rfl)
  have hrf : raise (mapEvent q c.tag u0) m = { m with flt := (raise (mapEvent q c.tag u0) m).flt } := rfl
  have hfl : lane u0 k = lane s k := by
    rw [← hu0, hwf]
    rfl
  have hend : Completes (.laneSpare c n spare 0xFF fi) s (fun t => t = complete c 0x0640 accepted (raise (mapEvent q c.tag u0) m)) := by
    refine completes_of rfl (opLaneSpare_eq.trans ((hostCmd_eq _ _ _ _ _ (.inr hc.2.2)).trans ?_)) (by rw [complete_resetQ]; exact hrq) rfl
    rw [(checked_ok _ _ _ hk).trans hact]
  obtain ⟨t, ht, htt⟩ := hend
  refine ⟨t, ht, ?_⟩
  generalize raise (mapEvent q c.tag u0) m = v at *
  have hvf : v.hif.fences = [] := by rw [hrf, hmf]; exact hc.1
  have hco := (complete_frame c 0x0640 accepted v hvf (.inr rfl)).1
  rw [← htt] at hco
  refine ⟨?_, ?_, ?_, ?_, ?_, ?_, ?_, ?_⟩
  · rw [htt]; exact complete_replied c 0x0640 accepted v hvf
  · rw [hco, hrf, ← hmod]; exact hln
  · rw [hco, hrf]; exact congrArg SpareLane.st hsp
  · rw [hco, hrf]; exact congrArg SpareLane.lane hsp
  · rw [hco, hrf]; exact (hlanes k hkn hkq).trans hfl
  · refine Eq.trans ?_ hcount
    rw [htt]
    rw [(completeAny_others c 0x0640 accepted v hvf (show 0x0C6 ≠ 0x001 by decide) (show 0x0C6 ≠ 0x24A by decide)).2.1]
  · rw [hco, hrf, hmf]
  · rw [hco, hrf, hmf]

theorem laneShadowReady_ready (hq : Settled s) (hqq : q = 4 * die + spare) (hx : x = spareLane s q) (hj : j ≠ q) :
    (x.st = .shadow → laneSt s (144 + q) = .trained → 16 ≤ (link s (144 + q)).flights.length → steady ((link s (144 + q)).flights.take 16) = true → Completes (.laneShadowReady die spare true) s (fun t =>
      spareLane t q = { x with st := .ready, flight := (link s (144 + q)).flight } ∧ spareLane t j = spareLane s j ∧ t = { s with lnx := { s.lnx with spares := t.lnx.spares } })) ∧
    (x.st ≠ .shadow ∨ laneSt s (144 + q) ≠ .trained ∨ (link s (144 + q)).flights.length < 16 ∨ steady ((link s (144 + q)).flights.take 16) = false → Completes (.laneShadowReady die spare true) s (fun t => t = s)) ∧
    Completes (.laneShadowReady die spare false) s (fun t => t = s) := by
  subst hqq hx
  refine ⟨fun h1 h2 h3 h4 => completes_of rfl (if_pos ⟨rfl, h1, h2, h3, h4⟩) hq ⟨spareLane_set_same _ _ _, spareLane_set_ne hj _ _, rfl⟩,
    fun h => completes_of rfl (if_neg ?_) hq rfl, completes_of rfl rfl hq rfl⟩
  · rintro ⟨-, h1, h2, h3, h4⟩
    rcases h with h | h | h | h
    · exact h h1
    · exact h h2
    · omega
    · rw [h4] at h
      exact Bool.noConfusion h

/-- The check before a swap, of a spare whose shadow is not ready. -/
theorem checkSpare_shadow {z : State} (h : (spareLane z q).st = .shadow) : checkSpare q z = raise (goneEvent q 0 z) (spareGone q z) := if_pos h

theorem checkSpare_far {z : State} (h : (spareLane z q).st = .ready) (h1 : laneQuiet z (spareLane z q).lane = false)
    (h2 : 1280 < absDiff (spareLane z q).flight (link z (spareLane z q).lane).flight) : checkSpare q z = raise (goneEvent q 2 z) (spareGone q z) :=
  (if_neg (by rw [h]; exact fun h => SpareSt.noConfusion h)).trans (if_pos ⟨h, h1, h2⟩)

theorem checkSpare_good {z : State} (h : (spareLane z q).st = .ready)
    (h1 : laneQuiet z (spareLane z q).lane = true ∨ absDiff (spareLane z q).flight (link z (spareLane z q).lane).flight ≤ 1280) : checkSpare q z = z := by
  refine (if_neg (by rw [h]; exact fun h => SpareSt.noConfusion h)).trans (if_neg ?_)
  rintro ⟨-, h2, h3⟩
  rcases h1 with h1 | h1
  · rw [h2] at h1
    exact Bool.noConfusion h1
  · omega

theorem opLaneSpareCheck_due (hqq : q = 4 * die + spare) (hx : x = spareLane s q) (h : x.st = .shadow ∨ x.st = .ready) :
    opLaneSpareCheck die spare s = checkSpare q (atLeast (swapAt s x - 163840) s) := by
  subst hqq hx
  exact if_pos h

theorem tget?_spareGone (k : Nat) (s : State) : tget? (spareGone k s).lnx.lanes (144 + k) = none := tget?_tdel_same _ _
theorem spareLane_spareGone (k : Nat) (s : State) : spareLane (spareGone k s) k = {} := spareLane_set_same _ _ _

theorem laneSpare_unready (hq : Settled s) (hb : bit (rd s .fltSrcCfg 0x0C7) 27 = false) (hqq : q = 4 * die + spare) (hx : x = spareLane s q) (hj : j ≠ q) (hk : k ≠ 144 + q) (hst : x.st = .shadow) (hl : x.lane ≠ 144 + q) :
      Completes (.laneSpareCheck die spare) s (fun t => t.tim.now = max s.tim.now (swapAt s x - 163840) ∧ spareLane t q = {} ∧ spareLane t j = spareLane s j ∧ tget? t.lnx.lanes (144 + q) = none ∧ lane t k = lane s k ∧
        Final 0x0C7 x.tag t ∧ Raised 0x0C7 [(1, x.lane), (1, 0)] 0 s t ∧ t = { s with tim := { s.tim with now := t.tim.now }, lnx := { s.lnx with lanes := t.lnx.lanes, spares := t.lnx.spares }, aqf := { s.aqf with links := t.aqf.links }, flt := t.flt }) ∧
      Completes (.laneSpareSwap die spare) s (fun t => spareLane t q = {} ∧ Final 0x0C7 x.tag t ∧ (lane t x.lane).spare = (lane s x.lane).spare) := by
  constructor
  · generalize hz : atLeast (swapAt s x - 163840) s = z
    have hzx : spareLane z q = x := by rw [← hz, hx]; rfl
    let e := goneEvent q 0 z
    have hop : opLaneSpareCheck die spare s = raise e (spareGone q z) := (opLaneSpareCheck_due hqq hx (.inl hst)).trans (by rw [hz]; exact checkSpare_shadow (hzx ▸ hst))
    refine completes_of rfl hop (raise_settled e (s := spareGone q z) (by rw [← hz]; exact hq) (by rw [← hz]; exact hb))
      ⟨by rw [← hz]; rfl, spareLane_spareGone _ _, (spareLane_set_ne hj _ _).trans (by rw [← hz]; rfl), tget?_spareGone _ _, (lane_dropShadow_ne hk _).trans (by rw [← hz]; rfl), ?_, ?_, by rw [← hz]; rfl⟩
    · rw [← hzx]
      exact raise_final e (spareGone q z) _ rfl rfl
    · have hr := raise_raised e (spareGone q z) rfl
      rw [show e.data = [(1, x.lane), (1, 0)] by rw [← hzx]; rfl] at hr
      exact hr.after (by rw [← hz]; exact .refl _ _)
  · generalize hz : atLeast (swapAt s x) s = z
    have hzx : spareLane z q = x := by rw [← hz, hx]; rfl
    let e := goneEvent q 0 z
    have hop : opLaneSpareSwap die spare s = raise e (spareGone q z) := by
      unfold opLaneSpareSwap
      dsimp only
      rw [← hqq, ← hx, if_pos (Or.inl hst), hz, checkSpare_shadow (hzx ▸ hst), if_neg]
      rw [show spareLane (raise (goneEvent q 0 z) (spareGone q z)) q = {} from spareLane_spareGone _ _]
      exact fun h => SpareSt.noConfusion h
    refine completes_of rfl hop (raise_settled e (s := spareGone q z) (by rw [← hz]; exact hq) (by rw [← hz]; exact hb))
      ⟨spareLane_spareGone _ _, ?_, congrArg Lane.spare ((lane_dropShadow_ne hl _).trans (by rw [← hz]; rfl))⟩
    rw [← hzx]
    exact raise_final e (spareGone q z) _ rfl rfl

theorem laneSpareCheck_far (hq : Settled s) (hb : bit (rd s .fltSrcCfg 0x0C7) 27 = false) (hqq : q = 4 * die + spare) (hx : x = spareLane s q) (hst : x.st = .ready) (h1 : laneQuiet s x.lane = false)
    (h2 : 1280 < absDiff x.flight (link s x.lane).flight) : Completes (.laneSpareCheck die spare) s (fun t => spareLane t q = {} ∧ Final 0x0C7 x.tag t ∧ Raised 0x0C7 [(1, x.lane), (1, 2)] 0 s t) := by
  generalize hz : atLeast (swapAt s x - 163840) s = z
  have hzx : spareLane z q = x := by rw [← hz, hx]; rfl
  let e := goneEvent q 2 z
  have hop : opLaneSpareCheck die spare s = raise e (spareGone q z) := (opLaneSpareCheck_due hqq hx (.inr hst)).trans (by
    rw [hz]
    exact checkSpare_far (hzx ▸ hst) (by rw [hzx, ← hz]; exact h1) (by rw [hzx, ← hz]; exact h2))
  refine completes_of rfl hop (raise_settled e (s := spareGone q z) (by rw [← hz]; exact hq) (by rw [← hz]; exact hb)) ⟨spareLane_spareGone _ _, ?_, ?_⟩
  · rw [← hzx]
    exact raise_final e (spareGone q z) _ rfl rfl
  · have hr := raise_raised e (spareGone q z) rfl
    rw [show e.data = [(1, x.lane), (1, 2)] by rw [← hzx]; rfl] at hr
    exact hr.after (by rw [← hz]; exact .refl _ _)

/-- The flight of a lane's link as the swap at `t` leaves it, and the routes that it makes STALE. -/
def swapFlight (k t n : Nat) (s : State) : State :=
  if laneUse s n == 2 && !laneQuiet s n then
    staleRoutes n (link s (144 + k)).flight s.aqf.routes (setLink n (moveFlight (t / 20) (link s (144 + k)) (link s n)) s)
  else s

theorem swapFlight_frame {t : Nat} (hb : bit (rd s .fltSrcCfg 0x087) 27 = false) : ∃ ls r g, swapFlight q t n s = { s with aqf := { s.aqf with links := ls, routes := r }, flt := g } ∧
    (∀ src, src ≠ 0x087 → OtherRaises src s.flt g) ∧
    (laneUse s n = 2 → laneQuiet s n = false → tgetD ls n {} = moveFlight (t / 20) (link s (144 + q)) (link s n)) := by
  unfold swapFlight
  split
  · obtain ⟨r, g, hx, hg⟩ := staleRoutes_frame n (link s (144 + q)).flight s.aqf.routes (setLink n (moveFlight (t / 20) (link s (144 + q)) (link s n)) s) hb
    exact ⟨_, r, g, hx, hg, fun _ _ => link_setLink_same _ _ _⟩
  · next h =>
    refine ⟨_, _, _, rfl, fun _ _ => .refl _ _, fun h1 h2 => absurd ?_ h⟩
    rw [h1, h2]
    rfl

theorem opLaneSpareSwap_ready (hqq : q = 4 * die + spare) (hx : x = spareLane s q) (hst : x.st = .ready)
    (hd : laneQuiet s x.lane = true ∨ absDiff x.flight (link s x.lane).flight ≤ 1280) :
    opLaneSpareSwap die spare s = mapSpare q x.tag (swapFlight q (swapAt s x) x.lane (atLeast (swapAt s x) s)) := by
  generalize hz : atLeast (swapAt s x) s = z
  have hzx : spareLane z q = x := by rw [← hz, hx]; rfl
  have hgood : checkSpare q z = z := checkSpare_good (hzx ▸ hst) (by rw [hzx, ← hz]; exact hd)
  unfold opLaneSpareSwap
  dsimp only
  rw [← hqq, ← hx, if_pos (Or.inr hst), hz, hgood, hzx, if_pos hst]
  rfl

theorem laneSpare_ready (hq : Settled s) (hb : bit (rd s .fltSrcCfg 0x0C6) 27 = false) (hb' : bit (rd s .fltSrcCfg 0x087) 27 = false) (hqq : q = 4 * die + spare) (hx : x = spareLane s q) (hst : x.st = .ready)
    (hs : spare ≤ 3) (hl : x.lane ≤ 143) (hd : laneQuiet s x.lane = true ∨ absDiff x.flight (link s x.lane).flight ≤ 1280) :
      Completes (.laneSpareCheck die spare) s (fun t => t.tim.now = max s.tim.now (swapAt s x - 163840) ∧
        t = { s with tim := { s.tim with now := t.tim.now } }) ∧
      Completes (.laneSpareSwap die spare) s (fun t => t.tim.now = max s.tim.now (swapAt s x) ∧ (lane t x.lane).spare = some spare ∧ (spareLane t q).st = .inService ∧ Final 0x0C6 x.tag t ∧
        RaisedOnce 0x0C6 s t ∧ (laneUse s x.lane = 2 → laneQuiet s x.lane = false → link t x.lane = moveFlight (swapAt s x / 20) (link s (144 + q)) (link s x.lane)) ∧
        t = { s with tim := { s.tim with now := t.tim.now }, lnx := t.lnx, aqf := { s.aqf with links := t.aqf.links, routes := t.aqf.routes }, flt := t.flt }) := by
  constructor
  · have hdue := opLaneSpareCheck_due hqq hx (.inr hst)
    generalize swapAt s x - 163840 = a at hdue ⊢
    have hzx : spareLane (atLeast a s) q = x := by rw [hx]; rfl
    exact completes_of rfl (hdue.trans (checkSpare_good (hzx ▸ hst) (by rw [hzx]; exact hd))) hq ⟨rfl, rfl⟩
  · have hmod : q % 4 = spare := by omega
    obtain ⟨ls, r, g, hsw, hg, hls⟩ := swapFlight_frame (s := atLeast (swapAt s x) s) (q := q) (n := x.lane) (t := swapAt s x) hb'
    have hop := opLaneSpareSwap_ready hqq hx hst hd
    generalize hv : swapFlight q (swapAt s x) x.lane (atLeast (swapAt s x) s) = v at hop hsw
    have hvx : spareLane v q = x := by rw [hsw, hx]; rfl
    obtain ⟨hsp, hln, hlanes, hlinks, hfr⟩ := spareMapped_frame q v
    rw [mapSpare_eq] at hop
    generalize spareMapped q v = m at hsp hln hlanes hlinks hfr hop
    rw [hvx] at hsp hln hlanes
    let e := mapEvent q x.tag v
    have hmf : m = { s with tim := { s.tim with now := max s.tim.now (swapAt s x) }, lnx := m.lnx, aqf := { s.aqf with links := m.aqf.links, routes := r }, flt := g } := by
      rw [hfr, hsw]
      rfl
    have hreg : bit (rd m .fltSrcCfg e.src) 27 = false := by rw [hmf]; exact hb
    have hmg : m.flt = g := by rw [hmf]
    have ho : OtherRaises 0x0C6 s.flt m.flt := by
      rw [hmg]
      exact hg _ (by decide)
    have hmq : m.flt.resetQ = [] := ho.1.trans hq
    refine completes_of rfl hop (raise_settled e (s := m) hmq hreg)
      ⟨?_, ?_, congrArg SpareLane.st hsp, raise_final e m x.tag rfl rfl, OtherRaises.count (e := e) (s := m) ho rfl (.refl _ _), ?_, ?_⟩
    · show m.tim.now = _
      rw [hmf]
    · rw [← hmod]; exact hln
    · intro h1 h2
      refine (hlinks x.lane (by omega)).trans ?_
      rw [hsw]
      exact hls h1 h2
    · show raise e m = _
      rw [show raise e m = { m with flt := (raise e m).flt } from rfl]
      generalize (raise e m).flt = g'
      rw [hmf]

theorem laneSpare_other (hq : Settled s) (hqq : q = 4 * die + spare) (hx : x = spareLane s q) (h1 : x.st ≠ .shadow) (h2 : x.st ≠ .ready) :
    Completes (.laneSpareCheck die spare) s (fun t => t = s) ∧ Completes (.laneSpareSwap die spare) s (fun t => t = s) := by
  subst hqq hx
  exact ⟨completes_of rfl (if_neg (not_or.mpr ⟨h1, h2⟩)) hq rfl, completes_of rfl (if_neg (not_or.mpr ⟨h1, h2⟩)) hq rfl⟩

end

/-- Settles O50: scans and tests by their checks and `scanDone`, a swap by `checkSpare` and `spareMapped`. -/
theorem scansTestsAndSpareLanes : Obligations.ScansTestsAndSpareLanes := by
  unfold Obligations.ScansTestsAndSpareLanes
  intro c s w n k j eye hs vs dw a rate pat dir ms spare dom fi die q counts l e p x hc hw hl hk hqq hx hj hkq b4 b5 b6 b7 b87
  subst hl
  have hq : Settled s := hc.2.1
  have hready := laneShadowReady_ready hq hqq hx hj
  exact ⟨fun h1 h2 h3 h4 h5 h6 h7 => laneEyeScan_begins hc h1 h2 h3 h4 h5 h6 h7, fun h => laneCommands_beyond hc h,
    fun h => laneEyeDone_records hq hk b4 h, fun h => laneEyeDone_none hq h,
    fun h1 h2 h3 h4 h5 => lanePrbs_begins hc hw h1 h2 h3 h4 h5, fun h1 h2 h3 => lanePrbs_stops hc h1 h2 h3, fun h1 h2 => lanePrbsStop_denied hc h1 h2,
    fun h1 h2 => lanePrbsDone_ends hq hk b5 h1 h2, fun h => lanePrbsDone_none hq h,
    fun h1 h2 h3 h4 h5 h6 => laneSpare_taken hc h1 h2 h3 h4 h5 hqq (hx ▸ h6),
    fun h1 h2 h3 h4 h5 h6 h7 h8 h9 => laneSpare_named hc hw h1 h2 h3 h4 h5 hqq (hx ▸ h6) h7 h8 h9,
    fun h1 h2 h3 h4 h5 h6 h7 => laneSpare_now hc hw hk hkq b6 h1 h2 h3 h4 hqq (hx ▸ h5) h6 h7,
    hready.1, hready.2.1, hready.2.2,
    fun h1 h2 => laneSpare_unready hq b7 hqq hx hj hkq h1 h2, fun h1 h2 h3 => laneSpareCheck_far hq b7 hqq hx h1 h2 h3,
    fun h1 h2 h3 h4 => laneSpare_ready hq b6 b87 hqq hx h1 h2 h3 h4, fun h1 h2 => laneSpare_other hq hqq hx h1 h2⟩

end Sys2Proof.Machine

namespace Sys2Proof.Machine
open Sys2Proof

/-! ## The boundary of a fabric cycle (R116, R128, R135) -/

section
variable {s : State} {n k g m c : Nat} {l : Link} {sb gb : Bool}

/-- The TIME cells of a boundary. -/
def sendTimes (c : Nat) (ns : List Nat) (s : State) : State := ns.foldl (fun s n => sendTime c n s) s

theorem sendTimes_cells (c : Nat) (ns : List Nat) (s : State) : ∃ q w, sendTimes c ns s = { s with aqf := { s.aqf with ctrlSeq := q }, wire := s.wire ++ w } ∧ w.length = ns.length := by
  induction ns generalizing s with
  | nil => exact ⟨_, [], by rw [List.append_nil]; rfl, rfl⟩
  | cons n ns ih =>
    obtain ⟨q, w, hx, hw⟩ := ih (sendTime c n s)
    exact ⟨q, .cell n (ctrlBytes { src := devId s, ctype := 2, seq := s.aqf.ctrlSeq, msg := timeBytes s n c }) :: w, hx.trans (by simp [sendTime, bumpSeq, sendCell]), by rw [List.length_cons, hw, List.length_cons]⟩

/-- The state in which cycle `c` has begun. -/
def cycleBegun (c : Nat) (s : State) : State := { atLeast (81920 * c) s with aqf := { s.aqf with cycle := c } }

/-- The plan swaps due at cycle `c`, and the notices of a role that changes at `t`. -/
def swapsAt (c : Nat) (s : State) : State := (s.aqf.swaps.filter (fun w => decide (w.cycle ≤ c))).foldl (fun s w => swapPlans c w s) s
def rolesAt (t : Nat) (s : State) : State := if s.red.fabricAt = t ∧ t ≠ 0 then notifyRole s else s

theorem opFabricCycleBoundary_eq : opFabricCycleBoundary s =
    sendTimes (nextCycle s) (tkeys (rolesAt (81920 * nextCycle s) (changeMasks (81920 * nextCycle s) (endRealign (nextCycle s) (swapsAt (nextCycle s) (cycleBegun (nextCycle s) s))))).aqf.links (fun _ l => l.st == .up || l.st == .timing))
      (rolesAt (81920 * nextCycle s) (changeMasks (81920 * nextCycle s) (endRealign (nextCycle s) (swapsAt (nextCycle s) (cycleBegun (nextCycle s) s))))) := rfl

theorem swapsAt_none (h : s.aqf.swaps = []) : swapsAt c s = s := by
  unfold swapsAt
  rw [h]
  rfl

theorem endRealign_none (h : s.aqf.realign = none) : endRealign c s = s := by
  unfold endRealign
  rw [h]

theorem rolesAt_none (h : s.red.fabricAt = 0) : rolesAt c s = s :=
  if_neg fun h' => h'.2 (h'.1.symm.trans h)

/-- The groups that a boundary opens and closes, before their journal. -/
def masksSet (t : Nat) (s : State) : State :=
  (maskChanges s t).foldl (fun s x => setMask x s) { s with
    aqf := { s.aqf with closing := [], opening := [] }, tt := { s.tt with masks := s.tt.masks.filter (fun m => !decide (m.1 ≤ t)) } }

theorem changeMasks_journalled (t : Nat) (s : State) : ∃ q o, changeMasks t s = journalled q o (masksSet t s) := by
  have key : ∀ (ns : List Nat) (z : State), ∃ q o, ns.foldl (fun s n => journal 0x30 (planRecord s n (link s n).active) s) z = journalled q o z := by
    intro ns
    induction ns with
    | nil => exact fun z => ⟨z.red.jseq, z.red.jout, rfl⟩
    | cons n ns ih =>
      intro z
      obtain ⟨q, o, h1⟩ := journal_journalled 0x30 (planRecord z n (link z n).active) z
      obtain ⟨q', o', h2⟩ := ih (journalled q o z)
      exact ⟨q', o', (congrArg (fun y => ns.foldl (fun s n => journal 0x30 (planRecord s n (link s n).active) s) y) h1).trans (h2.trans rfl)⟩
  exact key _ _

/-- What a boundary at which no plan swaps, no grid is realigned and no role changes leaves, of the groups that it sets. -/
theorem cycleBoundary_masks {u : State} {P : State → Prop} (hq : Settled s) (hr : s.aqf.realign = none) (hsw : s.aqf.swaps = [])
    (hu : changeMasks (81920 * nextCycle s) (cycleBegun (nextCycle s) s) = u) (hfa : u.red.fabricAt = 0) (hfl : u.flt = s.flt)
    (h : ∀ i w, w.length = (tkeys u.aqf.links (fun _ l => l.st == .up || l.st == .timing)).length → P { u with aqf := { u.aqf with ctrlSeq := i }, wire := u.wire ++ w }) :
    Completes .fabricCycleBoundary s P := by
  have hop := opFabricCycleBoundary_eq (s := s)
  rw [swapsAt_none (s := cycleBegun (nextCycle s) s) hsw, endRealign_none (s := cycleBegun (nextCycle s) s) hr, hu, rolesAt_none hfa] at hop
  obtain ⟨i, w, hx, hw⟩ := sendTimes_cells (nextCycle s) (tkeys u.aqf.links (fun _ l => l.st == .up || l.st == .timing)) u
  exact completes_of rfl (hop.trans hx) (hfl ▸ hq) (h i w hw)

/-- No group changes. -/
theorem changeMasks_none {z : State} (h1 : z.aqf.closing = []) (h2 : z.aqf.opening = []) (h3 : z.tt.masks = []) (t : Nat) : changeMasks t z = z := by
  have hm : maskChanges z t = [] := by
    unfold maskChanges
    rw [h1, h2, h3]
    rfl
  have hz : ({ z with aqf := { z.aqf with closing := [], opening := [] }, tt := { z.tt with masks := [] } } : State) = z := by
    have ha : ∀ a : Aqf, a.closing = [] → a.opening = [] → { a with closing := [], opening := [] } = a := fun a h h' => by
      cases a
      cases h
      cases h'
      rfl
    have hb : ∀ a : Tt, a.masks = [] → { a with masks := [] } = a := fun a h => by
      cases a
      cases h
      rfl
    rw [ha z.aqf h1 h2, hb z.tt h3]
  unfold changeMasks
  dsimp only
  rw [hm, h3]
  exact hz

/-- One group changes. -/
theorem masksSet_one {z : State} {t : Nat} {x : Nat × Nat × Bool} (h : maskChanges z t = [x]) : ∃ m, masksSet t z =
    setMask x { z with aqf := { z.aqf with closing := [], opening := [] }, tt := { z.tt with masks := m } } := by
  unfold masksSet
  rw [h]
  exact ⟨_, rfl⟩

theorem setMask_links (x : Nat × Nat × Bool) (s : State) : ∃ ls, setMask x s = { s with aqf := { s.aqf with links := ls } } ∧
    (tgetD ls x.1 {}).mask = if x.2.2 then (if (link s x.1).mask.contains x.2.1 then (link s x.1).mask else (link s x.1).mask ++ [x.2.1]) else (link s x.1).mask.filter (fun g => g != x.2.1) := by
  unfold setMask
  dsimp only
  split
  · split
    · exact ⟨_, rfl, rfl⟩
    · exact ⟨_, rfl, congrArg Link.mask (link_setLink_same _ _ _)⟩
  · exact ⟨_, rfl, congrArg Link.mask (link_setLink_same _ _ _)⟩

/-- A boundary that changes one group. -/
theorem cycleBoundary_one {x : Nat × Nat × Bool} {P : State → Prop} (hq : Settled s) (hr : s.aqf.realign = none) (hsw : s.aqf.swaps = []) (hfa : s.red.fabricAt = 0)
    (hx : maskChanges (cycleBegun (nextCycle s) s) (81920 * nextCycle s) = [x])
    (h : ∀ t, t.aqf.opening = [] → t.aqf.closing = [] → (link t x.1).mask = (if x.2.2 then (if (link s x.1).mask.contains x.2.1 then (link s x.1).mask else (link s x.1).mask ++ [x.2.1])
      else (link s x.1).mask.filter (fun g => g != x.2.1)) → P t) : Completes .fabricCycleBoundary s P := by
  obtain ⟨q, o, hj⟩ := changeMasks_journalled (81920 * nextCycle s) (cycleBegun (nextCycle s) s)
  obtain ⟨m, hm⟩ := masksSet_one hx
  obtain ⟨ls, hl, hmask⟩ := setMask_links x { cycleBegun (nextCycle s) s with
    aqf := { (cycleBegun (nextCycle s) s).aqf with closing := [], opening := [] }, tt := { (cycleBegun (nextCycle s) s).tt with masks := m } }
  rw [hm, hl] at hj
  exact cycleBoundary_masks hq hr hsw hj hfa rfl fun i w _ => h _ rfl rfl hmask

theorem fabricCycle_begins (hq : Settled s) (hr : s.aqf.realign = none) (hsw : s.aqf.swaps = []) (htt : s.tt.masks = []) (hfa : s.red.fabricAt = 0) :
      (s.aqf.closing = [] → s.aqf.opening = [] → Completes (.fabricCycleBoundary) s (fun t => t.aqf.cycle = nextCycle s ∧ t.tim.now = max s.tim.now (81920 * nextCycle s) ∧
        t.wire.length = s.wire.length + (tkeys s.aqf.links (fun _ l => l.st == .up || l.st == .timing)).length ∧
        t = { s with tim := { s.tim with now := t.tim.now }, aqf := { s.aqf with cycle := t.aqf.cycle, ctrlSeq := t.aqf.ctrlSeq }, wire := t.wire })) ∧
      (s.aqf.closing = [] → s.aqf.opening = [(n, g)] → Completes (.fabricCycleBoundary) s (fun t => (link t n).mask.contains g = true ∧ t.aqf.opening = [])) ∧
      (s.aqf.closing = [(n, g)] → s.aqf.opening = [] → Completes (.fabricCycleBoundary) s (fun t => (link t n).mask = (link s n).mask.filter (fun j => j != g) ∧ t.aqf.closing = [])) := by
  have hch (t : Nat) : maskChanges (cycleBegun (nextCycle s) s) t = s.aqf.closing.map (fun g => (g.1, g.2, false)) ++ ([] ++ s.aqf.opening.map (fun g => (g.1, g.2, true))) := by
    show _ ++ ((s.tt.masks.filter _).map _) ++ _ = _
    rw [htt, List.append_assoc]
    rfl
  refine ⟨fun h1 h2 => ?_, fun h1 h2 => ?_, fun h1 h2 => ?_⟩
  · refine cycleBoundary_masks hq hr hsw (changeMasks_none (z := cycleBegun (nextCycle s) s) h1 h2 htt _) hfa rfl fun i w hw => ⟨rfl, rfl, ?_, rfl⟩
    exact List.length_append.trans (congrArg _ hw)
  · refine cycleBoundary_one (x := (n, g, true)) hq hr hsw hfa (by rw [hch, h1, h2]; rfl) fun t ho _ hm => ⟨?_, ho⟩
    rw [hm, if_pos rfl]
    split
    · next h => exact h
    · simp
  · exact cycleBoundary_one (x := (n, g, false)) hq hr hsw hfa (by rw [hch, h1, h2]; rfl) fun t _ hcl hm => ⟨hm, hcl⟩

/-! ## The slots of a link (R115, R118) -/

/-- A link whose slot `k` has been taken. -/
def slotted (n k : Nat) (s : State) : State := setLink n { link s n with nextSlot := k + 1 } s

theorem opFabricSlot_quiet (hr : s.aqf.realign = none) (h : (link s n).st = .down ∨ (link s n).st = .quiet ∨ s.tim.now / 20 < (link s n).nextSlot) : opFabricSlot n sb gb s = s := by
  have hs : slotNow s = (s.tim.now / 20, true) := by
    unfold slotNow
    rw [hr]
  refine if_pos ?_
  rw [hs]
  rcases h with h | h | h
  · rw [h]; rfl
  · rw [h]; rfl
  · rw [decide_eq_true h, Bool.or_true]

def genEvent (n : Nat) : Ev := { src := 0x245, data := [(1, 2), (1, n)] }

theorem opFabricSlot_due (hr : s.aqf.realign = none) (hk : k = s.tim.now / 20) (h1 : (link s n).st ≠ .down) (h2 : (link s n).st ≠ .quiet) (h3 : (link s n).nextSlot ≤ k) :
    opFabricSlot n sb gb s = checkFail gb (genEvent n) (slotEntry n k sb (slotted n k s)) := by
  subst hk
  have hs : slotNow s = (s.tim.now / 20, true) := by
    unfold slotNow
    rw [hr]
  unfold opFabricSlot
  dsimp only
  rw [hs, beq_eq_false_iff_ne.mpr h1, beq_eq_false_iff_ne.mpr h2, decide_eq_false (by omega : ¬ s.tim.now / 20 < (link s n).nextSlot)]
  rfl

/-! ## Only the checks of a slot raise -/

theorem freeCredit_flt (o : Option Nat) (s : State) : (freeCredit o s).flt = s.flt := by
  cases o with
  | none => rfl
  | some m => rfl

theorem dropUnrouted_flt (n : Nat) (s : State) : (dropUnrouted n s).flt = s.flt := by
  have key : ∀ (l : List UnschedCell) (z : State), (l.foldl (fun s c => freeCredit c.from_ (discard (c.from_.getD n) s)) z).flt = z.flt := by
    intro l
    induction l with
    | nil => exact fun _ => rfl
    | cons c l ih => exact fun z => (ih _).trans (freeCredit_flt _ _)
  exact key _ _

theorem sendUnsched_flt (n : Nat) (s : State) : (sendUnsched n s).flt = s.flt := by
  unfold sendUnsched
  dsimp only
  split
  · exact dropUnrouted_flt n s
  · split
    · exact dropUnrouted_flt n s
    · exact (freeCredit_flt _ _).trans (dropUnrouted_flt n s)

theorem freeSlot_flt (n : Nat) (s : State) : (freeSlot_ n s).flt = s.flt := by
  unfold freeSlot_
  dsimp only
  split
  · rfl
  · split
    · rfl
    · split
      · exact sendUnsched_flt n s
      · rfl

theorem controlElse_flt (n : Nat) (rest : State → State) (s : State) (h : (rest s).flt = s.flt) : (controlElse n rest s).flt = s.flt := by
  unfold controlElse
  split
  · rfl
  · split
    · rfl
    · split
      · rfl
      · exact h

theorem takeFeed_flt (ix k : Nat) (s : State) : (takeFeed ix k s).2.flt = s.flt := by
  have hp : (takeFeed.popFeed ix k s).2.flt = s.flt := by
    unfold takeFeed.popFeed
    split
    · rfl
    · rfl
  unfold takeFeed
  split
  · split
    · rfl
    · exact hp
  · exact hp

/-- A LOCAL slot whose signature check fails reports it, and is the slot that it was. -/
theorem localSlot_sig (n k : Nat) (e : PlanEntry) (s : State) : ∃ f, localSlot n k e sb s = { localSlot n k e false s with flt := f } ∧
    OtherRaises 0x245 s.flt f ∧ (localSlot n k e false s).flt = s.flt := by
  have ht := takeFeed_flt e.ref k s
  unfold localSlot
  generalize takeFeed e.ref k s = p at *
  obtain ⟨_ | c, z⟩ := p
  · exact ⟨z.flt, rfl, ht ▸ .refl _ _, ht⟩
  · dsimp only at ht ⊢
    split
    · have hf : egressCheck e.ref c false z = z := rfl
      obtain ⟨f, hx, hg⟩ : ∃ f, egressCheck e.ref c sb z = { z with flt := f } ∧ OtherRaises 0x245 z.flt f := by
        unfold egressCheck
        dsimp only
        split
        · obtain ⟨f, hx, hg⟩ := sigFail_others (flowNum 1 e.ref) (if (flowD z (flowNum 1 e.ref)).essence = 1 then secOf z else c.fseq) { src := 0x244, data := [(2, flowNum 1 e.ref), (2, c.line)] } z
          exact ⟨f, hx, hg _ (.inl rfl) rfl (show 0x245 ≠ 0x244 by decide)⟩
        · exact ⟨_, rfl, .refl _ _⟩
      refine ⟨f, ?_, ht ▸ hg, by rw [hf]; exact ht⟩
      rw [hx, hf]
      rfl
    · exact ⟨z.flt, rfl, ht ▸ .refl _ _, ht⟩

theorem transitSlot_others (n k : Nat) (e : PlanEntry) (s : State) : OtherRaises 0x245 s.flt (transitSlot n k e s).flt := by
  unfold transitSlot
  dsimp only
  split
  · exact otherRaises_raiseIf _ _ _ rfl rfl (show 0x245 ≠ 0x08C by decide)
  · split
    · exact .refl _ _
    · exact .refl _ _

/-- What a slot carries is the same whether or not its signature check fails. -/
theorem slotEntry_sig (n k : Nat) (s : State) : ∃ f, slotEntry n k sb s = { slotEntry n k false s with flt := f } ∧ OtherRaises 0x245 s.flt f ∧
    OtherRaises 0x245 s.flt (slotEntry n k false s).flt := by
  have same : ∀ v : State, v.flt = s.flt → ∃ f, v = { v with flt := f } ∧ OtherRaises 0x245 s.flt f ∧ OtherRaises 0x245 s.flt v.flt :=
    fun v h => ⟨v.flt, rfl, h ▸ .refl _ _, h ▸ .refl _ _⟩
  unfold slotEntry
  dsimp only
  generalize tgetD (activeBank (link s n)).tx (k % 4096) {} = e
  split
  · split
    · exact same _ rfl
    · exact same _ rfl
  · split
    · split
      · exact same _ rfl
      · exact same _ rfl
    · split
      · exact same _ rfl
      · split
        · split
          · exact same _ (controlElse_flt _ _ _ rfl)
          · exact same _ rfl
        · split
          · exact same _ (controlElse_flt _ _ _ (freeSlot_flt n s))
          · split
            · exact same _ (controlElse_flt _ _ _ rfl)
            · split
              · exact same _ (freeSlot_flt n s)
              · split
                · obtain ⟨f, hx, hf, h0⟩ := localSlot_sig (sb := sb) n k e s
                  exact ⟨f, hx, hf, h0 ▸ .refl _ _⟩
                · exact ⟨_, rfl, transitSlot_others n k e s, transitSlot_others n k e s⟩

theorem fabricSlot_checks (hq : Settled s) (hr : s.aqf.realign = none) (hk : k = s.tim.now / 20) :
    Completes (.fabricSlot n sb gb) s (fun t => Completes (.fabricSlot n false false) s (fun v => t = { v with flt := t.flt }) ∧
      ((link s n).st = .down ∨ (link s n).st = .quiet ∨ k < (link s n).nextSlot → t = s) ∧ (gb = true → (link s n).st ≠ .down → (link s n).st ≠ .quiet → (link s n).nextSlot ≤ k → RaisedOnce 0x245 s t)) := by
  by_cases h : (link s n).st = .down ∨ (link s n).st = .quiet ∨ s.tim.now / 20 < (link s n).nextSlot
  · refine completes_of rfl (opFabricSlot_quiet hr h) hq ⟨completes_of rfl (opFabricSlot_quiet hr h) hq rfl, fun _ => rfl, fun _ h1 h2 h3 => ?_⟩
    rcases h with h | h | h
    · exact absurd h h1
    · exact absurd h h2
    · omega
  · obtain ⟨h1, h2, h3⟩ : (link s n).st ≠ .down ∧ (link s n).st ≠ .quiet ∧ (link s n).nextSlot ≤ k := by
      simp only [not_or, Nat.not_lt] at h
      exact ⟨h.1, h.2.1, hk ▸ h.2.2⟩
    obtain ⟨f, hx, hf, h0⟩ := slotEntry_sig (sb := sb) n k (slotted n k s)
    have hd := opFabricSlot_due (sb := sb) (gb := gb) hr hk h1 h2 h3
    have hv : Completes (.fabricSlot n false false) s (fun v => v = slotEntry n k false (slotted n k s)) :=
      completes_of rfl (opFabricSlot_due hr hk h1 h2 h3) (h0.1.trans hq) rfl
    obtain ⟨v, hve, hvx⟩ := hv
    rw [hx, ← hvx] at hd
    have hno : ∀ P : Prop, (link s n).st = .down ∨ (link s n).st = .quiet ∨ k < (link s n).nextSlot → P := fun P h' => absurd (hk ▸ h') h
    cases gb with
    | false => exact completes_of rfl hd (hf.1.trans hq) ⟨⟨v, hve, rfl⟩, fun h' => hno _ h', fun h' => Bool.noConfusion h'⟩
    | true =>
      have hcs : OtherRaises 0x245 s.flt (countSig { v with flt := f }).flt := ⟨hf.1, hf.2.1, hf.2.2⟩
      refine completes_of rfl hd ((raise_resetQ (genEvent n) (countSig { v with flt := f }) rfl).trans (hcs.1.trans hq)) ⟨⟨v, hve, rfl⟩, fun h' => hno _ h', fun _ _ _ _ => ?_⟩
      exact OtherRaises.count (e := genEvent n) hcs rfl (.refl _ _)

end

end Sys2Proof.Machine

namespace Sys2Proof.Machine
open Sys2Proof

/-! ## The link by which a cell leaves stays while its slots are counted (R352) -/

/-- A key's entry set again appears among the keys of a test that it met before, at its place or earlier. -/
theorem tkeys_tput {α : Type} {t : Tab α} {n : Nat} {a b : α} {f : Nat → α → Bool} (ht : tget? t n = some a) (hf : f n b = f n a) :
    tkeys (tput t n b) f = tkeys t f ∨ f n a = true ∧ ∃ l r, tkeys t f = l ++ r ∧ tkeys (tput t n b) f = l ++ n :: r := by
  induction t with
  | nil => exact absurd ht (by simp [tget?])
  | cons p t ih =>
    obtain ⟨k, w⟩ := p
    unfold tput
    split
    · by_cases h : f n a = true
      · exact .inr ⟨h, [], _, rfl, by simp [tkeys, hf, h]⟩
      · exact .inl (by simp [tkeys, hf, h])
    · split
      · next h =>
        subst h
        have hw : w = a := by simpa [tget?] using ht
        subst hw
        exact .inl (by simp only [tkeys, List.filter_cons, hf]; split <;> rfl)
      · next h1 h2 =>
        have ht' : tget? t n = some a := by
          rw [← ht]
          exact (tget?_cons_ne w t fun h => h2 h.symm).symm
        rcases ih ht' with h | ⟨hfa, l, r, hl, hr⟩
        · exact .inl (by
            simp only [tkeys] at h
            simp only [tkeys, List.filter_cons]
            split
            · exact congrArg (k :: ·) h
            · exact h)
        · refine .inr ⟨hfa, ?_⟩
          simp only [tkeys] at hl hr
          simp only [tkeys, List.filter_cons]
          split
          · exact ⟨k :: l, r, congrArg (k :: ·) hl, congrArg (k :: ·) hr⟩
          · exact ⟨l, r, hl, hr⟩

section
variable {s : State} {n k j p : Nat}

theorem link_slotted (n k : Nat) (s : State) : link (slotted n k s) n = { link s n with nextSlot := k + 1 } := link_setLink_same _ _ _
theorem link_slotted_ne {m n : Nat} (h : m ≠ n) (k : Nat) (s : State) : link (slotted n k s) m = link s m := link_setLink_ne h _ _

/-- A slot taken changes no other field of any link. -/
theorem link_slotted_field {α : Type} (f : Link → α) (hf : ∀ (l : Link) j, f { l with nextSlot := j } = f l) (m : Nat) : f (link (slotted n k s) m) = f (link s m) := by
  by_cases h : m = n
  · subst h
    rw [link_slotted, hf]
  · rw [link_slotted_ne h]

theorem linkUp_slotted (m : Nat) : linkUp (slotted n k s) m = linkUp s m :=
  link_slotted_field (fun l => l.st == .up) (fun _ _ => rfl) m

theorem laterRole_slotted (a : Option Nat) (m : Nat) : laterRole (slotted n k s) a m = laterRole s a m := by
  have h (i : Nat) : (link (slotted n k s) i).role1At = (link s i).role1At := link_slotted_field Link.role1At (fun _ _ => rfl) i
  unfold laterRole
  simp only [h]

/-- When a candidate's peer last carried ROLE 1, counted from 1, and 0 for none. -/
def roleRank (s : State) (a : Option Nat) : Nat := match a with
  | none => 0
  | some i => ((link s i).role1At.map (· + 1)).getD 0

theorem laterRole_eq (a : Option Nat) (m : Nat) (ha : a.isSome → 0 < roleRank s a) : laterRole s a m = if roleRank s a < roleRank s (some m) then some m else a := by
  cases hm : (link s m).role1At with
  | none => simp [laterRole, roleRank, hm]
  | some t =>
    cases a with
    | none => simp [laterRole, roleRank, hm]
    | some i =>
      cases hi : (link s i).role1At with
      | none => exact absurd (ha rfl) (by simp [roleRank, hi])
      | some u => simp [laterRole, roleRank, hm, hi]

/-- A candidate met earlier changes the choice to itself at most. -/
theorem laterRoles_some (l : List Nat) (a : Option Nat) (ha : a.isSome → 0 < roleRank s a) (hn : 0 < roleRank s (some n)) (h : roleRank s a ≤ roleRank s (some n)) :
    l.foldl (laterRole s) (some n) = l.foldl (laterRole s) a ∨ l.foldl (laterRole s) (some n) = some n := by
  induction l generalizing a with
  | nil => exact .inr rfl
  | cons y l ih =>
    rw [List.foldl_cons, List.foldl_cons, laterRole_eq a y ha, laterRole_eq (some n) y (fun _ => hn)]
    by_cases h1 : roleRank s (some n) < roleRank s (some y)
    · rw [if_pos h1, if_pos (by omega)]
      exact .inl rfl
    · rw [if_neg h1]
      split
      · exact ih (some y) (fun _ => by omega) (by omega)
      · exact ih a ha h

theorem laterRoles_rank (l : List Nat) (a : Option Nat) (ha : a.isSome → 0 < roleRank s a) : (l.foldl (laterRole s) a).isSome → 0 < roleRank s (l.foldl (laterRole s) a) := by
  induction l generalizing a with
  | nil => exact ha
  | cons y l ih =>
    refine ih _ ?_
    rw [laterRole_eq a y ha]
    split
    · exact fun _ => by omega
    · exact ha

theorem laterRoles_insert (l r : List Nat) :
    (l ++ n :: r).foldl (laterRole s) none = (l ++ r).foldl (laterRole s) none ∨ (l ++ n :: r).foldl (laterRole s) none = some n := by
  rw [List.foldl_append, List.foldl_append, List.foldl_cons]
  have ha := laterRoles_rank (s := s) l none (fun h => Bool.noConfusion h)
  generalize l.foldl (laterRole s) none = a at ha ⊢
  rw [laterRole_eq a n ha]
  split
  · next h => exact laterRoles_some r a ha (by omega) (by omega)
  · exact .inl rfl

theorem find?_insert {f : Nat → Bool} (l r : List Nat) : (l ++ n :: r).find? f = (l ++ r).find? f ∨ (l ++ n :: r).find? f = some n := by
  rw [List.find?_append, List.find?_append, List.find?_cons]
  cases l.find? f with
  | some i => exact .inl rfl
  | none =>
    cases f n with
    | true => exact .inr rfl
    | false => exact .inl rfl

/-- The twin taken is the same, or the link whose slot is taken. -/
theorem pickTwin_slotted (hn : tget? s.aqf.links n ≠ none) : pickTwin (slotted n k s) p = pickTwin s p ∨ pickTwin (slotted n k s) p = some n := by
  obtain ⟨b, hb⟩ := Option.ne_none_iff_exists'.mp hn
  have hlb : link s n = b := congrArg (fun z => Option.getD z ({} : Link)) hb
  have hpeer : (link (slotted n k s) p).peer = (link s p).peer := link_slotted_field Link.peer (fun _ _ => rfl) p
  have huid : (link (slotted n k s) p).peerUid = (link s p).peerUid := link_slotted_field Link.peerUid (fun _ _ => rfl) p
  have htw := tkeys_tput (t := s.aqf.links) (n := n) (a := b) (b := { link s n with nextSlot := k + 1 })
    (f := fun i x => i != p && x.peer != 0x3FF && x.peer == (link s p).peer && x.peerUid != (link s p).peerUid) hb (by rw [hlb])
  have hf : (fun i => linkUp (slotted n k s) i && (link (slotted n k s) i).peerRole == 1) = (fun i => linkUp s i && (link s i).peerRole == 1) := funext fun i => by
    rw [linkUp_slotted, show (link (slotted n k s) i).peerRole = (link s i).peerRole from link_slotted_field Link.peerRole (fun _ _ => rfl) i]
  have hl : laterRole (slotted n k s) = laterRole s := funext fun a => funext fun m => laterRole_slotted a m
  have ht' : twins (slotted n k s) p = p :: tkeys (tput s.aqf.links n { link s n with nextSlot := k + 1 })
      (fun i x => i != p && x.peer != 0x3FF && x.peer == (link s p).peer && x.peerUid != (link s p).peerUid) := by
    unfold twins
    dsimp only
    rw [hpeer, huid]
    rfl
  unfold pickTwin
  dsimp only
  rw [hf, hl, ht']
  rcases htw with h | ⟨hfa, l, r, h1, h2⟩
  · rw [h]
    exact .inl rfl
  · have hmem : n ∈ l ++ r := h1 ▸ mem_tkeys.mpr ⟨b, mem_of_tget? hb, hfa⟩
    have hlen : 0 < (l ++ r).length := List.length_pos_of_mem hmem
    rw [h2, show twins s p = p :: (l ++ r) from congrArg (p :: ·) h1]
    have hne : ¬ (p :: (l ++ n :: r)).length < 2 := by simp
    have hne' : ¬ (p :: (l ++ r)).length < 2 := by rw [List.length_cons]; omega
    rw [if_neg hne, if_neg hne']
    have hfind := find?_insert (n := n) (f := fun i => linkUp s i && (link s i).peerRole == 1) (p :: l) r
    have hfold := laterRoles_insert (s := s) (n := n) (p :: l) r
    rw [List.cons_append, List.cons_append] at hfind hfold
    rcases hfind with h | h
    · rw [h]
      split
      · exact .inl rfl
      · exact hfold
    · rw [h]
      exact .inr rfl

theorem egressFor_slotted {dest : Nat} (hn : (link s n).st = .up) (h : egressFor s dest = some n) : egressFor (slotted n k s) dest = some n := by
  have hup : linkUp s n = true := by
    unfold linkUp
    rw [hn]
    rfl
  have hget : tget? s.aqf.links n ≠ none := fun h' => by
    have hd : link s n = {} := congrArg (fun z => Option.getD z ({} : Link)) h'
    rw [hd] at hn
    exact LinkSt.noConfusion hn
  have hpick (p : Nat) : (pickTwin (slotted n k s) p).filter (linkUp (slotted n k s)) = (pickTwin s p).filter (linkUp s) ∨ (pickTwin (slotted n k s) p).filter (linkUp (slotted n k s)) = some n := by
    rw [show linkUp (slotted n k s) = linkUp s from funext linkUp_slotted]
    rcases pickTwin_slotted (k := k) (p := p) hget with h | h
    · exact .inl (by rw [h])
    · exact .inr (by rw [h, Option.filter_some, if_pos hup])
  unfold egressFor at *
  dsimp only at *
  rw [show (slotted n k s).aqf.fwd = s.aqf.fwd from rfl]
  split at h
  · exact nomatch h
  · next hv =>
    rw [if_neg hv]
    rcases hpick (tgetD s.aqf.fwd dest {}).primary with h1 | h1
    · rw [h1]
      generalize (pickTwin s (tgetD s.aqf.fwd dest {}).primary).filter (linkUp s) = o at h ⊢
      cases o with
      | some i => exact h
      | none =>
        dsimp only at h ⊢
        split at h
        · next ha =>
          rw [if_pos ha]
          rcases hpick (tgetD s.aqf.fwd dest {}).alt with h2 | h2
          · rw [h2]; exact h
          · exact h2
        · exact nomatch h
    · rw [h1]

end

end Sys2Proof.Machine

namespace Sys2Proof.Machine
open Sys2Proof

/-! ## What a slot of a link carries (R118 to R123, R134 to R138, R148) -/

section
variable {s : State} {n k m dest cls : Nat} {l : Link} {e : PlanEntry} {x : FeedCell} {xs : List FeedCell} {z : TransitCell} {u : UnschedCell} {us : List UnschedCell} {y : CtrlCell}

/-- The slot sends the idle cell and no more. -/
def IdleSent (n m k : Nat) (s t : State) : Prop :=
  t.wire = s.wire ++ [.cell n idleCell] ∧ link t n = { link s n with nextSlot := k + 1 } ∧ link t m = link s m ∧ t = { s with aqf := { s.aqf with links := t.aqf.links }, wire := t.wire }

theorem sendIdle_sent (hm : m ≠ n) : IdleSent n m k s (sendIdle n (slotted n k s)) := ⟨rfl, link_slotted _ _ _, link_slotted_ne hm _ _, rfl⟩

/-- A slot that its link takes carries what `v` says. -/
theorem slot_carries {v : State} {P : State → Prop} (hq : Settled s) (hr : s.aqf.realign = none) (hk : k = s.tim.now / 20) (h1 : (link s n).st ≠ .down) (h2 : (link s n).st ≠ .quiet) (h3 : (link s n).nextSlot ≤ k)
    (hv : slotEntry n k false (slotted n k s) = v) (hp : P v) : Completes (.fabricSlot n false false) s P := by
  have h0 : (slotEntry n k false (slotted n k s)).flt.resetQ = [] := by
    obtain ⟨_, -, -, h0⟩ := slotEntry_sig (sb := false) n k (slotted n k s)
    exact h0.1.trans hq
  exact completes_of rfl (opFabricSlot_due hr hk h1 h2 h3) h0 (hv ▸ hp)

theorem slotEntry_shadow (h : 144 ≤ n) (h0 : k % 4096 ≠ 0) : slotEntry n k false s = sendIdle n s := (if_pos h).trans (if_neg h0)
theorem slotEntry_framing (hn : n ≤ 143) (h0 : k % 4096 ≠ 0) (h : (link s n).st = .framing) : slotEntry n k false s = sendIdle n s :=
  (if_neg (by omega)).trans ((if_neg h0).trans (if_pos (by rw [h]; rfl)))

theorem slots_idle (hq : Settled s) (hr : s.aqf.realign = none) (hk : k = s.tim.now / 20) (hm : m ≠ n) (h1 : (link s n).st ≠ .down) (h2 : (link s n).st ≠ .quiet) (h3 : (link s n).nextSlot ≤ k) :
      (k % 4096 ≠ 0 → 144 ≤ n ∨ (link s n).st = .framing → Completes (.fabricSlot n false false) s (IdleSent n m k s)) ∧
      (k % 4096 = 0 → (link s n).st = .up ∨ (link s n).st = .timing → Completes (.fabricSlot n false false) s (fun t => link t n = { link s n with nextSlot := k + 1 } ∧ t = { s with aqf := { s.aqf with links := t.aqf.links } })) ∧
      (n ≤ 143 → k % 4096 = 0 → (link s n).st = .framing ∨ (link s n).st = .hello → Completes (.fabricSlot n false false) s (IdleSent n m k s)) := by
  have hst : (link (slotted n k s) n).st = (link s n).st := (congrArg Link.st (link_slotted n k s)).trans rfl
  refine ⟨fun h0 h => ?_, fun h0 h => ?_, fun hn h0 h => ?_⟩
  · by_cases hn : 144 ≤ n
    · exact slot_carries hq hr hk h1 h2 h3 (slotEntry_shadow hn h0) (sendIdle_sent hm)
    · exact slot_carries hq hr hk h1 h2 h3 (slotEntry_framing (by omega) h0 (hst.trans (h.resolve_left hn))) (sendIdle_sent hm)
  · refine slot_carries (v := slotted n k s) hq hr hk h1 h2 h3 ?_ ⟨link_slotted _ _ _, rfl⟩
    unfold slotEntry
    dsimp only
    rw [if_pos h0, if_pos h0, hst]
    rcases h with h | h
    · rw [h]; exact ite_self _
    · rw [h]; exact ite_self _
  · refine slot_carries hq hr hk h1 h2 h3 ?_ (sendIdle_sent hm)
    refine (if_neg (by omega)).trans ((if_pos h0).trans (if_neg ?_))
    rw [hst]
    rcases h with h | h
    · rw [h]; exact Bool.false_ne_true
    · rw [h]; exact Bool.false_ne_true

/-- A slot of an UP link, by its plan. -/
def upSlot (n k : Nat) (e : PlanEntry) (s : State) : State :=
  if !(activeBank (link s n)).ok then controlElse n (freeSlot_ n) s
  else if e.kind == 1 then controlSlot n s
  else if e.kind == 0 || !(link s n).mask.contains e.group then freeSlot_ n s
  else if e.kind == 2 then localSlot n k e false s
  else transitSlot n k e s

theorem slotEntry_up (hn : n ≤ 143) (h0 : k % 4096 ≠ 0) (hst : (link s n).st = .up) : slotEntry n k false s = upSlot n k (tgetD (activeBank (link s n)).tx (k % 4096) {}) s := by
  unfold slotEntry
  dsimp only
  rw [if_neg (by omega), if_neg h0, hst]
  rfl

theorem upSlot_free (hok : (activeBank (link s n)).ok = true) (hk : e.kind = 0) : upSlot n k e s = freeSlot_ n s := by
  unfold upSlot
  rw [hok, hk]
  rfl

theorem upSlot_local (hok : (activeBank (link s n)).ok = true) (hk : e.kind = 2) (hg : (link s n).mask.contains e.group = true) : upSlot n k e s = localSlot n k e false s := by
  unfold upSlot
  rw [hok, hk, hg]
  rfl

theorem upSlot_transit (hok : (activeBank (link s n)).ok = true) (hk : e.kind = 3) (hg : (link s n).mask.contains e.group = true) : upSlot n k e s = transitSlot n k e s := by
  unfold upSlot
  rw [hok, hk, hg]
  rfl

theorem upSlot_unplanned (hok : (activeBank (link s n)).ok = false) : upSlot n k e s = controlElse n (freeSlot_ n) s := by
  unfold upSlot
  rw [hok]
  rfl

theorem takeFeed_cell {ix : Nat} (h : tget? s.aqf.fed ix = none) (hx : feedOf s ix = x :: xs) : takeFeed ix k s = (some x, setFeed ix xs { s with aqf := { s.aqf with fed := tput s.aqf.fed ix (k, x) } }) := by
  unfold takeFeed
  rw [h]
  dsimp only
  unfold takeFeed.popFeed
  rw [hx]

theorem takeFeed_none {ix : Nat} (h : tget? s.aqf.fed ix = none) (hx : feedOf s ix = []) : takeFeed ix k s = (none, s) := by
  unfold takeFeed
  rw [h]
  dsimp only
  unfold takeFeed.popFeed
  rw [hx]

/-- One destination waits in one class, and that class is served. -/
theorem serveNext_only (hd : waitingFor s n cls = [dest]) (h : ∀ j, j ≠ cls → waitingFor s n j = []) (j : Nat) (hj : cls < j) : serveNext s n j = some (cls, dest) := by
  have hone (o : Option Nat) : nextDest [dest] o = some dest := by
    unfold nextDest
    split
    · rw [List.find?_cons]
      split
      · rfl
      · rfl
    · rfl
  have hnone (o : Option Nat) : nextDest [] o = none := by
    unfold nextDest
    split
    · rfl
    · rfl
  induction j with
  | zero => omega
  | succ j ih =>
    unfold serveNext
    by_cases hjc : j = cls
    · rw [hjc, hd, hone]
    · rw [h j hjc, hnone]
      exact ih (by omega)

/-- The state after the only cell that waits has left. -/
def unschedSent (n dest cls : Nat) (u : UnschedCell) (us : List UnschedCell) (s : State) : State :=
  sendCell n (unschedBytes u) (setLink n { link s n with credits := (link s n).credits - 1, rr := tput (link s n).rr cls dest } (setVoq dest cls us s))

theorem sendUnsched_only (hv : s.aqf.voqs = [(32 * dest + cls, u :: us)]) (hc : cls < 32) (hf : (tgetD s.aqf.fwd dest {}).valid = true)
    (he : egressFor s dest = some n) (hu : u.from_ = none) : sendUnsched n s = unschedSent n dest cls u us s := by
  have hdiv : (32 * dest + cls) / 32 = dest := by omega
  have hmod : (32 * dest + cls) % 32 = cls := by omega
  have hkeep : dropUnrouted n s = s := by
    have ha : ∀ a : Aqf, a.voqs = [(32 * dest + cls, u :: us)] → { a with voqs := [(32 * dest + cls, u :: us)] } = a := fun a h => by
      cases a
      cases h
      rfl
    unfold dropUnrouted
    dsimp only
    rw [hv, List.filter_cons, List.filter_cons, hdiv, hf]
    exact congrArg (fun a => ({ s with aqf := a } : State)) (ha s.aqf hv)
  have hwait (j : Nat) : waitingFor s n j = if cls = j then [dest] else [] := by
    unfold waitingFor tkeys
    rw [hv]
    by_cases h : cls = j
    · subst h
      simp [hdiv, hmod, he]
    · simp [hmod, h]
  unfold sendUnsched
  dsimp only
  rw [hkeep, serveNext_only (cls := cls) (dest := dest) ((hwait cls).trans (if_pos rfl)) (fun j hj => (hwait j).trans (if_neg (Ne.symm hj))) 32 hc]
  dsimp only
  have hvoq : voq s dest cls = u :: us := by
    unfold voq tgetD
    rw [hv]
    simp [tget?]
  rw [hvoq]
  dsimp only
  rw [hu]
  rfl

theorem ctrlOf_slotted (r : Nat) : ctrlOf (slotted n k s) n r = ctrlOf s n r := by
  have hmay : ∀ c, ctrlMay (slotted n k s) n c = ctrlMay s n c := fun c => by
    unfold ctrlMay
    rw [linkUp_slotted]
    rfl
  unfold ctrlOf
  rw [link_slotted]
  simp only [hmay]

theorem slots_planned (hq : Settled s) (hr : s.aqf.realign = none) (hk : k = s.tim.now / 20) (hm : m ≠ n) (hn : n ≤ 143) (hst : (link s n).st = .up) (h3 : (link s n).nextSlot ≤ k)
    (h0 : k % 4096 ≠ 0) (hok : (activeBank (link s n)).ok = true) (he : e = tgetD (activeBank (link s n)).tx (k % 4096) {}) :
      (e.kind = 2 → (link s n).mask.contains e.group = true → fabricOn s = true → tget? s.aqf.fed e.ref = none → feedOf s e.ref = x :: xs → Completes (.fabricSlot n false false) s (fun t =>
        t.wire = s.wire ++ [.cell n (schedBytes e.label (link s n).active x)] ∧ feedOf t e.ref = xs ∧ link t n = { link s n with nextSlot := k + 1 } ∧ link t m = link s m ∧
        t = { s with aqf := { s.aqf with links := t.aqf.links, feed := t.aqf.feed, fed := t.aqf.fed }, wire := t.wire })) ∧
      (e.kind = 2 → (link s n).mask.contains e.group = true → tget? s.aqf.fed e.ref = none → feedOf s e.ref = [] → Completes (.fabricSlot n false false) s (IdleSent n m k s)) ∧
      (e.kind = 3 → (link s n).mask.contains e.group = true → fabricOn s = true → s.aqf.transit = [] → Completes (.fabricSlot n false false) s (fun t => Raised 0x08C [(2, e.ref), (2, k % 4096)] 0 s t ∧
        t.wire = s.wire ++ [.cell n idleCell] ∧ link t n = { link s n with nextSlot := k + 1 } ∧ t = { s with aqf := { s.aqf with links := t.aqf.links }, wire := t.wire, flt := t.flt })) ∧
      (e.kind = 3 → (link s n).mask.contains e.group = true → fabricOn s = true → s.aqf.transit = [z] → z.queue = e.ref → z.due = k → z.payload ≠ [] → Completes (.fabricSlot n false false) s (fun t =>
        t.wire = s.wire ++ [.cell n (schedBytes e.label (link s n).active { fseq := z.fseq, line := z.line, seg := z.seg, eol := z.eol, payload := z.payload })] ∧ t.flt = s.flt)) ∧
      (e.kind = 0 → (link s n).needCredit = true ∨ (link s n).credits = 0 → Completes (.fabricSlot n false false) s (IdleSent n m k s)) ∧
      (e.kind = 0 → (link s n).needCredit = false → 0 < (link s n).credits → journalCell s n = none → drives s = true → s.aqf.voqs = [(32 * dest + cls, u :: us)] → cls < 32 → (tgetD s.aqf.fwd dest {}).valid = true →
        egressFor s dest = some n → u.from_ = none → Completes (.fabricSlot n false false) s (fun t => t.wire = s.wire ++ [.cell n (unschedBytes u)] ∧ voq t dest cls = us ∧
          (link t n).credits = (link s n).credits - 1 ∧ link t m = link s m ∧ t = { s with aqf := { s.aqf with links := t.aqf.links, voqs := t.aqf.voqs }, wire := t.wire })) := by
  have h1 : (link s n).st ≠ .down := by rw [hst]; exact fun h => LinkSt.noConfusion h
  have h2 : (link s n).st ≠ .quiet := by rw [hst]; exact fun h => LinkSt.noConfusion h
  have hl := link_slotted n k s
  have hz : slotEntry n k false (slotted n k s) = upSlot n k e (slotted n k s) := by
    rw [slotEntry_up hn h0 (by rw [hl]; exact hst), hl, he]
    rfl
  have hok' : (activeBank (link (slotted n k s) n)).ok = true := by rw [hl]; exact hok
  have hg' (h : (link s n).mask.contains e.group = true) : (link (slotted n k s) n).mask.contains e.group = true := by rw [hl]; exact h
  have hact : (link (slotted n k s) n).active = (link s n).active := by rw [hl]
  refine ⟨fun hkd hg hon hfd hx => ?_, fun hkd hg hfd hx => ?_, fun hkd hg hon ht => ?_, fun hkd hg hon ht hzq hzd hp => ?_, fun hkd h => ?_, fun hkd hnc hcr hj hd hv hc hf heg hu => ?_⟩
  · refine slot_carries hq hr hk h1 h2 h3 (hz.trans (upSlot_local hok' hkd (hg' hg))) ?_
    have ht := takeFeed_cell (k := k) (s := slotted n k s) hfd hx
    have hloc : localSlot n k e false (slotted n k s) = sendCell n (schedBytes e.label (link s n).active x) (setFeed e.ref xs { slotted n k s with aqf := { (slotted n k s).aqf with fed := tput s.aqf.fed e.ref (k, x) } }) := by
      unfold localSlot
      rw [ht]
      refine (if_pos hon).trans ?_
      rw [← hact]
      rfl
    rw [hloc]
    exact ⟨rfl, tgetD_tput_same _ _ _ _, hl, link_slotted_ne hm _ _, rfl⟩
  · refine slot_carries hq hr hk h1 h2 h3 (hz.trans ((upSlot_local hok' hkd (hg' hg)).trans ?_)) (sendIdle_sent hm)
    unfold localSlot
    rw [takeFeed_none (k := k) (s := slotted n k s) hfd hx]
  · let v : Ev := { src := 0x08C, data := [(2, e.ref), (2, k % 4096)] }
    let w : State := { slotted n k s with aqf := { (slotted n k s).aqf with transit := [] } }
    refine slot_carries (v := sendIdle n (raise v w)) hq hr hk h1 h2 h3 (hz.trans ((upSlot_transit hok' hkd (hg' hg)).trans ?_)) ⟨raise_raised v w rfl, rfl, hl, ?_⟩
    · unfold transitSlot
      dsimp only
      rw [show (slotted n k s).aqf.transit = [] from ht]
      exact congrArg (sendIdle n) (if_pos hon)
    · have ha : ∀ a : Aqf, a.transit = [] → { a with transit := [] } = a := fun a h => by
        cases a
        cases h
        rfl
      show _ = _
      rw [← ha s.aqf ht]
      rfl
  · refine slot_carries hq hr hk h1 h2 h3 (hz.trans (upSlot_transit hok' hkd (hg' hg))) ?_
    have htr : transitSlot n k e (slotted n k s) = sendCell n (schedBytes e.label (link s n).active { fseq := z.fseq, line := z.line, seg := z.seg, eol := z.eol, payload := z.payload })
        { slotted n k s with aqf := { (slotted n k s).aqf with transit := [z] } } := by
      unfold transitSlot
      dsimp only
      rw [show (slotted n k s).aqf.transit = [z] from ht, List.filter_cons, if_pos (by rw [hzd]; simp), List.filter_nil, List.find?_cons,
        show (z.queue == e.ref && z.due == k) = true by rw [hzq, hzd]; simp]
      dsimp only
      rw [← hact]
      refine if_neg ?_
      rw [List.isEmpty_eq_false_iff.mpr hp, Bool.false_or]
      show ¬ (!fabricOn s) = true
      rw [hon]
      exact Bool.false_ne_true
    rw [htr]
    exact ⟨rfl, rfl⟩
  · refine slot_carries hq hr hk h1 h2 h3 (hz.trans ((upSlot_free hok' hkd).trans ?_)) (sendIdle_sent hm)
    refine if_pos ?_
    rw [hl]
    rcases h with h | h
    · simp [h]
    · simp [h]
  · refine slot_carries (v := unschedSent n dest cls u us (slotted n k s)) hq hr hk h1 h2 h3 (hz.trans ((upSlot_free hok' hkd).trans ?_)) ⟨rfl, tgetD_tput_same _ _ _ _, ?_, ?_, rfl⟩
    · unfold freeSlot_
      dsimp only
      rw [if_neg (by rw [hl]; simp [hnc]; omega), show journalCell (slotted n k s) n = none from hj]
      exact (if_pos hd).trans (sendUnsched_only hv hc hf (egressFor_slotted hst heg) hu)
    · refine (congrArg Link.credits (link_setLink_same _ _ _)).trans ?_
      exact (congrArg (fun z : Link => z.credits - 1) hl).trans rfl
    · exact (link_setLink_ne hm _ _).trans (link_slotted_ne hm _ _)

theorem slots_unplanned (hq : Settled s) (hr : s.aqf.realign = none) (hk : k = s.tim.now / 20) (hm : m ≠ n) (hn : n ≤ 143) (hst : (link s n).st = .up) (h3 : (link s n).nextSlot ≤ k)
    (h0 : k % 4096 ≠ 0) (hok : (activeBank (link s n)).ok = false) :
      (ctrlOf s n 0 = none → ctrlOf s n 2 = none → ctrlOf s n 3 = none → (link s n).toReturn = 0 → (link s n).needCredit = true → Completes (.fabricSlot n false false) s (IdleSent n m k s)) ∧
      (ctrlOf s n 0 = some y → Completes (.fabricSlot n false false) s (fun t => t.wire = s.wire ++ [.cell n (ctrlBytes y)] ∧ (link t n).ctrlQ = (link s n).ctrlQ.erase y ∧ (link t n).nextSlot = k + 1 ∧
        link t m = link s m ∧ t = { s with aqf := { s.aqf with links := t.aqf.links }, wire := t.wire })) ∧
      (ctrlOf s n 0 = none → 0 < (link s n).toReturn → Completes (.fabricSlot n false false) s (fun t =>
        t.wire = s.wire ++ [.cell n (ctrlBytes { src := devId s, ctype := 3, seq := s.aqf.ctrlSeq, msg := leBytes 2 (link s n).toReturn })] ∧ (link t n).toReturn = 0 ∧ link t m = link s m)) := by
  have h1 : (link s n).st ≠ .down := by rw [hst]; exact fun h => LinkSt.noConfusion h
  have h2 : (link s n).st ≠ .quiet := by rw [hst]; exact fun h => LinkSt.noConfusion h
  have hl := link_slotted n k s
  have hz : slotEntry n k false (slotted n k s) = controlElse n (freeSlot_ n) (slotted n k s) := by
    rw [slotEntry_up hn h0 (by rw [hl]; exact hst)]
    exact upSlot_unplanned (by rw [hl]; exact hok)
  have hup : linkUp (slotted n k s) n = true := by
    rw [linkUp_slotted]
    unfold linkUp
    rw [hst]
    rfl
  unfold controlElse at hz
  rw [ctrlOf_slotted, ctrlOf_slotted, ctrlOf_slotted, hup, hl] at hz
  dsimp only at hz
  refine ⟨fun c0 c2 c3 hret hnc => ?_, fun c0 => ?_, fun c0 hret => ?_⟩
  · rw [c0, c2, c3, hret] at hz
    have hfree : slotEntry n k false (slotted n k s) = freeSlot_ n (slotted n k s) := hz
    refine slot_carries hq hr hk h1 h2 h3 (hfree.trans (if_pos ?_)) (sendIdle_sent hm)
    rw [hl, hnc]
    rfl
  · rw [c0] at hz
    refine slot_carries (v := sendQueued n y (slotted n k s)) hq hr hk h1 h2 h3 hz ⟨rfl, ?_, ?_, (link_setLink_ne hm _ _).trans (link_slotted_ne hm _ _), rfl⟩
    · exact (congrArg Link.ctrlQ (link_setLink_same _ _ _)).trans ((congrArg (fun z : Link => z.ctrlQ.erase y) hl).trans rfl)
    · exact (congrArg Link.nextSlot (link_setLink_same _ _ _)).trans ((congrArg Link.nextSlot hl).trans rfl)
  · rw [c0] at hz
    refine slot_carries (v := sendCredit n (slotted n k s)) hq hr hk h1 h2 h3 (hz.trans (if_pos (by simp; exact hret))) ⟨?_, congrArg Link.toReturn (link_setLink_same _ _ _), (link_setLink_ne hm _ _).trans (link_slotted_ne hm _ _)⟩
    show s.wire ++ [.cell n (ctrlBytes { src := devId s, ctype := 3, seq := s.aqf.ctrlSeq, msg := leBytes 2 (link (slotted n k s) n).toReturn })] = _
    rw [hl]

end

end Sys2Proof.Machine

namespace Sys2Proof.Machine
open Sys2Proof

/-! ## A line of black fills its cells (R27, R33) -/

theorem cutCells_length (n : Nat) (l : List Byte) (h : n = 0 ∨ 240 * (n - 1) < l.length) : (cutCells n l).length = n := by
  induction n generalizing l with
  | zero => rfl
  | succ n ih =>
    have hl : 240 * n < l.length := h.resolve_left (Nat.succ_ne_zero n)
    have he : l.isEmpty = false := List.isEmpty_eq_false_iff.mpr (List.length_pos_iff.mp (by omega))
    unfold cutCells
    rw [he]
    refine congrArg Nat.succ (ih (l.drop 240) ?_)
    rw [List.length_drop]
    omega

theorem blackGroup_samples (f c : Nat) : (blackGroup f c).1.length = (if fmtSampling f = 1 ∨ fmtSampling f = 2 then 4 else if fmtSampling f = 3 ∨ fmtSampling f = 4 then 12 else 6) ∧
    (blackGroup f c).2 = (if fmtSampling f = 1 ∨ fmtSampling f = 2 then 2 else if fmtSampling f = 3 ∨ fmtSampling f = 4 then 4 else 2) := by
  unfold blackGroup
  split
  · exact ⟨rfl, rfl⟩
  · split
    · exact ⟨rfl, rfl⟩
    · exact ⟨rfl, rfl⟩

theorem blackLine_length (f c : Nat) : (blackLine f c).length = fmtWidth f / (blackGroup f c).2 * ceilDiv (sampleBits f * (blackGroup f c).1.length) 8 := by
  have hp : (packSamples (sampleBits f) (blackGroup f c).1).length = ceilDiv (sampleBits f * (blackGroup f c).1.length) 8 := by
    unfold packSamples beBytes
    rw [List.length_reverse, leBytes_length]
  unfold blackLine
  rw [List.length_flatten, List.map_replicate, hp, List.sum_replicate_nat]

theorem fmtWidth_cases (f : Nat) : fmtWidth f ∈ [0, 1280, 1920, 3840, 4096] := by
  unfold fmtWidth rasterDims
  split
  all_goals decide

theorem samplingBits_none {n : Nat} (h : ¬ (1 ≤ n ∧ n ≤ 6)) : samplingBits n = none := by
  unfold samplingBits
  split
  · omega
  · omega
  · omega
  · omega
  · omega
  · omega
  · rfl

/-- Its bytes reach into the last of the line's cells. -/
theorem blackLine_fills (f c : Nat) : cellsPerLine f = 0 ∨ 240 * (cellsPerLine f - 1) < (blackLine f c).length := by
  obtain ⟨h1, h2⟩ := blackGroup_samples f c
  have hw := fmtWidth_cases f
  rw [blackLine_length, h1, h2]
  unfold cellsPerLine fmtBits sampleBits
  generalize fmtWidth f = w at hw ⊢
  generalize fmtSampling f = n
  by_cases hn : 1 ≤ n ∧ n ≤ 6
  · have key : ∀ n ∈ [1, 2, 3, 4, 5, 6], ∀ w ∈ [0, 1280, 1920, 3840, 4096],
        ceilDiv (w * (samplingBits n).getD 0) 1920 = 0 ∨ 240 * (ceilDiv (w * (samplingBits n).getD 0) 1920 - 1) <
          w / (if n = 1 ∨ n = 2 then 2 else if n = 3 ∨ n = 4 then 4 else 2) *
            ceilDiv ((if n = 2 ∨ n = 5 ∨ n = 6 then 12 else 10) * (if n = 1 ∨ n = 2 then 4 else if n = 3 ∨ n = 4 then 12 else 6)) 8 := by
      decide
    exact key n (by simp; omega) w hw
  · rw [samplingBits_none hn]
    exact .inl (by rw [Option.getD_none, Nat.mul_zero]; rfl)

section
variable {s z : State} {o k ix line m at_ : Nat} {f : Flow} {x q : Stored} {w : XpLive} {fr : ReadFault}

theorem plat_setPlat_same (ix : Nat) (p : Platform) (s : State) : plat (setPlat ix p s) ix = p := tgetD_tput_same _ _ _ _
theorem plat_setPlat_ne {ix m : Nat} (h : m ≠ ix) (p : Platform) (s : State) : plat (setPlat ix p s) m = plat s m := tgetD_tput_ne _ _ _ h

/-! ## One line of a platform (R27, R82, R84) -/

/-- A flow that feeds the fabric releases the cells of the line its platform has read (R137). -/
def releaseLine (ix line : Nat) (f : Flow) (s : State) : State :=
  if f.endpoint = 2 then releaseCells ix ((plat s ix).fi % 256) line true (cutCells (cellsPerLine f.format) (plat s ix).bytes) s else s

theorem releaseLine_flt (ix line : Nat) (f : Flow) (s : State) (g : Flt) : releaseLine ix line f { s with flt := g } = { releaseLine ix line f s with flt := g } := by
  unfold releaseLine
  split
  · rfl
  · rfl

theorem releaseLine_feed (ix line : Nat) (f : Flow) (s : State) : ∃ d, releaseLine ix line f s = { s with aqf := { s.aqf with feed := d } } := by
  unfold releaseLine
  split
  · exact ⟨_, rfl⟩
  · exact ⟨_, rfl⟩

theorem opPlatformLineRead_runs (ho : o = normFlow o) (hn : nsOf o = 1) (hst : (flowD s o).st = .running) (he : (flowD s o).essence = 0) (hl : line < fmtLines (flowD s o).format)
    (hat : tOf s (flowD s o).domain (latched s (ixOf o)).fi + lineOffset (flowD s o).format line (flowD s o).depth = at_) :
    opPlatformLineRead o line fr s = releaseLine (ixOf o) line (flowD s o) (readLine o line fr (atLeast at_ s)) := by
  unfold opPlatformLineRead
  dsimp only
  rw [← ho, hat, hn, hst, he, decide_eq_true hl]
  rfl

theorem opPlatformLineRead_other (h : (flowD s (normFlow o)).st ≠ .running) : opPlatformLineRead o line fr s = s := by
  refine if_pos ?_
  have hb : ((flowD s (normFlow o)).st != .running) = true := bne_iff_ne.mpr h
  rw [hb, Bool.or_true, Bool.true_or, Bool.true_or]

/-- The platform with a line of its source. -/
def emitted (o k : Nat) (x : Stored) (s : State) : State :=
  setPlat (ixOf o) { plat s (ixOf o) with
    line := k, bytes := x.bytes, fill := false, src := (latched s (ixOf o)).src, fi := (latched s (ixOf o)).fi, sig := x.sig } s

theorem raise_limit (e : Ev) (s : State) : (raise e s).flt.limit = s.flt.limit := by
  obtain ⟨-, -, -, -, -, -, -, -, -, -, h⟩ := raise_flt_frame e s
  exact h

/-- A line read with failing checks is the line, and what the checks report. -/
theorem emitLine_emitted (o k : Nat) (x : Stored) (f : ReadFault) (y : State) : ∃ g, emitLine o k x f y = { emitted o k x y with flt := g } ∧
    (∀ src, src ≠ 0x248 → src ≠ 0x242 → OtherRaises src y.flt g) ∧ (f.crc = true → (tgetD g.stat 0x248 {}).count = min ((tgetD y.flt.stat 0x248 {}).count + 1) 255) ∧
    (f.sig = true → (flowD y (latched y (ixOf o)).src).sigEn = true → y.flt.limit = [] → (tgetD g.stat 0x242 {}).count = min ((tgetD y.flt.stat 0x242 {}).count + 1) 255) ∧
    (f.crc = false → (flowD y (latched y (ixOf o)).src).sigEn = false → g = y.flt) := by
  obtain ⟨g1, hx1, ho1, hc1, hl1, hn1⟩ : ∃ g, checkFail f.crc { src := 0x248, data := [(1, f.bank), (1, f.row), (1, 0)] } (emitted o k x y) = { emitted o k x y with flt := g } ∧
      (∀ src, src ≠ 0x248 → OtherRaises src y.flt g) ∧ (f.crc = true → (tgetD g.stat 0x248 {}).count = min ((tgetD y.flt.stat 0x248 {}).count + 1) 255) ∧ g.limit = y.flt.limit ∧ (f.crc = false → g = y.flt) := by
    unfold checkFail
    let e : Ev := { src := 0x248, data := [(1, f.bank), (1, f.row), (1, 0)] }
    split
    · next h =>
      exact ⟨_, rfl, fun src h' => otherRaises_raise e (countSig (emitted o k x y)) rfl rfl h', fun _ => (raise_raised e (countSig (emitted o k x y)) rfl).1, raise_limit e (countSig (emitted o k x y)), fun h' => absurd h (by rw [h']; exact Bool.false_ne_true)⟩
    · next h => exact ⟨_, rfl, fun _ _ => .refl _ _, fun h' => absurd h' h, rfl, fun _ => rfl⟩
  let e : Ev := { src := 0x242, data := [(2, o), (2, (latched y (ixOf o)).src), (2, k), (1, (latched y (ixOf o)).fi % 256)] }
  obtain ⟨b, hb, hbs⟩ : ∃ b, emitLine o k x f y = (if b && (flowD y (latched y (ixOf o)).src).sigEn then sigFail o (latched y (ixOf o)).fi e { emitted o k x y with flt := g1 } else { emitted o k x y with flt := g1 }) ∧
      (f.sig = true → b = true) := by
    refine ⟨f.sig || (match x.sig with
      | some c => (flowD y (latched y (ixOf o)).src).sigEn && c != signature y (latched y (ixOf o)).src k ((latched y (ixOf o)).fi % 256) 0 x.bytes
      | none => false), ?_, fun h => by rw [h]; rfl⟩
    rw [← hx1]
    rfl
  rw [hb]
  obtain ⟨g2, hx2, ho2⟩ := sigFail_others o (latched y (ixOf o)).fi e { emitted o k x y with flt := g1 }
  split
  · next h =>
    rw [Bool.and_eq_true] at h
    refine ⟨g2, hx2, fun src h8 h2 => (ho1 src h8).trans (ho2 src (.inl rfl) rfl h2), fun hcrc => ?_, fun _ _ hlim => ?_, fun _ hsig => absurd h.2 (by rw [hsig]; exact Bool.false_ne_true)⟩
    · rw [(ho2 0x248 (.inl rfl) rfl (show 0x248 ≠ 0x242 by decide)).2.1]
      exact hc1 hcrc
    · have hs : sigFail o (latched y (ixOf o)).fi e { emitted o k x y with flt := g1 } = raise e { countSig { emitted o k x y with flt := g1 } with flt := { (countSig { emitted o k x y with flt := g1 }).flt with
          limit := ((e.src, o), (latched y (ixOf o)).fi) :: g1.limit.filter (fun p => !(p.1 == (e.src, o))) } } := by
        refine if_neg ?_
        show ¬ (g1.limit.any _) = true
        rw [hl1, hlim]
        exact Bool.false_ne_true
      have hg2 : g2 = (sigFail o (latched y (ixOf o)).fi e { emitted o k x y with flt := g1 }).flt := by rw [hx2]
      rw [hg2, hs]
      refine (raise_raised e _ rfl).1.trans ?_
      show min ((tgetD g1.stat 0x242 {}).count + 1) 255 = _
      rw [(ho1 0x242 (by decide)).2.1]
  · next h =>
    refine ⟨g1, rfl, fun src h8 _ => ho1 src h8, hc1, fun hsg hen _ => absurd ?_ h, fun hcrc _ => hn1 hcrc⟩
    rw [hbs hsg, hen]
    rfl

/-- A fill line on the platform. -/
def filled (o k : Nat) (s : State) : Platform :=
  { plat s (ixOf o) with
    line := k, bytes := blackLine (flowD s o).format (flowD s o).colour, fill := true, src := (latched s (ixOf o)).src, fi := (latched s (ixOf o)).fi, sig := none }

theorem emitFill_eq (o k : Nat) (s : State) : emitFill o k s = setPlat (ixOf o) (filled o k s) s := rfl

/-- The line of the latched source is there. -/
def lineHere (o k : Nat) (s : State) : Bool :=
  (stored s (latched s (ixOf o)).src k).complete && (stored s (latched s (ixOf o)).src k).line == k && (stored s (latched s (ixOf o)).src k).fi == (latched s (ixOf o)).fi

def corrEvent (f : ReadFault) : Ev := { src := 0x046, data := [(1, f.bank), (1, f.row)] }
def eccEvent (f : ReadFault) : Ev := { src := 0x047, data := [(1, f.bank), (1, f.row)] }

/-- A line missing, or read with an uncorrectable word. -/
def missLine (o k : Nat) (f : ReadFault) (s : State) : State :=
  let l := latched s (ixOf o)
  let v := emitFill o k (raiseIf f.ecc (eccEvent f) s)
  if (flowD s l.src).st == .held then raise { src := 0x07D, data := [(2, o), (2, l.src)] } (setPlat (ixOf o) { plat v (ixOf o) with heldSrc := some l.src } v)
  else raise { src := 0x042, data := [(2, o), (2, k), (1, l.fi % 256)] } v

/-- A line of a source that is selected and not known to be HELD. -/
def selectedLine (o k : Nat) (f : ReadFault) (s : State) : State :=
  let s := raiseIf f.corrected (corrEvent f) s
  if lineHere o k s && !f.ecc then emitLine o k (stored s (latched s (ixOf o)).src k) f s else missLine o k f s

/-- The line of a latch as `readLine` takes it, once an unselected platform has forgotten its HELD source. -/
def latchedLine (l : XpLive) (x : Stored) (here : Bool) (src : Flow) (o k : Nat) (f : ReadFault) (s : State) : State :=
  let f := if l.sel && here && !beforeCommit s (flowD s o).domain then f else {}
  let s := raiseIf f.corrected (corrEvent f) s
  if !l.sel || beforeCommit s (flowD s o).domain || (src.restore.isSome && !here) then emitFill o k s
  else if (plat s (ixOf o)).heldSrc == some l.src then emitFill o k s
  else
    let s := if (plat s (ixOf o)).heldSrc.isSome then setPlat (ixOf o) { plat s (ixOf o) with heldSrc := none } s else s
    if here && !f.ecc then emitLine o k x f s
    else
      let s := emitFill o k (raiseIf f.ecc (eccEvent f) s)
      if src.st == .held then
        raise { src := 0x07D, data := [(2, o), (2, l.src)] }
          (setPlat (ixOf o) { plat s (ixOf o) with heldSrc := some l.src } s)
      else raise { src := 0x042, data := [(2, o), (2, k), (1, l.fi % 256)] } s

theorem readLine_latched (o k : Nat) (f : ReadFault) (z : State) : readLine o k f z =
    latchedLine (latched z (ixOf o)) (stored z (latched z (ixOf o)).src k) (lineHere o k z) (flowD z (latched z (ixOf o)).src) o k f
      (if !(latched z (ixOf o)).sel then setPlat (ixOf o) { plat z (ixOf o) with heldSrc := none } z else z) := rfl

theorem raiseIf_flt (b : Bool) (e : Ev) (s : State) : raiseIf b e s = { s with flt := (raiseIf b e s).flt } := by
  unfold raiseIf
  split
  · rfl
  · rfl

theorem readLine_selected (hsel : (latched z (ixOf o)).sel = true) (hb : beforeCommit z (flowD z o).domain = false) (hh : (plat z (ixOf o)).heldSrc = none)
    (hr : (flowD z (latched z (ixOf o)).src).restore = none) : readLine o k fr z = selectedLine o k (if lineHere o k z then fr else {}) z := by
  rw [readLine_latched, if_neg (by rw [hsel]; exact Bool.false_ne_true)]
  unfold latchedLine
  dsimp only
  rw [hsel, hb, Bool.true_and, Bool.not_false, Bool.and_true]
  generalize (if lineHere o k z then fr else {}) = f
  have hv := raiseIf_flt f.corrected (corrEvent f) z
  unfold selectedLine
  dsimp only
  generalize raiseIf f.corrected (corrEvent f) z = v at hv ⊢
  rw [hr, show beforeCommit v (flowD v o).domain = false by rw [hv]; exact hb, show (plat v (ixOf o)).heldSrc = none by rw [hv]; exact hh,
    show lineHere o k v = lineHere o k z by rw [hv]; rfl]
  rw [hv]
  rfl

theorem readLine_unselected (h : (latched z (ixOf o)).sel = false) :
    readLine o k fr z = emitFill o k (setPlat (ixOf o) { plat z (ixOf o) with heldSrc := none } z) := by
  rw [readLine_latched, if_pos (by rw [h]; rfl)]
  unfold latchedLine
  dsimp only
  rw [h]
  rfl

/-- The platform line is read as `v` says, with the cells it releases. -/
theorem platformLine_ends {v : State} {P : State → Prop} (hq : v.flt.resetQ = []) (ho : o = normFlow o) (hn : nsOf o = 1) (hst : (flowD s o).st = .running) (he : (flowD s o).essence = 0)
    (hl : line < fmtLines (flowD s o).format)
    (hv : readLine o line fr (atLeast (tOf s (flowD s o).domain (latched s (ixOf o)).fi + lineOffset (flowD s o).format line (flowD s o).depth) s) = v)
    (h : P (releaseLine (ixOf o) line (flowD s o) v)) : Completes (.platformLineRead o line fr) s P := by
  obtain ⟨d, hd⟩ := releaseLine_feed (ixOf o) line (flowD s o) v
  exact completes_of rfl ((opPlatformLineRead_runs ho hn hst he hl rfl).trans (congrArg (releaseLine (ixOf o) line (flowD s o)) hv)) (by rw [hd]; exact hq) h

/-- A platform with no source known to be HELD. -/
def unheld (o : Nat) (s : State) : State := setPlat (ixOf o) { plat s (ixOf o) with heldSrc := none } s

/-- When a line of an output is read (R82). -/
def lineDue (s : State) (o line : Nat) : Nat := tOf s (flowD s o).domain (latched s (ixOf o)).fi + lineOffset (flowD s o).format line (flowD s o).depth

theorem platformLine_unselected (hq : Settled s) (ho : o = normFlow o) (hix : ix = ixOf o) (hn : nsOf o = 1) (hf : f = flowD s o) (hst : f.st = .running) (he : f.essence = 0) (hl : line < fmtLines f.format)
    (hw : w = latched s ix) (hat : at_ = max s.tim.now (tOf s f.domain w.fi + lineOffset f.format line f.depth)) :
      (w.sel = false → Completes (.platformLineRead o line {}) s (fun t => (plat t ix).bytes = blackLine f.format f.colour ∧ (plat t ix).fill = true ∧ (plat t ix).line = line ∧ t.tim.now = at_ ∧
        (f.endpoint ≠ 2 → t = { s with tim := { s.tim with now := t.tim.now }, swc := { s.swc with plats := t.swc.plats } }) ∧
        (f.endpoint = 2 → (feedOf t ix).length = (feedOf s ix).length + cellsPerLine f.format ∧ t = { s with tim := { s.tim with now := t.tim.now }, swc := { s.swc with plats := t.swc.plats }, aqf := { s.aqf with feed := t.aqf.feed } }))) := by
  subst hf hw hix
  intro hsel
  refine platformLine_ends (v := emitFill o line (unheld o (atLeast (lineDue s o line) s))) hq ho hn hst he hl (readLine_unselected hsel) ?_
  subst hat
  have hat : max s.tim.now (tOf s (flowD s o).domain (latched s (ixOf o)).fi + lineOffset (flowD s o).format line (flowD s o).depth) = max s.tim.now (lineDue s o line) := rfl
  rw [hat]
  generalize lineDue s o line = a
  have hp : plat (emitFill o line (unheld o (atLeast a s))) (ixOf o) = filled o line (unheld o (atLeast a s)) := plat_setPlat_same _ _ _
  have hb : (filled o line (unheld o (atLeast a s))).bytes = blackLine (flowD s o).format (flowD s o).colour := rfl
  unfold releaseLine
  split
  · next h2 =>
    refine ⟨congrArg Platform.bytes hp, congrArg Platform.fill hp, congrArg Platform.line hp, rfl, fun h => absurd h2 h, fun _ => ⟨?_, rfl⟩⟩
    refine (congrArg List.length (tgetD_tput_same _ _ _ _)).trans ?_
    rw [List.length_append, List.length_map, List.length_zipIdx, congrArg Platform.bytes hp, hb, cutCells_length _ _ (blackLine_fills _ _)]
    rfl
  · next h2 => exact ⟨congrArg Platform.bytes hp, congrArg Platform.fill hp, congrArg Platform.line hp, rfl, fun _ => rfl, fun h => absurd h h2⟩

/-- A line read whole, with what its checks report. -/
theorem selectedLine_here (hh : lineHere o k z = true) (he : fr.ecc = false) (hq : stored z (latched z (ixOf o)).src k = q) : ∃ g, selectedLine o k fr z = { emitted o k q z with flt := g } ∧
    g.resetQ = z.flt.resetQ ∧ (fr.corrected = true → (tgetD g.stat 0x046 {}).count = min ((tgetD z.flt.stat 0x046 {}).count + 1) 255) ∧
    (fr.crc = true → (tgetD g.stat 0x248 {}).count = min ((tgetD z.flt.stat 0x248 {}).count + 1) 255) ∧
    (fr.sig = true → (flowD z (latched z (ixOf o)).src).sigEn = true → z.flt.limit = [] → (tgetD g.stat 0x242 {}).count = min ((tgetD z.flt.stat 0x242 {}).count + 1) 255) ∧
    (fr.corrected = false → fr.crc = false → (flowD z (latched z (ixOf o)).src).sigEn = false → g = z.flt) := by
  subst hq
  obtain ⟨g0, hv, hc, ho, hlim, hn⟩ : ∃ g, raiseIf fr.corrected (corrEvent fr) z = { z with flt := g } ∧
      (fr.corrected = true → (tgetD g.stat 0x046 {}).count = min ((tgetD z.flt.stat 0x046 {}).count + 1) 255) ∧ (∀ src, src ≠ 0x046 → OtherRaises src z.flt g) ∧
      g.limit = z.flt.limit ∧ (fr.corrected = false → g = z.flt) := by
    unfold raiseIf
    split
    · next h => exact ⟨_, rfl, fun _ => (raise_raised (corrEvent fr) z rfl).1, fun src h' => otherRaises_raise (corrEvent fr) z rfl rfl h', raise_limit _ _, fun h' => absurd h (by rw [h']; exact Bool.false_ne_true)⟩
    · next h => exact ⟨_, rfl, fun h' => absurd h' h, fun _ _ => .refl _ _, rfl, fun _ => rfl⟩
  have hsel : selectedLine o k fr z = emitLine o k (stored z (latched z (ixOf o)).src k) fr { z with flt := g0 } := by
    unfold selectedLine
    dsimp only
    rw [hv]
    refine if_pos ?_
    rw [show lineHere o k { z with flt := g0 } = true from hh, he]
    rfl
  obtain ⟨g, hx, hother, hcrc, hsig, hnone⟩ := emitLine_emitted o k (stored z (latched z (ixOf o)).src k) fr { z with flt := g0 }
  refine ⟨g, hsel.trans hx, (hother 0x046 (by decide) (by decide)).1.trans (ho 0x047 (by decide)).1, fun h => ?_, fun h => ?_, fun h h1 h2 => ?_, fun h h1 h2 => (hnone h1 h2).trans (hn h)⟩
  · rw [(hother 0x046 (by decide) (by decide)).2.1]
    exact hc h
  · refine (hcrc h).trans ?_
    rw [(ho 0x248 (by decide)).2.1]
  · refine (hsig h h1 (hlim.trans h2)).trans ?_
    rw [(ho 0x242 (by decide)).2.1]

/-- A line missed: the fill line, and LINE_MISSING or SOURCE_HELD. -/
theorem missLine_lost (h : (flowD z (latched z (ixOf o)).src).st ≠ .held) :
    missLine o k fr z = raise { src := 0x042, data := [(2, o), (2, k), (1, (latched z (ixOf o)).fi % 256)] } (emitFill o k (raiseIf fr.ecc (eccEvent fr) z)) :=
  if_neg fun h' => h (eq_of_beq h')

theorem missLine_held (h : (flowD z (latched z (ixOf o)).src).st = .held) : ∃ p : Platform, p.fill = true ∧ p.heldSrc = some (latched z (ixOf o)).src ∧
    missLine o k {} z = raise { src := 0x07D, data := [(2, o), (2, (latched z (ixOf o)).src)] } (setPlat (ixOf o) p (emitFill o k z)) :=
  ⟨{ plat (emitFill o k z) (ixOf o) with heldSrc := some (latched z (ixOf o)).src }, congrArg Platform.fill (plat_setPlat_same (ixOf o) (filled o k z) z), rfl, if_pos (by rw [h]; rfl)⟩

theorem platformLine_selected (hq : Settled s) (ho : o = normFlow o) (hix : ix = ixOf o) (hn : nsOf o = 1) (hf : f = flowD s o) (hst : f.st = .running) (he : f.essence = 0) (hl : line < fmtLines f.format)
    (hw : w = latched s ix) (hqq : q = stored s w.src line) (hat : at_ = max s.tim.now (tOf s f.domain w.fi + lineOffset f.format line f.depth)) :
      (w.sel = true → beforeCommit s f.domain = false → (plat s ix).heldSrc = none → (flowD s w.src).restore = none →
        (q.complete = true → q.line = line → q.fi = w.fi → (flowD s w.src).sigEn = false → Completes (.platformLineRead o line {}) s (fun t => (plat t ix).bytes = q.bytes ∧ (plat t ix).fill = false ∧
          (plat t ix).src = w.src ∧ (plat t ix).fi = w.fi ∧ (m ≠ ix → plat t m = plat s m) ∧ t.tim.now = at_ ∧ t.flt = s.flt)) ∧
        (q.complete = true → q.line = line → q.fi = w.fi →
          (fr.ecc = true → (flowD s w.src).st ≠ .held → Completes (.platformLineRead o line fr) s (fun t => (plat t ix).fill = true ∧ RaisedOnce 0x047 s t ∧ Raised 0x042 [(2, o), (2, line), (1, w.fi % 256)] 0 s t)) ∧
          (fr.ecc = false → Completes (.platformLineRead o line fr) s (fun t => Completes (.platformLineRead o line {}) s (fun v => t = { v with flt := t.flt }) ∧
            (fr.corrected = true → RaisedOnce 0x046 s t) ∧ (fr.crc = true → RaisedOnce 0x248 s t) ∧ (fr.sig = true → (flowD s w.src).sigEn = true → s.flt.limit = [] → RaisedOnce 0x242 s t)))) ∧
        (q.complete = false → (flowD s w.src).st ≠ .held → Completes (.platformLineRead o line {}) s (fun t => (plat t ix).fill = true ∧ Raised 0x042 [(2, o), (2, line), (1, w.fi % 256)] 0 s t)) ∧
        (q.complete = false → (flowD s w.src).st = .held → Completes (.platformLineRead o line {}) s (fun t => (plat t ix).fill = true ∧ (plat t ix).heldSrc = some w.src ∧
          Raised 0x07D [(2, o), (2, w.src)] 0 s t))) := by
  subst hf hw hix
  intro hsel hb hh hr
  subst hqq hat
  have hread (fr : ReadFault) : readLine o line fr (atLeast (lineDue s o line) s) = selectedLine o line (if lineHere o line (atLeast (lineDue s o line) s) then fr else {}) (atLeast (lineDue s o line) s) :=
    readLine_selected (z := atLeast (lineDue s o line) s) hsel hb hh hr
  have hat : max s.tim.now (tOf s (flowD s o).domain (latched s (ixOf o)).fi + lineOffset (flowD s o).format line (flowD s o).depth) = max s.tim.now (lineDue s o line) := rfl
  have hreleased {fr : ReadFault} {v : State} {P : State → Prop} (hv : readLine o line fr (atLeast (lineDue s o line) s) = v) (hq : v.flt.resetQ = []) (h : P (releaseLine (ixOf o) line (flowD s o) v)) :
      Completes (.platformLineRead o line fr) s P := platformLine_ends hq ho hn hst he hl hv h
  rw [hat]
  generalize lineDue s o line = a at hread hreleased
  have hends {fr : ReadFault} {v : State} {P : State → Prop} (hv : readLine o line fr (atLeast a s) = v) (hq : v.flt.resetQ = []) (h : ∀ d, P { v with aqf := { v.aqf with feed := d } }) :
      Completes (.platformLineRead o line fr) s P := by
    refine hreleased hv hq ?_
    obtain ⟨d, hd⟩ := releaseLine_feed (ixOf o) line (flowD s o) v
    rw [hd]
    exact h d
  have hwhole (h1 : (stored s (latched s (ixOf o)).src line).complete = true) (h2 : (stored s (latched s (ixOf o)).src line).line = line) (h3 : (stored s (latched s (ixOf o)).src line).fi = (latched s (ixOf o)).fi) :
      lineHere o line (atLeast a s) = true := by
    show ((stored s (latched s (ixOf o)).src line).complete && (stored s (latched s (ixOf o)).src line).line == line && (stored s (latched s (ixOf o)).src line).fi == (latched s (ixOf o)).fi) = true
    rw [h1, beq_iff_eq.mpr h2, beq_iff_eq.mpr h3]
    rfl
  have hmissed (h1 : (stored s (latched s (ixOf o)).src line).complete = false) : readLine o line {} (atLeast a s) = missLine o line {} (atLeast a s) := by
    rw [hread, ite_self]
    refine if_neg ?_
    show ¬ ((stored s (latched s (ixOf o)).src line).complete && (stored s (latched s (ixOf o)).src line).line == line && (stored s (latched s (ixOf o)).src line).fi == (latched s (ixOf o)).fi && true) = true
    rw [h1]
    exact Bool.false_ne_true
  have hfill (y : State) : (plat (emitFill o line y) (ixOf o)).fill = true := congrArg Platform.fill (plat_setPlat_same (ixOf o) (filled o line y) y)
  refine ⟨fun h1 h2 h3 hsg => ?_, fun h1 h2 h3 => ⟨fun hecc hst' => ?_, fun hecc => ?_⟩, fun h1 hst' => ?_, fun h1 hst' => ?_⟩
  · obtain ⟨g, hx, hgq, -, -, -, hg⟩ := selectedLine_here (fr := {}) (hwhole h1 h2 h3) rfl rfl
    have hp : plat (emitted o line (stored s (latched s (ixOf o)).src line) (atLeast a s)) (ixOf o) = _ := plat_setPlat_same _ _ _
    refine hends ((hread {}).trans ((congrArg (fun f => selectedLine o line f (atLeast a s)) (ite_self _)).trans hx)) (hgq.trans hq) fun d => ⟨congrArg Platform.bytes hp, congrArg Platform.fill hp, congrArg Platform.src hp,
      congrArg Platform.fi hp, fun hm => plat_setPlat_ne hm _ _, rfl, hg rfl rfl hsg⟩
  · let v0 : State := raiseIf fr.corrected (corrEvent fr) (atLeast a s)
    have hv0 : v0 = { atLeast a s with flt := v0.flt } := raiseIf_flt _ _ _
    have ho0 (src : Nat) (h : src ≠ 0x046) : OtherRaises src s.flt v0.flt := otherRaises_raiseIf fr.corrected (corrEvent fr) (atLeast a s) rfl rfl h
    have hlat : latched v0 (ixOf o) = latched s (ixOf o) := by rw [hv0]; rfl
    let v1 : State := raise (eccEvent fr) v0
    let e : Ev := { src := 0x042, data := [(2, o), (2, line), (1, (latched s (ixOf o)).fi % 256)] }
    have ho1 (src : Nat) (h : src ≠ 0x046) (h' : src ≠ 0x047) : OtherRaises src s.flt (emitFill o line v1).flt := (ho0 src h).trans (otherRaises_raise (eccEvent fr) v0 rfl rfl h')
    have hx : readLine o line fr (atLeast a s) = raise e (emitFill o line v1) := by
      rw [hread, if_pos (hwhole h1 h2 h3)]
      have hmiss : selectedLine o line fr (atLeast a s) = missLine o line fr v0 := if_neg (by rw [hecc, Bool.not_true, Bool.and_false]; exact Bool.false_ne_true)
      rw [hmiss, missLine_lost (z := v0) (by rw [hlat, hv0]; exact hst'), hlat, hecc]
      rfl
    have he47 : OtherRaises 0x047 (raise (eccEvent fr) v0).flt (raise e (emitFill o line v1)).flt := otherRaises_raise e (emitFill o line v1) rfl rfl (show 0x047 ≠ 0x042 by decide)
    refine hends hx ((raise_resetQ e (emitFill o line v1) rfl).trans ((ho1 0x001 (by decide) (by decide)).1.trans hq)) fun d => ⟨hfill v1, ?_, ?_⟩
    · exact OtherRaises.count (e := eccEvent fr) (s := v0) (ho0 0x047 (by decide)) rfl he47
    · exact (raise_raised e (emitFill o line v1) rfl).after (ho1 0x042 (by decide) (by decide))
  · obtain ⟨g, hx, hgq, hcor, hcrc, hsig, -⟩ := selectedLine_here (fr := fr) (hwhole h1 h2 h3) hecc rfl
    obtain ⟨g', hx', hgq', -⟩ := selectedLine_here (fr := {}) (hwhole h1 h2 h3) rfl rfl
    have hv : readLine o line fr (atLeast a s) = _ := (hread fr).trans ((congrArg (fun f => selectedLine o line f (atLeast a s)) (if_pos (hwhole h1 h2 h3))).trans hx)
    have hv' : readLine o line {} (atLeast a s) = _ := (hread {}).trans ((congrArg (fun f => selectedLine o line f (atLeast a s)) (ite_self _)).trans hx')
    have hclean : Completes (.platformLineRead o line {}) s (fun v => v = releaseLine (ixOf o) line (flowD s o) { emitted o line (stored s (latched s (ixOf o)).src line) (atLeast a s) with flt := g' }) :=
      hreleased hv' (hgq'.trans hq) rfl
    obtain ⟨v, hve, hvx⟩ := hclean
    refine hreleased hv (hgq.trans hq) ?_
    rw [releaseLine_flt] at hvx ⊢
    exact ⟨⟨v, hve, by rw [hvx]; rfl⟩, hcor, hcrc, hsig⟩
  · let e : Ev := { src := 0x042, data := [(2, o), (2, line), (1, (latched s (ixOf o)).fi % 256)] }
    refine hends ((hmissed h1).trans (missLine_lost hst')) (v := raise e (emitFill o line (atLeast a s))) ((raise_resetQ e (emitFill o line (atLeast a s)) rfl).trans hq) fun d => ⟨hfill _, raise_raised e (emitFill o line (atLeast a s)) rfl⟩
  · obtain ⟨p, hpf, hph, hx⟩ := missLine_held (o := o) (k := line) (z := atLeast a s) hst'
    let e : Ev := { src := 0x07D, data := [(2, o), (2, (latched s (ixOf o)).src)] }
    have hp : plat (setPlat (ixOf o) p (emitFill o line (atLeast a s))) (ixOf o) = p := plat_setPlat_same _ _ _
    refine hends ((hmissed h1).trans hx) (v := raise e (setPlat (ixOf o) p (emitFill o line (atLeast a s)))) ((raise_resetQ e (setPlat (ixOf o) p (emitFill o line (atLeast a s))) rfl).trans hq)
      fun d => ⟨(congrArg Platform.fill hp).trans hpf, (congrArg Platform.heldSrc hp).trans hph, raise_raised e (setPlat (ixOf o) p (emitFill o line (atLeast a s))) rfl⟩

end

/-- Settles O51: boundaries by `cycleBoundary_masks`, slots by `slotEntry` with the egress link kept by `egressFor_slotted`, and lines by `readLine`. -/
theorem slotsAndCyclesSendTheirCells : Obligations.SlotsAndCyclesSendTheirCells := by
  unfold Obligations.SlotsAndCyclesSendTheirCells
  intro s n k g m o ix line dest cls at_ l e x xs z u us y f w q fr sb gb hq hl hm hr hk
  subst hl
  exact ⟨fun hsw htt hfa => fabricCycle_begins hq hr hsw htt hfa, fabricSlot_checks hq hr hk, fun h1 h2 h3 => slots_idle hq hr hk hm h1 h2 h3,
    fun hn hst h3 h0 hok he => slots_planned hq hr hk hm hn hst h3 h0 hok he, fun hn hst h3 h0 hok => slots_unplanned hq hr hk hm hn hst h3 h0 hok,
    fun ho hix hn hf hst he hl hw hqq hat => ⟨platformLine_unselected hq ho hix hn hf hst he hl hw hat, platformLine_selected hq ho hix hn hf hst he hl hw hqq hat⟩,
    fun h => completes_of rfl (opPlatformLineRead_other h) hq rfl⟩

end Sys2Proof.Machine

/-! SUPPORT. A bad cell on the link of a media lane for which a swap waits, with the block reset of LANE_SPARE_FAIL enabled (R216, R379). -/
namespace Sys2Proof.Machine
open Sys2Proof

/-- Lane 0 serves media MAC 0, which does not negotiate, in MODE 1; link 0 is UP with three bad cells in a row, spare 0 is the shadow of
lane 0, and a LANE_SPARE_FAIL resets its lane. -/
def mediaLaneSwapping : State :=
  { State.reset with
    regs := (wr (wr (wr State.reset .lnxLaneCfg 0 0 (2 ^ 30)) .nmpMacCfg 0 0 (2 ^ 31 + 2 ^ 26)) .fltSrcCfg 0x0C7 0 (2 ^ 27)).regs
    aqf := { State.reset.aqf with links := [(0, { st := .up, badRun := 3 })] }
    lnx := { State.reset.lnx with spares := [(0, { st := .shadow, lane := 0 })] } }

/-- Refutes O52: the fourth bad cell takes the link DOWN, which gives the waiting swap up; the block reset of that event then starts the
lane as its MAC's, in STEP, and the statement says that the lane is in BASE. It asks for no block reset of LINK_DOWN and CRC_ERR only. -/
theorem not_cellsOfALinkAreReceived : ¬ Obligations.CellsOfALinkAreReceived := by
  unfold Obligations.CellsOfALinkAreReceived
  intro h
  obtain ⟨-, -, hbad, -⟩ := h mediaLaneSwapping 0 _ 1 _ 0 0 0 [] _ (link mediaLaneSwapping 0) _ _ _ _ 0 rfl rfl (by decide) (by decide) (by decide) rfl rfl rfl rfl rfl rfl rfl
  obtain ⟨t, ht, -, hl, -⟩ := (hbad (by decide) rfl rfl (by decide)).2 (by decide)
  have hstep : (match exec (.fabricCellRx 0 ⟨[], false⟩) mediaLaneSwapping with | .next t => (lane t 0).st | _ => .off) = .step := by decide
  rw [ht] at hstep
  exact LaneSt.noConfusion (hstep.symm.trans hl)

end Sys2Proof.Machine

namespace Sys2Proof.Machine
open Sys2Proof

/-! ## Identity, quotes, updates and tamper (R426 to R436) -/

/-- A command whose completion is written leaves the collector as its own meaning does. -/
theorem completes_written {i : Instr} {c : Cmd} {op st k e : Nat} {s v u : State} {P : State → Prop} (hx : exec i s = .next (settle v)) (hcpl : c.cplOk = true)
    (he : CompletionOnly c u (settle v) ∧ Replied c op st k e (settle v))
    (hp : ∀ h w, Replied c op st k e { u with hif := h, wire := w } → P { u with hif := h, wire := w }) : Completes i s P := by
  obtain ⟨hco, hr⟩ := he
  obtain ⟨heq, hflt, -⟩ := hco
  refine ⟨_, hx, ?_⟩
  generalize settle v = t at heq hflt hr
  have ht : t = { u with hif := t.hif, wire := t.wire } := by
    refine heq.trans (Eq.trans ?_ (congrArg (fun f => ({ u with hif := t.hif, flt := f, wire := t.wire } : State)) (hflt hcpl).1))
    exact congrArg (fun y => ({ u with hif := y, flt := t.flt, wire := t.wire } : State)) (congrArg State.hif heq).symm
  rw [ht]
  exact hp t.hif t.wire (ht ▸ hr)

section
variable {c : Cmd} {s u : State} {a b len r fa n : Nat} {img h : List Byte} {x : Update}

/-- A quote, as ATTEST_QUOTE writes it. -/
def quoteBody (c : Cmd) (nonceAt a : Nat) : State → Reply × State :=
  checked (fun s => [(secBarred s, denied), (!c.hostOk, addressError nonceAt)])
    (readBack c a (fun s => padTo 3584 (quoteBytes s (hostBytes s nonceAt 32) ++ padTo 3309 (Config.sign (quoteBytes s (hostBytes s nonceAt 32))))))

/-- The checks of UPDATE_APPLY. -/
def updateChecks (c : Cmd) (a len : Nat) (s : State) : List (Bool × Reply) :=
  [(decide (len < 12288), badArg c 24 s), (secBarred s || s.sec.update.isSome, denied), (!c.hostOk, addressError a)]

/-- An update in progress, its staging slot's first sector erased. -/
def begun (x : Update) (s : State) : State :=
  setSec { (setSlot x.target (eraseTo 4096 (slotImage s x.target)) s).sec with update := some x } (setSlot x.target (eraseTo 4096 (slotImage s x.target)) s)

theorem setSlot_eq (k : Nat) (l : List Byte) (s : State) : setSlot k l s = { s with sec := { s.sec with slotA := if k = 0 then l else s.sec.slotA, slotB := if k = 0 then s.sec.slotB else l } } := by
  unfold setSlot
  split
  · rfl
  · rfl

theorem begun_eq (x : Update) (s : State) : begun x s = { s with sec := { s.sec with
    update := some x, slotA := if x.target = 0 then eraseTo 4096 s.sec.slotA else s.sec.slotA, slotB := if x.target = 0 then s.sec.slotB else eraseTo 4096 s.sec.slotB } } := by
  unfold begun slotImage
  rw [setSlot_eq]
  split
  · rfl
  · rfl

theorem hostBytes_setSec (x : Sec) (s : State) (a n : Nat) : hostBytes (setSec x s) a n = hostBytes s a n := rfl

theorem updateReason_updated (b : Bool) : updateReason (setSec { s.sec with updated := b } s) a len = updateReason s a len := by
  have h1 : bootedImage (setSec { s.sec with updated := b } s) = bootedImage s := rfl
  have h2 (x y : List Byte) : keysOk (setSec { s.sec with updated := b } s) x y = keysOk s x y := rfl
  unfold updateReason
  dsimp only
  rw [hostBytes_setSec, hostBytes_setSec, hostBytes_setSec, hostBytes_setSec, h1, h2]
  rfl

/-- The update that a package describes. -/
def updateOf (c : Cmd) (a : Nat) (s : State) : Update :=
  { tag := c.tag, version := fieldAt (hostBytes s a 4096) 88 4, target := 1 - s.sec.slot, digest := fieldAt (hostBytes s a 4096) 48 32
    out := rebuild (bootedImage s) (fieldAt (hostBytes s a 4096) 84 4 + 1) (hostBytes s (a + 12288) (fieldAt (hostBytes s a 4096) 84 4)) }

/-- UPDATE_APPLY is refused for the reason of R434, or begins. -/
theorem opUpdateApply_acts (c : Cmd) (a len : Nat) (img : List Byte) (s : State) : ∃ act, opUpdateApply c a len img s = hostCmd c 0x0B10 false (checked (updateChecks c a len) act) (place a img s) ∧
    (∀ z r, updateReason z a len = some r → act z = (accepted, raise { src := 0x222, data := [(1, r)], fin := some c.tag } (setSec { z.sec with updated := false } z))) ∧
    (∀ z, updateReason z a len = none → act z = (accepted, begun (updateOf c a z) (setSec { z.sec with updated := false } z))) := by
  refine ⟨_, rfl, fun z r h => ?_, fun z h => ?_⟩
  · dsimp only
    rw [updateReason_updated, h]
  · dsimp only
    rw [updateReason_updated, h]
    rfl

theorem identity_barred (hc : Clear s) (hu : u = place a img s) :
    (secBarred s = true → Completes (.identityRead c a) s (Fails c 0x0B01 0x20 0 s) ∧ Completes (.attestQuote c a b img) s (Fails c 0x0B02 0x20 0 u) ∧
      (12288 ≤ len → Completes (.updateApply c a len img) s (Fails c 0x0B10 0x20 0 u)) ∧ Completes (.updateCommit c) s (Fails c 0x0B11 0x20 0 s)) ∧
    (secBarred s = false → c.hostOk = false → Completes (.identityRead c a) s (Fails c 0x0B01 0x21 a s) ∧ Completes (.attestQuote c a b img) s (Fails c 0x0B02 0x21 a u)) ∧
    (secBarred s = false → c.hostOk = true → Completes (.identityRead c a) s (EndsDone c 0x0B01 0 (hostWrite a (leBytes 8 s.sec.uid ++ padTo 1952 Config.identityKey) s)) ∧
      Completes (.attestQuote c a b img) s (EndsDone c 0x0B02 0 (hostWrite b (padTo 3584 (quoteBytes u (hostBytes u a 32) ++ padTo 3309 (Config.sign (quoteBytes u (hostBytes u a 32))))) u))) := by
  have hcu : Clear u := hu ▸ clear_place hc a img
  have hsu : secBarred u = secBarred s := by rw [hu]; rfl
  have hquote {P : State → Prop} (h : P (settle (hostCmd c 0x0B02 false (quoteBody c a b) u))) : Completes (.attestQuote c a b img) s P := by
    refine ⟨_, rfl, ?_⟩
    rw [show opAttestQuote c a b img s = hostCmd c 0x0B02 false (quoteBody c a b) u by rw [hu]; rfl]
    exact h
  refine ⟨fun hb => ⟨⟨_, rfl, checked_fails (firstErr_fail hb) hc⟩, hquote (checked_fails (firstErr_fail (hsu.trans hb)) hcu), fun hl => ?_,
      ⟨_, rfl, checked_fails (firstErr_fail (by rw [hb]; rfl)) hc⟩⟩,
    fun hb hh => ⟨⟨_, rfl, hostCmd_fails _ _ _ _ _ ((checked_ok _ _ _ (firstErr_pass hb)).trans (readBack_bad hh _ _ _)) hc⟩,
      hquote (checked_fails ((firstErr_pass (hsu.trans hb)).trans (firstErr_fail (by rw [hh]; rfl))) hcu)⟩,
    fun hb hh => ⟨⟨_, rfl, checked_done (k := 0) (firstErr_pass hb) (readBack_ok hh _ _ _) hc hc.1 hc.2.1⟩,
      hquote (checked_done (k := 0) ((firstErr_pass (hsu.trans hb)).trans (firstErr_pass (by rw [hh]; rfl))) (readBack_ok hh _ _ _) hcu hcu.1 hcu.2.1)⟩⟩
  obtain ⟨act, hop, -, -⟩ := opUpdateApply_acts c a len img s
  rw [← hu] at hop
  refine ⟨_, congrArg (fun z => Host.Outcome.next (settle z)) hop, ?_⟩
  exact checked_fails ((firstErr_pass (decide_eq_false (by omega))).trans (firstErr_fail (by rw [hsu, hb]; rfl))) hcu

theorem updateApply_checks (hc : Clear s) (hu : u = place a img s) (hcpl : c.cplOk = true) :
    (len < 12288 → Completes (.updateApply c a len img) s (Fails c 0x0B10 0x11 (argAt c 24 s) u)) ∧
    (12288 ≤ len → s.sec.update.isSome = true → Completes (.updateApply c a len img) s (Fails c 0x0B10 0x20 0 u)) ∧
    (12288 ≤ len → secBarred s = false → s.sec.update = none → c.hostOk = true →
      (updateReason u a len = some r → Completes (.updateApply c a len img) s (fun t => Replied c 0x0B10 1 0 0 t ∧ Raised 0x222 [(1, r)] 0 u t ∧ Final 0x222 c.tag t ∧
        t = { u with sec := { u.sec with updated := false }, hif := t.hif, flt := t.flt, wire := t.wire })) ∧
      (updateReason u a len = none → h = hostBytes u a 4096 → n = fieldAt h 84 4 → Completes (.updateApply c a len img) s (fun t => Replied c 0x0B10 1 0 0 t ∧
        t.sec.update = some { tag := c.tag, version := fieldAt h 88 4, target := 1 - s.sec.slot, digest := fieldAt h 48 32, out := rebuild (bootedImage s) (n + 1) (hostBytes u (a + 12288) n) } ∧
        (s.sec.slot = 0 → t.sec.slotA = s.sec.slotA ∧ t.sec.slotB = eraseTo 4096 s.sec.slotB) ∧ (s.sec.slot = 1 → t.sec.slotA = eraseTo 4096 s.sec.slotA ∧ t.sec.slotB = s.sec.slotB) ∧
        t = { u with sec := { u.sec with updated := false, update := t.sec.update, slotA := t.sec.slotA, slotB := t.sec.slotB }, hif := t.hif, flt := t.flt, wire := t.wire }))) := by
  have hcu : Clear u := hu ▸ clear_place hc a img
  have hsu : secBarred u = secBarred s := by rw [hu]; rfl
  have hup : u.sec.update = s.sec.update := by rw [hu]; rfl
  obtain ⟨act, hop, hsome, hnone⟩ := opUpdateApply_acts c a len img s
  rw [← hu] at hop
  have hx : exec (.updateApply c a len img) s = .next (settle (hostCmd c 0x0B10 false (checked (updateChecks c a len) act) u)) := congrArg (fun z => Host.Outcome.next (settle z)) hop
  have happly {P : State → Prop} (h : P (settle (hostCmd c 0x0B10 false (checked (updateChecks c a len) act) u))) : Completes (.updateApply c a len img) s P :=
    ⟨_, hx, h⟩
  refine ⟨fun hl => happly ?_, fun hl hs => happly (checked_fails ((firstErr_pass (decide_eq_false (by omega))).trans (firstErr_fail (by rw [hup, hs, Bool.or_true]))) hcu), fun hl hb hn hh => ?_⟩
  · have ha : argAt c 24 s = argAt c 24 u := by rw [hu]; rfl
    rw [ha]
    exact checked_fails (firstErr_fail (decide_eq_true hl)) hcu
  · have hk : firstErr (updateChecks c a len u) = none := (firstErr_pass (decide_eq_false (by omega))).trans ((firstErr_pass (by rw [hsu, hb, hup, hn]; rfl)).trans (firstErr_pass (by rw [hh]; rfl)))
    refine ⟨fun hr => ?_, fun hr hh' hn' => ?_⟩
    · let e : Ev := { src := 0x222, data := [(1, r)], fin := some c.tag }
      let v : State := setSec { u.sec with updated := false } u
      exact completes_written hx hcpl (checked_accepted hk (hsome u r hr) hcu hcu.1 ((raise_resetQ e v rfl).trans hcu.2.1)) fun h w hrep => ⟨hrep, raise_raised e v rfl, raise_final e v c.tag rfl rfl, rfl⟩
    · have hslot : u.sec.slot = s.sec.slot := by rw [hu]; rfl
      have hA : u.sec.slotA = s.sec.slotA := by rw [hu]; rfl
      have hB : u.sec.slotB = s.sec.slotB := by rw [hu]; rfl
      have hupd : updateOf c a u = { tag := c.tag, version := fieldAt h 88 4, target := 1 - s.sec.slot, digest := fieldAt h 48 32, out := rebuild (bootedImage s) (n + 1) (hostBytes u (a + 12288) n) } := by
        unfold updateOf
        rw [hn', hh', hslot, show bootedImage u = bootedImage s by rw [hu]; rfl]
      rw [← hupd]
      have ht : (updateOf c a u).target = 1 - s.sec.slot := congrArg (1 - ·) hslot
      have hact := hnone u hr
      generalize updateOf c a u = y at ht hact
      rw [begun_eq] at hact
      refine completes_written hx hcpl (checked_accepted hk hact hcu hcu.1 hcu.2.1) fun h w hrep => ⟨hrep, rfl, fun h0 => ?_, fun h1 => ?_, rfl⟩
      · have hy : y.target ≠ 0 := by omega
        exact ⟨(if_neg hy).trans hA, (if_neg hy).trans (congrArg (eraseTo 4096) hB)⟩
      · have hy : y.target = 0 := by omega
        exact ⟨(if_pos hy).trans (congrArg (eraseTo 4096) hA), (if_pos hy).trans hB⟩

theorem slice_replicate {n off m : Nat} (v : Byte) (l : List Byte) (hn : off + m ≤ n) : slice (List.replicate n v ++ l) off m = List.replicate m v := by
  unfold slice
  rw [List.drop_append_of_le_length (by rw [List.length_replicate]; omega), List.drop_replicate, List.take_append_of_le_length (by rw [List.length_replicate]; omega), List.take_replicate]
  congr 1
  omega

/-- Erased flash. -/
theorem imgBytes_eraseTo {n off m : Nat} (l : List Byte) (hn : off + m ≤ n) : imgBytes (eraseTo n l) off m = List.replicate m 0xFF := by
  unfold imgBytes eraseTo
  dsimp only
  rw [slice_replicate _ _ hn, List.length_replicate, Nat.sub_self]
  exact List.append_nil _

theorem superseded_eraseTo (l : List Byte) : superseded (eraseTo 4096 l) = false := by
  unfold superseded imgField
  rw [imgBytes_eraseTo l (by decide)]
  rfl

theorem magic_eraseTo {n : Nat} (l : List Byte) (hn : 4 ≤ n) : imgField (eraseTo n l) 0 4 = 2 ^ 32 - 1 := by
  unfold imgField
  rw [imgBytes_eraseTo l (by omega)]
  rfl

/-- The end of an update. -/
theorem opUpdateDone_some {e f : Option Nat} (hx : s.sec.update = some x) : opUpdateDone e f s =
    if e.isSome || f.isSome || leBytes 32 (imageDigest x.out) != leBytes 32 x.digest then
      flashError x.target f (flashError x.target e (raise { src := 0x222, data := [(1, 8)], fin := some x.tag } (setSlot x.target (eraseTo 4096 x.out) (setSec { s.sec with update := none } s))))
    else raise { src := 0x221, data := [(4, x.version), (1, x.target)], fin := some x.tag }
      (setSec { (setSlot x.target x.out (setSec { s.sec with update := none } s)).sec with updated := true } (setSlot x.target x.out (setSec { s.sec with update := none } s))) := by
  unfold opUpdateDone
  rw [hx]

theorem updateDone_ends (hq : Settled s) :
    (s.sec.update = none → Completes (.updateDone none none) s (fun t => t = s)) ∧
    (s.sec.update = some x → leBytes 32 (imageDigest x.out) = leBytes 32 x.digest → Completes (.updateDone none none) s (fun t =>
      (x.target = 0 → t.sec.slotA = x.out ∧ t.sec.slotB = s.sec.slotB) ∧ (x.target = 1 → t.sec.slotB = x.out ∧ t.sec.slotA = s.sec.slotA) ∧
      Raised 0x221 [(4, x.version), (1, x.target)] 0 s t ∧ Final 0x221 x.tag t ∧
      t = { s with sec := { s.sec with update := none, updated := true, slotA := t.sec.slotA, slotB := t.sec.slotB }, flt := t.flt })) ∧
    (s.sec.update = some x → leBytes 32 (imageDigest x.out) ≠ leBytes 32 x.digest → Completes (.updateDone none none) s (fun t => Raised 0x222 [(1, 8)] 0 s t ∧ Final 0x222 x.tag t ∧
      (x.target = 0 → t.sec.slotA = eraseTo 4096 x.out ∧ t.sec.slotB = s.sec.slotB) ∧ (x.target = 1 → t.sec.slotB = eraseTo 4096 x.out ∧ t.sec.slotA = s.sec.slotA) ∧
      t = { s with sec := { s.sec with update := none, slotA := t.sec.slotA, slotB := t.sec.slotB }, flt := t.flt })) ∧
    (s.sec.update = some x → ∀ e : Bool, Completes (.updateDone (if e then some fa else none) (if e then none else some fa)) s (fun t => RaisedOnce 0x222 s t ∧ Raised 0x228 [(1, x.target), (4, fa)] 0 s t ∧
      (x.target = 0 → superseded t.sec.slotA = false ∧ imgField t.sec.slotA 0 4 = 2 ^ 32 - 1 ∧ t.sec.slotB = s.sec.slotB) ∧
      t = { s with sec := { s.sec with update := none, slotA := t.sec.slotA, slotB := t.sec.slotB }, flt := t.flt })) := by
  have hnone (hx : s.sec.update = none) : opUpdateDone none none s = s := by
    unfold opUpdateDone
    rw [hx]
  let z : State := setSec { s.sec with update := none } s
  refine ⟨fun hx => completes_of rfl (hnone hx) hq rfl, fun hx hd => ?_, fun hx hd => ?_, fun hx e => ?_⟩
  · have hop := (opUpdateDone_some (e := none) (f := none) hx).trans (if_neg (by rw [hd]; simp))
    rw [setSlot_eq] at hop
    let v : Ev := { src := 0x221, data := [(4, x.version), (1, x.target)], fin := some x.tag }
    refine completes_of rfl hop ((raise_resetQ v _ rfl).trans hq) ⟨fun h => ⟨if_pos h, if_pos h⟩, fun h => ⟨if_neg (by omega), if_neg (by omega)⟩, raise_raised v _ rfl, raise_final v _ x.tag rfl rfl, rfl⟩
  · have hop := (opUpdateDone_some (e := none) (f := none) hx).trans (if_pos (by simp [hd]))
    rw [setSlot_eq] at hop
    let v : Ev := { src := 0x222, data := [(1, 8)], fin := some x.tag }
    refine completes_of rfl hop ((raise_resetQ v _ rfl).trans hq) ⟨raise_raised v _ rfl, raise_final v _ x.tag rfl rfl, fun h => ⟨if_pos h, if_pos h⟩, fun h => ⟨if_neg (by omega), if_neg (by omega)⟩, rfl⟩
  · let v : Ev := { src := 0x222, data := [(1, 8)], fin := some x.tag }
    let w : Ev := { src := 0x228, data := [(1, x.target), (4, fa)] }
    let y : State := { s with sec := { s.sec with update := none, slotA := if x.target = 0 then eraseTo 4096 x.out else s.sec.slotA, slotB := if x.target = 0 then s.sec.slotB else eraseTo 4096 x.out } }
    have hop : opUpdateDone (if e then some fa else none) (if e then none else some fa) s = raise w (raise v y) := by
      cases e with
      | true => exact ((opUpdateDone_some hx).trans (if_pos rfl)).trans (by rw [setSlot_eq]; rfl)
      | false => exact ((opUpdateDone_some hx).trans (if_pos rfl)).trans (by rw [setSlot_eq]; rfl)
    have hw : OtherRaises 0x222 (raise v y).flt (raise w (raise v y)).flt := otherRaises_raise w (raise v y) rfl rfl (show 0x222 ≠ 0x228 by decide)
    have hv : OtherRaises 0x228 s.flt (raise v y).flt := otherRaises_raise v y rfl rfl (show 0x228 ≠ 0x222 by decide)
    refine completes_of rfl hop ((raise_resetQ w (raise v y) rfl).trans (hv.1.trans hq)) ⟨OtherRaises.count (e := v) (s := y) (.refl _ _) rfl hw, (raise_raised w (raise v y) rfl).after hv, fun h => ?_, rfl⟩
    have hA : (raise w (raise v y)).sec.slotA = eraseTo 4096 x.out := if_pos h
    rw [hA]
    exact ⟨superseded_eraseTo _, magic_eraseTo _ (by decide), if_pos h⟩

theorem updateCommit_ends (hc : Clear s) (hcpl : c.cplOk = true) :
    (s.sec.updated = false ∨ s.sec.update.isSome = true → Completes (.updateCommit c) s (Fails c 0x0B11 0x20 0 s)) ∧
    (secBarred s = false → s.sec.updated = true → s.sec.update = none → Completes (.updateCommit c) s (fun t => Replied c 0x0B11 0 0 0 t ∧ Raised 0x223 [(1, s.sec.slot)] 0 s t ∧
      (s.sec.slot = 0 → t.sec.slotA = s.sec.slotA.set 4095 0 ∧ t.sec.slotB = s.sec.slotB) ∧
      (s.sec.slot = 1 → t.sec.slotB = s.sec.slotB.set 4095 0 ∧ t.sec.slotA = s.sec.slotA) ∧
      t = { s with sec := { s.sec with slotA := t.sec.slotA, slotB := t.sec.slotB }, hif := t.hif, flt := t.flt, wire := t.wire })) := by
  refine ⟨fun h => ⟨_, rfl, checked_fails (firstErr_fail ?_) hc⟩, fun hb hd hn => ?_⟩
  · rcases h with h | h
    · rw [h, Bool.not_false, Bool.or_true, Bool.true_or]
    · rw [h, Bool.or_true]
  · let v : Ev := { src := 0x223, data := [(1, s.sec.slot)] }
    let y : State := { s with sec := { s.sec with slotA := if s.sec.slot = 0 then s.sec.slotA.set 4095 0 else s.sec.slotA, slotB := if s.sec.slot = 0 then s.sec.slotB else s.sec.slotB.set 4095 0 } }
    have hslot : setSlot s.sec.slot ((bootedImage s).set 4095 0) s = y := by
      rw [setSlot_eq]
      unfold bootedImage slotImage
      by_cases h : s.sec.slot = 0
      · simp only [h, if_true, y]
      · simp only [h, if_false, y]
    have hend : EndsDone c 0x0B11 0 (raise v y) (settle (opUpdateCommit c s)) :=
      checked_done (k := 0) (firstErr_pass (by rw [hb, hd, hn]; rfl)) (congrArg (fun z => (replyDone, raise v z)) hslot) hc hc.1 ((raise_resetQ v y rfl).trans hc.2.1)
    refine completes_written rfl hcpl hend fun h w hrep => ⟨hrep, raise_raised v y rfl, fun h0 => ⟨if_pos h0, if_pos h0⟩, fun h1 => ⟨if_neg (by omega), if_neg (by omega)⟩, rfl⟩

theorem tamper_wipes (hc : Clear s) :
    (s.pwr.st = .off → Completes .tamperAssert s (fun t => t = s)) ∧
    (s.pwr.st ≠ .off → Completes .tamperAssert s (fun t => RaisedOnce 0x226 s t ∧ Raised 0x227 [(1, 1)] 0 s t ∧ (s.sec.update.isSome = true → RaisedOnce 0x222 s t) ∧ secBarred t = true ∧
      t = { s with sec := { s.sec with tampered := true, idKey := false, nonce := none, update := none, sram := [] }, flt := t.flt })) := by
  refine ⟨fun h => completes_of rfl (if_pos (by rw [h]; rfl)) hc.2.1 rfl, fun h => ?_⟩
  · let y : State := setSec { s.sec with tampered := true, idKey := false, nonce := none, update := none } s
    let v : Ev := { src := 0x226, data := [(4, max 1 (fld s .secTamperCfg 0 7 0))] }
    obtain ⟨f, hf, hof, hcnt⟩ : ∃ f, (match s.sec.update with | some x => raise { src := 0x222, data := [(1, 9)], fin := some x.tag } y | none => y) = { y with flt := f } ∧
        (∀ src, src ≠ 0x222 → OtherRaises src s.flt f) ∧ (s.sec.update.isSome = true → (tgetD f.stat 0x222 {}).count = min ((tgetD s.flt.stat 0x222 {}).count + 1) 255) := by
      cases s.sec.update with
      | none => exact ⟨_, rfl, fun _ _ => .refl _ _, fun h => Bool.noConfusion h⟩
      | some x => exact ⟨_, rfl, fun src h => otherRaises_raise { src := 0x222, data := [(1, 9)], fin := some x.tag } y rfl rfl h, fun _ => (raise_raised { src := 0x222, data := [(1, 9)], fin := some x.tag } y rfl).1⟩
    let w : Ev := { src := 0x227, data := [(1, 1)] }
    let z : State := { raise v { y with flt := f } with sec := { y.sec with sram := [] } }
    have hop : opTamperAssert s = raise w z := by
      unfold opTamperAssert
      dsimp only
      rw [if_neg (by simpa using h)]
      exact congrArg (fun q => wiped 1 (raise v q)) hf
    have h1 : OtherRaises 0x227 s.flt z.flt := (hof _ (by decide)).trans (otherRaises_raise v { y with flt := f } rfl rfl (show 0x227 ≠ 0x226 by decide))
    have h2 : OtherRaises 0x226 (raise v { y with flt := f }).flt (raise w z).flt := otherRaises_raise w z rfl rfl (show 0x226 ≠ 0x227 by decide)
    have h3 : OtherRaises 0x222 f (raise w z).flt := (otherRaises_raise v { y with flt := f } rfl rfl (show 0x222 ≠ 0x226 by decide)).trans (otherRaises_raise w z rfl rfl (show 0x222 ≠ 0x227 by decide))
    refine completes_of rfl hop ((raise_resetQ w z rfl).trans (h1.1.trans hc.2.1)) ⟨OtherRaises.count (e := v) (s := { y with flt := f }) (hof _ (by decide)) rfl h2, (raise_raised w z rfl).after h1, fun hs => ?_, rfl, rfl⟩
    unfold RaisedOnce
    rw [h3.2.1]
    exact hcnt hs

/-- A unit that has drawn a nonce. -/
def nonced (n : Nat) (s : State) : State := { s with free := s.free + 1, sec := { s.sec with nonce := some n } }

/-- The nonce kept and written back. -/
def nonceBody (c : Cmd) (a n : Nat) (s : State) : Reply × State := readBack c a (fun _ => leBytes 32 n) (nonced n s)

theorem nonceBody_done {body : State → Reply × State} (hb : body s = nonceBody c a n s) (hh : c.hostOk = true) (hc : Clear s) :
    EndsDone c 0x0B32 0 (hostWrite a (leBytes 32 n) (nonced n s)) (settle (hostCmd c 0x0B32 false body s)) := by
  obtain ⟨hf, hq, -⟩ := clear_place (s := nonced n s) hc a (leBytes 32 n)
  exact hostCmd_done c 0x0B32 false body s (hb.trans (readBack_ok hh a _ (nonced n s))) hc hf hq

theorem nonceBody_fails {body : State → Reply × State} (hb : body s = nonceBody c a n s) (hh : c.hostOk = false) (hc : Clear s) :
    Replied c 0x0B32 0x21 0 a (settle (hostCmd c 0x0B32 false body s)) := by
  have hbody : body s = (addressError a, nonced n s) := hb.trans (readBack_bad hh a _ (nonced n s))
  have hop : hostCmd c 0x0B32 false body s = complete c 0x0B32 (addressError a) (nonced n s) := by
    rw [hostCmd_eq _ _ _ _ _ (.inr hc.2.2), hbody]
  rw [hop, settle_of_nil _ ((complete_resetQ c 0x0B32 (addressError a) (nonced n s)).trans hc.2.1)]
  exact complete_replied c 0x0B32 (addressError a) (nonced n s) hc.1

theorem tokenNonce_ends (hc : Clear s) :
    (c.hostOk = true → Completes (.tokenNonce c a) s (EndsDone c 0x0B32 0 (hostWrite a (leBytes 32 (Config.nonce s.free % 2 ^ 256))
      { s with free := s.free + 1, sec := { s.sec with nonce := some (Config.nonce s.free % 2 ^ 256) } }))) ∧
    (c.hostOk = false → Completes (.tokenNonce c a) s (fun t => Replied c 0x0B32 0x21 0 a t)) :=
  ⟨fun hh => ⟨_, rfl, nonceBody_done rfl hh hc⟩, fun hh => ⟨_, rfl, nonceBody_fails (n := Config.nonce s.free % 2 ^ 256) rfl hh hc⟩⟩

end

/-- Settles O53: each command by its checks and its ending, an update by `updateReason` and `begun`, a tamper by what it raises. -/
theorem identityQuotesUpdatesAndTamper : Obligations.IdentityQuotesUpdatesAndTamper := by
  unfold Obligations.IdentityQuotesUpdatesAndTamper
  intro c s u a b len r fa n img h x hc hu hcpl
  obtain ⟨i1, i2, i3⟩ := identity_barred (b := b) (len := len) hc hu
  obtain ⟨a1, a2, a3⟩ := updateApply_checks (len := len) (r := r) (n := n) (h := h) hc hu hcpl
  obtain ⟨d1, d2, d3, d4⟩ := updateDone_ends (x := x) (fa := fa) hc.2.1
  obtain ⟨m1, m2⟩ := updateCommit_ends hc hcpl
  exact ⟨i1, i2, i3, a1, a2, a3, d1, d2, d3, d4, m1, m2, (tamper_wipes hc).1, (tamper_wipes hc).2, tokenNonce_ends hc⟩

end Sys2Proof.Machine

namespace Sys2Proof.Machine
open Sys2Proof

/-! ## The rings as firmware starts (R417) -/

section
variable {s z : State} {n k ra rb : Nat} {x y p q : SlotImage}

/-- The PRODUCER in a ring's doorbell line. -/
def lineProducer (s : State) (q : Nat) : Nat := leNat (hostBytes s (doorbell s q) 4) % 65536

/-- A ring that starts empty at its doorbell line. -/
def AtLine (s z : State) (n : Nat) : Prop := (cmdRing z n).head = lineProducer s n ∧ (cmdRing z n).producer = lineProducer s n

/-- A ring started changes command rings, and raises DB_INVALID at most. -/
theorem startRing_frame (q : Nat) (s : State) : ∃ r f, startRing q s = { s with hif := { s.hif with cmd := tput s.hif.cmd q r }, flt := f } ∧
    (∀ src, src ≠ 0x004 → OtherRaises src s.flt f) ∧ (lineProducer s q < cmdSize s q → r.head = lineProducer s q ∧ r.producer = lineProducer s q) := by
  by_cases h : leNat (hostBytes s (doorbell s q) 4) % 65536 < cmdSize s q
  · exact ⟨_, _, startRing_valid h, fun _ _ => .refl _ _, fun _ => ⟨rfl, rfl⟩⟩
  · let u : State := setCmdRing q { cmdRing s q with producer := (cmdRing s q).head, seen := leNat (hostBytes s (doorbell s q) 4) % 65536 } s
    refine ⟨_, (raiseIf ((cmdRing s q).seen != leNat (hostBytes s (doorbell s q) 4) % 65536) { src := 0x004, data := [(1, q), (2, leNat (hostBytes s (doorbell s q) 4) % 65536)] } u).flt,
      (if_neg h).trans (raiseIf_flt _ _ u), fun src h' => otherRaises_raiseIf _ _ u rfl rfl h', fun h' => absurd h' h⟩

theorem startRings_frame (l : List Nat) (s : State) : ∃ c f, l.foldl (fun s q => startRing q s) s = { s with hif := { s.hif with cmd := c }, flt := f } ∧
    (∀ src, src ≠ 0x004 → OtherRaises src s.flt f) ∧ ∀ n, lineProducer s n < cmdSize s n → n ∈ l ∨ AtLine s s n → (tgetD c n {}).head = lineProducer s n ∧ (tgetD c n {}).producer = lineProducer s n := by
  induction l generalizing s with
  | nil => exact ⟨_, _, rfl, fun _ _ => .refl _ _, fun n _ h => h.resolve_left (List.not_mem_nil)⟩
  | cons q l ih =>
    obtain ⟨r, f, hx, hf, hr⟩ := startRing_frame q s
    obtain ⟨c, g, hy, hg, hc⟩ := ih { s with hif := { s.hif with cmd := tput s.hif.cmd q r }, flt := f }
    refine ⟨c, g, (congrArg (fun z => l.foldl (fun s q => startRing q s) z) hx).trans hy, fun src h => (hf src h).trans (hg src h), fun n hn h => hc n hn ?_⟩
    by_cases hnq : n = q
    · subst hnq
      refine .inr ⟨?_, ?_⟩
      · exact (congrArg CmdRing.head (tgetD_tput_same _ _ _ _)).trans (hr hn).1
      · exact (congrArg CmdRing.producer (tgetD_tput_same _ _ _ _)).trans (hr hn).2
    · rcases h with h | h
      · exact .inl ((List.mem_cons.mp h).resolve_left hnq)
      · refine .inr ⟨?_, ?_⟩
        · exact (congrArg CmdRing.head (tgetD_tput_ne _ _ _ hnq)).trans h.1
        · exact (congrArg CmdRing.producer (tgetD_tput_ne _ _ _ hnq)).trans h.2

theorem mem_enabledRings (h : (cmdRing s n).en = true) : n ∈ tkeys s.hif.cmd (fun _ r => r.en) := by
  unfold cmdRing tgetD at h
  cases hg : tget? s.hif.cmd n with
  | none =>
    rw [hg] at h
    exact Bool.noConfusion h
  | some r =>
    rw [hg] at h
    exact mem_tkeys.mpr ⟨r, mem_of_tget? hg, h⟩

/-! ## Verification and boot (R423, R424) -/

/-- What an image must hold to verify. -/
theorem slotResult_verified (h : slotResult s x = 1) : x.readErr = none ∧ imgField x.bytes 0 4 = 0x4847494D ∧ unitOk (imgField x.bytes 4 2) (imgField x.bytes 6 1) = true ∧ s.sec.counter ≤ imgSvn x.bytes ∧
      Config.shake (calzelKey x.bytes) = s.sec.keyDigest ∧ x.sigOk = true ∧ bodyOk x.bytes = true ∧ (s.sec.cosign ≠ none → s.sec.cosign = some (Config.shake (customerKey x.bytes)) ∧ x.cosigOk = true) := by
  unfold slotResult at h
  dsimp only at h
  split at h
  · exact absurd h (by decide)
  · next h1 =>
    split at h
    · exact absurd h (by decide)
    · next h2 =>
      split at h
      · exact absurd h (by decide)
      · next h3 =>
        split at h
        · exact absurd h (by decide)
        · next h4 =>
          split at h
          · exact absurd h (by decide)
          · next h5 =>
            split at h
            · exact absurd h (by decide)
            · next h6 =>
              rw [Bool.not_eq_true, Bool.or_eq_false_iff, decide_eq_false_iff_not, not_not, Bool.not_eq_false'] at h2
              unfold keysOk at h4
              rw [Bool.not_eq_true, Bool.not_eq_false', Bool.and_eq_true, beq_iff_eq, Bool.or_eq_true, beq_iff_eq] at h4
              rw [Bool.not_eq_true, Bool.or_eq_false_iff, Bool.not_eq_false'] at h5
              rw [Bool.not_eq_true, Bool.not_eq_false'] at h6
              refine ⟨Option.not_isSome_iff_eq_none.mp h1, h2.1, h2.2, by omega, h4.1, h5.1, h6, fun hc => ⟨h4.2.resolve_left fun h' => hc (Option.isNone_iff_eq_none.mp h'), ?_⟩⟩
              have h7 := h5.2
              rw [Option.isSome_iff_ne_none.mpr hc, Bool.true_and, Bool.not_eq_false'] at h7
              exact h7

theorem slotResult_congr (h1 : z.sec.counter = s.sec.counter) (h2 : z.sec.keyDigest = s.sec.keyDigest) (h3 : z.sec.cosign = s.sec.cosign) (x : SlotImage) : slotResult z x = slotResult s x := by
  unfold slotResult keysOk
  rw [h1, h2, h3]

theorem found_bytes (x : SlotImage) : (s.sec.slotA = [] → found s.sec.slotA x = x) ∧ (s.sec.slotA ≠ [] → found s.sec.slotA x = { x with bytes := s.sec.slotA }) :=
  ⟨fun h => by rw [h]; rfl, fun h => if_neg (by simpa using h)⟩

/-- A slot has been tried: its result, and a read error met. -/
def tried (k : Nat) (x : SlotImage) (s : State) : State :=
  flashError k x.readErr (setSec (if k = 0 then { s.sec with resultA := slotResult s x } else { s.sec with resultB := slotResult s x }) s)

theorem tryOrder_next {l : List Nat} (hx : (if k = 0 then p else q) = x) (h : slotResult s x ≠ 1) : tryOrder p q (k :: l) s = tryOrder p q l (tried k x s) := by
  subst hx
  exact if_neg h

theorem tryOrder_boots {l : List Nat} (hx : (if k = 0 then p else q) = x) (h : slotResult s x = 1) :
    tryOrder p q (k :: l) s = setPwr { (tried k x s).pwr with boot := .firmware } (setSec { (tried k x s).sec with slot := k } (tried k x s)) := by
  subst hx
  exact if_pos h

theorem flashError_frame (k : Nat) (e : Option Nat) (s : State) : ∃ f, flashError k e s = { s with flt := f } ∧ (∀ src, src ≠ 0x228 → OtherRaises src s.flt f) ∧ f.resetQ = s.flt.resetQ ∧
    (e = none → f = s.flt) ∧ (tgetD f.stat 0x228 {}).count = if e.isSome then min ((tgetD s.flt.stat 0x228 {}).count + 1) 255 else (tgetD s.flt.stat 0x228 {}).count := by
  cases e with
  | none => exact ⟨_, rfl, fun _ _ => .refl _ _, rfl, fun _ => rfl, rfl⟩
  | some a =>
    let v : Ev := { src := 0x228, data := [(1, k), (4, a)] }
    exact ⟨_, rfl, fun src h => otherRaises_raise v s rfl rfl h, raise_resetQ v s rfl, fun h => absurd h (Option.some_ne_none a), (raise_raised v s rfl).1⟩

/-- A try records its result, and raises FLASH_ERR for a read error. -/
theorem tried_frame (k : Nat) (x : SlotImage) (s : State) : ∃ f, tried k x s = { s with sec := { s.sec with
      resultA := if k = 0 then slotResult s x else s.sec.resultA, resultB := if k = 0 then s.sec.resultB else slotResult s x }, flt := f } ∧
    (∀ src, src ≠ 0x228 → OtherRaises src s.flt f) ∧ f.resetQ = s.flt.resetQ ∧ (x.readErr = none → f = s.flt) ∧
    (tgetD f.stat 0x228 {}).count = if x.readErr.isSome then min ((tgetD s.flt.stat 0x228 {}).count + 1) 255 else (tgetD s.flt.stat 0x228 {}).count := by
  unfold tried
  split
  · obtain ⟨f, hf⟩ := flashError_frame k x.readErr (setSec { s.sec with resultA := slotResult s x } s)
    exact ⟨f, hf⟩
  · obtain ⟨f, hf⟩ := flashError_frame k x.readErr (setSec { s.sec with resultB := slotResult s x } s)
    exact ⟨f, hf⟩

/-- Firmware as it runs from the slot booted, before its events. -/
def launched (s : State) : State :=
  { startRings s with
    sec := { s.sec with fw := imgVersion (slotImage s s.sec.slot), idKey := true, meas := [Config.romDigest, imageDigest (slotImage s s.sec.slot), Config.shake (lifeBytes s)] }
    ika := { s.ika with cat := (Config.catalogue (imgBody (slotImage s s.sec.slot))).zipIdx.map (fun e => (e.2 + 1, e.1)) }
    hif := { (startRings s).hif with sramSingle := false }
    flt := { (startRings s).flt with wdogAt := s.tim.now, wdogLast := s.tim.now } }

def bootEvent (s : State) : Ev := { src := 0x220, data := [(1, s.sec.slot), (1, if s.sec.slot = 0 then s.sec.resultB else s.sec.resultA)] }
def runEvent : Ev := { src := 0x025, data := [(1, 0)] }

theorem startFirmware_eq (s : State) : startFirmware s = raise (bootEvent s) (raise runEvent (launched s)) := by
  obtain ⟨c, f, hx, -⟩ := startRings_frame (tkeys s.hif.cmd (fun _ r => r.en)) s
  have hs : startRings s = { s with hif := { s.hif with cmd := c }, flt := f } := hx
  unfold startFirmware launched bootEvent
  rw [hs]
  rfl

/-- The unit that the ROM has left, its slots known and their results recorded. -/
def romDone (a b : List Byte) (rA rB : Nat) (g : Flt) (s : State) : State :=
  { s with sec := { s.sec with slotA := a, slotB := b, resultA := rA, resultB := rB }, flt := g }

/-- The unit with firmware running from slot `k`. -/
def fromSlot (k : Nat) (s : State) : State := startFirmware (setPwr { s.pwr with boot := .firmware } (setSec { s.sec with slot := k } s))

/-- What firmware started from slot `k` leaves. -/
theorem fromSlot_runs {a b : List Byte} {rA rB : Nat} {g : Flt} (hg : ∀ src, src ≠ 0x228 → OtherRaises src s.flt g) {t : State} (ht : t = fromSlot k (romDone a b rA rB g s)) :
    Raised 0x220 [(1, k), (1, if k = 0 then rB else rA)] 0 s t ∧ RaisedOnce 0x025 s t ∧ t.flt.resetQ = s.flt.resetQ ∧
    t.sec.meas = [Config.romDigest, imageDigest (if k = 0 then a else b), Config.shake (lifeBytes s)] ∧
    t.ika.cat = (Config.catalogue (imgBody (if k = 0 then a else b))).zipIdx.map (fun e => (e.2 + 1, e.1)) ∧
    ((cmdRing s n).en = true → lineProducer s n < cmdSize s n → (cmdRing t n).head = lineProducer s n ∧ (cmdRing t n).producer = (cmdRing t n).head) ∧
    t = { s with sec := { s.sec with slotA := a, slotB := b, resultA := rA, resultB := rB, slot := k, fw := imgVersion (if k = 0 then a else b), idKey := true, meas := t.sec.meas },
                 ika := { s.ika with cat := t.ika.cat }, hif := { s.hif with cmd := t.hif.cmd, sramSingle := false }, pwr := { s.pwr with boot := .firmware }, flt := t.flt } := by
  let z : State := setPwr { s.pwr with boot := .firmware } (setSec { (romDone a b rA rB g s).sec with slot := k } (romDone a b rA rB g s))
  obtain ⟨c, f, hx, hf, hc⟩ := startRings_frame (tkeys z.hif.cmd (fun _ r => r.en)) z
  have hs : startRings z = { z with hif := { z.hif with cmd := c }, flt := f } := hx
  have himg : slotImage z z.sec.slot = (if k = 0 then a else b) := rfl
  have hl : launched z = { z with
      sec := { z.sec with fw := imgVersion (if k = 0 then a else b), idKey := true, meas := [Config.romDigest, imageDigest (if k = 0 then a else b), Config.shake (lifeBytes s)] }
      ika := { s.ika with cat := (Config.catalogue (imgBody (if k = 0 then a else b))).zipIdx.map (fun e => (e.2 + 1, e.1)) }
      hif := { s.hif with cmd := c, sramSingle := false }
      flt := { f with wdogAt := s.tim.now, wdogLast := s.tim.now } } := by
    unfold launched
    rw [hs, himg]
    rfl
  have hlo : ∀ src, src ≠ 0x228 → src ≠ 0x004 → OtherRaises src s.flt (launched z).flt := fun src h1 h2 => by
    rw [hl]
    exact (hg src h1).trans (hf src h2)
  have htz : t = raise (bootEvent z) (raise runEvent (launched z)) := ht.trans (startFirmware_eq z)
  have h25 : OtherRaises 0x025 (raise runEvent (launched z)).flt t.flt := by
    rw [htz]
    exact otherRaises_raise (bootEvent z) (raise runEvent (launched z)) rfl rfl (show 0x025 ≠ 0x220 by decide)
  have h20 : OtherRaises 0x220 s.flt (raise runEvent (launched z)).flt := (hlo 0x220 (by decide) (by decide)).trans (otherRaises_raise runEvent (launched z) rfl rfl (show 0x220 ≠ 0x025 by decide))
  have htl : t = { launched z with flt := t.flt } := by
    rw [htz]
    rfl
  refine ⟨?_, OtherRaises.count (e := runEvent) (hlo 0x025 (by decide) (by decide)) rfl h25, ?_, ?_, ?_, fun he hn => ?_, ?_⟩
  · rw [htz]
    exact (raise_raised (bootEvent z) (raise runEvent (launched z)) rfl).after h20
  · rw [htz]
    exact (raise_resetQ (bootEvent z) _ rfl).trans h20.1
  · rw [htl, hl]
  · rw [htl, hl]
  · have hring := hc n hn (.inl (mem_enabledRings (s := z) he))
    rw [htl, hl]
    exact ⟨hring.1, hring.2.trans hring.1.symm⟩
  · generalize t.flt = f' at htl
    rw [htl, hl]
    rfl

end

end Sys2Proof.Machine

namespace Sys2Proof.Machine
open Sys2Proof

section
variable {s z : State} {n k ra rb : Nat} {x y p q : SlotImage}

theorem bootOrder_eq (a b : List Byte) : bootOrder a b = if superseded a = true ∧ superseded b = false then [1, 0] else [0, 1] := by
  unfold bootOrder
  cases superseded a with
  | true =>
    cases superseded b with
    | true => rfl
    | false => rfl
  | false =>
    cases superseded b with
    | true => rfl
    | false => rfl

theorem tried_romDone {a b : List Byte} {rA rB r : Nat} {g : Flt} (hr : slotResult s x = r) : ∃ f, tried k x (romDone a b rA rB g s) = romDone a b (if k = 0 then r else rA) (if k = 0 then rB else r) f s ∧
    (∀ src, src ≠ 0x228 → OtherRaises src g f) ∧ f.resetQ = g.resetQ ∧ (x.readErr = none → f = g) ∧
    (tgetD f.stat 0x228 {}).count = if x.readErr.isSome then min ((tgetD g.stat 0x228 {}).count + 1) 255 else (tgetD g.stat 0x228 {}).count := by
  obtain ⟨f, hx, hf⟩ := tried_frame k x (romDone a b rA rB g s)
  rw [slotResult_congr (s := s) (z := romDone a b rA rB g s) rfl rfl rfl, hr] at hx
  exact ⟨f, hx, hf⟩

/-- The ROM's tries decide what runs. -/
def afterTries (s : State) : State := if s.pwr.boot = .firmware then startFirmware s else s

theorem opBootImageVerified_tries (hb : s.pwr.boot = .rom ∨ s.pwr.boot = .verifying) (hr : s.pwr.perst = false) (hst : s.pwr.st ≠ .off) (hp : p = found s.sec.slotA x) (hq : q = found s.sec.slotB y) :
    opBootImageVerified x y s = afterTries (tryOrder p q (if s.sec.life = 4 then [] else bootOrder p.bytes q.bytes) (romDone p.bytes q.bytes s.sec.resultA s.sec.resultB s.flt s)) := by
  subst hp hq
  refine if_neg ?_
  rw [hr, beq_eq_false_iff_ne.mpr hst]
  rcases hb with hb | hb
  · rw [hb]; exact Bool.false_ne_true
  · rw [hb]; exact Bool.false_ne_true

/-- The first slot tried verifies. -/
theorem tries_first {l : List Nat} {a b : List Byte} {rA rB : Nat} {g : Flt} (hx : (if k = 0 then p else q) = x) (h : slotResult s x = 1) : ∃ f, (∀ src, src ≠ 0x228 → OtherRaises src g f) ∧
    afterTries (tryOrder p q (k :: l) (romDone a b rA rB g s)) = fromSlot k (romDone a b (if k = 0 then 1 else rA) (if k = 0 then rB else 1) f s) := by
  obtain ⟨f, ht, hf, -⟩ := tried_romDone (k := k) (x := x) (a := a) (b := b) (rA := rA) (rB := rB) (g := g) h
  refine ⟨f, hf, ?_⟩
  rw [tryOrder_boots (s := romDone a b rA rB g s) hx ((slotResult_congr (s := s) rfl rfl rfl x).trans h), ht]
  rfl

/-- A slot that does not verify is passed over. -/
theorem tries_pass {l : List Nat} {a b : List Byte} {rA rB r : Nat} {g : Flt} (hx : (if k = 0 then p else q) = x) (hr : slotResult s x = r) (h : r ≠ 1) : ∃ f, (∀ src, src ≠ 0x228 → OtherRaises src g f) ∧ f.resetQ = g.resetQ ∧
    (x.readErr = none → f = g) ∧ ((tgetD f.stat 0x228 {}).count = if x.readErr.isSome then min ((tgetD g.stat 0x228 {}).count + 1) 255 else (tgetD g.stat 0x228 {}).count) ∧
    tryOrder p q (k :: l) (romDone a b rA rB g s) = tryOrder p q l (romDone a b (if k = 0 then r else rA) (if k = 0 then rB else r) f s) := by
  obtain ⟨f, ht, hf, hq, hn, hc⟩ := tried_romDone (k := k) (x := x) (a := a) (b := b) (rA := rA) (rB := rB) (g := g) hr
  refine ⟨f, hf, hq, hn, hc, ?_⟩
  rw [tryOrder_next hx (by rw [slotResult_congr (s := s) (z := romDone a b rA rB g s) rfl rfl rfl x, hr]; exact h), ht]

theorem boot_idle (hq : Settled s) :
    (s.pwr.boot = .firmware ∨ s.pwr.boot = .failed ∨ s.pwr.perst = true ∨ s.pwr.st = .off → (∃ t, exec (.bootImageVerified x y) s = .next t ∧ t = s)) := by
  intro h
  have hop : opBootImageVerified x y s = s := if_pos (by
    rcases h with h | h | h | h
    · rw [h]; rfl
    · rw [h]; rfl
    · rw [h, Bool.or_true]; rfl
    · rw [h, beq_self_eq_true, Bool.or_true])
  exact ⟨_, rfl, by rw [hop, settle_of_nil _ hq]⟩

theorem boot_verifies (hs : Settled s) (hp : p = found s.sec.slotA x) (hq : q = found s.sec.slotB y) (hb : s.pwr.boot = .rom ∨ s.pwr.boot = .verifying) (hr : s.pwr.perst = false) (hst : s.pwr.st ≠ .off) (hra : ra = slotResult s p) (hrb : rb = slotResult s q) :
      (s.sec.life = 4 → (∃ t, exec (.bootImageVerified x y) s = .next t ∧ t = { s with sec := { s.sec with slotA := p.bytes, slotB := q.bytes }, pwr := { s.pwr with boot := .failed } })) ∧
      (s.sec.life ≠ 4 → ra ≠ 1 → rb ≠ 1 → (∃ t, exec (.bootImageVerified x y) s = .next t ∧ (p.readErr = none → q.readErr = none → t.flt = s.flt) ∧ (p.readErr.isSome = true ∨ q.readErr.isSome = true → (srcStat s 0x228).count < 254 → (srcStat s 0x228).count < (srcStat t 0x228).count) ∧
        t = { s with sec := { s.sec with slotA := p.bytes, slotB := q.bytes, resultA := ra, resultB := rb }, pwr := { s.pwr with boot := .failed }, flt := t.flt })) ∧
      (s.sec.life ≠ 4 → ra = 1 → (superseded p.bytes = true → superseded q.bytes = true ∨ rb ≠ 1) → (∃ t, exec (.bootImageVerified x y) s = .next t ∧ Raised 0x220 [(1, 0), (1, t.sec.resultB)] 0 s t ∧ RaisedOnce 0x025 s t ∧ t.sec.resultB = (if superseded p.bytes = true ∧ superseded q.bytes = false then rb else s.sec.resultB) ∧
        t.sec.meas = [Config.romDigest, imageDigest p.bytes, Config.shake (lifeBytes s)] ∧ t.ika.cat = (Config.catalogue (imgBody p.bytes)).zipIdx.map (fun e => (e.2 + 1, e.1)) ∧ t.hif.sramSingle = false ∧
        ((cmdRing s n).en = true → leNat (hostBytes s (doorbell s n) 4) % 65536 < cmdSize s n → (cmdRing t n).head = leNat (hostBytes s (doorbell s n) 4) % 65536 ∧ (cmdRing t n).producer = (cmdRing t n).head) ∧
        t = { s with sec := { s.sec with slotA := p.bytes, slotB := q.bytes, resultA := 1, resultB := t.sec.resultB, slot := 0, fw := imgVersion p.bytes, idKey := true, meas := t.sec.meas }, ika := { s.ika with cat := t.ika.cat }, hif := { s.hif with cmd := t.hif.cmd, sramSingle := false }, pwr := { s.pwr with boot := .firmware }, flt := t.flt })) ∧
      (s.sec.life ≠ 4 → rb = 1 → ra ≠ 1 ∨ (superseded p.bytes = true ∧ superseded q.bytes = false) → (∃ t, exec (.bootImageVerified x y) s = .next t ∧ Raised 0x220 [(1, 1), (1, t.sec.resultA)] 0 s t ∧ RaisedOnce 0x025 s t ∧ t.sec.resultA = (if superseded p.bytes = false ∨ superseded q.bytes = true then ra else s.sec.resultA) ∧
        t.sec.meas = [Config.romDigest, imageDigest q.bytes, Config.shake (lifeBytes s)] ∧ t.ika.cat = (Config.catalogue (imgBody q.bytes)).zipIdx.map (fun e => (e.2 + 1, e.1)) ∧
        ((cmdRing s n).en = true → leNat (hostBytes s (doorbell s n) 4) % 65536 < cmdSize s n → (cmdRing t n).head = leNat (hostBytes s (doorbell s n) 4) % 65536 ∧ (cmdRing t n).producer = (cmdRing t n).head) ∧
        t = { s with sec := { s.sec with slotA := p.bytes, slotB := q.bytes, resultA := t.sec.resultA, resultB := 1, slot := 1, fw := imgVersion q.bytes, idKey := true, meas := t.sec.meas }, ika := { s.ika with cat := t.ika.cat }, hif := { s.hif with cmd := t.hif.cmd, sramSingle := false }, pwr := { s.pwr with boot := .firmware }, flt := t.flt })) := by
  have hop := opBootImageVerified_tries hb hr hst hp hq
  clear hp hq
  rw [bootOrder_eq] at hop
  refine ⟨fun h4 => ?_, fun h4 ha hb' => ?_, fun h4 ha hsup => ?_, fun h4 hb' hsup => ?_⟩
  · rw [if_pos h4] at hop
    exact completes_of rfl (hop.trans (if_neg (fun h => nomatch h))) hs rfl
  · rw [if_neg h4] at hop
    -- whichever slot is tried first, both are
    obtain ⟨f, hf, hfq, hfn, hfs⟩ : ∃ f, opBootImageVerified x y s = setPwr { s.pwr with boot := .failed } (romDone p.bytes q.bytes ra rb f s) ∧ f.resetQ = s.flt.resetQ ∧ (p.readErr = none → q.readErr = none → f = s.flt) ∧
        (p.readErr.isSome = true ∨ q.readErr.isSome = true → (srcStat s 0x228).count < 254 → (srcStat s 0x228).count < (tgetD f.stat 0x228 {}).count) := by
      have hend : ∀ g, afterTries (tryOrder p q [] (romDone p.bytes q.bytes ra rb g s)) = setPwr { s.pwr with boot := .failed } (romDone p.bytes q.bytes ra rb g s) := fun g => if_neg (fun h => nomatch h)
      have hcount {f g : Flt} {e d : Option Nat} (h1 : (tgetD f.stat 0x228 {}).count = if e.isSome then min ((tgetD s.flt.stat 0x228 {}).count + 1) 255 else (tgetD s.flt.stat 0x228 {}).count)
          (h2 : (tgetD g.stat 0x228 {}).count = if d.isSome then min ((tgetD f.stat 0x228 {}).count + 1) 255 else (tgetD f.stat 0x228 {}).count) (h : e.isSome = true ∨ d.isSome = true)
          (hlt : (srcStat s 0x228).count < 254) : (srcStat s 0x228).count < (tgetD g.stat 0x228 {}).count := by
        have hlt' : (tgetD s.flt.stat 0x228 {}).count < 254 := hlt
        show (tgetD s.flt.stat 0x228 {}).count < _
        rw [h2, h1]
        cases e with
        | none =>
          cases d with
          | none => simp at h
          | some _ => simp; omega
        | some _ =>
          cases d with
          | none => simp; omega
          | some _ => simp; omega
      by_cases ho : superseded p.bytes = true ∧ superseded q.bytes = false
      · rw [if_pos ho] at hop
        obtain ⟨f1, -, q1, n1, c1, e1⟩ := tries_pass (p := p) (q := q) (k := 1) (l := [0]) (a := p.bytes) (b := q.bytes) (rA := s.sec.resultA) (rB := s.sec.resultB) (g := s.flt) rfl hrb.symm hb'
        obtain ⟨f2, -, q2, n2, c2, e2⟩ := tries_pass (p := p) (q := q) (k := 0) (l := []) (a := p.bytes) (b := q.bytes) (rA := s.sec.resultA) (rB := rb) (g := f1) rfl hra.symm ha
        refine ⟨f2, hop.trans ((congrArg afterTries (e1.trans e2)).trans (hend f2)), q2.trans q1, fun h1 h2 => (n2 h1).trans (n1 h2), fun h hlt => hcount c1 c2 h.symm hlt⟩
      · rw [if_neg ho] at hop
        obtain ⟨f1, -, q1, n1, c1, e1⟩ := tries_pass (p := p) (q := q) (k := 0) (l := [1]) (a := p.bytes) (b := q.bytes) (rA := s.sec.resultA) (rB := s.sec.resultB) (g := s.flt) rfl hra.symm ha
        obtain ⟨f2, -, q2, n2, c2, e2⟩ := tries_pass (p := p) (q := q) (k := 1) (l := []) (a := p.bytes) (b := q.bytes) (rA := ra) (rB := s.sec.resultB) (g := f1) rfl hrb.symm hb'
        refine ⟨f2, hop.trans ((congrArg afterTries (e1.trans e2)).trans (hend f2)), q2.trans q1, fun h1 h2 => (n2 h2).trans (n1 h1), fun h hlt => hcount c1 c2 h hlt⟩
    exact completes_of rfl hf (hfq.trans hs) ⟨hfn, hfs, rfl⟩
  · rw [if_neg h4] at hop
    obtain ⟨f, rB, hf, hB, hx⟩ : ∃ f rB, (∀ src, src ≠ 0x228 → OtherRaises src s.flt f) ∧ rB = (if superseded p.bytes = true ∧ superseded q.bytes = false then rb else s.sec.resultB) ∧
        opBootImageVerified x y s = fromSlot 0 (romDone p.bytes q.bytes 1 rB f s) := by
      by_cases ho : superseded p.bytes = true ∧ superseded q.bytes = false
      · rw [if_pos ho] at hop
        have hb' : rb ≠ 1 := (hsup ho.1).resolve_left (by rw [ho.2]; exact Bool.false_ne_true)
        obtain ⟨f1, o1, -, -, -, e1⟩ := tries_pass (p := p) (q := q) (k := 1) (l := [0]) (a := p.bytes) (b := q.bytes) (rA := s.sec.resultA) (rB := s.sec.resultB) (g := s.flt) rfl hrb.symm hb'
        obtain ⟨f2, o2, e2⟩ := tries_first (s := s) (p := p) (q := q) (k := 0) (l := []) (a := p.bytes) (b := q.bytes) (rA := s.sec.resultA) (rB := rb) (g := f1) rfl (hra.symm.trans ha)
        exact ⟨f2, rb, fun src h => (o1 src h).trans (o2 src h), (if_pos ho).symm, hop.trans ((congrArg afterTries e1).trans e2)⟩
      · rw [if_neg ho] at hop
        obtain ⟨f2, o2, e2⟩ := tries_first (s := s) (p := p) (q := q) (k := 0) (l := [1]) (a := p.bytes) (b := q.bytes) (rA := s.sec.resultA) (rB := s.sec.resultB) (g := s.flt) rfl (hra.symm.trans ha)
        exact ⟨f2, s.sec.resultB, o2, (if_neg ho).symm, hop.trans e2⟩
    obtain ⟨r1, r2, r3, r4, r5, r6, r7⟩ := fromSlot_runs (n := n) hf hx
    have hBt : (opBootImageVerified x y s).sec.resultB = rB := by rw [r7]
    refine completes_of rfl rfl (r3.trans hs) ⟨by rw [hBt]; exact r1, r2, hBt.trans hB, r4, r5, by rw [r7], fun he hn => ⟨(r6 he hn).1, (r6 he hn).2⟩, ?_⟩
    rw [hBt]
    exact r7
  · rw [if_neg h4] at hop
    obtain ⟨f, rA, hf, hA, hx⟩ : ∃ f rA, (∀ src, src ≠ 0x228 → OtherRaises src s.flt f) ∧ rA = (if superseded p.bytes = false ∨ superseded q.bytes = true then ra else s.sec.resultA) ∧
        opBootImageVerified x y s = fromSlot 1 (romDone p.bytes q.bytes rA 1 f s) := by
      by_cases ho : superseded p.bytes = true ∧ superseded q.bytes = false
      · rw [if_pos ho] at hop
        obtain ⟨f2, o2, e2⟩ := tries_first (s := s) (p := p) (q := q) (k := 1) (l := [0]) (a := p.bytes) (b := q.bytes) (rA := s.sec.resultA) (rB := s.sec.resultB) (g := s.flt) rfl (hrb.symm.trans hb')
        exact ⟨f2, s.sec.resultA, o2, by rw [ho.1, ho.2]; rfl, hop.trans e2⟩
      · rw [if_neg ho] at hop
        obtain ⟨f1, o1, -, -, -, e1⟩ := tries_pass (p := p) (q := q) (k := 0) (l := [1]) (a := p.bytes) (b := q.bytes) (rA := s.sec.resultA) (rB := s.sec.resultB) (g := s.flt) rfl hra.symm (hsup.resolve_right ho)
        obtain ⟨f2, o2, e2⟩ := tries_first (s := s) (p := p) (q := q) (k := 1) (l := []) (a := p.bytes) (b := q.bytes) (rA := ra) (rB := s.sec.resultB) (g := f1) rfl (hrb.symm.trans hb')
        refine ⟨f2, ra, fun src h => (o1 src h).trans (o2 src h), (if_pos ?_).symm, hop.trans ((congrArg afterTries e1).trans e2)⟩
        simpa [or_iff_not_imp_left] using ho
    obtain ⟨r1, r2, r3, r4, r5, r6, r7⟩ := fromSlot_runs (n := n) hf hx
    have hAt : (opBootImageVerified x y s).sec.resultA = rA := by rw [r7]
    refine completes_of rfl rfl (r3.trans hs) ⟨by rw [hAt]; exact r1, r2, hAt.trans hA, r4, r5, fun he hn => ⟨(r6 he hn).1, (r6 he hn).2⟩, ?_⟩
    rw [hAt]
    exact r7

end

end Sys2Proof.Machine

namespace Sys2Proof.Machine
open Sys2Proof

/-! ## Recovery and the fuses (R421, R425, R430 to R432) -/

section
variable {c : Cmd} {s u : State} {a n m v ra rb : Nat} {w : Word} {img : List Byte} {x y p q : SlotImage} {r : Reply}

theorem recoveryGo_starts (hs : Settled s) :
    (bit w.toNat 31 = false ∨ masterOk s m = false → (∃ t, exec (.recoveryGo m w) s = .next t ∧ t = s)) ∧
    (bit w.toNat 31 = true → masterOk s m = true → s.sec.recBusy = true → (∃ t, exec (.recoveryGo m w) s = .next t ∧ RaisedOnce 0x009 s t ∧ t = { s with flt := t.flt, hif := { s.hif with resp := t.hif.resp } })) ∧
    (bit w.toNat 31 = true → masterOk s m = true → s.sec.recBusy = false → s.pwr.boot = .failed → s.sec.life ≠ 4 → (∃ t, exec (.recoveryGo m w) s = .next t ∧ t = { s with sec := { s.sec with recBusy := true, recResult := 0 } })) ∧
    (bit w.toNat 31 = true → masterOk s m = true → s.sec.recBusy = false → s.pwr.boot ≠ .failed ∨ s.sec.life = 4 → (∃ t, exec (.recoveryGo m w) s = .next t ∧ t = s)) := by
  refine ⟨fun h => ?_, fun h1 h2 h3 => ?_, fun h1 h2 h3 h4 h5 => ?_, fun h1 h2 h3 h4 => ?_⟩
  · refine completes_of rfl (if_pos ?_) hs rfl
    rcases h with h | h
    · rw [h]; rfl
    · rw [h, Bool.not_false, Bool.or_true]
  · have hop : opRecoveryGo m w s = violation m (regOff .secRecoveryCtl 0 0) s := (if_neg (by rw [h1, h2]; exact Bool.false_ne_true)).trans (if_pos h3)
    obtain ⟨f, rp, hv⟩ := violation_eq m (regOff .secRecoveryCtl 0 0) s
    refine completes_of rfl hop ((violation_resetQ _ _ _).trans hs) ⟨violation_count m _ s, ?_⟩
    rw [hv]
  · exact completes_of rfl ((if_neg (by rw [h1, h2]; exact Bool.false_ne_true)).trans ((if_neg (by rw [h3]; exact Bool.false_ne_true)).trans (if_pos (by rw [h4, show (s.sec.life != lifeEnded) = true from bne_iff_ne.mpr h5]; rfl)))) hs rfl
  · refine completes_of rfl ((if_neg (by rw [h1, h2]; exact Bool.false_ne_true)).trans ((if_neg (by rw [h3]; exact Bool.false_ne_true)).trans (if_neg ?_))) hs rfl
    rcases h4 with h | h
    · rw [beq_eq_false_iff_ne.mpr h]; exact Bool.false_ne_true
    · rw [show (s.sec.life != lifeEnded) = false by rw [h]; rfl, Bool.and_false]; exact Bool.false_ne_true

theorem slotResult_noError (h : slotResult s x = n) (hn : n ≠ 7) : x.readErr = none := by
  unfold slotResult at h
  dsimp only at h
  split at h
  · exact absurd h.symm hn
  · next h' => exact Option.not_isSome_iff_eq_none.mp h'

theorem recoveryImage_bytes (x : SlotImage) (s : State) : (recoveryImage s x).bytes =
    hostBytes s (rdAddr s .secRecoveryAddrLo .secRecoveryAddrHi 0) (12288 + imgField (hostBytes s (rdAddr s .secRecoveryAddrLo .secRecoveryAddrHi 0) 4096) 12 4) := by
  unfold recoveryImage imgBodyLen
  dsimp only

theorem recoveryImage_readErr (x : SlotImage) (s : State) : (recoveryImage s x).readErr = x.readErr := by
  unfold recoveryImage
  dsimp only

theorem setSec_slotA (x : Sec) (s : State) : (setSec x s).sec.slotA = x.slotA := rfl

/-- Slot A after a recovery, by its result. -/
theorem recovered_cases (r : Nat) (x : SlotImage) (old : List Byte) : (r = 1 → recovered r x old = x.bytes) ∧ (2 ≤ r → r ≤ 5 → recovered r x old = old) ∧
    (r = 6 → x.readErr = none → recovered r x old = eraseTo 12288 x.bytes) ∧ (r = 7 → x.readErr = some v → recovered r x old = if v < 12288 then old else eraseTo 12288 x.bytes) := by
  unfold recovered
  refine ⟨fun h => if_pos h, fun h h' => (if_neg (by omega)).trans (if_pos (by rw [decide_eq_true (by omega : r < 6)]; rfl)), fun h h' => ?_, fun h h' => ?_⟩
  · rw [if_neg (by omega), h', h]
    rfl
  · rw [if_neg (by omega), h', h]
    by_cases hv : v < 12288
    · simp [hv]
    · simp [hv]

theorem recoveryDone_ends (hs : Settled s) (hu : u = place a img s) :
    (s.sec.recBusy = false → (∃ t, exec (.recoveryDone x) s = .next t ∧ t = s)) ∧
    (s.sec.recBusy = true → a = rdAddr s .secRecoveryAddrLo .secRecoveryAddrHi 0 → img = x.bytes → ra = slotResult u (recoveryImage u x) → (∃ t, exec (.recoveryDone x) s = .next t ∧ (ra = 1 → t.sec.slotA = hostBytes u a (12288 + imgField (hostBytes u a 4096) 12 4)) ∧ (2 ≤ ra → ra ≤ 5 → t.sec.slotA = s.sec.slotA) ∧
      (ra = 6 → imgField t.sec.slotA 0 4 = 2 ^ 32 - 1) ∧ (ra = 7 → x.readErr = some v → if v < 12288 then t.sec.slotA = s.sec.slotA else imgField t.sec.slotA 0 4 = 2 ^ 32 - 1) ∧
      t = { u with sec := { u.sec with recBusy := false, recResult := ra, slotA := t.sec.slotA } })) := by
  refine ⟨fun h => completes_of rfl (if_pos (by rw [h]; rfl)) hs rfl, fun h ha himg hra => ?_⟩
  subst ha himg
  have hop : opRecoveryDone x s = setSec { u.sec with recBusy := false, recResult := ra, slotA := recovered ra (recoveryImage u x) u.sec.slotA } u := by
    rw [hra, hu]
    exact if_neg (by rw [h]; exact Bool.false_ne_true)
  have hA : u.sec.slotA = s.sec.slotA := by rw [hu]; rfl
  have haddr : rdAddr u .secRecoveryAddrLo .secRecoveryAddrHi 0 = rdAddr s .secRecoveryAddrLo .secRecoveryAddrHi 0 := by rw [hu]; rfl
  obtain ⟨r1, r2, r6, r7⟩ := recovered_cases ra (recoveryImage u x) u.sec.slotA
  refine completes_of rfl hop (by rw [hu]; exact hs) ⟨fun h1 => (r1 h1).trans ?_, fun h2 h5 => (r2 h2 h5).trans hA, fun h6 => ?_, fun h7 hv => ?_, rfl⟩
  · rw [← haddr]
    exact recoveryImage_bytes x u
  · rw [setSec_slotA, r6 h6 (slotResult_noError (hra.symm.trans h6) (by decide))]
    exact magic_eraseTo _ (by decide)
  · rw [setSec_slotA, r7 h7 ((recoveryImage_readErr x u).trans hv)]
    split
    · exact hA
    · exact magic_eraseTo _ (by decide)

/-- The unit as a fuse command that is decided leaves it: a nonce is void after any LIFECYCLE_SET (R431). -/
def fuseNonced (x : FuseOp) (s : State) : State :=
  match x with
  | .lifecycle _ _ _ => setSec { s.sec with nonce := none } s
  | _ => s

theorem startFuse_refuses {g : FuseOp} (h : fuseRefused s g = some r) : startFuse g s = complete (fuseCmd g) (fuseOpcode g) r (fuseNonced g s) := by
  unfold startFuse
  dsimp only
  rw [h]
  cases g with
  | counter => rfl
  | cosign => rfl
  | lifecycle => rfl

theorem startFuse_begins {g : FuseOp} (h : fuseRefused s g = none) :
    startFuse g s = holdRing (fuseCmd g) (setSec { (fuseNonced g s).sec with run := some (fuseRun s g) } (fuseNonced g s)) := by
  unfold startFuse
  dsimp only
  rw [h]
  cases g with
  | counter => rfl
  | cosign => rfl
  | lifecycle => rfl

theorem fuse_requests (hc : Clear s) (hu : u = place a img s) :
    (s.sec.run = none →
      (s.sec.counter < imgSvn (bootedImage s) → s.sec.update = none → s.sec.tampered = false → Completes (.rollbackAdvance c) s (fun t => (cmdRing t c.ring).busy = true ∧
        t = { s with sec := { s.sec with run := some (.counter c (imgSvn (bootedImage s))) }, hif := { s.hif with cmd := t.hif.cmd } })) ∧
      (imgSvn (bootedImage s) ≤ s.sec.counter ∨ s.sec.update.isSome = true ∨ s.sec.tampered = true → Completes (.rollbackAdvance c) s (Fails c 0x0B20 0x20 0 s)) ∧
      (s.sec.life = 1 → s.sec.cosign = none → c.hostOk = true → Completes (.cosignerFuse c a img) s (fun t => (cmdRing t c.ring).busy = true ∧
        t = { u with sec := { u.sec with run := some (.cosign c a) }, hif := { u.hif with cmd := t.hif.cmd } })) ∧
      (s.sec.life ≠ 1 ∨ s.sec.cosign.isSome = true → Completes (.cosignerFuse c a img) s (Fails c 0x0B31 0x20 0 u)) ∧
      (fuseRefused u (.lifecycle c n a) = none → Completes (.lifecycleSet c n a img) s (fun t => (cmdRing t c.ring).busy = true ∧
        t = { u with sec := { u.sec with run := some (.lifecycle c n a), nonce := none }, hif := { u.hif with cmd := t.hif.cmd } })) ∧
      (fuseRefused u (.lifecycle c n a) = some r → 0x10 ≤ r.st → Completes (.lifecycleSet c n a img) s (fun t => Replied c 0x0B30 r.st r.result r.err t ∧
        t = { u with sec := { u.sec with nonce := none }, hif := t.hif, flt := t.flt, wire := t.wire }))) := by
  intro hn
  have hcu : Clear u := hu ▸ clear_place hc a img
  have hsec : u.sec = s.sec := by rw [hu]; rfl
  have hcos : opCosignerFuse c a img s = startFuse (.cosign c a) u := by
    rw [hu]
    exact if_neg (by rw [show (place a img s).sec.run = none from hn]; exact Bool.false_ne_true)
  have hlife : opLifecycleSet c n a img s = startFuse (.lifecycle c n a) u := by
    rw [hu]
    exact if_neg (by rw [show (place a img s).sec.run = none from hn]; exact Bool.false_ne_true)
  have hroll : opRollbackAdvance c s = startFuse (.counter c 0) s := if_neg (by rw [hn]; exact Bool.false_ne_true)
  refine ⟨fun h1 h2 h3 => ?_, fun h => ?_, fun h1 h2 h3 => ?_, fun h => ?_, fun h => ?_, fun h hst => ?_⟩
  · have hr : fuseRefused s (.counter c 0) = none := firstErr_pass (by rw [decide_eq_false (by omega), h2, h3]; rfl)
    exact completes_of rfl (hroll.trans (startFuse_begins hr)) hc.2.1 ⟨congrArg CmdRing.busy (cmdRing_setCmdRing _ _ _), rfl⟩
  · have hr : fuseRefused s (.counter c 0) = some denied := firstErr_fail (by
      rcases h with h | h | h
      · rw [decide_eq_true h]; rfl
      · rw [h, Bool.or_true, Bool.true_or]
      · rw [h, Bool.or_true])
    exact ⟨_, congrArg (fun z => Host.Outcome.next (settle z)) (hroll.trans (startFuse_refuses hr)), complete_fails hc.1 hc.2.1⟩
  · have hr : fuseRefused u (.cosign c a) = none := (firstErr_pass (by rw [hsec, h1, h2]; rfl)).trans (firstErr_pass (by rw [h3]; rfl))
    exact completes_of rfl (hcos.trans (startFuse_begins hr)) hcu.2.1 ⟨congrArg CmdRing.busy (cmdRing_setCmdRing _ _ _), rfl⟩
  · have hr : fuseRefused u (.cosign c a) = some denied := firstErr_fail (by
      rw [hsec]
      rcases h with h | h
      · rw [bne_iff_ne.mpr h]; rfl
      · rw [h, Bool.or_true])
    exact ⟨_, congrArg (fun z => Host.Outcome.next (settle z)) (hcos.trans (startFuse_refuses hr)), complete_fails hcu.1 hcu.2.1⟩
  · exact completes_of rfl (hlife.trans (startFuse_begins h)) hcu.2.1 ⟨congrArg CmdRing.busy (cmdRing_setCmdRing _ _ _), rfl⟩
  · let z : State := setSec { u.sec with nonce := none } u
    refine completes_of rfl (hlife.trans (startFuse_refuses h)) ((complete_resetQ c 0x0B30 r z).trans hcu.2.1) ⟨complete_replied c 0x0B30 r z hcu.1, ?_⟩
    exact complete_same c 0x0B30 r z

theorem lifecycle_checks :
    (lifeStep s.sec.life n = false → fuseRefused s (.lifecycle c n a) = some { st := 0x11, err := argAt c 24 s }) ∧
    (lifeStep s.sec.life n = true → s.sec.update = none → needsToken s.sec.life n = false → fuseRefused s (.lifecycle c n a) = none) ∧
    (lifeStep s.sec.life n = true → needsToken s.sec.life n = true → c.hostOk = true → tokenOk s n (hostBytes s a 4096) = false → fuseRefused s (.lifecycle c n a) = some { st := 0x20 }) := by
  have htoken (h : needsToken s.sec.life n = false) : firstErr [(needsToken s.sec.life n && !c.hostOk, addressError a), (needsToken s.sec.life n && !tokenOk s n (hostBytes s a 4096), denied)] = none := by
    rw [h]; rfl
  refine ⟨fun h => firstErr_fail (by rw [h]; rfl), fun h hn ht => (firstErr_pass (by rw [h]; rfl)).trans ((firstErr_pass (by rw [hn]; rfl)).trans (htoken ht)), fun h ht hh hk => (firstErr_pass (by rw [h]; rfl)).trans ?_⟩
  by_cases hup : s.sec.update.isSome = true
  · exact firstErr_fail hup
  · exact (firstErr_pass (by simpa using hup)).trans ((firstErr_pass (by rw [hh, Bool.not_true, Bool.and_false])).trans (firstErr_fail (by rw [ht, hk]; rfl)))

theorem fuseWritten_counter {z : State} (h : flag (decide (imgSvn (slotImage (setSec { z.sec with counter := v } z) (staging (setSec { z.sec with counter := v } z))) < v)) 0 = low) :
    fuseWritten (.counter c v) z = complete c 0x0B20 (replyResult (v + 256 * low)) (raise { src := 0x224, data := [(1, v), (1, low)] } (setSec { z.sec with counter := v } z)) := by
  unfold fuseWritten
  dsimp only
  rw [h]

theorem fuse_ends (hc : Clear s) :
    (s.sec.run = none → Completes .fuseProgramDone s (fun t => t = s)) ∧
    (s.sec.run = some (.counter c v) → c.cplOk = true → s.sec.wait = [] → Completes .fuseProgramDone s (fun t => Replied c 0x0B20 0 (v + 256 * (if imgSvn (slotImage s (1 - s.sec.slot)) < v then 1 else 0)) 0 t ∧
      Raised 0x224 [(1, v), (1, if imgSvn (slotImage s (1 - s.sec.slot)) < v then 1 else 0)] 0 s t ∧
      t = { s with sec := { s.sec with run := none, counter := v }, hif := t.hif, flt := t.flt, wire := t.wire })) ∧
    (s.sec.run = some (.cosign c a) → s.sec.wait = [] → Completes .fuseProgramDone s (EndsDone c 0x0B31 0 { s with sec := { s.sec with run := none, cosign := some (leNat (hostBytes s a 32)) } })) ∧
    (s.sec.run = some (.lifecycle c n a) → c.cplOk = true → s.sec.wait = [] → Completes .fuseProgramDone s (fun t => Replied c 0x0B30 0 0 0 t ∧ RaisedOnce 0x225 s t ∧ Raised 0x227 [(1, 2)] 0 s t ∧ secBarred t = true ∧
      t = { s with sec := { s.sec with run := none, life := n, lifeWiped := true, idKey := false, nonce := none, sram := [] }, hif := t.hif, flt := t.flt, wire := t.wire })) := by
  have hnext (z : State) (hz : z.sec.wait = []) : nextFuse z.sec.wait z = z := by
    have hw : ∀ x : Sec, x.wait = [] → { x with wait := [] } = x := fun x h => by
      cases x
      cases h
      rfl
    rw [hz]
    show ({ z with sec := { z.sec with wait := [] } } : State) = z
    rw [hw z.sec hz]
  have hdone {x : FuseOp} (hx : s.sec.run = some x) (hw : (fuseWritten x (setSec { s.sec with run := none } s)).sec.wait = []) : opFuseProgramDone s = fuseWritten x (setSec { s.sec with run := none } s) := by
    unfold opFuseProgramDone
    rw [hx]
    exact hnext _ hw
  have hwait (op : Nat) (r : Reply) (z : State) (h : z.sec.wait = []) : (complete c op r z).sec.wait = [] := by
    rw [complete_same c op r z]
    exact h
  have hend {op : Nat} {r : Reply} {z : State} (hf : z.hif.fences = []) (hq : z.flt.resetQ = []) (hr : r.st = 0) :
      CompletionOnly c z (settle (complete c op r z)) ∧ Replied c op r.st r.result r.err (settle (complete c op r z)) := by
    rw [settle_of_nil _ ((complete_resetQ c op r z).trans hq)]
    exact ⟨complete_frame c op r z hf (.inl hr), complete_replied c op r z hf⟩
  refine ⟨fun h => completes_of rfl ?_ hc.2.1 rfl, fun h hcpl hw => ?_, fun h hw => ?_, fun h hcpl hw => ?_⟩
  · unfold opFuseProgramDone
    rw [h]
  · obtain ⟨low, hlow⟩ : ∃ low, low = (if imgSvn (slotImage s (1 - s.sec.slot)) < v then 1 else 0) := ⟨_, rfl⟩
    rw [← hlow]
    let e : Ev := { src := 0x224, data := [(1, v), (1, low)] }
    let z : State := setSec { s.sec with run := none, counter := v } s
    have hflag : flag (decide (imgSvn (slotImage z (staging z)) < v)) 0 = low := by
      have himg : slotImage z (staging z) = slotImage s (1 - s.sec.slot) := rfl
      rw [hlow, himg]
      unfold flag
      simp
    have hfw : fuseWritten (.counter c v) (setSec { s.sec with run := none } s) = complete c 0x0B20 (replyResult (v + 256 * low)) (raise e z) :=
      fuseWritten_counter hflag
    have hop := (hdone h (by rw [hfw]; exact hwait _ _ (raise e z) hw)).trans hfw
    exact completes_written (congrArg (fun z => Host.Outcome.next (settle z)) hop) hcpl (hend (z := raise e z) hc.1 ((raise_resetQ e z rfl).trans hc.2.1) rfl) fun h w hrep => ⟨hrep, raise_raised e z rfl, rfl⟩
  · let z : State := setSec { s.sec with run := none, cosign := some (leNat (hostBytes s a 32)) } s
    have hfw : fuseWritten (.cosign c a) (setSec { s.sec with run := none } s) = complete c 0x0B31 replyDone z := rfl
    have hop := (hdone h (by rw [hfw]; exact hwait _ _ z hw)).trans hfw
    exact ⟨_, congrArg (fun z => Host.Outcome.next (settle z)) hop, hend (z := z) hc.1 hc.2.1 rfl⟩
  · let e : Ev := { src := 0x225, data := [(1, s.sec.life), (1, n)] }
    let w : Ev := { src := 0x227, data := [(1, 2)] }
    let y : State := setSec { s.sec with run := none, life := n, lifeWiped := true, idKey := false, nonce := none } s
    let z : State := { raise e y with sec := { y.sec with sram := [] } }
    have hfw : fuseWritten (.lifecycle c n a) (setSec { s.sec with run := none } s) = complete c 0x0B30 replyDone (raise w z) := rfl
    have hop := (hdone h (by rw [hfw]; exact hwait _ _ (raise w z) hw)).trans hfw
    have h1 : OtherRaises 0x227 s.flt z.flt := otherRaises_raise e y rfl rfl (show 0x227 ≠ 0x225 by decide)
    have h2 : OtherRaises 0x225 (raise e y).flt (raise w z).flt := otherRaises_raise w z rfl rfl (show 0x225 ≠ 0x227 by decide)
    exact completes_written (congrArg (fun z => Host.Outcome.next (settle z)) hop) hcpl (hend (z := raise w z) hc.1 ((raise_resetQ w z rfl).trans (h1.1.trans hc.2.1)) rfl)
      fun h w' hrep => ⟨hrep, OtherRaises.count (e := e) (s := y) (.refl _ _) rfl h2, (raise_raised w z rfl).after h1, Bool.or_true _, rfl⟩

end

/-- Settles O54: the ROM's tries by `tries_pass` and `fromSlot_runs`, a recovery by its result, and the fuses by `fuseRefused` and `fuseWritten`. -/
theorem bootRecoveryAndFuses : Obligations.BootRecoveryAndFuses := by
  unfold Obligations.BootRecoveryAndFuses
  intro c s u a n m v ra rb w img x y p q r hc hu hp hq
  have hs : Settled s := hc.2.1
  obtain ⟨g1, g2, g3, g4⟩ := recoveryGo_starts (w := w) (m := m) hs
  obtain ⟨d1, d2⟩ := recoveryDone_ends (ra := ra) (v := v) (x := x) hs hu
  obtain ⟨k1, k2, k3⟩ := lifecycle_checks (c := c) (s := s) (n := n) (a := a)
  obtain ⟨f1, f2, f3, f4⟩ := fuse_ends (c := c) (a := a) (n := n) (v := v) hc
  exact ⟨slotResult_verified, hp ▸ (found_bytes x).1, hp ▸ (found_bytes x).2, boot_idle hs, fun hb hr hst hra hrb => boot_verifies hs hp hq hb hr hst hra hrb,
    g1, g2, g3, g4, d1, d2, fuse_requests hc hu, k1, k2, k3, f1, f2, f3, f4⟩

end Sys2Proof.Machine

/-! SUPPORT. Power states: PWR_STATE_SET, the blocks' answers, the retry and service wakes (R402 to R406). -/
namespace Sys2Proof.Machine
open Sys2Proof

/-! ## Commands that a STANDBY or WARM unit takes too (R364) -/

theorem hostCmd_taken (c : Cmd) (op : Nat) (body : State → Reply × State) (s : State) : hostCmd c op false body s = complete c op (body s).1 (body s).2 :=
  hostCmd_eq c op false body s (.inl rfl)

theorem taken_fails {c : Cmd} {op st err : Nat} {checks : State → List (Bool × Reply)} {act : State → Reply × State} {s : State}
    (hk : firstErr (checks s) = some { st := st, err := err }) (hf : s.hif.fences = []) (hq : Settled s) :
    Fails c op st err s (settle (hostCmd c op false (checked checks act) s)) := by
  rw [hostCmd_taken, checked_bad _ _ _ _ hk]
  exact complete_fails hf hq

theorem taken_ends {c : Cmd} {op : Nat} {checks : State → List (Bool × Reply)} {act : State → Reply × State} {s u : State} {r : Reply}
    (hk : firstErr (checks s) = none) (ha : act s = (r, u)) (hf : u.hif.fences = []) (hq : Settled u) (hr : r.st = 0 ∨ r.st = 1) :
    CompletionOnly c u (settle (hostCmd c op false (checked checks act) s)) ∧ Replied c op r.st r.result r.err (settle (hostCmd c op false (checked checks act) s)) :=
  hostCmd_ends c op false _ s ((checked_ok _ _ _ hk).trans ha) (.inl rfl) hf hq hr

/-! ## Requests (R404, R406) -/

section
variable {c : Cmd} {s : State} {n k r a m : Nat} {l : List Nat} {q o : PwrSt} {tg pt : Option Nat} {x y : Transit}

theorem pwrTarget_none (h0 : n ≠ 0) (h1 : n ≠ 1) (h3 : n ≠ 3) : (pwrTarget n).isNone = true := by
  unfold pwrTarget
  split
  · exact absurd rfl h0
  · exact absurd rfl h1
  · exact absurd rfl h3
  · rfl

theorem pwrStateSet_noTarget (hf : s.hif.fences = []) (hs : Settled s) (h0 : n ≠ 0) (h1 : n ≠ 1) (h3 : n ≠ 3) :
    Completes (.pwrStateSet c n) s (Fails c 0x0A01 0x11 (argAt c 24 s) s) :=
  ⟨_, rfl, taken_fails (firstErr_fail (pwrTarget_none h0 h1 h3)) hf hs⟩

theorem pwrStateSet_standby (hf : s.hif.fences = []) (hs : Settled s) (hq : pwrTarget n = some q) (h : s.red.st = .standby ∨ s.red.st = .warm ∨ s.red.st = .taking) :
    Completes (.pwrStateSet c n) s (Fails c 0x0A01 0x20 0 s) := by
  have hb : (s.red.st == .standby || s.red.st == .warm || s.red.st == .taking) = true := by
    rcases h with h | h | h <;> rw [h] <;> rfl
  exact ⟨_, rfl, taken_fails ((firstErr_pass (by rw [hq]; rfl)).trans (firstErr_fail hb)) hf hs⟩

/-- What PWR_STATE_SET does once its checks have passed. -/
def powerAsked (c : Cmd) (q : PwrSt) (s : State) : Reply × State :=
  if s.pwr.st = q && s.pwr.trans.isNone && s.pwr.pend.isNone then (replyDone, s) else (accepted, requestPower q (some c.tag) s)

theorem pwrStateSet_taken (hq : pwrTarget n = some q) (h1 : s.red.st ≠ .standby) (h2 : s.red.st ≠ .warm) (h3 : s.red.st ≠ .taking)
    {w : Reply} {u : State} (ha : powerAsked c q s = (w, u)) (hf : u.hif.fences = []) (hs : Settled u) (hr : w.st = 0 ∨ w.st = 1) :
    ∃ v, exec (.pwrStateSet c n) s = .next (settle v) ∧ CompletionOnly c u (settle v) ∧ Replied c 0x0A01 w.st w.result w.err (settle v) := by
  have hb : (s.red.st == .standby || s.red.st == .warm || s.red.st == .taking) = false := by
    rw [beq_eq_false_iff_ne.mpr h1, beq_eq_false_iff_ne.mpr h2, beq_eq_false_iff_ne.mpr h3]; rfl
  refine ⟨_, rfl, taken_ends ((firstErr_pass (by rw [hq]; rfl)).trans (firstErr_pass hb)) ?_ hf hs hr⟩
  rw [hq]
  exact ha

theorem pwrStateSet_ends (hcpl : c.cplOk = true) (hq : pwrTarget n = some q) (h1 : s.red.st ≠ .standby) (h2 : s.red.st ≠ .warm) (h3 : s.red.st ≠ .taking)
    {w : Reply} {u : State} {P : State → Prop} (ha : powerAsked c q s = (w, u)) (hf : u.hif.fences = []) (hs : Settled u) (hr : w.st = 0 ∨ w.st = 1)
    (hp : ∀ h v, Replied c 0x0A01 w.st w.result w.err { u with hif := h, wire := v } → P { u with hif := h, wire := v }) : Completes (.pwrStateSet c n) s P := by
  obtain ⟨v, hv, hend⟩ := pwrStateSet_taken hq h1 h2 h3 ha hf hs hr
  exact completes_written hv hcpl hend hp

theorem powerAsked_runs (hc : (s.pwr.st = q && s.pwr.trans.isNone && s.pwr.pend.isNone) = false) : powerAsked c q s = (accepted, requestPower q (some c.tag) s) :=
  if_neg (by rw [hc]; exact Bool.false_ne_true)

theorem pwrStateSet_idle (hf : s.hif.fences = []) (hs : Settled s) (hq : pwrTarget n = some q) (h1 : s.red.st ≠ .standby) (h2 : s.red.st ≠ .warm) (h3 : s.red.st ≠ .taking)
    (hst : s.pwr.st = q) (ht : s.pwr.trans = none) (hp : s.pwr.pend = none) : Completes (.pwrStateSet c n) s (EndsDone c 0x0A01 0 s) := by
  have ha : powerAsked c q s = (replyDone, s) := if_pos (by rw [decide_eq_true hst, ht, hp]; rfl)
  obtain ⟨v, hv, hend⟩ := pwrStateSet_taken hq h1 h2 h3 ha hf hs (.inl rfl)
  exact ⟨_, hv, hend⟩

theorem pwrStateSet_requests (hf : s.hif.fences = []) (hs : Settled s) (hcpl : c.cplOk = true) (hy : y = { target := q, todo := blocksFor s.pwr.st q, agreed := [], asked := s.tim.now, tag := pt })
    (hq : pwrTarget n = some q) (h1 : s.red.st ≠ .standby) (h2 : s.red.st ≠ .warm) (h3 : s.red.st ≠ .taking) :
    (s.pwr.st = q → s.pwr.trans = none → s.pwr.pend = none → Completes (.pwrStateSet c n) s (EndsDone c 0x0A01 0 s)) ∧
    (s.pwr.st ≠ q → s.pwr.trans = none → pt = some c.tag → Completes (.pwrStateSet c n) s (fun t => Replied c 0x0A01 1 0 0 t ∧
      t = { s with pwr := { s.pwr with trans := some y, retry := none }, hif := t.hif, flt := t.flt, wire := t.wire })) ∧
    (s.pwr.trans = some x → s.pwr.pend = none → Completes (.pwrStateSet c n) s (fun t => Replied c 0x0A01 1 0 0 t ∧
      t = { s with pwr := { s.pwr with pend := some (q, some c.tag) }, hif := t.hif, flt := t.flt, wire := t.wire })) ∧
    (s.pwr.trans = some x → s.pwr.pend = some (o, tg) → Completes (.pwrStateSet c n) s (fun t => Replied c 0x0A01 1 0 0 t ∧
      Raised 0x202 [(1, pwrCode o), (1, pwrCode q)] 0 s t ∧ (tg = some m → Final 0x202 m t) ∧
      t = { s with pwr := { s.pwr with pend := some (q, some c.tag) }, hif := t.hif, flt := t.flt, wire := t.wire })) := by
  refine ⟨fun hst ht hp => pwrStateSet_idle hf hs hq h1 h2 h3 hst ht hp, fun hst ht hpt => ?_, fun ht hp => ?_, fun ht hp => ?_⟩
  · have ha : requestPower q (some c.tag) s = startTransit q (some c.tag) s := if_pos (by rw [ht]; rfl)
    refine pwrStateSet_ends hcpl hq h1 h2 h3 (powerAsked_runs (by rw [decide_eq_false hst]; rfl)) (by rw [ha]; exact hf) (by rw [ha]; exact hs) (.inr rfl) fun h v hrep => ⟨hrep, ?_⟩
    rw [ha, hy, hpt]
    rfl
  · have ha : requestPower q (some c.tag) s = setPwr { s.pwr with pend := some (q, some c.tag) } s := by
      unfold requestPower
      rw [if_neg (by rw [ht]; exact Bool.false_ne_true)]
      dsimp only
      rw [hp]
    refine pwrStateSet_ends hcpl hq h1 h2 h3 (powerAsked_runs (by rw [ht, Option.isNone_some, Bool.and_false, Bool.false_and])) (by rw [ha]; exact hf) (by rw [ha]; exact hs) (.inr rfl) fun h v hrep => ⟨hrep, ?_⟩
    rw [ha]
    rfl
  · let e : Ev := { src := 0x202, data := [(1, pwrCode o), (1, pwrCode q)], fin := tg }
    let u : State := setPwr { s.pwr with pend := some (q, some c.tag) } s
    have ha : requestPower q (some c.tag) s = raise e u := by
      unfold requestPower
      rw [if_neg (by rw [ht]; exact Bool.false_ne_true)]
      dsimp only
      rw [hp]
    refine pwrStateSet_ends hcpl hq h1 h2 h3 (powerAsked_runs (by rw [ht, Option.isNone_some, Bool.and_false, Bool.false_and])) (by rw [ha]; exact hf) (by rw [ha]; exact (raise_resetQ e u rfl).trans hs) (.inr rfl) fun h v hrep => ?_
    rw [ha] at hrep ⊢
    exact ⟨hrep, raise_raised e u rfl, fun htg => raise_final e u m rfl htg, rfl⟩

/-! ## The blocks' answers (R404 to R406) -/

/-- A transition refused, as it is reported. -/
def refusedEvent (x : Transit) (k reason : Nat) : Ev := { src := 0x201, data := [(1, pwrCode x.target), (1, blockSub k), (1, reason)], fin := x.tag }

theorem refuseTransit_host (ht : x.tag = some m) (k r : Nat) (s : State) :
    refuseTransit x k r s = startPending (raise (refusedEvent x k r) (setPwr { s.pwr with trans := none, retry := none } s)) := by
  unfold refuseTransit refusedEvent
  rw [ht]
  rfl

theorem startPending_none (h : s.pwr.pend = none) : startPending s = s := by
  unfold startPending
  rw [h]

theorem startPending_some (h : s.pwr.pend = some (q, pt)) : startPending s = startTransit q pt (setPwr { s.pwr with pend := none } s) := by
  unfold startPending
  rw [h]

theorem blockAnswer_refuses (hx : s.pwr.trans = some x) (htodo : x.todo = k :: l) (hr : blockReason s x.target k = some r) : opPwrBlockAnswer s = refuseTransit x k r s := by
  unfold opPwrBlockAnswer
  rw [hx]
  dsimp only
  rw [htodo]
  dsimp only
  rw [hr]

theorem blockAnswer_agrees (hx : s.pwr.trans = some x) (htodo : x.todo = k :: l) (hr : blockReason s x.target k = none) :
    opPwrBlockAnswer s = setPwr { s.pwr with trans := some { x with todo := l, agreed := x.agreed ++ [k], asked := s.tim.now } } s := by
  unfold opPwrBlockAnswer
  rw [hx]
  dsimp only
  rw [htodo]
  dsimp only
  rw [hr]

theorem refused_ends {i : Instr} {u : State} (hop : exec i s = .next (settle (refuseTransit x k r u))) (hs : Settled u) (ht : x.tag = some m) (hp : u.pwr.pend = none) :
    Completes i s (fun t => Raised 0x201 [(1, pwrCode x.target), (1, blockSub k), (1, r)] 0 u t ∧ Final 0x201 m t ∧
      t = { u with pwr := { u.pwr with trans := none, retry := none }, flt := t.flt }) :=
  let e := refusedEvent x k r
  let z := setPwr { u.pwr with trans := none, retry := none } u
  completes_of hop ((refuseTransit_host ht k r u).trans (startPending_none (s := raise e z) hp)) ((raise_resetQ e z rfl).trans hs) ⟨raise_raised e z rfl, raise_final e z m rfl ht, rfl⟩

theorem blocks_answer (hs : Settled s) (hy : y = { target := q, todo := blocksFor s.pwr.st q, agreed := [], asked := s.tim.now, tag := pt }) (hx : s.pwr.trans = some x) (htodo : x.todo = k :: l) :
    (Completes .pwrTransitionDone s (fun t => t = s)) ∧
    (blockReason s x.target k = none → Completes .pwrBlockAnswer s (fun t =>
      t = { s with pwr := { s.pwr with trans := some { x with todo := l, agreed := x.agreed ++ [k], asked := s.tim.now } } })) ∧
    (blockReason s x.target k = some r → x.tag = some m → s.pwr.pend = none → Completes .pwrBlockAnswer s (fun t =>
      Raised 0x201 [(1, pwrCode x.target), (1, blockSub k), (1, r)] 0 s t ∧ Final 0x201 m t ∧ t = { s with pwr := { s.pwr with trans := none, retry := none }, flt := t.flt })) ∧
    (blockReason s x.target k = some r → x.tag = none → s.pwr.pend = none → Completes .pwrBlockAnswer s (fun t =>
      (s.pwr.refusedSec ≠ some (secOf s) → Raised 0x201 [(1, pwrCode x.target), (1, blockSub k), (1, r)] 0 s t) ∧ (s.pwr.refusedSec = some (secOf s) → t.flt = s.flt) ∧
      t = { s with pwr := { s.pwr with trans := none, retry := some (x.target, s.tim.now + 100000000), refusedSec := some (secOf s) }, flt := t.flt })) ∧
    (blockReason s x.target k = some r → x.tag = some m → s.pwr.pend = some (q, pt) → Completes .pwrBlockAnswer s (fun t => RaisedOnce 0x201 s t ∧
      t = { s with pwr := { s.pwr with trans := some y, pend := none, retry := none }, flt := t.flt })) ∧
    (x.tag = some m → s.pwr.pend = none → Completes .pwrAckTimeout s (fun t => t.tim.now = max s.tim.now (x.asked + 1000 * fld s .pwrCfg 0 29 16) ∧
      Raised 0x201 [(1, pwrCode x.target), (1, blockSub k), (1, 2)] 0 s t ∧ Final 0x201 m t ∧
      t = { s with tim := { s.tim with now := t.tim.now }, pwr := { s.pwr with trans := none, retry := none }, flt := t.flt })) := by
  refine ⟨completes_of rfl ?_ hs rfl, fun hr => completes_of rfl (blockAnswer_agrees hx htodo hr) hs rfl, fun hr ht hp => ?_, fun hr ht hp => ?_, fun hr ht hp => ?_, fun ht hp => ?_⟩
  · unfold opPwrTransitionDone
    rw [hx]
    exact if_pos (by rw [htodo]; rfl)
  · exact refused_ends (congrArg (fun z => Host.Outcome.next (settle z)) (blockAnswer_refuses hx htodo hr)) hs ht hp
  · let e := refusedEvent x k r
    let z := setPwr { s.pwr with trans := none, retry := some (x.target, s.tim.now + 100000000), refusedSec := some (secOf s) } s
    have hop : refuseTransit x k r s = startPending (raiseIf (!(s.pwr.refusedSec == some (secOf s))) e z) := by
      unfold refuseTransit
      rw [ht]
      show _ = startPending (raiseIf _ (refusedEvent x k r) z)
      unfold refusedEvent
      rw [ht]
      rfl
    by_cases hsec : s.pwr.refusedSec = some (secOf s)
    · have hq : raiseIf (!(s.pwr.refusedSec == some (secOf s))) e z = z := if_neg (by rw [beq_iff_eq.mpr hsec]; exact Bool.false_ne_true)
      exact completes_of rfl ((blockAnswer_refuses hx htodo hr).trans (hop.trans ((congrArg startPending hq).trans (startPending_none (s := z) hp)))) hs ⟨fun h => absurd hsec h, fun _ => rfl, rfl⟩
    · have hq : raiseIf (!(s.pwr.refusedSec == some (secOf s))) e z = raise e z := if_pos (by rw [beq_eq_false_iff_ne.mpr hsec]; rfl)
      exact completes_of rfl ((blockAnswer_refuses hx htodo hr).trans (hop.trans ((congrArg startPending hq).trans (startPending_none (s := raise e z) hp)))) ((raise_resetQ e z rfl).trans hs)
        ⟨fun _ => raise_raised e z rfl, fun h => absurd h hsec, rfl⟩
  · let e := refusedEvent x k r
    let z := setPwr { s.pwr with trans := none, retry := none } s
    have hop := (blockAnswer_refuses hx htodo hr).trans ((refuseTransit_host ht k r s).trans (startPending_some (s := raise e z) hp))
    exact completes_of rfl hop ((raise_resetQ e z rfl).trans hs) ⟨(raise_raised e z rfl).1, by rw [hy]; rfl⟩
  · have hop : opPwrAckTimeout s = refuseTransit x k 2 (atLeast (x.asked + 1000 * fld s .pwrCfg 0 29 16) s) := by
      unfold opPwrAckTimeout
      rw [hx]
      dsimp only
      rw [htodo]
    obtain ⟨t, ht', hr, hfin, heq⟩ := refused_ends (i := .pwrAckTimeout) (k := k) (congrArg (fun z => Host.Outcome.next (settle z)) hop) hs ht hp
    exact ⟨t, ht', by rw [heq]; rfl, hr, hfin, by rw [heq]; rfl⟩

/-! ## No transition, the retry and service wakes (R402, R405, R407) -/

theorem noTransit_stays (hs : Settled s) (h : s.pwr.trans = none) :
    Completes .pwrBlockAnswer s (fun t => t = s) ∧ Completes .pwrAckTimeout s (fun t => t = s) ∧ Completes .pwrTransitionDone s (fun t => t = s) := by
  refine ⟨completes_of rfl ?_ hs rfl, completes_of rfl ?_ hs rfl, completes_of rfl ?_ hs rfl⟩
  · unfold opPwrBlockAnswer
    rw [h]
  · unfold opPwrAckTimeout
    rw [h]
  · unfold opPwrTransitionDone
    rw [h]

theorem allAnswered_stays (hs : Settled s) (hx : s.pwr.trans = some x) (h : x.todo = []) :
    Completes .pwrBlockAnswer s (fun t => t = s) ∧ Completes .pwrAckTimeout s (fun t => t = s) := by
  refine ⟨completes_of rfl ?_ hs rfl, completes_of rfl ?_ hs rfl⟩
  · unfold opPwrBlockAnswer
    rw [hx]
    dsimp only
    rw [h]
  · unfold opPwrAckTimeout
    rw [hx]
    dsimp only
    rw [h]

theorem retry_starts (hs : Settled s) (hy : y = { target := q, todo := blocksFor s.pwr.st q, agreed := [], asked := s.tim.now, tag := pt }) :
    (s.pwr.retry = some (q, a) → s.pwr.trans = none → pt = none → Completes .pwrRetry s (fun t => t.tim.now = max s.tim.now a ∧
      t = { s with tim := { s.tim with now := t.tim.now }, pwr := { s.pwr with trans := some { y with asked := t.tim.now }, retry := none } })) ∧
    (s.pwr.retry = none ∨ s.pwr.trans.isSome = true → Completes .pwrRetry s (fun t => t = s)) := by
  refine ⟨fun hr ht hpt => ?_, fun h => completes_of rfl ?_ hs rfl⟩
  · have hop : opPwrRetry s = startTransit q none (atLeast a s) := by
      unfold opPwrRetry
      rw [hr]
      exact if_pos (by rw [ht]; rfl)
    exact completes_of rfl hop hs ⟨rfl, by rw [hy, hpt]; rfl⟩
  · unfold opPwrRetry
    split
    · next hr =>
      rcases h with h | h
      · exact nomatch hr.symm.trans h
      · exact if_neg (by rw [Option.isNone_eq_false_iff.mpr h]; exact Bool.false_ne_true)
    · rfl

theorem service_wakes (hs : Settled s) :
    (s.pwr.st = .recess → (cmdRing s n).en = true → Completes (.serviceWake n) s (fun t => t.tim.now = (if s.pwr.svcWake then s.tim.now else s.tim.now + 40000) ∧
      t = { s with tim := { s.tim with now := t.tim.now }, pwr := { s.pwr with svcWake := true, svcIdle := t.tim.now } })) ∧
    (s.pwr.st ≠ .recess ∨ (cmdRing s n).en = false → Completes (.serviceWake n) s (fun t => t = s)) ∧
    (s.pwr.svcWake = true → s.hif.cmd.any (fun r => r.2.en && (r.2.busy || r.2.head != r.2.producer)) = false → Completes .serviceWakeEnd s (fun t => t.tim.now = max s.tim.now (s.pwr.svcIdle + 1000000) ∧
      t = { s with tim := { s.tim with now := t.tim.now }, pwr := { s.pwr with svcWake := false } })) ∧
    (s.pwr.svcWake = false → Completes .serviceWakeEnd s (fun t => t = s)) := by
  refine ⟨fun h he => ?_, fun h => completes_of rfl (if_neg ?_) hs rfl, fun hw hany => completes_of rfl (if_pos (by rw [hw, hany]; rfl)) hs ⟨rfl, rfl⟩,
    fun h => completes_of rfl (if_neg (by rw [h]; exact Bool.false_ne_true)) hs rfl⟩
  · have hop : opServiceWake n s = setPwr { s.pwr with svcWake := true, svcIdle := (ungate (!s.pwr.svcWake) 40000 s).tim.now } (ungate (!s.pwr.svcWake) 40000 s) := by
      refine (if_pos (by rw [beq_iff_eq.mpr h, he]; rfl)).trans ?_
      dsimp only
      rw [ungate_eq]
    have hnow : (ungate (!s.pwr.svcWake) 40000 s).tim.now = if s.pwr.svcWake then s.tim.now else s.tim.now + 40000 := by
      cases s.pwr.svcWake with
      | true => rfl
      | false => exact max_eq_right (Nat.le_add_right _ _)
    exact completes_of rfl hop (by rw [ungate_eq]; exact hs) ⟨hnow, by rw [ungate_eq]; rfl⟩
  · rcases h with h | h
    · rw [beq_eq_false_iff_ne.mpr h]; exact Bool.false_ne_true
    · rw [h, Bool.and_false]; exact Bool.false_ne_true

end
end Sys2Proof.Machine

/-! SUPPORT. The end of a power transition: links and MACs that rest, the clearing, OFF and the wakes (R400, R404 to R409). -/
namespace Sys2Proof.Machine
open Sys2Proof

/-! ## Links that rest and wake (R125, R126) -/

/-- The state `t` is `s` with its links, its reference candidates and its collector changed, and cells sent. -/
def Rested (s t : State) : Prop :=
  ∃ q cs fo f w, t = { s with aqf := q, tim := { s.tim with cands := cs, forced := fo }, flt := f, wire := w } ∧
    ∀ src, src ≠ 0x091 → src ≠ 0x1C0 → src ≠ 0x1C2 → OtherRaises src s.flt f

theorem Rested.refl (s : State) : Rested s s := ⟨_, _, _, _, _, rfl, fun _ _ _ _ => .refl _ _⟩

theorem Rested.trans {s t u : State} (h1 : Rested s t) (h2 : Rested t u) : Rested s u := by
  obtain ⟨_, _, _, _, _, rfl, ho⟩ := h1
  obtain ⟨q, cs, fo, f, w, rfl, ho'⟩ := h2
  exact ⟨q, cs, fo, f, w, rfl, fun src a b c => (ho src a b c).trans (ho' src a b c)⟩

theorem Rested.of_links (q : Aqf) (s : State) : Rested s { s with aqf := q } := ⟨q, _, _, _, _, rfl, fun _ _ _ _ => .refl _ _⟩

theorem Losing.rested {s t : State} (h : Losing s t) : Rested s t := by
  obtain ⟨cs, fo, f, rfl, ho⟩ := h
  exact ⟨_, cs, fo, f, _, rfl, fun src _ b c => ho src b c⟩

theorem Notified.rested {n : Nat} {s t : State} (h : Notified n s t) : Rested s t := by
  obtain ⟨ls, q, f, rfl, -, ho⟩ := h
  exact ⟨_, _, _, f, _, rfl, fun src a _ _ => ho src a⟩

theorem setLink_rested (n : Nat) (x : Link) (s : State) : Rested s (setLink n x s) := .of_links _ s

theorem notify_rested (n : Nat) (s : State) : Rested s (notify n s) :=
  (flood_notified (ownNotice s n) n s).rested.trans (.of_links _ _)

theorem moveLink_rested (n : Nat) {st : LinkSt} (h : st ≠ .down) (s : State) : Rested s (moveLink n st s) := by
  unfold moveLink
  dsimp only
  rw [if_neg h]
  split
  · exact (setLink_rested n _ s).trans (notify_rested n _)
  · exact setLink_rested n _ s

theorem leaveUp_rested (n : Nat) (s : State) : Rested s (leaveUp n s) := by
  obtain ⟨x, -, h⟩ := leaveUp_losing n s
  exact (setLink_rested n x s).trans h.rested

theorem enterQuiet_rested (n : Nat) (s : State) : Rested s (enterQuiet n s) :=
  ((leaveUp_rested n s).trans (setLink_rested n _ _)).trans (moveLink_rested (st := .quiet) n nofun _)

theorem sendCell_rested (n : Nat) (l : List Byte) (s : State) : Rested s (sendCell n l s) := ⟨_, _, _, _, _, rfl, fun _ _ _ _ => .refl _ _⟩

theorem helloNow_rested (n : Nat) (b : Bool) (s : State) : Rested s (helloNow n b s) :=
  (sendCell_rested n _ s).trans (.of_links _ _)

theorem foldl_rested (l : List Nat) (f : State → Nat → State) (hf : ∀ s n, Rested s (f s n)) (s : State) : Rested s (l.foldl f s) := by
  induction l generalizing s with
  | nil => exact .refl s
  | cons n l ih => exact (hf s n).trans (ih _)

theorem quietLinks_rested (s : State) : Rested s (quietLinks s) :=
  foldl_rested _ (fun s n => enterQuiet n (helloNow n true s)) (fun s n => (helloNow_rested n true s).trans (enterQuiet_rested n _)) s

theorem enterUp_rested (n : Nat) (s : State) : Rested s (enterUp n s) := by
  unfold enterUp
  dsimp only
  refine Rested.trans ?_ ((setLink_rested n _ _).trans (moveLink_rested (st := .up) n nofun _))
  split
  · exact foldl_rested _ (fun s k => setLink k { link s k with role1At := none, peerRole := 0 } s) (fun s k => setLink_rested k _ s) s
  · exact .refl s

theorem sendLocal_rested (n k : Nat) (l : List Byte) (s : State) : Rested s (sendLocal n k l s) :=
  (sendLocal_notified (n := n + 1) (Nat.ne_of_lt (Nat.lt_succ_self n)) k l s).rested

theorem opQuietWake_rested (n : Nat) (s : State) : Rested s (opQuietWake n s) := by
  unfold opQuietWake
  split
  · exact (setLink_rested n _ s).trans (enterUp_rested n _)
  · exact .refl s

theorem wakeLinks_rested (s : State) : Rested s (wakeLinks s) :=
  foldl_rested _ (fun s n => sendHello n false (opQuietWake n s)) (fun s n => (opQuietWake_rested n s).trans (sendLocal_rested n 1 _ _)) s

/-! ## Tables changed throughout -/

theorem tgetD_tmap {α : Type} (t : Tab α) (f : Nat → α → α) (i : Nat) {d : α} (h : f i d = d) : tgetD (tmap t f) i d = f i (tgetD t i d) := by
  unfold tgetD
  rw [tget?_tmap]
  cases tget? t i with
  | none => exact h.symm
  | some x => rfl

/-- A MAC at the start or the end of low-power idle, by whether its EEE_EN is set. -/
def restMac (low eee : Bool) (x : Mac) : Mac :=
  if low && x.st == .up && eee then { x with st := .lowPower } else if !low && x.st == .lowPower then { x with st := .up } else x

theorem restMacs_mac (low : Bool) (s : State) (k : Nat) : tgetD (restMacs low s).nmp.macs k {} = restMac low (bit (rd s .nmpEee k) 31) (tgetD s.nmp.macs k {}) :=
  tgetD_tmap s.nmp.macs (fun m x => restMac low (bit (rd s .nmpEee m) 31) x) k (by cases low <;> rfl)

/-! ## The end of a transition -/

/-- A transition that has ended, as it is reported. -/
def reachedEvent (x : Transit) : Ev := { src := 0x200, data := [(1, pwrCode x.target)], fin := x.tag }

/-- The unit without the transition that has ended. -/
def transitOver (s : State) : State := setPwr { s.pwr with trans := none } s

section
variable {s : State} {k m : Nat} {x y : Transit} {q : PwrSt} {pt : Option Nat}

theorem transitionDone_eq (hx : s.pwr.trans = some x) (htodo : x.todo = []) :
    opPwrTransitionDone s = startPending (raise (reachedEvent x) (enterPower x.target (transitOver (if x.target = .recess then atLeast s.red.sdiUntil s else s)))) := by
  unfold opPwrTransitionDone
  rw [hx]
  dsimp only
  rw [htodo]
  rfl

/-- A unit whose power state is `q`, its service wake over. -/
def powered (q : PwrSt) (s : State) : State := setPwr { s.pwr with st := q, svcWake := false } s

/-- A unit out of RECESS, what RECESS does not keep cleared and the wake recorded. -/
def leftRecess (q : PwrSt) (s : State) : State := restMacs false (recordWake (wakeCode (powered q s)) (clearCore (powered q s)))

theorem enterPower_stays (hr : s.pwr.st ≠ .recess) (ho : s.pwr.st ≠ .off) (hq : q = .run ∨ q = .trim) : enterPower q s = powered q s := by
  refine (if_neg (by rw [decide_eq_false hr]; exact Bool.false_ne_true)).trans ((if_neg (by rw [decide_eq_false ho]; exact Bool.false_ne_true)).trans ?_)
  rcases hq with rfl | rfl <;> rfl

theorem enterPower_off : enterPower .off s = gateAll (powered .off s) := by
  refine (if_neg (by rw [show (PwrSt.off == .run || PwrSt.off == .trim) = false from rfl, Bool.and_false]; exact Bool.false_ne_true)).trans (if_neg ?_)
  rw [show (PwrSt.off != .off) = false from rfl, Bool.and_false]
  exact Bool.false_ne_true

theorem enterPower_wakes (ho : s.pwr.st = .off) (hq : q = .run ∨ q = .trim) : enterPower q s = wakeOff 3 (powered q s) := by
  refine (if_neg (by rw [ho]; exact Bool.false_ne_true)).trans (if_pos ?_)
  rw [decide_eq_true ho]
  rcases hq with rfl | rfl <;> rfl

theorem enterPower_recess (ho : s.pwr.st ≠ .off) : enterPower .recess s = staticTx (restMacs true (quietLinks (powered .recess s))) := by
  refine (if_neg (by rw [show (PwrSt.recess == .run || PwrSt.recess == .trim) = false from rfl, Bool.and_false]; exact Bool.false_ne_true)).trans (if_neg ?_)
  rw [decide_eq_false ho]
  exact Bool.false_ne_true

theorem enterPower_leaves (hr : s.pwr.st = .recess) (hq : q = .run ∨ q = .trim) :
    enterPower q s = raise { src := 0x208, data := [(1, wakeCode (powered q s))] }
      (if s.red.st == .taking || s.red.st == .warm then leftRecess q s else wakeLinks (leftRecess q s)) := by
  refine if_pos ?_
  rw [decide_eq_true hr]
  rcases hq with rfl | rfl <;> rfl

/-- A transition that ends: PWR_STATE_DONE is its last record, and a request that waits starts. -/
theorem transition_ends {P : State → Prop} {u : State} (hx : s.pwr.trans = some x) (htodo : x.todo = []) (ht : x.target ≠ .recess)
    (hu : enterPower x.target (transitOver s) = u) (hs : Settled u)
    (h : P (startPending (raise (reachedEvent x) u))) : Completes .pwrTransitionDone s P := by
  refine completes_of rfl ((transitionDone_eq hx htodo).trans ?_) ?_ h
  · rw [if_neg ht, hu]
  · have hq : (raise (reachedEvent x) u).flt.resetQ = [] := (raise_resetQ (reachedEvent x) u rfl).trans hs
    unfold startPending
    split
    · exact hq
    · exact hq

/-- With no request waiting. -/
theorem transition_reaches {P : State → Prop} {u : State} (hx : s.pwr.trans = some x) (htodo : x.todo = []) (ht : x.target ≠ .recess)
    (hu : enterPower x.target (transitOver s) = u) (hp : u.pwr.pend = none) (hs : Settled u)
    (h : P (raise (reachedEvent x) u)) : Completes .pwrTransitionDone s P :=
  transition_ends hx htodo ht hu hs (by rw [startPending_none (s := raise (reachedEvent x) u) hp]; exact h)

theorem running_ne_recess (h : q = .run ∨ q = .trim) : q ≠ .recess := by
  rcases h with rfl | rfl <;> nofun

theorem reach_running (hs : Settled s) (hx : s.pwr.trans = some x) (htodo : x.todo = []) (hp : s.pwr.pend = none) (hr : s.pwr.st ≠ .recess) (ho : s.pwr.st ≠ .off)
    (ht : x.target = .run ∨ x.target = .trim) : Completes .pwrTransitionDone s (fun t => Raised 0x200 [(1, pwrCode x.target)] 0 s t ∧ (x.tag = some m → Final 0x200 m t) ∧
      t = { s with pwr := { s.pwr with trans := none, st := x.target, svcWake := false }, flt := t.flt }) :=
  let u : State := powered x.target (transitOver s)
  transition_reaches hx htodo (running_ne_recess ht) (enterPower_stays hr ho ht) hp hs
    ⟨raise_raised (reachedEvent x) u rfl, fun h => raise_final (reachedEvent x) u m rfl h, rfl⟩

theorem reach_running_next (hs : Settled s) (hy : y = { target := q, todo := blocksFor s.pwr.st q, agreed := [], asked := s.tim.now, tag := pt })
    (hx : s.pwr.trans = some x) (htodo : x.todo = []) (hr : s.pwr.st ≠ .recess) (ho : s.pwr.st ≠ .off) (ht : x.target = .run ∨ x.target = .trim) (hp : s.pwr.pend = some (q, pt)) :
    Completes .pwrTransitionDone s (fun t => RaisedOnce 0x200 s t ∧
      t = { s with pwr := { s.pwr with trans := some { y with todo := blocksFor x.target q }, pend := none, retry := none, st := x.target, svcWake := false }, flt := t.flt }) := by
  let u : State := powered x.target (transitOver s)
  refine transition_ends hx htodo (running_ne_recess ht) (enterPower_stays hr ho ht) hs ?_
  rw [startPending_some (s := raise (reachedEvent x) u) hp]
  have hone : RaisedOnce 0x200 s (raise (reachedEvent x) u) := (raise_raised (reachedEvent x) u rfl).1
  unfold RaisedOnce at hone
  obtain ⟨f, hf⟩ : ∃ f, f = (raise (reachedEvent x) u).flt := ⟨_, rfl⟩
  rw [← hf] at hone
  rw [show raise (reachedEvent x) u = { u with flt := f } by rw [hf]; rfl, hy]
  exact ⟨hone, rfl⟩

/-! ## OFF, and a wake from it (R400, R407 to R409) -/

theorem reach_off (hs : Settled s) (hx : s.pwr.trans = some x) (htodo : x.todo = []) (hp : s.pwr.pend = none) (ht : x.target = .off) :
    Completes .pwrTransitionDone s (fun t => Raised 0x200 [(1, 3)] 0 s t ∧ (x.tag = some m → Final 0x200 m t) ∧ (tgetD t.pwr.coolers k {}).duty = 0 ∧
      (∀ p ∈ t.regs, p.1 < 0x700000 ∧ p ∈ s.regs) ∧ (∀ p ∈ s.regs, p.1 < 0x700000 → p ∈ t.regs) ∧
      t = { State.reset with pending := s.pending, free := s.free, wire := s.wire, regs := t.regs, tim := s.tim, hif := s.hif, red := s.red, sec := s.sec, pwr := { s.pwr with trans := none, st := .off, svcWake := false, coolers := t.pwr.coolers, trip := false }, flt := t.flt }) := by
  obtain ⟨u, hu⟩ : ∃ u, u = gateAll (powered .off (transitOver s)) := ⟨_, rfl⟩
  have hraise : Raised 0x200 [(1, pwrCode x.target)] 0 u (raise (reachedEvent x) u) := raise_raised (reachedEvent x) u rfl
  have hflt : u.flt = s.flt := by rw [hu]; rfl
  have hregs : u.regs = s.regs.filter (fun r => decide (r.1 < 0x700000)) := by rw [hu]; rfl
  unfold Raised at hraise
  rw [ht, hflt] at hraise
  refine transition_reaches hx htodo (by rw [ht]; nofun) (by rw [ht, hu]; exact enterPower_off) (by rw [hu]; exact hp) (by rw [Settled, hflt]; exact hs)
    ⟨hraise, fun h => raise_final (reachedEvent x) u m rfl h, ?_, fun p h => ?_, fun p h hl => ?_, ?_⟩
  · rw [hu]
    exact congrArg Cooler.duty (tgetD_tmap s.pwr.coolers (fun _ c => { c with duty := 0 }) k rfl)
  · have hm := List.mem_filter.mp (hregs ▸ (show p ∈ u.regs from h))
    exact ⟨of_decide_eq_true hm.2, hm.1⟩
  · show p ∈ u.regs
    exact hregs ▸ List.mem_filter.mpr ⟨h, decide_eq_true hl⟩
  · rw [show raise (reachedEvent x) u = { u with flt := (raise (reachedEvent x) u).flt } from rfl, hu]
    rfl

/-- The wake from OFF: the chip reset outside the island, and its two records. -/
theorem wakeOff_wakes (n : Nat) (s : State) : ∃ f, wakeOff n s = { resetDevice true s with pwr := { State.reset.pwr with perst := s.pwr.perst, wakeCause := n, wakeTs := ts32 s.tim.now, boot := .verifying }, sec := { (resetDevice true s).sec with sram := [] }, flt := f } ∧
    f.resetQ = [] ∧ (tgetD f.stat 0x208 {}).count = 1 ∧ (tgetD f.stat 0x227 {}).count = 1 ∧ (tgetD f.stat 0x200 {}).count = 0 := by
  obtain ⟨z, hz⟩ : ∃ z : State, z = setPwr { State.reset.pwr with perst := s.pwr.perst, wakeCause := n, wakeTs := ts32 s.tim.now, boot := .verifying } (resetDevice true s) := ⟨_, rfl⟩
  let e : Ev := { src := 0x208, data := [(1, n)] }
  let w : Ev := { src := 0x227, data := [(1, 0)] }
  let v : State := { raise e z with sec := { (raise e z).sec with sram := [] } }
  have hq : z.flt.resetQ = [] := by rw [hz]; rfl
  have hc (i : Nat) : (tgetD z.flt.stat i {}).count = 0 := by rw [hz]; rfl
  have h227 : OtherRaises 0x227 z.flt v.flt := otherRaises_raise e z rfl rfl (show 0x227 ≠ 0x208 by decide)
  have h208 : OtherRaises 0x208 v.flt (raise w v).flt := otherRaises_raise w v rfl rfl (show 0x208 ≠ 0x227 by decide)
  have h200 : OtherRaises 0x200 z.flt (raise w v).flt := (otherRaises_raise e z rfl rfl (show 0x200 ≠ 0x208 by decide)).trans (otherRaises_raise w v rfl rfl (show 0x200 ≠ 0x227 by decide))
  have hr := (raise_raised e z rfl).1
  have hr' := (raise_raised w v rfl).1
  refine ⟨(raise w v).flt, ?_, (h200.1).trans hq, ?_, ?_, ?_⟩
  · have hw : wakeOff n s = raise w v := by
      unfold wakeOff wiped
      dsimp only
      rw [show setPwr { (recordWake n (resetDevice true s)).pwr with boot := .verifying } (recordWake n (resetDevice true s)) = z by rw [hz]; rfl]
    rw [hw, show raise w v = { v with flt := (raise w v).flt } from rfl, show v = { raise e z with sec := { (raise e z).sec with sram := [] } } from rfl, hz]
    rfl
  · rw [h208.2.1]
    exact hr.trans (by rw [hc]; rfl)
  · exact hr'.trans (by rw [h227.2.1, hc]; rfl)
  · rw [h200.2.1, hc]

end
end Sys2Proof.Machine

/-! SUPPORT. The wake from OFF, RECESS entered and left, and O56 (R400, R404 to R409). -/
namespace Sys2Proof.Machine
open Sys2Proof

section
variable {s : State} {k m : Nat} {x : Transit}

theorem reach_from_off (hx : s.pwr.trans = some x) (htodo : x.todo = []) :
      (s.pwr.st = .off → x.target = .run ∨ x.target = .trim → Completes .pwrTransitionDone s (fun t => (srcStat t 0x200).count = 1 ∧ (srcStat t 0x208).count = 1 ∧ (srcStat t 0x227).count = 1 ∧ (x.tag = some m → Final 0x200 m t) ∧
        t.pwr = { State.reset.pwr with perst := s.pwr.perst, wakeCause := 3, wakeTs := ts32 s.tim.now, boot := .verifying } ∧ t.tim = s.tim ∧ t.red = State.reset.red ∧ t.hif.mem = s.hif.mem ∧ t.sec.slotA = s.sec.slotA ∧ t.sec.counter = s.sec.counter ∧
        t = { State.reset with pending := s.pending, free := s.free, wire := s.wire, regs := t.regs, tim := t.tim, hif := t.hif, sec := t.sec, pwr := t.pwr, flt := t.flt })) := by
  intro ho ht
  obtain ⟨f, hw, hq, h208, h227, h200⟩ := wakeOff_wakes 3 (powered x.target (transitOver s))
  obtain ⟨u, hu⟩ : ∃ u, u = wakeOff 3 (powered x.target (transitOver s)) := ⟨_, rfl⟩
  have hf : u.flt = f := by rw [hu, hw]
  have hpwr : u.pwr = { State.reset.pwr with perst := s.pwr.perst, wakeCause := 3, wakeTs := ts32 s.tim.now, boot := .verifying } := by rw [hu, hw]; rfl
  have hother {i : Nat} (hi : i ≠ 0x200) : tgetD (raise (reachedEvent x) u).flt.stat i {} = tgetD f.stat i {} := by
    rw [← hf]
    exact (otherRaises_raise (reachedEvent x) u rfl rfl hi).2.1
  have hone := (raise_raised (reachedEvent x) u rfl).1
  refine transition_reaches hx htodo (running_ne_recess ht) ((enterPower_wakes (s := transitOver s) ho ht).trans hu.symm) (by rw [hpwr]; rfl) (by rw [Settled, hf]; exact hq)
    ⟨hone.trans ?_, ?_, ?_, fun h => raise_final (reachedEvent x) u m rfl h, hpwr, ?_, ?_, ?_, ?_, ?_, ?_⟩
  · rw [hf]
    show min ((tgetD f.stat 0x200 {}).count + 1) 255 = 1
    rw [h200]; rfl
  · exact (congrArg SrcStat.count (hother (i := 0x208) (by decide))).trans h208
  · exact (congrArg SrcStat.count (hother (i := 0x227) (by decide))).trans h227
  · show u.tim = _
    rw [hu, hw]; rfl
  · show u.red = _
    rw [hu, hw]; rfl
  · show u.hif.mem = _
    rw [hu, hw]; rfl
  · show u.sec.slotA = _
    rw [hu, hw]; rfl
  · show u.sec.counter = _
    rw [hu, hw]; rfl
  · rw [show raise (reachedEvent x) u = { u with flt := (raise (reachedEvent x) u).flt } from rfl, hu, hw]
    rfl

theorem reach_recess (hs : Settled s) (hx : s.pwr.trans = some x) (htodo : x.todo = []) (hp : s.pwr.pend = none) :
      (x.target = .recess → s.pwr.st ≠ .off → Completes .pwrTransitionDone s (fun t => RaisedOnce 0x200 s t ∧ t.pwr = { s.pwr with trans := none, st := .recess, svcWake := false } ∧ t.tim.now = max s.tim.now s.red.sdiUntil ∧ (tgetD t.svp.tx k {}).sending = false ∧
        t.flows = s.flows ∧ t.swc = s.swc ∧ t.mem = s.mem ∧ t.tt = s.tt ∧ ((tgetD s.nmp.macs k {}).st = .up → bit (rd s .nmpEee k) 31 = true → (tgetD t.nmp.macs k {}).st = .lowPower))) := by
  intro ht ho
  obtain ⟨z, hz⟩ : ∃ z, z = powered .recess (transitOver (atLeast s.red.sdiUntil s)) := ⟨_, rfl⟩
  obtain ⟨q, cs, fo, f, w, hl, hf⟩ := quietLinks_rested z
  obtain ⟨u, hu⟩ : ∃ u, u = staticTx (restMacs true (quietLinks z)) := ⟨_, rfl⟩
  have hzf : z.flt = s.flt := by rw [hz]; rfl
  have huf : u.flt = f := by rw [hu, hl]; rfl
  have h200 : OtherRaises 0x200 s.flt f := by rw [← hzf]; exact hf 0x200 (by decide) (by decide) (by decide)
  have hq : u.flt.resetQ = [] := by rw [huf]; exact h200.1.trans hs
  have hop : opPwrTransitionDone s = raise (reachedEvent x) u := by
    rw [transitionDone_eq hx htodo, ht, if_pos rfl, enterPower_recess (s := transitOver (atLeast s.red.sdiUntil s)) ho, ← hz, ← hu]
    exact startPending_none (by rw [hu, hl, hz]; exact hp)
  have hone := (raise_raised (reachedEvent x) u rfl).1
  refine completes_of rfl hop ((raise_resetQ (reachedEvent x) u rfl).trans hq) ⟨hone.trans ?_, ?_, ?_, ?_, ?_, ?_, ?_, ?_, fun hst hb => ?_⟩
  · rw [huf]
    exact congrArg (fun (n : SrcStat) => min (n.count + 1) 255) h200.2.1
  · show u.pwr = _
    rw [hu, hl, hz]; rfl
  · show u.tim.now = _
    rw [hu, hl, hz]; rfl
  · show (tgetD u.svp.tx k {}).sending = false
    rw [hu]
    exact congrArg SdiTx.sending (tgetD_tmap (quietLinks z).svp.tx (fun _ x => { x with sending := false }) k rfl)
  · show u.flows = _
    rw [hu, hl, hz]; rfl
  · show u.swc = _
    rw [hu, hl, hz]; rfl
  · show u.mem = _
    rw [hu, hl, hz]; rfl
  · show u.tt = _
    rw [hu, hl, hz]; rfl
  · show (tgetD u.nmp.macs k {}).st = _
    have hm : tgetD u.nmp.macs k {} = restMac true (bit (rd s .nmpEee k) 31) (tgetD s.nmp.macs k {}) := by
      rw [hu]
      refine (restMacs_mac true (quietLinks z) k).trans ?_
      rw [hl, hz]; rfl
    rw [hm, hb]
    unfold restMac
    rw [hst]
    rfl

theorem leave_recess (hs : Settled s) (hx : s.pwr.trans = some x) (htodo : x.todo = []) (hp : s.pwr.pend = none) :
      (s.pwr.st = .recess → x.target = .run ∨ x.target = .trim → Completes .pwrTransitionDone s (fun t => RaisedOnce 0x208 s t ∧ Raised 0x200 [(1, pwrCode x.target)] 0 s t ∧
        t.pwr = { s.pwr with trans := none, st := x.target, svcWake := false, wakeCause := t.pwr.wakeCause, wakeTs := ts32 s.tim.now } ∧
        (s.red.st = .warm → t.pwr.wakeCause = 7) ∧ (s.red.st = .taking → t.pwr.wakeCause = 4 + s.red.cause) ∧ (s.red.st = .unpaired → t.pwr.wakeCause = 8) ∧
        t.flows = [] ∧ t.consists = [] ∧ t.swc.xp = [] ∧ t.swc.live = [] ∧ t.swc.store = [] ∧ t.tt = {} ∧ t.ika.procs = [] ∧ t.aud.xps = [] ∧ t.aud.delays = [] ∧ t.mem = s.mem ∧ t.svp = s.svp ∧
        ((tgetD s.nmp.macs k {}).st = .lowPower → (tgetD t.nmp.macs k {}).st = .up))) := by
  intro hr ht
  obtain ⟨z, hz⟩ : ∃ z, z = leftRecess x.target (transitOver s) := ⟨_, rfl⟩
  obtain ⟨v, hv⟩ : ∃ v, v = (if s.red.st == .taking || s.red.st == .warm then z else wakeLinks z) := ⟨_, rfl⟩
  have hrest : Rested z v := by
    rw [hv]
    split
    · exact .refl z
    · exact wakeLinks_rested z
  obtain ⟨q, cs, fo, f, w, hl, hf⟩ := hrest
  let e : Ev := { src := 0x208, data := [(1, wakeCode (powered x.target (transitOver s)))] }
  let u : State := raise e v
  have hzf : z.flt = s.flt := by rw [hz]; rfl
  have hvf : v.flt = f := by rw [hl]
  have hold {i : Nat} (h1 : i ≠ 0x091) (h2 : i ≠ 0x1C0) (h3 : i ≠ 0x1C2) : OtherRaises i s.flt v.flt := by rw [hvf, ← hzf]; exact hf i h1 h2 h3
  have h208 : OtherRaises 0x208 s.flt v.flt := hold (by decide) (by decide) (by decide)
  have h200 : OtherRaises 0x200 s.flt u.flt := (hold (by decide) (by decide) (by decide)).trans (otherRaises_raise e v rfl rfl (show 0x200 ≠ 0x208 by decide))
  have hlast : OtherRaises 0x208 u.flt (raise (reachedEvent x) u).flt := otherRaises_raise (reachedEvent x) u rfl rfl (show 0x208 ≠ 0x200 by decide)
  have hpwr : v.pwr = { s.pwr with trans := none, st := x.target, svcWake := false, wakeCause := wakeCode s, wakeTs := ts32 s.tim.now } := by rw [hl, hz]; rfl
  have hcode {n : Nat} (h : wakeCode s = n) : v.pwr.wakeCause = n := by rw [hpwr]; exact h
  have henter : enterPower x.target (transitOver s) = u := by
    rw [enterPower_leaves (s := transitOver s) hr ht, ← hz]
    show raise e (if s.red.st == .taking || s.red.st == .warm then z else wakeLinks z) = raise e v
    rw [hv]
  refine transition_reaches hx htodo (running_ne_recess ht) henter (by show v.pwr.pend = none; rw [hpwr]; exact hp) (h200.1.trans hs)
    ⟨OtherRaises.count (e := e) h208 rfl hlast, (raise_raised (reachedEvent x) u rfl).after h200, ?_, fun h => hcode ?_, fun h => hcode ?_, fun h => hcode ?_, ?_, ?_, ?_, ?_, ?_, ?_, ?_, ?_, ?_, ?_, ?_, fun h => ?_⟩
  · show v.pwr = { s.pwr with trans := none, st := x.target, svcWake := false, wakeCause := v.pwr.wakeCause, wakeTs := ts32 s.tim.now }
    rw [hpwr]
  · unfold wakeCode; rw [h]
  · unfold wakeCode; rw [h]
  · unfold wakeCode; rw [h]
  · show v.flows = []
    rw [hl, hz]; rfl
  · show v.consists = []
    rw [hl, hz]; rfl
  · show v.swc.xp = []
    rw [hl, hz]; rfl
  · show v.swc.live = []
    rw [hl, hz]; rfl
  · show v.swc.store = []
    rw [hl, hz]; rfl
  · show v.tt = {}
    rw [hl, hz]; rfl
  · show v.ika.procs = []
    rw [hl, hz]; rfl
  · show v.aud.xps = []
    rw [hl, hz]; rfl
  · show v.aud.delays = []
    rw [hl, hz]; rfl
  · show v.mem = _
    rw [hl, hz]; rfl
  · show v.svp = _
    rw [hl, hz]; rfl
  · show (tgetD v.nmp.macs k {}).st = .up
    have hm : tgetD v.nmp.macs k {} = restMac false (bit (rd s .nmpEee k) 31) (tgetD s.nmp.macs k {}) := by
      rw [hl, hz]
      exact restMacs_mac false _ k
    rw [hm]
    unfold restMac
    rw [h]
    rfl

end

/-- Settles O56: the request by `requestPower`, the answers by `blockReason`, and the state reached by `enterPower`, a case each. -/
theorem powerTransitionsRunAndAreRefused : Obligations.PowerTransitionsRunAndAreRefused := by
  unfold Obligations.PowerTransitionsRunAndAreRefused
  intro c s n k r a m l q o tg pt x y hf hs hcpl hy
  obtain ⟨r1, r2⟩ := retry_starts (a := a) hs hy
  obtain ⟨w1, w2, w3, w4⟩ := service_wakes (n := n) hs
  exact ⟨⟨rfl, rfl, rfl, rfl, rfl⟩, fun h0 h1 h3 => pwrStateSet_noTarget hf hs h0 h1 h3, fun hq h => pwrStateSet_standby hf hs hq h,
    fun hq h1 h2 h3 => pwrStateSet_requests hf hs hcpl hy hq h1 h2 h3, noTransit_stays hs, fun hx h => allAnswered_stays hs hx h, fun hx h => blocks_answer hs hy hx h,
    fun hx h hp => ⟨fun hr ho ht => reach_running hs hx h hp hr ho ht, fun ht => reach_off hs hx h hp ht, reach_from_off hx h, reach_recess hs hx h hp, leave_recess hs hx h hp⟩,
    fun hx h hr ho ht hp => reach_running_next hs hy hx h hr ho ht hp, r1, r2, w1, w2, w3, w4⟩

end Sys2Proof.Machine

/-! SUPPORT. The feed-forward of the cooling loop counts the pages at the instant of the loop (R414), which is later than the state it is called in. -/
namespace Sys2Proof.Machine
open Sys2Proof

/-- A unit at instant 0 with cooling output 0 at a feed-forward gain of 1 and no other gain, LEAD_MS 0, and an armed page of 1 W
whose boundary is at 1,000 ns, within the 100 ms before the loop next runs. -/
def pageBeforeLoop : State :=
  { State.reset with
    regs := (wr (wr (wr State.reset .pwrThermGain 0 0 0) .pwrOutCfg 0 0 0x80640120) .timDomPhase 0 0 1000).regs
    tt := { State.reset.tt with slots := [(0, { part := true, pst := .armed, power := 100 })] } }

/-- Refutes O57: THERMAL_LOOP takes place at the next 100 ms, by when the page has come within LEAD_MS, so the duty is 1.45 %; the
statement takes P_ff at the instant before, without the page, and says 1.44 %. -/
theorem not_voltageHeatCoolingAndResets : ¬ Obligations.VoltageHeatCoolingAndResets := by
  unfold Obligations.VoltageHeatCoolingAndResets
  intro h
  obtain ⟨-, -, -, -, -, -, -, -, -, -, hloop, -⟩ := h anyCmd pageBeforeLoop _ 0 0 0 0 0 0 0 0 100 (-340) (-340) 14400 [] [] [] _ {} rfl rfl rfl rfl
  obtain ⟨t, ht, -, -, -, -, -, -, hduty, -⟩ := hloop rfl (by decide) (by decide) (by decide) (by decide) (by decide) (by decide) (by decide) (by decide)
  have hd := (hduty (by decide) (by decide) (by decide)).2
  have hreal : (match exec (.thermalLoop []) pageBeforeLoop with | .next t => (cooler t 0).duty | _ => 0) = 14500 := by decide
  rw [ht] at hreal
  exact absurd (hreal.symm.trans hd) (by decide)

end Sys2Proof.Machine

/-! SUPPORT. The messages of a pair, what hearing one does, and a request for power (R125, R355, R356, R360, R406). -/
namespace Sys2Proof.Machine
open Sys2Proof

/-! ## Messages sent (R355, R356) -/

theorem sendLocal_sent (n k : Nat) (l : List Byte) (s : State) : Sent s (sendLocal n k l s) :=
  (sendCtrl_sent n _ s).trans (.aqf _ _)

theorem notify_sent (n : Nat) (s : State) : Sent s (notify n s) :=
  (Sent.foldl (fun s k => sendLocal_sent k 4 _ s) _ s).trans (.aqf _ _)

theorem notifyRole_sent (s : State) : Sent s (notifyRole s) := Sent.foldl (fun s n => notify_sent n s) _ s

theorem sendPath_a_sent (m : PairMsg) (s : State) : Sent s (sendPath m 0 s) :=
  Sent.foldl (fun s n => sendLocal_sent n 9 (pairBytes { m with path := 0 }) s) (pairLinks s) s

/-- The unit with its next SEQ. -/
def seqNext (s : State) : State := setRed { s.red with seq := (s.red.seq + 1) % 2 ^ 32 } s

/-- A message on HB_TX. -/
def onPathB (m : PairMsg) (s : State) : State := { s with wire := s.wire ++ [.pathB { m with path := 1 } (hbInv s)] }

theorem sendPair_a (kind ack : Nat) (fi : Option Nat) (s : State) : Sent (seqNext s) (sendPair [0] kind ack fi s) :=
  sendPath_a_sent _ _

theorem sendPair_b (kind ack : Nat) (fi : Option Nat) (s : State) : sendPair [1] kind ack fi s = onPathB (ownMsg s kind ack fi) (seqNext s) := rfl

theorem Sent.hbInv {s t : State} (h : Sent s t) : hbInv t = hbInv s := by
  obtain ⟨a, f, rfl, -⟩ := h
  rfl

/-- A message on both paths: the control cells of path A, and the bytes of path B. -/
theorem sendPair_both (kind ack : Nat) (fi : Option Nat) (s : State) :
    ∃ a f, sendPair bothPaths kind ack fi s = { seqNext s with aqf := a, flt := f, wire := s.wire ++ [.pathB { ownMsg s kind ack fi with path := 1 } (hbInv s)] } ∧
      ∀ src, src ≠ 0x091 → OtherRaises src s.flt f := by
  have h : Sent (seqNext s) (sendPath (ownMsg s kind ack fi) 0 (seqNext s)) := sendPath_a_sent _ _
  have hop : sendPair bothPaths kind ack fi s = onPathB (ownMsg s kind ack fi) (sendPath (ownMsg s kind ack fi) 0 (seqNext s)) := rfl
  obtain ⟨a, f, he, ho⟩ := h
  refine ⟨a, f, ?_, ho⟩
  rw [hop, he]
  rfl

theorem sendCommit_sent (dest : Nat) (m : CommitMsg) (s : State) : Sent s (sendCommit dest m s) := sendToDevice_sent dest 8 (commitBytes m) s

/-- Messages held for the journal leave: those that stay are the others. -/
theorem releaseHeld_sent (ok : HeldMsg → Bool) (s : State) :
    Sent (setRed { s.red with heldMsgs := s.red.heldMsgs.filter (fun h => !ok h) } s) (releaseHeld ok s) := by
  unfold releaseHeld
  dsimp only
  generalize setRed { s.red with heldMsgs := s.red.heldMsgs.filter (fun h => !ok h) } s = u
  refine Sent.foldl (fun s h => ?_) _ u
  exact sendCommit_sent _ _ s

theorem releaseAll_sent (s : State) : Sent (setRed { s.red with heldMsgs := [] } s) (releaseHeld (fun _ => true) s) := by
  have h := releaseHeld_sent (fun _ => true) s
  rwa [show s.red.heldMsgs.filter (fun _ => !true) = [] from List.filter_eq_nil_iff.mpr fun _ _ => Bool.false_ne_true] at h

/-! ## A request for power (R406) -/

/-- The state `t` is `s` with its power state changed, and what PWR_SUPERSEDED raises. -/
def Repowered (s t : State) : Prop := ∃ p f, t = { s with pwr := p, flt := f } ∧ ∀ src, src ≠ 0x202 → OtherRaises src s.flt f

theorem requestPower_repowered (q : PwrSt) (tag : Option Nat) (s : State) : Repowered s (requestPower q tag s) := by
  unfold requestPower
  split
  · exact ⟨_, _, rfl, fun _ _ => .refl _ _⟩
  · dsimp only
    split
    · next old t _ =>
      exact ⟨_, _, rfl, fun src h => otherRaises_raise { src := 0x202, data := [(1, pwrCode old), (1, pwrCode q)], fin := t } (setPwr { s.pwr with pend := some (q, tag) } s) rfl rfl h⟩
    · exact ⟨_, _, rfl, fun _ _ => .refl _ _⟩

theorem Repowered.others {s t : State} (h : Repowered s t) {src : Nat} (hs : src ≠ 0x202) : OtherRaises src s.flt t.flt := by
  obtain ⟨p, f, rfl, hf⟩ := h; exact hf src hs

theorem requestPower_starts {q : PwrSt} {tag : Option Nat} {s : State} (h : s.pwr.trans = none) : requestPower q tag s = startTransit q tag s :=
  if_pos (by rw [h]; rfl)

/-! ## A message heard (R356) -/

/-- The state `z` is `s` after a message of the partner has been heard. -/
def Heard (m : PairMsg) (s z : State) : Prop :=
  ∃ la lb ta tb hs f, z = { s with red := { s.red with partner := some m, liveA := la, liveB := lb, atA := ta, atB := tb, healthySince := hs }, flt := f } ∧
    ∀ src, src ≠ 0x1E4 → OtherRaises src s.flt f

/-- The redundancy controller as a message leaves it, its hold-off not yet judged. -/
def heardRed (m : PairMsg) (path now : Nat) (r : Red) : Red :=
  if path = 0 then { r with liveA := true, atA := now, partner := some m } else { r with liveB := true, atB := now, partner := some m }

theorem hear_eq (m : PairMsg) (path : Nat) (s : State) : hear m path s =
    raiseIf (!livePath s path && (if path = 0 then s.red.atA else s.red.atB) != 0) { src := 0x1E4, data := [(1, path)] } (judgeHealth (setRed (heardRed m path s.tim.now s.red) s)) := rfl

theorem hear_heard (m : PairMsg) (path : Nat) (s : State) : Heard m s (hear m path s) := by
  rw [hear_eq, raiseIf_flt]
  obtain ⟨la, lb, ta, tb, hr⟩ : ∃ la lb ta tb, heardRed m path s.tim.now s.red = { s.red with partner := some m, liveA := la, liveB := lb, atA := ta, atB := tb } := by
    unfold heardRed
    split
    · exact ⟨_, _, _, _, rfl⟩
    · exact ⟨_, _, _, _, rfl⟩
  rw [hr]
  exact ⟨la, lb, ta, tb, _, _, rfl, fun src h => otherRaises_raiseIf _ { src := 0x1E4, data := [(1, path)] } (judgeHealth (setRed _ s)) rfl rfl h⟩

theorem Heard.settled {m : PairMsg} {s z : State} (h : Heard m s z) (hs : Settled s) : Settled z := by
  obtain ⟨_, _, _, _, _, _, rfl, ho⟩ := h
  exact (ho 0 (by decide)).1.trans hs

theorem Heard.others {m : PairMsg} {s z : State} (h : Heard m s z) {src : Nat} (hs : src ≠ 0x1E4) : OtherRaises src s.flt z.flt := by
  obtain ⟨_, _, _, _, _, _, rfl, ho⟩ := h; exact ho src hs

section
variable {m : PairMsg} {s z : State} {path : Nat}

theorem livePath_heard {path : Nat} (hp : path ≤ 1) (hz : z = hear m path s) : livePath z path = true ∧ livePath z (1 - path) = livePath s (1 - path) := by
  have hl : ∀ p, livePath z p = livePath (setRed (heardRed m path s.tim.now s.red) s) p := by
    intro p
    rw [hz, hear_eq, raiseIf_flt]
    rfl
  rw [hl, hl]
  obtain rfl | rfl : path = 0 ∨ path = 1 := by omega
  · exact ⟨by simp [livePath, heardRed, setRed], by simp [livePath, heardRed, setRed]⟩
  · exact ⟨by simp [livePath, heardRed, setRed], by simp [livePath, heardRed, setRed]⟩

theorem hear_reports (hp : path ≤ 1) (hz : z = hear m path s) :
    z = { s with red := { s.red with partner := some m, liveA := z.red.liveA, liveB := z.red.liveB, atA := z.red.atA, atB := z.red.atB, healthySince := z.red.healthySince }, flt := z.flt } ∧ livePath z path = true ∧
      livePath z (1 - path) = livePath s (1 - path) ∧ (livePath s path = true → z.flt = s.flt) ∧
      (livePath s path = false → (if path = 0 then s.red.atA else s.red.atB) ≠ 0 → Raised 0x1E4 [(1, path)] 0 s z) := by
  obtain ⟨hlive, hother⟩ := livePath_heard hp hz
  refine ⟨?_, hlive, hother, fun h => ?_, fun h hne => ?_⟩
  · obtain ⟨_, _, _, _, _, _, he, -⟩ := hz ▸ hear_heard m path s
    rw [he]
  · rw [hz, hear_eq, h]
    rfl
  · rw [hz, hear_eq, h, bne_iff_ne.mpr hne]
    exact raise_raised { src := 0x1E4, data := [(1, path)] } (judgeHealth (setRed (heardRed m path s.tim.now s.red) s)) rfl

end
end Sys2Proof.Machine

/-! SUPPORT. A pair's commands and its timers: formation, BEATs, the lease and the paths (R354 to R358, R375). -/
namespace Sys2Proof.Machine
open Sys2Proof

theorem tx_static (t : Tab SdiTx) (k : Nat) : (tgetD (tmap t (fun _ x => { x with sending := false })) k {}).sending = false :=
  congrArg SdiTx.sending (tgetD_tmap t (fun _ x => { x with sending := false }) k rfl)

section
variable {c : Cmd} {s : State} {a : Nat}

/-! ## Formation (R354) -/

theorem pairStart_denied (hf : s.hif.fences = []) (hs : Settled s) :
    (s.red.st ≠ .unpaired ∨ pairEnabled s = false ∨ (home s = false ∧ s.flows ≠ []) → Completes (.pairStart c) s (Fails c 0x0801 0x20 0 s)) := by
  intro h
  have hk : (s.red.st != .unpaired || !pairEnabled s || (!home s && !s.flows.isEmpty)) = true := by
    rcases h with h | h | ⟨h, hn⟩
    · rw [bne_iff_ne.mpr h]; rfl
    · rw [h, Bool.not_false, Bool.or_true]; rfl
    · rw [h, List.isEmpty_eq_false_iff.mpr hn]; exact Bool.or_true _
  exact ⟨_, rfl, taken_fails (firstErr_fail hk) hf hs⟩

/-- A unit in PAIRING, its transmitters static. -/
def pairingBegun (s : State) : State :=
  staticTx (setRed { s.red with st := .pairing, since := s.tim.now, partner := none, liveA := false, liveB := false, atA := 0, atB := 0, conflict := false } s)

theorem pairStart_pairs (hf : s.hif.fences = []) (hs : Settled s) (hcpl : c.cplOk = true) :
    (s.red.st = .unpaired → pairEnabled s = true → home s = true ∨ s.flows = [] → Completes (.pairStart c) s (fun t => Replied c 0x0801 0 0 0 t ∧
      t = { s with red := { s.red with st := .pairing, since := s.tim.now, partner := none, liveA := false, liveB := false, atA := 0, atB := 0, conflict := false }, aqf := t.aqf, svp := { s.svp with tx := t.svp.tx }, hif := t.hif, flt := t.flt, wire := t.wire } ∧
      (tgetD t.svp.tx a {}).sending = false)) := by
  intro hst hen hh
  have hk : (s.red.st != .unpaired || !pairEnabled s || (!home s && !s.flows.isEmpty)) = false := by
    have hlast : (!home s && !s.flows.isEmpty) = false := by
      rcases hh with h | h <;> rw [h]
      · rfl
      · exact Bool.and_false _
    rw [hst, hen, hlast]
    rfl
  obtain ⟨u, hu⟩ : ∃ u, u = notifyRole (pairingBegun s) := ⟨_, rfl⟩
  obtain ⟨q, f, he, ho⟩ := hu ▸ notifyRole_sent (pairingBegun s)
  have hq : u.flt.resetQ = [] := by rw [he]; exact (ho 0 (by decide)).1.trans hs
  refine completes_written (u := u) rfl hcpl (taken_ends (r := replyDone) (firstErr_pass hk) (by rw [hu]; rfl) (by rw [he]; exact hf) hq (.inl rfl)) fun h w hrep => ⟨hrep, ?_, ?_⟩
  · rw [he]; rfl
  · rw [he]
    exact tx_static s.svp.tx a

theorem pairStop_denied (hf : s.hif.fences = []) (hs : Settled s) :
    (s.red.st ≠ .sole → s.red.st ≠ .standby → s.red.st ≠ .pairing → Completes (.pairStop c) s (Fails c 0x0802 0x20 0 s)) := by
  intro h1 h2 h3
  exact ⟨_, rfl, taken_fails (firstErr_fail (by rw [bne_iff_ne.mpr h1, bne_iff_ne.mpr h2, bne_iff_ne.mpr h3]; rfl)) hf hs⟩

/-- A unit that has left its pair. -/
def unpaired (s : State) : State :=
  setRed { s.red with st := .unpaired, liveA := false, liveB := false, atA := 0, atB := 0, partnerReady := false, ready := false, jout := [], healthySince := none } s

/-- A unit that leaves its pair: LEAVE sent, its role told, and its held messages on their way. -/
def pairLeft (s : State) : State := releaseHeld (fun _ => true) (notifyRole (unpaired (sendPair bothPaths 10 0 none s)))

theorem pairLeft_left (s : State) : ∃ q f, pairLeft s = { s with
      red := { s.red with st := .unpaired, seq := (s.red.seq + 1) % 2 ^ 32, liveA := false, liveB := false, atA := 0, atB := 0, partnerReady := false, ready := false, jout := [], heldMsgs := [], healthySince := none }
      aqf := q, flt := f, wire := s.wire ++ [.pathB { ownMsg s 10 0 none with path := 1 } (hbInv s)] } ∧ f.resetQ = s.flt.resetQ := by
  obtain ⟨q0, f0, h0, o0⟩ := sendPair_both 10 0 none s
  unfold pairLeft
  rw [h0]
  obtain ⟨q1, f1, h1, o1⟩ := notifyRole_sent (unpaired { seqNext s with aqf := q0, flt := f0, wire := s.wire ++ [.pathB { ownMsg s 10 0 none with path := 1 } (hbInv s)] })
  rw [h1]
  obtain ⟨q2, f2, h2, o2⟩ := releaseAll_sent { unpaired { seqNext s with aqf := q0, flt := f0, wire := s.wire ++ [.pathB { ownMsg s 10 0 none with path := 1 } (hbInv s)] } with aqf := q1, flt := f1 }
  rw [h2]
  exact ⟨q2, f2, rfl, (o2 0 (by decide)).1.trans ((o1 0 (by decide)).1.trans (o0 0 (by decide)).1)⟩

theorem pairStop_leaves (hf : s.hif.fences = []) (hs : Settled s) :
    (s.red.st = .sole ∨ s.red.st = .standby ∨ s.red.st = .pairing → Completes (.pairStop c) s (fun t => Replied c 0x0802 0 0 0 t ∧
      t.wire[s.wire.length]? = some (.pathB { ownMsg s 10 0 none with path := 1 } (hbInv s)) ∧ (s.red.st ≠ .standby → t.pwr = s.pwr) ∧
      (s.red.st = .standby → s.pwr.trans = none → (t.pwr.trans.map (fun x => x.target)) = some .run) ∧
      t = { s with red := { s.red with st := .unpaired, seq := (s.red.seq + 1) % 2 ^ 32, liveA := false, liveB := false, atA := 0, atB := 0, partnerReady := false, ready := false, jout := [], heldMsgs := [], healthySince := none }, aqf := t.aqf, hif := t.hif, flt := t.flt, wire := t.wire, pwr := t.pwr })) := by
  intro hst
  have hk : (s.red.st != .sole && s.red.st != .standby && s.red.st != .pairing) = false := by
    rcases hst with h | h | h <;> rw [h] <;> rfl
  obtain ⟨q, f, hl, hq⟩ := pairLeft_left s
  obtain ⟨u, hu⟩ : ∃ u, u = (if s.red.st == .standby then requestPower .run none (pairLeft s) else pairLeft s) := ⟨_, rfl⟩
  have hact : ∃ act, opPairStop c s = hostCmd c 0x0802 false (checked (fun s => [(s.red.st != .sole && s.red.st != .standby && s.red.st != .pairing, denied)]) act) s ∧ act s = (replyDone, u) :=
    ⟨_, rfl, by rw [hu]; rfl⟩
  obtain ⟨act, hop, hact⟩ := hact
  have hpwr : Repowered (pairLeft s) u := by
    rw [hu]
    split
    · exact requestPower_repowered .run none _
    · exact ⟨_, _, rfl, fun _ _ => .refl _ _⟩
  obtain ⟨p, g, he, ho⟩ := hpwr
  have hur : Settled u := by rw [he]; exact (ho 0 (by decide)).1.trans (by rw [hl]; exact hq.trans hs)
  have huf : u.hif.fences = [] := by rw [he, hl]; exact hf
  have hop' : opPairStop c s = complete c 0x0802 replyDone u := by
    rw [hop, hostCmd_taken, checked_ok _ _ _ (firstErr_pass hk), hact]
  have hend := complete_done c 0x0802 huf
  have hwire := complete_wire c 0x0802 u huf
  obtain ⟨⟨heq, hflt, -⟩, hrep⟩ := hend
  have huw : u.wire = s.wire ++ [.pathB { ownMsg s 10 0 none with path := 1 } (hbInv s)] := by rw [he, hl]
  refine completes_of rfl hop' ((complete_resetQ _ _ _ u).trans hur) ⟨hrep, ?_, fun h => ?_, fun h ht => ?_, ?_⟩
  · rw [huw] at hwire
    obtain ⟨l, hw⟩ := hwire
    rw [← hw, List.append_assoc, List.getElem?_append_right (Nat.le_refl _), Nat.sub_self]
    rfl
  · rw [heq]
    show u.pwr = s.pwr
    rw [hu, if_neg (by rw [beq_eq_false_iff_ne.mpr h]; exact Bool.false_ne_true), hl]
  · rw [heq]
    show u.pwr.trans.map _ = _
    rw [hu, if_pos (beq_iff_eq.mpr h), requestPower_starts (by rw [hl]; exact ht)]
    rfl
  · obtain ⟨t, htt⟩ : ∃ t, t = complete c 0x0802 replyDone u := ⟨_, rfl⟩
    rw [← htt] at heq ⊢
    rw [heq, he, hl]

theorem pairStatus_reads (hf : s.hif.fences = []) (hs : Settled s) :
    (c.hostOk = true → Completes (.pairStatus c a) s (EndsDone c 0x0805 0 (hostWrite a (leBytes 4 (redStatus s) ++ leBytes 4 s.red.gen ++ leBytes 4 (jseqShown s) ++
      slice ((s.red.partner.map pairBytes).getD (zeros 32)) 8 20) s))) ∧
    (c.hostOk = false → Completes (.pairStatus c a) s (Fails c 0x0805 0x21 a s)) := by
  refine ⟨fun h => ⟨_, rfl, ?_⟩, fun h => ⟨_, rfl, ?_⟩⟩
  · exact hostCmd_ends c 0x0805 false _ s (readBack_ok h a pairStatus s) (.inl rfl) ((place_hif_fences a (pairStatus s) s).trans hf) (by rw [Settled] at hs; exact (congrArg Flt.resetQ (place_flt a (pairStatus s) s)).trans hs) (.inl rfl)
  · show Fails c 0x0805 0x21 a s (settle (hostCmd c 0x0805 false (readBack c a pairStatus) s))
    rw [hostCmd_taken, readBack_bad h]
    exact complete_fails hf hs

theorem pairingTimeout_takes (hs : Settled s) :
    (s.red.st = .pairing → home s = true → s.flows = [] → s.red.conflict = false → holderHeard s = false → Completes .pairingTimeout s (fun t => t.tim.now = max s.tim.now (s.red.since + leaseNs s + 1000000) ∧
      Raised 0x1E0 [(4, 1), (1, 3)] 0 s t ∧ t = { s with tim := { s.tim with now := t.tim.now }, red := { s.red with st := .sole, gen := 1 }, aqf := t.aqf, flt := t.flt })) ∧
    (s.red.st ≠ .pairing ∨ home s = false ∨ s.flows ≠ [] ∨ s.red.conflict = true ∨ holderHeard s = true → Completes .pairingTimeout s (fun t => t = s)) := by
  refine ⟨fun h1 h2 h3 h4 h5 => ?_, fun h => completes_of rfl (if_neg ?_) hs rfl⟩
  · obtain ⟨v, hv⟩ : ∃ v, v = setRed { s.red with st := .sole, gen := 1 } (atLeast (s.red.since + leaseNs s + 1000000) s) := ⟨_, rfl⟩
    obtain ⟨q, f, he, ho⟩ := notifyRole_sent v
    let e : Ev := { src := 0x1E0, data := [(4, 1), (1, 3)] }
    have hop : opPairingTimeout s = raise e (notifyRole v) := by
      rw [hv]
      exact if_pos (by rw [h1, h2, h3, h4, h5]; rfl)
    have hvf : v.flt = s.flt := by rw [hv]; rfl
    rw [hvf] at ho
    rw [he] at hop
    refine completes_of rfl hop ((raise_resetQ e { v with aqf := q, flt := f } rfl).trans ((ho 0 (by decide)).1.trans hs)) ⟨by rw [hv]; rfl, (raise_raised e { v with aqf := q, flt := f } rfl).after (ho 0x1E0 (by decide)), by rw [hv]; rfl⟩
  · rcases h with h | h | h | h | h
    · rw [beq_eq_false_iff_ne.mpr h]; exact Bool.false_ne_true
    · rw [h, Bool.and_false]; exact Bool.false_ne_true
    · rw [List.isEmpty_eq_false_iff.mpr h, Bool.and_false]; exact Bool.false_ne_true
    · rw [h, Bool.not_true, Bool.and_false]; exact Bool.false_ne_true
    · rw [h, Bool.not_true, Bool.and_false]; exact Bool.false_ne_true

/-! ## BEATs (R357) -/

/-- A unit that has noted the BEAT it sends. -/
def beatNoted (s : State) : State := setRed { s.red with beats := ((s.red.seq, s.tim.now) :: s.red.beats).take 256 } s

theorem beatSend_eq (h : s.red.st = .pairing ∨ s.red.st = .sole ∨ s.red.st = .active ∨ s.red.st = .fenced) :
    opBeatSend s = (if holds (sendPair bothPaths 1 0 none (beatNoted (every .beat 250000 s))) then judgeImage (sendPair bothPaths 1 0 none (beatNoted (every .beat 250000 s)))
      else sendPair bothPaths 1 0 none (beatNoted (every .beat 250000 s))) := by
  unfold opBeatSend
  rcases h with h | h | h | h <;> rw [h] <;> rfl

theorem judgeImage_judged (s : State) : ∃ b f, judgeImage s = { s with red := { s.red with oversize := b }, flt := f } ∧ ∀ src, src ≠ 0x1ED → OtherRaises src s.flt f := by
  unfold judgeImage
  dsimp only
  generalize decide (imageLimit < imageSize s) = b
  generalize ceilDiv (imageSize s) 1024 = k
  rw [raiseIf_flt]
  exact ⟨_, _, rfl, fun src h => otherRaises_raiseIf _ { src := 0x1ED, data := [(4, k)] } { s with red := { s.red with oversize := b } } rfl rfl h⟩

theorem beatSend_beats (hs : Settled s) :
    (s.red.st = .pairing ∨ s.red.st = .sole ∨ s.red.st = .active ∨ s.red.st = .fenced → Completes .beatSend s (fun t => t.tim.now = max s.tim.now (nextOf 250000 (lastOf .beat s)) ∧ lastOf .beat t = t.tim.now ∧
      t.wire = s.wire ++ [.pathB { ownMsg (every .beat 250000 s) 1 0 none with path := 1 } (hbInv s)] ∧
      beatStamp t.red s.red.seq = some t.tim.now ∧ t = { s with tim := { s.tim with now := t.tim.now, lastAt := t.tim.lastAt }, red := { s.red with seq := (s.red.seq + 1) % 2 ^ 32, beats := t.red.beats, oversize := t.red.oversize }, aqf := t.aqf, flt := t.flt, wire := t.wire })) ∧
    (s.red.st = .unpaired ∨ s.red.st = .standby ∨ s.red.st = .warm ∨ s.red.st = .taking → Completes .beatSend s (fun t => t = s)) := by
  refine ⟨fun h => ?_, fun h => completes_of rfl ?_ hs rfl⟩
  · obtain ⟨v, hv⟩ : ∃ v, v = beatNoted (every .beat 250000 s) := ⟨_, rfl⟩
    obtain ⟨q, f, he, ho⟩ := sendPair_both 1 0 none v
    obtain ⟨w, hw⟩ : ∃ w, w = sendPair bothPaths 1 0 none v := ⟨_, rfl⟩
    have hend : ∃ b g, opBeatSend s = { w with red := { w.red with oversize := b }, flt := g } ∧ g.resetQ = w.flt.resetQ := by
      rw [beatSend_eq h, ← hv, ← hw]
      split
      · obtain ⟨b, g, hj, hg⟩ := judgeImage_judged w
        exact ⟨b, g, hj, (hg 0 (by decide)).1⟩
      · exact ⟨_, _, rfl, rfl⟩
    obtain ⟨b, g, hop, hg⟩ := hend
    have hwf : w.flt = f := by rw [hw, he]
    have hvf : v.flt = s.flt := by rw [hv]; rfl
    have hvq : g.resetQ = [] := hg.trans (by rw [hwf]; exact (ho 0 (by decide)).1.trans (by rw [hvf]; exact hs))
    have hmsg : ownMsg v 1 0 none = ownMsg (every .beat 250000 s) 1 0 none := by rw [hv]; rfl
    have hbeats : w.red.beats = ((s.red.seq, v.tim.now) :: s.red.beats).take 256 := by rw [hw, he, hv]; rfl
    have hwt : w.tim = v.tim := by rw [hw, he]; rfl
    have hvt : v.tim = (every .beat 250000 s).tim := by rw [hv]; rfl
    refine completes_of rfl hop hvq ⟨?_, ?_, ?_, ?_, ?_⟩
    · show w.tim.now = _
      rw [hwt, hvt]; rfl
    · show tgetD w.tim.lastAt _ 0 = w.tim.now
      rw [hwt, hvt]
      exact lastOf_noteNow _ _
    · show w.wire = _
      rw [hw, he, hmsg, hv]; rfl
    · unfold beatStamp
      show (w.red.beats.find? _).map _ = some w.tim.now
      rw [hbeats, hwt]
      simp
    · show ({ w with red := _, flt := g } : State) = _
      rw [hw, he, hv]; rfl
  · unfold opBeatSend
    rcases h with h | h | h | h <;> rw [h]

/-! ## The lease, the paths and the ends of a pair (R356, R358) -/

/-- Fencing as it is reported. -/
def fencedEvent (r : Red) : Ev := { src := 0x1E2, data := [(4, r.gen), (4, r.acked)] }

theorem fence_fences (s : State) : ∃ q f, fence s = raise (fencedEvent s.red) { s with red := { s.red with st := .fenced }, aqf := q, flt := f, svp := { s.svp with tx := tmap s.svp.tx (fun _ x => { x with sending := false }) } } ∧
    ∀ src, src ≠ 0x091 → OtherRaises src s.flt f := by
  obtain ⟨q, f, he, ho⟩ := notifyRole_sent (setRed { s.red with st := .fenced } s)
  refine ⟨q, f, ?_, ho⟩
  unfold fence
  rw [he]
  rfl

theorem leaseEnd_fences (hs : Settled s) :
    (s.red.st = .active → Completes .leaseEnd s (fun t => t.tim.now = max s.tim.now (s.red.leaseEnd + 1) ∧ Raised 0x1E2 [(4, s.red.gen), (4, s.red.acked)] 0 s t ∧ (tgetD t.svp.tx a {}).sending = false ∧ drives t = false ∧
      t = { s with tim := { s.tim with now := t.tim.now }, red := { s.red with st := .fenced }, aqf := t.aqf, flt := t.flt, svp := { s.svp with tx := t.svp.tx } })) ∧
    (s.red.st ≠ .active → Completes .leaseEnd s (fun t => t = s)) := by
  refine ⟨fun h => ?_, fun h => completes_of rfl (if_neg h) hs rfl⟩
  obtain ⟨q, f, he, ho⟩ := fence_fences (atLeast (s.red.leaseEnd + 1) s)
  obtain ⟨z, hz⟩ : ∃ z : State, z = { atLeast (s.red.leaseEnd + 1) s with red := { s.red with st := .fenced }, aqf := q, flt := f, svp := { s.svp with tx := tmap s.svp.tx (fun _ x => { x with sending := false }) } } := ⟨_, rfl⟩
  have hop : opLeaseEnd s = raise (fencedEvent s.red) z := by
    rw [hz]
    exact (if_pos h).trans he
  have hzf : z.flt = f := by rw [hz]
  refine completes_of rfl hop ((raise_resetQ (fencedEvent s.red) z rfl).trans (by rw [hzf]; exact (ho 0 (by decide)).1.trans hs))
    ⟨by rw [hz]; rfl, (raise_raised (fencedEvent s.red) z rfl).after (by rw [hzf]; exact ho 0x1E2 (by decide)), ?_, by rw [hz]; rfl, by rw [hz]; rfl⟩
  rw [hz]
  exact tx_static s.svp.tx a

/-- The loss of a path as it is reported. -/
def pathLostEvent (path : Nat) : Ev := { src := 0x1E3, data := [(1, path)] }

theorem path_lost (hs : Settled s) :
    (s.red.st ≠ .unpaired → s.red.liveA = true → Completes (.pathLivenessTimeout 0) s (fun t => t.tim.now = max s.tim.now (s.red.atA + 1000001) ∧ t.red.liveA = false ∧ t.red.heldMsgs = [] ∧ RaisedOnce 0x1E3 s t ∧
      t = { s with tim := { s.tim with now := t.tim.now }, red := { s.red with liveA := false, healthySince := t.red.healthySince, heldMsgs := [] }, aqf := t.aqf, flt := t.flt })) ∧
    (s.red.st ≠ .unpaired → s.red.liveB = true → Completes (.pathLivenessTimeout 1) s (fun t => t.tim.now = max s.tim.now (s.red.atB + 1000001) ∧ Raised 0x1E3 [(1, 1)] 0 s t ∧
      t = { s with tim := { s.tim with now := t.tim.now }, red := { s.red with liveB := false, healthySince := t.red.healthySince }, flt := t.flt })) ∧
    (s.red.st = .unpaired ∨ s.red.liveA = false → Completes (.pathLivenessTimeout 0) s (fun t => t = s)) := by
  refine ⟨fun hst hl => ?_, fun hst hl => ?_, fun h => completes_of rfl (if_pos ?_) hs rfl⟩
  · let v : State := judgeHealth (setRed { s.red with liveA := false } (atLeast (s.red.atA + 1000001) s))
    let w : State := raise (pathLostEvent 0) v
    have hop : opPathLivenessTimeout 0 s = releaseHeld (fun _ => true) w :=
      if_neg (by rw [beq_eq_false_iff_ne.mpr hst, if_pos rfl, hl]; exact Bool.false_ne_true)
    obtain ⟨q, f, he, ho⟩ := releaseAll_sent w
    have hrq : f.resetQ = [] := (ho 0 (by decide)).1.trans ((raise_resetQ (pathLostEvent 0) v rfl).trans hs)
    refine completes_of rfl (hop.trans he) hrq ⟨rfl, rfl, rfl, OtherRaises.count (e := pathLostEvent 0) (s := v) (.refl _ _) rfl (ho 0x1E3 (by decide)), rfl⟩
  · let v : State := judgeHealth (setRed { s.red with liveB := false } (atLeast (s.red.atB + 1000001) s))
    have hop : opPathLivenessTimeout 1 s = raise (pathLostEvent 1) v :=
      if_neg (by rw [beq_eq_false_iff_ne.mpr hst, if_neg nofun, hl]; exact Bool.false_ne_true)
    exact completes_of rfl hop ((raise_resetQ (pathLostEvent 1) v rfl).trans hs) ⟨rfl, raise_raised (pathLostEvent 1) v rfl, rfl⟩
  · rcases h with h | h
    · rw [h]; rfl
    · rw [if_pos rfl, h]; exact Bool.or_true _

end
end Sys2Proof.Machine

/-! SUPPORT. What a message heard does, by the state of the unit that hears it (R354, R357 to R359, R363). -/
namespace Sys2Proof.Machine
open Sys2Proof

/-! ## READY, and the answer to a BEAT (R357, R363) -/

theorem judgeReady_judged (v : State) : ∃ h f, judgeReady v = { v with red := { v.red with ready := readyNow v.red, healthySince := h }, flt := f } ∧ f.resetQ = v.flt.resetQ ∧
    (v.red.ready = false → readyNow v.red = true → RaisedOnce 0x1E5 v { v with flt := f }) ∧ (v.red.ready = true → readyNow v.red = false → RaisedOnce 0x1E6 v { v with flt := f }) := by
  obtain ⟨u, hu⟩ : ∃ u, u = judgeHealth (setRed { v.red with ready := readyNow v.red } v) := ⟨_, rfl⟩
  obtain ⟨h, hred⟩ : ∃ h, u.red = { v.red with ready := readyNow v.red, healthySince := h } := ⟨_, by rw [hu]; rfl⟩
  have huv : u = { v with red := u.red } := by rw [hu]; rfl
  have hop : judgeReady v = (if readyNow v.red = v.red.ready then u else if readyNow v.red then raise { src := 0x1E5, data := [(4, v.red.jseq)] } u else raise { src := 0x1E6, data := [(1, notReady v.red)] } u) := by
    rw [hu]; rfl
  by_cases hsame : readyNow v.red = v.red.ready
  · refine ⟨h, v.flt, ?_, rfl, fun h1 h2 => ?_, fun h1 h2 => ?_⟩
    · rw [hop, if_pos hsame, huv, hred]
    · exact Bool.noConfusion (h1.symm.trans (hsame.symm.trans h2))
    · exact Bool.noConfusion (h1.symm.trans (hsame.symm.trans h2))
  · rw [if_neg hsame] at hop
    cases hr : readyNow v.red with
    | true =>
      rw [hr, if_pos rfl] at hop
      let e : Ev := { src := 0x1E5, data := [(4, v.red.jseq)] }
      obtain ⟨f, hf⟩ : ∃ f, f = (raise e u).flt := ⟨_, rfl⟩
      have huf : u.flt = v.flt := by rw [huv]
      refine ⟨h, f, ?_, ?_, fun _ _ => ?_, fun _ hn => nomatch hn⟩
      · rw [hop, show raise e u = { u with flt := f } by rw [hf]; rfl, huv, hred, hr]
      · rw [hf, raise_resetQ e u rfl, huf]
      · rw [RaisedOnce, ← huf, hf]
        exact (raise_raised e u rfl).1
    | false =>
      rw [hr, if_neg Bool.false_ne_true] at hop
      let e : Ev := { src := 0x1E6, data := [(1, notReady v.red)] }
      obtain ⟨f, hf⟩ : ∃ f, f = (raise e u).flt := ⟨_, rfl⟩
      have huf : u.flt = v.flt := by rw [huv]
      refine ⟨h, f, ?_, ?_, fun _ hn => (nomatch hn), fun _ _ => ?_⟩
      · rw [hop, show raise e u = { u with flt := f } by rw [hf]; rfl, huv, hred, hr]
      · rw [hf, raise_resetQ e u rfl, huf]
      · rw [RaisedOnce, ← huf, hf]
        exact (raise_raised e u rfl).1

/-- A partner that has taken a BEAT of its holder. -/
def watched (m : PairMsg) (agree : Bool) (s : State) : State :=
  setRed { s.red with
    gen := m.gen, beatAt := s.tim.now, fencedHeard := m.fenced || (s.red.fencedHeard && m.gen == s.red.gen), sawDiverged := m.diverged
    digestOk := agree, blocked := s.red.blocked && m.fenced } s

/-- A message on one path. -/
theorem sendPair_one {path : Nat} (hp : path ≤ 1) (kind ack : Nat) (fi : Option Nat) (s : State) :
    ∃ a f w, sendPair [path] kind ack fi s = { seqNext s with aqf := a, flt := f, wire := w } ∧ (∀ src, src ≠ 0x091 → OtherRaises src s.flt f) ∧
      (path = 0 → w = s.wire) ∧ (path = 1 → w = s.wire ++ [.pathB { ownMsg s kind ack fi with path := 1 } (hbInv s)]) := by
  obtain rfl | rfl : path = 0 ∨ path = 1 := by omega
  · obtain ⟨a, f, he, ho⟩ := sendPair_a kind ack fi s
    exact ⟨a, f, s.wire, he, ho, fun _ => rfl, nofun⟩
  · exact ⟨_, _, _, sendPair_b kind ack fi s, fun _ _ => .refl _ _, nofun, fun _ => rfl⟩

theorem watchBeat_takes {m : PairMsg} {path : Nat} {agree : Bool} {z : State} (hp : path ≤ 1) (hg : newerGen z.red.gen m.gen = false) :
    ∃ a f w h, watchBeat m path agree z = { z with red := { (watched m agree z).red with ready := readyNow (watched m agree z).red, healthySince := h, seq := (z.red.seq + 1) % 2 ^ 32 }, aqf := a, flt := f, wire := w } ∧
      f.resetQ = z.flt.resetQ ∧ (z.red.ready = false → readyNow (watched m agree z).red = true → RaisedOnce 0x1E5 z { z with flt := f }) ∧
      (z.red.ready = true → readyNow (watched m agree z).red = false → RaisedOnce 0x1E6 z { z with flt := f }) ∧
      (path = 0 → w = z.wire) ∧ (path = 1 → ∀ t, t = watchBeat m path agree z → w = z.wire ++ [.pathB { ownMsg t 2 m.seq none with path := 1, seq := z.red.seq } (hbInv z)]) := by
  obtain ⟨v, hv⟩ : ∃ v, v = judgeReady (watched m agree z) := ⟨_, rfl⟩
  obtain ⟨h, g, hj, hgq, h5, h6⟩ := judgeReady_judged (watched m agree z)
  obtain ⟨a, f, w, he, ho, hw0, hw1⟩ := sendPair_one hp 2 m.seq none v
  have hop : watchBeat m path agree z = sendPair [path] 2 m.seq none v := by
    rw [hv]
    exact if_neg (by rw [hg]; exact Bool.false_ne_true)
  have hvf : v.flt = g := by rw [hv, hj]
  rw [hvf] at ho
  refine ⟨a, f, w, h, ?_, (ho 0 (by decide)).1.trans hgq, fun h1 h2 => ?_, fun h1 h2 => ?_, fun hp0 => (hw0 hp0).trans (by rw [hv, hj]; rfl), fun hp1 t ht => ?_⟩
  · rw [hop, he, hv, hj]; rfl
  · exact (congrArg SrcStat.count (ho 0x1E5 (by decide)).2.1).trans (h5 h1 h2)
  · exact (congrArg SrcStat.count (ho 0x1E6 (by decide)).2.1).trans (h6 h1 h2)
  · rw [hw1 hp1, ht, hop, he, hv, hj]; rfl

/-! ## STANDBY entered, and two holders (R354, R359) -/

/-- The redundancy controller of a unit that becomes STANDBY under a generation. -/
def standbyRed (gen now : Nat) (r : Red) : Red :=
  { r with
    st := .standby, gen := gen, beatAt := now, fencedHeard := false, blocked := false, conflict := false
    hasImage := false, image := [], building := none, sawDiverged := false, sawOversize := false, ready := false
    jout := [], heldMsgs := [], jasm := [], jfrags := 0, jwait := [], partnerReady := false, healthySince := none
    driveAt := none, uncommitted := [], warmEnd := none, bound := none, ackA := false, ackB := false, askA := false, askB := false
    confirmed := false, asked := false }

theorem enterStandby_enters (gen : Nat) (z : State) : ∃ a p f, enterStandby gen z = { z with red := standbyRed gen z.tim.now z.red, aqf := a, pwr := p, flt := f } ∧ f.resetQ = z.flt.resetQ ∧
    (z.pwr.trans = none → p.trans.map (fun x => (x.target, x.todo)) = some (.recess, blocksFor z.pwr.st .recess)) := by
  obtain ⟨v, hv⟩ : ∃ v, v = notifyRole (setRed (standbyRed gen z.tim.now z.red) z) := ⟨_, rfl⟩
  have hop : enterStandby gen z = requestPower .recess none v := by rw [hv]; rfl
  obtain ⟨a, f, he, ho⟩ := hv ▸ notifyRole_sent (setRed (standbyRed gen z.tim.now z.red) z)
  obtain ⟨p, g, hr, hg⟩ := requestPower_repowered .recess none v
  have hp : (requestPower .recess none v).pwr = p := by rw [hr]
  refine ⟨a, p, g, ?_, (hg 0 (by decide)).1.trans (by rw [he]; exact (ho 0 (by decide)).1), fun ht => ?_⟩
  · rw [hop, hr, he]; rfl
  · rw [← hp, requestPower_starts (by rw [he]; exact ht), he]
    rfl

/-- A second holder as it is reported. -/
def holdersEvent (m : PairMsg) (r : Red) : Ev := { src := 0x1EC, data := [(4, r.gen), (4, m.gen)] }

theorem meetHolder_eq {m : PairMsg} {z : State} (hc : z.red.conflict = false) : meetHolder m z =
    raise (holdersEvent m z.red) (if newerGen z.red.gen m.gen || (z.red.gen == m.gen && home z) then setRed { z.red with conflict := true } z else fence (setRed { z.red with conflict := true } z)) := by
  unfold meetHolder
  dsimp only
  rw [hc]
  rfl

/-- A conflict in PAIRING as it is reported. -/
def conflictEvent (why : Nat) : Ev := { src := 0x1EB, data := [(1, why)] }

theorem pairConflict_eq (why : Nat) {z : State} (hc : z.red.conflict = false) : pairConflict why z = raise (conflictEvent why) (setRed { z.red with conflict := true } z) := by
  unfold pairConflict
  rw [hc]
  rfl

theorem serialLt_irrefl (w a : Nat) : serialLt w a a = false := by
  unfold serialLt
  dsimp only
  have h : (a + 2 ^ w - a % 2 ^ w) % 2 ^ w = 0 := by
    have hd := Nat.div_add_mod a (2 ^ w)
    rw [show a + 2 ^ w - a % 2 ^ w = 2 ^ w * (a / 2 ^ w + 1) by rw [Nat.mul_add, Nat.mul_one]; omega]
    exact Nat.mul_mod_right _ _
  rw [h]
  rfl

section
variable {s z : State} {m : PairMsg} {path a : Nat} {agree keep : Bool}

/-! ## A BEAT (R357 to R359) -/

theorem unpaired_stays (hs : Settled s) :
    (s.red.st = .unpaired → Completes (.beatRx m path agree) s (fun t => t = s) ∧ Completes (.takeRx m path) s (fun t => t = s) ∧ Completes (.pairAckRx m path) s (fun t => t = s) ∧ Completes (.leaveRx m path) s (fun t => t = s)) :=
  fun h => ⟨completes_of rfl (if_pos h) hs rfl, completes_of rfl (if_pos h) hs rfl, completes_of rfl (if_pos h) hs rfl, completes_of rfl (if_pos h) hs rfl⟩

theorem heard_red (hz : z = hear m path s) : z.red.st = s.red.st ∧ z.red.gen = s.red.gen ∧ z.red.conflict = s.red.conflict ∧ z.flows = s.flows ∧ z.tim = s.tim ∧ home z = home s := by
  obtain ⟨_, _, _, _, _, _, he, -⟩ := hz ▸ hear_heard m path s
  rw [he]
  exact ⟨rfl, rfl, rfl, rfl, rfl, rfl⟩

theorem beatRx_heard (hz : z = hear m path s) (h : s.red.st ≠ .unpaired) : opBeatRx m path agree s = takeBeat m path agree z := by
  rw [hz]; exact if_neg h

theorem takeBeat_watch (h : z.red.st = .standby ∨ z.red.st = .warm) (hm : fromHolder m = true ∨ m.state = 7) : takeBeat m path agree z = watchBeat m path agree z := by
  have hb : (fromHolder m || m.state == 7) = true := by
    rcases hm with h | h
    · rw [h]; rfl
    · rw [beq_iff_eq.mpr h, Bool.or_true]
  unfold takeBeat
  rcases h with h | h <;> rw [h] <;> exact if_pos hb

theorem standby_beat (hs : Settled s) (hp : path ≤ 1) (hz : z = hear m path s) :
    (s.red.st = .standby ∨ s.red.st = .warm → fromHolder m = true ∨ m.state = 7 → newerGen s.red.gen m.gen = false → Completes (.beatRx m path agree) s (fun t =>
      t.red.gen = m.gen ∧ t.red.beatAt = s.tim.now ∧ t.red.fencedHeard = (m.fenced || (s.red.fencedHeard && m.gen == s.red.gen)) ∧ t.red.st = s.red.st ∧
      t.red.ready = (s.red.hasImage && agree && !m.diverged && !s.red.sawOversize) ∧ (s.red.ready = false → t.red.ready = true → RaisedOnce 0x1E5 s t) ∧ (s.red.ready = true → t.red.ready = false → RaisedOnce 0x1E6 s t) ∧
      (path = 0 → t.wire = s.wire) ∧ (path = 1 → t.wire = s.wire ++ [.pathB { ownMsg t 2 m.seq none with path := 1, seq := s.red.seq } (hbInv s)]) ∧
      t = { s with red := t.red, aqf := t.aqf, flt := t.flt, wire := t.wire })) := by
  intro hst hm hg
  obtain ⟨hzst, hzg, -⟩ := heard_red hz
  have hne : s.red.st ≠ .unpaired := by rcases hst with h | h <;> rw [h] <;> nofun
  have hop : opBeatRx m path agree s = watchBeat m path agree z := (beatRx_heard hz hne).trans (takeBeat_watch (by rw [hzst]; exact hst) hm)
  obtain ⟨q, f, w, h, he, hq, h5, h6, hw0, hw1⟩ := watchBeat_takes (agree := agree) hp (hzg ▸ hg)
  obtain ⟨la, lb, ta, tb, hh, g, hze, ho⟩ := hz ▸ hear_heard m path s
  have hready : readyNow (watched m agree z).red = (s.red.hasImage && agree && !m.diverged && !s.red.sawOversize) := by rw [hze]; rfl
  have hzr : z.red.ready = s.red.ready := by rw [hze]
  have hzf : z.flt = g := by rw [hze]
  have hone {i : Nat} (hi : i ≠ 0x1E4) (h1 : RaisedOnce i z { z with flt := f }) : (tgetD f.stat i {}).count = min ((tgetD s.flt.stat i {}).count + 1) 255 :=
    h1.trans (by rw [hzf]; exact congrArg (fun (n : SrcStat) => min (n.count + 1) 255) (ho i hi).2.1)
  refine completes_of rfl hop (by rw [he]; exact hq.trans (by rw [hzf]; exact (ho 0 (by decide)).1.trans hs)) ⟨?_, ?_, ?_, ?_, ?_, fun h1 h2 => ?_, fun h1 h2 => ?_, fun h0 => ?_, fun h1 => ?_, ?_⟩
  · rw [he]; rfl
  · rw [he, hze]; rfl
  · rw [he, hze]; rfl
  · rw [he, hze]; rfl
  · rw [he]; exact hready
  · rw [he] at h2 ⊢
    exact hone (by decide) (h5 (hzr.trans h1) h2)
  · rw [he] at h2 ⊢
    exact hone (by decide) (h6 (hzr.trans h1) h2)
  · rw [he]
    exact (hw0 h0).trans (by rw [hze])
  · have hwire := hw1 h1 _ rfl
    have hzw : z.wire = s.wire := by rw [hze]
    have hzq : z.red.seq = s.red.seq := by rw [hze]
    have hzb : hbInv z = hbInv s := by rw [hze]; rfl
    rw [hzw, hzq, hzb] at hwire
    rw [← hwire, he]
  · rw [he, hze]

theorem standby_oldBeat (hs : Settled s) (hz : z = hear m path s) :
    (s.red.st = .standby ∨ s.red.st = .warm → newerGen s.red.gen m.gen = true → Completes (.beatRx m path agree) s (fun t => t = z)) := by
  intro hst hg
  obtain ⟨hzst, hzg, -⟩ := heard_red hz
  have hne : s.red.st ≠ .unpaired := by rcases hst with h | h <;> rw [h] <;> nofun
  have hw : watchBeat m path agree z = z := if_pos (by rw [hzg]; exact hg)
  have htake : takeBeat m path agree z = z := by
    unfold takeBeat
    rw [hzst]
    rcases hst with h | h <;> rw [h] <;> exact (ite_congr rfl (fun _ => hw) fun _ => rfl).trans (ite_self z)
  exact completes_of rfl ((beatRx_heard hz hne).trans htake) ((hz ▸ hear_heard m path s).settled hs) rfl

/-- STANDBY entered on a BEAT, which is then answered. -/
theorem standby_answers (hp : path ≤ 1) (z : State) : ∃ q p f w h, watchBeat m path agree (enterStandby m.gen z) =
      { z with red := { (standbyRed m.gen z.tim.now z.red) with beatAt := z.tim.now, fencedHeard := m.fenced, sawDiverged := m.diverged, digestOk := agree, ready := false, healthySince := h, seq := (z.red.seq + 1) % 2 ^ 32 }, aqf := q, pwr := p, flt := f, wire := w } ∧
      f.resetQ = z.flt.resetQ ∧ (z.pwr.trans = none → p.trans.map (fun x => (x.target, x.todo)) = some (.recess, blocksFor z.pwr.st .recess)) := by
  obtain ⟨q, p, f, he, hf, hp'⟩ := enterStandby_enters m.gen z
  obtain ⟨q', f', w, h, hw, hf', -⟩ := watchBeat_takes (m := m) (agree := agree) (z := enterStandby m.gen z) hp (by rw [he]; exact serialLt_irrefl 32 m.gen)
  refine ⟨q', p, f', w, h, ?_, hf'.trans (by rw [he]; exact hf), hp'⟩
  rw [hw, he]
  show ({ z with red := _, aqf := q', pwr := p, flt := f', wire := w } : State) = _
  congr 1
  unfold watched setRed standbyRed
  simp [readyNow]

theorem pairing_joins (hs : Settled s) (hp : path ≤ 1) (hz : z = hear m path s) :
    (s.red.st = .pairing → fromHolder m = true → s.flows = [] → Completes (.beatRx m path agree) s (fun t => t.red.st = .standby ∧ t.red.gen = m.gen ∧ t.red.beatAt = s.tim.now ∧ t.red.image = [] ∧ t.red.hasImage = false ∧
      (s.pwr.trans = none → t.pwr.trans.map (fun x => (x.target, x.todo)) = some (.recess, blocksFor s.pwr.st .recess)) ∧ t = { s with red := t.red, aqf := t.aqf, flt := t.flt, wire := t.wire, pwr := t.pwr })) := by
  intro hst hm hfl
  obtain ⟨hzst, -, -, hzfl, -⟩ := heard_red hz
  have hop : opBeatRx m path agree s = watchBeat m path agree (enterStandby m.gen z) := by
    refine (beatRx_heard hz (by rw [hst]; nofun)).trans ?_
    unfold takeBeat
    rw [hzst, hst]
    exact (if_pos hm).trans (if_pos (by rw [hzfl, hfl]; rfl))
  obtain ⟨q, p, f, w, h, he, hf, hpw⟩ := standby_answers (m := m) (agree := agree) hp z
  obtain ⟨la, lb, ta, tb, hh, g, hze, ho⟩ := hz ▸ hear_heard m path s
  have hzf : z.flt = g := by rw [hze]
  refine completes_of rfl (hop.trans he) (hf.trans (by rw [hzf]; exact (ho 0 (by decide)).1.trans hs)) ⟨rfl, rfl, by rw [hze], rfl, rfl, fun ht => ?_, by rw [hze]⟩
  have hpt := hpw (by rw [hze]; exact ht)
  rw [hze] at hpt
  exact hpt

theorem pairing_conflicts (hs : Settled s) (hz : z = hear m path s) :
    (s.red.st = .pairing → s.flows ≠ [] → s.red.conflict = false → (fromHolder m = true → Completes (.beatRx m path agree) s (fun t => Raised 0x1EB [(1, 1)] 0 z t ∧
      t = { z with red := { z.red with conflict := true }, flt := t.flt })) ∧
      Completes (.takeRx m path) s (fun t => Raised 0x1EB [(1, 1)] 0 z t ∧ t = { z with red := { z.red with conflict := true }, flt := t.flt })) ∧
    (s.red.st = .pairing → fromHolder m = false → m.state = 1 → m.home = true → home s = true → s.red.conflict = false → Completes (.beatRx m path agree) s (fun t => Raised 0x1EB [(1, 0)] 0 z t ∧
      t = { z with red := { z.red with conflict := true }, flt := t.flt })) := by
  have hzs := (hz ▸ hear_heard m path s).settled hs
  obtain ⟨hzst, -, hzc, hzfl, -, hzh⟩ := heard_red hz
  have hend {i : Instr} {why : Nat} (hop : exec i s = .next (settle (pairConflict why z))) (hc : s.red.conflict = false) :
      Completes i s (fun t => Raised 0x1EB [(1, why)] 0 z t ∧ t = { z with red := { z.red with conflict := true }, flt := t.flt }) :=
    let v := setRed { z.red with conflict := true } z
    completes_of hop (pairConflict_eq why (hzc.trans hc)) ((raise_resetQ (conflictEvent why) v rfl).trans hzs) ⟨raise_raised (conflictEvent why) v rfl, rfl⟩
  have hlive : s.red.st = .pairing → s.red.st ≠ .unpaired := fun h => by rw [h]; nofun
  refine ⟨fun hst hfl hc => ⟨fun hm => hend (congrArg (fun v => Host.Outcome.next (settle v)) ((beatRx_heard hz (hlive hst)).trans ?_)) hc, hend (congrArg (fun v => Host.Outcome.next (settle v)) ?_) hc⟩,
    fun hst hm h1 hh hhome hc => hend (congrArg (fun v => Host.Outcome.next (settle v)) ((beatRx_heard hz (hlive hst)).trans ?_)) hc⟩
  · unfold takeBeat
    rw [hzst, hst]
    exact (if_pos hm).trans (if_neg (by rw [hzfl, List.isEmpty_eq_false_iff.mpr hfl]; exact Bool.false_ne_true))
  · show opTakeRx m path s = _
    unfold opTakeRx
    rw [if_neg (hlive hst), ← hz]
    dsimp only
    rw [hzst, hst]
    exact if_neg (by rw [hzfl, List.isEmpty_eq_false_iff.mpr hfl]; exact Bool.false_ne_true)
  · unfold takeBeat
    rw [hzst, hst]
    exact (if_neg (by rw [hm]; exact Bool.false_ne_true)).trans (if_pos (by rw [h1, hh, hzh, hhome]; rfl))

theorem holder_beat (hs : Settled s) (hz : z = hear m path s) :
    (s.red.st = .sole ∨ s.red.st = .active → keep = (newerGen s.red.gen m.gen || (s.red.gen == m.gen && home s)) → s.red.conflict = false →
      (fromHolder m = true → keep = true → Completes (.beatRx m path agree) s (fun t => Raised 0x1EC [(4, s.red.gen), (4, m.gen)] 0 z t ∧ t = { z with red := { z.red with conflict := true }, flt := t.flt })) ∧
      (fromHolder m = true → keep = false → Completes (.beatRx m path agree) s (fun t => RaisedAmong 0x1E2 [(4, s.red.gen), (4, s.red.acked)] z t ∧ Raised 0x1EC [(4, s.red.gen), (4, m.gen)] 0 z t ∧ (tgetD t.svp.tx a {}).sending = false ∧
        t = { z with red := { z.red with conflict := true, st := .fenced }, aqf := t.aqf, flt := t.flt, svp := { z.svp with tx := t.svp.tx } })) ∧
      (fromHolder m = false → Completes (.beatRx m path agree) s (fun t => t = { z with red := { z.red with conflict := false } }))) := by
  intro hst hkeep hc
  have hzs := (hz ▸ hear_heard m path s).settled hs
  obtain ⟨hzst, hzg, hzc, -, -, hzh⟩ := heard_red hz
  have hne : s.red.st ≠ .unpaired := by rcases hst with h | h <;> rw [h] <;> nofun
  have hkz : (newerGen z.red.gen m.gen || (z.red.gen == m.gen && home z)) = keep := by rw [hzg, hzh, hkeep]
  have hop : opBeatRx m path agree s = if fromHolder m then meetHolder m z else setRed { z.red with conflict := false } z := by
    refine (beatRx_heard hz hne).trans ?_
    unfold takeBeat
    rw [hzst]
    rcases hst with h | h <;> rw [h]
  have hev : holdersEvent m z.red = { src := 0x1EC, data := [(4, s.red.gen), (4, m.gen)] } := by unfold holdersEvent; rw [hzg]
  refine ⟨fun hm hk => ?_, fun hm hk => ?_, fun hm => completes_of rfl (hop.trans (if_neg (by rw [hm]; exact Bool.false_ne_true))) hzs rfl⟩
  · let v := setRed { z.red with conflict := true } z
    have hmeet : meetHolder m z = raise (holdersEvent m z.red) v := by rw [meetHolder_eq (hzc.trans hc), hkz, if_pos hk]
    rw [hev] at hmeet
    exact completes_of rfl (hop.trans ((if_pos hm).trans hmeet)) ((raise_resetQ { src := 0x1EC, data := [(4, s.red.gen), (4, m.gen)] } v rfl).trans hzs)
      ⟨raise_raised { src := 0x1EC, data := [(4, s.red.gen), (4, m.gen)] } v rfl, rfl⟩
  · obtain ⟨q, f, he, ho⟩ := fence_fences (setRed { z.red with conflict := true } z)
    obtain ⟨u, hu⟩ : ∃ u : State, u = { z with red := { z.red with conflict := true, st := .fenced }, aqf := q, flt := f, svp := { z.svp with tx := tmap z.svp.tx (fun _ x => { x with sending := false }) } } := ⟨_, rfl⟩
    have huf : u.flt = f := by rw [hu]
    let e : Ev := fencedEvent s.red
    let e' : Ev := { src := 0x1EC, data := [(4, s.red.gen), (4, m.gen)] }
    have hacked : z.red.acked = s.red.acked := by
      obtain ⟨_, _, _, _, _, _, h, -⟩ := hz ▸ hear_heard m path s
      rw [h]
    have hfence : fence (setRed { z.red with conflict := true } z) = raise e u := by
      rw [he, hu, show fencedEvent (setRed { z.red with conflict := true } z).red = e by
        show ({ src := 0x1E2, data := [(4, z.red.gen), (4, z.red.acked)] } : Ev) = _
        rw [hzg, hacked]; rfl]
      rfl
    have hmeet : meetHolder m z = raise e' (raise e u) := by
      rw [meetHolder_eq (hzc.trans hc), hkz, if_neg (by rw [hk]; exact Bool.false_ne_true), hfence, hev]
    have h2 : OtherRaises 0x1E2 z.flt u.flt := by rw [huf]; exact ho 0x1E2 (by decide)
    have hC : OtherRaises 0x1EC z.flt (raise e u).flt := OtherRaises.trans (by rw [huf]; exact ho 0x1EC (by decide)) (otherRaises_raise e u rfl rfl (show 0x1EC ≠ 0x1E2 by decide))
    have hlast : OtherRaises 0x1E2 (raise e u).flt (raise e' (raise e u)).flt := otherRaises_raise e' (raise e u) rfl rfl (show 0x1E2 ≠ 0x1EC by decide)
    refine completes_of rfl (hop.trans ((if_pos hm).trans hmeet)) ((raise_resetQ e' (raise e u) rfl).trans (hC.1.trans hzs)) ⟨((raise_raised e u rfl).after h2).among hlast rfl, (raise_raised e' (raise e u) rfl).after hC, ?_, by rw [hu]; rfl⟩
    rw [hu]
    exact tx_static z.svp.tx a

theorem fenced_beat (hs : Settled s) (hp : path ≤ 1) (hz : z = hear m path s) :
    (s.red.st = .fenced → fromHolder m = true → newerGen m.gen s.red.gen = true → Completes (.beatRx m path agree) s (fun t => t.red.st = .standby ∧ t.red.gen = m.gen)) ∧
    (s.red.st = .fenced → fromHolder m = false ∨ newerGen m.gen s.red.gen = false → Completes (.beatRx m path agree) s (fun t => t = z)) := by
  have hzs := (hz ▸ hear_heard m path s).settled hs
  obtain ⟨hzst, hzg, -⟩ := heard_red hz
  have hop (h : s.red.st = .fenced) : opBeatRx m path agree s = if fromHolder m && newerGen m.gen s.red.gen then watchBeat m path agree (enterStandby m.gen z) else z := by
    refine (beatRx_heard hz (by rw [h]; nofun)).trans ?_
    unfold takeBeat
    rw [hzst, h, hzg]
  refine ⟨fun h hm hg => ?_, fun h hm => completes_of rfl ((hop h).trans (if_neg ?_)) hzs rfl⟩
  · obtain ⟨q, p, f, w, hh, he, hf, -⟩ := standby_answers (m := m) (agree := agree) hp z
    exact completes_of rfl ((hop h).trans ((if_pos (by rw [hm, hg]; rfl)).trans he)) (hf.trans hzs) ⟨rfl, rfl⟩
  · rcases hm with h | h
    · rw [h]; exact Bool.false_ne_true
    · rw [h, Bool.and_false]; exact Bool.false_ne_true

/-! ## A TAKE (R365) -/

theorem standby_entered {i : Instr} (hop : exec i s = .next (settle (enterStandby m.gen z))) (hzs : Settled z) : Completes i s (fun t => t.red.st = .standby ∧ t.red.gen = m.gen) := by
  obtain ⟨q, p, f, he, hf, -⟩ := enterStandby_enters m.gen z
  exact completes_of hop he (hf.trans hzs) ⟨rfl, rfl⟩

theorem take_heard (hs : Settled s) (hz : z = hear m path s) :
    (newerGen m.gen s.red.gen = true → (s.red.st = .standby → Completes (.takeRx m path) s (fun t => t.red.st = .standby ∧ t.red.gen = m.gen ∧ t.red.beatAt = s.tim.now ∧ t.red.fencedHeard = false ∧ t.pwr = s.pwr)) ∧
      (s.red.st = .warm ∨ s.red.st = .fenced → Completes (.takeRx m path) s (fun t => t.red.st = .standby ∧ t.red.gen = m.gen))) ∧
    (newerGen m.gen s.red.gen = false → s.red.st = .standby ∨ s.red.st = .warm ∨ s.red.st = .fenced → Completes (.takeRx m path) s (fun t => t = z)) ∧
    (s.red.st = .pairing → s.flows = [] → Completes (.takeRx m path) s (fun t => t.red.st = .standby ∧ t.red.gen = m.gen)) := by
  have hzs := (hz ▸ hear_heard m path s).settled hs
  obtain ⟨hzst, hzg, -, hzfl, hzt, -⟩ := heard_red hz
  have hpwr : z.pwr = s.pwr := by
    obtain ⟨_, _, _, _, _, _, he, -⟩ := hz ▸ hear_heard m path s
    rw [he]
  refine ⟨fun hg => ⟨fun h => ?_, fun h => standby_entered (congrArg (fun v => Host.Outcome.next (settle v)) (?_ : opTakeRx m path s = _)) hzs⟩, fun hg h => completes_of rfl ?_ hzs rfl,
    fun h hfl => standby_entered (congrArg (fun v => Host.Outcome.next (settle v)) (?_ : opTakeRx m path s = _)) hzs⟩
  · obtain ⟨v, hv⟩ : ∃ v, v = setRed { z.red with gen := m.gen, beatAt := z.tim.now, fencedHeard := false } z := ⟨_, rfl⟩
    have hop : opTakeRx m path s = judgeReady v := by
      unfold opTakeRx
      rw [if_neg (by rw [h]; nofun), ← hz, hv]
      have hnew : newerGen m.gen z.red.gen = true := by rw [hzg]; exact hg
      have hzs : z.red.st = .standby := hzst.trans h
      dsimp only
      split
      · exact if_pos hnew
      · next h' => exact nomatch hzs.symm.trans h'
      · next h' => exact nomatch hzs.symm.trans h'
      · next h' => exact nomatch hzs.symm.trans h'
      · next h' _ _ _ => exact absurd hzs h'
    obtain ⟨hh, f, he, hf, -⟩ := judgeReady_judged v
    refine completes_of rfl (hop.trans he) (hf.trans (by rw [hv]; exact hzs)) ⟨?_, by rw [hv]; rfl, ?_, by rw [hv]; rfl, ?_⟩
    · rw [hv]; exact hzst.trans h
    · rw [hv]; exact congrArg Tim.now hzt
    · rw [hv]; exact hpwr
  · unfold opTakeRx
    rw [if_neg (by rcases h with h | h <;> rw [h] <;> nofun), ← hz]
    dsimp only
    rw [hzst]
    rcases h with h | h <;> rw [h] <;> exact if_pos (by rw [hzg]; exact hg)
  · unfold opTakeRx
    rw [if_neg (by rcases h with h | h | h <;> rw [h] <;> nofun), ← hz]
    dsimp only
    rw [hzst]
    rcases h with h | h | h <;> rw [h] <;> exact if_neg (by rw [hzg, hg]; exact Bool.false_ne_true)
  · unfold opTakeRx
    rw [if_neg (by rw [h]; nofun), ← hz]
    dsimp only
    rw [hzst, h]
    exact if_pos (by rw [hzfl, hfl]; rfl)

end
end Sys2Proof.Machine

/-! SUPPORT. An ACK and a LEAVE heard by a holder, and O58 (R354, R357, R363). -/
namespace Sys2Proof.Machine
open Sys2Proof

/-! ## A fresh image (R361) -/

/-- The state `t` is `s` with its journal changed, and what JOURNAL_OVERSIZE raises. -/
def ImageSent (s t : State) : Prop :=
  ∃ k o l b f, t = { s with red := { s.red with jseq := k, jout := o, heldMsgs := l, oversize := b }, flt := f } ∧ ∀ src, src ≠ 0x1ED → OtherRaises src s.flt f

theorem ImageSent.refl (s : State) : ImageSent s s := ⟨_, _, _, _, _, rfl, fun _ _ => .refl _ _⟩

theorem ImageSent.trans {s t u : State} (h1 : ImageSent s t) (h2 : ImageSent t u) : ImageSent s u := by
  obtain ⟨_, _, _, _, _, rfl, ho⟩ := h1
  obtain ⟨k, o, l, b, f, rfl, ho'⟩ := h2
  exact ⟨k, o, l, b, f, rfl, fun src h => (ho src h).trans (ho' src h)⟩

theorem journal_imageSent (type : Nat) (data : List Byte) (s : State) : ImageSent s (journal type data s) := by
  obtain ⟨q, o, h⟩ := journal_journalled type data s
  rw [h]
  exact ⟨q, o, _, _, _, rfl, fun _ _ => .refl _ _⟩

theorem journals_imageSent (l : List (Nat × List Byte)) (s : State) : ImageSent s (l.foldl (fun s r => journal r.1 r.2 s) s) := by
  induction l generalizing s with
  | nil => exact .refl s
  | cons r l ih => exact (journal_imageSent r.1 r.2 s).trans (ih _)

theorem judgeImage_imageSent (s : State) : ImageSent s (judgeImage s) := by
  obtain ⟨b, f, h, ho⟩ := judgeImage_judged s
  rw [h]
  exact ⟨_, _, _, b, f, rfl, ho⟩

theorem sendImage_imageSent (s : State) : ImageSent s (sendImage s) := by
  unfold sendImage
  dsimp only
  generalize imageRecords s = l
  generalize leBytes 4 (sizeOf_ l) = d
  have h1 : ImageSent s { s with red := { s.red with jout := [] } } := ⟨_, _, _, _, _, rfl, fun _ _ => .refl _ _⟩
  have h2 := (h1.trans (judgeImage_imageSent _)).trans (journal_imageSent 0x01 d _)
  split
  · exact h2
  · refine h2.trans ((journals_imageSent l _).trans ((journal_imageSent 0x02 (leBytes 4 (crc32c (l.flatMap Prod.snd))) _).trans ?_))
    exact ⟨_, _, _, _, _, rfl, fun _ _ => .refl _ _⟩

section
variable {s z : State} {m : PairMsg} {path a : Nat} {agree keep : Bool}

theorem holds_iff : holds s = true ↔ s.red.st = .sole ∨ s.red.st = .active := by
  unfold holds
  rw [Bool.or_eq_true, beq_iff_eq, beq_iff_eq]

theorem partner_ack (hz : z = hear m path s) (hs : Settled s) :
    (s.red.st ≠ .unpaired → s.red.st ≠ .sole → s.red.st ≠ .active → Completes (.pairAckRx m path) s (fun t => t = z) ∧ Completes (.leaveRx m path) s (fun t => t = z)) := by
  intro h0 h1 h2
  have hzs := (hz ▸ hear_heard m path s).settled hs
  have hzst := (heard_red hz).1
  have hh : holds z = false := by
    rw [← Bool.not_eq_true, holds_iff, hzst]
    exact fun h => h.elim h1 h2
  refine ⟨completes_of rfl ?_ hzs rfl, completes_of rfl ?_ hzs rfl⟩
  · unfold opPairAckRx
    rw [if_neg h0]
    dsimp only
    rw [← hz, hh]
    rfl
  · unfold opLeaveRx
    rw [if_neg h0]
    dsimp only
    rw [← hz, hh]
    rfl

/-- A holder whose lease the newest ACK, of BEAT stamp `t`, renews. -/
def leaseRenewed (m : PairMsg) (t : Nat) (z : State) : State :=
  setRed { z.red with acked := m.ackSeq, partnerReady := m.ready, leaseEnd := max z.red.leaseEnd (t + leaseNs z), st := if m.ready then .active else .sole } z

/-- What a change of the partner's READY is reported by. -/
def readyEvent (m : PairMsg) (z : State) : Ev :=
  if m.ready then { src := 0x1E5, data := [(4, m.jseq)] } else { src := 0x1E6, data := [(1, if z.red.oversize then 3 else if diverged z then 1 else 0)] }

theorem ack_renews (hz : z = hear m path s) (hst : s.red.st = .sole ∨ s.red.st = .active) (hb : beatStamp s.red m.ackSeq = some a)
    (hn : m.ackSeq = s.red.acked ∨ serialLt 32 m.ackSeq s.red.acked = false) :
    ImageSent (if m.ready = z.red.partnerReady then leaseRenewed m a z else raise (readyEvent m z) (leaseRenewed m a z)) (opPairAckRx m path s) := by
  obtain ⟨la, lb, ta, tb, hh, g, hze, -⟩ := hz ▸ hear_heard m path s
  have hstamp : beatStamp z.red m.ackSeq = some a := by rw [hze]; exact hb
  have hnew : (m.ackSeq == z.red.acked || !serialLt 32 m.ackSeq z.red.acked) = true := by
    have hacked : z.red.acked = s.red.acked := by rw [hze]
    rw [hacked]
    rcases hn with h | h
    · rw [beq_iff_eq.mpr h]; rfl
    · rw [h]; exact Bool.or_true _
  have hholds : holds z = true := holds_iff.mpr (by rw [(heard_red hz).1]; exact hst)
  have hne : s.red.st ≠ .unpaired := by rcases hst with h | h <;> rw [h] <;> nofun
  obtain ⟨u, hu⟩ : ∃ u, u = (if m.ready = z.red.partnerReady then leaseRenewed m a z else raise (readyEvent m z) (leaseRenewed m a z)) := ⟨_, rfl⟩
  have hsend (b : Bool) (v : State) (hv : v = u) : ImageSent u (if b = true then sendImage v else v) := by
    rw [hv]
    split
    · exact sendImage_imageSent u
    · exact .refl u
  rw [← hu]
  unfold opPairAckRx
  rw [if_neg hne]
  dsimp only
  rw [← hz, hholds, if_neg (by rw [Bool.not_true]; exact Bool.false_ne_true), hstamp]
  dsimp only
  rw [hnew, if_pos rfl, if_pos rfl]
  refine hsend _ _ ?_
  rw [hu]
  unfold readyEvent leaseRenewed
  cases m.ready <;> rfl

theorem holder_ack (hs : Settled s) (hz : z = hear m path s) :
    (s.red.st = .sole ∨ s.red.st = .active → Completes (.leaveRx m path) s (fun t => t = { z with red := { z.red with st := .sole, partnerReady := false } }) ∧
      (beatStamp s.red m.ackSeq = none → Completes (.pairAckRx m path) s (fun t => t = z)) ∧
      (beatStamp s.red m.ackSeq = some a → m.ackSeq = s.red.acked ∨ serialLt 32 m.ackSeq s.red.acked = false → Completes (.pairAckRx m path) s (fun t => t.red.acked = m.ackSeq ∧
        t.red.leaseEnd = max s.red.leaseEnd (a + leaseNs s) ∧ t.red.partnerReady = m.ready ∧ (m.ready = true → t.red.st = .active) ∧ (m.ready = false → t.red.st = .sole) ∧
        (s.red.partnerReady = false → m.ready = true → RaisedOnce 0x1E5 s t) ∧ (s.red.partnerReady = true → m.ready = false → RaisedOnce 0x1E6 s t) ∧
        t = { s with red := { z.red with acked := t.red.acked, leaseEnd := t.red.leaseEnd, partnerReady := t.red.partnerReady, st := t.red.st, jseq := t.red.jseq, jout := t.red.jout, heldMsgs := t.red.heldMsgs, oversize := t.red.oversize }, flt := t.flt }))) := by
  intro hst
  have hzs := (hz ▸ hear_heard m path s).settled hs
  have hzst := (heard_red hz).1
  have hne : s.red.st ≠ .unpaired := by rcases hst with h | h <;> rw [h] <;> nofun
  have hholds : holds z = true := holds_iff.mpr (by rw [hzst]; exact hst)
  refine ⟨completes_of (u := setRed { z.red with st := .sole, partnerReady := false } z) rfl ?_ hzs rfl, fun hb => completes_of rfl ?_ hzs rfl, fun hb hn => ?_⟩
  · unfold opLeaveRx
    rw [if_neg hne]
    dsimp only
    rw [← hz]
    exact if_pos hholds
  · have hstamp : beatStamp z.red m.ackSeq = none := by
      obtain ⟨_, _, _, _, _, _, h, -⟩ := hz ▸ hear_heard m path s
      rw [h]; exact hb
    unfold opPairAckRx
    rw [if_neg hne]
    dsimp only
    rw [← hz, hholds, if_neg (by rw [Bool.not_true]; exact Bool.false_ne_true), hstamp]
  · obtain ⟨u, hu⟩ : ∃ u, u = (if m.ready = z.red.partnerReady then leaseRenewed m a z else raise (readyEvent m z) (leaseRenewed m a z)) := ⟨_, rfl⟩
    obtain ⟨k, o, l, b, f, he, ho⟩ := ack_renews hz hst hb hn
    rw [← hu] at he ho
    obtain ⟨la, lb, ta, tb, hh, g, hze, hg⟩ := hz ▸ hear_heard m path s
    have huz : ∃ f, u = { leaseRenewed m a z with flt := f } ∧ f.resetQ = z.flt.resetQ := by
      rw [hu]
      split
      · exact ⟨z.flt, rfl, rfl⟩
      · have hunit : (readyEvent m z).unit = none := by unfold readyEvent; split <;> rfl
        exact ⟨_, rfl, raise_resetQ (readyEvent m z) (leaseRenewed m a z) hunit⟩
    obtain ⟨fu, huz, hfu⟩ := huz
    have hready {i : Nat} (hi : i ≠ 0x1ED) (hi' : i ≠ 0x1E4) (hc : m.ready ≠ s.red.partnerReady) (hsrc : (readyEvent m z).src = i) : (tgetD f.stat i {}).count = min ((tgetD s.flt.stat i {}).count + 1) 255 := by
      have hpr : z.red.partnerReady = s.red.partnerReady := by rw [hze]
      have hw : (readyEvent m z).written = false := by unfold readyEvent; split <;> rfl
      have hur : u = raise (readyEvent m z) (leaseRenewed m a z) := by rw [hu, if_neg (by rw [hpr]; exact hc)]
      have hone := (raise_raised (readyEvent m z) (leaseRenewed m a z) hw).1
      rw [← hur, hsrc] at hone
      have hz4 : tgetD (leaseRenewed m a z).flt.stat i {} = tgetD s.flt.stat i {} := ((hz ▸ hear_heard m path s).others hi').2.1
      rw [hz4, ← (ho i hi).2.1] at hone
      exact hone
    refine completes_of rfl he ((ho 0 (by decide)).1.trans (by rw [huz]; exact hfu.trans hzs)) ⟨?_, ?_, ?_, fun h => ?_, fun h => ?_, fun h1 h2 => ?_, fun h1 h2 => ?_, ?_⟩
    · rw [huz]; rfl
    · rw [huz, hze]; rfl
    · rw [huz]; rfl
    · rw [huz]; exact if_pos h
    · rw [huz]; exact if_neg (by rw [h]; exact Bool.false_ne_true)
    · exact hready (by decide) (by decide) (by rw [h1, h2]; nofun) (by unfold readyEvent; rw [h2]; rfl)
    · exact hready (by decide) (by decide) (by rw [h1, h2]; nofun) (by unfold readyEvent; rw [h2]; rfl)
    · rw [huz, hze]; rfl

end

/-- Settles O58: commands and timers by their own equations, and what is heard by `hear_heard` and the state of the hearer. -/
theorem formationBeatsAndTheLease : Obligations.FormationBeatsAndTheLease := by
  unfold Obligations.FormationBeatsAndTheLease
  intro c s z a path m agree keep hf hs hcpl hp hz
  obtain ⟨r1, r2⟩ := pairStatus_reads (c := c) (a := a) hf hs
  obtain ⟨t1, t2⟩ := pairingTimeout_takes hs
  obtain ⟨b1, b2⟩ := beatSend_beats hs
  obtain ⟨c1, c2⟩ := pairing_conflicts (agree := agree) hs hz
  obtain ⟨f1, f2⟩ := fenced_beat (agree := agree) hs hp hz
  obtain ⟨k1, k2, k3⟩ := take_heard hs hz
  obtain ⟨l1, l2⟩ := leaseEnd_fences (a := a) hs
  obtain ⟨p1, p2, p3⟩ := path_lost hs
  exact ⟨unpaired_stays hs, hear_reports hp hz, pairStart_denied hf hs, pairStart_pairs hf hs hcpl, pairStop_denied hf hs, pairStop_leaves hf hs, r1, r2, t1, t2, b1, b2,
    standby_beat hs hp hz, standby_oldBeat hs hz, pairing_joins hs hp hz, c1, c2, holder_beat hs hz, f1, f2, k1, k2, k3, partner_ack hz hs, holder_ack hs hz, l1, l2, p1, p2, p3⟩

end Sys2Proof.Machine

/-! SUPPORT. The Take and Drive steps of a takeover (R366 to R369). -/
namespace Sys2Proof.Machine
open Sys2Proof

/-! ## What resumes when a unit drives -/

/-- The state `t` is `s` with its pages moved on, its output streams placed, and what the arming of pages sends and raises. -/
def Resumed (s t : State) : Prop :=
  ∃ st fr tt a f q o h, t = { s with nmp := { s.nmp with streams := st }, free := fr, tt := tt, aqf := a, flt := f, red := { s.red with jseq := q, jout := o, heldMsgs := h } } ∧
    ∀ src, src ∉ pageSrcs → OtherRaises src s.flt f

theorem Resumed.refl (s : State) : Resumed s s := ⟨_, _, _, _, _, _, _, _, rfl, fun _ _ => .refl _ _⟩

theorem Resumed.trans {s t u : State} (h1 : Resumed s t) (h2 : Resumed t u) : Resumed s u := by
  obtain ⟨_, _, _, _, _, _, _, _, rfl, ho⟩ := h1
  obtain ⟨st, fr, tt, a, f, q, o, h, rfl, ho'⟩ := h2
  exact ⟨st, fr, tt, a, f, q, o, h, rfl, fun src hs => (ho src hs).trans (ho' src hs)⟩

theorem Resumed.foldl {α : Type} {op : State → α → State} (h : ∀ s x, Resumed s (op s x)) (l : List α) (s : State) : Resumed s (l.foldl op s) := by
  induction l generalizing s with
  | nil => exact .refl s
  | cons x l ih => exact (h s x).trans (ih _)

theorem PageMoved.resumed {l : List Nat} {k : Nat} {s t : State} (h : PageMoved l k s t) (hl : l ⊆ pageSrcs) : Resumed s t := by
  obtain ⟨tt, a, f, q, o, hm, rfl, -, -, ho⟩ := h
  exact ⟨_, _, tt, a, f, q, o, hm, rfl, fun src hs => ho src fun h => hs (hl h)⟩

theorem Sent.resumed {s t : State} (h : Sent s t) : Resumed s t := by
  obtain ⟨a, f, rfl, ho⟩ := h
  exact ⟨_, _, _, a, f, _, _, _, rfl, fun src hs => ho src fun h => hs (by rw [h]; decide)⟩

theorem setStream_resumed (n : Nat) (x : Stream) (s : State) : Resumed s (setStream n x s) :=
  ⟨_, _, _, _, _, _, _, _, rfl, fun _ _ => .refl _ _⟩

theorem setPage_resumed (k : Nat) (p : Page) (s : State) : Resumed s (setPage k p s) :=
  ⟨_, _, _, _, _, _, _, _, rfl, fun _ _ => .refl _ _⟩

theorem startStream_resumed (n : Nat) (s : State) : Resumed s (startStream n s) := by
  unfold startStream
  dsimp only
  split
  · exact ⟨_, _, _, _, _, _, _, _, rfl, fun _ _ => .refl _ _⟩
  · exact setStream_resumed n _ s

theorem resumeStreams_resumed (t : Nat) (s : State) : Resumed s (resumeStreams t s) := by
  unfold resumeStreams
  refine Resumed.foldl (fun s n => ?_) _ s
  dsimp only
  split
  · exact startStream_resumed n s
  · exact setStream_resumed n _ s

theorem resumePage_resumed (k : Nat) (s : State) : Resumed s (resumePage k s) := by
  unfold resumePage
  dsimp only
  split
  · have h := setPage_resumed k { page s k with pst := .loaded, windows := (page s k).changes.filterMap (windowOf s), asked := feedersOf s (page s k) ((page s k).changes.filterMap (windowOf s)) } s
    refine (h.trans ?_).trans ((tryArm_moves k _).resumed (List.Subset.refl _))
    exact (Sent.foldl (fun s f => sendRunAhead_sent 6 _ f s) _ _).resumed
  · split
    · exact ⟨_, _, _, _, _, _, _, _, rfl, fun _ _ => .refl _ _⟩
    · exact .refl s

theorem resumePages_resumed (s : State) : Resumed s (resumePages s) := Resumed.foldl (fun s k => resumePage_resumed k s) _ s

theorem Resumed.others {s t : State} (h : Resumed s t) {src : Nat} (hs : src ∉ pageSrcs) : OtherRaises src s.flt t.flt := by
  obtain ⟨_, _, _, _, _, _, _, _, rfl, ho⟩ := h; exact ho src hs

/-! ## The Drive step -/

/-- The flows of a unit that waits for its inputs. -/
def awaited (s : State) : Tab Flow := tmap s.flows (fun n f =>
  if nsOf n == 0 && f.st == .running && decide (f.endpoint < 3) then { f with restore := some (s.tim.now + framesNs s f.domain 16) } else f)

/-- A unit that drives, before what it holds resumes. -/
def driving (s : State) : State :=
  { s with
    red := { s.red with
      st := .sole, driveAt := some s.tim.now, uncommitted := (List.range 8).filter (domEn s), partnerReady := false, partner := none
      warmEnd := none, bound := none, confirmed := false, asked := false }
    aud := { s.aud with xps := tmap s.aud.xps (fun _ l => l.map (fun x => { x with base := 0, ramps := [] })) }
    flows := awaited s }

theorem drive_drives (s : State) : Resumed (driving s) (drive s) := by
  obtain ⟨v, hv⟩ : ∃ v : State, v = { driving s with flows := s.flows } := ⟨_, rfl⟩
  have hop : drive s = resumePages (resumeStreams s.tim.now (awaitInputs (notifyRole v))) := by rw [hv]; rfl
  obtain ⟨a, f, he, ho⟩ := notifyRole_sent v
  have hawait : awaitInputs (notifyRole v) = { driving s with aqf := a, flt := f } := by rw [he, hv]; rfl
  have h1 : Resumed (driving s) (awaitInputs (notifyRole v)) := by
    rw [hawait]
    exact ⟨_, _, _, a, f, _, _, _, rfl, fun src hs => by rw [show (driving s).flt = v.flt by rw [hv]]; exact ho src fun h => hs (by rw [h]; decide)⟩
  rw [hop]
  exact (h1.trans (resumeStreams_resumed _ _)).trans (resumePages_resumed _)

/-! ## The Take step -/

/-- A unit that takes the tablet, before it says so. -/
def taken (cause : Nat) (s : State) : State :=
  setRed { s.red with st := .taking, gen := (s.red.gen + 1) % 2 ^ 32, cause := cause, tag := none, fencedHeard := false } s

/-- The taking as it is reported. -/
def takenEvent (cause : Nat) (s : State) : Ev := { src := 0x1E0, data := [(4, (s.red.gen + 1) % 2 ^ 32), (1, cause)], fin := s.red.tag }

/-- A return that was under way and not confirmed. -/
def gapHere (s : State) : Bool := s.red.st == .warm && s.red.bound.isSome && !s.red.confirmed

/-- The unit after the Take step: TAKE sent on both paths, and the taking reported. -/
def Took (cause : Nat) (s v : State) : Prop :=
  ∃ a f, v = { seqNext (taken cause s) with aqf := a, flt := f, wire := s.wire ++ [.pathB { ownMsg (taken cause s) 3 0 none with path := 1 } (hbInv s)] } ∧ f.resetQ = s.flt.resetQ ∧
    (tgetD f.stat 0x1E0 {}).count = min ((tgetD s.flt.stat 0x1E0 {}).count + 1) 255 ∧ (∀ n, s.red.tag = some n → f.evq.any (fun r => r.src == 0x1E0 && r.kind == 1 && r.tag == n) = true) ∧
    (gapHere s = true → (tgetD f.stat 0x1EA {}).count = min ((tgetD s.flt.stat 0x1EA {}).count + 1) 255)

theorem evq_any {f g : Flt} {p : EvRec → Bool} (h : f.evq <+: g.evq) (hf : f.evq.any p = true) : g.evq.any p = true := by
  obtain ⟨r, hr, hp⟩ := List.any_eq_true.mp hf
  exact List.any_eq_true.mpr ⟨r, h.subset hr, hp⟩

theorem final_any {src n : Nat} {t : State} (h : Final src n t) : t.flt.evq.any (fun r => r.src == src && r.kind == 1 && r.tag == n) = true := by
  obtain ⟨r, hr, h1, h2, h3⟩ := h
  exact List.any_eq_true.mpr ⟨r, List.mem_of_getLast? hr, by rw [beq_iff_eq.mpr h1, beq_iff_eq.mpr h2, beq_iff_eq.mpr h3]; rfl⟩

theorem takeTablet_takes (cause : Nat) (s : State) : ∃ v, Took cause s v ∧
    takeTablet cause s = if s.red.st = .standby then requestPower .run none v else if s.red.st = .warm && s.red.warmEnd.isNone && !s.red.asked then v else drive v := by
  obtain ⟨a, f, he, ho⟩ := sendPair_both 3 0 none (taken cause s)
  obtain ⟨u, hu⟩ : ∃ u, u = sendPair bothPaths 3 0 none (taken cause s) := ⟨_, rfl⟩
  have hur : u.red = (seqNext (taken cause s)).red := by rw [hu, he]
  have huf : u.flt = f := by rw [hu, he]
  let e : Ev := takenEvent cause s
  let g : Ev := { src := 0x1EA, data := [(4, s.red.bound.getD 0 % 2 ^ 32)] }
  obtain ⟨v, hv⟩ : ∃ v, v = raiseIf (gapHere s) g (raise e u) := ⟨_, rfl⟩
  have hop : takeTablet cause s = if s.red.st = .standby then requestPower .run none v else if s.red.st = .warm && v.red.warmEnd.isNone && !v.red.asked then v else drive v := by
    unfold takeTablet
    dsimp only
    rw [show setRed { s.red with st := .taking, gen := (s.red.gen + 1) % 2 ^ 32, cause := cause, tag := none, fencedHeard := false } s = taken cause s from rfl, ← hu,
      show u.red.gen = (s.red.gen + 1) % 2 ^ 32 by rw [hur]; rfl, hv]
    rfl
  have hvr : v.red = (seqNext (taken cause s)).red := by rw [hv, raiseIf_flt]; exact hur
  have hlast : ∀ src, src ≠ 0x1EA → OtherRaises src (raise e u).flt v.flt := fun src h => by
    rw [hv]; exact otherRaises_raiseIf _ g (raise e u) rfl rfl h
  have hE0 : OtherRaises 0x1E0 s.flt u.flt := by rw [huf]; exact ho 0x1E0 (by decide)
  have hEA : OtherRaises 0x1EA s.flt (raise e u).flt := OtherRaises.trans (by rw [huf]; exact ho 0x1EA (by decide)) (otherRaises_raise e u rfl rfl (show 0x1EA ≠ 0x1E0 by decide))
  refine ⟨v, ⟨a, v.flt, ?_, ?_, ?_, fun n hn => ?_, fun hg => ?_⟩, ?_⟩
  · have hvu : v = { u with flt := v.flt } := by rw [hv, raiseIf_flt]; rfl
    rw [hvu, hu, he]
    rfl
  · exact (hlast 0x1E0 (by decide)).1.trans (hEA.1)
  · exact OtherRaises.count (e := e) hE0 rfl (hlast 0x1E0 (by decide))
  · exact evq_any (hlast 0x1E0 (by decide)).2.2 (final_any (raise_final e u n rfl hn))
  · have hvg : v = raise g (raise e u) := by rw [hv, hg]; rfl
    rw [hvg]
    exact OtherRaises.count (e := g) hEA rfl (.refl _ _)
  · rw [hop, hvr]
    rfl

end Sys2Proof.Machine

/-! SUPPORT. TABLET_TAKE, the watch and the Wake step (R365, R366, R375). -/
namespace Sys2Proof.Machine
open Sys2Proof

/-- What an ACCEPTED completion that is written leaves: its rings and what it sends after. -/
theorem complete_accepted (c : Cmd) (op : Nat) {u : State} (hf : u.hif.fences = []) (hcpl : c.cplOk = true) :
    ∃ h w, complete c op accepted u = { u with hif := h, wire := w } ∧ u.wire <+: w ∧ Replied c op 1 0 0 { u with hif := h, wire := w } := by
  have hrep : Replied c op 1 0 0 (complete c op accepted u) := complete_replied c op accepted u hf
  obtain ⟨heq, hflt, -⟩ := complete_frame c op accepted u hf (.inr rfl)
  have hwire : u.wire <+: (complete c op accepted u).wire := by
    have hl : logStatus c accepted u = u := if_pos (Or.inr rfl)
    unfold complete
    rw [hf]
    show u.wire <+: (writeCpl c op accepted (logStatus c accepted u)).wire
    rw [hl]
    unfold writeCpl
    dsimp only
    split
    · exact List.prefix_rfl
    · split
      · exact List.prefix_rfl
      · generalize cplEntry c op accepted _ _ _ = l
        exact List.IsPrefix.trans (List.prefix_rfl (l := u.wire)) (signalRing_wire _ (setCplRing _ _ (hostWrite _ l u)))
  obtain ⟨t, ht⟩ : ∃ t, t = complete c op accepted u := ⟨_, rfl⟩
  rw [← ht] at heq hflt hwire hrep ⊢
  have hte : t = { u with hif := t.hif, wire := t.wire } := by rw [heq, (hflt hcpl).1]
  exact ⟨t.hif, t.wire, hte, hwire, hte ▸ hrep⟩

section
variable {c : Cmd} {s v : State} {x : Transit} {k typ fi cause : Nat} {l : List Byte} {silent : Bool}

/-! ## TABLET_TAKE (R375) -/

theorem tabletTake_denied (hf : s.hif.fences = []) (hs : Settled s) :
    ((s.red.st ≠ .pairing ∧ s.red.st ≠ .standby ∧ s.red.st ≠ .fenced) ∨ holderHeard s = true → Completes (.tabletTake c) s (Fails c 0x0804 0x20 0 s)) := by
  intro h
  have hk : ((s.red.st != .pairing && s.red.st != .standby && s.red.st != .fenced) || holderHeard s) = true := by
    rcases h with ⟨h1, h2, h3⟩ | h
    · rw [bne_iff_ne.mpr h1, bne_iff_ne.mpr h2, bne_iff_ne.mpr h3]; rfl
    · rw [h, Bool.or_true]
  exact ⟨_, rfl, taken_fails (firstErr_fail hk) hf hs⟩

/-- A unit that notes the TAG of its request. -/
def tagged (c : Cmd) (s : State) : State := setRed { s.red with tag := some c.tag } s

theorem tabletTake_accepts {u : State} {P : State → Prop} (hh : holderHeard s = false) (hst : s.red.st = .pairing ∨ s.red.st = .standby ∨ s.red.st = .fenced) (hu : takeTablet 2 (tagged c s) = u)
    (hf : u.hif.fences = []) (hs : Settled u) (hcpl : c.cplOk = true) (h : ∀ h w, u.wire <+: w → Replied c 0x0804 1 0 0 { u with hif := h, wire := w } → P { u with hif := h, wire := w }) : Completes (.tabletTake c) s P := by
  have hk : ((s.red.st != .pairing && s.red.st != .standby && s.red.st != .fenced) || holderHeard s) = false := by
    rw [hh]
    rcases hst with h | h | h <;> rw [h] <;> rfl
  have hop : opTabletTake c s = complete c 0x0804 accepted u := by
    unfold opTabletTake
    rw [hostCmd_taken, checked_ok _ _ _ (firstErr_pass hk), ← hu]
    rfl
  obtain ⟨hi, w, he, hw, hrep⟩ := complete_accepted c 0x0804 hf hcpl
  exact completes_of rfl (hop.trans he) hs (h hi w hw hrep)

theorem Took.settled (h : Took cause s v) (hs : Settled s) : Settled v := by
  obtain ⟨a, f, rfl, hq, -⟩ := h
  exact hq.trans hs

theorem wire_after {w : List Wire} {l : List Wire} {e : Wire} (h : l ++ [e] <+: w) : w[l.length]? = some e := by
  obtain ⟨m, rfl⟩ := h
  rw [List.append_assoc, List.getElem?_append_right (Nat.le_refl _), Nat.sub_self]
  rfl

theorem tabletTake_wakes (hf : s.hif.fences = []) (hs : Settled s) (hcpl : c.cplOk = true) (hh : holderHeard s = false) (hst : s.red.st = .standby) :
    Completes (.tabletTake c) s (fun t => Replied c 0x0804 1 0 0 t ∧ t.red.st = .taking ∧ t.red.gen = (s.red.gen + 1) % 2 ^ 32 ∧ t.red.cause = 2 ∧ RaisedOnce 0x1E0 s t ∧
        t.flt.evq.any (fun r => r.src == 0x1E0 && r.kind == 1 && r.tag == c.tag) = true ∧
        t.wire[s.wire.length]? = some (.pathB { ownMsg { s with red := { s.red with st := .taking, gen := (s.red.gen + 1) % 2 ^ 32 } } 3 0 none with path := 1 } (hbInv s)) ∧
        (s.pwr.trans = none → t.pwr.trans.map (fun x => x.target) = some .run) ∧ t = { s with red := t.red, pwr := t.pwr, aqf := t.aqf, hif := t.hif, flt := t.flt, wire := t.wire }) := by
  obtain ⟨v, htook, htake⟩ := takeTablet_takes 2 (tagged c s)
  have hvs : Settled v := htook.settled (s := tagged c s) hs
  obtain ⟨a, f, hv, hq, h1, h2, -⟩ := htook
  have htag := h2 c.tag rfl
  obtain ⟨u, hu⟩ : ∃ u, u = requestPower .run none v := ⟨_, rfl⟩
  obtain ⟨p, g, he, ho⟩ := hu ▸ requestPower_repowered .run none v
  have hvf : v.flt = f := by rw [hv]
  rw [hvf] at ho
  have hus : Settled u := by rw [he]; exact (ho 0 (by decide)).1.trans (hvf ▸ hvs)
  have hpwr : s.pwr.trans = none → p.trans.map (fun x => x.target) = some .run := fun ht => by
    have hup : u.pwr = p := by rw [he]
    rw [← hup, hu, requestPower_starts (by rw [hv]; exact ht)]
    rfl
  refine tabletTake_accepts hh (.inr (.inl hst)) (htake.trans ((if_pos hst).trans hu.symm)) (by rw [he, hv]; exact hf) hus hcpl fun hi w hw hrep => ⟨hrep, ?_, ?_, ?_, ?_, ?_, ?_, fun ht => ?_, ?_⟩
  · rw [he, hv]; rfl
  · rw [he, hv]; rfl
  · rw [he, hv]; rfl
  · rw [he]; exact (congrArg SrcStat.count (ho 0x1E0 (by decide)).2.1).trans h1
  · rw [he]; exact evq_any (ho 0x1E0 (by decide)).2.2 htag
  · rw [he, hv] at hw
    exact wire_after hw
  · rw [he]; exact hpwr ht
  · rw [he, hv]; rfl

theorem tabletTake_drives (hf : s.hif.fences = []) (hs : Settled s) (hcpl : c.cplOk = true) (hh : holderHeard s = false) (hst : s.red.st = .pairing ∨ s.red.st = .fenced) :
    Completes (.tabletTake c) s (fun t => Replied c 0x0804 1 0 0 t ∧ t.red.st = .sole ∧ t.red.gen = (s.red.gen + 1) % 2 ^ 32 ∧ t.red.driveAt = some s.tim.now ∧
        t.red.uncommitted = (List.range 8).filter (domEn s) ∧ RaisedOnce 0x1E0 s t ∧ t.flt.evq.any (fun r => r.src == 0x1E0 && r.kind == 1 && r.tag == c.tag) = true ∧ drives t = true ∧ t.swc = s.swc ∧ t.mem = s.mem ∧ t.pwr = s.pwr) := by
  obtain ⟨v, htook, htake⟩ := takeTablet_takes 2 (tagged c s)
  have hvs : Settled v := htook.settled (s := tagged c s) hs
  obtain ⟨a, f, hv, hq, h1, h2, -⟩ := htook
  have htag := h2 c.tag rfl
  have hne : s.red.st ≠ .standby := by rcases hst with h | h <;> rw [h] <;> nofun
  have hnw : ¬((decide (s.red.st = .warm) && s.red.warmEnd.isNone && !s.red.asked) = true) := by
    rw [decide_eq_false (by rcases hst with h | h <;> rw [h] <;> nofun)]
    exact Bool.false_ne_true
  obtain ⟨st, fr, tt, a', g, q, o, h, he, ho⟩ := drive_drives v
  have hvf : (driving v).flt = f := by rw [hv]; rfl
  rw [hvf] at ho
  have hus : Settled (drive v) := by rw [he]; exact (ho 0 (by decide)).1.trans (by rw [← hvf]; exact hvs)
  refine tabletTake_accepts hh (by rcases hst with h | h; exacts [.inl h, .inr (.inr h)]) (htake.trans ((if_neg hne).trans (if_neg hnw))) (by rw [he, hv]; exact hf) hus hcpl fun hi w hw hrep => ⟨hrep, ?_, ?_, ?_, ?_, ?_, ?_, ?_, ?_, ?_, ?_⟩
  · rw [he]; rfl
  · rw [he, hv]; rfl
  · rw [he, hv]; rfl
  · rw [he, hv]; rfl
  · rw [he]; exact (congrArg SrcStat.count (ho 0x1E0 (by decide)).2.1).trans h1
  · rw [he]; exact evq_any (ho 0x1E0 (by decide)).2.2 htag
  · rw [he]; rfl
  · rw [he, hv]; rfl
  · rw [he, hv]; rfl
  · rw [he, hv]; rfl

theorem tabletTake_takes (hf : s.hif.fences = []) (hs : Settled s) (hcpl : c.cplOk = true) :
    (holderHeard s = false → (s.red.st = .standby → Completes (.tabletTake c) s (fun t => Replied c 0x0804 1 0 0 t ∧ t.red.st = .taking ∧ t.red.gen = (s.red.gen + 1) % 2 ^ 32 ∧ t.red.cause = 2 ∧ RaisedOnce 0x1E0 s t ∧
        t.flt.evq.any (fun r => r.src == 0x1E0 && r.kind == 1 && r.tag == c.tag) = true ∧
        t.wire[s.wire.length]? = some (.pathB { ownMsg { s with red := { s.red with st := .taking, gen := (s.red.gen + 1) % 2 ^ 32 } } 3 0 none with path := 1 } (hbInv s)) ∧
        (s.pwr.trans = none → t.pwr.trans.map (fun x => x.target) = some .run) ∧ t = { s with red := t.red, pwr := t.pwr, aqf := t.aqf, hif := t.hif, flt := t.flt, wire := t.wire })) ∧
      (s.red.st = .pairing ∨ s.red.st = .fenced → Completes (.tabletTake c) s (fun t => Replied c 0x0804 1 0 0 t ∧ t.red.st = .sole ∧ t.red.gen = (s.red.gen + 1) % 2 ^ 32 ∧ t.red.driveAt = some s.tim.now ∧
        t.red.uncommitted = (List.range 8).filter (domEn s) ∧ RaisedOnce 0x1E0 s t ∧ t.flt.evq.any (fun r => r.src == 0x1E0 && r.kind == 1 && r.tag == c.tag) = true ∧ drives t = true ∧ t.swc = s.swc ∧ t.mem = s.mem ∧ t.pwr = s.pwr))) :=
  fun hh => ⟨tabletTake_wakes hf hs hcpl hh, tabletTake_drives hf hs hcpl hh⟩

/-! ## The watch (R365) -/

theorem elsewhere_stays (hs : Settled s) :
    (s.red.st ≠ .standby → s.red.st ≠ .warm → Completes .recessWake s (fun t => t = s) ∧ Completes (.journalRecordRx k typ fi l none) s (fun t => t = s)) := by
  intro h1 h2
  have hb : (s.red.st != .standby && s.red.st != .warm) = true := by rw [bne_iff_ne.mpr h1, bne_iff_ne.mpr h2]; rfl
  exact ⟨completes_of rfl (if_pos hb) hs rfl, completes_of rfl (if_pos hb) hs rfl⟩

/-- A watch that has not heard its holder, at its next look. -/
def heldSilent (s : State) : Bool := decide (s.red.beatAt + leaseNs s + 1000000 ≤ max s.tim.now (nextOf 250000 (lastOf .wake s)))

/-- A watch that is not READY and reports a takeover blocked. -/
def blockedEvent (s : State) : Ev := { src := 0x1E7, data := [(4, (s.tim.now - s.red.beatAt) / 1000)] }

theorem recessWake_eq (h : s.red.st = .standby ∨ s.red.st = .warm) (hsil : silent = decide (s.red.beatAt + leaseNs s + 1000000 ≤ max s.tim.now (nextOf 250000 (lastOf .wake s)))) :
    opRecessWake s = if (!silent && !s.red.fencedHeard) = true then every .wake 250000 s
      else if s.red.ready = true then takeTablet (if silent then 0 else 1) (every .wake 250000 s)
      else if (silent && !s.red.blocked) = true then requestPower .run none (raise (blockedEvent (every .wake 250000 s)) (setRed { s.red with blocked := true } (every .wake 250000 s)))
      else every .wake 250000 s := by
  have hb : (s.red.st != .standby && s.red.st != .warm) = false := by rcases h with h | h <;> rw [h] <;> rfl
  rw [hsil]
  exact if_neg (by rw [hb]; exact Bool.false_ne_true)

theorem watch_waits (hs : Settled s) (hsil : silent = decide (s.red.beatAt + leaseNs s + 1000000 ≤ max s.tim.now (nextOf 250000 (lastOf .wake s)))) :
    (s.red.st = .standby ∨ s.red.st = .warm → silent = false → s.red.fencedHeard = false → Completes .recessWake s (fun t => t = every .wake 250000 s)) ∧
    (s.red.st = .standby ∨ s.red.st = .warm → s.red.ready = false → silent = false ∨ s.red.blocked = true → Completes .recessWake s (fun t => t = every .wake 250000 s)) := by
  refine ⟨fun h h1 h2 => completes_of rfl ((recessWake_eq h hsil).trans (if_pos (by rw [h1, h2]; rfl))) hs rfl, fun h h1 h2 => completes_of (u := every .wake 250000 s) rfl ((recessWake_eq h hsil).trans ?_) hs rfl⟩
  have hb : (silent && !s.red.blocked) = false := by
    rcases h2 with h | h <;> rw [h]
    · rfl
    · exact Bool.and_false _
  split
  · rfl
  · rw [if_neg (by rw [h1]; exact Bool.false_ne_true), hb]
    rfl

theorem watch_blocked (hs : Settled s) (hsil : silent = decide (s.red.beatAt + leaseNs s + 1000000 ≤ max s.tim.now (nextOf 250000 (lastOf .wake s)))) :
    (s.red.st = .standby ∨ s.red.st = .warm → s.red.ready = false → silent = true → s.red.blocked = false → Completes .recessWake s (fun t => RaisedOnce 0x1E7 s t ∧ (s.pwr.trans = none → t.pwr.trans.map (fun x => x.target) = some .run) ∧
      t = { s with tim := (every .wake 250000 s).tim, red := { s.red with blocked := true }, pwr := t.pwr, flt := t.flt })) := by
  intro h h1 h2 h3
  let e : Ev := blockedEvent (every .wake 250000 s)
  let z : State := setRed { s.red with blocked := true } (every .wake 250000 s)
  obtain ⟨p, g, he, ho⟩ := requestPower_repowered .run none (raise e z)
  have hop : opRecessWake s = requestPower .run none (raise e z) := by
    rw [recessWake_eq h hsil, h2, h1, h3]
    rfl
  have hpwr : s.pwr.trans = none → p.trans.map (fun x => x.target) = some .run := fun ht => by
    have hup : (requestPower .run none (raise e z)).pwr = p := by rw [he]
    rw [← hup, requestPower_starts (s := raise e z) ht]
    rfl
  exact completes_of rfl (hop.trans he) ((ho 0 (by decide)).1.trans ((raise_resetQ e z rfl).trans hs)) ⟨OtherRaises.count (e := e) (s := z) (.refl _ _) rfl (ho 0x1E7 (by decide)), hpwr, rfl⟩

theorem watch_takes (hsil : silent = decide (s.red.beatAt + leaseNs s + 1000000 ≤ max s.tim.now (nextOf 250000 (lastOf .wake s)))) (h : s.red.st = .standby ∨ s.red.st = .warm)
    (h1 : silent = true ∨ s.red.fencedHeard = true) (h2 : s.red.ready = true) : opRecessWake s = takeTablet (if silent then 0 else 1) (every .wake 250000 s) := by
  have hb : (!silent && !s.red.fencedHeard) = false := by
    rcases h1 with h | h <;> rw [h]
    · rfl
    · exact Bool.and_false _
  rw [recessWake_eq h hsil, hb, h2]
  rfl

theorem standby_takes (hs : Settled s) (hsil : silent = decide (s.red.beatAt + leaseNs s + 1000000 ≤ max s.tim.now (nextOf 250000 (lastOf .wake s)))) :
    (s.red.st = .standby → silent = true ∨ s.red.fencedHeard = true → s.red.ready = true → Completes .recessWake s (fun t => t.red.st = .taking ∧ t.red.gen = (s.red.gen + 1) % 2 ^ 32 ∧
      t.red.cause = (if silent = true then 0 else 1) ∧ RaisedOnce 0x1E0 s t ∧ (s.pwr.trans = none → t.pwr.trans.map (fun x => x.target) = some .run) ∧
      t = { s with tim := (every .wake 250000 s).tim, red := t.red, pwr := t.pwr, aqf := t.aqf, flt := t.flt, wire := t.wire })) := by
  intro hst h1 h2
  obtain ⟨v, htook, htake⟩ := takeTablet_takes (if silent then 0 else 1) (every .wake 250000 s)
  have hvs : Settled v := htook.settled (s := every .wake 250000 s) hs
  obtain ⟨a, f, hv, hq, hone, -, -⟩ := htook
  have hvf : v.flt = f := by rw [hv]
  obtain ⟨u, hu⟩ : ∃ u, u = requestPower .run none v := ⟨_, rfl⟩
  obtain ⟨p, g, he, ho⟩ := hu ▸ requestPower_repowered .run none v
  rw [hvf] at ho
  have hop : opRecessWake s = u := (watch_takes hsil (.inl hst) h1 h2).trans (htake.trans ((if_pos hst).trans hu.symm))
  refine completes_of rfl hop (by rw [he]; exact (ho 0 (by decide)).1.trans (hvf ▸ hvs)) ⟨?_, ?_, ?_, ?_, fun ht => ?_, ?_⟩
  · rw [he, hv]; rfl
  · rw [he, hv]; rfl
  · rw [he, hv]; rfl
  · rw [he]; exact (congrArg SrcStat.count (ho 0x1E0 (by decide)).2.1).trans hone
  · rw [hu, requestPower_starts (by rw [hv]; exact ht)]
    rfl
  · rw [he, hv]; rfl

theorem warm_takes (hs : Settled s) (hsil : silent = decide (s.red.beatAt + leaseNs s + 1000000 ≤ max s.tim.now (nextOf 250000 (lastOf .wake s)))) :
    (s.red.st = .warm → silent = true ∨ s.red.fencedHeard = true → s.red.ready = true → Completes .recessWake s (fun t => t.red.gen = (s.red.gen + 1) % 2 ^ 32 ∧ RaisedOnce 0x1E0 s t ∧
      (s.red.warmEnd.isSome = true ∨ s.red.asked = true → t.red.st = .sole ∧ t.red.driveAt = some t.tim.now) ∧ t.tim = (every .wake 250000 s).tim ∧ (s.red.warmEnd = none → s.red.asked = false → t.red.st = .taking) ∧
      (s.red.bound.isSome = true → s.red.confirmed = false → RaisedOnce 0x1EA s t) ∧ t.pwr = s.pwr)) := by
  intro hst h1 h2
  obtain ⟨v, htook, htake⟩ := takeTablet_takes (if silent then 0 else 1) (every .wake 250000 s)
  have hvs : Settled v := htook.settled (s := every .wake 250000 s) hs
  obtain ⟨a, f, hv, hq, hone, -, hgap⟩ := htook
  have hvf : v.flt = f := by rw [hv]
  have hne : s.red.st ≠ .standby := by rw [hst]; nofun
  have hgap' : s.red.bound.isSome = true → s.red.confirmed = false → (tgetD f.stat 0x1EA {}).count = min ((tgetD s.flt.stat 0x1EA {}).count + 1) 255 := fun hb hc =>
    hgap (by unfold gapHere; show (s.red.st == .warm && s.red.bound.isSome && !s.red.confirmed) = true; rw [hst, hb, hc]; rfl)
  by_cases hw : (s.red.warmEnd.isNone && !s.red.asked) = true
  · obtain ⟨hw1, hw2⟩ := Bool.and_eq_true_iff.mp hw
    have hop : opRecessWake s = v := (watch_takes hsil (.inr hst) h1 h2).trans (htake.trans ((if_neg hne).trans (if_pos (by
      show (decide (s.red.st = .warm) && s.red.warmEnd.isNone && !s.red.asked) = true
      rw [decide_eq_true hst, hw1, hw2]; rfl))))
    refine completes_of rfl hop hvs ⟨?_, ?_, fun h => ?_, ?_, fun _ _ => ?_, fun hb hc => ?_, ?_⟩
    · rw [hv]; rfl
    · rw [hv]; exact hone
    · rcases h with h | h
      · rw [Option.isNone_iff_eq_none.mp hw1] at h
        exact nomatch h
      · rw [h] at hw2
        exact nomatch hw2
    · rw [hv]; rfl
    · rw [hv]; rfl
    · rw [hv]; exact hgap' hb hc
    · rw [hv]; rfl
  · obtain ⟨st, fr, tt, a', g, q, o, h, he, ho⟩ := drive_drives v
    have hdf : (driving v).flt = f := hvf
    rw [hdf] at ho
    have hop : opRecessWake s = drive v := (watch_takes hsil (.inr hst) h1 h2).trans (htake.trans ((if_neg hne).trans (if_neg (by
      show ¬((decide (s.red.st = .warm) && s.red.warmEnd.isNone && !s.red.asked) = true)
      rw [decide_eq_true hst, Bool.true_and]; exact hw))))
    refine completes_of rfl hop (by rw [he]; exact (ho 0 (by decide)).1.trans (hvf ▸ hvs)) ⟨?_, ?_, fun _ => ⟨?_, ?_⟩, ?_, fun hw1 hw2 => ?_, fun hb hc => ?_, ?_⟩
    · rw [he, hv]; rfl
    · rw [he]; exact (congrArg SrcStat.count (ho 0x1E0 (by decide)).2.1).trans hone
    · rw [he]; rfl
    · rw [he]; rfl
    · rw [he, hv]; rfl
    · exact absurd (by rw [hw1, hw2]; rfl) hw
    · rw [he]; exact (congrArg SrcStat.count (ho 0x1EA (by decide)).2.1).trans (hgap' hb hc)
    · rw [he, hv]; rfl

/-! ## The Wake step (R366) -/

theorem wakeDone_wakes (hs : Settled s) :
    (s.red.st = .taking ∨ s.red.st = .warm → s.pwr.st = .recess → s.pwr.trans = some x → x.target = .run → x.todo = [] → s.pwr.pend = none → Completes .takeoverWakeDone s (fun t => t.pwr.st = .run ∧ t.pwr.trans = none ∧
      RaisedOnce 0x208 s t ∧ RaisedOnce 0x200 s t ∧ t.flows = [] ∧ t.red = s.red ∧ t.pwr.wakeCause = (if s.red.st = .warm then 7 else 4 + s.red.cause))) := by
  intro hst hr hx ht htodo hp
  have hop : opTakeoverWakeDone s = opPwrTransitionDone s := by
    unfold opTakeoverWakeDone
    rw [if_pos (by rcases hst with h | h <;> rw [h] <;> rfl), hx]
    exact if_pos ht
  obtain ⟨t, hd, h208, h200, hpwr, hwarm, htaking, -, hfl, -⟩ := leave_recess (k := 0) hs hx htodo hp hr (.inl ht)
  have hred : opPwrTransitionDone s = startPending (raise (reachedEvent x) (raise { src := 0x208, data := [(1, wakeCode (powered x.target (transitOver s)))] } (leftRecess x.target (transitOver s)))) := by
    rw [transitionDone_eq hx htodo, if_neg (by rw [ht]; nofun), enterPower_leaves (s := transitOver s) hr (.inl ht)]
    rw [if_pos (show ((transitOver s).red.st == .taking || (transitOver s).red.st == .warm) = true from by
      show (s.red.st == .taking || s.red.st == .warm) = true
      rcases hst with h | h <;> rw [h] <;> rfl)]
  refine ⟨t, (congrArg (fun z => Host.Outcome.next (settle z)) hop).trans hd, by rw [hpwr, ht], by rw [hpwr], h208, h200.1, hfl, ?_, ?_⟩
  · have hq : Settled (startPending (raise (reachedEvent x) (raise { src := 0x208, data := [(1, wakeCode (powered x.target (transitOver s)))] } (leftRecess x.target (transitOver s))))) := by
      rw [startPending_none (by exact hp)]
      exact (raise_resetQ (reachedEvent x) (raise { src := 0x208, data := [(1, wakeCode (powered x.target (transitOver s)))] } (leftRecess x.target (transitOver s))) rfl).trans
        ((raise_resetQ { src := 0x208, data := [(1, wakeCode (powered x.target (transitOver s)))] } (leftRecess x.target (transitOver s)) rfl).trans hs)
    have heq : Host.Outcome.next (settle (opPwrTransitionDone s)) = .next t := hd
    rw [hred, settle_of_nil _ hq, startPending_none (by exact hp)] at heq
    rw [← Host.Outcome.next.inj heq]
    rfl
  · rcases hst with h | h
    · rw [h, if_neg nofun]; exact htaking h
    · rw [h, if_pos rfl]; exact hwarm h

theorem wakeDone_stays (hs : Settled s) :
    (s.pwr.trans = none ∨ (s.red.st ≠ .taking ∧ s.red.st ≠ .warm) → Completes .takeoverWakeDone s (fun t => t = s)) := by
  intro h
  refine completes_of rfl ?_ hs rfl
  unfold opTakeoverWakeDone
  split
  · next hb =>
    rcases h with h | ⟨h1, h2⟩
    · rw [h]
    · rw [beq_eq_false_iff_ne.mpr h1, beq_eq_false_iff_ne.mpr h2] at hb
      exact nomatch hb
  · rfl

end
end Sys2Proof.Machine

/-! SUPPORT. The image applied, and the Restore step (R362, R366). -/
namespace Sys2Proof.Machine
open Sys2Proof

/-! ## Records applied -/

/-- From `s` to `t` the counter, the power state and the pair's own state have stayed, and no block reset was decided. -/
def Applied (s t : State) : Prop :=
  ∃ cs fo q o, t.tim = { s.tim with cands := cs, forced := fo } ∧ t.red = { s.red with jseq := q, jout := o } ∧ t.pwr = s.pwr ∧ t.flt.resetQ = s.flt.resetQ

theorem Applied.of_same {s t : State} (ht : t.tim = s.tim) (hr : t.red = s.red) (hp : t.pwr = s.pwr) (hf : t.flt = s.flt) : Applied s t :=
  ⟨_, _, _, _, ht, hr, hp, congrArg Flt.resetQ hf⟩

theorem Applied.refl (s : State) : Applied s s := .of_same rfl rfl rfl rfl

theorem Applied.trans {s t u : State} (h1 : Applied s t) (h2 : Applied t u) : Applied s u := by
  obtain ⟨_, _, _, _, ht, hr, hp, hf⟩ := h1
  obtain ⟨cs, fo, q, o, ht', hr', hp', hf'⟩ := h2
  exact ⟨cs, fo, q, o, by rw [ht', ht], by rw [hr', hr], hp'.trans hp, hf'.trans hf⟩

theorem Losing.applied {s t : State} (h : Losing s t) : Applied s t := by
  obtain ⟨cs, fo, f, rfl, ho⟩ := h
  exact ⟨cs, fo, _, _, rfl, rfl, rfl, (ho 0 (by decide) (by decide)).1⟩

theorem Rested.applied {s t : State} (h : Rested s t) : Applied s t := by
  obtain ⟨q, cs, fo, f, w, rfl, ho⟩ := h
  exact ⟨cs, fo, _, _, rfl, rfl, rfl, (ho 0 (by decide) (by decide) (by decide)).1⟩

theorem deleteFlow_applied (n : Nat) (s : State) : Applied s (deleteFlow n s) := by
  obtain ⟨q, o, h⟩ := deleteFlow_removes n s
  rw [h]
  exact ⟨_, _, q, o, rfl, rfl, rfl, rfl⟩

theorem applyFlow_applied (l : List Byte) (s : State) : Applied s (applyFlow l s) := by
  unfold applyFlow
  dsimp only
  split
  · exact deleteFlow_applied _ s
  · split
    · exact .of_same rfl rfl rfl rfl
    · exact .of_same rfl rfl rfl rfl

theorem setRx_applied (p : Nat) (x : SdiRx) (s : State) : Applied s (setRx p x s) := .of_same rfl rfl rfl rfl

theorem applyPort_applied (l : List Byte) (s : State) : Applied s (applyPort l s) := by
  unfold applyPort
  dsimp only
  split
  · split
    · exact (leaveIdentified_losing _ s).applied.trans (setRx_applied _ _ _)
    · exact .of_same rfl rfl rfl rfl
  · exact .of_same rfl rfl rfl rfl
  · exact .of_same rfl rfl rfl rfl

theorem applyPageState_applied (l : List Byte) (s : State) : Applied s (applyPageState l s) := by
  unfold applyPageState
  split
  · exact .refl s
  · exact .of_same rfl rfl rfl rfl

theorem applyRoute_applied (l : List Byte) (s : State) : Applied s (applyRoute l s) := by
  unfold applyRoute
  dsimp only
  split
  · exact .of_same rfl rfl rfl rfl
  · exact .of_same rfl rfl rfl rfl

theorem applyProc_applied (l : List Byte) (s : State) : Applied s (applyProc l s) := by
  unfold applyProc
  dsimp only
  split
  · exact .of_same rfl rfl rfl rfl
  · exact .of_same rfl rfl rfl rfl

theorem applyDelays_applied (l : List Byte) (s : State) : Applied s (applyDelays l s) := by
  unfold applyDelays
  dsimp only
  split <;> split <;> exact .of_same rfl rfl rfl rfl

theorem applyAudio_applied (l : List Byte) (s : State) : Applied s (applyAudio l s) := by
  unfold applyAudio
  split
  · exact .of_same rfl rfl rfl rfl
  · exact applyDelays_applied l s
  · exact .of_same rfl rfl rfl rfl

theorem applyPlatform_applied (l : List Byte) (s : State) : Applied s (applyPlatform l s) := by
  unfold applyPlatform
  dsimp only
  split
  · split
    · exact .of_same rfl rfl rfl rfl
    · exact .refl s
  · split
    · exact .of_same rfl rfl rfl rfl
    · exact .refl s
  · exact .of_same rfl rfl rfl rfl
  · exact .of_same rfl rfl rfl rfl

theorem applyRecord_applied (r : JRec) (s : State) : Applied s (applyRecord r s) := by
  unfold applyRecord
  dsimp only
  split
  · exact applyFlow_applied _ s
  · exact .of_same rfl rfl rfl rfl
  · exact applyPort_applied _ s
  · exact .of_same rfl rfl rfl rfl
  · exact .of_same rfl rfl rfl rfl
  · exact applyPageState_applied _ s
  · exact .of_same rfl rfl rfl rfl
  · exact applyRoute_applied _ s
  · exact .of_same rfl rfl rfl rfl
  · exact applyProc_applied _ s
  · exact applyAudio_applied _ s
  · exact applyPlatform_applied _ s
  · exact .refl s

theorem applyRecords_applied (l : List JRec) (s : State) : Applied s (l.foldl (fun s r => applyRecord r s) s) := by
  induction l generalizing s with
  | nil => exact .refl s
  | cons r l ih => exact (applyRecord_applied r s).trans (ih _)

theorem clearCore_applied (s : State) : Applied s (clearCore s) := .of_same rfl rfl rfl rfl

/-! ## The Restore step -/

/-- A MAC that leaves low-power idle for good. -/
def eeeOff (s : State) (m : Nat) : State := wr s .nmpEee m 0 (clrBit (rd s .nmpEee m) 31)

theorem eeeOffs_regs (l : List Nat) (s : State) : ∃ g, l.foldl eeeOff s = { s with regs := g } := by
  induction l generalizing s with
  | nil => exact ⟨_, rfl⟩
  | cons m l ih =>
    obtain ⟨g, h⟩ := ih (eeeOff s m)
    exact ⟨g, h⟩

theorem regOff_eee_ne {k m : Nat} (h : k ≠ m) : regOff .nmpEee k 0 ≠ regOff .nmpEee m 0 := by
  show 0x900018 + 32 * k + 0 * 0 ≠ 0x900018 + 32 * m + 0 * 0
  omega

theorem eeeOff_same (s : State) (m : Nat) : bit (rd (eeeOff s m) .nmpEee m) 31 = false := by
  have hrd : rd s .nmpEee m < 2 ^ 32 := BitVec.isLt _
  unfold eeeOff
  rw [rd_wr_same, Nat.mod_eq_of_lt (Nat.lt_of_le_of_lt (clrBit_le _ _) hrd)]
  exact bit_clrBit_same _ _

theorem eeeOff_ne (s : State) {k m : Nat} (h : k ≠ m) : rd (eeeOff s m) .nmpEee k = rd s .nmpEee k := rd_wr_ne s .nmpEee .nmpEee m 0 k 0 _ (regOff_eee_ne h)

theorem eeeOffs_off (l : List Nat) (s : State) {k : Nat} (h : k ∈ l ∨ bit (rd s .nmpEee k) 31 = false) : bit (rd (l.foldl eeeOff s) .nmpEee k) 31 = false := by
  induction l generalizing s with
  | nil => exact h.resolve_left List.not_mem_nil
  | cons m l ih =>
    refine ih (eeeOff s m) ?_
    by_cases hk : k = m
    · exact .inr (hk ▸ eeeOff_same s m)
    · rw [eeeOff_ne s hk]
      exact h.imp_left fun h => (List.mem_cons.mp h).resolve_left hk

theorem rd_regs {s t : State} (h : t.regs = s.regs) (r : Reg) (i : Nat) : rd t r i = rd s r i := by
  unfold rd
  rw [h]

theorem regOff_eee_octets (k : Nat) : regOff .nmpEee k 0 ≠ regOff .svpOctetCfg 0 0 := by
  show 0x900018 + 32 * k + 0 * 0 ≠ 0x800000 + 0 * 0 + 0 * 0
  omega

/-- A unit with its image applied. -/
def imaged (s : State) : State := applyImage (clearCore s)

theorem imaged_applied (s : State) : Applied s (imaged s) := (clearCore_applied s).trans (applyRecords_applied _ _)

/-- The Restore step: EEE_EN is clear in every MAC, and every octet is on. -/
theorem restoreCore_restores (s : State) : ∃ g mc fl, restoreCore s = { imaged s with regs := g, nmp := mc, flows := fl } ∧ ((imaged s).flows = [] → fl = []) ∧
    ∀ t : State, t.regs = g → rd t .svpOctetCfg 0 = 0xFF ∧ ∀ k, k < 16 → bit (rd t .nmpEee k) 31 = false := by
  obtain ⟨u, hu⟩ : ∃ u, u = (List.range 16).foldl eeeOff (imaged s) := ⟨_, rfl⟩
  have hoff (k : Nat) (hk : k < 16) : bit (rd u .nmpEee k) 31 = false := hu ▸ eeeOffs_off _ _ (.inl (List.mem_range.mpr hk))
  obtain ⟨g, hg⟩ := hu ▸ eeeOffs_regs (List.range 16) (imaged s)
  have hop : restoreCore s = awaitInputs (wr (restMacs false u) .svpOctetCfg 0 0 0xFF) := by rw [hu]; rfl
  obtain ⟨v, hv⟩ : ∃ v, v = wr (restMacs false u) .svpOctetCfg 0 0 0xFF := ⟨_, rfl⟩
  have hvw : v.regs = (wr u .svpOctetCfg 0 0 0xFF).regs := by rw [hv]; rfl
  refine ⟨v.regs, v.nmp, awaited v, ?_, fun h => ?_, fun t ht => ⟨?_, fun k hk => ?_⟩⟩
  · rw [hop, ← hv]
    show ({ v with flows := awaited v } : State) = _
    rw [show v = { restMacs false u with regs := v.regs } by rw [hv]; rfl, hg]
    rfl
  · have hfl : v.flows = (imaged s).flows := by rw [hv, hg]; rfl
    unfold awaited
    rw [hfl, h]
    rfl
  · rw [rd_regs (ht.trans hvw), rd_wr_same]
    rfl
  · rw [rd_regs (ht.trans hvw), rd_wr_ne u .svpOctetCfg .nmpEee 0 0 k 0 _ (regOff_eee_octets k)]
    exact hoff k hk

theorem helloAll_sent (s : State) : Sent s (helloAll s) := Sent.foldl (fun s n => sendLocal_sent n 1 _ s) _ s

/-- The unit after the Restore step, its links returning. -/
theorem restored_wakes (s : State) : ∃ a cs fo f w, wakeLinks (restoreCore s) = { restoreCore s with aqf := a, tim := { (restoreCore s).tim with cands := cs, forced := fo }, flt := f, wire := w } ∧ f.resetQ = s.flt.resetQ ∧
    (restoreCore s).tim.now = s.tim.now ∧ ∃ q o, (restoreCore s).red = { s.red with jseq := q, jout := o } := by
  obtain ⟨a, cs, fo, f, w, he, ho⟩ := wakeLinks_rested (restoreCore s)
  obtain ⟨rg, mc, fl, hr, -⟩ := restoreCore_restores s
  obtain ⟨cs', fo', q, o, ht, hred, -, hf⟩ := imaged_applied s
  have hrf : (restoreCore s).flt = (imaged s).flt := by rw [hr]
  refine ⟨a, cs, fo, f, w, he, (ho 0 (by decide) (by decide) (by decide)).1.trans (by rw [hrf]; exact hf), ?_, q, o, ?_⟩
  · have hrt : (restoreCore s).tim = (imaged s).tim := by rw [hr]
    rw [hrt, ht]
  · have hrr : (restoreCore s).red = (imaged s).red := by rw [hr]
    rw [hrr, hred]

section
variable {s : State} {k n : Nat} {r : JRec}

theorem restoreDone_stays (hs : Settled s) :
    (s.pwr.st ≠ .run ∨ (s.red.st ≠ .taking ∧ s.red.st ≠ .warm) ∨ (s.red.st = .warm ∧ s.red.warmEnd.isSome = true) → Completes .takeoverRestoreDone s (fun t => t = s)) := by
  intro h
  refine completes_of rfl ?_ hs rfl
  unfold opTakeoverRestoreDone
  split
  · rfl
  · next hrun =>
    have hrun : s.pwr.st = .run := by
      cases hp : s.pwr.st with
      | run => rfl
      | trim => exact absurd (by rw [hp]; rfl) hrun
      | recess => exact absurd (by rw [hp]; rfl) hrun
      | off => exact absurd (by rw [hp]; rfl) hrun
    rcases h with h | ⟨h1, h2⟩ | ⟨h1, h2⟩
    · exact absurd hrun h
    · rw [beq_eq_false_iff_ne.mpr h1, beq_eq_false_iff_ne.mpr h2]; rfl
    · unfold restored
      rw [h1, h2]; rfl

theorem restoreDone_drives (hs : Settled s) :
    (s.pwr.st = .run → s.red.st = .taking → Completes .takeoverRestoreDone s (fun t => t.red.st = .sole ∧ t.red.driveAt = some s.tim.now ∧ drives t = true ∧ (k < 16 → bit (rd t .nmpEee k) 31 = false) ∧ rd t .svpOctetCfg 0 = 0xFF ∧
      (s.red.image = [] → t.flows = [] ∧ t.consists = []) ∧ (s.red.image = [r] → r.type = 0x20 → fieldAt r.data 0 2 = n → tgetD t.swc.xp n {} = { sel := bit (fieldAt r.data 2 4) 31, mgmt := bit (fieldAt r.data 2 4) 29, page := bits (fieldAt r.data 2 4) 28 23, src := bits (fieldAt r.data 2 4) 15 0, wrote := s.tim.now }))) := by
  intro hrun hst
  obtain ⟨v, hv⟩ : ∃ v, v = wakeLinks (restoreCore s) := ⟨_, rfl⟩
  obtain ⟨a, cs, fo, f, w, he, hf, hnow, q0, o0, hred⟩ := restored_wakes s
  rw [← hv] at he
  obtain ⟨rg, mc, fl, hr, hfl, hrg⟩ := restoreCore_restores s
  obtain ⟨st, fr, tt, a', g, q, o, h, hd, ho⟩ := drive_drives v
  obtain ⟨a2, f2, hh, ho2⟩ := helloAll_sent (drive v)
  have hop : opTakeoverRestoreDone s = helloAll (drive v) := by
    rw [hv]
    unfold opTakeoverRestoreDone
    rw [hrun, hst]
    rfl
  have hvf : (driving v).flt = f := by rw [he]; rfl
  have hdf : (drive v).flt = g := by rw [hd]
  rw [hvf] at ho
  rw [hdf] at ho2
  obtain ⟨t, ht⟩ : ∃ t, t = helloAll (drive v) := ⟨_, rfl⟩
  have hregs : t.regs = rg := by rw [ht, hh, hd, he, hr]; rfl
  have hxp : t.swc = (imaged s).swc := by rw [ht, hh, hd, he, hr]; rfl
  have hred : t.red.st = .sole ∧ t.red.driveAt = some s.tim.now := by
    rw [ht, hh, hd]
    refine ⟨rfl, ?_⟩
    rw [← hnow, he]; rfl
  have hflows : t.flows = awaited v := by rw [ht, hh, hd]; rfl
  have hcons : t.consists = (imaged s).consists := by rw [ht, hh, hd, he, hr]; rfl
  refine completes_of rfl (hop.trans ht.symm) (by rw [ht, hh]; exact (ho2 0 (by decide)).1.trans ((ho 0 (by decide)).1.trans (hf.trans hs))) ⟨hred.1, hred.2, ?_, fun hk => ?_, ?_, fun hi => ⟨?_, ?_⟩, fun hi ht hn => ?_⟩
  · unfold drives
    rw [hred.1]
  · exact (hrg t hregs).2 k hk
  · exact (hrg t hregs).1
  · have himg : imaged s = clearCore s := by
      unfold imaged applyImage
      rw [show (clearCore s).red.image = [] from hi]
      rfl
    have hvfl : v.flows = [] := by rw [he, hr]; exact hfl (by rw [himg]; rfl)
    rw [hflows]
    unfold awaited
    rw [hvfl]
    rfl
  · have himg : imaged s = clearCore s := by
      unfold imaged applyImage
      rw [show (clearCore s).red.image = [] from hi]
      rfl
    rw [hcons, himg]
    rfl
  · have himg : imaged s = applyXp r.data (clearCore s) := by
      unfold imaged applyImage
      have hno : namesOthers r = false := by unfold namesOthers; rw [ht]; rfl
      rw [show (clearCore s).red.image = [r] from hi, List.filter_cons, List.filter_cons, hno]
      show applyRecord r (clearCore s) = _
      unfold applyRecord
      rw [ht]
      rfl
    rw [hxp, himg, ← hn]
    exact tgetD_tput_same _ _ _ _

theorem restoreDone_warms (hs : Settled s) :
    (s.pwr.st = .run → s.red.st = .warm → s.red.warmEnd = none → s.red.asked = false → s.red.bound = none → Completes .takeoverRestoreDone s (fun t => t.red.st = .warm ∧ t.red.warmEnd.isSome = true ∧ drives t = false ∧ (k < 16 → bit (rd t .nmpEee k) 31 = false))) := by
  intro hrun hst hw hask hb
  obtain ⟨v, hv⟩ : ∃ v, v = wakeLinks (restoreCore s) := ⟨_, rfl⟩
  obtain ⟨a, cs, fo, f, w, he, hf, hnow, q0, o0, hred⟩ := restored_wakes s
  rw [← hv] at he
  obtain ⟨rg, mc, fl, hr, hfl, hrg⟩ := restoreCore_restores s
  have hop : opTakeoverRestoreDone s = startWarm v := by
    rw [hv]
    unfold opTakeoverRestoreDone restored
    rw [hrun, hst, hw, hask, hb]
    rfl
  have hvr : v.red.st = .warm := by
    rw [he]
    exact (congrArg Red.st hred).trans hst
  refine completes_of rfl hop (by show v.flt.resetQ = []; rw [he]; exact hf.trans hs) ⟨hvr, rfl, ?_, fun hk => ?_⟩
  · unfold drives
    show (match v.red.st with | .unpaired => true | .sole => true | .active => true | _ => false) = false
    rw [hvr]
  · have hregs : v.regs = rg := by rw [he, hr]
    exact (hrg (startWarm v) hregs).2 k hk

end
end Sys2Proof.Machine

/-! SUPPORT. First commits, restored flows, and the journal confirmed and received (R360 to R363, R368, R371). -/
namespace Sys2Proof.Machine
open Sys2Proof

/-! ## The first commit (R368) -/

/-- From `s` to `t` the counter has not run back, the domains whose first commit is to come have stayed, and FIRST_COMMIT has not been raised. -/
def Committed (s t : State) : Prop := s.tim.now ≤ t.tim.now ∧ t.red.uncommitted = s.red.uncommitted ∧ OtherRaises 0x1E8 s.flt t.flt

theorem Committed.refl (s : State) : Committed s s := ⟨Nat.le_refl _, rfl, .refl _ _⟩

theorem Committed.trans {s t u : State} (h1 : Committed s t) (h2 : Committed t u) : Committed s u :=
  ⟨h1.1.trans h2.1, h2.2.1.trans h1.2.1, h1.2.2.trans h2.2.2⟩

theorem Committed.foldl {α : Type} {op : State → α → State} (h : ∀ s x, Committed s (op s x)) (l : List α) (s : State) : Committed s (l.foldl op s) := by
  induction l generalizing s with
  | nil => exact .refl s
  | cons x l ih => exact (h s x).trans (ih _)

theorem Committed.of_same {s t : State} (ht : t.tim = s.tim) (hr : t.red = s.red) (hf : t.flt = s.flt) : Committed s t :=
  ⟨by rw [ht], by rw [hr], by rw [hf]; exact .refl _ _⟩

theorem journal_committed (type : Nat) (data : List Byte) (s : State) : Committed s (journal type data s) := by
  obtain ⟨q, o, h⟩ := journal_journalled type data s
  rw [h]
  exact ⟨Nat.le_refl _, rfl, .refl _ _⟩

theorem Finished.committed {s t : State} (h : Finished s t) : Committed s t := by
  obtain ⟨tt, f, q, o, rfl, ho⟩ := h
  exact ⟨Nat.le_refl _, rfl, ho 0x1E8 (by decide)⟩

theorem setXpGain_committed (o i g ramp s0 : Nat) (w : AudWrite) (s : State) : Committed s (setXpGain o i g ramp s0 w s) := by
  unfold setXpGain
  dsimp only
  split
  · exact .of_same rfl rfl rfl
  · split
    · exact .refl s
    · exact .of_same rfl rfl rfl

theorem writeXp_committed (o i g ramp s0 : Nat) (tk : Bool) (w : AudWrite) (s : State) : Committed s (writeXp o i g ramp s0 tk w s) := by
  unfold writeXp
  split
  · exact .of_same rfl rfl rfl
  · cases tk
    · exact setXpGain_committed o i g ramp s0 w s
    · exact (Committed.of_same rfl rfl rfl).trans (setXpGain_committed o i g ramp s0 w (setXps o _ s))

theorem writeChange_committed (n : Nat) (p : Page) (c : Change) (s : State) : Committed s (writeChange n p c s) := by
  unfold writeChange
  cases c with
  | word w sel src =>
    dsimp only
    unfold journalXp
    exact Committed.trans (t := setXp w _ s) (.of_same rfl rfl rfl) (journal_committed 0x20 _ _)
  | audio o i g ramp off tk => exact (writeXp_committed o i g ramp _ tk _ s).trans (journal_committed 0x50 _ _)
  | param pf set => exact .of_same rfl rfl rfl
  | mask _ _ _ => exact .refl s

theorem pageActivation_committed (id : Nat) (s : State) : Committed s (opPageActivation id s) := by
  unfold opPageActivation
  split
  · exact .refl s
  · next n _ =>
    dsimp only
    split
    · exact .refl s
    · generalize pageT s (page s n) = t
      have h1 : Committed s (setPage n { page s n with pst := .applying, unlatched := changeWords (page s n).changes } (atLeast t s)) :=
        ⟨Nat.le_max_left _ _, rfl, .refl _ _⟩
      exact ((h1.trans (Committed.foldl (fun s c => writeChange_committed n (page _ n) c s) _ _)).trans (journal_committed 0x22 _ _)).trans (finishPage_finished n _).committed

theorem commitPages_committed (d n : Nat) (s : State) : Committed s (commitPages d n s) :=
  Committed.foldl (fun s id => pageActivation_committed id s) _ s

/-- A crosspoint that rises at the first commit of a domain: its output is of the domain, and no restored flow feeds it. -/
def risesAt (d : Nat) (s : State) (o i : Nat) : Bool :=
  (match ownerOut s o with
    | some (_, g) => g.domain == d
    | none => false) &&
  (match ownerIn s i with
    | some (_, f) => f.restore.isNone
    | none => true)

/-- A domain's first commit as it is reported. -/
def firstCommitEvent (s : State) (d a : Nat) : Ev := { src := 0x1E8, data := [(1, d), (4, fiAt s d (boundaryFrom s d (a + framesNs s d 1)) % 2 ^ 32)] }

/-- A unit at a domain's first commit, its committed pages not yet activated. -/
def atCommit (d a : Nat) (s : State) : State :=
  setRed { s.red with uncommitted := s.red.uncommitted.filter (fun x => x != d) } (atLeast (boundaryFrom s d (a + framesNs s d 1)) s)

section
variable {s z : State} {a d n k typ fi path : Nat} {l : List Byte} {m : PairMsg} {r : JRec} {b : List JRec}

theorem firstCommit_eq {v : State} (ha : s.red.driveAt = some a) (hd : s.red.uncommitted.contains d = true) (hv : v = commitPages d (fiAt s d (boundaryFrom s d (a + framesNs s d 1))) (atCommit d a s)) :
    opFirstCommit d s = raise (firstCommitEvent s d a) (riseXps (periodFrom v v.tim.now) (risesAt d v) v) := by
  unfold opFirstCommit
  rw [ha, hv]
  dsimp only
  rw [hd]
  rfl

theorem firstCommit_commits (hs : Settled s) :
    (s.red.driveAt = none ∨ s.red.uncommitted.contains d = false → Completes (.firstCommit d) s (fun t => t = s)) ∧
    (s.red.driveAt = some a → s.red.uncommitted.contains d = true → Completes (.firstCommit d) s (fun t => max s.tim.now (boundaryFrom s d (a + framesNs s d 1)) ≤ t.tim.now ∧
      Raised 0x1E8 [(1, d), (4, fiAt s d (boundaryFrom s d (a + framesNs s d 1)) % 2 ^ 32)] 0 s t ∧ t.red.uncommitted = s.red.uncommitted.filter (fun x => x != d) ∧
      (s.tt.slots = [] → t = { s with tim := { s.tim with now := max s.tim.now (boundaryFrom s d (a + framesNs s d 1)) }, red := { s.red with uncommitted := t.red.uncommitted }, aud := { s.aud with xps := t.aud.xps }, flt := t.flt }))) := by
  refine ⟨fun h => completes_of rfl ?_ hs rfl, fun ha hd => ?_⟩
  · unfold opFirstCommit
    split
    · rfl
    · next t ht =>
      rcases h with h | h
      · exact nomatch ht.symm.trans h
      · rw [h]; rfl
  · obtain ⟨v, hv⟩ : ∃ v, v = commitPages d (fiAt s d (boundaryFrom s d (a + framesNs s d 1))) (atCommit d a s) := ⟨_, rfl⟩
    obtain ⟨hnow, hun, hfl⟩ := hv ▸ commitPages_committed d (fiAt s d (boundaryFrom s d (a + framesNs s d 1))) (atCommit d a s)
    have hop := firstCommit_eq ha hd hv
    let e := firstCommitEvent s d a
    let u := riseXps (periodFrom v v.tim.now) (risesAt d v) v
    have hou : OtherRaises 0x1E8 s.flt u.flt := hfl
    refine completes_of rfl hop ((raise_resetQ e u rfl).trans (hou.1.trans hs)) ⟨hnow, (raise_raised e u rfl).after hou, hun, fun hslots => ?_⟩
    have hve : v = atCommit d a s := by
      rw [hv]
      unfold commitPages
      rw [show (atCommit d a s).tt.slots = [] from hslots]
      rfl
    obtain ⟨x, f, hxf⟩ : ∃ x f, raise e u = { v with aud := { v.aud with xps := x }, flt := f } := ⟨_, _, rfl⟩
    rw [hxf, hve]
    rfl

theorem restoredFlow_holds (hs : Settled s) :
    (n = normFlow k → (flowD s n).restore = some a → holds s = true → (flowD s n).st = .running → (flowD s n).stop = none → Completes (.restoredFlowTimeout k) s (fun t => t.tim.now = max s.tim.now a ∧ (flowD t n).st = .held ∧ (flowD t n).restore = none ∧
      RaisedOnce 0x07C s t ∧ (d ≠ n → flowD t d = flowD s d) ∧ t = { s with tim := { s.tim with now := t.tim.now }, flows := t.flows, red := { s.red with jseq := t.red.jseq, jout := t.red.jout }, flt := t.flt })) ∧
    ((flowD s (normFlow k)).restore = none ∨ holds s = false → Completes (.restoredFlowTimeout k) s (fun t => t = s)) := by
  refine ⟨fun hn hr hh hst hstop => ?_, fun h => completes_of rfl ?_ hs rfl⟩
  · let f : Flow := { flowD s n with st := .held, restore := none, detected := detectedCode (flowD s n) 0xFFFF }
    let e : Ev := { src := 0x07C, data := [(2, n), (2, detectedCode (flowD s n) 0xFFFF)] }
    let v : State := setFlow n f (atLeast a s)
    have hhold : holdFlow n 0xFFFF (atLeast a s) = journalFlow n (raise e v) := by
      unfold holdFlow
      rw [show flowD (atLeast a s) n = flowD s n from rfl]
      dsimp only
      exact (if_neg (by rw [hst]; exact Bool.false_ne_true)).trans ((if_neg (by rw [hstop]; exact Bool.false_ne_true)).trans rfl)
    obtain ⟨q, o, hj⟩ := journalFlow_journalled n (raise e v)
    have hop : opRestoredFlowTimeout k s = journalled q o (raise e v) := by
      unfold opRestoredFlowTimeout
      dsimp only
      rw [← hn, hr]
      dsimp only
      rw [hh, if_pos rfl, hhold, hj]
    have hfn : flowD (journalled q o (raise e v)) n = f := tgetD_tput_same s.flows n f {}
    exact completes_of rfl hop ((raise_resetQ e v rfl).trans hs) ⟨rfl, by rw [hfn], by rw [hfn], (raise_raised e v rfl).1, fun hd => tgetD_tput_ne s.flows f {} hd, rfl⟩
  · unfold opRestoredFlowTimeout
    dsimp only
    split
    · next t ht =>
      rcases h with h | h
      · exact nomatch ht.symm.trans h
      · rw [h]; rfl
    · rfl

/-! ## The journal confirmed (R360) -/

theorem jack_confirms (hs : Settled s) (hz : z = hear m path s) :
    (s.red.st = .unpaired → Completes (.jackRx m path) s (fun t => t = s)) ∧
    (s.red.st ≠ .unpaired → Completes (.jackRx m path) s (fun t => t.red.jout = s.red.jout.filter (fun r => r.jseq != m.ackSeq) ∧
      (holds s = true → t.red.heldMsgs = s.red.heldMsgs.filter (fun h => t.red.jout.any (fun r => r.jseq == h.jseq))) ∧ (holds s = false → t.red.heldMsgs = s.red.heldMsgs) ∧
      t = { z with red := { z.red with jout := t.red.jout, heldMsgs := t.red.heldMsgs }, aqf := t.aqf, flt := t.flt })) := by
  refine ⟨fun h => completes_of rfl (if_pos h) hs rfl, fun hne => ?_⟩
  obtain ⟨v, hv⟩ : ∃ v, v = setRed { z.red with jout := z.red.jout.filter (fun r => r.jseq != m.ackSeq) } z := ⟨_, rfl⟩
  obtain ⟨_, _, _, _, _, _, hze, -⟩ := hz ▸ hear_heard m path s
  have hzs := (hz ▸ hear_heard m path s).settled hs
  have hvs : Settled v := by rw [hv]; exact hzs
  have hhv : holds v = holds s := by rw [hv, hze]; rfl
  have hjout : v.red.jout = s.red.jout.filter (fun r => r.jseq != m.ackSeq) := by rw [hv, hze]; rfl
  have hheld : v.red.heldMsgs = s.red.heldMsgs := by rw [hv, hze]; rfl
  have hop : opJackRx m path s = if holds v then releaseHeld (fun h => !v.red.jout.any (fun r => r.jseq == h.jseq)) v else v := by
    rw [hv, hz]
    exact if_neg hne
  by_cases hh : holds s = true
  · obtain ⟨q, f, he, ho⟩ := releaseHeld_sent (fun h => !v.red.jout.any (fun r => r.jseq == h.jseq)) v
    refine completes_of rfl (hop.trans ((if_pos (hhv.trans hh)).trans he)) ((ho 0 (by decide)).1.trans hvs) ⟨hjout, fun _ => ?_, fun h => (nomatch hh.symm.trans h), ?_⟩
    · show v.red.heldMsgs.filter (fun h => !!v.red.jout.any (fun r => r.jseq == h.jseq)) = _
      simp only [Bool.not_not]
      rw [hheld]
      rfl
    · rw [hv]; rfl
  · refine completes_of rfl (hop.trans (if_neg (by rw [hhv]; exact hh))) hvs ⟨hjout, fun h => absurd h hh, fun _ => hheld, ?_⟩
    rw [hv]
    rfl

theorem journalDiverged_waits (hs : Settled s) :
    (s.red.jout = r :: b → holds s = true → Completes .journalDiverged s (fun t => diverged t = true ∧ t = { s with tim := { s.tim with now := max s.tim.now (r.at_ + jFrames s 2 + 1) } })) ∧
    (s.red.jout = [] ∨ holds s = false → Completes .journalDiverged s (fun t => t = s)) := by
  refine ⟨fun hj hh => ?_, fun h => completes_of rfl ?_ hs rfl⟩
  · have hop : opJournalDiverged s = atLeast (r.at_ + jFrames s 2 + 1) s := by
      unfold opJournalDiverged
      rw [hj]
      exact if_pos hh
    refine completes_of rfl hop hs ⟨?_, rfl⟩
    unfold diverged
    rw [show holds (atLeast (r.at_ + jFrames s 2 + 1) s) = true from hh, show (atLeast (r.at_ + jFrames s 2 + 1) s).red.jout = r :: b from hj, List.any_cons,
      decide_eq_true (show r.at_ + jFrames (atLeast (r.at_ + jFrames s 2 + 1) s) 2 < (atLeast (r.at_ + jFrames s 2 + 1) s).tim.now from Nat.lt_of_lt_of_le (Nat.lt_succ_self _) (Nat.le_max_right _ _))]
    rfl
  · unfold opJournalDiverged
    split
    · next x y hj =>
      rcases h with h | h
      · exact nomatch hj.symm.trans h
      · rw [h]; rfl
    · rfl

/-! ## The journal received (R361 to R363, R371) -/

/-- The record received. -/
def recordHere (s : State) (k typ fi : Nat) (l : List Byte) : JRec := { jseq := k, type := typ, fi := fi, data := l, at_ := s.tim.now }

/-- The newest record's number noted. -/
def jseqNoted (k : Nat) (s : State) : State := setRed { s.red with jseq := if serialLt 32 k s.red.jseq then s.red.jseq else k } s

theorem jseqNoted_now (k : Nat) (s : State) : (jseqNoted k s).tim.now = s.tim.now := by
  unfold jseqNoted
  rw [setRed_tim]

theorem recordRx_eq (hst : s.red.st = .standby ∨ s.red.st = .warm) : opJournalRecordRx k typ fi l none s =
    judgeReady (takeRecord (recordHere s k typ fi l) (sendPair [0] 9 k none (jseqNoted k s))) := by
  have hne : ¬((s.red.st != .standby && s.red.st != .warm) = true) := by
    rcases hst with h | h <;> rw [h] <;> exact Bool.false_ne_true
  unfold opJournalRecordRx recordHere
  rw [if_neg hne, ← jseqNoted_now k s]
  rfl

/-- What a record received leaves of a STANDBY unit. -/
theorem takeRecord_standby (r : JRec) {v : State} (hst : v.red.st = .standby) : ∃ im hi bu so,
    takeRecord r v = setRed { v.red with image := im, hasImage := hi, building := bu, sawOversize := so } v ∧
      (r.type = 1 → im = v.red.image ∧ bu = (if 6291456 < fieldAt r.data 0 4 then none else some []) ∧ so = decide (6291456 < fieldAt r.data 0 4)) ∧
      (r.type = 3 → im = v.red.image ∧ bu = v.red.building) ∧
      (r.type ≠ 1 → r.type ≠ 2 → r.type ≠ 3 → ∀ b, v.red.building = some b → im = v.red.image ∧ bu = some (b ++ [r])) ∧
      (r.type ≠ 1 → r.type ≠ 2 → r.type ≠ 3 → v.red.building = none → im = keepRecord r v.red.image) ∧
      (r.type = 2 → ∀ b, v.red.building = some b → crc32c (b.flatMap (fun x => x.data)) = fieldAt r.data 0 4 → hi = true ∧ bu = none ∧ im = b.foldl (fun a x => keepRecord x a) []) ∧
      (r.type = 2 → (v.red.building = none ∨ ∃ b, v.red.building = some b ∧ crc32c (b.flatMap (fun x => x.data)) ≠ fieldAt r.data 0 4) → hi = v.red.hasImage ∧ im = v.red.image ∧ bu = none) := by
  unfold takeRecord
  split
  · next h =>
    refine ⟨v.red.image, v.red.hasImage, _, _, rfl, fun _ => ⟨rfl, ?_, ?_⟩, ?_, ?_, ?_, ?_, ?_⟩
    · unfold imageLimit
      simp only [decide_eq_true_eq]
    · unfold imageLimit
      rfl
    all_goals intro h'; exact absurd h (by omega)
  · next h =>
    have hc : ∃ im hi, (match v.red.building with
        | none => v
        | some l =>
          if crc32c (l.flatMap (fun x => x.data)) = fieldAt r.data 0 4 then
            setRed { v.red with image := l.foldl (fun a x => keepRecord x a) [], hasImage := true, building := none } v
          else setRed { v.red with building := none } v) = setRed { v.red with image := im, hasImage := hi, building := none, sawOversize := v.red.sawOversize } v ∧
        (∀ b, v.red.building = some b → crc32c (b.flatMap (fun x => x.data)) = fieldAt r.data 0 4 → hi = true ∧ im = b.foldl (fun a x => keepRecord x a) []) ∧
        ((v.red.building = none ∨ ∃ b, v.red.building = some b ∧ crc32c (b.flatMap (fun x => x.data)) ≠ fieldAt r.data 0 4) → hi = v.red.hasImage ∧ im = v.red.image) := by
      have heta (x : Red) (hx : x.building = none) : { x with building := none } = x := by cases x; cases hx; rfl
      split
      · next hb =>
        refine ⟨v.red.image, v.red.hasImage, ?_, fun b hb' => (nomatch hb.symm.trans hb'), fun _ => ⟨rfl, rfl⟩⟩
        show v = { v with red := { v.red with building := none } }
        rw [heta v.red hb]
      · next b hb =>
        split
        · next hcrc =>
          refine ⟨_, true, rfl, fun b' hb' _ => ⟨rfl, by rw [Option.some.inj (hb.symm.trans hb')]⟩, fun h' => ?_⟩
          rcases h' with h' | ⟨b', hb', hne⟩
          · exact nomatch hb.symm.trans h'
          · exact absurd ((Option.some.inj (hb.symm.trans hb')) ▸ hcrc) hne
        · next hcrc => exact ⟨v.red.image, v.red.hasImage, rfl, fun b' hb' hc => absurd ((Option.some.inj (hb'.symm.trans hb)) ▸ hc) hcrc, fun _ => ⟨rfl, rfl⟩⟩
    obtain ⟨im, hi, he, h1, h2⟩ := hc
    refine ⟨im, hi, none, v.red.sawOversize, he, ?_, ?_, ?_, ?_, fun _ b hb hcrc => ⟨(h1 b hb hcrc).1, rfl, (h1 b hb hcrc).2⟩, fun _ hb => ⟨(h2 hb).1, (h2 hb).2, rfl⟩⟩
    all_goals intro h'; omega
  · next h =>
    refine ⟨v.red.image, v.red.hasImage, v.red.building, v.red.sawOversize, rfl, ?_, fun _ => ⟨rfl, rfl⟩, ?_, ?_, ?_, ?_⟩
    all_goals intro h'; omega
  · next h1 h2 h3 =>
    have hn1 : r.type ≠ 1 := fun h => h1 h
    have hn2 : r.type ≠ 2 := fun h => h2 h
    have hn3 : r.type ≠ 3 := fun h => h3 h
    split
    · next b hb =>
      exact ⟨v.red.image, v.red.hasImage, some (b ++ [r]), v.red.sawOversize, rfl, fun h => absurd h hn1, fun h => absurd h hn3, fun _ _ _ b' hb' => ⟨rfl, by rw [Option.some.inj (hb.symm.trans hb')]⟩,
        fun _ _ _ hb' => (nomatch hb.symm.trans hb'), fun h => absurd h hn2, fun h => absurd h hn2⟩
    · next hb =>
      have hw : warmRecord r (setRed { v.red with image := keepRecord r v.red.image } v) = setRed { v.red with image := keepRecord r v.red.image } v := by
        refine if_pos ?_
        unfold restored
        rw [show (setRed { v.red with image := keepRecord r v.red.image } v).red.st = .standby from hst]
        rfl
      exact ⟨keepRecord r v.red.image, v.red.hasImage, v.red.building, v.red.sawOversize, hw, fun h => absurd h hn1, fun h => absurd h hn3, fun _ _ _ b' hb' => (nomatch hb.symm.trans hb'),
        fun _ _ _ _ => rfl, fun h => absurd h hn2, fun h => absurd h hn2⟩

end
end Sys2Proof.Machine

/-! The takeover, the restore and the journal (R360 to R371): what a STANDBY and a WARM unit make of a record, and the statement. -/
namespace Sys2Proof.Machine
open Sys2Proof

theorem judgeHealth_flt (s : State) : (judgeHealth s).flt = s.flt := rfl

theorem judgeReady_others {e : Nat} (s : State) (h1 : e ≠ 0x1E5) (h2 : e ≠ 0x1E6) : OtherRaises e s.flt (judgeReady s).flt := by
  unfold judgeReady
  dsimp only
  split
  · exact .refl _ _
  · split
    · exact otherRaises_raise _ (judgeHealth _) rfl rfl h1
    · exact otherRaises_raise _ (judgeHealth _) rfl rfl h2

section
variable {s : State} {a n k typ fi : Nat} {l : List Byte} {b : List JRec}

/-- What the number of a record and its JACK make of the redundancy controller. -/
def answeredRed (s : State) (k : Nat) : Red := { s.red with jseq := if serialLt 32 k s.red.jseq then s.red.jseq else k, seq := (s.red.seq + 1) % 2 ^ 32 }

theorem seqNext_jseq (j : Nat) (s : State) : seqNext (setRed { s.red with jseq := j } s) = setRed { s.red with jseq := j, seq := (s.red.seq + 1) % 2 ^ 32 } s := rfl

theorem setRed_with (r : Red) (q : Aqf) (f : Flt) (s : State) : { setRed r s with aqf := q, flt := f } = { s with red := r, aqf := q, flt := f } := rfl

theorem seqNext_jseqNoted (k : Nat) (s : State) : seqNext (jseqNoted k s) = setRed (answeredRed s k) s := by
  unfold jseqNoted answeredRed
  exact seqNext_jseq _ s

theorem recordRx_answered (hst : s.red.st = .standby ∨ s.red.st = .warm) : ∃ q f, opJournalRecordRx k typ fi l none s =
      judgeReady (takeRecord (recordHere s k typ fi l) { s with red := answeredRed s k, aqf := q, flt := f }) ∧ ∀ e, e ≠ 0x091 → OtherRaises e s.flt f := by
  have hsent := sendPair_a 9 k none (jseqNoted k s)
  rw [seqNext_jseqNoted] at hsent
  obtain ⟨q, f, he, ho⟩ := hsent
  rw [setRed_flt] at ho
  exact ⟨q, f, by rw [recordRx_eq hst, he, setRed_with], ho⟩

theorem alog_red (a : Nat) (sp : Space) (m n : Nat) (s : State) : (alog a sp m n s).red = s.red := by
  unfold alog
  dsimp only
  rw [raiseIf_flt]

/-- A record whose words the bus matrix has lost is reported and then taken as any other. -/
theorem recordRx_lost {w : State} (hst : s.red.st = .standby) (hw : w = alog a .ram 64 0x024 (raise { src := 0x024, data := [(1, 0)], addr := a } s)) :
    opJournalRecordRx k typ fi l (some a) s = opJournalRecordRx k typ fi l none w := by
  have hne : ¬((s.red.st != .standby && s.red.st != .warm) = true) := by
    rw [hst]; exact Bool.false_ne_true
  have hnw : ¬((w.red.st != .standby && w.red.st != .warm) = true) := by rw [hw, alog_red]; exact hne
  unfold opJournalRecordRx
  rw [if_neg hne, if_neg hnw]
  dsimp only
  rw [← hw]

/-- A record at a STANDBY unit raises no other source than READY and its loss. -/
theorem recordRx_others {e : Nat} (hst : s.red.st = .standby) (h1 : e ≠ 0x091) (h2 : e ≠ 0x1E5) (h3 : e ≠ 0x1E6) :
    OtherRaises e s.flt (opJournalRecordRx k typ fi l none s).flt := by
  obtain ⟨q, f, hop, ho⟩ := recordRx_answered (k := k) (typ := typ) (fi := fi) (l := l) (.inl hst)
  obtain ⟨im, hi, bu, so, htake, -⟩ := takeRecord_standby (recordHere s k typ fi l) (v := { s with red := answeredRed s k, aqf := q, flt := f }) hst
  rw [hop, htake]
  exact (ho e h1).trans (judgeReady_others _ h2 h3)

/-- What a record leaves of READY and the image at a STANDBY unit. -/
theorem recordRx_judged (hst : s.red.st = .standby) (hs : Settled s) :
    Completes (.journalRecordRx k typ fi l none) s (fun t => t.wire = s.wire ∧ t.red.jseq = (if serialLt 32 k s.red.jseq then s.red.jseq else k) ∧ t.red.seq = (s.red.seq + 1) % 2 ^ 32 ∧
      (typ = 1 → t.red.image = s.red.image ∧ t.red.building = (if 6291456 < fieldAt l 0 4 then none else some []) ∧ t.red.sawOversize = decide (6291456 < fieldAt l 0 4)) ∧
      (typ = 3 → t.red.image = s.red.image ∧ t.red.building = s.red.building) ∧
      (typ ≠ 1 → typ ≠ 2 → typ ≠ 3 → s.red.building = some b → t.red.image = s.red.image ∧ t.red.building = some (b ++ [{ jseq := k, type := typ, fi := fi, data := l, at_ := s.tim.now }])) ∧
      (typ ≠ 1 → typ ≠ 2 → typ ≠ 3 → s.red.building = none → t.red.image = keepRecord { jseq := k, type := typ, fi := fi, data := l, at_ := s.tim.now } s.red.image) ∧
      (typ = 2 → s.red.building = some b → crc32c (b.flatMap (fun x => x.data)) = fieldAt l 0 4 → t.red.hasImage = true ∧ t.red.building = none ∧ t.red.image = b.foldl (fun a x => keepRecord x a) []) ∧
      (typ = 2 → s.red.building = none ∨ (s.red.building = some b ∧ crc32c (b.flatMap (fun x => x.data)) ≠ fieldAt l 0 4) → t.red.hasImage = s.red.hasImage ∧ t.red.image = s.red.image ∧ t.red.building = none) ∧
      t.red.ready = (t.red.hasImage && s.red.digestOk && !s.red.sawDiverged && !t.red.sawOversize) ∧ (s.red.ready = false → t.red.ready = true → RaisedOnce 0x1E5 s t) ∧ (s.red.ready = true → t.red.ready = false → RaisedOnce 0x1E6 s t) ∧
      t = { s with red := t.red, aqf := t.aqf, flt := t.flt }) := by
  obtain ⟨q, f, hop, ho⟩ := recordRx_answered (k := k) (typ := typ) (fi := fi) (l := l) (.inl hst)
  obtain ⟨R, hR⟩ : ∃ R, R = answeredRed s k := ⟨_, rfl⟩
  have hRst : R.st = .standby := by rw [hR]; exact hst
  have hRq : R.jseq = (if serialLt 32 k s.red.jseq then s.red.jseq else k) := by rw [hR]; rfl
  have hRs : R.seq = (s.red.seq + 1) % 2 ^ 32 := by rw [hR]; rfl
  have hRim : R.image = s.red.image := by rw [hR]; rfl
  have hRbu : R.building = s.red.building := by rw [hR]; rfl
  have hRhi : R.hasImage = s.red.hasImage := by rw [hR]; rfl
  have hRdg : R.digestOk = s.red.digestOk := by rw [hR]; rfl
  have hRdv : R.sawDiverged = s.red.sawDiverged := by rw [hR]; rfl
  have hRre : R.ready = s.red.ready := by rw [hR]; rfl
  rw [← hR] at hop
  obtain ⟨im, hi, bu, so, htake, h1, h3, hbuild, hkeep, hend, hbad⟩ := takeRecord_standby (recordHere s k typ fi l) (v := { s with red := R, aqf := q, flt := f }) hRst
  rw [htake] at hop
  obtain ⟨v, hv⟩ : ∃ v : State, v = setRed { R with image := im, hasImage := hi, building := bu, sawOversize := so } { s with red := R, aqf := q, flt := f } := ⟨_, rfl⟩
  obtain ⟨h, g, hj, hgq, hr1, hr2⟩ := judgeReady_judged v
  have hvf : v.flt = f := by rw [hv]; rfl
  have hvr : v.red.ready = s.red.ready := by rw [hv]; exact hRre
  have hrn : readyNow v.red = (hi && s.red.digestOk && !s.red.sawDiverged && !so) := by
    rw [hv, ← hRdg, ← hRdv]; rfl
  have hcount (e : Nat) (he : e ≠ 0x091) (hn : RaisedOnce e v { v with flt := g }) : RaisedOnce e s { v with flt := g } := by
    have hn' : (tgetD g.stat e {}).count = min ((tgetD v.flt.stat e {}).count + 1) 255 := hn
    rw [hvf, (ho e he).2.1] at hn'
    exact hn'
  have hgs : g.resetQ = s.flt.resetQ := hgq.trans ((congrArg Flt.resetQ hvf).trans (ho 0 (by decide)).1)
  have hframe : { v with red := { v.red with ready := readyNow v.red, healthySince := h }, flt := g } =
      { s with red := { R with image := im, hasImage := hi, building := bu, sawOversize := so, ready := hi && s.red.digestOk && !s.red.sawDiverged && !so, healthySince := h }, aqf := q, flt := g } := by
    rw [hrn, hv]
    rfl
  have hgo (e : Nat) (he : e ≠ 0x091) (hn : RaisedOnce e v { v with flt := g }) : (tgetD g.stat e {}).count = min ((tgetD s.flt.stat e {}).count + 1) 255 := hcount e he hn
  rw [← hv] at hop
  refine completes_of rfl ((hop.trans hj).trans hframe) (hgs.trans hs) ⟨rfl, hRq, hRs, fun ht => ?_, fun ht => ?_, fun n1 n2 n3 hb => ?_, fun n1 n2 n3 hb => ?_, fun ht hb hc => ?_, fun ht hb => ?_, rfl,
    fun ha hb => hgo 0x1E5 (by decide) (hr1 (hvr.trans ha) (hrn.trans hb)), fun ha hb => hgo 0x1E6 (by decide) (hr2 (hvr.trans ha) (hrn.trans hb)), rfl⟩
  · obtain ⟨hi1, hb1, ho1⟩ := h1 ht
    exact ⟨hi1.trans hRim, hb1, ho1⟩
  · obtain ⟨hi3, hb3⟩ := h3 ht
    exact ⟨hi3.trans hRim, hb3.trans hRbu⟩
  · obtain ⟨hi4, hb4⟩ := hbuild n1 n2 n3 b (hRbu.trans hb)
    exact ⟨hi4.trans hRim, hb4⟩
  · exact (hkeep n1 n2 n3 (hRbu.trans hb)).trans (congrArg (keepRecord (recordHere s k typ fi l)) hRim)
  · exact hend ht b (hRbu.trans hb) hc
  · obtain ⟨hh, him, hbn⟩ := hbad ht (hb.imp hRbu.trans fun ⟨hb', hc⟩ => ⟨b, hRbu.trans hb', hc⟩)
    exact ⟨hh.trans hRhi, him.trans hRim, hbn⟩

theorem recordRx_standby (hs : Settled s) :
    (s.red.st = .standby → Completes (.journalRecordRx k typ fi l none) s (fun t => t.wire = s.wire ∧ t.red.jseq = (if serialLt 32 k s.red.jseq then s.red.jseq else k) ∧ t.red.seq = (s.red.seq + 1) % 2 ^ 32 ∧
      (typ = 1 → t.red.image = s.red.image ∧ t.red.building = (if 6291456 < fieldAt l 0 4 then none else some []) ∧ t.red.sawOversize = decide (6291456 < fieldAt l 0 4)) ∧
      (typ = 3 → t.red.image = s.red.image ∧ t.red.building = s.red.building) ∧
      (typ ≠ 1 → typ ≠ 2 → typ ≠ 3 → s.red.building = some b → t.red.image = s.red.image ∧ t.red.building = some (b ++ [{ jseq := k, type := typ, fi := fi, data := l, at_ := s.tim.now }])) ∧
      (typ ≠ 1 → typ ≠ 2 → typ ≠ 3 → s.red.building = none → t.red.image = keepRecord { jseq := k, type := typ, fi := fi, data := l, at_ := s.tim.now } s.red.image) ∧
      (typ = 2 → s.red.building = some b → crc32c (b.flatMap (fun x => x.data)) = fieldAt l 0 4 → t.red.hasImage = true ∧ t.red.building = none ∧ t.red.image = b.foldl (fun a x => keepRecord x a) []) ∧
      (typ = 2 → s.red.building = none ∨ (s.red.building = some b ∧ crc32c (b.flatMap (fun x => x.data)) ≠ fieldAt l 0 4) → t.red.hasImage = s.red.hasImage ∧ t.red.image = s.red.image ∧ t.red.building = none) ∧
      t.red.ready = (t.red.hasImage && s.red.digestOk && !s.red.sawDiverged && !t.red.sawOversize) ∧ (s.red.ready = false → t.red.ready = true → RaisedOnce 0x1E5 s t) ∧ (s.red.ready = true → t.red.ready = false → RaisedOnce 0x1E6 s t) ∧
      t = { s with red := t.red, aqf := t.aqf, flt := t.flt }) ∧ Completes (.journalRecordRx k typ fi l (some a)) s (fun t => RaisedOnce 0x024 s t)) := by
  intro hst
  refine ⟨recordRx_judged hst hs, ?_⟩
  let e : Ev := { src := 0x024, data := [(1, 0)], addr := a }
  obtain ⟨w, hw⟩ : ∃ w, w = alog a .ram 64 0x024 (raise e s) := ⟨_, rfl⟩
  have hwo : OtherRaises 0x024 (raise e s).flt w.flt := by rw [hw]; exact alog_otherRaises a .ram 64 0x024 _ (by decide)
  have hwst : w.red.st = .standby := by rw [hw, alog_red]; exact hst
  have hto : OtherRaises 0x024 w.flt (opJournalRecordRx k typ fi l none w).flt := recordRx_others hwst (by decide) (by decide) (by decide)
  refine completes_of rfl (recordRx_lost hst hw) ((hwo.trans hto).1.trans ((raise_resetQ e s rfl).trans hs)) ?_
  exact (congrArg SrcStat.count (hwo.trans hto).2.1).trans (raise_raised e s rfl).1

/-! ## A record at a WARM unit (R371) -/

/-- A WARM unit with its image restored keeps a record that replaces its object's and judges it by its boundary. -/
theorem takeRecord_warm (r : JRec) {v : State} (hb : v.red.building = none) (ht : r.type = 0x11) :
    takeRecord r v = warmRecord r (setRed { v.red with image := keepRecord r v.red.image } v) := by
  unfold takeRecord
  simp only [ht, hb]

theorem warmRecord_late (r : JRec) {v : State} (hr : restored v = true) (h : jT v (extend 32 r.fi (fiNow v (jdomain v))) < v.tim.now) :
    warmRecord r v = raise { src := 0x1EE, data := [(4, r.jseq)] } (startWarm (applyRecord r v)) := by
  unfold warmRecord
  rw [hr, if_neg (show ¬(!true) = true from Bool.false_ne_true)]
  dsimp only
  rw [if_pos h]

theorem warmRecord_waits (r : JRec) {v : State} (hr : restored v = true) (h : v.tim.now ≤ jT v (extend 32 r.fi (fiNow v (jdomain v)))) :
    warmRecord r v = setRed { v.red with jwait := v.red.jwait ++ [r] } v := by
  unfold warmRecord
  rw [hr, if_neg (show ¬(!true) = true from Bool.false_ne_true)]
  dsimp only
  rw [if_neg (Nat.not_lt.mpr h)]

theorem recordRx_warm (hs : Settled s) :
    (s.red.st = .warm → s.red.warmEnd.isSome = true → s.red.building = none → typ = 0x11 → n = extend 32 fi (fiNow s (jdomain s)) →
      (jT s n < s.tim.now → Completes (.journalRecordRx k typ fi l none) s (fun t => RaisedOnce 0x1EE s t ∧ t.red.warmEnd = some (s.tim.now + max (jFrames s (fld s .redCfg 0 7 0)) (longestDelay s)) ∧ t.red.jwait = s.red.jwait)) ∧
      (s.tim.now ≤ jT s n → Completes (.journalRecordRx k typ fi l none) s (fun t => t.red.warmEnd = s.red.warmEnd ∧ t.red.jwait = s.red.jwait ++ [{ jseq := k, type := typ, fi := fi, data := l, at_ := s.tim.now }] ∧ t.consists = s.consists))) := by
  intro hst hw hb htyp hn
  obtain ⟨q, f, hop, ho⟩ := recordRx_answered (k := k) (typ := typ) (fi := fi) (l := l) (.inr hst)
  let r := recordHere s k typ fi l
  obtain ⟨A, hA⟩ : ∃ A, A = answeredRed s k := ⟨_, rfl⟩
  have hAb : A.building = none := by rw [hA]; exact hb
  rw [← hA] at hop
  obtain ⟨R, hR⟩ : ∃ R, R = { A with image := keepRecord r A.image } := ⟨_, rfl⟩
  have hRst : R.st = .warm := by rw [hR, hA]; exact hst
  have hRw : R.warmEnd = s.red.warmEnd := by rw [hR, hA]; rfl
  have hRj : R.jwait = s.red.jwait := by rw [hR, hA]; rfl
  obtain ⟨v, hv⟩ : ∃ v : State, v = { s with red := R, aqf := q, flt := f } := ⟨_, rfl⟩
  have hvR : v.red = R := by rw [hv]
  have hop' : opJournalRecordRx k typ fi l none s = judgeReady (warmRecord r v) := by
    rw [hop, takeRecord_warm r (v := { s with red := A, aqf := q, flt := f }) hAb htyp, hv, hR]
    rfl
  have hrest : restored v = true := by
    unfold restored
    rw [hvR, hRst, hRw, hw]
    rfl
  have hjT : jT v (extend 32 r.fi (fiNow v (jdomain v))) = jT s n := by
    rw [hn, hv]
    rfl
  have hnow : v.tim.now = s.tim.now := by rw [hv]
  have hvf : v.flt = f := by rw [hv]
  refine ⟨fun hlate => ?_, fun hwait => ?_⟩
  · have hwarm := warmRecord_late r hrest (by rw [hjT, hnow]; exact hlate)
    obtain ⟨u, hu⟩ : ∃ u, u = startWarm (applyRecord r v) := ⟨_, rfl⟩
    have happ : applyRecord r v = { v with consists := (applyRecord r v).consists } := by
      unfold applyRecord
      simp only [show r.type = 0x11 from htyp]
    obtain ⟨cs, hcs⟩ : ∃ cs, cs = (applyRecord r v).consists := ⟨_, rfl⟩
    rw [← hcs] at happ
    have huf : u.flt = f := by rw [hu, happ]; exact hvf
    have huw : u.red.warmEnd = some (s.tim.now + max (jFrames s (fld s .redCfg 0 7 0)) (longestDelay s)) := by rw [hu, happ, hv]; rfl
    have huj : u.red.jwait = s.red.jwait := by rw [hu, happ]; exact (congrArg Red.jwait hvR).trans hRj
    let e : Ev := { src := 0x1EE, data := [(4, r.jseq)] }
    obtain ⟨w, hw'⟩ : ∃ w, w = raise e u := ⟨_, rfl⟩
    have hwr : w.red = u.red := by rw [hw']; rfl
    obtain ⟨h, g, hj, hgq, -, -⟩ := judgeReady_judged w
    have hjo := judgeReady_others (e := 0x1EE) w (by decide) (by decide)
    rw [hj] at hjo
    have hwq : w.flt.resetQ = s.flt.resetQ := by rw [hw', raise_resetQ e u rfl, huf, (ho 0 (by decide)).1]
    refine completes_of rfl (hop'.trans ((congrArg judgeReady (hwarm.trans (by rw [hw', hu]))).trans hj)) (hgq.trans (hwq.trans hs)) ⟨?_, ?_, ?_⟩
    · have hone := (raise_raised e u rfl).1
      rw [← hw'] at hone
      refine (congrArg SrcStat.count hjo.2.1).trans (hone.trans ?_)
      rw [huf, show tgetD f.stat e.src {} = tgetD s.flt.stat 0x1EE {} from (ho 0x1EE (by decide)).2.1]
    · exact (congrArg Red.warmEnd hwr).trans huw
    · exact (congrArg Red.jwait hwr).trans huj
  · have hwarm := warmRecord_waits r hrest (by rw [hjT, hnow]; exact hwait)
    obtain ⟨w, hw'⟩ : ∃ w, w = setRed { v.red with jwait := v.red.jwait ++ [r] } v := ⟨_, rfl⟩
    obtain ⟨h, g, hj, hgq, -, -⟩ := judgeReady_judged w
    have hwq : w.flt.resetQ = s.flt.resetQ := by rw [hw']; exact (congrArg Flt.resetQ hvf).trans (ho 0 (by decide)).1
    refine completes_of rfl (hop'.trans ((congrArg judgeReady (hwarm.trans hw'.symm)).trans hj)) (hgq.trans (hwq.trans hs)) ⟨?_, ?_, ?_⟩
    · rw [hw']; exact (congrArg Red.warmEnd hvR).trans hRw
    · show w.red.jwait = _
      rw [hw', ← hRj, ← hvR]
      rfl
    · rw [hw', hv]; rfl

end

/-- Settles O59: the watch and the Restore step by their own equations, a record received by the state of the unit that receives it. -/
theorem takeoverRestoreAndTheJournal : Obligations.TakeoverRestoreAndTheJournal := by
  unfold Obligations.TakeoverRestoreAndTheJournal
  intro c s z a d n k typ fi path l m silent x r b hf hs hcpl hp hz hsil
  obtain ⟨f1, f2⟩ := firstCommit_commits (a := a) (d := d) hs
  obtain ⟨r1, r2⟩ := restoredFlow_holds (a := a) (d := d) (n := n) (k := k) hs
  obtain ⟨j1, j2⟩ := jack_confirms hs hz
  obtain ⟨w1, w2⟩ := journalDiverged_waits (r := r) (b := b) hs
  obtain ⟨b1, b2⟩ := watch_waits hs hsil
  exact ⟨tabletTake_denied hf hs, tabletTake_takes hf hs hcpl, elsewhere_stays hs, b1, standby_takes hs hsil, warm_takes hs hsil, watch_blocked hs hsil, b2, wakeDone_wakes hs, wakeDone_stays hs,
    restoreDone_stays hs, restoreDone_drives hs, restoreDone_warms hs, f1, f2, r1, r2, j1, j2, w1, w2, recordRx_standby hs, recordRx_warm hs⟩

end Sys2Proof.Machine

/-! SUPPORT. A revertive return asked for: WARM, the hold-off, ASK and PASS (R371, R372). -/
namespace Sys2Proof.Machine
open Sys2Proof

theorem requestPower_heads {q : PwrSt} {tag : Option Nat} {s : State} (h : s.pwr.trans = none) : (requestPower q tag s).pwr.trans.map (fun x => x.target) = some q := by
  rw [requestPower_starts h]
  rfl

/-- A message on both paths, its SEQ named: the control cells of path A, and the bytes of path B. -/
theorem sendPair_both_seq (kind ack : Nat) (fi : Option Nat) {s : State} {j : Nat} (hj : j = (s.red.seq + 1) % 2 ^ 32) :
    ∃ q f, sendPair bothPaths kind ack fi s = { s with red := { s.red with seq := j }, aqf := q, flt := f, wire := s.wire ++ [.pathB { ownMsg s kind ack fi with path := 1 } (hbInv s)] } ∧
      ∀ src, src ≠ 0x091 → OtherRaises src s.flt f := by
  obtain ⟨q, f, he, ho⟩ := sendPair_both kind ack fi s
  refine ⟨q, f, he.trans ?_, ho⟩
  unfold seqNext
  rw [← hj]
  rfl

section
variable {c : Cmd} {s z : State} {a n path : Nat} {m : PairMsg}

theorem away_ignores (hs : Settled s) :
    (s.red.st = .unpaired → Completes (.askRx m path) s (fun t => t = s) ∧ Completes (.passRx m path) s (fun t => t = s) ∧ Completes (.passAckRx m path) s (fun t => t = s) ∧ Completes (.confirmRx m path) s (fun t => t = s) ∧
      Completes (.pairCancelRx m path) s (fun t => t = s)) :=
  fun h => ⟨completes_of rfl (if_pos h) hs rfl, completes_of rfl (if_pos h) hs rfl, completes_of rfl (if_pos h) hs rfl, completes_of rfl (if_pos h) hs rfl, completes_of rfl (if_pos h) hs rfl⟩

/-! ## WARM (R371) -/

theorem tabletRequest_denied (hf : s.hif.fences = []) (hs : Settled s) :
    (s.red.st ≠ .standby ∨ s.red.ready = false ∨ livePath s 0 = false ∨ livePath s 1 = false → Completes (.tabletRequest c) s (Fails c 0x0803 0x20 0 s)) := by
  intro h
  have hk : (s.red.st != .standby || !s.red.ready || !livePath s 0 || !livePath s 1) = true := by
    rcases h with h | h | h | h
    · rw [bne_iff_ne.mpr h]; rfl
    · rw [h, Bool.not_false, Bool.or_true]; rfl
    · rw [h, Bool.not_false, Bool.or_true]; rfl
    · rw [h]; exact Bool.or_true _
  exact ⟨_, rfl, taken_fails (firstErr_fail hk) hf hs⟩

/-- A unit that prepares a return, before it is woken. -/
def warming (s : State) : State :=
  setRed { s.red with st := .warm, since := s.tim.now, warmEnd := none, bound := none, ackA := false, ackB := false, confirmed := false, asked := false, healthySince := none } s

theorem enterWarm_warms (s : State) : Repowered (warming s) (enterWarm s) := requestPower_repowered .run none (warming s)

theorem enterWarm_heads (h : s.pwr.trans = none) : (enterWarm s).pwr.trans.map (fun x => x.target) = some .run := requestPower_heads (s := warming s) h

theorem tabletRequest_warms (hf : s.hif.fences = []) (hs : Settled s) (hcpl : c.cplOk = true) :
    (s.red.st = .standby → s.red.ready = true → livePath s 0 = true → livePath s 1 = true → Completes (.tabletRequest c) s (fun t => Replied c 0x0803 1 0 0 t ∧ t.red.tag = some c.tag ∧
      (s.pwr.trans = none → t.pwr.trans.map (fun x => x.target) = some .run) ∧
      t = { s with red := { s.red with st := .warm, since := s.tim.now, tag := some c.tag, warmEnd := none, bound := none, ackA := false, ackB := false, confirmed := false, asked := false, healthySince := none }, pwr := t.pwr, hif := t.hif, flt := t.flt, wire := t.wire })) := by
  intro hst hr h0 h1
  have hk : (s.red.st != .standby || !s.red.ready || !livePath s 0 || !livePath s 1) = false := by
    rw [hst, hr, h0, h1]; rfl
  obtain ⟨u, hu⟩ : ∃ u, u = enterWarm (tagged c s) := ⟨_, rfl⟩
  obtain ⟨p, f, he, ho⟩ := hu ▸ enterWarm_warms (tagged c s)
  have hop : opTabletRequest c s = complete c 0x0803 accepted u := by
    unfold opTabletRequest
    rw [hostCmd_taken, checked_ok _ _ _ (firstErr_pass hk), hu]
    rfl
  have hpwr (ht : s.pwr.trans = none) : u.pwr.trans.map (fun x => x.target) = some .run := by
    rw [hu]; exact enterWarm_heads (s := tagged c s) ht
  have hus : Settled u := by rw [he]; exact (ho 0 (by decide)).1.trans hs
  obtain ⟨hi, w, hc, -, hrep⟩ := complete_accepted (u := u) c 0x0803 (by rw [he]; exact hf) hcpl
  refine completes_of rfl (hop.trans hc) hus ⟨hrep, ?_, hpwr, ?_⟩
  · rw [he]; rfl
  · rw [he]; rfl

theorem revertHoldOff_warms (hs : Settled s) :
    (s.red.healthySince = some a → s.red.st = .standby → home s = true → revert s = true → s.red.ready = true → s.red.liveA = true → s.red.liveB = true → Completes .revertHoldOff s (fun t =>
      t.tim.now = max s.tim.now (a + 1000000000 * fld s .redCfg 0 15 8) ∧ t.red.st = .warm ∧ t.red.tag = s.red.tag ∧ (s.pwr.trans = none → t.pwr.trans.map (fun x => x.target) = some .run) ∧
      t = { s with tim := { s.tim with now := t.tim.now }, red := t.red, pwr := t.pwr, flt := t.flt })) ∧
    (s.red.healthySince = none ∨ s.red.st ≠ .standby ∨ home s = false ∨ revert s = false ∨ s.red.ready = false → Completes .revertHoldOff s (fun t => t = s)) := by
  refine ⟨fun hh hst hhome hrev hr hla hlb => ?_, fun h => completes_of rfl ?_ hs rfl⟩
  · let v : State := atLeast (a + 1000000000 * fld s .redCfg 0 15 8) s
    have hop : opRevertHoldOff s = enterWarm v := by
      unfold opRevertHoldOff
      rw [hh]
      exact if_pos (by rw [hst, hhome, hrev, hr, hla, hlb]; rfl)
    obtain ⟨u, hu⟩ : ∃ u, u = enterWarm v := ⟨_, rfl⟩
    obtain ⟨p, f, he, ho⟩ := hu ▸ enterWarm_warms v
    have hpwr (ht : s.pwr.trans = none) : u.pwr.trans.map (fun x => x.target) = some .run := by
      rw [hu]; exact enterWarm_heads (s := v) ht
    refine completes_of rfl (hop.trans hu.symm) (by rw [he]; exact (ho 0 (by decide)).1.trans hs) ⟨?_, ?_, ?_, hpwr, ?_⟩
    · rw [he]; rfl
    · rw [he]; rfl
    · rw [he]; rfl
    · rw [he]; rfl
  · unfold opRevertHoldOff
    split
    · next t ht =>
      refine if_neg ?_
      rcases h with h | h | h | h | h
      · exact nomatch ht.symm.trans h
      · rw [beq_eq_false_iff_ne.mpr h]; exact Bool.false_ne_true
      · rw [h]; simp
      · rw [h]; simp
      · rw [h]; simp
    · rfl

theorem warmPeriodEnd_asks (hs : Settled s) :
    (s.red.st = .warm → s.red.warmEnd = some a → Completes .warmPeriodEnd s (fun t => t.tim.now = max s.tim.now a ∧ t.wire = s.wire ++ [.pathB { ownMsg t 4 0 none with path := 1, seq := s.red.seq } (hbInv s)] ∧
      t = { s with tim := { s.tim with now := t.tim.now }, red := { s.red with seq := (s.red.seq + 1) % 2 ^ 32, warmEnd := none, asked := true }, aqf := t.aqf, flt := t.flt, wire := t.wire })) ∧
    (s.red.st ≠ .warm ∨ s.red.warmEnd = none → Completes .warmPeriodEnd s (fun t => t = s)) := by
  refine ⟨fun hst hw => ?_, fun h => completes_of rfl ?_ hs rfl⟩
  · obtain ⟨j, hj⟩ : ∃ j, j = (s.red.seq + 1) % 2 ^ 32 := ⟨_, rfl⟩
    let v : State := setRed { s.red with warmEnd := none, asked := true } (atLeast a s)
    obtain ⟨q, f, he, ho⟩ := sendPair_both_seq 4 0 none (s := v) hj
    have hop : opWarmPeriodEnd s = sendPair bothPaths 4 0 none v := by
      unfold opWarmPeriodEnd
      rw [hw]
      exact if_pos (by rw [hst]; rfl)
    rw [← hj]
    exact completes_of rfl (hop.trans he) ((ho 0 (by decide)).1.trans hs) ⟨rfl, rfl, rfl⟩
  · unfold opWarmPeriodEnd
    split
    · next t ht =>
      refine if_neg ?_
      rcases h with h | h
      · rw [beq_eq_false_iff_ne.mpr h]; exact Bool.false_ne_true
      · exact nomatch ht.symm.trans h
    · rfl

/-! ## ASK and PASS (R372) -/

/-- A unit that has heard ASK on a path. -/
def askNoted (path : Nat) (z : State) : State := setRed (if path = 0 then { z.red with askA := true } else { z.red with askB := true }) z

/-- A holder that has named the boundary of the handover. -/
def boundNamed (z : State) : State :=
  setRed { z.red with bound := some (fiAt z (jdomain z) (boundaryFrom z (jdomain z) (z.tim.now + jFrames z 3))), ackA := false, ackB := false, confirmed := false } z

theorem askRx_eq (hz : z = hear m path s) (h : s.red.st ≠ .unpaired) : opAskRx m path s =
    if !holds (askNoted path z) || (askNoted path z).red.bound.isSome || !(askNoted path z).red.askA || !(askNoted path z).red.askB then askNoted path z else boundNamed (askNoted path z) := by
  rw [hz]; exact if_neg h

/-- What hearing a message keeps of the redundancy controller. -/
theorem heard_keeps (hz : z = hear m path s) : holds z = holds s ∧ z.red.st = s.red.st ∧ z.red.bound = s.red.bound ∧ z.red.askA = s.red.askA ∧ z.red.askB = s.red.askB ∧ z.red.asked = s.red.asked ∧
    z.red.seq = s.red.seq ∧ z.red.tag = s.red.tag ∧ z.tim = s.tim ∧ z.regs = s.regs ∧ z.wire = s.wire ∧ z.pwr = s.pwr := by
  obtain ⟨_, _, _, _, _, _, he, -⟩ := hz ▸ hear_heard m path s
  rw [he]
  exact ⟨rfl, rfl, rfl, rfl, rfl, rfl, rfl, rfl, rfl, rfl, rfl, rfl⟩

theorem holds_paired (h : holds s = true) : s.red.st ≠ .unpaired := by
  intro hu
  unfold holds at h
  rw [hu] at h
  exact nomatch h

theorem askNoted_eq (hp : path ≤ 1) (z : State) : askNoted path z = { z with red := { z.red with askA := z.red.askA || path == 0, askB := z.red.askB || path == 1 } } := by
  obtain rfl | rfl : path = 0 ∨ path = 1 := by omega
  · rw [show (z.red.askA || (0 : Nat) == 0) = true from Bool.or_true _, show (z.red.askB || (0 : Nat) == 1) = z.red.askB from Bool.or_false _]
    rfl
  · rw [show (z.red.askA || (1 : Nat) == 0) = z.red.askA from Bool.or_false _, show (z.red.askB || (1 : Nat) == 1) = true from Bool.or_true _]
    rfl

theorem boundNamed_bound (hz : z = hear m path s) (r : Red) : fiAt (setRed r z) (jdomain (setRed r z)) (boundaryFrom (setRed r z) (jdomain (setRed r z)) ((setRed r z).tim.now + jFrames (setRed r z) 3)) =
    fiAt s (jdomain s) (boundaryFrom s (jdomain s) (s.tim.now + jFrames s 3)) := by
  obtain ⟨_, _, _, _, _, _, he, -⟩ := hz ▸ hear_heard m path s
  rw [he]
  rfl

theorem ask_names (hs : Settled s) (hz : z = hear m path s) :
    (holds s = true → s.red.bound = none → n = fiAt s (jdomain s) (boundaryFrom s (jdomain s) (s.tim.now + jFrames s 3)) →
      (path = 0 → s.red.askB = true → Completes (.askRx m path) s (fun t => t = { z with red := { z.red with askA := true, bound := some n, ackA := false, ackB := false, confirmed := false } })) ∧
      (path = 1 → s.red.askA = true → Completes (.askRx m path) s (fun t => t = { z with red := { z.red with askB := true, bound := some n, ackA := false, ackB := false, confirmed := false } }))) := by
  intro hh hb hn
  obtain ⟨kh, -, kb, kA, kB, -⟩ := heard_keeps hz
  have hzs := (hz ▸ hear_heard m path s).settled hs
  have hgoes (u : State) (hu : u = askNoted path z) (h0 : holds u = true) (h1 : u.red.bound = none) (h2 : u.red.askA = true) (h3 : u.red.askB = true) : opAskRx m path s = boundNamed u := by
    rw [askRx_eq hz (holds_paired hh), ← hu]
    exact if_neg (by rw [h0, h1, h2, h3]; exact Bool.false_ne_true)
  refine ⟨fun hp hB => ?_, fun hp hA => ?_⟩
  · have hu : setRed { z.red with askA := true } z = askNoted path z := by rw [hp]; rfl
    refine completes_of rfl (hgoes _ hu (kh.trans hh) (kb.trans hb) rfl (kB.trans hB)) hzs ?_
    unfold boundNamed
    rw [boundNamed_bound hz, ← hn]
    rfl
  · have hu : setRed { z.red with askB := true } z = askNoted path z := by rw [hp]; rfl
    refine completes_of rfl (hgoes _ hu (kh.trans hh) (kb.trans hb) (kA.trans hA) rfl) hzs ?_
    unfold boundNamed
    rw [boundNamed_bound hz, ← hn]
    rfl

theorem ask_noted (hs : Settled s) (hz : z = hear m path s) (hp : path ≤ 1) :
    (s.red.st ≠ .unpaired → holds s = false ∨ s.red.bound.isSome = true ∨ (path = 0 ∧ s.red.askB = false) ∨ (path = 1 ∧ s.red.askA = false) → Completes (.askRx m path) s (fun t =>
      t = { z with red := { z.red with askA := z.red.askA || path == 0, askB := z.red.askB || path == 1 } })) := by
  intro hne h
  obtain ⟨kh, -, kb, kA, kB, -⟩ := heard_keeps hz
  have hzs := (hz ▸ hear_heard m path s).settled hs
  obtain ⟨u, hu⟩ : ∃ u, u = askNoted path z := ⟨_, rfl⟩
  have hue := hu.trans (askNoted_eq hp z)
  have hstop : (!holds u || u.red.bound.isSome || !u.red.askA || !u.red.askB) = true := by
    rw [hue]
    rcases h with h | h | ⟨rfl, h⟩ | ⟨rfl, h⟩
    · rw [show holds { z with red := { z.red with askA := z.red.askA || path == 0, askB := z.red.askB || path == 1 } } = false from kh.trans h]; rfl
    · simp [kb, h]
    · simp [kB, h]
    · simp [kA, h]
  refine completes_of rfl ((askRx_eq hz hne).trans ((if_pos (hu ▸ hstop)).trans (hu.symm.trans hue))) hzs rfl

theorem passSend_passes (hs : Settled s) :
    (s.red.bound = some n → holds s = true → s.red.confirmed = false → Completes .passSend s (fun t => t.tim.now = max s.tim.now (nextOf 250000 (lastOf .pass s)) ∧ lastOf .pass t = t.tim.now ∧
      t.wire = s.wire ++ [.pathB { ownMsg (every .pass 250000 s) 5 0 (some n) with path := 1 } (hbInv s)] ∧
      t = { s with tim := { s.tim with now := t.tim.now, lastAt := t.tim.lastAt }, red := { s.red with seq := (s.red.seq + 1) % 2 ^ 32 }, aqf := t.aqf, flt := t.flt, wire := t.wire })) ∧
    (s.red.bound = none ∨ holds s = false ∨ s.red.confirmed = true → Completes .passSend s (fun t => t = s) ∧ Completes .handoverConfirmPoint s (fun t => t = s)) := by
  refine ⟨fun hb hh hc => ?_, fun h => ⟨completes_of rfl ?_ hs rfl, completes_of rfl ?_ hs rfl⟩⟩
  · obtain ⟨j, hj⟩ : ∃ j, j = (s.red.seq + 1) % 2 ^ 32 := ⟨_, rfl⟩
    obtain ⟨q, f, he, ho⟩ := sendPair_both_seq 5 0 (some n) (s := every .pass 250000 s) hj
    have hop : opPassSend s = sendPair bothPaths 5 0 (some n) (every .pass 250000 s) := by
      unfold opPassSend
      rw [hb]
      exact if_pos (by rw [hh, hc]; rfl)
    rw [← hj]
    exact completes_of rfl (hop.trans he) ((ho 0 (by decide)).1.trans hs) ⟨rfl, lastOf_noteNow _ _, rfl, rfl⟩
  · unfold opPassSend
    split
    · next k hk =>
      refine if_neg ?_
      rcases h with h | h | h
      · exact nomatch hk.symm.trans h
      · rw [h]; exact Bool.false_ne_true
      · rw [h]; simp
    · rfl
  · unfold opHandoverConfirmPoint
    split
    · rfl
    · next k hk =>
      refine if_pos ?_
      rcases h with h | h | h
      · exact nomatch hk.symm.trans h
      · rw [h]; rfl
      · rw [h]; exact Bool.or_true _

theorem passRx_eq (hz : z = hear m path s) (h : s.red.st ≠ .unpaired) : opPassRx m path s =
    if z.red.st != .warm || !z.red.asked then z else sendPair bothPaths 6 0 none (setRed { z.red with bound := some (extend 32 m.fi (fiNow z (jdomain z))) } z) := by
  rw [hz]; exact if_neg h

theorem passRx_notes (hs : Settled s) (hz : z = hear m path s) :
    (s.red.st = .warm → s.red.asked = true → Completes (.passRx m path) s (fun t => t.red.bound = some (extend 32 m.fi (fiNow s (jdomain s))) ∧ t.wire = s.wire ++ [.pathB { ownMsg t 6 0 none with path := 1, seq := s.red.seq } (hbInv s)] ∧
      t = { z with red := { z.red with bound := t.red.bound, seq := (s.red.seq + 1) % 2 ^ 32 }, aqf := t.aqf, flt := t.flt, wire := t.wire })) ∧
    (s.red.st ≠ .unpaired → s.red.st ≠ .warm ∨ s.red.asked = false → Completes (.passRx m path) s (fun t => t = z)) := by
  obtain ⟨-, kst, -, -, -, kask, kseq, -, ktim, kregs, kwire, -⟩ := heard_keeps hz
  have hzs := (hz ▸ hear_heard m path s).settled hs
  refine ⟨fun hst hask => ?_, fun hne h => completes_of rfl ((passRx_eq hz hne).trans (if_pos ?_)) hzs rfl⟩
  · have hne : s.red.st ≠ .unpaired := by rw [hst]; nofun
    have hfi : extend 32 m.fi (fiNow z (jdomain z)) = extend 32 m.fi (fiNow s (jdomain s)) := by
      obtain ⟨_, _, _, _, _, _, he, -⟩ := hz ▸ hear_heard m path s
      rw [he]
      rfl
    have hinv : hbInv z = hbInv s := by
      obtain ⟨_, _, _, _, _, _, he, -⟩ := hz ▸ hear_heard m path s
      rw [he]
      rfl
    obtain ⟨b, hb⟩ : ∃ b, b = extend 32 m.fi (fiNow s (jdomain s)) := ⟨_, rfl⟩
    obtain ⟨j, hj⟩ : ∃ j, j = (s.red.seq + 1) % 2 ^ 32 := ⟨_, rfl⟩
    let v : State := setRed { z.red with bound := some b } z
    obtain ⟨q, f, he, ho⟩ := sendPair_both_seq 6 0 none (s := v) (j := j) (by rw [hj, ← kseq]; rfl)
    have hop : opPassRx m path s = sendPair bothPaths 6 0 none v := by
      rw [passRx_eq hz hne, hfi, ← hb]
      exact if_neg (by rw [kst, hst, kask, hask]; exact Bool.false_ne_true)
    rw [← hj, ← hb, ← hinv, ← kwire, ← kseq]
    exact completes_of rfl (hop.trans he) ((ho 0 (by decide)).1.trans hzs) ⟨rfl, rfl, rfl⟩
  · rw [kst, kask]
    rcases h with h | h
    · rw [bne_iff_ne.mpr h]; rfl
    · rw [h]; exact Bool.or_true _

theorem passAckRx_eq (hz : z = hear m path s) (h : s.red.st ≠ .unpaired) : opPassAckRx m path s =
    if holds z && z.red.bound.isSome then setRed (if path = 0 then { z.red with ackA := true } else { z.red with ackB := true }) z else z := by
  rw [hz]; exact if_neg h

theorem passAckRx_notes (hs : Settled s) (hz : z = hear m path s) (hp : path ≤ 1) :
    (holds s = true → s.red.bound.isSome = true → Completes (.passAckRx m path) s (fun t => t = { z with red := { z.red with ackA := z.red.ackA || path == 0, ackB := z.red.ackB || path == 1 } })) ∧
    (s.red.st ≠ .unpaired → holds s = false ∨ s.red.bound = none → Completes (.passAckRx m path) s (fun t => t = z)) := by
  obtain ⟨kh, -, kb, -⟩ := heard_keeps hz
  have hzs := (hz ▸ hear_heard m path s).settled hs
  refine ⟨fun hh hb => ?_, fun hne h => completes_of rfl ((passAckRx_eq hz hne).trans (if_neg ?_)) hzs rfl⟩
  · refine completes_of rfl ((passAckRx_eq hz (holds_paired hh)).trans (if_pos (by rw [kh, kb, hh, hb]; rfl))) hzs ?_
    obtain rfl | rfl : path = 0 ∨ path = 1 := by omega
    · rw [show (z.red.ackA || (0 : Nat) == 0) = true from Bool.or_true _, show (z.red.ackB || (0 : Nat) == 1) = z.red.ackB from Bool.or_false _]
      rfl
    · rw [show (z.red.ackA || (1 : Nat) == 0) = z.red.ackA from Bool.or_false _, show (z.red.ackB || (1 : Nat) == 1) = true from Bool.or_true _]
      rfl
  · rw [kh, kb]
    rcases h with h | h
    · rw [h]; exact Bool.false_ne_true
    · rw [h]; simp

/-! ## CONFIRM heard (R372) -/

theorem confirmRx_eq (hz : z = hear m path s) (h : s.red.st ≠ .unpaired) : opConfirmRx m path s =
    match z.red.bound with
    | some n => if z.red.st == .warm && decide (z.tim.now + 100000 ≤ jT z n) then setRed { z.red with confirmed := true } z else z
    | none => z := by
  rw [hz]; exact if_neg h

theorem confirmRx_confirms (hs : Settled s) (hz : z = hear m path s) :
    (s.red.st = .warm → s.red.bound = some n → (s.tim.now + 100000 ≤ jT s n → Completes (.confirmRx m path) s (fun t => t = { z with red := { z.red with confirmed := true } })) ∧
      (jT s n < s.tim.now + 100000 → Completes (.confirmRx m path) s (fun t => t = z))) ∧
    (s.red.st ≠ .unpaired → s.red.st ≠ .warm ∨ s.red.bound = none → Completes (.confirmRx m path) s (fun t => t = z)) := by
  obtain ⟨-, kst, kb, -, -, -, -, -, ktim, -⟩ := heard_keeps hz
  have hzs := (hz ▸ hear_heard m path s).settled hs
  have hjT (k : Nat) : jT z k = jT s k := by
    obtain ⟨_, _, _, _, _, _, he, -⟩ := hz ▸ hear_heard m path s
    rw [he]
    rfl
  refine ⟨fun hst hb => ?_, fun hne h => completes_of rfl ((confirmRx_eq hz hne).trans ?_) hzs rfl⟩
  · have hop : opConfirmRx m path s = if s.tim.now + 100000 ≤ jT s n then setRed { z.red with confirmed := true } z else z := by
      rw [confirmRx_eq hz (by rw [hst]; nofun), kb, hb]
      dsimp only
      rw [kst, hst, ktim, hjT]
      simp
    exact ⟨fun h => completes_of rfl (hop.trans (if_pos h)) hzs rfl, fun h => completes_of rfl (hop.trans (if_neg (Nat.not_le.mpr h))) hzs rfl⟩
  · split
    · next k hk =>
      refine if_neg ?_
      rcases h with h | h
      · rw [kst, beq_eq_false_iff_ne.mpr h]; exact Bool.false_ne_true
      · exact nomatch hk.symm.trans (kb.trans h)
    · rfl

end
end Sys2Proof.Machine

/-! The revertive return and the handover (R371, R372): CONFIRM or CANCEL, the boundary, the relay, and the statement. -/
namespace Sys2Proof.Machine
open Sys2Proof

section
variable {s z : State} {a n path : Nat} {m : PairMsg}

/-! ## The confirm point (R372) -/

/-- RETURN_ABANDONED at the holder. -/
def cancelEvent (s : State) : Ev := { src := 0x1E9, data := [(1, if livePath s 0 && livePath s 1 then 1 else 0)] }

/-- A holder that has given up the handover. -/
def cancelled (s : State) : State := setRed { s.red with bound := none, ackA := false, ackB := false, askA := false, askB := false } s

theorem confirmPoint_eq {v : State} (hb : s.red.bound = some n) (hh : holds s = true) (hc : s.red.confirmed = false) (hv : v = atLeast (jT s n - jFrames s 1) s) : opHandoverConfirmPoint s =
    if livePath v 0 && livePath v 1 && v.red.ackA && v.red.ackB then sendPair bothPaths 7 0 (some n) (setRed { v.red with confirmed := true } v)
    else raise (cancelEvent v) (sendPair bothPaths 8 0 none (cancelled v)) := by
  have hgo : ¬((!holds s || s.red.confirmed) = true) := by
    rw [hh, hc]; exact Bool.false_ne_true
  unfold opHandoverConfirmPoint
  rw [hb]
  dsimp only
  rw [if_neg hgo, ← hv]
  rfl

theorem confirmPoint_decides (hs : Settled s) :
    (s.red.bound = some n → holds s = true → s.red.confirmed = false → Completes .handoverConfirmPoint s (fun t => t.tim.now = max s.tim.now (jT s n - jFrames s 1) ∧
      (livePath t 0 = true → livePath t 1 = true → s.red.ackA = true → s.red.ackB = true → t.wire = s.wire ++ [.pathB { ownMsg t 7 0 (some n) with path := 1, seq := s.red.seq } (hbInv s)] ∧
        t = { s with tim := { s.tim with now := t.tim.now }, red := { s.red with confirmed := true, seq := (s.red.seq + 1) % 2 ^ 32 }, aqf := t.aqf, flt := t.flt, wire := t.wire }) ∧
      (livePath t 0 = false ∨ livePath t 1 = false ∨ s.red.ackA = false ∨ s.red.ackB = false → t.wire = s.wire ++ [.pathB { ownMsg t 8 0 none with path := 1, seq := s.red.seq } (hbInv s)] ∧
        Raised 0x1E9 [(1, if livePath t 0 && livePath t 1 then 1 else 0)] 0 s t ∧
        t = { s with tim := { s.tim with now := t.tim.now }, red := { s.red with bound := none, ackA := false, ackB := false, askA := false, askB := false, seq := (s.red.seq + 1) % 2 ^ 32 }, aqf := t.aqf, flt := t.flt, wire := t.wire }))) := by
  intro hb hh hc
  obtain ⟨j, hj⟩ : ∃ j, j = (s.red.seq + 1) % 2 ^ 32 := ⟨_, rfl⟩
  obtain ⟨x, hx⟩ : ∃ x, x = jT s n - jFrames s 1 := ⟨_, rfl⟩
  have hop := confirmPoint_eq hb hh hc (hx ▸ rfl : atLeast x s = atLeast (jT s n - jFrames s 1) s)
  rw [← hj, ← hx]
  by_cases hgo : (livePath (atLeast x s) 0 && livePath (atLeast x s) 1 && s.red.ackA && s.red.ackB) = true
  · obtain ⟨q, f, he, ho⟩ := sendPair_both_seq 7 0 (some n) (s := setRed { s.red with confirmed := true } (atLeast x s)) hj
    refine completes_of rfl ((hop.trans (if_pos hgo)).trans he) ((ho 0 (by decide)).1.trans hs) ⟨rfl, fun _ _ _ _ => ⟨rfl, rfl⟩, fun h => ?_⟩
    simp only [Bool.and_eq_true] at hgo
    obtain ⟨⟨⟨g0, g1⟩, gA⟩, gB⟩ := hgo
    rcases h with h | h | h | h
    · exact Bool.noConfusion (g0.symm.trans h)
    · exact Bool.noConfusion (g1.symm.trans h)
    · exact Bool.noConfusion (gA.symm.trans h)
    · exact Bool.noConfusion (gB.symm.trans h)
  · obtain ⟨q, f, he, ho⟩ := sendPair_both_seq 8 0 none (s := cancelled (atLeast x s)) hj
    obtain ⟨u, hu⟩ : ∃ u, u = sendPair bothPaths 8 0 none (cancelled (atLeast x s)) := ⟨_, rfl⟩
    let e : Ev := cancelEvent (atLeast x s)
    have huf : u.flt = f := by rw [hu, he]
    have hou : OtherRaises 0x1E9 s.flt u.flt := by rw [huf]; exact ho 0x1E9 (by decide)
    have hraised := (raise_raised e u rfl).after hou
    obtain ⟨g, hg⟩ : ∃ g, raise e u = { u with flt := g } := ⟨_, rfl⟩
    have hgq : g.resetQ = [] := by
      have hq := (raise_resetQ e u rfl).trans (hou.1.trans hs)
      rwa [hg] at hq
    have hop' : opHandoverConfirmPoint s = { u with flt := g } := by
      rw [hop, ← hu, ← hg]
      exact if_neg hgo
    rw [hg] at hraised
    rw [hu, he] at hop' hraised
    refine completes_of rfl hop' hgq ⟨rfl, fun h0 h1 hA hB => absurd ?_ hgo, fun _ => ⟨rfl, hraised, rfl⟩⟩
    have h0' : livePath (atLeast x s) 0 = true := h0
    have h1' : livePath (atLeast x s) 1 = true := h1
    rw [h0', h1', hA, hB]
    rfl

/-! ## CANCEL heard (R372) -/

theorem cancelRx_eq (hz : z = hear m path s) (h : s.red.st ≠ .unpaired) : opPairCancelRx m path s = if z.red.st == .warm then abandonReturn z else z := by
  rw [hz]; exact if_neg h

/-- RETURN_ABANDONED at the home unit. -/
def abandonedEvent (s : State) : Ev := { src := 0x1E9, data := [(1, if livePath s 0 && livePath s 1 then 1 else 0)], fin := s.red.tag }

/-- A home unit whose return has been abandoned, before it goes into RECESS. -/
def abandoned (s : State) : State :=
  staticTx (judgeHealth (setRed { s.red with st := .standby, tag := none, bound := none, confirmed := false, asked := false, warmEnd := none, jwait := [] } s))

theorem abandonReturn_eq (s : State) : abandonReturn s = requestPower .recess none (raise (abandonedEvent s) (abandoned s)) := rfl

theorem cancelRx_ignored (hs : Settled s) (hz : z = hear m path s) :
    (s.red.st ≠ .unpaired → s.red.st ≠ .warm → Completes (.pairCancelRx m path) s (fun t => t = z)) := fun hne hw =>
  completes_of rfl ((cancelRx_eq hz hne).trans (if_neg (by rw [(heard_keeps hz).2.1, beq_eq_false_iff_ne.mpr hw]; exact Bool.false_ne_true))) ((hz ▸ hear_heard m path s).settled hs) rfl

theorem cancelRx_abandons (hs : Settled s) (hz : z = hear m path s) :
    (s.red.st = .warm → Completes (.pairCancelRx m path) s (fun t => t.red.st = .standby ∧ t.red.bound = none ∧ t.red.confirmed = false ∧ t.red.asked = false ∧ t.red.warmEnd = none ∧ t.red.tag = none ∧ RaisedOnce 0x1E9 s t ∧
      (s.red.tag = some a → t.flt.evq.any (fun r => r.src == 0x1E9 && r.kind == 1 && r.tag == a) = true) ∧ (s.pwr.trans = none → t.pwr.trans.map (fun x => x.target) = some .recess) ∧ (tgetD t.svp.tx a {}).sending = false ∧
      t = { s with red := t.red, pwr := t.pwr, svp := { s.svp with tx := t.svp.tx }, flt := t.flt })) := by
  intro hst
  have hzs := (hz ▸ hear_heard m path s).settled hs
  obtain ⟨-, kst, -, -, -, -, -, ktag, -, -, -, kpwr⟩ := heard_keeps hz
  have hzo := (hz ▸ hear_heard m path s).others (src := 0x1E9) (by decide)
  let e : Ev := abandonedEvent z
  obtain ⟨v, hv⟩ : ∃ v, v = abandoned z := ⟨_, rfl⟩
  have hvf : v.flt = z.flt := by rw [hv]; rfl
  obtain ⟨u, hu⟩ : ∃ u, u = requestPower .recess none (raise e v) := ⟨_, rfl⟩
  obtain ⟨p, f, he, ho⟩ := hu ▸ requestPower_repowered .recess none (raise e v)
  have hop : opPairCancelRx m path s = u := by
    rw [cancelRx_eq hz (by rw [hst]; nofun), hu, hv, ← abandonReturn_eq]
    exact if_pos (by rw [kst, hst]; rfl)
  have hq : f.resetQ = [] := (ho 0 (by decide)).1.trans ((raise_resetQ e v rfl).trans (by rw [hvf]; exact hzs))
  have hpwr (ht : s.pwr.trans = none) : u.pwr.trans.map (fun x => x.target) = some .recess := by
    rw [hu]; exact requestPower_heads (s := raise e v) (by rw [hv]; exact (congrArg Pwr.trans kpwr).trans ht)
  have hone : (tgetD f.stat 0x1E9 {}).count = min ((tgetD s.flt.stat 0x1E9 {}).count + 1) 255 := OtherRaises.count (e := e) (s := v) (by rw [hvf]; exact hzo) rfl (ho 0x1E9 (by decide))
  have hfin (ht : s.red.tag = some a) : f.evq.any (fun r => r.src == 0x1E9 && r.kind == 1 && r.tag == a) = true :=
    evq_any (ho 0x1E9 (by decide)).2.2 (final_any (raise_final e v a rfl (ktag.trans ht)))
  have hpu : u.pwr = p := by rw [he]
  rw [hpu] at hpwr
  refine completes_of rfl (hop.trans he) hq ⟨?_, ?_, ?_, ?_, ?_, ?_, hone, hfin, hpwr, ?_, ?_⟩
  · rw [hv]; rfl
  · rw [hv]; rfl
  · rw [hv]; rfl
  · rw [hv]; rfl
  · rw [hv]; rfl
  · rw [hv]; rfl
  · rw [hv]; exact tx_static z.svp.tx a
  · obtain ⟨_, _, _, _, _, _, hze, -⟩ := hz ▸ hear_heard m path s
    obtain ⟨R, T, hvz⟩ : ∃ R T, v = { z with red := R, svp := { z.svp with tx := T } } := ⟨_, _, by rw [hv]; rfl⟩
    rw [hvz, hze]
    rfl

/-! ## The boundary of the handover (R372) -/

/-- TABLET_PASSED at frame `n`, its TAG the one the request left. -/
def passedEvent (n : Nat) (fin : Option Nat) (s : State) : Ev := { src := 0x1E1, data := [(4, s.red.gen), (4, n % 2 ^ 32)], fin := fin }

theorem handover_waits (hs : Settled s) :
    (s.red.bound = none ∨ s.red.confirmed = false → Completes .handoverAtB s (fun t => t = s)) := by
  refine fun h => completes_of rfl ?_ hs rfl
  unfold opHandoverAtB
  split
  · rfl
  · next k hk =>
    refine if_pos ?_
    rcases h with h | h
    · exact nomatch hk.symm.trans h
    · rw [h]; rfl

/-- The former holder at the boundary, its held messages not yet released. -/
def passedOn (n : Nat) (s : State) : State :=
  setRed { s.red with
    st := .standby, gen := (s.red.gen + 1) % 2 ^ 32, beatAt := s.tim.now, fencedHeard := false, blocked := false, hasImage := false, image := []
    building := none, ready := false, sawDiverged := false, sawOversize := false, jout := [], partnerReady := false
    bound := none, confirmed := false, askA := false, askB := false, ackA := false, ackB := false
    fabricAt := cycleFrom (jT s n), relayEnd := some (jT s n + 32 * 81920), sdiUntil := jT s (n + 1) } s

/-- The home unit at the boundary. -/
def passedTo (n : Nat) (s : State) : State :=
  { setRed { s.red with
      st := .sole, gen := (s.red.gen + 1) % 2 ^ 32, tag := none, bound := none, confirmed := false, asked := false, warmEnd := none, ready := false
      fabricAt := cycleFrom (jT s n), partnerReady := false } s with
    flows := tmap s.flows (fun _ f => { f with restore := f.restore.map (fun _ => s.tim.now + framesNs s f.domain 16) }) }

theorem handover_eq {v : State} (hb : s.red.bound = some n) (hc : s.red.confirmed = true) (hv : v = atLeast (jT s n) s) : opHandoverAtB s =
    if holds s then
      raiseIf (!livePath v 0 && !livePath v 1) { src := 0x1EA, data := [(4, n % 2 ^ 32)] } (passed n none (releaseHeld (fun _ => true) (passedOn n v)))
    else if s.red.st == .warm then passed n s.red.tag (resumePages (resumeStreams (jT s n) (passedTo n v)))
    else v := by
  unfold opHandoverAtB
  rw [hb, hv]
  dsimp only
  rw [hc]
  rfl

theorem handover_passes (hs : Settled s) :
    (s.red.bound = some n → s.red.confirmed = true → holds s = true → Completes .handoverAtB s (fun t => t.tim.now = max s.tim.now (jT s n) ∧ t.red.st = .standby ∧ drives t = false ∧ t.red.gen = (s.red.gen + 1) % 2 ^ 32 ∧ t.red.bound = none ∧
      t.red.relayEnd = some (jT s n + 32 * 81920) ∧ t.red.fabricAt = alignUp 81920 (jT s n) ∧ RaisedOnce 0x1E1 s t ∧ (livePath t 0 = false → livePath t 1 = false → RaisedOnce 0x1EA s t) ∧ t.red.sdiUntil = jT s (n + 1) ∧ (t.tim.now < jT s (n + 1) → sdiRuns t = true) ∧
      t = { s with tim := { s.tim with now := t.tim.now }, red := t.red, aqf := t.aqf, flt := t.flt })) := by
  intro hb hc hh
  obtain ⟨x, hx⟩ : ∃ x, x = jT s n := ⟨_, rfl⟩
  obtain ⟨y, hy⟩ : ∃ y, y = jT s (n + 1) := ⟨_, rfl⟩
  obtain ⟨j, hj⟩ : ∃ j, j = (s.red.gen + 1) % 2 ^ 32 := ⟨_, rfl⟩
  obtain ⟨w, hw⟩ : ∃ w, w = releaseHeld (fun _ => true) (passedOn n (atLeast x s)) := ⟨_, rfl⟩
  obtain ⟨q, f, he, ho⟩ := hw ▸ releaseAll_sent (passedOn n (atLeast x s))
  let e : Ev := passedEvent n none w
  let g : Ev := { src := 0x1EA, data := [(4, n % 2 ^ 32)] }
  let cut : Bool := !livePath (atLeast x s) 0 && !livePath (atLeast x s) 1
  have hwf : w.flt = f := by rw [he]
  have hlast {src : Nat} (h : src ≠ 0x1EA) : OtherRaises src (raise e w).flt (raiseIf cut g (raise e w)).flt := otherRaises_raiseIf cut g (raise e w) rfl rfl h
  have hfirst {src : Nat} (h : src ≠ 0x091) : OtherRaises src s.flt w.flt := by rw [hwf]; exact ho src h
  obtain ⟨fl, hfl⟩ : ∃ fl, fl = (raiseIf cut g (raise e w)).flt := ⟨_, rfl⟩
  have hq : fl.resetQ = [] := by
    rw [hfl]
    exact (hlast (src := 0) (by decide)).1.trans ((raise_resetQ e w rfl).trans ((hfirst (src := 0) (by decide)).1.trans hs))
  have hone : (tgetD fl.stat 0x1E1 {}).count = min ((tgetD s.flt.stat 0x1E1 {}).count + 1) 255 := by
    rw [hfl]; exact OtherRaises.count (e := e) (s := w) (hfirst (by decide)) rfl (hlast (by decide))
  have hcut (h0 : livePath (atLeast x s) 0 = false) (h1 : livePath (atLeast x s) 1 = false) : (tgetD fl.stat 0x1EA {}).count = min ((tgetD s.flt.stat 0x1EA {}).count + 1) 255 := by
    have hgo : raiseIf cut g (raise e w) = raise g (raise e w) := if_pos (show (!livePath (atLeast x s) 0 && !livePath (atLeast x s) 1) = true by rw [h0, h1]; rfl)
    rw [hfl, hgo]
    exact OtherRaises.count (e := g) (s := raise e w) ((hfirst (by decide)).trans (otherRaises_raise e w rfl rfl (show (0x1EA : Nat) ≠ 0x1E1 by decide))) rfl (.refl _ _)
  have hop : opHandoverAtB s = { w with flt := fl } := by
    rw [handover_eq hb hc rfl, ← hx, ← hw, if_pos hh, hfl]
    exact (raiseIf_flt cut g (raise e w)).trans rfl
  rw [he] at hop
  have hsdi (t : State) (hu : t.red.sdiUntil = y) (hlt : t.tim.now < y) : sdiRuns t = true := by
    unfold sdiRuns
    rw [hu, decide_eq_true hlt, Bool.or_true]
  rw [← hx, ← hy, ← hj]
  refine completes_of rfl hop hq ⟨rfl, rfl, rfl, hj.symm, rfl, ?_, ?_, hone, hcut, hy.symm, fun hlt => hsdi _ hy.symm hlt, rfl⟩
  · rw [hx]; rfl
  · rw [hx]; rfl

theorem handover_takes (hs : Settled s) :
    (s.red.bound = some n → s.red.confirmed = true → s.red.st = .warm → Completes .handoverAtB s (fun t => t.tim.now = max s.tim.now (jT s n) ∧ t.red.st = .sole ∧ drives t = true ∧ t.red.gen = (s.red.gen + 1) % 2 ^ 32 ∧ t.red.bound = none ∧
      t.red.tag = none ∧ RaisedOnce 0x1E1 s t ∧ (s.red.tag = some a → t.flt.evq.any (fun r => r.src == 0x1E1 && r.kind == 1 && r.tag == a) = true) ∧ t.swc = s.swc ∧ t.pwr = s.pwr ∧ t.mem = s.mem)) := by
  intro hb hc hst
  obtain ⟨x, hx⟩ : ∃ x, x = jT s n := ⟨_, rfl⟩
  obtain ⟨v, hv⟩ : ∃ v, v = passedTo n (atLeast x s) := ⟨_, rfl⟩
  obtain ⟨w, hw⟩ : ∃ w, w = resumePages (resumeStreams x v) := ⟨_, rfl⟩
  obtain ⟨st, fr, tt, q, f, k, o, h, he, ho⟩ := hw ▸ (resumeStreams_resumed x v).trans (resumePages_resumed _)
  have hvf : v.flt = s.flt := by rw [hv]; rfl
  rw [hvf] at ho
  let e : Ev := passedEvent n s.red.tag w
  have hwf : w.flt = f := by rw [he]
  have hnh : ¬(holds s = true) := by
    unfold holds
    rw [hst]
    exact Bool.false_ne_true
  have hop : opHandoverAtB s = raise e w := by
    rw [handover_eq hb hc rfl, ← hx, if_neg hnh, ← hv, ← hw]
    exact if_pos (by rw [hst]; rfl)
  have hwo {src : Nat} (hsrc : src ∉ pageSrcs) : OtherRaises src s.flt w.flt := by rw [hwf]; exact ho src hsrc
  refine completes_of rfl hop ((raise_resetQ e w rfl).trans ((hwo (src := 0) (by decide)).1.trans hs)) ⟨?_, ?_, ?_, ?_, ?_, ?_, ?_, fun ht => final_any (raise_final e w a rfl ht), ?_, ?_, ?_⟩
  · rw [← hx]
    show w.tim.now = _
    rw [he, hv]; rfl
  · show w.red.st = _
    rw [he, hv]; rfl
  · unfold drives
    rw [show (raise e w).red.st = .sole from (show w.red.st = .sole by rw [he, hv]; rfl)]
  · show w.red.gen = _
    rw [he, hv]; rfl
  · show w.red.bound = _
    rw [he, hv]; rfl
  · show w.red.tag = _
    rw [he, hv]; rfl
  · exact OtherRaises.count (e := e) (s := w) (hwo (by decide)) rfl (.refl _ _)
  · show w.swc = _
    rw [he, hv]; rfl
  · show w.pwr = _
    rw [he, hv]; rfl
  · show w.mem = _
    rw [he, hv]; rfl

/-! ## The relay (R372) -/

theorem relayEnd_rests (hs : Settled s) :
    (s.red.relayEnd = none → Completes .relayEnd s (fun t => t = s)) ∧
    (s.red.relayEnd = some a → Completes .relayEnd s (fun t => t.tim.now = max s.tim.now a ∧ (s.pwr.trans = none → t.pwr.trans.map (fun x => x.target) = some .recess) ∧
      t = { s with tim := { s.tim with now := t.tim.now }, red := { s.red with relayEnd := none }, pwr := t.pwr, flt := t.flt })) := by
  refine ⟨fun h => completes_of rfl ?_ hs rfl, fun h => ?_⟩
  · unfold opRelayEnd
    rw [h]
  · let v : State := setRed { s.red with relayEnd := none } (atLeast a s)
    obtain ⟨u, hu⟩ : ∃ u, u = requestPower .recess none v := ⟨_, rfl⟩
    obtain ⟨p, f, he, ho⟩ := hu ▸ requestPower_repowered .recess none v
    have hop : opRelayEnd s = u := by
      unfold opRelayEnd
      rw [h, hu]
      rfl
    have hpwr (ht : s.pwr.trans = none) : u.pwr.trans.map (fun x => x.target) = some .recess := by
      rw [hu]; exact requestPower_heads (s := v) ht
    have hpu : u.pwr = p := by rw [he]
    rw [hpu] at hpwr
    exact completes_of rfl (hop.trans he) ((ho 0 (by decide)).1.trans hs) ⟨rfl, hpwr, rfl⟩

end

/-- Settles O60: requests by `enterWarm_warms`, what is heard by `heard_keeps`, and the boundary by the unit that reaches it. -/
theorem revertiveReturnAndHandover : Obligations.RevertiveReturnAndHandover := by
  unfold Obligations.RevertiveReturnAndHandover
  intro c s z a n path m hf hs hcpl hp hz
  obtain ⟨h1, h2⟩ := revertHoldOff_warms (a := a) hs
  obtain ⟨w1, w2⟩ := warmPeriodEnd_asks (a := a) hs
  obtain ⟨p1, p2⟩ := passSend_passes (n := n) hs
  obtain ⟨x1, x2⟩ := passRx_notes hs hz
  obtain ⟨k1, k2⟩ := passAckRx_notes hs hz hp
  obtain ⟨c1, c2⟩ := confirmRx_confirms (n := n) hs hz
  obtain ⟨r1, r2⟩ := relayEnd_rests (a := a) hs
  exact ⟨away_ignores hs, tabletRequest_denied hf hs, tabletRequest_warms hf hs hcpl, h1, h2, w1, w2, ask_names hs hz, ask_noted hs hz hp, p1, p2, x1, x2, k1, k2, confirmPoint_decides hs, c1, c2,
    cancelRx_ignored hs hz, cancelRx_abandons hs hz, handover_waits hs, handover_passes hs, handover_takes hs, r1, r2⟩

end Sys2Proof.Machine
